-- ==== Sys2Proof/Word.lean ====
section
/-! DEFINITION. The plain words of the model: machine words, two's complement views, rounding (R7),
the sparse canonical maps State is made of, and the shape of a register field (R11-R13). -/

namespace Sys2Proof

/-- A 32-bit machine word. -/
abbrev Word := BitVec 32

/-- Truncation to `w` bits. -/
def trunc (w n : Nat) : Nat := n % 2 ^ w

/-- The two's complement reading of the low `w` bits of `n`. -/
def sgn (w n : Nat) : Int :=
  if trunc w n < 2 ^ (w - 1) then (trunc w n : Int) else (trunc w n : Int) - (2 ^ w : Nat)

/-- The `w`-bit two's complement code of `i`. -/
def enc (w : Nat) (i : Int) : Nat := (i % ((2 ^ w : Nat) : Int)).toNat

/-- Bit `b` of `n`. -/
def bit (n b : Nat) : Bool := Nat.testBit n b

/-- `n` with bit `b` set. -/
def setBit (n b : Nat) : Nat := n ||| 2 ^ b

/-- `n` with bit `b` cleared. -/
def clrBit (n b : Nat) : Nat := if Nat.testBit n b then n - 2 ^ b else n

/-- `n` with bit `b` made equal to `v`. -/
def putBit (n b : Nat) (v : Bool) : Nat := if v then setBit n b else clrBit n b

/-- Bits `[lsb + w - 1 : lsb]` of `n`. -/
def bits (n lsb w : Nat) : Nat := (n / 2 ^ lsb) % 2 ^ w

/-- The bits of `n` that are clear in `m`, over `w` bits: `n AND NOT m`. -/
def andNot (w n m : Nat) : Nat := trunc w n &&& (2 ^ w - 1 - trunc w m)

/-- A truth value as one bit. -/
def b2n (b : Bool) : Nat := if b then 1 else 0

/-- Addition that stays at `hi`. -/
def satAdd (hi n k : Nat) : Nat := min hi (n + k)

/-- Division rounded to the nearest integer, ties away from zero (R7). -/
def divRound (n : Int) (d : Nat) : Int :=
  if d = 0 then 0
  else if 0 ≤ n then (2 * n + d) / (2 * d) else -((2 * (-n) + d) / (2 * d))

/-- `i` kept inside `lo` to `hi`. -/
def clampI (lo hi i : Int) : Int := if i < lo then lo else if hi < i then hi else i

/-- The absolute value as a natural number. -/
def absN (i : Int) : Nat := i.natAbs

/-! ### Sparse maps

A map lists its keys in strictly rising order and lists no entry equal to what an unlisted key reads
as, so that equal contents are equal data. -/

/-- What a map holds at `k`; `d` is what an unlisted key reads as. -/
def mapGet {α : Type} (d : α) (m : List (Nat × α)) (k : Nat) : α :=
  match m with
  | [] => d
  | e :: rest => if e.1 = k then e.2 else mapGet d rest k

/-- `m` without any entry for `k`. -/
def mapErase {α : Type} (m : List (Nat × α)) (k : Nat) : List (Nat × α) :=
  match m with
  | [] => []
  | e :: rest => if e.1 = k then mapErase rest k else e :: mapErase rest k

/-- `m` with `(k, v)` put before the first key above `k`. -/
def mapInsert {α : Type} (m : List (Nat × α)) (k : Nat) (v : α) : List (Nat × α) :=
  match m with
  | [] => [(k, v)]
  | e :: rest => if k < e.1 then (k, v) :: e :: rest else e :: mapInsert rest k v

/-- `m` with `v` at `k`; a value equal to the unlisted reading `d` is not listed. -/
def mapSet {α : Type} [DecidableEq α] (d : α) (m : List (Nat × α)) (k : Nat) (v : α) :
    List (Nat × α) :=
  if v = d then mapErase m k else mapInsert (mapErase m k) k v

/-- `m` with `v` listed for `k`, whatever an unlisted key reads as. -/
def mapPut {α : Type} (m : List (Nat × α)) (k : Nat) (v : α) : List (Nat × α) := mapInsert (mapErase m k) k v

/-- The keys of `m` rise strictly. -/
def keysRise {α : Type} (m : List (Nat × α)) : Bool :=
  match m with
  | [] => true
  | e :: rest => (rest.all fun e' => decide (e.1 < e'.1)) && keysRise rest

/-! ### Register fields -/

/-- The access codes of Table SCP-6 (R12); `cmd` is an RWF field of a command register whose fields
read 0 and whose write triggers an action. -/
inductive Acc where
  | rw | ro | wo | w1c | rwf | rws | cmd
  deriving DecidableEq, Repr

/-- The encodings of a field that are not reserved (R13). -/
inductive Legal where
  /-- every encoding is defined -/
  | any
  /-- only `lo` to `hi` -/
  | range (lo hi : Nat)
  /-- two's complement over `w` bits, magnitude at most `m` -/
  | signed (w m : Nat)
  /-- the data lengths of a CAN FD frame -/
  | canLen
  /-- multiples of `k` up to `hi` -/
  | multiple (k hi : Nat)
  deriving DecidableEq, Repr

/-- Is `v` a defined encoding? -/
def Legal.ok (l : Legal) (v : Nat) : Bool :=
  match l with
  | .any => true
  | .range lo hi => decide (lo ≤ v ∧ v ≤ hi)
  | .signed w m => decide ((sgn w v).natAbs ≤ m)
  | .canLen => decide (v ≤ 8) || [12, 16, 20, 24, 32, 48, 64].contains v
  | .multiple k hi => decide (v % k = 0 ∧ v ≤ hi)

/-- One field of one 32-bit peripheral register. -/
structure Fld where
  /-- address of the register -/
  addr : Nat
  /-- lowest bit -/
  lsb : Nat
  /-- width in bits -/
  width : Nat
  /-- access code (R12) -/
  acc : Acc
  /-- value after every reset (R16) -/
  reset : Nat
  /-- defined encodings (R13) -/
  legal : Legal
  deriving DecidableEq, Repr

/-- The key of a field in the register store. -/
def Fld.key (f : Fld) : Nat := f.addr * 32 + f.lsb

/-- A stretch of `count` registers, `stride` bytes apart, with the fields of the `i`-th. -/
structure RegSlot where
  base : Nat
  count : Nat
  stride : Nat
  fields : Nat → List Fld

end Sys2Proof
end

