-- ==== Sys2Proof/Config.lean ====
section
/-! DEFINITION. What one module's factory data fixes and the free values: constants with no body, so
that no proof can rest on a value the spec leaves open. -/

namespace Sys2Proof.Config

/-- Factory data of the field at address `addr`, bit `lsb` (reset "F", R17). Log entry 2. -/
opaque factory (addr lsb : Nat) : Nat

/-- Maker's data of the cell-tap unit at place `u`: 0 UID, 1 SERIAL, 2 cells beyond 8 (R177). Log
entry 2. -/
opaque unitData (u k : Nat) : Nat

/-- The factory calibration of die sensor `i`: by how much its count at 125 °C (`hot`), or the fall of the count from
25 °C to 125 °C, exceeds the least that R64 needs. Log entry 132. -/
opaque dieCal (i : Nat) (hot : Bool) : Nat

/-- A free value: what the spec leaves undefined, drawn with the counter `State.free`. Log entry 3. -/
opaque freeValue (n : Nat) : Nat

/-- What IEEE 754 leaves to an implementation and R89 does not fix: 0 tininess is detected before
rounding, 1 a quiet NaN addend of infinity times zero still signals invalid, 2 a quiet NaN operand of
fcmp signals invalid. Log entry 4. -/
opaque fpChoice (k : Nat) : Bool

/-- Which of the binary32 values within the bound fexp (`log` false) or flog (`log` true) delivers for
the input `a`: one fixed function (R122). Log entry 6. -/
opaque laneChoice (log : Bool) (a : Nat) : Nat

/-- e to the power -q, the exponential of the cell model (R236). Log entry 125. -/
opaque expNeg (q : Rat) : Rat

/-- Cosine, or sine where `im`, of q turns, for the spectra of R267. Log entry 125. -/
opaque turn (im : Bool) (q : Rat) : Rat

/-- What the reference estimator's two Kalman filters and its rest fit give, which the spec names and does not give in
numbers: 0 to 3 corrections of s, x, v1, h, 4 and 5 of R0 and R1, 6 and 7 the 95 % half-widths of the rebuilt OCV and of
R0, 8 and 9 corrections of R0 and R1 from the impedance points, 10 and 11 the extrapolated voltage and the residual of
the rest fit: one function of the covariances `cov` and of the inputs (R139). Log entry 125. -/
opaque estimator (k cov : Nat) (inputs : List Rat) : Rat

/-- The covariances of the two filters after an update with the inputs. Log entry 125. -/
opaque covariance (cov : Nat) (inputs : List Rat) : Nat

/-- Bytes of a bundle whose sections hold these numbers of entries and payload bytes: its encoding is not given (R398).
Log entry 102. -/
opaque bundleBytes (sections : List Nat) : Nat

/-- The op field of class 0x9, which the spec does not number: 0 waitt, 1 pollt, 2 tagrel. It shows only in EVAL of
an illegal waitt. Log entry 7. -/
opaque completionOp (k : Nat) : Nat

end Sys2Proof.Config
end

