-- ==== Sys2Proof/Machine/Regs.lean ====
section
/-! DEFINITION. The register map of the module: every field of every peripheral register with its
address, bits, access code, reset value and defined encodings, as the register and field tables of
spec/01 to spec/18 give them (R12, R13, R16, R17). One definition per field, named REGISTER.FIELD. -/

namespace Sys2Proof.Reg

/-- The designated sources, the only ones with a CURB bit (R38). -/
def evtDesignated (n : Nat) : Bool := decide ((17 ≤ n ∧ n ≤ 31) ∨ (128 ≤ n ∧ n ≤ 131))

/-- Reset priority of source `n` by its group (Table ARC-13, R42). -/
def evtResetPrio (n : Nat) : Nat :=
  if n < 16 then 6 else if n < 32 then 7 else if n < 64 then 6 else if n < 80 then 5
  else if n < 128 then 4 else if n < 144 then 6 else if n < 160 then 3 else if n < 176 then 5
  else if n < 192 then 4 else if n < 200 then 3 else if n < 208 then 4 else if n < 232 then 3
  else if n < 240 then 5 else if n < 248 then 4 else 2

/-- Reset route of source `n` by its group (Table ARC-13, R42): 1 Rider 0, 2 Rider 1. -/
def evtResetRoute (n : Nat) : Nat := if n < 208 then 1 else 2

def SYS_ID.DEVICE : Fld := ⟨0x60000000, 16, 16, .ro, 1298, .any⟩
def SYS_ID.REV : Fld := ⟨0x60000000, 8, 8, .ro, 0, .any⟩
def SYS_ID.VARIANT : Fld := ⟨0x60000000, 0, 2, .ro, 0, .any⟩
def SYS_UID0.UID : Fld := ⟨0x60000004, 0, 32, .ro, 0, .any⟩
def SYS_UID1.UID : Fld := ⟨0x60000008, 0, 32, .ro, 0, .any⟩
def SYS_CLKSTAT.ON_RC : Fld := ⟨0x60000010, 8, 1, .ro, 0, .any⟩
def SYS_CLKSTAT.XTAL32K_OK : Fld := ⟨0x60000010, 5, 1, .ro, 0, .any⟩
def SYS_CLKSTAT.TDM_LOCK : Fld := ⟨0x60000010, 4, 1, .ro, 0, .any⟩
def SYS_CLKSTAT.ETH_LOCK : Fld := ⟨0x60000010, 3, 1, .ro, 0, .any⟩
def SYS_CLKSTAT.PER_LOCK : Fld := ⟨0x60000010, 2, 1, .ro, 0, .any⟩
def SYS_CLKSTAT.CORE_LOCK : Fld := ⟨0x60000010, 1, 1, .ro, 0, .any⟩
def SYS_CLKSTAT.REF_OK : Fld := ⟨0x60000010, 0, 1, .ro, 0, .any⟩
def SYS_CLKEN.TDM_EN : Fld := ⟨0x60000014, 4, 1, .rwf, 0, .any⟩
def SYS_CLKEN.ETH_EN : Fld := ⟨0x60000014, 3, 1, .rwf, 0, .any⟩
def SYS_CLKFLT.XTAL32K_LOSS : Fld := ⟨0x60000018, 5, 1, .w1c, 0, .any⟩
def SYS_CLKFLT.TDM_UNLOCK : Fld := ⟨0x60000018, 4, 1, .w1c, 0, .any⟩
def SYS_CLKFLT.ETH_UNLOCK : Fld := ⟨0x60000018, 3, 1, .w1c, 0, .any⟩
def SYS_CLKFLT.PER_UNLOCK : Fld := ⟨0x60000018, 2, 1, .w1c, 0, .any⟩
def SYS_CLKFLT.CORE_UNLOCK : Fld := ⟨0x60000018, 1, 1, .w1c, 0, .any⟩
def SYS_CLKFLT.REF_LOSS : Fld := ⟨0x60000018, 0, 1, .w1c, 0, .any⟩
def SYS_ERRADDR.ADDR : Fld := ⟨0x60000020, 0, 32, .ro, 0, .any⟩
def SYS_ERRSRC.KIND : Fld := ⟨0x60000024, 12, 4, .ro, 0, .any⟩
def SYS_ERRSRC.WRITE : Fld := ⟨0x60000024, 8, 1, .ro, 0, .any⟩
def SYS_ERRSRC.MASTER : Fld := ⟨0x60000024, 0, 3, .ro, 0, .any⟩
def EVT_STAT.TDM_GATE : Fld := ⟨0x60020000, 0, 1, .ro, 0, .any⟩
def EVT_THR_R0.THR : Fld := ⟨0x60020010, 0, 3, .rw, 0, .any⟩
def EVT_THR_R1.THR : Fld := ⟨0x60020014, 0, 3, .rw, 0, .any⟩
def EVT_THR_GRM.THR : Fld := ⟨0x60020018, 0, 3, .rw, 0, .any⟩
def EVT_CLAIM_R0.VALID : Fld := ⟨0x60020020, 31, 1, .ro, 0, .any⟩
def EVT_CLAIM_R0.PRIO : Fld := ⟨0x60020020, 8, 3, .ro, 0, .any⟩
def EVT_CLAIM_R0.SRC : Fld := ⟨0x60020020, 0, 8, .ro, 0, .any⟩
def EVT_CLAIM_R1.VALID : Fld := ⟨0x60020024, 31, 1, .ro, 0, .any⟩
def EVT_CLAIM_R1.PRIO : Fld := ⟨0x60020024, 8, 3, .ro, 0, .any⟩
def EVT_CLAIM_R1.SRC : Fld := ⟨0x60020024, 0, 8, .ro, 0, .any⟩
def EVT_CLAIM_GRM.VALID : Fld := ⟨0x60020028, 31, 1, .ro, 0, .any⟩
def EVT_CLAIM_GRM.PRIO : Fld := ⟨0x60020028, 8, 3, .ro, 0, .any⟩
def EVT_CLAIM_GRM.SRC : Fld := ⟨0x60020028, 0, 8, .ro, 0, .any⟩
def EVT_DONE_R0.SRC : Fld := ⟨0x60020030, 0, 8, .wo, 0, .any⟩
def EVT_DONE_R1.SRC : Fld := ⟨0x60020034, 0, 8, .wo, 0, .any⟩
def EVT_DONE_GRM.SRC : Fld := ⟨0x60020038, 0, 8, .wo, 0, .any⟩
def EVT_PEND.BITS (n : Nat) : Fld := ⟨(0x60020100 + 4 * n), 0, 32, .w1c, 0, .any⟩
def EVT_OVR.BITS (n : Nat) : Fld := ⟨(0x60020120 + 4 * n), 0, 32, .w1c, 0, .any⟩
def EVT_SET.BITS (n : Nat) : Fld := ⟨(0x60020140 + 4 * n), 0, 32, .wo, 0, .any⟩
def EVT_CFG.EN (n : Nat) : Fld := ⟨(0x60020400 + 4 * n), 12, 1, .rw, 1, .any⟩
def EVT_CFG.CURB (n : Nat) : Fld := ⟨(0x60020400 + 4 * n), 8, 1, .rws, 0, (if evtDesignated n then .any else .range 0 0)⟩
def EVT_CFG.ROUTE (n : Nat) : Fld := ⟨(0x60020400 + 4 * n), 4, 2, .rw, (evtResetRoute n), .any⟩
def EVT_CFG.PRIO (n : Nat) : Fld := ⟨(0x60020400 + 4 * n), 0, 3, .rw, (evtResetPrio n), .any⟩
def PAD_URG_R0.SRAM : Fld := ⟨0x60150000, 5, 1, .rwf, 0, .any⟩
def PAD_URG_R0.CANTX : Fld := ⟨0x60150000, 4, 1, .rwf, 1, .any⟩
def PAD_URG_R0.BLEED : Fld := ⟨0x60150000, 3, 1, .rwf, 0, .any⟩
def PAD_URG_R0.MRAM : Fld := ⟨0x60150000, 2, 1, .rwf, 0, .any⟩
def PAD_URG_R0.TEAM : Fld := ⟨0x60150000, 1, 1, .rwf, 0, .any⟩
def PAD_URG_R0.CHAIN : Fld := ⟨0x60150000, 0, 1, .rwf, 1, .any⟩
def PAD_URG_R1.SRAM : Fld := ⟨0x60150004, 5, 1, .rwf, 0, .any⟩
def PAD_URG_R1.CANTX : Fld := ⟨0x60150004, 4, 1, .rwf, 0, .any⟩
def PAD_URG_R1.BLEED : Fld := ⟨0x60150004, 3, 1, .rwf, 0, .any⟩
def PAD_URG_R1.MRAM : Fld := ⟨0x60150004, 2, 1, .rwf, 0, .any⟩
def PAD_URG_R1.TEAM : Fld := ⟨0x60150004, 1, 1, .rwf, 0, .any⟩
def PAD_URG_R1.CHAIN : Fld := ⟨0x60150004, 0, 1, .rwf, 0, .any⟩
def PAD_URG_GRM.SRAM : Fld := ⟨0x60150008, 5, 1, .rwf, 0, .any⟩
def PAD_URG_GRM.CANTX : Fld := ⟨0x60150008, 4, 1, .rwf, 0, .any⟩
def PAD_URG_GRM.BLEED : Fld := ⟨0x60150008, 3, 1, .rwf, 0, .any⟩
def PAD_URG_GRM.MRAM : Fld := ⟨0x60150008, 2, 1, .rwf, 0, .any⟩
def PAD_URG_GRM.TEAM : Fld := ⟨0x60150008, 1, 1, .rwf, 0, .any⟩
def PAD_URG_GRM.CHAIN : Fld := ⟨0x60150008, 0, 1, .rwf, 0, .any⟩
def PAD_URG_HRD.SRAM : Fld := ⟨0x6015000c, 5, 1, .rwf, 0, .any⟩
def PAD_URG_HRD.CANTX : Fld := ⟨0x6015000c, 4, 1, .rwf, 0, .any⟩
def PAD_URG_HRD.BLEED : Fld := ⟨0x6015000c, 3, 1, .rwf, 0, .any⟩
def PAD_URG_HRD.MRAM : Fld := ⟨0x6015000c, 2, 1, .rwf, 0, .any⟩
def PAD_URG_HRD.TEAM : Fld := ⟨0x6015000c, 1, 1, .rwf, 0, .any⟩
def PAD_URG_HRD.CHAIN : Fld := ⟨0x6015000c, 0, 1, .rwf, 0, .any⟩
def PAD_URG_DMA.SRAM : Fld := ⟨0x60150010, 5, 1, .rwf, 0, .any⟩
def PAD_URG_DMA.CANTX : Fld := ⟨0x60150010, 4, 1, .rwf, 0, .any⟩
def PAD_URG_DMA.BLEED : Fld := ⟨0x60150010, 3, 1, .rwf, 0, .any⟩
def PAD_URG_DMA.MRAM : Fld := ⟨0x60150010, 2, 1, .rwf, 0, .any⟩
def PAD_URG_DMA.TEAM : Fld := ⟨0x60150010, 1, 1, .rwf, 0, .any⟩
def PAD_URG_DMA.CHAIN : Fld := ⟨0x60150010, 0, 1, .rwf, 0, .any⟩
def PAD_LOCKLIM.LIM : Fld := ⟨0x60150020, 0, 16, .rwf, 1000, .any⟩
def PAD_PROMCNT.COUNT : Fld := ⟨0x60150024, 0, 32, .ro, 0, .any⟩
def PAD_LOCKERR.CORE : Fld := ⟨0x60150028, 9, 2, .ro, 0, .any⟩
def PAD_LOCKERR.KIND : Fld := ⟨0x60150028, 8, 1, .ro, 0, .any⟩
def PAD_LOCKERR.LOCK : Fld := ⟨0x60150028, 0, 5, .ro, 0, .any⟩
def PWR_GAIT.CAUSE : Fld := ⟨0x60010000, 12, 4, .ro, 5, .any⟩
def PWR_GAIT.BUSY : Fld := ⟨0x60010000, 8, 1, .ro, 0, .any⟩
def PWR_GAIT.RIDERS : Fld := ⟨0x60010000, 7, 1, .ro, 1, .any⟩
def PWR_GAIT.PREV : Fld := ⟨0x60010000, 4, 3, .ro, 1, .any⟩
def PWR_GAIT.GAIT : Fld := ⟨0x60010000, 0, 3, .ro, 2, .any⟩
def PWR_REQ.TARGET : Fld := ⟨0x60010004, 0, 3, .rwf, 2, (.range 0 6)⟩
def PWR_REQSTAT.REASON : Fld := ⟨0x60010008, 4, 4, .ro, 0, .any⟩
def PWR_REQSTAT.RESULT : Fld := ⟨0x60010008, 0, 2, .ro, 0, .any⟩
def PWR_WAKEEN.TANDEM : Fld := ⟨0x60010010, 5, 1, .rwf, 1, .any⟩
def PWR_WAKEEN.DI : Fld := ⟨0x60010010, 4, 1, .rwf, 0, .any⟩
def PWR_WAKEEN.CHAIN : Fld := ⟨0x60010010, 3, 1, .rwf, 1, .any⟩
def PWR_WAKEEN.CANA : Fld := ⟨0x60010010, 2, 1, .rwf, 1, .any⟩
def PWR_WAKEEN.RTC : Fld := ⟨0x60010010, 1, 1, .rwf, 1, .any⟩
def PWR_WAKEEN.WAKEN : Fld := ⟨0x60010010, 0, 1, .rwf, 1, .any⟩
def PWR_WAKESRC.SRC : Fld := ⟨0x60010014, 0, 7, .w1c, 0, .any⟩
def PWR_RTC.SEC : Fld := ⟨0x60010018, 0, 32, .ro, 0, .any⟩
def PWR_RTCALM.ALM : Fld := ⟨0x6001001c, 0, 32, .rwf, 4294967295, .any⟩
def THM_THROT.HYST : Fld := ⟨0x60140000, 8, 5, .rwf, 5, (.range 1 20)⟩
def THM_THROT.LEVEL : Fld := ⟨0x60140000, 0, 8, .rwf, 115, (.range 95 125)⟩
def THM_GRACE.MS : Fld := ⟨0x60140004, 0, 13, .rwf, 500, (.range 10 5000)⟩
def THM_STAT.HOTIDX : Fld := ⟨0x60140008, 8, 3, .ro, 0, .any⟩
def THM_STAT.SENS_FAULT : Fld := ⟨0x60140008, 3, 1, .ro, 0, .any⟩
def THM_STAT.GRACE_RUN : Fld := ⟨0x60140008, 2, 1, .ro, 0, .any⟩
def THM_STAT.ENFORCED : Fld := ⟨0x60140008, 1, 1, .ro, 0, .any⟩
def THM_STAT.THROT_REQ : Fld := ⟨0x60140008, 0, 1, .ro, 0, .any⟩
def THM_HOT.TEMP : Fld := ⟨0x6014000c, 0, 16, .ro, 32768, .any⟩
def THM_DIE.TEMP (n : Nat) : Fld := ⟨(0x60140010 + 4 * n), 0, 16, .ro, 32768, .any⟩
def THM_HV.TEMP (n : Nat) : Fld := ⟨(0x60140028 + 4 * n), 0, 16, .ro, 32768, .any⟩
def THM_REFILL.RMIN : Fld := ⟨0x60140030, 16, 16, .rwf, 500, .any⟩
def THM_REFILL.RMAX : Fld := ⟨0x60140030, 0, 16, .rwf, 5000, .any⟩
def THM_HFULL.HFULL : Fld := ⟨0x60140034, 0, 6, .rwf, 20, (.range 1 60)⟩
def THM_RATE.R : Fld := ⟨0x60140038, 0, 16, .ro, 0, .any⟩
def THM_BUCKET.TOKENS : Fld := ⟨0x6014003c, 0, 16, .ro, 0, .any⟩
def THM_LATCH.DIE_PAST : Fld := ⟨0x60140040, 5, 1, .ro, 0, .any⟩
def THM_LATCH.DO15 : Fld := ⟨0x60140040, 4, 1, .ro, 0, .any⟩
def THM_LATCH.DO14 : Fld := ⟨0x60140040, 3, 1, .ro, 0, .any⟩
def THM_LATCH.DO13 : Fld := ⟨0x60140040, 2, 1, .ro, 0, .any⟩
def THM_LATCH.DO12 : Fld := ⟨0x60140040, 1, 1, .ro, 0, .any⟩
def THM_LATCH.HV_CONV : Fld := ⟨0x60140040, 0, 1, .ro, 0, .any⟩
def THM_COST.COST (n : Nat) : Fld := ⟨(0x60140080 + 4 * n), 0, 16, .ro, 0, .any⟩
def HRD_CTRL.HOLD : Fld := ⟨0x60030000, 1, 1, .rwf, 0, .any⟩
def HRD_CTRL.AUTO_EN : Fld := ⟨0x60030000, 0, 1, .rwf, 0, .any⟩
def HRD_STAT.RUNCOUNT : Fld := ⟨0x60030004, 16, 6, .ro, 0, .any⟩
def HRD_STAT.QCOUNT : Fld := ⟨0x60030004, 8, 7, .ro, 0, .any⟩
def HRD_STAT.HALVED : Fld := ⟨0x60030004, 4, 1, .ro, 0, .any⟩
def HRD_STAT.CLK : Fld := ⟨0x60030004, 1, 3, .ro, 0, .any⟩
def HRD_STAT.POWERED : Fld := ⟨0x60030004, 0, 1, .ro, 0, .any⟩
def HRD_ABORT.ALL : Fld := ⟨0x60030008, 31, 1, .wo, 0, .any⟩
def HRD_ABORT.INDEX : Fld := ⟨0x60030008, 0, 6, .wo, 0, .any⟩
def HRD_TEAMBUSY.TEAMS : Fld := ⟨0x60030010, 0, 32, .ro, 0, .any⟩
def HRD_TEAMDIS.TEAMS : Fld := ⟨0x60030014, 0, 32, .rwf, 0, .any⟩
def HRD_TEAMFLT.TEAMS : Fld := ⟨0x60030018, 0, 32, .w1c, 0, .any⟩
def HRD_FLTINFO.PC : Fld := ⟨0x6003001c, 16, 11, .ro, 0, .any⟩
def HRD_FLTINFO.TEAM : Fld := ⟨0x6003001c, 8, 5, .ro, 0, .any⟩
def HRD_FLTINFO.LANE : Fld := ⟨0x6003001c, 4, 4, .ro, 0, .any⟩
def HRD_FLTINFO.KIND : Fld := ⟨0x6003001c, 0, 4, .ro, 0, .any⟩
def HRD_AUTOPROG.PROG : Fld := ⟨0x60030020, 0, 32, .rwf, 808452352, .any⟩
def HRD_AUTOCFG.POSTPCT : Fld := ⟨0x60030024, 24, 7, .rwf, 70, (.range 10 95)⟩
def HRD_AUTOCFG.ECLASS : Fld := ⟨0x60030024, 16, 4, .rwf, 8, .any⟩
def HRD_AUTOCFG.PLEN : Fld := ⟨0x60030024, 0, 12, .rwf, 0, (.range 0 2048)⟩
def HRD_AUTOTEAMS.TEAMS : Fld := ⟨0x60030028, 0, 32, .rwf, 4294967295, (.range 1 4294967295)⟩
def HRD_AUTOARG.ARG : Fld := ⟨0x6003002c, 0, 32, .rwf, 0, .any⟩
def HRD_AUTOSTAT.STATUS : Fld := ⟨0x60030030, 8, 4, .ro, 0, .any⟩
def HRD_AUTOSTAT.SKIPPED : Fld := ⟨0x60030030, 2, 1, .ro, 0, .any⟩
def HRD_AUTOSTAT.LATEPOST : Fld := ⟨0x60030030, 1, 1, .ro, 0, .any⟩
def HRD_AUTOSTAT.BUSY : Fld := ⟨0x60030030, 0, 1, .ro, 0, .any⟩
def HRD_SWEEP.SWEEP : Fld := ⟨0x60030034, 0, 32, .ro, 0, .any⟩
def HRD_QOCC0.OCC : Fld := ⟨0x60030040, 0, 32, .ro, 0, .any⟩
def HRD_QOCC1.OCC : Fld := ⟨0x60030044, 0, 32, .ro, 0, .any⟩
def HRD_MISSCNT.COUNT : Fld := ⟨0x60030048, 0, 32, .ro, 0, .any⟩
def HRD_ECCCNT.CLR : Fld := ⟨0x6003004c, 31, 1, .w1c, 0, .any⟩
def HRD_ECCCNT.COUNT : Fld := ⟨0x6003004c, 0, 16, .ro, 0, .any⟩
def HVM_CTRL.INJ_CLAIM : Fld := ⟨0x60040000, 8, 1, .rwf, 1, .any⟩
def HVM_CTRL.HIONLY : Fld := ⟨0x60040000, 4, 1, .rwf, 0, .any⟩
def HVM_CTRL.DIV_EN : Fld := ⟨0x60040000, 2, 1, .rwf, 0, .any⟩
def HVM_CTRL.HALL_EN : Fld := ⟨0x60040000, 1, 1, .rwf, 0, .any⟩
def HVM_CTRL.INJ_EN : Fld := ⟨0x60040000, 0, 1, .rwf, 0, .any⟩
def HVM_CMD.PCH_ABORT : Fld := ⟨0x60040004, 9, 1, .cmd, 0, .any⟩
def HVM_CMD.PCH_ARM : Fld := ⟨0x60040004, 8, 1, .cmd, 0, .any⟩
def HVM_CMD.RANGE_RESET : Fld := ⟨0x60040004, 2, 1, .cmd, 0, .any⟩
def HVM_CMD.QCLR : Fld := ⟨0x60040004, 1, 1, .cmd, 0, .any⟩
def HVM_CMD.ZERO : Fld := ⟨0x60040004, 0, 1, .cmd, 0, .any⟩
def HVM_STAT.OVLD_HI : Fld := ⟨0x60040008, 14, 1, .ro, 0, .any⟩
def HVM_STAT.VINV : Fld := ⟨0x60040008, 11, 3, .ro, 0, .any⟩
def HVM_STAT.ZERO_BUSY : Fld := ⟨0x60040008, 10, 1, .ro, 0, .any⟩
def HVM_STAT.INJ_ON : Fld := ⟨0x60040008, 9, 1, .ro, 0, .any⟩
def HVM_STAT.ISO_VALID : Fld := ⟨0x60040008, 8, 1, .ro, 0, .any⟩
def HVM_STAT.DIV_MISMATCH : Fld := ⟨0x60040008, 7, 1, .ro, 0, .any⟩
def HVM_STAT.HALL_OK : Fld := ⟨0x60040008, 6, 1, .ro, 0, .any⟩
def HVM_STAT.LOW_DIS : Fld := ⟨0x60040008, 5, 1, .ro, 0, .any⟩
def HVM_STAT.RANGE : Fld := ⟨0x60040008, 4, 1, .ro, 0, .any⟩
def HVM_STAT.CAL_OK : Fld := ⟨0x60040008, 3, 1, .ro, 0, .any⟩
def HVM_STAT.SUPPLY_OK : Fld := ⟨0x60040008, 2, 1, .ro, 0, .any⟩
def HVM_STAT.LINK_OK : Fld := ⟨0x60040008, 1, 1, .ro, 0, .any⟩
def HVM_STAT.READY : Fld := ⟨0x60040008, 0, 1, .ro, 0, .any⟩
def HVM_FLT.QGAP : Fld := ⟨0x6004000c, 10, 1, .w1c, 0, .any⟩
def HVM_FLT.CAL_BAD : Fld := ⟨0x6004000c, 9, 1, .w1c, 0, .any⟩
def HVM_FLT.ZERO_FAIL : Fld := ⟨0x6004000c, 8, 1, .w1c, 0, .any⟩
def HVM_FLT.ISO_INVALID : Fld := ⟨0x6004000c, 7, 1, .w1c, 0, .any⟩
def HVM_FLT.VPLAUS : Fld := ⟨0x6004000c, 6, 1, .w1c, 0, .any⟩
def HVM_FLT.DIV : Fld := ⟨0x6004000c, 5, 1, .w1c, 0, .any⟩
def HVM_FLT.HALL : Fld := ⟨0x6004000c, 4, 1, .w1c, 0, .any⟩
def HVM_FLT.OVLD : Fld := ⟨0x6004000c, 3, 1, .w1c, 0, .any⟩
def HVM_FLT.RANGE : Fld := ⟨0x6004000c, 2, 1, .w1c, 0, .any⟩
def HVM_FLT.SUPPLY : Fld := ⟨0x6004000c, 1, 1, .w1c, 0, .any⟩
def HVM_FLT.LINK_LOSS : Fld := ⟨0x6004000c, 0, 1, .w1c, 0, .any⟩
def HVM_IPROT.VAL : Fld := ⟨0x60040010, 0, 32, .ro, 2147483648, .any⟩
def HVM_IFINE.VAL : Fld := ⟨0x60040014, 0, 32, .ro, 2147483648, .any⟩
def HVM_IHALL.VAL : Fld := ⟨0x60040018, 0, 32, .ro, 2147483648, .any⟩
def HVM_VBAT.VAL : Fld := ⟨0x6004001c, 0, 32, .ro, 4294967295, .any⟩
def HVM_VLINK.VAL : Fld := ⟨0x60040020, 0, 32, .ro, 4294967295, .any⟩
def HVM_VMID.VAL : Fld := ⟨0x60040024, 0, 32, .ro, 4294967295, .any⟩
def HVM_QLO.VAL : Fld := ⟨0x60040028, 0, 32, .ro, 0, .any⟩
def HVM_QHI.VAL : Fld := ⟨0x6004002c, 0, 32, .ro, 0, .any⟩
def HVM_ISO.AGE : Fld := ⟨0x60040030, 24, 8, .ro, 0, .any⟩
def HVM_ISO.CAPHIGH : Fld := ⟨0x60040030, 19, 1, .ro, 0, .any⟩
def HVM_ISO.ABOVE : Fld := ⟨0x60040030, 18, 1, .ro, 0, .any⟩
def HVM_ISO.BELOW : Fld := ⟨0x60040030, 17, 1, .ro, 0, .any⟩
def HVM_ISO.VALID : Fld := ⟨0x60040030, 16, 1, .ro, 0, .any⟩
def HVM_ISO.RKOHM : Fld := ⟨0x60040030, 0, 16, .ro, 65535, .any⟩
def HVM_PCHCFG.PCT : Fld := ⟨0x60040034, 16, 7, .rwf, 95, (.range 80 99)⟩
def HVM_PCHCFG.TIME : Fld := ⟨0x60040034, 0, 16, .rwf, 2000, (.range 100 30000)⟩
def HVM_PCHSTAT.ELAPSED : Fld := ⟨0x60040038, 16, 16, .ro, 0, .any⟩
def HVM_PCHSTAT.REASON : Fld := ⟨0x60040038, 4, 4, .ro, 0, .any⟩
def HVM_PCHSTAT.STATE : Fld := ⟨0x60040038, 0, 2, .ro, 0, .any⟩
def HVM_SHUNT.R : Fld := ⟨0x60040040, 0, 32, .rwf, 50000, (.range 10000 1000000)⟩
def HVM_IOFS.OFS : Fld := ⟨0x60040044, 0, 32, .rwf, 0, (.signed 32 200000)⟩
def HVM_HALLGAIN.GAIN : Fld := ⟨0x60040048, 0, 32, .rwf, 0, .any⟩
def HVM_HALLOFS.OFS : Fld := ⟨0x6004004c, 0, 16, .rwf, 0, (.signed 16 4000)⟩
def HVM_DIV.TIME : Fld := ⟨0x60040050, 22, 10, .rwf, 100, (.range 1 1000)⟩
def HVM_DIV.REL : Fld := ⟨0x60040050, 16, 6, .rwf, 4, .any⟩
def HVM_DIV.ABS : Fld := ⟨0x60040050, 0, 16, .rwf, 500, (.range 1 65535)⟩
def HVM_CALID.CRC_OK : Fld := ⟨0x60040060, 16, 1, .ro, 0, .any⟩
def HVM_CALID.VERSION : Fld := ⟨0x60040060, 0, 16, .ro, 0, .any⟩
def HVM_LINKERR.COUNT : Fld := ⟨0x60040064, 0, 32, .ro, 0, .any⟩
def CHN_CTRL.SWEEP_EN : Fld := ⟨0x60050000, 1, 1, .rwf, 0, .any⟩
def CHN_CTRL.PORT_EN : Fld := ⟨0x60050000, 0, 1, .rwf, 0, .any⟩
def CHN_CMD.ABORT : Fld := ⟨0x60050004, 3, 1, .cmd, 0, .any⟩
def CHN_CMD.WAKE : Fld := ⟨0x60050004, 2, 1, .cmd, 0, .any⟩
def CHN_CMD.REMEASURE : Fld := ⟨0x60050004, 1, 1, .cmd, 0, .any⟩
def CHN_CMD.ENUM : Fld := ⟨0x60050004, 0, 1, .cmd, 0, .any⟩
def CHN_STAT.BREAKHI : Fld := ⟨0x60050008, 16, 6, .ro, 0, .any⟩
def CHN_STAT.BREAKLO : Fld := ⟨0x60050008, 8, 6, .ro, 0, .any⟩
def CHN_STAT.REREAD : Fld := ⟨0x60050008, 7, 1, .ro, 0, .any⟩
def CHN_STAT.REFSEAT : Fld := ⟨0x60050008, 6, 1, .ro, 0, .any⟩
def CHN_STAT.HILOCK : Fld := ⟨0x60050008, 5, 1, .ro, 0, .any⟩
def CHN_STAT.LOLOCK : Fld := ⟨0x60050008, 4, 1, .ro, 0, .any⟩
def CHN_STAT.ORIGIN : Fld := ⟨0x60050008, 3, 1, .ro, 0, .any⟩
def CHN_STAT.RING : Fld := ⟨0x60050008, 0, 3, .ro, 0, .any⟩
def CHN_FLT.HEAL : Fld := ⟨0x6005000c, 8, 1, .w1c, 0, .any⟩
def CHN_FLT.SYNC_HIT : Fld := ⟨0x6005000c, 7, 1, .w1c, 0, .any⟩
def CHN_FLT.ADDR_LOST : Fld := ⟨0x6005000c, 6, 1, .w1c, 0, .any⟩
def CHN_FLT.CMP_TRIP : Fld := ⟨0x6005000c, 5, 1, .w1c, 0, .any⟩
def CHN_FLT.CRC : Fld := ⟨0x6005000c, 4, 1, .w1c, 0, .any⟩
def CHN_FLT.ENUM_MIS : Fld := ⟨0x6005000c, 3, 1, .w1c, 0, .any⟩
def CHN_FLT.MULTI : Fld := ⟨0x6005000c, 2, 1, .w1c, 0, .any⟩
def CHN_FLT.BREAK : Fld := ⟨0x6005000c, 1, 1, .w1c, 0, .any⟩
def CHN_FLT.FSYM : Fld := ⟨0x6005000c, 0, 1, .w1c, 0, .any⟩
def CHN_CFG.UNITS : Fld := ⟨0x60050010, 0, 6, .rwf, 32, (.range 1 32)⟩
def CHN_SWCFG.STALE : Fld := ⟨0x60050014, 8, 4, .rwf, 3, (.range 1 15)⟩
def CHN_SWCFG.SILENCE : Fld := ⟨0x60050014, 0, 8, .rwf, 20, (.range 5 255)⟩
def CHN_SYNCDLY.NS : Fld := ⟨0x60050018, 0, 16, .ro, 0, .any⟩
def CHN_SWEEP.SWEEP : Fld := ⟨0x6005001c, 0, 32, .ro, 0, .any⟩
def CHN_TAGSTAT.OVF : Fld := ⟨0x60050020, 16, 1, .w1c, 0, .any⟩
def CHN_TAGSTAT.ENGN : Fld := ⟨0x60050020, 8, 7, .ro, 0, .any⟩
def CHN_TAGSTAT.CHXN : Fld := ⟨0x60050020, 0, 8, .ro, 0, .any⟩
def CHN_ERRLO.CODE : Fld := ⟨0x60050024, 16, 16, .ro, 0, .any⟩
def CHN_ERRLO.CRC : Fld := ⟨0x60050024, 0, 16, .ro, 0, .any⟩
def CHN_ERRHI.CODE : Fld := ⟨0x60050028, 16, 16, .ro, 0, .any⟩
def CHN_ERRHI.CRC : Fld := ⟨0x60050028, 0, 16, .ro, 0, .any⟩
def CHN_FSYMCNT.COUNT : Fld := ⟨0x6005002c, 0, 32, .ro, 0, .any⟩
def CHN_RTO.RTO : Fld := ⟨0x60050030, 0, 16, .rwf, 500, (.range 10 65535)⟩
def CHN_USTAT.MISS (n : Nat) : Fld := ⟨(0x60050100 + 4 * (n - 1)), 16, 8, .ro, 0, .any⟩
def CHN_USTAT.USTAT (n : Nat) : Fld := ⟨(0x60050100 + 4 * (n - 1)), 8, 8, .ro, 0, .any⟩
def CHN_USTAT.STALE (n : Nat) : Fld := ⟨(0x60050100 + 4 * (n - 1)), 4, 1, .ro, 0, .any⟩
def CHN_USTAT.UNASSIGNED (n : Nat) : Fld := ⟨(0x60050100 + 4 * (n - 1)), 3, 1, .ro, 0, .any⟩
def CHN_USTAT.PRESENT (n : Nat) : Fld := ⟨(0x60050100 + 4 * (n - 1)), 2, 1, .ro, 0, .any⟩
def CHN_USTAT.ROUTE (n : Nat) : Fld := ⟨(0x60050100 + 4 * (n - 1)), 0, 2, .ro, 0, .any⟩
def CHN_UDLY.DHI (n : Nat) : Fld := ⟨(0x60050180 + 4 * (n - 1)), 16, 16, .ro, 65535, .any⟩
def CHN_UDLY.DLO (n : Nat) : Fld := ⟨(0x60050180 + 4 * (n - 1)), 0, 16, .ro, 65535, .any⟩
def CEL_CTRL.STALE_SII : Fld := ⟨0x60060000, 5, 1, .rwf, 0, .any⟩
def CEL_CTRL.VSRC : Fld := ⟨0x60060000, 4, 1, .rwf, 0, .any⟩
def CEL_CTRL.BAL_MODE : Fld := ⟨0x60060000, 3, 1, .rwf, 0, .any⟩
def CEL_CTRL.BAL_EN : Fld := ⟨0x60060000, 2, 1, .rwf, 0, .any⟩
def CEL_CTRL.OWT_EN : Fld := ⟨0x60060000, 1, 1, .rwf, 1, .any⟩
def CEL_CTRL.CHK_EN : Fld := ⟨0x60060000, 0, 1, .rwf, 1, .any⟩
def CEL_CMD.UNIT : Fld := ⟨0x60060004, 8, 6, .cmd, 0, .any⟩
def CEL_CMD.CHECK : Fld := ⟨0x60060004, 4, 1, .cmd, 0, .any⟩
def CEL_CMD.BAL_STOP : Fld := ⟨0x60060004, 3, 1, .cmd, 0, .any⟩
def CEL_CMD.OWT_NOW : Fld := ⟨0x60060004, 2, 1, .cmd, 0, .any⟩
def CEL_CMD.SENSE_CLR : Fld := ⟨0x60060004, 1, 1, .cmd, 0, .any⟩
def CEL_CMD.MAP_APPLY : Fld := ⟨0x60060004, 0, 1, .cmd, 0, .any⟩
def CEL_STAT.NBLEED : Fld := ⟨0x60060008, 22, 10, .ro, 0, .any⟩
def CEL_STAT.NOPEN : Fld := ⟨0x60060008, 16, 6, .ro, 0, .any⟩
def CEL_STAT.BAL_HOLD : Fld := ⟨0x60060008, 8, 1, .ro, 0, .any⟩
def CEL_STAT.OWT_BUSY : Fld := ⟨0x60060008, 7, 1, .ro, 0, .any⟩
def CEL_STAT.OPEN2 : Fld := ⟨0x60060008, 6, 1, .ro, 0, .any⟩
def CEL_STAT.ILIM50 : Fld := ⟨0x60060008, 5, 1, .ro, 0, .any⟩
def CEL_STAT.SUSPECT_ANY : Fld := ⟨0x60060008, 4, 1, .ro, 0, .any⟩
def CEL_STAT.STALE_ANY : Fld := ⟨0x60060008, 3, 1, .ro, 0, .any⟩
def CEL_STAT.BALACT : Fld := ⟨0x60060008, 2, 1, .ro, 0, .any⟩
def CEL_STAT.BALANCED : Fld := ⟨0x60060008, 1, 1, .ro, 0, .any⟩
def CEL_STAT.MAP_VALID : Fld := ⟨0x60060008, 0, 1, .ro, 0, .any⟩
def CEL_FLT.STRSUM : Fld := ⟨0x6006000c, 12, 1, .w1c, 0, .any⟩
def CEL_FLT.BAL_HEAT : Fld := ⟨0x6006000c, 11, 1, .w1c, 0, .any⟩
def CEL_FLT.OWT_INC : Fld := ⟨0x6006000c, 10, 1, .w1c, 0, .any⟩
def CEL_FLT.STACKDEV : Fld := ⟨0x6006000c, 9, 1, .w1c, 0, .any⟩
def CEL_FLT.CELL_DROP : Fld := ⟨0x6006000c, 8, 1, .w1c, 0, .any⟩
def CEL_FLT.OPEN2 : Fld := ⟨0x6006000c, 7, 1, .w1c, 0, .any⟩
def CEL_FLT.OPEN : Fld := ⟨0x6006000c, 6, 1, .w1c, 0, .any⟩
def CEL_FLT.SUSPECT : Fld := ⟨0x6006000c, 5, 1, .w1c, 0, .any⟩
def CEL_FLT.TSENS : Fld := ⟨0x6006000c, 4, 1, .w1c, 0, .any⟩
def CEL_FLT.BQ_MISS : Fld := ⟨0x6006000c, 3, 1, .w1c, 0, .any⟩
def CEL_FLT.VRANGE : Fld := ⟨0x6006000c, 2, 1, .w1c, 0, .any⟩
def CEL_FLT.STALE : Fld := ⟨0x6006000c, 1, 1, .w1c, 0, .any⟩
def CEL_FLT.MAP_ERR : Fld := ⟨0x6006000c, 0, 1, .w1c, 0, .any⟩
def CEL_MAPSTAT.NCELLS : Fld := ⟨0x60060010, 22, 10, .ro, 0, .any⟩
def CEL_MAPSTAT.UNIT : Fld := ⟨0x60060010, 16, 6, .ro, 0, .any⟩
def CEL_MAPSTAT.CELL : Fld := ⟨0x60060010, 4, 12, .ro, 0, .any⟩
def CEL_MAPSTAT.CODE : Fld := ⟨0x60060010, 0, 4, .ro, 0, .any⟩
def CEL_OWCFG.CONFIRM : Fld := ⟨0x60060014, 24, 4, .rwf, 3, (.range 1 15)⟩
def CEL_OWCFG.STACKTOL : Fld := ⟨0x60060014, 16, 8, .rwf, 50, (.range 1 255)⟩
def CEL_OWCFG.SUMTOL : Fld := ⟨0x60060014, 8, 8, .rwf, 10, (.range 1 255)⟩
def CEL_OWCFG.DEV : Fld := ⟨0x60060014, 0, 8, .rwf, 30, (.range 1 255)⟩
def CEL_OWTCFG.THR : Fld := ⟨0x60060018, 24, 8, .rwf, 20, (.range 1 100)⟩
def CEL_OWTCFG.DEADLINE : Fld := ⟨0x60060018, 16, 8, .rwf, 10, (.range 1 60)⟩
def CEL_OWTCFG.PERIOD : Fld := ⟨0x60060018, 0, 16, .rwf, 60, (.range 1 3600)⟩
def CEL_VRANGE.VMAX : Fld := ⟨0x6006001c, 16, 16, .rwf, 50000, .any⟩
def CEL_VRANGE.VMIN : Fld := ⟨0x6006001c, 0, 16, .rwf, 5000, .any⟩
def CEL_BALCFG.IMAX : Fld := ⟨0x60060020, 24, 8, .rwf, 5, .any⟩
def CEL_BALCFG.HYST : Fld := ⟨0x60060020, 16, 8, .rwf, 30, (.range 1 255)⟩
def CEL_BALCFG.TARGET : Fld := ⟨0x60060020, 0, 16, .rwf, 50, .any⟩
def CEL_BALHEAT.T2 : Fld := ⟨0x60060024, 16, 8, .rwf, 65, .any⟩
def CEL_BALHEAT.T1 : Fld := ⟨0x60060024, 8, 8, .rwf, 50, .any⟩
def CEL_BALHEAT.MAXC : Fld := ⟨0x60060024, 0, 5, .rwf, 8, (.range 0 16)⟩
def CEL_PADCFG.CHKINT : Fld := ⟨0x60060028, 16, 16, .rwf, 3600, (.range 1 65535)⟩
def CEL_PADCFG.BALINT : Fld := ⟨0x60060028, 0, 10, .rwf, 30, (.range 1 600)⟩
def CEL_PADSTAT.CHECKS : Fld := ⟨0x6006002c, 16, 16, .ro, 0, .any⟩
def CEL_PADSTAT.BALOK : Fld := ⟨0x6006002c, 5, 1, .ro, 0, .any⟩
def CEL_PADSTAT.CAUSE : Fld := ⟨0x6006002c, 2, 3, .ro, 0, .any⟩
def CEL_PADSTAT.ALARM : Fld := ⟨0x6006002c, 1, 1, .ro, 0, .any⟩
def CEL_PADSTAT.DONE : Fld := ⟨0x6006002c, 0, 1, .ro, 0, .any⟩
def CEL_VMIN.CELL : Fld := ⟨0x60060030, 16, 9, .ro, 0, .any⟩
def CEL_VMIN.V : Fld := ⟨0x60060030, 0, 16, .ro, 65535, .any⟩
def CEL_VMAX.CELL : Fld := ⟨0x60060034, 16, 9, .ro, 0, .any⟩
def CEL_VMAX.V : Fld := ⟨0x60060034, 0, 16, .ro, 65535, .any⟩
def CEL_VSUM.MV : Fld := ⟨0x60060038, 0, 32, .ro, 4294967295, .any⟩
def CEL_STRCHK.N : Fld := ⟨0x6006003c, 24, 8, .rwf, 10, (.range 1 255)⟩
def CEL_STRCHK.REL : Fld := ⟨0x6006003c, 16, 8, .rwf, 10, .any⟩
def CEL_STRCHK.ABS : Fld := ⟨0x6006003c, 0, 16, .rwf, 300, .any⟩
def CEL_SWEEP.SWEEP : Fld := ⟨0x60060040, 0, 32, .ro, 0, .any⟩
def CEL_USTACK.MV (n : Nat) : Fld := ⟨(0x60060100 + 4 * (n - 1)), 0, 32, .ro, 4294967295, .any⟩
def CEL_UTEMP.T1 (n : Nat) : Fld := ⟨(0x60060180 + 4 * (n - 1)), 16, 16, .ro, 32768, .any⟩
def CEL_UTEMP.T0 (n : Nat) : Fld := ⟨(0x60060180 + 4 * (n - 1)), 0, 16, .ro, 32768, .any⟩
def CEL_UOPEN.TAPS (n : Nat) : Fld := ⟨(0x60060200 + 4 * (n - 1)), 0, 17, .ro, 0, .any⟩
def CEL_USUSP.TAPS (n : Nat) : Fld := ⟨(0x60060280 + 4 * (n - 1)), 0, 17, .ro, 0, .any⟩
def CEL_UBLEED.LIMITED (n : Nat) : Fld := ⟨(0x60060300 + 4 * (n - 1)), 24, 1, .ro, 0, .any⟩
def CEL_UBLEED.MASK (n : Nat) : Fld := ⟨(0x60060300 + 4 * (n - 1)), 0, 16, .ro, 0, .any⟩
def CEL_CELL.SUBST (n : Nat) : Fld := ⟨(0x60061000 + 4 * n), 25, 1, .ro, 0, .any⟩
def CEL_CELL.FRESH (n : Nat) : Fld := ⟨(0x60061000 + 4 * n), 24, 1, .ro, 0, .any⟩
def CEL_CELL.AGE (n : Nat) : Fld := ⟨(0x60061000 + 4 * n), 16, 8, .ro, 0, .any⟩
def CEL_CELL.VCELL (n : Nat) : Fld := ⟨(0x60061000 + 4 * n), 0, 16, .ro, 65535, .any⟩
def CEL_CFLG.TCELL (n : Nat) : Fld := ⟨(0x60061800 + 4 * n), 16, 16, .ro, 32768, .any⟩
def CEL_CFLG.FLAGS (n : Nat) : Fld := ⟨(0x60061800 + 4 * n), 0, 16, .ro, 0, .any⟩
def CEL_MAP.USED (n : Nat) : Fld := ⟨(0x60062000 + 4 * n), 31, 1, .rwf, 0, .any⟩
def CEL_MAP.LANE (n : Nat) : Fld := ⟨(0x60062000 + 4 * n), 16, 9, .rwf, 0, .any⟩
def CEL_MAP.TSEL (n : Nat) : Fld := ⟨(0x60062000 + 4 * n), 12, 1, .rwf, 0, .any⟩
def CEL_MAP.LOCAL (n : Nat) : Fld := ⟨(0x60062000 + 4 * n), 8, 4, .rwf, 0, .any⟩
def CEL_MAP.UNIT (n : Nat) : Fld := ⟨(0x60062000 + 4 * n), 0, 6, .rwf, 0, .any⟩
def EST_CTRL.B_EN : Fld := ⟨0x60070000, 3, 1, .rwf, 1, .any⟩
def EST_CTRL.A_EN : Fld := ⟨0x60070000, 2, 1, .rwf, 1, .any⟩
def EST_CTRL.METHOD : Fld := ⟨0x60070000, 0, 1, .rwf, 1, .any⟩
def EST_CMD.PARAM_APPLY : Fld := ⟨0x60070004, 0, 1, .cmd, 0, .any⟩
def EST_STAT.PCODE : Fld := ⟨0x60070008, 12, 4, .ro, 0, .any⟩
def EST_STAT.MISSRUN : Fld := ⟨0x60070008, 8, 4, .ro, 0, .any⟩
def EST_STAT.RETAINED : Fld := ⟨0x60070008, 5, 1, .ro, 0, .any⟩
def EST_STAT.PARAM_OK : Fld := ⟨0x60070008, 4, 1, .ro, 0, .any⟩
def EST_STAT.LIMLOST : Fld := ⟨0x60070008, 3, 1, .ro, 0, .any⟩
def EST_STAT.LIMHOLD : Fld := ⟨0x60070008, 2, 1, .ro, 0, .any⟩
def EST_STAT.FROZEN : Fld := ⟨0x60070008, 1, 1, .ro, 0, .any⟩
def EST_STAT.VALID : Fld := ⟨0x60070008, 0, 1, .ro, 0, .any⟩
def EST_FLT.METHOD_REF : Fld := ⟨0x6007000c, 5, 1, .w1c, 0, .any⟩
def EST_FLT.FRESET : Fld := ⟨0x6007000c, 4, 1, .w1c, 0, .any⟩
def EST_FLT.TFALL : Fld := ⟨0x6007000c, 3, 1, .w1c, 0, .any⟩
def EST_FLT.STAMP : Fld := ⟨0x6007000c, 2, 1, .w1c, 0, .any⟩
def EST_FLT.LIMLOST : Fld := ⟨0x6007000c, 1, 1, .w1c, 0, .any⟩
def EST_FLT.PARAM_ERR : Fld := ⟨0x6007000c, 0, 1, .w1c, 0, .any⟩
def EST_PBASE.ADDR : Fld := ⟨0x60070010, 0, 32, .rwf, 808468480, .any⟩
def EST_CAPNOM.MAH : Fld := ⟨0x60070014, 0, 32, .rwf, 0, .any⟩
def EST_REST.RESTDIV : Fld := ⟨0x60070018, 16, 8, .rwf, 200, (.range 20 255)⟩
def EST_REST.RESTMIN : Fld := ⟨0x60070018, 0, 16, .rwf, 30, (.range 10 1440)⟩
def EST_ANCH.BLEND : Fld := ⟨0x6007001c, 16, 16, .rwf, 600, (.range 10 3600)⟩
def EST_ANCH.SLOPE : Fld := ⟨0x6007001c, 8, 8, .rwf, 20, (.range 5 255)⟩
def EST_ANCH.CONF : Fld := ⟨0x6007001c, 0, 8, .rwf, 30, (.range 5 100)⟩
def EST_VEND.VCO : Fld := ⟨0x60070020, 16, 16, .rwf, 0, .any⟩
def EST_VEND.VSD : Fld := ⟨0x60070020, 0, 16, .rwf, 0, .any⟩
def EST_IREF.ICREF : Fld := ⟨0x60070024, 16, 16, .rwf, 20, (.range 1 500)⟩
def EST_IREF.IDREF : Fld := ⟨0x60070024, 0, 16, .rwf, 50, (.range 1 500)⟩
def EST_SLEW.SLEW : Fld := ⟨0x60070028, 0, 8, .rwf, 50, (.range 1 255)⟩
def EST_PLATRES.PLATRES : Fld := ⟨0x6007002c, 0, 16, .rwf, 10, (.range 0 500)⟩
def EST_VLIM.VMAX : Fld := ⟨0x60070030, 16, 16, .rwf, 0, .any⟩
def EST_VLIM.VMIN : Fld := ⟨0x60070030, 0, 16, .rwf, 0, .any⟩
def EST_ILIMCH.MA : Fld := ⟨0x60070034, 0, 32, .rwf, 2147483647, .any⟩
def EST_ILIMDC.MA : Fld := ⟨0x60070038, 0, 32, .rwf, 2147483649, .any⟩
def EST_LIMCFG.HOR : Fld := ⟨0x6007003c, 4, 2, .rwf, 1, (.range 0 2)⟩
def EST_LIMCFG.HOLD : Fld := ⟨0x6007003c, 0, 4, .rwf, 3, (.range 1 15)⟩
def EST_ISTRCH.MA : Fld := ⟨0x60070040, 0, 32, .ro, 0, .any⟩
def EST_ISTRDC.MA : Fld := ⟨0x60070044, 0, 32, .ro, 0, .any⟩
def EST_SCH2.MA : Fld := ⟨0x60070048, 0, 32, .ro, 0, .any⟩
def EST_SCH10.MA : Fld := ⟨0x6007004c, 0, 32, .ro, 0, .any⟩
def EST_SCH30.MA : Fld := ⟨0x60070050, 0, 32, .ro, 0, .any⟩
def EST_SDC2.MA : Fld := ⟨0x60070054, 0, 32, .ro, 0, .any⟩
def EST_SDC10.MA : Fld := ⟨0x60070058, 0, 32, .ro, 0, .any⟩
def EST_SDC30.MA : Fld := ⟨0x6007005c, 0, 32, .ro, 0, .any⟩
def EST_USOC.SPLIT : Fld := ⟨0x60070060, 17, 1, .ro, 0, .any⟩
def EST_USOC.VALID : Fld := ⟨0x60070060, 16, 1, .ro, 0, .any⟩
def EST_USOC.SOC : Fld := ⟨0x60070060, 0, 16, .ro, 0, .any⟩
def EST_USOCMIN.CELL : Fld := ⟨0x60070064, 16, 9, .ro, 0, .any⟩
def EST_USOCMIN.USOC : Fld := ⟨0x60070064, 0, 16, .ro, 0, .any⟩
def EST_USOCMAX.CELL : Fld := ⟨0x60070068, 16, 9, .ro, 0, .any⟩
def EST_USOCMAX.USOC : Fld := ⟨0x60070068, 0, 16, .ro, 0, .any⟩
def EST_PLATMIN.CELL : Fld := ⟨0x6007006c, 16, 9, .ro, 0, .any⟩
def EST_PLATMIN.PLAT : Fld := ⟨0x6007006c, 0, 16, .ro, 32768, .any⟩
def EST_SWEEP.SWEEP : Fld := ⟨0x60070070, 0, 32, .ro, 0, .any⟩
def EST_ANCHCNT.B : Fld := ⟨0x60070074, 16, 16, .ro, 0, .any⟩
def EST_ANCHCNT.A : Fld := ⟨0x60070074, 0, 16, .ro, 0, .any⟩
def EST_SOC.SOC (n : Nat) : Fld := ⟨(0x60071000 + 4 * n), 16, 16, .ro, 0, .any⟩
def EST_SOC.USOC (n : Nat) : Fld := ⟨(0x60071000 + 4 * n), 0, 16, .ro, 0, .any⟩
def EST_CST.FLAGS (n : Nat) : Fld := ⟨(0x60071800 + 4 * n), 24, 8, .ro, 0, .any⟩
def EST_CST.SIG (n : Nat) : Fld := ⟨(0x60071800 + 4 * n), 16, 8, .ro, 0, .any⟩
def EST_CST.PLAT (n : Nat) : Fld := ⟨(0x60071800 + 4 * n), 0, 16, .ro, 32768, .any⟩
def EST_END.E100 (n : Nat) : Fld := ⟨(0x60072000 + 4 * n), 16, 16, .ro, 0, .any⟩
def EST_END.E0 (n : Nat) : Fld := ⟨(0x60072000 + 4 * n), 0, 16, .ro, 0, .any⟩
def EST_LSTAT.NSUSP : Fld := ⟨0x60070100, 16, 10, .ro, 0, .any⟩
def EST_LSTAT.XACT : Fld := ⟨0x60070100, 2, 1, .ro, 0, .any⟩
def EST_LSTAT.LCB_BAD : Fld := ⟨0x60070100, 1, 1, .ro, 0, .any⟩
def EST_LSTAT.LVALID : Fld := ⟨0x60070100, 0, 1, .ro, 0, .any⟩
def EST_LFLT.LCB_BAD : Fld := ⟨0x60070104, 4, 1, .w1c, 0, .any⟩
def EST_LFLT.FORGOT : Fld := ⟨0x60070104, 3, 1, .w1c, 0, .any⟩
def EST_LFLT.SUSPECT : Fld := ⟨0x60070104, 2, 1, .w1c, 0, .any⟩
def EST_LFLT.CAP_REJ : Fld := ⟨0x60070104, 1, 1, .w1c, 0, .any⟩
def EST_LFLT.CAP_ACC : Fld := ⟨0x60070104, 0, 1, .w1c, 0, .any⟩
def EST_LSNAP.DONE : Fld := ⟨0x60070108, 9, 1, .ro, 0, .any⟩
def EST_LSNAP.REQ : Fld := ⟨0x60070108, 8, 1, .rwf, 0, .any⟩
def EST_LSNAP.BLOCK : Fld := ⟨0x60070108, 0, 5, .rwf, 0, .any⟩
def EST_LSNAPSW.SWEEP : Fld := ⟨0x6007010c, 0, 32, .ro, 0, .any⟩
def EST_LDIRTY.BLOCKS : Fld := ⟨0x60070110, 0, 32, .w1c, 0, .any⟩
def EST_CAPCNT.REJ : Fld := ⟨0x60070114, 16, 16, .ro, 0, .any⟩
def EST_CAPCNT.ACC : Fld := ⟨0x60070114, 0, 16, .ro, 0, .any⟩
def EST_LASTCAP.RESULT : Fld := ⟨0x60070118, 12, 2, .ro, 0, .any⟩
def EST_LASTCAP.CELL : Fld := ⟨0x60070118, 0, 9, .ro, 0, .any⟩
def EST_LASTCAPM.MAH : Fld := ⟨0x6007011c, 0, 32, .ro, 4294967295, .any⟩
def EST_XNEED.N : Fld := ⟨0x60070120, 0, 10, .ro, 0, .any⟩
def EST_SUSP.BITS (n : Nat) : Fld := ⟨(0x60070180 + 4 * n), 0, 32, .ro, 0, .any⟩
def EST_LSNAPBUF.WORD (n : Nat) : Fld := ⟨(0x60070200 + 4 * n), 0, 32, .ro, 0, .any⟩
def EST_LED.WORD (n : Nat) : Fld := ⟨(0x60072800 + 4 * n), 0, 32, .ro, 0, .any⟩
def EST_ZR.RLF (n : Nat) : Fld := ⟨(0x60076800 + 4 * n), 16, 16, .ro, 65535, .any⟩
def EST_ZR.RHF (n : Nat) : Fld := ⟨(0x60076800 + 4 * n), 0, 16, .ro, 65535, .any⟩
def PRT_CELL_OV.TRIP : Fld := ⟨0x60080000, 16, 16, .rwf, 0, .any⟩
def PRT_CELL_OV.WARN : Fld := ⟨0x60080000, 0, 16, .rwf, 0, .any⟩
def PRT_CELL_UV.TRIP : Fld := ⟨0x60080004, 16, 16, .rwf, 0, .any⟩
def PRT_CELL_UV.WARN : Fld := ⟨0x60080004, 0, 16, .rwf, 0, .any⟩
def PRT_UNIT_VTH.UVTH : Fld := ⟨0x60080008, 16, 16, .rwf, 0, .any⟩
def PRT_UNIT_VTH.OVTH : Fld := ⟨0x60080008, 0, 16, .rwf, 0, .any⟩
def PRT_STR_OV.MV : Fld := ⟨0x6008000c, 0, 32, .rwf, 0, .any⟩
def PRT_STR_UV.MV : Fld := ⟨0x60080010, 0, 32, .rwf, 0, .any⟩
def PRT_OC_FAST.DCH : Fld := ⟨0x60080014, 16, 16, .rwf, 0, .any⟩
def PRT_OC_FAST.CHG : Fld := ⟨0x60080014, 0, 16, .rwf, 0, .any⟩
def PRT_I2T_CHG.K : Fld := ⟨0x60080018, 16, 16, .rwf, 0, .any⟩
def PRT_I2T_CHG.ICONT : Fld := ⟨0x60080018, 0, 16, .rwf, 0, .any⟩
def PRT_I2T_DCH.K : Fld := ⟨0x6008001c, 16, 16, .rwf, 0, .any⟩
def PRT_I2T_DCH.ICONT : Fld := ⟨0x6008001c, 0, 16, .rwf, 0, .any⟩
def PRT_TWIN_CHG.HIGH : Fld := ⟨0x60080020, 16, 16, .rwf, 0, .any⟩
def PRT_TWIN_CHG.LOW : Fld := ⟨0x60080020, 0, 16, .rwf, 0, .any⟩
def PRT_TWIN_DCH.HIGH : Fld := ⟨0x60080024, 16, 16, .rwf, 0, .any⟩
def PRT_TWIN_DCH.LOW : Fld := ⟨0x60080024, 0, 16, .rwf, 0, .any⟩
def PRT_ISO.TRIP : Fld := ⟨0x60080028, 16, 16, .rwf, 0, .any⟩
def PRT_ISO.WARN : Fld := ⟨0x60080028, 0, 16, .rwf, 0, .any⟩
def PRT_SWDOG.TMO : Fld := ⟨0x6008002c, 0, 16, .rwf, 50, .any⟩
def PRT_INT.R1SII : Fld := ⟨0x60080030, 16, 1, .rwf, 0, .any⟩
def PRT_INT.DEB : Fld := ⟨0x60080030, 8, 8, .rwf, 4, .any⟩
def PRT_INT.HBTMO : Fld := ⟨0x60080030, 0, 8, .rwf, 10, .any⟩
def PRT_STAT.RCODE : Fld := ⟨0x60080040, 28, 4, .ro, 0, .any⟩
def PRT_STAT.SVINV : Fld := ⟨0x60080040, 9, 1, .ro, 0, .any⟩
def PRT_STAT.ISO_TRIP : Fld := ⟨0x60080040, 8, 1, .ro, 0, .any⟩
def PRT_STAT.ISO_WARN : Fld := ⟨0x60080040, 7, 1, .ro, 0, .any⟩
def PRT_STAT.WARN_UV : Fld := ⟨0x60080040, 6, 1, .ro, 0, .any⟩
def PRT_STAT.WARN_OV : Fld := ⟨0x60080040, 5, 1, .ro, 0, .any⟩
def PRT_STAT.DCHINH : Fld := ⟨0x60080040, 4, 1, .ro, 0, .any⟩
def PRT_STAT.CHGINH : Fld := ⟨0x60080040, 3, 1, .ro, 0, .any⟩
def PRT_STAT.COPY_OK : Fld := ⟨0x60080040, 2, 1, .ro, 0, .any⟩
def PRT_STAT.PEND : Fld := ⟨0x60080040, 1, 1, .ro, 0, .any⟩
def PRT_STAT.VALID : Fld := ⟨0x60080040, 0, 1, .ro, 0, .any⟩
def PRT_FLT.CELL_WARN : Fld := ⟨0x60080044, 11, 1, .w1c, 0, .any⟩
def PRT_FLT.TWIN_DCH : Fld := ⟨0x60080044, 10, 1, .w1c, 0, .any⟩
def PRT_FLT.TWIN_CHG : Fld := ⟨0x60080044, 9, 1, .w1c, 0, .any⟩
def PRT_FLT.ISO_TRIP : Fld := ⟨0x60080044, 8, 1, .w1c, 0, .any⟩
def PRT_FLT.I2T_DCH : Fld := ⟨0x60080044, 7, 1, .w1c, 0, .any⟩
def PRT_FLT.I2T_CHG : Fld := ⟨0x60080044, 6, 1, .w1c, 0, .any⟩
def PRT_FLT.STR_UV : Fld := ⟨0x60080044, 5, 1, .w1c, 0, .any⟩
def PRT_FLT.STR_OV : Fld := ⟨0x60080044, 4, 1, .w1c, 0, .any⟩
def PRT_FLT.COPY_UNIT : Fld := ⟨0x60080044, 3, 1, .w1c, 0, .any⟩
def PRT_FLT.COPY_HVM : Fld := ⟨0x60080044, 2, 1, .w1c, 0, .any⟩
def PRT_FLT.COPY_CRB : Fld := ⟨0x60080044, 1, 1, .w1c, 0, .any⟩
def PRT_FLT.REJECT : Fld := ⟨0x60080044, 0, 1, .w1c, 0, .any⟩
def PRT_CRC.CRC : Fld := ⟨0x60080048, 0, 32, .ro, 0, .any⟩
def PRT_COMMITSW.SWEEP : Fld := ⟨0x6008004c, 0, 32, .ro, 0, .any⟩
def PRT_I2TSTAT.DCH : Fld := ⟨0x60080050, 16, 16, .ro, 0, .any⟩
def PRT_I2TSTAT.CHG : Fld := ⟨0x60080050, 0, 16, .ro, 0, .any⟩
def CRB_STAT.CLAIMBLK : Fld := ⟨0x60090000, 16, 1, .ro, 0, .any⟩
def CRB_STAT.STEST_OK : Fld := ⟨0x60090000, 15, 1, .ro, 0, .any⟩
def CRB_STAT.SCFG_OK : Fld := ⟨0x60090000, 14, 1, .ro, 0, .any⟩
def CRB_STAT.ARCH : Fld := ⟨0x60090000, 12, 2, .ro, 0, .any⟩
def CRB_STAT.SHUNT : Fld := ⟨0x60090000, 11, 1, .ro, 0, .any⟩
def CRB_STAT.LS13 : Fld := ⟨0x60090000, 10, 1, .ro, 0, .any⟩
def CRB_STAT.LS12 : Fld := ⟨0x60090000, 9, 1, .ro, 0, .any⟩
def CRB_STAT.PERMIT : Fld := ⟨0x60090000, 8, 1, .ro, 0, .any⟩
def CRB_STAT.GUARD : Fld := ⟨0x60090000, 4, 2, .ro, 0, .any⟩
def CRB_STAT.STATE : Fld := ⟨0x60090000, 0, 3, .ro, 0, .any⟩
def CRB_CAUSE.WORD : Fld := ⟨0x60090004, 0, 32, .ro, 0, .any⟩
def CRB_INPUT.CAUSES : Fld := ⟨0x60090008, 1, 19, .ro, 0, .any⟩
def CRB_FLT.SEAL_REF : Fld := ⟨0x6009000c, 9, 1, .w1c, 0, .any⟩
def CRB_FLT.ENVELOPE : Fld := ⟨0x6009000c, 8, 1, .w1c, 0, .any⟩
def CRB_FLT.WELD : Fld := ⟨0x6009000c, 7, 1, .w1c, 0, .any⟩
def CRB_FLT.CHAN2 : Fld := ⟨0x6009000c, 6, 1, .w1c, 0, .any⟩
def CRB_FLT.OSC : Fld := ⟨0x6009000c, 5, 1, .w1c, 0, .any⟩
def CRB_FLT.DISCREP : Fld := ⟨0x6009000c, 4, 1, .w1c, 0, .any⟩
def CRB_FLT.XSHORT : Fld := ⟨0x6009000c, 3, 1, .w1c, 0, .any⟩
def CRB_FLT.HB_SEQ : Fld := ⟨0x6009000c, 2, 1, .w1c, 0, .any⟩
def CRB_FLT.RESET_REF : Fld := ⟨0x6009000c, 1, 1, .w1c, 0, .any⟩
def CRB_FLT.STOP : Fld := ⟨0x6009000c, 0, 1, .w1c, 0, .any⟩
def CRB_HB.SEQ : Fld := ⟨0x60090010, 0, 8, .rwf, 0, .any⟩
def CRB_CMD.SII : Fld := ⟨0x60090014, 1, 1, .cmd, 0, .any⟩
def CRB_CMD.SRS : Fld := ⟨0x60090014, 0, 1, .cmd, 0, .any⟩
def CRB_RESET.KEY : Fld := ⟨0x60090018, 0, 32, .wo, 0, .any⟩
def CRB_SRSI0.MA : Fld := ⟨0x6009001c, 0, 32, .ro, 0, .any⟩
def CRB_SRST.MS : Fld := ⟨0x60090020, 0, 16, .ro, 0, .any⟩
def CRB_SCFG.WORD (n : Nat) : Fld := ⟨(0x60090030 + 4 * n), 0, 32, .rws, 0, .any⟩
def CRB_SCFGCRC.CRC : Fld := ⟨0x60090040, 0, 32, .rws, 0, .any⟩
def CRB_STG.WORD (n : Nat) : Fld := ⟨(0x60090050 + 4 * n), 0, 32, .rwf, 0, .any⟩
def CRB_STGCRC.CRC : Fld := ⟨0x60090060, 0, 32, .rwf, 0, .any⟩
def CRB_SEAL.KEY : Fld := ⟨0x60090064, 0, 32, .wo, 0, .any⟩
def CRB_SEALSTAT.RESULT : Fld := ⟨0x60090068, 0, 3, .ro, 0, .any⟩
def GGN_CTRL.RUN : Fld := ⟨0x600a0000, 0, 1, .rwf, 0, .any⟩
def GGN_GO.G2 : Fld := ⟨0x600a0004, 1, 1, .wo, 0, .any⟩
def GGN_GO.G1 : Fld := ⟨0x600a0004, 0, 1, .wo, 0, .any⟩
def GGN_PUB.PUBSEL : Fld := ⟨0x600a0008, 8, 2, .rwf, 0, .any⟩
def GGN_PUB.PERIOD : Fld := ⟨0x600a0008, 0, 8, .rwf, 10, (.range 1 100)⟩
def GGN_DSP.MA : Fld := ⟨0x600a000c, 0, 32, .ro, 0, .any⟩
def GGN_DLO.MA : Fld := ⟨0x600a0010, 0, 32, .ro, 0, .any⟩
def GGN_DHI.MA : Fld := ⟨0x600a0014, 0, 32, .ro, 0, .any⟩
def GGN_STAT.IDLE : Fld := ⟨0x600a0018, 4, 4, .ro, 1, .any⟩
def GGN_STAT.CLAMPPUB : Fld := ⟨0x600a0018, 3, 1, .ro, 0, .any⟩
def GGN_STAT.PURSUIT : Fld := ⟨0x600a0018, 2, 1, .ro, 0, .any⟩
def GGN_STAT.SAFE : Fld := ⟨0x600a0018, 1, 1, .ro, 0, .any⟩
def GGN_STAT.GATED : Fld := ⟨0x600a0018, 0, 1, .ro, 0, .any⟩
def GGN_xCTRL.HARD (n : Nat) : Fld := ⟨(0x600a0100 + 0x40 * n), 16, 1, .rwf, 0, (if n = 0 then .any else .range 0 0)⟩
def GGN_xCTRL.STEPW (n : Nat) : Fld := ⟨(0x600a0100 + 0x40 * n), 8, 5, .rwf, 5, (.range 2 20)⟩
def GGN_xCTRL.GRP (n : Nat) : Fld := ⟨(0x600a0100 + 0x40 * n), 4, 2, .rwf, 0, (.range 0 2)⟩
def GGN_xCTRL.ENINV (n : Nat) : Fld := ⟨(0x600a0100 + 0x40 * n), 2, 1, .rwf, 0, (if n = 0 then .range 0 0 else .any)⟩
def GGN_xCTRL.DIRINV (n : Nat) : Fld := ⟨(0x600a0100 + 0x40 * n), 1, 1, .rwf, 0, (if n = 0 then .range 0 0 else .any)⟩
def GGN_xCTRL.EN (n : Nat) : Fld := ⟨(0x600a0100 + 0x40 * n), 0, 1, .rwf, 0, .any⟩
def GGN_xTGT.VAL (n : Nat) : Fld := ⟨(0x600a0104 + 0x40 * n), 0, 32, .rwf, 0, .any⟩
def GGN_xVMAX.VAL (n : Nat) : Fld := ⟨(0x600a0108 + 0x40 * n), 0, 32, .rwf, 0, .any⟩
def GGN_xAMAX.VAL (n : Nat) : Fld := ⟨(0x600a010c + 0x40 * n), 0, 32, .rwf, 0, .any⟩
def GGN_xJMAX.VAL (n : Nat) : Fld := ⟨(0x600a0110 + 0x40 * n), 0, 32, .rwf, 0, .any⟩
def GGN_xSACC.VAL (n : Nat) : Fld := ⟨(0x600a0114 + 0x40 * n), 0, 32, .rwf, 0, .any⟩
def GGN_xSJRK.VAL (n : Nat) : Fld := ⟨(0x600a0118 + 0x40 * n), 0, 32, .rwf, 0, .any⟩
def GGN_xCMD.SETPOS (n : Nat) : Fld := ⟨(0x600a011c + 0x40 * n), 2, 1, .cmd, 0, .any⟩
def GGN_xCMD.FLUSH (n : Nat) : Fld := ⟨(0x600a011c + 0x40 * n), 1, 1, .cmd, 0, .any⟩
def GGN_xCMD.STOP (n : Nat) : Fld := ⟨(0x600a011c + 0x40 * n), 0, 1, .cmd, 0, .any⟩
def GGN_xPOSSET.VAL (n : Nat) : Fld := ⟨(0x600a0120 + 0x40 * n), 0, 32, .rwf, 0, .any⟩
def GGN_xPOS.VAL (n : Nat) : Fld := ⟨(0x600a0124 + 0x40 * n), 0, 32, .ro, 0, .any⟩
def GGN_xVEL.VAL (n : Nat) : Fld := ⟨(0x600a0128 + 0x40 * n), 0, 32, .ro, 0, .any⟩
def GGN_xACC.VAL (n : Nat) : Fld := ⟨(0x600a012c + 0x40 * n), 0, 32, .ro, 0, .any⟩
def GGN_xSTAT.POSLOST (n : Nat) : Fld := ⟨(0x600a0130 + 0x40 * n), 12, 1, .ro, (if n = 0 then 0 else 1), .any⟩
def GGN_xSTAT.CLAMPED (n : Nat) : Fld := ⟨(0x600a0130 + 0x40 * n), 11, 1, .ro, 0, .any⟩
def GGN_xSTAT.QCOUNT (n : Nat) : Fld := ⟨(0x600a0130 + 0x40 * n), 8, 3, .ro, 0, .any⟩
def GGN_xSTAT.STAGED (n : Nat) : Fld := ⟨(0x600a0130 + 0x40 * n), 7, 1, .ro, 0, .any⟩
def GGN_xSTAT.LINKED (n : Nat) : Fld := ⟨(0x600a0130 + 0x40 * n), 6, 1, .ro, 0, .any⟩
def GGN_xSTAT.ACCEL_DEFERRED (n : Nat) : Fld := ⟨(0x600a0130 + 0x40 * n), 5, 1, .ro, 0, .any⟩
def GGN_xSTAT.DECEL (n : Nat) : Fld := ⟨(0x600a0130 + 0x40 * n), 4, 1, .ro, 0, .any⟩
def GGN_xSTAT.STATE (n : Nat) : Fld := ⟨(0x600a0130 + 0x40 * n), 0, 3, .ro, (if n = 0 then 0 else 5), .any⟩
def GGN_xFLT.LOCKED (n : Nat) : Fld := ⟨(0x600a0134 + 0x40 * n), 7, 1, .w1c, 0, .any⟩
def GGN_xFLT.SETPOS_REF (n : Nat) : Fld := ⟨(0x600a0134 + 0x40 * n), 6, 1, .w1c, 0, .any⟩
def GGN_xFLT.GRPBRK (n : Nat) : Fld := ⟨(0x600a0134 + 0x40 * n), 5, 1, .w1c, 0, .any⟩
def GGN_xFLT.THERM (n : Nat) : Fld := ⟨(0x600a0134 + 0x40 * n), 4, 1, .w1c, 0, .any⟩
def GGN_xFLT.CLAMP (n : Nat) : Fld := ⟨(0x600a0134 + 0x40 * n), 3, 1, .w1c, 0, .any⟩
def GGN_xFLT.ACCEL_DEFERRED (n : Nat) : Fld := ⟨(0x600a0134 + 0x40 * n), 2, 1, .w1c, 0, .any⟩
def GGN_xFLT.BADPAR (n : Nat) : Fld := ⟨(0x600a0134 + 0x40 * n), 1, 1, .w1c, 0, .any⟩
def GGN_xFLT.QFULL (n : Nat) : Fld := ⟨(0x600a0134 + 0x40 * n), 0, 1, .w1c, 0, .any⟩
def FIO_DOSET.DO : Fld := ⟨0x600b0000, 0, 15, .rwf, 0, .any⟩
def FIO_DOSTAT.RB : Fld := ⟨0x600b0004, 16, 16, .ro, 0, .any⟩
def FIO_DOSTAT.ON : Fld := ⟨0x600b0004, 0, 16, .ro, 0, .any⟩
def FIO_STAT.LSHOLD13 : Fld := ⟨0x600b0008, 13, 1, .ro, 0, .any⟩
def FIO_STAT.LSHOLD12 : Fld := ⟨0x600b0008, 12, 1, .ro, 0, .any⟩
def FIO_STAT.TESTCH : Fld := ⟨0x600b0008, 8, 4, .ro, 0, .any⟩
def FIO_STAT.TEST_BUSY : Fld := ⟨0x600b0008, 7, 1, .ro, 0, .any⟩
def FIO_STAT.SHUNT : Fld := ⟨0x600b0008, 6, 1, .ro, 0, .any⟩
def FIO_STAT.FORCE : Fld := ⟨0x600b0008, 5, 1, .ro, 0, .any⟩
def FIO_STAT.GATED : Fld := ⟨0x600b0008, 4, 1, .ro, 0, .any⟩
def FIO_STAT.WD_EXP : Fld := ⟨0x600b0008, 3, 1, .ro, 0, .any⟩
def FIO_STAT.WD_RUN : Fld := ⟨0x600b0008, 2, 1, .ro, 0, .any⟩
def FIO_STAT.VF2_OK : Fld := ⟨0x600b0008, 1, 1, .ro, 0, .any⟩
def FIO_STAT.VF1_OK : Fld := ⟨0x600b0008, 0, 1, .ro, 0, .any⟩
def FIO_FLT.TS_OVL : Fld := ⟨0x600b000c, 5, 4, .w1c, 0, .any⟩
def FIO_FLT.REL_REF : Fld := ⟨0x600b000c, 4, 1, .w1c, 0, .any⟩
def FIO_FLT.WD_KEY : Fld := ⟨0x600b000c, 3, 1, .w1c, 0, .any⟩
def FIO_FLT.WD_EXP : Fld := ⟨0x600b000c, 2, 1, .w1c, 0, .any⟩
def FIO_FLT.VF2_LOW : Fld := ⟨0x600b000c, 1, 1, .w1c, 0, .any⟩
def FIO_FLT.VF1_LOW : Fld := ⟨0x600b000c, 0, 1, .w1c, 0, .any⟩
def FIO_CMD.CNTCLR : Fld := ⟨0x600b0010, 8, 4, .cmd, 0, .any⟩
def FIO_CMD.LS13_REL : Fld := ⟨0x600b0010, 2, 1, .cmd, 0, .any⟩
def FIO_CMD.LS12_REL : Fld := ⟨0x600b0010, 1, 1, .cmd, 0, .any⟩
def FIO_CMD.WD_REARM : Fld := ⟨0x600b0010, 0, 1, .cmd, 0, .any⟩
def FIO_TPCFG.LW : Fld := ⟨0x600b0014, 24, 8, .rwf, 20, (.range 5 40)⟩
def FIO_TPCFG.DW : Fld := ⟨0x600b0014, 16, 8, .rwf, 40, (.range 5 40)⟩
def FIO_TPCFG.PERIOD : Fld := ⟨0x600b0014, 0, 16, .rwf, 1000, (.range 100 10000)⟩
def FIO_ECOCFG.DUTY : Fld := ⟨0x600b0018, 16, 8, .rwf, 30, (.range 20 60)⟩
def FIO_ECOCFG.PULLIN : Fld := ⟨0x600b0018, 0, 16, .rwf, 100, (.range 20 1000)⟩
def FIO_WDCFG.EN : Fld := ⟨0x600b001c, 31, 1, .rwf, 0, .any⟩
def FIO_WDCFG.TMO : Fld := ⟨0x600b001c, 0, 10, .rwf, 100, (.range 1 1000)⟩
def FIO_WDKEY.KEY : Fld := ⟨0x600b0020, 0, 32, .wo, 0, .any⟩
def FIO_TSCFG.TPER : Fld := ⟨0x600b0024, 16, 8, .rwf, 20, (.range 5 100)⟩
def FIO_TSCFG.TPW : Fld := ⟨0x600b0024, 8, 8, .rwf, 50, (.range 10 100)⟩
def FIO_TSCFG.EN : Fld := ⟨0x600b0024, 0, 4, .rwf, 15, .any⟩
def FIO_DISTAT.RAW : Fld := ⟨0x600b0028, 16, 16, .ro, 0, .any⟩
def FIO_DISTAT.FILT : Fld := ⟨0x600b0028, 0, 16, .ro, 0, .any⟩
def FIO_DIFLT.XSHORT : Fld := ⟨0x600b002c, 0, 12, .w1c, 0, .any⟩
def FIO_DIWAKE.DI : Fld := ⟨0x600b0030, 0, 12, .rwf, 0, .any⟩
def FIO_DOCFG.ECO (n : Nat) : Fld := ⟨(0x600b0100 + 4 * n), 8, 1, .rwf, (if 12 ≤ n ∧ n ≤ 14 then 1 else 0), (if 12 ≤ n ∧ n ≤ 14 then .any else .range 0 0)⟩
def FIO_DOCFG.OLON (n : Nat) : Fld := ⟨(0x600b0100 + 4 * n), 7, 1, .rwf, 1, .any⟩
def FIO_DOCFG.OLOFF (n : Nat) : Fld := ⟨(0x600b0100 + 4 * n), 6, 1, .rwf, (if 12 ≤ n then 1 else 0), .any⟩
def FIO_DOCFG.LTEST (n : Nat) : Fld := ⟨(0x600b0100 + 4 * n), 5, 1, .rwf, 0, (if n = 15 then .range 0 0 else .any)⟩
def FIO_DOCFG.DTEST (n : Nat) : Fld := ⟨(0x600b0100 + 4 * n), 4, 1, .rwf, (if 12 ≤ n then 1 else 0), .any⟩
def FIO_DOCFG.SAFE (n : Nat) : Fld := ⟨(0x600b0100 + 4 * n), 0, 2, .rwf, 0, (if n < 12 then .range 0 2 else .range 0 0)⟩
def FIO_DOFLT.OFF_HIGH (n : Nat) : Fld := ⟨(0x600b0140 + 4 * n), 20, 1, .ro, 0, .any⟩
def FIO_DOFLT.TIEDWITH (n : Nat) : Fld := ⟨(0x600b0140 + 4 * n), 16, 4, .ro, 0, .any⟩
def FIO_DOFLT.TPSTARVE (n : Nat) : Fld := ⟨(0x600b0140 + 4 * n), 8, 1, .w1c, 0, .any⟩
def FIO_DOFLT.TIED (n : Nat) : Fld := ⟨(0x600b0140 + 4 * n), 7, 1, .w1c, 0, .any⟩
def FIO_DOFLT.STUCK_ON (n : Nat) : Fld := ⟨(0x600b0140 + 4 * n), 6, 1, .w1c, 0, .any⟩
def FIO_DOFLT.LIGHT_FAIL (n : Nat) : Fld := ⟨(0x600b0140 + 4 * n), 5, 1, .w1c, 0, .any⟩
def FIO_DOFLT.DARK_FAIL (n : Nat) : Fld := ⟨(0x600b0140 + 4 * n), 4, 1, .w1c, 0, .any⟩
def FIO_DOFLT.OT (n : Nat) : Fld := ⟨(0x600b0140 + 4 * n), 3, 1, .w1c, 0, .any⟩
def FIO_DOFLT.OL_ON (n : Nat) : Fld := ⟨(0x600b0140 + 4 * n), 2, 1, .w1c, 0, .any⟩
def FIO_DOFLT.OL_OFF (n : Nat) : Fld := ⟨(0x600b0140 + 4 * n), 1, 1, .w1c, 0, .any⟩
def FIO_DOFLT.OVL (n : Nat) : Fld := ⟨(0x600b0140 + 4 * n), 0, 1, .w1c, 0, .any⟩
def FIO_DICFG.EDGE (n : Nat) : Fld := ⟨(0x600b0200 + 4 * n), 12, 2, .rwf, 0, .any⟩
def FIO_DICFG.TSSEL (n : Nat) : Fld := ⟨(0x600b0200 + 4 * n), 10, 2, (if n ≤ 1 then .ro else .rwf), (if n = 1 then 1 else 0), .any⟩
def FIO_DICFG.TSEN (n : Nat) : Fld := ⟨(0x600b0200 + 4 * n), 9, 1, (if n ≤ 1 then .ro else .rwf), (if n ≤ 1 then 1 else 0), .any⟩
def FIO_DICFG.PULSED (n : Nat) : Fld := ⟨(0x600b0200 + 4 * n), 8, 1, (if n ≤ 1 then .ro else .rwf), 0, .any⟩
def FIO_DICFG.FILT (n : Nat) : Fld := ⟨(0x600b0200 + 4 * n), 0, 8, .rwf, 30, (.range 1 200)⟩
def FIO_CNTCFG.PTMO (n : Nat) : Fld := ⟨(0x600b0240 + 4 * n), 16, 16, .rwf, 1000, (.range 1 65535)⟩
def FIO_CNTCFG.EDGE (n : Nat) : Fld := ⟨(0x600b0240 + 4 * n), 0, 2, .rwf, 0, (.range 0 2)⟩
def FIO_CNT.COUNT (n : Nat) : Fld := ⟨(0x600b0250 + 4 * n), 0, 32, .ro, 0, .any⟩
def FIO_CNTPER.PER (n : Nat) : Fld := ⟨(0x600b0260 + 4 * n), 0, 32, .ro, 4294967295, .any⟩
def FIO_CNTCMP.CMP (n : Nat) : Fld := ⟨(0x600b0270 + 4 * n), 0, 32, .rwf, 4294967295, .any⟩
def CNx_CTRL.PXE (x : Nat) : Fld := ⟨(0x600c0000 + 0x10000 * x), 9, 1, .rwf, 0, .any⟩
def CNx_CTRL.FDEN (x : Nat) : Fld := ⟨(0x600c0000 + 0x10000 * x), 8, 1, .rwf, 1, .any⟩
def CNx_CTRL.BOAUTO (x : Nat) : Fld := ⟨(0x600c0000 + 0x10000 * x), 4, 1, .rwf, 0, .any⟩
def CNx_CTRL.MODE (x : Nat) : Fld := ⟨(0x600c0000 + 0x10000 * x), 0, 2, .rwf, 3, .any⟩
def CNx_CMD.ABORTALL (x : Nat) : Fld := ⟨(0x600c0004 + 0x10000 * x), 1, 1, .cmd, 0, .any⟩
def CNx_CMD.RECOVER (x : Nat) : Fld := ⟨(0x600c0004 + 0x10000 * x), 0, 1, .cmd, 0, .any⟩
def CNx_STAT.REC (x : Nat) : Fld := ⟨(0x600c0008 + 0x10000 * x), 24, 8, .ro, 0, .any⟩
def CNx_STAT.TEC (x : Nat) : Fld := ⟨(0x600c0008 + 0x10000 * x), 16, 8, .ro, 0, .any⟩
def CNx_STAT.LEC (x : Nat) : Fld := ⟨(0x600c0008 + 0x10000 * x), 8, 4, .ro, 0, .any⟩
def CNx_STAT.PADDOCK (x : Nat) : Fld := ⟨(0x600c0008 + 0x10000 * x), 4, 1, .ro, 0, .any⟩
def CNx_STAT.RESTR (x : Nat) : Fld := ⟨(0x600c0008 + 0x10000 * x), 3, 1, .ro, 0, .any⟩
def CNx_STAT.STATE (x : Nat) : Fld := ⟨(0x600c0008 + 0x10000 * x), 0, 2, .ro, 0, .any⟩
def CNx_FLT.DISP_CFG (x : Nat) : Fld := ⟨(0x600c000c + 0x10000 * x), 8, 1, .w1c, 0, .any⟩
def CNx_FLT.DISP_STALE (x : Nat) : Fld := ⟨(0x600c000c + 0x10000 * x), 7, 1, .w1c, 0, .any⟩
def CNx_FLT.PXE (x : Nat) : Fld := ⟨(0x600c000c + 0x10000 * x), 6, 1, .w1c, 0, .any⟩
def CNx_FLT.CFGWR (x : Nat) : Fld := ⟨(0x600c000c + 0x10000 * x), 5, 1, .w1c, 0, .any⟩
def CNx_FLT.BUSYWR (x : Nat) : Fld := ⟨(0x600c000c + 0x10000 * x), 4, 1, .w1c, 0, .any⟩
def CNx_FLT.RXLOST (x : Nat) : Fld := ⟨(0x600c000c + 0x10000 * x), 3, 1, .w1c, 0, .any⟩
def CNx_FLT.ONESHOT (x : Nat) : Fld := ⟨(0x600c000c + 0x10000 * x), 2, 1, .w1c, 0, .any⟩
def CNx_FLT.BUSOFF (x : Nat) : Fld := ⟨(0x600c000c + 0x10000 * x), 1, 1, .w1c, 0, .any⟩
def CNx_FLT.ERRPASS (x : Nat) : Fld := ⟨(0x600c000c + 0x10000 * x), 0, 1, .w1c, 0, .any⟩
def CNx_NBT.NSJW (x : Nat) : Fld := ⟨(0x600c0010 + 0x10000 * x), 25, 7, .rwf, 20, (.range 1 127)⟩
def CNx_NBT.NTSEG1 (x : Nat) : Fld := ⟨(0x600c0010 + 0x10000 * x), 16, 9, .rwf, 79, (.range 2 256)⟩
def CNx_NBT.NTSEG2 (x : Nat) : Fld := ⟨(0x600c0010 + 0x10000 * x), 9, 7, .rwf, 20, (.range 1 127)⟩
def CNx_NBT.NBRP (x : Nat) : Fld := ⟨(0x600c0010 + 0x10000 * x), 0, 9, .rwf, 2, (.range 1 511)⟩
def CNx_DBT.DSJW (x : Nat) : Fld := ⟨(0x600c0014 + 0x10000 * x), 24, 4, .rwf, 5, (.range 1 15)⟩
def CNx_DBT.DTSEG1 (x : Nat) : Fld := ⟨(0x600c0014 + 0x10000 * x), 16, 5, .rwf, 19, (.range 1 31)⟩
def CNx_DBT.DTSEG2 (x : Nat) : Fld := ⟨(0x600c0014 + 0x10000 * x), 8, 4, .rwf, 5, (.range 1 15)⟩
def CNx_DBT.DBRP (x : Nat) : Fld := ⟨(0x600c0014 + 0x10000 * x), 0, 5, .rwf, 2, (.range 1 31)⟩
def CNx_TDC.TDCV (x : Nat) : Fld := ⟨(0x600c0018 + 0x10000 * x), 16, 7, .ro, 0, .any⟩
def CNx_TDC.TDCEN (x : Nat) : Fld := ⟨(0x600c0018 + 0x10000 * x), 15, 1, .rwf, 1, .any⟩
def CNx_TDC.TDCO (x : Nat) : Fld := ⟨(0x600c0018 + 0x10000 * x), 0, 7, .rwf, 40, (.range 1 127)⟩
def CNA_PNBT.NSJW : Fld := ⟨0x600c0020, 25, 7, .rwf, 20, (.range 1 127)⟩
def CNA_PNBT.NTSEG1 : Fld := ⟨0x600c0020, 16, 9, .rwf, 79, (.range 2 256)⟩
def CNA_PNBT.NTSEG2 : Fld := ⟨0x600c0020, 9, 7, .rwf, 20, (.range 1 127)⟩
def CNA_PNBT.NBRP : Fld := ⟨0x600c0020, 0, 9, .rwf, 4, (.range 1 511)⟩
def CNA_PDBT.DSJW : Fld := ⟨0x600c0024, 24, 4, .rwf, 5, (.range 1 15)⟩
def CNA_PDBT.DTSEG1 : Fld := ⟨0x600c0024, 16, 5, .rwf, 19, (.range 1 31)⟩
def CNA_PDBT.DTSEG2 : Fld := ⟨0x600c0024, 8, 4, .rwf, 5, (.range 1 15)⟩
def CNA_PDBT.DBRP : Fld := ⟨0x600c0024, 0, 5, .rwf, 4, (.range 1 31)⟩
def CNB_DISP.EN : Fld := ⟨0x600d0028, 15, 1, .rwf, 0, .any⟩
def CNB_DISP.OBJ : Fld := ⟨0x600d0028, 0, 7, .rwf, 0, .any⟩
def CNB_DSEQ.SEQ : Fld := ⟨0x600d002c, 0, 16, .ro, 0, .any⟩
def CNx_TXREQ.BITS (x n : Nat) : Fld := ⟨(0x600c0040 + 0x10000 * x + 4 * n), 0, 32, .wo, 0, .any⟩
def CNx_TXABORT.BITS (x n : Nat) : Fld := ⟨(0x600c0050 + 0x10000 * x + 4 * n), 0, 32, .wo, 0, .any⟩
def CNx_TXPEND.BITS (x n : Nat) : Fld := ⟨(0x600c0060 + 0x10000 * x + 4 * n), 0, 32, .ro, 0, .any⟩
def CNx_TXDONE.BITS (x n : Nat) : Fld := ⟨(0x600c0070 + 0x10000 * x + 4 * n), 0, 32, .w1c, 0, .any⟩
def CNx_RXNEW.BITS (x n : Nat) : Fld := ⟨(0x600c0080 + 0x10000 * x + 4 * n), 0, 32, .w1c, 0, .any⟩
def CNx_RXTMO.BITS (x n : Nat) : Fld := ⟨(0x600c0090 + 0x10000 * x + 4 * n), 0, 32, .w1c, 0, .any⟩
def CNx_OCFG.EN (x n : Nat) : Fld := ⟨(0x600c1000 + 0x10000 * x + 0x80 * n), 31, 1, .rwf, 0, .any⟩
def CNx_OCFG.DIR (x n : Nat) : Fld := ⟨(0x600c1000 + 0x10000 * x + 0x80 * n), 30, 1, .rwf, 0, .any⟩
def CNx_OCFG.IDE (x n : Nat) : Fld := ⟨(0x600c1000 + 0x10000 * x + 0x80 * n), 29, 1, .rwf, 0, .any⟩
def CNx_OCFG.FMT (x n : Nat) : Fld := ⟨(0x600c1000 + 0x10000 * x + 0x80 * n), 27, 2, .rwf, 0, (.range 0 2)⟩
def CNx_OCFG.ONESHOT (x n : Nat) : Fld := ⟨(0x600c1000 + 0x10000 * x + 0x80 * n), 26, 1, .rwf, 0, .any⟩
def CNx_OCFG.GATED (x n : Nat) : Fld := ⟨(0x600c1000 + 0x10000 * x + 0x80 * n), 25, 1, .rwf, 0, .any⟩
def CNx_OCFG.WAKE (x n : Nat) : Fld := ⟨(0x600c1000 + 0x10000 * x + 0x80 * n), 24, 1, .rwf, 0, .any⟩
def CNx_OCFG.NEXT (x n : Nat) : Fld := ⟨(0x600c1000 + 0x10000 * x + 0x80 * n), 23, 1, .rwf, 0, .any⟩
def CNx_OCFG.IRQ (x n : Nat) : Fld := ⟨(0x600c1000 + 0x10000 * x + 0x80 * n), 22, 1, .rwf, 0, .any⟩
def CNx_OCFG.LEN (x n : Nat) : Fld := ⟨(0x600c1000 + 0x10000 * x + 0x80 * n), 0, 7, .rwf, 0, .canLen⟩
def CNx_OID.ID (x n : Nat) : Fld := ⟨(0x600c1004 + 0x10000 * x + 0x80 * n), 0, 29, .rwf, 0, .any⟩
def CNx_OMASK.MASK (x n : Nat) : Fld := ⟨(0x600c1008 + 0x10000 * x + 0x80 * n), 0, 29, .rwf, 536870911, .any⟩
def CNx_OSTAT.RXSEQ (x n : Nat) : Fld := ⟨(0x600c100c + 0x10000 * x + 0x80 * n), 28, 4, .ro, 0, .any⟩
def CNx_OSTAT.NEW (x n : Nat) : Fld := ⟨(0x600c100c + 0x10000 * x + 0x80 * n), 27, 1, .w1c, 0, .any⟩
def CNx_OSTAT.OVR (x n : Nat) : Fld := ⟨(0x600c100c + 0x10000 * x + 0x80 * n), 26, 1, .w1c, 0, .any⟩
def CNx_OSTAT.TMO (x n : Nat) : Fld := ⟨(0x600c100c + 0x10000 * x + 0x80 * n), 25, 1, .ro, 0, .any⟩
def CNx_OSTAT.TXPEND (x n : Nat) : Fld := ⟨(0x600c100c + 0x10000 * x + 0x80 * n), 24, 1, .ro, 0, .any⟩
def CNx_OSTAT.RES (x n : Nat) : Fld := ⟨(0x600c100c + 0x10000 * x + 0x80 * n), 20, 4, .ro, 0, .any⟩
def CNx_OSTAT.FDF (x n : Nat) : Fld := ⟨(0x600c100c + 0x10000 * x + 0x80 * n), 19, 1, .ro, 0, .any⟩
def CNx_OSTAT.BRS (x n : Nat) : Fld := ⟨(0x600c100c + 0x10000 * x + 0x80 * n), 18, 1, .ro, 0, .any⟩
def CNx_OSTAT.ESI (x n : Nat) : Fld := ⟨(0x600c100c + 0x10000 * x + 0x80 * n), 17, 1, .ro, 0, .any⟩
def CNx_OSTAT.IDE (x n : Nat) : Fld := ⟨(0x600c100c + 0x10000 * x + 0x80 * n), 16, 1, .ro, 0, .any⟩
def CNx_OSTAT.LEN (x n : Nat) : Fld := ⟨(0x600c100c + 0x10000 * x + 0x80 * n), 0, 7, .ro, 0, .any⟩
def CNx_OTSLO.NS (x n : Nat) : Fld := ⟨(0x600c1010 + 0x10000 * x + 0x80 * n), 0, 32, .ro, 0, .any⟩
def CNx_OTSHI.NS (x n : Nat) : Fld := ⟨(0x600c1014 + 0x10000 * x + 0x80 * n), 0, 32, .ro, 0, .any⟩
def CNx_ORTO.MS (x n : Nat) : Fld := ⟨(0x600c1018 + 0x10000 * x + 0x80 * n), 0, 16, .rwf, 0, .any⟩
def CNx_ORXID.ID (x n : Nat) : Fld := ⟨(0x600c101c + 0x10000 * x + 0x80 * n), 0, 29, .ro, 0, .any⟩
def CNx_ODATA.WORD (x n j : Nat) : Fld := ⟨(0x600C1020 + 0x10000 * x + 0x80 * n + 4 * j), 0, 32, .rwf, 0, .any⟩
def ETH_CTRL.ICMP_EN : Fld := ⟨0x600e0000, 3, 1, .rwf, 1, .any⟩
def ETH_CTRL.PLANT_EN : Fld := ⟨0x600e0000, 2, 1, .rwf, 0, .any⟩
def ETH_CTRL.P2EN : Fld := ⟨0x600e0000, 1, 1, .rwf, 0, .any⟩
def ETH_CTRL.P1EN : Fld := ⟨0x600e0000, 0, 1, .rwf, 0, .any⟩
def ETH_STAT.DEM_TMO : Fld := ⟨0x600e0004, 5, 1, .ro, 0, .any⟩
def ETH_STAT.DEM_OK : Fld := ⟨0x600e0004, 4, 1, .ro, 0, .any⟩
def ETH_STAT.P2LINK : Fld := ⟨0x600e0004, 1, 1, .ro, 0, .any⟩
def ETH_STAT.P1LINK : Fld := ⟨0x600e0004, 0, 1, .ro, 0, .any⟩
def ETH_FLT.DISP_CFG : Fld := ⟨0x600e0008, 4, 1, .w1c, 0, .any⟩
def ETH_FLT.ARPFAIL : Fld := ⟨0x600e0008, 3, 1, .w1c, 0, .any⟩
def ETH_FLT.DEM_TMO : Fld := ⟨0x600e0008, 2, 1, .w1c, 0, .any⟩
def ETH_FLT.P2CHG : Fld := ⟨0x600e0008, 1, 1, .w1c, 0, .any⟩
def ETH_FLT.P1CHG : Fld := ⟨0x600e0008, 0, 1, .w1c, 0, .any⟩
def ETH_MACLO.MAC : Fld := ⟨0x600e0010, 0, 32, .rwf, 0, .any⟩
def ETH_MACHI.MAC : Fld := ⟨0x600e0014, 0, 16, .rwf, 0, .any⟩
def ETH_IPADDR.IP : Fld := ⟨0x600e0018, 0, 32, .rwf, 0, .any⟩
def ETH_NETMASK.IP : Fld := ⟨0x600e001c, 0, 32, .rwf, 0, .any⟩
def ETH_GW.IP : Fld := ⟨0x600e0020, 0, 32, .rwf, 0, .any⟩
def ETH_UDPPORT.PORT : Fld := ⟨0x600e0024, 0, 16, .rwf, 47210, .any⟩
def ETH_PLANTIP.IP : Fld := ⟨0x600e0028, 0, 32, .rwf, 0, .any⟩
def ETH_TELCFG.EN : Fld := ⟨0x600e002c, 16, 1, .rwf, 0, .any⟩
def ETH_TELCFG.PERIOD : Fld := ⟨0x600e002c, 0, 16, .rwf, 100, (.range 10 10000)⟩
def ETH_DISPIP.IP : Fld := ⟨0x600e0030, 0, 32, .rwf, 0, .any⟩
def ETH_DISPPORT.PORT : Fld := ⟨0x600e0034, 0, 16, .rwf, 47210, .any⟩
def ETH_DEMCFG.AGEMAX : Fld := ⟨0x600e0038, 16, 8, .rwf, 50, (.range 1 255)⟩
def ETH_DEMCFG.DTMO : Fld := ⟨0x600e0038, 0, 16, .rwf, 300, (.range 10 10000)⟩
def ETH_DEMSEQ.SEQ : Fld := ⟨0x600e0040, 0, 32, .ro, 0, .any⟩
def ETH_DEMI.MA : Fld := ⟨0x600e0044, 0, 32, .ro, 0, .any⟩
def ETH_DEMV.RAMPV : Fld := ⟨0x600e0048, 0, 32, .ro, 0, .any⟩
def ETH_DEMSTAT.NOAGE : Fld := ⟨0x600e004c, 8, 1, .ro, 0, .any⟩
def ETH_DEMSTAT.MODE : Fld := ⟨0x600e004c, 0, 8, .ro, 0, .any⟩
def ETH_RXDROP.COUNT : Fld := ⟨0x600e0050, 0, 32, .ro, 0, .any⟩
def ETH_SWDROP.COUNT : Fld := ⟨0x600e0054, 0, 32, .ro, 0, .any⟩
def ETH_SVC.CELL : Fld := ⟨0x600e0058, 16, 16, .ro, 0, .any⟩
def ETH_SVC.NEW : Fld := ⟨0x600e0058, 8, 1, .w1c, 0, .any⟩
def ETH_SVC.CODE : Fld := ⟨0x600e0058, 0, 8, .ro, 0, .any⟩
def PTP_CTRL.TC_EN : Fld := ⟨0x600f0000, 5, 1, .rwf, 1, .any⟩
def PTP_CTRL.MASTER_EN : Fld := ⟨0x600f0000, 4, 1, .rwf, 0, .any⟩
def PTP_CTRL.AUTOFIRST : Fld := ⟨0x600f0000, 3, 1, .rwf, 1, .any⟩
def PTP_CTRL.SRC : Fld := ⟨0x600f0000, 1, 2, .rwf, 0, (.range 0 2)⟩
def PTP_CTRL.EN : Fld := ⟨0x600f0000, 0, 1, .rwf, 0, .any⟩
def PTP_CMD.TSQ_CLR : Fld := ⟨0x600f0004, 2, 1, .cmd, 0, .any⟩
def PTP_CMD.TSQ_POP : Fld := ⟨0x600f0004, 1, 1, .cmd, 0, .any⟩
def PTP_CMD.TIME_ACCEPT : Fld := ⟨0x600f0004, 0, 1, .cmd, 0, .any⟩
def PTP_STAT.MASTER : Fld := ⟨0x600f0008, 4, 1, .ro, 0, .any⟩
def PTP_STAT.TVALID : Fld := ⟨0x600f0008, 3, 1, .ro, 0, .any⟩
def PTP_STAT.STATE : Fld := ⟨0x600f0008, 0, 3, .ro, 0, .any⟩
def PTP_FLT.STEP : Fld := ⟨0x600f000c, 6, 1, .w1c, 0, .any⟩
def PTP_FLT.SYNCLOSS : Fld := ⟨0x600f000c, 5, 1, .w1c, 0, .any⟩
def PTP_FLT.ACCEPT_REF : Fld := ⟨0x600f000c, 4, 1, .w1c, 0, .any⟩
def PTP_FLT.PPSBAD : Fld := ⟨0x600f000c, 3, 1, .w1c, 0, .any⟩
def PTP_FLT.TSQ_OVF : Fld := ⟨0x600f000c, 2, 1, .w1c, 0, .any⟩
def PTP_FLT.GMCHG : Fld := ⟨0x600f000c, 1, 1, .w1c, 0, .any⟩
def PTP_FLT.JUMP : Fld := ⟨0x600f000c, 0, 1, .w1c, 0, .any⟩
def PTP_TIMELO.NS : Fld := ⟨0x600f0010, 0, 32, .ro, 0, .any⟩
def PTP_TIMEHI.NS : Fld := ⟨0x600f0014, 0, 32, .ro, 0, .any⟩
def PTP_OFFSET.NS : Fld := ⟨0x600f0018, 0, 32, .ro, 0, .any⟩
def PTP_REFOFSLO.NS : Fld := ⟨0x600f001c, 0, 32, .ro, 0, .any⟩
def PTP_REFOFSHI.NS : Fld := ⟨0x600f0020, 0, 32, .ro, 0, .any⟩
def PTP_JUMPTHR.JUMPTHR : Fld := ⟨0x600f0024, 0, 20, .rwf, 1000, (.range 1 1000000)⟩
def PTP_SERVO.RMAX : Fld := ⟨0x600f0028, 16, 8, .rwf, 200, (.range 1 500)⟩
def PTP_SERVO.KISH : Fld := ⟨0x600f0028, 8, 5, .rwf, 4, .any⟩
def PTP_SERVO.KPSH : Fld := ⟨0x600f0028, 0, 5, .rwf, 1, .any⟩
def PTP_TIMING.HOLDMAX : Fld := ⟨0x600f002c, 16, 16, .rwf, 600, (.range 1 65535)⟩
def PTP_TIMING.SYNCTMO : Fld := ⟨0x600f002c, 0, 8, .rwf, 3, (.range 1 60)⟩
def PTP_PORTCFG.TRANSPORT : Fld := ⟨0x600f0030, 26, 1, .rwf, 0, .any⟩
def PTP_PORTCFG.PROFILE : Fld := ⟨0x600f0030, 24, 2, .rwf, 0, (.range 0 1)⟩
def PTP_PORTCFG.PRIO2 : Fld := ⟨0x600f0030, 16, 8, .rwf, 255, .any⟩
def PTP_PORTCFG.PRIO1 : Fld := ⟨0x600f0030, 8, 8, .rwf, 255, .any⟩
def PTP_PORTCFG.DOMAIN : Fld := ⟨0x600f0030, 0, 8, .rwf, 0, (.range 0 127)⟩
def PTP_GMID0.ID : Fld := ⟨0x600f0034, 0, 32, .ro, 0, .any⟩
def PTP_GMID1.ID : Fld := ⟨0x600f0038, 0, 32, .ro, 0, .any⟩
def PTP_PPSCFG.OWIDTH : Fld := ⟨0x600f003c, 8, 8, .rwf, 10, (.range 1 90)⟩
def PTP_PPSCFG.IPOL : Fld := ⟨0x600f003c, 3, 1, .rwf, 0, .any⟩
def PTP_PPSCFG.OFREE : Fld := ⟨0x600f003c, 2, 1, .rwf, 0, .any⟩
def PTP_PPSCFG.OEN : Fld := ⟨0x600f003c, 1, 1, .rwf, 0, .any⟩
def PTP_PPSCFG.IEN : Fld := ⟨0x600f003c, 0, 1, .rwf, 0, .any⟩
def PTP_PPSSEC.SEC : Fld := ⟨0x600f0040, 0, 32, .rwf, 0, .any⟩
def PTP_PPSTSLO.NS : Fld := ⟨0x600f0044, 0, 32, .ro, 0, .any⟩
def PTP_PPSTSHI.NS : Fld := ⟨0x600f0048, 0, 32, .ro, 0, .any⟩
def PTP_TSQSTAT.COUNT : Fld := ⟨0x600f0050, 0, 4, .ro, 0, .any⟩
def PTP_TSQID.VALID : Fld := ⟨0x600f0054, 31, 1, .ro, 0, .any⟩
def PTP_TSQID.ID : Fld := ⟨0x600f0054, 0, 16, .ro, 0, .any⟩
def PTP_TSQLO.NS : Fld := ⟨0x600f0058, 0, 32, .ro, 0, .any⟩
def PTP_TSQHI.NS : Fld := ⟨0x600f005c, 0, 32, .ro, 0, .any⟩
def PTP_CMP.TARGET (n : Nat) : Fld := ⟨(0x600f0060 + 4 * n), 0, 32, .rwf, 0, .any⟩
def PTP_CMPSTAT.FIRED : Fld := ⟨0x600f0070, 8, 4, .w1c, 0, .any⟩
def PTP_CMPSTAT.ARMED : Fld := ⟨0x600f0070, 0, 4, .ro, 0, .any⟩
def TDM_CTRL.WAKEPEER : Fld := ⟨0x60100000, 4, 1, .rwf, 1, .any⟩
def TDM_CTRL.HANDBACK : Fld := ⟨0x60100000, 3, 1, .rwf, 1, .any⟩
def TDM_CTRL.AUTORESYNC : Fld := ⟨0x60100000, 2, 1, .rwf, 1, .any⟩
def TDM_CTRL.CLAIM_EN : Fld := ⟨0x60100000, 1, 1, .rwf, 1, .any⟩
def TDM_CTRL.EN : Fld := ⟨0x60100000, 0, 1, .rwf, 0, .any⟩
def TDM_CMD.RESYNC : Fld := ⟨0x60100004, 1, 1, .cmd, 0, .any⟩
def TDM_CMD.RELEASE : Fld := ⟨0x60100004, 0, 1, .cmd, 0, .any⟩
def TDM_STAT.HCODE : Fld := ⟨0x60100008, 16, 4, .ro, 0, .any⟩
def TDM_STAT.LAG : Fld := ⟨0x60100008, 12, 4, .ro, 0, .any⟩
def TDM_STAT.PEERHB : Fld := ⟨0x60100008, 9, 1, .ro, 0, .any⟩
def TDM_STAT.TICKMASTER : Fld := ⟨0x60100008, 8, 1, .ro, 0, .any⟩
def TDM_STAT.LINK : Fld := ⟨0x60100008, 7, 1, .ro, 0, .any⟩
def TDM_STAT.GATE : Fld := ⟨0x60100008, 6, 1, .ro, 0, .any⟩
def TDM_STAT.PEERCLAIM : Fld := ⟨0x60100008, 5, 1, .ro, 0, .any⟩
def TDM_STAT.CLAIM : Fld := ⟨0x60100008, 4, 1, .ro, 0, .any⟩
def TDM_STAT.SEAT : Fld := ⟨0x60100008, 3, 1, .ro, 0, .any⟩
def TDM_STAT.STATE : Fld := ⟨0x60100008, 0, 3, .ro, 0, .any⟩
def TDM_FLT.OVERRUN : Fld := ⟨0x6010000c, 10, 1, .w1c, 0, .any⟩
def TDM_FLT.REFRESH : Fld := ⟨0x6010000c, 9, 1, .w1c, 0, .any⟩
def TDM_FLT.SNAPFAIL : Fld := ⟨0x6010000c, 8, 1, .w1c, 0, .any⟩
def TDM_FLT.HELLO : Fld := ⟨0x6010000c, 7, 1, .w1c, 0, .any⟩
def TDM_FLT.BRIDLE : Fld := ⟨0x6010000c, 6, 1, .w1c, 0, .any⟩
def TDM_FLT.LINK : Fld := ⟨0x6010000c, 5, 1, .w1c, 0, .any⟩
def TDM_FLT.LOCAL : Fld := ⟨0x6010000c, 4, 1, .w1c, 0, .any⟩
def TDM_FLT.OPDIFF : Fld := ⟨0x6010000c, 3, 1, .w1c, 0, .any⟩
def TDM_FLT.BUNDLE : Fld := ⟨0x6010000c, 2, 1, .w1c, 0, .any⟩
def TDM_FLT.LAG : Fld := ⟨0x6010000c, 1, 1, .w1c, 0, .any⟩
def TDM_FLT.DIGEST : Fld := ⟨0x6010000c, 0, 1, .w1c, 0, .any⟩
def TDM_CLAIMREF.KEY : Fld := ⟨0x60100010, 0, 32, .wo, 0, .any⟩
def TDM_DECLBASE.ADDR : Fld := ⟨0x60100014, 0, 32, .rwf, 0, .any⟩
def TDM_DECLLEN.LEN : Fld := ⟨0x60100018, 0, 10, .rwf, 0, (.multiple 16 512)⟩
def TDM_CFGCRC.CRC : Fld := ⟨0x6010001c, 0, 32, .rwf, 0, .any⟩
def TDM_PROVE.PROVE : Fld := ⟨0x60100020, 0, 16, .rwf, 10000, (.range 1000 60000)⟩
def TDM_DIGEST.CRC : Fld := ⟨0x60100024, 0, 32, .ro, 0, .any⟩
def TDM_PEERDIG.CRC : Fld := ⟨0x60100028, 0, 32, .ro, 0, .any⟩
def TDM_MATCHCNT.COUNT : Fld := ⟨0x6010002c, 0, 32, .ro, 0, .any⟩
def TDM_SNAPSTAT.ROUND : Fld := ⟨0x60100030, 16, 4, .ro, 0, .any⟩
def TDM_SNAPSTAT.PAGES : Fld := ⟨0x60100030, 0, 16, .ro, 0, .any⟩
def TDM_LINKDLY.NS : Fld := ⟨0x60100034, 0, 16, .ro, 0, .any⟩
def TDM_ERRCNT.LOST : Fld := ⟨0x60100038, 16, 16, .ro, 0, .any⟩
def TDM_ERRCNT.REJ : Fld := ⟨0x60100038, 0, 16, .ro, 0, .any⟩
def TDM_RELINFO.OWN : Fld := ⟨0x6010003c, 8, 4, .ro, 0, .any⟩
def TDM_RELINFO.PEER : Fld := ⟨0x6010003c, 0, 4, .ro, 0, .any⟩
def NVM_CFG.DEFTMO : Fld := ⟨0x60110000, 0, 6, .rwf, 15, (.range 1 60)⟩
def NVM_CMD.RSV_TEST : Fld := ⟨0x60110004, 1, 1, .cmd, 0, .any⟩
def NVM_CMD.LEDGER_DONE : Fld := ⟨0x60110004, 0, 1, .cmd, 0, .any⟩
def NVM_STAT.QUEUED : Fld := ⟨0x60110008, 8, 5, .ro, 0, .any⟩
def NVM_STAT.DEFERRING : Fld := ⟨0x60110008, 4, 1, .ro, 0, .any⟩
def NVM_STAT.BUSY : Fld := ⟨0x60110008, 3, 1, .ro, 0, .any⟩
def NVM_STAT.RSV_FULL : Fld := ⟨0x60110008, 2, 1, .ro, 0, .any⟩
def NVM_STAT.RSV_OK : Fld := ⟨0x60110008, 1, 1, .ro, 0, .any⟩
def NVM_STAT.LEDGER_OK : Fld := ⟨0x60110008, 0, 1, .ro, 0, .any⟩
def NVM_FLT.CNT_LOST : Fld := ⟨0x6011000c, 8, 1, .w1c, 0, .any⟩
def NVM_FLT.SET_LOST : Fld := ⟨0x6011000c, 7, 1, .w1c, 0, .any⟩
def NVM_FLT.SET_TORN : Fld := ⟨0x6011000c, 6, 1, .w1c, 0, .any⟩
def NVM_FLT.LED_LOST : Fld := ⟨0x6011000c, 5, 1, .w1c, 0, .any⟩
def NVM_FLT.LED_TORN : Fld := ⟨0x6011000c, 4, 1, .w1c, 0, .any⟩
def NVM_FLT.RSV_TEST_FAIL : Fld := ⟨0x6011000c, 3, 1, .w1c, 0, .any⟩
def NVM_FLT.RSV_LOW : Fld := ⟨0x6011000c, 2, 1, .w1c, 0, .any⟩
def NVM_FLT.COMMIT_FAIL : Fld := ⟨0x6011000c, 1, 1, .w1c, 0, .any⟩
def NVM_FLT.DEFER : Fld := ⟨0x6011000c, 0, 1, .w1c, 0, .any⟩
def NVM_RSVV.MV : Fld := ⟨0x60110010, 0, 16, .ro, 0, .any⟩
def NVM_RSVE.UJ : Fld := ⟨0x60110014, 0, 32, .ro, 0, .any⟩
def NVM_RSVTST.ESR : Fld := ⟨0x60110018, 16, 16, .ro, 0, .any⟩
def NVM_RSVTST.CAP : Fld := ⟨0x60110018, 0, 16, .ro, 0, .any⟩
def NVM_LEDVALID.BITS : Fld := ⟨0x60110020, 0, 32, .ro, 0, .any⟩
def NVM_LEDCUR.BITS : Fld := ⟨0x60110024, 0, 32, .ro, 0, .any⟩
def NVM_SETVALID.BITS : Fld := ⟨0x60110028, 0, 32, .ro, 0, .any⟩
def NVM_SETCUR.BITS : Fld := ⟨0x6011002c, 0, 32, .ro, 0, .any⟩
def NVM_OPTIME.SEC : Fld := ⟨0x60110030, 0, 32, .ro, 0, .any⟩
def NVM_PWRCYC.COUNT : Fld := ⟨0x60110034, 0, 24, .ro, 0, .any⟩
def LOG_CFG.LIMSEV : Fld := ⟨0x60120000, 8, 3, .rwf, 7, .any⟩
def LOG_CFG.LAYOUT : Fld := ⟨0x60120000, 0, 1, .rwf, 0, .any⟩
def LOG_CMD.KEY : Fld := ⟨0x60120004, 16, 16, .cmd, 0, .any⟩
def LOG_CMD.CLEAR : Fld := ⟨0x60120004, 0, 1, .cmd, 0, .any⟩
def LOG_STAT.SCAN_DONE : Fld := ⟨0x60120008, 19, 1, .ro, 0, .any⟩
def LOG_STAT.CLEARING : Fld := ⟨0x60120008, 18, 1, .ro, 0, .any⟩
def LOG_STAT.FULL : Fld := ⟨0x60120008, 17, 1, .ro, 0, .any⟩
def LOG_STAT.LAYOUT : Fld := ⟨0x60120008, 16, 1, .ro, 0, .any⟩
def LOG_STAT.COUNT : Fld := ⟨0x60120008, 0, 15, .ro, 0, .any⟩
def LOG_FLT.TORN : Fld := ⟨0x6012000c, 2, 1, .w1c, 0, .any⟩
def LOG_FLT.SUPPRESS : Fld := ⟨0x6012000c, 1, 1, .w1c, 0, .any⟩
def LOG_FLT.DROP : Fld := ⟨0x6012000c, 0, 1, .w1c, 0, .any⟩
def LOG_NEXTSEQ.SEQ : Fld := ⟨0x60120010, 0, 32, .ro, 1, .any⟩
def LOG_OLDSEQ.SEQ : Fld := ⟨0x60120014, 0, 32, .ro, 0, .any⟩
def LOG_DROPCNT.COUNT : Fld := ⟨0x60120018, 0, 32, .ro, 0, .any⟩
def LOG_OVWCNT.COUNT : Fld := ⟨0x6012001c, 0, 32, .ro, 0, .any⟩
def LOG_SUPCNT.COUNT : Fld := ⟨0x60120020, 0, 32, .ro, 0, .any⟩
def LOG_TORNCNT.COUNT : Fld := ⟨0x60120024, 0, 16, .ro, 0, .any⟩
def LOG_LIM.AUTO (n : Nat) : Fld := ⟨(0x60120100 + 4 * n), 31, 1, (if n = 63 then .ro else .rwf), (if n = 63 then 0 else 1), .any⟩
def LOG_LIM.BURST (n : Nat) : Fld := ⟨(0x60120100 + 4 * n), 24, 4, .rwf, 5, (.range 1 15)⟩
def LOG_LIM.RATE (n : Nat) : Fld := ⟨(0x60120100 + 4 * n), 16, 8, .rwf, 10, (.range 1 255)⟩
def LOG_LIM.CODE (n : Nat) : Fld := ⟨(0x60120100 + 4 * n), 0, 16, (if n = 63 then .ro else .rwf), (if n = 63 then 0xFFFF else 0), .any⟩
def LOG_LIMST.BOUND (n : Nat) : Fld := ⟨(0x60120200 + 4 * n), 16, 16, .ro, 65535, .any⟩
def LOG_LIMST.TOKENS (n : Nat) : Fld := ⟨(0x60120200 + 4 * n), 8, 4, .ro, 5, .any⟩
def LOG_LIMST.SUPP (n : Nat) : Fld := ⟨(0x60120200 + 4 * n), 0, 8, .ro, 0, .any⟩
def UPD_CTRL.ETH_EN : Fld := ⟨0x60130000, 0, 1, .rwf, 0, .any⟩
def UPD_CMD.KEY : Fld := ⟨0x60130004, 16, 16, .cmd, 0, .any⟩
def UPD_CMD.ABORT : Fld := ⟨0x60130004, 5, 1, .cmd, 0, .any⟩
def UPD_CMD.CONFIRM : Fld := ⟨0x60130004, 4, 1, .cmd, 0, .any⟩
def UPD_CMD.ARM : Fld := ⟨0x60130004, 3, 1, .cmd, 0, .any⟩
def UPD_CMD.VERIFY : Fld := ⟨0x60130004, 2, 1, .cmd, 0, .any⟩
def UPD_CMD.PROG : Fld := ⟨0x60130004, 1, 1, .cmd, 0, .any⟩
def UPD_CMD.BEGIN : Fld := ⟨0x60130004, 0, 1, .cmd, 0, .any⟩
def UPD_STAT.RESUMED : Fld := ⟨0x60130008, 11, 1, .ro, 0, .any⟩
def UPD_STAT.FALLBACK : Fld := ⟨0x60130008, 10, 1, .ro, 0, .any⟩
def UPD_STAT.RUNSLOT : Fld := ⟨0x60130008, 9, 1, .ro, 0, .any⟩
def UPD_STAT.TRIAL : Fld := ⟨0x60130008, 8, 1, .ro, 0, .any⟩
def UPD_STAT.RES : Fld := ⟨0x60130008, 4, 4, .ro, 0, .any⟩
def UPD_STAT.BUSY : Fld := ⟨0x60130008, 3, 1, .ro, 0, .any⟩
def UPD_STAT.SESS : Fld := ⟨0x60130008, 0, 3, .ro, 0, .any⟩
def UPD_FLT.META_LOST : Fld := ⟨0x6013000c, 3, 1, .w1c, 0, .any⟩
def UPD_FLT.EXPIRED : Fld := ⟨0x6013000c, 2, 1, .w1c, 0, .any⟩
def UPD_FLT.RXDROP : Fld := ⟨0x6013000c, 1, 1, .w1c, 0, .any⟩
def UPD_FLT.CMDFAIL : Fld := ⟨0x6013000c, 0, 1, .w1c, 0, .any⟩
def UPD_IMGLEN.BYTES : Fld := ⟨0x60130010, 0, 24, .rwf, 0, .any⟩
def UPD_BLOCK.BLOCK : Fld := ⟨0x60130014, 0, 14, .rwf, 0, .any⟩
def UPD_RECV.FIRSTMISS : Fld := ⟨0x60130018, 16, 14, .ro, 0, .any⟩
def UPD_RECV.HELD : Fld := ⟨0x60130018, 0, 14, .ro, 0, .any⟩
def UPD_TRCFG.ABS : Fld := ⟨0x6013001c, 8, 8, .rwf, 24, (.range 1 168)⟩
def UPD_TRCFG.WINDOW : Fld := ⟨0x6013001c, 0, 8, .rwf, 30, (.range 5 240)⟩
def UPD_TRSTAT.TRIALS : Fld := ⟨0x60130020, 16, 2, .ro, 0, .any⟩
def UPD_TRSTAT.ELAPSED : Fld := ⟨0x60130020, 0, 16, .ro, 0, .any⟩
def UPD_RXBASE.ADDR : Fld := ⟨0x60130024, 0, 32, .rwf, 0, .any⟩
def UPD_RXFULL.SLOTS : Fld := ⟨0x60130028, 0, 8, .w1c, 0, .any⟩
def UPD_RXDROP.COUNT : Fld := ⟨0x6013002c, 0, 32, .ro, 0, .any⟩
def UPD_SLOTA.STATE : Fld := ⟨0x60130030, 0, 3, .ro, 0, .any⟩
def UPD_SLOTB.STATE : Fld := ⟨0x60130034, 0, 3, .ro, 0, .any⟩
def UPD_IDENT.WORD (n : Nat) : Fld := ⟨(0x60130040 + 4 * n), 0, 32, .rwf, 0, .any⟩
def UPD_RUNID.WORD (n : Nat) : Fld := ⟨(0x60130060 + 4 * n), 0, 32, .ro, 0, .any⟩
def UPD_STAGE.WORD (n : Nat) : Fld := ⟨(0x60130400 + 4 * n), 0, 32, .rwf, 0, .any⟩
def SYS_RSTCAUSE.GROOM : Fld := ⟨0x60000100, 7, 1, .w1c, 0, .any⟩
def SYS_RSTCAUSE.STABLE : Fld := ⟨0x60000100, 6, 1, .w1c, 0, .any⟩
def SYS_RSTCAUSE.SUPPLY : Fld := ⟨0x60000100, 5, 1, .w1c, 0, .any⟩
def SYS_RSTCAUSE.THERM : Fld := ⟨0x60000100, 4, 1, .w1c, 0, .any⟩
def SYS_RSTCAUSE.SOFT : Fld := ⟨0x60000100, 3, 1, .w1c, 0, .any⟩
def SYS_RSTCAUSE.WDOG : Fld := ⟨0x60000100, 2, 1, .w1c, 0, .any⟩
def SYS_RSTCAUSE.RESETN : Fld := ⟨0x60000100, 1, 1, .w1c, 0, .any⟩
def SYS_RSTCAUSE.POR : Fld := ⟨0x60000100, 0, 1, .w1c, 0, .any⟩
def SYS_RSTCMD.KEY : Fld := ⟨0x60000104, 16, 16, .cmd, 0, .any⟩
def SYS_RSTCMD.FORCE : Fld := ⟨0x60000104, 1, 1, .cmd, 0, .any⟩
def SYS_RSTCMD.RESET : Fld := ⟨0x60000104, 0, 1, .cmd, 0, .any⟩
def SYS_WDCFG.EN : Fld := ⟨0x60000108, 31, 1, .rwf, 0, .any⟩
def SYS_WDCFG.TMO : Fld := ⟨0x60000108, 0, 14, .rwf, 1000, (.range 10 10000)⟩
def SYS_WDKEY.KEY : Fld := ⟨0x6000010c, 0, 32, .wo, 0, .any⟩
def SYS_PWRSTAT.RSTREF : Fld := ⟨0x60000110, 8, 1, .w1c, 0, .any⟩
def SYS_PWRSTAT.SEATPIN : Fld := ⟨0x60000110, 6, 1, .ro, 0, .any⟩
def SYS_PWRSTAT.WAKEN : Fld := ⟨0x60000110, 5, 1, .ro, 0, .any⟩
def SYS_PWRSTAT.RSTN : Fld := ⟨0x60000110, 4, 1, .ro, 0, .any⟩
def SYS_PWRSTAT.RSTN_MASK : Fld := ⟨0x60000110, 3, 1, .ro, 0, .any⟩
def SYS_PWRSTAT.CHG : Fld := ⟨0x60000110, 2, 1, .ro, 0, .any⟩
def SYS_PWRSTAT.PDN : Fld := ⟨0x60000110, 1, 1, .ro, 0, .any⟩
def SYS_PWRSTAT.AUX_OK : Fld := ⟨0x60000110, 0, 1, .ro, 0, .any⟩
def SYS_AUXV.MV : Fld := ⟨0x60000114, 0, 16, .ro, 0, .any⟩
def PAD_LOCKOWN.OWN (m : Nat) : Fld := ⟨0x60150030 + 4 * (m / 16), 2 * (m % 16), 2, .ro, 0, .any⟩

/-- Part 0 of the register map, in rising address. -/
def slots0 : List RegSlot := [
  ⟨0x60000000, 1, 4, fun _ => [SYS_ID.DEVICE, SYS_ID.REV, SYS_ID.VARIANT]⟩,
  ⟨0x60000004, 1, 4, fun _ => [SYS_UID0.UID]⟩,
  ⟨0x60000008, 1, 4, fun _ => [SYS_UID1.UID]⟩,
  ⟨0x60000010, 1, 4, fun _ => [SYS_CLKSTAT.ON_RC, SYS_CLKSTAT.XTAL32K_OK, SYS_CLKSTAT.TDM_LOCK, SYS_CLKSTAT.ETH_LOCK, SYS_CLKSTAT.PER_LOCK, SYS_CLKSTAT.CORE_LOCK, SYS_CLKSTAT.REF_OK]⟩,
  ⟨0x60000014, 1, 4, fun _ => [SYS_CLKEN.TDM_EN, SYS_CLKEN.ETH_EN]⟩,
  ⟨0x60000018, 1, 4, fun _ => [SYS_CLKFLT.XTAL32K_LOSS, SYS_CLKFLT.TDM_UNLOCK, SYS_CLKFLT.ETH_UNLOCK, SYS_CLKFLT.PER_UNLOCK, SYS_CLKFLT.CORE_UNLOCK, SYS_CLKFLT.REF_LOSS]⟩,
  ⟨0x60000020, 1, 4, fun _ => [SYS_ERRADDR.ADDR]⟩,
  ⟨0x60000024, 1, 4, fun _ => [SYS_ERRSRC.KIND, SYS_ERRSRC.WRITE, SYS_ERRSRC.MASTER]⟩,
  ⟨0x60000100, 1, 4, fun _ => [SYS_RSTCAUSE.GROOM, SYS_RSTCAUSE.STABLE, SYS_RSTCAUSE.SUPPLY, SYS_RSTCAUSE.THERM, SYS_RSTCAUSE.SOFT, SYS_RSTCAUSE.WDOG, SYS_RSTCAUSE.RESETN, SYS_RSTCAUSE.POR]⟩,
  ⟨0x60000104, 1, 4, fun _ => [SYS_RSTCMD.KEY, SYS_RSTCMD.FORCE, SYS_RSTCMD.RESET]⟩,
  ⟨0x60000108, 1, 4, fun _ => [SYS_WDCFG.EN, SYS_WDCFG.TMO]⟩,
  ⟨0x6000010c, 1, 4, fun _ => [SYS_WDKEY.KEY]⟩,
  ⟨0x60000110, 1, 4, fun _ => [SYS_PWRSTAT.RSTREF, SYS_PWRSTAT.SEATPIN, SYS_PWRSTAT.WAKEN, SYS_PWRSTAT.RSTN, SYS_PWRSTAT.RSTN_MASK, SYS_PWRSTAT.CHG, SYS_PWRSTAT.PDN, SYS_PWRSTAT.AUX_OK]⟩,
  ⟨0x60000114, 1, 4, fun _ => [SYS_AUXV.MV]⟩,
  ⟨0x60010000, 1, 4, fun _ => [PWR_GAIT.CAUSE, PWR_GAIT.BUSY, PWR_GAIT.RIDERS, PWR_GAIT.PREV, PWR_GAIT.GAIT]⟩,
  ⟨0x60010004, 1, 4, fun _ => [PWR_REQ.TARGET]⟩,
  ⟨0x60010008, 1, 4, fun _ => [PWR_REQSTAT.REASON, PWR_REQSTAT.RESULT]⟩,
  ⟨0x60010010, 1, 4, fun _ => [PWR_WAKEEN.TANDEM, PWR_WAKEEN.DI, PWR_WAKEEN.CHAIN, PWR_WAKEEN.CANA, PWR_WAKEEN.RTC, PWR_WAKEEN.WAKEN]⟩,
  ⟨0x60010014, 1, 4, fun _ => [PWR_WAKESRC.SRC]⟩,
  ⟨0x60010018, 1, 4, fun _ => [PWR_RTC.SEC]⟩,
  ⟨0x6001001c, 1, 4, fun _ => [PWR_RTCALM.ALM]⟩,
  ⟨0x60020000, 1, 4, fun _ => [EVT_STAT.TDM_GATE]⟩,
  ⟨0x60020010, 1, 4, fun _ => [EVT_THR_R0.THR]⟩,
  ⟨0x60020014, 1, 4, fun _ => [EVT_THR_R1.THR]⟩,
  ⟨0x60020018, 1, 4, fun _ => [EVT_THR_GRM.THR]⟩,
  ⟨0x60020020, 1, 4, fun _ => [EVT_CLAIM_R0.VALID, EVT_CLAIM_R0.PRIO, EVT_CLAIM_R0.SRC]⟩,
  ⟨0x60020024, 1, 4, fun _ => [EVT_CLAIM_R1.VALID, EVT_CLAIM_R1.PRIO, EVT_CLAIM_R1.SRC]⟩,
  ⟨0x60020028, 1, 4, fun _ => [EVT_CLAIM_GRM.VALID, EVT_CLAIM_GRM.PRIO, EVT_CLAIM_GRM.SRC]⟩,
  ⟨0x60020030, 1, 4, fun _ => [EVT_DONE_R0.SRC]⟩,
  ⟨0x60020034, 1, 4, fun _ => [EVT_DONE_R1.SRC]⟩,
  ⟨0x60020038, 1, 4, fun _ => [EVT_DONE_GRM.SRC]⟩,
  ⟨0x60020100, 8, 4, fun i => [EVT_PEND.BITS i]⟩,
  ⟨0x60020120, 8, 4, fun i => [EVT_OVR.BITS i]⟩,
  ⟨0x60020140, 8, 4, fun i => [EVT_SET.BITS i]⟩,
  ⟨0x60020400, 256, 4, fun i => [EVT_CFG.EN i, EVT_CFG.CURB i, EVT_CFG.ROUTE i, EVT_CFG.PRIO i]⟩,
  ⟨0x60030000, 1, 4, fun _ => [HRD_CTRL.HOLD, HRD_CTRL.AUTO_EN]⟩,
  ⟨0x60030004, 1, 4, fun _ => [HRD_STAT.RUNCOUNT, HRD_STAT.QCOUNT, HRD_STAT.HALVED, HRD_STAT.CLK, HRD_STAT.POWERED]⟩,
  ⟨0x60030008, 1, 4, fun _ => [HRD_ABORT.ALL, HRD_ABORT.INDEX]⟩,
  ⟨0x60030010, 1, 4, fun _ => [HRD_TEAMBUSY.TEAMS]⟩,
  ⟨0x60030014, 1, 4, fun _ => [HRD_TEAMDIS.TEAMS]⟩,
  ⟨0x60030018, 1, 4, fun _ => [HRD_TEAMFLT.TEAMS]⟩,
  ⟨0x6003001c, 1, 4, fun _ => [HRD_FLTINFO.PC, HRD_FLTINFO.TEAM, HRD_FLTINFO.LANE, HRD_FLTINFO.KIND]⟩,
  ⟨0x60030020, 1, 4, fun _ => [HRD_AUTOPROG.PROG]⟩,
  ⟨0x60030024, 1, 4, fun _ => [HRD_AUTOCFG.POSTPCT, HRD_AUTOCFG.ECLASS, HRD_AUTOCFG.PLEN]⟩,
  ⟨0x60030028, 1, 4, fun _ => [HRD_AUTOTEAMS.TEAMS]⟩,
  ⟨0x6003002c, 1, 4, fun _ => [HRD_AUTOARG.ARG]⟩,
  ⟨0x60030030, 1, 4, fun _ => [HRD_AUTOSTAT.STATUS, HRD_AUTOSTAT.SKIPPED, HRD_AUTOSTAT.LATEPOST, HRD_AUTOSTAT.BUSY]⟩,
  ⟨0x60030034, 1, 4, fun _ => [HRD_SWEEP.SWEEP]⟩]

/-- Part 1 of the register map, in rising address. -/
def slots1 : List RegSlot := [
  ⟨0x60030040, 1, 4, fun _ => [HRD_QOCC0.OCC]⟩,
  ⟨0x60030044, 1, 4, fun _ => [HRD_QOCC1.OCC]⟩,
  ⟨0x60030048, 1, 4, fun _ => [HRD_MISSCNT.COUNT]⟩,
  ⟨0x6003004c, 1, 4, fun _ => [HRD_ECCCNT.CLR, HRD_ECCCNT.COUNT]⟩,
  ⟨0x60040000, 1, 4, fun _ => [HVM_CTRL.INJ_CLAIM, HVM_CTRL.HIONLY, HVM_CTRL.DIV_EN, HVM_CTRL.HALL_EN, HVM_CTRL.INJ_EN]⟩,
  ⟨0x60040004, 1, 4, fun _ => [HVM_CMD.PCH_ABORT, HVM_CMD.PCH_ARM, HVM_CMD.RANGE_RESET, HVM_CMD.QCLR, HVM_CMD.ZERO]⟩,
  ⟨0x60040008, 1, 4, fun _ => [HVM_STAT.OVLD_HI, HVM_STAT.VINV, HVM_STAT.ZERO_BUSY, HVM_STAT.INJ_ON, HVM_STAT.ISO_VALID, HVM_STAT.DIV_MISMATCH, HVM_STAT.HALL_OK, HVM_STAT.LOW_DIS, HVM_STAT.RANGE, HVM_STAT.CAL_OK, HVM_STAT.SUPPLY_OK, HVM_STAT.LINK_OK, HVM_STAT.READY]⟩,
  ⟨0x6004000c, 1, 4, fun _ => [HVM_FLT.QGAP, HVM_FLT.CAL_BAD, HVM_FLT.ZERO_FAIL, HVM_FLT.ISO_INVALID, HVM_FLT.VPLAUS, HVM_FLT.DIV, HVM_FLT.HALL, HVM_FLT.OVLD, HVM_FLT.RANGE, HVM_FLT.SUPPLY, HVM_FLT.LINK_LOSS]⟩,
  ⟨0x60040010, 1, 4, fun _ => [HVM_IPROT.VAL]⟩,
  ⟨0x60040014, 1, 4, fun _ => [HVM_IFINE.VAL]⟩,
  ⟨0x60040018, 1, 4, fun _ => [HVM_IHALL.VAL]⟩,
  ⟨0x6004001c, 1, 4, fun _ => [HVM_VBAT.VAL]⟩,
  ⟨0x60040020, 1, 4, fun _ => [HVM_VLINK.VAL]⟩,
  ⟨0x60040024, 1, 4, fun _ => [HVM_VMID.VAL]⟩,
  ⟨0x60040028, 1, 4, fun _ => [HVM_QLO.VAL]⟩,
  ⟨0x6004002c, 1, 4, fun _ => [HVM_QHI.VAL]⟩,
  ⟨0x60040030, 1, 4, fun _ => [HVM_ISO.AGE, HVM_ISO.CAPHIGH, HVM_ISO.ABOVE, HVM_ISO.BELOW, HVM_ISO.VALID, HVM_ISO.RKOHM]⟩,
  ⟨0x60040034, 1, 4, fun _ => [HVM_PCHCFG.PCT, HVM_PCHCFG.TIME]⟩,
  ⟨0x60040038, 1, 4, fun _ => [HVM_PCHSTAT.ELAPSED, HVM_PCHSTAT.REASON, HVM_PCHSTAT.STATE]⟩,
  ⟨0x60040040, 1, 4, fun _ => [HVM_SHUNT.R]⟩,
  ⟨0x60040044, 1, 4, fun _ => [HVM_IOFS.OFS]⟩,
  ⟨0x60040048, 1, 4, fun _ => [HVM_HALLGAIN.GAIN]⟩,
  ⟨0x6004004c, 1, 4, fun _ => [HVM_HALLOFS.OFS]⟩,
  ⟨0x60040050, 1, 4, fun _ => [HVM_DIV.TIME, HVM_DIV.REL, HVM_DIV.ABS]⟩,
  ⟨0x60040060, 1, 4, fun _ => [HVM_CALID.CRC_OK, HVM_CALID.VERSION]⟩,
  ⟨0x60040064, 1, 4, fun _ => [HVM_LINKERR.COUNT]⟩,
  ⟨0x60050000, 1, 4, fun _ => [CHN_CTRL.SWEEP_EN, CHN_CTRL.PORT_EN]⟩,
  ⟨0x60050004, 1, 4, fun _ => [CHN_CMD.ABORT, CHN_CMD.WAKE, CHN_CMD.REMEASURE, CHN_CMD.ENUM]⟩,
  ⟨0x60050008, 1, 4, fun _ => [CHN_STAT.BREAKHI, CHN_STAT.BREAKLO, CHN_STAT.REREAD, CHN_STAT.REFSEAT, CHN_STAT.HILOCK, CHN_STAT.LOLOCK, CHN_STAT.ORIGIN, CHN_STAT.RING]⟩,
  ⟨0x6005000c, 1, 4, fun _ => [CHN_FLT.HEAL, CHN_FLT.SYNC_HIT, CHN_FLT.ADDR_LOST, CHN_FLT.CMP_TRIP, CHN_FLT.CRC, CHN_FLT.ENUM_MIS, CHN_FLT.MULTI, CHN_FLT.BREAK, CHN_FLT.FSYM]⟩,
  ⟨0x60050010, 1, 4, fun _ => [CHN_CFG.UNITS]⟩,
  ⟨0x60050014, 1, 4, fun _ => [CHN_SWCFG.STALE, CHN_SWCFG.SILENCE]⟩,
  ⟨0x60050018, 1, 4, fun _ => [CHN_SYNCDLY.NS]⟩,
  ⟨0x6005001c, 1, 4, fun _ => [CHN_SWEEP.SWEEP]⟩,
  ⟨0x60050020, 1, 4, fun _ => [CHN_TAGSTAT.OVF, CHN_TAGSTAT.ENGN, CHN_TAGSTAT.CHXN]⟩,
  ⟨0x60050024, 1, 4, fun _ => [CHN_ERRLO.CODE, CHN_ERRLO.CRC]⟩,
  ⟨0x60050028, 1, 4, fun _ => [CHN_ERRHI.CODE, CHN_ERRHI.CRC]⟩,
  ⟨0x6005002c, 1, 4, fun _ => [CHN_FSYMCNT.COUNT]⟩,
  ⟨0x60050030, 1, 4, fun _ => [CHN_RTO.RTO]⟩,
  ⟨0x60050100, 32, 4, fun i => [CHN_USTAT.MISS (i + 1), CHN_USTAT.USTAT (i + 1), CHN_USTAT.STALE (i + 1), CHN_USTAT.UNASSIGNED (i + 1), CHN_USTAT.PRESENT (i + 1), CHN_USTAT.ROUTE (i + 1)]⟩,
  ⟨0x60050180, 32, 4, fun i => [CHN_UDLY.DHI (i + 1), CHN_UDLY.DLO (i + 1)]⟩,
  ⟨0x60060000, 1, 4, fun _ => [CEL_CTRL.STALE_SII, CEL_CTRL.VSRC, CEL_CTRL.BAL_MODE, CEL_CTRL.BAL_EN, CEL_CTRL.OWT_EN, CEL_CTRL.CHK_EN]⟩,
  ⟨0x60060004, 1, 4, fun _ => [CEL_CMD.UNIT, CEL_CMD.CHECK, CEL_CMD.BAL_STOP, CEL_CMD.OWT_NOW, CEL_CMD.SENSE_CLR, CEL_CMD.MAP_APPLY]⟩,
  ⟨0x60060008, 1, 4, fun _ => [CEL_STAT.NBLEED, CEL_STAT.NOPEN, CEL_STAT.BAL_HOLD, CEL_STAT.OWT_BUSY, CEL_STAT.OPEN2, CEL_STAT.ILIM50, CEL_STAT.SUSPECT_ANY, CEL_STAT.STALE_ANY, CEL_STAT.BALACT, CEL_STAT.BALANCED, CEL_STAT.MAP_VALID]⟩,
  ⟨0x6006000c, 1, 4, fun _ => [CEL_FLT.STRSUM, CEL_FLT.BAL_HEAT, CEL_FLT.OWT_INC, CEL_FLT.STACKDEV, CEL_FLT.CELL_DROP, CEL_FLT.OPEN2, CEL_FLT.OPEN, CEL_FLT.SUSPECT, CEL_FLT.TSENS, CEL_FLT.BQ_MISS, CEL_FLT.VRANGE, CEL_FLT.STALE, CEL_FLT.MAP_ERR]⟩,
  ⟨0x60060010, 1, 4, fun _ => [CEL_MAPSTAT.NCELLS, CEL_MAPSTAT.UNIT, CEL_MAPSTAT.CELL, CEL_MAPSTAT.CODE]⟩,
  ⟨0x60060014, 1, 4, fun _ => [CEL_OWCFG.CONFIRM, CEL_OWCFG.STACKTOL, CEL_OWCFG.SUMTOL, CEL_OWCFG.DEV]⟩,
  ⟨0x60060018, 1, 4, fun _ => [CEL_OWTCFG.THR, CEL_OWTCFG.DEADLINE, CEL_OWTCFG.PERIOD]⟩]

/-- Part 2 of the register map, in rising address. -/
def slots2 : List RegSlot := [
  ⟨0x6006001c, 1, 4, fun _ => [CEL_VRANGE.VMAX, CEL_VRANGE.VMIN]⟩,
  ⟨0x60060020, 1, 4, fun _ => [CEL_BALCFG.IMAX, CEL_BALCFG.HYST, CEL_BALCFG.TARGET]⟩,
  ⟨0x60060024, 1, 4, fun _ => [CEL_BALHEAT.T2, CEL_BALHEAT.T1, CEL_BALHEAT.MAXC]⟩,
  ⟨0x60060028, 1, 4, fun _ => [CEL_PADCFG.CHKINT, CEL_PADCFG.BALINT]⟩,
  ⟨0x6006002c, 1, 4, fun _ => [CEL_PADSTAT.CHECKS, CEL_PADSTAT.BALOK, CEL_PADSTAT.CAUSE, CEL_PADSTAT.ALARM, CEL_PADSTAT.DONE]⟩,
  ⟨0x60060030, 1, 4, fun _ => [CEL_VMIN.CELL, CEL_VMIN.V]⟩,
  ⟨0x60060034, 1, 4, fun _ => [CEL_VMAX.CELL, CEL_VMAX.V]⟩,
  ⟨0x60060038, 1, 4, fun _ => [CEL_VSUM.MV]⟩,
  ⟨0x6006003c, 1, 4, fun _ => [CEL_STRCHK.N, CEL_STRCHK.REL, CEL_STRCHK.ABS]⟩,
  ⟨0x60060040, 1, 4, fun _ => [CEL_SWEEP.SWEEP]⟩,
  ⟨0x60060100, 32, 4, fun i => [CEL_USTACK.MV (i + 1)]⟩,
  ⟨0x60060180, 32, 4, fun i => [CEL_UTEMP.T1 (i + 1), CEL_UTEMP.T0 (i + 1)]⟩,
  ⟨0x60060200, 32, 4, fun i => [CEL_UOPEN.TAPS (i + 1)]⟩,
  ⟨0x60060280, 32, 4, fun i => [CEL_USUSP.TAPS (i + 1)]⟩,
  ⟨0x60060300, 32, 4, fun i => [CEL_UBLEED.LIMITED (i + 1), CEL_UBLEED.MASK (i + 1)]⟩,
  ⟨0x60061000, 512, 4, fun i => [CEL_CELL.SUBST i, CEL_CELL.FRESH i, CEL_CELL.AGE i, CEL_CELL.VCELL i]⟩,
  ⟨0x60061800, 512, 4, fun i => [CEL_CFLG.TCELL i, CEL_CFLG.FLAGS i]⟩,
  ⟨0x60062000, 512, 4, fun i => [CEL_MAP.USED i, CEL_MAP.LANE i, CEL_MAP.TSEL i, CEL_MAP.LOCAL i, CEL_MAP.UNIT i]⟩,
  ⟨0x60070000, 1, 4, fun _ => [EST_CTRL.B_EN, EST_CTRL.A_EN, EST_CTRL.METHOD]⟩,
  ⟨0x60070004, 1, 4, fun _ => [EST_CMD.PARAM_APPLY]⟩,
  ⟨0x60070008, 1, 4, fun _ => [EST_STAT.PCODE, EST_STAT.MISSRUN, EST_STAT.RETAINED, EST_STAT.PARAM_OK, EST_STAT.LIMLOST, EST_STAT.LIMHOLD, EST_STAT.FROZEN, EST_STAT.VALID]⟩,
  ⟨0x6007000c, 1, 4, fun _ => [EST_FLT.METHOD_REF, EST_FLT.FRESET, EST_FLT.TFALL, EST_FLT.STAMP, EST_FLT.LIMLOST, EST_FLT.PARAM_ERR]⟩,
  ⟨0x60070010, 1, 4, fun _ => [EST_PBASE.ADDR]⟩,
  ⟨0x60070014, 1, 4, fun _ => [EST_CAPNOM.MAH]⟩,
  ⟨0x60070018, 1, 4, fun _ => [EST_REST.RESTDIV, EST_REST.RESTMIN]⟩,
  ⟨0x6007001c, 1, 4, fun _ => [EST_ANCH.BLEND, EST_ANCH.SLOPE, EST_ANCH.CONF]⟩,
  ⟨0x60070020, 1, 4, fun _ => [EST_VEND.VCO, EST_VEND.VSD]⟩,
  ⟨0x60070024, 1, 4, fun _ => [EST_IREF.ICREF, EST_IREF.IDREF]⟩,
  ⟨0x60070028, 1, 4, fun _ => [EST_SLEW.SLEW]⟩,
  ⟨0x6007002c, 1, 4, fun _ => [EST_PLATRES.PLATRES]⟩,
  ⟨0x60070030, 1, 4, fun _ => [EST_VLIM.VMAX, EST_VLIM.VMIN]⟩,
  ⟨0x60070034, 1, 4, fun _ => [EST_ILIMCH.MA]⟩,
  ⟨0x60070038, 1, 4, fun _ => [EST_ILIMDC.MA]⟩,
  ⟨0x6007003c, 1, 4, fun _ => [EST_LIMCFG.HOR, EST_LIMCFG.HOLD]⟩,
  ⟨0x60070040, 1, 4, fun _ => [EST_ISTRCH.MA]⟩,
  ⟨0x60070044, 1, 4, fun _ => [EST_ISTRDC.MA]⟩,
  ⟨0x60070048, 1, 4, fun _ => [EST_SCH2.MA]⟩,
  ⟨0x6007004c, 1, 4, fun _ => [EST_SCH10.MA]⟩,
  ⟨0x60070050, 1, 4, fun _ => [EST_SCH30.MA]⟩,
  ⟨0x60070054, 1, 4, fun _ => [EST_SDC2.MA]⟩,
  ⟨0x60070058, 1, 4, fun _ => [EST_SDC10.MA]⟩,
  ⟨0x6007005c, 1, 4, fun _ => [EST_SDC30.MA]⟩,
  ⟨0x60070060, 1, 4, fun _ => [EST_USOC.SPLIT, EST_USOC.VALID, EST_USOC.SOC]⟩,
  ⟨0x60070064, 1, 4, fun _ => [EST_USOCMIN.CELL, EST_USOCMIN.USOC]⟩,
  ⟨0x60070068, 1, 4, fun _ => [EST_USOCMAX.CELL, EST_USOCMAX.USOC]⟩,
  ⟨0x6007006c, 1, 4, fun _ => [EST_PLATMIN.CELL, EST_PLATMIN.PLAT]⟩,
  ⟨0x60070070, 1, 4, fun _ => [EST_SWEEP.SWEEP]⟩,
  ⟨0x60070074, 1, 4, fun _ => [EST_ANCHCNT.B, EST_ANCHCNT.A]⟩]

/-- Part 3 of the register map, in rising address. -/
def slots3 : List RegSlot := [
  ⟨0x60070100, 1, 4, fun _ => [EST_LSTAT.NSUSP, EST_LSTAT.XACT, EST_LSTAT.LCB_BAD, EST_LSTAT.LVALID]⟩,
  ⟨0x60070104, 1, 4, fun _ => [EST_LFLT.LCB_BAD, EST_LFLT.FORGOT, EST_LFLT.SUSPECT, EST_LFLT.CAP_REJ, EST_LFLT.CAP_ACC]⟩,
  ⟨0x60070108, 1, 4, fun _ => [EST_LSNAP.DONE, EST_LSNAP.REQ, EST_LSNAP.BLOCK]⟩,
  ⟨0x6007010c, 1, 4, fun _ => [EST_LSNAPSW.SWEEP]⟩,
  ⟨0x60070110, 1, 4, fun _ => [EST_LDIRTY.BLOCKS]⟩,
  ⟨0x60070114, 1, 4, fun _ => [EST_CAPCNT.REJ, EST_CAPCNT.ACC]⟩,
  ⟨0x60070118, 1, 4, fun _ => [EST_LASTCAP.RESULT, EST_LASTCAP.CELL]⟩,
  ⟨0x6007011c, 1, 4, fun _ => [EST_LASTCAPM.MAH]⟩,
  ⟨0x60070120, 1, 4, fun _ => [EST_XNEED.N]⟩,
  ⟨0x60070180, 16, 4, fun i => [EST_SUSP.BITS i]⟩,
  ⟨0x60070200, 128, 4, fun i => [EST_LSNAPBUF.WORD i]⟩,
  ⟨0x60071000, 512, 4, fun i => [EST_SOC.SOC i, EST_SOC.USOC i]⟩,
  ⟨0x60071800, 512, 4, fun i => [EST_CST.FLAGS i, EST_CST.SIG i, EST_CST.PLAT i]⟩,
  ⟨0x60072000, 512, 4, fun i => [EST_END.E100 i, EST_END.E0 i]⟩,
  ⟨0x60072800, 4096, 4, fun i => [EST_LED.WORD i]⟩,
  ⟨0x60076800, 512, 4, fun i => [EST_ZR.RLF i, EST_ZR.RHF i]⟩,
  ⟨0x60080000, 1, 4, fun _ => [PRT_CELL_OV.TRIP, PRT_CELL_OV.WARN]⟩,
  ⟨0x60080004, 1, 4, fun _ => [PRT_CELL_UV.TRIP, PRT_CELL_UV.WARN]⟩,
  ⟨0x60080008, 1, 4, fun _ => [PRT_UNIT_VTH.UVTH, PRT_UNIT_VTH.OVTH]⟩,
  ⟨0x6008000c, 1, 4, fun _ => [PRT_STR_OV.MV]⟩,
  ⟨0x60080010, 1, 4, fun _ => [PRT_STR_UV.MV]⟩,
  ⟨0x60080014, 1, 4, fun _ => [PRT_OC_FAST.DCH, PRT_OC_FAST.CHG]⟩,
  ⟨0x60080018, 1, 4, fun _ => [PRT_I2T_CHG.K, PRT_I2T_CHG.ICONT]⟩,
  ⟨0x6008001c, 1, 4, fun _ => [PRT_I2T_DCH.K, PRT_I2T_DCH.ICONT]⟩,
  ⟨0x60080020, 1, 4, fun _ => [PRT_TWIN_CHG.HIGH, PRT_TWIN_CHG.LOW]⟩,
  ⟨0x60080024, 1, 4, fun _ => [PRT_TWIN_DCH.HIGH, PRT_TWIN_DCH.LOW]⟩,
  ⟨0x60080028, 1, 4, fun _ => [PRT_ISO.TRIP, PRT_ISO.WARN]⟩,
  ⟨0x6008002c, 1, 4, fun _ => [PRT_SWDOG.TMO]⟩,
  ⟨0x60080030, 1, 4, fun _ => [PRT_INT.R1SII, PRT_INT.DEB, PRT_INT.HBTMO]⟩,
  ⟨0x60080040, 1, 4, fun _ => [PRT_STAT.RCODE, PRT_STAT.SVINV, PRT_STAT.ISO_TRIP, PRT_STAT.ISO_WARN, PRT_STAT.WARN_UV, PRT_STAT.WARN_OV, PRT_STAT.DCHINH, PRT_STAT.CHGINH, PRT_STAT.COPY_OK, PRT_STAT.PEND, PRT_STAT.VALID]⟩,
  ⟨0x60080044, 1, 4, fun _ => [PRT_FLT.CELL_WARN, PRT_FLT.TWIN_DCH, PRT_FLT.TWIN_CHG, PRT_FLT.ISO_TRIP, PRT_FLT.I2T_DCH, PRT_FLT.I2T_CHG, PRT_FLT.STR_UV, PRT_FLT.STR_OV, PRT_FLT.COPY_UNIT, PRT_FLT.COPY_HVM, PRT_FLT.COPY_CRB, PRT_FLT.REJECT]⟩,
  ⟨0x60080048, 1, 4, fun _ => [PRT_CRC.CRC]⟩,
  ⟨0x6008004c, 1, 4, fun _ => [PRT_COMMITSW.SWEEP]⟩,
  ⟨0x60080050, 1, 4, fun _ => [PRT_I2TSTAT.DCH, PRT_I2TSTAT.CHG]⟩,
  ⟨0x60090000, 1, 4, fun _ => [CRB_STAT.CLAIMBLK, CRB_STAT.STEST_OK, CRB_STAT.SCFG_OK, CRB_STAT.ARCH, CRB_STAT.SHUNT, CRB_STAT.LS13, CRB_STAT.LS12, CRB_STAT.PERMIT, CRB_STAT.GUARD, CRB_STAT.STATE]⟩,
  ⟨0x60090004, 1, 4, fun _ => [CRB_CAUSE.WORD]⟩,
  ⟨0x60090008, 1, 4, fun _ => [CRB_INPUT.CAUSES]⟩,
  ⟨0x6009000c, 1, 4, fun _ => [CRB_FLT.SEAL_REF, CRB_FLT.ENVELOPE, CRB_FLT.WELD, CRB_FLT.CHAN2, CRB_FLT.OSC, CRB_FLT.DISCREP, CRB_FLT.XSHORT, CRB_FLT.HB_SEQ, CRB_FLT.RESET_REF, CRB_FLT.STOP]⟩,
  ⟨0x60090010, 1, 4, fun _ => [CRB_HB.SEQ]⟩,
  ⟨0x60090014, 1, 4, fun _ => [CRB_CMD.SII, CRB_CMD.SRS]⟩,
  ⟨0x60090018, 1, 4, fun _ => [CRB_RESET.KEY]⟩,
  ⟨0x6009001c, 1, 4, fun _ => [CRB_SRSI0.MA]⟩,
  ⟨0x60090020, 1, 4, fun _ => [CRB_SRST.MS]⟩,
  ⟨0x60090030, 4, 4, fun i => [CRB_SCFG.WORD i]⟩,
  ⟨0x60090040, 1, 4, fun _ => [CRB_SCFGCRC.CRC]⟩,
  ⟨0x60090050, 4, 4, fun i => [CRB_STG.WORD i]⟩,
  ⟨0x60090060, 1, 4, fun _ => [CRB_STGCRC.CRC]⟩,
  ⟨0x60090064, 1, 4, fun _ => [CRB_SEAL.KEY]⟩]

/-- Part 4 of the register map, in rising address. -/
def slots4 : List RegSlot := [
  ⟨0x60090068, 1, 4, fun _ => [CRB_SEALSTAT.RESULT]⟩,
  ⟨0x600a0000, 1, 4, fun _ => [GGN_CTRL.RUN]⟩,
  ⟨0x600a0004, 1, 4, fun _ => [GGN_GO.G2, GGN_GO.G1]⟩,
  ⟨0x600a0008, 1, 4, fun _ => [GGN_PUB.PUBSEL, GGN_PUB.PERIOD]⟩,
  ⟨0x600a000c, 1, 4, fun _ => [GGN_DSP.MA]⟩,
  ⟨0x600a0010, 1, 4, fun _ => [GGN_DLO.MA]⟩,
  ⟨0x600a0014, 1, 4, fun _ => [GGN_DHI.MA]⟩,
  ⟨0x600a0018, 1, 4, fun _ => [GGN_STAT.IDLE, GGN_STAT.CLAMPPUB, GGN_STAT.PURSUIT, GGN_STAT.SAFE, GGN_STAT.GATED]⟩,
  ⟨0x600a0100, 4, 64, fun i => [GGN_xCTRL.HARD i, GGN_xCTRL.STEPW i, GGN_xCTRL.GRP i, GGN_xCTRL.ENINV i, GGN_xCTRL.DIRINV i, GGN_xCTRL.EN i]⟩,
  ⟨0x600a0104, 4, 64, fun i => [GGN_xTGT.VAL i]⟩,
  ⟨0x600a0108, 4, 64, fun i => [GGN_xVMAX.VAL i]⟩,
  ⟨0x600a010c, 4, 64, fun i => [GGN_xAMAX.VAL i]⟩,
  ⟨0x600a0110, 4, 64, fun i => [GGN_xJMAX.VAL i]⟩,
  ⟨0x600a0114, 4, 64, fun i => [GGN_xSACC.VAL i]⟩,
  ⟨0x600a0118, 4, 64, fun i => [GGN_xSJRK.VAL i]⟩,
  ⟨0x600a011c, 4, 64, fun i => [GGN_xCMD.SETPOS i, GGN_xCMD.FLUSH i, GGN_xCMD.STOP i]⟩,
  ⟨0x600a0120, 4, 64, fun i => [GGN_xPOSSET.VAL i]⟩,
  ⟨0x600a0124, 4, 64, fun i => [GGN_xPOS.VAL i]⟩,
  ⟨0x600a0128, 4, 64, fun i => [GGN_xVEL.VAL i]⟩,
  ⟨0x600a012c, 4, 64, fun i => [GGN_xACC.VAL i]⟩,
  ⟨0x600a0130, 4, 64, fun i => [GGN_xSTAT.POSLOST i, GGN_xSTAT.CLAMPED i, GGN_xSTAT.QCOUNT i, GGN_xSTAT.STAGED i, GGN_xSTAT.LINKED i, GGN_xSTAT.ACCEL_DEFERRED i, GGN_xSTAT.DECEL i, GGN_xSTAT.STATE i]⟩,
  ⟨0x600a0134, 4, 64, fun i => [GGN_xFLT.LOCKED i, GGN_xFLT.SETPOS_REF i, GGN_xFLT.GRPBRK i, GGN_xFLT.THERM i, GGN_xFLT.CLAMP i, GGN_xFLT.ACCEL_DEFERRED i, GGN_xFLT.BADPAR i, GGN_xFLT.QFULL i]⟩,
  ⟨0x600b0000, 1, 4, fun _ => [FIO_DOSET.DO]⟩,
  ⟨0x600b0004, 1, 4, fun _ => [FIO_DOSTAT.RB, FIO_DOSTAT.ON]⟩,
  ⟨0x600b0008, 1, 4, fun _ => [FIO_STAT.LSHOLD13, FIO_STAT.LSHOLD12, FIO_STAT.TESTCH, FIO_STAT.TEST_BUSY, FIO_STAT.SHUNT, FIO_STAT.FORCE, FIO_STAT.GATED, FIO_STAT.WD_EXP, FIO_STAT.WD_RUN, FIO_STAT.VF2_OK, FIO_STAT.VF1_OK]⟩,
  ⟨0x600b000c, 1, 4, fun _ => [FIO_FLT.TS_OVL, FIO_FLT.REL_REF, FIO_FLT.WD_KEY, FIO_FLT.WD_EXP, FIO_FLT.VF2_LOW, FIO_FLT.VF1_LOW]⟩,
  ⟨0x600b0010, 1, 4, fun _ => [FIO_CMD.CNTCLR, FIO_CMD.LS13_REL, FIO_CMD.LS12_REL, FIO_CMD.WD_REARM]⟩,
  ⟨0x600b0014, 1, 4, fun _ => [FIO_TPCFG.LW, FIO_TPCFG.DW, FIO_TPCFG.PERIOD]⟩,
  ⟨0x600b0018, 1, 4, fun _ => [FIO_ECOCFG.DUTY, FIO_ECOCFG.PULLIN]⟩,
  ⟨0x600b001c, 1, 4, fun _ => [FIO_WDCFG.EN, FIO_WDCFG.TMO]⟩,
  ⟨0x600b0020, 1, 4, fun _ => [FIO_WDKEY.KEY]⟩,
  ⟨0x600b0024, 1, 4, fun _ => [FIO_TSCFG.TPER, FIO_TSCFG.TPW, FIO_TSCFG.EN]⟩,
  ⟨0x600b0028, 1, 4, fun _ => [FIO_DISTAT.RAW, FIO_DISTAT.FILT]⟩,
  ⟨0x600b002c, 1, 4, fun _ => [FIO_DIFLT.XSHORT]⟩,
  ⟨0x600b0030, 1, 4, fun _ => [FIO_DIWAKE.DI]⟩,
  ⟨0x600b0100, 16, 4, fun i => [FIO_DOCFG.ECO i, FIO_DOCFG.OLON i, FIO_DOCFG.OLOFF i, FIO_DOCFG.LTEST i, FIO_DOCFG.DTEST i, FIO_DOCFG.SAFE i]⟩,
  ⟨0x600b0140, 16, 4, fun i => [FIO_DOFLT.OFF_HIGH i, FIO_DOFLT.TIEDWITH i, FIO_DOFLT.TPSTARVE i, FIO_DOFLT.TIED i, FIO_DOFLT.STUCK_ON i, FIO_DOFLT.LIGHT_FAIL i, FIO_DOFLT.DARK_FAIL i, FIO_DOFLT.OT i, FIO_DOFLT.OL_ON i, FIO_DOFLT.OL_OFF i, FIO_DOFLT.OVL i]⟩,
  ⟨0x600b0200, 12, 4, fun i => [FIO_DICFG.EDGE i, FIO_DICFG.TSSEL i, FIO_DICFG.TSEN i, FIO_DICFG.PULSED i, FIO_DICFG.FILT i]⟩,
  ⟨0x600b0240, 4, 4, fun i => [FIO_CNTCFG.PTMO i, FIO_CNTCFG.EDGE i]⟩,
  ⟨0x600b0250, 4, 4, fun i => [FIO_CNT.COUNT i]⟩,
  ⟨0x600b0260, 4, 4, fun i => [FIO_CNTPER.PER i]⟩,
  ⟨0x600b0270, 4, 4, fun i => [FIO_CNTCMP.CMP i]⟩,
  ⟨0x600c0000, 1, 4, fun _ => [CNx_CTRL.PXE 0, CNx_CTRL.FDEN 0, CNx_CTRL.BOAUTO 0, CNx_CTRL.MODE 0]⟩,
  ⟨0x600c0004, 1, 4, fun _ => [CNx_CMD.ABORTALL 0, CNx_CMD.RECOVER 0]⟩,
  ⟨0x600c0008, 1, 4, fun _ => [CNx_STAT.REC 0, CNx_STAT.TEC 0, CNx_STAT.LEC 0, CNx_STAT.PADDOCK 0, CNx_STAT.RESTR 0, CNx_STAT.STATE 0]⟩,
  ⟨0x600c000c, 1, 4, fun _ => [CNx_FLT.DISP_CFG 0, CNx_FLT.DISP_STALE 0, CNx_FLT.PXE 0, CNx_FLT.CFGWR 0, CNx_FLT.BUSYWR 0, CNx_FLT.RXLOST 0, CNx_FLT.ONESHOT 0, CNx_FLT.BUSOFF 0, CNx_FLT.ERRPASS 0]⟩,
  ⟨0x600c0010, 1, 4, fun _ => [CNx_NBT.NSJW 0, CNx_NBT.NTSEG1 0, CNx_NBT.NTSEG2 0, CNx_NBT.NBRP 0]⟩,
  ⟨0x600c0014, 1, 4, fun _ => [CNx_DBT.DSJW 0, CNx_DBT.DTSEG1 0, CNx_DBT.DTSEG2 0, CNx_DBT.DBRP 0]⟩]

/-- Part 5 of the register map, in rising address. -/
def slots5 : List RegSlot := [
  ⟨0x600c0018, 1, 4, fun _ => [CNx_TDC.TDCV 0, CNx_TDC.TDCEN 0, CNx_TDC.TDCO 0]⟩,
  ⟨0x600c0020, 1, 4, fun _ => [CNA_PNBT.NSJW, CNA_PNBT.NTSEG1, CNA_PNBT.NTSEG2, CNA_PNBT.NBRP]⟩,
  ⟨0x600c0024, 1, 4, fun _ => [CNA_PDBT.DSJW, CNA_PDBT.DTSEG1, CNA_PDBT.DTSEG2, CNA_PDBT.DBRP]⟩,
  ⟨0x600c0040, 4, 4, fun i => [CNx_TXREQ.BITS 0 i]⟩,
  ⟨0x600c0050, 4, 4, fun i => [CNx_TXABORT.BITS 0 i]⟩,
  ⟨0x600c0060, 4, 4, fun i => [CNx_TXPEND.BITS 0 i]⟩,
  ⟨0x600c0070, 4, 4, fun i => [CNx_TXDONE.BITS 0 i]⟩,
  ⟨0x600c0080, 4, 4, fun i => [CNx_RXNEW.BITS 0 i]⟩,
  ⟨0x600c0090, 4, 4, fun i => [CNx_RXTMO.BITS 0 i]⟩,
  ⟨0x600c1000, 128, 128, fun i => [CNx_OCFG.EN 0 i, CNx_OCFG.DIR 0 i, CNx_OCFG.IDE 0 i, CNx_OCFG.FMT 0 i, CNx_OCFG.ONESHOT 0 i, CNx_OCFG.GATED 0 i, CNx_OCFG.WAKE 0 i, CNx_OCFG.NEXT 0 i, CNx_OCFG.IRQ 0 i, CNx_OCFG.LEN 0 i]⟩,
  ⟨0x600c1004, 128, 128, fun i => [CNx_OID.ID 0 i]⟩,
  ⟨0x600c1008, 128, 128, fun i => [CNx_OMASK.MASK 0 i]⟩,
  ⟨0x600c100c, 128, 128, fun i => [CNx_OSTAT.RXSEQ 0 i, CNx_OSTAT.NEW 0 i, CNx_OSTAT.OVR 0 i, CNx_OSTAT.TMO 0 i, CNx_OSTAT.TXPEND 0 i, CNx_OSTAT.RES 0 i, CNx_OSTAT.FDF 0 i, CNx_OSTAT.BRS 0 i, CNx_OSTAT.ESI 0 i, CNx_OSTAT.IDE 0 i, CNx_OSTAT.LEN 0 i]⟩,
  ⟨0x600c1010, 128, 128, fun i => [CNx_OTSLO.NS 0 i]⟩,
  ⟨0x600c1014, 128, 128, fun i => [CNx_OTSHI.NS 0 i]⟩,
  ⟨0x600c1018, 128, 128, fun i => [CNx_ORTO.MS 0 i]⟩,
  ⟨0x600c101c, 128, 128, fun i => [CNx_ORXID.ID 0 i]⟩,
  ⟨0x600c1020, 128, 128, fun i => [CNx_ODATA.WORD 0 i 0]⟩,
  ⟨0x600c1024, 128, 128, fun i => [CNx_ODATA.WORD 0 i 1]⟩,
  ⟨0x600c1028, 128, 128, fun i => [CNx_ODATA.WORD 0 i 2]⟩,
  ⟨0x600c102c, 128, 128, fun i => [CNx_ODATA.WORD 0 i 3]⟩,
  ⟨0x600c1030, 128, 128, fun i => [CNx_ODATA.WORD 0 i 4]⟩,
  ⟨0x600c1034, 128, 128, fun i => [CNx_ODATA.WORD 0 i 5]⟩,
  ⟨0x600c1038, 128, 128, fun i => [CNx_ODATA.WORD 0 i 6]⟩,
  ⟨0x600c103c, 128, 128, fun i => [CNx_ODATA.WORD 0 i 7]⟩,
  ⟨0x600c1040, 128, 128, fun i => [CNx_ODATA.WORD 0 i 8]⟩,
  ⟨0x600c1044, 128, 128, fun i => [CNx_ODATA.WORD 0 i 9]⟩,
  ⟨0x600c1048, 128, 128, fun i => [CNx_ODATA.WORD 0 i 10]⟩,
  ⟨0x600c104c, 128, 128, fun i => [CNx_ODATA.WORD 0 i 11]⟩,
  ⟨0x600c1050, 128, 128, fun i => [CNx_ODATA.WORD 0 i 12]⟩,
  ⟨0x600c1054, 128, 128, fun i => [CNx_ODATA.WORD 0 i 13]⟩,
  ⟨0x600c1058, 128, 128, fun i => [CNx_ODATA.WORD 0 i 14]⟩,
  ⟨0x600c105c, 128, 128, fun i => [CNx_ODATA.WORD 0 i 15]⟩,
  ⟨0x600d0000, 1, 4, fun _ => [CNx_CTRL.PXE 1, CNx_CTRL.FDEN 1, CNx_CTRL.BOAUTO 1, CNx_CTRL.MODE 1]⟩,
  ⟨0x600d0004, 1, 4, fun _ => [CNx_CMD.ABORTALL 1, CNx_CMD.RECOVER 1]⟩,
  ⟨0x600d0008, 1, 4, fun _ => [CNx_STAT.REC 1, CNx_STAT.TEC 1, CNx_STAT.LEC 1, CNx_STAT.PADDOCK 1, CNx_STAT.RESTR 1, CNx_STAT.STATE 1]⟩,
  ⟨0x600d000c, 1, 4, fun _ => [CNx_FLT.DISP_CFG 1, CNx_FLT.DISP_STALE 1, CNx_FLT.PXE 1, CNx_FLT.CFGWR 1, CNx_FLT.BUSYWR 1, CNx_FLT.RXLOST 1, CNx_FLT.ONESHOT 1, CNx_FLT.BUSOFF 1, CNx_FLT.ERRPASS 1]⟩,
  ⟨0x600d0010, 1, 4, fun _ => [CNx_NBT.NSJW 1, CNx_NBT.NTSEG1 1, CNx_NBT.NTSEG2 1, CNx_NBT.NBRP 1]⟩,
  ⟨0x600d0014, 1, 4, fun _ => [CNx_DBT.DSJW 1, CNx_DBT.DTSEG1 1, CNx_DBT.DTSEG2 1, CNx_DBT.DBRP 1]⟩,
  ⟨0x600d0018, 1, 4, fun _ => [CNx_TDC.TDCV 1, CNx_TDC.TDCEN 1, CNx_TDC.TDCO 1]⟩,
  ⟨0x600d0028, 1, 4, fun _ => [CNB_DISP.EN, CNB_DISP.OBJ]⟩,
  ⟨0x600d002c, 1, 4, fun _ => [CNB_DSEQ.SEQ]⟩,
  ⟨0x600d0040, 4, 4, fun i => [CNx_TXREQ.BITS 1 i]⟩,
  ⟨0x600d0050, 4, 4, fun i => [CNx_TXABORT.BITS 1 i]⟩,
  ⟨0x600d0060, 4, 4, fun i => [CNx_TXPEND.BITS 1 i]⟩,
  ⟨0x600d0070, 4, 4, fun i => [CNx_TXDONE.BITS 1 i]⟩,
  ⟨0x600d0080, 4, 4, fun i => [CNx_RXNEW.BITS 1 i]⟩,
  ⟨0x600d0090, 4, 4, fun i => [CNx_RXTMO.BITS 1 i]⟩]

/-- Part 6 of the register map, in rising address. -/
def slots6 : List RegSlot := [
  ⟨0x600d1000, 128, 128, fun i => [CNx_OCFG.EN 1 i, CNx_OCFG.DIR 1 i, CNx_OCFG.IDE 1 i, CNx_OCFG.FMT 1 i, CNx_OCFG.ONESHOT 1 i, CNx_OCFG.GATED 1 i, CNx_OCFG.WAKE 1 i, CNx_OCFG.NEXT 1 i, CNx_OCFG.IRQ 1 i, CNx_OCFG.LEN 1 i]⟩,
  ⟨0x600d1004, 128, 128, fun i => [CNx_OID.ID 1 i]⟩,
  ⟨0x600d1008, 128, 128, fun i => [CNx_OMASK.MASK 1 i]⟩,
  ⟨0x600d100c, 128, 128, fun i => [CNx_OSTAT.RXSEQ 1 i, CNx_OSTAT.NEW 1 i, CNx_OSTAT.OVR 1 i, CNx_OSTAT.TMO 1 i, CNx_OSTAT.TXPEND 1 i, CNx_OSTAT.RES 1 i, CNx_OSTAT.FDF 1 i, CNx_OSTAT.BRS 1 i, CNx_OSTAT.ESI 1 i, CNx_OSTAT.IDE 1 i, CNx_OSTAT.LEN 1 i]⟩,
  ⟨0x600d1010, 128, 128, fun i => [CNx_OTSLO.NS 1 i]⟩,
  ⟨0x600d1014, 128, 128, fun i => [CNx_OTSHI.NS 1 i]⟩,
  ⟨0x600d1018, 128, 128, fun i => [CNx_ORTO.MS 1 i]⟩,
  ⟨0x600d101c, 128, 128, fun i => [CNx_ORXID.ID 1 i]⟩,
  ⟨0x600d1020, 128, 128, fun i => [CNx_ODATA.WORD 1 i 0]⟩,
  ⟨0x600d1024, 128, 128, fun i => [CNx_ODATA.WORD 1 i 1]⟩,
  ⟨0x600d1028, 128, 128, fun i => [CNx_ODATA.WORD 1 i 2]⟩,
  ⟨0x600d102c, 128, 128, fun i => [CNx_ODATA.WORD 1 i 3]⟩,
  ⟨0x600d1030, 128, 128, fun i => [CNx_ODATA.WORD 1 i 4]⟩,
  ⟨0x600d1034, 128, 128, fun i => [CNx_ODATA.WORD 1 i 5]⟩,
  ⟨0x600d1038, 128, 128, fun i => [CNx_ODATA.WORD 1 i 6]⟩,
  ⟨0x600d103c, 128, 128, fun i => [CNx_ODATA.WORD 1 i 7]⟩,
  ⟨0x600d1040, 128, 128, fun i => [CNx_ODATA.WORD 1 i 8]⟩,
  ⟨0x600d1044, 128, 128, fun i => [CNx_ODATA.WORD 1 i 9]⟩,
  ⟨0x600d1048, 128, 128, fun i => [CNx_ODATA.WORD 1 i 10]⟩,
  ⟨0x600d104c, 128, 128, fun i => [CNx_ODATA.WORD 1 i 11]⟩,
  ⟨0x600d1050, 128, 128, fun i => [CNx_ODATA.WORD 1 i 12]⟩,
  ⟨0x600d1054, 128, 128, fun i => [CNx_ODATA.WORD 1 i 13]⟩,
  ⟨0x600d1058, 128, 128, fun i => [CNx_ODATA.WORD 1 i 14]⟩,
  ⟨0x600d105c, 128, 128, fun i => [CNx_ODATA.WORD 1 i 15]⟩,
  ⟨0x600e0000, 1, 4, fun _ => [ETH_CTRL.ICMP_EN, ETH_CTRL.PLANT_EN, ETH_CTRL.P2EN, ETH_CTRL.P1EN]⟩,
  ⟨0x600e0004, 1, 4, fun _ => [ETH_STAT.DEM_TMO, ETH_STAT.DEM_OK, ETH_STAT.P2LINK, ETH_STAT.P1LINK]⟩,
  ⟨0x600e0008, 1, 4, fun _ => [ETH_FLT.DISP_CFG, ETH_FLT.ARPFAIL, ETH_FLT.DEM_TMO, ETH_FLT.P2CHG, ETH_FLT.P1CHG]⟩,
  ⟨0x600e0010, 1, 4, fun _ => [ETH_MACLO.MAC]⟩,
  ⟨0x600e0014, 1, 4, fun _ => [ETH_MACHI.MAC]⟩,
  ⟨0x600e0018, 1, 4, fun _ => [ETH_IPADDR.IP]⟩,
  ⟨0x600e001c, 1, 4, fun _ => [ETH_NETMASK.IP]⟩,
  ⟨0x600e0020, 1, 4, fun _ => [ETH_GW.IP]⟩,
  ⟨0x600e0024, 1, 4, fun _ => [ETH_UDPPORT.PORT]⟩,
  ⟨0x600e0028, 1, 4, fun _ => [ETH_PLANTIP.IP]⟩,
  ⟨0x600e002c, 1, 4, fun _ => [ETH_TELCFG.EN, ETH_TELCFG.PERIOD]⟩,
  ⟨0x600e0030, 1, 4, fun _ => [ETH_DISPIP.IP]⟩,
  ⟨0x600e0034, 1, 4, fun _ => [ETH_DISPPORT.PORT]⟩,
  ⟨0x600e0038, 1, 4, fun _ => [ETH_DEMCFG.AGEMAX, ETH_DEMCFG.DTMO]⟩,
  ⟨0x600e0040, 1, 4, fun _ => [ETH_DEMSEQ.SEQ]⟩,
  ⟨0x600e0044, 1, 4, fun _ => [ETH_DEMI.MA]⟩,
  ⟨0x600e0048, 1, 4, fun _ => [ETH_DEMV.RAMPV]⟩,
  ⟨0x600e004c, 1, 4, fun _ => [ETH_DEMSTAT.NOAGE, ETH_DEMSTAT.MODE]⟩,
  ⟨0x600e0050, 1, 4, fun _ => [ETH_RXDROP.COUNT]⟩,
  ⟨0x600e0054, 1, 4, fun _ => [ETH_SWDROP.COUNT]⟩,
  ⟨0x600e0058, 1, 4, fun _ => [ETH_SVC.CELL, ETH_SVC.NEW, ETH_SVC.CODE]⟩,
  ⟨0x600f0000, 1, 4, fun _ => [PTP_CTRL.TC_EN, PTP_CTRL.MASTER_EN, PTP_CTRL.AUTOFIRST, PTP_CTRL.SRC, PTP_CTRL.EN]⟩,
  ⟨0x600f0004, 1, 4, fun _ => [PTP_CMD.TSQ_CLR, PTP_CMD.TSQ_POP, PTP_CMD.TIME_ACCEPT]⟩,
  ⟨0x600f0008, 1, 4, fun _ => [PTP_STAT.MASTER, PTP_STAT.TVALID, PTP_STAT.STATE]⟩]

/-- Part 7 of the register map, in rising address. -/
def slots7 : List RegSlot := [
  ⟨0x600f000c, 1, 4, fun _ => [PTP_FLT.STEP, PTP_FLT.SYNCLOSS, PTP_FLT.ACCEPT_REF, PTP_FLT.PPSBAD, PTP_FLT.TSQ_OVF, PTP_FLT.GMCHG, PTP_FLT.JUMP]⟩,
  ⟨0x600f0010, 1, 4, fun _ => [PTP_TIMELO.NS]⟩,
  ⟨0x600f0014, 1, 4, fun _ => [PTP_TIMEHI.NS]⟩,
  ⟨0x600f0018, 1, 4, fun _ => [PTP_OFFSET.NS]⟩,
  ⟨0x600f001c, 1, 4, fun _ => [PTP_REFOFSLO.NS]⟩,
  ⟨0x600f0020, 1, 4, fun _ => [PTP_REFOFSHI.NS]⟩,
  ⟨0x600f0024, 1, 4, fun _ => [PTP_JUMPTHR.JUMPTHR]⟩,
  ⟨0x600f0028, 1, 4, fun _ => [PTP_SERVO.RMAX, PTP_SERVO.KISH, PTP_SERVO.KPSH]⟩,
  ⟨0x600f002c, 1, 4, fun _ => [PTP_TIMING.HOLDMAX, PTP_TIMING.SYNCTMO]⟩,
  ⟨0x600f0030, 1, 4, fun _ => [PTP_PORTCFG.TRANSPORT, PTP_PORTCFG.PROFILE, PTP_PORTCFG.PRIO2, PTP_PORTCFG.PRIO1, PTP_PORTCFG.DOMAIN]⟩,
  ⟨0x600f0034, 1, 4, fun _ => [PTP_GMID0.ID]⟩,
  ⟨0x600f0038, 1, 4, fun _ => [PTP_GMID1.ID]⟩,
  ⟨0x600f003c, 1, 4, fun _ => [PTP_PPSCFG.OWIDTH, PTP_PPSCFG.IPOL, PTP_PPSCFG.OFREE, PTP_PPSCFG.OEN, PTP_PPSCFG.IEN]⟩,
  ⟨0x600f0040, 1, 4, fun _ => [PTP_PPSSEC.SEC]⟩,
  ⟨0x600f0044, 1, 4, fun _ => [PTP_PPSTSLO.NS]⟩,
  ⟨0x600f0048, 1, 4, fun _ => [PTP_PPSTSHI.NS]⟩,
  ⟨0x600f0050, 1, 4, fun _ => [PTP_TSQSTAT.COUNT]⟩,
  ⟨0x600f0054, 1, 4, fun _ => [PTP_TSQID.VALID, PTP_TSQID.ID]⟩,
  ⟨0x600f0058, 1, 4, fun _ => [PTP_TSQLO.NS]⟩,
  ⟨0x600f005c, 1, 4, fun _ => [PTP_TSQHI.NS]⟩,
  ⟨0x600f0060, 4, 4, fun i => [PTP_CMP.TARGET i]⟩,
  ⟨0x600f0070, 1, 4, fun _ => [PTP_CMPSTAT.FIRED, PTP_CMPSTAT.ARMED]⟩,
  ⟨0x60100000, 1, 4, fun _ => [TDM_CTRL.WAKEPEER, TDM_CTRL.HANDBACK, TDM_CTRL.AUTORESYNC, TDM_CTRL.CLAIM_EN, TDM_CTRL.EN]⟩,
  ⟨0x60100004, 1, 4, fun _ => [TDM_CMD.RESYNC, TDM_CMD.RELEASE]⟩,
  ⟨0x60100008, 1, 4, fun _ => [TDM_STAT.HCODE, TDM_STAT.LAG, TDM_STAT.PEERHB, TDM_STAT.TICKMASTER, TDM_STAT.LINK, TDM_STAT.GATE, TDM_STAT.PEERCLAIM, TDM_STAT.CLAIM, TDM_STAT.SEAT, TDM_STAT.STATE]⟩,
  ⟨0x6010000c, 1, 4, fun _ => [TDM_FLT.OVERRUN, TDM_FLT.REFRESH, TDM_FLT.SNAPFAIL, TDM_FLT.HELLO, TDM_FLT.BRIDLE, TDM_FLT.LINK, TDM_FLT.LOCAL, TDM_FLT.OPDIFF, TDM_FLT.BUNDLE, TDM_FLT.LAG, TDM_FLT.DIGEST]⟩,
  ⟨0x60100010, 1, 4, fun _ => [TDM_CLAIMREF.KEY]⟩,
  ⟨0x60100014, 1, 4, fun _ => [TDM_DECLBASE.ADDR]⟩,
  ⟨0x60100018, 1, 4, fun _ => [TDM_DECLLEN.LEN]⟩,
  ⟨0x6010001c, 1, 4, fun _ => [TDM_CFGCRC.CRC]⟩,
  ⟨0x60100020, 1, 4, fun _ => [TDM_PROVE.PROVE]⟩,
  ⟨0x60100024, 1, 4, fun _ => [TDM_DIGEST.CRC]⟩,
  ⟨0x60100028, 1, 4, fun _ => [TDM_PEERDIG.CRC]⟩,
  ⟨0x6010002c, 1, 4, fun _ => [TDM_MATCHCNT.COUNT]⟩,
  ⟨0x60100030, 1, 4, fun _ => [TDM_SNAPSTAT.ROUND, TDM_SNAPSTAT.PAGES]⟩,
  ⟨0x60100034, 1, 4, fun _ => [TDM_LINKDLY.NS]⟩,
  ⟨0x60100038, 1, 4, fun _ => [TDM_ERRCNT.LOST, TDM_ERRCNT.REJ]⟩,
  ⟨0x6010003c, 1, 4, fun _ => [TDM_RELINFO.OWN, TDM_RELINFO.PEER]⟩,
  ⟨0x60110000, 1, 4, fun _ => [NVM_CFG.DEFTMO]⟩,
  ⟨0x60110004, 1, 4, fun _ => [NVM_CMD.RSV_TEST, NVM_CMD.LEDGER_DONE]⟩,
  ⟨0x60110008, 1, 4, fun _ => [NVM_STAT.QUEUED, NVM_STAT.DEFERRING, NVM_STAT.BUSY, NVM_STAT.RSV_FULL, NVM_STAT.RSV_OK, NVM_STAT.LEDGER_OK]⟩,
  ⟨0x6011000c, 1, 4, fun _ => [NVM_FLT.CNT_LOST, NVM_FLT.SET_LOST, NVM_FLT.SET_TORN, NVM_FLT.LED_LOST, NVM_FLT.LED_TORN, NVM_FLT.RSV_TEST_FAIL, NVM_FLT.RSV_LOW, NVM_FLT.COMMIT_FAIL, NVM_FLT.DEFER]⟩,
  ⟨0x60110010, 1, 4, fun _ => [NVM_RSVV.MV]⟩,
  ⟨0x60110014, 1, 4, fun _ => [NVM_RSVE.UJ]⟩,
  ⟨0x60110018, 1, 4, fun _ => [NVM_RSVTST.ESR, NVM_RSVTST.CAP]⟩,
  ⟨0x60110020, 1, 4, fun _ => [NVM_LEDVALID.BITS]⟩,
  ⟨0x60110024, 1, 4, fun _ => [NVM_LEDCUR.BITS]⟩,
  ⟨0x60110028, 1, 4, fun _ => [NVM_SETVALID.BITS]⟩]

/-- Part 8 of the register map, in rising address. -/
def slots8 : List RegSlot := [
  ⟨0x6011002c, 1, 4, fun _ => [NVM_SETCUR.BITS]⟩,
  ⟨0x60110030, 1, 4, fun _ => [NVM_OPTIME.SEC]⟩,
  ⟨0x60110034, 1, 4, fun _ => [NVM_PWRCYC.COUNT]⟩,
  ⟨0x60120000, 1, 4, fun _ => [LOG_CFG.LIMSEV, LOG_CFG.LAYOUT]⟩,
  ⟨0x60120004, 1, 4, fun _ => [LOG_CMD.KEY, LOG_CMD.CLEAR]⟩,
  ⟨0x60120008, 1, 4, fun _ => [LOG_STAT.SCAN_DONE, LOG_STAT.CLEARING, LOG_STAT.FULL, LOG_STAT.LAYOUT, LOG_STAT.COUNT]⟩,
  ⟨0x6012000c, 1, 4, fun _ => [LOG_FLT.TORN, LOG_FLT.SUPPRESS, LOG_FLT.DROP]⟩,
  ⟨0x60120010, 1, 4, fun _ => [LOG_NEXTSEQ.SEQ]⟩,
  ⟨0x60120014, 1, 4, fun _ => [LOG_OLDSEQ.SEQ]⟩,
  ⟨0x60120018, 1, 4, fun _ => [LOG_DROPCNT.COUNT]⟩,
  ⟨0x6012001c, 1, 4, fun _ => [LOG_OVWCNT.COUNT]⟩,
  ⟨0x60120020, 1, 4, fun _ => [LOG_SUPCNT.COUNT]⟩,
  ⟨0x60120024, 1, 4, fun _ => [LOG_TORNCNT.COUNT]⟩,
  ⟨0x60120100, 64, 4, fun i => [LOG_LIM.AUTO i, LOG_LIM.BURST i, LOG_LIM.RATE i, LOG_LIM.CODE i]⟩,
  ⟨0x60120200, 64, 4, fun i => [LOG_LIMST.BOUND i, LOG_LIMST.TOKENS i, LOG_LIMST.SUPP i]⟩,
  ⟨0x60130000, 1, 4, fun _ => [UPD_CTRL.ETH_EN]⟩,
  ⟨0x60130004, 1, 4, fun _ => [UPD_CMD.KEY, UPD_CMD.ABORT, UPD_CMD.CONFIRM, UPD_CMD.ARM, UPD_CMD.VERIFY, UPD_CMD.PROG, UPD_CMD.BEGIN]⟩,
  ⟨0x60130008, 1, 4, fun _ => [UPD_STAT.RESUMED, UPD_STAT.FALLBACK, UPD_STAT.RUNSLOT, UPD_STAT.TRIAL, UPD_STAT.RES, UPD_STAT.BUSY, UPD_STAT.SESS]⟩,
  ⟨0x6013000c, 1, 4, fun _ => [UPD_FLT.META_LOST, UPD_FLT.EXPIRED, UPD_FLT.RXDROP, UPD_FLT.CMDFAIL]⟩,
  ⟨0x60130010, 1, 4, fun _ => [UPD_IMGLEN.BYTES]⟩,
  ⟨0x60130014, 1, 4, fun _ => [UPD_BLOCK.BLOCK]⟩,
  ⟨0x60130018, 1, 4, fun _ => [UPD_RECV.FIRSTMISS, UPD_RECV.HELD]⟩,
  ⟨0x6013001c, 1, 4, fun _ => [UPD_TRCFG.ABS, UPD_TRCFG.WINDOW]⟩,
  ⟨0x60130020, 1, 4, fun _ => [UPD_TRSTAT.TRIALS, UPD_TRSTAT.ELAPSED]⟩,
  ⟨0x60130024, 1, 4, fun _ => [UPD_RXBASE.ADDR]⟩,
  ⟨0x60130028, 1, 4, fun _ => [UPD_RXFULL.SLOTS]⟩,
  ⟨0x6013002c, 1, 4, fun _ => [UPD_RXDROP.COUNT]⟩,
  ⟨0x60130030, 1, 4, fun _ => [UPD_SLOTA.STATE]⟩,
  ⟨0x60130034, 1, 4, fun _ => [UPD_SLOTB.STATE]⟩,
  ⟨0x60130040, 8, 4, fun i => [UPD_IDENT.WORD i]⟩,
  ⟨0x60130060, 8, 4, fun i => [UPD_RUNID.WORD i]⟩,
  ⟨0x60130400, 256, 4, fun i => [UPD_STAGE.WORD i]⟩,
  ⟨0x60140000, 1, 4, fun _ => [THM_THROT.HYST, THM_THROT.LEVEL]⟩,
  ⟨0x60140004, 1, 4, fun _ => [THM_GRACE.MS]⟩,
  ⟨0x60140008, 1, 4, fun _ => [THM_STAT.HOTIDX, THM_STAT.SENS_FAULT, THM_STAT.GRACE_RUN, THM_STAT.ENFORCED, THM_STAT.THROT_REQ]⟩,
  ⟨0x6014000c, 1, 4, fun _ => [THM_HOT.TEMP]⟩,
  ⟨0x60140010, 6, 4, fun i => [THM_DIE.TEMP i]⟩,
  ⟨0x60140028, 2, 4, fun i => [THM_HV.TEMP i]⟩,
  ⟨0x60140030, 1, 4, fun _ => [THM_REFILL.RMIN, THM_REFILL.RMAX]⟩,
  ⟨0x60140034, 1, 4, fun _ => [THM_HFULL.HFULL]⟩,
  ⟨0x60140038, 1, 4, fun _ => [THM_RATE.R]⟩,
  ⟨0x6014003c, 1, 4, fun _ => [THM_BUCKET.TOKENS]⟩,
  ⟨0x60140040, 1, 4, fun _ => [THM_LATCH.DIE_PAST, THM_LATCH.DO15, THM_LATCH.DO14, THM_LATCH.DO13, THM_LATCH.DO12, THM_LATCH.HV_CONV]⟩,
  ⟨0x60140080, 16, 4, fun i => [THM_COST.COST i]⟩,
  ⟨0x60150000, 1, 4, fun _ => [PAD_URG_R0.SRAM, PAD_URG_R0.CANTX, PAD_URG_R0.BLEED, PAD_URG_R0.MRAM, PAD_URG_R0.TEAM, PAD_URG_R0.CHAIN]⟩,
  ⟨0x60150004, 1, 4, fun _ => [PAD_URG_R1.SRAM, PAD_URG_R1.CANTX, PAD_URG_R1.BLEED, PAD_URG_R1.MRAM, PAD_URG_R1.TEAM, PAD_URG_R1.CHAIN]⟩,
  ⟨0x60150008, 1, 4, fun _ => [PAD_URG_GRM.SRAM, PAD_URG_GRM.CANTX, PAD_URG_GRM.BLEED, PAD_URG_GRM.MRAM, PAD_URG_GRM.TEAM, PAD_URG_GRM.CHAIN]⟩,
  ⟨0x6015000c, 1, 4, fun _ => [PAD_URG_HRD.SRAM, PAD_URG_HRD.CANTX, PAD_URG_HRD.BLEED, PAD_URG_HRD.MRAM, PAD_URG_HRD.TEAM, PAD_URG_HRD.CHAIN]⟩]

/-- Part 9 of the register map, in rising address. -/
def slots9 : List RegSlot := [
  ⟨0x60150010, 1, 4, fun _ => [PAD_URG_DMA.SRAM, PAD_URG_DMA.CANTX, PAD_URG_DMA.BLEED, PAD_URG_DMA.MRAM, PAD_URG_DMA.TEAM, PAD_URG_DMA.CHAIN]⟩,
  ⟨0x60150020, 1, 4, fun _ => [PAD_LOCKLIM.LIM]⟩,
  ⟨0x60150024, 1, 4, fun _ => [PAD_PROMCNT.COUNT]⟩,
  ⟨0x60150028, 1, 4, fun _ => [PAD_LOCKERR.CORE, PAD_LOCKERR.KIND, PAD_LOCKERR.LOCK]⟩,
  ⟨0x60150030, 2, 4, fun i => (List.range 16).map (fun k => PAD_LOCKOWN.OWN (16 * i + k))⟩]

/-- Every register of the module. -/
def slots : List RegSlot :=
  slots0 ++ slots1 ++ slots2 ++ slots3 ++ slots4 ++ slots5 ++ slots6 ++ slots7 ++ slots8 ++ slots9

/-- The fields of the register at `addr`; none at an undefined offset (R22). -/
def fieldsIn (l : List RegSlot) (addr : Nat) : List Fld :=
  match l with
  | [] => []
  | r :: rest =>
    if r.base ≤ addr ∧ addr < r.base + r.count * r.stride ∧ (addr - r.base) % r.stride = 0 then
      r.fields ((addr - r.base) / r.stride)
    else fieldsIn rest addr

/-- The fields of the register at `addr` (R22, R32). -/
def fieldsAt (addr : Nat) : List Fld := fieldsIn slots addr

end Sys2Proof.Reg
end

