-- ==== Sys2Proof/Machine/Types.lean ====
section
/-! DEFINITION. The types of what the commands carry and of what each block holds beyond its registers,
each block's state with its value after reset. An operand carries what a command takes from outside the
module's state: an instruction's fields, a sample, a frame, a level at a pin. -/

namespace Sys2Proof

/-- The scalar cores (Table ARC-1). -/
inductive Core where
  | r0 | r1 | grm
  deriving DecidableEq, Repr

/-- The two lockstep pairs. -/
inductive Rider where
  | r0 | r1
  deriving DecidableEq, Repr

/-- What the ECC logic finds on an access (R98, Table GCS-13) (log entry 9: DESIGN CHOICE). -/
inductive Ecc where
  | ok | corrected | uncorrectable
  deriving DecidableEq, Repr

/-- Number of a general register, g0 to g31 (R80). -/
abbrev Reg := BitVec 5

/-- The core that executes an instruction, what ECC finds on its fetch (log entry 9: DESIGN CHOICE), and the word as it
stands in memory where that is none of the row's own words: an undefined op or cond, a non-zero reserved field, a lane
word (R79) (log entry 120: DESIGN CHOICE). -/
structure Fetch where
  core : Core
  ecc : Ecc
  raw : Option Word
  deriving DecidableEq, Repr

/-- A request posted at the paddock arbiter: resource class 0 chain port, 1 Herd team, 2 MRAM port,
3 cell bleed channel, 4 CAN transmit slot, 5 SRAM bank (Table ARC-19); `req` is the requester rank 1
to 6 of Table ARC-20 and `index` its index in the class. -/
structure ArbPost where
  cls : Nat
  unit : Nat
  req : Nat
  index : Nat
  deriving DecidableEq, Repr

/-- A chain frame after SOF: RSP is bit 7 of `addr`, NAK bit 7 of `cmd` (Table CHN-4). -/
structure Frame where
  tag : Nat
  addr : Nat
  cmd : Nat
  payload : List Nat
  deriving DecidableEq, Repr

/-- The sample of a unit, as its READ_BLOCK response carries it (Table CHN-9): USTAT, stack in mV,
temperatures as 16-bit codes, cell voltages in 100 µV. -/
structure UnitFrame where
  ustat : Nat
  stack : Nat
  t0 : Nat
  t1 : Nat
  cells : List Nat
  deriving DecidableEq, Repr

/-- What a receiver makes of a frame (R174): good, a CRC or LEN error, a code error or ABORT. -/
inductive Rx where
  | good | crc | code
  deriving DecidableEq, Repr

/-- A request as it reaches a place of the ring (Table CHN-4): the place, 1 to 32 from the North port of the seat-A
module and 0 for this module, the side it arrives on, its tag and address, what the receiver makes of the frame, and
whether its LEN is that of the command. -/
structure Hop where
  unit : Nat
  south : Bool
  tag : Nat
  dest : Nat
  rx : Rx
  lenOk : Bool
  deriving DecidableEq, Repr

/-- Where something reaches the ring: the place, and the side it arrives on. -/
structure Side where
  unit : Nat
  south : Bool
  deriving DecidableEq, Repr

/-- What a request carries as it arrives: tag, address, what the receiver makes of it, its LEN right or not. -/
structure Head where
  tag : Nat
  dest : Nat
  rx : Rx
  lenOk : Bool
  deriving DecidableEq, Repr

/-- A request from its place and its head, and back. -/
def Hop.of (p : Side) (k : Head) : Hop := ⟨p.unit, p.south, k.tag, k.dest, k.rx, k.lenOk⟩
def Hop.side (h : Hop) : Side := ⟨h.unit, h.south⟩
def Hop.head (h : Hop) : Head := ⟨h.tag, h.dest, h.rx, h.lenOk⟩

/-- The wake tone as it reaches a place; `cold` where the unit has been without supply since its last command. -/
structure Tone where
  side : Side
  cold : Bool
  deriving DecidableEq, Repr

/-- A side of a unit loses lock (`lost`) or has it again; `cut` where a frame was being forwarded from it. -/
structure LockChange where
  south : Bool
  lost : Bool
  cut : Bool
  deriving DecidableEq, Repr

/-- What a transmitter puts on a line between idles (Table CHN-3): a frame, FAULT, ABORT, the wake tone. -/
inductive LineSym where
  | frame (f : Frame)
  | fault
  | abort
  | tone
  deriving DecidableEq, Repr

/-- A frame as it came to a port of the module: LEN and CRC as received, and whether a code error or ABORT ended it
(R174). -/
structure Wire where
  f : Frame
  len : Nat
  crc : Nat
  broken : Bool
  deriving DecidableEq, Repr

/-- What a frame came with: its LEN and its CRC, and whether a code error or ABORT ended it. -/
structure Tail where
  len : Nat
  crc : Nat
  broken : Bool
  deriving DecidableEq, Repr

/-- A frame as it came, from what it holds and what it came with, and back. -/
def Wire.of (f : Frame) (e : Tail) : Wire := ⟨f, e.len, e.crc, e.broken⟩
def Wire.tail (w : Wire) : Tail := ⟨w.len, w.crc, w.broken⟩

/-- A frame at a port of the module, the upper one where `high`. -/
structure Arrival where
  high : Bool
  wire : Wire
  deriving DecidableEq, Repr

/-- The end of a channel's transfer; `fixed` where ECC corrected a load of a Herd memory (R141). -/
structure DmaEnd where
  chan : BitVec 3
  fixed : Bool
  deriving DecidableEq, Repr

/-- The Hall input in µV and the HALL_5V current in µA (R153). -/
structure HallRead where
  uv : Int
  ua : Nat
  deriving DecidableEq, Repr

/-- The overload marks of the low-range and of the high-range modulator (R146, R148). -/
structure Overloads where
  low : Bool
  high : Bool
  deriving DecidableEq, Repr

/-- The fields that every lane word has (Table HRD-5), the team that executes it, and what ECC finds in
the program store. -/
structure LaneOp where
  team : BitVec 5
  pred : BitVec 3
  unp : Bool
  neg : Bool
  m : Bool
  ecc : Ecc
  raw : Option Word
  deriving DecidableEq, Repr

/-- The samples that bracket a SYNC instant (R156), none where invalid, and where the instant lies
between them: `num` / `den` for the protection and voltage samples, `hnum` / `den` for the Hall samples. -/
structure Bracket where
  num : Nat
  hnum : Nat
  den : Nat
  i0 : Option Int
  i1 : Option Int
  h0 : Option Int
  h1 : Option Int
  b0 : Option Int
  b1 : Option Int
  l0 : Option Int
  l1 : Option Int
  m0 : Option Int
  m1 : Option Int
  deriving DecidableEq, Repr

/-- A CAN frame as received: format bits, identifier (base in bits [28:18]) and data. -/
structure CanFrame where
  ide : Bool
  fdf : Bool
  brs : Bool
  esi : Bool
  remote : Bool
  id : BitVec 29
  data : List (BitVec 8)
  deriving DecidableEq, Repr

/-- What the switch sees in a frame (R369, R370, R372): a PTP message whose residence is corrected (`sync`
for a Sync), a Pdelay_Req, another PTP message, a plant telegram, an ARP reply with the address it resolves, an ARP
or ICMP request, anything else. -/
inductive EthKind where
  | ptpEvent (sync : Bool)
  | pdelayReq
  | ptpGeneral
  | plant
  | arpReply (ip : BitVec 32)
  | request
  | other
  deriving DecidableEq, Repr

/-- A frame at a port of the switch: the ingress port (0 P0, 1 P1, 2 P2), MAC addresses, priority code
point, and its kind. -/
structure EthFrame where
  port : Fin 3
  dst : BitVec 48
  src : BitVec 48
  pcp : BitVec 3
  kind : EthKind
  deriving DecidableEq, Repr

end Sys2Proof

namespace Sys2Proof.Machine
open Sys2Proof

/-! ### Scalar cores (Galantaro Control Set) -/

/-- What a scalar core is doing. -/
inductive CoreRun where
  /-- powered down (Paddock, Groom walk, module off) or held in reset -/
  | off
  /-- executing instructions -/
  | run
  /-- halted by a double fault or a lockstep mismatch (R95, R97) -/
  | halted
  /-- inside wfe; `tick` when the tick boundary also wakes (R93) -/
  | wfe (tick : Bool)
  /-- inside waitt on `tag`, result to `dst`; `left` control ticks remain, none without limit (R105) -/
  | waitt (tag : Nat) (dst : Nat) (left : Option Nat)
  /-- inside lock `n`, result to `dst` (R110) -/
  | lockWait (n : Nat) (dst : Nat)
  deriving DecidableEq, Repr

/-- State of a completion tag (R101). -/
inductive TagSt where
  | free
  /-- issued; class as Table GCS-14 -/
  | issued (cls : Nat)
  /-- completed inside the tick and held by the completion gate (R109) -/
  | held (word : Nat) (val : Nat)
  /-- done; the completion word and the result value -/
  | done (word : Nat) (val : Nat)
  deriving DecidableEq, Repr

/-- One scalar core. -/
structure CoreSt where
  /-- general registers that are not 0 (R80) -/
  g : List (Nat × Word)
  /-- program counter -/
  pc : Word
  /-- control registers that differ from their reset value, by number (Table GCS-10) -/
  cr : List (Nat × Word)
  /-- completion tags that are not FREE (R101) -/
  tags : List (Nat × TagSt)
  /-- what the core is doing (R93, R95, R105, R110) -/
  run : CoreRun
  /-- a wake condition of wfe other than an eligible event has come since the wait began (R93) -/
  wakeSeen : Bool
  deriving DecidableEq, Repr

/-- A queued dma transfer (Table GCS-17). -/
structure DmaJob where
  core : Core
  tag : Nat
  src : Nat
  dst : Nat
  len : Nat
  fill : Bool
  priv : Bool
  deriving DecidableEq, Repr

/-! ### Event controller and paddock arbiter (Architecture and memory map) -/

/-- A source in service for a core, at the priority its claim returned (R37, R44). -/
structure InService where
  core : Core
  src : Nat
  prio : Nat
  deriving DecidableEq, Repr

/-- A request pending at the paddock arbiter (R46). -/
structure ArbReq where
  post : ArbPost
  /-- 0 urgent, 1 promoted, 2 normal -/
  level : Nat
  wait : Nat
  deriving DecidableEq, Repr

/-- A grant that lasts (R45). -/
structure ArbGrant where
  cls : Nat
  unit : Nat
  req : Nat
  index : Nat
  deriving DecidableEq, Repr

/-- Event controller and arbiter state beyond their registers. -/
structure EvtSt where
  /-- sources in service (R37) -/
  inService : List InService
  /-- assertions held until the tick boundary (R40) -/
  held : List Nat
  deriving DecidableEq, Repr

structure PadSt where
  /-- requests that wait at the arbiter (R46) -/
  requests : List ArbReq
  /-- grants that last (R45) -/
  grants : List ArbGrant
  /-- model time in µs at which lock n was granted -/
  lockSince : List (Nat × Nat)
  /-- bit n: the holding of lock n has raised source 4 (R50) -/
  lockRaised : Nat
  deriving DecidableEq, Repr

/-! ### Gaits, heat (Gaits, power and heat budgets) -/

/-- A gait transition in progress (Table PWR-2). -/
structure Trans where
  /-- number n of Tn -/
  num : Nat
  target : Nat
  /-- PWR_GAIT.CAUSE it will leave -/
  cause : Nat
  /-- it answers a request of PWR_REQ -/
  requested : Bool
  deriving DecidableEq, Repr

structure PowerSt where
  /-- the transition in progress (R60) -/
  trans : Option Trans
  /-- wake sources that asserted during a transition and act when it ends (R60) -/
  wakeLatched : Nat
  /-- active Lame causes (R305), bits as `LameCause` -/
  lameCauses : Nat
  /-- the power removal of the T2, T3, T6 or T7 in progress has begun (R59) -/
  removing : Bool
  /-- bit p: PLL p (as `PLL_UNLOCK` numbers them) has lost lock and gates its domains (R24) -/
  gated : Nat
  deriving DecidableEq, Repr

structure ThermalSt where
  /-- consecutive windows beyond 15 °C of the median, per die sensor (R65) -/
  devOut : List (Nat × Nat)
  /-- consecutive windows within 15 °C while faulty by deviation -/
  devIn : List (Nat × Nat)
  /-- bit i: sensor i is faulty by deviation -/
  devFault : Nat
  /-- bit i: sensor i failed the count or range test in the last window -/
  rangeFault : Nat
  /-- three or more sensors were faulty at once; lasts until reset (R65) -/
  unknown : Bool
  /-- THROT_REQ has cleared and enforcement ends at the next sweep boundary (R67) -/
  restore : Bool
  /-- bit k: THM_HVk was at or above 105 °C (R70) -/
  hvWarm : Nat
  /-- model time in µs at which the running grace timer expires: the grace time of its request (R68) -/
  graceAt : Nat
  /-- the refill rate of the last sensor window, before the halving (R72) -/
  rate : Nat
  /-- hundredths of a token not yet in the bucket (R71) -/
  frac : Nat
  deriving DecidableEq, Repr


/-! ### Ledger and event recorder -/

/-- Kinds of commit at the MRAM port (R421, R423, R429, R435). -/
inductive CommitKind where
  | ledger | log | settings
  /-- settings item 0 by the curb logic (R303) -/
  | seal
  /-- the counters record (R429) -/
  | counters
  /-- 512 bytes of the event recorder written to 0 (R435) -/
  | clear
  /-- the boot record of the UPD block (R442) -/
  | boot
  deriving DecidableEq, Repr

/-- A queued or running commit. -/
structure Commit where
  kind : CommitKind
  /-- ledger block, settings item, or 512-byte stretch of a clear -/
  index : Nat
  /-- address of the data, read when the commit starts (R421) -/
  src : Nat
  len : Nat
  /-- record code or settings format -/
  code : Nat
  sev : Nat
  /-- issuing core and tag; none for the hardware's own -/
  owner : Option (Core × Nat)
  /-- data bytes, once known -/
  data : List Nat
  /-- header fields of a record taken at issue: OPTIME, PWRCYC, FLAGS, TLO (R430) -/
  optime : Nat
  pwrcyc : Nat
  flags : Nat
  tlo : Nat
  /-- slot and SEQ of a placed record (R433) -/
  slot : Nat
  seq : Nat
  /-- model time in µs of the first deferral (R423) -/
  deferred : Option Nat
  deriving DecidableEq, Repr

/-- What a limiter slot remembers of suppressed records (R432). -/
structure LimSt where
  /-- model time in µs at which the slot last gained a token (R432) -/
  tokAt : Nat
  /-- seconds since the first suppression -/
  age : Nat
  sev : Nat
  tloFirst : Nat
  tloLast : Nat
  /-- seconds the bucket has been full with no suppressed count -/
  full : Nat
  deriving DecidableEq, Repr

structure NvmSt where
  /-- commits that wait, in order of issue (R421) -/
  queue : List Commit
  /-- the commit that runs (R421) -/
  running : Option Commit
  /-- capacitance of the last passed load test in mF (R419) -/
  cap : Option Nat
  /-- the reserve has been full since power-on (R419) -/
  wasFull : Bool
  /-- a load test is due when V reaches 4.95 V (R420) -/
  testDue : Bool
  /-- a load test runs (R420) -/
  testRun : Bool
  /-- NVM_OPTIME at the last counters commit (R429) -/
  countersAt : Nat
  /-- a boot scan set a TORN, LOST or CNT_LOST flag: source 244 when the Riders start (R427) -/
  damage : Bool
  /-- a clear runs; next 512-byte stretch (R435) -/
  clearing : Option Nat
  /-- last circular slot written in the legacy layout (R434) -/
  circ : Nat
  /-- records written since the clear in the legacy layout -/
  written : Nat
  /-- limiter slots that have suppressed records, by slot (R432) -/
  lim : List (Nat × LimSt)
  /-- a GROOM_FAULT record waits for the next wake (Table NVM-9) -/
  groomFault : Option (Nat × Nat)
  deriving DecidableEq, Repr

/-! ### Field inputs and outputs -/

/-- State of the FIO block beyond its registers. -/
structure FioSt where
  /-- configuration fields in effect since the last tick boundary (R349), kept as `State.regs` is -/
  eff : List (Nat × Nat)
  /-- bit n: output n is in pull-in at full voltage (R333) -/
  pullin : Nat
  /-- model time in µs at which outputs 12 to 14 last began a pull-in (R333) -/
  pullAt : List (Nat × Nat)
  /-- the running test window is a light test (R335) -/
  light : Bool
  /-- width of the running test window in 10 µs steps (R349) -/
  width : Nat
  /-- tests whose last judged window failed, as bits 2 n + (1 for light): an onset of DARK_FAIL or LIGHT_FAIL is
  over only after a window that passes (R334) -/
  failing : Nat
  /-- bit j: channel j is watched for a tied output (R338) -/
  watch : Nat
  /-- model time in µs at which the watching of a channel began (R338) -/
  watchAt : List (Nat × Nat)
  /-- consecutive discards of a test, at 2 n + (1 for light) (R337) -/
  discards : List (Nat × Nat)
  /-- bit n: DO0 to DO11 off by thermal shutdown (Table THM-1) -/
  ot : Nat
  /-- FIO_DOSET when the watchdog expired, for SAFE 0b10 -/
  wdDemand : Nat
  /-- control ticks since the output watchdog was last restarted (R340) -/
  wdTicks : Nat
  /-- bit k: test source k is off after an overload (R343) -/
  tsOff : Nat
  /-- consecutive pulse centres read high, per input (R344) -/
  xs : List (Nat × Nat)
  /-- bit n: the filtered state of input n reads 0 for want of its pattern (R344) -/
  xsForce : Nat
  /-- model time in µs since which the raw state of an input has differed from its filtered state (R344) -/
  rawAt : List (Nat × Nat)
  /-- bit k: an edge of counter k has been counted since its clear (R347) -/
  cntSeen : Nat
  /-- bit k: the period of counter k has timed out since its last edge (R347) -/
  cntTimed : Nat
  /-- model time in µs of the last counted edge of a counter, or of the start of the block (R347) -/
  cntAt : List (Nat × Nat)
  /-- states of DI12 to DI15 at the last tick boundary (R346) -/
  cntLevel : Nat
  deriving DecidableEq, Repr

/-! ### Curb logic and protection -/

/-- State of the curb logic beyond its registers. -/
structure CurbSt where
  /-- last valid protection-stream sample in mA -/
  lastValid : Option Int
  /-- the latest protection-stream sample in mA, none when it was invalid -/
  latest : Option Int
  /-- protection samples since SRS entry, one each 1/256 ms (R290) -/
  srsN : Nat
  /-- consecutive samples above the envelope -/
  envRun : Nat
  /-- consecutive samples with |I| < 2 A in SRS -/
  zeroRun : Nat
  /-- DO15 is driven by the shunt pulse (R291) -/
  shuntOn : Bool
  /-- a shunt pulse has been fired in this stop -/
  shuntFired : Bool
  /-- model time in µs at which the last stop began -/
  stopAt : Option Nat
  /-- control ticks since the last good heartbeat (R294) -/
  hbAge : Nat
  /-- consecutive windows with a wrong curb cycle count (R293) -/
  oscBad : Nat
  /-- the curb supply is outside its window (R293) -/
  supplyBad : Bool
  /-- bit 0 DI0, bit 1 DI1: the door channel counts as open (R298) -/
  doorOpen : Nat
  /-- the door channels have differed for more than 50 ms -/
  discrepant : Bool
  /-- model time in µs of the last closing of a door channel -/
  closedAt : Nat
  /-- model time in µs at which the first key of a safety reset came (R297) -/
  resetAt : Option Nat
  /-- a seal is armed (R303) -/
  sealArmed : Bool
  /-- control ticks since the first key of a seal -/
  sealTicks : Nat
  /-- item 0 commits that have ended, oldest first: whether with STATUS 0, and the words CRB_SCFG0-3 and
  CRB_SCFGCRC that were committed -/
  sealDone : List (Bool × List Nat)
  /-- cells whose bleed channel the curb holds for cause CMP_UV (R296) -/
  uvCells : List Nat
  /-- the curb holds every bleed channel (R296) -/
  allBleeds : Bool
  /-- cells the chain comparators find beyond OV trip, UV trip, temperature trip in their last frame -/
  cmpOv : List Nat
  cmpUv : List Nat
  cmpT : List Nat
  /-- last STRING cause sent to the peer's curb logic, and whether it gives SII (R288) -/
  toPeer : Option (Nat × Bool)
  /-- the alive code of the HV section is supervised (R150) -/
  alive : Bool
  /-- model time in µs at which DO12 or DO13 last turned on with both off before -/
  mainAt : Nat
  /-- DO12, DO13 or DO14 has changed state in the present insulation period (R160) -/
  doMoved : Bool
  /-- injection was on at the last judgement of the outputs (R160) -/
  injWas : Bool
  /-- a stop the gait generator takes at its next tick: 0 none, 1 safe ramp stop, 2 SII, 3 READY after
  a safety reset (R323) -/
  dStop : Nat
  deriving DecidableEq, Repr

/-- State of the PRT block beyond its registers. -/
structure PrtSt where
  /-- the 13 words of the active set in offset order; none before the first commit (R284) -/
  active : List Nat
  /-- model time in µs until which copy comparisons are suspended (R286) -/
  suspend : Nat
  /-- consecutive disagreements of the curb copy and of the HV copy -/
  crbBad : Nat
  hvBad : Nat
  /-- unit whose read-back disagreed and is read once more (R286) -/
  again : Option Nat
  /-- bit 0 curb, 1 HV, 2 unit: a copy mismatch stands -/
  bad : Nat
  /-- I²t accumulators in mA² per protection sample (R281) -/
  accC : Nat
  accD : Nat
  /-- consecutive fine samples beyond STR_OV and STR_UV (R280) -/
  ovRun : Nat
  uvRun : Nat
  /-- model time in µs at which the current began to flow against an inhibit (R282) -/
  chgAt : Option Nat
  dchAt : Option Nat
  /-- source 22 and source 23 raised in the present span -/
  chgRaised : Bool
  dchRaised : Bool
  /-- model time in µs at which a cell's TCELL was last available (R282) -/
  tSeen : List (Nat × Nat)
  /-- model time in µs of the last sweep with MISSING = 0 (R287) -/
  fullAt : Nat
  /-- a fresh cell of the present sweep lies at or beyond OV WARN, UV WARN -/
  warnOv : Bool
  warnUv : Bool
  /-- a cell of the present sweep lies outside PRT_TWIN_CHG, PRT_TWIN_DCH (R282) -/
  outC : Bool
  outD : Bool
  /-- unit last read back; the unit of the present sweep, and whether its levels are read once more (R286) -/
  rbLast : Nat
  rbNow : Option (Nat × Bool)
  deriving DecidableEq, Repr



/-! ### Cell-tap units (Trace chain) -/

/-- A SYNC whose latch is to come (R185). -/
structure SyncSt where
  sweep : Nat
  next : Nat
  ok : Bool
  deriving DecidableEq, Repr

/-- An EXCITE sequence (R180): `r` is the 7-bit state, `chipIdx` the chip, `rep` the period. -/
structure ExciteSt where
  mask : Nat
  start : Nat
  chip : Nat
  reps : Nat
  r : Nat
  chipIdx : Nat
  rep : Nat
  on : Bool
  deriving DecidableEq, Repr

/-- One cell-tap unit: its registers (Table CHN-7) and what it holds beside them. -/
structure UnitSt where
  /-- register CELLS -/
  cells : Nat
  /-- register ADDR with ASSIGNED -/
  addr : Nat
  /-- registers LDLYN and LDLYS -/
  ldlyN : Nat
  ldlyS : Nat
  /-- register VTH -/
  vth : Nat
  /-- register FCFG -/
  fcfg : Nat
  /-- register QCFG -/
  qcfg : Nat
  /-- register BLTMO -/
  bltmo : Nat
  /-- bit 0 North side locked, bit 1 South side locked (LINKST) -/
  lock : Nat
  /-- register ERR, North and South half -/
  errN : Nat
  errS : Nat
  /-- bleed switches as commanded by BLEED_SET -/
  bleedCmd : Nat
  /-- bleeding is paused by the quiet window (R207) -/
  quiet : Bool
  /-- the latched sample and its sweep byte (R185) -/
  sample : Option (Nat × UnitFrame)
  /-- the SYNC whose latch is to come (R185) -/
  sync : Option SyncSt
  /-- sweep byte of the last SYNC seen -/
  lastSweep : Option Nat
  /-- NEXT of the last accepted SYNC (R207) -/
  next : Nat
  /-- the EXCITE sequence that runs or waits (R180) -/
  exc : Option ExciteSt
  /-- an open-wire test runs (Table CHN-6) -/
  owt : Bool
  /-- the port and tag the running OWT answers on -/
  owtHop : Option Hop
  /-- the unit sleeps (Table CHN-6) -/
  asleep : Bool
  /-- the comparators find an overvoltage or an undervoltage (R195) -/
  ov : Bool
  uv : Bool
  /-- emitting the fault symbol; acknowledged until the condition clears (R195) -/
  emit : Bool
  acked : Bool
  /-- sweep byte of the sample accepted before the latched one (R208) -/
  before : Option Nat
  /-- the last response and the side it leaves on, true South -/
  resp : Option (Bool × Frame)
  /-- what the last command made the unit forward or send on its own account, with the side it leaves on -/
  out : List (Bool × LineSym)
  deriving DecidableEq, Repr


/-! ### Herd estimator array -/

/-- A team of a job waiting at a rendezvous (R126, R128): the op code, and the fields of its lane word
that the result needs. -/
structure Rdv where
  op : Nat
  dst : Nat
  src : Nat
  slot : Nat
  m : Bool
  pred : Nat
  unp : Bool
  neg : Bool
  deriving DecidableEq, Repr

/-- A team of a running job. -/
structure TeamRun where
  team : Nat
  /-- instruction index of the sequencer -/
  pc : Nat
  wait : Option Rdv
  /-- the team has executed ret -/
  done : Bool
  deriving DecidableEq, Repr

/-- A publish held for the end of the job (R128). -/
structure Publish where
  slot : Nat
  w0 : Nat
  w1 : Nat
  deriving DecidableEq, Repr

/-- States of Table HRD-8. -/
inductive JobPhase where
  | queued | loading | running
  /-- ended; the index is kept until the completion is released (Table HRD-8) -/
  | ended
  deriving DecidableEq, Repr

/-- An occupied queue entry (R131, R132). -/
structure Job where
  index : Nat
  /-- issuing core and tag; none for the automatic sweep job -/
  owner : Option (Core × Nat)
  prog : Nat
  plen : Nat
  ecls : Nat
  teams : Nat
  /-- absolute deadline in µs of model time -/
  deadline : Nat
  arg : Nat
  sweep : Nat
  urgent : Bool
  /-- the bucket has allowed it at some evaluation (R74) -/
  candidate : Bool
  phase : JobPhase
  /-- lanes and the cells they serve, as sampled at the start of LOADING (R131) -/
  cells : List (Nat × Nat)
  runs : List TeamRun
  pubs : List Publish
  deriving DecidableEq, Repr

/-- The Herd beyond its registers and its memories, which are bytes of `State.mem`. -/
structure HerdSt where
  /-- occupied queue entries, index rising -/
  jobs : List Job
  /-- lane registers that are not 0, by 64 * lane + register -/
  v : List (Nat × Nat)
  /-- predicates p0 to p7 of each lane as one byte -/
  p : List (Nat × Nat)
  deriving DecidableEq, Repr

/-! ### Chain engine (Trace chain) -/

/-- A chx transaction in flight (R188, R189). -/
structure ChxSt where
  /-- wire tag 0x40 to 0xFF -/
  wire : Nat
  core : Core
  tag : Nat
  cmd : Nat
  addr : Nat
  /-- 1 low end, 2 high end, 3 both -/
  port : Nat
  rxaddr : Nat
  /-- the request payload -/
  payload : List Nat
  /-- ports on which the frame still waits for its grant (R190) -/
  due : List Nat
  /-- timeout in µs -/
  timeout : Nat
  /-- a response with a CRC or code error came -/
  bad : Bool
  deriving DecidableEq, Repr

/-- An enumeration in progress (R182). -/
structure EnumSt where
  /-- 1 CLEAR, 2 ASSIGN_UP, 3 VERIFY_DOWN, 4 ASSIGN_DOWN, 5 delay measurement, 6 LDLY writes -/
  phase : Nat
  /-- addresses acknowledged from the low and from the high end -/
  lo : List Nat
  hi : List Nat
  /-- CONFLICT, a wrong COUNT or a wrong PROTO was seen -/
  bad : Bool
  intact : Bool
  /-- CHN_STAT.RING as it will read, once classified -/
  cls : Nat
  deriving DecidableEq, Repr

/-- Round trips of one unit from one end (R183): their number and sum in ns. -/
structure RttSt where
  n : Nat
  sum : Nat
  deriving DecidableEq, Repr

/-- A READ_BLOCK in flight (R191, R193): unit, port, and whether it is the re-read. -/
structure ReadSt where
  unit : Nat
  port : Nat
  again : Bool
  deriving DecidableEq, Repr

/-- State of the chain engine beyond its registers. -/
structure ChnSt where
  /-- answer of the module's own repeater to PING (R170) -/
  pong : Option Frame
  /-- what the repeater last passed on, with the port it leaves on, true South (R170, R196) -/
  rep : List (Bool × LineSym)
  /-- frames the last engine step sent, with the port: 1 low end, 2 high end, 3 both -/
  out : List (Nat × Frame)
  /-- chx transactions in flight (R188) -/
  chx : List ChxSt
  /-- the enumeration in progress (R182) -/
  enum : Option EnumSt
  /-- round trips measured so far, by unit and end (R183) -/
  rtt : List (Nat × RttSt)
  /-- units of the last enumeration (R201) -/
  units : Nat
  /-- open links, link k between unit k and unit k + 1, rising (R192, R194) -/
  broken : List Nat
  /-- READ_BLOCKs in flight -/
  reads : List ReadSt
  /-- units to be pinged after a link was restored or the chain woken -/
  pings : List Nat
  /-- PINGs that wait, and the one in flight on each port: port, unit (R183) -/
  pingQ : List (Nat × Nat)
  pingOn : List (Nat × Nat)
  /-- other engine requests in flight: unit address, command (R187) -/
  eng : List (Nat × Nat)
  /-- SWEEP_EN was written 0: the next SYNC is the last (R206) -/
  stopping : Bool
  /-- PERIOD of the present sweep in µs (R156) -/
  period : Nat
  /-- highest unit that the low end reaches, lowest that the high end reaches -/
  loReach : Nat
  hiReach : Nat
  /-- from the departure of SYNC to the SYNC instant (R184) -/
  inSync : Bool
  /-- a sweep has been started and its job is not yet posted -/
  open_ : Bool
  /-- units that delivered a valid frame for the present sweep -/
  got : List Nat
  /-- units whose frame of the present sweep was a NAK 0x03 (R193) -/
  nak : List Nat
  /-- units read once more in the present sweep -/
  reread : List Nat
  /-- the HVM part of the header is complete -/
  hdr : Bool
  /-- model time in µs of the last SYNC, none when sweeps have been off since -/
  syncAt : Option Nat
  /-- the present sweep is the first since sweeps started (R156) -/
  first : Bool
  /-- NEXT of the previous SYNC (R208) -/
  prevNext : Nat
  /-- by how many µs the previous SYNC's announcement missed the present one, none where there was no
  announcement (R208) -/
  annErr : Option Nat
  /-- a frame was discarded in the present sweep (source 69) -/
  crcSeen : Bool
  /-- model time in µs of the last fault symbol (R197) -/
  fsymAt : Option Nat
  /-- configuration fields in effect since the last sweep boundary (R201, R232), kept as `State.regs` -/
  eff : List (Nat × Nat)
  deriving DecidableEq, Repr

/-- The chain engine after reset. -/
def ChnSt.reset : ChnSt :=
  { pong := none, rep := [], out := [], chx := [], enum := none, rtt := [], units := 0, broken := [], reads := []
    pings := [], pingQ := [], pingOn := [], eng := [], stopping := false
    period := 0, loReach := 0, hiReach := 0
    inSync := false, open_ := false, got := [], nak := [], reread := [], hdr := false, syncAt := none, first := false
    prevNext := 0, annErr := none, crcSeen := false, fsymAt := none, eff := [] }

/-! ### Cell monitoring and balancing -/

/-- Why an open-wire test is due (R218). -/
inductive OwtWhy where
  | suspect | stackdev | periodic | command
  deriving DecidableEq, Repr

/-- An open-wire test that is due. -/
structure OwtReq where
  unit : Nat
  why : OwtWhy
  /-- model time in µs of the suspicion -/
  since : Nat
  deriving DecidableEq, Repr

/-- What a unit's last frame gives the CEL block beyond its registers. -/
structure CelSt where
  /-- the applied layout table: CEL_MAP words of its used entries, by cell (R202) -/
  map : List (Nat × Nat)
  /-- MAP_APPLY waits for the sweep boundary -/
  apply : Bool
  /-- check 0x7 is due at the next sweep -/
  check7 : Bool
  /-- lane words 0x020 kept from the automatic job of `predOf` (R215) -/
  pred : List (Nat × Nat)
  /-- sweep of the automatic job whose predictions are kept -/
  predOf : Option Nat
  /-- value of each cell in the last sweep in which it qualified -/
  prev : List (Nat × Nat)
  /-- consecutive qualifying sweeps with, and without, each signature: key 32 u + t for tap t of unit u,
  2048 + cell for CELL_DROP, 4096 + u for STACKDEV -/
  sigRun : List (Nat × Nat)
  clrRun : List (Nat × Nat)
  /-- signatures that take effect, and that clear, at the next SYNC (R216, R217) -/
  due : List Nat
  undue : List Nat
  /-- signatures in effect -/
  sig : List Nat
  /-- taps found open since the last SYNC (R220) -/
  openDue : List Nat
  /-- unit's open taps that its latest OWT found closed (R222) -/
  closed : List (Nat × Nat)
  /-- open-wire tests that are due, in order (R218) -/
  owtQueue : List OwtReq
  /-- model time in µs at which the schedule last took a unit (R218) -/
  owtAt : Nat
  /-- the open-wire test that runs -/
  owtBusy : Option OwtReq
  /-- last unit of the periodic schedule -/
  owtLast : Nat
  /-- cells whose bleed the engine commands -/
  bleed : List Nat
  /-- cells whose bleed was commanded on at the SYNC instant (R209) -/
  bleedAt : List Nat
  /-- the OWTs that met NAK 0x05 and are retried, oldest first (R219) -/
  owtRetry : List OwtReq
  /-- the OWTs that ended without a result, until their deadline (R219) -/
  owtNone : List OwtReq
  /-- cells that are to bleed, whether or not the heat limit lets them (R224, R225) -/
  want : List Nat
  /-- mask last sent to each unit -/
  sent : List (Nat × Nat)
  /-- consecutive qualifying sweeps with a string-sum mismatch (R214) -/
  strRun : Nat
  /-- a Paddock check runs; SYNCs sent so far (R229) -/
  check : Option Nat
  /-- units whose CELLS write is not answered yet (R203) -/
  cellsDue : List Nat
  deriving DecidableEq, Repr

/-- The CEL block after reset. -/
def CelSt.reset : CelSt :=
  { map := [], apply := false, check7 := false, pred := [], predOf := none, prev := [], sigRun := []
    clrRun := [], due := [], undue := [], sig := [], openDue := [], closed := [], owtQueue := [], owtAt := 0
    owtBusy := none, owtLast := 0, bleed := [], bleedAt := [], owtRetry := [], owtNone := [], want := [], sent := [], strRun := 0, check := none
    cellsDue := [] }

/-! ### State of charge and learning -/

/-- One impedance point of a cell: the sums V(f) and I(f) of the window under way, the averaged cross-spectrum V·I* and
auto-spectra (R267), and the point's standing (R268). -/
structure ZPoint where
  vr : Rat
  vi : Rat
  ir : Rat
  ii : Rat
  /-- averages, and whether a window has entered them -/
  xr : Rat
  xi : Rat
  i2 : Rat
  v2 : Rat
  begun : Bool
  /-- did each of the last 8 windows meet ZIMIN, newest first; µs since the last that did -/
  met : List Bool
  since : Nat
  valid : Bool
  src : Bool
  deriving DecidableEq, Repr

/-- A point that nothing has been averaged into. -/
def ZPoint.fresh : ZPoint :=
  { vr := 0, vi := 0, ir := 0, ii := 0, xr := 0, xi := 0, i2 := 0, v2 := 0, begun := false, met := [], since := 0
    valid := false, src := false }

/-- An open learning interval: start, counted charge and its error bound in Ah, µs at its opening (R263). -/
structure Interval where
  q0 : Rat
  q : Rat
  e : Rat
  at_ : Nat
  deriving DecidableEq, Repr

/-- The reference estimator's working store for the cell that a lane serves (R236 to R274); fractions of 1 for states of
charge, Ω, V, A, µs of device time. -/
structure LaneEst where
  cell : Nat
  /-- bulk state of charge, surface offset, polarisation voltage, hysteresis (R236) -/
  s : Rat
  x : Rat
  v1 : Rat
  h : Rat
  /-- filter's resistances at the cell temperature; covariances of the filters -/
  r0 : Rat
  r1 : Rat
  cov : Nat
  sig : Rat
  /-- report, correction still owed by it and the anchor's time (R245) -/
  rep : Rat
  d0 : Rat
  t0 : Option Nat
  /-- endpoints, and whether they have been set (R247) -/
  e0 : Rat
  e1 : Rat
  ends : Bool
  /-- rest timer, and the voltages at whole minutes of it, newest first (R242) -/
  rest : Nat
  minutes : List Nat
  /-- last valid temperature in 0.01 °C and its time (R240) -/
  temp : Int
  tempAt : Nat
  /-- last valid I_c (R241), and whether the last |I| of C/200 or more was charge (R244) -/
  lastI : Rat
  charged : Bool
  /-- updates in a row beyond 50 mV (R237) -/
  inno : Nat
  /-- µs for which the rebuilt OCV has been within CONF (R243) -/
  conf : Nat
  /-- time of the last accepted anchor (R244); time of seeding -/
  anchorAt : Option Nat
  since : Nat
  /-- learning interval, code of the last measurement, outcome in this sweep as EST_LASTCAP.RESULT, side of the last
  rejection for range (R263, R264, R273) -/
  ival : Option Interval
  capm : Nat
  result : Nat
  side : Int
  /-- µs of sweeps towards the next resistance update; µs of a resistance step; fraction of an Ah of throughput -/
  resUs : Nat
  step : Option Nat
  through : Rat
  /-- sweeps and used samples of the impedance window, bleed run in it, temperature at the start of the averaging -/
  win : Nat
  used : Nat
  bled : Bool
  zTemp : Int
  pts : List ZPoint
  deriving DecidableEq, Repr

/-- State of the EST block beyond its registers. -/
structure EstSt where
  /-- the automatic job's program is the reference estimator (R233) -/
  reference : Bool
  /-- EST configuration that the applied parameter block was checked with (R257) -/
  cfg : List (Nat × Nat)
  /-- the reference estimator's working store, by lane -/
  lanes : List (Nat × LaneEst)
  /-- rest timers in µs, by cell, as they stood at the last power-down of the Herd for Paddock, and the seconds spent in
  Paddock since (R255) -/
  rests : List (Nat × Nat)
  padAt : Option Nat
  padSec : Nat
  /-- device µs of the entry to Lame, a QGAP set since, and the counting owed after Lame: counts, µs, QGAP (R254) -/
  lameAt : Nat
  gap : Bool
  owed : Option (Int × Nat × Bool)
  /-- PARAM_APPLY waits for the next SYNC instant (R235) -/
  apply : Bool
  /-- EST_CTRL.METHOD in effect (R246) -/
  method : Nat
  /-- LSEQ of each cell as last read since the Herd's power-up, plus 1 (R275) -/
  lseq : List (Nat × Nat)
  /-- ledger block of a pending snapshot (R277) -/
  snap : Option Nat
  /-- the charge counter latched on entry to Lame (R254) -/
  qLame : Option Nat
  deriving DecidableEq, Repr

/-- The EST block after reset. -/
def EstSt.reset : EstSt :=
  { reference := true, cfg := [], lanes := [], rests := [], padAt := none, padSec := 0, lameAt := 0, gap := false
    owed := none, apply := false, method := 1, lseq := [], snap := none, qLame := none }

/-! ### High-voltage measurement -/

/-- One protection-stream sample: the selected current in mA (none where invalid), the raw shunt voltage
in nV behind it, and the current of the high and of the low range (R146). -/
structure ProtSample where
  ma : Option Int
  nv : Int
  hi : Int
  lo : Option Int
  deriving DecidableEq, Repr

/-- The HVM part of a sweep header (Table HRD-4); none is the not-available code. -/
structure HvmHdr where
  tsync : Nat
  isync : Option Int
  ihall : Option Int
  iavg : Option Int
  vbat : Option Nat
  vlink : Option Nat
  vmid : Option Nat
  flags : Nat
  deriving DecidableEq, Repr

/-- State of the HVM block beyond its registers. -/
structure HvmSt where
  /-- protection samples since the last fine sample, oldest first, at most 16 -/
  win : List ProtSample
  /-- fine samples in mA, newest first, at most 2,000 (R156) -/
  hist : List (Option Int)
  /-- fine samples centred after the previous SYNC instant, and of these after the present one -/
  since : Nat
  past : Nat
  /-- device time in ns of the last SYNC instant -/
  tsync : Nat
  /-- the HVM part of the last sweep header (R156) -/
  hdr : HvmHdr
  /-- consecutive fine samples in which the two ranges differ (R147) -/
  rangeRun : Nat
  /-- bit 0 BAT, 1 LINK, 2 MID: reversed in the last fine sample (R155) -/
  rev : Nat
  /-- consecutive fine samples with VMID above VBAT + 2 V -/
  midRun : Nat
  /-- consecutive fine samples in which BAT, LINK, MID passed their checks -/
  good : List Nat
  /-- consecutive Hall samples out of range (R159) -/
  hallBad : Nat
  /-- the Hall fault has been acted on since the last good Hall sample (Table HVM-3) -/
  hallFlt : Bool
  /-- Hall currents in mA whose nearest fine sample is the next one (R154) -/
  hallWait : List Int
  /-- consecutive Hall samples with, and without, a mismatch (R154) -/
  divRun : Nat
  divClr : Nat
  /-- the next fine sample adds nothing and the counter reads 0 after it (R152) -/
  qclr : Bool
  /-- high word copied by a read of HVM_QLO -/
  qhold : Option Nat
  /-- zero trim: sum of raw means in nV, their number, a condition for refusal was met (R164) -/
  zsum : Int
  zn : Nat
  zbad : Bool
  /-- the precharge command that the next fine sample performs: 0 none, 1 PCH_ARM, 2 PCH_ABORT (Table HVM-4) -/
  pchReq : Nat
  /-- fine samples since PCH_ARM, above the pass level, below the drop level (R163) -/
  pchN : Nat
  pchRun : Nat
  dropRun : Nat
  /-- consecutive insulation values with CAPHIGH (R162) -/
  capRun : Nat
  /-- model time in µs of the last insulation result, none since reset -/
  isoAt : Option Nat
  /-- configuration fields in effect since the last fine sample (R168), kept as `State.regs` is -/
  eff : List (Nat × Nat)
  deriving DecidableEq, Repr

/-- The HVM block after reset. -/
def HvmSt.reset : HvmSt :=
  { win := [], hist := [], since := 0, past := 0, tsync := 0
    hdr := ⟨0, none, none, none, none, none, none, 0⟩
    rangeRun := 0, rev := 0, midRun := 0, good := [0, 0, 0], hallBad := 0, hallFlt := false, hallWait := []
    divRun := 0, divClr := 0
    qclr := false, qhold := none, zsum := 0, zn := 0, zbad := false, pchReq := 0, pchN := 0, pchRun := 0
    dropRun := 0, capRun := 0, isoAt := none, eff := [] }

/-! ### Gait generator -/

/-- A stretch of constant jerk: its length in control ticks and its jerk in position units per tick cubed. -/
structure GgnSeg where
  n : Nat
  jerk : Rat
  deriving DecidableEq, Repr

/-- A waiting move; a linked one has the number of its GO (0 none) and its participants (R317). -/
structure GgnMove where
  target : Int
  link : Nat
  mask : Nat
  deriving DecidableEq, Repr

/-- The running linked move of an axis: its number, the leader, the start and the signed distance of the
axis and of the leader (R318). -/
structure GgnLink where
  id : Nat
  leader : Nat
  p0 : Int
  d : Int
  p0L : Int
  dL : Int
  deriving DecidableEq, Repr

/-- One axis. `p`, `v` and `a` have 24 fractional bits (R310); v and a are per ms (D) or s (E). -/
structure GgnAxis where
  /-- position, velocity and acceleration -/
  p : Int
  v : Int
  a : Int
  /-- stretches of the active plan that are still to run; ticks run of the first, and position, velocity and
  acceleration at its start; the plan runs towards negative positions -/
  segs : List GgnSeg
  ran : Nat
  p0 : Int
  v0 : Int
  a0 : Int
  neg : Bool
  /-- target of the active move -/
  target : Option Int
  /-- moves that wait, at most 4 (R317) -/
  queue : List GgnMove
  /-- target staged for a linked move (R317) -/
  staged : Option Int
  /-- the linked move that runs (R318) -/
  link : Option GgnLink
  /-- pursuit target (R321), and the one the present plan leads to -/
  pursuit : Option Int
  pursued : Option Int
  /-- velocity, acceleration and jerk limit of the active plan, per tick -/
  limV : Rat
  limA : Rat
  limJ : Rat
  /-- the step driver has shut down and not cooled (R325) -/
  hot : Bool
  /-- position at entry to SAFE and ticks since (R323) -/
  safeP0 : Int
  safeT : Nat
  /-- position of the last emitted step and the present DIR: true for negative (R324) -/
  step : Int
  dir : Bool
  /-- register writes that take effect at the next boundary (R310) -/
  wFlush : Bool
  wStop : Bool
  wOff : Bool
  wSetpos : Bool
  wLim : Bool
  wTgt : List Int
  deriving DecidableEq, Repr

/-- An axis after reset. -/
def GgnAxis.reset : GgnAxis :=
  { p := 0, v := 0, a := 0, segs := [], ran := 0, p0 := 0, v0 := 0, a0 := 0, neg := false, target := none, queue := [], staged := none, link := none
    pursuit := none, pursued := none, limV := 0, limA := 0, limJ := 0, hot := false, safeP0 := 0, safeT := 0
    step := 0, dir := false, wFlush := false, wStop := false, wOff := false, wSetpos := false
    wLim := false, wTgt := [] }

/-- State of the GGN block beyond its registers. -/
structure GgnSt where
  /-- axes that differ from their reset state: 0 D, 1 to 3 E1 to E3 -/
  axes : List (Nat × GgnAxis)
  /-- GO bits written since the last boundary -/
  go : Nat
  /-- number of the last GO -/
  links : Nat
  /-- model time in µs of the last publication (R327) -/
  pubAt : Nat
  deriving DecidableEq, Repr

/-- The GGN block after reset. -/
def GgnSt.reset : GgnSt := { axes := [], go := 0, links := 0, pubAt := 0 }

/-! ### CAN FD controllers -/

/-- State of the CAN controllers beyond their registers. -/
structure CanSt where
  /-- issuing core and tag of a pending txf, at 128 x + n for object n of controller x (0 A, 1 B) -/
  txf : List (Nat × Option (Core × Nat))
  /-- bit x: bus-off recovery of controller x has started (R359) -/
  recovering : Nat
  /-- model time in µs at which a receive timeout last restarted, at 128 x + n (R355) -/
  rxAt : List (Nat × Nat)
  /-- model time in µs at which CAN-B last started (R362) -/
  upAt : Nat
  deriving DecidableEq, Repr

/-- The CAN controllers after reset. -/
def CanSt.reset : CanSt := { txf := [], recovering := 0, rxAt := [], upAt := 0 }

/-! ### Ethernet and network time -/

/-- A frame that leaves a port of the switch or P0. -/
inductive EthOut where
  /-- forwarded to `port`, in the high queue or not, with `ns` added to its correctionField -/
  | forward (port : Nat) (high : Bool) (ns : Nat)
  /-- the switch's own answer to a Pdelay_Req at `port` (R372) -/
  | pdelayResp (port : Nat)
  | arpReply (ip mac : Nat)
  | arpRequest (ip : Nat)
  | icmpReply (ip : Nat)
  /-- a UDP datagram: destination address and port, source port, payload -/
  | udp (ip dport sport : Nat) (payload : List Nat)
  /-- a raw frame without FCS -/
  | raw (bytes : List Nat)
  | ptpSync | ptpFollowUp | ptpAnnounce
  deriving DecidableEq, Repr

/-- A frame of txf that waits to leave P0 (Table ETH-2). -/
structure EthTx where
  core : Core
  tag : Nat
  udp : Bool
  tsreq : Bool
  /-- destination address and port, or the timestamp identifier of a raw frame -/
  dip : Nat
  dport : Nat
  data : List Nat
  deriving DecidableEq, Repr

/-- An entry of the address table: MAC address, port, model time in µs when last seen. -/
structure EthLearn where
  mac : Nat
  port : Nat
  seen : Nat
  deriving DecidableEq, Repr

/-- An ARP entry: address, MAC address, model time in µs when resolved. -/
structure EthArp where
  ip : Nat
  mac : Nat
  seen : Nat
  deriving DecidableEq, Repr

/-- State of the ETH block beyond its registers. -/
structure EthSt where
  /-- configuration fields in effect since the last tick boundary (R389), kept as `State.regs` is -/
  eff : List (Nat × Nat)
  /-- model time in µs of the last accepted DEMAND (R384), and of the last TELEMETRY (R386) -/
  demAt : Nat
  telAt : Nat
  /-- the address table of the switch (R369) -/
  table : List EthLearn
  /-- the ARP cache (R370) -/
  arp : List EthArp
  /-- destinations being resolved, with the retries made (R370) -/
  asking : List (Nat × Nat)
  /-- frames of txf that wait to leave P0 (R370, Table ETH-2) -/
  tx : List EthTx
  /-- last accepted SEQ per TYPE, and the next SEQ sent per TYPE (R383) -/
  rxSeq : List (Nat × Option Nat)
  txSeq : List (Nat × Nat)
  /-- frames sent by the last command -/
  out : List EthOut
  deriving DecidableEq, Repr

/-- The ETH block after reset. -/
def EthSt.reset : EthSt :=
  { eff := [], demAt := 0, telAt := 0, table := [], arp := [], asking := [], tx := [], rxSeq := [], txSeq := [], out := [] }

/-- State of the time unit beyond its registers. -/
structure PtpSt where
  /-- rate correction in ppb, and the part of a nanosecond not yet counted (R374) -/
  rate : Rat
  frac : Rat
  /-- sum of offsets since LOCKED was entered (R375) -/
  sum : Int
  /-- consecutive samples beyond JUMPTHR -/
  jumps : Nat
  /-- model time in µs of the last valid sample and of the last corrected one -/
  validAt : Option Nat
  fixedAt : Option Nat
  /-- SYNCTMO and HOLDMAX as the last sample found them, in s (R390) -/
  syncTmo : Nat
  holdMax : Nat
  /-- grandmaster adopted -/
  gm : Nat
  /-- first acquisition: the step due at the next boundary; TIME_ACCEPT taken (Table PTP-2) -/
  first : Option Int
  accept : Bool
  /-- PTP_CTRL.EN was written 0 -/
  off : Bool
  /-- high word copied by a read of PTP_TIMELO -/
  hold : Option Nat
  /-- device time of the last PPS_IN edge since its enable -/
  edge : Option Nat
  /-- model time in µs of that edge, or of the enable -/
  edgeAt : Nat
  /-- timestamps of sent frames, head first: identifier and time (R381) -/
  tsq : List (Nat × Nat)
  /-- device time until which PPS_OUT is high -/
  ppsUntil : Nat
  /-- Syncs sent in the master role -/
  syncs : Nat
  /-- PWR_RTC when device time stopped (R374) -/
  stopped : Option Nat
  deriving DecidableEq, Repr

/-- The time unit after reset. -/
def PtpSt.reset : PtpSt :=
  { rate := 0, frac := 0, sum := 0, jumps := 0, validAt := none, fixedAt := none, syncTmo := 3, holdMax := 600, gm := 0
    first := none, accept := false, off := false, hold := none, edge := none, edgeAt := 0, tsq := []
    ppsUntil := 0, syncs := 0, stopped := none }

/-! ### Tandem pair -/

/-- A chain response frame carried by a bundle (Table TDM-4). -/
structure BundleFrame where
  unit : Nat
  south : Bool
  sweep : Nat
  f : UnitFrame
  deriving DecidableEq, Repr

/-- A tick bundle (Table TDM-4). -/
structure Bundle where
  k : Nat
  handback : Bool
  planned : Bool
  /-- released tags: core, tag, completion word, result value -/
  rel : List (Core × Nat × Nat × Nat)
  events : List Nat
  /-- automatic job postings: sweep, and whether at the post deadline -/
  autoJobs : List (Nat × Bool)
  /-- queue indices of dispatched jobs, in order -/
  dispatched : List Nat
  /-- queue indices of jobs missed or aborted, with their STATUS -/
  stopped : List (Nat × Nat)
  /-- transitions performed: number, target gait, CAUSE -/
  gait : List (Nat × Nat × Nat)
  reqResult : Nat
  reqReason : Nat
  /-- sweep-header words and chx payload words: address, word -/
  mem : List (Nat × Nat)
  frames : List BundleFrame
  /-- post markers: sweep, and whether at the post deadline -/
  posts : List (Nat × Bool)
  /-- changed words of the view blocks: address, word -/
  view : List (Nat × Nat)
  /-- STRING causes of the peer: code, and whether it gives SII (R288) -/
  string : List (Nat × Bool)
  /-- the peer's words of the mirror window and its declared state (Table TDM-10) -/
  mirror : List Nat
  declared : List (BitVec 8)
  deriving DecidableEq, Repr

/-- A bundle with nothing in it. -/
def Bundle.blank : Bundle :=
  { k := 0, handback := false, planned := false, rel := [], events := [], autoJobs := [], dispatched := []
    stopped := [], gait := [], reqResult := 0, reqReason := 0, mem := [], frames := [], posts := [], view := []
    string := [], mirror := [], declared := [] }

/-- What the standby returns for a replay boundary: its digest, its words of the mirror window and its declared
state, and its STRING causes (R288, R404, R415). -/
structure DigestReturn where
  k : Nat
  crc : Nat
  mirror : List Nat
  declared : List (BitVec 8)
  string : List (Nat × Bool)
  deriving DecidableEq, Repr

/-- What a snapshot gives the receiving seat (R411): the bytes of the replicated regions that differ from
an unlisted byte, the registers and the other state of the replayed blocks, the tag spaces, the gait, and
the next boundary. -/
structure Snapshot where
  mem : List (Nat × BitVec 8)
  regs : List (Nat × Nat)
  evt : EvtSt
  pad : PadSt
  cel : CelSt
  est : EstSt
  ggn : GgnSt
  tags0 : List (Nat × TagSt)
  tags1 : List (Nat × TagSt)
  gait : Nat
  k : Nat
  deriving DecidableEq, Repr

/-- The heartbeat of Paddock and Groom walks (R394): seat, gait, claim state, wake request. -/
structure Heartbeat where
  seat : Nat
  gait : Nat
  claim : Bool
  wake : Bool
  deriving DecidableEq, Repr

/-- State of the TDM block beyond its registers. -/
structure TdmSt where
  /-- index of the last boundary taken -/
  k : Nat
  /-- the boundary that has passed is not taken yet by Rider 0, Rider 1 -/
  due0 : Bool
  due1 : Bool
  /-- the last hello passed -/
  hello : Bool
  /-- bundles formed and not yet taken by the standby -/
  formed : Nat
  /-- what the active seat has recorded since its last boundary for the next bundle (Table TDM-4), and the bundle
  last sent (R397) -/
  next : Bundle
  sent : Option Bundle
  /-- what the standby last returned (R404) -/
  back : Option DigestReturn
  /-- bundles held, oldest first -/
  bundles : List Bundle
  /-- own digests by boundary, newest first, at most 16 (R404) -/
  digests : List (Nat × Nat)
  /-- fields of the view blocks as latched (R400), kept as `State.regs` is -/
  view : List (Nat × Nat)
  /-- registers each Rider has written since its last boundary -/
  wrote0 : List Nat
  wrote1 : List Nat
  /-- a correct claim refresh has come since the previous boundary; the next key is 0x0000_5AA5 -/
  refreshed : Bool
  second : Bool
  /-- TDM_CMD.RELEASE, TDM_CMD.RESYNC, a write of EN wait for the boundary -/
  release : Bool
  resync : Bool
  enOff : Bool
  /-- reason of a release notice received (R409) -/
  notice : Option Nat
  /-- nothing has come from the peer for 300 µs -/
  silent : Bool
  /-- model time in µs at which the peer's claim went without a notice (R409) -/
  vanished : Option Nat
  /-- a bundle with FLAGS.HANDBACK was taken (R413) -/
  handback : Bool
  /-- a snapshot has failed and is not retried yet (R412) -/
  holdoff : Bool
  /-- completions that a bundle has listed and whose local operation has not ended (R401) -/
  listed : List (Core × Nat × Nat × Nat)
  /-- the peer's words of the mirror window and its declared state, as last received (R415) -/
  peerWords : List Nat
  peerDecl : List (BitVec 8)
  /-- the heartbeat last sent -/
  beat : Option Heartbeat
  deriving DecidableEq, Repr

/-- The TDM block after reset. -/
def TdmSt.reset : TdmSt :=
  { k := 0, due0 := false, due1 := false, hello := false, formed := 0, next := Bundle.blank, sent := none
    back := none, bundles := [], digests := []
    view := [], wrote0 := [], wrote1 := [], refreshed := false, second := false, release := false
    resync := false, enOff := false, notice := none, silent := false, vanished := none
    handback := false, holdoff := false, listed := [], peerWords := [], peerDecl := []
    beat := none }

/-! ### Firmware update -/

/-- The live boot record (Table UPD-2): CONF and PEND are 0 A, 1 B, 0xFF none. -/
structure BootRec where
  conf : Nat
  pend : Nat
  trials : Nat
  trstart : Nat
  imglen : Nat
  /-- identities of the images in slot A and slot B, 32 bytes each -/
  identA : List Nat
  identB : List Nat
  deriving DecidableEq, Repr

/-- What the UPD block is doing (UPD_STAT.BUSY). -/
inductive UpdJob where
  | idle
  /-- a block is to be programmed; `on` once the reserve allowed the start -/
  | prog (block : Nat) (on : Bool)
  | verify
  deriving DecidableEq, Repr

/-- State of the UPD block beyond its registers. -/
structure UpdSt where
  /-- the live boot record (R442) -/
  boot : BootRec
  /-- the update command that runs (R444 to R446) -/
  job : UpdJob
  deriving DecidableEq, Repr

/-- The UPD block after reset. -/
def UpdSt.reset : UpdSt :=
  { boot := ⟨0, 0xFF, 0, 0, 0, [], []⟩, job := .idle }

/-! ### Power and reset -/

/-- State of power supply and reset beyond the registers. -/
structure SysSt where
  /-- supplied: AUX present, or held by the reserve; false once power-down has ended -/
  on : Bool
  /-- RESET_N or a die shutdown holds the module in reset -/
  held : Bool
  /-- the power-up in progress follows an AUX power-on (R460) -/
  por : Bool
  /-- steps 2 and 3 of power-up have not both passed yet, or a boot has failed (R460) -/
  failed : Bool
  /-- the boot ROM runs: the Riders have not started -/
  booting : Bool
  /-- model time in µs at which AUX_OK cleared (R461) -/
  pdnAt : Option Nat
  /-- control ticks since the system watchdog was restarted (R469) -/
  wdTicks : Nat
  /-- WAKE_N reads low (R470) -/
  wakeLow : Bool
  /-- a die shutdown in progress (Table THM-1) -/
  dieOff : Bool
  /-- entry points of the running image (Table UPD-1) -/
  entry0 : Nat
  entry1 : Nat
  entryG : Nat
  deriving DecidableEq, Repr

/-- Power and reset right after a reset. -/
def SysSt.reset : SysSt :=
  { on := true, held := false, por := false, failed := false, booting := true, pdnAt := none
    wdTicks := 0, wakeLow := false, dieOff := false, entry0 := 0, entry1 := 0, entryG := 0 }

/-- A scalar core after reset (log entry 10: DESIGN CHOICE). -/
def CoreSt.reset : CoreSt :=
  { g := [], pc := 0, cr := [], tags := [], run := .run, wakeSeen := false }

/-- The FIO block after reset. -/
def FioSt.reset : FioSt :=
  { eff := [], pullin := 0, pullAt := [], light := false, width := 0, failing := 0, watch := 0, watchAt := []
    discards := [], ot := 0, wdDemand := 0, wdTicks := 0, tsOff := 0, xs := [], xsForce := 0, rawAt := []
    cntSeen := 0, cntTimed := 0, cntAt := [], cntLevel := 0 }

/-- The FIO block as it starts at model time `t` with the configuration `eff` in effect (R342, R347). -/
def FioSt.start (eff : List (Nat × Nat)) (t : Nat) : FioSt :=
  { FioSt.reset with eff := eff, cntAt := [(0, t), (1, t), (2, t), (3, t)] }

/-- The curb logic after reset (log entry 34: DESIGN CHOICE). -/
def CurbSt.reset : CurbSt :=
  { lastValid := none, latest := none, srsN := 0, envRun := 0, zeroRun := 0, shuntOn := false
    shuntFired := false, stopAt := none, hbAge := 0, oscBad := 0, supplyBad := false
    doorOpen := 3, discrepant := false, closedAt := 0, resetAt := none, sealArmed := false
    sealTicks := 0, sealDone := []
    uvCells := [], allBleeds := false, cmpOv := [], cmpUv := [], cmpT := [], toPeer := none
    alive := false, mainAt := 0, doMoved := false, injWas := false, dStop := 0 }

/-- The PRT block after reset. -/
def PrtSt.reset : PrtSt :=
  { active := [], suspend := 0, crbBad := 0, hvBad := 0, again := none, bad := 0
    accC := 0, accD := 0, ovRun := 0, uvRun := 0, chgAt := none, dchAt := none
    chgRaised := false, dchRaised := false, tSeen := [], fullAt := 0
    warnOv := false, warnUv := false, outC := false, outD := false, rbLast := 0, rbNow := none }

end Sys2Proof.Machine
end

