-- ==== Sys2Proof/Syntax.lean ====
section
/-! DEFINITION. The commands the module takes: the inductive Instr with one constructor per row of
spec/opcode_table.json. -/

namespace Sys2Proof
open Sys2Proof.Machine


/-- The commands of the module, one constructor per row of spec/opcode_table.json. -/
inductive Instr where
  /-- ADD (R85): Writes srcA + srcB to dst and, with S = 1, sets Z, N, C and V. -/
  | add (f : Fetch) (fl : Bool) (dst srcA srcB : Reg)
  /-- SUB (R85): Writes srcA − srcB to dst and, with S = 1, sets Z, N, C and V. -/
  | sub (f : Fetch) (fl : Bool) (dst srcA srcB : Reg)
  /-- AND (R85): Writes srcA AND srcB to dst. -/
  | and (f : Fetch) (fl : Bool) (dst srcA srcB : Reg)
  /-- OR (R85): Writes srcA OR srcB to dst. -/
  | or (f : Fetch) (fl : Bool) (dst srcA srcB : Reg)
  /-- XOR (R85): Writes srcA XOR srcB to dst. -/
  | xor (f : Fetch) (fl : Bool) (dst srcA srcB : Reg)
  /-- SHL (R85): Shifts srcA left by srcB[4:0]. -/
  | shl (f : Fetch) (fl : Bool) (dst srcA srcB : Reg)
  /-- SHR (R85): Shifts srcA right logically by srcB[4:0]. -/
  | shr (f : Fetch) (fl : Bool) (dst srcA srcB : Reg)
  /-- SAR (R85): Shifts srcA right arithmetically by srcB[4:0]. -/
  | sar (f : Fetch) (fl : Bool) (dst srcA srcB : Reg)
  /-- SLT (R85): Writes 1 when srcA < srcB signed, else 0. -/
  | slt (f : Fetch) (fl : Bool) (dst srcA srcB : Reg)
  /-- SLTU (R85): Writes 1 when srcA < srcB unsigned, else 0. -/
  | sltu (f : Fetch) (fl : Bool) (dst srcA srcB : Reg)
  /-- MIN (R85): Writes the signed minimum of srcA and srcB. -/
  | min (f : Fetch) (fl : Bool) (dst srcA srcB : Reg)
  /-- MAX (R85): Writes the signed maximum of srcA and srcB. -/
  | max (f : Fetch) (fl : Bool) (dst srcA srcB : Reg)
  /-- MINU (R85): Writes the unsigned minimum of srcA and srcB. -/
  | minu (f : Fetch) (fl : Bool) (dst srcA srcB : Reg)
  /-- MAXU (R85): Writes the unsigned maximum of srcA and srcB. -/
  | maxu (f : Fetch) (fl : Bool) (dst srcA srcB : Reg)
  /-- MUL (R85): Writes bits [31:0] of the product. -/
  | mul (f : Fetch) (fl : Bool) (dst srcA srcB : Reg)
  /-- MULH (R85): Writes bits [63:32] of the signed product. -/
  | mulh (f : Fetch) (fl : Bool) (dst srcA srcB : Reg)
  /-- MULHU (R85): Writes bits [63:32] of the unsigned product. -/
  | mulhu (f : Fetch) (fl : Bool) (dst srcA srcB : Reg)
  /-- DIV (R86): Signed quotient toward zero; never traps on a zero divisor. -/
  | div (f : Fetch) (fl : Bool) (dst srcA srcB : Reg)
  /-- DIVU (R86): Unsigned quotient; a zero divisor gives 0xFFFF_FFFF. -/
  | divu (f : Fetch) (fl : Bool) (dst srcA srcB : Reg)
  /-- REM (R86): Signed remainder with the sign of srcA. -/
  | rem (f : Fetch) (fl : Bool) (dst srcA srcB : Reg)
  /-- REMU (R86): Unsigned remainder; a zero divisor gives srcA. -/
  | remu (f : Fetch) (fl : Bool) (dst srcA srcB : Reg)
  /-- JALR (R88): Writes the return address and jumps to srcA, faulting on a misaligned target. -/
  | jalr (f : Fetch) (fl : Bool) (dst srcA srcB : Reg)
  /-- ADDI (R85): Adds the sign-extended immediate to srcA. -/
  | addi (f : Fetch) (fl : Bool) (dst srcA : Reg) (imm : BitVec 13)
  /-- SUBI (R85): Subtracts the sign-extended immediate from srcA. -/
  | subi (f : Fetch) (fl : Bool) (dst srcA : Reg) (imm : BitVec 13)
  /-- ANDI (R85): ANDs srcA with the zero-extended immediate. -/
  | andi (f : Fetch) (fl : Bool) (dst srcA : Reg) (imm : BitVec 13)
  /-- ORI (R85): ORs srcA with the zero-extended immediate. -/
  | ori (f : Fetch) (fl : Bool) (dst srcA : Reg) (imm : BitVec 13)
  /-- XORI (R85): XORs srcA with the zero-extended immediate. -/
  | xori (f : Fetch) (fl : Bool) (dst srcA : Reg) (imm : BitVec 13)
  /-- SHLI (R85): Shifts srcA left by imm[4:0]. -/
  | shli (f : Fetch) (fl : Bool) (dst srcA : Reg) (imm : BitVec 13)
  /-- SHRI (R85): Shifts srcA right logically by imm[4:0]. -/
  | shri (f : Fetch) (fl : Bool) (dst srcA : Reg) (imm : BitVec 13)
  /-- SARI (R85): Shifts srcA right arithmetically by imm[4:0]. -/
  | sari (f : Fetch) (fl : Bool) (dst srcA : Reg) (imm : BitVec 13)
  /-- SLTI (R85): Writes 1 when srcA < imm signed. -/
  | slti (f : Fetch) (fl : Bool) (dst srcA : Reg) (imm : BitVec 13)
  /-- SLTIU (R85): Writes 1 when srcA < the sign-extended imm compared unsigned. -/
  | sltiu (f : Fetch) (fl : Bool) (dst srcA : Reg) (imm : BitVec 13)
  /-- LB (R87): Loads a byte, sign-extended. -/
  | lb (f : Fetch) (dst srcA : Reg) (imm : BitVec 13) (ecc : Ecc)
  /-- LBU (R87): Loads a byte, zero-extended. -/
  | lbu (f : Fetch) (dst srcA : Reg) (imm : BitVec 13) (ecc : Ecc)
  /-- LH (R87): Loads an aligned halfword, sign-extended. -/
  | lh (f : Fetch) (dst srcA : Reg) (imm : BitVec 13) (ecc : Ecc)
  /-- LHU (R87): Loads an aligned halfword, zero-extended. -/
  | lhu (f : Fetch) (dst srcA : Reg) (imm : BitVec 13) (ecc : Ecc)
  /-- LW (R87): Loads an aligned word, subject to windows and R29. -/
  | lw (f : Fetch) (dst srcA : Reg) (imm : BitVec 13) (ecc : Ecc)
  /-- SB (R87): Stores a byte through the store buffer. -/
  | sb (f : Fetch) (srcD srcA : Reg) (imm : BitVec 13)
  /-- SH (R87): Stores an aligned halfword. -/
  | sh (f : Fetch) (srcD srcA : Reg) (imm : BitVec 13)
  /-- SW (R87): Stores an aligned word. -/
  | sw (f : Fetch) (srcD srcA : Reg) (imm : BitVec 13)
  /-- BEQ (R88): Branches when Z is set. -/
  | beq (f : Fetch) (srcA : Reg) (off : BitVec 18)
  /-- BNE (R88): Branches when Z is clear. -/
  | bne (f : Fetch) (srcA : Reg) (off : BitVec 18)
  /-- BHS (R88): Branches when C is set. -/
  | bhs (f : Fetch) (srcA : Reg) (off : BitVec 18)
  /-- BLO (R88): Branches when C is clear. -/
  | blo (f : Fetch) (srcA : Reg) (off : BitVec 18)
  /-- BMI (R88): Branches when N is set. -/
  | bmi (f : Fetch) (srcA : Reg) (off : BitVec 18)
  /-- BPL (R88): Branches when N is clear. -/
  | bpl (f : Fetch) (srcA : Reg) (off : BitVec 18)
  /-- BVS (R88): Branches when V is set. -/
  | bvs (f : Fetch) (srcA : Reg) (off : BitVec 18)
  /-- BVC (R88): Branches when V is clear. -/
  | bvc (f : Fetch) (srcA : Reg) (off : BitVec 18)
  /-- BHI (R88): Branches when C and not Z. -/
  | bhi (f : Fetch) (srcA : Reg) (off : BitVec 18)
  /-- BLS (R88): Branches when not C or Z. -/
  | bls (f : Fetch) (srcA : Reg) (off : BitVec 18)
  /-- BGE (R88): Branches when N = V. -/
  | bge (f : Fetch) (srcA : Reg) (off : BitVec 18)
  /-- BLT (R88): Branches when N ≠ V. -/
  | blt (f : Fetch) (srcA : Reg) (off : BitVec 18)
  /-- BGT (R88): Branches when not Z and N = V. -/
  | bgt (f : Fetch) (srcA : Reg) (off : BitVec 18)
  /-- BLE (R88): Branches when Z or N ≠ V. -/
  | ble (f : Fetch) (srcA : Reg) (off : BitVec 18)
  /-- J (R88): Branches always. -/
  | j (f : Fetch) (srcA : Reg) (off : BitVec 18)
  /-- BZ (R88): Branches when srcA is 0. -/
  | bz (f : Fetch) (srcA : Reg) (off : BitVec 18)
  /-- BNZ (R88): Branches when srcA is not 0. -/
  | bnz (f : Fetch) (srcA : Reg) (off : BitVec 18)
  /-- BLTZ (R88): Branches when srcA < 0 signed. -/
  | bltz (f : Fetch) (srcA : Reg) (off : BitVec 18)
  /-- BGEZ (R88): Branches when srcA ≥ 0 signed. -/
  | bgez (f : Fetch) (srcA : Reg) (off : BitVec 18)
  /-- BGTZ (R88): Branches when srcA > 0 signed. -/
  | bgtz (f : Fetch) (srcA : Reg) (off : BitVec 18)
  /-- BLEZ (R88): Branches when srcA ≤ 0 signed. -/
  | blez (f : Fetch) (srcA : Reg) (off : BitVec 18)
  /-- JAL (R88): Writes the return address to g31 and jumps by the 28-bit offset. -/
  | jal (f : Fetch) (off : BitVec 28)
  /-- HIGH (R78): Writes imm19 << 13 to dst. -/
  | high (f : Fetch) (dst : Reg) (imm : BitVec 19)
  /-- FADD (R89): FP32 addition, round to nearest even. -/
  | fadd (f : Fetch) (fl : Bool) (dst srcA srcB : Reg)
  /-- FSUB (R89): FP32 subtraction. -/
  | fsub (f : Fetch) (fl : Bool) (dst srcA srcB : Reg)
  /-- FMUL (R89): FP32 multiplication. -/
  | fmul (f : Fetch) (fl : Bool) (dst srcA srcB : Reg)
  /-- FDIV (R89): FP32 division. -/
  | fdiv (f : Fetch) (fl : Bool) (dst srcA srcB : Reg)
  /-- FSQRT (R89): FP32 square root. -/
  | fsqrt (f : Fetch) (fl : Bool) (dst srcA srcB : Reg)
  /-- FMA (R89): Fused dst + srcA × srcB with one rounding. -/
  | fma (f : Fetch) (fl : Bool) (dst srcA srcB : Reg)
  /-- FMS (R89): Fused dst − srcA × srcB with one rounding. -/
  | fms (f : Fetch) (fl : Bool) (dst srcA srcB : Reg)
  /-- FMIN (R89): FP32 minimum, ignoring a single NaN. -/
  | fmin (f : Fetch) (fl : Bool) (dst srcA srcB : Reg)
  /-- FMAX (R89): FP32 maximum, ignoring a single NaN. -/
  | fmax (f : Fetch) (fl : Bool) (dst srcA srcB : Reg)
  /-- FABS (R89): Clears bit 31 and signals nothing. -/
  | fabs (f : Fetch) (fl : Bool) (dst srcA srcB : Reg)
  /-- FNEG (R89): Inverts bit 31 and signals nothing. -/
  | fneg (f : Fetch) (fl : Bool) (dst srcA srcB : Reg)
  /-- FCMP (R89): Compares two FP32 values and sets Z, N, V and clears C. -/
  | fcmp (f : Fetch) (fl : Bool) (dst srcA srcB : Reg)
  /-- FCVTSW (R89): Converts a signed integer to FP32. -/
  | fcvtsw (f : Fetch) (fl : Bool) (dst srcA srcB : Reg)
  /-- FCVTWS (R89): Converts FP32 to integer toward zero, saturating. -/
  | fcvtws (f : Fetch) (fl : Bool) (dst srcA srcB : Reg)
  /-- FCVTWSR (R89): Converts FP32 to integer to nearest even, saturating. -/
  | fcvtwsr (f : Fetch) (fl : Bool) (dst srcA srcB : Reg)
  /-- MFCR (R91): Reads a control register into dst. -/
  | mfcr (f : Fetch) (dst : Reg) (cr : BitVec 13)
  /-- MTCR (R91): Writes srcA to a control register. -/
  | mtcr (f : Fetch) (dst srcA : Reg) (cr : BitVec 13)
  /-- WFE (R93): Suspends the core until an eligible event, a ring entry or, optionally, a tick boundary. -/
  | wfe (f : Fetch) (imm : BitVec 13)
  /-- WFE_WAKE (R93): A waiting wfe resumes when its wake condition occurs. -/
  | wfeWake (core : Core)
  /-- FENCE_FULL (R100): fence 0 completes all earlier loads and stores first. -/
  | fenceFull (f : Fetch)
  /-- FENCE_STORES (R100): fence 1 drains the store buffer. -/
  | fenceStores (f : Fetch)
  /-- FENCE_INSTRUCTION (R100): fence 2 drains stores and discards prefetched instructions. -/
  | fenceInstruction (f : Fetch)
  /-- TRAP (R92): Enters the trap exception with EVAL = imm13. -/
  | trap (f : Fetch) (imm : BitVec 13)
  /-- ERET (R82): Restores PC from EPC and STATUS from ESTATUS in one step. -/
  | eret (f : Fetch)
  /-- EVENT_INTERRUPT (R94): The core takes an eligible event interrupt at an instruction boundary. -/
  | eventInterrupt (core : Core)
  /-- GROOM_FAULT_RESET (R96): After a Groom double fault the Groom alone is reset and restarts at ENTRYG. -/
  | groomFaultReset
  /-- LOCKSTEP_MISMATCH (R97): A Rider checker mismatch halts the pair and asserts the curb core-fault input. -/
  | lockstepMismatch (rider : Rider)
  /-- CHX (R188): Issues a chain transaction with a tag and descriptor. -/
  | chx (f : Fetch) (dst srcA srcB : Reg) (ecc : Ecc)
  /-- JOB (R130): Checks a job descriptor and queues a Herd job. -/
  | job (f : Fetch) (dst srcA srcB : Reg) (ecc : Ecc)
  /-- NVC (R421): Issues an MRAM commit. -/
  | nvc (f : Fetch) (dst srcA srcB : Reg) (ecc : Ecc)
  /-- DMA (R108): Issues a memory transfer on a DMA channel. -/
  | dma (f : Fetch) (dst srcA srcB : Reg) (ecc : Ecc)
  /-- TXF (R358): Issues a bus frame transmission on CAN or Ethernet. -/
  | txf (f : Fetch) (dst srcA srcB : Reg) (ecc : Ecc)
  /-- WAITT (R105): Waits until a tag is DONE or a tick limit passes. -/
  | waitt (f : Fetch) (dst srcA srcB : Reg)
  /-- WAITT_RETURN (R105): A waiting waitt returns the completion word when its tag becomes DONE. -/
  | waittReturn (core : Core)
  /-- WAITT_LIMIT (R105): The tick limit of a waitt passes and it returns STATUS 0xF. -/
  | waittLimit (core : Core)
  /-- POLLT (R105): Returns the completion word of a tag at once. -/
  | pollt (f : Fetch) (dst srcA : Reg)
  /-- TAGREL (R105): Frees a DONE tag or sets CRSTAT.BADREL. -/
  | tagrel (f : Fetch) (srcA : Reg)
  /-- LOCK (R110): Requests a paddock lock, refused at once when out of order. -/
  | lock (f : Fetch) (dst : Reg) (n : BitVec 5)
  /-- LOCK_GRANT (R48): A waiting lock request receives the freed lock. -/
  | lockGrant (n : BitVec 5)
  /-- UNLOCK (R49): Releases a held lock or records a refusal. -/
  | unlock (f : Fetch) (dst srcA srcB : Reg) (n : BitVec 5)
  /-- AMOADD (R111): Atomically adds gB to a shared SRAM word. -/
  | amoadd (f : Fetch) (dst srcA srcB : Reg) (ecc : Ecc)
  /-- AMOSWAP (R111): Atomically swaps a shared SRAM word. -/
  | amoswap (f : Fetch) (dst srcA srcB : Reg) (ecc : Ecc)
  /-- AMOCAS (R111): Atomic compare-and-swap on a shared SRAM word. -/
  | amocas (f : Fetch) (dst srcA srcB : Reg) (ecc : Ecc)
  /-- AMOAND (R111): Atomically ANDs gB into a shared SRAM word. -/
  | amoand (f : Fetch) (dst srcA srcB : Reg) (ecc : Ecc)
  /-- AMOOR (R111): Atomically ORs gB into a shared SRAM word. -/
  | amoor (f : Fetch) (dst srcA srcB : Reg) (ecc : Ecc)
  /-- DMA_TRANSFER_DONE (R108): A DMA transfer ends and its completion is released. -/
  | dmaTransferDone (e : DmaEnd)
  /-- CONTROL_TICK (R109): At each 100 µs boundary, held completions and events are released and tick-driven blocks advance. -/
  | controlTick (rb : BitVec 16)
  /-- PERIPH_STORE (R476): A store to a register with no row of its own acts per field access code. -/
  | periphStore (core : Core) (addr val : Word)
  /-- REF_MONITOR_WINDOW (R23): Each 16 µs window compares the reference with the RC and on loss switches to RC and enters Lame. -/
  | refMonitorWindow (ok : Bool)
  /-- PLL_UNLOCK (R24): A PLL loses lock, gates its domains and may switch core clocks to the RC. -/
  | pllUnlock (p : Fin 6)
  /-- XTAL32K_LOSS (R27): The 32.768 kHz crystal stops and the RTC runs from the RC. -/
  | xtal32kLoss
  /-- EVT_CLAIM (R37): A read returns the highest eligible source, clears its pending bit and marks it in service. -/
  | evtClaim (core : Core)
  /-- EVT_DONE (R37): A write ends the service of the named source. -/
  | evtDone (core : Core) (src : BitVec 8)
  /-- EVT_SET (R39): A write of 1 makes a source assert as if its condition started. -/
  | evtSet (core : Core) (k : BitVec 3) (val : Word)
  /-- ARBITRATION_CYCLE (R46): Each arbitration cycle grants each free resource unit to one pending request. -/
  | arbitrationCycle (core : Bool) (posts ended : List ArbPost)
  /-- REQUEST_PROMOTION (R46): A normal request that has waited more than 64 cycles becomes promoted. -/
  | requestPromotion (post : ArbPost)
  /-- LOCK_HOLD_LIMIT (R50): A lock held longer than PAD_LOCKLIM raises source 4 once. -/
  | lockHoldLimit (n : BitVec 5)
  /-- PAD_LOCKLIM_WRITE (R50): A new limit applies at once to every lock held. -/
  | padLocklimWrite (core : Core) (val : BitVec 16)
  /-- PWR_REQ_STABLE (R58): Requests Stable, checked against T2 or T7. -/
  | pwrReqStable (core : Core)
  /-- PWR_REQ_PADDOCK (R58): Requests Paddock, checked against T3 or T6. -/
  | pwrReqPaddock (core : Core)
  /-- PWR_REQ_WALK (R58): Requests Walk, checked against T5, T12 or T15. -/
  | pwrReqWalk (core : Core)
  /-- PWR_REQ_TROT (R58): Requests Trot, checked against T8, T12 or T14. -/
  | pwrReqTrot (core : Core)
  /-- PWR_REQ_CANTER (R58): Requests Canter, checked against T9 or T11. -/
  | pwrReqCanter (core : Core)
  /-- PWR_REQ_GALLOP (R58): Requests Gallop, checked against T10. -/
  | pwrReqGallop (core : Core)
  /-- PWR_REQ_LAME (R58): Requests Lame by T13. -/
  | pwrReqLame (core : Core)
  /-- GAIT_TRANSITION_COMPLETE (R61): A transition finishes and raises source 3. -/
  | gaitTransitionComplete
  /-- WAKE_N_LOW (R62): WAKE_N held low 10 ms wakes the module from Stable or Paddock. -/
  | wakeNLow (low : Bool)
  /-- RTC_TICK (R75): PWR_RTC increments each second. -/
  | rtcTick
  /-- THM_SENSOR_WINDOW (R64): Every 976.5625 µs the die sensors update, are judged and the refill rate is recomputed. -/
  | thmSensorWindow (n0 n1 n2 n3 n4 n5 : Nat) (hv0 hv1 : Option Int)
  /-- THM_GRACE_EXPIRY (R66): The grace timer expires with THROT_REQ set and enforcement halves clocks and refill. -/
  | thmGraceExpiry
  /-- THM_RELEASE (R67): At the first sweep boundary after THROT_REQ clears, enforcement ends. -/
  | thmRelease
  /-- DIE_RESTART (R69): The die cools below 125 °C and the power-up sequence runs. -/
  | dieRestart (n0 n1 n2 n3 n4 n5 : Nat)
  /-- OUTPUT_THERMAL_SHUTDOWN (R334): An output driver junction reaches 150 °C and the output turns off. -/
  | outputThermalShutdown (n : BitVec 4)
  /-- OUTPUT_THERMAL_RESTART (R334): DO0–DO11 restart when the junction reads below 125 °C. -/
  | outputThermalRestart (n : BitVec 4)
  /-- HV_CONVERTER_TRIP (R69): An HV section sensor at 150 °C latches the converter off and the alive code stops. -/
  | hvConverterTrip
  /-- HV_TEMP_WARN (R70): An HV section sensor reaches 105 °C and raises source 14. -/
  | hvTempWarn
  /-- TOKEN_REFILL (R71): Every 10 µs the bucket gains R/100 tokens. -/
  | tokenRefill
  /-- SCHEDULER_EVALUATION (R134): The Saddle scheduler dispatches queued jobs by deadline and token budget. -/
  | schedulerEvaluation
  /-- JOB_PROGRAM_LOADED (R132): The program load ends, lanes are initialised and the job runs. -/
  | jobProgramLoaded (index : BitVec 6) (ecc : Ecc)
  /-- JOB_DEADLINE_MISS (R132): A job's deadline passes; it is stopped with STATUS 0x4 and source 112. -/
  | jobDeadlineMiss (index : BitVec 6)
  /-- HRD_ABORT (R132): Aborts one queued or running job, or all. -/
  | hrdAbort (core : Core) (val : Word)
  /-- HRD_TEAMDIS_WRITE (R142): Disables teams, aborting every job that names them. -/
  | hrdTeamdisWrite (core : Core) (val : Word) (here : Bool)
  /-- HRD_CTRL_WRITE (R137): Sets HOLD and AUTO_EN; AUTO_EN stays 0 while PLEN is 0. -/
  | hrdCtrlWrite (core : Core) (val : Word)
  /-- POST_DEADLINE (R136): At the post deadline the missing slots are completed, staleness counted and the job posted late. -/
  | postDeadline
  /-- LANE_FADD (R122): Lane FP32 addition. -/
  | laneFadd (o : LaneOp) (dst a b : BitVec 6)
  /-- LANE_FSUB (R122): Lane FP32 subtraction. -/
  | laneFsub (o : LaneOp) (dst a b : BitVec 6)
  /-- LANE_FMUL (R122): Lane FP32 multiplication. -/
  | laneFmul (o : LaneOp) (dst a b : BitVec 6)
  /-- LANE_FMA (R122): Lane fused multiply-add. -/
  | laneFma (o : LaneOp) (dst a b : BitVec 6)
  /-- LANE_FMS (R122): Lane fused multiply-subtract. -/
  | laneFms (o : LaneOp) (dst a b : BitVec 6)
  /-- LANE_FMIN (R122): Lane FP32 minimum. -/
  | laneFmin (o : LaneOp) (dst a b : BitVec 6)
  /-- LANE_FMAX (R122): Lane FP32 maximum. -/
  | laneFmax (o : LaneOp) (dst a b : BitVec 6)
  /-- LANE_FABS (R122): Lane FP32 absolute value. -/
  | laneFabs (o : LaneOp) (dst a b : BitVec 6)
  /-- LANE_FNEG (R122): Lane FP32 negation. -/
  | laneFneg (o : LaneOp) (dst a b : BitVec 6)
  /-- LANE_FCVTSW (R122): Lane integer to FP32 conversion. -/
  | laneFcvtsw (o : LaneOp) (dst a : BitVec 6)
  /-- LANE_FCVTWS (R122): Lane FP32 to integer conversion toward zero. -/
  | laneFcvtws (o : LaneOp) (dst a : BitVec 6)
  /-- LANE_MOV (R121): Copies srcA to dst in executing lanes. -/
  | laneMov (o : LaneOp) (dst a b : BitVec 6)
  /-- LANE_LIDX (R121): Writes the lane index. -/
  | laneLidx (o : LaneOp) (dst : BitVec 6)
  /-- LANE_CMAP (R121): Writes the cell served or 0xFFFF_FFFF. -/
  | laneCmap (o : LaneOp) (dst : BitVec 6)
  /-- LANE_TIDX (R121): Writes the team index. -/
  | laneTidx (o : LaneOp) (dst : BitVec 6)
  /-- LANE_LDI (R121): Writes a sign-extended 12-bit immediate. -/
  | laneLdi (o : LaneOp) (dst : BitVec 6) (imm : BitVec 12)
  /-- LANE_IADD (R121): Lane integer addition. -/
  | laneIadd (o : LaneOp) (dst a b : BitVec 6)
  /-- LANE_ISUB (R121): Lane integer subtraction. -/
  | laneIsub (o : LaneOp) (dst a b : BitVec 6)
  /-- LANE_AND (R121): Lane bitwise AND. -/
  | laneAnd (o : LaneOp) (dst a b : BitVec 6)
  /-- LANE_OR (R121): Lane bitwise OR. -/
  | laneOr (o : LaneOp) (dst a b : BitVec 6)
  /-- LANE_XOR (R121): Lane bitwise XOR. -/
  | laneXor (o : LaneOp) (dst a b : BitVec 6)
  /-- LANE_SHL (R121): Lane shift left. -/
  | laneShl (o : LaneOp) (dst a b : BitVec 6)
  /-- LANE_SHR (R121): Lane logical shift right. -/
  | laneShr (o : LaneOp) (dst a b : BitVec 6)
  /-- LANE_SAR (R121): Lane arithmetic shift right. -/
  | laneSar (o : LaneOp) (dst a b : BitVec 6)
  /-- LANE_IMUL (R121): Lane integer multiply, low word. -/
  | laneImul (o : LaneOp) (dst a b : BitVec 6)
  /-- LANE_IMIN (R121): Lane signed minimum. -/
  | laneImin (o : LaneOp) (dst a b : BitVec 6)
  /-- LANE_IMAX (R121): Lane signed maximum. -/
  | laneImax (o : LaneOp) (dst a b : BitVec 6)
  /-- LANE_FCLT (R121): Sets a predicate to srcA < srcB in FP. -/
  | laneFclt (o : LaneOp) (dst a b : BitVec 6)
  /-- LANE_FCLE (R121): Sets a predicate to srcA ≤ srcB in FP. -/
  | laneFcle (o : LaneOp) (dst a b : BitVec 6)
  /-- LANE_FCEQ (R121): Sets a predicate to srcA = srcB in FP. -/
  | laneFceq (o : LaneOp) (dst a b : BitVec 6)
  /-- LANE_ICLT (R121): Sets a predicate to srcA < srcB signed. -/
  | laneIclt (o : LaneOp) (dst a b : BitVec 6)
  /-- LANE_ICEQ (R121): Sets a predicate to srcA = srcB. -/
  | laneIceq (o : LaneOp) (dst a b : BitVec 6)
  /-- LANE_PAND (R121): Predicate AND. -/
  | lanePand (o : LaneOp) (dst a b : BitVec 6)
  /-- LANE_POR (R121): Predicate OR. -/
  | lanePor (o : LaneOp) (dst a b : BitVec 6)
  /-- LANE_PNOT (R121): Predicate NOT. -/
  | lanePnot (o : LaneOp) (dst a b : BitVec 6)
  /-- LANE_LLD (R123): Loads a word from the lane's own memory. -/
  | laneLld (o : LaneOp) (dst a : BitVec 6) (off : BitVec 6) (ecc : Ecc)
  /-- LANE_LST (R123): Stores a word to lane memory; a store into the input area faults. -/
  | laneLst (o : LaneOp) (dst a : BitVec 6) (off : BitVec 6)
  /-- LANE_TLD (R124): Loads a word from team memory with bank-conflict timing. -/
  | laneTld (o : LaneOp) (dst a : BitVec 6) (off : BitVec 6) (ecc : Ecc)
  /-- LANE_TST (R124): Stores a word to team memory; the highest lane wins on conflict. -/
  | laneTst (o : LaneOp) (dst a : BitVec 6) (off : BitVec 6)
  /-- LANE_HLD (R124): Loads a word from herd memory. -/
  | laneHld (o : LaneOp) (dst a : BitVec 6) (off : BitVec 6) (ecc : Ecc)
  /-- LANE_FDIV (R122): Correctly rounded division on the special-function unit. -/
  | laneFdiv (o : LaneOp) (dst a b : BitVec 6)
  /-- LANE_FSQRT (R122): Correctly rounded square root on the special-function unit. -/
  | laneFsqrt (o : LaneOp) (dst a b : BitVec 6)
  /-- LANE_FRCP (R122): Correctly rounded reciprocal. -/
  | laneFrcp (o : LaneOp) (dst a b : BitVec 6)
  /-- LANE_FEXP (R122): Fixed-function exponential within 2 ulp. -/
  | laneFexp (o : LaneOp) (dst a b : BitVec 6)
  /-- LANE_FLOG (R122): Fixed-function natural logarithm within 2 ulp. -/
  | laneFlog (o : LaneOp) (dst a b : BitVec 6)
  /-- LANE_RMIN (R126): Job-wide FP minimum reduction, optionally published. -/
  | laneRmin (o : LaneOp) (dst a b : BitVec 6)
  /-- LANE_RMAX (R126): Job-wide FP maximum reduction. -/
  | laneRmax (o : LaneOp) (dst a b : BitVec 6)
  /-- LANE_RSUM (R126): Job-wide FP sum reduction in fixed pair order. -/
  | laneRsum (o : LaneOp) (dst a b : BitVec 6)
  /-- LANE_RARGMIN (R127): Job-wide lane index of the FP minimum. -/
  | laneRargmin (o : LaneOp) (dst a b : BitVec 6)
  /-- LANE_RARGMAX (R127): Job-wide lane index of the FP maximum. -/
  | laneRargmax (o : LaneOp) (dst a b : BitVec 6)
  /-- LANE_BAR (R128): Job-wide barrier with no data. -/
  | laneBar (o : LaneOp) (dst a b : BitVec 6)
  /-- LANE_BRA (R125): Sequencer branch on any or all lanes' predicate. -/
  | laneBra (o : LaneOp) (off : BitVec 18)
  /-- LANE_RET (R114): Job return of the executing lanes. -/
  | laneRet (o : LaneOp) (dst a b : BitVec 6)
  /-- FAST_OC_TRIP (R149): A fast comparator sample beyond its threshold trips the curb logic with cause FOC. -/
  | fastOcTrip (nv : Int)
  /-- ALIVE_CODE_LOSS (R150): The alive code is absent for more than 4 µs, taken as a trip of both comparators. -/
  | aliveCodeLoss
  /-- ALIVE_CODE_STARTUP_TIMEOUT (R150): No alive code 50 ms after HV power-up is taken as a trip. -/
  | aliveCodeStartupTimeout
  /-- PROTECTION_SAMPLE (R146): A 256 ksps current sample is range-selected and feeds I²t, the envelope and HVM_IPROT. -/
  | protectionSample (low high : Int) (ovl : Overloads) (bad : Nat)
  /-- FINE_SAMPLE (R152): A 16 ksps fine sample updates currents, voltages and the charge counter. -/
  | fineSample (bat link mid : Vector Int 16) (past : Bool)
  /-- RANGE_COMPARE_FAIL (R147): The two ranges differ for 100 fine samples and the low range is disabled. -/
  | rangeCompareFail
  /-- HV_OVERLOAD (R148): The high-range modulator enters overload and source 138 is raised. -/
  | hvOverload
  /-- VOLTAGE_CHANNEL_INVALID (R155): A voltage channel is reversed or MID exceeds BAT and is marked invalid. -/
  | voltageChannelInvalid (ch : BitVec 2)
  /-- VOLTAGE_CHANNEL_RECOVER (R155): A channel passes 160 consecutive fine samples and is valid again. -/
  | voltageChannelRecover (ch : BitVec 2)
  /-- HALL_SAMPLE (R154): A Hall sample is converted and compared with the fine stream. -/
  | hallSample (x : HallRead) (next : Bool)
  /-- DIVERSITY_MISMATCH (R154): A Hall mismatch lasting HVM_DIV.TIME sets DIV_MISMATCH and raises source 129. -/
  | diversityMismatch
  /-- HALL_FAULT (R159): A Hall check fails for 1 ms and HALL_OK clears. -/
  | hallFault (silent : Bool)
  /-- SWEEP_HEADER_HVM_WRITE (R156): The HVM interpolates ISYNC, IHALL, voltages and IAVG and writes the header. -/
  | sweepHeaderHvmWrite (q : Bracket)
  /-- ISOLATOR_LINK_LOSS (R159): Three bad isolator frames invalidate all HV values and raise source 128. -/
  | isolatorLinkLoss
  /-- ISOLATOR_LINK_RESTORED (R159): 1 ms of good frames makes the HV values valid again. -/
  | isolatorLinkRestored
  /-- HV_SUPPLY_FAULT (R159): The isolated converter leaves its window; all HV values invalid. -/
  | hvSupplyFault
  /-- HV_SECTION_READY (R165): The first valid fine samples of every channel set READY and raise source 140. -/
  | hvSectionReady
  /-- INSULATION_PERIOD_END (R160): At the end of a 10 s injection period R_iso is computed and written. -/
  | insulationPeriodEnd (vp vn : Int) (resid : Bool)
  /-- INSULATION_TIMEOUT (R159): No valid insulation value for 30 s clears ISO_VALID. -/
  | insulationTimeout
  /-- PCH_ARM (R163): Arms the precharge check or fails it with REASON 3. -/
  | pchArm (core : Core)
  /-- PCH_ABORT (R163): Aborts the precharge check to IDLE. -/
  | pchAbort (core : Core)
  /-- PRECHARGE_PASS (R163): VLINK stays above PCT × VBAT for 160 samples and the check passes. -/
  | prechargePass
  /-- PRECHARGE_LINK_SHORT (R163): At 25 % of TIME with VLINK below 5 % of VBAT the check fails. -/
  | prechargeLinkShort
  /-- PRECHARGE_TIMEOUT (R163): ELAPSED reaches TIME without PASS and the check fails. -/
  | prechargeTimeout
  /-- PRECHARGE_DROP (R163): VLINK falls below PCT − 5 % for 160 samples after PASS. -/
  | prechargeDrop
  /-- RANGE_RESET (R147): Clears LOW_DIS and resumes the range comparison. -/
  | rangeReset (core : Core)
  /-- QCLR (R152): Clears the charge counter at the next fine sample. -/
  | qclr (core : Core)
  /-- ZERO (R164): Starts a 1 s zero trim of the shunt path. -/
  | zero (core : Core)
  /-- ZERO_TRIM_DONE (R164): The average ends and HVM_IOFS is written or ZERO_FAIL set. -/
  | zeroTrimDone
  /-- HVM_QLO_READ (R152): A read of HVM_QLO copies the high word for the next HVM_QHI read. -/
  | hvmQloRead (core : Core)
  /-- HVM_CTRL_WRITE (R153): Sets HVM controls; HALL_EN stays 0 while HVM_HALLGAIN is 0. -/
  | hvmCtrlWrite (core : Core) (val : Word)
  /-- HVM_HALLGAIN_WRITE (R153): Writes the Hall gain; 0 while HALL_EN = 1 is refused. -/
  | hvmHallgainWrite (core : Core) (val : Word)
  /-- ENUM_CLEAR (R181): A unit sets its address to 0x3E and forwards the frame. -/
  | enumClear (h : Hop)
  /-- ENUM_ASSIGN_UP (R181): A unit takes or checks COUNT and forwards COUNT + 1. -/
  | enumAssignUp (h : Hop) (count flags : BitVec 8)
  /-- ENUM_ASSIGN_DOWN (R181): A unit takes or checks COUNT and forwards COUNT − 1. -/
  | enumAssignDown (h : Hop) (count flags : BitVec 8)
  /-- ENUM_VERIFY_DOWN (R181): A unit checks COUNT and forwards COUNT − 1. -/
  | enumVerifyDown (h : Hop) (count flags : BitVec 8)
  /-- PING (R179): A unit or repeater answers after the fixed 2,800 ns turnaround. -/
  | ping (h : Hop)
  /-- SYNC (R185): A unit receives SYNC and schedules its latch after LDLY. -/
  | sync (p : Side) (k : Head) (sweep : BitVec 8) (next : BitVec 16)
  /-- UNIT_LATCH (R185): At SYNC arrival plus LDLY the unit latches its sample. -/
  | unitLatch (u : BitVec 6) (f : UnitFrame)
  /-- READ_BLOCK (R179): A unit returns its latched sample or NAK 0x03. -/
  | readBlock (h : Hop) (sweep : BitVec 8)
  /-- READ_REG (R179): A unit returns up to 8 registers. -/
  | readReg (h : Hop) (index count : BitVec 8)
  /-- WRITE_REG (R179): A unit writes up to 8 registers in index order. -/
  | writeReg (p : Side) (k : Head) (index : BitVec 8) (words : List Word)
  /-- BLEED_SET (R179): A unit sets its bleed switches and restarts the bleed timeout. -/
  | bleedSet (p : Side) (k : Head) (mask : BitVec 16)
  /-- OWT (R179): A unit starts its open-wire test across all taps. -/
  | owt (h : Hop)
  /-- OWT_UNIT_RESPONSE (R179): The unit finishes the tap sequence and answers OPEN and DV. -/
  | owtUnitResponse (u : BitVec 6) (opened : Word) (dv : List (BitVec 16))
  /-- EXCITE (R180): A unit starts or stops the bleed sequence on its masked cells. -/
  | excite (p : Side) (k : Head) (mask : BitVec 16) (start chip reps : BitVec 8)
  /-- EXCITE_CHIP (R180): Each chip period the unit advances the sequence and sets the masked switches. -/
  | exciteChip (u : BitVec 6)
  /-- FAULT_ACK (R195): A unit stops repeating the fault symbol. -/
  | faultAck (p : Side) (k : Head)
  /-- SLEEP (R179): A unit forwards the frame and turns off its transmitters. -/
  | sleep (h : Hop)
  /-- WAKE_TONE (R178): A sleeping unit receives the wake tone and locks its links. -/
  | wakeTone (x : Tone)
  /-- UNIT_LOSS_OF_LOCK (R176): A unit loses lock on one side, discards queued frames and sends LINKNOTE. -/
  | unitLossOfLock (u : BitVec 6) (x : LockChange)
  /-- UNIT_AUTO_SLEEP (R178): A unit with neither side locked for 10 s sleeps. -/
  | unitAutoSleep (u : BitVec 6)
  /-- BLEED_TIMEOUT (R179): BLTMO passes without BLEED_SET and all switches open. -/
  | bleedTimeout (u : BitVec 6)
  /-- BLEED_QUIET_START (R207): A unit opens bleed switches QUIET before the expected latch. -/
  | bleedQuietStart (u : BitVec 6)
  /-- BLEED_QUIET_END (R207): QUIET after the latch the unit restores its bleed state. -/
  | bleedQuietEnd (u : BitVec 6)
  /-- UNIT_FAULT_EMIT (R195): A comparator condition held DEB samples emits FAULT on both sides. -/
  | unitFaultEmit (u : BitVec 6) (ov uv : Bool)
  /-- UNIT_FAULT_REPEAT (R195): Every 64 symbol times the unit repeats FAULT while the condition lasts. -/
  | unitFaultRepeat (u : BitVec 6)
  /-- FAULT_FORWARD (R196): A unit or repeater inserts a received FAULT ahead of any frame. -/
  | faultForward (u : BitVec 6) (south : Bool)
  /-- FAULT_SYMBOL_RECEIVED (R197): A chain port decodes FAULT and drives the curb chain fault input. -/
  | faultSymbolReceived
  /-- CHN_ENUM (R182): Starts enumeration of the ring. -/
  | chnEnum (core : Core)
  /-- ENUM_PHASE_TIMEOUT (R182): A 200 µs enumeration phase ends and the next phase or classification follows. -/
  | enumPhaseTimeout (acks : List (BitVec 6)) (conflict proto : Bool) (ret : Option (BitVec 8))
  /-- PING_RESPONSE (R183): The engine records a round-trip delay. -/
  | pingResponse (high : Bool) (w : Wire) (rtt : Nat)
  /-- ENUM_DONE (R182): Delays and LDLY writes end; CHN_STAT.RING is set and source 67 raised. -/
  | enumDone
  /-- CHN_REMEASURE (R183): Repeats the delay measurement without readdressing. -/
  | chnRemeasure (core : Core)
  /-- CHN_WAKE (R199): Sends the wake tone, then pings every unit. -/
  | chnWake (core : Core)
  /-- CHN_ABORT (R189): Ends every chx in flight with RES 6. -/
  | chnAbort (core : Core)
  /-- CHN_CTRL_WRITE (R200): Sets port and sweep enables; SWEEP_EN is ignored in DOWN, ENUM or MISMATCH. -/
  | chnCtrlWrite (core : Core) (val : Word)
  /-- SYNC_SEND (R184): At the sweep-period tick the engine sends SYNC and increments CHN_SWEEP. -/
  | syncSend
  /-- READ_BLOCK_RESPONSE (R191): A valid response is compared, written to the lane slots and classified. -/
  | readBlockResponse (high : Bool) (f : Frame) (e : Tail)
  /-- LINKNOTE (R192): The engine receives a link loss or restoration note and reroutes. -/
  | linknote (high : Bool) (w : Wire)
  /-- PORT_LOSS_OF_LOCK (R192): A module port loses lock and the engine handles a break. -/
  | portLossOfLock (high : Bool)
  /-- PORT_SILENCE_TIMEOUT (R192): A port stays idle for SILENCE µs with reads outstanding. -/
  | portSilenceTimeout (high : Bool)
  /-- CHX_RESPONSE (R189): A chx response arrives and the transaction completes. -/
  | chxResponse (high : Bool) (f : Frame) (e : Tail)
  /-- CHX_TIMEOUT (R189): No response within the timeout ends the chx with RES 2 or 3. -/
  | chxTimeout (wire : BitVec 8)
  /-- MAP_APPLY (R202): Requests validation of the written layout table. -/
  | mapApply (core : Core)
  /-- MAP_VALIDATE (R202): At the sweep boundary the table is checked and applied or refused. -/
  | mapValidate
  /-- CELLS_WRITE_RESPONSE (R203): A unit's answer to the CELLS write is checked. -/
  | cellsWriteResponse (u : BitVec 6) (nak : Bool)
  /-- SENSE_CLR (R222): Clears retested open taps of a unit. -/
  | senseClr (core : Core) (unit : BitVec 6)
  /-- OWT_NOW (R218): Schedules OWT for a unit or all units. -/
  | owtNow (core : Core) (unit : BitVec 6)
  /-- BAL_STOP (R227): Stops balancing and clears BAL_EN. -/
  | balStop (core : Core)
  /-- CHECK (R229): Runs the Paddock check sequence in a Groom walk. -/
  | check (core : Core)
  /-- PADDOCK_CHECK_DONE (R229): The check ends with BALOK, CHECKS and DONE set. -/
  | paddockCheckDone
  /-- OWT_SCHEDULE (R218): The periodic OWT interval passes and the next unit is tested. -/
  | owtSchedule
  /-- OWT_RESPONSE_RECEIVED (R219): The module evaluates an OWT response and sets open taps. -/
  | owtResponseReceived (a : Arrival)
  /-- OWT_RETRY (R219): After NAK 0x05 the OWT is retried after 1 s. -/
  | owtRetry
  /-- OWT_DEADLINE (R219): A suspect-driven OWT without result by DEADLINE takes the taps as open. -/
  | owtDeadline (u : BitVec 6)
  /-- BALANCE_EVALUATION (R223): Every 100 ms the engine decides which cells bleed. -/
  | balanceEvaluation
  /-- BLEED_REFRESH (R226): BLEED_SET is sent on a change and at least every 1 s. -/
  | bleedRefresh (u : BitVec 6)
  /-- BLEED_SET_ACK (R226): A unit's BLEED_SET acknowledgement updates CEL_UBLEEDu. -/
  | bleedSetAck (u : BitVec 6) (mask : BitVec 16)
  /-- PARAM_APPLY (R235): Requests a check of the parameter block. -/
  | paramApply (core : Core)
  /-- PARAM_CHECK (R235): At the next SYNC the parameter block is checked and applied or refused. -/
  | paramCheck
  /-- LIMIT_HOLD_EXPIRY (R253): MISSRUN reaches HOLD and string limits go to 0. -/
  | limitHoldExpiry
  /-- EST_CTRL_WRITE (R246): Sets METHOD and enables; METHOD 0 in Gallop is refused. -/
  | estCtrlWrite (core : Core) (val : Word)
  /-- LSNAP_REQ (R277): Requests a ledger block snapshot. -/
  | lsnapReq (core : Core) (block : BitVec 5)
  /-- LEDGER_SNAPSHOT (R277): At a valid sweep boundary the block is copied to EST_LSNAPBUF. -/
  | ledgerSnapshot
  /-- PRT_SET_WRITE (R284): A protection-set write is staged and sets PEND. -/
  | prtSetWrite (core : Core) (addr val : Word)
  /-- PRT_COMMIT (R284): The staged set is checked and made active, then sent to every copy. -/
  | prtCommit
  /-- CRB_COPY_CHECK (R286): The curb logic recomputes its copy CRC and compares it with PRT_CRC. -/
  | crbCopyCheck (agree : Bool)
  /-- HV_COPY_ECHO (R286): The HV section echoes its fast-level CRC every 1 ms. -/
  | hvCopyEcho (agree : Bool)
  /-- UNIT_COPY_READBACK (R286): A unit's VTH and FCFG read-back is compared with the active set. -/
  | unitCopyReadback (u : BitVec 6) (vth fcfg : Word)
  /-- SWEEP_WATCHDOG_EXPIRY (R287): No complete sweep for PRT_SWDOG.TMO while contactors on: cause SWDOG. -/
  | sweepWatchdogExpiry
  /-- HEARTBEAT_TIMEOUT (R294): Rider 0 misses the heartbeat for HBTMO ticks: cause HB. -/
  | heartbeatTimeout
  /-- CRB_HB (R294): A heartbeat write refreshes or sets HB_SEQ. -/
  | crbHb (core : Core) (seq : BitVec 8)
  /-- CURB_OSC_CHECK (R293): Each 100 µs window counts curb cycles; two bad windows give cause OSC. -/
  | curbOscCheck (count : Nat)
  /-- CURB_SUPPLY_FAULT (R293): The curb supply leaves its window: cause SUPPLY. -/
  | curbSupplyFault
  /-- CRB_CMD_SRS (R287): Requests a safe ramp stop, cause REQ_SRS. -/
  | crbCmdSrs (core : Core)
  /-- CRB_CMD_SII (R287): Requests immediate isolation, cause REQ_SII. -/
  | crbCmdSii (core : Core)
  /-- SRS_CURRENT_ZERO (R289): |I| < 2 A for 16 samples in SRS opens the contactors and enters HALT. -/
  | srsCurrentZero
  /-- SRS_RAMP_TIMEOUT (R289): T_ramp + 100 ms in SRS opens the contactors and enters HALT. -/
  | srsRampTimeout
  /-- SHUNT_PULSE_END (R289): The shunt pulse ends and SII enters HALT. -/
  | shuntPulseEnd
  /-- WELD_DETECT (R289): |I| ≥ 2 A for 100 ms in HALT fires the shunt pulse, cause WELD. -/
  | weldDetect
  /-- CURB_SELF_TEST_DONE (R295): The curb self-test passes and the curb enters READY when configured. -/
  | curbSelfTestDone (passed : Bool)
  /-- CRB_RESET (R297): The second reset key resets a stop when HALT conditions hold. -/
  | crbReset (core : Core) (key : Word)
  /-- CHANNEL2_CHECK (R301): An output still on 10 ms after LS12/LS13 opened sets CHAN2. -/
  | channel2Check
  /-- DOOR_CHANNEL_CHANGE (R298): A filtered door channel changes and the guard proof advances. -/
  | doorChannelChange (second high pattern : Bool)
  /-- GUARD_DISCREPANCY (R298): DI0 and DI1 differ for more than 50 ms: guard FAULT. -/
  | guardDiscrepancy
  /-- GUARD_OPEN_CONFIRM (R298): Both channels open for 200 ms: guard OPEN. -/
  | guardOpenConfirm
  /-- CRB_SEAL_FIRST_KEY (R303): The first seal key arms the seal for 10 ms. -/
  | crbSealFirstKey (core : Core)
  /-- CRB_SEAL_SECOND_KEY (R303): The second key checks the staged configuration and commits item 0. -/
  | crbSealSecondKey (core : Core)
  /-- SEAL_ARM_EXPIRY (R303): The 10 ms seal arming lapses. -/
  | sealArmExpiry
  /-- SEAL_COMMIT_DONE (R303): The item 0 commit completes and the configuration is loaded or refused. -/
  | sealCommitDone
  /-- GGN_TARGET_WRITE (R314): A target write appends or stages a move. -/
  | ggnTargetWrite (core : Core) (axis : BitVec 2) (val : Word)
  /-- GGN_GO (R317): Starts a linked move for a group's staged targets. -/
  | ggnGo (core : Core) (g1 g2 : Bool)
  /-- GGN_STOP (R315): Ends the active move along the stop profile. -/
  | ggnStop (core : Core) (axis : BitVec 2)
  /-- GGN_FLUSH (R314): Removes waiting moves. -/
  | ggnFlush (core : Core) (axis : BitVec 2)
  /-- GGN_SETPOS (R325): Sets an E axis position and leaves FAULT. -/
  | ggnSetpos (core : Core) (axis : BitVec 2)
  /-- GGN_AXIS_CTRL_WRITE (R328): Writing EN = 0 stops and flushes a moving axis. -/
  | ggnAxisCtrlWrite (core : Core) (axis : BitVec 2) (val : Word)
  /-- STEP_PULSE (R324): An E axis emits a STEP pulse at the crossing instant. -/
  | stepPulse (axis : Fin 3)
  /-- STEP_DRIVER_SHUTDOWN (R325): A step driver shuts down and its axis enters FAULT. -/
  | stepDriverShutdown (axis : Fin 3)
  /-- SETPOINT_PUBLISH (R327): Every PERIOD ticks GGN_DSP is published on CAN-B and/or Ethernet. -/
  | setpointPublish
  /-- FIO_DOSET_WRITE (R331): Sets the rank 6 demands of DO0–DO14. -/
  | fioDosetWrite (core : Core) (val : BitVec 15)
  /-- PULLIN_END (R333): After PULLIN the contactor output switches to economised hold. -/
  | pullinEnd (n : BitVec 4)
  /-- OUTPUT_OVERLOAD (R334): Current limit active 100 µs sets OVL. -/
  | outputOverload (n : BitVec 4)
  /-- OPEN_LOAD_OFF (R334): Off-state pin above open-load voltage for 10 ms sets OL_OFF. -/
  | openLoadOff (n : BitVec 4)
  /-- OPEN_LOAD_ON (R334): On-state current below threshold for 10 ms sets OL_ON. -/
  | openLoadOn (n : BitVec 4)
  /-- OFF_HIGH (R338): Readback high while off for 2 ms; holds the partner open and starts watching. -/
  | offHigh (n : BitVec 4)
  /-- TEST_WINDOW_START (R335): A dark or light test window starts or is discarded. -/
  | testWindowStart (n : BitVec 4) (light ts : Bool)
  /-- TEST_WINDOW_END (R338): A window ends, is judged and may classify a tied output. -/
  | testWindowEnd (low high : BitVec 16)
  /-- TIED_WATCH_EXPIRY (R338): A full PERIOD without a follow sets STUCK_ON. -/
  | tiedWatchExpiry (n : BitVec 4)
  /-- LS_RELEASE (R339): Releases a partner hold when the high side reads low and off. -/
  | lsRelease (core : Core) (ls13 : Bool)
  /-- WD_REARM (R340): Ends the expired output watchdog state. -/
  | wdRearm (core : Core)
  /-- CNTCLR (R347): Clears a counter and its period. -/
  | cntclr (core : Core) (k : BitVec 2)
  /-- FIO_WDKEY (R340): The key restarts the output watchdog or sets WD_KEY. -/
  | fioWdkey (core : Core) (val : Word)
  /-- FIO_WATCHDOG_EXPIRY (R340): The output watchdog reaches TMO and outputs take their safe states. -/
  | fioWatchdogExpiry
  /-- VF_LOW (R341): A field supply below threshold for 1 ms clears VFk_OK. -/
  | vfLow (second : Bool)
  /-- VF_RECOVER (R341): 10 ms above threshold + 0.5 V sets VFk_OK again. -/
  | vfRecover (second : Bool)
  /-- TEST_SOURCE_PULSE (R343): A test source goes dark for TPW each period. -/
  | testSourcePulse (k : BitVec 2) (high : BitVec 12)
  /-- TEST_SOURCE_OVERLOAD (R343): A test source in current limit for 1 ms turns off. -/
  | testSourceOverload (k : BitVec 2)
  /-- TEST_SOURCE_RETRY (R343): After 100 ms off the test source retries. -/
  | testSourceRetry (k : BitVec 2)
  /-- DI_SAMPLE (R344): An input is sampled every 10 µs and pattern-checked. -/
  | diSample (n : BitVec 4) (level : Bool)
  /-- DI_FILTER_CHANGE (R344): The filtered state changes after FILT and may raise an edge event. -/
  | diFilterChange (n : BitVec 4)
  /-- DI_WAKE_CHANGE (R346): In Paddock a selected input changes and asserts wake source 4. -/
  | diWakeChange (n : BitVec 4)
  /-- COUNTER_EDGE (R347): A selected edge increments a counter and updates its period. -/
  | counterEdge (k : BitVec 2) (rising : Bool) (dt : Nat)
  /-- COUNTER_PERIOD_TIMEOUT (R347): No counted edge for PTMO sets the period to 0xFFFF_FFFF. -/
  | counterPeriodTimeout (k : BitVec 2)
  /-- CAN_FRAME_RECEIVED (R353): A received frame is matched and stored in a receive object. -/
  | canFrameReceived (x : Fin 2) (f : CanFrame) (sof : BitVec 64)
  /-- CAN_RX_TIMEOUT (R355): An object's receive timeout runs out and sets TMO. -/
  | canRxTimeout (x : Fin 2) (n : BitVec 7)
  /-- CAN_TXREQ (R356): Requests transmission of an object. -/
  | canTxreq (core : Core) (x : BitVec 1) (n : BitVec 7)
  /-- CAN_TXABORT (R357): Ends a pending frame not on the bus with RES 4. -/
  | canTxabort (core : Core) (x : BitVec 1) (n : BitVec 7)
  /-- CAN_FRAME_SENT (R356): A frame completes its EOF and ends with RES 1. -/
  | canFrameSent (x : Fin 2) (obj : Option (BitVec 7)) (sof : BitVec 64)
  /-- CAN_ARBITRATION_LOST (R356): A frame loses arbitration and is retried or ends one-shot. -/
  | canArbitrationLost (x : Fin 2) (obj : Option (BitVec 7))
  /-- CAN_ERROR (R359): A bus error updates counters and may enter error passive or bus-off. -/
  | canError (x : Fin 2) (lec : Fin 7) (sending : Bool) (obj : Option (BitVec 7)) (inc : Fin 9)
  /-- CAN_BUS_OFF_RECOVERY (R359): 128 × 11 recessive bits return the controller to error active. -/
  | canBusOffRecovery (x : Fin 2)
  /-- CAN_RECOVER (R359): Starts bus-off recovery with BOAUTO = 0. -/
  | canRecover (core : Core) (x : BitVec 1)
  /-- CAN_ABORTALL (R366): Aborts every pending frame. -/
  | canAbortall (core : Core) (x : BitVec 1)
  /-- CAN_TIMING_WRITE (R351): A timing write outside INIT is ignored and sets CFGWR. -/
  | canTimingWrite (core : Core) (x : BitVec 1) (reg : Fin 6) (val : Word)
  /-- CAN_OBJECT_CONFIG_WRITE (R367): Changes object configuration and clears NEW, OVR and TMO. -/
  | canObjectConfigWrite (core : Core) (x : BitVec 1) (n : BitVec 7) (val : Word)
  /-- CAN_MODE_CHANGE (R360): A change from INIT takes effect after 11 recessive bits. -/
  | canModeChange (x : Fin 2)
  /-- TXF_TIMEOUT (R358): A txf timeout aborts the pending frame. -/
  | txfTimeout (core : Core) (tag : BitVec 8)
  /-- SWITCH_FORWARD (R369): The switch forwards a received frame and corrects PTP residence time. -/
  | switchForward (f : EthFrame) (residence linkDelay : Nat) (full : BitVec 3)
  /-- ARP_REQUEST (R370): P0 answers an ARP request for its address. -/
  | arpRequest (target sender : BitVec 32) (mac : BitVec 48)
  /-- ICMP_ECHO_REQUEST (R370): P0 answers an ICMP echo request. -/
  | icmpEchoRequest (target sender : BitVec 32)
  /-- ARP_RETRY (R370): An unresolved destination is retried and finally sets ARPFAIL. -/
  | arpRetry (ip : BitVec 32)
  /-- PLANT_TELEGRAM_RECEIVED (R383): A plant telegram is checked and accepted as DEMAND, SERVICE or update. -/
  | plantTelegramReceived (src : BitVec 32) (dport : BitVec 16) (bytes : List (BitVec 8))
  /-- DEMAND_TIMEOUT (R384): DTMO passes without a DEMAND and DEM_TMO is set. -/
  | demandTimeout
  /-- PTP_SYNC_SAMPLE (R376): A complete Sync exchange yields an offset handled by the time state. -/
  | ptpSyncSample (offset : BitVec 64)
  /-- BMCA_GM_CHANGE (R376): The BMCA selects another grandmaster and time goes REFUSED. -/
  | bmcaGmChange (gm : BitVec 64) (own : Bool)
  /-- SYNC_TIMEOUT (R376): No valid sample for SYNCTMO: HOLDOVER. -/
  | syncTimeout
  /-- HOLDOVER_LIMIT (R376): HOLDMAX since the last corrected sample clears TVALID. -/
  | holdoverLimit
  /-- TIME_ACCEPT (R376): Accepts the refused offset for a step at the next tick. -/
  | timeAccept (core : Core)
  /-- TIME_STEP (R374): Device time steps at a tick boundary and the state becomes LOCKED. -/
  | timeStep
  /-- TSQ_POP (R381): Removes the head timestamp. -/
  | tsqPop (core : Core)
  /-- TSQ_CLR (R390): Clears the timestamp queue. -/
  | tsqClr (core : Core)
  /-- PPS_IN_EDGE (R378): A PPS_IN edge is timestamped and used as a sample when valid. -/
  | ppsInEdge (ts : BitVec 64)
  /-- PPS_TIMEOUT (R378): No PPS_IN edge for 2 s raises source 231. -/
  | ppsTimeout
  /-- PPS_OUT_PULSE (R379): PPS_OUT rises at each whole second of device time. -/
  | ppsOutPulse
  /-- PTP_CMP_WRITE (R380): Arms a time compare. -/
  | ptpCmpWrite (core : Core) (k : BitVec 2) (val : Word)
  /-- TIME_COMPARE_FIRE (R380): Device time reaches a compare target and it fires once. -/
  | timeCompareFire (k : Fin 4)
  /-- PTP_TIMELO_READ (R374): A read of PTP_TIMELO copies the high word. -/
  | ptpTimeloRead (core : Core)
  /-- ETH_FRAME_SENT (R382): A txf frame leaves P0, is timestamped and completes. -/
  | ethFrameSent (full : Bool) (ts : BitVec 64)
  /-- TELEMETRY_SEND (R386): Every PERIOD ms a TELEMETRY telegram is sent. -/
  | telemetrySend
  /-- ETH_LINK_CHANGE (R389): P1 or P2 changes link state. -/
  | ethLinkChange (p up : Bool)
  /-- TDM_CTRL_WRITE (R396): EN starts the link and hello or returns to OFF. -/
  | tdmCtrlWrite (core : Core) (val : Word)
  /-- HELLO_COMPLETE (R396): The hello checks end; the pair goes ALONE, recording HCODE. -/
  | helloComplete (seat : BitVec 1) (ident : BitVec 256) (scfg prt cfg : Word) (dly : BitVec 16) (len : BitVec 10)
  /-- HELLO_TIMEOUT (R396): No peer for 100 ms in HELLO. -/
  | helloTimeout
  /-- TDM_RESYNC (R396): Starts a snapshot to put the pair in step. -/
  | tdmResync (core : Core)
  /-- TDM_RELEASE (R414): Drops the claim at the next boundary as a planned release. -/
  | tdmRelease (core : Core)
  /-- SNAPSHOT_ROUND_END (R411): A snapshot round ends and the next or final round starts. -/
  | snapshotRoundEnd (pages : BitVec 16)
  /-- SNAPSHOT_FINAL (R411): The final round at boundary K puts the seats ACTIVE and STANDBY. -/
  | snapshotFinal (x : Snapshot)
  /-- SNAPSHOT_FAIL (R412): A snapshot fails by time, rounds or link loss. -/
  | snapshotFail
  /-- SNAPSHOT_RETRY (R412): 1 s after a failure the feeding seat retries. -/
  | snapshotRetry
  /-- TICK_SYMBOL (R395): The non-master seat places its tick boundary from the received symbol. -/
  | tickSymbol (rb : BitVec 16)
  /-- TICK_WAIT (R397): A Rider reaches its tick wait and takes the boundary. -/
  | tickWait (r : Rider)
  /-- BUNDLE_RECEIVED (R399): The standby receives and buffers a bundle. -/
  | bundleReceived (rejected : BitVec 16) (lost : Bool) (b : Bundle)
  /-- REPLAY_BOUNDARY (R399): The standby applies a complete bundle at its replay boundary. -/
  | replayBoundary
  /-- DIGEST_RETURN (R404): The active compares the standby's digest with its own. -/
  | digestReturn (k : Nat) (crc : Word) (mirror : List Word) (declared : List (BitVec 8)) (string : List (BitVec 8 × Bool))
  /-- TDM_CLAIMREF (R408): A claim refresh key write, checked for alternation. -/
  | tdmClaimref (core : Core) (key : Word)
  /-- PEER_CLAIM_CHANGE (R407): PEER_CLAIM_IN appears or disappears; the gate closes when it appears. -/
  | peerClaimChange (present : Bool)
  /-- BRIDLE_GATE_OPEN (R407): The own claim asserted 2 µs without peer claim opens the gate. -/
  | bridleGateOpen
  /-- RELEASE_NOTICE_RECEIVED (R409): A standby receives a release notice and may take over. -/
  | releaseNoticeReceived (reason : BitVec 4)
  /-- PEER_SILENCE (R409): Nothing from the peer for 300 µs: takeover or LINK cause. -/
  | peerSilence (lost : Bool)
  /-- HANDBACK (R413): MATCHCNT reaches PROVE and seat B hands back to seat A. -/
  | handback (peerReady : Bool)
  /-- HEARTBEAT_SEND (R394): In Paddock an 8-byte heartbeat is sent every 1 ms. -/
  | heartbeatSend
  /-- HEARTBEAT_RECEIVED (R394): A peer heartbeat arrives, possibly carrying a wake request. -/
  | heartbeatReceived (wakeReq : Bool)
  /-- COMMIT_START (R423): When the MRAM port is free the next commit with enough energy starts. -/
  | commitStart
  /-- COMMIT_DONE (R424): A commit is written and verified, or fails, and completes. -/
  | commitDone (ok : Bool)
  /-- COMMIT_ABANDON (R423): A deferred commit not started after DEFTMO ends with RES 3. -/
  | commitAbandon
  /-- LIMITER_SECOND (R432): Each second overdue LOG_SUPPRESSED records are written and slots freed. -/
  | limiterSecond
  /-- LIMITER_TOKEN_GAIN (R432): A limiter slot gains a token every 60 / RATE s. -/
  | limiterTokenGain (k : BitVec 6)
  /-- RESERVE_MEASURE (R419): Every 100 µs the reserve voltage and usable energy are measured. -/
  | reserveMeasure (mv : BitVec 16)
  /-- RESERVE_LOW (R419): The reserve stays below 4.50 V for 1 s with AUX present. -/
  | reserveLow
  /-- RSV_TEST (R420): Starts the reserve load test. -/
  | rsvTest (core : Core)
  /-- RESERVE_TEST_DONE (R420): The 20 ms load test ends and RSV_OK is set or cleared. -/
  | reserveTestDone (cap esr : BitVec 16)
  /-- LEDGER_DONE (R427): Sets LEDGER_OK unless RSV_OK is 0. -/
  | ledgerDone (core : Core)
  /-- COUNTER_COMMIT (R429): Every 60 s of OPTIME the counters are committed. -/
  | counterCommit
  /-- LOG_CLEAR (R435): A keyed clear writes every slot to 0 and applies the layout. -/
  | logClear (core : Core)
  /-- LOG_CLEAR_DONE (R435): The clear ends and source 247 is raised. -/
  | logClearDone
  /-- UPD_BEGIN (R443): Opens or resumes an update session. -/
  | updBegin (core : Core)
  /-- UPD_PROG (R444): Programs a staged block into the inactive slot. -/
  | updProg (core : Core)
  /-- PROG_DONE (R444): The erase and program end and the bitmap bit is set. -/
  | progDone (ok : Bool)
  /-- UPD_VERIFY (R446): Starts the hardware image check. -/
  | updVerify (core : Core)
  /-- VERIFY_DONE (R446): The check ends; the slot is VERIFIED or back to RECEIVING. -/
  | verifyDone
  /-- UPD_ARM (R447): Arms the verified slot for a trial at the next reset. -/
  | updArm (core : Core)
  /-- HEALTH_CONFIRM (R450): Confirms the image on trial. -/
  | healthConfirm (core : Core)
  /-- UPD_ABORT (R450): Rejects the trial image or ends the session. -/
  | updAbort (core : Core)
  /-- TRIAL_EXPIRY (R449): The trial window or absolute limit passes and the slot is REJECTED. -/
  | trialExpiry
  /-- AUX_POWER_ON (R460): AUX rises above the start threshold and the power-up sequence starts. -/
  | auxPowerOn (seat wakeN resetN : Bool)
  /-- RIDERS_START (R460): The boot ROM ends and the Riders start at their entries in Walk. -/
  | ridersStart (selfTest : Bool)
  /-- AUX_FAIL (R461): AUX_OK clears; power-down starts, with Lame or a claim drop. -/
  | auxFail
  /-- AUX_RESTORED (R464): AUX_OK sets again during power-down and PDN clears. -/
  | auxRestored
  /-- POWER_DOWN_END (R463): The module removes its own supply. -/
  | powerDownEnd (low : Bool)
  /-- RESET_N_ASSERT (R466): RESET_N low for 20 ms resets the module. -/
  | resetNAssert
  /-- RESET_N_RELEASE (R466): RESET_N rises and the power-up sequence runs. -/
  | resetNRelease
  /-- RESET_N_STUCK (R466): RESET_N low for 8 s masks it and boots. -/
  | resetNStuck
  /-- RESET_MASK_CLEAR (R467): RESET_N high for 100 ms clears RSTN_MASK. -/
  | resetMaskClear
  /-- SOFTWARE_RESET (R468): A keyed SYS_RSTCMD write resets the module or is refused. -/
  | softwareReset (core : Core) (force : Bool)
  /-- SYS_WDKEY (R469): The key restarts the system watchdog. -/
  | sysWdkey (core : Core) (val : Word)
  /-- SYSTEM_WATCHDOG_EXPIRY (R469): The system watchdog reaches TMO and resets the module. -/
  | systemWatchdogExpiry
  /-- SUPPLY_MONITOR_RESET (R469): A core rail leaves its window and the module resets with cause SUPPLY. -/
  | supplyMonitorReset
  /-- SYNC_INSTANT (R184): At T_dep + SYNCDLY the engine hands the SYNC instant to the HVM, increments CHN_SWEEP and sends the first READ_BLOCK of the sweep. -/
  | syncInstant
  /-- PLL_LOCK (R24): A PLL that was started or had lost lock achieves lock, sets its SYS_CLKSTAT bit and its gated domains run again. -/
  | pllLock (p : Fin 6)
  /-- STEP_DRIVER_RECOVERY (R69): A step driver that shut down cools below 125 °C and its outputs restart, the axis staying in FAULT. -/
  | stepDriverRecovery (axis : Fin 3)
  /-- ALIVE_CODE_START (R150): The curb logic first receives the alive code after an HV section power-up and starts supervising it. -/
  | aliveCodeStart
  /-- BLEED_RESTORE_TIMEOUT (R207): A unit that has accepted no SYNC by the expected latch instant + QUIET + 1 ms restores its bleed state. -/
  | bleedRestoreTimeout (u : BitVec 6)
  /-- BOOT_AGAIN (R460): Ten seconds after a failed boot (no valid image, or a failed step 2 or 3) the boot ROM boots again. -/
  | bootAgain
  /-- TDM_LINK_RESTORED (R394): The tandem link trains again after a loss, raising source 238. -/
  | tdmLinkRestored
  /-- MASTER_SYNC_INTERVAL (R371): In the master role the ordinary clock sends Sync every 1 s and Announce every 2 s. -/
  | masterSyncInterval
  /-- CELLS_WRITE_TIMEOUT (R203): A unit does not answer the CELLS WRITE_REG within CHN_RTO; it fails check 0x7 and its address is recorded. -/
  | cellsWriteTimeout (u : BitVec 6)
  deriving DecidableEq, Repr

end Sys2Proof
end

