-- ==== Sys2Proof/WellFormed.lean ====
section
/-! DEFINITION. The operands that a command can carry: what comes from outside must have a form that the part can
receive. -/

namespace Sys2Proof
open Sys2Proof.Machine

/-- A unit address (Table CHN-4). -/
def unitOk (u : BitVec 6) : Bool := decide (1 ≤ u.toNat ∧ u.toNat ≤ 32)

/-- A request at the arbiter: class, unit, requester and index within Tables ARC-19 and ARC-20. -/
def ArbPost.ok (p : ArbPost) : Bool :=
  decide (p.cls < 6) && decide (p.unit < [2, 32, 1, 512, 2, 8].getD p.cls 0) && decide (1 ≤ p.req ∧ p.req ≤ 6)
    && decide (p.index < (if p.req = 5 then 32 else if p.req = 6 then 8 else 1))

/-- A frame on the chain: bytes, and at most 64 of payload (Table CHN-4). -/
def Frame.ok (f : Frame) : Bool :=
  decide (f.tag < 256 ∧ f.addr < 256 ∧ f.cmd < 256) && decide (f.payload.length ≤ 64)
    && f.payload.all fun b => decide (b < 256)

/-- The sample of a unit: its widths, and 1 to 16 cells (Table CHN-9). -/
def UnitFrame.ok (f : UnitFrame) : Bool :=
  decide (f.ustat < 2 ^ 8 ∧ f.stack < 2 ^ 32 ∧ f.t0 < 2 ^ 16 ∧ f.t1 < 2 ^ 16) && decide (f.cells.length ≤ 16)
    && f.cells.all fun v => decide (v < 2 ^ 16)

/-- What arrives at a module port: a frame of the chain, the LEN it states and its CRC-16 (Table CHN-4). -/
def Wire.ok (w : Wire) : Bool := w.f.ok && decide (w.len < 256 ∧ w.crc < 2 ^ 16)

/-- A place where a frame reaches a unit, or a module that repeats (R170), and the address it carries. -/
def Hop.ok (h : Hop) : Bool := decide (h.unit ≤ 32 ∧ h.tag < 256 ∧ h.dest < 64)

/-- A CAN frame: data length, a classical frame of at most 8 bytes, no remote FD frame, a base identifier in bits
[28:18]. -/
def CanFrame.ok (f : CanFrame) : Bool :=
  Legal.canLen.ok f.data.length && (f.fdf || decide (f.data.length ≤ 8)) && (f.fdf || (!f.brs && !f.esi))
    && !(f.fdf && f.remote) && (f.ide || decide (f.id.toNat % 2 ^ 18 = 0))

/-- The instant lies between its samples. -/
def Bracket.ok (q : Bracket) : Bool := decide (0 < q.den ∧ q.num ≤ q.den ∧ q.hnum ≤ q.den)

/-- A bundle carries 8 mirror words and at most 512 declared bytes (Table TDM-10). -/
def bundleOk (b : Bundle) : Bool := decide (b.mirror.length = 8) && decide (b.declared.length ≤ 512)

/-- A snapshot carries bytes at rising addresses, and an applied layout of cells 0 to 511 on units from 1 on (R411,
Table CEL-1). -/
def snapshotOk (x : Snapshot) : Bool :=
  keysRise x.mem && x.cel.map.all fun e => decide (e.1 < 512 ∧ 1 ≤ e.2 % 64)

/-- The operands of a command have forms that the part can receive. -/
def Instr.wellFormed (i : Instr) : Bool :=
  match i with
  | .arbitrationCycle _ posts ended => posts.all ArbPost.ok && ended.all ArbPost.ok
  | .requestPromotion post => post.ok
  | .sweepHeaderHvmWrite q => q.ok
  | .enumClear h => h.ok
  | .enumAssignUp h _ _ => h.ok
  | .enumAssignDown h _ _ => h.ok
  | .enumVerifyDown h _ _ => h.ok
  | .ping h => h.ok
  | .sync p k _ _ => (Hop.of p k).ok
  | .unitLatch u f => unitOk u && f.ok
  | .readBlock h _ => h.ok
  | .readReg h _ _ => h.ok
  | .writeReg p k _ words => (Hop.of p k).ok && decide (1 ≤ words.length ∧ words.length ≤ 15)
  | .bleedSet p k _ => (Hop.of p k).ok
  | .owt h => h.ok
  | .owtUnitResponse u _ dv => unitOk u && decide (dv.length ≤ 17)
  | .excite p k _ _ _ _ => (Hop.of p k).ok
  | .exciteChip u => unitOk u
  | .faultAck p k => (Hop.of p k).ok
  | .sleep h => h.ok
  | .wakeTone x => decide (x.side.unit ≤ 32)
  | .unitLossOfLock u _ => unitOk u
  | .unitAutoSleep u => unitOk u
  | .bleedTimeout u => unitOk u
  | .bleedQuietStart u => unitOk u
  | .bleedQuietEnd u => unitOk u
  | .unitFaultEmit u _ _ => unitOk u
  | .unitFaultRepeat u => unitOk u
  | .faultForward u _ => decide (u.toNat ≤ 32)
  | .pingResponse _ w _ => w.ok
  | .readBlockResponse _ f e => (Wire.of f e).ok
  | .linknote _ w => w.ok
  | .chxResponse _ f e => (Wire.of f e).ok
  | .cellsWriteResponse u _ => unitOk u
  | .owtResponseReceived a => a.wire.ok
  | .owtDeadline u => unitOk u
  | .bleedRefresh u => unitOk u
  | .bleedSetAck u _ => unitOk u
  | .unitCopyReadback u _ _ => unitOk u
  | .canFrameReceived _ f _ => f.ok
  | .plantTelegramReceived _ _ bytes => decide (bytes.length ≤ 1472)
  | .bundleReceived _ _ b => bundleOk b
  | .snapshotFinal x => snapshotOk x
  | .digestReturn _ _ mirror declared _ => decide (mirror.length = 8) && decide (declared.length ≤ 512)
  | .bleedRestoreTimeout u => unitOk u
  | .cellsWriteTimeout u => unitOk u
  | .add .. | .sub .. | .and .. | .or .. | .xor .. | .shl .. | .shr .. | .sar .. | .slt .. | .sltu .. | .min ..
  | .max .. | .minu .. | .maxu .. | .mul .. | .mulh .. | .mulhu .. | .div .. | .divu .. | .rem .. | .remu ..
  | .jalr .. | .addi .. | .subi .. | .andi .. | .ori .. | .xori .. | .shli .. | .shri .. | .sari .. | .slti ..
  | .sltiu .. | .lb .. | .lbu .. | .lh .. | .lhu .. | .lw .. | .sb .. | .sh .. | .sw .. | .beq .. | .bne ..
  | .bhs .. | .blo .. | .bmi .. | .bpl .. | .bvs .. | .bvc .. | .bhi .. | .bls .. | .bge .. | .blt .. | .bgt ..
  | .ble .. | .j .. | .bz .. | .bnz .. | .bltz .. | .bgez .. | .bgtz .. | .blez .. | .jal .. | .high ..
  | .fadd .. | .fsub .. | .fmul .. | .fdiv .. | .fsqrt .. | .fma .. | .fms .. | .fmin .. | .fmax .. | .fabs ..
  | .fneg .. | .fcmp .. | .fcvtsw .. | .fcvtws .. | .fcvtwsr .. | .mfcr .. | .mtcr .. | .wfe .. | .wfeWake ..
  | .fenceFull .. | .fenceStores .. | .fenceInstruction .. | .trap .. | .eret .. | .eventInterrupt ..
  | .groomFaultReset | .lockstepMismatch .. | .chx .. | .job .. | .nvc .. | .dma .. | .txf .. | .waitt ..
  | .waittReturn .. | .waittLimit .. | .pollt .. | .tagrel .. | .lock .. | .lockGrant .. | .unlock ..
  | .amoadd .. | .amoswap .. | .amocas .. | .amoand .. | .amoor .. | .dmaTransferDone .. | .controlTick ..
  | .periphStore .. | .refMonitorWindow .. | .pllUnlock .. | .xtal32kLoss | .evtClaim .. | .evtDone ..
  | .evtSet .. | .lockHoldLimit .. | .padLocklimWrite .. | .pwrReqStable .. | .pwrReqPaddock .. | .pwrReqWalk ..
  | .pwrReqTrot .. | .pwrReqCanter .. | .pwrReqGallop .. | .pwrReqLame .. | .gaitTransitionComplete
  | .wakeNLow .. | .rtcTick | .thmSensorWindow .. | .thmGraceExpiry | .thmRelease | .dieRestart ..
  | .outputThermalShutdown .. | .outputThermalRestart .. | .hvConverterTrip | .hvTempWarn | .tokenRefill
  | .schedulerEvaluation | .jobProgramLoaded .. | .jobDeadlineMiss .. | .hrdAbort .. | .hrdTeamdisWrite ..
  | .hrdCtrlWrite .. | .postDeadline | .laneFadd .. | .laneFsub .. | .laneFmul .. | .laneFma .. | .laneFms ..
  | .laneFmin .. | .laneFmax .. | .laneFabs .. | .laneFneg .. | .laneFcvtsw .. | .laneFcvtws .. | .laneMov ..
  | .laneLidx .. | .laneCmap .. | .laneTidx .. | .laneLdi .. | .laneIadd .. | .laneIsub .. | .laneAnd ..
  | .laneOr .. | .laneXor .. | .laneShl .. | .laneShr .. | .laneSar .. | .laneImul .. | .laneImin ..
  | .laneImax .. | .laneFclt .. | .laneFcle .. | .laneFceq .. | .laneIclt .. | .laneIceq .. | .lanePand ..
  | .lanePor .. | .lanePnot .. | .laneLld .. | .laneLst .. | .laneTld .. | .laneTst .. | .laneHld ..
  | .laneFdiv .. | .laneFsqrt .. | .laneFrcp .. | .laneFexp .. | .laneFlog .. | .laneRmin .. | .laneRmax ..
  | .laneRsum .. | .laneRargmin .. | .laneRargmax .. | .laneBar .. | .laneBra .. | .laneRet .. | .fastOcTrip ..
  | .aliveCodeLoss | .aliveCodeStartupTimeout | .protectionSample .. | .fineSample .. | .rangeCompareFail
  | .hvOverload | .voltageChannelInvalid .. | .voltageChannelRecover .. | .hallSample .. | .diversityMismatch
  | .hallFault .. | .isolatorLinkLoss | .isolatorLinkRestored | .hvSupplyFault | .hvSectionReady
  | .insulationPeriodEnd .. | .insulationTimeout | .pchArm .. | .pchAbort .. | .prechargePass
  | .prechargeLinkShort | .prechargeTimeout | .prechargeDrop | .rangeReset .. | .qclr .. | .zero ..
  | .zeroTrimDone | .hvmQloRead .. | .hvmCtrlWrite .. | .hvmHallgainWrite .. | .faultSymbolReceived
  | .chnEnum .. | .enumPhaseTimeout .. | .enumDone | .chnRemeasure .. | .chnWake .. | .chnAbort ..
  | .chnCtrlWrite .. | .syncSend | .portLossOfLock .. | .portSilenceTimeout .. | .chxTimeout .. | .mapApply ..
  | .mapValidate | .senseClr .. | .owtNow .. | .balStop .. | .check .. | .paddockCheckDone | .owtSchedule
  | .owtRetry | .balanceEvaluation | .paramApply .. | .paramCheck | .limitHoldExpiry | .estCtrlWrite ..
  | .lsnapReq .. | .ledgerSnapshot | .prtSetWrite .. | .prtCommit | .crbCopyCheck .. | .hvCopyEcho ..
  | .sweepWatchdogExpiry | .heartbeatTimeout | .crbHb .. | .curbOscCheck .. | .curbSupplyFault | .crbCmdSrs ..
  | .crbCmdSii .. | .srsCurrentZero | .srsRampTimeout | .shuntPulseEnd | .weldDetect | .curbSelfTestDone ..
  | .crbReset .. | .channel2Check | .doorChannelChange .. | .guardDiscrepancy | .guardOpenConfirm
  | .crbSealFirstKey .. | .crbSealSecondKey .. | .sealArmExpiry | .sealCommitDone | .ggnTargetWrite ..
  | .ggnGo .. | .ggnStop .. | .ggnFlush .. | .ggnSetpos .. | .ggnAxisCtrlWrite .. | .stepPulse ..
  | .stepDriverShutdown .. | .setpointPublish | .fioDosetWrite .. | .pullinEnd .. | .outputOverload ..
  | .openLoadOff .. | .openLoadOn .. | .offHigh .. | .testWindowStart .. | .testWindowEnd ..
  | .tiedWatchExpiry .. | .lsRelease .. | .wdRearm .. | .cntclr .. | .fioWdkey .. | .fioWatchdogExpiry
  | .vfLow .. | .vfRecover .. | .testSourcePulse .. | .testSourceOverload .. | .testSourceRetry ..
  | .diSample .. | .diFilterChange .. | .diWakeChange .. | .counterEdge .. | .counterPeriodTimeout ..
  | .canRxTimeout .. | .canTxreq .. | .canTxabort .. | .canFrameSent .. | .canArbitrationLost .. | .canError ..
  | .canBusOffRecovery .. | .canRecover .. | .canAbortall .. | .canTimingWrite .. | .canObjectConfigWrite ..
  | .canModeChange .. | .txfTimeout .. | .switchForward .. | .arpRequest .. | .icmpEchoRequest .. | .arpRetry ..
  | .demandTimeout | .ptpSyncSample .. | .bmcaGmChange .. | .syncTimeout | .holdoverLimit | .timeAccept ..
  | .timeStep | .tsqPop .. | .tsqClr .. | .ppsInEdge .. | .ppsTimeout | .ppsOutPulse | .ptpCmpWrite ..
  | .timeCompareFire .. | .ptpTimeloRead .. | .ethFrameSent .. | .telemetrySend | .ethLinkChange ..
  | .tdmCtrlWrite .. | .helloComplete .. | .helloTimeout | .tdmResync .. | .tdmRelease .. | .snapshotRoundEnd ..
  | .snapshotFail | .snapshotRetry | .tickSymbol .. | .tickWait .. | .replayBoundary
  | .tdmClaimref .. | .peerClaimChange .. | .bridleGateOpen | .releaseNoticeReceived .. | .peerSilence ..
  | .handback .. | .heartbeatSend | .heartbeatReceived .. | .commitStart | .commitDone .. | .commitAbandon
  | .limiterSecond | .limiterTokenGain .. | .reserveMeasure .. | .reserveLow | .rsvTest .. | .reserveTestDone ..
  | .ledgerDone .. | .counterCommit | .logClear .. | .logClearDone | .updBegin .. | .updProg .. | .progDone ..
  | .updVerify .. | .verifyDone | .updArm .. | .healthConfirm .. | .updAbort .. | .trialExpiry | .auxPowerOn ..
  | .ridersStart .. | .auxFail | .auxRestored | .powerDownEnd .. | .resetNAssert | .resetNRelease | .resetNStuck
  | .resetMaskClear | .softwareReset .. | .sysWdkey .. | .systemWatchdogExpiry | .supplyMonitorReset
  | .syncInstant | .pllLock .. | .stepDriverRecovery .. | .aliveCodeStart | .bootAgain | .tdmLinkRestored
  | .masterSyncInterval => true

end Sys2Proof
end

