-- ==== Sys2Proof/Machine/Float.lean ====
section
/-! DEFINITION. FP32 arithmetic of the scalar cores and of the Herd lanes (R89, R122): binary32, round to
nearest even, subnormals kept, one NaN. -/

namespace Sys2Proof.Machine
open Sys2Proof

/-- The result of an FP32 operation and the conditions it signals. -/
structure FpRes where
  val : Nat
  invalid : Bool
  divZero : Bool
  overflow : Bool
  underflow : Bool
  inexact : Bool
  deriving DecidableEq, Repr

/-- A result that signals nothing. -/
def FpRes.exact (v : Nat) : FpRes := ⟨v, false, false, false, false, false⟩

/-- The canonical NaN (R89). -/
def fpNaN : Nat := 0x7FC00000

/-- The canonical NaN with the invalid condition. -/
def FpRes.bad : FpRes := ⟨fpNaN, true, false, false, false, false⟩

/-- Sign bit. -/
def fpNeg (a : Nat) : Bool := bit a 31
/-- Biased exponent. -/
def fpExp (a : Nat) : Nat := bits a 23 8
/-- Fraction. -/
def fpFrac (a : Nat) : Nat := bits a 0 23
/-- Any NaN. -/
def isNaN (a : Nat) : Bool := decide (fpExp a = 255) && decide (fpFrac a ≠ 0)
/-- A signalling NaN. -/
def isSNaN (a : Nat) : Bool := isNaN a && !(bit a 22)
/-- An infinity. -/
def isInf (a : Nat) : Bool := decide (fpExp a = 255) && decide (fpFrac a = 0)
/-- A zero. -/
def isZero (a : Nat) : Bool := decide (fpExp a = 0) && decide (fpFrac a = 0)

/-- Significand of a finite number: value = significand × 2^(exponent). -/
def fpMant (a : Nat) : Nat := if fpExp a = 0 then fpFrac a else 2 ^ 23 + fpFrac a
/-- Exponent of a finite number's significand. -/
def fpScale (a : Nat) : Int := if fpExp a = 0 then -149 else (fpExp a : Int) - 150

/-- A number with the given sign and magnitude bits. -/
def fpSigned (neg : Bool) (mag : Nat) : Nat := (if neg then 2 ^ 31 else 0) + mag

/-- Infinity. -/
def fpInf (neg : Bool) : Nat := fpSigned neg 0x7F800000

/-- Number of significant bits. -/
def bitLen (n : Nat) : Nat := if n = 0 then 0 else Nat.log2 n + 1

/-- `n` right-shifted by `k`, rounded to nearest even; `more` marks a remainder below the last bit. -/
def shiftRound (n k : Nat) (more : Bool) : Nat :=
  let q := n / 2 ^ k
  let r := n % 2 ^ k
  if k = 0 then n
  else if 2 ^ (k - 1) < r ∨ (r = 2 ^ (k - 1) ∧ (more = true ∨ q % 2 = 1)) then q + 1 else q

/-- Magnitude rounded to 24 bits at the unit of exponent `q`, from `m` × 2^`e` plus a remainder where
`more`: rounded significand and whether it is inexact. -/
def roundAt (m : Nat) (e q : Int) (more : Bool) : Nat × Bool :=
  if q ≤ e then (m * 2 ^ (e - q).toNat, more)
  else
    let k := (q - e).toNat
    (shiftRound m k more, more || decide (m % 2 ^ k ≠ 0))

/-- The FP32 number nearest to ±(`m` × 2^`e`), with a remainder below `m` where `more`; `m` carries at
least 26 bits then (log entry 4: DESIGN CHOICE). -/
def fpRound (neg : Bool) (m : Nat) (e : Int) (more : Bool) : FpRes :=
  if m = 0 then .exact (fpSigned neg 0)
  else
    let free := e + bitLen m - 24
    let q := max free (-149)
    let (r, inex) := roundAt m e q more
    -- tininess: before rounding by the exact value, after it by the rounding with unbounded exponent
    let tinyBefore : Bool := decide (e + bitLen m < -125)
    let tinyAfter : Bool := tinyBefore &&
      !(decide (e + bitLen m = -126) && decide ((roundAt m e free more).1 = 2 ^ 24))
    let tiny : Bool := tinyAfter || (tinyBefore && Config.fpChoice 0)
    let biased : Int := q + 150
    if r = 0 then ⟨fpSigned neg 0, false, false, false, tiny && inex, inex⟩
    else
      -- a carry out of 24 bits moves into the exponent by addition
      let mag : Int := if r < 2 ^ 23 then r else (biased - 1) * 2 ^ 23 + r
      if 0x7F800000 ≤ mag then ⟨fpInf neg, false, false, true, false, true⟩
      else ⟨fpSigned neg mag.toNat, false, false, false, tiny && inex, inex⟩

/-- The exact integer `i` × 2^`e` rounded; a zero sum takes sign `zneg`. -/
def fpRoundInt (i : Int) (e : Int) (zneg : Bool) : FpRes :=
  if i = 0 then .exact (fpSigned zneg 0) else fpRound (decide (i < 0)) i.natAbs e false

/-- Signed significand of a finite number at exponent `e` ≤ its own. -/
def fpAt (a : Nat) (e : Int) : Int :=
  let m : Int := (fpMant a * 2 ^ (fpScale a - e).toNat : Nat)
  if fpNeg a then -m else m

/-- Negation changes only bit 31 (R89). -/
def fpNegate (a : Nat) : Nat := if fpNeg a then a - 2 ^ 31 else a + 2 ^ 31

/-- Addition. -/
def fpAdd (a b : Nat) : FpRes :=
  if isNaN a || isNaN b then { FpRes.bad with invalid := isSNaN a || isSNaN b }
  else if isInf a then (if isInf b && (fpNeg a != fpNeg b) then .bad else .exact a)
  else if isInf b then .exact b
  else
    let e := min (fpScale a) (fpScale b)
    fpRoundInt (fpAt a e + fpAt b e) e (fpNeg a && fpNeg b)

/-- Subtraction. -/
def fpSub (a b : Nat) : FpRes := if isNaN b then fpAdd a b else fpAdd a (fpNegate b)

/-- Multiplication. -/
def fpMul (a b : Nat) : FpRes :=
  let neg := fpNeg a != fpNeg b
  if isNaN a || isNaN b then { FpRes.bad with invalid := isSNaN a || isSNaN b }
  else if isInf a || isInf b then (if isZero a || isZero b then .bad else .exact (fpInf neg))
  else fpRound neg (fpMant a * fpMant b) (fpScale a + fpScale b) false

/-- `c` + `a` × `b`, one rounding (log entry 4: DESIGN CHOICE). -/
def fpFma (c a b : Nat) : FpRes :=
  let neg := fpNeg a != fpNeg b
  let zeroInf : Bool := (isInf a && isZero b) || (isZero a && isInf b)
  if isNaN a || isNaN b || isNaN c then
    { FpRes.bad with invalid := isSNaN a || isSNaN b || isSNaN c ||
        (zeroInf && Config.fpChoice 1) }
  else if zeroInf then .bad
  else if isInf a || isInf b then
    (if isInf c && (fpNeg c != neg) then .bad else .exact (fpInf neg))
  else if isInf c then .exact c
  else
    let ep := fpScale a + fpScale b
    let e := min ep (fpScale c)
    let p : Int := (fpMant a * fpMant b * 2 ^ (ep - e).toNat : Nat)
    fpRoundInt ((if neg then -p else p) + fpAt c e) e (neg && fpNeg c)

/-- `c` − `a` × `b`, one rounding. -/
def fpFms (c a b : Nat) : FpRes := if isNaN a then fpFma c a b else fpFma c (fpNegate a) b

/-- Division. -/
def fpDiv (a b : Nat) : FpRes :=
  let neg := fpNeg a != fpNeg b
  if isNaN a || isNaN b then { FpRes.bad with invalid := isSNaN a || isSNaN b }
  else if isInf a then (if isInf b then .bad else .exact (fpInf neg))
  else if isInf b then .exact (fpSigned neg 0)
  else if isZero b then
    (if isZero a then .bad else ⟨fpInf neg, false, true, false, false, false⟩)
  else
    let n := fpMant a * 2 ^ 56
    fpRound neg (n / fpMant b) (fpScale a - fpScale b - 56) (decide (n % fpMant b ≠ 0))

/-- Square root. -/
def fpSqrt (a : Nat) : FpRes :=
  if isNaN a then { FpRes.bad with invalid := isSNaN a }
  else if isZero a then .exact a
  else if fpNeg a then .bad
  else if isInf a then .exact a
  else
    let e := fpScale a
    let odd := e % 2
    let n := fpMant a * 2 ^ (odd.toNat + 60)
    let r := Nat.sqrt n
    fpRound false r ((e - odd - 60) / 2) (decide (r * r ≠ n))

/-- Reciprocal, correctly rounded (R122). -/
def fpRcp (a : Nat) : FpRes := fpDiv 0x3F800000 a

/-- Order of two numbers that are no NaN, −0 equal to +0: less. -/
def fpLess (a b : Nat) : Bool :=
  let key (x : Nat) : Int := if fpNeg x then -((x : Int) - 2 ^ 31) else x
  decide (key a < key b)

/-- Minimum; one NaN gives the other operand (Table GCS-8); −0 below +0. -/
def fpMin (a b : Nat) : FpRes :=
  let inv := isSNaN a || isSNaN b
  let v := if isNaN a && isNaN b then fpNaN else if isNaN a then b else if isNaN b then a
    else if fpLess b a || (isZero a && isZero b && fpNeg b) then b else a
  { FpRes.exact v with invalid := inv }

/-- Maximum; one NaN gives the other operand (Table GCS-8); −0 below +0. -/
def fpMax (a b : Nat) : FpRes :=
  let inv := isSNaN a || isSNaN b
  let v := if isNaN a && isNaN b then fpNaN else if isNaN a then b else if isNaN b then a
    else if fpLess a b || (isZero a && isZero b && !fpNeg b) then b else a
  { FpRes.exact v with invalid := inv }

/-- Absolute value: bit 31 cleared, nothing signalled (R89). -/
def fpAbs (a : Nat) : FpRes := .exact (a % 2 ^ 31)

/-- Comparison. -/
inductive FpOrder where
  | less | equal | greater | unordered
  deriving DecidableEq, Repr

/-- The relation of `a` to `b`. -/
def fpOrder (a b : Nat) : FpOrder :=
  if isNaN a || isNaN b then .unordered
  else if fpLess a b then .less else if fpLess b a then .greater else .equal

/-- Signed integer to FP32. -/
def fpOfInt (a : Nat) : FpRes := fpRoundInt (sgn 32 a) 0 false

/-- FP32 to signed integer, toward zero or to nearest even, saturating; NaN gives 0 (R89). -/
def fpToInt (nearest : Bool) (a : Nat) : FpRes :=
  if isNaN a then ⟨0, true, false, false, false, false⟩
  else
    let sat := if fpNeg a then 0x80000000 else 0x7FFFFFFF
    if isInf a then ⟨sat, true, false, false, false, false⟩
    else
      let e := fpScale a
      let m := fpMant a
      let k := (-e).toNat
      let mag := if 0 ≤ e then m * 2 ^ e.toNat else if nearest then shiftRound m k false else m / 2 ^ k
      let inex : Bool := decide (e < 0) && decide (m % 2 ^ k ≠ 0)
      if (if fpNeg a then 2 ^ 31 < mag else 2 ^ 31 ≤ mag) then ⟨sat, true, false, false, false, false⟩
      else ⟨enc 32 (if fpNeg a then -(mag : Int) else mag), false, false, false, false, inex⟩

/-- FP32 to an integer toward zero, for the EST block; a NaN gives 0 (log entry 60: DESIGN CHOICE). -/
def fpTrunc (a : Nat) : Int := sgn 32 (fpToInt false a).val

end Sys2Proof.Machine
end

