-- ==== Sys2Proof/Machine/State.lean ====
section
/-! DEFINITION. The state of the module: the peripheral registers as one sparse store of fields, the
byte-addressed memory, the scalar cores, and every piece of state the spec gives a block beyond its
registers; the state after reset; faults and refusals. -/

namespace Sys2Proof.Machine
open Sys2Proof

/-- The module. -/
structure State where
  /-- peripheral register fields that differ from their reset value, and those of factory data once loaded
  (R17), by `Fld.key` -/
  regs : List (Nat × Nat)
  /-- bytes of the address space that differ from `memUnlisted`, by address -/
  mem : List Host.Cell
  /-- commands waiting, first in first out -/
  pending : List Instr
  /-- the model's own counter of free values drawn (log entry 3: DESIGN CHOICE) -/
  free : Nat
  /-- the model's own clock in µs, advanced by the control tick (log entry 5: DESIGN CHOICE) -/
  nowUs : Nat
  /-- data returned by the last register read command -/
  rdata : Word
  r0 : CoreSt
  r1 : CoreSt
  grm : CoreSt
  dma : List (Nat × List DmaJob)
  evt : EvtSt
  pad : PadSt
  power : PowerSt
  thermal : ThermalSt
  nvm : NvmSt
  fio : FioSt
  crb : CurbSt
  prt : PrtSt
  /-- cell-tap units changed since reset, by place in the ring -/
  units : List (Nat × UnitSt)
  /-- the Herd -/
  herd : HerdSt
  /-- the chain engine -/
  chn : ChnSt
  /-- cell monitoring and balancing -/
  cel : CelSt
  /-- state of charge and learning -/
  est : EstSt
  /-- high-voltage measurement -/
  hvm : HvmSt
  /-- the gait generator -/
  ggn : GgnSt
  /-- the CAN controllers -/
  can : CanSt
  /-- the Ethernet switch and P0 -/
  eth : EthSt
  /-- the time unit -/
  ptp : PtpSt
  /-- the update block -/
  upd : UpdSt
  /-- power and reset -/
  sys : SysSt
  /-- the tandem block -/
  tdm : TdmSt
  deriving DecidableEq, Repr

/-- What an unlisted byte of memory reads as: erased flash 0xFF, everything else 0 (log entry 1: DESIGN CHOICE). -/
def memUnlisted (a : Nat) : BitVec 8 := if 0x50000000 ≤ a ∧ a < 0x52000000 then 0xFF else 0

/-- No command ends the module model in a fault: refused accesses, traps and lane faults are states. -/
inductive Fault where
  /-- raised by nothing: the spec gives every command a next state -/
  | none
  deriving DecidableEq, Repr

/-- Reasons a command is rejected. -/
inductive Refusal where
  /-- the command has no meaning yet -/
  | notModelled (mnemonic : String)
  deriving DecidableEq, Repr

/-- The module right after reset: every register at its table value, nothing in memory, no command
waiting (log entry 10: DESIGN CHOICE). -/
def State.reset : State :=
  { regs := [], mem := [], pending := [], free := 0, nowUs := 0, rdata := 0
    r0 := CoreSt.reset, r1 := CoreSt.reset, grm := CoreSt.reset, dma := []
    evt := { inService := [], held := [] }
    pad := { requests := [], grants := [], lockSince := [], lockRaised := 0 }
    power := { trans := none, wakeLatched := 0, lameCauses := 0, removing := false, gated := 0 }
    thermal := { devOut := [], devIn := [], devFault := 0, rangeFault := 0, unknown := false
                 restore := false, hvWarm := 0, graceAt := 0, rate := 0, frac := 0 }
    nvm := { queue := [], running := none, cap := none, wasFull := false, testDue := true
             testRun := false, countersAt := 0, damage := false, clearing := none, circ := 16383
             written := 0, lim := [], groomFault := none }
    fio := FioSt.reset, crb := CurbSt.reset, prt := PrtSt.reset
    units := []
    herd := { jobs := [], v := [], p := [] }
    chn := ChnSt.reset
    cel := CelSt.reset
    est := EstSt.reset
    hvm := HvmSt.reset
    ggn := GgnSt.reset
    can := CanSt.reset
    eth := EthSt.reset
    ptp := PtpSt.reset
    upd := UpdSt.reset
    sys := SysSt.reset
    tdm := TdmSt.reset }

end Sys2Proof.Machine
end

