-- ==== Sys2Proof/Machine/Ops.lean ====
section
/-! DEFINITION. The shared operations of the module: register fields (R12, R16), memory bytes (R9,
R28), the address map and the refusals of accesses (R29-R33), event assertion (R34-R40), the scalar
cores' registers. -/

namespace Sys2Proof.Machine
open Sys2Proof Sys2Proof.Reg

/-! ### Updates of one part of the state -/

/-- `s` with `evt` changed by `g`. -/
def State.mapEvt (s : State) (g : EvtSt → EvtSt) : State := { s with evt := g s.evt }

/-- `s` with `pad` changed by `g`. -/
def State.mapPad (s : State) (g : PadSt → PadSt) : State := { s with pad := g s.pad }

/-- `s` with `power` changed by `g`. -/
def State.mapPower (s : State) (g : PowerSt → PowerSt) : State := { s with power := g s.power }

/-- `s` with `thermal` changed by `g`. -/
def State.mapThermal (s : State) (g : ThermalSt → ThermalSt) : State := { s with thermal := g s.thermal }

/-- `s` with `nvm` changed by `g`. -/
def State.mapNvm (s : State) (g : NvmSt → NvmSt) : State := { s with nvm := g s.nvm }

/-- `s` with `fio` changed by `g`. -/
def State.mapFio (s : State) (g : FioSt → FioSt) : State := { s with fio := g s.fio }

/-- `s` with `crb` changed by `g`. -/
def State.mapCrb (s : State) (g : CurbSt → CurbSt) : State := { s with crb := g s.crb }

/-- `s` with `prt` changed by `g`. -/
def State.mapPrt (s : State) (g : PrtSt → PrtSt) : State := { s with prt := g s.prt }

/-- `s` with `herd` changed by `g`. -/
def State.mapHerd (s : State) (g : HerdSt → HerdSt) : State := { s with herd := g s.herd }

/-- `s` with `chn` changed by `g`. -/
def State.mapChn (s : State) (g : ChnSt → ChnSt) : State := { s with chn := g s.chn }

/-- `s` with `cel` changed by `g`. -/
def State.mapCel (s : State) (g : CelSt → CelSt) : State := { s with cel := g s.cel }

/-- `s` with `est` changed by `g`. -/
def State.mapEst (s : State) (g : EstSt → EstSt) : State := { s with est := g s.est }

/-- `s` with `hvm` changed by `g`. -/
def State.mapHvm (s : State) (g : HvmSt → HvmSt) : State := { s with hvm := g s.hvm }

/-- `s` with `ggn` changed by `g`. -/
def State.mapGgn (s : State) (g : GgnSt → GgnSt) : State := { s with ggn := g s.ggn }

/-- `s` with `can` changed by `g`. -/
def State.mapCan (s : State) (g : CanSt → CanSt) : State := { s with can := g s.can }

/-- `s` with `eth` changed by `g`. -/
def State.mapEth (s : State) (g : EthSt → EthSt) : State := { s with eth := g s.eth }

/-- `s` with `ptp` changed by `g`. -/
def State.mapPtp (s : State) (g : PtpSt → PtpSt) : State := { s with ptp := g s.ptp }

/-- `s` with `upd` changed by `g`. -/
def State.mapUpd (s : State) (g : UpdSt → UpdSt) : State := { s with upd := g s.upd }

/-- `s` with `sys` changed by `g`. -/
def State.mapSys (s : State) (g : SysSt → SysSt) : State := { s with sys := g s.sys }

/-- `s` with `tdm` changed by `g`. -/
def State.mapTdm (s : State) (g : TdmSt → TdmSt) : State := { s with tdm := g s.tdm }

/-! ### Register fields -/

/-- The value of a register field. -/
def State.get (s : State) (f : Fld) : Nat := mapGet f.reset s.regs f.key

/-- A register at `a` holds factory data after reset (reset "F", R17). -/
def factoryAt (a : Nat) : Bool :=
  [0x60000000, 0x60000004, 0x60000008, 0x60040060, 0x600E0010, 0x600E0014, 0x60100008, 0x60110018, 0x60130008,
  0x60130018,
    0x60130020, 0x60130030, 0x60130034].contains a || decide (0x60130060 ≤ a ∧ a < 0x60130080)
    || decide (0x60140080 ≤ a ∧ a < 0x601400C0)

/-- The fields whose reset value is factory data (reset "F", R17). -/
def factoryFlds : List Fld :=
  [SYS_ID.REV, SYS_ID.VARIANT, SYS_UID0.UID, SYS_UID1.UID, HVM_CALID.CRC_OK, HVM_CALID.VERSION, ETH_MACLO.MAC,
    ETH_MACHI.MAC, TDM_STAT.SEAT, NVM_RSVTST.ESR, NVM_RSVTST.CAP, UPD_STAT.FALLBACK, UPD_STAT.RUNSLOT,
    UPD_STAT.TRIAL, UPD_STAT.SESS, UPD_RECV.FIRSTMISS, UPD_RECV.HELD, UPD_TRSTAT.TRIALS, UPD_SLOTA.STATE,
    UPD_SLOTB.STATE]
    ++ (List.range 8).map UPD_RUNID.WORD ++ (List.range 16).map THM_COST.COST

/-- `s` with field `f` holding the low bits of `v`. A register of factory data lists every field once written, so
that no comparison with that data decides how the state is held. -/
def State.set (s : State) (f : Fld) (v : Nat) : State :=
  { s with regs := if factoryAt f.addr then mapPut s.regs f.key (v % 2 ^ f.width)
                   else mapSet f.reset s.regs f.key (v % 2 ^ f.width) }

/-- Factory data reaches the fields that hold none yet: at boot, and on the wake of a block (R17; log entry 2:
DESIGN CHOICE). -/
def State.loadFactory (s : State) : State :=
  factoryFlds.foldl (fun (s : State) f =>
    if s.regs.any (fun e => decide (e.1 = f.key)) then s else s.set f (Config.factory f.addr f.lsb)) s

/-- A one-bit field as a truth value. -/
def State.flag (s : State) (f : Fld) : Bool := decide (s.get f ≠ 0)

/-- `s` with a one-bit field made `b`. -/
def State.put (s : State) (f : Fld) (b : Bool) : State := s.set f (b2n b)

/-- `s` with bit `b` of field `f` set. -/
def State.setBitOf (s : State) (f : Fld) (b : Nat) : State := s.set f (setBit (s.get f) b)

/-- `s` with bit `b` of field `f` cleared. -/
def State.clrBitOf (s : State) (f : Fld) (b : Nat) : State := s.set f (clrBit (s.get f) b)

/-- Bit `b` of field `f`. -/
def State.bitOf (s : State) (f : Fld) (b : Nat) : Bool := bit (s.get f) b

/-- The field as a two's complement number over its width. -/
def State.geti (s : State) (f : Fld) : Int := sgn f.width (s.get f)

/-- `s` with `f` holding the two's complement code of `i`. -/
def State.seti (s : State) (f : Fld) (i : Int) : State := s.set f (enc f.width i)

/-- `s` with counter field `f` increased by `k`, saturating at its largest value. -/
def State.bump (s : State) (f : Fld) (k : Nat) : State :=
  s.set f (satAdd (2 ^ f.width - 1) (s.get f) k)

/-- `s` changed by `g` where `c` holds. -/
def State.when (s : State) (c : Bool) (g : State → State) : State := if c then g s else s

/-- TDM_STAT.STATE (Table TDM-2). -/
def Pair.off : Nat := 0
def Pair.hello : Nat := 1
def Pair.alone : Nat := 2
def Pair.feed : Nat := 3
def Pair.load : Nat := 4
def Pair.active : Nat := 5
def Pair.standby : Nat := 6

/-- The active seat records what the bundle of the next boundary carries (R397, Table TDM-4). -/
def State.note (s : State) (g : Bundle → Bundle) : State :=
  s.when (decide (s.get TDM_STAT.STATE = Pair.active)) fun s => s.mapTdm fun x => { x with next := g x.next }

/-- `s` with every field of `fs` at its reset value (R16). -/
def State.resetFields (s : State) (fs : List Fld) : State :=
  match fs with
  | [] => s
  | f :: rest => State.resetFields { s with regs := mapErase s.regs f.key } rest

/-- `s` with every register at an address in `lo` to `hi - 1` at its reset value (R16). -/
def State.resetRange (s : State) (lo hi : Nat) : State :=
  { s with regs := s.regs.filter fun e => !(decide (lo * 32 ≤ e.1) && decide (e.1 < hi * 32)) }

/-- The module runs in tandem mode while TDM_CTRL.EN is 1 (section "Pair states" of Tandem pair). -/
def State.tandem (s : State) : Bool := s.flag TDM_CTRL.EN

/-- The PLLs as PLL_UNLOCK numbers them: core, peripheral, Ethernet, tandem, auxiliary, HV section (Table ARC-3). -/
def Pll.core : Nat := 0
def Pll.eth : Nat := 2
def Pll.aux : Nat := 4
def Pll.hv : Nat := 5

/-- The domains that PLL `p` feeds are gated: it has lost lock and not relocked (R24). -/
def State.pllGated (s : State) (p : Nat) : Bool := bit s.power.gated p

/-! ### Event controller (R34-R40) -/

/-- The pending bit of source `n`. -/
def State.evtPending (s : State) (n : Nat) : Bool := s.bitOf (EVT_PEND.BITS (n / 32)) (n % 32)

/-- A source enters EVT_PEND, and EVT_OVR when it was already pending (R35). -/
def State.latchEvt (s : State) (n : Nat) : State :=
  if s.evtPending n then s.setBitOf (EVT_OVR.BITS (n / 32)) (n % 32)
  else s.setBitOf (EVT_PEND.BITS (n / 32)) (n % 32)

/-- Assertion through the source's enable and route: latched at once, or held for the tick boundary
where the module runs in tandem mode (R35, R40) (log entry 18: DEDUCED). -/
def State.softEvt (s : State) (n : Nat) : State :=
  if s.get (EVT_CFG.EN n) = 0 then s
  else if s.tandem ∧
      (s.get (EVT_CFG.ROUTE n) = 1 ∨ s.get (EVT_CFG.ROUTE n) = 2) then
    { s with evt := { s.evt with held := s.evt.held ++ [n] } }
  else s.latchEvt n

/-- Source `n`, which is no designated source, asserts (R35, R40). -/
def State.raise (s : State) (n : Nat) : State := s.softEvt n

/-! ### Bytes of memory (R9, R28) -/

/-- The byte at `a` (log entry 1: DESIGN CHOICE). -/
def State.byte (s : State) (a : Nat) : BitVec 8 := mapGet (memUnlisted a) s.mem a

/-- `s` with byte `a` holding `b` (log entry 1: DESIGN CHOICE). -/
def State.setByte (s : State) (a : Nat) (b : BitVec 8) : State :=
  { s with mem := mapSet (memUnlisted a) s.mem a b }

/-- The `n` bytes from `a`, little-endian, as a number. -/
def State.load (s : State) (n a : Nat) : Nat :=
  match n with
  | 0 => 0
  | k + 1 => (s.byte a).toNat + 256 * s.load k (a + 1)

/-- `s` with the low `n` bytes of `v` stored from `a`, little-endian. -/
def State.store (s : State) (n a v : Nat) : State :=
  match n with
  | 0 => s
  | k + 1 => State.store (s.setByte a (BitVec.ofNat 8 v)) k (a + 1) (v / 256)

/-- The 32-bit word at `a`. -/
def State.word (s : State) (a : Nat) : Nat := s.load 4 a

/-- `s` with the 32-bit word `v` at `a`. -/
def State.setWord (s : State) (a v : Nat) : State := s.store 4 a v

/-- `s` with the bytes `bs` from `a` on. -/
def State.setBytes (s : State) (a : Nat) (bs : List Nat) : State :=
  match bs with
  | [] => s
  | b :: rest => State.setBytes (s.setByte a (BitVec.ofNat 8 b)) (a + 1) rest

/-- `n` bytes from `a` on. -/
def State.getBytes (s : State) (a n : Nat) : List Nat :=
  (List.range n).map fun i => (s.byte (a + i)).toNat

/-- `s` with every byte at `lo` to `hi - 1` as an unlisted byte reads: contents lost. -/
def State.loseMem (s : State) (lo hi : Nat) : State :=
  { s with mem := s.mem.filter fun e => !(decide (lo ≤ e.1) && decide (e.1 < hi)) }

/-- `n` as `k` little-endian bytes. -/
def leBytes (k n : Nat) : List Nat :=
  match k with
  | 0 => []
  | j + 1 => n % 256 :: leBytes j (n / 256)

/-- A little-endian byte list as a number. -/
def ofLe (bs : List Nat) : Nat :=
  match bs with
  | [] => 0
  | b :: rest => b % 256 + 256 * ofLe rest

/-! ### CRC -/

/-- One bit of the reflected CRC with polynomial `poly`. -/
def crcBit (poly c : Nat) : Nat := if c % 2 = 1 then (c / 2) ^^^ poly else c / 2

/-- One byte of the reflected CRC. -/
def crcByte (poly c b : Nat) : Nat :=
  let c := c ^^^ (b % 256)
  crcBit poly (crcBit poly (crcBit poly (crcBit poly
    (crcBit poly (crcBit poly (crcBit poly (crcBit poly c)))))))

/-- CRC-32C (Castagnoli, reflected, initial value and final XOR all ones). -/
def crc32c (bs : List Nat) : Nat :=
  (bs.foldl (crcByte 0x82F63B78) 0xFFFFFFFF) ^^^ 0xFFFFFFFF

/-- One byte of the CRC-16 with polynomial 0x1021, most significant bit first (R174). -/
def crc16Byte (c b : Nat) : Nat :=
  (List.range 8).foldl (fun c _ => (if 0x8000 ≤ c then (2 * c) ^^^ 0x1021 else 2 * c) % 0x10000)
    (c ^^^ (b % 256 * 256))

/-- CRC-16 of the chain: initial value 0xFFFF, no reflection, no final XOR (R174). -/
def crc16 (bs : List Nat) : Nat := bs.foldl crc16Byte 0xFFFF

/-- The bytes of a frame that its CRC covers: TAG up to the last payload byte (R174, Table CHN-4). -/
def coveredBytes (f : Frame) (len : Nat) : List Nat := [f.tag, f.addr, f.cmd, len] ++ f.payload

/-- A frame as its sender puts it on the line. -/
def wireOf (f : Frame) : Wire := ⟨f, f.payload.length, crc16 (coveredBytes f f.payload.length), false⟩

/-- What the receiver makes of a frame (R174): a code error or ABORT, then a LEN above 64 or not that of the payload, or
a wrong CRC. -/
def wireRx (w : Wire) : Rx :=
  if w.broken then .code
  else if 64 < w.len ∨ w.len ≠ w.f.payload.length ∨ w.crc ≠ crc16 (coveredBytes w.f w.len) then .crc else .good

/-! ### The address map (R28-R33) -/

/-- The regions of Table ARC-10. -/
inductive Region where
  | bootRom | r0Itcm | r0Dtcm | r1Itcm | r1Dtcm | groomMem | sram | laneMem | teamMem | herdMem
  | mram | flash | periph | mirror | unmapped
  deriving DecidableEq, Repr

/-- The region of an address (Table ARC-10, R32). -/
def region (a : Nat) : Region :=
  if a < 0x00020000 then .bootRom
  else if 0x10000000 ≤ a ∧ a < 0x10040000 then .r0Itcm
  else if 0x10040000 ≤ a ∧ a < 0x10080000 then .r0Dtcm
  else if 0x11000000 ≤ a ∧ a < 0x11040000 then .r1Itcm
  else if 0x11040000 ≤ a ∧ a < 0x11080000 then .r1Dtcm
  else if 0x12000000 ≤ a ∧ a < 0x12010000 then .groomMem
  else if 0x20000000 ≤ a ∧ a < 0x20400000 then .sram
  else if 0x30000000 ≤ a ∧ a < 0x30200000 then .laneMem
  else if 0x30200000 ≤ a ∧ a < 0x30300000 then .teamMem
  else if 0x30300000 ≤ a ∧ a < 0x30380000 then .herdMem
  else if 0x40000000 ≤ a ∧ a < 0x41000000 then .mram
  else if 0x50000000 ≤ a ∧ a < 0x52000000 then .flash
  else if 0x60000000 ≤ a ∧ a < 0x60160000 then .periph
  else if 0x70000000 ≤ a ∧ a < 0x71000000 then .mirror
  else .unmapped

/-- The masters, coded as SYS_ERRSRC.MASTER. -/
inductive Master where
  | r0 | r1 | grm | dma | chain | herd
  deriving DecidableEq, Repr

/-- The SYS_ERRSRC.MASTER code. -/
def Master.code (m : Master) : Nat :=
  match m with
  | .r0 => 0 | .r1 => 1 | .grm => 2 | .dma => 3 | .chain => 4 | .herd => 5

/-- A core as a master. -/
def coreMaster (c : Core) : Master :=
  match c with
  | .r0 => .r0 | .r1 => .r1 | .grm => .grm

/-- Does Table ARC-10 name the master for the region? -/
def named (m : Master) (r : Region) : Bool :=
  match r with
  | .bootRom => decide (m = .r0 ∨ m = .r1 ∨ m = .grm)
  | .r0Itcm => decide (m = .r0)
  | .r0Dtcm => decide (m = .r0 ∨ m = .dma)
  | .r1Itcm => decide (m = .r1)
  | .r1Dtcm => decide (m = .r1 ∨ m = .dma)
  | .groomMem => decide (m = .grm ∨ m = .r0 ∨ m = .r1 ∨ m = .dma)
  | .sram => true
  | .laneMem => decide (m = .r0 ∨ m = .r1 ∨ m = .dma ∨ m = .chain)
  | .teamMem => decide (m = .r0 ∨ m = .r1 ∨ m = .dma ∨ m = .herd)
  | .herdMem => decide (m = .r0 ∨ m = .r1 ∨ m = .dma ∨ m = .herd)
  | .mram => true
  | .flash => true
  | .periph => decide (m = .r0 ∨ m = .r1 ∨ m = .grm ∨ m = .dma)
  | .mirror => decide (m = .r0 ∨ m = .r1 ∨ m = .dma)
  | .unmapped => false

/-- The gaits, coded as PWR_GAIT.GAIT. -/
def Gait.stable : Nat := 0
def Gait.paddock : Nat := 1
def Gait.walk : Nat := 2
def Gait.trot : Nat := 3
def Gait.canter : Nat := 4
def Gait.gallop : Nat := 5
def Gait.lame : Nat := 6
def Gait.halt : Nat := 7

/-- The present gait. -/
def State.gait (s : State) : Nat := s.get PWR_GAIT.GAIT

/-- A block the Groom reaches in Paddock: SYS, PWR, EVT, CNA, TDM, THM, PAD (R33). -/
def paddockBlock (a : Nat) : Bool := [0x6000, 0x6001, 0x6002, 0x600C, 0x6010, 0x6014, 0x6015].contains (a / 0x10000)

/-- The team whose lane or team memory holds `a`. -/
def teamOf (a : Nat) : Nat :=
  if a < 0x30200000 then (a - 0x30000000) / 0x10000 else (a - 0x30200000) / 0x8000

/-- The Herd memory regions, closed to cores and DMA while the Herd is unpowered (R116). -/
def herdRegion (r : Region) : Bool :=
  match r with
  | .laneMem => true | .teamMem => true | .herdMem => true
  | _ => false

/-- An address of lane memory lies in the lane's input area, the only part that the chain engine writes (R117, R118,
Table ARC-10). -/
def inputArea (a : Nat) : Bool := decide (a % 0x1000 < 0x20)

/-- Kinds of access. -/
inductive Access where
  | load | store | fetch
  deriving DecidableEq, Repr

/-- SYS_ERRSRC.KIND of the refusal of an access of `n` bytes at `a`, none where it is served; the
first of the list in the section on SYS_ERRSRC that applies (R11, R29, R30, R32, R33, R116, R117) (log entry 19: DEDUCED).
-/
def State.refusal (s : State) (m : Master) (app : Bool) (k : Access) (n a : Nat) : Option Nat :=
  let r := region a
  if r = .periph ∧ (n ≠ 4 ∨ a % 4 ≠ 0) then some 4
  else if r = .unmapped ∨ (r = .periph ∧ s.gait = Gait.paddock ∧ paddockBlock a = false) ∨
      (herdRegion r ∧ m ≠ .herd ∧ s.flag HRD_STAT.POWERED = false) then some 0
  else if (r = .bootRom ∧ app) ∨ named m r = false ∨ (r = .laneMem ∧ m = .chain ∧ inputArea a = false) then some 2
  else if k = .store ∧ (r = .bootRom ∨ r = .flash ∨ r = .mram ∨ r = .mirror) then some 1
  else if k = .store ∧ (r = .laneMem ∨ r = .teamMem) ∧ m ≠ .chain ∧ m ≠ .herd ∧
      s.bitOf HRD_TEAMBUSY.TEAMS (teamOf a) then some 3
  else none

/-- A refused access is recorded in SYS_ERRADDR and SYS_ERRSRC (R29) (log entry 19: DEDUCED). -/
def State.recordRefusal (s : State) (m : Master) (k : Access) (kind a : Nat) : State :=
  (((s.set SYS_ERRADDR.ADDR a).set SYS_ERRSRC.MASTER m.code).put SYS_ERRSRC.WRITE
    (decide (k = .store))).set SYS_ERRSRC.KIND kind

/-! ### Scalar cores -/

/-- The state of a core. -/
def State.core (s : State) (c : Core) : CoreSt :=
  match c with
  | .r0 => s.r0 | .r1 => s.r1 | .grm => s.grm

/-- `s` with the state of core `c` replaced. -/
def State.setCore (s : State) (c : Core) (x : CoreSt) : State :=
  match c with
  | .r0 => { s with r0 := x } | .r1 => { s with r1 := x } | .grm => { s with grm := x }

/-- The code of a core in CORE, PAD_LOCKERR.CORE: 0, 1, 2. -/
def coreCode (c : Core) : Nat :=
  match c with
  | .r0 => 0 | .r1 => 1 | .grm => 2

/-- A general register; g0 reads as 0 (R80). -/
def State.g (s : State) (c : Core) (r : Reg) : Word :=
  if r = 0 then 0 else mapGet 0 (s.core c).g r.toNat

/-- `s` with a general register written; a write to g0 is discarded (R80). -/
def State.setG (s : State) (c : Core) (r : Reg) (v : Word) : State :=
  if r = 0 then s else s.setCore c { s.core c with g := mapSet 0 (s.core c).g r.toNat v }

/-- Reset values of the control registers (Table GCS-10). -/
def crReset (n : Nat) : Word := if n = 0 then 0x100 else 0

/-- A control register as it is held. -/
def State.cr (s : State) (c : Core) (n : Nat) : Word := mapGet (crReset n) (s.core c).cr n

/-- `s` with a control register written. -/
def State.setCr (s : State) (c : Core) (n : Nat) (v : Word) : State :=
  s.setCore c { s.core c with cr := mapSet (crReset n) (s.core c).cr n v }

/-- Numbers of the control registers the hardware itself uses (Table GCS-10). -/
def Cr.status : Nat := 0x000
def Cr.epc : Nat := 0x001
def Cr.estatus : Nat := 0x002
def Cr.ecause : Nat := 0x003
def Cr.eval : Nat := 0x004
def Cr.vbase : Nat := 0x005
def Cr.ecccnt : Nat := 0x006
def Cr.fpctl : Nat := 0x008
def Cr.crbase : Nat := 0x010
def Cr.crwp : Nat := 0x011
def Cr.crrp : Nat := 0x012
def Cr.crstat : Nat := 0x013
def Cr.tick : Nat := 0x01A

/-- A STATUS bit of a core (Table GCS-3). -/
def State.statusBit (s : State) (c : Core) (b : Nat) : Bool := (s.cr c Cr.status).getLsbD b

/-- App privilege: STATUS.PRIV is 0. -/
def State.isApp (s : State) (c : Core) : Bool := !(s.statusBit c 8)

/-- The program counter of a core. -/
def State.pc (s : State) (c : Core) : Word := (s.core c).pc

/-- `s` with the program counter of `c` at `a`. -/
def State.setPc (s : State) (c : Core) (a : Word) : State := s.setCore c { s.core c with pc := a }

/-- `s` with core `c` past its instruction. -/
def State.advance (s : State) (c : Core) : State := s.setPc c (s.pc c + 4)

/-- `s` with core `c` doing `r`. -/
def State.setRun (s : State) (c : Core) (r : CoreRun) : State :=
  s.setCore c { s.core c with run := r }

/-- The curb logic holds the bleed channel of a cell: by cause CMP_UV, by HALT, or by a grant of the arbiter (R45,
R296). -/
def State.curbHolds (s : State) (cell : Nat) : Bool :=
  s.crb.allBleeds || s.crb.uvCells.contains cell
    || s.pad.grants.any fun g => decide (g.cls = 3 ∧ g.unit = cell ∧ g.req = 1)

/-- A free value of `w` bits, and the state that has drawn it (log entry 3: DESIGN CHOICE). -/
def State.draw (s : State) (w : Nat) : Nat × State :=
  (Config.freeValue s.free % 2 ^ w, { s with free := s.free + 1 })

end Sys2Proof.Machine
end

