-- ==== Sys2Proof/Machine/Async.lean ====
section
/-! DEFINITION. Completion tags, issue results, completion words and the completion ring (R101-R107,
R109). -/

namespace Sys2Proof.Machine
open Sys2Proof Sys2Proof.Reg

/-- Tags of a core: 256 on a Rider, 32 on the Groom (R101). -/
def coreTags (c : Core) : Nat :=
  match c with
  | .r0 => 256 | .r1 => 256 | .grm => 32

/-- The state of a tag (R101). -/
def State.tag (s : State) (c : Core) (t : Nat) : TagSt := mapGet .free (s.core c).tags t

/-- `s` with a tag's state replaced. -/
def State.setTag (s : State) (c : Core) (t : Nat) (x : TagSt) : State :=
  s.setCore c { s.core c with tags := mapSet .free (s.core c).tags t x }

/-- Is the tag FREE? -/
def TagSt.isFree (t : TagSt) : Bool :=
  match t with
  | .free => true
  | _ => false

/-- The class of an operation in flight under the tag. -/
def TagSt.inFlight (t : TagSt) : Option Nat :=
  match t with
  | .issued c => some c
  | _ => none

/-- The lowest-numbered FREE tag of a core (R101). -/
def State.freeTag (s : State) (c : Core) : Option Nat :=
  (List.range (coreTags c)).find? fun t => (s.tag c t).isFree

/-- TAGFREE: the number of FREE tags (Table GCS-10). -/
def State.tagFree (s : State) (c : Core) : Nat :=
  ((List.range (coreTags c)).filter fun t => (s.tag c t).isFree).length

/-- Operations of class `cls` in flight on all cores (Table GCS-14). -/
def State.inFlight (s : State) (cls : Nat) : Nat :=
  let n (x : CoreSt) := (x.tags.filter fun e => decide (e.2.inFlight = some cls)).length
  n s.r0 + n s.r1 + n s.grm

/-- The issue result of a refusal (Table GCS-15). -/
def refuseWord (k : Nat) : Word := BitVec.ofNat 32 (k * 512)

/-- The issue result that names the tag taken (Table GCS-15). -/
def issueWord (t : Nat) : Word := BitVec.ofNat 32 (256 + t)

/-- The completion word (Table GCS-16). -/
def completionWord (info status cls tag : Nat) : Nat :=
  2 ^ 31 + (info % 2 ^ 15) * 2 ^ 16 + (status % 16) * 4096 + (cls % 16) * 256 + tag % 256

/-- Entries of the completion ring of a core. -/
def ringSize (c : Core) : Nat := coreTags c

/-- The region a core's completion ring must lie in (R104). -/
def ringRegion (c : Core) : Region :=
  match c with
  | .grm => .groomMem
  | _ => .sram

/-- CRSTAT bits (Table GCS-12). -/
def Crstat.ringOvf : Nat := 0
def Crstat.badRel : Nat := 1
def Crstat.gate : Nat := 2
def Crstat.ringBad : Nat := 3

/-- `s` with a CRSTAT bit of the core set. -/
def State.setCrstat (s : State) (c : Core) (b : Nat) : State :=
  s.setCr c Cr.crstat (s.cr c Cr.crstat ||| BitVec.ofNat 32 (2 ^ b))

/-- A completion is released: ring entry at CRWP, CRWP advanced, tag DONE; a full ring drops the entry, a ring
outside its region is not written and SYS_ERRADDR and SYS_ERRSRC record the store; KIND is a free value where a store
there would be served (R104; log entry 115: DESIGN CHOICE). -/
def State.release (s : State) (c : Core) (t : Nat) (word val : Nat) : State :=
  let n := ringSize c
  let wp := (s.cr c Cr.crwp).toNat
  let rp := (s.cr c Cr.crrp).toNat
  let s := s.setTag c t (.done word val)
  if (wp + 2 * n - rp) % (2 * n) = n then s.setCrstat c Crstat.ringOvf
  else
    let a := (s.cr c Cr.crbase).toNat + 8 * (wp % n)
    let s1 := s.setCr c Cr.crwp (BitVec.ofNat 32 ((wp + 1) % (2 * n)))
    if region a = ringRegion c ∧ region (a + 7) = ringRegion c then
      let s2 := (s1.setWord a word).setWord (a + 4) val
      s2.setCore c { s2.core c with wakeSeen := true }
    else
      let s2 := s1.setCrstat c Crstat.ringBad
      match s.refusal (coreMaster c) false .store 4 a with
      | some k => s2.recordRefusal (coreMaster c) .store k a
      | none => (s2.draw 4).2.recordRefusal (coreMaster c) .store (s2.draw 4).1 a

/-- An operation ends: its completion is released, or held for the tick boundary while the gate holds
a Rider's completions (R104, R109). A tag that is not ISSUED takes no completion (R107) (log entry 17: DESIGN
CHOICE). -/
def State.complete (s : State) (c : Core) (t info status val : Nat) : State :=
  match s.tag c t with
  | .issued cls =>
    let w := completionWord info status cls t
    if s.tandem ∧ c ≠ .grm then s.setTag c t (.held w val) else s.release c t w val
  | _ => s

/-- The held completions of a core enter its ring in ascending tag order (R109). -/
def State.releaseHeld (s : State) (c : Core) : State :=
  (List.range (coreTags c)).foldl (fun (s : State) t =>
    match s.tag c t with
    | .held w v => (s.release c t w v).note fun b => { b with rel := b.rel ++ [(c, t, w, v)] }
    | _ => s) s

/-- A core's tag space and ring indexes return to their reset values (R107). -/
def State.resetTags (s : State) (c : Core) : State :=
  let s := s.setCore c { s.core c with tags := [] }
  ((s.setCr c Cr.crwp 0).setCr c Cr.crrp 0)

/-- The completion word that pollt and waitt give for a tag number (R105). -/
def State.pollWord (s : State) (c : Core) (t : Nat) : Word :=
  if (coreTags c) ≤ t then BitVec.ofNat 32 (0xE * 4096 + t % 256)
  else
    match s.tag c t with
    | .free => BitVec.ofNat 32 (0xE * 4096 + t % 256)
    | .issued cls => BitVec.ofNat 32 (0xF * 4096 + (cls % 16) * 256 + t % 256)
    | .held w _ => BitVec.ofNat 32 (0xF * 4096 + (w / 256 % 16) * 256 + t % 256)
    | .done w _ => BitVec.ofNat 32 w

end Sys2Proof.Machine
end

