-- ==== Sys2Proof/Machine/NvmOps.lean ====
section
/-! DEFINITION. The MRAM commit engine and the event recorder as operations: queueing, the rate
limiter, placement, frames and the hardware's own records (R417-R437). -/

namespace Sys2Proof.Machine
open Sys2Proof Sys2Proof.Reg

/-- Usable energy in µJ a commit needs: three times its class requirement (Table NVM-4, R422). -/
def CommitKind.needs (k : CommitKind) : Nat :=
  match k with
  | .ledger => 6000
  | .settings => 15000
  | .seal => 15000
  | .boot => 15000
  | _ => 600

/-- The class of a commit as R423 compares it: 0 ledger, 1 log, 2 settings. -/
def CommitKind.cls (k : CommitKind) : Nat :=
  match k with
  | .ledger => 0
  | .settings => 2
  | .seal => 2
  | .boot => 2
  | _ => 1

/-- A commit of the hardware with nothing set. -/
def Commit.blank (k : CommitKind) : Commit :=
  { kind := k, index := 0, src := 0, len := 0, code := 0, sev := 0, owner := none, data := []
    optime := 0, pwrcyc := 0, flags := 0, tlo := 0, slot := 0, seq := 0, deferred := none }

/-- Device time in ns (R10, R374): PTP_TIMEHI and PTP_TIMELO hold its two halves. -/
def State.devTime (s : State) : Nat := s.get PTP_TIMEHI.NS * 2 ^ 32 + s.get PTP_TIMELO.NS

/-- Header fields of a record, taken when it is issued or detected (R430). -/
def State.stampRecord (s : State) (hw : Bool) (c : Commit) : Commit :=
  { c with optime := s.get NVM_OPTIME.SEC, pwrcyc := s.get NVM_PWRCYC.COUNT
           flags := s.get PTP_STAT.TVALID + (if hw then 2 else 0) + (if c.code = 1 then 4 else 0)
           tlo := s.devTime % 2 ^ 32 }

/-- A commit joins the queue (R423). -/
def State.enqueue (s : State) (c : Commit) : State :=
  { s with nvm := { s.nvm with queue := s.nvm.queue ++ [c] } }

/-! ### Rate limiter (R432) -/

/-- A limiter slot that has suppressed nothing. -/
def limBlank : LimSt := { tokAt := 0, age := 0, sev := 0, tloFirst := 0, tloLast := 0, full := 0 }

/-- What limiter slot `k` remembers. -/
def State.lim (s : State) (k : Nat) : LimSt := mapGet limBlank s.nvm.lim k

/-- `s` with limiter slot `k` remembering `x`. -/
def State.setLim (s : State) (k : Nat) (x : LimSt) : State :=
  { s with nvm := { s.nvm with lim := mapSet limBlank s.nvm.lim k x } }

/-- Does slot `k` serve code `c`? -/
def State.limServes (s : State) (k c : Nat) : Bool :=
  if k = 63 then false
  else if s.get (LOG_LIM.AUTO k) = 1 then decide (s.get (LOG_LIMST.BOUND k) = c)
  else decide (s.get (LOG_LIM.CODE k) = c)

/-- LOG_LIMST.BOUND of a slot whose LOG_LIM was written or kept: a fixed slot serves its CODE, an AUTO slot that was
fixed before (`was`) is free (R432, Table LOG-2). -/
def State.limBound (s : State) (k : Nat) (was : Bool) : State :=
  if s.get (LOG_LIM.AUTO k) = 0 then s.set (LOG_LIMST.BOUND k) (s.get (LOG_LIM.CODE k))
  else if was then s.set (LOG_LIMST.BOUND k) 0xFFFF else s

/-- The slot that serves code `c`: bound to it, else a free AUTO slot, else slot 63 (R432). -/
def State.limSlot (s : State) (c : Nat) : Nat :=
  match (List.range 63).find? fun k => s.limServes k c with
  | some k => k
  | none =>
    match (List.range 63).find? fun k =>
        s.get (LOG_LIM.AUTO k) = 1 ∧ s.get (LOG_LIMST.BOUND k) = 0xFFFF with
    | some k => k
    | none => 63

/-- LOG_SUPPRESSED for slot `k`: it bypasses the limiter and empties the slot's count (R432). -/
def State.writeSuppressed (s : State) (k : Nat) : State :=
  let x := s.lim k
  let n := s.get (LOG_LIMST.SUPP k)
  let code := if k = 63 then 0xFFFF
    else if s.get (LOG_LIM.AUTO k) = 1 then s.get (LOG_LIMST.BOUND k) else s.get (LOG_LIM.CODE k)
  let c : Commit := { Commit.blank .log with
    code := 1, sev := x.sev
    data := leBytes 2 code ++ leBytes 2 0 ++ leBytes 4 n ++ leBytes 4 x.tloFirst ++ leBytes 4 x.tloLast
    len := 16 }
  let s1 := s.enqueue (s.stampRecord true c)
  let s2 := (s1.set (LOG_LIMST.SUPP k) 0).bump LOG_SUPCNT.COUNT n
  s2.setLim k { x with age := 0, sev := 0, tloFirst := 0, tloLast := 0 }

/-- Admission of a record: true and the state after it, or false and the state with the record counted
as suppressed (R432). -/
def State.passLimit (s : State) (c : Commit) : Bool × State :=
  if s.get LOG_CFG.LIMSEV ≤ c.sev then (true, s)
  else
    let k := s.limSlot c.code
    let s := if k < 63 ∧ s.get (LOG_LIM.AUTO k) = 1 then s.set (LOG_LIMST.BOUND k) c.code else s
    let t := s.get (LOG_LIMST.TOKENS k)
    if 1 ≤ t then
      let s := s.set (LOG_LIMST.TOKENS k) (t - 1)
      (true, if 0 < s.get (LOG_LIMST.SUPP k) then s.writeSuppressed k else s)
    else
      let n := s.get (LOG_LIMST.SUPP k)
      let s := if n = 0 then (s.put LOG_FLT.SUPPRESS true).raise 246 else s
      let x := s.lim k
      let x' : LimSt :=
        if n = 0 then { x with age := 0, sev := c.sev, tloFirst := c.tlo, tloLast := c.tlo, full := 0 }
        else { x with sev := max x.sev c.sev, tloLast := c.tlo }
      (false, (s.bump (LOG_LIMST.SUPP k) 1).setLim k x')

/-- A record of the hardware (R431): stamped, limited, queued. -/
def State.hwRecord (s : State) (code sev : Nat) (payload : List Nat) : State :=
  let c := s.stampRecord true { Commit.blank .log with
    code := code, sev := sev, data := payload, len := payload.length }
  let r := s.passLimit c
  if r.1 then r.2.enqueue c else r.2

/-! ### Event recorder slots (R430, R433, R434) -/

/-- Address of recorder slot `k`. -/
def slotAddr (k : Nat) : Nat := 0x40100000 + 256 * k

/-- Slot `k` holds a valid record: LEN 6 to 64 and a good CRC (R430, R436). -/
def State.slotValid (s : State) (k : Nat) : Bool :=
  let n := (s.byte (slotAddr k + 3)).toNat
  if 6 ≤ n ∧ n ≤ 64 then
    decide (s.word (slotAddr k + 4 * n - 4) = crc32c (s.getBytes (slotAddr k) (4 * n - 4)))
  else false

/-- SEQ of the record in slot `k`. -/
def State.slotSeq (s : State) (k : Nat) : Nat := s.word (slotAddr k + 4)

/-- Severity of the record in slot `k`. -/
def State.slotSev (s : State) (k : Nat) : Nat := (s.byte (slotAddr k + 2)).toNat

/-- The slot with the lowest SEQ among `ks`. -/
def State.oldest (s : State) (ks : List Nat) : Option Nat :=
  ks.foldl (fun best k =>
    match best with
    | none => some k
    | some b => if s.slotSeq k < s.slotSeq b then some k else some b) none

/-- Slot for an admitted record of severity `sev` in the native layout, and whether it overwrites
(R433). -/
def State.placeNative (s : State) (sev : Nat) : Option (Nat × Bool) :=
  match (List.range 16384).find? fun k => !(s.slotValid k) with
  | some k => some (k, false)
  | none =>
    match s.oldest ((List.range 16384).filter fun k => decide (s.slotSev k ≤ sev)) with
    | some k => some (k, true)
    | none => none

/-- Slot in the legacy layout, and whether it lies in the kept area (R434). -/
def State.placeLegacy (s : State) : Nat × Bool :=
  if s.nvm.written < 256 then (s.nvm.written, true)
  else if s.nvm.circ = 16383 then (256, false) else (s.nvm.circ + 1, false)

/-- The bytes of a record (Table NVM-8). -/
def recordBytes (c : Commit) : List Nat :=
  let n := (c.data.length + 24) / 4
  let body := leBytes 2 c.code ++ [c.sev, n] ++ leBytes 4 c.seq ++ leBytes 4 c.optime
    ++ leBytes 3 c.pwrcyc ++ [c.flags] ++ leBytes 4 c.tlo ++ c.data
  body ++ leBytes 4 (crc32c body)

/-- The log holds `n` valid records (Table LOG-2). -/
def State.logCount (s : State) (n : Nat) : State :=
  (s.set LOG_STAT.COUNT n).put LOG_STAT.FULL (decide (16384 ≤ n))

/-- Placement of an admitted record; one that takes the slot of a valid record counts in LOG_OVWCNT in either layout
(log entry 22: DEDUCED): the commit with its slot and SEQ, or none when it is dropped
(R433, R434). -/
def State.place (s : State) (c : Commit) : Option Commit × State :=
  if s.get LOG_STAT.LAYOUT = 1 then
    let (k, kept) := s.placeLegacy
    let s := if s.slotValid k then s.bump LOG_OVWCNT.COUNT 1 else s.logCount (s.get LOG_STAT.COUNT + 1)
    let nvm := { s.nvm with written := s.nvm.written + 1, circ := if kept then s.nvm.circ else k }
    (some { c with slot := k, seq := s.get LOG_NEXTSEQ.SEQ, flags := c.flags + (if kept then 8 else 0) },
      { s with nvm := nvm }.bump LOG_NEXTSEQ.SEQ 1)
  else
    match s.placeNative c.sev with
    | none => (none, ((s.bump LOG_DROPCNT.COUNT 1).put LOG_FLT.DROP true).raise 245)
    | some (k, ow) =>
      let s := if ow then s.bump LOG_OVWCNT.COUNT 1 else s.logCount (s.get LOG_STAT.COUNT + 1)
      (some { c with slot := k, seq := s.get LOG_NEXTSEQ.SEQ }, s.bump LOG_NEXTSEQ.SEQ 1)

/-! ### Copy frames (R425, R426) -/

/-- Address of copy `c` of ledger block or settings item `i` (Table NVM-1). -/
def frameAddr (settings : Bool) (i c : Nat) : Nat :=
  (if settings then 0x40010000 else 0x40000000) + (2 * i + c) * 0x400

/-- The 16 trailer bytes of a frame (Table NVM-6). -/
def trailer (data : List Nat) (settings : Bool) (id fmt seq : Nat) : List Nat :=
  let t := leBytes 4 seq ++ [id, if settings then 0x53 else 0x4C] ++ leBytes 2 fmt
    ++ leBytes 2 data.length
  t ++ leBytes 2 0 ++ leBytes 4 (crc32c (data ++ t ++ leBytes 2 0))

/-- A whole frame: data, zeros, trailer. -/
def frameBytes (data : List Nat) (settings : Bool) (id fmt seq : Nat) : List Nat :=
  data ++ List.replicate (0x3F0 - data.length) 0 ++ trailer data settings id fmt seq

/-- A copy is valid: CRC passes, KIND and ID match the position, LEN in range (R427). -/
def State.frameValid (s : State) (settings : Bool) (i c : Nat) : Bool :=
  let a := frameAddr settings i c
  let n := s.load 2 (a + 0x3F8)
  let lenOk := if settings then decide (4 ≤ n ∧ n ≤ 1008) else decide (n = 512)
  lenOk && decide ((s.byte (a + 0x3F4)).toNat = i)
    && decide ((s.byte (a + 0x3F5)).toNat = (if settings then 0x53 else 0x4C))
    && decide (s.word (a + 0x3FC) = crc32c (s.getBytes a n ++ s.getBytes (a + 0x3F0) 12))

/-- SEQ of a copy. -/
def State.frameSeq (s : State) (settings : Bool) (i c : Nat) : Nat :=
  s.word (frameAddr settings i c + 0x3F0)

/-- The registers that name the current copies. -/
def validReg (settings : Bool) : Fld := if settings then NVM_SETVALID.BITS else NVM_LEDVALID.BITS
def curReg (settings : Bool) : Fld := if settings then NVM_SETCUR.BITS else NVM_LEDCUR.BITS

/-- The current copy of a block or item, none when it has none (R427). -/
def State.curCopy (s : State) (settings : Bool) (i : Nat) : Option Nat :=
  if s.bitOf (validReg settings) i then some (b2n (s.bitOf (curReg settings) i)) else none

/-- Copy and SEQ that the next commit of a block or item writes (R426); copy 0 first (log entry 21: DESIGN CHOICE). -/
def State.nextCopy (s : State) (settings : Bool) (i : Nat) : Nat × Nat :=
  match s.curCopy settings i with
  | some c => (1 - c, (s.frameSeq settings i c + 1) % 2 ^ 32)
  | none => (0, 1)

/-! ### The counters record (R429) -/

/-- Counters copy `c` is valid. -/
def State.cntValid (s : State) (c : Nat) : Bool :=
  decide (s.word (0x4002000C + 16 * c) = crc32c (s.getBytes (0x40020000 + 16 * c) 12))

/-- Counters copy `c` reads all 0. -/
def State.cntEmpty (s : State) (c : Nat) : Bool :=
  (s.getBytes (0x40020000 + 16 * c) 16).all fun b => decide (b = 0)

/-- The current counters copy: valid with the larger SEQ. -/
def State.cntCur (s : State) : Option Nat :=
  match s.cntValid 0, s.cntValid 1 with
  | true, true => if s.word 0x40020018 > s.word 0x40020008 then some 1 else some 0
  | true, false => some 0
  | false, true => some 1
  | false, false => none

/-- The counters record falls due (R429). -/
def State.queueCounters (s : State) : State :=
  let s := s.enqueue (Commit.blank .counters)
  { s with nvm := { s.nvm with countersAt := s.get NVM_OPTIME.SEC } }

end Sys2Proof.Machine
end

