-- ==== Sys2Proof/Machine/SafetyOps.lean ====
section
/-! DEFINITION. Drive of the field outputs (Table FIO-2), forced gait transitions and Lame causes (R59,
R305), PERMIT (R299), wake sources (R62). -/

namespace Sys2Proof.Machine
open Sys2Proof Sys2Proof.Reg

/-- The whole 32-bit value of the register at `a`, field by field. -/
def State.regWord (s : State) (a : Nat) : Nat :=
  (fieldsAt a).foldl (fun acc f => acc + s.get f * 2 ^ f.lsb) 0

/-- The not-available code of a 32-bit measurement. -/
def na32 : Nat := 0x80000000

/-! ### Codes -/

/-- CRB_STAT.STATE (Table CRB-2). -/
def Curb.boot : Nat := 0
def Curb.ready : Nat := 1
def Curb.srs : Nat := 2
def Curb.sii : Nat := 3
def Curb.halt : Nat := 4

/-- The bits of a word of the register at `a` that CRB_SCFGn or CRB_STGn defines; every bit of any other register
(Table CRB-8, R13). -/
def scfgSeen (a v : Nat) : Nat :=
  let n (f : Fld) : Option Nat := if f.addr ≤ a ∧ a < f.addr + 16 then some ((a - f.addr) / 4) else none
  match (n (CRB_SCFG.WORD 0)).or (n (CRB_STG.WORD 0)) with
  | some 0 => Nat.land v 0x0000FF03
  | some 2 => Nat.land v 0x000F7FFF
  | some 3 => Nat.land v 0x000F00FF
  | _ => v

/-- CRB_SCFG0.ARCH (Table CRB-5). -/
def Arch.single : Nat := 1
def Arch.diverse : Nat := 2

/-- CRB_STAT.GUARD (Table CRB-4). -/
def Guard.none : Nat := 0
def Guard.opened : Nat := 1
def Guard.proven : Nat := 2
def Guard.fault : Nat := 3

/-- Curb cause codes (Table CRB-1). -/
def Cause.foc : Nat := 0x01
def Cause.fsym : Nat := 0x02
def Cause.cmpOv : Nat := 0x03
def Cause.cmpUv : Nat := 0x04
def Cause.cmpT : Nat := 0x05
def Cause.door : Nat := 0x06
def Cause.desig : Nat := 0x07
def Cause.swdog : Nat := 0x08
def Cause.copy : Nat := 0x09
def Cause.hb : Nat := 0x0A
def Cause.core0 : Nat := 0x0B
def Cause.core1 : Nat := 0x0C
def Cause.therm : Nat := 0x0D
def Cause.osc : Nat := 0x0E
def Cause.supply : Nat := 0x0F
def Cause.reqSrs : Nat := 0x10
def Cause.reqSii : Nat := 0x11
def Cause.envelope : Nat := 0x12
def Cause.weld : Nat := 0x13

/-- Is the cause of class LOCAL (Table CRB-1)? -/
def Cause.isLocal (c : Nat) : Bool := decide (0x09 ≤ c ∧ c ≤ 0x0F)

/-- What a curb cause asks for. -/
inductive Stop where
  | srs | sii
  deriving DecidableEq, Repr

/-! ### Outputs (R331-R333, R299) -/

/-- Output `n` is driven on. -/
def State.on (s : State) (n : Nat) : Bool := s.bitOf FIO_DOSTAT.ON n

/-- DO12 or DO13 is on. -/
def State.mainOn (s : State) : Bool := s.on 12 || s.on 13

/-- Any of DO12 to DO15 is on. -/
def State.contactorOn (s : State) : Bool := s.on 12 || s.on 13 || s.on 14 || s.on 15

/-- CRB_SCFG0.ARCH as loaded. -/
def State.arch (s : State) : Nat := bits (s.get (CRB_SCFG.WORD 0)) 0 2

/-- The curb state. -/
def State.curb (s : State) : Nat := s.get CRB_STAT.STATE

/-- The bridle gate is closed in tandem mode (R407). -/
def State.gateClosed (s : State) : Bool := s.tandem && !(s.flag TDM_STAT.GATE)

/-- The pair is in step (R396). -/
def State.inStep (s : State) : Bool :=
  s.tandem && (decide (s.get TDM_STAT.STATE = Pair.active) || decide (s.get TDM_STAT.STATE = Pair.standby))

/-- |I| of the latest protection sample is at least 2 A. -/
def State.currentFlows (s : State) : Bool :=
  match s.crb.latest with
  | some i => decide (2000 ≤ i.natAbs)
  | none => false

/-- The latest protection sample is valid and below 2 A (R477). -/
def State.currentZero (s : State) : Bool :=
  match s.crb.latest with
  | some i => decide (i.natAbs < 2000)
  | none => false

/-- The heartbeat check runs: Rider 0 powered, an active set held (R294; log entry 30: DEDUCED). -/
def State.hbChecked (s : State) : Bool :=
  s.flag PWR_GAIT.RIDERS && !(s.prt.active.isEmpty)

/-- A field of the active protection set. -/
def State.act (s : State) (f : Fld) : Nat :=
  bits (s.prt.active.getD ((f.addr - 0x60080000) / 4) 0) f.lsb f.width

/-- CRB_INPUT.CAUSES: bit (code - 1) while the detection condition of the cause holds (R308). The bits
of the field itself hold FOC, SWDOG and THERM; the others follow from the state (log entry 37: DEDUCED). -/
def State.curbInputs (s : State) : Nat :=
  let c (code : Nat) (b : Bool) : Nat := b2n b * 2 ^ (code - 1)
  s.get CRB_INPUT.CAUSES |||
    (c Cause.cmpOv (!s.crb.cmpOv.isEmpty) + c Cause.cmpUv (!s.crb.cmpUv.isEmpty)
      + c Cause.cmpT (!s.crb.cmpT.isEmpty)
      + c Cause.door (s.mainOn && (decide (s.crb.doorOpen ≠ 0) || s.crb.discrepant))
      + c Cause.copy (decide (s.prt.bad ≠ 0))
      + c Cause.hb (s.hbChecked && decide (s.act PRT_INT.HBTMO ≤ s.crb.hbAge))
      + c Cause.core0 (decide (s.r0.run = .halted)) + c Cause.core1 (decide (s.r1.run = .halted))
      + c Cause.osc (decide (2 ≤ s.crb.oscBad)) + c Cause.supply s.crb.supplyBad
      + c Cause.envelope (decide (s.curb = Curb.srs ∧ 0 < s.crb.envRun))
      + c Cause.weld (decide (s.curb = Curb.halt) && s.currentFlows))

/-- PERMIT (R299). -/
def State.permit (s : State) : Bool :=
  decide (s.curb = Curb.ready) && s.flag CRB_STAT.SCFG_OK && s.flag PRT_STAT.VALID
    && s.flag PRT_STAT.COPY_OK && decide (s.get CRB_STAT.GUARD = Guard.proven)
    && decide (s.curbInputs = 0)
    && (decide (s.arch ≠ Arch.diverse)
      || (s.flag HVM_CTRL.HALL_EN && s.flag HVM_CTRL.DIV_EN && s.flag HVM_STAT.HALL_OK))

/-- The curb keeps the main contactors released: READY with PERMIT or an output on, or SRS (R291, R299). -/
def State.mainReleased (s : State) : Bool :=
  (decide (s.curb = Curb.ready) && (s.permit || s.mainOn)) || decide (s.curb = Curb.srs)

/-- Rank 2 force-off of output `n` (R291, R299) (log entry 37: DEDUCED). -/
def State.forceOff (s : State) (n : Nat) : Bool :=
  if n = 14 then !s.permit
  else if n = 12 ∨ n = 13 then decide (s.arch = Arch.single) && !s.mainReleased
  else false

/-- Low-side switch LS12 or LS13 is closed (R299, R332, R393). -/
def State.lsClosed (s : State) (k : Nat) : Bool :=
  !s.crb.supplyBad && !(if k = 12 then s.flag FIO_STAT.LSHOLD12 else s.flag FIO_STAT.LSHOLD13)
    && !s.gateClosed && !(if k = 12 then s.flag THM_LATCH.DO12 else s.flag THM_LATCH.DO13)
    && (if s.arch = Arch.diverse then s.mainReleased
        else decide (s.arch = Arch.single) && s.flag CRB_STAT.STEST_OK && decide (s.curb ≠ Curb.boot))

/-- Inputs and outputs run: gait Walk to Halt with the Riders powered (R342). -/
def State.ioPowered (s : State) : Bool := decide (2 ≤ s.gait) && s.flag PWR_GAIT.RIDERS

/-- Thermal shutdown or latched trip of output `n` (Table THM-1). -/
def State.thermOff (s : State) (n : Nat) : Bool :=
  if n = 12 then s.flag THM_LATCH.DO12 else if n = 13 then s.flag THM_LATCH.DO13
  else if n = 14 then s.flag THM_LATCH.DO14 else if n = 15 then s.flag THM_LATCH.DO15
  else bit s.fio.ot n

/-- Output `n` is off for the gait (R342): the block is unpowered, or it is one of DO0 to DO11 and the entry into
Paddock, a Groom walk or Stable has begun. -/
def State.gaitOff (s : State) (n : Nat) : Bool :=
  !s.ioPowered || (decide (n < 12) && (match s.power.trans with
    | some t => [2, 3, 7].contains t.num
    | none => false))

/-- A row of rank 1 to 4 of Table FIO-2, or the gait, holds output `n`. -/
def State.held (s : State) (n : Nat) : Bool :=
  s.gaitOff n || s.thermOff n || s.forceOff n || s.flag FIO_STAT.WD_EXP
    || (decide (12 ≤ n ∧ n ≤ 14) && s.gateClosed)

/-- The running test window is on output `n`. -/
def State.testing (s : State) (n : Nat) : Bool :=
  s.flag FIO_STAT.TEST_BUSY && decide (s.get FIO_STAT.TESTCH = n)

/-- A configuration field of the FIO block in effect (R349). -/
def State.fioGet (s : State) (f : Fld) : Nat := mapGet f.reset s.fio.eff f.key

/-- Rank 3 drive of DO0 to DO11 (R340). -/
def State.safeDrive (s : State) (n : Nat) : Bool :=
  let v := s.fioGet (FIO_DOCFG.SAFE n)
  decide (v = 1) || (decide (v = 2) && bit s.fio.wdDemand n)

/-- The drive of output `n` (Table FIO-2). -/
def State.driveOf (s : State) (n : Nat) : Bool :=
  if s.gaitOff n = true ∨ s.thermOff n = true then false
  else if n = 15 then s.crb.shuntOn
  else if s.forceOff n then false
  else if s.flag FIO_STAT.WD_EXP then decide (n < 12) && s.safeDrive n
  else if (12 ≤ n ∧ n ≤ 14) ∧ s.gateClosed = true then false
  else if s.testing n then s.fio.light
  else s.bitOf FIO_DOSET.DO n

/-- Sum of the bits of outputs for which `p` holds. -/
def maskOf (n : Nat) (p : Nat → Bool) : Nat :=
  match n with
  | 0 => 0
  | k + 1 => maskOf k p + b2n (p k) * 2 ^ k

/-- Injection is on (R161). -/
def State.injOn (s : State) : Bool :=
  s.flag HVM_CTRL.INJ_EN && s.flag HVM_STAT.READY
    && (!s.tandem || !(s.flag HVM_CTRL.INJ_CLAIM) || s.flag TDM_STAT.CLAIM)

/-- Every output takes its drive; a higher rank ends a test window; a turn-on restarts pull-in (R331,
R333, R336); the insulation monitor sees the moves of DO12 to DO14 while it injects (R160); the condition of cause
SWDOG ends with DO12 and DO13 off (R308). -/
def State.redrive (s : State) : State :=
  let s := if s.flag FIO_STAT.TEST_BUSY ∧ s.held (s.get FIO_STAT.TESTCH) = true then
      s.put FIO_STAT.TEST_BUSY false else s
  let was := s.get FIO_DOSTAT.ON
  let now := maskOf 16 s.driveOf
  let s := s.set FIO_DOSTAT.ON now
  let risen := maskOf 16 fun n => decide (12 ≤ n ∧ n ≤ 14) && bit now n && !(bit was n)
  let moved : Bool := decide (bits now 12 3 ≠ bits was 12 3)
  let closed : Bool := decide (bits was 12 2 = 0) && decide (bits now 12 2 ≠ 0)
  let s := if bits now 12 2 = 0 then s.clrBitOf CRB_INPUT.CAUSES (Cause.swdog - 1) else s
  let at_ := s.nowUs
  let s := s.mapFio fun x => { x with
    pullin := (x.pullin &&& now) ||| risen
    pullAt := (List.range 16).foldl (fun l n => if bit risen n then mapSet 0 l n at_ else l) x.pullAt }
  let inj := s.injOn
  s.mapCrb fun x => { x with
    doMoved := (x.doMoved && (x.injWas || !inj)) || moved, injWas := inj
    mainAt := if closed then at_ else x.mainAt }

/-! ### Bleed off (R227, R296) -/

/-- A frame leaves on a port: 1 low end, 2 high end, 3 both. -/
def State.sendFrame (s : State) (port : Nat) (f : Frame) : State :=
  s.mapChn fun x => { x with out := x.out ++ [(port, f)] }

/-- The module originates chain traffic and its ports run (R171, R199); a Paddock check runs them itself
(R229; log entry 73: DEDUCED). -/
def State.chainUp (s : State) : Bool :=
  (s.flag CHN_CTRL.PORT_EN || s.cel.check.isSome) && s.flag CHN_STAT.ORIGIN && decide (2 ≤ s.gait)

/-- NBLEED, BALACT. -/
def State.bleedStat (s : State) : State :=
  (s.set CEL_STAT.NBLEED s.cel.bleed.length).put CEL_STAT.BALACT (!s.cel.bleed.isEmpty)

/-- All bleed off with a broadcast BLEED_SET of MASK 0 (R227). -/
def State.bleedOff (s : State) : State :=
  let s := (s.mapCel fun x => { x with want := [], bleed := [], sent := [] }).bleedStat
  if s.chainUp then s.sendFrame 3 ⟨0, 0x3F, 7, [0, 0]⟩ else s

/-! ### Forced gait transitions (R59, R305) -/

/-- The request of PWR_REQ is refused with `reason`; source 7 (R58, R61). -/
def State.refuseGait (s : State) (reason : Nat) : State :=
  ((s.set PWR_REQSTAT.RESULT 3).set PWR_REQSTAT.REASON reason).raise 7

/-- Transition `num` begins (R60). -/
def State.beginTrans (s : State) (num target cause : Nat) (requested : Bool) : State :=
  let s := s.put PWR_GAIT.BUSY true
  { s with power := { s.power with trans := some ⟨num, target, cause, requested⟩, removing := false } }

/-- The power removal of the T2, T3, T6 or T7 in progress has begun (R59): a free value says so, and it stays
begun (log entry 110: DESIGN CHOICE). -/
def State.removalBegun (s : State) : Bool × State :=
  if s.power.removing then (true, s)
  else
    let b := decide ((s.draw 1).1 = 1)
    (b, (s.draw 1).2.mapPower fun x => { x with removing := b })

/-- The forced transition `num` yields to the forced transition `running` in progress: T16 goes before T13 and
T13 before T11; T1 ends first (log entry 111: DESIGN CHOICE). -/
def forceYields (num running : Nat) : Bool :=
  decide (running = 16) || decide (running = 1) || (decide (running = 13) && decide (num = 11))

/-- A hardware-forced transition (R59): it takes the place of the transition in progress, but for T2, T3, T6 and
T7 whose power removal has begun (log entries 31: DEDUCED, 111: DESIGN CHOICE). -/
def State.forceTrans (s : State) (num target cause : Nat) : State :=
  match s.power.trans with
  | none => s.beginTrans num target cause false
  | some t =>
    if forceYields num t.num && !t.requested then s
    else
      let r := if [2, 3, 6, 7].contains t.num then s.removalBegun else (false, s)
      if r.1 then r.2
      else (r.2.when t.requested fun s => s.refuseGait 6).beginTrans num target cause false

/-- Lame causes the hardware detects (Table PRT-3), as bits of `PowerSt.lameCauses`. -/
def LameCause.stale : Nat := 0
def LameCause.copy : Nat := 1
def LameCause.clock : Nat := 2
def LameCause.dieUnknown : Nat := 3
def LameCause.aux : Nat := 4

/-- `s` with a Lame cause marked or cleared. -/
def State.markLame (s : State) (b : Nat) (v : Bool) : State :=
  { s with power := { s.power with lameCauses := putBit s.power.lameCauses b v } }

/-- T13 by the gait controller from Walk to Gallop (R305) (log entry 31: DEDUCED). -/
def State.enterLame (s : State) : State :=
  if 2 ≤ s.gait ∧ s.gait ≤ 5 then s.forceTrans 13 Gait.lame 3 else s

/-! ### Wake (R57, R60, R62, R63) -/

/-- Wake source `b` is enabled (Table PWR-7); AUX power-on has no enable. -/
def State.wakeEnabled (s : State) (b : Nat) : Bool :=
  match b with
  | 0 => s.flag PWR_WAKEEN.WAKEN
  | 1 => s.flag PWR_WAKEEN.RTC
  | 2 => s.flag PWR_WAKEEN.CANA
  | 3 => s.flag PWR_WAKEEN.CHAIN
  | 4 => s.flag PWR_WAKEEN.DI
  | 5 => s.flag PWR_WAKEEN.TANDEM
  | _ => decide (b = 6)

/-- A Groom walk: Walk with the Riders powered down (R57). -/
def State.groomWalk (s : State) : Bool := decide (s.gait = Gait.walk) && !(s.flag PWR_GAIT.RIDERS)

/-- Number of the Rider power-up that ends a Groom walk, which is no row of Table PWR-2 (R57). -/
def ridersUp : Nat := 18

/-- A wake source asserts: recorded, and the wake begins or is kept for the end of the transition in progress (R57,
R60, R62), or it joins the wake that is under way (R63). The Rider power-up that ends a Groom walk is held as a
transition of number 18 (log entry 112: DESIGN CHOICE). -/
def State.wake (s : State) (b : Nat) : State :=
  if s.wakeEnabled b = false then s
  else
    let noted := s.setBitOf PWR_WAKESRC.SRC b
    let kept := { noted with power := { noted.power with wakeLatched := setBit s.power.wakeLatched b } }
    match s.power.trans with
    | some t =>
      if [3, 5, 6].contains t.num then kept
      else if (t.num = 2 ∨ t.num = 7) ∧ b ≤ 1 then kept
      else if [1, 4, 18].contains t.num ∨ s.groomWalk = true ∨ (s.sys.booting && s.sys.por) = true then noted
      else s
    | none =>
      if s.sys.booting && s.sys.por then noted
      else if s.gait = Gait.paddock then noted.beginTrans 4 Gait.walk 1 false
      else if s.gait = Gait.stable ∧ b ≤ 1 ∧ s.flag SYS_PWRSTAT.AUX_OK then
        noted.beginTrans 1 Gait.walk 1 false
      else if s.groomWalk then noted.beginTrans ridersUp Gait.walk 1 false
      else s

end Sys2Proof.Machine
end

