-- ==== Sys2Proof/Machine/CanOps.lean ====
section
/-! DEFINITION. The CAN FD controllers: modes, reception, requests and results of transmission, the
dispatch telegram (R350-R363). Controller 0 is CAN-A, 1 is CAN-B. -/

namespace Sys2Proof.Machine
open Sys2Proof Sys2Proof.Reg

/-- First event source of a controller (Table CAN-10). -/
def canBase (x : Nat) : Nat := 208 + 8 * x

/-- CNx_CTRL.MODE codes (Table CAN-7). -/
def Can.normal : Nat := 0
def Can.restricted : Nat := 1
def Can.monitor : Nat := 2
def Can.init : Nat := 3

/-- The controller is powered: CAN-A from Paddock on, CAN-B in awake gaits (R362); in Paddock CAN-A is gated with the
auxiliary PLL (R24, Table ARC-4). -/
def State.canUp (s : State) (x : Nat) : Bool :=
  decide ((if x = 0 then 1 else 2) ≤ s.gait) && !(decide (s.gait = Gait.paddock) && s.pllGated Pll.aux)

/-- Restricted operation is forced on a seat without claim (R361). -/
def State.canForced (s : State) (_x : Nat) : Bool := s.tandem && !(s.flag TDM_STAT.CLAIM)

/-- The mode in which the controller runs (R360, R361). -/
def State.canMode (s : State) (x : Nat) : Nat :=
  let m := s.get (CNx_CTRL.MODE x)
  if m ≠ Can.init ∧ s.canForced x = true then Can.restricted else m

/-- The controller takes part in bus traffic: powered, joined, not bus-off. -/
def State.canOn (s : State) (x : Nat) : Bool :=
  s.canUp x && decide (s.canMode x ≠ Can.init)
    && (decide (s.get (CNx_STAT.STATE x) = 1) || decide (s.get (CNx_STAT.STATE x) = 2))

/-- The controller may put frames on the bus. -/
def State.canSends (s : State) (x : Nat) : Bool := s.canOn x && decide (s.canMode x = Can.normal)

/-- Objects of a controller. -/
def canObjs : List Nat := List.range 128

/-- The object's bit in a register of 4 words, set to `v`. -/
def State.canBit (s : State) (f : Nat → Nat → Fld) (x n : Nat) (v : Bool) : State :=
  if v then s.setBitOf (f x (n / 32)) (n % 32) else s.clrBitOf (f x (n / 32)) (n % 32)

/-- NEW of object `n`, with its RXNEW bit (R354). -/
def State.canNew (s : State) (x n : Nat) (v : Bool) : State :=
  (s.put (CNx_OSTAT.NEW x n) v).canBit CNx_RXNEW.BITS x n v

/-- TXPEND of object `n`, in both places. -/
def State.canPend (s : State) (x n : Nat) (v : Bool) : State :=
  (s.put (CNx_OSTAT.TXPEND x n) v).canBit CNx_TXPEND.BITS x n v

/-- The timestamp of an object; 0 in Paddock (R354) (log entry 92: DEDUCED). -/
def State.canStamp (s : State) (x n t : Nat) : State :=
  let t := if s.gait = Gait.paddock then 0 else t
  (s.set (CNx_OTSLO.NS x n) t).set (CNx_OTSHI.NS x n) (t / 2 ^ 32)

/-! ### Reception -/

/-- Does object `n` match the frame (R353)? -/
def State.canMatch (s : State) (x n : Nat) (f : CanFrame) : Bool :=
  let fmt := s.get (CNx_OCFG.FMT x n)
  let part := if f.ide then 0x1FFFFFFF else 0x1FFC0000
  s.flag (CNx_OCFG.EN x n) && !(s.flag (CNx_OCFG.DIR x n))
    && decide (s.flag (CNx_OCFG.IDE x n) = f.ide)
    && (decide (fmt = 2) || decide (fmt = b2n f.fdf))
    && decide (((f.id.toNat ^^^ s.get (CNx_OID.ID x n)) &&& s.get (CNx_OMASK.MASK x n)) &&& part = 0)

/-- The object that takes the frame among the matching ones in ascending index (R353). -/
def State.canPick (s : State) (x : Nat) (l : List Nat) : Option Nat :=
  match l with
  | [] => none
  | [n] => some n
  | n :: rest =>
    if s.flag (CNx_OCFG.NEXT x n) && s.flag (CNx_OSTAT.NEW x n) then s.canPick x rest else some n

/-- `n` bytes as words of four, little-endian (R9). -/
def wordOf (bs : List Nat) (j : Nat) : Nat := ofLe ((bs.drop (4 * j)).take 4)

/-- The receive timeout of object `n` restarts (R355). -/
def State.canRearm (s : State) (x n : Nat) : State :=
  let t := s.nowUs
  s.mapCan fun c => { c with rxAt := mapSet 0 c.rxAt (128 * x + n) t }

/-- The receive timeout of object `n` has run out (R355); in Paddock, where no tick counts, its command says so (log
entry 5: DESIGN CHOICE). -/
def State.canSilent (s : State) (x n : Nat) : Bool :=
  decide (s.gait = Gait.paddock)
    || decide (mapGet s.can.upAt s.can.rxAt (128 * x + n) + 1000 * s.get (CNx_ORTO.MS x n) ≤ s.nowUs)

/-- The frame is stored in object `n` (R354). -/
def State.canStore (s : State) (x n : Nat) (f : CanFrame) (t : Nat) : State :=
  let bs := f.data.map (·.toNat)
  let s := (List.range 16).foldl (fun (s : State) j => s.set (CNx_ODATA.WORD x n j) (wordOf bs j)) s
  let s := (s.set (CNx_ORXID.ID x n) f.id.toNat).set (CNx_OSTAT.LEN x n) bs.length
  let s := ((s.put (CNx_OSTAT.FDF x n) f.fdf).put (CNx_OSTAT.BRS x n) f.brs).put (CNx_OSTAT.ESI x n) f.esi
  let s := (s.put (CNx_OSTAT.IDE x n) f.ide).canStamp x n t
  let s := s.set (CNx_OSTAT.RXSEQ x n) ((s.get (CNx_OSTAT.RXSEQ x n) + 1) % 16)
  let s := ((s.canNew x n true).put (CNx_OSTAT.TMO x n) false).canRearm x n
  let s := s.when (s.flag (CNx_OCFG.IRQ x n)) fun s => s.raise (canBase x)
  s.when (decide (x = 0) && s.flag (CNx_OCFG.WAKE x n)) fun s => s.wake 2

/-- A frame is lost or overwritten (R353). -/
def State.canLost (s : State) (x : Nat) : State := (s.put (CNx_FLT.RXLOST x) true).raise (canBase x + 6)

/-- A frame received without error is offered to the receive objects (R353). -/
def State.canReceive (s : State) (x : Nat) (f : CanFrame) (t : Nat) : State :=
  if f.remote = true ∨ (f.fdf = true ∧ s.flag (CNx_CTRL.FDEN x) = false) then s
  else
    match s.canPick x (canObjs.filter fun n => s.canMatch x n f) with
    | none => s
    | some n =>
      if s.flag (CNx_OSTAT.NEW x n) then
        if s.flag (CNx_OCFG.NEXT x n) then s.canLost x
        else ((s.put (CNx_OSTAT.OVR x n) true).canStore x n f t).canLost x
      else s.canStore x n f t

/-! ### Transmission -/

/-- STATUS of a txf completion for a result of Table CAN-3 (R358). -/
def canStatus (res : Nat) (timeout : Bool) : Nat :=
  if timeout then 5 else if res = 1 then 0 else if res = 4 ∨ res = 5 then 3 else 1

/-- A transmission of object `n` ends with `res`; `t` is the frame's timestamp where it was sent (R356,
R358). -/
def State.canEnd (s : State) (x n res t : Nat) (timeout : Bool) : State :=
  let own := mapGet none s.can.txf (128 * x + n)
  let s := ((s.canPend x n false).set (CNx_OSTAT.RES x n) res).canBit CNx_TXDONE.BITS x n true
  let s := s.mapCan fun c => { c with txf := mapErase c.txf (128 * x + n) }
  let s := s.when (decide (res = 1)) fun s => s.canStamp x n t
  let s := s.when (decide (res = 1) && s.flag (CNx_OCFG.IRQ x n)) fun s => s.raise (canBase x + 1)
  let s := s.when (decide (res = 2 ∨ res = 3)) fun s =>
    (s.put (CNx_FLT.ONESHOT x) true).raise (canBase x + 2)
  match own with
  | some (c, tag) => s.complete c tag res (canStatus res timeout)
      (if res = 1 then s.get (CNx_OTSLO.NS x n) else 0)
  | none => s

/-- Object `n` is pending. -/
def State.canPending (s : State) (x n : Nat) : Bool := s.flag (CNx_OSTAT.TXPEND x n)

/-- Transmission of object `n` is requested, by `own` where a txf asks (R356, R357). -/
def State.canRequest (s : State) (x n : Nat) (own : Option (Core × Nat)) : State :=
  if s.canUp x = false ∨ s.flag (CNx_OCFG.EN x n) = false ∨ s.flag (CNx_OCFG.DIR x n) = false then s
  else
    let s := match own with
      | some o => s.mapCan fun c => { c with txf := mapSet none c.txf (128 * x + n) (some o) }
      | none => s
    let s := (s.set (CNx_OSTAT.RES x n) 0).canPend x n true
    if s.flag (CNx_OCFG.GATED x n) ∧ s.gateClosed = true then s.canEnd x n 5 0 false else s

/-- The order of the arbitration field: lower wins; a base frame wins over an extended frame with the same
base identifier (R356). -/
def State.canKey (s : State) (x n : Nat) : Nat :=
  let id := s.get (CNx_OID.ID x n)
  let base := id / 2 ^ 18
  if s.flag (CNx_OCFG.IDE x n) then (2 * base + 1) * 2 ^ 18 + id % 2 ^ 18 else 2 * base * 2 ^ 18

/-- The object may transmit: an FD object not while FDEN = 0. -/
def State.canAble (s : State) (x n : Nat) : Bool :=
  s.canPending x n && (s.flag (CNx_CTRL.FDEN x) || decide (s.get (CNx_OCFG.FMT x n) = 0))

/-- The object whose frame the controller offers to the bus (R356). -/
def State.canOffered (s : State) (x : Nat) : Option Nat :=
  canObjs.foldl (fun (b : Option Nat) n =>
    if s.canAble x n then
      match b with
      | none => some n
      | some m => if s.canKey x n < s.canKey x m then some n else some m
    else b) none

/-- The frame on the bus: that of object `obj` where it had started before a better one was requested, else
the one offered. -/
def State.canBus (s : State) (x : Nat) (obj : Option (BitVec 7)) : Option Nat :=
  if s.canSends x then
    match obj with
    | some n => if s.canAble x n.toNat then some n.toNat else none
    | none => s.canOffered x
  else none

/-- The frame as object `n` sends it. -/
def State.canFrameOf (s : State) (x n : Nat) : CanFrame :=
  let len := s.get (CNx_OCFG.LEN x n)
  let bs := ((List.range 16).map fun j => leBytes 4 (s.get (CNx_ODATA.WORD x n j))).flatten
  { ide := s.flag (CNx_OCFG.IDE x n), fdf := decide (s.get (CNx_OCFG.FMT x n) ≠ 0)
    brs := decide (s.get (CNx_OCFG.FMT x n) = 2), esi := decide (s.get (CNx_STAT.STATE x) = 2)
    remote := false
    id := BitVec.ofNat 29 (if s.flag (CNx_OCFG.IDE x n) then s.get (CNx_OID.ID x n)
      else s.get (CNx_OID.ID x n) / 2 ^ 18 * 2 ^ 18)
    data := (bs.take len).map (BitVec.ofNat 8) }

/-- The object whose frame is on the bus, where the controller sends: that a frame has started is not part of the
model's state, so a free value names the object, or none (R357; log entry 90: DESIGN CHOICE). -/
def State.canOnBus (s : State) (x : Nat) : Option Nat × State :=
  if s.canSends x then
    let d := s.draw 8
    (if d.1 < 128 ∧ s.canAble x d.1 = true then some d.1 else none, d.2)
  else (none, s)

/-- Abort of object `n` unless its frame is on the bus (R357) (log entry 90: DESIGN CHOICE). -/
def State.canAbort (s : State) (x n : Nat) (res : Nat) (timeout : Bool) : State :=
  if s.canPending x n = false then s
  else
    let r := s.canOnBus x
    if r.1 = some n then r.2 else r.2.canEnd x n res 0 timeout

/-- Every pending object that `p` takes and whose frame is not on the bus ends with `res`. -/
def State.canAbortSome (s : State) (x res : Nat) (p : State → Nat → Bool) : State :=
  let r := s.canOnBus x
  canObjs.foldl (fun (s : State) n =>
    if s.canPending x n = true ∧ p s n = true ∧ r.1 ≠ some n then s.canEnd x n res 0 false else s) r.2

/-- CNx_CMD.ABORTALL (R366). -/
def State.canAbortAll (s : State) (x : Nat) : State := s.canAbortSome x 4 fun _ _ => true

/-- The bridle gate closes: gated frames not on the bus end with RES 5 (R357). -/
def State.canGateClose (s : State) : State :=
  [0, 1].foldl (fun (s : State) x => s.canAbortSome x 5 fun s n => s.flag (CNx_OCFG.GATED x n)) s

/-! ### Fault confinement (R359; increments of ISO 11898-1 come with the error, log entry 91: PRESUMED) -/

/-- The controller's error state from its counters; source base + 4 on entry to error passive. -/
def State.canConfine (s : State) (x : Nat) : State :=
  let passive : Bool := decide (128 ≤ s.get (CNx_STAT.TEC x)) || decide (128 ≤ s.get (CNx_STAT.REC x))
  let st := s.get (CNx_STAT.STATE x)
  if st = 1 ∧ passive = true then
    ((s.set (CNx_STAT.STATE x) 2).put (CNx_FLT.ERRPASS x) true).raise (canBase x + 4)
  else if st = 2 ∧ passive = false then s.set (CNx_STAT.STATE x) 1
  else s

/-- Bus-off: every pending frame ends with RES 6 (R359). -/
def State.canBusOff (s : State) (x : Nat) : State :=
  let s := (s.set (CNx_STAT.STATE x) 3).put (CNx_FLT.BUSOFF x) true
  let s := canObjs.foldl (fun (s : State) n => if s.canPending x n then s.canEnd x n 6 0 false else s) s
  let rec0 := s.flag (CNx_CTRL.BOAUTO x)
  (s.mapCan fun c => { c with recovering := putBit c.recovering x rec0 }).raise (canBase x + 5)

/-- CNx_CMD.RECOVER (R359). -/
def State.canRecover (s : State) (x : Nat) : State :=
  if s.get (CNx_STAT.STATE x) = 3 then
    s.mapCan fun c => { c with recovering := setBit c.recovering x }
  else s

/-- CNx_CTRL was written: INIT takes the controller off the bus (R360); a bus-off stays until its recovery (R359). -/
def State.canModeWritten (s : State) (x : Nat) : State :=
  if s.get (CNx_CTRL.MODE x) = Can.init ∧ s.get (CNx_STAT.STATE x) ≠ 3 then s.set (CNx_STAT.STATE x) 0 else s

/-- CNx_OCFGn was written over `old`: a change of EN, DIR, IDE or FMT clears NEW, OVR and TMO and restarts the receive
timeout (R367). -/
def State.canCfgWritten (s : State) (x n old : Nat) : State :=
  let now := s.regWord (CNx_OCFG.EN x n).addr
  if bits now 27 5 = bits old 27 5 then s
  else (((s.canNew x n false).put (CNx_OSTAT.OVR x n) false).put (CNx_OSTAT.TMO x n) false).canRearm x n

/-! ### Dispatch telegram (R363, R385) -/

/-- The 24 bytes of Table CAN-4. -/
def State.dispatchBytes (s : State) : List Nat :=
  leBytes 2 (s.get CNB_DSEQ.SEQ) ++ [1,
    s.get GGN_STAT.CLAMPPUB + 2 * s.get GGN_STAT.PURSUIT + 4 * s.get GGN_STAT.SAFE
      + 8 * s.get EST_USOC.VALID + 16 * s.get EST_STAT.LIMLOST]
    ++ leBytes 4 (s.get GGN_DSP.MA) ++ leBytes 4 (s.get EST_ISTRCH.MA) ++ leBytes 4 (s.get EST_ISTRDC.MA)
    ++ leBytes 2 (s.get EST_USOC.SOC) ++ [s.gait, s.curb] ++ leBytes 4 (s.devTime % 2 ^ 32)

/-- The dispatch object can carry the telegram (R363). -/
def State.dispatchUsable (s : State) : Bool :=
  let n := s.get CNB_DISP.OBJ
  s.flag CNB_DISP.EN && s.flag (CNx_OCFG.EN 1 n) && s.flag (CNx_OCFG.DIR 1 n)
    && s.flag (CNx_OCFG.ONESHOT 1 n) && s.flag (CNx_OCFG.GATED 1 n)
    && decide (s.get (CNx_OCFG.FMT 1 n) ≠ 0) && decide (s.get (CNx_OCFG.LEN 1 n) = 24)

/-- The dispatch telegram goes to its object (R363). -/
def State.dispatchCan (s : State) : State :=
  if s.dispatchUsable = false then s.put (CNx_FLT.DISP_CFG 1) true
  else
    let n := s.get CNB_DISP.OBJ
    let s := if s.canPending 1 n then (s.canEnd 1 n 4 0 false).put (CNx_FLT.DISP_STALE 1) true else s
    let bs := s.dispatchBytes
    let s := (List.range 6).foldl (fun (s : State) j => s.set (CNx_ODATA.WORD 1 n j) (wordOf bs j)) s
    s.canRequest 1 n none

/-! ### Power (R362) -/

/-- Registers of a controller that Paddock and Groom walks retain. -/
def canRetained (x a : Nat) : Bool :=
  let o := a - (0x600C0000 + 0x10000 * x)
  decide (o = 0) || decide (0x10 ≤ o ∧ o ≤ 0x28)
    || (decide (0x1000 ≤ o) && [0, 4, 8, 0x18].contains (o % 0x80))

/-- CAN-B after a wake: the registers R362 does not retain are at reset. -/
def State.canWake (s : State) : State :=
  { s with
    regs := s.regs.filter fun e =>
      !(decide (0x600D0000 ≤ e.1 / 32 ∧ e.1 / 32 < 0x600E0000)) || canRetained 1 (e.1 / 32)
    can := { txf := s.can.txf.filter (fun e => decide (e.1 < 128)), recovering := clrBit s.can.recovering 1
             rxAt := s.can.rxAt.filter (fun e => decide (e.1 < 128)), upAt := s.nowUs } }

end Sys2Proof.Machine
end

