-- ==== Sys2Proof/Machine/StopOps.lean ====
section
/-! DEFINITION. The bridle claim and gate (R407, R408), the curb logic's decisions (R287-R291), designated
sources (R38) and the sealed configuration (R302, R303). -/

namespace Sys2Proof.Machine
open Sys2Proof Sys2Proof.Reg

/-! ### The bridle claim (R408) -/

/-- The bridle gate closes: gated CAN frames end, gated outputs turn off (R357, R407). -/
def State.gateShut (s : State) : State :=
  if s.flag TDM_STAT.GATE then ((s.put TDM_STAT.GATE false).canGateClose).redrive else s

/-- The own claim drops: gate closed, ALONE, and the reason that the release notice carries (0: none). -/
def State.dropClaim (s : State) (reason : Nat) : State :=
  if s.flag TDM_STAT.CLAIM then
    let s := ((s.put TDM_STAT.CLAIM false).gateShut).set TDM_STAT.STATE Pair.alone
    if reason ≠ 0 then s.set TDM_RELINFO.OWN reason else s
  else s

/-! ### Leaving step (R405) -/

/-- The pair leaves step for the cause that `f` names (R405, Table TDM-2): ALONE, source 233. -/
def State.stepLost (s : State) (f : Fld) : State :=
  if s.inStep then ((s.put f true).set TDM_STAT.STATE Pair.alone).raise 233 else s

/-- The standby acts on bundles (R399, R402). -/
def State.isStandby (s : State) : Bool := s.tandem && decide (s.get TDM_STAT.STATE = Pair.standby)

/-- A cause local to the standby ends step (R402, R405). -/
def State.standbyLocal (s : State) : State := s.when s.isStandby fun s => s.stepLost TDM_FLT.LOCAL

/-! ### Curb decisions (R287-R291) -/

/-- CRB_CAUSE takes a cause (R289, R308): FIRST [7:0], LATEST [15:8], COUNT [23:16], REQSRC [24]. -/
def State.recordCause (s : State) (code : Nat) (gc first : Bool) : State :=
  let w := s.get CRB_CAUSE.WORD
  let src := if code = Cause.reqSrs then b2n gc else if first then 0 else bits w 24 1
  if first then s.set CRB_CAUSE.WORD (code + code * 256 + 65536 + src * 2 ^ 24)
  else s.set CRB_CAUSE.WORD
    (bits w 0 8 + code * 256 + satAdd 255 (bits w 16 8) 1 * 65536 + src * 2 ^ 24)

/-- A state is entered by the curb logic: source 28 and the record CRB_STOP (R289, R431). -/
def State.enterStop (s : State) (st : Nat) : State :=
  let s := (s.set CRB_STAT.STATE st).raise 28
  s.hwRecord 0x0011 7
    (leBytes 4 (s.get CRB_CAUSE.WORD) ++ leBytes 4 (s.get CRB_SRSI0.MA) ++ leBytes 4 st)

/-- HALT: contactors open, every bleed channel taken and its bleed off at once, source 29, T16 (R45, R227, R289,
R296). -/
def State.enterHalt (s : State) : State :=
  let s := (s.enterStop Curb.halt).raise 29
  let s := ({ s with crb := { s.crb with allBleeds := true, shuntOn := false } }).bleedOff
  let s := if 2 ≤ s.gait then s.forceTrans 16 Gait.halt 4 else s
  s.redrive

/-- SII: contactors open, the shunt pulse fires where DO12 or DO13 is on or |I| is at least 2 A; without a
pulse HALT follows (R289, R291). -/
def State.enterSii (s : State) : State :=
  let fire := s.mainOn || s.currentFlows
  let s := (s.enterStop Curb.sii).mapCrb fun x => { x with dStop := 2 }
  if fire then
    ({ s with crb := { s.crb with shuntOn := true, shuntFired := true } }).redrive
  else s.enterHalt

/-- SRS: I0 latched, the envelope starts (R289, R290). -/
def State.enterSrs (s : State) : State :=
  let i0 := match s.crb.lastValid with
    | some i => i.natAbs
    | none => 0
  let s := s.set CRB_SRSI0.MA i0
  let s := { s with crb := { s.crb with srsN := 0, envRun := 0, zeroRun := 0, dStop := 1 } }
  (s.enterStop Curb.srs).redrive

/-- A stop begins: CRB_FLT.STOP, the time of CRB_SRST, no pulse yet. -/
def State.beginStop (s : State) : State :=
  let s := s.put CRB_FLT.STOP true
  { s with crb := { s.crb with stopAt := some s.nowUs, shuntFired := false } }

/-- Reason of the release notice that a cause gives (Table TDM-8). -/
def releaseReason (code : Nat) : Nat :=
  if code = Cause.core0 then 1 else if code = Cause.core1 then 2 else 3

/-- A cause reaches the curb logic (Tables CRB-1 and CRB-2, R288). -/
def State.curbCause (s : State) (code : Nat) (a : Stop) (gc : Bool) : State :=
  if s.curb = Curb.boot then s
  else if s.curb = Curb.ready then
    let pair := s.inStep
    let s := (s.recordCause code gc true).beginStop
    if pair && Cause.isLocal code then
      (s.standbyLocal.dropClaim (releaseReason code)).enterHalt
    else
      let s := if pair then
          { s with crb := { s.crb with toPeer := some (code, decide (a = .sii)) } } else s
      let s' := match a with
        | .srs => if s.mainOn then s.enterSrs else s.enterHalt
        | .sii => s.enterSii
      s'.dropClaim (releaseReason code)
  else
    let s := s.recordCause code gc false
    if s.curb = Curb.srs ∧ a = .sii then s.enterSii else s

/-- The gait controller's REQ_SRS while DO12 or DO13 is on (R305). -/
def State.gaitSrs (s : State) : State :=
  if s.mainOn then s.curbCause Cause.reqSrs .srs true else s

/-- A hardware Lame cause: T13, then REQ_SRS where `srs` (R305). On the standby a stale unit, which the bundle
brings, waits for the active seat's transition, and any other cause ends step (R402) (log entry 27: DEDUCED). -/
def State.forceLame (s : State) (b : Nat) (srs : Bool) : State :=
  let s := s.markLame b true
  let wait : Bool := s.isStandby && decide (b = LameCause.stale)
  let s := if wait then s else s.standbyLocal.enterLame
  if srs ∧ 2 ≤ s.gait then s.gaitSrs else s

/-- Does the designated source `n` give SII (CRB_SCFG3)? -/
def State.desigSii (s : State) (n : Nat) : Bool :=
  let w := s.get (CRB_SCFG.WORD 3)
  if n < 32 then decide (n - 17 < 8) && bit w (n - 17) else bit w (16 + (n - 128))

/-- Designated source `n` asserts: it reaches the curb logic where CURB = 1, whatever its enable and
route, and the event controller as any source (R35, R38). -/
def State.raiseD (s : State) (n : Nat) : State :=
  let s := if s.flag (EVT_CFG.CURB n) then
      s.curbCause Cause.desig (if s.desigSii n then .sii else .srs) false else s
  s.softEvt n

/-- Source `n`, designated or not, asserts (R39). -/
def State.assertEvt (s : State) (n : Nat) : State :=
  if evtDesignated n then s.raiseD n else s.softEvt n

/-- The guard proof takes a state; source 27 on a change (R298). -/
def State.setGuard (s : State) (g : Nat) : State :=
  if s.get CRB_STAT.GUARD = g then s else (s.set CRB_STAT.GUARD g).raise 27

/-- A diagnostic of CRB_FLT sets, with source 31. -/
def State.crbDiag (s : State) (f : Fld) : State := (s.put f true).raise 31

/-- Cause DOOR while DO12 or DO13 is on and a door channel is open or the channels disagree (R287). -/
def State.doorCheck (s : State) : State :=
  if s.mainOn ∧ (s.crb.doorOpen ≠ 0 ∨ s.crb.discrepant = true) then
    s.curbCause Cause.door .sii false
  else s

/-- The core-fault input of a Rider (R95, R97): code, action, claim. -/
def State.coreFault (s : State) (c : Core) : State :=
  match c with
  | .r0 => s.curbCause Cause.core0 .sii false
  | .r1 => s.curbCause Cause.core1 (if s.act PRT_INT.R1SII = 1 then .sii else .srs) false
  | .grm => s

/-- The configuration of an item in `words` and CRC `crc` is valid (R302). -/
def scfgValid (w : List Nat) : Bool :=
  let w0 := w.getD 0 0
  let w1 := w.getD 1 0
  let w2 := w.getD 2 0
  let w3 := w.getD 3 0
  let arch := bits w0 0 2
  decide (arch = 1 ∨ arch = 2) && decide (5 ≤ bits w0 8 8 ∧ bits w0 8 8 ≤ 200)
    && decide (bits w0 2 6 = 0) && decide (bits w0 16 16 = 0)
    && decide (1 ≤ bits w1 24 8) && decide (1 ≤ bits w1 16 8 ∧ bits w1 16 8 ≤ 50)
    && decide (50 ≤ bits w1 0 16 ∧ bits w1 0 16 ≤ 10000)
    && decide (bits w2 8 8 = 0) && decide (bits w2 20 12 = 0)
    && (decide (arch ≠ 2) || decide (bits w2 16 4 = 15))
    && decide (bits w3 8 8 = 0) && decide (bits w3 20 12 = 0)

/-- CRC-32C over the four configuration words. -/
def scfgCrc (w : List Nat) : Nat :=
  crc32c (leBytes 4 (w.getD 0 0) ++ leBytes 4 (w.getD 1 0) ++ leBytes 4 (w.getD 2 0)
    ++ leBytes 4 (w.getD 3 0))

/-- The curb logic loads a sealed configuration and the CURB bits (R303). -/
def State.loadScfg (s : State) (w : List Nat) (crc : Nat) : State :=
  let s := (List.range 4).foldl (fun (s : State) i => s.set (CRB_SCFG.WORD i) (w.getD i 0)) s
  let s := (s.set CRB_SCFGCRC.CRC crc).put CRB_STAT.SCFG_OK true
  let w2 := w.getD 2 0
  let s := (List.range 15).foldl (fun (s : State) k => s.put (EVT_CFG.CURB (17 + k)) (bit w2 k)) s
  (List.range 4).foldl (fun (s : State) k => s.put (EVT_CFG.CURB (128 + k)) (bit w2 (16 + k))) s

/-- The outputs take their drive; an output that turns on with a door open is cause DOOR (Table CRB-1). -/
def State.redriveDoor (s : State) : State := s.redrive.doorCheck

/-- The inputs whose detection condition is a standing one, with their actions (Table CRB-1). -/
def State.standing (s : State) : List (Nat × Stop) :=
  [(Cause.foc, .sii), (Cause.door, .sii), (Cause.swdog, .srs), (Cause.copy, .srs), (Cause.hb, .srs),
    (Cause.core0, .sii), (Cause.core1, if s.act PRT_INT.R1SII = 1 then .sii else .srs), (Cause.osc, .sii),
    (Cause.supply, .sii)].filter fun e => bit s.curbInputs (e.1 - 1)

/-- BOOT to READY: self-test passed, sealed configuration and protection set valid (Table CRB-2); the inputs that
stand then act (R287) (log entry 36: DEDUCED). The outputs take their drive. -/
def State.curbReady (s : State) : State :=
  if s.curb = Curb.boot ∧ s.flag CRB_STAT.STEST_OK ∧ s.flag CRB_STAT.SCFG_OK ∧
      s.flag PRT_STAT.VALID then
    let s := (s.set CRB_STAT.STATE Curb.ready).redrive
    s.standing.foldl (fun (s : State) e => s.curbCause e.1 e.2 false) s
  else s.redrive

end Sys2Proof.Machine
end

