-- ==== Sys2Proof/Machine/EstOps.lean ====
section
/-! DEFINITION. The applied layout table and the EST block: parameter block checks, collection of the
results and of the learned state, missing results, ledger snapshot (R204, R215, R234-R235, R245-R254,
R275, R277). -/

namespace Sys2Proof.Machine
open Sys2Proof Sys2Proof.Reg

/-! ### The applied layout table (Table CEL-11, R202, R204) -/

/-- Fields of a CEL_MAP word. -/
def layLane (w : Nat) : Nat := bits w 16 9
def layTsel (w : Nat) : Nat := bits w 12 1
def layLocal (w : Nat) : Nat := bits w 8 4
def layUnit (w : Nat) : Nat := bits w 0 6

/-- The cell that lane `l` serves, none where it serves none. -/
def State.cellOfLane (s : State) (l : Nat) : Option Nat :=
  (s.cel.map.find? fun e => layLane e.2 = l).map (·.1)

/-- Units named by the applied table, in ascending order. -/
def State.namedUnits (s : State) : List Nat :=
  (List.range 33).filter fun u => s.cel.map.any fun e => layUnit e.2 = u

/-- Cells of unit `u` in the applied table, with their CEL_MAP words, local position rising. -/
def State.unitCells (s : State) (u : Nat) : List (Nat × Nat) :=
  (List.range 16).filterMap fun c => s.cel.map.find? fun e => layUnit e.2 = u ∧ layLocal e.2 = c

/-- Address of lane memory word `off` of lane `l` (Table ARC-10). -/
def laneAddr (l off : Nat) : Nat := 0x30000000 + 0x1000 * l + off

/-- Address of publish slot `k` (R119). -/
def slotWord (k : Nat) : Nat := 0x30300080 + 8 * k

/-- Address of the header of sweep `sw` (R119). -/
def hdrAddr (sw : Nat) : Nat := 0x30300000 + 0x40 * (sw % 2)

/-- Words of the sweep header are written, and recorded for the bundle (R400, Table TDM-4). -/
def State.putHeader (s : State) (l : List (Nat × Nat)) : State :=
  (l.foldl (fun (s : State) e => s.setWord e.1 e.2) s).note fun b => { b with mem := b.mem ++ l }

/-- A configuration field that takes effect at sweep boundaries, as it stands in effect (R201, R232, R257). -/
def State.swGet (s : State) (f : Fld) : Nat := mapGet f.reset s.chn.eff f.key

/-- Registers whose writes take effect at sweep boundaries. -/
def sweepConfig (a : Nat) : Bool :=
  a == 0x60050014 || a == 0x60060000 || (decide (0x60060014 ≤ a ∧ a ≤ 0x60060028)) || a == 0x6006003C
    || (decide (0x60070010 ≤ a ∧ a ≤ 0x6007003C)) || a == 0x60070000

/-- The module sends sweeps: its sweep boundaries are its SYNCs; else they are the control ticks (Table SCP-4). -/
def State.sweeping (s : State) : Bool :=
  (s.flag CHN_CTRL.SWEEP_EN || s.cel.check.isSome) && s.chainUp && s.chn.syncAt.isSome

/-- EST configuration registers (Table EST-8). -/
def estConfig (a : Nat) : Bool := decide (0x60070010 ≤ a ∧ a ≤ 0x6007003C)

/-- A sweep boundary: the configuration as written takes effect (Table SCP-4) (log entry 49: DEDUCED). -/
def State.sweepBoundary (s : State) : State :=
  let eff := s.regs.filter fun e => sweepConfig (e.1 / 32)
  let m := s.get EST_CTRL.METHOD
  (s.mapChn fun x => { x with eff := eff }).mapEst fun x => { x with method := m }

/-! ### Parameter block (R235, Table EST-2) -/

/-- A list of halfwords of herd memory. -/
def State.halfs (s : State) (a n : Nat) : List Nat := (List.range n).map fun i => s.load 2 (a + 2 * i)

/-- A list does not fall. -/
def nondec (l : List Nat) : Bool :=
  match l with
  | [] => true
  | [_] => true
  | a :: b :: rest => decide (a ≤ b) && nondec (b :: rest)

/-- OCV rows of the block: the charge branch counts with BRANCHES = 1 only (Table EST-1). -/
def State.ocvOk (s : State) (p : Nat) : Bool :=
  let row (a r : Nat) : Bool := nondec (s.halfs (p + a + 202 * r) 101)
  (List.range 4).all (fun r => row 0x50 r)
    && (!(bit (s.load 2 (p + 2)) 0) || (List.range 4).all fun r => row 0x378 r)

/-- The first failed check of Table EST-2, 0 where every check passes. -/
def State.paramCode (s : State) : Nat :=
  let p := s.get EST_PBASE.ADDR
  let vsd := s.get EST_VEND.VSD
  let vco := s.get EST_VEND.VCO
  let vmin := s.get EST_VLIM.VMIN
  let vmax := s.get EST_VLIM.VMAX
  if p % 16 ≠ 0 ∨ p < 0x30300100 ∨ 0x30380000 < p + 0x770 then 1
  else if s.load 2 p ≠ 1 ∨ s.word (p + 4) ≠ 0x770 then 2
  else if crc32c (s.getBytes (p + 0xC) (0x770 - 0xC)) ≠ s.word (p + 8) then 3
  else if s.halfs (p + 0x10) 4 ≠ [enc 16 (-1000), 1000, 2500, 4500] then 4
  else if s.ocvOk p = false then 5
  else if (s.halfs (p + 0x18) 4 ++ s.halfs (p + 0x28) 4 ++ s.halfs (p + 0x30) 4
      ++ [s.load 2 (p + 0x46), s.get EST_CAPNOM.MAH]).contains 0 then 6
  else if vsd = 0 ∨ vco ≤ vsd ∨ vmin = 0 ∨ vmax ≤ vmin then 7
  else 0

/-- The block is checked and applied or refused (R235); the lanes then see the EST configuration as it was checked
(R257). -/
def State.paramCheck (s : State) : State :=
  let code := s.paramCode
  let s := (s.mapEst fun x => { x with apply := false }).set EST_STAT.PCODE code
  if code = 0 then
    let cfg := s.regs.filter fun e => estConfig (e.1 / 32)
    ((s.put EST_STAT.PARAM_OK true).set HRD_AUTOARG.ARG (s.get EST_PBASE.ADDR)).mapEst fun x => { x with cfg := cfg }
  else (s.put EST_FLT.PARAM_ERR true).raise 146

/-! ### Collection (R252) -/

/-- The nearest integer, ties away from zero (R7). -/
def roundQ (q : Rat) : Int := divRound q.num q.den

/-- A number in an unsigned format whose largest code is `hi` (R7). -/
def codeQ (hi : Nat) (q : Rat) : Nat := (clampI 0 hi (roundQ q)).toNat

/-- Publish slot `k` is valid for sweep `sw`. -/
def State.slotOk (s : State) (k sw : Nat) : Bool :=
  let w := s.word (slotWord k + 4)
  bit w 15 && decide (bits w 16 16 = sw % 2 ^ 16)

/-- Word 0 of slot `k` as an integer, toward zero (R252; a NaN gives 0, log entry 60: DESIGN CHOICE). -/
def State.slotInt (s : State) (k : Nat) : Int := fpTrunc (s.word (slotWord k))

/-- The cell of the lane that slot `k` names. -/
def State.slotCell (s : State) (k : Nat) : Nat :=
  (s.cellOfLane (bits (s.word (slotWord k + 4)) 0 9)).getD 0

/-- A charge or discharge limit clamped and written (R252 step 3). -/
def State.limit (s : State) (f : Fld) (v lo hi : Int) : State := s.seti f (clampI lo hi v)

/-- The record of a served cell carries sweep `sw` (R238). -/
def State.stampOk (s : State) (l sw : Nat) : Bool :=
  decide (s.word (laneAddr l 0x24) % 2 ^ 16 = sw % 2 ^ 16)

/-- The string's usable SoC from the lowest and the highest (R248). -/
def usoc (lo hi : Nat) : Nat :=
  if lo + 65535 - hi = 0 then 0 else (divRound ((lo * 65535 : Nat) : Int) (lo + 65535 - hi)).toNat

/-- E0 and E100 of the cell that lane `l` serves (R247): those of the reference estimator's working store; the lane record
has no place for them, so another lane program gives free values (log entry 61: DESIGN CHOICE). -/
def State.ends (s : State) (l : Nat) : Nat × Nat × State :=
  match if s.est.reference then s.est.lanes.find? fun e => e.1 = l else none with
  | some e => (codeQ 65535 (e.2.e0 * 65535), codeQ 65535 (e.2.e1 * 65535), s)
  | none =>
    let (e0, s) := s.draw 16
    let (e1, s) := s.draw 16
    (e0, e1, s)

/-- Step 6 of R252 for one cell (log entry 75: DEDUCED). -/
def State.collectCell (s : State) (sw cell l : Nat) : State :=
  if s.stampOk l sw = false then s.put EST_FLT.STAMP true
  else
    let fl := s.load 2 (laneAddr l 0x26)
    let so := s.word (laneAddr l 0x28)
    let sg := s.word (laneAddr l 0x2C)
    let s := (s.set (EST_SOC.SOC cell) so).set (EST_SOC.USOC cell) (so / 2 ^ 16)
    let s := (s.set (EST_CST.PLAT cell) (sg / 2 ^ 16)).set (EST_CST.SIG cell)
      (min 255 (divRound ((sg % 2 ^ 16 : Nat) : Int) 10).toNat)
    let s := s.set (EST_CST.FLAGS cell) fl
    let (e0, e1, s) := s.ends l
    let s := (s.set (EST_END.E0 cell) e0).set (EST_END.E100 cell) e1
    let s := (s.bump EST_ANCHCNT.A (b2n (bit fl 0))).bump EST_ANCHCNT.B (b2n (bit fl 1))
    let s := s.when (bit fl 5) fun s => s.put EST_FLT.FRESET true
    s.when (bit fl 4) fun s => s.put EST_FLT.TFALL true

/-- FLAGS of the record of lane `l`, 0 where its stamp fails. -/
def State.laneFlags (s : State) (sw l : Nat) : Nat :=
  if s.stampOk l sw then s.load 2 (laneAddr l 0x26) else 0

/-! ### Learning (R275) -/

/-- What one cell's learning words change. -/
def State.learnCell (s : State) (cell l : Nat) : State :=
  let w := s.word (laneAddr l 0x4C)
  let fl := w % 2 ^ 16
  let seq := w / 2 ^ 16
  let s := (List.range 8).foldl (fun (s : State) i =>
    s.set (EST_LED.WORD (8 * cell + i)) (s.word (laneAddr l (0x60 + 4 * i)))) s
  let z := s.word (laneAddr l 0x58)
  let s := (s.set (EST_ZR.RHF cell) z).set (EST_ZR.RLF cell) (z / 2 ^ 16)
  let was := s.bitOf (EST_SUSP.BITS (cell / 32)) (cell % 32)
  let s := s.set (EST_SUSP.BITS (cell / 32)) (putBit (s.get (EST_SUSP.BITS (cell / 32))) (cell % 32) (bit fl 3))
  let s := s.when (bit fl 3 && !was) fun s => s.put EST_LFLT.SUSPECT true
  let last := mapGet 0 s.est.lseq cell
  let s := s.when (decide (last ≠ 0 ∧ last ≠ seq + 1)) fun s => s.setBitOf EST_LDIRTY.BLOCKS (cell / 16)
  let s := s.mapEst fun x => { x with lseq := mapSet 0 x.lseq cell (seq + 1) }
  let s := s.when (bit fl 0) fun s => (s.bump EST_CAPCNT.ACC 1).put EST_LFLT.CAP_ACC true
  let s := s.when (bit fl 1) fun s => (s.bump EST_CAPCNT.REJ 1).put EST_LFLT.CAP_REJ true
  let s := s.when (bit fl 4) fun s => s.put EST_LFLT.FORGOT true
  s.when (bit fl 8) fun s => s.put EST_LFLT.LCB_BAD true

/-- EST_LASTCAP.RESULT of a cell (Table LRN-9): as the reference estimator decided (R264). Of another program's rejection
the learning words do not tell the kind: it is for range where the measured capacity is positive and lies more than 15 %
off the learned one, else for sign or error bound (log entry 62: DEDUCED). -/
def State.capResult (s : State) (l fl : Nat) : Nat :=
  if bit fl 0 then 1
  else
    match if s.est.reference then s.est.lanes.find? fun e => e.1 = l else none with
    | some e => e.2.result
    | none =>
      let cm := s.word (laneAddr l 0x50)
      let c := s.word (laneAddr l 0x60)
      if cm ≠ 0xFFFFFFFF ∧ cm ≠ 0 ∧ 15 * c < 100 * ((cm : Int) - c).natAbs then 2 else 3

/-- R275 over the served cells whose stamp matches, cell rising (log entry 62: DEDUCED). -/
def State.learnCollect (s : State) (sw : Nat) : State :=
  let cells := s.cel.map.filter fun e => s.stampOk (layLane e.2) sw
  let flags (e : Nat × Nat) : Nat := s.load 2 (laneAddr (layLane e.2) 0x4C)
  let susp (e : Nat × Nat) : Bool :=
    bit (flags e) 3 && !(s.bitOf (EST_SUSP.BITS (e.1 / 32)) (e.1 % 32))
  let newSusp := cells.any susp
  let learned := cells.any fun e => bit (flags e) 0 || bit (flags e) 2 || bit (flags e) 4
  let lcb := cells.any fun e => bit (flags e) 8
  let xact := cells.any fun e => bit (flags e) 7
  let last := cells.find? fun e => bit (flags e) 0 || bit (flags e) 1
  let s' := match last with
    | some e => ((s.set EST_LASTCAP.CELL e.1).set EST_LASTCAP.RESULT
        (s.capResult (layLane e.2) (flags e))).set EST_LASTCAPM.MAH (s.word (laneAddr (layLane e.2) 0x50))
    | none => s
  let s := cells.foldl (fun (s : State) e => s.learnCell e.1 (layLane e.2)) s'
  let s := ((s.put EST_LSTAT.LVALID true).put EST_LSTAT.LCB_BAD lcb).put EST_LSTAT.XACT xact
  let n := ((List.range 512).filter fun c => s.bitOf (EST_SUSP.BITS (c / 32)) (c % 32)).length
  let s := s.set EST_LSTAT.NSUSP n
  let s := s.when learned fun s => s.raise 147
  s.when newSusp fun s => s.raise 148

/-! ### Valid and missing results (R252, R253) -/

/-- Results of sweep `sw` are valid: slots 0 to 8 (R252). -/
def State.resultsValid (s : State) (sw : Nat) : Bool := (List.range 9).all fun k => s.slotOk k sw

/-- A sweep without valid results (R253). -/
def State.estMissing (s : State) : State :=
  let old := s.get EST_STAT.MISSRUN
  let n := min 15 (old + 1)
  let s := ((s.set EST_STAT.MISSRUN n).put EST_STAT.LIMHOLD true).put EST_STAT.VALID false
  let s := s.put EST_LSTAT.LVALID false
  let s := s.when (s.flag PRT_STAT.CHGINH) fun s => s.set EST_ISTRCH.MA 0
  let s := s.when (s.flag PRT_STAT.DCHINH) fun s => s.set EST_ISTRDC.MA 0
  let hold := s.swGet EST_LIMCFG.HOLD
  if old < hold ∧ hold ≤ n then
    (((s.set EST_ISTRCH.MA 0).set EST_ISTRDC.MA 0).put EST_STAT.LIMLOST true |>.put EST_FLT.LIMLOST
      true).raise 145
  else s

/-- Charge limits of slots 0 to 2, discharge limits of slots 3 to 5, halved while ILIM50 (R252). -/
def State.slotLimit (s : State) (k : Nat) : Int :=
  let v := s.slotInt k
  let v := if s.flag CEL_STAT.ILIM50 then Int.tdiv v 2 else v
  if k < 3 then clampI 0 (sgn 32 (s.swGet EST_ILIMCH.MA)) v
  else clampI (sgn 32 (s.swGet EST_ILIMDC.MA)) 0 v

/-- Steps 1 to 6 of R252, then R275 and R272. -/
def State.estCollect (s : State) (sw : Nat) : State :=
  let lim (k : Nat) : Int := s.slotLimit k
  let hor := s.swGet EST_LIMCFG.HOR
  let chg : Bool := s.flag PRT_STAT.CHGINH
  let dch : Bool := s.flag PRT_STAT.DCHINH
  let s1 := ((s.seti EST_SCH2.MA (lim 0)).seti EST_SCH10.MA (lim 1)).seti EST_SCH30.MA (lim 2)
  let s1 := ((s1.seti EST_SDC2.MA (lim 3)).seti EST_SDC10.MA (lim 4)).seti EST_SDC30.MA (lim 5)
  let s1 := (s1.seti EST_ISTRCH.MA (if chg then 0 else lim hor)).seti EST_ISTRDC.MA
    (if dch then 0 else lim (3 + hor))
  let lo := (clampI 0 65535 (s.slotInt 6)).toNat
  let hi := (clampI 0 65535 (s.slotInt 7)).toNat
  let s1 := (s1.set EST_USOCMIN.CELL (s.slotCell 6)).set EST_USOCMIN.USOC lo
  let s1 := (s1.set EST_USOCMAX.CELL (s.slotCell 7)).set EST_USOCMAX.USOC hi
  let s1 := (s1.set EST_PLATMIN.CELL (s.slotCell 8)).seti EST_PLATMIN.PLAT
    (clampI (-32767) 32767 (s.slotInt 8))
  let s1 := ((s1.set EST_USOC.SOC (usoc lo hi)).put EST_USOC.VALID true).put EST_USOC.SPLIT
    (decide (lo = 0 ∧ hi = 65535))
  let s1 := s1.set EST_SWEEP.SWEEP sw
  let anch := s.cel.map.any fun e => s.laneFlags sw (layLane e.2) % 4 ≠ 0
  let s2 := s.cel.map.foldl (fun (s : State) e => s.collectCell sw e.1 (layLane e.2)) s1
  let s2 := s2.when anch fun s => s.raise 144
  let s2 := ((s2.set EST_STAT.MISSRUN 0).put EST_STAT.LIMHOLD false).put EST_STAT.LIMLOST false
  let s2 := ((s2.put EST_STAT.FROZEN false).put EST_STAT.RETAINED false).put EST_STAT.VALID true
  let s3 := s2.learnCollect sw
  s3.when (s.slotOk 9 sw) fun s3 => s3.set EST_XNEED.N (clampI 0 1023 (s.slotInt 9)).toNat

/-- The CEL block keeps the lane words 0x020 of sweep `sw` (R215). -/
def State.keepPred (s : State) (sw : Nat) : State :=
  let kept := s.cel.map.filterMap fun e =>
    if s.stampOk (layLane e.2) sw then some (e.1, s.word (laneAddr (layLane e.2) 0x20)) else none
  s.mapCel fun x => { x with pred := kept, predOf := some sw }

/-- The automatic job of sweep `sw` has ended: with STATUS 0x0 the predictions are kept and the results
collected, otherwise they are missing. -/
def State.autoEnded (s : State) (sw status : Nat) : State :=
  if status ≠ 0 then (s.mapCel fun x => { x with pred := [], predOf := none }).estMissing
  else
    let s := s.keepPred sw
    if s.resultsValid sw then s.estCollect sw else s.estMissing

/-! ### Register rows and events -/

/-- A write of 1 to EST_CMD.PARAM_APPLY (R235): at once while AUTO_EN = 0, else at the next SYNC. -/
def State.paramApply (s : State) : State :=
  if s.flag HRD_CTRL.AUTO_EN then s.mapEst fun x => { x with apply := true } else s.paramCheck

/-- A write of EST_CTRL (R246): METHOD = 0 in Gallop is ignored. -/
def State.estCtrl (s : State) (v : Nat) : State :=
  let s := (s.put EST_CTRL.B_EN (bit v 3)).put EST_CTRL.A_EN (bit v 2)
  if bit v 0 = false ∧ s.gait = Gait.gallop then s.put EST_FLT.METHOD_REF true
  else s.put EST_CTRL.METHOD (bit v 0)

/-- A write of EST_LSNAP (R277). -/
def State.lsnapReq (s : State) (v : Nat) : State :=
  let s := s.set EST_LSNAP.BLOCK (bits v 0 5)
  if bit v 8 then
    (s.put EST_LSNAP.DONE false).mapEst fun x => { x with snap := some (bits v 0 5) }
  else s

/-- PARAM_CHECK (R235): at the next SYNC instant. -/
def execParamCheck (s : State) : Host.Outcome State Fault Refusal :=
  .next (if s.est.apply then s.paramCheck else s)

/-- LIMIT_HOLD_EXPIRY (R253): MISSRUN has reached HOLD. -/
def execLimitHoldExpiry (s : State) : Host.Outcome State Fault Refusal :=
  .next (if s.swGet EST_LIMCFG.HOLD ≤ s.get EST_STAT.MISSRUN ∧ s.flag EST_STAT.LIMLOST = false then
    (((s.set EST_ISTRCH.MA 0).set EST_ISTRDC.MA 0).put EST_STAT.LIMLOST true |>.put EST_FLT.LIMLOST
      true).raise 145
  else s)

/-- LEDGER_SNAPSHOT (R277): at a sweep boundary with valid results. -/
def execLedgerSnapshot (s : State) : Host.Outcome State Fault Refusal :=
  .next (match s.est.snap with
    | none => s
    | some b =>
      if s.flag EST_STAT.VALID = false then s
      else
        let s := (List.range 128).foldl (fun (s : State) i =>
          s.set (EST_LSNAPBUF.WORD i) (s.get (EST_LED.WORD (128 * b + i)))) s
        let s := (s.set EST_LSNAPSW.SWEEP (s.get EST_SWEEP.SWEEP)).put EST_LSNAP.DONE true
        s.mapEst fun x => { x with snap := none })

end Sys2Proof.Machine
end

