-- ==== Sys2Proof/Machine/Prt.lean ====
section
/-! DEFINITION. The PRT block: commit of the protection set, its copies, the comparisons of Table PRT-1,
temperature inhibits, the sweep watchdog (R280-R287). -/

namespace Sys2Proof.Machine
open Sys2Proof Sys2Proof.Reg

/-! ### Frames that leave the module -/

/-- CHN_TAGSTAT follows the transactions in flight: chx, and those of the engine, which are sweep reads, PINGs, ENUM and
its other requests (R187, R200). -/
def State.tagStat (s : State) : State :=
  (s.set CHN_TAGSTAT.CHXN s.chn.chx.length).set CHN_TAGSTAT.ENGN
    (min 64 (s.chn.reads.length + s.chn.pingOn.length + s.chn.eng.length))

/-- A request of the engine that awaits a response leaves (R187). -/
def State.sendReq (s : State) (port : Nat) (f : Frame) : State :=
  let k := (f.addr, f.cmd)
  let s := s.mapChn fun x => { x with eng := (x.eng.filter (· ≠ k)) ++ [k] }
  (s.sendFrame port f).tagStat

/-- The request of command `cmd` to `addr` has ended. -/
def State.reqEnd (s : State) (addr cmd : Nat) : State :=
  (s.mapChn fun x => { x with eng := x.eng.filter (· ≠ (addr, cmd)) }).tagStat

/-- WRITE_REG of words from `index` on (Table CHN-6). -/
def writeRegFrame (tag addr index : Nat) (ws : List Nat) : Frame :=
  ⟨tag, addr, 6, [index, ws.length] ++ ws.flatMap (leBytes 4)⟩

/-- VTH and FCFG as the active set gives them (R285). -/
def State.unitLevels (s : State) : List Nat := [s.prt.active.getD 2 0, s.act PRT_INT.DEB]

/-- The broadcast of the unit levels, tag 0x00, both ports (R285). -/
def State.castLevels (s : State) : State :=
  if s.flag PRT_STAT.VALID ∧ s.chainUp = true then
    s.sendFrame 3 (writeRegFrame 0 0x3F 0x06 s.unitLevels)
  else s

/-! ### Commit (R284, Table PRT-2) -/

/-- The 13 staged words in offset order. -/
def State.stagedSet (s : State) : List Nat := (List.range 13).map fun i => s.regWord (0x60080000 + 4 * i)

/-- A field of the staged set as a temperature. -/
def State.temp (s : State) (f : Fld) : Int := sgn 16 (s.get f)

/-- The first failed check of Table PRT-2, 0 where every check passes (log entry 39: DEDUCED). -/
def State.prtCode (s : State) : Nat :=
  let ovw := s.get PRT_CELL_OV.WARN
  let ovt := s.get PRT_CELL_OV.TRIP
  let uvw := s.get PRT_CELL_UV.WARN
  let uvt := s.get PRT_CELL_UV.TRIP
  let ovth := s.get PRT_UNIT_VTH.OVTH
  let uvth := s.get PRT_UNIT_VTH.UVTH
  let top := 71250000 / s.get HVM_SHUNT.R
  let fc := s.get PRT_OC_FAST.CHG
  let fd := s.get PRT_OC_FAST.DCH
  let edge (v : Nat) : Bool := decide (v = 0 ∨ v = 0xFFFF)
  let window (lo hi : Fld) : Bool :=
    decide (-4000 ≤ s.temp lo ∧ s.temp lo < s.temp hi ∧ s.temp hi ≤ 8500)
  let i2t (ic k : Fld) (fast : Nat) : Bool :=
    decide (1 ≤ s.get ic ∧ s.get ic < fast ∧ 1 ≤ s.get k)
  if !decide (uvt < uvw ∧ uvw < ovw ∧ ovw < ovt) || [ovw, ovt, uvw, uvt].any edge then 1
  else if !decide (ovt ≤ ovth ∧ uvth ≤ uvt) || edge ovth || edge uvth then 2
  else if !decide (0 < s.get PRT_STR_UV.MV ∧ s.get PRT_STR_UV.MV < s.get PRT_STR_OV.MV
      ∧ s.get PRT_STR_OV.MV ≤ 1750000) then 3
  else if !decide (1 ≤ fc ∧ fc ≤ top ∧ 1 ≤ fd ∧ fd ≤ top) then 4
  else if !(i2t PRT_I2T_CHG.ICONT PRT_I2T_CHG.K fc && i2t PRT_I2T_DCH.ICONT PRT_I2T_DCH.K fd) then 5
  else if !(window PRT_TWIN_CHG.LOW PRT_TWIN_CHG.HIGH && window PRT_TWIN_DCH.LOW PRT_TWIN_DCH.HIGH) then 6
  else if !decide (10 ≤ s.get PRT_ISO.TRIP ∧ s.get PRT_ISO.TRIP < s.get PRT_ISO.WARN
      ∧ s.get PRT_ISO.WARN ≤ 50000) then 7
  else if !decide (20 ≤ s.get PRT_SWDOG.TMO ∧ s.get PRT_SWDOG.TMO ≤ 1000
      ∧ 1 ≤ s.get PRT_INT.HBTMO ∧ s.get PRT_INT.HBTMO ≤ 100 ∧ 1 ≤ s.get PRT_INT.DEB) then 8
  else 0

/-- CRC-32C over the active words in offset order (R284). -/
def setCrc (w : List Nat) : Nat := crc32c (w.flatMap (leBytes 4))

/-- The event record PRT_COMMIT (Table NVM-9). -/
def State.commitRecord (s : State) (old : Nat) : State :=
  s.hwRecord 0x0010 5 (leBytes 4 old ++ leBytes 4 (s.get PRT_CRC.CRC)
    ++ leBytes 4 (s.get PRT_COMMITSW.SWEEP) ++ leBytes 4 (s.get PRT_STAT.RCODE))

/-- The staged set is checked and made active, or refused (R284-R286). A commit writes every copy, so
that COPY_OK reads 1 after it and standing mismatches end (log entry 70: DEDUCED) (log entry 39: DEDUCED). -/
def State.prtCommit (s : State) : State :=
  let code := s.prtCode
  let old := s.get PRT_CRC.CRC
  let s := (s.put PRT_STAT.PEND false).set PRT_STAT.RCODE code
  if code ≠ 0 then ((s.put PRT_FLT.REJECT true).raise 25).commitRecord old
  else
    let w := s.stagedSet
    let t := s.nowUs + 2000
    let s := s.mapPrt fun x => { x with
      active := w, suspend := t, crbBad := 0, hvBad := 0, again := none, bad := 0 }
    let s := ((s.set PRT_CRC.CRC (setCrc w)).set PRT_COMMITSW.SWEEP (s.get CHN_SWEEP.SWEEP)).put
      PRT_STAT.VALID true
    let s := (s.put PRT_STAT.COPY_OK true).markLame LameCause.copy false
    (((s.castLevels).raise 25).commitRecord old).curbReady

/-- PRT_COMMIT (R284): at the SYNC instant, or within one tick while sweeps are off. -/
def execPrtCommit (s : State) : Host.Outcome State Fault Refusal :=
  .next (if s.flag PRT_STAT.PEND then s.prtCommit else s)

/-! ### Copies (R286) -/

/-- A copy mismatch: bit 0 curb, 1 HV, 2 unit. Lame, then cause COPY, then the gait controller's REQ_SRS (R286, R305,
Tables CRB-1 and PRT-3) (log entry 70: DEDUCED). -/
def State.copyMismatch (s : State) (b : Nat) : State :=
  let f := if b = 0 then PRT_FLT.COPY_CRB else if b = 1 then PRT_FLT.COPY_HVM else PRT_FLT.COPY_UNIT
  let s := ((s.mapPrt fun x => { x with bad := setBit x.bad b }).put f true).put PRT_STAT.COPY_OK false
  let s := (s.raiseD 26).forceLame LameCause.copy false
  let s := s.curbCause Cause.copy .srs false
  (if 2 ≤ s.gait then s.gaitSrs else s).redrive

/-- Comparisons run: a set is active and 2 ms have passed since the commit. -/
def State.copyChecked (s : State) : Bool := s.flag PRT_STAT.VALID && decide (s.prt.suspend ≤ s.nowUs)

/-- CRB_COPY_CHECK (R286): `agree` where the CRC of the curb copy equals PRT_CRC. -/
def execCrbCopyCheck (agree : Bool) (s : State) : Host.Outcome State Fault Refusal :=
  .next (if s.copyChecked = false then s
    else
      let was := s.prt.crbBad
      let n := if agree then 0 else min 2 (was + 1)
      let s := s.mapPrt fun x => { x with crbBad := n }
      if n = 2 ∧ was < 2 then s.copyMismatch 0 else s)

/-- HV_COPY_ECHO (R286): `agree` where the echoed CRC is that of the fast levels sent. -/
def execHvCopyEcho (agree : Bool) (s : State) : Host.Outcome State Fault Refusal :=
  .next (if s.copyChecked = false then s
    else
      let was := s.prt.hvBad
      let n := if agree then 0 else min 2 (was + 1)
      let s := s.mapPrt fun x => { x with hvBad := n }
      if n = 2 ∧ was < 2 then s.copyMismatch 1 else s)

/-- Route of a unit: 0 none, 1 low end, 2 high end. -/
def State.route (s : State) (u : Nat) : Nat :=
  if 1 ≤ u ∧ u ≤ 32 then s.get (CHN_USTAT.ROUTE u) else 0

/-- The unit whose levels are read back in the sweep that starts: the one that disagreed, once more; else the next named
unit (R286). -/
def State.readBackNext (s : State) : Option (Nat × Bool) :=
  match s.prt.again with
  | some u => some (u, true)
  | none =>
    match s.namedUnits.find? fun u => s.prt.rbLast < u with
    | some u => some (u, false)
    | none => s.namedUnits.head?.map fun u => (u, false)

/-- The unit of the present sweep's read-back, and whether it is its second. -/
def State.readBackUnit (s : State) : Option Nat := s.prt.rbNow.map (·.1)

/-- The READ_REG of VTH and FCFG follows the unit's READ_BLOCK, with tag u − 1 (R286). -/
def State.sendReadBack (s : State) (u : Nat) : State :=
  if s.readBackUnit = some u ∧ s.flag PRT_STAT.VALID ∧ s.chainUp = true ∧ s.chn.eng.contains (u, 5) = false then
    s.sendReq (s.route u) ⟨u - 1, u, 5, [0x06, 2]⟩
  else s

/-- UNIT_COPY_READBACK (R286): a first disagreement is written again by unicast and read back once more,
a second is a copy mismatch. Read-backs compare against the active set always. -/
def execUnitCopyReadback (u : BitVec 6) (vth fcfg : Word) (s : State) : Host.Outcome State Fault Refusal :=
  let s := s.mapChn fun x => { x with out := [] }
  .next (match s.prt.rbNow with
    | none => s
    | some (v, second) =>
      if s.flag PRT_STAT.VALID = false ∨ v ≠ u.toNat then s
      else
        let agree : Bool := decide ([vth.toNat, fcfg.toNat] = s.unitLevels)
        let s := (s.mapPrt fun x => { x with rbNow := none }).reqEnd v 5
        if agree then s
        else if second then s.copyMismatch 2
        else
          (s.mapPrt fun x => { x with again := some v }).sendReq (s.route v)
            (writeRegFrame (v - 1) v 0x06 s.unitLevels))

/-! ### Cell comparators (Table PRT-1, R220) -/

/-- A value that the comparators see: the cells it speaks for, the value in 100 µV, the multiple of the
cell levels it is compared with. -/
structure CmpVal where
  cell : Nat
  v : Nat
  mult : Nat
  deriving DecidableEq, Repr

/-- `l` with `c` present or absent, rising. -/
def listPut (l : List Nat) (c : Nat) (on : Bool) : List Nat :=
  let rest := l.filter fun x => x ≠ c
  if on then (rest.filter (· < c)) ++ c :: (rest.filter (c < ·)) else rest

/-- Cells of a set that are now beyond the level. -/
def beyond (l : List Nat) (vs : List CmpVal) (p : CmpVal → Bool) : List Nat :=
  vs.foldl (fun acc x => listPut acc x.cell (p x)) l

/-- TCELL lies outside a window of the active set. -/
def State.outside (s : State) (t : Int) (lo hi : Fld) : Bool :=
  decide (t < sgn 16 (s.act lo)) || decide (sgn 16 (s.act hi) < t)

/-- Outside both windows: below the lower LOW or above the higher HIGH (Table PRT-1). -/
def State.outsideBoth (s : State) (t : Int) : Bool :=
  decide (t < min (sgn 16 (s.act PRT_TWIN_CHG.LOW)) (sgn 16 (s.act PRT_TWIN_DCH.LOW)))
    || decide (max (sgn 16 (s.act PRT_TWIN_CHG.HIGH)) (sgn 16 (s.act PRT_TWIN_DCH.HIGH)) < t)

/-- A fresh frame beyond a trip level acts (R191, R280): CHN_FLT.CMP_TRIP and source 70 where the comparator had not
tripped on a cell of it, and the cause then or while the curb logic is READY. `hit`: cells of the frame beyond it. -/
def State.cmpTrip (s : State) (was hit : List Nat) (code : Nat) (a : Stop) : State :=
  let new : Bool := hit.any fun c => !(was.contains c)
  let s := s.when new fun s => (s.put CHN_FLT.CMP_TRIP true).raise 70
  if new || (decide (s.curb = Curb.ready) && !hit.isEmpty) then s.curbCause code a false else s

/-- The chain comparators act on a fresh frame (R191, R280): `vs` the values, `ts` the temperatures. -/
def State.compareFrame (s : State) (vs : List CmpVal) (ts : List (Nat × Option Int)) : State :=
  if s.flag PRT_STAT.VALID = false then s
  else
    let ovt := s.act PRT_CELL_OV.TRIP
    let uvt := s.act PRT_CELL_UV.TRIP
    let ovw := s.act PRT_CELL_OV.WARN
    let uvw := s.act PRT_CELL_UV.WARN
    let ov := beyond s.crb.cmpOv vs fun x => decide (x.mult * ovt ≤ x.v)
    let uv := beyond s.crb.cmpUv vs fun x => decide (x.v ≤ x.mult * uvt)
    let tt := ts.foldl (fun acc e => match e.2 with
      | some t => listPut acc e.1 (s.outsideBoth t)
      | none => acc) s.crb.cmpT
    let wov : Bool := vs.any fun x => decide (x.mult * ovw ≤ x.v)
    let wuv : Bool := vs.any fun x => decide (x.v ≤ x.mult * uvw)
    let was := s.crb
    let fresh := uv.filter fun c => !(was.cmpUv.contains c)
    let s := s.mapCrb fun x => { x with
      cmpOv := ov, cmpUv := uv, cmpT := tt
      uvCells := fresh.foldl (fun l c => listPut l c true) x.uvCells }
    let newOv := wov && !(s.flag PRT_STAT.WARN_OV)
    let newUv := wuv && !(s.flag PRT_STAT.WARN_UV)
    let s := s.mapPrt fun x => { x with warnOv := x.warnOv || wov, warnUv := x.warnUv || wuv }
    let s := (s.put PRT_STAT.WARN_OV (s.flag PRT_STAT.WARN_OV || wov)).put PRT_STAT.WARN_UV
      (s.flag PRT_STAT.WARN_UV || wuv)
    let s := s.when (newOv || newUv) fun s => (s.put PRT_FLT.CELL_WARN true).raiseD 24
    let mine (l : List Nat) (p : List Nat) : List Nat := l.filter fun c => p.contains c
    let s := s.cmpTrip was.cmpOv (mine ov (vs.map (·.cell))) Cause.cmpOv .sii
    let s := s.cmpTrip was.cmpUv (mine uv (vs.map (·.cell))) Cause.cmpUv .srs
    let s := s.cmpTrip was.cmpT (mine tt (ts.map (·.1))) Cause.cmpT .srs
    let at_ := s.nowUs
    s.mapPrt fun x => ts.foldl (fun (x : PrtSt) e => match e.2 with
      | some t => { x with
          tSeen := mapSet 0 x.tSeen e.1 at_
          outC := x.outC || s.outside t PRT_TWIN_CHG.LOW PRT_TWIN_CHG.HIGH
          outD := x.outD || s.outside t PRT_TWIN_DCH.LOW PRT_TWIN_DCH.HIGH }
      | none => x) x

/-! ### Inhibits (R282) -/

/-- Some mapped cell's TCELL has been not available for 60 s. -/
def State.tempLost (s : State) : Bool :=
  s.cel.map.any fun e => decide (mapGet 0 s.prt.tSeen e.1 + 60000000 ≤ s.nowUs)

/-- The current judged against an inhibit in one direction: model time at which it began, and whether its
source has been raised in this span. -/
def State.judgeInhibit (s : State) (holds : Bool) (since : Option Nat) (raised : Bool) :
    Option Nat × Bool × Bool :=
  if holds = false then (none, false, false)
  else
    let t := since.getD s.nowUs
    let now : Bool := !raised && decide (t + 1000000 ≤ s.nowUs)
    (some t, raised || now, now)

/-- The PRT part of a sweep's post (R282): inhibits, limits at 0, current against an inhibit, warn flags
as the sweep leaves them. `iavg` is IAVG of the sweep header. -/
def State.prtSweep (s : State) (iavg : Option Int) : State :=
  if s.flag PRT_STAT.VALID = false then s
  else
    let lost := s.tempLost
    let c := s.prt.outC || lost
    let d := s.prt.outD || lost
    let s := s.when (c && !(s.flag PRT_STAT.CHGINH)) fun s => s.set EST_ISTRCH.MA 0
    let s := s.when (d && !(s.flag PRT_STAT.DCHINH)) fun s => s.set EST_ISTRDC.MA 0
    let s := (s.put PRT_STAT.CHGINH c).put PRT_STAT.DCHINH d
    let s := (s.put PRT_STAT.WARN_OV s.prt.warnOv).put PRT_STAT.WARN_UV s.prt.warnUv
    let hc : Bool := c && (match iavg with | some i => decide (2000 < i) | none => false)
    let hd : Bool := d && (match iavg with | some i => decide (i < -2000) | none => false)
    let (ca, cr, c22) := s.judgeInhibit hc s.prt.chgAt s.prt.chgRaised
    let (da, dr, d23) := s.judgeInhibit hd s.prt.dchAt s.prt.dchRaised
    let s := s.mapPrt fun x => { x with chgAt := ca, chgRaised := cr, dchAt := da, dchRaised := dr }
    let s := s.when c22 fun s => (s.put PRT_FLT.TWIN_CHG true).raiseD 22
    s.when d23 fun s => (s.put PRT_FLT.TWIN_DCH true).raiseD 23

/-- A sweep starts: the accumulations of its frames begin, and its read-back takes the next unit, answered or not
(R286). -/
def State.prtSync (s : State) : State :=
  let next := s.readBackNext
  s.mapPrt fun x => { x with
    warnOv := false, warnUv := false, outC := false, outD := false, rbNow := next, again := none
    rbLast := match next with
      | some (u, _) => u
      | none => x.rbLast }

/-! ### I²t, string levels, insulation (R281, R283) -/

/-- 1000 · K in units of mA² per protection sample: 10^9 · K A²·s · 256,000 samples per s · 10^3 (log entry 66:
DESIGN CHOICE). -/
def i2tFull (k : Nat) : Nat := k * 1000 * 1000000 * 256000

/-- An I²t accumulator as a share of K in 0.01 %, saturating; 0 without a set (log entry 66: DESIGN CHOICE) (log
entry 38: DEDUCED). -/
def i2tShare (acc k : Nat) : Nat := if k = 0 then 0 else min 65535 (acc * 10000 / i2tFull k)

/-- The I²t function on a valid protection sample of `i` mA (R281) (log entry 38: DEDUCED). -/
def State.i2t (s : State) (i : Int) : State :=
  if s.flag PRT_STAT.VALID = false then s
  else
    let step (acc : Nat) (m : Nat) (ic : Nat) : Nat := acc + m * m - (1000 * ic) * (1000 * ic)
    let a := s.prt.accC
    let d := s.prt.accD
    let a' := step a (if 0 ≤ i then i.toNat else 0) (s.act PRT_I2T_CHG.ICONT)
    let d' := step d (if i ≤ 0 then i.natAbs else 0) (s.act PRT_I2T_DCH.ICONT)
    let kc := s.act PRT_I2T_CHG.K
    let kd := s.act PRT_I2T_DCH.K
    let s := s.mapPrt fun x => { x with accC := a', accD := d' }
    let s := (s.set PRT_I2TSTAT.CHG (i2tShare a' kc)).set PRT_I2TSTAT.DCH (i2tShare d' kd)
    let s := s.when (decide (a < i2tFull kc ∧ i2tFull kc ≤ a')) fun s =>
      (s.put PRT_FLT.I2T_CHG true).raiseD 19
    s.when (decide (d < i2tFull kd ∧ i2tFull kd ≤ d')) fun s => (s.put PRT_FLT.I2T_DCH true).raiseD 20

/-- The string levels against VBAT of a fine sample (Table PRT-1, R283). -/
def State.stringCheck (s : State) (vbat : Option Nat) : State :=
  match vbat with
  | none => (s.put PRT_STAT.SVINV true).mapPrt fun x => { x with ovRun := 0, uvRun := 0 }
  | some v =>
    let s := s.put PRT_STAT.SVINV false
    if s.flag PRT_STAT.VALID = false then s
    else
      let ov := if s.act PRT_STR_OV.MV ≤ v then min 17 (s.prt.ovRun + 1) else 0
      let uv := if v ≤ s.act PRT_STR_UV.MV then min 17 (s.prt.uvRun + 1) else 0
      let s := s.mapPrt fun x => { x with ovRun := ov, uvRun := uv }
      let s := s.when (decide (ov = 16)) fun s => (s.put PRT_FLT.STR_OV true).raiseD 17
      s.when (decide (uv = 16)) fun s => (s.put PRT_FLT.STR_UV true).raiseD 18

/-- The insulation levels against a valid result (Table PRT-1): source 21 when it falls below TRIP. -/
def State.isoCompare (s : State) (k : Nat) (below above : Bool) : State :=
  if s.flag PRT_STAT.VALID = false then s
  else
    let under (f : Fld) : Bool := below || (!above && decide (k < s.act f))
    let was := s.flag PRT_STAT.ISO_TRIP
    let trip := under PRT_ISO.TRIP
    let s := (s.put PRT_STAT.ISO_WARN (under PRT_ISO.WARN)).put PRT_STAT.ISO_TRIP trip
    s.when (trip && !was) fun s => (s.put PRT_FLT.ISO_TRIP true).raiseD 21

/-! ### Sweep watchdog (Table CRB-1) -/

/-- SWEEP_WATCHDOG_EXPIRY: no complete sweep for TMO ms while DO12 or DO13 is on. -/
def execSweepWatchdogExpiry (s : State) : Host.Outcome State Fault Refusal :=
  .next (if s.mainOn = true ∧ s.flag PRT_STAT.VALID ∧ bit (s.get CRB_INPUT.CAUSES) (Cause.swdog - 1) = false ∧
      max s.prt.fullAt s.crb.mainAt + 1000 * s.act PRT_SWDOG.TMO ≤ s.nowUs then
    (s.setBitOf CRB_INPUT.CAUSES (Cause.swdog - 1)).curbCause Cause.swdog .srs false
  else s)

/-- A sweep with MISSING = 0 ends the condition of cause SWDOG. -/
def State.sweepFull (s : State) : State :=
  let t := s.nowUs
  (s.mapPrt fun x => { x with fullAt := t }).clrBitOf CRB_INPUT.CAUSES (Cause.swdog - 1)

end Sys2Proof.Machine
end

