-- ==== Sys2Proof/Machine/Units.lean ====
section
/-! DEFINITION. The cell-tap units of the trace chain: their registers, the action of each chain command
on a unit, the sample latch, EXCITE, bleed and the fault symbol (R174-R181, R185, R195, R207); the module as
a repeater (R170, R196). -/

namespace Sys2Proof.Machine
open Sys2Proof Sys2Proof.Reg

/-- Address of a unit that has none assigned (R174). -/
def noAddr : Nat := 0x3E

/-- A unit as its supply comes up (Table CHN-7): asleep, no address (log entry 2: DESIGN CHOICE). -/
def UnitSt.fresh (u : Nat) : UnitSt :=
  { cells := 8 + Config.unitData u 2 % 9, addr := noAddr, ldlyN := 0xFFFF, ldlyS := 0xFFFF
    vth := 0xFFFF, fcfg := 4, qcfg := 10, bltmo := 2, lock := 0, errN := 0, errS := 0
    bleedCmd := 0, quiet := false, sample := none, sync := none, lastSweep := none, next := 0
    exc := none, owt := false, owtHop := none, asleep := true, ov := false, uv := false
    emit := false, acked := false, before := none, resp := none, out := [] }

/-- The unit at place `u` of the ring. -/
def State.unit (s : State) (u : Nat) : UnitSt := mapGet (UnitSt.fresh u) s.units u

/-- `s` with the unit at place `u` replaced. -/
def State.setUnit (s : State) (u : Nat) (x : UnitSt) : State :=
  { s with units := mapPut s.units u x }

/-- `s` with the unit at place `u` changed. -/
def State.mapUnit (s : State) (u : Nat) (g : UnitSt → UnitSt) : State := s.setUnit u (g (s.unit u))

/-- Cells masked by a running EXCITE. -/
def UnitSt.excMask (x : UnitSt) : Nat :=
  match x.exc with
  | some e => if e.on then e.mask else 0
  | none => 0

/-- Masked switches that the present chip closes (R180). -/
def UnitSt.excOn (x : UnitSt) : Nat :=
  match x.exc with
  | some e => if e.on && e.r % 2 == 1 then e.mask else 0
  | none => 0

/-- Present bleed switch state, register BLEED (R177, R180, R207). -/
def UnitSt.bleed (x : UnitSt) : Nat :=
  (if x.quiet || x.owt then 0 else andNot 16 x.bleedCmd x.excMask) ||| x.excOn

/-- Register `i` of a unit, none where it is undefined (Table CHN-7). -/
def UnitSt.reg (u : Nat) (x : UnitSt) (i : Nat) : Option Nat :=
  match i with
  | 0x00 => some (Config.unitData u 0 % 2 ^ 32)
  | 0x01 => some (Config.unitData u 1 % 2 ^ 32)
  | 0x02 => some x.cells
  | 0x03 => some (x.addr + (if x.addr = noAddr then 0 else 256))
  | 0x04 => some x.ldlyN
  | 0x05 => some x.ldlyS
  | 0x06 => some x.vth
  | 0x07 => some x.fcfg
  | 0x08 => some x.qcfg
  | 0x09 => some x.bltmo
  | 0x0A => some x.bleed
  | 0x0B => some x.lock
  | 0x0C => some (x.errN + 65536 * x.errS)
  | _ => none

/-- The NAK code that a write of `v` to register `i` meets, none where it is taken (Tables CHN-5, CHN-7). -/
def regNak (i v : Nat) : Option Nat :=
  if [0x02, 0x04, 0x05, 0x06, 0x07, 0x08, 0x09, 0x0C].contains i = false then some 0x04
  else if i = 0x02 ∧ (bits v 0 5 < 8 ∨ 16 < bits v 0 5) then some 0x02
  else if i = 0x07 ∧ bits v 0 8 = 0 then some 0x02
  else if i = 0x09 ∧ bits v 0 16 = 0 then some 0x02
  else none

/-- Register `i` written with `v`. -/
def UnitSt.write (x : UnitSt) (i v : Nat) : UnitSt :=
  match i with
  | 0x02 => { x with cells := bits v 0 5 }
  | 0x04 => { x with ldlyN := bits v 0 16 }
  | 0x05 => { x with ldlyS := bits v 0 16 }
  | 0x06 => { x with vth := bits v 0 32 }
  | 0x07 => { x with fcfg := bits v 0 8 }
  | 0x08 => { x with qcfg := bits v 0 8 }
  | 0x09 => { x with bltmo := bits v 0 16 }
  | 0x0C => { x with errN := 0, errS := 0 }
  | _ => x

/-- An ACK of the unit (R175): address with RSP, tag and command of the request, on its side. -/
def UnitSt.ack (x : UnitSt) (h : Hop) (cmd : Nat) (p : List Nat) : UnitSt :=
  { x with resp := some (h.south, { tag := h.tag, addr := x.addr + 0x80, cmd := cmd, payload := p }) }

/-- A negative response of the unit (R175). -/
def UnitSt.nak (x : UnitSt) (h : Hop) (cmd code : Nat) : UnitSt := x.ack h (cmd + 0x80) [code]

/-- A discarded frame counts in the half of ERR of the side it came on (R174, R177). -/
def UnitSt.discard (x : UnitSt) (h : Hop) : UnitSt :=
  if h.south then { x with errS := satAdd 0xFFFF x.errS 1 } else { x with errN := satAdd 0xFFFF x.errN 1 }

/-- A frame goes on in its direction of travel (R176). -/
def UnitSt.pass (x : UnitSt) (h : Hop) (y : LineSym) : UnitSt := { x with out := x.out ++ [(!h.south, y)] }

/-- Commands that Table CHN-6 allows as unicast, and as broadcast. -/
def cmdUni (cmd : Nat) : Bool := [2, 4, 5, 6, 7, 8, 9, 10].contains cmd
def cmdCast (cmd : Nat) : Bool := [3, 6, 7, 9, 10, 11].contains cmd

/-- What a unit does with a request frame other than ENUM and SYNC (R174-R176): a broadcast is forwarded and acted on,
a frame of the unit's own address is consumed, any other forwarded. A damaged frame is discarded by its receiver; NAK
0x01 answers a command not allowed as unicast, 0x02 a wrong LEN. A unit with no address takes a PING (R194; log entry
40: DEDUCED). -/
def UnitSt.take (x : UnitSt) (h : Hop) (cmd : Nat) (p : List Nat) (act : UnitSt → UnitSt) : UnitSt :=
  if x.asleep then x
  else
    let y := { x with out := [] }
    let f : Frame := ⟨h.tag, h.dest, cmd, p⟩
    if h.dest = 0x3F then
      let y := y.pass h (.frame f)
      if h.rx ≠ .good then y.discard h
      else if cmdCast cmd && h.lenOk then act y else y
    else if h.dest = x.addr ∧ x.addr ≠ noAddr ∨ (x.addr = noAddr ∧ cmd = 2) then
      if h.rx ≠ .good then y.discard h
      else if cmdUni cmd = false then y.nak h cmd 0x01
      else if h.lenOk then act y else y.nak h cmd 0x02
    else y.pass h (.frame f)

/-- The request is a broadcast. -/
def isCast (h : Hop) : Bool := decide (h.dest = 0x3F)

/-! ### The module as a repeater (R170, R196) -/

/-- The module passes every symbol of one port to the other: ORIGIN = 0, in every gait but Stable, also in reset
(R170). -/
def State.repeats (s : State) : Bool := s.sys.on && !(s.flag CHN_STAT.ORIGIN) && decide (s.gait ≠ Gait.stable)

/-- A symbol that arrives on the South (`south`) or North port leaves on the other. -/
def State.relay (s : State) (south : Bool) (y : LineSym) : State :=
  if s.repeats then s.mapChn fun x => { x with rep := [(!south, y)] } else s

/-- A request reaches a unit, or this module at place 0. -/
def State.request (s : State) (h : Hop) (cmd : Nat) (p : List Nat) (g : UnitSt → UnitSt) : State :=
  if h.unit = 0 then s.relay h.south (.frame ⟨h.tag, h.dest, cmd, p⟩) else s.mapUnit h.unit g

/-- A request that every unit treats alike: `act` is what its receiver does. -/
def State.chainReq (s : State) (h : Hop) (cmd : Nat) (p : List Nat) (act : UnitSt → UnitSt) : State :=
  s.request h cmd p fun x => x.take h cmd p act

/-- USTAT as the unit would report it now (Table CHN-9); `sens` carries TSENS and SELF. -/
def UnitSt.ustat (x : UnitSt) (sens : Nat) : Nat :=
  b2n x.ov + 2 * b2n x.uv + 4 * b2n x.emit + 8 * b2n x.owt
    + 16 * b2n (decide (x.excMask ≠ 0)) + 32 * bits sens 5 1 + 64 * bits sens 6 1

/-! ### Enumeration (R181) -/

/-- ENUM_CLEAR: the address is given up and the frame forwarded unchanged, with no ACK; a damaged frame ends with
ABORT (Table CHN-6). -/
def execEnumClear (h : Hop) (s : State) : Host.Outcome State Fault Refusal :=
  .next (s.request h 1 [0, 0, 0] fun x =>
    if x.asleep then x
    else
      let y := { x with out := [] }
      if h.rx ≠ .good then (y.discard h).pass h .abort
      else
        let z := if h.lenOk then { y with addr := noAddr } else y
        z.pass h (.frame ⟨h.tag, h.dest, 1, [0, 0, 0]⟩))

/-- ENUM with COUNT on a unit: taken where it has no address and COUNT is 1 to 32, else CONFLICT where
it differs; ACK, and the frame forwarded with COUNT `next`; a damaged frame ends with ABORT (R181, Table CHN-6). -/
def UnitSt.enumStep (x : UnitSt) (h : Hop) (mode count flags next : Nat) (take : Bool) : UnitSt :=
  if x.asleep then x
  else
    let y := { x with out := [] }
    if h.rx ≠ .good then (y.discard h).pass h .abort
    else if h.lenOk = false then y.pass h (.frame ⟨h.tag, h.dest, 1, [count, mode, flags]⟩)
    else
      let legal : Bool := decide (1 ≤ count ∧ count ≤ 32)
      let addr := if take && legal && decide (x.addr = noAddr) then count else x.addr
      let conflict : Bool := !legal || decide (addr ≠ count)
      let flags' := if conflict then setBit flags 0 else flags
      let z := { y with addr := addr }.pass h (.frame ⟨h.tag, h.dest, 1, [next % 256, mode, flags']⟩)
      z.ack h 1 [addr, flags']

/-- ENUM_ASSIGN_UP (R181). -/
def execEnumAssignUp (h : Hop) (count flags : BitVec 8) (s : State) : Host.Outcome State Fault Refusal :=
  .next (s.request h 1 [count.toNat, 1, flags.toNat] fun x =>
    x.enumStep h 1 count.toNat flags.toNat (count.toNat + 1) true)

/-- ENUM_ASSIGN_DOWN (R181). -/
def execEnumAssignDown (h : Hop) (count flags : BitVec 8) (s : State) : Host.Outcome State Fault Refusal :=
  .next (s.request h 1 [count.toNat, 2, flags.toNat] fun x =>
    x.enumStep h 2 count.toNat flags.toNat (count.toNat + 255) true)

/-- ENUM_VERIFY_DOWN (R181). -/
def execEnumVerifyDown (h : Hop) (count flags : BitVec 8) (s : State) : Host.Outcome State Fault Refusal :=
  .next (s.request h 1 [count.toNat, 3, flags.toNat] fun x =>
    x.enumStep h 3 count.toNat flags.toNat (count.toNat + 255) false)

/-! ### Requests -/

/-- PING (R170, R175, R179): a unit answers with its address, also with none assigned (R194; log entry
40: DEDUCED). As a repeater the module answers a PING to address 0 on its South port and passes any other on. -/
def execPing (h : Hop) (s : State) : Host.Outcome State Fault Refusal :=
  .next (if h.unit = 0 ∧ h.dest = 0 ∧ h.south = true ∧ h.rx = .good ∧ h.lenOk = true then
    if s.repeats then s.mapChn fun x => { x with pong := some ⟨h.tag, 0x80, 2, [0, 0]⟩ } else s
  else s.chainReq h 2 [] fun x => x.ack h 2 [x.addr, b2n (decide (x.addr ≠ noAddr))])

/-- The latch that a SYNC sets up: by the first copy on a side whose LDLY is not 0xFFFF; a copy with a good CRC lets
the sample be accepted (R185). -/
def UnitSt.heed (x : UnitSt) (south : Bool) (sweep next : Nat) (ok : Bool) : UnitSt :=
  let dly := if south then x.ldlyS else x.ldlyN
  let start : UnitSt := { x with sync := some ⟨sweep, next, ok⟩, lastSweep := some sweep }
  if dly = 0xFFFF then x
  else
    match x.sync with
    | some p => if p.sweep = sweep then { x with sync := some { p with ok := p.ok || ok } } else start
    | none => if x.lastSweep = some sweep then x else start

/-- SYNC (R176, R185): a broadcast, forwarded and heeded from its SOF on; a unicast SYNC is not answered (R175). -/
def execSync (p : Side) (k : Head) (sweep : BitVec 8) (next : BitVec 16) (s : State) :
    Host.Outcome State Fault Refusal :=
  let h := Hop.of p k
  let ps := sweep.toNat :: leBytes 2 next.toNat
  .next (s.request h 3 ps fun x =>
    if x.asleep then x
    else
      let y := { x with out := [] }
      if h.dest = x.addr then (if h.rx = .good then y else y.discard h)
      else
        let y := y.pass h (.frame ⟨h.tag, h.dest, 3, ps⟩)
        if h.dest ≠ 0x3F then y
        else
          let y := if h.rx = .good then y else y.discard h
          y.heed h.south sweep.toNat next.toNat (decide (h.rx = .good) && h.lenOk))

/-- An EXCITE that waits for sweep byte `sweep` starts with chip 0 (R180). -/
def ExciteSt.begin (e : ExciteSt) (sweep : Nat) : ExciteSt :=
  if e.on = false ∧ e.start = sweep then { e with on := true, r := 0x7F, chipIdx := 0, rep := 0 } else e

/-- UNIT_LATCH (R185): `f` is what the unit measures at the latch instant; `f.ustat` carries TSENS and
SELF, the rest of USTAT is the unit's own. Only the cells served are held (R203). -/
def execUnitLatch (u : BitVec 6) (f : UnitFrame) (s : State) : Host.Outcome State Fault Refusal :=
  .next (s.mapUnit u.toNat fun x =>
    match x.sync with
    | none => x
    | some p =>
      if p.ok = false then { x with sync := none }
      else
        let cells := (f.cells.take x.cells).map (· % 65536)
        let held := { f with ustat := x.ustat f.ustat, cells := cells, stack := f.stack % 2 ^ 32,
                             t0 := f.t0 % 65536, t1 := f.t1 % 65536 }
        { x with sync := none, before := x.sample.map (·.1), sample := some (p.sweep, held), next := p.next
                 exc := x.exc.map fun e => e.begin p.sweep })

/-- READ_BLOCK (R179): the latched sample of the sweep, or NAK 0x03. -/
def execReadBlock (h : Hop) (sweep : BitVec 8) (s : State) : Host.Outcome State Fault Refusal :=
  .next (s.chainReq h 4 [sweep.toNat] fun x =>
    match x.sample with
    | some (k, f) =>
      if k = sweep.toNat then
        x.ack h 4 ([f.ustat] ++ leBytes 4 f.stack ++ leBytes 2 f.t0 ++ leBytes 2 f.t1
          ++ f.cells.flatMap (leBytes 2))
      else x.nak h 4 0x03
    | none => x.nak h 4 0x03)

/-- READ_REG (R179). -/
def execReadReg (h : Hop) (index count : BitVec 8) (s : State) : Host.Outcome State Fault Refusal :=
  .next (s.chainReq h 5 [index.toNat, count.toNat] fun x =>
    if count.toNat = 0 ∨ 8 < count.toNat then x.nak h 5 0x02
    else
      let rs := (List.range count.toNat).map fun i => x.reg h.unit (index.toNat + i)
      if rs.contains none then x.nak h 5 0x04
      else x.ack h 5 ([index.toNat] ++ rs.flatMap fun r => leBytes 4 (r.getD 0)))

/-- WRITE_REG (R175, R179): in index order; a NAK writes nothing; a broadcast is not answered. -/
def UnitSt.writeRegs (x : UnitSt) (h : Hop) (index : Nat) (ws : List Nat) : UnitSt :=
  let bad : Option Nat := if ws.length = 0 ∨ 8 < ws.length then some 0x02
    else (ws.zipIdx.map fun p => regNak (index + p.2) p.1).findSome? id
  match bad with
  | some code => if isCast h then x else x.nak h 6 code
  | none =>
    let y := ws.zipIdx.foldl (fun (y : UnitSt) p => y.write (index + p.2) p.1) x
    if isCast h then y else y.ack h 6 [index, ws.length]

/-- WRITE_REG (R179). -/
def execWriteReg (p : Side) (k : Head) (index : BitVec 8) (words : List Word) (s : State) :
    Host.Outcome State Fault Refusal :=
  let h := Hop.of p k
  let ws := words.map (·.toNat)
  .next (s.chainReq h 6 ([index.toNat, ws.length] ++ ws.flatMap (leBytes 4)) fun x => x.writeRegs h index.toNat ws)

/-- BLEED_SET (R179): a broadcast only with MASK 0; cells under EXCITE are not affected. -/
def execBleedSet (p : Side) (k : Head) (mask : BitVec 16) (s : State) :
    Host.Outcome State Fault Refusal :=
  let h := Hop.of p k
  .next (s.chainReq h 7 (leBytes 2 mask.toNat) fun x =>
    if isCast h then (if mask ≠ 0 then x else { x with bleedCmd := x.bleedCmd &&& x.excMask })
    else
      let m := andNot 16 mask.toNat x.excMask ||| (x.bleedCmd &&& x.excMask)
      ({ x with bleedCmd := m }).ack h 7 (leBytes 2 mask.toNat))

/-- OWT (R179): the test starts with bleed paused; NAK 0x05 while OWT or EXCITE runs (log entry 41: DEDUCED). -/
def execOwt (h : Hop) (s : State) : Host.Outcome State Fault Refusal :=
  .next (s.chainReq h 8 [] fun x =>
    if x.owt = true ∨ x.exc ≠ none then x.nak h 8 0x05
    else { x with owt := true, owtHop := some h })

/-- OWT_UNIT_RESPONSE (R179): OPEN and one DV for each tap 0 to CELLS. -/
def execOwtUnitResponse (u : BitVec 6) (opened : Word) (dv : List (BitVec 16)) (s : State) :
    Host.Outcome State Fault Refusal :=
  .next (s.mapUnit u.toNat fun x =>
    match x.owtHop with
    | none => x
    | some h =>
      let y := { x with owt := false, owtHop := none }
      y.ack h 8 (leBytes 4 opened.toNat ++ (dv.take (x.cells + 1)).flatMap fun d => leBytes 2 d.toNat))

/-- EXCITE (R179, R180): MASK 0 stops the sequence; NAK 0x02 outside the ranges, 0x05 during OWT (log entry 41:
DEDUCED). -/
def execExcite (p : Side) (k : Head) (mask : BitVec 16) (start chip reps : BitVec 8) (s : State) :
    Host.Outcome State Fault Refusal :=
  let h := Hop.of p k
  .next (s.chainReq h 9 (leBytes 2 mask.toNat ++ [start.toNat, chip.toNat, reps.toNat]) fun x =>
    let nak (code : Nat) : UnitSt := if isCast h then x else x.nak h 9 code
    if mask = 0 then
      let y := { x with exc := none }
      if isCast h then y else y.ack h 9 (leBytes 2 0)
    else if chip.toNat = 0 ∨ 20 < chip.toNat ∨ reps.toNat = 0 ∨ 8 < reps.toNat then nak 0x02
    else if x.owt then nak 0x05
    else
      let y := { x with exc := some ⟨mask.toNat, start.toNat, chip.toNat, reps.toNat, 0x7F, 0, 0, false⟩ }
      if isCast h then y else y.ack h 9 (leBytes 2 mask.toNat))

/-- The state of the maximal-length sequence after one chip (R180). -/
def exciteNext (r : Nat) : Nat := r / 2 ||| (((r % 2) ^^^ (r / 2 % 2)) * 64)

/-- EXCITE_CHIP (R180): the sequence advances; after 127 chips a period ends, after REPS the run. -/
def execExciteChip (u : BitVec 6) (s : State) : Host.Outcome State Fault Refusal :=
  .next (s.mapUnit u.toNat fun x =>
    match x.exc with
    | none => x
    | some e =>
      if e.on = false then x
      else if e.chipIdx < 126 then
        { x with exc := some { e with r := exciteNext e.r, chipIdx := e.chipIdx + 1 } }
      else if e.rep + 1 < e.reps then
        { x with exc := some { e with r := 0x7F, chipIdx := 0, rep := e.rep + 1 } }
      else { x with exc := none })

/-- FAULT_ACK (R195): repeating stops until the condition has cleared and recurs. -/
def execFaultAck (p : Side) (k : Head) (s : State) : Host.Outcome State Fault Refusal :=
  let h := Hop.of p k
  .next (s.chainReq h 0x0A [] fun x =>
    let y := { x with emit := false, acked := x.ov || x.uv }
    if isCast h then y else y.ack h 0x0A [y.ustat (match x.sample with | some (_, f) => f.ustat | none => 0)])

/-- SLEEP (R179): forwarded, then the transmitters go off; the address is lost (R177). -/
def execSleep (h : Hop) (s : State) : Host.Outcome State Fault Refusal :=
  .next (s.chainReq h 0x0B [] fun x => { x with asleep := true, addr := noAddr, lock := 0 })

/-- WAKE_TONE (R178): a sleeping unit wakes and its links lock. Where the unit has been without supply since its last
command, every register is at its reset value first (R177). -/
def execWakeTone (w : Tone) (s : State) : Host.Outcome State Fault Refusal :=
  .next (if w.side.unit = 0 then s.relay w.side.south .tone
  else s.mapUnit w.side.unit fun x =>
    if w.cold then { UnitSt.fresh w.side.unit with asleep := false, lock := 3 }
    else if x.asleep then { x with asleep := false, lock := 3, out := [] } else x)

/-- UNIT_LOSS_OF_LOCK (R176, R179): a side of the unit loses lock or has it again, and LINKNOTE leaves towards the other
side. At a loss, what is queued towards that side is discarded, and a frame being forwarded from it ends with ABORT. -/
def execUnitLossOfLock (u : BitVec 6) (c : LockChange) (s : State) : Host.Outcome State Fault Refusal :=
  .next (s.mapUnit u.toNat fun x =>
    if x.asleep then x
    else
      let note : LineSym := .frame ⟨0, x.addr + 0x80, 0x0D, [b2n c.south + 2 * b2n c.lost]⟩
      if c.lost then
        let out := x.out.filter fun e => e.1 ≠ c.south
        { x with lock := clrBit x.lock (b2n c.south)
                 resp := x.resp.filter fun e => e.1 ≠ c.south
                 out := out ++ (if c.cut then [(!c.south, .abort)] else []) ++ [(!c.south, note)] }
      else { x with lock := setBit x.lock (b2n c.south), out := [(!c.south, note)] })

/-- UNIT_AUTO_SLEEP (R178): neither side has been locked for 10 s. -/
def execUnitAutoSleep (u : BitVec 6) (s : State) : Host.Outcome State Fault Refusal :=
  .next (s.mapUnit u.toNat fun x =>
    if x.lock = 0 then { x with asleep := true, addr := noAddr } else x)

/-- BLEED_TIMEOUT (R179): all switches open. -/
def execBleedTimeout (u : BitVec 6) (s : State) : Host.Outcome State Fault Refusal :=
  .next (s.mapUnit u.toNat fun x => { x with bleedCmd := 0 })

/-- BLEED_QUIET_START (R207): not after a SYNC with NEXT = 0. -/
def execBleedQuietStart (u : BitVec 6) (s : State) : Host.Outcome State Fault Refusal :=
  .next (s.mapUnit u.toNat fun x => if x.next = 0 then x else { x with quiet := true })

/-- BLEED_QUIET_END (R207): QUIET after the latch of the accepted SYNC. -/
def execBleedQuietEnd (u : BitVec 6) (s : State) : Host.Outcome State Fault Refusal :=
  .next (s.mapUnit u.toNat fun x => { x with quiet := false })

/-- BLEED_RESTORE_TIMEOUT (R207): no SYNC accepted by the expected instant + QUIET + 1 ms. -/
def execBleedRestoreTimeout (u : BitVec 6) (s : State) : Host.Outcome State Fault Refusal :=
  .next (s.mapUnit u.toNat fun x => { x with quiet := false, next := 0 })

/-- What leaves on both sides, North first. -/
def bothSides (y : LineSym) : List (Bool × LineSym) := [(false, y), (true, y)]

/-- UNIT_FAULT_EMIT (R195): the comparator condition as it stands after DEB samples. FAULT leaves both
sides unless it was acknowledged and has not cleared since. A sleeping unit first sends the wake tone on both. -/
def execUnitFaultEmit (u : BitVec 6) (ov uv : Bool) (s : State) : Host.Outcome State Fault Refusal :=
  .next (s.mapUnit u.toNat fun x =>
    if ov || uv then
      if x.acked then { x with ov := ov, uv := uv, emit := false }
      else { x with
        ov := ov, uv := uv, emit := true, asleep := false, lock := if x.asleep then 3 else x.lock
        out := (if x.asleep then bothSides .tone else []) ++ bothSides .fault }
    else { x with ov := false, uv := false, emit := false, acked := false })

/-- UNIT_FAULT_REPEAT (R195): FAULT again on both sides while the unit emits. -/
def execUnitFaultRepeat (u : BitVec 6) (s : State) : Host.Outcome State Fault Refusal :=
  .next (s.mapUnit u.toNat fun x => if x.emit then { x with out := bothSides .fault } else x)

/-- FAULT_FORWARD (R196): a FAULT received on a side leaves in its direction of travel ahead of any frame; place 0 is
this module as a repeater. -/
def execFaultForward (u : BitVec 6) (south : Bool) (s : State) : Host.Outcome State Fault Refusal :=
  .next (if u = 0 then s.relay south .fault
  else s.mapUnit u.toNat fun x => if x.asleep then x else { x with out := [(!south, .fault)] })

end Sys2Proof.Machine
end

