-- ==== Sys2Proof/Machine/CelOps.lean ====
section
/-! DEFINITION. The CEL block as operations: layout table, cell values and flags, sense classification,
open taps, open-wire tests, balancing (R202-R229). -/

namespace Sys2Proof.Machine
open Sys2Proof Sys2Proof.Reg

/-! ### Frames of the engine -/

/-- The row's frames start empty. -/
def State.quiet (s : State) : State := s.mapChn fun x => { x with out := [] }

/-- The wake tone, which is no frame (Table CHN-3): tag 256 marks the line signal (log entry 42: DESIGN CHOICE). -/
def toneFrame : Frame := ⟨256, 0x3F, 0, []⟩

/-- No READ_BLOCK of unit `u` is to come or in flight in the present sweep. -/
def State.readEnded (s : State) (u : Nat) : Bool :=
  !s.chn.inSync && !(s.chn.reads.any fun r => r.unit = u)

/-- UNITS in effect: as the last enumeration took it, before any the reset value of CHN_CFG (R201;
log entry 134: DEDUCED). -/
def State.unitsInUse (s : State) : Nat := if s.chn.units = 0 then CHN_CFG.UNITS.reset else s.chn.units

/-! ### Layout table (R202, Table CEL-1) -/

/-- The CEL_MAP words of the used entries as written, cell rising. -/
def State.writtenMap (s : State) : List (Nat × Nat) :=
  (List.range 512).filterMap fun n =>
    if s.flag (CEL_MAP.USED n) then some (n, s.regWord (0x60062000 + 4 * n)) else none

/-- The first entry that repeats the key `f` of an earlier one (log entry 109: DEDUCED). -/
def firstRepeat (f : Nat → Nat) (m : List (Nat × Nat)) (seen : List Nat) : Option Nat :=
  match m with
  | [] => none
  | e :: rest => if seen.contains (f e.2) then some e.1 else firstRepeat f rest (f e.2 :: seen)

/-- An entry offends against check 0x5 (log entry 109: DEDUCED): it does not follow its unit's cells in the string, its
LOCAL
is not its rank there, or it is the first cell of a unit with fewer than 8 or more than 16. -/
def unitBreak (m : List (Nat × Nat)) (e : Nat × Nat) : Bool :=
  let own := m.filter fun x => layUnit x.2 = layUnit e.2
  let rank := (own.takeWhile fun x => decide (x.1 < e.1)).length
  let first := ((own.head?).map (·.1)).getD e.1
  decide (layLocal e.2 ≠ rank) || decide (e.1 ≠ first + rank)
    || (decide (rank = 0) && !decide (8 ≤ own.length ∧ own.length ≤ 16))

/-- The first failed check of Table CEL-1: code, cell, unit. -/
def State.mapCheck (s : State) (m : List (Nat × Nat)) : Option (Nat × Nat × Nat) :=
  let units := s.unitsInUse
  match m.zipIdx.find? fun p => p.1.1 ≠ p.2 with
  | some p => some (1, p.2, 0)
  | none =>
    if m.isEmpty then some (1, 0, 0)
    else
      match m.find? fun e => layUnit e.2 = 0 ∨ units < layUnit e.2 with
      | some e => some (2, e.1, 0)
      | none =>
        match firstRepeat (fun w => 16 * layUnit w + layLocal w) m [] with
        | some c => some (3, c, 0)
        | none =>
          match firstRepeat layLane m [] with
          | some c => some (4, c, 0)
          | none =>
            match m.find? (unitBreak m) with
            | some e => some (5, e.1, layUnit e.2)
            | none => if s.mainOn then some (6, 0, 0) else none

/-- A failed check is recorded (R202). -/
def State.mapFail (s : State) (code cell unit : Nat) : State :=
  let s := ((s.set CEL_MAPSTAT.CODE code).set CEL_MAPSTAT.CELL cell).set CEL_MAPSTAT.UNIT unit
  (s.put CEL_FLT.MAP_ERR true).raise 159

/-- Check 0x7 fails for a unit (R202, R203) (log entry 44: DEDUCED). -/
def State.mapFail7 (s : State) (u : Nat) : State :=
  let cell := ((s.unitCells u).head?.map (·.1)).getD 0
  let s := s.mapCel fun x => { x with check7 := false, cellsDue := listPut x.cellsDue u false }
  (s.put CEL_STAT.MAP_VALID false).mapFail 7 cell u

/-- The CELLS write to a unit that is due leaves once its READ_BLOCK has ended (R203) (log entry 44: DEDUCED). -/
def State.sendCells (s : State) (u : Nat) : State :=
  if s.cel.cellsDue.contains u && s.chainUp && s.readEnded u && decide (s.route u ≠ 0) then
    s.sendReq (s.route u) (writeRegFrame (u - 1) u 0x02 [(s.unitCells u).length])
  else s

/-- The CELLS register of every named unit is to be written (R203). -/
def State.cellsAgain (s : State) : State :=
  let us := s.namedUnits
  us.foldl (fun (s : State) u => s.sendCells u) (s.mapCel fun x => { x with cellsDue := us })

/-- The written table becomes the applied one. -/
def State.mapTake (s : State) (m : List (Nat × Nat)) : State :=
  let t := s.nowUs
  let s := s.mapCel fun x => { x with
    map := m, check7 := true, pred := [], predOf := none, prev := [], sigRun := [], clrRun := []
    due := [], undue := [], sig := [], want := [], bleed := [], strRun := 0 }
  let s := s.mapPrt fun x => { x with tSeen := m.map fun e => (e.1, t) }
  let s := ((s.set CEL_MAPSTAT.CODE 0).set CEL_MAPSTAT.CELL 0).set CEL_MAPSTAT.UNIT 0
  ((s.set CEL_MAPSTAT.NCELLS m.length).put CEL_STAT.MAP_VALID true).cellsAgain

/-- The written table is validated and applied or refused (R202). -/
def State.mapValidate (s : State) : State :=
  let m := s.writtenMap
  let s := s.mapCel fun x => { x with apply := false }
  match s.mapCheck m with
  | some (code, cell, unit) => s.mapFail code cell unit
  | none => s.mapTake m

/-! ### CELLFLAGS (Table CEL-3) -/

/-- Keys of signatures: tap `t` of unit `u`, CELL_DROP of a cell, STACKDEV of a unit. -/
def tapKey (u t : Nat) : Nat := 32 * u + t
def dropKey (cell : Nat) : Nat := 2048 + cell
def stackKey (u : Nat) : Nat := 4096 + u

/-- Tap `t` of unit `u` counts as open since a SYNC (R220). -/
def State.tapOpen (s : State) (u t : Nat) : Bool :=
  s.bitOf (CEL_UOPEN.TAPS u) t && !(s.cel.openDue.contains (tapKey u t))

/-- The state bits of a cell at local position `c` of unit `u`, as they stood at the SYNC instant. -/
def State.stateFlags (s : State) (u c cell : Nat) : Nat :=
  let sig (k : Nat) : Bool := s.cel.sig.contains k
  8 * b2n (sig (tapKey u c) || sig (tapKey u (c + 1)))
    + 16 * b2n (s.tapOpen u c || s.tapOpen u (c + 1))
    + 32 * b2n (sig (dropKey cell)) + 64 * b2n (s.cel.bleedAt.contains cell)
    + 1024 * b2n (sig (stackKey u))

/-- A sensor reading is faulty (R210). -/
def sensorBad (t : Nat) : Bool :=
  decide (t % 65536 = 0x8000 ∨ sgn 16 t < -4000 ∨ 12500 < sgn 16 t)

/-- TCELL and TSENS of a cell with sensor select `sel` (R210). -/
def cellTemp (f : UnitFrame) (sel : Nat) : Option Int × Bool :=
  let both : Bool := bit f.ustat 5
  let own := if sel = 0 then f.t0 else f.t1
  let other := if sel = 0 then f.t1 else f.t0
  if !both && !(sensorBad own) then (some (sgn 16 own), false)
  else if !both && !(sensorBad other) then (some (sgn 16 other), true)
  else (none, true)

/-- A temperature as its 16-bit code. -/
def tempCode (t : Option Int) : Nat :=
  match t with
  | some i => enc 16 i
  | none => 0x8000

/-- One cell of a unit's frame: its values and flags. -/
structure CellNow where
  cell : Nat
  lane : Nat
  pos : Nat
  v : Nat
  t : Option Int
  flags : Nat
  deriving DecidableEq, Repr

/-- The cells of unit `u` from its frame, with CELLFLAGS (R209-R211). -/
def State.cellsNow (s : State) (u : Nat) (f : UnitFrame) : List CellNow :=
  let lo := s.swGet CEL_VRANGE.VMIN
  let hi := s.swGet CEL_VRANGE.VMAX
  let last := (s.get CHN_SWEEP.SWEEP + 255) % 256
  let heard : Bool := decide ((s.unit u).before = some last) && (match s.chn.annErr with
    | some e => decide (e ≤ 10 * (s.unit u).qcfg)
    | none => false)
  (s.unitCells u).map fun e =>
    let c := layLocal e.2
    let v := f.cells.getD c 0xFFFF
    let (t, bad) := cellTemp f (layTsel e.2)
    let st := s.stateFlags u c e.1
    let bq : Bool := s.cel.bleedAt.contains e.1 && !heard
    { cell := e.1, lane := layLane e.2, pos := c, v := v, t := t
      flags := st + 2 * b2n (decide (v < lo ∨ hi < v)) + 4 * b2n bad + 128 * b2n bq
        + 256 * b2n (bit f.ustat 4) + 512 * b2n (bit f.ustat 3) }

/-- A cell qualifies for classification: none of VRANGE, SENSE_OPEN, BQ_MISS, EXC, OWT (R215). -/
def qualifies (flags : Nat) : Bool := decide (flags &&& 0x392 = 0)

/-! ### Reference and substitute (R212, R215, R220) -/

/-- Predictions serve in Walk to Gallop with the Riders up (Table CEL-2). -/
def State.predGait (s : State) : Bool := decide (2 ≤ s.gait ∧ s.gait ≤ 5) && !s.groomWalk

/-- VPRED of a cell for the present sweep, none where it is not valid (R215). -/
def State.vpred (s : State) (cell : Nat) : Option Nat :=
  match s.cel.predOf with
  | none => none
  | some p =>
    if (p + 1) % 2 ^ 32 = s.get CHN_SWEEP.SWEEP then
      match s.cel.pred.find? fun e => e.1 = cell with
      | some e => if e.2 % 65536 = 0xFFFF then none else some (e.2 % 65536)
      | none => none
    else none

/-- The value that marks a cell without a previous qualifying sweep. -/
def noPrev : Nat := 65536

/-- The reference of a cell (R215). -/
def State.refOf (s : State) (cell : Nat) : Option Nat :=
  let prev := mapGet noPrev s.cel.prev cell
  let old := if prev = noPrev then none else some prev
  if s.predGait then
    match s.vpred cell with
    | some v => some v
    | none => old
  else old

/-- The taps of unit `u` that count as open, `k` cells served. -/
def State.openTaps (s : State) (u k : Nat) : List Nat := (List.range (k + 1)).filter (s.tapOpen u)

/-- A cell reading that is available (R8). -/
def cellRead (v : Nat) : Bool := decide (v ≠ 0xFFFF)

/-- The derived value of an end cell in 100 µV: STACK less the unit's other cells, none where one of them is not
available (R8, R220). -/
def derived (stack : Nat) (vs : List Nat) (e : Nat) : Option Nat :=
  if stack ≠ 0xFFFFFFFF ∧ (vs.eraseIdx e).all cellRead = true then some (10 * stack - (vs.eraseIdx e).sum) else none

/-- The sum of the two cells at inner tap `t`, none where one is not available (R8, R220). -/
def pairSum (vs : List Nat) (t : Nat) : Option Nat :=
  let a := vs.getD (t - 1) 0xFFFF
  let b := vs.getD t 0xFFFF
  if cellRead a && cellRead b then some (a + b) else none

/-- A cell voltage as its register shows it: saturated below the not-available code (R7, R8). -/
def cellCode (v : Option Nat) : Nat :=
  match v with
  | some n => min 0xFFFE n
  | none => 0xFFFF

/-- The substitute of a SENSE_OPEN cell at position `c` by open tap `t` (R212, R220); half a pair sum is rounded to
nearest, ties away from zero (R7). -/
def State.substitute (s : State) (cell c t k : Nat) (stack : Nat) (vs : List Nat) : Nat :=
  if t = 0 ∨ t = k then cellCode (derived stack vs c)
  else
    match s.vpred cell with
    | some v => v
    | none => cellCode ((pairSum vs t).map fun n => (n + 1) / 2)

/-- What the comparators see of a unit's frame (R220). -/
def State.cmpVals (s : State) (u : Nat) (stack : Nat) (xs : List CellNow) : List CmpVal :=
  let k := xs.length
  let vs := xs.map (·.v)
  let plain := (xs.filter fun x => x.v ≠ 0xFFFF).map fun x => (⟨x.cell, x.v, 1⟩ : CmpVal)
  if s.flag CEL_STAT.ILIM50 = false then plain
  else
    match (s.openTaps u k).head? with
    | none => plain
    | some t =>
      let touch (x : CellNow) : Bool := decide (x.pos = t ∨ x.pos + 1 = t)
      let rest := (xs.filter fun x => x.v ≠ 0xFFFF ∧ touch x = false).map fun x =>
        (⟨x.cell, x.v, 1⟩ : CmpVal)
      rest ++ (xs.filter touch).filterMap fun x =>
        if t = 0 ∨ t = k then (derived stack vs x.pos).map fun v => ⟨x.cell, v, 1⟩
        else (pairSum vs t).map fun v => ⟨x.cell, v, 2⟩

/-! ### Sense classification (R216) -/

/-- A cell as classification sees it. -/
structure SenseCell where
  cell : Nat
  v : Nat
  q : Bool
  d : Int
  deriving DecidableEq, Repr

/-- The cells of a frame for classification. -/
def State.senseCells (s : State) (xs : List CellNow) : List SenseCell :=
  xs.map fun x =>
    match s.refOf x.cell with
    | some r => ⟨x.cell, x.v, qualifies x.flags, (x.v : Int) - r⟩
    | none => ⟨x.cell, x.v, false, 0⟩

/-- Signature keys of unit `u` that the sweep judges, each with whether it holds (R216). `dev`, `sumTol`
and `stackTol` are in 100 µV, `stack` too (log entry 46: DEDUCED). -/
def signatures (dev sumTol stackTol : Nat) (u : Nat) (stack : Nat) (cs : List SenseCell) :
    List (Nat × Bool) :=
  let k := cs.length
  let at_ (i : Nat) : SenseCell := cs.getD i ⟨0, 0, false, 0⟩
  let total := (cs.map (·.v)).sum
  let sdev := ((stack : Int) - total).natAbs
  let inner (t : Nat) : Bool :=
    let a := (at_ (t - 1)).d
    let b := (at_ t).d
    decide (a * b < 0 ∧ dev < a.natAbs ∧ dev < b.natAbs ∧ (a + b).natAbs ≤ sumTol ∧ sdev ≤ stackTol)
  let endTap (e : Nat) : Bool :=
    let x := at_ e
    decide (dev < x.d.natAbs ∧ stackTol < sdev ∧ ((stack : Int) - (total - x.d)).natAbs ≤ stackTol)
  let inners := ((List.range k).filter fun t => decide (1 ≤ t) && (at_ (t - 1)).q && (at_ t).q)
  let drop (i : Nat) : Bool :=
    let near (j : Nat) : Bool := !((at_ j).q) || decide ((at_ j).d.natAbs ≤ sumTol)
    decide ((at_ i).d < -(dev : Int) ∧ sdev ≤ stackTol)
      && !(inners.any fun t => inner t && decide (t = i ∨ t = i + 1))
      && (decide (i = 0) || near (i - 1)) && (decide (k ≤ i + 1) || near (i + 1))
  let ends : List (Nat × Nat) := [(0, 0), (k, k - 1)].filter fun p => (at_ p.2).q
  let cells := (List.range k).filter fun i => (at_ i).q
  let anyEnd : Bool := ends.any fun p => endTap p.2
  (inners.map fun t => (tapKey u t, inner t)) ++ (ends.map fun p => (tapKey u p.1, endTap p.2))
    ++ (cells.map fun i => (dropKey (at_ i).cell, drop i))
    ++ [(stackKey u, decide (stackTol < sdev) && !anyEnd)]

/-- The run of one signature goes on: CONFIRM sweeps with it take effect, without it clear, at the next
SYNC (R216, R217) (log entry 46: DEDUCED). -/
def runSignature (confirm : Nat) (x : CelSt) (p : Nat × Bool) : CelSt :=
  let k := p.1
  if p.2 then
    let n := min 15 (mapGet 0 x.sigRun k + 1)
    { x with sigRun := mapSet 0 x.sigRun k n, clrRun := mapSet 0 x.clrRun k 0
             undue := listPut x.undue k false
             due := if confirm ≤ n ∧ x.sig.contains k = false then listPut x.due k true else x.due }
  else
    let n := min 15 (mapGet 0 x.clrRun k + 1)
    let on : Bool := x.sig.contains k
    { x with sigRun := mapSet 0 x.sigRun k 0, clrRun := mapSet 0 x.clrRun k (if on then n else 0)
             due := listPut x.due k false
             undue := if on && decide (confirm ≤ n) then listPut x.undue k true else x.undue }

/-- Classification of a fresh frame, which needs every reading of its sum (R8), and the values kept as the next
reference (R215, R216). -/
def State.classify (s : State) (u stack : Nat) (xs : List CellNow) : State :=
  let s' := if s.swGet CEL_CTRL.CHK_EN = 1 ∧ stack ≠ 0xFFFFFFFF ∧ (xs.all fun x => cellRead x.v) = true then
      let keys := signatures (10 * s.swGet CEL_OWCFG.DEV) (10 * s.swGet CEL_OWCFG.SUMTOL)
        (10 * s.swGet CEL_OWCFG.STACKTOL) u (10 * stack) (s.senseCells xs)
      let n := s.swGet CEL_OWCFG.CONFIRM
      s.mapCel fun x => keys.foldl (runSignature n) x
    else s
  s'.mapCel fun x => { x with prev := xs.foldl (fun m y =>
    if qualifies y.flags then mapSet noPrev m y.cell y.v else m) x.prev }

/-! ### Signatures take effect (R217) -/

/-- The CELLFLAGS shown for the cells of a unit are brought up to date: bits 3, 4, 5 and 10. -/
def State.refreshFlags (s : State) (u : Nat) : State :=
  (s.unitCells u).foldl (fun (s : State) e =>
    let old := s.get (CEL_CFLG.FLAGS e.1)
    let st := s.stateFlags u (layLocal e.2) e.1
    s.set (CEL_CFLG.FLAGS e.1) (andNot 16 old 0x438 ||| (st &&& 0x438))) s

/-- An open-wire test is queued; one of the same unit and kind is not queued twice. -/
def State.owtQueue (s : State) (u : Nat) (why : OwtWhy) : State :=
  let t := s.nowUs
  if s.cel.owtQueue.any fun r => r.unit = u ∧ r.why = why then s
  else s.mapCel fun x => { x with owtQueue := x.owtQueue ++ [⟨u, why, t⟩] }

/-- One signature takes effect (R217). -/
def State.takeSignature (s : State) (k : Nat) : State :=
  let s := s.mapCel fun x => { x with sig := listPut x.sig k true, clrRun := mapSet 0 x.clrRun k 0 }
  if k < 2048 then
    let u := k / 32
    (((s.setBitOf (CEL_USUSP.TAPS u) (k % 32)).put CEL_FLT.SUSPECT true).raise 151).owtQueue u .suspect
  else if k < 4096 then (s.put CEL_FLT.CELL_DROP true).raise 154
  else ((s.put CEL_FLT.STACKDEV true).raise 155).owtQueue (k - 4096) .stackdev

/-- One signature clears (R217). -/
def State.clearSignature (s : State) (k : Nat) : State :=
  let s := s.mapCel fun x => { x with
    sig := listPut x.sig k false, due := listPut x.due k false, undue := listPut x.undue k false
    sigRun := mapSet 0 x.sigRun k 0, clrRun := mapSet 0 x.clrRun k 0 }
  if k < 2048 then s.clrBitOf (CEL_USUSP.TAPS (k / 32)) (k % 32) else s

/-- SUSPECT_ANY follows the suspect taps. -/
def State.suspectAny (s : State) : State := s.put CEL_STAT.SUSPECT_ANY (s.cel.sig.any (· < 2048))

/-- Open taps of the string. -/
def State.openCount (s : State) : Nat :=
  ((List.range 33).map fun u => if u = 0 then 0 else
    ((List.range 17).filter fun t => s.bitOf (CEL_UOPEN.TAPS u) t).length).sum

/-- Bleed on the cells of an open tap is off (R220). -/
def State.dropOpen (s : State) : State :=
  let drop (l : List Nat) : List Nat := l.filter fun c => !(s.bitOf (CEL_CFLG.FLAGS c) 4)
  (s.mapCel fun x => { x with want := drop x.want, bleed := drop x.bleed }).bleedStat

/-- The CEL part of a SYNC: signatures and open taps take effect, bleed as commanded (R209, R216, R220). -/
def State.celSync (s : State) : State :=
  let due := s.cel.due
  let undue := s.cel.undue
  let s := s.mapCel fun x => { x with due := [], undue := [], openDue := [], bleedAt := x.bleed }
  let s := undue.foldl (fun (s : State) k => s.clearSignature k) s
  let s := due.foldl (fun (s : State) k => s.takeSignature k) s
  let s := s.put CEL_STAT.ILIM50 (decide (s.openCount = 1))
  (s.namedUnits.foldl (fun (s : State) u => s.refreshFlags u) s).suspectAny.dropOpen

/-! ### Open taps (R219-R222) -/

/-- NOPEN, OPEN2 and ILIM50 after a change of open taps (R220, R221): the halving starts at a SYNC only. -/
def State.openStat (s : State) : State :=
  let n := s.openCount
  let was := s.flag CEL_STAT.OPEN2
  let s := (s.set CEL_STAT.NOPEN (min 63 n)).put CEL_STAT.OPEN2 (decide (2 ≤ n))
  let s := s.when (decide (n ≠ 1)) fun s => s.put CEL_STAT.ILIM50 false
  s.when (decide (2 ≤ n) && !was) fun s => ((s.put CEL_FLT.OPEN2 true).raise 153).gaitSrs

/-- SENSE_OPEN appears at once in CEL_CFLG of the cells of a tap. -/
def State.flagOpen (s : State) (u t : Nat) : State :=
  (s.unitCells u).foldl (fun (s : State) e =>
    if layLocal e.2 = t ∨ layLocal e.2 + 1 = t then
      s.setBitOf (CEL_CFLG.FLAGS e.1) 4 else s) s

/-- A tap is found open (R220). -/
def State.findOpen (s : State) (u t : Nat) : State :=
  if s.bitOf (CEL_UOPEN.TAPS u) t then s
  else
    let s := s.mapCel fun x => { x with openDue := listPut x.openDue (tapKey u t) true }
    let s := ((s.setBitOf (CEL_UOPEN.TAPS u) t).flagOpen u t).put CEL_FLT.OPEN true
    (s.raise 152).openStat

/-- Taps that an OWT found closed (R217, R222): a suspect clears, an open tap may be cleared. -/
def State.findClosed (s : State) (u t : Nat) : State :=
  let s := if s.bitOf (CEL_UOPEN.TAPS u) t then
      s.mapCel fun x => { x with closed := mapSet 0 x.closed u (setBit (mapGet 0 x.closed u) t) }
    else s
  if s.cel.sig.contains (tapKey u t) then ((s.clearSignature (tapKey u t)).refreshFlags u).suspectAny else s

/-- The result of an OWT of unit `u` (R219): `mask` is OPEN, `dv` the neighbour changes in mV. -/
def State.owtResult (s : State) (u mask : Nat) (dv : List Nat) : State :=
  let k := (s.unitCells u).length
  let thr := 10 * s.swGet CEL_OWTCFG.THR
  (List.range (k + 1)).foldl (fun (s : State) t =>
    let isOpen : Bool := if t = 0 ∨ t = k then decide (thr < dv.getD t 0) else bit mask t
    if isOpen then
      (s.mapCel fun x => { x with closed := mapSet 0 x.closed u (clrBit (mapGet 0 x.closed u) t) }).findOpen u t
    else s.findClosed u t) s

/-- CEL_CMD.SENSE_CLR for a unit (R222). -/
def State.senseClr (s : State) (u : Nat) : State :=
  if u = 0 ∨ 32 < u then s
  else
    let m := mapGet 0 s.cel.closed u
    let s := s.mapCel fun x => { x with closed := mapSet 0 x.closed u 0 }
    ((s.set (CEL_UOPEN.TAPS u) (andNot 17 (s.get (CEL_UOPEN.TAPS u)) m)).refreshFlags u).openStat

/-! ### Open-wire tests (R218) -/

/-- The test that goes next: suspect-driven ones ahead of the others. -/
def State.owtNext (s : State) : Option OwtReq :=
  match s.cel.owtQueue.find? fun r => r.why = .suspect ∨ r.why = .stackdev with
  | some r => some r
  | none =>
    match s.cel.owtQueue.find? fun r => r.why = .command with
    | some r => some r
    | none => s.cel.owtQueue.head?

/-- A test leaves where none is in flight and the unit's READ_BLOCK of the sweep has ended. -/
def State.owtTry (s : State) : State :=
  match s.cel.owtBusy, s.owtNext with
  | none, some r =>
    if s.chainUp && s.readEnded r.unit && decide (s.route r.unit ≠ 0) then
      let s := s.mapCel fun x => { x with
        owtBusy := some r, owtQueue := x.owtQueue.filter fun q => q ≠ r }
      (s.put CEL_STAT.OWT_BUSY true).sendReq (s.route r.unit) ⟨0x20 + r.unit - 1, r.unit, 8, []⟩
    else s
  | _, _ => s

/-- The test in flight ends. -/
def State.owtEnd (s : State) : State :=
  match s.cel.owtBusy with
  | none => s
  | some r => ((s.mapCel fun x => { x with owtBusy := none }).put CEL_STAT.OWT_BUSY false).reqEnd r.unit 8

/-- The unit's route changed with its test in flight: it is repeated on the new route (R218). -/
def State.owtReroute (s : State) (was : Nat → Nat) : State :=
  match s.cel.owtBusy with
  | none => s
  | some r =>
    if was r.unit = s.route r.unit then s
    else (s.owtEnd.mapCel fun x => { x with owtQueue := r :: x.owtQueue }).owtTry

/-! ### Balancing (R223-R227) -/

/-- Balancing runs: BAL_EN in a gait of Table CEL-2 that allows it. -/
def State.balOn (s : State) : Bool :=
  s.flag CEL_CTRL.BAL_EN && decide (s.swGet CEL_CTRL.BAL_EN = 1) && decide (2 ≤ s.gait ∧ s.gait ≤ 5)

/-- The bleed mask that the engine commands on unit `u`. -/
def State.bleedMask (s : State) (u : Nat) : Nat :=
  (s.unitCells u).foldl (fun m e =>
    if s.cel.bleed.contains e.1 then setBit m (layLocal e.2) else m) 0

/-- BLEED_SET to a unit (R226). -/
def State.sendBleed (s : State) (u : Nat) : State :=
  let m := s.bleedMask u
  if s.chainUp && s.readEnded u && decide (s.route u ≠ 0) then
    (s.mapCel fun x => { x with sent := mapSet 0 x.sent u m }).sendReq (s.route u)
      ⟨u - 1, u, 7, leBytes 2 m⟩
  else s

/-- BLEED_SET leaves on a change of the unit's mask. -/
def State.bleedFlush (s : State) (u : Nat) : State :=
  if mapGet 0 s.cel.sent u = s.bleedMask u then s else s.sendBleed u

/-- Cells whose channel the curb logic has taken stop bleeding (R227, R296). -/
def State.dropTaken (s : State) : State :=
  (s.mapCel fun x => { x with
    want := x.want.filter fun c => !(s.curbHolds c)
    bleed := x.bleed.filter fun c => !(s.curbHolds c) }).bleedStat

/-- The balancing voltage of a cell, none where it is not eligible (R223). -/
def State.balVolt (s : State) (cell : Nat) : Option Nat :=
  if s.flag (CEL_CELL.FRESH cell) = false ∨ s.get (CEL_CFLG.FLAGS cell) &&& 0x3BB ≠ 0 then none
  else if s.swGet CEL_CTRL.VSRC = 0 then some (s.get (CEL_CELL.VCELL cell))
  else if s.cel.predOf = some (s.get CEL_SWEEP.SWEEP) then
    match s.cel.pred.find? fun e => e.1 = cell with
    | some e => if e.2 / 65536 = 0xFFFF then none else some (e.2 / 65536)
    | none => none
  else none

/-- N_max of a unit (R225). -/
def State.heatMax (s : State) (u : Nat) : Nat :=
  let maxc := s.swGet CEL_BALHEAT.MAXC
  let t1 : Int := 100 * (s.swGet CEL_BALHEAT.T1 : Int)
  let t2 : Int := 100 * (s.swGet CEL_BALHEAT.T2 : Int)
  let both : Bool := bit (s.get (CHN_USTAT.USTAT u)) 5
  let ts := ([s.get (CEL_UTEMP.T0 u), s.get (CEL_UTEMP.T1 u)].filter fun t => !(sensorBad t)).map (sgn 16)
  if both then 0
  else
    match ts with
    | [] => 0
    | t :: rest =>
      let t := rest.foldl max t
      if t ≤ t1 then maxc
      else if t2 ≤ t then 0
      else ((maxc : Int) * (t2 - t) / (t2 - t1)).toNat

/-- Number of set bits below 16. -/
def popcount16 (m : Nat) : Nat := ((List.range 16).filter fun i => bit m i).length

/-- The cells of unit `u` that want to bleed, larger excess first, lower cell first. -/
def State.bleedOrder (s : State) (u : Nat) (volt : Nat → Nat) : List Nat :=
  let cells := ((s.unitCells u).map (·.1)).filter fun c => s.cel.want.contains c
  cells.foldl (fun acc c =>
    (acc.filter fun d => volt c ≤ volt d) ++ c :: (acc.filter fun d => volt d < volt c)) []

/-- One unit's share of an evaluation: the cells that may bleed; LIMITED (R225). -/
def State.limitUnit (s : State) (u : Nat) (volt : Nat → Nat) : State :=
  let order := s.bleedOrder u volt
  let n := s.heatMax u - popcount16 (s.unit u).excMask
  let lim : Bool := decide (n < order.length)
  let was := s.flag (CEL_UBLEED.LIMITED u)
  let s := s.mapCel fun x => { x with bleed := (order.take n).foldl (fun l c => listPut l c true) x.bleed }
  let s := s.put (CEL_UBLEED.LIMITED u) lim
  s.when (lim && !was) fun s => (s.put CEL_FLT.BAL_HEAT true).raise 158

/-- One evaluation of the balance engine (R223-R225) (log entry 50: DEDUCED). -/
def State.balEvaluate (s : State) : State :=
  let i := s.hvm.hdr.iavg
  let hold : Bool := decide (s.swGet CEL_CTRL.VSRC = 0) && s.mainOn && (match i with
    | some i => decide (1000 * s.swGet CEL_BALCFG.IMAX < i.natAbs)
    | none => true)
  let volts := s.cel.map.filterMap fun e => (s.balVolt e.1).map fun v => (e.1, v)
  let volt (c : Nat) : Nat := ((volts.find? fun e => e.1 = c).map (·.2)).getD 0
  let low := match volts with
    | [] => 0
    | e :: rest => rest.foldl (fun m x => min m x.2) e.2
  let target := (if s.swGet CEL_CTRL.BAL_MODE = 1 then 0 else low) + s.swGet CEL_BALCFG.TARGET
  let hyst := s.swGet CEL_BALCFG.HYST
  let above := volts.filter fun e => target + hyst < e.2
  let want := if hold then [] else
    (volts.filter fun e => !(s.curbHolds e.1)
      && (decide (target + hyst < e.2) || (s.cel.want.contains e.1 && decide (target < e.2)))).map (·.1)
  let old := s.cel.bleed
  let s := (s.put CEL_STAT.BAL_HOLD hold).mapCel fun x => { x with want := want, bleed := [] }
  let s := s.namedUnits.foldl (fun (s : State) u => s.limitUnit u volt) s
  let started : Bool := s.cel.bleed.any fun c => !(old.contains c)
  let was := s.flag CEL_STAT.BALANCED
  let done : Bool := above.isEmpty && s.cel.bleed.isEmpty
  let s := if started then s.put CEL_STAT.BALANCED false
    else if done && !was then (s.put CEL_STAT.BALANCED true).raise 157 else s
  (s.namedUnits.foldl (fun (s : State) u => s.bleedFlush u) s).bleedStat

/-! ### Frames of a sweep -/

/-- Input slot of lane `l` for sweep `sw` (R118). -/
def slotAddrIn (l sw : Nat) : Nat := laneAddr l (16 * (sw % 2))

/-- The four words of an input slot (Table HRD-3), while the Herd is powered (log entry 47: DEDUCED). -/
def State.writeSlot (s : State) (l sw w0 w1 w3 : Nat) : State :=
  if s.flag HRD_STAT.POWERED then
    let a := slotAddrIn l sw
    (((s.setWord a w0).setWord (a + 4) w1).setWord (a + 8) sw).setWord (a + 12) w3
  else s

/-- One cell of a fresh frame: registers, substitute, input slot (R209, R212, R118). -/
def State.cellTake (s : State) (u k stack sw : Nat) (vs : List Nat) (x : CellNow) : State :=
  let tap := (s.openTaps u k).find? fun t => t = x.pos ∨ t = x.pos + 1
  let shown := match tap with
    | some t => s.substitute x.cell x.pos t k stack vs
    | none => x.v
  let s := ((s.set (CEL_CELL.VCELL x.cell) shown).put (CEL_CELL.SUBST x.cell) tap.isSome).put
    (CEL_CELL.FRESH x.cell) true
  let s := (s.set (CEL_CELL.AGE x.cell) 0).set (CEL_CFLG.FLAGS x.cell) x.flags
  let s := s.set (CEL_CFLG.TCELL x.cell) (tempCode x.t)
  s.writeSlot x.lane sw (x.v + 2 ^ 24) (tempCode x.t + u * 2 ^ 16) x.flags

/-- The CEL block takes a fresh frame of unit `u` (R209-R217). -/
def State.celFrame (s : State) (u : Nat) (f : UnitFrame) : State :=
  let xs := s.cellsNow u f
  let sw := s.get CHN_SWEEP.SWEEP
  let vs := xs.map (·.v)
  let s1 := ((s.set (CEL_USTACK.MV u) f.stack).set (CEL_UTEMP.T0 u) f.t0).set (CEL_UTEMP.T1 u) f.t1
  let s1 := xs.foldl (fun (s : State) x => s.cellTake u xs.length f.stack sw vs x) s1
  let s1 := s1.when (xs.any fun x => bit x.flags 1) fun s => s.put CEL_FLT.VRANGE true
  let s1 := s1.when (bit f.ustat 5 || sensorBad f.t0 || sensorBad f.t1) fun s => s.put CEL_FLT.TSENS true
  let s1 := s1.when (xs.any fun x => bit x.flags 7) fun s => s.put CEL_FLT.BQ_MISS true
  s1.classify u f.stack xs

/-! ### The end of a sweep -/

/-- Fresh mapped cells without VRANGE, with their raw values (R211). -/
def State.freshCells (s : State) : List (Nat × Nat) :=
  (s.cel.map.filter fun e => s.flag (CEL_CELL.FRESH e.1) && !(s.bitOf (CEL_CFLG.FLAGS e.1) 1)).map fun e =>
    (e.1, s.get (CEL_CELL.VCELL e.1))

/-- Sum in mV of values in 100 µV. -/
def sumMv (l : List (Nat × Nat)) : Nat := (divRound (((l.map (·.2)).sum : Nat) : Int) 10).toNat

/-- CEL_VMIN, CEL_VMAX, CEL_VSUM (R211) (log entry 45: DEDUCED). -/
def State.cellSummary (s : State) : State :=
  match s.freshCells with
  | [] => (((s.set CEL_VMIN.V 0xFFFF).set CEL_VMAX.V 0xFFFF).set CEL_VMIN.CELL 0).set CEL_VMAX.CELL 0
      |>.set CEL_VSUM.MV 0xFFFFFFFF
  | e :: rest =>
    let lo := rest.foldl (fun (a : Nat × Nat) b => if b.2 < a.2 then b else a) e
    let hi := rest.foldl (fun (a : Nat × Nat) b => if a.2 < b.2 then b else a) e
    let s := (s.set CEL_VMIN.V lo.2).set CEL_VMIN.CELL lo.1
    let s := (s.set CEL_VMAX.V hi.2).set CEL_VMAX.CELL hi.1
    s.set CEL_VSUM.MV (sumMv (e :: rest))

/-- The string sum check (R214): the sweep counts where every mapped cell is fresh and FLAGS[2] is set. -/
def State.stringSum (s : State) : State :=
  match s.hvm.hdr.vbat with
  | none => s
  | some vbat =>
    let full : Bool := s.cel.map.all fun e => s.flag (CEL_CELL.FRESH e.1)
    let vsum := s.get CEL_VSUM.MV
    if !full || s.cel.map.isEmpty || !(bit s.hvm.hdr.flags 2) || decide (vsum = 0xFFFFFFFF) then s
    else
      let lim := s.swGet CEL_STRCHK.ABS * 10 * 10000 + s.swGet CEL_STRCHK.REL * 5 * vbat
      let bad : Bool := decide (lim < ((vbat : Int) - vsum).natAbs * 10000)
      let n := if bad then min 256 (s.cel.strRun + 1) else 0
      let was := s.cel.strRun
      let need := s.swGet CEL_STRCHK.N
      let s := s.mapCel fun x => { x with strRun := n }
      s.when (decide (was < need ∧ need ≤ n)) fun s => (s.put CEL_FLT.STRSUM true).raise 149

/-- A cell of a unit without a frame (R118, R209): carried over, AGE up, frame bits 0 (log entry 47: DEDUCED). -/
def State.cellCarry (s : State) (u sw : Nat) (e : Nat × Nat) : State :=
  let n := e.1
  let l := layLane e.2
  let fl := s.stateFlags u (layLocal e.2) n + b2n (s.flag (CHN_USTAT.STALE u))
  let s := (s.put (CEL_CELL.FRESH n) false).set (CEL_CELL.AGE n) (satAdd 255 (s.get (CEL_CELL.AGE n)) 1)
  let s := s.set (CEL_CFLG.FLAGS n) fl
  let w0 := s.word (slotAddrIn l (sw + 1))
  let w1 := s.word (slotAddrIn l (sw + 1) + 4)
  s.writeSlot l sw (bits w0 0 16 + satAdd 255 (bits w0 16 8) 1 * 2 ^ 16)
    (bits w1 0 16 + u * 2 ^ 16) fl

/-- A unit becomes stale (R198, R213). -/
def State.celStale (s : State) (u : Nat) : State :=
  let s := (s.unitCells u).foldl (fun (s : State) e => s.setBitOf (CEL_CFLG.FLAGS e.1) 0) s
  let s := ((s.put CEL_STAT.STALE_ANY true).put CEL_FLT.STALE true).raise 150
  if s.mainOn then
    let sii : Bool := decide (s.swGet CEL_CTRL.STALE_SII = 1)
    let s := s.forceLame LameCause.stale (!sii)
    if sii then s.curbCause Cause.reqSii .sii true else s
  else s

/-- STALE_ANY follows the named units. -/
def State.staleAny (s : State) : State :=
  s.put CEL_STAT.STALE_ANY (s.namedUnits.any fun u => s.flag (CHN_USTAT.STALE u))

/-- The CEL part of a sweep's post: cells without a frame, summary, string sum. -/
def State.celPost (s : State) (sw : Nat) (missing : List Nat) : State :=
  let s := missing.foldl (fun (s : State) u =>
    (s.unitCells u).foldl (fun (s : State) e => s.cellCarry u sw e) s) s
  (s.cellSummary.set CEL_SWEEP.SWEEP sw).stringSum

end Sys2Proof.Machine
end

