-- ==== Sys2Proof/Machine/Reduce.lean ====
section
/-! DEFINITION. The reduction tree and the publish slots of the Herd (R119, R126 to R128). -/

namespace Sys2Proof.Machine
open Sys2Proof Sys2Proof.Reg

/-- Op codes of the rendezvous words. -/
def Rop.rmin : Nat := 0x38
def Rop.rmax : Nat := 0x39
def Rop.rsum : Nat := 0x3A
def Rop.rargmin : Nat := 0x3B
def Rop.rargmax : Nat := 0x3C
def Rop.bar : Nat := 0x3D

/-- Pairs of neighbours combined: one level of the tree. -/
def pairUp (f : Nat → Nat → Nat) (l : List Nat) : List Nat :=
  match l with
  | a :: b :: rest => f a b :: pairUp f rest
  | x => x

/-- The tree over 512 lanes: 9 levels of fixed pairs (R126). -/
def tree (f : Nat → Nat → Nat) (id : Nat) (cs : List (Nat × Nat)) : Nat :=
  let leaves := (List.range 512).map fun l => ((cs.find? fun c => c.1 = l).map (·.2)).getD id
  ((List.range 9).foldl (fun l _ => pairUp f l) leaves).headD id

/-- The extreme contributor; ties go to the lower lane (R127). -/
def extreme (less : Nat → Nat → Bool) (cs : List (Nat × Nat)) : Option (Nat × Nat) :=
  cs.foldl (fun best c =>
    match best with
    | none => some c
    | some b => if less c.2 b.2 then some c else some b) none

/-- Result to dst, value and lane of the publish of a reduction (R126, R127). Word 0 of an arg reduction's publish is
the canonical NaN beside a NaN contributor and the identity with no contributor (log entry 121: DESIGN CHOICE). -/
def reduce (op : Nat) (cs : List (Nat × Nat)) : Nat × Nat × Nat :=
  let nan := cs.find? fun c => isNaN c.2
  if op = Rop.rargmin ∨ op = Rop.rargmax then
    match nan with
    | some c => (c.1, fpNaN, c.1)
    | none =>
      match extreme (if op = Rop.rargmin then fpLess else fun a b => fpLess b a) cs with
      | some c => (c.1, c.2, c.1)
      | none => (0xFFFFFFFF, fpInf (decide (op = Rop.rargmax)), 0x1FF)
  else
    let v := if nan.isSome then fpNaN
      else if op = Rop.rmin then tree (fun a b => (fpMin a b).val) (fpInf false) cs
      else if op = Rop.rmax then tree (fun a b => (fpMax a b).val) (fpInf true) cs
      else tree (fun a b => (fpAdd a b).val) 0 cs
    (v, v, 0x1FF)

/-- Publishes are written, in the order of their making (R128). -/
def State.writePublishes (s : State) (ps : List Publish) : State :=
  ps.foldl (fun (s : State) p => (s.setWord (slotWord p.slot) p.w0).setWord (slotWord p.slot + 4) p.w1) s

end Sys2Proof.Machine
end

