-- ==== Sys2Proof/Machine/RefEst.lean ====
section
/-! DEFINITION. The reference estimator on one cell (R233 to R250): cell model, counting, anchors, usable state of charge,
plating margin and limits. Arithmetic is exact where the lanes round to FP32; what the filters and the rest fit give is
a function with no body (log entry 125: DESIGN CHOICE). -/

namespace Sys2Proof.Machine
open Sys2Proof Sys2Proof.Reg

/-! ### Numbers -/

/-- `q` kept inside `lo` to `hi`. -/
def clampQ (lo hi q : Rat) : Rat := if q < lo then lo else if hi < q then hi else q

/-- Magnitude. -/
def absQ (q : Rat) : Rat := if q < 0 then -q else q

/-- The value of a finite FP32 word. -/
def ratOfFp (w : Nat) : Rat :=
  let e := fpScale w
  let m : Rat := if 0 ≤ e then ((fpMant w * 2 ^ e.toNat : Nat) : Rat)
    else (fpMant w : Rat) / ((2 ^ (-e).toNat : Nat) : Rat)
  if fpNeg w then -m else m

/-- The FP32 word nearest to `q`. -/
def fpOfRat (q : Rat) : Nat :=
  let k := 64 + bitLen q.den
  let n := q.num.natAbs * 2 ^ k
  (fpRound (decide (q < 0)) (n / q.den) (-(k : Int)) (decide (n % q.den ≠ 0))).val

/-! ### The parameter block (Table EST-1) -/

/-- The block's fields as the lanes read them. -/
structure RefPar where
  branches : Bool
  r0 : List Nat
  r1 : List Nat
  tau1 : List Nat
  taud : List Nat
  hmax : List Nat
  gamma : Rat
  rashare : Nat
  ibleed : Nat
  ocvd : List (List Nat)
  ocvc : List (List Nat)
  uanode : List Nat

/-- The block at `p`. -/
def State.refPar (s : State) (p : Nat) : RefPar :=
  { branches := bit (s.load 2 (p + 2)) 0, r0 := s.halfs (p + 0x18) 4, r1 := s.halfs (p + 0x20) 4
    tau1 := s.halfs (p + 0x28) 4, taud := s.halfs (p + 0x30) 4, hmax := s.halfs (p + 0x38) 4
    gamma := ratOfFp (s.word (p + 0x40)), rashare := s.load 2 (p + 0x44), ibleed := s.load 2 (p + 0x46)
    ocvd := (List.range 4).map fun r => s.halfs (p + 0x50 + 202 * r) 101
    ocvc := (List.range 4).map fun r => s.halfs (p + 0x378 + 202 * r) 101
    uanode := s.halfs (p + 0x6A0) 101 }

/-- The temperature points that enclose `t` (0.01 °C), and how far `t` lies between them: end values hold beyond -10 °C
and 45 °C (R234). -/
def tempPlace (t : Int) : Nat × Rat :=
  if t ≤ -1000 then (0, 0)
  else if t < 1000 then (0, ((t + 1000 : Int) : Rat) / 2000)
  else if t < 2500 then (1, ((t - 1000 : Int) : Rat) / 1500)
  else if t < 4500 then (2, ((t - 2500 : Int) : Rat) / 2000)
  else (2, 1)

/-- A parameter at temperature `t`. -/
def atTemp (l : List Nat) (t : Int) : Rat :=
  let p := tempPlace t
  let a : Rat := (l.getD p.1 0 : Rat)
  a + p.2 * ((l.getD (p.1 + 1) 0 : Rat) - a)

/-- Entry `k` of a table of four rows at temperature `t`. -/
def tableAt (rows : List (List Nat)) (t : Int) (k : Nat) : Rat := atTemp (rows.map fun r => r.getD k 0) t

/-- Entry `k` of OCV(·, T, h) in 100 µV (R236). -/
def RefPar.ocv (p : RefPar) (t : Int) (h : Rat) (k : Nat) : Rat :=
  let d := tableAt p.ocvd t k
  if p.branches then d + (tableAt p.ocvc t k - d) * (1 + h) / 2 else d + h * atTemp p.hmax t

/-- The table interval that holds the state of charge `q`, end values holding outside 0 to 1. -/
def interval (q : Rat) : Nat := min 99 (clampQ 0 1 q * 100).floor.toNat

/-- A table of 101 entries at `q`. -/
def tableSoc (f : Nat → Rat) (q : Rat) : Rat :=
  let k := interval q
  f k + (clampQ 0 1 q * 100 - (k : Rat)) * (f (k + 1) - f k)

/-- Rise of a table over the interval that holds `q`, per 1 %. -/
def tableSlope (f : Nat → Rat) (q : Rat) : Rat := f (interval q + 1) - f (interval q)

/-- The inverse of a non-decreasing table at the value `v`, none outside it. -/
def tableInv (f : Nat → Rat) (v : Rat) : Option Rat :=
  match (List.range 100).find? fun k => decide (f k ≤ v ∧ v ≤ f (k + 1)) with
  | none => none
  | some k =>
    let d := f (k + 1) - f k
    some (((k : Rat) + if d = 0 then 0 else (v - f k) / d) / 100)

/-- The inverse, clamped to 0 to 1. -/
def tableEnd (f : Nat → Rat) (v : Rat) : Rat := if v ≤ f 0 then 0 else (tableInv f v).getD 1

/-- R0 and R1 of the block at `t`, in Ω. -/
def RefPar.nominal (p : RefPar) (t : Int) : Rat × Rat := (atTemp p.r0 t / 1000000, atTemp p.r1 t / 1000000)

/-! ### What a lane reads for a sweep -/

/-- Inputs of one cell in one sweep: header, slot, applied configuration, learning control block. -/
structure RefIn where
  sw : Nat
  /-- device time of the SYNC in ns and in µs, PERIOD in µs -/
  ts : Nat
  now : Nat
  dt : Nat
  flags : Nat
  isync : Option Int
  ihall : Option Int
  iavg : Option Int
  cell : Nat
  v : Nat
  fresh : Bool
  temp : Option Int
  cf : Nat
  /-- QUIET of the cell's unit in µs -/
  quiet : Nat
  cfg : Fld → Nat
  model : Bool
  aEn : Bool
  bEn : Bool
  par : RefPar
  /-- `n` bytes of the learning control block at an offset, and whether it passed its check (R261) -/
  lcb : Nat → Nat → Nat
  lcbOk : Bool
  /-- the sweep period is 1 ms -/
  fast : Bool

/-- Bits of CELLFLAGS (Table CEL-3). -/
def Cf.stale : Nat := 0
def Cf.vrange : Nat := 1
def Cf.suspect : Nat := 3
def Cf.senseOpen : Nat := 4
def Cf.cellDrop : Nat := 5
def Cf.bleed : Nat := 6
def Cf.bqMiss : Nat := 7
def Cf.owt : Nat := 9

/-- The value is fresh and no flag of Table EST-5 forbids its use (R239). -/
def RefIn.plain (i : RefIn) : Bool :=
  i.fresh && decide (i.v ≠ 0xFFFF) &&
    !([Cf.stale, Cf.vrange, Cf.suspect, Cf.senseOpen, Cf.bqMiss, Cf.owt].any fun b => bit i.cf b)

/-- Eligible for anchors (Table EST-5). -/
def RefIn.anchors (i : RefIn) : Bool := i.plain && !(bit i.cf Cf.cellDrop)

/-- Place of the sweep in the bleed run in force, where the cell takes part (R270). -/
def RefIn.run (i : RefIn) : Option Nat :=
  let start := i.lcb 0x10 4
  if i.lcbOk && bit (i.lcb 0x02 2) 3 && bit (i.lcb (0x40 + i.cell / 8) 1) (i.cell % 8)
      && decide (start ≤ i.sw ∧ i.sw < start + 508) then some (i.sw - start) else none

/-- r[0] of chip `m` of the maximal-length sequence (R180). -/
def chip (m : Nat) : Bool :=
  bit ((List.range m).foldl (fun r _ => r / 2 + 64 * ((r + r / 2) % 2)) 0x7F) 0

/-- The sample lies on a chip boundary (R270). -/
def RefIn.onBoundary (i : RefIn) : Bool :=
  match i.run with
  | some d => decide (d % 4 = 0)
  | none => false

/-- The share of PERIOD in which bleed was on: by the chip that the period lies in, else by the BLEED flag less the quiet
window; the period before chip 0 goes by the flag (R241, R270; log entry 126: DEDUCED). -/
def RefIn.bleedShare (i : RefIn) : Rat :=
  match i.run with
  | some (d + 1) => if chip (d / 4) then 1 else 0
  | _ => if bit i.cf Cf.bleed then 1 - 2 * (i.quiet : Rat) / (i.dt : Rat) else 0

/-- IBLEED in A. -/
def RefPar.bleedA (p : RefPar) : Rat := (p.ibleed : Rat) / 1000

/-- I_c in A, none where no valid current counts (R241). -/
def RefIn.current (i : RefIn) : Option Rat :=
  let base : Option Int := match i.iavg with
    | some a => some a
    | none => if bit i.flags 1 then i.ihall else none
  match base with
  | some a => some ((a : Rat) / 1000 - i.par.bleedA * i.bleedShare)
  | none => none

/-- The cell current at the SYNC instant: i_j of R267. -/
def RefIn.syncCurrent (i : RefIn) : Option Rat :=
  match i.isync with
  | some a =>
    let on : Bool := match i.run with
      | some d => decide (d % 4 ≠ 0) && chip (d / 4)
      | none => false
    some ((a : Rat) / 1000 - if on then i.par.bleedA else 0)
  | none => none

/-- A measurement update is made (Table EST-5, R270). -/
def RefIn.updates (i : RefIn) : Bool := i.plain && bit i.flags 0 && i.isync.isSome && !i.onBoundary

/-- Nominal capacity in Ah. -/
def RefIn.capNom (i : RefIn) : Rat := (i.cfg EST_CAPNOM.MAH : Rat) / 1000

/-- PERIOD in hours. -/
def RefIn.hours (i : RefIn) : Rat := (i.dt : Rat) / 3600000000

/-! ### Cell model (R236, R237) -/

/-- The state advanced by one period at the current `a`, capacity `c` in Ah: counting where `counts`. -/
def LaneEst.advance (z : LaneEst) (i : RefIn) (c a : Rat) (counts : Bool) : LaneEst :=
  let sec : Rat := (i.dt : Rat) / 1000000
  let taud := atTemp i.par.taud z.temp
  let ad := Config.expNeg (sec / taud)
  let a1 := Config.expNeg (sec * 1000 / atTemp i.par.tau1 z.temp)
  let sg : Rat := if a < 0 then -1 else if a = 0 then 0 else 1
  { z with
    s := if counts then z.s + a * sec / (3600 * c) else z.s
    x := ad * z.x + (1 - ad) * a * taud / (3600 * c)
    v1 := a1 * z.v1 + (1 - a1) * z.r1 * a
    h := clampQ (-1) 1 (z.h + i.par.gamma * absQ a * sec / 3600 * (sg - z.h)) }

/-- V_pred in V at the current `a`. -/
def LaneEst.predict (z : LaneEst) (i : RefIn) (a : Rat) : Rat :=
  tableSoc (i.par.ocv z.temp z.h) (z.s + z.x) / 10000 + z.r0 * a + z.v1

/-- What the filters see of an update. -/
def LaneEst.seen (z : LaneEst) (i : RefIn) (a : Rat) : List Rat :=
  [(i.v : Rat) / 10000 - z.predict i a, z.s, z.x, z.v1, z.h, z.r0, z.r1, a, (z.temp : Rat)]

/-- The measurement update of both filters; s is corrected in MODEL only (R246). -/
def LaneEst.update (z : LaneEst) (i : RefIn) (a : Rat) : LaneEst :=
  let e := z.seen i a
  let k (n : Nat) : Rat := Config.estimator n z.cov e
  let far : Bool := decide ((1 : Rat) / 20 < absQ (e.headD 0))
  { z with
    s := if i.model then z.s + k 0 else z.s
    x := z.x + k 1, v1 := z.v1 + k 2, h := z.h + k 3, r0 := z.r0 + k 4, r1 := z.r1 + k 5
    cov := Config.covariance z.cov e, inno := if far then z.inno + 1 else 0 }

/-- The filters start again; the impedance averages too (R237, R268). Of the two texts on R0 and R1 the nominal values of
R237 are taken (log entry 126: DEDUCED). -/
def LaneEst.filterReset (z : LaneEst) (i : RefIn) : LaneEst :=
  let n := i.par.nominal z.temp
  { z with x := 0, v1 := 0, h := 0, r0 := n.1, r1 := n.2, cov := 0, inno := 0, win := 0, used := 0, bled := false
           pts := List.replicate 12 ZPoint.fresh }

/-- 95 % half-width of the rebuilt OCV in V (R243), and of R0 in Ω (R266). -/
def LaneEst.ocvWidth (z : LaneEst) : Rat := absQ (Config.estimator 6 z.cov [z.s, z.x, z.v1, z.h])
def LaneEst.r0Width (z : LaneEst) : Rat := absQ (Config.estimator 7 z.cov [z.r0, z.r1])

/-! ### Counting and rest (R240 to R242) -/

/-- The temperature of the sweep; the last valid one holds (R240). -/
def LaneEst.warm (z : LaneEst) (i : RefIn) : LaneEst :=
  match i.temp with
  | some t => { z with temp := t, tempAt := i.now }
  | none => z

/-- The temperature fallback is in use (R240). -/
def LaneEst.tfall (z : LaneEst) (i : RefIn) : Bool := i.temp.isNone && decide (z.tempAt + 60000000 ≤ i.now)

/-- At rest: |IAVG| below EST_CAPNOM / RESTDIV; with IAVG not valid the cell is not at rest (R242; log entry 126:
DEDUCED). -/
def RefIn.atRest (i : RefIn) : Bool :=
  match i.iavg with
  | some a => decide (a.natAbs * i.cfg EST_REST.RESTDIV < i.cfg EST_CAPNOM.MAH)
  | none => false

/-- The rest timer after the sweep, and the voltage at each whole minute (R242). -/
def LaneEst.resting (z : LaneEst) (i : RefIn) : LaneEst :=
  if i.atRest then
    let n := z.rest + i.dt
    { z with rest := n, minutes := if z.rest / 60000000 < n / 60000000 then (i.v :: z.minutes).take 10 else z.minutes }
  else { z with rest := 0, minutes := [] }

/-- Counting of a sweep: s, SIG, the last current and its sense; x, v1 and h go with it (R236, R241). -/
def LaneEst.count (z : LaneEst) (i : RefIn) (c : Rat) : LaneEst :=
  match i.current with
  | some a =>
    let z := z.advance i c a true
    let big : Bool := decide (i.capNom ≤ 200 * absQ a)
    { z with sig := min 1 (z.sig + (absQ a / 2000 + 1 / 50) * i.hours / c), lastI := a
             charged := if big then decide (0 < a) else z.charged }
  | none =>
    let z' := z.advance i c z.lastI false
    { z' with sig := min 1 (z.sig + (absQ z.lastI + 1) * i.hours / c) }

/-! ### Anchors (R242 to R245) -/

/-- The Class A candidate: V∞ in 100 µV, where the rest has lasted and the fit is usable (R242). -/
def LaneEst.restVolt (z : LaneEst) (i : RefIn) : Option Rat :=
  let e := z.minutes.map fun m => (m : Rat)
  let v := Config.estimator 10 0 e
  if decide (i.cfg EST_REST.RESTMIN * 60000000 ≤ z.rest) && decide (z.minutes.length = 10)
      && decide (absQ (Config.estimator 11 0 e) < 10) && decide (absQ (v - (i.v : Rat)) ≤ 100) then some v else none

/-- The Class B candidate: the rebuilt OCV in 100 µV (R243). -/
def LaneEst.builtVolt (z : LaneEst) (i : RefIn) : Option Rat :=
  if i.model && i.bEn && decide (1000000 ≤ z.conf) then some (tableSoc (i.par.ocv z.temp z.h) (z.s + z.x)) else none

/-- The value and the SIG of an anchor at the voltage `v`, with `mv` the voltage error in mV (R244). -/
def acceptAt (i : RefIn) (t : Int) (h v mv : Rat) : Option (Rat × Rat) :=
  let f := i.par.ocv t h
  match tableInv f v with
  | none => none
  | some q =>
    let slope := tableSlope f q
    if slope < (i.cfg EST_ANCH.SLOPE : Rat) then none else some (q, min 1 (mv * 10 / slope / 100))

/-- The anchor accepted in a sweep, Class A where true: Class A is tried first (R244; log entry 126: DEDUCED). -/
def LaneEst.anchor (z : LaneEst) (i : RefIn) : Option (Bool × Rat × Rat) :=
  let early : Bool := match z.anchorAt with
    | some t => decide (i.now < t + 60000000)
    | none => false
  if i.anchors = false ∨ early = true then none
  else
    let hA : Rat := if i.model then z.h else if z.charged then 1 else -1
    let a := match z.restVolt i with
      | some v => if i.aEn then acceptAt i z.temp hA v 2 else none
      | none => none
    let b := match z.builtVolt i with
      | some v => acceptAt i z.temp z.h v ((i.cfg EST_ANCH.CONF : Rat) / 10)
      | none => none
    match a with
    | some e => some (true, e)
    | none =>
      match b with
      | some e => some (false, e)
      | none => none

/-- The share of the owed correction that the report still carries (R245). -/
def LaneEst.blend (z : LaneEst) (i : RefIn) : Rat :=
  match z.t0 with
  | some t => max 0 (1 - ((i.now - t : Nat) : Rat) / ((i.cfg EST_ANCH.BLEND * 1000000 : Nat) : Rat))
  | none => 0

/-- The report follows s (R245). -/
def LaneEst.report (z : LaneEst) (i : RefIn) : LaneEst := { z with rep := clampQ 0 1 (z.s + z.d0 * z.blend i) }

/-- s takes the value `q`; the step is owed by the report (R245). -/
def LaneEst.step_ (z : LaneEst) (i : RefIn) (q : Rat) : LaneEst := { z with d0 := z.rep - q, s := q, t0 := some i.now }

/-- The time for which the rebuilt OCV has been within CONF (R243). -/
def LaneEst.confident (z : LaneEst) (i : RefIn) : LaneEst :=
  { z with conf := if z.ocvWidth * 10000 ≤ (i.cfg EST_ANCH.CONF : Rat) then z.conf + i.dt else 0 }

/-! ### Usable state of charge, plating margin, limits (R247 to R250) -/

/-- The endpoint targets P0 and P100 (R247). -/
def LaneEst.targets (z : LaneEst) (i : RefIn) : Rat × Rat :=
  let drop (n : Nat) : Rat := (n : Rat) / 100 * i.capNom * (z.r0 + z.r1) * 10000
  let lo := tableEnd (i.par.ocv z.temp (-1)) ((i.cfg EST_VEND.VSD : Rat) + drop (i.cfg EST_IREF.IDREF))
  let hi := tableEnd (i.par.ocv z.temp 1) ((i.cfg EST_VEND.VCO : Rat) - drop (i.cfg EST_IREF.ICREF))
  if hi - lo < 1 / 10 then ((lo + hi) / 2 - 1 / 20, (lo + hi) / 2 + 1 / 20) else (lo, hi)

/-- `e` moved towards `p` by at most `d`. -/
def slew (d e p : Rat) : Rat := if e < p then min p (e + d) else max p (e - d)

/-- The endpoints after a sweep (R247). -/
def LaneEst.endpoints (z : LaneEst) (i : RefIn) : LaneEst :=
  let p := z.targets i
  if z.ends then
    let d : Rat := (i.cfg EST_SLEW.SLEW : Rat) / 10000 * (i.dt : Rat) / 60000000
    { z with e0 := slew d z.e0 p.1, e1 := slew d z.e1 p.2 }
  else { z with e0 := p.1, e1 := p.2, ends := true }

/-- Usable state of charge (R247). -/
def LaneEst.usable (z : LaneEst) : Rat := clampQ 0 1 ((z.rep - z.e0) / (z.e1 - z.e0))

/-- How the anode potential scales with temperature: OCV slopes at `t` and at 25 °C over the same interval (R249); 1 on a
flat interval (log entry 126: DEDUCED). -/
def RefPar.anodeScale (p : RefPar) (t : Int) (h q : Rat) : Rat :=
  let ref := tableSlope (p.ocv 2500 h) q
  if ref = 0 then 1 else tableSlope (p.ocv t h) q / ref

/-- Plating margin in mV at the current `a` (R249). -/
def LaneEst.plating (z : LaneEst) (i : RefIn) (t : Int) (a : Rat) : Rat :=
  let q := z.s + z.x
  tableSoc (fun k => (i.par.uanode.getD k 0 : Rat)) q * i.par.anodeScale t z.h q
    - (i.par.rashare : Rat) / 65535 * z.r0 * a * 1000

/-- One horizon of `sec` seconds, linearised in the current about the present state at temperature `t`, in the direction
`g`: V at no current and per A, PLAT at no current and per A (R250). -/
def LaneEst.horizon (z : LaneEst) (i : RefIn) (t : Int) (c g : Rat) (sec : Nat) : (Rat × Rat) × (Rat × Rat) :=
  let hz : Rat := (sec : Rat)
  let q := z.s + z.x
  let f := i.par.ocv t z.h
  let taud := atTemp i.par.taud t
  let ad := Config.expNeg (hz / taud)
  let a1 := Config.expNeg (hz * 1000 / atTemp i.par.tau1 t)
  let slope := tableSlope f q / 100
  let q0 := (ad - 1) * z.x
  let q1 := hz / (3600 * c) + (1 - ad) * taud / (3600 * c)
  let hI := g * (i.par.gamma * hz / 3600 * (g - z.h))
  let vh := (tableSoc (i.par.ocv t 1) q - tableSoc (i.par.ocv t (-1)) q) / 20000
  let u := tableSlope (fun k => (i.par.uanode.getD k 0 : Rat)) q * 100 * i.par.anodeScale t z.h q
  ((tableSoc f q / 10000 + slope * q0 + a1 * z.v1, slope * q1 + vh * hI + z.r0 + (1 - a1) * z.r1),
    (z.plating i t 0 + u * q0, u * q1 - (i.par.rashare : Rat) / 65535 * z.r0 * 1000))

/-- Toward zero to 1 mA, within ±10 C_nom per hour (R250). -/
def limitMa (i : RefIn) (a : Rat) : Int :=
  let m : Int := Int.tdiv (a * 1000).num (a * 1000).den
  let cap : Int := ((10 * i.cfg EST_CAPNOM.MAH : Nat) : Int)
  clampI (-cap) cap m

/-- The charge limit of one horizon in mA (R250). -/
def LaneEst.chargeLimit (z : LaneEst) (i : RefIn) (t : Int) (c : Rat) (sec : Nat) : Int :=
  let h := z.horizon i t c 1 sec
  let res : Rat := (i.cfg EST_PLATRES.PLATRES : Rat)
  let vmax : Rat := (i.cfg EST_VLIM.VMAX : Rat) / 10000
  if h.2.1 < res ∨ vmax < h.1.1 ∨ 1 < z.s then 0
  else
    let soc := (1 - z.s) * 3600 * c / (sec : Rat)
    let a := if 0 < h.1.2 then min soc ((vmax - h.1.1) / h.1.2) else soc
    limitMa i (if h.2.2 < 0 then min a ((h.2.1 - res) / -h.2.2) else a)

/-- The discharge limit of one horizon in mA (R250). -/
def LaneEst.dischargeLimit (z : LaneEst) (i : RefIn) (t : Int) (c : Rat) (sec : Nat) : Int :=
  let h := z.horizon i t c (-1) sec
  let vmin : Rat := (i.cfg EST_VLIM.VMIN : Rat) / 10000
  if h.1.1 < vmin ∨ z.s < 0 then 0
  else
    let soc := -(z.s * 3600 * c / (sec : Rat))
    limitMa i (if 0 < h.1.2 then max soc ((vmin - h.1.1) / h.1.2) else soc)

/-- The six limits: charge for 2 s, 10 s, 30 s, then discharge; 0 with VRANGE; charge at -10 °C in the temperature
fallback (Table EST-5, R240). -/
def LaneEst.limits (z : LaneEst) (i : RefIn) (c : Rat) : List Int :=
  if bit i.cf Cf.vrange then List.replicate 6 0
  else
    let cold : Int := if z.tfall i then -1000 else z.temp
    ([2, 10, 30].map fun n => z.chargeLimit i cold c n) ++ [2, 10, 30].map fun n => z.dischargeLimit i z.temp c n

end Sys2Proof.Machine
end

