-- ==== Sys2Proof/Machine/RefLearn.lean ====
section
/-! DEFINITION. Learning without rest: ledger records, learning control block, capacity, resistance, impedance, suspicion
and the commands of the reference estimator, and its run over the lanes of an automatic job (R251, R254 to R274, R278). -/

namespace Sys2Proof.Machine
open Sys2Proof Sys2Proof.Reg

/-! ### The ledger record (Table LRN-4) -/

/-- The fields of a ledger record. -/
structure Ledger where
  cap : Nat
  r0 : Nat
  r1 : Nat
  soc : Nat
  h : Nat
  sig : Nat
  flags : Nat
  qthru : Nat
  ncap : Nat
  nres : Nat
  tcap : Nat
  rbase : Nat
  ver : Nat

/-- The record in the eight words `w`. -/
def Ledger.ofWords (w : Nat → Nat) : Ledger :=
  { cap := w 0, r0 := bits (w 1) 0 16, r1 := bits (w 1) 16 16, soc := bits (w 2) 0 16, h := bits (w 2) 16 16
    sig := bits (w 3) 0 16, flags := bits (w 3) 16 16, qthru := w 4, ncap := bits (w 5) 0 16, nres := bits (w 5) 16 16
    tcap := w 6, rbase := bits (w 7) 0 16, ver := bits (w 7) 16 8 }

/-- The words of a record. -/
def Ledger.words (x : Ledger) : List Nat :=
  [x.cap, x.r0 + 2 ^ 16 * x.r1, x.soc + 2 ^ 16 * x.h, x.sig + 2 ^ 16 * x.flags, x.qthru, x.ncap + 2 ^ 16 * x.nres, x.tcap,
    x.rbase + 2 ^ 16 * x.ver]

/-- The words without SOC, H and SIG: a change in them moves LSEQ (R259). -/
def Ledger.learned (x : Ledger) : List Nat := { x with soc := 0, h := 0, sig := 0 }.words

/-- FLAGS of the record. -/
def Led.valid : Nat := 0
def Led.suspect : Nat := 1
def Led.nominal : Nat := 2

/-- LFLAGS (Table LRN-3). -/
def Lf.capAcc : Nat := 0
def Lf.capRej : Nat := 1
def Lf.rled : Nat := 2
def Lf.suspect : Nat := 3
def Lf.forgot : Nat := 4
def Lf.intOpen : Nat := 5
def Lf.xneed : Nat := 6
def Lf.xcorr : Nat := 7
def Lf.lcbBad : Nat := 8
def Lf.rstep : Nat := 9

/-- One cell in a sweep: its working store, its record, FLAGS, the sweep bits of LFLAGS, and whether a command has acted. -/
structure RefCell where
  z : LaneEst
  led : Ledger
  fl : Nat
  lf : Nat
  acted : Bool

/-- The cell is SUSPECT. -/
def RefCell.susp (y : RefCell) : Bool := bit y.led.flags Led.suspect

/-- C in Ah. -/
def Ledger.ah (x : Ledger) : Rat := (x.cap : Rat) / 1000

/-! ### Learning control block (R261) -/

/-- The block passes its check: `ld` reads it, `p` is the parameter block, `capnom` EST_CAPNOM. -/
def lcbGood (ld : Nat → Nat → Nat) (p capnom : Nat) : Bool :=
  decide (p + 0x800 ≤ 0x30380000) && decide (ld 0x00 2 = 1) && decide (2000 ≤ ld 0x04 2 ∧ ld 0x04 2 ≤ 8000)
    && decide (1 ≤ ld 0x06 2 ∧ ld 0x06 2 ≤ 720) && decide (ld 0x08 4 = capnom) && decide (1 ≤ ld 0x0C 2)
    && decide (1 ≤ ld 0x0E 2) && decide (1 ≤ ld 0x14 2 ∧ ld 0x14 2 ≤ 1440) && decide (ld 0x16 2 = 0)
    && decide (ld 0x3C 4 = 0)

/-- Bit `b` of the block's FLAGS: 0 CLEARN, 1 RLEARN, 2 ZEN; nothing is learned where the block is bad. -/
def RefIn.learns (i : RefIn) (b : Nat) : Bool := i.lcbOk && bit (i.lcb 0x02 2) b

/-! ### Capacity (R263 to R265) -/

/-- The open interval counts the sweep; with CLEARN = 0 it is dropped (R263, R265). -/
def RefCell.accumulate (y : RefCell) (i : RefIn) : RefCell :=
  let iv := match y.z.ival with
    | none => none
    | some v =>
      if i.learns 0 = false then none
      else
        match i.current with
        | some a =>
          let bled : Rat := if i.run.isSome || bit i.cf Cf.bleed then i.par.bleedA * i.bleedShare / 10 else 0
          some { v with q := v.q + a * i.hours, e := v.e + (absQ a / 2000 + 1 / 50 + bled) * i.hours }
        | none => some { v with e := v.e + (absQ y.z.lastI + 1) * i.hours }
  { y with z := { y.z with ival := iv } }

/-- Charge throughput in whole Ah, the fraction kept (Table LRN-4). -/
def RefCell.throughput (y : RefCell) (i : RefIn) : RefCell :=
  match i.current with
  | some a =>
    if i.lcbOk then
      let t := y.z.through + absQ a * i.hours
      let n := t.floor.toNat
      { y with z := { y.z with through := t - (n : Rat) }, led := { y.led with qthru := min 0xFFFFFFFF (y.led.qthru + n) } }
    else y
  | none => y

/-- A new interval opens at the anchor value `q`. -/
def RefCell.opens (y : RefCell) (i : RefIn) (q : Rat) : RefCell :=
  { y with z := { y.z with ival := some ⟨q, 0, 0, i.now⟩ } }

/-- The cell becomes SUSPECT (R273). -/
def RefCell.suspect (y : RefCell) : RefCell :=
  { y with led := { y.led with flags := setBit y.led.flags Led.suspect }, z := { y.z with step := none } }

/-- The outcome of a measurement `cm` over an interval, as EST_LASTCAP.RESULT: 0 none, 1 accepted, 2 range, 3 sign or error
(R264). -/
def RefCell.judge (y : RefCell) (v : Interval) (dS cm : Rat) : Nat :=
  if y.susp then 0
  else if decide (v.q = 0) || (decide (0 < v.q) != decide (0 < dS)) then 3
  else if absQ v.q / 50 ≤ v.e then 3
  else if 3 / 20 * y.led.ah < absQ (cm - y.led.ah) then 2 else 1

/-- An accepted measurement (R264). -/
def Ledger.accept (x : Ledger) (cm : Rat) (now : Nat) : Ledger :=
  let w : Rat := if x.ncap = 0 then 1 else 1 / 5
  let nominal := bit x.flags Led.nominal
  { x with
    cap := codeQ 0xFFFFFFFE ((x.ah + w * (cm - x.ah)) * 1000), ncap := min 65535 (x.ncap + 1), tcap := now / 1000000
    rbase := if nominal then x.r0 else x.rbase, flags := clrBit x.flags Led.nominal }

/-- The decision at an accepted anchor of value `q` (R264, R273). -/
def RefCell.measure (y : RefCell) (i : RefIn) (q : Rat) : RefCell :=
  if i.learns 0 = false then y
  else
    match y.z.ival with
    | none => y.opens i q
    | some v =>
      let dS := q - v.q0
      if absQ dS < (i.lcb 0x04 2 : Rat) / 10000 then
        if v.at_ + i.lcb 0x06 2 * 3600000000 < i.now then y.opens i q else y
      else
        let cm := v.q / dS
        let k := y.judge v dS cm
        let side : Int := if y.led.ah < cm then 1 else -1
        let far : Bool := decide (3 / 10 * y.led.ah < absQ (cm - y.led.ah))
        let again : Bool := decide (y.z.side = side)
        let y := if k = 1 then { y with led := y.led.accept cm i.now, lf := setBit y.lf Lf.capAcc } else y
        let y := if 2 ≤ k then { y with lf := setBit y.lf Lf.capRej } else y
        let y := if k = 2 ∧ (far || again) = true then y.suspect else y
        let z := if k = 0 then y.z
          else { y.z with capm := codeQ 0xFFFFFFFE (cm * 1000), result := k, side := if k = 2 then side else 0 }
        ({ y with z := z }).opens i q

/-! ### Resistance (R260, R266, R273) -/

/-- A resistance at the cell temperature normalised to 25 °C, in µΩ (R260). -/
def norm25 (l : List Nat) (t : Int) (r : Rat) : Rat := r * 1000000 * atTemp l 2500 / atTemp l t

/-- The learned resistances follow the filter every 15 min of sweeps (R266). -/
def RefCell.resistance (y : RefCell) (i : RefIn) : RefCell :=
  if i.learns 1 = false then y
  else
    let n := y.z.resUs + i.dt
    if n < 900000000 then { y with z := { y.z with resUs := n } }
    else
      let y := { y with z := { y.z with resUs := n - 900000000 } }
      let warm : Bool := match i.temp with
        | some t => decide (1500 ≤ t ∧ t ≤ 4000)
        | none => false
      if y.susp = false ∧ warm = true ∧ y.z.r0Width ≤ y.z.r0 / 20 then
        let near (old : Nat) (v : Rat) : Nat := codeQ 65534 ((old : Rat) + (v - (old : Rat)) / 5)
        { y with
          led := { y.led with
            r0 := near y.led.r0 (norm25 i.par.r0 y.z.temp y.z.r0), r1 := near y.led.r1 (norm25 i.par.r1 y.z.temp y.z.r1)
            nres := min 65535 (y.led.nres + 1) }
          lf := setBit y.lf Lf.rled }
      else y

/-- A resistance step is timed over the measurement updates; 60 s make the cell SUSPECT (R273). -/
def RefCell.stepped (y : RefCell) (i : RefIn) : RefCell :=
  let l : Rat := (y.led.r0 : Rat)
  let off : Bool := decide (3 / 10 * l < absQ (norm25 i.par.r0 y.z.temp y.z.r0 - l))
    && decide (y.z.r0Width ≤ y.z.r0 / 10)
  if y.susp then { y with z := { y.z with step := none } }
  else
    match y.z.step, i.updates with
    | none, true => if off then { y with z := { y.z with step := some 0 } } else y
    | none, false => y
    | some n, false => { y with z := { y.z with step := some (n + i.dt) } }
    | some n, true =>
      if off = false then { y with z := { y.z with step := none } }
      else if 60000000 ≤ n + i.dt then y.suspect
      else { y with z := { y.z with step := some (n + i.dt) } }

/-! ### Impedance (R267, R268, R271) -/

/-- Grid indices of the twelve points (Table LRN-6). -/
def zGrid : List Nat := [1, 2, 3, 4, 8, 12, 20, 32, 52, 80, 128, 200]

/-- One sample enters the sums of the point on grid index `k` (R267). -/
def ZPoint.sample (p : ZPoint) (k : Nat) (i : RefIn) (a : Rat) : ZPoint :=
  let t : Rat := ((k * i.ts % 2032000000 : Nat) : Rat) / 2032000000
  let c := Config.turn false t
  let n := Config.turn true t
  let v : Rat := (i.v : Rat) / 10000
  { p with vr := p.vr + v * c, vi := p.vi - v * n, ir := p.ir + a * c, ii := p.ii - a * n }

/-- Coherence of a point (R267). -/
def ZPoint.coherence (p : ZPoint) : Rat :=
  if p.i2 * p.v2 = 0 then 0 else (p.xr * p.xr + p.xi * p.xi) / (p.i2 * p.v2)

/-- A window of `used` samples ends: averages with weight 1/8, the first taking the whole, and VALID (R267, R268). -/
def ZPoint.close (p : ZPoint) (used zimin zcoh : Nat) (src : Bool) : ZPoint :=
  let i2 := p.ir * p.ir + p.ii * p.ii
  let v2 := p.vr * p.vr + p.vi * p.vi
  let met : Bool := decide (0 < used) &&
    decide (((zimin * used : Nat) : Rat) * ((zimin * used : Nat) : Rat) ≤ 4 * i2 * 1000000)
  let w : Rat := if p.begun then 1 / 8 else 1
  let near (old new : Rat) : Rat := old + w * (new - old)
  let p := if used = 0 then p
    else { p with xr := near p.xr (p.vr * p.ir + p.vi * p.ii), xi := near p.xi (p.vi * p.ir - p.vr * p.ii), i2 := near p.i2 i2
                  v2 := near p.v2 v2, begun := true }
  let hist := (met :: p.met).take 8
  { p with
    vr := 0, vi := 0, ir := 0, ii := 0, met := hist, since := if met then 0 else p.since, src := src
    valid := decide ((zcoh : Rat) / 65535 ≤ p.coherence) && decide (4 ≤ hist.count true) && p.begun }

/-- Minutes since the last window that met ZIMIN; at 255 VALID clears (R268). -/
def ZPoint.older (p : ZPoint) (dt : Nat) : ZPoint :=
  let n := p.since + dt
  { p with since := n, valid := p.valid && decide (n < 255 * 60000000) }

/-- The points as they stand at a restart (R268). -/
def LaneEst.zRestart (z : LaneEst) : LaneEst :=
  { z with win := 0, used := 0, bled := false, zTemp := z.temp, pts := List.replicate 12 ZPoint.fresh }

/-- The sweep of the impedance windows: while ZEN and at a 1 ms period (R267, R268). -/
def LaneEst.spectra (z : LaneEst) (i : RefIn) : LaneEst :=
  let z := { z with pts := z.pts.map fun (p : ZPoint) => p.older i.dt }
  if (i.learns 2 && i.fast) = false then
    { z with win := 0, used := 0, bled := false, pts := z.pts.map fun (p : ZPoint) => { p with vr := 0, vi := 0, ir := 0, ii := 0 } }
  else
    let z := if 200 < (z.temp - z.zTemp).natAbs then z.zRestart else z
    let z := match i.syncCurrent with
      | some a =>
        if i.updates then { z with used := z.used + 1, pts := List.zipWith (fun (p : ZPoint) k => p.sample k i a) z.pts zGrid } else z
      | none => z
    let z := { z with win := z.win + 1, bled := z.bled || i.run.isSome }
    if z.win < 2032 then z
    else
      let pts := List.zipWith (fun (p : ZPoint) n => p.close z.used (i.lcb 0x0E 2) (i.lcb 0x0C 2) (z.bled && decide (3 ≤ n))) z.pts
        (List.range 12)
      let z := { z with win := 0, used := 0, bled := false, pts := pts }
      let seen : List (Nat × ZPoint) :=
        (List.zip (List.range 12) pts).filter fun x => [3, 4, 5, 6, 7, 8, 11].contains x.1 && x.2.valid
      if seen = [] then z
      else
        let e := seen.flatMap fun x => [(x.1 : Rat), x.2.xr / x.2.i2, x.2.xi / x.2.i2, x.2.coherence]
        { z with r0 := z.r0 + Config.estimator 8 z.cov e, r1 := z.r1 + Config.estimator 9 z.cov e
                 cov := Config.covariance z.cov e }

/-! ### Commands and seeding (R262, R274, R278) -/

/-- The record that FORGET_CELL leaves (R274). -/
def RefIn.forgotten (i : RefIn) : Ledger :=
  let r0 := i.par.r0.getD 2 0
  { cap := i.cfg EST_CAPNOM.MAH, r0 := r0, r1 := i.par.r1.getD 2 0, soc := 0, h := 0, sig := 10000, flags := 5, qthru := 0, ncap := 0
    nres := 0, tcap := 0, rbase := r0, ver := 1 }

/-- FORGET_CELL: a nominal record, filters and impedance start again, s from VCELL, no anchor (R274). A VCELL outside the
table gives its end, none leaves s (log entry 126: DEDUCED). -/
def RefCell.forget (y : RefCell) (i : RefIn) : RefCell :=
  let q := if i.v = 0xFFFF then y.z.s else tableEnd (i.par.ocv y.z.temp 0) (i.v : Rat)
  let z := ((y.z.filterReset i).step_ i q).zRestart
  { y with
    led := i.forgotten, acted := true, lf := setBit y.lf Lf.forgot
    z := { z with h := 0, sig := 1, ival := none, step := none, side := 0, through := 0, conf := 0 } }

/-- The commands of the learning control block, in the job of sweep CSTAMP (R262, R274). -/
def RefCell.commands (y : RefCell) (i : RefIn) : RefCell :=
  if i.lcbOk = false ∨ i.lcb 0x18 4 ≠ i.sw then y
  else
    (List.range 8).foldl (fun (y : RefCell) k =>
      let w := i.lcb (0x1C + 4 * k) 4
      if bits w 0 9 ≠ i.cell then y
      else if bits w 12 4 = 1 then y.forget i
      else if bits w 12 4 = 2 then
        { y with led := { y.led with flags := clrBit y.led.flags Led.suspect }, z := { y.z with step := none }, acted := true }
      else y) y

/-- What the Herd's power-down left of a cell for its seeding: EST_SOC, EST_CST.SIG and EST_END where RETAINED, the rest
timer, the time in Paddock, the counting owed after Lame (R254 to R256). -/
structure Kept where
  retained : Bool
  soc : Nat
  sig : Nat
  e0 : Nat
  e1 : Nat
  rest : Nat
  padSec : Nat
  owed : Option (Int × Nat × Bool)

/-- The working store that a cell is seeded with (R256, R278): `led` is its record in lane memory. Before a first valid
temperature 25 °C holds (log entry 126: DEDUCED). -/
def seedCell (i : RefIn) (led : Ledger) (k : Kept) : RefCell :=
  let t := i.temp.getD 2500
  let unit (n : Nat) : Rat := (n : Rat) / 65535
  let s := unit (if k.retained then k.soc else led.soc)
  let back (l : List Nat) (r : Nat) : Rat := (r : Rat) / 1000000 * atTemp l t / atTemp l 2500
  let sig : Rat := if k.retained then (k.sig : Rat) / 1000 + i.par.bleedA * (k.padSec : Rat) / 3600 / led.ah
    else (led.sig : Rat) / 10000 + 3 / 100
  let z : LaneEst :=
    { cell := i.cell, s := s, x := 0, v1 := 0, h := (sgn 16 led.h : Rat) / 32767, r0 := back i.par.r0 led.r0
      r1 := back i.par.r1 led.r1, cov := 0, sig := min 1 sig, rep := s, d0 := 0, t0 := none
      e0 := unit k.e0, e1 := unit k.e1, ends := k.retained, rest := k.rest + k.padSec * 1000000, minutes := []
      temp := t, tempAt := i.now, lastI := 0, charged := false, inno := 0, conf := 0, anchorAt := none, since := i.now
      ival := none, capm := 0xFFFFFFFF, result := 0, side := 0, resUs := 0, step := none, through := 0, win := 0, used := 0
      bled := false, zTemp := t, pts := List.replicate 12 ZPoint.fresh }
  let z := match k.owed with
    | none => z
    | some o =>
      let dq : Rat := (o.1 : Rat) / 57600000000
      let z := z.step_ i (z.s + dq / led.ah)
      { z with sig := if o.2.2 then 1
                 else min 1 (z.sig + (absQ dq / 2000 + 1 / 50 * ((o.2.1 : Rat) / 3600000000)) / led.ah) }
  let y : RefCell := ⟨z, led, 0, 0, false⟩
  if led.ver = 1 ∧ bit led.flags Led.valid = true then y else y.forget i

/-! ### One cell in one sweep -/

/-- FLAGS bits of the lane record (Table EST-4). -/
def Fl.anchA : Nat := 0
def Fl.anchB : Nat := 1
def Fl.fReset : Nat := 5

/-- Counting, update and filter reset of a sweep (R236 to R241). -/
def RefCell.track (y : RefCell) (i : RefIn) : RefCell :=
  let y := (y.accumulate i).throughput i
  let z := ((y.z.warm i).resting i).count i y.led.ah
  let z := match i.syncCurrent with
    | some a => if i.updates then z.update i a else z
    | none => z
  let z := z.confident i
  if 10 ≤ z.inno then { y with z := z.filterReset i, fl := setBit y.fl Fl.fReset } else { y with z := z }

/-- The anchor of a sweep: s, SIG, the report's correction, and the learning interval (R244, R245, R264). -/
def RefCell.anchored (y : RefCell) (i : RefIn) : RefCell :=
  let y := { y with z := y.z.report i }
  match y.z.anchor i with
  | none => y
  | some (a, q, g) =>
    let z := { y.z.step_ i q with sig := g, anchorAt := some i.now }
    ({ y with z := z, fl := setBit y.fl (if a then Fl.anchA else Fl.anchB) }).measure i q

/-- One sweep of the reference estimator on one cell. -/
def RefCell.sweep (y : RefCell) (i : RefIn) : RefCell :=
  let y := { y with z := { y.z with result := 0 } }
  let y := (((y.track i).anchored i).resistance i).stepped i
  let y := ({ y with z := y.z.spectra i }).commands i
  { y with z := (y.z.report i).endpoints i }

/-- The cell needs excitation (R272); with a bad control block it does not. -/
def RefCell.xneed (y : RefCell) (i : RefIn) : Bool :=
  i.lcbOk && i.anchors && !y.susp &&
    (decide (y.z.anchorAt.getD y.z.since + i.lcb 0x14 2 * 60000000 ≤ i.now)
      || decide (((y.z.pts.drop 3).filter fun p => p.valid).length < 5))

/-! ### What the lane writes and publishes -/

/-- A word of two halves. -/
def halves (lo hi : Nat) : Nat := lo % 2 ^ 16 + 2 ^ 16 * (hi % 2 ^ 16)

/-- FLAGS of Table EST-4. -/
def RefCell.flags (y : RefCell) (i : RefIn) : Nat :=
  let flat : Bool := decide (tableSlope (i.par.ocv y.z.temp y.z.h) y.z.s < (i.cfg EST_ANCH.SLOPE : Rat))
  y.fl ||| maskOf 9 fun b =>
    match b with
    | 2 => decide (0 < y.z.blend i)
    | 3 => i.updates
    | 4 => y.z.tfall i
    | 6 => flat
    | 7 => i.atRest
    | 8 => i.current.isNone
    | _ => false

/-- LFLAGS of Table LRN-3. -/
def RefCell.lflags (y : RefCell) (i : RefIn) : Nat :=
  y.lf ||| maskOf 10 fun b =>
    if b = Lf.suspect then y.susp else if b = Lf.intOpen then y.z.ival.isSome else if b = Lf.xneed then y.xneed i
    else if b = Lf.xcorr then i.run.isSome else if b = Lf.lcbBad then !i.lcbOk else if b = Lf.rstep then y.z.step.isSome
    else false

/-- A cell voltage code (R7). -/
def voltCode (v : Rat) : Nat := codeQ 0xFFFE (v * 10000)

/-- The current that the lane holds for the present: at the SYNC instant, else I_c, else the last valid. -/
def RefCell.present (y : RefCell) (i : RefIn) : Rat := i.syncCurrent.getD (i.current.getD y.z.lastI)

/-- PLAT in mV (R249). -/
def RefCell.platMv (y : RefCell) (i : RefIn) : Int :=
  clampI (-32767) 32767 (roundQ (y.z.plating i y.z.temp (y.present i)))

/-- USOC as a code. -/
def RefCell.usocCode (y : RefCell) : Nat := codeQ 65535 (y.z.usable * 65535)

/-- The output record, 0x020 to 0x04B (Table EST-3). -/
def RefCell.record (y : RefCell) (i : RefIn) : List Nat :=
  let a := y.present i
  let next := y.z.advance i y.led.ah a true
  [halves (voltCode (next.predict i a)) (codeQ 0xFFFE (tableSoc (i.par.ocv y.z.temp y.z.h) y.z.s)),
    halves i.sw (y.flags i), halves (codeQ 65535 (y.z.rep * 65535)) y.usocCode,
    halves (codeQ 10000 (y.z.sig * 10000)) (enc 16 (y.platMv i)),
    halves (codeQ 65534 (y.z.r0 * 1000000)) (codeQ 65534 (y.z.r1 * 1000000))]
    ++ (y.z.limits i y.led.ah).map (enc 32)

/-- Point `n` where it is VALID. -/
def LaneEst.point (z : LaneEst) (n : Nat) : Option ZPoint := (z.pts[n]?).bind fun p => if p.valid then some p else none

/-- Re Z of point `n` in µΩ, 0xFFFF where it is not valid. -/
def LaneEst.reCode (z : LaneEst) (n : Nat) : Nat :=
  match z.point n with
  | some p => codeQ 65534 (p.xr / p.i2 * 1000000)
  | none => 0xFFFF

/-- The learning words, 0x04C to 0x05F (Table LRN-2). -/
def RefCell.learning (y : RefCell) (i : RefIn) (seq : Nat) : List Nat :=
  let iv := match y.z.ival with
    | some v => halves (codeQ 0xFFFE (absQ (y.z.s - v.q0) * 10000))
        (if v.q = 0 then 0xFFFF else codeQ 0xFFFF (v.e / absQ v.q * 10000))
    | none => halves 0xFFFF 0xFFFF
  [halves (y.lflags i) seq, y.z.capm, iv, halves (y.z.reCode 11) (y.z.reCode 3),
    maskOf 12 fun n => (y.z.point n).isSome]

/-- The record with the present SOC, H and SIG (Table LRN-4). -/
def RefCell.ledger (y : RefCell) : Ledger :=
  { y.led with
    soc := codeQ 65535 (y.z.s * 65535), h := enc 16 (clampI (-32767) 32767 (roundQ (y.z.h * 32767)))
    sig := codeQ 10000 (y.z.sig * 10000) }

/-- Words stored from address `a` on. -/
def State.setWords (s : State) (a : Nat) (ws : List Nat) : State :=
  match ws with
  | [] => s
  | w :: rest => State.setWords (s.setWord a w) (a + 4) rest

/-- The impedance points of the lane at `a`: Re Z then Im Z of each VALID point, the others as they are; status of every
point (Table LRN-1). -/
def State.setPoints (s : State) (a : Nat) (z : LaneEst) : State :=
  let s := (List.range 12).foldl (fun (s : State) n =>
    match z.point n with
    | some p => s.setWords (a + 0x80 + 8 * n) [fpOfRat (p.xr / p.i2), fpOfRat (p.xi / p.i2)]
    | none => s) s
  s.setWords (a + 0xE0) (z.pts.map fun p =>
    codeQ 65535 (p.coherence * 65535) + 2 ^ 16 * min 255 (p.since / 60000000) + 2 ^ 24 * b2n p.src + 2 ^ 25 * b2n p.valid)

/-! ### The automatic job (R233, R238, R251) -/

/-- The words of a current or a voltage header field: none where not available. -/
def avail (w : Nat) : Option Int := if w = 0x80000000 then none else some (sgn 32 w)

/-- What the lane `l` that serves `cell` reads in the job of sweep `sw` with argument `p` (R120). -/
def State.refIn (s : State) (sw p : Nat) (par : RefPar) (l cell : Nat) : RefIn :=
  let h := hdrAddr sw
  let a := laneAddr l (0x10 * (sw % 2))
  let t := s.load 2 (a + 4)
  let ts := s.load 8 (h + 4)
  let unit := bits (s.word (a + 4)) 16 6
  let cfg (f : Fld) : Nat := mapGet f.reset s.est.cfg f.key
  let lcb (off n : Nat) : Nat := s.load n (p + 0x780 + off)
  { sw := sw, ts := ts, now := ts / 1000, dt := s.word (h + 0x24), flags := s.word (h + 0x2C)
    isync := if bit (s.word (h + 0x2C)) 0 then avail (s.word (h + 0xC)) else none
    ihall := avail (s.word (h + 0x10)), iavg := avail (s.word (h + 0x14)), cell := cell, v := s.load 2 a
    fresh := bit (s.word a) 24, temp := if t = 0x8000 then none else some (sgn 16 t), cf := s.word (a + 0xC)
    quiet := 10 * (s.unit unit).qcfg, cfg := cfg, model := decide (s.est.method = 1)
    aEn := decide (s.swGet EST_CTRL.A_EN = 1), bEn := decide (s.swGet EST_CTRL.B_EN = 1), par := par, lcb := lcb
    lcbOk := lcbGood lcb p (cfg EST_CAPNOM.MAH)
    fast := decide (s.gait = Gait.canter ∨ s.gait = Gait.gallop) }

/-- What the EST block and the last power-down kept of a cell. -/
def State.kept (s : State) (cell : Nat) : Kept :=
  { retained := s.flag EST_STAT.RETAINED, soc := s.get (EST_SOC.SOC cell), sig := s.get (EST_CST.SIG cell)
    e0 := s.get (EST_END.E0 cell), e1 := s.get (EST_END.E100 cell), rest := mapGet 0 s.est.rests cell
    padSec := s.est.padSec, owed := s.est.owed }

/-- The values that a lane takes to the reductions: six limits, USOC, PLAT, XNEED (Tables EST-7, R272). -/
def RefCell.publish (y : RefCell) (i : RefIn) : List Int :=
  y.z.limits i y.led.ah ++ [(y.usocCode : Int), y.platMv i, if y.xneed i then 1 else 0]

/-- One lane of the job: seeded where the Herd has been powered up since, then swept, its memory written, STAMP with the
rest (R238, R258, R259). -/
def State.refLane (s : State) (sw p : Nat) (par : RefPar) (l cell : Nat) : State × List Int :=
  let i := s.refIn sw p par l cell
  let led := Ledger.ofWords fun k => s.word (laneAddr l (0x60 + 4 * k))
  let y := match s.est.lanes.find? fun e => decide (e.1 = l ∧ e.2.cell = cell) with
    | some e => (⟨e.2, led, 0, 0, false⟩ : RefCell)
    | none => seedCell i led (s.kept cell)
  let y := y.sweep i
  let seq := bits (s.word (laneAddr l 0x4C)) 16 16
  let seq := if y.acted = true ∨ y.led.learned ≠ led.learned then (seq + 1) % 2 ^ 16 else seq
  let s := s.setWords (laneAddr l 0x20) (y.record i ++ y.learning i seq ++ y.ledger.words)
  let s := s.setPoints (laneAddr l 0) y.z
  (s.mapEst fun x => { x with lanes := (x.lanes.filter fun e => e.1 ≠ l) ++ [(l, y.z)] }, y.publish i)

/-- The reductions of Table EST-7 and slot 9, in slot order. -/
def refSlots : List Nat :=
  [Rop.rmin, Rop.rmin, Rop.rmin, Rop.rmax, Rop.rmax, Rop.rmax, Rop.rargmin, Rop.rargmax, Rop.rargmin, Rop.rsum]

/-- Place of a slot's value among the published values of a lane: USOC twice. -/
def refValue (slot : Nat) : Nat := if slot < 7 then slot else slot - 1

/-- The reference estimator over the served lanes of the automatic job of sweep `sw`, with an applied parameter block; it
publishes slots 0 to 9 (R235, R251, R272). -/
def State.refRun (s : State) (sw p teams : Nat) (cells : List (Nat × Nat)) : State :=
  if s.est.reference = false ∨ s.flag EST_STAT.PARAM_OK = false then s
  else
    let par := s.refPar p
    let here := cells.filter fun e => bit teams (e.1 / 16)
    let r := here.foldl (fun (x : State × List (Nat × List Int)) e =>
      let y := x.1.refLane sw p par e.1 e.2
      (y.1, x.2 ++ [(e.1, y.2)])) (s, [])
    let pubs := (List.range 10).map fun k =>
      let cs := r.2.map fun e => (e.1, (fpOfInt (enc 32 (e.2.getD (refValue k) 0))).val)
      let v := reduce (refSlots.getD k 0) cs
      (⟨k, v.2.1, v.2.2 + 2 ^ 15 + (sw % 2 ^ 16) * 2 ^ 16⟩ : Publish)
    (r.1.writePublishes pubs).mapEst fun x => { x with owed := none, padSec := 0, rests := [] }

/-- What the Herd's power-down keeps of the working store: the rest timers (R255). -/
def State.refDown (s : State) : State :=
  s.mapEst fun x => { x with rests := x.lanes.map fun e => (e.2.cell, e.2.rest), lanes := [] }

end Sys2Proof.Machine
end

