-- ==== Sys2Proof/Machine/HerdOps.lean ====
section
/-! DEFINITION. The Herd as operations: jobs and their states, the Saddle scheduler, lane registers, lane
faults, rendezvous and publishes, automatic sweep jobs (R113-R143). -/

namespace Sys2Proof.Machine
open Sys2Proof Sys2Proof.Reg

/-! ### Jobs -/

/-- Number of teams in a mask. -/
def teamCount (m : Nat) : Nat := ((List.range 32).filter fun t => bit m t).length

/-- The cost in tokens of a job of class `ecls` on the teams of a mask (R73). -/
def State.jobCost (s : State) (ecls teams : Nat) : Nat := s.get (THM_COST.COST ecls) * teamCount teams

/-- The class by which the bucket treats a job: 15 where it is urgent (R131). -/
def Job.bucketClass (j : Job) : Nat := if j.urgent then 15 else j.ecls

/-- A job that holds its teams. -/
def Job.active (j : Job) : Bool := decide (j.phase = .loading) || decide (j.phase = .running)

/-- Teams that hold a job. -/
def State.busyTeams (s : State) : Nat :=
  s.herd.jobs.foldl (fun a j => if j.active then a ||| j.teams else a) 0

/-- The registers that show the queue: HRD_TEAMBUSY, HRD_STAT, HRD_QOCC, HRD_AUTOSTAT.BUSY. -/
def State.herdRegs (s : State) : State :=
  let occ := s.herd.jobs.foldl (fun a j => a + 2 ^ j.index) 0
  let s := (s.set HRD_QOCC0.OCC occ).set HRD_QOCC1.OCC (occ / 2 ^ 32)
  let s := (s.set HRD_TEAMBUSY.TEAMS s.busyTeams).set HRD_STAT.QCOUNT s.herd.jobs.length
  (s.set HRD_STAT.RUNCOUNT (s.herd.jobs.filter (·.active)).length).set HRD_AUTOSTAT.BUSY (occ % 2)

/-- `s` with another job list, and the registers that show it. -/
def State.setJobs (s : State) (js : List Job) : State :=
  (s.mapHerd fun x => { x with jobs := js }).herdRegs

/-- The job at queue index `i`. -/
def State.jobAt (s : State) (i : Nat) : Option Job := s.herd.jobs.find? fun j => j.index = i

/-- A job joins the queue, index rising. -/
def insertJob (js : List Job) (j : Job) : List Job :=
  match js with
  | [] => [j]
  | k :: rest => if j.index < k.index then j :: k :: rest else k :: insertJob rest j

/-- `s` with the job at index `j.index` replaced by `j`. -/
def State.putJob (s : State) (j : Job) : State :=
  s.setJobs (s.herd.jobs.map fun k => if k.index = j.index then j else k)

/-- A job leaves the array: its teams are freed; the index too, unless the completion gate holds its
completion (Table HRD-8). -/
def State.dropJob (s : State) (j : Job) : State :=
  let gated : Bool := s.tandem && (match j.owner with
    | some (c, _) => decide (c ≠ .grm)
    | none => false)
  if gated then s.putJob { j with phase := .ended, runs := [], pubs := [] }
  else s.setJobs (s.herd.jobs.filter fun k => k.index ≠ j.index)

/-- The completion of a job that has ended is still held by the completion gate. -/
def State.jobHeld (s : State) (j : Job) : Bool :=
  match j.owner with
  | none => false
  | some (c, t) =>
    match s.tag c t with
    | .held _ _ => true
    | _ => false

/-- Jobs whose held completion has been released give up their index (Table HRD-8). -/
def State.reapJobs (s : State) : State :=
  let gone (j : Job) : Bool := decide (j.phase = .ended) && !(s.jobHeld j)
  if s.herd.jobs.any gone then s.setJobs (s.herd.jobs.filter fun j => !(gone j)) else s

/-- The outcome of a job that has been taken off the array: completion, or for the automatic job
HRD_AUTOSTAT, source 113 and the EST block (R131, R136). The result value, a cycle count, is a free value
but for a job that never reached LOADING (log entry 63: DESIGN CHOICE). -/
def State.jobOutcome (s : State) (j : Job) (status info : Nat) : State :=
  match j.owner with
  | none => ((s.set HRD_AUTOSTAT.STATUS status).raise 113).autoEnded j.sweep status
  | some (c, t) =>
    if j.phase = .queued then s.complete c t info status 0
    else
      let (n, s) := s.draw 32
      s.complete c t info status n

/-- A job ends (Table HRD-8); the automatic job has then run the reference estimator (R233; log entry 125: DESIGN CHOICE). -/
def State.endJob (s : State) (j : Job) (status info : Nat) : State :=
  let s := if status = 0 then s.writePublishes j.pubs else s
  let s := if status = 0 ∧ j.owner = none then s.refRun j.sweep j.arg j.teams j.cells else s
  (s.dropJob j).jobOutcome j status info

/-- Every job for which `p` holds is stopped with STATUS 0x3 (Table HRD-8). -/
def State.abortJobs (s : State) (p : Job → Bool) : State :=
  (s.herd.jobs.filter fun j => p j && decide (j.phase ≠ .ended)).foldl
    (fun (s : State) j => (s.endJob j 3 0).note fun b => { b with stopped := b.stopped ++ [(j.index, 3)] }) s

/-! ### Saddle scheduler (R134, R135) -/

/-- A job is a candidate: urgent, or within the bucket (R73). -/
def State.isCandidate (s : State) (j : Job) : Bool :=
  decide (j.bucketClass = 15) || decide (s.jobCost j.bucketClass j.teams ≤ s.get THM_BUCKET.TOKENS)

/-- A chosen job is dispatched: cost, the bucket floored at 0, teams, cell map sampled, LOADING (R73, R131,
Table HRD-8). -/
def State.dispatch (s : State) (j : Job) : State :=
  let cost := s.jobCost j.bucketClass j.teams
  let s := s.set THM_BUCKET.TOKENS (s.get THM_BUCKET.TOKENS - cost)
  let cells := s.cel.map.map fun e => (layLane e.2, e.1)
  (s.putJob { j with phase := .loading, cells := cells }).note fun b =>
    { b with dispatched := b.dispatched ++ [j.index] }

/-- Does `a` come before `b` by deadline, then by queue index? -/
def Job.before (a b : Job) : Bool :=
  decide (a.deadline < b.deadline) || (decide (a.deadline = b.deadline) && decide (a.index < b.index))

/-- Jobs by deadline, then by queue index. -/
def byDeadline (js : List Job) : List Job :=
  js.foldl (fun acc j =>
    (acc.filter fun k => k.before j) ++ j :: (acc.filter fun k => !(k.before j))) []

/-- One evaluation (R134): `fuel` bounds its repeats by the length of the queue. -/
def State.evaluate (s : State) (fuel : Nat) : State :=
  match fuel with
  | 0 => s
  | n + 1 =>
    let cs := byDeadline (s.herd.jobs.filter fun j => decide (j.phase = .queued) && s.isCandidate j)
    match cs with
    | [] => s
    | j :: rest =>
      let busy := s.busyTeams
      if busy &&& j.teams = 0 then State.evaluate (s.dispatch j) n
      else
        let reserved := andNot 32 j.teams busy
        rest.foldl (fun (s : State) k =>
          if (s.busyTeams ||| reserved) &&& k.teams = 0 ∧ s.isCandidate k = true then s.dispatch k else s) s

/-- The queued jobs that the bucket allows are marked (R74). -/
def State.markCandidates (s : State) : State :=
  s.setJobs (s.herd.jobs.map fun j =>
    if j.phase = .queued ∧ s.isCandidate j = true then { j with candidate := true } else j)

/-- The scheduler evaluates: not with HOLD (R134), not on a standby (R135), not while the Herd has no clock (R24). -/
def State.schedule (s : State) : State :=
  if s.herd.jobs.isEmpty ∨ s.pllGated Pll.core then s
  else if s.tandem ∧ s.get TDM_STAT.STATE = Pair.standby then s
  else
    let s := s.markCandidates
    if s.flag HRD_CTRL.HOLD then s else s.evaluate 64

/-- A job joins the queue and the scheduler evaluates. -/
def State.queueJob (s : State) (j : Job) : State := (s.setJobs (insertJob s.herd.jobs j)).schedule

/-! ### Lanes -/

/-- Register `r` of lane `l`. -/
def State.laneReg (s : State) (l r : Nat) : Nat := mapGet 0 s.herd.v (64 * l + r)

/-- `s` with register `r` of lane `l` written. -/
def State.setLane (s : State) (l r v : Nat) : State :=
  s.mapHerd fun x => { x with v := mapSet 0 x.v (64 * l + r) (v % 2 ^ 32) }

/-- Predicates of lane `l`. -/
def State.lanePreds (s : State) (l : Nat) : Nat := mapGet 0 s.herd.p l

/-- `s` with predicate `p` of lane `l` written. -/
def State.setPred (s : State) (l p : Nat) (v : Bool) : State :=
  s.mapHerd fun x => { x with p := mapSet 0 x.p l (putBit (mapGet 0 x.p l) p v) }

/-- The governing predicate of a lane word on lane `l`. -/
def State.governs (s : State) (l pred : Nat) (unp neg : Bool) : Bool :=
  unp || (bit (s.lanePreds l) pred != neg)

/-- Lanes of team `t`. -/
def teamLanes (t : Nat) : List Nat := (List.range 16).map fun i => 16 * t + i

/-- Lanes of a job. -/
def Job.lanes (j : Job) : List Nat := ((List.range 32).filter fun t => bit j.teams t).flatMap teamLanes

/-- The state of R113 in every lane of a job. -/
def State.initLanes (s : State) (j : Job) : State :=
  let clean := s.mapHerd fun x => { x with
    v := x.v.filter fun e => !(bit j.teams (e.1 / 1024))
    p := x.p.filter fun e => !(bit j.teams (e.1 / 16)) }
  j.lanes.foldl (fun (s : State) l =>
    let cell := (j.cells.find? fun e => e.1 = l).map (·.2)
    let s := ((s.setLane l 0 l).setLane l 1 (cell.getD 0xFFFFFFFF)).setLane l 2 j.arg
    let s := s.setLane l 3 j.sweep
    s.when cell.isSome fun s => s.setPred l 0 true) clean

/-! ### Lane faults (R140) -/

/-- A lane fault ends the job with STATUS 0x1; kind 0x6 disables the team (Table HRD-10). -/
def State.laneFault (s : State) (j : Job) (team pc lane kind : Nat) : State :=
  let s := (s.setBitOf HRD_TEAMFLT.TEAMS team).raise (80 + team)
  let s := ((s.set HRD_FLTINFO.PC pc).set HRD_FLTINFO.TEAM team).set HRD_FLTINFO.KIND kind
  let s := s.set HRD_FLTINFO.LANE lane
  let s := s.endJob j 1 (kind + 16 * team)
  if kind = 6 then
    let s := (s.setBitOf HRD_TEAMDIS.TEAMS team).abortJobs fun k => bit k.teams team
    (s.stepLost TDM_FLT.LOCAL).schedule
  else s.schedule

/-- The lowest team of a job. -/
def Job.lowTeam (j : Job) : Nat := ((List.range 32).find? fun t => bit j.teams t).getD 0

/-- The job whose team `t` executes instructions, and the team's sequencer: running, not waiting, not
returned, the Herd not gated (R24). -/
def State.runner (s : State) (t : Nat) : Option (Job × TeamRun) :=
  match s.herd.jobs.find? fun j => j.phase = .running ∧ bit j.teams t = true ∧ s.pllGated Pll.core = false with
  | none => none
  | some j =>
    match j.runs.find? fun r => r.team = t with
    | none => none
    | some r => if r.done = true ∨ r.wait ≠ none then none else some (j, r)

/-- `s` with the sequencer of one team of a job replaced. -/
def State.putRun (s : State) (j : Job) (r : TeamRun) : State :=
  s.putJob { j with runs := j.runs.map fun q => if q.team = r.team then r else q }

/-- A corrected ECC error of a Herd memory is counted (R141). -/
def State.laneEcc (s : State) (e : Ecc) : State :=
  if e = .corrected then s.bump HRD_ECCCNT.COUNT 1 else s

/-- Op codes that Table HRD-6 leaves undefined. -/
def laneGaps : List Nat := [0x1B, 0x1C, 0x1D, 0x1E, 0x1F, 0x2D, 0x2E, 0x2F, 0x35, 0x36, 0x37]

/-- The lane command carries a word that is no lane word, or has an undefined op code (R121, R140). -/
def laneUndefined (o : LaneOp) : Bool :=
  match o.raw with
  | none => false
  | some w => decide (bits w.toNat 30 2 ≠ 3) || laneGaps.contains (bits w.toNat 24 6)

/-- One lane word on its team: fetch range, ECC of the program store, an undefined op, fields that must be 0 (R121,
R125, Table HRD-10), then `body`. -/
def State.laneGo (s : State) (o : LaneOp) (legal : Bool) (body : State → Job → TeamRun → State) : State :=
  match s.runner o.team.toNat with
  | none => s
  | some (j, r) =>
    let s := s.laneEcc o.ecc
    if j.plen ≤ r.pc then s.laneFault j r.team r.pc 0 2
    else if o.ecc = .uncorrectable then s.laneFault j r.team r.pc 0 6
    else if laneUndefined o || !legal || (o.unp && (decide (o.pred ≠ 0) || o.neg)) then s.laneFault j r.team r.pc 0 1
    else body s j r

/-- The sequencer goes on with the next word. -/
def State.laneNext (s : State) (j : Job) (r : TeamRun) : State := s.putRun j { r with pc := r.pc + 1 }

/-- Executing lanes of a word. -/
def State.executing (s : State) (o : LaneOp) : List Nat :=
  (teamLanes o.team.toNat).filter fun l => s.governs l o.pred.toNat o.unp o.neg

/-- A word that writes one register in every executing lane; M is undefined (Table HRD-6). -/
def State.laneAlu (s : State) (o : LaneOp) (legal : Bool) (dst : BitVec 6) (val : State → Nat → Nat) :
    Host.Outcome State Fault Refusal :=
  .next (s.laneGo o (legal && !o.m) fun s j r =>
    let s' := (s.executing o).foldl (fun (t : State) l => t.setLane l dst.toNat (val s l)) s
    s'.laneNext j r)

/-- A word of two sources. -/
def State.laneBin (s : State) (o : LaneOp) (dst a b : BitVec 6) (f : Nat → Nat → Nat) :
    Host.Outcome State Fault Refusal :=
  s.laneAlu o true dst fun s l => f (s.laneReg l a.toNat) (s.laneReg l b.toNat)

/-- A word of one source, srcB 0. -/
def State.laneUn (s : State) (o : LaneOp) (dst a b : BitVec 6) (f : Nat → Nat) :
    Host.Outcome State Fault Refusal :=
  s.laneAlu o (decide (b = 0)) dst fun s l => f (s.laneReg l a.toNat)

/-- A compare: predicate `dst[2:0]` in every executing lane, `dst[5:3]` 0. -/
def State.laneCmp (s : State) (o : LaneOp) (legal : Bool) (dst : BitVec 6) (f : State → Nat → Bool) :
    Host.Outcome State Fault Refusal :=
  .next (s.laneGo o (legal && !o.m && decide (dst.toNat < 8)) fun s j r =>
    let s' := (s.executing o).foldl (fun (t : State) l => t.setPred l (dst.toNat % 8) (f s l)) s
    s'.laneNext j r)

/-- A memory word: `addr` of each executing lane lies in 0 to `size - 1` and is aligned, else a fault of
kind `kind`; `deny` names addresses that fault as well; ECC of the memory gives kind `ecck` where a lane executes
(R121, R123). The sum of register and offset does not wrap, so a sum past 2^32 is out of range; an ECC fault names the
first executing lane (log entry 121: DESIGN CHOICE). -/
def State.laneMem (s : State) (o : LaneOp) (ecc : Ecc) (off : BitVec 6) (a : BitVec 6) (size kind ecck : Nat)
    (deny : Nat → Bool) (act : State → Nat → Nat → State) : Host.Outcome State Fault Refusal :=
  .next (s.laneGo o (!o.m) fun s j r =>
    let addr (l : Nat) : Nat := s.laneReg l a.toNat + 4 * off.toNat
    let ls := s.executing o
    match ls.find? fun l => addr l % 4 ≠ 0 ∨ size ≤ addr l ∨ deny (addr l) = true with
    | some l => s.laneFault j r.team r.pc (l % 16) kind
    | none =>
      if ecc = .uncorrectable ∧ ls ≠ [] then
        s.laneFault j r.team r.pc ((ls.head?.getD 0) % 16) ecck
      else
        let s := if ls = [] then s else s.laneEcc ecc
        (ls.foldl (fun (t : State) l => act t l (addr l)) s).laneNext j r)

/-! ### Rendezvous (R126-R129) -/

/-- Contributors of a reduction with their values, lane rising. -/
def State.contributors (s : State) (j : Job) : List (Nat × Nat) :=
  j.runs.flatMap fun r =>
    match r.wait with
    | none => []
    | some w => ((teamLanes r.team).filter fun l => s.governs l w.pred w.unp w.neg).map fun l =>
        (l, s.laneReg l w.src)

/-- Every team of the job waits: the result goes to dst in every lane, a publish is held, the teams go
on. -/
def State.meet (s : State) (j : Job) (w : Rdv) : State :=
  let go := j.runs.map fun r => { r with wait := none, pc := r.pc + 1 }
  if w.op = Rop.bar then s.putJob { j with runs := go }
  else
    let (v, pv, lane) := reduce w.op (s.contributors j)
    let s' := j.runs.foldl (fun (s : State) r =>
      match r.wait with
      | none => s
      | some x => (teamLanes r.team).foldl (fun (s : State) l => s.setLane l x.dst v) s) s
    let pubs := if w.m then
        j.pubs ++ [⟨w.slot, pv, lane + 2 ^ 15 + (j.sweep % 2 ^ 16) * 2 ^ 16⟩] else j.pubs
    s'.putJob { j with runs := go, pubs := pubs }

/-- Do two waiting teams agree (R129)? -/
def Rdv.agrees (a b : Rdv) : Bool := decide (a.op = b.op ∧ a.slot = b.slot ∧ a.m = b.m)

/-- The teams of a job are looked at after one has reached a rendezvous or a ret (R126, R129): all returned
ends the job, a ret beside a wait or unlike waits fault, all waiting meet. The fault names the lowest waiting team; a
srcB that names no slot (M = 0) is not compared (log entry 65: DEDUCED). -/
def State.judgeTeams (s : State) (j : Job) : State :=
  let waits := j.runs.filterMap (·.wait)
  if j.runs.all (·.done) then (s.endJob j 0 0).schedule
  else
    match waits with
    | [] => s
    | w :: _ =>
      let bad : Bool := j.runs.any (·.done)
        || (decide (waits.length = j.runs.length) && !(waits.all (w.agrees ·)))
      if bad then
        match j.runs.find? fun r => r.wait ≠ none with
        | some r => s.laneFault j r.team r.pc 0 8
        | none => s
      else if waits.length = j.runs.length then s.meet j w
      else s

/-- A team reaches a rendezvous. -/
def State.laneWait (s : State) (o : LaneOp) (legal : Bool) (w : Rdv) : Host.Outcome State Fault Refusal :=
  .next (s.laneGo o legal fun s j r =>
    let j' := { j with runs := j.runs.map fun q => if q.team = r.team then { r with wait := some w } else q }
    (s.putJob j').judgeTeams j')

/-- A reduction word (R127): with M, srcB[5:4] must be 0 and srcB[3:0] names the slot. -/
def State.laneReduce (s : State) (o : LaneOp) (op : Nat) (dst a b : BitVec 6) :
    Host.Outcome State Fault Refusal :=
  s.laneWait o (!o.m || decide (b.toNat < 16))
    { op := op, dst := dst.toNat, src := a.toNat, slot := if o.m then b.toNat % 16 else 0, m := o.m
      pred := o.pred.toNat, unp := o.unp, neg := o.neg }

/-! ### Automatic sweep jobs (R136, R137) -/

/-- The sweep period of the gait in µs (R184, R206). -/
def State.sweepPeriod (s : State) : Nat :=
  if s.groomWalk then 10000
  else if s.gait = Gait.walk ∨ s.gait = Gait.halt then 100000
  else if s.gait = Gait.trot ∨ s.gait = Gait.lame then 10000 else 1000

/-- The automatic job of sweep `sw` is posted, or skipped (R136, R137; an occupied index 0 skips, log
entry 64: DEDUCED). -/
def State.autoPost (s : State) (sw : Nat) (late : Bool) : State :=
  let s := s.note fun b => { b with autoJobs := b.autoJobs ++ [(sw, late)] }
  if s.flag HRD_CTRL.AUTO_EN = false ∨ s.get CHN_STAT.RING = 5 then s.estMissing
  else
    let teams := s.get HRD_AUTOTEAMS.TEAMS
    if s.flag HRD_STAT.POWERED = false ∨ teams &&& s.get HRD_TEAMDIS.TEAMS ≠ 0 ∨
        s.get HRD_AUTOCFG.PLEN = 0 ∨ (s.jobAt 0).isSome = true then
      ((s.put HRD_AUTOSTAT.SKIPPED true).raise 115).autoEnded sw 3
    else
      let ecls := s.get HRD_AUTOCFG.ECLASS
      let s := (s.put HRD_AUTOSTAT.SKIPPED false).put HRD_AUTOSTAT.LATEPOST late
      let s := s.when late fun s => s.raise 114
      s.queueJob { index := 0, owner := none, prog := s.get HRD_AUTOPROG.PROG, plen := s.get HRD_AUTOCFG.PLEN
                   ecls := ecls, teams := teams
                   deadline := (s.chn.syncAt.getD s.nowUs) + s.sweepPeriod
                   arg := s.get HRD_AUTOARG.ARG, sweep := sw, urgent := decide (ecls = 15)
                   candidate := false, phase := .queued, cells := [], runs := [], pubs := [] }

/-- The Herd stops in a gait transition: its jobs end with STATUS 0x3, its memories and lane registers are
lost (R107, R116). -/
def State.herdDown (s : State) : State :=
  let s := s.abortJobs fun _ => true
  let s := (s.loseMem 0x30000000 0x30380000).mapHerd fun x => { x with v := [], p := [] }
  let s := (s.put HRD_STAT.POWERED false).set HRD_STAT.CLK 0
  ((s.put EST_STAT.PARAM_OK false).mapEst fun x => { x with lseq := [] }).refDown

/-! ### Register actions -/

/-- A write of HRD_ABORT (R142). -/
def State.hrdAbort (s : State) (v : Nat) : State :=
  (s.abortJobs fun j => bit v 31 || decide (j.index = bits v 0 6)).schedule

/-- A write of HRD_TEAMDIS (R142); `here` where the peer does not make the same write (R405) (log entry 14:
DEDUCED). -/
def State.hrdTeamdis (s : State) (v : Nat) (here : Bool) : State :=
  let newly := andNot 32 v (s.get HRD_TEAMDIS.TEAMS)
  let s := (s.set HRD_TEAMDIS.TEAMS v).abortJobs fun j => decide (j.teams &&& newly ≠ 0)
  (s.when (here && decide (newly ≠ 0)) fun s => s.stepLost TDM_FLT.LOCAL).schedule

/-- A write of HRD_CTRL (R134, R137). -/
def State.hrdCtrl (s : State) (v : Nat) : State :=
  let s := s.put HRD_CTRL.HOLD (bit v 1)
  (s.put HRD_CTRL.AUTO_EN (bit v 0 && decide (s.get HRD_AUTOCFG.PLEN ≠ 0))).schedule

end Sys2Proof.Machine
end

