-- ==== Sys2Proof/Machine/ChainOps.lean ====
section
/-! DEFINITION. The chain engine as operations: chx transactions, ring and routes, breaks and re-reads,
enumeration, sweeps and their post (R169-R199, R136). -/

namespace Sys2Proof.Machine
open Sys2Proof Sys2Proof.Reg

/-! ### Ring states (Table CHN-15) -/

def Ring.down : Nat := 0
def Ring.enum : Nat := 1
def Ring.intact : Nat := 2
def Ring.broken1 : Nat := 3
def Ring.multi : Nat := 4
def Ring.mismatch : Nat := 5

/-- The field of CHN_STAT that shows the lock of a port. -/
def lockField (port : Nat) : Fld := if port = 1 then CHN_STAT.LOLOCK else CHN_STAT.HILOCK

/-- The side of a port: the high end is South but for seat B (Table CHN-1). -/
def State.portSouth (s : State) (high : Bool) : Bool := high != s.flag TDM_STAT.SEAT

/-- A frame reaches a port: a repeater passes it on, uninterpreted (R170); else the engine takes it with `g` while its
ports run. -/
def State.engineRx (s : State) (high : Bool) (w : Wire) (g : State → State) : State :=
  if s.repeats then s.relay (s.portSouth high) (.frame w.f) else if s.chainUp then g s.quiet else s

/-- Count a discarded frame (R174): source 69 for the first of a sweep. -/
def State.discard (s : State) (port : Nat) (rx : Rx) : State :=
  let f := match port, rx with
    | 1, .code => CHN_ERRLO.CODE
    | 1, _ => CHN_ERRLO.CRC
    | _, .code => CHN_ERRHI.CODE
    | _, _ => CHN_ERRHI.CRC
  let was := s.chn.crcSeen
  let s := ((s.bump f 1).put CHN_FLT.CRC true).mapChn fun x => { x with crcSeen := true }
  s.when (!was) fun s => s.raise 69

/-! ### chx (R187-R189) -/

/-- STATUS of a chx completion by RES (R189). -/
def chxStatus (res : Nat) : Nat :=
  if res = 0 ∨ res = 4 then 0 else if res = 1 ∨ res = 3 then 1 else if res = 2 then 5 else 3

/-- The arbiter's index of a port: 0 North, 1 South; the low end is North but for seat B (Tables ARC-19, CHN-1). -/
def State.portUnit (s : State) (port : Nat) : Nat := if s.get TDM_STAT.SEAT = 0 then port - 1 else 2 - port

/-- The request of a core's chx at the arbiter for a port (R46, R190). -/
def State.chxPost (s : State) (c : Core) (port : Nat) : ArbPost := ⟨0, s.portUnit port, coreCode c + 2, 0⟩

/-- A chx leaves the list of those in flight; its requests still at the arbiter are withdrawn. -/
def State.chxDrop (s : State) (x : ChxSt) : State :=
  let s := x.due.foldl (fun (s : State) p =>
    let q := s.chxPost x.core p
    s.mapPad fun y => { y with requests := y.requests.eraseP fun r => decide (r.post = q) }) s
  (s.mapChn fun c => { c with chx := c.chx.filter fun y => y.wire ≠ x.wire }).tagStat

/-- A chx ends with RES, the responder's address and the result value (R189). -/
def State.chxEnd (s : State) (x : ChxSt) (res addr val : Nat) : State :=
  let s := s.chxDrop x
  s.complete x.core x.tag (res + addr * 16) (chxStatus res) val

/-- Every chx in flight for which `p` holds ends with RES `res` and no response. -/
def State.chxEndAll (s : State) (res : Nat) (p : ChxSt → Bool) : State :=
  (s.chn.chx.filter p).foldl (fun (s : State) x => s.chxEnd x res 0 0) s

/-- A port is granted to core `c`: the frame of its oldest chx that waits for the port leaves; a broadcast that has left
on every port ends with RES 4 (R189, R190). -/
def State.chxLeave (s : State) (port : Nat) (c : Core) : State :=
  match s.chn.chx.find? fun x => decide (x.core = c) && x.due.contains port with
  | none => s
  | some x =>
    let y := { x with due := x.due.filter (· ≠ port) }
    let s := (s.mapChn fun z => { z with chx := z.chx.map fun e => if e.wire = x.wire then y else e }).sendFrame port
      ⟨x.wire, x.addr, x.cmd, x.payload⟩
    if x.addr = 0x3F ∧ y.due = [] then s.chxEnd y 4 0 0 else s

/-- Grants that are new: a chain port sends the frame of the core's chx; a bleed channel that the curb logic takes is
off at once (R45, R190). -/
def State.granted (s : State) (new : List ArbGrant) : State :=
  new.foldl (fun (s : State) g =>
    if g.cls = 0 ∧ 2 ≤ g.req ∧ g.req ≤ 4 then
      s.chxLeave (if s.portUnit 1 = g.unit then 1 else 2) (if g.req = 2 then .r0 else if g.req = 3 then .r1 else .grm)
    else if g.cls = 3 ∧ g.req = 1 then
      s.dropTaken.bleedFlush (((s.cel.map.find? fun e => e.1 = g.unit).map fun e => layUnit e.2).getD 0)
    else s) s

/-- Bytes that the chain engine writes for a chx: a refused byte is recorded and ends the writing (R29);
true where every byte was written. -/
def State.chainStore (s : State) (a : Nat) (bs : List Nat) : Bool × State :=
  match bs with
  | [] => (true, s)
  | b :: rest =>
    match s.refusal .chain false .store 1 a with
    | some k => (false, s.recordRefusal .chain .store k a)
    | none => State.chainStore (s.setByte a (BitVec.ofNat 8 b)) (a + 1) rest

/-- A chx ends with STATUS 0x2: an access of the chain engine was refused (R29). -/
def State.chxRefused (s : State) (x : ChxSt) : State :=
  let s := s.chxDrop x
  (s.raise 6).complete x.core x.tag 0 2 0

/-! ### Routes (R191, R192) -/

/-- Does the port reach the unit? -/
def State.reaches (s : State) (port u : Nat) : Bool :=
  if port = 1 then decide (u ≤ s.chn.loReach) else decide (s.chn.hiReach ≤ u ∧ s.chn.hiReach ≠ 0)

/-- Every unit takes its route: the low end where it reaches the unit, else the high end, else none. -/
def State.setRoutes (s : State) : State :=
  (List.range 33).foldl (fun (s : State) u =>
    if u = 0 then s
    else if s.chn.units < u then s.set (CHN_USTAT.ROUTE u) 0
    else s.set (CHN_USTAT.ROUTE u) (if s.reaches 1 u then 1 else if s.reaches 2 u then 2 else 0)) s

/-- Some unit is reached from neither end. -/
def State.unitLost (s : State) : Bool :=
  (List.range 33).any fun u => decide (1 ≤ u ∧ u ≤ s.chn.units) && !(s.reaches 1 u) && !(s.reaches 2 u)

/-- Reach of the two ends from the open links. -/
def State.reachFromBroken (s : State) : State :=
  let n := s.chn.units
  let lo := s.chn.broken.foldl min n
  let hi := s.chn.broken.foldl (fun m k => max m (k + 1)) 1
  s.mapChn fun x => { x with loReach := lo, hiReach := hi }

/-- CHN_STAT.RING, BREAKLO and BREAKHI after a change of the links, outside enumeration (log entry 43: DEDUCED). -/
def State.ringStat (s : State) : State :=
  let r := s.get CHN_STAT.RING
  let s := (s.set CHN_STAT.BREAKLO s.chn.loReach).set CHN_STAT.BREAKHI
    (if s.chn.hiReach ≤ s.chn.units then s.chn.hiReach else 0)
  if r = Ring.intact ∨ r = Ring.broken1 ∨ r = Ring.multi then
    if s.chn.broken.isEmpty then s.set CHN_STAT.RING Ring.intact
    else if s.unitLost then s.set CHN_STAT.RING Ring.multi
    else s.set CHN_STAT.RING Ring.broken1
  else s

/-! ### Reads of a sweep (R191, R193) -/

/-- The sweep byte of the present sweep. -/
def State.sweepByte (s : State) : Nat := s.get CHN_SWEEP.SWEEP % 256

/-- A READ_BLOCK leaves: tag u − 1, or 0x20 + u − 1 for the re-read (log entry 71: DESIGN CHOICE). -/
def State.sendRead (s : State) (u port : Nat) (again : Bool) : State :=
  let tag := if again then 0x20 + u - 1 else u - 1
  let s := s.mapChn fun x => { x with reads := x.reads ++ [⟨u, port, again⟩] }
  (s.sendFrame port ⟨tag, u, 4, [s.sweepByte]⟩).tagStat

/-- Units that a re-read may take: named, no valid frame, no NAK 0x03, no read in flight, not yet read once
more (R193). -/
def State.rereadUnits (s : State) : List Nat :=
  s.namedUnits.filter fun u =>
    !(s.chn.got.contains u) && !(s.chn.nak.contains u) && !(s.chn.reread.contains u)
      && !(s.chn.reads.any fun r => r.unit = u)

/-- The re-read of the present sweep, for the units of `p` (R193): `first u` is the port of the first read. The port away
from the module is served nearest unit first. -/
def State.rereadSome (s : State) (p : Nat → Bool) (first : Nat → Nat) : State :=
  if s.chn.open_ = false ∨ s.chn.inSync = true ∨ s.chainUp = false then s
  else
    let port (u : Nat) : Nat :=
      let a := first u
      let o := 3 - a
      if s.reaches o u then o else if s.reaches a u then a else 0
    let us := s.rereadUnits.filter fun u => p u && decide (port u ≠ 0)
    if us.isEmpty then s
    else
      let was := s.flag CHN_STAT.REREAD
      let order := (us.filter fun u => port u = 1) ++ (us.filter fun u => port u = 2).reverse
      let s := s.mapChn fun x => { x with reread := us.foldl (fun l u => listPut l u true) x.reread }
      let s := order.foldl (fun (s : State) u => s.sendRead u (port u) true) s
      s.when (!was) fun s => (s.put CHN_STAT.REREAD true).raise 66

/-- The re-read of every unit without a frame. -/
def State.rereadAll (s : State) (first : Nat → Nat) : State := s.rereadSome (fun _ => true) first

/-- The links changed: reads of units whose route changed end, chx of units that no end reaches end with
RES 5, an open-wire test is repeated on the new route, the re-read starts (R192, R193, R218). -/
def State.rerouted (s : State) (was : Nat → Nat) : State :=
  let keep := s.chn.reads.filter fun r => s.route r.unit = was r.unit ∨ s.route r.unit = r.port
  let s := (s.mapChn fun x => { x with reads := keep }).tagStat
  let s := s.chxEndAll 5 fun x => decide (x.addr ≠ 0x3F) && decide (s.route x.addr = 0)
  let s := s.owtReroute was
  s.rereadAll fun u => if was u = 0 then s.route u else was u

/-- The link `k` opens (R192, R194) (log entry 72: DEDUCED). -/
def State.breakAt (s : State) (k : Nat) : State :=
  if s.chn.broken.contains k ∨ s.chn.units < k ∨ s.chn.units = 0 then s
  else
    let was (u : Nat) : Nat := s.route u
    let s := s.mapChn fun x => { x with
      broken := listPut x.broken k true, loReach := min x.loReach k, hiReach := max x.hiReach (k + 1) }
    let multi := s.get CHN_STAT.RING
    let s := ((s.setRoutes).ringStat.put CHN_FLT.BREAK true).raise 65
    let s := s.when (s.unitLost && decide (multi ≠ Ring.multi)) fun s => (s.put CHN_FLT.MULTI true).raise 71
    s.rerouted was

/-- The next PING that waits for a port leaves where none is in flight on it: tag u − 1 for unit u, 0x3F for the
repeater (R183). -/
def State.pingNext (s : State) (port : Nat) : State :=
  if s.chn.pingOn.any fun e => e.1 = port then s
  else
    match s.chn.pingQ.find? fun e => e.1 = port with
    | none => s
    | some e =>
      let s := s.mapChn fun x => { x with pingQ := x.pingQ.erase e, pingOn := x.pingOn ++ [e] }
      (s.sendFrame port ⟨if e.2 = 0 then 0x3F else e.2 - 1, e.2, 2, []⟩).tagStat

/-- PINGs, each of a port and a unit, wait their turn (R183). -/
def State.pingAll (s : State) (l : List (Nat × Nat)) : State :=
  ((s.mapChn fun x => { x with pingQ := x.pingQ ++ l }).pingNext 1).pingNext 2

/-- The PINGs in flight on the ports of `p` have ended: the next leave. -/
def State.pingEnd (s : State) (p : Nat × Nat → Bool) : State :=
  (((s.mapChn fun x => { x with pingOn := x.pingOn.filter fun e => !(p e) }).tagStat).pingNext 1).pingNext 2

/-- The link `k` is restored: the units that it rejoins are pinged (R194). -/
def State.healAt (s : State) (k : Nat) : State :=
  if s.chn.broken.contains k = false then s
  else
    let lo := s.chn.loReach
    let hi := s.chn.hiReach
    let was (u : Nat) : Nat := s.route u
    let s := (s.mapChn fun x => { x with broken := listPut x.broken k false }).reachFromBroken
    let s := ((s.setRoutes).ringStat.put CHN_FLT.HEAL true).raise 73
    let fromLo := (List.range 33).filter fun u => decide (lo < u) && decide (u ≤ s.chn.loReach)
    let fromHi := (List.range 33).filter fun u => decide (1 ≤ u ∧ u < hi) && decide (s.chn.hiReach ≤ u ∧ u ≤ s.chn.units)
    let s := s.mapChn fun x => { x with pings := (fromLo ++ fromHi).foldl (fun l u => listPut l u true) x.pings }
    let s := if s.chainUp then s.pingAll ((fromLo.map fun u => (1, u)) ++ (fromHi.map fun u => (2, u))) else s
    s.owtReroute was

/-- A good frame arrives on a port: the port is locked, and its own link is whole. -/
def State.portAlive (s : State) (port : Nat) : State :=
  let k := if port = 1 then 0 else s.chn.units
  (s.put (lockField port) true).healAt k

/-! ### Delays (R183) -/

/-- Key of the round trips of unit `u` (0: the repeater) from a port. -/
def rttKey (u port : Nat) : Nat := 2 * u + (port - 1)

/-- The one-way delay in ns from mean round trip, none where nothing was measured. -/
def State.delay (s : State) (u port : Nat) : Option Nat :=
  let r := mapGet ⟨0, 0⟩ s.chn.rtt (rttKey u port)
  if r.n = 0 then none
  else some (divRound ((r.sum : Int) - 2800 * r.n) (2 * r.n)).toNat

/-- A delay as CHN_UDLYu stores it. -/
def delayCode (d : Option Nat) : Nat :=
  match d with
  | some n => min 0xFFFE n
  | none => 0xFFFF

/-- LDLY for a delay, in 20 ns steps, nearest; 0xFFFF for an end that does not reach the unit. -/
def ldly (sync : Nat) (d : Nat) : Nat :=
  if d = 0xFFFF then 0xFFFF else (clampI 0 0xFFFE (divRound ((sync : Int) - d) 20)).toNat

/-- SYNCDLY in ns (R183): a pair has one link and one repeater more. -/
def State.syncDelay (s : State) : Nat :=
  let links := s.chn.units + (if s.tandem then 2 else 1)
  let raw := links * 320 + 1000 + (if s.tandem then 640 else 0)
  (raw + 999) / 1000 * 1000

/-- The LDLYN, LDLYS write of a unit (R183). -/
def State.sendLdly (s : State) (u : Nat) : State :=
  let d := s.get CHN_SYNCDLY.NS
  if s.chainUp = false ∨ s.route u = 0 then s
  else s.sendReq (s.route u) (writeRegFrame (u - 1) u 0x04
    [ldly d (s.get (CHN_UDLY.DLO u)), ldly d (s.get (CHN_UDLY.DHI u))])

/-! ### Enumeration (R182) -/

/-- ENUM as the engine sends it. -/
def enumFrame (mode count : Nat) : Frame := ⟨0, 0x3F, 1, [count, mode, 0]⟩

/-- Enumeration starts: chx in flight end with RES 6, CLEAR leaves both ports. -/
def State.enumStart (s : State) : State :=
  if s.flag CHN_CTRL.SWEEP_EN ∨ s.chainUp = false then s
  else
    let s := s.chxEndAll 6 fun _ => true
    let n := s.get CHN_CFG.UNITS
    let s := s.mapChn fun x => { x with
      units := n, broken := [], reads := [], rtt := [], pings := [], pingQ := [], pingOn := [], eng := []
      loReach := 0, hiReach := 0
      enum := some ⟨1, [], [], false, false, 0⟩ }
    let s := (List.range 33).foldl (fun (s : State) u => if u = 0 then s else
      ((s.put (CHN_USTAT.PRESENT u) false).put (CHN_USTAT.UNASSIGNED u) false).set (CHN_USTAT.ROUTE u) 0) s
    ((s.set CHN_STAT.RING Ring.enum).sendFrame 3 (enumFrame 0 0)).tagStat

/-- Every unit is pinged four times from each end that reaches it, in a pair address 0 too on the South port (R183). -/
def State.measure (s : State) : State :=
  let s := s.mapChn fun x => { x with rtt := [], pingQ := [], pingOn := [] }
  let us := (List.range 33).filter fun u => 1 ≤ u ∧ u ≤ s.chn.units
  let four (port : Nat) (l : List Nat) : List (Nat × Nat) := l.flatMap fun u => List.replicate 4 (port, u)
  s.pingAll (four 1 (us.filter fun u => s.reaches 1 u) ++ four 2 ((us.filter fun u => s.reaches 2 u).reverse)
    ++ (if s.tandem then four (if s.flag TDM_STAT.SEAT then 1 else 2) [0] else []))

/-- The passes have ended: the ring is classified and measured (R182). -/
def State.classifyRing (s : State) (e : EnumSt) : State :=
  let n := s.chn.units
  let seen (u : Nat) : Bool := e.lo.contains u || e.hi.contains u
  let all : Bool := (List.range 33).all fun u => decide (u = 0 ∨ n < u) || seen u
  let extra : Bool := (e.lo ++ e.hi).any fun u => decide (u = 0 ∨ n < u)
  let bad := e.bad || !all || extra
  let cls := if bad then Ring.mismatch else if e.intact then Ring.intact else Ring.broken1
  let lo := e.lo.foldl max 0
  let hi := e.hi.foldl min (n + 1)
  let s := if e.intact then s.mapChn fun x => { x with loReach := n, hiReach := 1, broken := [] }
    else s.mapChn fun x => { x with loReach := lo, hiReach := hi, broken := [lo] }
  let s := s.mapChn fun x => { x with enum := some { e with phase := 5, cls := cls } }
  let s := (List.range 33).foldl (fun (s : State) u => if u = 0 then s else
    s.put (CHN_USTAT.PRESENT u) (seen u)) s
  let s := s.setRoutes
  let s := s.when (decide (cls = Ring.broken1)) fun s => (s.put CHN_FLT.BREAK true).raise 65
  s.measure

/-- The Paddock check ends with an alarm for an unusable ring (Table CEL-5). -/
def State.checkRing (s : State) : State :=
  match s.cel.check with
  | none => s
  | some _ =>
    let r := s.get CHN_STAT.RING
    if r = Ring.intact ∨ r = Ring.broken1 then s
    else
      let s := s.mapCel fun x => { x with check := none }
      ((s.put CEL_PADSTAT.ALARM true).set CEL_PADSTAT.CAUSE 4).put CEL_PADSTAT.DONE true

/-- The PINGs have ended: delays and SYNCDLY are stored, and the LDLY writes leave (R183). -/
def State.writeDelays (s : State) (e : EnumSt) : State :=
  let us := (List.range 33).filter fun u => 1 ≤ u ∧ u ≤ s.chn.units
  let s := us.foldl (fun (s : State) u =>
    (s.set (CHN_UDLY.DLO u) (delayCode (s.delay u 1))).set (CHN_UDLY.DHI u) (delayCode (s.delay u 2))) s
  let d := s.syncDelay
  let s := (s.set CHN_SYNCDLY.NS d).put CHN_STAT.REFSEAT (s.tandem && s.flag TDM_STAT.SEAT)
  let far (c : Nat) : Bool := decide (c ≠ 0xFFFF ∧ d < c + 200)
  let long : Bool := us.any fun u => far (s.get (CHN_UDLY.DLO u)) || far (s.get (CHN_UDLY.DHI u))
  let cross : Bool := s.tandem && (match s.delay 0 (if s.flag TDM_STAT.SEAT then 1 else 2) with
    | some t => decide (750 < t ∨ t < 650)
    | none => true)
  let cls := if long || cross then Ring.mismatch else e.cls
  let s := s.mapChn fun x => { x with enum := some { e with phase := 6, cls := cls }, pingQ := [], pingOn := [] }
  us.foldl (fun (s : State) u => s.sendLdly u) s.tagStat

/-- The measurement goes on to the LDLY writes once no PING waits or is in flight (R183). -/
def State.measured (s : State) : State :=
  match s.chn.enum with
  | some e => if e.phase = 5 ∧ s.chn.pingQ = [] ∧ s.chn.pingOn = [] then s.writeDelays e else s
  | none => s

/-- The ring is shown, the unit levels and CELLS are written again (R182, R183, R185, R203). -/
def State.enumDone (s : State) (e : EnumSt) : State :=
  let s := (s.mapChn fun x => { x with enum := none, eng := [] }).tagStat
  let s := (s.set CHN_STAT.RING e.cls).set CHN_STAT.BREAKLO s.chn.loReach
  let s := s.set CHN_STAT.BREAKHI (if s.chn.hiReach ≤ s.chn.units then s.chn.hiReach else 0)
  let s := s.raise 67
  let s := s.when (decide (e.cls = Ring.mismatch)) fun s => (s.put CHN_FLT.ENUM_MIS true).raise 68
  (s.castLevels.cellsAgain).checkRing

/-! ### The post of a sweep (R136, R198) -/

/-- Named units without a valid frame. -/
def State.missingUnits (s : State) : List Nat := s.namedUnits.filter fun u => !(s.chn.got.contains u)

/-- The engine's words of the sweep header (Table HRD-4). -/
def State.writeHeader (s : State) (sw missing : Nat) (late : Bool) : State :=
  if s.flag HRD_STAT.POWERED then
    let a := hdrAddr sw
    s.putHeader [(a, sw), (a + 0x24, s.chn.period), (a + 0x28, missing), (a + 0x2C, s.hvm.hdr.flags % 8 + 8 * b2n late)]
  else s

/-- The sweep ends on the seat that holds the origin: header, CEL and PRT evaluation, automatic job (R171,
R400). -/
def State.postSweep (s : State) (late : Bool) : State :=
  if s.flag CHN_STAT.ORIGIN = false then s
  else
  let sw := s.get CHN_SWEEP.SWEEP
  let missing := s.missingUnits
  let s := s.when (!s.chn.hdr) fun s => s.mapHvm fun x => { x with hdr := HvmSt.reset.hdr }
  let s := (s.writeHeader sw missing.length late).set HRD_SWEEP.SWEEP sw
  let s := s.note fun b => { b with posts := b.posts ++ [(sw, late)] }
  let s := s.mapChn fun x => { x with open_ := false }
  let s := s.mapCel fun x => { x with check7 := false }
  let s := ((s.celPost sw missing).prtSweep s.hvm.hdr.iavg).when missing.isEmpty State.sweepFull
  s.autoPost sw late

/-- The sweep is posted once every named unit has delivered and the header is complete (R136). -/
def State.tryPost (s : State) : State :=
  if s.chn.open_ && !s.chn.inSync && s.chn.hdr && s.missingUnits.isEmpty then s.postSweep false else s

/-- MISS of the units without a frame, and staleness (R198). -/
def State.countMiss (s : State) : State :=
  let lim := s.swGet CHN_SWCFG.STALE
  s.missingUnits.foldl (fun (s : State) u =>
    let m := satAdd 255 (s.get (CHN_USTAT.MISS u)) 1
    let s := s.set (CHN_USTAT.MISS u) m
    if lim ≤ m ∧ s.flag (CHN_USTAT.STALE u) = false then
      ((s.put (CHN_USTAT.STALE u) true).assertEvt (32 + u - 1)).celStale u
    else s) s

/-- The sample that a READ_BLOCK response carries (Table CHN-9). -/
def unitFrameOf (p : List Nat) : UnitFrame :=
  { ustat := p.headD 0, stack := ofLe ((p.drop 1).take 4), t0 := ofLe ((p.drop 5).take 2)
    t1 := ofLe ((p.drop 7).take 2)
    cells := (List.range ((p.length - 9) / 2)).map fun i => ofLe ((p.drop (9 + 2 * i)).take 2) }

/-- What follows a unit's READ_BLOCK: read-back, CELLS, BLEED_SET, open-wire test (R203, R218, R226,
R286). -/
def State.afterRead (s : State) (u : Nat) : State :=
  (((s.sendReadBack u).sendCells u).bleedFlush u).owtTry

/-- A valid READ_BLOCK response of unit `u` (R191, R198). -/
def State.takeBlock (s : State) (u : Nat) (f : UnitFrame) : State :=
  let xs := s.cellsNow u f
  let s := (s.set (CHN_USTAT.USTAT u) f.ustat).set (CHN_USTAT.MISS u) 0
  let s := (s.put (CHN_USTAT.STALE u) false).staleAny
  let s := (s.compareFrame (s.cmpVals u f.stack xs) (xs.map fun x => (x.cell, x.t))).dropTaken
  if s.chn.open_ then
    ((s.mapChn fun x => { x with got := listPut x.got u true }).celFrame u f).tryPost
  else s

/-! ### Gait changes -/

/-- The chain stops (R199): transactions end with STATUS 0x3, sweeps end. -/
def State.chainDown (s : State) : State :=
  let s := s.chxEndAll 6 fun _ => true
  let s := s.mapChn fun x => { x with
    reads := [], inSync := false, open_ := false, syncAt := none, enum := none, prevNext := 0
    pingQ := [], pingOn := [], eng := [], stopping := false }
  let s := ((s.put CHN_STAT.LOLOCK false).put CHN_STAT.HILOCK false).tagStat
  (s.owtEnd).mapCel fun x => { x with owtRetry := [], owtNone := [], owtQueue := [] }

end Sys2Proof.Machine
end

