-- ==== Sys2Proof/Machine/Cel.lean ====
section
/-! DEFINITION. Commands and events of cell monitoring and balancing (R202-R230). -/

namespace Sys2Proof.Machine
open Sys2Proof Sys2Proof.Reg

/-! ### Register actions -/

/-- CEL_CMD.MAP_APPLY (R202): at once while sweeps are off, else at the next sweep boundary. -/
def State.mapApply (s : State) : State :=
  if s.flag CHN_CTRL.SWEEP_EN then s.mapCel fun x => { x with apply := true } else s.mapValidate

/-- CEL_CMD.OWT_NOW (R218): one unit, or every named unit in turn. -/
def State.owtNow (s : State) (u : Nat) : State :=
  let us := if u = 0 then s.namedUnits else if u ≤ 32 then [u] else []
  (us.foldl (fun (s : State) u => s.owtQueue u .command) s).owtTry

/-- CEL_CMD.BAL_STOP (R227). -/
def State.balStop (s : State) : State := (s.put CEL_CTRL.BAL_EN false).bleedOff

/-- CEL_CMD.CHECK (R229): ignored outside a Groom walk or with the RTC wake disabled (log entry 48: DEDUCED). -/
def State.checkStart (s : State) : State :=
  if s.groomWalk = false ∨ s.flag PWR_WAKEEN.RTC = false ∨ s.flag CHN_STAT.ORIGIN = false then s
  else
    let s := ((s.put CEL_PADSTAT.DONE false).put CEL_PADSTAT.ALARM false).set CEL_PADSTAT.CAUSE 0
    let s := (s.mapCel fun x => { x with check := some 0 }).mapChn fun x => { x with syncAt := none }
    (s.sendFrame 3 toneFrame).enumStart

/-- A write of CEL_CMD: every field at 1 acts. -/
def State.celCmd (s : State) (v : Nat) : State :=
  let s := s.when (bit v 0) State.mapApply
  let s := s.when (bit v 1) fun s => s.senseClr (bits v 8 6)
  let s := s.when (bit v 2) fun s => s.owtNow (bits v 8 6)
  let s := s.when (bit v 3) State.balStop
  s.when (bit v 4) State.checkStart

/-! ### Layout table -/

/-- MAP_VALIDATE (R202): at the sweep boundary. -/
def execMapValidate (s : State) : Host.Outcome State Fault Refusal :=
  .next (if s.cel.apply then s.quiet.mapValidate else s)

/-- CELLS_WRITE_RESPONSE (R203): a NAK fails check 0x7. -/
def execCellsWriteResponse (u : BitVec 6) (nak : Bool) (s : State) : Host.Outcome State Fault Refusal :=
  .next (if s.cel.cellsDue.contains u.toNat = false then s
    else if nak then (s.reqEnd u.toNat 6).mapFail7 u.toNat
    else (s.reqEnd u.toNat 6).mapCel fun x => { x with cellsDue := listPut x.cellsDue u.toNat false })

/-- CELLS_WRITE_TIMEOUT (R203). -/
def execCellsWriteTimeout (u : BitVec 6) (s : State) : Host.Outcome State Fault Refusal :=
  .next (if s.cel.cellsDue.contains u.toNat then (s.reqEnd u.toNat 6).mapFail7 u.toNat else s)

/-! ### Open-wire tests -/

/-- PERIOD / UNITS seconds have passed since the schedule last took a unit (R218). -/
def State.owtTurn (s : State) : Bool :=
  decide (1000000 * s.swGet CEL_OWTCFG.PERIOD ≤ s.chn.units * (s.nowUs - s.cel.owtAt))

/-- OWT_SCHEDULE (R218): in Walk and Trot with the Riders up, the next named unit. Before its turn, nothing happens (log
entry 130: DEDUCED). -/
def execOwtSchedule (s : State) : Host.Outcome State Fault Refusal :=
  let s := s.quiet
  .next (if s.swGet CEL_CTRL.OWT_EN = 0 ∨ (s.gait ≠ Gait.walk ∧ s.gait ≠ Gait.trot) ∨ s.groomWalk = true ∨
      s.owtTurn = false then s
    else
      let next := match s.namedUnits.find? fun u => s.cel.owtLast < u with
        | some u => some u
        | none => s.namedUnits.head?
      match next with
      | none => s
      | some u =>
        let t := s.nowUs
        ((s.mapCel fun x => { x with owtLast := u, owtAt := t }).owtQueue u .periodic).owtTry)

/-- OWT_RESPONSE_RECEIVED (R174, R219): OPEN u32 and one DV u16 per tap; NAK 0x05 is retried, any other leaves the test
without a result. -/
def execOwtResponseReceived (a : Arrival) (s : State) : Host.Outcome State Fault Refusal :=
  let f := a.wire.f
  .next (s.engineRx a.high a.wire fun s =>
    if wireRx a.wire ≠ .good then s.discard (if a.high then 2 else 1) (wireRx a.wire)
    else
      match s.cel.owtBusy with
      | none => s
      | some r =>
        if f.addr ≠ r.unit + 0x80 ∨ f.cmd % 128 ≠ 8 ∨ f.tag ≠ 0x20 + r.unit - 1 then s
        else
          let s := s.owtEnd
          if 0x80 ≤ f.cmd then
            if f.payload = [5] then s.mapCel fun x => { x with owtRetry := x.owtRetry ++ [r] }
            else (s.mapCel fun x => { x with owtNone := x.owtNone ++ [r] }).owtTry
          else
            let dv := (List.range 17).map fun i => ofLe ((f.payload.drop (4 + 2 * i)).take 2)
            (s.owtResult r.unit (ofLe (f.payload.take 4)) dv).owtTry)

/-- OWT_RETRY (R219): 1 s after the oldest NAK 0x05. -/
def execOwtRetry (s : State) : Host.Outcome State Fault Refusal :=
  let s := s.quiet
  .next (match s.cel.owtRetry with
    | [] => s
    | r :: rest => (s.mapCel fun x => { x with owtRetry := rest, owtQueue := r :: x.owtQueue }).owtTry)

/-- A test has had its time: DEADLINE seconds since the suspicion; a periodic or commanded one has none of its own (R218,
R219). -/
def State.owtLate (s : State) (r : OwtReq) : Bool :=
  decide (r.why = .periodic ∨ r.why = .command)
    || decide (r.since + 1000000 * s.swGet CEL_OWTCFG.DEADLINE ≤ s.nowUs)

/-- OWT_DEADLINE (R219): no result for unit `u` in time. The suspect taps of a suspect-driven test are taken as open. Before
DEADLINE, nothing happens (log entry 130: DEDUCED). -/
def execOwtDeadline (u : BitVec 6) (s : State) : Host.Outcome State Fault Refusal :=
  let s := s.quiet
  let own (r : OwtReq) : Bool := decide (r.unit = u.toNat) && s.owtLate r
  let all := s.cel.owtQueue ++ s.cel.owtBusy.toList ++ s.cel.owtRetry ++ s.cel.owtNone
  .next (if !(all.any own) then s
    else
      let suspect : Bool := all.any fun r => own r && decide (r.why = .suspect)
      let s := s.when (s.cel.owtBusy.any own) State.owtEnd
      let s := s.mapCel fun x => { x with
        owtQueue := x.owtQueue.filter (fun r => !(own r)), owtRetry := x.owtRetry.filter (fun r => !(own r))
        owtNone := x.owtNone.filter (fun r => !(own r)) }
      let s := s.put CEL_FLT.OWT_INC true
      if suspect then
        let taps := (List.range 17).filter fun t => s.bitOf (CEL_USUSP.TAPS u.toNat) t
        ((taps.foldl (fun (s : State) t => s.findOpen u.toNat t) s).raise 156).owtTry
      else s.owtTry)

/-! ### Balancing -/

/-- BALANCE_EVALUATION (R223): at the first sweep boundary after each 100 ms. -/
def execBalanceEvaluation (s : State) : Host.Outcome State Fault Refusal :=
  .next (if s.balOn then s.quiet.balEvaluate else s)

/-- BLEED_REFRESH (R226). -/
def execBleedRefresh (u : BitVec 6) (s : State) : Host.Outcome State Fault Refusal :=
  .next (if s.balOn && s.namedUnits.contains u.toNat then s.quiet.sendBleed u.toNat else s)

/-- BLEED_SET_ACK (R226): the mask acknowledged. -/
def execBleedSetAck (u : BitVec 6) (mask : BitVec 16) (s : State) : Host.Outcome State Fault Refusal :=
  .next (if 1 ≤ u.toNat ∧ u.toNat ≤ 32 then (s.reqEnd u.toNat 7).set (CEL_UBLEED.MASK u.toNat) mask.toNat else s)

/-- A fresh mapped cell lies at or beyond a cell warn level of the protection set. -/
def State.warnCell (s : State) : Bool :=
  s.flag PRT_STAT.VALID && s.cel.map.any fun e =>
    s.flag (CEL_CELL.FRESH e.1) && (decide (s.act PRT_CELL_OV.WARN ≤ s.get (CEL_CELL.VCELL e.1))
      || decide (s.get (CEL_CELL.VCELL e.1) ≤ s.act PRT_CELL_UV.WARN))

/-- PADDOCK_CHECK_DONE (Table CEL-5, steps 5 to 7): alarm, evaluation, bleed timeout, SLEEP (log entry 48: DEDUCED).
-/
def execPaddockCheckDone (s : State) : Host.Outcome State Fault Refusal :=
  let s := s.quiet
  .next (match s.cel.check with
    | none => s
    | some n =>
      if n < 2 then s
      else
        let cause := if s.namedUnits.any fun u => s.flag (CHN_USTAT.STALE u) then 1
          else if s.warnCell then 2
          else if s.flag CEL_STAT.SUSPECT_ANY || s.cel.due.any (· < 2048) then 3 else 0
        let s := s.when s.balOn State.balEvaluate
        let s := (s.put CEL_PADSTAT.ALARM (decide (cause ≠ 0))).set CEL_PADSTAT.CAUSE cause
        let tmo := if s.cel.bleed.isEmpty then 2 else min 65535 (s.get CEL_PADCFG.BALINT + 10)
        let s := s.sendFrame 3 (writeRegFrame 0 0x3F 0x09 [tmo])
        let s := (s.sendFrame 3 ⟨0, 0x3F, 0x0B, []⟩).mapCel fun x => { x with check := none }
        let s := (s.put CEL_PADSTAT.BALOK (s.flag CEL_STAT.BALANCED)).bump CEL_PADSTAT.CHECKS 1
        (s.mapChn fun x => { x with syncAt := none, prevNext := 0 }).put CEL_PADSTAT.DONE true)

end Sys2Proof.Machine
end

