-- ==== Sys2Proof/Machine/Chain.lean ====
section
/-! DEFINITION. Commands and events of the chain engine (R169-R201). -/

namespace Sys2Proof.Machine
open Sys2Proof Sys2Proof.Reg

/-! ### Register actions -/

/-- CHN_CMD.REMEASURE (R183): ignored while SWEEP_EN = 1 or nothing has been enumerated. -/
def State.chnRemeasure (s : State) : State :=
  let r := s.get CHN_STAT.RING
  if s.flag CHN_CTRL.SWEEP_EN ∨ s.chainUp = false ∨ r = Ring.down ∨ r = Ring.enum then s
  else (s.mapChn fun x => { x with enum := some ⟨5, [], [], false, decide (r = Ring.intact), r⟩ }).measure

/-- CHN_CMD.WAKE (R199): the tone from both ports, then a PING of every unit; levels and CELLS follow
(R185, R203, R285). -/
def State.chnWake (s : State) : State :=
  if s.chainUp = false then s
  else
    let n := s.unitsInUse
    let us := (List.range 33).filter fun u => 1 ≤ u ∧ u ≤ n
    let s := (s.mapChn fun x => { x with pings := us, pingQ := [], pingOn := [], syncAt := none }).sendFrame 3 toneFrame
    let s := s.pingAll (us.map fun u => (if s.route u = 2 then 2 else 1, u))
    s.castLevels.cellsAgain

/-- CHN_CMD.ABORT (R189). -/
def State.chnAbort (s : State) : State := s.chxEndAll 6 fun _ => true

/-- A write of CHN_CMD: every field at 1 acts. -/
def State.chnCmd (s : State) (v : Nat) : State :=
  let s := s.when (bit v 3) State.chnAbort
  let s := s.when (bit v 2) State.chnWake
  let s := s.when (bit v 1) State.chnRemeasure
  s.when (bit v 0) State.enumStart

/-- Sweeps end: the next SYNC comes unannounced (R206, R208). -/
def State.sweepsOff (s : State) : State :=
  (s.put CHN_CTRL.SWEEP_EN false).mapChn fun x => { x with syncAt := none, prevNext := 0, stopping := false }

/-- A write of CHN_CTRL (Table CHN-14): SWEEP_EN = 1 is ignored while RING is DOWN, ENUM or MISMATCH (log entry 43:
DEDUCED). SWEEP_EN = 0 while sweeps run clears the field after one more SYNC, whose NEXT is 0 (R206; log entry 118:
DESIGN CHOICE). -/
def State.chnCtrl (s : State) (v : Nat) : State :=
  let r := s.get CHN_STAT.RING
  let refused : Bool := decide (r = Ring.down ∨ r = Ring.enum ∨ r = Ring.mismatch)
  let last : Bool := bit v 0 && s.sweeping && s.flag CHN_CTRL.SWEEP_EN
  let s := s.put CHN_CTRL.PORT_EN (bit v 0)
  let s := if bit v 1 then
      if refused then s else (s.put CHN_CTRL.SWEEP_EN true).mapChn fun x => { x with stopping := false }
    else if last then s.mapChn fun x => { x with stopping := true } else s.sweepsOff
  if bit v 0 then s else (s.put CHN_STAT.LOLOCK false).put CHN_STAT.HILOCK false

/-! ### Fault symbol (R197) -/

/-- FAULT_SYMBOL_RECEIVED (R186, R197): in every gait except Stable (log entry 74: DEDUCED). -/
def execFaultSymbolReceived (s : State) : Host.Outcome State Fault Refusal :=
  .next (if s.gait = Gait.stable then s
    else
      let onset : Bool := match s.chn.fsymAt with
        | some t => decide (t + 1000 ≤ s.nowUs)
        | none => true
      let t := s.nowUs
      let s := s.mapChn fun x => { x with fsymAt := some t }
      let s := s.when onset fun s => ((s.put CHN_FLT.FSYM true).bump CHN_FSYMCNT.COUNT 1).raise 64
      let s := s.when s.chn.inSync fun s => s.put CHN_FLT.SYNC_HIT true
      let s := s.curbCause Cause.fsym .sii false
      s.wake 3)

/-! ### Enumeration (R182, R183) -/

/-- ENUM_PHASE_TIMEOUT: the 200 µs of a phase have passed; `acks` are the addresses acknowledged to the
sending end, and in the delay measurement a PING without an answer is given up (log entry 119: DESIGN CHOICE);
`conflict` where an ACK or the frame carried CONFLICT, `proto` where every unit reports PROTO
0x01, `ret` the COUNT of the frame that came back at the other end. -/
def execEnumPhaseTimeout (acks : List (BitVec 6)) (conflict proto : Bool) (ret : Option (BitVec 8))
    (s : State) : Host.Outcome State Fault Refusal :=
  let s := s.quiet
  let a := acks.map (·.toNat)
  let n := s.chn.units
  let step (s : State) (e : EnumSt) : State := (s.mapChn fun x => { x with enum := some e }).reqEnd 0x3F 1
  .next (match s.chn.enum with
    | none => s
    | some e =>
      let e := if e.phase = 1 then e else { e with bad := e.bad || conflict || !proto }
      match e.phase with
      | 1 => (step s { e with phase := 2 }).sendReq 1 (enumFrame 1 1)
      | 2 =>
        match ret with
        | some c =>
          (step s { e with phase := 3, lo := a, bad := e.bad || decide (c.toNat ≠ n + 1) }).sendReq 2
            (enumFrame 3 n)
        | none => (step s { e with phase := 4, lo := a }).sendReq 2 (enumFrame 2 n)
      | 3 => (s.reqEnd 0x3F 1).classifyRing { e with hi := a, intact := decide (ret = some 0) }
      | 4 => (s.reqEnd 0x3F 1).classifyRing { e with hi := a }
      | 5 => (s.pingEnd fun _ => true).measured
      | _ => s)

/-- A good PING response for unit `u` on `port` (R183, R194); `rtt` is the round trip in ns. -/
def State.takePing (s : State) (port u : Nat) (f : Frame) (rtt : Nat) : State :=
  let s := s.portAlive port
  if u ≠ 0 ∧ f.addr % 128 = noAddr then
    (((s.put CHN_FLT.ADDR_LOST true).put (CHN_USTAT.UNASSIGNED u) true).raise 72).mapChn fun x =>
      { x with pings := listPut x.pings u false }
  else if s.chn.enum.isSome then
    s.mapChn fun x =>
      let r := mapGet ⟨0, 0⟩ x.rtt (rttKey u port)
      { x with rtt := mapSet ⟨0, 0⟩ x.rtt (rttKey u port) ⟨r.n + 1, r.sum + rtt⟩ }
  else if s.chn.pings.contains u then
    let d := delayCode (some (divRound ((rtt : Int) - 2800) 2).toNat)
    let s := s.mapChn fun x => { x with pings := listPut x.pings u false }
    ((s.set (if port = 2 then CHN_UDLY.DHI u else CHN_UDLY.DLO u) d).put (CHN_USTAT.UNASSIGNED u) false).sendLdly u
  else s

/-- PING_RESPONSE (R174, R183, R194): `rtt` is the round trip in ns, SOF to SOF; the unit pinged is named by the
tag, 0x3F for the repeater. Only the answer to the PING in flight on the port counts. -/
def execPingResponse (high : Bool) (w : Wire) (rtt : Nat) (s : State) : Host.Outcome State Fault Refusal :=
  let port := if high then 2 else 1
  let f := w.f
  let u := if f.tag = 0x3F then 0 else f.tag + 1
  .next (s.engineRx high w fun s =>
    if wireRx w ≠ .good then s.discard port (wireRx w)
    else if f.cmd ≠ 2 ∨ f.addr < 0x80 ∨ s.chn.pingOn.contains (port, u) = false then s
    else ((s.takePing port u f rtt).pingEnd fun e => decide (e = (port, u))).measured)

/-- ENUM_DONE (R182, R183): the LDLY writes have ended. -/
def execEnumDone (s : State) : Host.Outcome State Fault Refusal :=
  let s := s.quiet
  let s := match s.chn.enum with
    | some e => if e.phase = 5 then s.writeDelays e else s
    | none => s
  .next (match s.chn.enum with
    | some e => if e.phase = 6 then s.enumDone e else s
    | none => s)

/-! ### Sweeps (R184, R191) -/

/-- NEXT of the SYNC being sent, in 10 µs (R206): 0 where no further SYNC is planned. -/
def State.nextSync (s : State) : Nat :=
  let stops : Bool := match s.power.trans with
    | some t => decide (t.target ≤ Gait.paddock)
    | none => false
  let last : Bool := match s.cel.check with
    | some n => decide (1 ≤ n)
    | none => false
  if stops || last || s.chn.stopping then 0 else s.sweepPeriod / 10

/-- SYNC_SEND (R184, R206, R208): at a control-tick boundary while sweeps run, or in a Paddock check. -/
def execSyncSend (s : State) : Host.Outcome State Fault Refusal :=
  let s := s.quiet
  let runs : Bool := s.flag CHN_CTRL.SWEEP_EN || (match s.cel.check with
    | some n => decide (n < 2)
    | none => false)
  .next (if !runs || !s.chainUp || s.chn.enum.isSome then s
    else
      let now := s.nowUs
      let next := s.nextSync
      let first := s.chn.syncAt.isNone
      let per := match s.chn.syncAt with
        | some t => now - t
        | none => s.sweepPeriod
      let err := match s.chn.syncAt with
        | some t => if s.chn.prevNext = 0 then none
            else some (((t + 10 * s.chn.prevNext : Nat) : Int) - now).natAbs
        | none => none
      let s := s.sweepBoundary
      let s := s.mapChn fun x => { x with
        inSync := true, open_ := true, got := [], nak := [], reread := [], reads := []
        hdr := false, crcSeen := false, syncAt := some now, first := first, period := per
        annErr := err, prevNext := next, pingOn := []
        eng := x.eng.filter fun e => decide (e.2 = 8) }
      let s := s.mapCel fun x => { x with check := x.check.map (· + 1) }
      let s := ((s.put CHN_STAT.REREAD false).prtSync.celSync).tagStat
      let s := s.sendFrame 3 ⟨0, 0x3F, 3, (s.get CHN_SWEEP.SWEEP + 1) % 256 :: leBytes 2 next⟩
      if s.chn.stopping then s.sweepsOff else s)

/-- SYNC_INSTANT (R184, R191): at T_dep + SYNCDLY. Every READ_BLOCK of the sweep goes to its port, nearest
unit first (log entry 71: DESIGN CHOICE). -/
def execSyncInstant (s : State) : Host.Outcome State Fault Refusal :=
  let s := s.quiet
  .next (if s.chn.inSync = false then s
    else
      let s := s.set CHN_SWEEP.SWEEP (s.get CHN_SWEEP.SWEEP + 1)
      let t := s.devTime + s.get CHN_SYNCDLY.NS
      let s := (s.mapChn fun x => { x with inSync := false }).mapHvm fun x => { x with tsync := t }
      let lo := s.namedUnits.filter fun u => s.route u = 1
      let hi := (s.namedUnits.filter fun u => s.route u = 2).reverse
      let s := (lo ++ hi).foldl (fun (s : State) u => s.sendRead u (s.route u) false) s
      s.tryPost)

/-- READ_BLOCK_RESPONSE (R174, R191, R193): matched by tag, address and command. A unit that answers otherwise than with
its sample or NAK 0x03 is read once more. -/
def execReadBlockResponse (high : Bool) (f : Frame) (e : Tail) (s : State) :
    Host.Outcome State Fault Refusal :=
  let port := if high then 2 else 1
  let w := Wire.of f e
  let u := f.addr - 0x80
  .next (s.engineRx high w fun s =>
    if wireRx w ≠ .good then s.discard port (wireRx w)
    else
      let s := s.portAlive port
      match s.chn.reads.find? fun r => r.unit = u ∧ f.addr = u + 0x80 ∧ f.cmd % 128 = 4 ∧
          f.tag = (if r.again then 0x20 else 0) + u - 1 with
      | none => s
      | some r =>
        let s := (s.mapChn fun x => { x with reads := x.reads.filter fun q => q ≠ r }).tagStat
        if 0x80 ≤ f.cmd then
          let s := s.when (decide (f.payload = [3])) fun s =>
            s.mapChn fun x => { x with nak := listPut x.nak u true }
          (s.rereadSome (fun v => decide (v = u)) fun _ => r.port).afterRead u
        else if f.payload.length ≠ 9 + 2 * (s.unitCells u).length then
          let s := s.when s.cel.check7 fun s => s.mapFail7 u
          (s.rereadSome (fun v => decide (v = u)) fun _ => r.port).afterRead u
        else
          let d := unitFrameOf f.payload
          let b : BundleFrame := ⟨u, high, s.get CHN_SWEEP.SWEEP % 256, d⟩
          ((s.note fun x => { x with frames := x.frames ++ [b] }).takeBlock u d).afterRead u)

/-- POSTPCT percent of the sweep period have passed since SYNC, or pass in the present tick (R136). -/
def State.postDue (s : State) : Bool :=
  decide (100 * s.chn.syncAt.getD 0 + s.get HRD_AUTOCFG.POSTPCT * s.sweepPeriod < 100 * (s.nowUs + 100))

/-- POST_DEADLINE (R136, R198): the units without a frame are counted and the job posted. Before it is due, nothing happens
(log entry 130: DEDUCED). -/
def execPostDeadline (s : State) : Host.Outcome State Fault Refusal :=
  let s := s.quiet
  .next (if s.chn.open_ && !s.chn.inSync && s.postDue then s.countMiss.postSweep true else s)

/-! ### Breaks (R192-R194) -/

/-- LINKNOTE: SIDE in the payload, [0] 1 South, [1] 1 lost. -/
def execLinknote (high : Bool) (w : Wire) (s : State) : Host.Outcome State Fault Refusal :=
  let f := w.f
  let u := f.addr - 0x80
  .next (s.engineRx high w fun s =>
    if wireRx w ≠ .good then s.discard (if high then 2 else 1) (wireRx w)
    else if f.cmd ≠ 0x0D ∨ u = 0 ∨ s.chn.units < u then s
    else
      let s := s.portAlive (if high then 2 else 1)
      let side := f.payload.headD 0
      let k := if bit side 0 then u else u - 1
      if bit side 1 then s.breakAt k else s.healAt k)

/-- PORT_LOSS_OF_LOCK (R192). -/
def execPortLossOfLock (high : Bool) (s : State) : Host.Outcome State Fault Refusal :=
  let s := s.quiet
  let s := s.put (lockField (if high then 2 else 1)) false
  .next (if s.flag CHN_STAT.ORIGIN then s.breakAt (if high then s.chn.units else 0) else s)

/-- PORT_SILENCE_TIMEOUT (R192): reads are outstanding on the port. The break lies before the nearest of
them where no unit beyond it has delivered; otherwise only the missing frames are read once more (log
entry 72: DEDUCED). A PING in flight on the port is given up (log entry 119: DESIGN CHOICE). -/
def execPortSilenceTimeout (high : Bool) (s : State) : Host.Outcome State Fault Refusal :=
  let s := s.quiet
  let port := if high then 2 else 1
  let s := if s.chn.enum.isSome then s else s.pingEnd fun e => decide (e.1 = port)
  let us := (s.chn.reads.filter fun r => r.port = port).map (·.unit)
  .next (match us with
    | [] => s
    | u :: rest =>
      let near := if high then rest.foldl max u else rest.foldl min u
      let beyond : Bool := s.chn.got.any fun g => if high then decide (g < near) else decide (near < g)
      let was (u : Nat) : Nat := s.route u
      let s := (s.mapChn fun x => { x with reads := x.reads.filter fun r => r.port ≠ port }).tagStat
      if beyond then ((s.put CHN_FLT.BREAK true).raise 65).rereadAll was
      else s.breakAt (if high then near else near - 1))

/-! ### chx (R189) -/

/-- CHX_RESPONSE: a damaged frame with the tag of a chx is remembered for RES 3; a good one completes it,
its payload going to RXADDR. -/
def execChxResponse (high : Bool) (f : Frame) (e : Tail) (s : State) : Host.Outcome State Fault Refusal :=
  let port := if high then 2 else 1
  let w := Wire.of f e
  .next (s.engineRx high w fun s =>
    if wireRx w ≠ .good then
      (s.discard port (wireRx w)).mapChn fun c => { c with chx := c.chx.map fun x =>
        if x.wire = f.tag then { x with bad := true } else x }
    else
      let s := s.portAlive port
      match s.chn.chx.find? fun x => x.wire = f.tag ∧ f.addr = x.addr + 0x80 ∧ f.cmd % 128 = x.cmd with
      | none => s
      | some x =>
        let r := if x.rxaddr = 0 then (true, s) else s.chainStore x.rxaddr (f.payload.take 64)
        if r.1 then
          let n := if x.rxaddr = 0 then 0 else (min 64 f.payload.length + 3) / 4
          let l := (List.range n).map fun i => (x.rxaddr + 4 * i, r.2.word (x.rxaddr + 4 * i))
          (r.2.note fun b => { b with mem := b.mem ++ l }).chxEnd x (if 0x80 ≤ f.cmd then 1 else 0) x.addr
            (f.payload.length + f.cmd * 256 + port * 65536)
        else r.2.chxRefused x)

/-- CHX_TIMEOUT: RES 3 where only damaged frames came, else RES 2. -/
def execChxTimeout (wire : BitVec 8) (s : State) : Host.Outcome State Fault Refusal :=
  .next (match s.chn.chx.find? fun x => x.wire = wire.toNat with
    | none => s
    | some x => s.chxEnd x (if x.bad then 3 else 2) 0 0)

end Sys2Proof.Machine
end

