-- ==== Sys2Proof/Machine/Curb.lean ====
section
/-! DEFINITION. Commands and events of the curb logic: stops, heartbeat, self-test, safety reset, guard
proof, seal (R287-R303). -/

namespace Sys2Proof.Machine
open Sys2Proof Sys2Proof.Reg

/-! ### Register actions -/

/-- A write of CRB_CMD (R308): SRS, SII; both together give SII. -/
def State.crbCmd (s : State) (v : Nat) : State :=
  if bit v 1 then s.curbCause Cause.reqSii .sii false
  else if bit v 0 then s.curbCause Cause.reqSrs .srs false else s

/-- A write of CRB_HB.SEQ (R294) (log entry 30: DEDUCED). -/
def State.crbHb (s : State) (v : Nat) : State :=
  let good : Bool := decide (v % 256 = (s.get CRB_HB.SEQ + 1) % 256)
  let s := s.set CRB_HB.SEQ v
  if good then s.mapCrb fun x => { x with hbAge := 0 } else s.crbDiag CRB_FLT.HB_SEQ

/-- The conditions of a safety reset (R297). -/
def State.resetAllowed (s : State) : Bool :=
  decide (s.curb = Curb.halt) && decide (s.curbInputs = 0) && !s.contactorOn && s.currentZero

/-- A successful safety reset: guard proof NONE, bleed channels given back, READY, and T17 once the gait is Halt
(Tables CRB-2 and PWR-2, R296). -/
def State.safetyReset (s : State) : State :=
  let s := s.setGuard Guard.none
  let s := s.mapCrb fun x => { x with allBleeds := false, uvCells := [], shuntFired := false }
  let s := (s.set CRB_STAT.STATE Curb.ready).mapCrb fun x => { x with dStop := 3 }
  (s.when (decide (s.gait = Gait.halt)) fun s => s.beginTrans 17 Gait.walk 0 false).redrive

/-- A write of CRB_RESET (R297; log entry 33: DEDUCED). -/
def State.crbReset (s : State) (v : Nat) : State :=
  if v = 0x0000C0DE then s.mapCrb fun x => { x with resetAt := some s.nowUs }
  else
    let timely : Bool := match s.crb.resetAt with
      | some t => decide (s.nowUs ≤ t + 1000)
      | none => false
    let s := s.mapCrb fun x => { x with resetAt := none }
    if v ≠ 0x00003F21 then s
    else if timely && s.resetAllowed then s.safetyReset
    else s.crbDiag CRB_FLT.RESET_REF

/-- The staged words CRB_STG0 to CRB_STG3. -/
def State.stagedScfg (s : State) : List Nat := (List.range 4).map fun i => s.get (CRB_STG.WORD i)

/-- A seal is refused (R303). -/
def State.sealRefuse (s : State) (result : Nat) : State :=
  (s.set CRB_SEALSTAT.RESULT result).crbDiag CRB_FLT.SEAL_REF

/-- The checks of the second key, then the commit of settings item 0 (R302, R303, R428) (log entry 35: DEDUCED). -/
def State.sealCheck (s : State) : State :=
  let w := s.stagedScfg
  let crc := s.get CRB_STGCRC.CRC
  if scfgCrc w ≠ crc then s.sealRefuse 3
  else if scfgValid w = false then s.sealRefuse 4
  else if (s.gait ≠ Gait.walk ∧ s.gait ≠ Gait.halt) ∨ s.contactorOn = true then s.sealRefuse 5
  else
    (s.set CRB_SEALSTAT.RESULT 1).enqueue { Commit.blank .seal with
      code := 1, len := 20, data := (w ++ [crc]).flatMap (leBytes 4) }

/-- A write of CRB_SEAL (R303). -/
def State.crbSeal (s : State) (v : Nat) : State :=
  let armed : Bool := s.crb.sealArmed && decide (s.crb.sealTicks ≤ 100)
  if v = 0x00005EA1 then s.mapCrb fun x => { x with sealArmed := true, sealTicks := 0 }
  else
    let s' := s.mapCrb fun x => { x with sealArmed := false }
    if v = 0x00001AE5 then (if armed then s'.sealCheck else s'.sealRefuse 6)
    else if armed then s'.sealRefuse 6 else s

/-- The curb part of a control tick: heartbeat age, seal arming, pulse and stop times. -/
def State.crbTick (s : State) : State :=
  let run := s.hbChecked
  s.mapCrb fun x => { x with
    hbAge := if run then x.hbAge + 1 else 0
    sealTicks := x.sealTicks + 1 }

/-! ### Events -/

/-- HEARTBEAT_TIMEOUT (R294): cause HB once HBTMO ticks have passed. -/
def execHeartbeatTimeout (s : State) : Host.Outcome State Fault Refusal :=
  .next (if s.hbChecked && decide (s.act PRT_INT.HBTMO ≤ s.crb.hbAge) then
    s.curbCause Cause.hb .srs false else s)

/-- CURB_OSC_CHECK (R293): `count` curb cycles in the 100 µs window. -/
def execCurbOscCheck (count : Nat) (s : State) : Host.Outcome State Fault Refusal :=
  let bad : Bool := decide (count < 1800 ∨ 2200 < count)
  let n := if bad then min 2 (s.crb.oscBad + 1) else 0
  let was := s.crb.oscBad
  let s := s.mapCrb fun x => { x with oscBad := n }
  .next (if n = 2 ∧ was < 2 then (s.put CRB_FLT.OSC true).curbCause Cause.osc .sii false else s)

/-- CURB_SUPPLY_FAULT (R293): cause SUPPLY; LS12 and LS13 open. -/
def execCurbSupplyFault (s : State) : Host.Outcome State Fault Refusal :=
  let s := s.mapCrb fun x => { x with supplyBad := true }
  .next (s.curbCause Cause.supply .sii false).redrive

/-- SRS_CURRENT_ZERO (Table CRB-2). -/
def execSrsCurrentZero (s : State) : Host.Outcome State Fault Refusal :=
  .next (if s.curb = Curb.srs ∧ 16 ≤ s.crb.zeroRun then s.enterHalt else s)

/-- T_ramp + 100 ms have passed since SRS entry, by protection samples or by the model clock. -/
def State.srsOver (s : State) : Bool :=
  let ms := bits (s.get (CRB_SCFG.WORD 1)) 0 16 + 100
  decide (256 * ms ≤ s.crb.srsN) || (match s.crb.stopAt with
    | some t => decide (t + 1000 * ms ≤ s.nowUs)
    | none => false)

/-- SRS_RAMP_TIMEOUT (Table CRB-2). -/
def execSrsRampTimeout (s : State) : Host.Outcome State Fault Refusal :=
  .next (if s.curb = Curb.srs ∧ s.srsOver = true then s.enterHalt else s)

/-- SHUNT_PULSE_END (Table CRB-2): SII goes to HALT; a WELD pulse in HALT ends. -/
def execShuntPulseEnd (s : State) : Host.Outcome State Fault Refusal :=
  .next (if s.crb.shuntOn = false then s
    else
      let s := s.mapCrb fun x => { x with shuntOn := false }
      if s.curb = Curb.sii then s.enterHalt else s.redrive)

/-- WELD_DETECT (Table CRB-2): one shunt pulse in a stop. -/
def execWeldDetect (s : State) : Host.Outcome State Fault Refusal :=
  .next (if s.curb = Curb.halt ∧ s.currentFlows = true ∧ s.crb.shuntFired = false then
    let s := ((s.recordCause Cause.weld false false).put CRB_FLT.WELD true).raise 30
    (s.mapCrb fun x => { x with shuntOn := true, shuntFired := true }).redrive
  else s)

/-- CURB_SELF_TEST_DONE (R295). -/
def execCurbSelfTestDone (passed : Bool) (s : State) : Host.Outcome State Fault Refusal :=
  .next (if s.curb = Curb.boot then (s.put CRB_STAT.STEST_OK passed).curbReady else s)

/-- CHANNEL2_CHECK (R301): DO12 or DO13 still on 10 ms after the curb opened LS12 and LS13. -/
def execChannel2Check (s : State) : Host.Outcome State Fault Refusal :=
  .next (if s.arch = Arch.diverse ∧ (s.curb = Curb.sii ∨ s.curb = Curb.halt) ∧ s.mainOn = true then
    s.crbDiag CRB_FLT.CHAN2 else s)

/-- DOOR_CHANNEL_CHANGE (R298): channel DI1 where `second`; `high` its filtered level, `pattern` whether
the level carries the pulses of its own test source, which a disabled source does not give (R345) (log entry 34:
DESIGN CHOICE). -/
def execDoorChannelChange (second high pattern : Bool) (s : State) : Host.Outcome State Fault Refusal :=
  let k := b2n second
  let src : Bool := bit (s.fioGet FIO_TSCFG.EN) k && !(bit s.fio.tsOff k)
  let ok : Bool := pattern && src
  let opened : Bool := !(high && ok)
  let was := s.crb.doorOpen
  let now := putBit was k opened
  let s := if high && !ok then s.crbDiag CRB_FLT.XSHORT else s
  let apart := s.nowUs - s.crb.closedAt
  let s := s.mapCrb fun x => { x with
    doorOpen := now
    closedAt := if opened then x.closedAt else s.nowUs
    discrepant := x.discrepant && decide (now = 1 ∨ now = 2) }
  let g := s.get CRB_STAT.GUARD
  let s := if g = Guard.opened ∧ now = 0 ∧ was ≠ 0 ∧ apart ≤ 50000 then s.setGuard Guard.proven
    else if g = Guard.proven ∧ now ≠ 0 then s.setGuard Guard.none else s
  .next s.doorCheck.redrive

/-- GUARD_DISCREPANCY (Table CRB-4): FAULT. -/
def execGuardDiscrepancy (s : State) : Host.Outcome State Fault Refusal :=
  .next (if s.crb.doorOpen = 1 ∨ s.crb.doorOpen = 2 then
    let s := s.mapCrb fun x => { x with discrepant := true }
    let s := ((s.set CRB_STAT.GUARD Guard.fault).raise 27).crbDiag CRB_FLT.DISCREP
    s.doorCheck.redrive
  else s)

/-- GUARD_OPEN_CONFIRM (Table CRB-4): both channels open for 200 ms. -/
def execGuardOpenConfirm (s : State) : Host.Outcome State Fault Refusal :=
  .next (if s.crb.doorOpen = 3 then (s.setGuard Guard.opened).redrive else s)

/-- SEAL_ARM_EXPIRY (R303): the 10 ms lapse. -/
def execSealArmExpiry (s : State) : Host.Outcome State Fault Refusal :=
  .next (s.mapCrb fun x => { x with sealArmed := false })

/-- SEAL_COMMIT_DONE (R303): the words are loaded after STATUS 0, else RESULT 0b111; the record SEAL (log entry 35:
DEDUCED). -/
def execSealCommitDone (s : State) : Host.Outcome State Fault Refusal :=
  .next (match s.crb.sealDone with
    | [] => s
    | (ok, w) :: rest =>
      let old := s.get CRB_SCFGCRC.CRC
      let s := s.mapCrb fun x => { x with sealDone := rest }
      let s := if ok then
          ((s.set CRB_SEALSTAT.RESULT 2).loadScfg w (w.getD 4 0)).setGuard Guard.none
        else s.set CRB_SEALSTAT.RESULT 7
      let s := s.hwRecord 0x0012 6 (leBytes 4 old ++ leBytes 4 (if ok then w.getD 4 0 else old)
        ++ leBytes 4 (s.get CRB_SEALSTAT.RESULT))
      s.curbReady)

end Sys2Proof.Machine
end

