-- ==== Sys2Proof/Machine/PtpOps.lean ====
section
/-! DEFINITION. The time unit: device time, the states of Table PTP-2, compares, transmit timestamps
(R374-R381). -/

namespace Sys2Proof.Machine
open Sys2Proof Sys2Proof.Reg

/-- PTP_STAT.STATE codes (Table PTP-5). -/
def Ptp.free : Nat := 0
def Ptp.locked : Nat := 1
def Ptp.holdover : Nat := 2
def Ptp.refused : Nat := 3

/-- The time state. -/
def State.ptpState (s : State) : Nat := s.get PTP_STAT.STATE

/-- The time unit runs: device time counts outside Stable, Paddock and Groom walks (R374). -/
def State.ptpUp (s : State) : Bool := decide (2 ≤ s.gait) && s.flag PWR_GAIT.RIDERS

/-- `s` in time state `st`, with TVALID of R377; source 225 on a change. -/
def State.ptpEnter (s : State) (st : Nat) : State :=
  if s.ptpState = st then s
  else ((s.set PTP_STAT.STATE st).put PTP_STAT.TVALID (decide (st ≠ Ptp.free))).raise 225

/-- `s` with device time `t`. -/
def State.setTime (s : State) (t : Nat) : State :=
  (s.set PTP_TIMELO.NS t).set PTP_TIMEHI.NS (t / 2 ^ 32)

/-! ### Compares (R380) -/

/-- Target `g` is reached at device time `t`: the signed 32-bit difference is not negative. -/
def timeReached (t g : Nat) : Bool := decide (0 ≤ sgn 32 (enc 32 ((t % 2 ^ 32 : Nat) - (g : Int))))

/-- Compare `k` fires once: FIRED, disarmed, source 230. -/
def State.cmpFire (s : State) (k : Nat) : State :=
  if s.bitOf PTP_CMPSTAT.ARMED k then
    ((s.clrBitOf PTP_CMPSTAT.ARMED k).setBitOf PTP_CMPSTAT.FIRED k).raise 230
  else s

/-- Every armed compare whose target device time has reached fires. -/
def State.cmpCheck (s : State) : State :=
  (List.range 4).foldl (fun (s : State) k =>
    if timeReached s.devTime (s.get (PTP_CMP.TARGET k)) then s.cmpFire k else s) s

/-- A write of PTP_CMPk has armed the compare. -/
def State.cmpArm (s : State) (k : Nat) : State :=
  let s := s.setBitOf PTP_CMPSTAT.ARMED k
  if timeReached s.devTime (s.get (PTP_CMP.TARGET k)) then s.cmpFire k else s

/-! ### Samples (R375, R376) -/

/-- The 64-bit refused offset. -/
def State.setRefofs (s : State) (o : Int) : State :=
  let c := enc 64 o
  (s.set PTP_REFOFSLO.NS c).set PTP_REFOFSHI.NS (c / 2 ^ 32)

/-- The refused offset. -/
def State.refofs (s : State) : Int :=
  sgn 64 (s.get PTP_REFOFSHI.NS * 2 ^ 32 + s.get PTP_REFOFSLO.NS)

/-- The correction of the servo in ppb, clamped to RMAX, with the sign that reduces the offset (R375). -/
def State.servoRate (s : State) (o sum : Int) : Rat :=
  let q : Rat := (o : Rat) / ((2 ^ s.get PTP_SERVO.KPSH : Nat) : Rat)
    + (sum : Rat) / ((2 ^ s.get PTP_SERVO.KISH : Nat) : Rat)
  let m : Rat := ((1000 * s.get PTP_SERVO.RMAX : Nat) : Rat)
  let c := max (-m) (min m q)
  0 - c

/-- REFUSED with its latch and source 226. -/
def State.ptpRefuse (s : State) (f : Fld) : State := ((s.ptpEnter Ptp.refused).put f true).raise 226

/-- The selected grandmaster. -/
def State.gmid (s : State) : Nat := s.get PTP_GMID1.ID * 2 ^ 32 + s.get PTP_GMID0.ID

/-- A valid sample with offset `o` (Table PTP-2); the timeouts are those that PTP_TIMING holds at it (R390; log
entry 129: DEDUCED). -/
def State.ptpSample (s : State) (o : Int) : State :=
  let s := s.seti PTP_OFFSET.NS (clampI (-2147483648) 2147483647 o)
  let at_ := s.nowUs
  let st := s.ptpState
  let thr : Int := 1000 * (s.get PTP_JUMPTHR.JUMPTHR : Int)
  let tmo := s.get PTP_TIMING.SYNCTMO
  let hold := s.get PTP_TIMING.HOLDMAX
  let s := s.mapPtp fun p => { p with validAt := some at_, syncTmo := tmo, holdMax := hold }
  if st = Ptp.free then
    if s.flag PTP_CTRL.AUTOFIRST then s.mapPtp fun p => { p with first := some o }
    else (s.setRefofs o).ptpRefuse PTP_FLT.JUMP
  else if st = Ptp.refused then s.setRefofs o
  else if s.get PTP_CTRL.SRC = 0 ∧ s.gmid ≠ s.ptp.gm then s
  else if (o.natAbs : Int) ≤ thr then
    let sum := if st = Ptp.locked then s.ptp.sum + o else o
    let r := s.servoRate o sum
    (s.mapPtp fun p => { p with rate := r, sum := sum, jumps := 0, fixedAt := some at_ }).ptpEnter Ptp.locked
  else if s.ptp.jumps + 1 < 3 then s.mapPtp fun p => { p with jumps := p.jumps + 1 }
  else ((s.mapPtp fun p => { p with jumps := 0 }).setRefofs o).ptpRefuse PTP_FLT.JUMP

/-- PTP_CMD.TIME_ACCEPT (Table PTP-2). -/
def State.timeAccept (s : State) : State :=
  if s.ptpState ≠ Ptp.refused then s
  else
    let fresh : Bool := match s.ptp.validAt with
      | some t => decide (s.nowUs ≤ t + 1000000 * s.ptp.syncTmo)
      | none => false
    if fresh then s.mapPtp fun p => { p with accept := true } else s.put PTP_FLT.ACCEPT_REF true

/-- A step by `d`: LOCKED with a fresh servo and the selected grandmaster (Table PTP-2) (log entry 98: DEDUCED). -/
def State.timeStep (s : State) (d : Int) : State :=
  let t := enc 64 ((s.devTime : Int) + d)
  let at_ := s.nowUs
  let g := s.gmid
  let s := (s.setTime t).mapPtp fun p =>
    { p with first := none, accept := false, sum := 0, rate := 0, jumps := 0, gm := g, fixedAt := some at_ }
  ((s.put PTP_FLT.STEP true).ptpEnter Ptp.locked).cmpCheck

/-- What is due at the tick boundary: a step, or the end of sampling (Table PTP-2). -/
def State.ptpBoundary (s : State) : State :=
  let s := if s.ptp.off then
      let v := s.flag PTP_STAT.TVALID
      ((s.mapPtp fun p => { p with off := false, first := none, accept := false }).ptpEnter
        Ptp.holdover).put PTP_STAT.TVALID v
    else s
  match s.ptp.first with
  | some o => s.timeStep (-o)
  | none => if s.ptp.accept then s.timeStep (-s.refofs) else s

/-- Device time over one control tick at the trimmed rate, then what is due at its boundary. -/
def State.ptpTick (s : State) : State :=
  if s.ptpUp = false then s
  else
    let f := s.ptp.frac + s.ptp.rate / 10000
    let k := f.floor
    let t := enc 64 ((s.devTime : Int) + 100000 + k)
    let s := (s.setTime t).mapPtp fun p => { p with frac := f - (k : Rat) }
    s.cmpCheck.ptpBoundary

/-- PTP_CTRL was written over `old`: EN cleared, the master role taken away (Table PTP-1), or SRC changed while the
time is valid (Table PTP-2). -/
def State.ptpCtrl (s : State) (old : Nat) : State :=
  let s := if s.flag PTP_CTRL.MASTER_EN then s else s.put PTP_STAT.MASTER false
  let s := if bit old 0 && !(s.flag PTP_CTRL.EN) then s.mapPtp fun p => { p with off := true } else s
  let st := s.ptpState
  if bits old 1 2 ≠ s.get PTP_CTRL.SRC ∧ (st = Ptp.locked ∨ st = Ptp.holdover) ∧
      s.flag PTP_STAT.TVALID then s.ptpRefuse PTP_FLT.GMCHG
  else s

/-! ### Transmit timestamps (R381) -/

/-- The registers of the timestamp queue. -/
def State.tsqShow (s : State) : State :=
  let s := s.set PTP_TSQSTAT.COUNT s.ptp.tsq.length
  match s.ptp.tsq with
  | [] => (((s.put PTP_TSQID.VALID false).set PTP_TSQID.ID 0).set PTP_TSQLO.NS 0).set PTP_TSQHI.NS 0
  | e :: _ => (((s.put PTP_TSQID.VALID true).set PTP_TSQID.ID e.1).set PTP_TSQLO.NS e.2).set
      PTP_TSQHI.NS (e.2 / 2 ^ 32)

/-- A timestamp enters the queue of 8; on a full queue it is dropped with source 227. -/
def State.tsqPush (s : State) (id t : Nat) : State :=
  if 8 ≤ s.ptp.tsq.length then (s.put PTP_FLT.TSQ_OVF true).raise 227
  else (s.mapPtp fun p => { p with tsq := p.tsq ++ [(id, t)] }).tsqShow

/-- PTP_CMD.TSQ_POP. -/
def State.tsqPop (s : State) : State := (s.mapPtp fun p => { p with tsq := p.tsq.drop 1 }).tsqShow

/-- PTP_CMD.TSQ_CLR. -/
def State.tsqClr (s : State) : State := (s.mapPtp fun p => { p with tsq := [] }).tsqShow

/-! ### Reset and power (R374, R390) -/

/-- PTP registers that Paddock and Groom walks retain: PTP_CTRL, PTP_PORTCFG, PTP_SERVO, PTP_TIMING,
PTP_JUMPTHR, PTP_PPSCFG, and device time itself. -/
def ptpRetained (a : Nat) : Bool :=
  [0x600F0000, 0x600F0030, 0x600F0028, 0x600F002C, 0x600F0024, 0x600F003C, 0x600F0010, 0x600F0014].contains a

/-- Entry to Paddock and start of a Groom walk: device time stops. -/
def State.ptpStop (s : State) : State :=
  let r := s.get PWR_RTC.SEC
  s.mapPtp fun p => { p with stopped := some r }

/-- Wake: device time resumes with the seconds of PWR_RTC added, in FREE (R374). -/
def State.ptpWake (s : State) : State :=
  let gone := match s.ptp.stopped with
    | some r => (s.get PWR_RTC.SEC + 2 ^ 32 - r) % 2 ^ 32
    | none => 0
  let t := (s.devTime + gone * 1000000000) % 2 ^ 64
  let s := { s with
    regs := s.regs.filter fun e =>
      !(decide (0x600F0000 ≤ e.1 / 32 ∧ e.1 / 32 < 0x60100000)) || ptpRetained (e.1 / 32)
    ptp := PtpSt.reset }
  s.setTime t

/-- A module reset: device time goes on; HOLDOVER where TVALID was 1, else FREE; the registers are at
reset (R374). -/
def State.ptpReset (s old : State) : State :=
  let s := s.setTime old.devTime
  let keep := old.ptp
  let s := s.mapPtp fun _ =>
    { PtpSt.reset with rate := keep.rate, frac := keep.frac, gm := keep.gm, fixedAt := keep.fixedAt }
  if old.flag PTP_STAT.TVALID then
    (s.set PTP_STAT.STATE Ptp.holdover).put PTP_STAT.TVALID true
  else s

end Sys2Proof.Machine
end

