-- ==== Sys2Proof/Machine/EthOps.lean ====
section
/-! DEFINITION. The Ethernet switch, ARP, frames of P0 and the plant telegrams (R368-R388). -/

namespace Sys2Proof.Machine
open Sys2Proof Sys2Proof.Reg

/-- The switch and P0 run: not in Stable, Paddock or a Groom walk, SYS_CLKEN.ETH_EN set, their domain not gated
(R24, R369). -/
def State.ethUp (s : State) : Bool :=
  decide (2 ≤ s.gait) && s.flag PWR_GAIT.RIDERS && s.flag SYS_CLKEN.ETH_EN && !(s.pllGated Pll.eth)

/-- ETH registers that Paddock and Groom walks retain: the configuration (R389). -/
def ethRetained (a : Nat) : Bool :=
  decide (a = 0x600E0000) || (decide (0x600E0010 ≤ a) && decide (a ≤ 0x600E0038))

/-- The configuration of the ETH block takes effect (R389). -/
def State.ethLatch (s : State) : State :=
  let eff := s.regs.filter fun e => ethRetained (e.1 / 32)
  s.mapEth fun x => { x with eff := eff }

/-- A configuration field of the ETH block in effect (R389). -/
def State.ethGet (s : State) (f : Fld) : Nat := mapGet f.reset s.eth.eff f.key

/-- A configuration bit of the ETH block in effect. -/
def State.ethFlag (s : State) (f : Fld) : Bool := decide (s.ethGet f ≠ 0)

/-- The module is held in reset; the switch keeps forwarding (R369) (log entry 105: DEDUCED). -/
def State.inReset (s : State) : Bool := s.sys.held || s.sys.dieOff

/-- Port `p` is enabled; P0 always is but in reset (log entry 105: DEDUCED). -/
def State.ethPort (s : State) (p : Nat) : Bool :=
  if p = 1 then s.ethFlag ETH_CTRL.P1EN || s.inReset
  else if p = 2 then s.ethFlag ETH_CTRL.P2EN || s.inReset else !s.inReset

/-- `s` with no frame sent yet by the present command. -/
def State.ethQuiet (s : State) : State := s.mapEth fun e => { e with out := [] }

/-- A frame leaves. -/
def State.ethSend (s : State) (m : EthOut) : State := s.mapEth fun e => { e with out := e.out ++ [m] }

/-- A frame for P0 is discarded (R370, R383). -/
def State.rxDrop (s : State) : State := s.bump ETH_RXDROP.COUNT 1

/-! ### ARP (R370) -/

/-- The next hop for an address: the gateway outside the subnet. -/
def State.nextHop (s : State) (ip : Nat) : Nat :=
  let m := s.ethGet ETH_NETMASK.IP
  if (ip &&& m) = (s.ethGet ETH_IPADDR.IP &&& m) then ip else s.ethGet ETH_GW.IP

/-- The ARP entry of a hop. -/
def State.arpOf (s : State) (ip : Nat) : Option EthArp := s.eth.arp.find? fun e => decide (e.ip = ip)

/-- Resolution of `ip` is under way, or begins with a request. -/
def State.arpAsk (s : State) (ip : Nat) : State :=
  if s.eth.asking.any fun e => decide (e.1 = ip) then s
  else (s.mapEth fun e => { e with asking := e.asking ++ [(ip, 0)] }).ethSend (.arpRequest ip)

/-- The hop can be used now; an entry older than 60 s is asked for again. -/
def State.arpUse (s : State) (ip : Nat) : Bool × State :=
  match s.arpOf ip with
  | none => (false, s.arpAsk ip)
  | some e => (true, if e.seen + 60000000 ≤ s.nowUs then s.arpAsk ip else s)

/-- An address is resolved; the 16-entry cache gives up its oldest entry (log entry 93: DEDUCED). -/
def State.arpLearn (s : State) (ip mac : Nat) : State :=
  let e : EthArp := ⟨ip, mac, s.nowUs⟩
  s.mapEth fun x =>
    let l := x.arp.filter fun y => decide (y.ip ≠ ip)
    let l := if 16 ≤ l.length then l.drop 1 else l
    { x with arp := l ++ [e], asking := x.asking.filter fun y => decide (y.1 ≠ ip) }

/-! ### UDP of the module itself -/

/-- A datagram of the module leaves once its hop is known; without it only the resolution starts (log
entry 93: DEDUCED). -/
def State.udpSend (s : State) (ip dport : Nat) (payload : List Nat) : State :=
  let r := s.arpUse (s.nextHop ip)
  if r.1 then r.2.ethSend (.udp ip dport (s.ethGet ETH_UDPPORT.PORT) payload) else r.2

/-- A plant telegram of `type` with `payload` (Table ETH-3, R383). -/
def State.telegram (s : State) (type : Nat) (payload : List Nat) : List Nat :=
  let h := [0xA7, 1, type, s.get PTP_STAT.TVALID] ++ leBytes 4 (mapGet 0 s.eth.txSeq type)
    ++ leBytes 4 (s.get SYS_UID0.UID) ++ leBytes 4 (s.devTime % 2 ^ 32)
  h ++ payload ++ leBytes 4 (crc32c (h ++ payload))

/-- A telegram of `type` goes to `ip`. -/
def State.sendTelegram (s : State) (type ip dport : Nat) (payload : List Nat) : State :=
  let t := s.telegram type payload
  let s := s.mapEth fun e => { e with
    txSeq := mapSet 0 e.txSeq type ((mapGet 0 e.txSeq type + 1) % 2 ^ 32) }
  s.udpSend ip dport t

/-- The DISPATCH telegram of a publication (R385). -/
def State.dispatchEth (s : State) : State :=
  if s.ethGet ETH_DISPIP.IP = 0 then s.put ETH_FLT.DISP_CFG true
  else if s.gateClosed = true ∨ s.ethUp = false then s
  else s.sendTelegram 1 (s.ethGet ETH_DISPIP.IP) (s.ethGet ETH_DISPPORT.PORT) s.dispatchBytes

/-- The 48 bytes of Table ETH-4. -/
def State.telemetryBytes (s : State) : List Nat :=
  [s.gait, s.curb, s.get TDM_STAT.SEAT + 2 * s.get TDM_STAT.CLAIM + 4 * s.get PTP_STAT.TVALID,
    s.get CHN_STAT.RING]
  ++ leBytes 2 (s.get EST_USOC.SOC) ++ leBytes 2 (s.get EST_USOC.VALID + 2 * s.get EST_USOC.SPLIT)
  ++ leBytes 4 (s.get EST_ISTRCH.MA) ++ leBytes 4 (s.get EST_ISTRDC.MA)
  ++ leBytes 4 (s.get HVM_IFINE.VAL) ++ leBytes 4 (s.get HVM_VBAT.VAL)
  ++ leBytes 2 (s.get CEL_VMIN.V) ++ leBytes 2 (s.get CEL_VMIN.CELL)
  ++ leBytes 2 (s.get CEL_VMAX.V) ++ leBytes 2 (s.get CEL_VMAX.CELL)
  ++ leBytes 2 (s.get EST_PLATMIN.PLAT) ++ leBytes 2 (s.get HVM_ISO.RKOHM)
  ++ leBytes 4 (s.regWord PRT_STAT.VALID.addr) ++ leBytes 4 (s.regWord CEL_STAT.MAP_VALID.addr)
  ++ leBytes 4 (s.get GGN_DSP.MA)

/-! ### Plant telegrams (R383, R384, R387) -/

/-- Payload length of a known TYPE, none where no message of it is defined (Tables ETH-3 and UPD-3). -/
def plantLen (type : Nat) : Option Nat :=
  if type = 0x20 then some 1032 else if type = 0x21 then some 36 else if type = 0x22 then some 0
  else if type = 0x2F then some 8 else if type = 1 then some 24 else if type = 2 then some 48 else if type = 0x10 then some 16
  else if type = 0x11 ∨ type = 0x91 then some 8 else none

/-- Steps 2 and 3: MAGIC, VER, TYPE, length, reserved payload bytes, CRC. -/
def plantForm (b : List Nat) : Bool :=
  let n := b.length
  let type := b.getD 2 0
  let body := b.take (n - 4)
  let free : Bool := decide (0x23 ≤ type ∧ type ≤ 0x2E)
  decide (20 ≤ n) && decide (b.getD 0 0 = 0xA7) && decide (b.getD 1 0 = 1)
    && (free || decide (plantLen type = some (n - 20)))
    && (decide (type ≠ 0x10) || ([17, 18, 19, 28, 29, 30, 31].all fun i => decide (b.getD i 0 = 0)))
    && (decide (type ≠ 0x11) || ([20, 21, 22, 23].all fun i => decide (b.getD i 0 = 0)))
    && (decide (type ≠ 0x20) || ([22, 23].all fun i => decide (b.getD i 0 = 0)))
    && decide (ofLe (b.drop (n - 4)) = crc32c body)

/-- Step 5: SEQ as s32 exceeds the last accepted SEQ of the TYPE. -/
def State.plantNew (s : State) (type seq : Nat) : Bool :=
  match mapGet none s.eth.rxSeq type with
  | none => true
  | some l => decide (sgn 32 l < sgn 32 seq)

/-- Step 6: the age check; none where it is skipped. -/
def State.plantAge (s : State) (b : List Nat) : Option Bool :=
  if s.flag PTP_STAT.TVALID ∧ bit (b.getD 3 0) 0 = true then
    let d := sgn 32 (enc 32 ((ofLe ((b.drop 12).take 4) : Int) - (s.devTime : Int)))
    some (decide (d.natAbs ≤ 1000000 * s.ethGet ETH_DEMCFG.AGEMAX))
  else none

/-- An accepted DEMAND (R384). -/
def State.demand (s : State) (b : List Nat) : State :=
  let w (i : Nat) : Nat := ofLe ((b.drop i).take 4)
  let s := ((s.set ETH_DEMSEQ.SEQ (w 4)).set ETH_DEMI.MA (w 20)).set ETH_DEMV.RAMPV (w 24)
  let s := s.set ETH_DEMSTAT.MODE (b.getD 16 0)
  let t := s.nowUs
  (((s.put ETH_STAT.DEM_OK true).put ETH_STAT.DEM_TMO false).mapEth fun e => { e with demAt := t }).raise 229

/-- An accepted SERVICE telegram (R387) (log entry 99: DEDUCED). -/
def State.service (s : State) (b : List Nat) : State :=
  let s := (s.set ETH_SVC.CODE (b.getD 16 0)).set ETH_SVC.CELL (ofLe ((b.drop 18).take 2))
  (s.put ETH_SVC.NEW true).raise 229

/-! ### Frames of txf (R382) -/

/-- The first waiting frame whose hop is known. -/
def State.txReady (s : State) : Option EthTx :=
  s.eth.tx.find? fun e => !e.udp || (s.arpOf (s.nextHop e.dip)).isSome

/-- Where the PTP header of a raw frame starts: Ethertype 0x88F7, or UDP port 319 or 320 over IPv4 (Table PTP-1)
(log entry 94: DEDUCED). -/
def ptpHeader (d : List Nat) : Option Nat :=
  let at_ (i : Nat) : Nat := d.getD i 0
  let udp := 14 + 4 * (at_ 14 % 16)
  let dport := at_ (udp + 2) * 256 + at_ (udp + 3)
  if at_ 12 = 0x88 ∧ at_ 13 = 0xF7 then some 14
  else if at_ 12 = 8 ∧ at_ 13 = 0 ∧ at_ 14 / 16 = 4 ∧ at_ 23 = 17 ∧ (dport = 319 ∨ dport = 320) then some (udp + 8)
  else none

/-- The timestamp identifier of a frame of txf (R381): DPORT of a datagram; of a raw frame, the sequenceId and
messageType of a PTP message, else the descriptor's ID (log entry 94: DEDUCED). -/
def EthTx.stampId (x : EthTx) : Nat :=
  match x.udp, ptpHeader x.data with
  | false, some h =>
    (x.data.getD (h + 30) 0 * 256 + x.data.getD (h + 31) 0) % 4096 * 16 + x.data.getD h 0 % 16
  | _, _ => x.dport

/-- The frame of `core` and `tag` leaves the list. -/
def State.txDrop (s : State) (c : Core) (t : Nat) : State :=
  s.mapEth fun e => { e with tx := e.tx.filter fun x => !(decide (x.core = c) && decide (x.tag = t)) }

/-- A frame of txf enters P0's list; a datagram asks for its hop. -/
def State.txAdd (s : State) (x : EthTx) : State :=
  let s := s.mapEth fun e => { e with tx := e.tx ++ [x] }
  if x.udp then (s.arpUse (s.nextHop x.dip)).2 else s

/-- A frame of txf ends: RES in INFO, STATUS, the low word of its timestamp (R382). -/
def State.txEnd (s : State) (x : EthTx) (res t : Nat) : State :=
  (s.txDrop x.core x.tag).complete x.core x.tag res
    (if res = 1 then 0 else if res = 4 then 5 else 1) (if res = 1 then t % 2 ^ 32 else 0)

/-- Every frame of txf that waits ends with STATUS 0x3: the block is stopped by a gait transition (R107). -/
def State.txStop (s : State) : State :=
  s.eth.tx.foldl (fun (s : State) x => (s.txDrop x.core x.tag).complete x.core x.tag 0 3 0) s

/-- The ETH block after a wake (R389). -/
def State.ethWake (s : State) : State :=
  let s := s.txStop
  { s with
    regs := s.regs.filter fun e =>
      !(decide (0x600E0000 ≤ e.1 / 32 ∧ e.1 / 32 < 0x600F0000)) || ethRetained (e.1 / 32)
    eth := { EthSt.reset with eff := s.eth.eff, telAt := s.nowUs } }

end Sys2Proof.Machine
end

