-- ==== Sys2Proof/Machine/EvtOps.lean ====
section
/-! DEFINITION. The event controller's claim, service and software assertion (R36, R37, R39, R44, R474), and
the paddock arbiter's requests, grants and locks (R45-R53). -/

namespace Sys2Proof.Machine
open Sys2Proof Sys2Proof.Reg

/-! ### Delivery of events (R36, R37) -/

/-- Sources that never assert (R474). -/
def evtReserved (n : Nat) : Bool :=
  decide ((74 ≤ n ∧ n ≤ 79) ∨ (116 ≤ n ∧ n ≤ 127) ∨ (141 ≤ n ∧ n ≤ 143))

/-- The ROUTE code of a core (Table ARC-18). -/
def routeOf (c : Core) : Nat :=
  match c with
  | .r0 => 1 | .r1 => 2 | .grm => 3

/-- EVT_THR of a core. -/
def thrOf (c : Core) : Fld :=
  match c with
  | .r0 => EVT_THR_R0.THR | .r1 => EVT_THR_R1.THR | .grm => EVT_THR_GRM.THR

/-- Running priority: the threshold, or the highest priority in service, as the claim returned it. -/
def State.runPrio (s : State) (c : Core) : Nat :=
  s.evt.inService.foldl (fun p x => if x.core = c then max p x.prio else p) (s.get (thrOf c))

/-- Pending sources, number rising. -/
def State.pendingSources (s : State) : List Nat :=
  (List.range 8).flatMap fun k =>
    let w := s.get (EVT_PEND.BITS k)
    if w = 0 then [] else ((List.range 32).filter (bit w)).map fun b => 32 * k + b

/-- The eligible source of highest priority, the lowest number among equals, with its priority. -/
def State.eligible (s : State) (c : Core) : Option (Nat × Nat) :=
  let p := s.runPrio c
  s.pendingSources.foldl (fun best n =>
    let q := s.get (EVT_CFG.PRIO n)
    if s.get (EVT_CFG.ROUTE n) = routeOf c ∧ p < q then
      match best with
      | none => some (n, q)
      | some b => if b.2 < q then some (n, q) else some b
    else best) none

/-- A read of a core's EVT_CLAIM register: the word, and the state with the source in service (R37). -/
def State.claimEvt (s : State) (c : Core) : Nat × State :=
  match s.eligible c with
  | none => (0, s)
  | some (n, q) =>
    (2 ^ 31 + q * 256 + n, (s.clrBitOf (EVT_PEND.BITS (n / 32)) (n % 32)).mapEvt fun x =>
      { x with inService := ⟨c, n, q⟩ :: x.inService })

/-- A write of a core's EVT_DONE register ends the service of source `n` (R37). -/
def State.doneEvt (s : State) (c : Core) (n : Nat) : State :=
  s.mapEvt fun x => { x with inService := x.inService.filter fun y => !(decide (y.core = c ∧ y.src = n)) }

/-- A write of EVT_SETk: each source with a 1 asserts, never to the curb logic (R39, R474). -/
def State.setEvt (s : State) (k v : Nat) : State :=
  (List.range 32).foldl (fun (s : State) b =>
    if bit v b && !(evtReserved (32 * k + b)) then s.softEvt (32 * k + b) else s) s

/-- The assertions held for a Rider enter EVT_PEND in ascending source number (R40), with those whose route
has meanwhile left the Riders; a source held more than once asserts again while pending (R35) (log entry 18:
DEDUCED). -/
def State.releaseEvents (s : State) (c : Core) : State :=
  let mine (n : Nat) : Bool :=
    decide (s.get (EVT_CFG.ROUTE n) = routeOf c) || [0, 3].contains (s.get (EVT_CFG.ROUTE n))
  let h := s.evt.held.filter mine
  let s := s.mapEvt fun x => { x with held := x.held.filter fun n => !(mine n) }
  if h.isEmpty then s
  else (List.range 256).foldl (fun (s : State) n =>
    (h.filter (· = n)).foldl (fun (s : State) n => s.latchEvt n) s)
      (s.note fun b => { b with events := b.events ++ (List.range 256).filter fun n => h.contains n })

/-! ### The paddock arbiter (R45, R46, R53) -/

/-- Number of units of a resource class (Table ARC-19). -/
def arbUnits (cls : Nat) : Nat := [2, 32, 1, 512, 2, 8].getD cls 0

/-- The PAD_URG field of a requester rank for a resource class (Table ARC-22). -/
def urgField (req cls : Nat) : Fld :=
  ⟨0x60150000 + 4 * (req - 2), cls, 1, .rwf, if req = 2 ∧ (cls = 0 ∨ cls = 4) then 1 else 0, .any⟩

/-- Level of a request at its posting: 0 urgent, 2 normal; the curb logic's are always urgent. -/
def State.arbLevel (s : State) (p : ArbPost) : Nat :=
  if p.req = 1 ∨ s.get (urgField p.req p.cls) = 1 then 0 else 2

/-- A post the arbiter knows: class, unit, requester and index within their ranges (Tables ARC-19,
ARC-20). -/
def arbPostOk (p : ArbPost) : Bool :=
  decide (p.unit < arbUnits p.cls ∧ 1 ≤ p.req ∧ p.req ≤ 6)
    && decide (p.index < (if p.req = 5 then 32 else if p.req = 6 then 8 else 1))

/-- A normal request that has waited more than 64 cycles is promoted (R46). -/
def ArbReq.promote (r : ArbReq) : ArbReq × Bool :=
  let go : Bool := decide (r.level = 2 ∧ 64 < r.wait)
  (if go then { r with level := 1 } else r, go)

/-- Does `a` go before `b` (R46)? -/
def ArbReq.before (a b : ArbReq) : Bool :=
  if a.level ≠ b.level then decide (a.level < b.level)
  else if a.level = 1 ∧ a.wait ≠ b.wait then decide (b.wait < a.wait)
  else if a.post.req ≠ b.post.req then decide (a.post.req < b.post.req)
  else decide (a.post.index < b.post.index)

/-- The request chosen among those for one unit. -/
def arbFirst (c : List ArbReq) : Option ArbReq :=
  c.foldl (fun best r =>
    match best with
    | none => some r
    | some b => if r.before b then some r else some b) none

/-- From the SYNC to the end of the sweep's reads, unit `u` of the chain ports sends no frame of a core's chx at normal
or promoted level (R190). Unit 0 is the North port, which is the low end but for seat B. -/
def State.sweepHold (s : State) (u : Nat) : Bool :=
  let port := if s.get TDM_STAT.SEAT = 0 then u + 1 else 2 - u
  s.chn.inSync || s.chn.reads.any fun r => decide (r.port = port)

/-- A request may be granted now: a chain port holds back chx frames during a sweep, and a bleed channel that the curb
logic holds goes to the curb logic alone (R45, R190, R296). -/
def State.arbMay (s : State) (r : ArbReq) : Bool :=
  if r.post.cls = 0 then decide (r.level = 0) || !(s.sweepHold r.post.unit)
  else if r.post.cls = 3 then decide (r.post.req = 1) || !(s.curbHolds r.post.unit)
  else true

/-- One arbitration cycle over unit `u` of class `cls`: where free, it goes to the chosen request; the curb
logic takes a bleed channel that is not free (R45, R46) (log entry 20: DESIGN CHOICE). -/
def State.arbUnit (s : State) (cls u : Nat) : State :=
  let mine (p : ArbPost) : Bool := decide (p.cls = cls ∧ p.unit = u)
  let c := s.pad.requests.filter fun r => mine r.post
  if c.isEmpty then s
  else
    let free : Bool := !(s.pad.grants.any fun g => decide (g.cls = cls ∧ g.unit = u))
    let curb := c.find? fun r => cls = 3 ∧ r.post.req = 1
    let win := if free then arbFirst (c.filter s.arbMay) else curb
    let s := s.mapPad fun x => { x with
      requests := x.requests.filterMap fun r =>
        if mine r.post then (if some r = win then none else some { r with wait := r.wait + 1 }) else some r }
    match win with
    | none => s
    | some r => s.mapPad fun x => { x with
        grants := (x.grants.filter fun g => !(decide (g.cls = cls ∧ g.unit = u))) ++
          [⟨cls, u, r.post.req, r.post.index⟩] }

/-- The normal requests for which `p` holds and which have waited more than 64 cycles are promoted and
counted (R46). -/
def State.promoteAll (s : State) (p : ArbPost → Bool) : State :=
  let n := (s.pad.requests.filter fun r => p r.post && r.promote.2).length
  let reqs := s.pad.requests.map fun r => if p r.post then r.promote.1 else r
  (s.mapPad fun x => { x with requests := reqs }).bump PAD_PROMCNT.COUNT n

/-- The classes arbitrated on the core clock, and on the peripheral clock (Table ARC-19). -/
def arbClasses (core : Bool) : List Nat := if core then [5] else [0, 1, 2, 3, 4]

/-- An arbitration cycle of one clock: grants whose unit has ended are given up, new requests are posted,
waiting ones promoted, each free unit granted (log entry 20: DESIGN CHOICE). -/
def State.arbCycle (s : State) (core : Bool) (posts : List ArbPost) (ended : List ArbPost) : State :=
  let cls := arbClasses core
  let new := (posts.filter fun p => arbPostOk p && cls.contains p.cls).map fun p => ⟨p, s.arbLevel p, 0⟩
  let s := s.mapPad fun x => { x with
    grants := x.grants.filter fun g => !(ended.any fun e => decide (e.cls = g.cls ∧ e.unit = g.unit) && cls.contains e.cls)
    requests := x.requests ++ new }
  let s := s.promoteAll fun p => cls.contains p.cls
  cls.foldl (fun (s : State) c => (List.range (arbUnits c)).foldl (fun (s : State) u => s.arbUnit c u) s) s

/-! ### Paddock locks (R48-R51) -/

/-- The owner code of a core in PAD_LOCKOWN (Table ARC-24). -/
def ownCode (c : Core) : Nat := coreCode c + 1

/-- Lock `n` is held by core `c`. -/
def State.holdsLock (s : State) (c : Core) (n : Nat) : Bool := decide (s.get (PAD_LOCKOWN.OWN n) = ownCode c)

/-- Core `c` holds a lock. -/
def State.holdsAny (s : State) (c : Core) : Bool := (List.range 32).any fun n => s.holdsLock c n

/-- Lock `n` is free. -/
def State.lockFree (s : State) (n : Nat) : Bool := decide (s.get (PAD_LOCKOWN.OWN n) = 0)

/-- Lock `n` goes to core `c`. -/
def State.takeLock (s : State) (c : Core) (n : Nat) : State :=
  let t := s.nowUs
  (s.set (PAD_LOCKOWN.OWN n) (ownCode c)).mapPad fun x => { x with
    lockSince := mapSet 0 x.lockSince n t, lockRaised := clrBit x.lockRaised n }

/-- Lock `n` becomes free. -/
def State.freeLock (s : State) (n : Nat) : State :=
  (s.set (PAD_LOCKOWN.OWN n) 0).mapPad fun x => { x with
    lockSince := mapErase x.lockSince n, lockRaised := clrBit x.lockRaised n }

/-- A refused lock operation is recorded, with source 5 (R49). -/
def State.lockRefused (s : State) (c : Core) (n kind : Nat) : State :=
  (((s.set PAD_LOCKERR.CORE (coreCode c)).set PAD_LOCKERR.KIND kind).set PAD_LOCKERR.LOCK n).raise 5

/-- A request of lock `n` is out of order: the core holds a lock j with n ≤ j (R49). -/
def State.lockOrderBad (s : State) (c : Core) (n : Nat) : Bool :=
  (List.range 32).any fun j => s.holdsLock c j && decide (n ≤ j)

/-- Core `c` waits for lock `n`. -/
def State.waitsLock (s : State) (c : Core) (n : Nat) : Option Nat :=
  match (s.core c).run with
  | .lockWait k d => if k = n then some d else none
  | _ => none

/-- The cores in the order of Table ARC-20. -/
def coresByRank : List Core := [.r0, .r1, .grm]

/-- A core that is reset or powered down loses its locks and its pending requests (R51). -/
def State.dropLocks (s : State) (c : Core) : State :=
  let s := (List.range 32).foldl (fun (s : State) n => if s.holdsLock c n then s.freeLock n else s) s
  s.mapPad fun x => { x with requests := x.requests.filter fun r => r.post.req ≠ coreCode c + 2 }

/-- Lock `n` has been held longer than PAD_LOCKLIM: source 4, once for the holding (R50). -/
def State.lockLong (s : State) (n : Nat) : State :=
  if s.lockFree n ∨ s.get PAD_LOCKLIM.LIM = 0 ∨ bit s.pad.lockRaised n = true then s
  else (s.mapPad fun x => { x with lockRaised := setBit x.lockRaised n }).raise 4

/-- A write of PAD_LOCKLIM: every holding already longer raises source 4 at once (R50). -/
def State.lockLimit (s : State) (v : Nat) : State :=
  let s := s.set PAD_LOCKLIM.LIM v
  (List.range 32).foldl (fun (s : State) n =>
    if s.get PAD_LOCKLIM.LIM < s.nowUs - mapGet 0 s.pad.lockSince n then s.lockLong n else s) s

end Sys2Proof.Machine
end

