-- ==== Sys2Proof/Machine/Fio.lean ====
section
/-! DEFINITION. Field inputs and outputs: diagnostics, test windows, tied outputs, output watchdog, field
supplies, test sources, inputs and counters (R330-R349). -/

namespace Sys2Proof.Machine
open Sys2Proof Sys2Proof.Reg

/-- The addresses of the FIO configuration registers (R342, R349). -/
def fioConfig (a : Nat) : Bool :=
  (decide (0x600B0014 ≤ a ∧ a ≤ 0x600B001C)) || a == 0x600B0024 || a == 0x600B0030
    || (decide (0x600B0100 ≤ a ∧ a < 0x600B0140)) || (decide (0x600B0200 ≤ a ∧ a < 0x600B0250))
    || (decide (0x600B0270 ≤ a ∧ a < 0x600B0280))

/-- The field supply of output `n` is in range (Table FIO-1, R341). -/
def State.supplyOk (s : State) (n : Nat) : Bool :=
  if n < 8 then s.flag FIO_STAT.VF1_OK else s.flag FIO_STAT.VF2_OK

/-- A condition of Table FIO-3 on channel `n`: its bit and source 160 + n (R334). -/
def State.doDiag (s : State) (f : Fld) (n : Nat) : State := (s.put f true).raise (160 + n)

/-- Diagnostics of channel `n` are judged: powered, supply in range (R341, R342). -/
def State.diagOn (s : State) (n : Nat) : Bool := s.ioPowered && s.supplyOk n && decide (n < 16)

/-! ### Register actions -/

/-- A write of FIO_DOSET (R331, R336): a demand that turns off inside a light window ends the window. -/
def State.writeDoset (s : State) (v : Nat) : State :=
  let n := s.get FIO_STAT.TESTCH
  let was := s.bitOf FIO_DOSET.DO n
  let s := s.set FIO_DOSET.DO v
  let s := if s.flag FIO_STAT.TEST_BUSY ∧ s.fio.light = true ∧ was = true ∧ s.bitOf FIO_DOSET.DO n = false then
      s.put FIO_STAT.TEST_BUSY false else s
  s.redriveDoor

/-- FIO_CMD.WD_REARM: ends the expired state and restarts the timer (R340) (log entry 32: DEDUCED). -/
def State.wdRearm (s : State) : State :=
  if s.flag FIO_STAT.WD_EXP then
    let s := (s.put FIO_STAT.WD_EXP false).put FIO_STAT.WD_RUN true
    ({ s with fio := { s.fio with wdTicks := 0 } }).redriveDoor
  else s

/-- FIO_CMD.LS12_REL, LS13_REL: the hold ends where the high side reads low and is off (R339). -/
def State.lsRelease (s : State) (k : Nat) : State :=
  let hold := if k = 12 then FIO_STAT.LSHOLD12 else FIO_STAT.LSHOLD13
  if s.bitOf FIO_DOSTAT.RB k then s.put FIO_FLT.REL_REF true
  else if s.on k then s
  else s.put hold false

/-- A count that has become equal to FIO_CNTCMPk raises source 192 + k (R347). -/
def State.cntMatch (s : State) (k : Nat) : State :=
  if s.get (FIO_CNT.COUNT k) = s.fioGet (FIO_CNTCMP.CMP k) then s.raise (192 + k) else s

/-- FIO_CMD.CNTCLRk: counter 0, period unknown (R347). -/
def State.cntClr (s : State) (k : Nat) : State :=
  let was := s.get (FIO_CNT.COUNT k)
  let s := (s.set (FIO_CNT.COUNT k) 0).set (FIO_CNTPER.PER k) 0xFFFFFFFF
  let s := if was = 0 then s else s.cntMatch k
  { s with fio := { s.fio with cntSeen := clrBit s.fio.cntSeen k } }

/-- A write of FIO_CMD: every field at 1 acts. -/
def State.fioCmd (s : State) (v : Nat) : State :=
  let s := s.when (bit v 0) State.wdRearm
  let s := s.when (bit v 1) fun s => s.lsRelease 12
  let s := s.when (bit v 2) fun s => s.lsRelease 13
  (List.range 4).foldl (fun (s : State) k => s.when (bit v (8 + k)) fun s => s.cntClr k) s

/-- A write of FIO_WDKEY (R340); ignored while EN = 0 (log entry 32: DEDUCED). -/
def State.fioWdKey (s : State) (v : Nat) : State :=
  if s.fioGet FIO_WDCFG.EN = 0 then s
  else if v = 0x00005A17 then { s with fio := { s.fio with wdTicks := 0 } }
  else s.put FIO_FLT.WD_KEY true

/-! ### The control tick (R340, R346, R349) -/

/-- Does an edge to level `now` match EDGE code `e` of Table FIO-10 (inputs)? -/
def edgeMatch (e : Nat) (now : Bool) : Bool :=
  decide (e = 3) || (decide (e = 1) && now) || (decide (e = 2) && !now)

/-- The FIO part of a tick: held readback, edges of DI12 to DI15, the watchdog timer, configuration
writes taking effect. -/
def State.fioTick (s : State) (rb : Nat) : State :=
  let s := s.set FIO_DOSTAT.RB rb
  let s := (List.range 16).foldl (fun (s : State) n =>
    if s.flag (FIO_DOFLT.OFF_HIGH n) ∧ (s.on n = true ∨ bit rb n = false) then
      let s := s.put (FIO_DOFLT.OFF_HIGH n) false
      { s with fio := { s.fio with watch := clrBit s.fio.watch n } }
    else s) s
  let s : State := if s.ioPowered then
      (List.range 4).foldl (fun (s : State) k =>
        let now := s.bitOf FIO_DISTAT.RAW (12 + k)
        let e := s.fioGet (FIO_CNTCFG.EDGE k)
        if now ≠ bit s.fio.cntLevel k ∧ (e = 2 ∨ (e = 0 ∧ now = true) ∨ (e = 1 ∧ now = false)) then
          s.raise (188 + k)
        else s) s
    else s
  let eff := s.regs.filter fun e => fioConfig (e.1 / 32)
  let lv := bits (s.get FIO_DISTAT.RAW) 12 4
  let s := s.mapFio fun x => { x with cntLevel := lv, eff := eff, wdTicks := x.wdTicks + 1 }
  let run : Bool := decide (s.fioGet FIO_WDCFG.EN = 1) && s.ioPowered && !(s.flag FIO_STAT.WD_EXP)
  let s := s.when (run && !(s.flag FIO_STAT.WD_RUN)) fun s => s.mapFio fun x => { x with wdTicks := 0 }
  (s.put FIO_STAT.WD_RUN run).redrive

/-! ### Events -/

/-- PULLIN_END (R333): after FIO_ECOCFG.PULLIN the contactor output goes to economised hold where DOCFG.ECO
is 1. -/
def execPullinEnd (n : BitVec 4) (s : State) : Host.Outcome State Fault Refusal :=
  .next (if s.fioGet (FIO_DOCFG.ECO n.toNat) = 1 ∧
      mapGet 0 s.fio.pullAt n.toNat + 1000 * s.fioGet FIO_ECOCFG.PULLIN ≤ s.nowUs then
    { s with fio := { s.fio with pullin := clrBit s.fio.pullin n.toNat } } else s)

/-- OUTPUT_THERMAL_SHUTDOWN (R69, R334): DO0 to DO11 turn off, DO12 to DO15 latch off with source 12. -/
def execOutputThermalShutdown (n : BitVec 4) (s : State) : Host.Outcome State Fault Refusal :=
  let k := n.toNat
  let s := if k < 12 then { s with fio := { s.fio with ot := setBit s.fio.ot k } }
    else
      let f := if k = 12 then THM_LATCH.DO12 else if k = 13 then THM_LATCH.DO13
        else if k = 14 then THM_LATCH.DO14 else THM_LATCH.DO15
      (s.put f true).raise 12
  .next (s.doDiag (FIO_DOFLT.OT k) k).redrive

/-- OUTPUT_THERMAL_RESTART (R69, R334): DO0 to DO11 only; the others stay latched. -/
def execOutputThermalRestart (n : BitVec 4) (s : State) : Host.Outcome State Fault Refusal :=
  .next (({ s with fio := { s.fio with ot := clrBit s.fio.ot n.toNat } }).redrive)

/-- OUTPUT_OVERLOAD (Table FIO-3). -/
def execOutputOverload (n : BitVec 4) (s : State) : Host.Outcome State Fault Refusal :=
  .next (if s.diagOn n.toNat ∧ s.on n.toNat = true then s.doDiag (FIO_DOFLT.OVL n.toNat) n.toNat else s)

/-- OPEN_LOAD_OFF (Table FIO-3): off, OLOFF = 1; DO12 to DO14 only while the peer claim is absent. -/
def execOpenLoadOff (n : BitVec 4) (s : State) : Host.Outcome State Fault Refusal :=
  let k := n.toNat
  .next (if s.diagOn k ∧ s.on k = false ∧ s.fioGet (FIO_DOCFG.OLOFF k) = 1 ∧ s.testing k = false ∧
      (k < 12 ∨ k = 15 ∨ s.flag TDM_STAT.PEERCLAIM = false) then
    s.doDiag (FIO_DOFLT.OL_OFF k) k else s)

/-- OPEN_LOAD_ON (Table FIO-3): on, OLON = 1. -/
def execOpenLoadOn (n : BitVec 4) (s : State) : Host.Outcome State Fault Refusal :=
  let k := n.toNat
  .next (if s.diagOn k ∧ s.on k = true ∧ s.fioGet (FIO_DOCFG.OLON k) = 1 ∧ s.testing k = false then
    s.doDiag (FIO_DOFLT.OL_ON k) k else s)

/-- OFF_HIGH (R338): the partner of DO12 or DO13 is held open and watching starts. -/
def execOffHigh (n : BitVec 4) (s : State) : Host.Outcome State Fault Refusal :=
  let k := n.toNat
  .next (if s.diagOn k ∧ s.on k = false ∧ s.testing k = false ∧
      s.flag (FIO_DOFLT.OFF_HIGH k) = false then
    let s := (s.setBitOf FIO_DOSTAT.RB k).doDiag (FIO_DOFLT.OFF_HIGH k) k
    let s := if k = 12 then s.put FIO_STAT.LSHOLD12 true
      else if k = 13 then s.put FIO_STAT.LSHOLD13 true else s
    let t := s.nowUs
    s.mapFio fun x => { x with watch := setBit x.watch k, watchAt := mapSet 0 x.watchAt k t }
  else s)

/-- TEST_WINDOW_START (R335, R337): the window runs, or is discarded when it coincides with a running
window or, where `ts`, with the dark pulse of an enabled test source. -/
def execTestWindowStart (n : BitVec 4) (light ts : Bool) (s : State) : Host.Outcome State Fault Refusal :=
  let k := n.toNat
  let key := 2 * k + b2n light
  let due := s.diagOn k && !(s.held k) &&
    (if light then decide (k < 15) && decide (s.fioGet (FIO_DOCFG.LTEST k) = 1) && !(s.on k)
      else decide (s.fioGet (FIO_DOCFG.DTEST k) = 1) && s.bitOf FIO_DOSET.DO k)
  .next (if due = false then s
    else if s.flag FIO_STAT.TEST_BUSY ∨ ts = true then
      let d := mapGet 0 s.fio.discards key + 1
      let s := { s with fio := { s.fio with discards := mapSet 0 s.fio.discards key d } }
      if 3 ≤ d then s.put (FIO_DOFLT.TPSTARVE k) true else s
    else
      let pull := s.fio.pullin
      let w := if light then s.fioGet FIO_TPCFG.LW else s.fioGet FIO_TPCFG.DW
      let s := s.mapFio fun x => { x with light := light, width := w }
      let s := ((s.put FIO_STAT.TEST_BUSY true).set FIO_STAT.TESTCH k).redrive
      if light then s else s.mapFio fun x => { x with pullin := pull })

/-- Channel `j` is found tied to `m` (R338). -/
def State.tie (s : State) (j m : Nat) : State :=
  (s.put (FIO_DOFLT.TIED j) true).set (FIO_DOFLT.TIEDWITH j) m

/-- The window of channel `m` is judged (R334, R338, Table FIO-3); `low` and `high` tell which direct readbacks
were low, high, at every sample of its last 20 µs. -/
def State.judgeWindow (s : State) (m : Nat) (low high : BitVec 16) : State :=
  let light : Bool := s.fio.light
  let key := 2 * m + b2n light
  let follows (j : Nat) : Bool := if light then high.getLsbD j else low.getLsbD j
  let f := if light then FIO_DOFLT.LIGHT_FAIL m else FIO_DOFLT.DARK_FAIL m
  let s : State := if follows m then s.mapFio fun x => { x with failing := clrBit x.failing key }
    else
      let s := if bit s.fio.failing key then s.put f true else s.doDiag f m
      s.mapFio fun x => { x with failing := setBit x.failing key }
  let s := (List.range 16).foldl (fun (s : State) j =>
    if j ≠ m ∧ bit s.fio.watch j = true ∧ s.flag (FIO_DOFLT.OFF_HIGH j) ∧ s.on j = false ∧ follows j = true then
      let s := s.tie j m
      let s := if s.flag (FIO_DOFLT.OFF_HIGH m) ∨ s.flag (FIO_DOFLT.DARK_FAIL m) then s.tie m j else s
      s.mapFio fun x => { x with watch := clrBit x.watch j }
    else s) s
  s.mapFio fun x => { x with discards := mapSet 0 x.discards key 0 }

/-- TEST_WINDOW_END (R335, R336, R338): the window is judged, unless its supply has fallen low (R341), and the
channel returns to its demand. A dark window of 100 µs or less restarts no pull-in (R333). -/
def execTestWindowEnd (low high : BitVec 16) (s : State) : Host.Outcome State Fault Refusal :=
  let m := s.get FIO_STAT.TESTCH
  .next (if s.flag FIO_STAT.TEST_BUSY = false then s
    else
      let s := if s.diagOn m then s.judgeWindow m low high else s
      let pull := s.fio.pullin
      let at_ := s.fio.pullAt
      let s : State := (s.put FIO_STAT.TEST_BUSY false).redrive
      if !s.fio.light && decide (s.fio.width ≤ 10) then
        s.mapFio fun x => { x with pullin := pull &&& s.get FIO_DOSTAT.ON, pullAt := at_ }
      else s)

/-- TIED_WATCH_EXPIRY (R338): a full PERIOD of watching without a follow. -/
def execTiedWatchExpiry (n : BitVec 4) (s : State) : Host.Outcome State Fault Refusal :=
  let k := n.toNat
  .next (if bit s.fio.watch k = true ∧ s.flag (FIO_DOFLT.OFF_HIGH k) ∧
      mapGet 0 s.fio.watchAt k + 1000 * s.fioGet FIO_TPCFG.PERIOD ≤ s.nowUs then
    let s := s.put (FIO_DOFLT.STUCK_ON k) true
    { s with fio := { s.fio with watch := clrBit s.fio.watch k } }
  else s)

/-- FIO_WATCHDOG_EXPIRY (R340): acts once the running timer has reached TMO. -/
def execFioWatchdogExpiry (s : State) : Host.Outcome State Fault Refusal :=
  .next (if s.flag FIO_STAT.WD_RUN ∧ 10 * s.fioGet FIO_WDCFG.TMO ≤ s.fio.wdTicks then
    let s := ((s.put FIO_STAT.WD_RUN false).put FIO_STAT.WD_EXP true).put FIO_FLT.WD_EXP true
    let s := { s with fio := { s.fio with wdDemand := s.get FIO_DOSET.DO } }
    (s.raise 199).redrive
  else s)

/-- VF_LOW (R341, R342): `second` names VF2. -/
def execVfLow (second : Bool) (s : State) : Host.Outcome State Fault Refusal :=
  .next (if s.ioPowered = false then s
    else (if second then (s.put FIO_STAT.VF2_OK false).put FIO_FLT.VF2_LOW true
      else (s.put FIO_STAT.VF1_OK false).put FIO_FLT.VF1_LOW true).raise 198)

/-- VF_RECOVER (R341, R342). -/
def execVfRecover (second : Bool) (s : State) : Host.Outcome State Fault Refusal :=
  .next (s.when s.ioPowered fun s => s.put (if second then FIO_STAT.VF2_OK else FIO_STAT.VF1_OK) true)

/-- The filtered state of input `n` takes `now`; a selected edge raises source 176 + n (R346). -/
def State.filterTakes (s : State) (n : Nat) (now : Bool) : State :=
  let was := s.bitOf FIO_DISTAT.FILT n
  let s := s.set FIO_DISTAT.FILT (putBit (s.get FIO_DISTAT.FILT) n now)
  if now ≠ was ∧ edgeMatch (s.fioGet (FIO_DICFG.EDGE n)) now = true then s.raise (176 + n) else s

/-- TEST_SOURCE_PULSE (R343, R344): `high` holds the raw samples of DI0 to DI11 at the centre of test
source k's dark pulse. A cross short clears the filtered state (log entry 128: DEDUCED). -/
def execTestSourcePulse (k : BitVec 2) (high : BitVec 12) (s : State) : Host.Outcome State Fault Refusal :=
  .next (if s.ioPowered = true ∧ bit (s.fioGet FIO_TSCFG.EN) k.toNat = true ∧
      bit s.fio.tsOff k.toNat = false then
    (List.range 12).foldl (fun (s : State) n =>
      if s.fioGet (FIO_DICFG.TSEN n) = 1 ∧ s.fioGet (FIO_DICFG.TSSEL n) = k.toNat then
        if high.getLsbD n then
          let c := mapGet 0 s.fio.xs n + 1
          let s := { s with fio := { s.fio with xs := mapSet 0 s.fio.xs n (min c 2) } }
          if c = 2 then
            let s := ((s.setBitOf FIO_DIFLT.XSHORT n).raise 197).filterTakes n false
            { s with fio := { s.fio with xsForce := setBit s.fio.xsForce n } }
          else s
        else { s with fio := { s.fio with
          xs := mapSet 0 s.fio.xs n 0, xsForce := clrBit s.fio.xsForce n } }
      else s) s
  else s)

/-- TEST_SOURCE_OVERLOAD (R343): of an enabled source that is not off. -/
def execTestSourceOverload (k : BitVec 2) (s : State) : Host.Outcome State Fault Refusal :=
  .next (if s.ioPowered = true ∧ bit (s.fioGet FIO_TSCFG.EN) k.toNat = true ∧
      bit s.fio.tsOff k.toNat = false then
    ((s.setBitOf FIO_FLT.TS_OVL k.toNat).raise 197).mapFio fun x => { x with tsOff := setBit x.tsOff k.toNat }
  else s)

/-- TEST_SOURCE_RETRY (R343). -/
def execTestSourceRetry (k : BitVec 2) (s : State) : Host.Outcome State Fault Refusal :=
  .next { s with fio := { s.fio with tsOff := clrBit s.fio.tsOff k.toNat } }

/-- DI_SAMPLE (R344, R347): the raw state; DI12 to DI15 have no filter. The filter of the others counts from the
sample at which the raw state came to differ from the filtered one. -/
def execDiSample (n : BitVec 4) (level : Bool) (s : State) : Host.Outcome State Fault Refusal :=
  let k := n.toNat
  .next (if s.ioPowered = false then s
    else
      let was := s.bitOf FIO_DISTAT.RAW k
      let s := s.set FIO_DISTAT.RAW (putBit (s.get FIO_DISTAT.RAW) k level)
      if 12 ≤ k then s.set FIO_DISTAT.FILT (putBit (s.get FIO_DISTAT.FILT) k level)
      else if was ≠ level ∧ level ≠ s.bitOf FIO_DISTAT.FILT k then
        let t := s.nowUs
        s.mapFio fun x => { x with rawAt := mapSet 0 x.rawAt k t }
      else s)

/-- Filter time of input `k` in µs: FILT × 0.1 ms, in whole milliseconds with a minimum of 1 ms where the input is
sampled in pulses (R344, R345). -/
def State.filterUs (s : State) (k : Nat) : Nat :=
  let f := s.fioGet (FIO_DICFG.FILT k)
  if s.fioGet (FIO_DICFG.PULSED k) = 1 then 1000 * max 1 ((f + 9) / 10) else 100 * f

/-- DI_FILTER_CHANGE (R344, R346): the filtered state of DI0 to DI11 takes a raw state that has differed from it for
the filter time, and a selected edge raises source 176 + n. -/
def execDiFilterChange (n : BitVec 4) (s : State) : Host.Outcome State Fault Refusal :=
  let k := n.toNat
  let now := s.bitOf FIO_DISTAT.RAW k && !(bit s.fio.xsForce k)
  .next (if s.ioPowered = false ∨ 12 ≤ k ∨ now = s.bitOf FIO_DISTAT.FILT k ∨
      s.nowUs < mapGet 0 s.fio.rawAt k + s.filterUs k then s
    else s.filterTakes k now)

/-- DI_WAKE_CHANGE (R346): wake source 4, in the gaits and transitions in which one counts (R60, R62). -/
def execDiWakeChange (n : BitVec 4) (s : State) : Host.Outcome State Fault Refusal :=
  .next (if s.bitOf FIO_DIWAKE.DI n.toNat = true then s.wake 4 else s)

/-- COUNTER_EDGE (R347): an edge of DI(12 + k), `dt` 10 ns steps after the last counted one. -/
def execCounterEdge (k : BitVec 2) (rising : Bool) (dt : Nat) (s : State) :
    Host.Outcome State Fault Refusal :=
  let i := k.toNat
  let e := s.fioGet (FIO_CNTCFG.EDGE i)
  .next (if s.ioPowered = true ∧ (e = 2 ∨ (e = 0 ∧ rising = true) ∨ (e = 1 ∧ rising = false)) then
    let s := s.set (FIO_CNT.COUNT i) (s.get (FIO_CNT.COUNT i) + 1)
    let s := if bit s.fio.cntSeen i then s.set (FIO_CNTPER.PER i) (min dt 0xFFFFFFFE) else s
    let t := s.nowUs
    let s := s.mapFio fun x => { x with
      cntSeen := setBit x.cntSeen i, cntTimed := clrBit x.cntTimed i, cntAt := mapSet 0 x.cntAt i t }
    s.cntMatch i
  else s)

/-- COUNTER_PERIOD_TIMEOUT (R347): no counted edge for PTMO. -/
def execCounterPeriodTimeout (k : BitVec 2) (s : State) : Host.Outcome State Fault Refusal :=
  let i := k.toNat
  .next (if s.ioPowered = false ∨ bit s.fio.cntTimed i = true ∨
      s.nowUs < mapGet 0 s.fio.cntAt i + 1000 * s.fioGet (FIO_CNTCFG.PTMO i) then s
    else
      let s := (s.set (FIO_CNTPER.PER i) 0xFFFFFFFF).raise 196
      { s with fio := { s.fio with cntTimed := setBit s.fio.cntTimed i } })

end Sys2Proof.Machine
end

