-- ==== Sys2Proof/Machine/GgnOps.lean ====
section
/-! DEFINITION. The gait generator: the planners of R312, R315, R316 and R321 in units of control ticks,
and the tick of R310. -/

namespace Sys2Proof.Machine
open Sys2Proof Sys2Proof.Reg

/-! ### Arithmetic of the planners -/

/-- One bit of `descend`. -/
def descendStep (p : Nat → Bool) (acc : Nat) (b : Nat) : Nat :=
  if p (acc + 2 ^ b) then acc else acc + 2 ^ b

/-- The least number at which the rising predicate `p` holds (0 to 2^`w`). -/
def leastN (w : Nat) (p : Nat → Bool) : Nat :=
  if p 0 then 0 else (List.range w).reverse.foldl (descendStep p) 0 + 1

/-- The ceiling of a rational, 0 where it is negative. -/
def ceilN (q : Rat) : Nat := (-((-q).floor)).toNat

/-- A square root with 32 fractional bits, rounded down; 0 below 0 (log entry 80: DESIGN CHOICE). -/
def ratSqrt (q : Rat) : Rat :=
  let n := (q * ((2 ^ 64 : Nat) : Rat)).floor.toNat
  ((Nat.sqrt n : Nat) : Rat) / ((2 ^ 32 : Nat) : Rat)

/-- The durations Tj, Tc, Tv of R312 in whole ticks for a distance `d` > 0 (log entry 80: DESIGN CHOICE). -/
def ggnTimes (d V A J : Rat) : Nat × Nat × Nat :=
  let flat : Bool := decide (A * A ≤ V * J)
  -- V * (2 Tj + Tc) for the unlowered V
  let tj : Nat := if flat then ceilN (A / J) else leastN 64 fun n => decide (V ≤ (n * n : Nat) * J)
  let reach : Bool := if flat then decide (V * (A / J + V / A) ≤ d)
    else decide (4 * V * V * V ≤ d * d * J)
  if reach then
    let tc : Nat := if flat then ceilN (V / A - A / J) else 0
    let tv : Nat := if flat then ceilN (d / V - (A / J + V / A))
      else leastN 64 fun n =>
        let r : Rat := d / V - (n : Rat)
        decide (r ≤ 0) || decide (r * r * J ≤ 4 * V)
    (tj, tc, tv)
  else if decide (A * A ≤ V * J) && decide (2 * A * A * A ≤ d * J * J) then
    (ceilN (A / J), leastN 64 (fun n =>
      let x : Rat := 2 * (n : Rat) + 3 * (A / J)
      decide ((A * A) / (J * J) + 4 * d / A ≤ x * x)), 0)
  else (leastN 64 (fun n => decide (d ≤ 2 * J * ((n * n * n : Nat) : Rat))), 0, 0)

/-- The seven segments of a move from rest over the signed distance `d` (R312) (log entry 80: DESIGN CHOICE). -/
def ggnMoveSegs (d V A J : Rat) : List GgnSeg :=
  let m : Rat := if d < 0 then -d else d
  let t := ggnTimes m V A J
  let tj := max 1 t.1
  let x : Rat := (tj : Rat) * ((tj + t.2.1 : Nat) : Rat) * ((2 * tj + t.2.1 + t.2.2 : Nat) : Rat)
  let j : Rat := d / x
  [⟨tj, j⟩, ⟨t.2.1, 0⟩, ⟨tj, -j⟩, ⟨t.2.2, 0⟩, ⟨tj, -j⟩, ⟨t.2.1, 0⟩, ⟨tj, j⟩]

/-- The ticks of a plan. -/
def ggnLen (l : List GgnSeg) : Nat := l.foldl (fun n e => n + e.n) 0

/-- Durations, in ticks, of the stop of R315 from `v` ≥ 0 and `a` taken in the direction of the stop:
jerk to the peak, hold, jerk to rest. -/
def stopTimes (v a S J : Rat) : Nat × Nat × Nat :=
  let qq : Rat := J * v + a * a / 2
  if a < -S then
    (ceilN ((-S - a) / J), ceilN ((v - a * a / (2 * J)) / S), ceilN (S / J))
  else if decide (qq ≤ S * S) then
    let b := ratSqrt qq
    (ceilN ((a + b) / J), 0, ceilN (b / J))
  else (ceilN ((a + S) / J), ceilN ((v + a * a / (2 * J) - S * S / J) / S), ceilN (S / J))

/-- The direction in which a stop from `v` and `a` ends its motion: -1 where the velocity turns. -/
def stopSign (v a J : Rat) : Rat :=
  let aa : Rat := if a < 0 then -a else a
  if v + a * aa / (2 * J) < 0 then -1 else 1

/-- The segments that carry `v`, `a` to rest over the durations `t`, with the jerks that end exactly. -/
def stopOver (v a : Rat) (t : Nat × Nat × Nat) : List GgnSeg :=
  let n1 := max 1 t.1
  let n3 := max 1 t.2.2
  let b : Rat := (v + (n1 : Rat) * a / 2) / ((n1 : Rat) / 2 + (t.2.1 : Rat) + (n3 : Rat) / 2)
  [⟨n1, (-b - a) / (n1 : Rat)⟩, ⟨t.2.1, 0⟩, ⟨n3, b / (n3 : Rat)⟩]

/-- The stop of R315 from velocity `v` and acceleration `a` per tick. -/
def ggnStopSegs (v a S J : Rat) : List GgnSeg :=
  let g := stopSign v a J
  stopOver v a (stopTimes (g * v) (g * a) S J)

/-- Distance, velocity and acceleration after `n` ticks of jerk `j`. -/
def afterSeg (x : Rat × Rat × Rat) (e : GgnSeg) : Rat × Rat × Rat :=
  let n : Rat := (e.n : Rat)
  (x.1 + x.2.1 * n + x.2.2 * n * n / 2 + e.jerk * n * n * n / 6, x.2.1 + x.2.2 * n + e.jerk * n * n / 2,
    x.2.2 + e.jerk * n)

/-- Distance a plan covers from velocity `v` and acceleration `a`. -/
def segsDist (v a : Rat) (l : List GgnSeg) : Rat := (l.foldl afterSeg (0, v, a)).1

/-- Exact real durations of the change from `v`, `a` to the velocity `c` at no acceleration, and the peak
acceleration: jerk, hold, jerk. -/
def changeTimes (v a c S J : Rat) : Rat × Rat × Rat × Rat :=
  let g : Rat := -(stopSign (v - c) a J)
  let dv := g * (c - v)
  let a1 := g * a
  if S < a1 then ((a1 - S) / J, (dv - a1 * a1 / (2 * J)) / S, S / J, g * S)
  else
    let qq : Rat := J * dv + a1 * a1 / 2
    if decide (qq ≤ S * S) then
      let b := ratSqrt qq
      ((b - a1) / J, 0, b / J, g * b)
    else ((S - a1) / J, (dv + a1 * a1 / (2 * J) - S * S / J) / S, S / J, g * S)

/-- Distance covered by the change of `changeTimes`. -/
def changeDist (v a c S J : Rat) : Rat :=
  let t := changeTimes v a c S J
  let al := t.2.2.2
  let v1 := v + (a + al) / 2 * t.1
  let v2 := v1 + al * t.2.1
  (v * t.1 + (2 * a + al) * t.1 * t.1 / 6) + (v1 + v2) / 2 * t.2.1
    + (v2 * t.2.2.1 + al * t.2.2.1 * t.2.2.1 / 3)

/-- Distance the stop of R315 needs from `v` and `a`, signed. -/
def stopDist (v a S J : Rat) : Rat := changeDist v a 0 S J

/-- Two linear unknowns: the plan over the durations `n` whose peaks `al` and `be` make it cover exactly
`r` and end at rest; distance and velocity are linear in the peaks. -/
def planOver (v a r : Rat) (n1 n2 n3 n4 n5 n6 n7 : Nat) : List GgnSeg :=
  let q (n : Nat) : Rat := (n : Rat)
  let A1 : Rat := q n1 / 2 + q n2 + q n3 / 2
  let B1 : Rat := q n5 / 2 + q n6 + q n7 / 2
  let segs (be : Rat) : List GgnSeg :=
    let al : Rat := (be * B1 - v - q n1 * a / 2) / A1
    [⟨n1, (al - a) / q n1⟩, ⟨n2, 0⟩, ⟨n3, -al / q n3⟩, ⟨n4, 0⟩, ⟨n5, -be / q n5⟩, ⟨n6, 0⟩, ⟨n7, be / q n7⟩]
  let f0 := segsDist v a (segs 0)
  let f1 := segsDist v a (segs 1)
  segs ((r - f0) / (f1 - f0))

/-- The time-shortest plan from `v`, `a` (per tick) over the signed distance `r` to rest, quantised to
whole ticks (R316, R321; log entry 80: DESIGN CHOICE). -/
def ggnPlanTo (r v a V S J : Rat) : List GgnSeg :=
  let past := r - stopDist v a S J
  if past = 0 then ggnStopSegs v a S J
  else
    let g : Rat := if past < 0 then -1 else 1
    let v1 := g * v
    let a1 := g * a
    let r1 := g * r
    let need (c : Rat) : Rat := changeDist v1 a1 c S J + stopDist c 0 S J
    let full : Bool := decide (need V ≤ r1)
    let c : Rat := if full then V
      else ((leastN 40 (fun n => decide (r1 < need (V * (n : Rat) / ((2 ^ 40 : Nat) : Rat)))) - 1 : Nat) : Rat)
        * V / ((2 ^ 40 : Nat) : Rat)
    let up := changeTimes v1 a1 c S J
    let dn := changeTimes c 0 0 S J
    let hold : Nat := if full then ceilN ((r1 - need V) / V) else 0
    planOver v a r (max 1 (ceilN up.1)) (ceilN up.2.1) (max 1 (ceilN up.2.2.1)) hold
      (max 1 (ceilN dn.1)) (ceilN dn.2.1) (max 1 (ceilN dn.2.2.1))

/-! ### Axes and their limits -/

/-- Axis states (Table GGN-8). -/
def Ggn.idle : Nat := 0
def Ggn.move : Nat := 1
def Ggn.stopping : Nat := 2
def Ggn.pursuit : Nat := 3
def Ggn.safe : Nat := 4
def Ggn.fault : Nat := 5

/-- Axis `n`. -/
def State.axis (s : State) (n : Nat) : GgnAxis := mapGet GgnAxis.reset s.ggn.axes n

/-- `s` with axis `n` changed by `g`. -/
def State.mapAxis (s : State) (n : Nat) (g : GgnAxis → GgnAxis) : State :=
  let x := g (s.axis n)
  s.mapGgn fun y => { y with axes := mapSet GgnAxis.reset y.axes n x }

/-- The state of axis `n`. -/
def State.ggnMode (s : State) (n : Nat) : Nat := s.get (GGN_xSTAT.STATE n)

/-- `s` with axis `n` in state `m`. -/
def State.setMode (s : State) (n m : Nat) : State := s.set (GGN_xSTAT.STATE n) m

/-- Control ticks per unit of time: 10 in a ms (D), 10,000 in a s (E). -/
def ggnK (n : Nat) : Nat := if n = 0 then 10 else 10000

/-- One position unit of the fixed-point values (R310). -/
def ggnOne : Int := 16777216

/-- The limit registers per tick: velocity, acceleration, jerk (Table GGN-1). -/
def State.ggnLim (s : State) (n : Nat) : Rat × Rat × Rat :=
  let k : Rat := (ggnK n : Rat)
  let sc : Rat := if n = 0 then 65536 else 1
  ((s.get (GGN_xVMAX.VAL n) : Rat) / 65536 / k, (s.get (GGN_xAMAX.VAL n) : Rat) / sc / (k * k),
    (s.get (GGN_xJMAX.VAL n) : Rat) / sc / (k * k * k))

/-- The stop profile: xSACC and xSJRK, or `A` and `J` where they are 0 (R315). -/
def State.ggnStopLim (s : State) (n : Nat) (A J : Rat) : Rat × Rat :=
  let k : Rat := (ggnK n : Rat)
  let sc : Rat := if n = 0 then 65536 else 1
  let sa := s.get (GGN_xSACC.VAL n)
  let sj := s.get (GGN_xSJRK.VAL n)
  (if sa = 0 then A else (sa : Rat) / sc / (k * k), if sj = 0 then J else (sj : Rat) / sc / (k * k * k))

/-- Present velocity per tick. -/
def GgnAxis.vt (x : GgnAxis) (n : Nat) : Rat := (x.v : Rat) / (ggnOne : Rat) / (ggnK n : Rat)

/-- Present acceleration per tick squared. -/
def GgnAxis.at_ (x : GgnAxis) (n : Nat) : Rat :=
  (x.a : Rat) / (ggnOne : Rat) / ((ggnK n : Rat) * (ggnK n : Rat))

/-- The bounds of axis D (R320). -/
def State.ggnLo (s : State) : Int := sgn 32 (s.get EST_ISTRDC.MA)
def State.ggnHi (s : State) : Int := sgn 32 (s.get EST_ISTRCH.MA)

/-- The axis takes the plan `l`, whose motion is towards negative positions where `neg`. -/
def GgnAxis.plan (x : GgnAxis) (neg : Bool) (l : List GgnSeg) : GgnAxis := { x with segs := l, ran := 0, neg := neg }

/-- Direction of the present motion: true where the velocity, or at rest the acceleration, is negative. -/
def GgnAxis.backward (x : GgnAxis) : Bool := decide (x.v < 0) || (decide (x.v = 0) && decide (x.a < 0))

/-- The axis runs a linked move. -/
def GgnAxis.linked (x : GgnAxis) (id : Nat) : Bool :=
  match x.link with
  | some l => decide (l.id = id)
  | none => false

/-- The axis follows another one's plan. -/
def GgnAxis.follower (x : GgnAxis) (n : Nat) : Bool :=
  match x.link with
  | some l => decide (l.leader ≠ n)
  | none => false

/-- Axis `n` comes to rest in IDLE; source 200 with an empty queue. -/
def State.ggnIdle (s : State) (n : Nat) : State :=
  let s := (s.setMode n Ggn.idle).mapAxis n fun x =>
    { x with v := 0, a := 0, segs := [], target := none, link := none, pursuit := none, pursued := none }
  s.when (s.axis n).queue.isEmpty fun s => s.raise 200

/-- Stop of one axis by itself from its present state (R315). -/
def State.ggnOwnStop (s : State) (n : Nat) : State :=
  let x := s.axis n
  let l := s.ggnStopLim n x.limA x.limJ
  let segs := ggnStopSegs (x.vt n) (x.at_ n) l.1 l.2
  (s.setMode n Ggn.stopping).mapAxis n fun x =>
    { x.plan x.backward segs with target := none, link := none }

/-- The linked move `id` breaks: the other members stop, each on its own profile (R319). -/
def State.ggnBreak (s : State) (n : Nat) : State :=
  match (s.axis n).link with
  | none => s
  | some l =>
    let s := (List.range 4).foldl (fun (s : State) i =>
      if (s.axis i).linked l.id then
        let s := s.put (GGN_xFLT.GRPBRK i) true
        if i = n then s else s.ggnOwnStop i
      else s) s
    (s.mapAxis n fun x => { x with link := none }).raise 206

/-- CMD.STOP on axis `n` in MOVE: its own stop, or the common stop of its linked move (R315, R319). -/
def State.ggnStop (s : State) (n : Nat) : State :=
  if s.ggnMode n ≠ Ggn.move then s
  else
    match (s.axis n).link with
    | none => s.ggnOwnStop n
    | some l =>
      let own (i : Nat) : Nat × Nat × Nat :=
        let x := s.axis i
        let lim := s.ggnStopLim i x.limA x.limJ
        let g := stopSign (x.vt i) (x.at_ i) lim.2
        let t := stopTimes (g * x.vt i) (g * x.at_ i) lim.1 lim.2
        (max 1 t.1, t.2.1, max 1 t.2.2)
      let total (t : Nat × Nat × Nat) : Nat := t.1 + t.2.1 + t.2.2
      let members := (List.range 4).filter fun i => (s.axis i).linked l.id
      let longest := members.foldl (fun k i => max k (total (own i))) 0
      let t := own l.leader
      let x := s.axis l.leader
      let segs := stopOver (x.vt l.leader) (x.at_ l.leader) (t.1, t.2.1 + (longest - total t), t.2.2)
      let s := s.mapAxis l.leader fun x => x.plan x.backward segs
      members.foldl (fun (s : State) i =>
        (s.setMode i Ggn.stopping).mapAxis i fun x => { x with target := none }) s

/-! ### One tick -/

/-- One tick of the present segment: exact integration from its start with its jerk, every product rounded down in the
direction of the plan, which is applied afterwards (R310, R312; log entry 80: DESIGN CHOICE). -/
def GgnAxis.integrate (x : GgnAxis) (n : Nat) : GgnAxis :=
  match x.segs with
  | [] => x
  | e :: rest =>
    let x := if x.ran = 0 then { x with p0 := x.p, v0 := x.v, a0 := x.a } else x
    let t : Rat := ((x.ran + 1 : Nat) : Rat)
    let k : Rat := (ggnK n : Rat)
    let dir (q : Rat) : Int := if x.neg then -((-q).floor) else q.floor
    let j : Rat := e.jerk * (ggnOne : Rat)
    let p := x.p0 + dir ((x.v0 : Rat) * t / k) + dir ((x.a0 : Rat) * t * t / (2 * k * k)) + dir (j * t * t * t / 6)
    let v := x.v0 + dir ((x.a0 : Rat) * t / k) + dir (j * k * t * t / 2)
    let a := x.a0 + dir (j * k * k * t)
    if e.n ≤ x.ran + 1 then
      { x with p := p, v := v, a := a, ran := 0, segs := rest.dropWhile fun e => decide (e.n = 0) }
    else { x with p := p, v := v, a := a, ran := x.ran + 1 }

/-- A follower on the line of its leader (R318). -/
def GgnAxis.follow (x : GgnAxis) (n : Nat) (l : GgnLink) (y : GgnAxis) : GgnAxis :=
  if l.dL = 0 then x
  else
    let ratio : Rat := (l.d : Rat) / (l.dL : Rat)
    let k : Rat := (ggnK n : Rat) / (ggnK l.leader : Rat)
    { x with
      p := l.p0 + (ratio * ((y.p - l.p0L : Int) : Rat)).floor
      v := (ratio * k * (y.v : Rat)).floor
      a := (ratio * k * k * (y.a : Rat)).floor }

/-- Is the plan that carries axis `n` at its end? -/
def State.ggnEnded (s : State) (n : Nat) : Bool :=
  let x := s.axis n
  match x.link with
  | some l => (s.axis l.leader).segs.isEmpty
  | none => x.segs.isEmpty

/-- The axes advance one tick: leaders and single axes first, then followers (R310, R318). -/
def State.ggnIntegrate (s : State) : State :=
  let moving (s : State) (n : Nat) : Bool := decide (1 ≤ s.ggnMode n ∧ s.ggnMode n ≤ 3)
  let s := (List.range 4).foldl (fun (s : State) n =>
    if moving s n && !((s.axis n).follower n) then s.mapAxis n fun x => x.integrate n else s) s
  (List.range 4).foldl (fun (s : State) n =>
    if moving s n && (s.axis n).follower n then
      match (s.axis n).link with
      | some l =>
        let y := s.axis l.leader
        s.mapAxis n fun x => x.follow n l y
      | none => s
    else s) s

/-- Moves, stops and pursuits that end in this tick (R312, R328); the axes concerned. -/
def State.ggnArrive (s : State) : State × List Nat :=
  let ends := (List.range 4).filter fun n =>
    decide (1 ≤ s.ggnMode n ∧ s.ggnMode n ≤ 3) && s.ggnEnded n
      && (decide (s.ggnMode n ≠ Ggn.pursuit) || decide ((s.axis n).pursued = (s.axis n).pursuit))
  let s := ends.foldl (fun (s : State) n =>
    let s := s.mapAxis n fun x =>
      match (if s.ggnMode n = Ggn.move then x.target
        else if s.ggnMode n = Ggn.pursuit then x.pursued else none) with
      | some t => { x with p := t * ggnOne }
      | none => x
    s) s
  (ends.foldl (fun (s : State) n => s.ggnIdle n) s, ends)

/-- Axis D leaves SAFE for IDLE at 0 (R323); by the safety reset that brings the curb to READY. -/
def State.ggnLeaveSafe (s : State) : State :=
  if s.ggnMode 0 = Ggn.safe then (s.mapAxis 0 fun x => { x with p := 0 }).ggnIdle 0 else s

/-- Axis D enters SAFE at position `p`, or goes on along the ramp (R323). -/
def State.ggnSafe (s : State) : State :=
  let stop := s.crb.dStop
  if stop = 0 then
    if s.ggnMode 0 = Ggn.safe then
      let x := s.axis 0
      let t := x.safeT + 1
      let ramp := 10 * bits (s.get (CRB_SCFG.WORD 1)) 0 16
      let p : Int := if ramp ≤ t then 0 else x.safeP0 * ((ramp - t : Nat) : Int) / (ramp : Int)
      let s := s.mapAxis 0 fun x => { x with p := p, safeT := t }
      s.when (decide (x.p ≠ 0 ∧ p = 0)) fun s => s.raise 204
    else s
  else
    let s := s.mapCrb fun x => { x with dStop := 0 }
    let was := s.ggnMode 0
    if stop = 3 then s.ggnLeaveSafe
    else if was = Ggn.safe ∧ stop = 1 then s
    else
      let s := s.ggnBreak 0
      let p0 : Int := if stop = 2 then 0 else (s.axis 0).p
      let old := (s.axis 0).p
      let s := (s.setMode 0 Ggn.safe).mapAxis 0 fun x =>
        { x with p := p0, safeP0 := p0, safeT := 0, v := 0, a := 0, segs := [], target := none
                 queue := [], staged := none, link := none, pursuit := none, pursued := none }
      s.when (decide (p0 = 0) && !(decide (was = Ggn.safe) && decide (old = 0))) fun s => s.raise 204

/-- Axis D against its bounds as sampled: PURSUIT begins, or its target moves inwards (R321). -/
def State.ggnBounds (s : State) (lo hi : Int) : State :=
  let x := s.axis 0
  let m := s.ggnMode 0
  let replan (s : State) : State :=
    let x := s.axis 0
    match x.pursuit with
    | none => s
    | some t =>
      let lim := s.ggnLim 0
      let sl := s.ggnStopLim 0 lim.2.1 lim.2.2
      if x.pursued = some t ∧ (x.limV, x.limA, x.limJ) = (lim.1, sl) then s
      else
        if lim.1 = 0 ∨ sl.1 = 0 ∨ sl.2 = 0 then s
        else
          let r : Rat := (t : Rat) - (x.p : Rat) / (ggnOne : Rat)
          let segs := ggnPlanTo r (x.vt 0) (x.at_ 0) lim.1 sl.1 sl.2
          s.mapAxis 0 fun x =>
            { x.plan (decide (r < 0)) segs with pursued := some t, limV := lim.1, limA := sl.1, limJ := sl.2 }
  if m = Ggn.pursuit then
    let t := match x.pursuit with
      | some t => some (clampI lo hi t)
      | none => none
    replan (s.mapAxis 0 fun x => { x with pursuit := t })
  else if m ≤ 2 then
    let tgt (f : Int → Bool) : Bool := match x.target with
      | some t => f t
      | none => false
    let goal : Option Int :=
      if hi * ggnOne < x.p then some hi else if x.p < lo * ggnOne then some lo
      else if tgt fun t => decide (hi < t) then some hi
      else if tgt fun t => decide (t < lo) then some lo else none
    match goal with
    | none => s
    | some t =>
      let s := (s.ggnBreak 0).setMode 0 Ggn.pursuit
      let s := s.mapAxis 0 fun x =>
        { x with target := none, link := none, segs := [], pursuit := some t, pursued := none }
      replan (s.raise 203)
  else s

/-- FLUSH, STOP, SETPOS and EN = 0 of axis `n` (R310, R314, R315, R325, R328) (log entry 82: DEDUCED). -/
def State.ggnCmds (s : State) (n : Nat) : State :=
  let x := s.axis n
  let s := s.when (x.wFlush || x.wOff) fun s => s.mapAxis n fun x => { x with queue := [] }
  let s := s.when (x.wStop || x.wOff) fun s => s.ggnStop n
  let s := s.when x.wSetpos fun s =>
    let m := s.ggnMode n
    if n = 0 ∨ x.hot = true ∨ (m ≠ Ggn.idle ∧ m ≠ Ggn.fault) then s.put (GGN_xFLT.SETPOS_REF n) true
    else
      let v := sgn 32 (s.get (GGN_xPOSSET.VAL n))
      let s := (s.put (GGN_xSTAT.POSLOST n) false).mapAxis n fun x =>
        { x with p := v * ggnOne, step := v }
      if m = Ggn.fault then s.ggnIdle n else s
  s.mapAxis n fun x => { x with wFlush := false, wStop := false, wOff := false, wSetpos := false }

/-- A changed limit register of a moving axis is judged (R316). -/
def State.ggnLimits (s : State) (n : Nat) : State :=
  let x := s.axis n
  let s := s.mapAxis n fun x => { x with wLim := false }
  if x.wLim = false ∨ s.ggnMode n ≠ Ggn.move then s
  else
    let lim := s.ggnLim n
    let defer (s : State) : State :=
      ((s.put (GGN_xSTAT.ACCEL_DEFERRED n) true).put (GGN_xFLT.ACCEL_DEFERRED n) true).raise 202
    match x.target with
    | none => s
    | some t =>
      if x.link.isSome = true ∨ lim.1 = 0 ∨ lim.2.1 = 0 ∨ lim.2.2 = 0 then defer s
      else
        let r : Rat := (t : Rat) - (x.p : Rat) / (ggnOne : Rat)
        let need := stopDist (x.vt n) (x.at_ n) lim.2.1 lim.2.2
        let fits : Bool := if 0 ≤ r then decide (need ≤ r) else decide (r ≤ need)
        if fits then
          let segs := ggnPlanTo r (x.vt n) (x.at_ n) lim.1 lim.2.1 lim.2.2
          s.mapAxis n fun x =>
            { x.plan (decide (r < 0)) segs with limV := lim.1, limA := lim.2.1, limJ := lim.2.2 }
        else defer s

/-- May axis `n` take a target (R313)? -/
def State.ggnTakes (s : State) (n : Nat) : Bool :=
  s.flag (GGN_xCTRL.EN n) && decide (s.get (GGN_xVMAX.VAL n) ≠ 0)
    && decide (s.get (GGN_xAMAX.VAL n) ≠ 0) && decide (s.get (GGN_xJMAX.VAL n) ≠ 0)
    && (decide (n = 0) || decide (s.get (GGN_xVMAX.VAL n) ≤ 50000 * 65536))

/-- The target writes of axis `n`, in order (R313, R314, R317). -/
def State.ggnTargets (s : State) (n : Nat) : State :=
  let ts := (s.axis n).wTgt
  let s := s.mapAxis n fun x => { x with wTgt := [] }
  ts.foldl (fun (s : State) t =>
    if s.ggnTakes n = false then s.put (GGN_xFLT.BADPAR n) true
    else if s.get (GGN_xCTRL.GRP n) ≠ 0 then s.mapAxis n fun x => { x with staged := some t }
    else if 4 ≤ (s.axis n).queue.length then (s.put (GGN_xFLT.QFULL n) true).raise 201
    else s.mapAxis n fun x => { x with queue := x.queue ++ [⟨t, 0, 0⟩] }) s

/-- GGN_GO.Gk (R317). -/
def State.ggnGroup (s : State) (k : Nat) : State :=
  let ms := (List.range 4).filter fun n =>
    decide (s.get (GGN_xCTRL.GRP n) = k) && (s.axis n).staged.isSome
  if ms = [] then s
  else if ms.any fun n => decide (4 ≤ (s.axis n).queue.length) then
    (ms.foldl (fun (s : State) n => s.put (GGN_xFLT.QFULL n) true) s).raise 201
  else
    let id := s.ggn.links + 1
    let mask := ms.foldl (fun m n => setBit m n) 0
    let s := s.mapGgn fun y => { y with links := id }
    ms.foldl (fun (s : State) n => s.mapAxis n fun x =>
      match x.staged with
      | some t => { x with queue := x.queue ++ [⟨t, id, mask⟩], staged := none }
      | none => x) s

/-- The target of a starting move, clamped on axis D; source 207 (R320). -/
def State.ggnClamp (s : State) (n : Nat) (lo hi t : Int) : State × Int :=
  let c := if n = 0 then clampI lo hi t else t
  if c = t then (s.put (GGN_xSTAT.CLAMPED n) false, t)
  else (((s.put (GGN_xSTAT.CLAMPED n) true).put (GGN_xFLT.CLAMP n) true).raise 207, c)

/-- A move of axis `n` to `t` begins with the plan `segs`. -/
def State.ggnBegin (s : State) (n : Nat) (t : Int) (segs : List GgnSeg) (link : Option GgnLink) : State :=
  let lim := s.ggnLim n
  ((s.put (GGN_xSTAT.ACCEL_DEFERRED n) false).setMode n Ggn.move).mapAxis n fun x =>
    { x.plan (decide (t * ggnOne < x.p)) segs with
      target := some t, link := link, queue := x.queue.drop 1, limV := lim.1, limA := lim.2.1, limJ := lim.2.2 }

/-- Signed distance of axis `n` from rest to `t`, in position units. -/
def State.ggnDist (s : State) (n : Nat) (t : Int) : Rat :=
  (t : Rat) - ((s.axis n).p : Rat) / (ggnOne : Rat)

/-- The limits of axis `n` allow a plan (log entry 82: DEDUCED). -/
def State.ggnCan (s : State) (n : Nat) : Bool :=
  let l := s.ggnLim n
  s.flag (GGN_xCTRL.EN n) && decide (l.1 ≠ 0) && decide (l.2.1 ≠ 0) && decide (l.2.2 ≠ 0)

/-- The head move of axis `n`, not linked, starts (R312, R328). -/
def State.ggnStart (s : State) (n : Nat) (lo hi : Int) (m : GgnMove) : State :=
  let c := s.ggnClamp n lo hi m.target
  let s := c.1
  let d := s.ggnDist n c.2
  let lim := s.ggnLim n
  if d = 0 then ((s.ggnBegin n c.2 [] none)).ggnIdle n
  else s.ggnBegin n c.2 (ggnMoveSegs d lim.1 lim.2.1 lim.2.2) none

/-- The linked move `m` starts on all its members (R318). -/
def State.ggnStartLinked (s : State) (lo hi : Int) (m : GgnMove) : State :=
  let ms := (List.range 4).filter fun i => bit m.mask i
  let c := ms.foldl (fun (x : State × List (Nat × Int)) i =>
    let h := match (x.1.axis i).queue.head? with
      | some q => q.target
      | none => 0
    let r := x.1.ggnClamp i lo hi h
    (r.1, x.2 ++ [(i, r.2)])) (s, [])
  let s := c.1
  let plan (i : Nat) (t : Int) : List GgnSeg :=
    let d := s.ggnDist i t
    let l := s.ggnLim i
    if d = 0 then [] else ggnMoveSegs d l.1 l.2.1 l.2.2
  let best := c.2.foldl (fun (b : Nat × Nat) e =>
    let k := ggnLen (plan e.1 e.2)
    if b.2 < k then (e.1, k) else b) (0, 0)
  if best.2 = 0 then
    c.2.foldl (fun (s : State) e => (s.ggnBegin e.1 e.2 [] none).ggnIdle e.1) s
  else
    let L := best.1
    let tL := mapGet 0 c.2 L
    let dL := s.ggnDist L tL
    let mag (q : Rat) : Rat := if q < 0 then -q else q
    let low := c.2.foldl (fun (l : Rat × Rat × Rat) e =>
      let d := s.ggnDist e.1 e.2
      if d = 0 then l
      else
        let f := mag dL / mag d
        let x := s.ggnLim e.1
        (min l.1 (x.1 * f), min l.2.1 (x.2.1 * f), min l.2.2 (x.2.2 * f))) (s.ggnLim L)
    let segs := ggnMoveSegs dL low.1 low.2.1 low.2.2
    let p0L := (s.axis L).p
    c.2.foldl (fun (s : State) e =>
      let p0 := (s.axis e.1).p
      let link : GgnLink := ⟨m.link, L, p0, e.2 * ggnOne - p0, p0L, tL * ggnOne - p0L⟩
      s.ggnBegin e.1 e.2 (if e.1 = L then segs else []) (some link)) s

/-- Moves at the head of a queue start (R318, R328); an axis that came to rest in this tick waits for the
next. -/
def State.ggnStarts (s : State) (arrived : List Nat) (lo hi : Int) : State :=
  (List.range 4).foldl (fun (s : State) n =>
    match (s.axis n).queue.head? with
    | none => s
    | some m =>
      let ready (i : Nat) : Bool := decide (s.ggnMode i = Ggn.idle) && !(arrived.contains i) && s.ggnCan i
      if ready n = false then s
      else if m.link = 0 then s.ggnStart n lo hi m
      else
        let all := (List.range 4).all fun i => !(bit m.mask i) || (ready i &&
          (match (s.axis i).queue.head? with
            | some q => decide (q.link = m.link)
            | none => false))
        if all then s.ggnStartLinked lo hi m else s) s

/-- The status registers of the block after a tick (Tables GGN-5, GGN-6 and GGN-8). -/
def State.ggnShow (s : State) (lo hi : Int) : State :=
  let s := (List.range 4).foldl (fun (s : State) n =>
    let x := s.axis n
    let m := s.ggnMode n
    let head := match x.queue.head? with
      | some q => decide (q.link ≠ 0)
      | none => false
    let lead := match x.link with
      | some l => (s.axis l.leader).segs
      | none => x.segs
    let s := s.seti (GGN_xPOS.VAL n) (divRound x.p 16777216)
    let s := s.seti (GGN_xVEL.VAL n) (divRound x.v 256)
    let s := s.seti (GGN_xACC.VAL n) (divRound x.a (if n = 0 then 256 else 16777216))
    let s := s.set (GGN_xSTAT.QCOUNT n) x.queue.length
    let s := s.put (GGN_xSTAT.STAGED n) x.staged.isSome
    let s := s.put (GGN_xSTAT.LINKED n) (x.link.isSome || head)
    s.put (GGN_xSTAT.DECEL n) (decide (m = Ggn.move) && decide (lead.length ≤ 3))) s
  let pos := divRound (s.axis 0).p 16777216
  let dsp := if s.flag (GGN_xCTRL.HARD 0) then clampI lo hi pos else pos
  let s := (s.seti GGN_DSP.MA dsp).put GGN_STAT.CLAMPPUB (decide (dsp ≠ pos))
  let s := (s.seti GGN_DLO.MA lo).seti GGN_DHI.MA hi
  let s := s.set GGN_STAT.IDLE (maskOf 4 fun n => decide (s.ggnMode n = Ggn.idle))
  (s.put GGN_STAT.PURSUIT (decide (s.ggnMode 0 = Ggn.pursuit))).put GGN_STAT.SAFE
    (decide (s.ggnMode 0 = Ggn.safe))

/-- The generator's part of the control tick (R310, R328): SAFE above PURSUIT above STOP. -/
def State.ggnTick (s : State) : State :=
  if s.ioPowered = false then s
  else
    let lo := s.ggnLo
    let hi := s.ggnHi
    if s.flag GGN_CTRL.RUN then
      let r := s.ggnIntegrate.ggnArrive
      let s := r.1.ggnSafe.ggnBounds lo hi
      let s := (List.range 4).foldl (fun (s : State) n => s.ggnCmds n) s
      let s := (List.range 4).foldl (fun (s : State) n => s.ggnLimits n) s
      let s := (List.range 4).foldl (fun (s : State) n => s.ggnTargets n) s
      let go := s.ggn.go
      let s := s.mapGgn fun y => { y with go := 0 }
      let s := s.when (bit go 0) fun s => s.ggnGroup 1
      let s := s.when (bit go 1) fun s => s.ggnGroup 2
      (s.ggnStarts r.2 lo hi).ggnShow lo hi
    else s.ggnSafe.ggnShow lo hi

/-- Entry to Paddock: an E axis at rest keeps its position, a moving one loses it; axis D starts again at
0 (R311; log entry 81: DEDUCED). -/
def State.ggnDown (s : State) : State :=
  let s := (List.range 3).foldl (fun (s : State) i =>
    let n := i + 1
    let m := s.ggnMode n
    let x := s.axis n
    let s := s.mapAxis n fun _ => { GgnAxis.reset with p := x.p, step := x.step, dir := x.dir, hot := x.hot }
    if m = Ggn.move ∨ m = Ggn.stopping then
      (s.setMode n Ggn.fault).put (GGN_xSTAT.POSLOST n) true
    else s) s
  let s := (s.setMode 0 Ggn.idle).mapAxis 0 fun _ => GgnAxis.reset
  (s.mapGgn fun y => { y with go := 0 }).ggnShow 0 0

end Sys2Proof.Machine
end

