-- ==== Sys2Proof/Machine/Hvm.lean ====
section
/-! DEFINITION. High-voltage measurement: sample streams, charge counter, diversity, voltages, insulation
monitor, precharge check, zero trim, supervision (R144-R168). -/

namespace Sys2Proof.Machine
open Sys2Proof Sys2Proof.Reg

/-! ### Validity and conversion -/

/-- The HV section delivers valid values (Table HVM-3). -/
def State.hvValid (s : State) : Bool :=
  s.flag HVM_STAT.LINK_OK && s.flag HVM_STAT.SUPPLY_OK && s.flag HVM_STAT.CAL_OK

/-- The HV section is powered: Walk to Halt but for a Groom walk (R165). -/
def State.hvPowered (s : State) : Bool := decide (2 ≤ s.gait) && !s.groomWalk

/-- The HV section is powered and its PLL locked (R24, R165). -/
def State.hvClocked (s : State) : Bool := s.hvPowered && !(s.pllGated Pll.hv)

/-- A measurement configuration field in effect since the last fine sample (R168) (log entry 49: DEDUCED). -/
def State.hvGet (s : State) (f : Fld) : Nat := mapGet f.reset s.hvm.eff f.key

/-- The same as a two's complement number. -/
def State.hvGeti (s : State) (f : Fld) : Int := sgn f.width (s.hvGet f)

/-- Registers whose writes take effect at the next fine sample (R168). -/
def hvConfig (a : Nat) : Bool := decide (0x60040040 ≤ a ∧ a ≤ 0x60040050)

/-- Shunt voltage in nV as a current in mA (R145). -/
def State.shuntMa (s : State) (nv : Int) : Int :=
  divRound ((nv - s.hvGeti HVM_IOFS.OFS) * 1000) (s.hvGet HVM_SHUNT.R)

/-- Full scales in nV: high range 75 mV, low range 7.5 mV. -/
def hiScale : Int := 75000000
def loScale : Int := 7500000

/-- The code of a signed measurement; a value beyond the range saturates (R7). -/
def code32 (v : Option Int) : Nat :=
  match v with
  | some i => enc 32 (clampI (-(2 ^ 31 - 1)) (2 ^ 31 - 1) i)
  | none => na32

/-- The code of a voltage in mV. -/
def volt32 (v : Option Nat) : Nat := v.getD 0xFFFFFFFF

/-! ### Protection stream (R146, R148, R281, R290) -/

/-- The envelope comparison of R290 in exact arithmetic: |I| > env(t), `n` samples after entry. -/
def aboveEnvelope (i i0 pct banda ramp n : Nat) : Bool :=
  let t := 256 * ramp
  decide (i0 * 100 * (t - n) + (pct * i0 + banda * 100000) * t < i * 100 * t)

/-- The SRS part of a protection sample (R290, Table CRB-2). -/
def State.srsSample (s : State) (i : Option Int) : State :=
  if s.curb ≠ Curb.srs then s
  else
    let w := s.get (CRB_SCFG.WORD 1)
    let n := s.crb.srsN
    let above : Bool := match i with
      | some i => aboveEnvelope i.natAbs (s.get CRB_SRSI0.MA) (bits w 16 8) (bits w 24 8) (bits w 0 16) n
      | none => true
    let low : Bool := match i with
      | some i => decide (i.natAbs < 2000)
      | none => false
    let run := if above then min 4 (s.crb.envRun + 1) else 0
    let zrun := if low then min 16 (s.crb.zeroRun + 1) else 0
    let s := s.mapCrb fun x => { x with srsN := n + 1, envRun := run, zeroRun := zrun }
    if run = 4 then ((s.put CRB_FLT.ENVELOPE true).raise 30).curbCause Cause.envelope .sii false else s

/-- A protection-stream sample reaches HVM_IPROT, the curb logic, the I²t function and the fine mean. -/
def State.protSample (s : State) (p : ProtSample) : State :=
  let s := s.set HVM_IPROT.VAL (code32 p.ma)
  let s := s.mapHvm fun x => { x with win := (x.win ++ [p]).drop ((x.win.length + 1) - 16) }
  let s := s.mapCrb fun x => { x with latest := p.ma, lastValid := if p.ma.isSome then p.ma else x.lastValid }
  let s := match p.ma with
    | some i => s.i2t i
    | none => s
  s.srsSample p.ma

/-- A sample that carries no valid value. -/
def ProtSample.invalid : ProtSample := ⟨none, 0, 0, none⟩

/-- The high-range modulator enters or leaves overload (R148). -/
def State.overload (s : State) (on : Bool) : State :=
  let was := s.flag HVM_STAT.OVLD_HI
  let s := s.put HVM_STAT.OVLD_HI on
  s.when (on && !was) fun s => (s.put HVM_FLT.OVLD true).raise 138

/-- PROTECTION_SAMPLE (R144, R146): shunt voltages of the two ranges in nV and their modulators' overload. `bad` frames
of the isolator link since the last sample were missing or damaged, none of them the third in a row (R159; log entry
133: DEDUCED). -/
def execProtectionSample (low high : Int) (ovl : Overloads) (bad : Nat) (s : State) :
    Host.Outcome State Fault Refusal :=
  .next (if s.pllGated Pll.hv then s
    else
    let s := s.when (s.flag HVM_STAT.LINK_OK) fun s => s.bump HVM_LINKERR.COUNT bad
    if s.hvValid = false then s.protSample ProtSample.invalid
    else
      let s := s.overload ovl.high
      let hi := if ovl.high then (if high < 0 then -hiScale else hiScale) else clampI (-hiScale) hiScale high
      let lowOk : Bool := !ovl.low && decide (100 * low.natAbs ≤ 95 * loScale.natAbs)
      let useLow : Bool := !(s.flag HVM_CTRL.HIONLY) && !(s.flag HVM_STAT.LOW_DIS) && lowOk
      let nv := if useLow then low else hi
      let s := s.put HVM_STAT.RANGE useLow
      s.protSample ⟨some (s.shuntMa nv), nv, hi, if ovl.low then none else some low⟩)

/-- HV_OVERLOAD (R148): the modulator enters overload. -/
def execHvOverload (s : State) : Host.Outcome State Fault Refusal :=
  .next (if s.hvValid then s.overload true else s)

/-- FAST_OC_TRIP (R149): one output of the fast comparator stream in nV. The comparator holds no state; a
value beyond its level is cause FOC. -/
def execFastOcTrip (nv : Int) (s : State) : Host.Outcome State Fault Refusal :=
  .next (if s.flag PRT_STAT.VALID = false ∨ s.hvClocked = false then s
    else
      let i := s.shuntMa (clampI (-hiScale) hiScale nv)
      let trip : Bool := decide (1000 * (s.act PRT_OC_FAST.CHG : Int) < i ∨ i < -(1000 * (s.act PRT_OC_FAST.DCH : Int)))
      if trip then (s.setBitOf CRB_INPUT.CAUSES (Cause.foc - 1)).curbCause Cause.foc .sii false
      else if s.crb.alive then s.clrBitOf CRB_INPUT.CAUSES (Cause.foc - 1) else s)

/-! ### Alive code (R150) -/

/-- A missing alive code counts as a trip of both comparators. -/
def State.aliveTrip (s : State) : State :=
  (s.setBitOf CRB_INPUT.CAUSES (Cause.foc - 1)).curbCause Cause.foc .sii false

/-- ALIVE_CODE_START: supervision starts, and the input condition ends. -/
def execAliveCodeStart (s : State) : Host.Outcome State Fault Refusal :=
  .next (if s.hvPowered then
    (s.mapCrb fun x => { x with alive := true }).clrBitOf CRB_INPUT.CAUSES (Cause.foc - 1) else s)

/-- ALIVE_CODE_LOSS: no code for more than 4 µs under supervision. -/
def execAliveCodeLoss (s : State) : Host.Outcome State Fault Refusal :=
  .next (if s.crb.alive then (s.mapCrb fun x => { x with alive := false }).aliveTrip else s)

/-- ALIVE_CODE_STARTUP_TIMEOUT: no code 50 ms after power-up of the section. -/
def execAliveCodeStartupTimeout (s : State) : Host.Outcome State Fault Refusal :=
  .next (if s.crb.alive = false ∧ s.hvPowered = true then s.aliveTrip else s)

/-! ### Fine stream (R147, R152, R164) -/

/-- Sum of a list of integers. -/
def sumI (l : List Int) : Int := l.foldl (· + ·) 0

/-- The mean of the window's 16 values, none where one is invalid. -/
def meanI (l : List (Option Int)) : Option Int :=
  if l.contains none then none else some (divRound (sumI (l.filterMap id)) l.length)

/-- The range comparison of a fine sample (R147). -/
def State.rangeCheck (s : State) (hi lo : Option Int) : State :=
  if s.flag HVM_STAT.LOW_DIS then s
  else
    match hi, lo with
    | some h, some l =>
      if 10 * loScale.natAbs ≤ 100 * h.natAbs ∧ 100 * h.natAbs ≤ 90 * loScale.natAbs then
        let bad : Bool := decide (loScale.natAbs < 100 * (h - l).natAbs)
        s.mapHvm fun x => { x with rangeRun := if bad then min 100 (x.rangeRun + 1) else 0 }
      else s.mapHvm fun x => { x with rangeRun := 0 }
    | _, _ => s.mapHvm fun x => { x with rangeRun := 0 }

/-- RANGE_COMPARE_FAIL (R147): after 100 fine samples. -/
def execRangeCompareFail (s : State) : Host.Outcome State Fault Refusal :=
  .next (if 100 ≤ s.hvm.rangeRun ∧ s.flag HVM_STAT.LOW_DIS = false then
    ((s.put HVM_FLT.RANGE true).put HVM_STAT.LOW_DIS true).raiseD 130 else s)

/-- The charge counter after a fine sample (R152). -/
def State.countCharge (s : State) (i : Option Int) : State :=
  let q := sgn 64 (s.get HVM_QHI.VAL * 2 ^ 32 + s.get HVM_QLO.VAL)
  let n := if s.hvm.qclr then 0 else enc 64 (q + i.getD 0)
  let s := s.when i.isNone fun s => (s.put HVM_FLT.QGAP true).mapEst fun x => { x with gap := true }
  ((s.set HVM_QLO.VAL n).set HVM_QHI.VAL (n / 2 ^ 32)).mapHvm fun x => { x with qclr := false }

/-- The zero trim over a fine sample (R164): `nv` the raw mean. -/
def State.zeroSample (s : State) (nv : Option Int) : State :=
  if s.flag HVM_STAT.ZERO_BUSY = false then s
  else
    let on := s.mainOn
    s.mapHvm fun x => { x with
      zsum := x.zsum + nv.getD 0, zn := x.zn + 1, zbad := x.zbad || nv.isNone || on }

/-- ZERO_TRIM_DONE (R164): after 16,000 fine samples, or once a condition for refusal is met. -/
def execZeroTrimDone (s : State) : Host.Outcome State Fault Refusal :=
  .next (if s.flag HVM_STAT.ZERO_BUSY = false ∨ (s.hvm.zn < 16000 ∧ s.hvm.zbad = false) then s
    else
      let s := s.put HVM_STAT.ZERO_BUSY false
      let mean := divRound s.hvm.zsum s.hvm.zn
      if s.hvm.zbad ∨ 20000 < mean.natAbs then s.put HVM_FLT.ZERO_FAIL true
      else s.seti HVM_IOFS.OFS mean)

/-- A write of 1 to HVM_CMD.ZERO (R164): ignored while ZERO_BUSY = 1. -/
def State.zeroStart (s : State) : State :=
  if s.flag HVM_STAT.ZERO_BUSY then s
  else if s.mainOn then s.put HVM_FLT.ZERO_FAIL true
  else (s.mapHvm fun x => { x with zsum := 0, zn := 0, zbad := false }).put HVM_STAT.ZERO_BUSY true

/-! ### Voltages (R155) -/

/-- A channel's reading in mV, none where it is reversed: below 0 reads 0, above 1,750 V saturates (log entry 69:
DEDUCED). -/
def channelMv (mv : Int) : Option Nat :=
  if mv < -5000 then none else some (min 1750000 mv.toNat)

/-- The three channels' registers. -/
def State.setVolts (s : State) (b l m : Option Nat) : State :=
  ((s.set HVM_VBAT.VAL (volt32 b)).set HVM_VLINK.VAL (volt32 l)).set HVM_VMID.VAL (volt32 m)

/-- Channel `k` is marked invalid by R155. -/
def State.vinv (s : State) (k : Nat) : Bool := s.bitOf HVM_STAT.VINV k

/-- The readings of a fine sample as the registers show them (log entry 69: DEDUCED). -/
def State.shownVolt (s : State) (k : Nat) (mv : Int) : Option Nat :=
  if s.hvValid = false ∨ s.vinv k = true then none else channelMv mv

/-- The checks of R155 over one fine sample. -/
def State.voltCheck (s : State) (b l m : Int) : State :=
  let rev := b2n (decide (b < -5000)) + 2 * b2n (decide (l < -5000)) + 4 * b2n (decide (m < -5000))
  let high : Bool := match channelMv b, channelMv m with
    | some vb, some vm => decide (vb + 2000 < vm)
    | _, _ => false
  s.mapHvm fun x =>
    let ok (k : Nat) : Bool := !(bit rev k) && (decide (k ≠ 2) || !high)
    { x with
      rev := rev, midRun := if high then min 16 (x.midRun + 1) else 0
      good := (List.range 3).map fun k => if ok k then min 160 (x.good.getD k 0 + 1) else 0 }

/-- VOLTAGE_CHANNEL_INVALID (R155): channel 0 BAT, 1 LINK, 2 MID is reversed, or MID stands above BAT. -/
def execVoltageChannelInvalid (ch : BitVec 2) (s : State) : Host.Outcome State Fault Refusal :=
  let k := ch.toNat
  .next (if k < 3 ∧ s.vinv k = false ∧ (bit s.hvm.rev k = true ∨ (k = 2 ∧ 16 ≤ s.hvm.midRun)) then
    let s := (s.setBitOf HVM_STAT.VINV k).put HVM_FLT.VPLAUS true
    let s := s.set (if k = 0 then HVM_VBAT.VAL else if k = 1 then HVM_VLINK.VAL else HVM_VMID.VAL) 0xFFFFFFFF
    s.raise 133
  else s)

/-- VOLTAGE_CHANNEL_RECOVER (R155): 160 consecutive fine samples passed. -/
def execVoltageChannelRecover (ch : BitVec 2) (s : State) : Host.Outcome State Fault Refusal :=
  let k := ch.toNat
  .next (if k < 3 ∧ s.vinv k = true ∧ 160 ≤ s.hvm.good.getD k 0 then s.clrBitOf HVM_STAT.VINV k else s)

/-! ### Precharge check (R163) -/

def Pch.idle : Nat := 0
def Pch.armed : Nat := 1
def Pch.pass : Nat := 2
def Pch.fail : Nat := 3

/-- A register value as a voltage. -/
def State.mvOf (s : State) (f : Fld) : Option Nat :=
  if s.get f = 0xFFFFFFFF then none else some (s.get f)

/-- The precharge check enters a state with a reason. -/
def State.pchEnter (s : State) (st reason : Nat) : State :=
  let s := (s.set HVM_PCHSTAT.STATE st).set HVM_PCHSTAT.REASON reason
  if st = Pch.pass then s.raise 136 else if st = Pch.fail then s.raise 137 else s

/-- The check is aborted, or the section stops (Table HVM-4). -/
def State.pchAbort (s : State) : State :=
  let st := s.get HVM_PCHSTAT.STATE
  if st = Pch.armed ∨ st = Pch.pass then s.pchEnter Pch.idle 6 else s

/-- The check is armed on the present voltages (Table HVM-4). -/
def State.pchArm (s : State) : State :=
  if s.get HVM_PCHSTAT.STATE = Pch.armed then s
  else
    let s := (s.set HVM_PCHSTAT.ELAPSED 0).mapHvm fun x => { x with pchN := 0, pchRun := 0, dropRun := 0 }
    match s.mvOf HVM_VBAT.VAL, s.mvOf HVM_VLINK.VAL with
    | some b, some _ => if 50000 ≤ b then s.pchEnter Pch.armed 0 else s.pchEnter Pch.fail 3
    | _, _ => s.pchEnter Pch.fail 3

/-- A precharge command waits for the next fine sample; the later of two takes the place of the earlier (Table HVM-4;
log entry 67: DESIGN CHOICE). -/
def State.pchAsk (s : State) (req : Nat) : State := s.mapHvm fun x => { x with pchReq := req }

/-- A fine sample in the precharge check: the command that waits, else time, pass and drop runs, REASON 4 (Table
HVM-4; log entry 67: DESIGN CHOICE). -/
def State.pchSample (s : State) : State :=
  let req := s.hvm.pchReq
  let s := s.pchAsk 0
  let st := s.get HVM_PCHSTAT.STATE
  if req = 2 then s.pchAbort
  else if req = 1 ∧ st ≠ Pch.armed then s.pchArm
  else if st = Pch.idle then s
  else
    let n := s.hvm.pchN + 1
    let s := (s.mapHvm fun x => { x with pchN := n }).set HVM_PCHSTAT.ELAPSED (min 65535 (n / 16))
    match s.mvOf HVM_VBAT.VAL, s.mvOf HVM_VLINK.VAL with
    | some b, some l =>
      let pct := s.get HVM_PCHCFG.PCT
      s.mapHvm fun x => { x with
        pchRun := if pct * b ≤ 100 * l then min 160 (x.pchRun + 1) else 0
        dropRun := if 100 * l < (pct - 5) * b then min 160 (x.dropRun + 1) else 0 }
    | _, _ =>
      let s := s.mapHvm fun x => { x with pchRun := 0, dropRun := 0 }
      if st = Pch.armed then s.pchEnter Pch.fail 4 else s

/-- PRECHARGE_PASS (Table HVM-4). -/
def execPrechargePass (s : State) : Host.Outcome State Fault Refusal :=
  .next (if s.get HVM_PCHSTAT.STATE = Pch.armed ∧ 160 ≤ s.hvm.pchRun then
    (s.mapHvm fun x => { x with dropRun := 0 }).pchEnter Pch.pass 0 else s)

/-- PRECHARGE_LINK_SHORT (Table HVM-4): at 25 % of TIME, VLINK below 5 % of VBAT. -/
def execPrechargeLinkShort (s : State) : Host.Outcome State Fault Refusal :=
  .next (match s.mvOf HVM_VBAT.VAL, s.mvOf HVM_VLINK.VAL with
    | some b, some l =>
      if s.get HVM_PCHSTAT.STATE = Pch.armed ∧ s.hvm.pchN = 4 * s.get HVM_PCHCFG.TIME ∧ 100 * l < 5 * b then
        s.pchEnter Pch.fail 2 else s
    | _, _ => s)

/-- PRECHARGE_TIMEOUT (Table HVM-4). -/
def execPrechargeTimeout (s : State) : Host.Outcome State Fault Refusal :=
  .next (if s.get HVM_PCHSTAT.STATE = Pch.armed ∧ 16 * s.get HVM_PCHCFG.TIME ≤ s.hvm.pchN then
    s.pchEnter Pch.fail 1 else s)

/-- PRECHARGE_DROP (Table HVM-4). -/
def execPrechargeDrop (s : State) : Host.Outcome State Fault Refusal :=
  .next (if s.get HVM_PCHSTAT.STATE = Pch.pass ∧ 160 ≤ s.hvm.dropRun then s.pchEnter Pch.fail 5 else s)

/-! ### Hall input and diversity (R153, R154, R159) -/

/-- The Hall current in mA from µV at the input (R153). -/
def State.hallMa (s : State) (uv : Int) : Int :=
  divRound ((uv - 100 * s.hvGeti HVM_HALLOFS.OFS) * s.hvGeti HVM_HALLGAIN.GAIN) 1000000

/-- A mismatch between the fine and the Hall current (R154), exact. -/
def State.diverse (s : State) (fine hall : Int) : Bool :=
  decide (2000 * s.hvGet HVM_DIV.ABS + s.hvGet HVM_DIV.REL * fine.natAbs < 200 * (fine - hall).natAbs)

/-- The latest fine current, none where invalid. -/
def State.fineNow (s : State) : Option Int := s.hvm.hist.headD none

/-- The diversity runs end: the comparison is suspended (R154, Table HVM-3). -/
def State.divStop (s : State) : State :=
  s.mapHvm fun x => { x with divRun := 0, divClr := 0, hallWait := [] }

/-- The diversity runs of one Hall current against the latest fine sample; DIV_MISMATCH clears after 100 without a
mismatch (R154). -/
def State.diversity (s : State) (hall : Int) : State :=
  match s.fineNow with
  | none => s.divStop
  | some i =>
    if s.flag HVM_CTRL.DIV_EN = false ∨ s.flag HVM_STAT.HALL_OK = false ∨ s.hvValid = false then s.divStop
    else
      let bad := s.diverse i hall
      let s := s.mapHvm fun x => { x with
        divRun := if bad then min 16000 (x.divRun + 1) else 0
        divClr := if bad then 0 else min 100 (x.divClr + 1) }
      if 100 ≤ s.hvm.divClr then s.put HVM_STAT.DIV_MISMATCH false else s

/-- The Hall currents that wait for the fine sample just taken are compared with it (R154). -/
def State.divWaiting (s : State) : State :=
  let l := s.hvm.hallWait
  l.foldl State.diversity (s.mapHvm fun x => { x with hallWait := [] })

/-- HALL_SAMPLE (R153, R154); `next` where the fine sample whose window centre lies nearest to its instant is not out
yet (log entry 133: DEDUCED). -/
def execHallSample (x : HallRead) (next : Bool) (s : State) : Host.Outcome State Fault Refusal :=
  .next (if s.flag HVM_CTRL.HALL_EN = false ∨ s.hvPowered = false then s
    else
      let good : Bool := decide (x.uv.natAbs ≤ 4100000 ∧ 2000 ≤ x.ua ∧ x.ua ≤ 60000)
      let s := s.mapHvm fun x => { x with
        hallBad := if good then 0 else min 16 (x.hallBad + 1), hallFlt := x.hallFlt && !good }
      let s := (s.when (good && !(s.flag HVM_STAT.HALL_OK)) fun s => s.put HVM_STAT.HALL_OK true)
      if s.flag HVM_STAT.HALL_OK then
        let i := s.hallMa x.uv
        let s := s.set HVM_IHALL.VAL (code32 (some i))
        (if next then s.mapHvm fun x => { x with hallWait := x.hallWait ++ [i] } else s.diversity i).redrive
      else s)

/-- DIVERSITY_MISMATCH (R154): after HVM_DIV.TIME without a break. -/
def execDiversityMismatch (s : State) : Host.Outcome State Fault Refusal :=
  .next (if 16 * s.hvGet HVM_DIV.TIME ≤ s.hvm.divRun ∧ s.flag HVM_STAT.DIV_MISMATCH = false then
    ((s.put HVM_STAT.DIV_MISMATCH true).put HVM_FLT.DIV true).raiseD 129 else s)

/-- HALL_FAULT (Table HVM-3): a check has failed for 1 ms, or `silent`: no conversion for 1 ms; once until the next
good sample. -/
def execHallFault (silent : Bool) (s : State) : Host.Outcome State Fault Refusal :=
  .next (if s.flag HVM_CTRL.HALL_EN ∧ s.hvPowered = true ∧ s.hvm.hallFlt = false ∧
      (silent = true ∨ 16 ≤ s.hvm.hallBad) then
    let s := (s.put HVM_STAT.HALL_OK false).set HVM_IHALL.VAL na32
    let s := s.divStop.mapHvm fun x => { x with hallFlt := true }
    ((s.put HVM_FLT.HALL true).raise 132).redrive
  else s)

/-- A write of HVM_CTRL (R153): HALL_EN stays 0 while the gain is 0. -/
def State.hvmCtrl (s : State) (v : Nat) : State :=
  let hall : Bool := bit v 1 && (decide (s.get HVM_HALLGAIN.GAIN ≠ 0) || s.flag HVM_CTRL.HALL_EN)
  let s := ((s.put HVM_CTRL.INJ_CLAIM (bit v 8)).put HVM_CTRL.HIONLY (bit v 4)).put HVM_CTRL.DIV_EN (bit v 2)
  let s := (s.put HVM_CTRL.HALL_EN hall).put HVM_CTRL.INJ_EN (bit v 0)
  let s := if hall then s
    else ((s.put HVM_STAT.HALL_OK false).set HVM_IHALL.VAL na32).mapHvm fun x =>
      { x with hallBad := 0, hallFlt := false }
  (s.when (!hall || !(bit v 2)) State.divStop).redrive

/-- A write of HVM_HALLGAIN (R153, R168): 0 with HALL_EN = 1 leaves the gain unchanged. -/
def State.hvmHallgain (s : State) (v : Nat) : State :=
  if v % 2 ^ 32 = 0 ∧ s.flag HVM_CTRL.HALL_EN then s
  else (s.set HVM_HALLGAIN.GAIN v).mapHvm fun x => { x with divRun := 0 }

/-! ### The fine sample -/

/-- Mean of the window's 16 values of one quantity. -/
def meanOf (w : List ProtSample) (p : ProtSample → Int) : Int := divRound (sumI (w.map p)) w.length

/-- FINE_SAMPLE (R144, R152): the mean of 16 protection samples and of the 16 samples in mV of each voltage. A window
that a loss of the link or of the supply has cut short gives an invalid sample; `past` where its window centre lies
after the latest SYNC instant. -/
def execFineSample (bat link mid : Vector Int 16) (past : Bool) (s : State) : Host.Outcome State Fault Refusal :=
  let w := s.hvm.win
  let ok : Bool := decide (16 ≤ w.length) && s.hvValid && w.all fun p => p.ma.isSome
  .next (if s.hvPowered = false ∨ (s.flag HVM_STAT.READY = false ∧ s.flag THM_LATCH.HV_CONV = false) ∨
      (s.hvValid = true ∧ w.length < 16) then s
    else
      let i := if ok then meanI (w.map (·.ma)) else none
      let raw := if i.isSome then some (meanOf w (·.nv)) else none
      let hi := if i.isSome then some (meanOf w (·.hi)) else none
      let lo := if i.isSome then meanI (w.map (·.lo)) else none
      let mean (v : Vector Int 16) : Int := divRound (sumI v.toList) 16
      let eff := s.regs.filter fun e => hvConfig (e.1 / 32)
      let s := s.mapHvm fun x => { x with
        win := [], eff := eff, hist := (i :: x.hist).take 2000
        since := x.since + 1, past := x.past + b2n past }
      let s := ((s.set HVM_IFINE.VAL (code32 i)).rangeCheck hi lo).countCharge i
      let s := (s.zeroSample raw).divWaiting
      let s := if ok then s.voltCheck (mean bat) (mean link) (mean mid)
        else s.mapHvm fun x => { x with rev := 0, midRun := 0, good := [0, 0, 0] }
      let shown (k : Nat) (v : Vector Int 16) : Option Nat := if ok then s.shownVolt k (mean v) else none
      let s := s.setVolts (shown 0 bat) (shown 1 link) (shown 2 mid)
      (s.stringCheck (s.mvOf HVM_VBAT.VAL)).pchSample)

/-! ### Sweep header (R156, R157) -/

/-- Linear interpolation: `a` + (`b` − `a`) · `num` / `den`. -/
def interp (num den : Nat) (a b : Option Int) : Option Int :=
  match a, b with
  | some a, some b => some (a + divRound ((b - a) * num) den)
  | _, _ => none

/-- An interpolated voltage as R155 reports it. -/
def State.interpVolt (s : State) (k num den : Nat) (a b : Option Int) : Option Nat :=
  match interp num den a b with
  | some v => s.shownVolt k v
  | none => none

/-- Fine samples of the nominal sweep period of the gait. -/
def State.nominalSamples (s : State) : Nat := s.sweepPeriod * 16 / 1000

/-- IAVG: the mean of the valid fine samples of the period ending at the SYNC instant (R156). -/
def State.iavg (s : State) : Option Int :=
  let n := if s.chn.first then s.nominalSamples else s.hvm.since - s.hvm.past
  let xs := ((s.hvm.hist.drop s.hvm.past).take n).filterMap id
  if xs.isEmpty then none else some (divRound (sumI xs) xs.length)

/-- SWEEP_HEADER_HVM_WRITE (R156, R157): the samples that bracket the SYNC instant. -/
def execSweepHeaderHvmWrite (q : Bracket) (s : State) : Host.Outcome State Fault Refusal :=
  let s := s.quiet
  .next (if s.chn.open_ = false ∨ s.chn.inSync = true ∨ s.flag CHN_STAT.ORIGIN = false then s
    else
      let ok := s.hvValid
      let isync := if ok then interp q.num q.den q.i0 q.i1 else none
      let ihall := if s.flag HVM_STAT.HALL_OK then interp q.hnum q.den q.h0 q.h1 else none
      let vb := s.interpVolt 0 q.num q.den q.b0 q.b1
      let vl := s.interpVolt 1 q.num q.den q.l0 q.l1
      let vm := s.interpVolt 2 q.num q.den q.m0 q.m1
      let volts : Bool := vb.isSome && vl.isSome && vm.isSome
      let h : HvmHdr :=
        { tsync := s.hvm.tsync, isync := isync, ihall := ihall, iavg := s.iavg, vbat := vb, vlink := vl
          vmid := vm, flags := b2n isync.isSome + 2 * b2n ihall.isSome + 4 * b2n volts }
      let s := s.mapHvm fun x => { x with hdr := h, since := x.past, past := 0 }
      let a := hdrAddr (s.get CHN_SWEEP.SWEEP)
      let s := if s.flag HRD_STAT.POWERED then
          s.putHeader [(a + 4, h.tsync % 2 ^ 32), (a + 8, h.tsync / 2 ^ 32 % 2 ^ 32), (a + 0xC, code32 h.isync),
            (a + 0x10, code32 h.ihall), (a + 0x14, code32 h.iavg), (a + 0x18, volt32 h.vbat),
            (a + 0x1C, volt32 h.vlink), (a + 0x20, volt32 h.vmid)]
        else s
      (s.mapChn fun x => { x with hdr := true }).tryPost)

/-! ### Supervision (Table HVM-3, R165) -/

/-- Every HV value of the streams becomes invalid, and the sample window under way with it. -/
def State.hvInvalid (s : State) : State :=
  let s := (s.set HVM_IPROT.VAL na32).set HVM_IFINE.VAL na32
  let s := (s.setVolts none none none).mapHvm fun x => { x with
    win := x.win.map fun _ => ProtSample.invalid, midRun := 0, good := [0, 0, 0] }
  s.divStop.mapCrb fun x => { x with latest := none }

/-- ISO_VALID becomes 0 (Table HVM-3). -/
def State.isoInvalid (s : State) : State :=
  let was := s.flag HVM_STAT.ISO_VALID
  let s := ((s.put HVM_STAT.ISO_VALID false).put HVM_ISO.VALID false).set HVM_ISO.RKOHM 0xFFFF
  let s := s.put HVM_FLT.ISO_INVALID true
  s.when was fun s => s.raise 135

/-- The link or the supply is lost: every HV value is invalid, the insulation value among them (Table HVM-3). -/
def State.hvLost (s : State) : State := s.hvInvalid.when (s.flag HVM_STAT.ISO_VALID) State.isoInvalid

/-- ISOLATOR_LINK_LOSS (Table HVM-3): three consecutive frames missing or damaged, each counted. -/
def execIsolatorLinkLoss (s : State) : Host.Outcome State Fault Refusal :=
  .next (if s.flag HVM_STAT.LINK_OK then
    let s := s.bump HVM_LINKERR.COUNT 3
    ((s.put HVM_STAT.LINK_OK false).hvLost.put HVM_FLT.LINK_LOSS true).raiseD 128
  else s)

/-- ISOLATOR_LINK_RESTORED: 1 ms of good frames. It ends a supply fault too, which acts as a link loss, but
for a latched converter trip and before the section is ready. -/
def execIsolatorLinkRestored (s : State) : Host.Outcome State Fault Refusal :=
  .next (if s.hvPowered && !(s.flag THM_LATCH.HV_CONV) then
    let s := s.put HVM_STAT.LINK_OK true
    s.when (s.flag HVM_STAT.READY) fun s => s.put HVM_STAT.SUPPLY_OK true
  else s)

/-- HV_SUPPLY_FAULT: the isolated converter leaves its window. -/
def execHvSupplyFault (s : State) : Host.Outcome State Fault Refusal :=
  .next (if s.flag HVM_STAT.SUPPLY_OK then
    let s := s.put HVM_STAT.SUPPLY_OK false
    (s.hvLost.put HVM_FLT.SUPPLY true).raiseD 131
  else s)

/-- HV_SECTION_READY (R165): the first valid fine samples of every channel are out. -/
def execHvSectionReady (s : State) : Host.Outcome State Fault Refusal :=
  .next (if s.hvPowered && !(s.flag HVM_STAT.READY) && !(s.flag THM_LATCH.HV_CONV) then
    ((((s.put HVM_STAT.LINK_OK true).put HVM_STAT.SUPPLY_OK true).put HVM_STAT.READY true).raise 140).redrive
  else s)

/-- The section is powered down in a gait transition (R165): no fault, no source; supervision of the alive
code ends. -/
def State.hvDown (s : State) : State :=
  let s := ((s.put HVM_STAT.READY false).put HVM_STAT.LINK_OK false).put HVM_STAT.SUPPLY_OK false
  let s := (s.hvInvalid.put HVM_STAT.OVLD_HI false).set HVM_STAT.VINV 0
  let s := ((s.put HVM_STAT.HALL_OK false).set HVM_IHALL.VAL na32).put HVM_STAT.DIV_MISMATCH false
  let s := (s.put HVM_STAT.ISO_VALID false).put HVM_ISO.VALID false
  let s := (s.set HVM_ISO.RKOHM 0xFFFF).put HVM_STAT.ZERO_BUSY false
  let s := s.mapHvm fun x => { x with
    win := [], hist := [], since := 0, past := 0, rangeRun := 0, hallBad := 0, hallFlt := false, pchReq := 0, capRun := 0 }
  let s := (s.mapCrb fun x => { x with alive := false }).clrBitOf CRB_INPUT.CAUSES (Cause.foc - 1)
  s.pchAbort

/-! ### Insulation monitor (R160-R162) -/

/-- INSULATION_PERIOD_END (R160, R162): the settled node voltages of the two halves in mV, and whether a fit
residual exceeded 2 % of their difference. A difference of 2 · U0 or more has no finite resistance and
reads above 50 MΩ (log entry 68: DEDUCED). -/
def execInsulationPeriodEnd (vp vn : Int) (resid : Bool) (s : State) : Host.Outcome State Fault Refusal :=
  .next (if s.injOn = false then s
    else if s.crb.doMoved then s.mapCrb fun x => { x with doMoved := false }
    else
      let dv := vp - vn
      let k : Int := if 100000 ≤ dv then 50001 else divRound (2000 * dv) (100000 - dv).toNat
      let below : Bool := decide (dv < 100000 ∧ 2000 * dv < 10 * (100000 - dv))
      let above : Bool := decide (100000 ≤ dv ∨ 50000 * (100000 - dv) < 2000 * dv)
      let shown := (clampI 10 50000 k).toNat
      let run := if resid then min 3 (s.hvm.capRun + 1) else 0
      let t := s.nowUs
      let s := s.mapHvm fun x => { x with capRun := run, isoAt := some t }
      let s := ((s.set HVM_ISO.RKOHM shown).put HVM_ISO.BELOW below).put HVM_ISO.ABOVE above
      let s := (s.put HVM_ISO.CAPHIGH resid).raise 134
      if run = 3 then s.isoInvalid
      else
        let s := (s.put HVM_STAT.ISO_VALID true).put HVM_ISO.VALID true
        s.isoCompare shown below above)

/-- INSULATION_TIMEOUT (Table HVM-3): no valid value for 30 s while injection is on. -/
def execInsulationTimeout (s : State) : Host.Outcome State Fault Refusal :=
  .next (if s.injOn && s.flag HVM_STAT.ISO_VALID then s.isoInvalid else s)

/-! ### Command register (Table HVM-8) -/

/-- HVM_CMD.RANGE_RESET (R147). -/
def State.rangeReset (s : State) : State :=
  (s.put HVM_STAT.LOW_DIS false).mapHvm fun x => { x with rangeRun := 0 }

/-- HVM_CMD.QCLR (R152). -/
def State.qClr (s : State) : State := s.mapHvm fun x => { x with qclr := true }

/-- A write of HVM_CMD: every field at 1 acts; PCH_ARM and PCH_ABORT together abort. -/
def State.hvmCmd (s : State) (v : Nat) : State :=
  let s := s.when (bit v 0) State.zeroStart
  let s := s.when (bit v 1) State.qClr
  let s := s.when (bit v 2) State.rangeReset
  if bit v 9 then s.pchAsk 2 else if bit v 8 then s.pchAsk 1 else s

/-- A read of HVM_QLO (R152): the high word is held for the next read of HVM_QHI. -/
def State.qloRead (s : State) : Nat × State :=
  let hi := s.get HVM_QHI.VAL
  (s.get HVM_QLO.VAL, s.mapHvm fun x => { x with qhold := some hi })

/-- A read of HVM_QHI: the held copy once, else the counter. -/
def State.qhiRead (s : State) : Nat × State :=
  (s.hvm.qhold.getD (s.get HVM_QHI.VAL), s.mapHvm fun x => { x with qhold := none })

end Sys2Proof.Machine
end

