-- ==== Sys2Proof/Machine/Crypto.lean ====
section
/-! DEFINITION. SHA-256 and the verification of an ECDSA P-256 signature, which R440 names (FIPS 180-4,
FIPS 186-4; log entry 95: PRESUMED). Byte strings are big-endian lists of numbers below 256. The
constants of SHA-256 are computed from their definition. -/

namespace Sys2Proof.Crypto
open Sys2Proof

/-! ### SHA-256 -/

/-- Big-endian bytes as a number. -/
def ofBe (bs : List Nat) : Nat := bs.foldl (fun a b => a * 256 + b % 256) 0

/-- `n` as `k` big-endian bytes. -/
def beBytes (k n : Nat) : List Nat :=
  match k with
  | 0 => []
  | j + 1 => beBytes j (n / 256) ++ [n % 256]

/-- The largest number of `bits` bits whose `e`-th power does not exceed `n`, found from its top bit down, from `r`
on. -/
def rootFrom (e n bits r : Nat) : Nat :=
  match bits with
  | 0 => r
  | j + 1 => rootFrom e n j (if (r + 2 ^ j) ^ e ≤ n then r + 2 ^ j else r)

/-- The first 32 bits of the fractional part of the `e`-th root of `p`, for roots below 256. -/
def rootFrac (e p : Nat) : Nat := rootFrom e (p * 2 ^ (32 * e)) 40 0 % 2 ^ 32

/-- `n` has no divisor from 2 to `d + 1`. -/
def noDivisor (n d : Nat) : Bool :=
  match d with
  | 0 => true
  | j + 1 => decide (n % (j + 2) ≠ 0) && noDivisor n j

/-- The primes below 312, which are the first 64. -/
def firstPrimes : List Nat := ((List.range 310).map (· + 2)).filter fun n => noDivisor n (n - 2)

/-- The constants of the 64 rounds: fractions of the cube roots of the first 64 primes. -/
def shaConsts : List Nat := firstPrimes.map (rootFrac 3)

/-- The eight words that a block changes: those that end up as the first four and the last four of the digest. -/
structure ShaWords where
  head : Nat × Nat × Nat × Nat
  tail : Nat × Nat × Nat × Nat

/-- The words before the first block: fractions of the square roots of the first eight primes. -/
def shaStart : ShaWords :=
  let r (i : Nat) : Nat := rootFrac 2 (firstPrimes.getD i 2)
  { head := (r 0, r 1, r 2, r 3), tail := (r 4, r 5, r 6, r 7) }

/-- `x`, a word of 32 bits, with the exclusive or of its turns to the right by each of `turns`. -/
def turned (turns : List Nat) (x : Nat) : Nat :=
  turns.foldl (fun acc n => acc ^^^ ((x * (2 ^ 32 + 1)) / 2 ^ n % 2 ^ 32)) 0

/-- Where a bit of `m` is 1 the bit of `x`, elsewhere that of `y`. -/
def pickBits (m x y : Nat) : Nat := y ^^^ (m &&& (x ^^^ y))

/-- One round with constant `k` and schedule word `w` (FIPS 180-4, 6.2.2). -/
def ShaWords.round (v : ShaWords) (k w : Nat) : ShaWords :=
  let x := v.head
  let y := v.tail
  let mixed := y.2.2.2 + k + w + turned [6, 11, 25] y.1 + pickBits y.1 y.2.1 y.2.2.1
  let major := pickBits (x.1 ^^^ x.2.1) x.2.2.1 x.1
  { head := ((mixed + turned [2, 13, 22] x.1 + major) % 2 ^ 32, x.1, x.2.1, x.2.2.1)
    tail := ((x.2.2.2 + mixed) % 2 ^ 32, y.1, y.2.1, y.2.2.1) }

/-- The rounds with the constants `ks`; `win` holds the next 16 words of the schedule, which grows at its end as its
head is used. -/
def ShaWords.rounds (v : ShaWords) (ks win : List Nat) : ShaWords :=
  match ks with
  | [] => v
  | k :: more =>
    let at_ (i : Nat) : Nat := win.getD i 0
    let grown := at_ 0 + (turned [7, 18] (at_ 1) ^^^ (at_ 1 / 2 ^ 3)) + at_ 9
      + (turned [17, 19] (at_ 14) ^^^ (at_ 14 / 2 ^ 10))
    ShaWords.rounds (v.round k (at_ 0)) more (win.tail ++ [grown % 2 ^ 32])

/-- The eight words in their order. -/
def ShaWords.list (v : ShaWords) : List Nat :=
  [v.head.1, v.head.2.1, v.head.2.2.1, v.head.2.2.2, v.tail.1, v.tail.2.1, v.tail.2.2.1, v.tail.2.2.2]

/-- Word by word sums of two sets of words. -/
def ShaWords.plus (u v : ShaWords) : ShaWords :=
  let s (a b : Nat) : Nat := (a + b) % 2 ^ 32
  { head := (s u.head.1 v.head.1, s u.head.2.1 v.head.2.1, s u.head.2.2.1 v.head.2.2.1, s u.head.2.2.2 v.head.2.2.2)
    tail := (s u.tail.1 v.tail.1, s u.tail.2.1 v.tail.2.1, s u.tail.2.2.1 v.tail.2.2.1, s u.tail.2.2.2 v.tail.2.2.2) }

/-- `n` blocks of a padded message. -/
def ShaWords.absorb (v : ShaWords) (n : Nat) (bs : List Nat) : ShaWords :=
  match n with
  | 0 => v
  | j + 1 =>
    let words := (List.range 16).map fun i => ofBe ((bs.drop (4 * i)).take 4)
    ShaWords.absorb (v.plus (v.rounds shaConsts words)) j (bs.drop 64)

/-- SHA-256 of a byte string, as 32 bytes: a 1 bit, zeros and the length in bits fill the last block. -/
def sha256 (bs : List Nat) : List Nat :=
  let blocks := (bs.length + 9 + 63) / 64
  let zeros := 64 * blocks - bs.length - 9
  (shaStart.absorb blocks (bs ++ 0x80 :: (List.replicate zeros 0 ++ beBytes 8 (8 * bs.length)))).list.flatMap (beBytes 4)

/-! ### ECDSA over P-256 -/

/-- The field prime, the order of the base point, the coefficient b, and the base point. -/
def ecP : Nat := 0xffffffff00000001000000000000000000000000ffffffffffffffffffffffff
def ecN : Nat := 0xffffffff00000000ffffffffffffffffbce6faada7179e84f3b9cac2fc632551
def ecB : Nat := 0x5ac635d8aa3a93e7b3ebbd55769886bc651d06b0cc53b0f63bce3c3e27d2604b
def ecGx : Nat := 0x6b17d1f2e12c4247f8bce6e563a440f277037d812deb33a0f4a13945d898c296
def ecGy : Nat := 0x4fe342e2fe1a7f9b8ee7eb4a7c0f9e162bce33576b315ececbb6406837bf51f5

/-- `a` to the power `e` modulo `m`, over `k` bits of `e`. -/
def powMod (k a e m : Nat) : Nat :=
  match k with
  | 0 => 1 % m
  | j + 1 =>
    let h := powMod j (a * a % m) (e / 2) m
    if e % 2 = 1 then h * a % m else h

/-- The inverse modulo the prime `m`. -/
def invMod (a m : Nat) : Nat := powMod 256 (a % m) (m - 2) m

/-- Addition on the curve; none is the point at infinity. -/
def ecAdd (p q : Option (Nat × Nat)) : Option (Nat × Nat) :=
  match p, q with
  | none, q => q
  | p, none => p
  | some (x1, y1), some (x2, y2) =>
    if x1 = x2 ∧ (y1 + y2) % ecP = 0 then none
    else
      let l := if x1 = x2 then (3 * x1 * x1 + (ecP - 3)) * invMod (2 * y1) ecP % ecP
        else (y2 + ecP - y1) * invMod (x2 + ecP - x1) ecP % ecP
      let x := (l * l + 2 * ecP - x1 - x2) % ecP
      some (x, (l * (x1 + ecP - x) + ecP - y1) % ecP)

/-- Multiplication by the `k`-bit number `n`. -/
def ecMul (k n : Nat) (p : Option (Nat × Nat)) : Option (Nat × Nat) :=
  match k with
  | 0 => none
  | j + 1 =>
    let r := ecMul j (n / 2) (ecAdd p p)
    if n % 2 = 1 then ecAdd r p else r

/-- Is (r, s) a valid signature of the digest `e` under the public key (x, y)? -/
def ecdsaOk (e x y r s : Nat) : Bool :=
  if x < ecP ∧ y < ecP ∧ (y * y) % ecP = (x * x * x + (ecP - 3) * x + ecB) % ecP ∧
      0 < r ∧ r < ecN ∧ 0 < s ∧ s < ecN then
    let w := invMod s ecN
    match ecAdd (ecMul 256 (e * w % ecN) (some (ecGx, ecGy))) (ecMul 256 (r * w % ecN) (some (x, y))) with
    | none => false
    | some (px, _) => decide (px % ecN = r)
  else false

end Sys2Proof.Crypto
end

