-- ==== Sys2Proof/Machine/Nvm.lean ====
section
/-! DEFINITION. The reserve, the commit engine and the event recorder: their events and the actions of
their registers (R417-R438). -/

namespace Sys2Proof.Machine
open Sys2Proof Sys2Proof.Reg

/-! ### Commits (R421-R426) -/

/-- Bytes `a` to `a + n - 1` with contents nobody can tell: a write that failed its verification. -/
def State.spoil (s : State) (a n : Nat) : State :=
  (List.range n).foldl (fun (s : State) i =>
    let d := s.draw 8
    d.2.setByte (a + i) (BitVec.ofNat 8 d.1)) s

/-- A log record waits while a clear runs (R435). -/
def State.logWaits (s : State) (c : Commit) : Bool :=
  s.nvm.clearing.isSome && decide (c.kind = .log)

/-- Two queued commits have the same CLASS and INDEX. -/
def Commit.same (a b : Commit) : Bool :=
  decide (a.kind.cls = b.kind.cls) && decide (a.index = b.index)
    && decide (a.kind = .clear ↔ b.kind = .clear)

/-- NVM_STAT.DEFERRING. -/
def State.deferring (s : State) : Bool := s.nvm.queue.any fun c => c.deferred.isSome

/-- The search of R423 over the queue: the commit that starts, and the queue after it with deferrals
marked. `seen` are the older commits passed over. -/
def pickCommit (e now : Nat) (wait : Commit → Bool) (seen : List Commit) (l : List Commit) :
    Option Commit × List Commit :=
  match l with
  | [] => (none, [])
  | c :: rest =>
    if wait c || seen.any (fun o => o.same c) then
      let r := pickCommit e now wait (seen ++ [c]) rest
      (r.1, c :: r.2)
    else if c.kind.needs ≤ e then (some c, rest)
    else
      let c' := if c.deferred.isSome then c else { c with deferred := some now }
      let r := pickCommit e now wait (seen ++ [c]) rest
      (r.1, c' :: r.2)

/-- The data of a commit, read from SRC when it starts (R421). -/
def State.commitData (s : State) (c : Commit) : Commit :=
  if c.owner.isSome then { c with data := s.getBytes c.src c.len } else c

/-- A commit ends: its result to the issuer; STATUS other than 0 is reported (R424). -/
def State.commitResult (s : State) (c : Commit) (res status val : Nat) : State :=
  let s := if status = 0 then s else (s.put NVM_FLT.COMMIT_FAIL true).raise 241
  let s := if c.kind = .seal then 
      let w := (List.range 5).map fun i => ofLe ((c.data.drop (4 * i)).take 4)
      s.mapCrb fun x => { x with sealDone := x.sealDone ++ [(decide (status = 0), w)] } else s
  match c.owner with
  | some (k, t) => s.complete k t res status val
  | none => s

/-- A commit starts at the free MRAM port: its data are read; a record is placed, or dropped at once with
RES 2 (R423, R433). -/
def State.commitBegin (s : State) (c : Commit) : State :=
  let c := s.commitData c
  if c.kind = .log then
    let r := s.place c
    match r.1 with
    | some c' => r.2.mapNvm fun x => { x with running := some c' }
    | none => r.2.commitResult c 2 0 0
  else s.mapNvm fun x => { x with running := some c }

/-- COMMIT_START (R423): the MRAM port is free; a commit of the curb logic goes first. -/
def execCommitStart (s : State) :
    Host.Outcome State Fault Refusal :=
  if s.nvm.running.isSome then .next s
  else
    let was := s.deferring
    let first := s.nvm.queue.filter fun c => decide (c.kind = .seal)
    let others := s.nvm.queue.filter fun c => decide (c.kind ≠ .seal)
    let r := pickCommit (s.get NVM_RSVE.UJ) s.nowUs (fun c => s.logWaits c) [] (first ++ others)
    let s := s.mapNvm fun x => { x with queue := r.2 }
    let s := if s.deferring && !was then (s.put NVM_FLT.DEFER true).raise 240
      else s.when s.deferring fun s => s.put NVM_FLT.DEFER true
    match r.1 with
    | none => .next s
    | some c => .next (s.commitBegin c)

/-- A verified copy frame becomes current (R426). -/
def State.frameDone (s : State) (settings : Bool) (c : Commit) (fmt : Nat) : State × Nat :=
  let n := s.nextCopy settings c.index
  let s := s.setBytes (frameAddr settings c.index n.1) (frameBytes c.data settings c.index fmt n.2)
  let s := s.setBitOf (validReg settings) c.index
  (if n.1 = 1 then s.setBitOf (curReg settings) c.index else s.clrBitOf (curReg settings) c.index, n.2)

/-- Address of counters copy `c` and the bytes of the record (R429). -/
def State.counterBytes (s : State) (seq : Nat) : List Nat :=
  let b := leBytes 4 (s.get NVM_PWRCYC.COUNT) ++ leBytes 4 (s.get NVM_OPTIME.SEC) ++ leBytes 4 seq
  b ++ leBytes 4 (crc32c b)

/-- Copy and SEQ of the next counters commit. -/
def State.counterNext (s : State) : Nat × Nat :=
  match s.cntCur with
  | some c => (1 - c, (s.word (0x40020008 + 16 * c) + 1) % 2 ^ 32)
  | none => (0, 1)

/-- The bytes of a boot record with its SEQ and CRC (Table UPD-2). -/
def bootBytes (seq : Nat) (body : List Nat) : List Nat :=
  let b := leBytes 4 seq ++ body
  let b := (b ++ List.replicate (0xFC - b.length) 0).take 0xFC
  b ++ leBytes 4 (crc32c b)

/-- Boot record copy `c` is valid. -/
def State.bootValid (s : State) (c : Nat) : Bool :=
  let a := 0x40030000 + 256 * c
  decide (s.word (a + 0xFC) = crc32c (s.getBytes a 0xFC)) && !((s.getBytes a 256).all fun b => decide (b = 0))

/-- The valid boot record copy with the larger SEQ (R442). -/
def State.bootCur (s : State) : Option Nat :=
  match s.bootValid 0, s.bootValid 1 with
  | true, true => if s.word 0x40030000 < s.word 0x40030100 then some 1 else some 0
  | true, false => some 0
  | false, true => some 1
  | false, false => none

/-- The place a commit writes: its address and length. -/
def State.commitPlace (s : State) (c : Commit) : Nat × Nat :=
  match c.kind with
  | .ledger => (frameAddr false c.index (s.nextCopy false c.index).1, 0x400)
  | .settings => (frameAddr true c.index (s.nextCopy true c.index).1, 0x400)
  | .seal => (frameAddr true 0 (s.nextCopy true 0).1, 0x400)
  | .log => (slotAddr c.slot, (recordBytes c).length)
  | .counters => (0x40020000 + 16 * s.counterNext.1, 16)
  | .clear => (slotAddr (2 * c.index), 512)
  | .boot => (0x40030000 + 256 * (match s.bootCur with
    | some c => 1 - c
    | none => 0), 256)

/-- A boot record is written over the copy with the lower SEQ. -/
def State.bootWrite (s : State) (body : List Nat) : State :=
  match s.bootCur with
  | some c => s.setBytes (0x40030000 + 256 * (1 - c))
      (bootBytes ((s.word (0x40030000 + 256 * c) + 1) % 2 ^ 32) body)
  | none => s.setBytes 0x40030000 (bootBytes 1 body)

/-- A commit is written and verified: its effect on the MRAM, and its result value (R424). -/
def State.commitWrite (s : State) (c : Commit) : State × Nat :=
  match c.kind with
  | .ledger => s.frameDone false c 1
  | .settings => s.frameDone true c c.code
  | .seal => s.frameDone true { c with index := 0 } 1
  | .log => (s.setBytes (slotAddr c.slot) (recordBytes c), c.seq)
  | .counters =>
    let n := s.counterNext
    (s.setBytes (0x40020000 + 16 * n.1) (s.counterBytes n.2), n.2)
  | .clear =>
    let s := s.setBytes (slotAddr (2 * c.index)) (List.replicate 512 0)
    let k := c.index + 1
    let s := s.mapNvm fun x => { x with clearing := some k }
    (if k < 8192 then s.enqueue { Commit.blank .clear with index := k } else s, 0)
  | .boot => (s.bootWrite c.data, 0)

/-- The running commit completes from the reserve, whatever happens to the module (R422). -/
def State.finishRunning (s : State) : State :=
  match s.nvm.running with
  | some c => ((s.mapNvm fun x => { x with running := none }).commitWrite c).1
  | none => s

/-- COMMIT_DONE (R422, R424): the running commit is written and verified, or fails twice. -/
def execCommitDone (ok : Bool) (s : State) :
    Host.Outcome State Fault Refusal :=
  match s.nvm.running with
  | none => .next s
  | some c =>
    let s := s.mapNvm fun x => { x with running := none }
    if ok then
      let r := s.commitWrite c
      .next (r.1.commitResult c 0 0 r.2)
    else
      let p := s.commitPlace c
      let s := s.spoil p.1 p.2
      let s := s.when (decide (c.kind = .log)) fun s => s.logCount (s.get LOG_STAT.COUNT - 1)
      .next (s.commitResult c 4 1 0)

/-- Commit `c` has waited DEFTMO seconds since its first deferral (R423). -/
def State.deferredOut (s : State) (c : Commit) : Bool :=
  match c.deferred with
  | some d => decide (d + 1000000 * s.get NVM_CFG.DEFTMO ≤ s.nowUs)
  | none => false

/-- COMMIT_ABANDON (R423, R424): the oldest commit that has not started DEFTMO seconds after its first deferral ends:
RES 3; a log record counts as dropped. Before any has waited so long, nothing happens (log entry 130: DEDUCED). -/
def execCommitAbandon (s : State) :
    Host.Outcome State Fault Refusal :=
  match s.nvm.queue.find? s.deferredOut with
  | none => .next s
  | some c =>
    let s := s.mapNvm fun x => { x with queue := x.queue.erase c }
    if c.kind.cls = 1 then
      let s := s.when (decide (c.kind = .log)) fun s =>
        (s.bump LOG_DROPCNT.COUNT 1).put LOG_FLT.DROP true
      .next (s.commitResult c 3 0 0)
    else .next (s.commitResult c 3 5 0)

/-! ### Rate limiter (R432) -/

/-- LIMITER_SECOND: overdue LOG_SUPPRESSED records are written, and AUTO slots full for 10 min are freed. -/
def execLimiterSecond (s : State) :
    Host.Outcome State Fault Refusal :=
  .next ((List.range 64).foldl (fun (s : State) k =>
    let x := s.lim k
    if 0 < s.get (LOG_LIMST.SUPP k) then
      if 59 ≤ x.age then s.writeSuppressed k else s.setLim k { x with age := x.age + 1, full := 0 }
    else if k < 63 ∧ s.get (LOG_LIM.AUTO k) = 1 ∧ s.get (LOG_LIMST.BOUND k) ≠ 0xFFFF ∧
        s.get (LOG_LIM.BURST k) ≤ s.get (LOG_LIMST.TOKENS k) then
      if 599 ≤ x.full then (s.set (LOG_LIMST.BOUND k) 0xFFFF).setLim k { limBlank with tokAt := x.tokAt }
      else s.setLim k { x with full := x.full + 1 }
    else s.setLim k { x with full := 0 }) s)

/-- LIMITER_TOKEN_GAIN: 60 / RATE seconds have passed for slot `k` (R432); before that, nothing happens (log entry 130:
DEDUCED). -/
def execLimiterTokenGain (k : BitVec 6) (s : State) :
    Host.Outcome State Fault Refusal :=
  let k := k.toNat
  let x := s.lim k
  if 60000000 ≤ s.get (LOG_LIM.RATE k) * (s.nowUs - x.tokAt) then
    .next ((s.set (LOG_LIMST.TOKENS k) (min (s.get (LOG_LIM.BURST k)) (s.get (LOG_LIMST.TOKENS k) + 1))).setLim k
      { x with tokAt := s.nowUs })
  else .next s

/-! ### The reserve (R418-R420) -/

/-- Usable energy in µJ at `mv` with `mf` (R419): half of C times (V squared less 2.70 V squared). -/
def reserveEnergy (mf mv : Nat) : Nat :=
  (divRound ((mf : Int) * ((mv : Int) * mv - 2700 * 2700)) 2000).toNat

/-- The reserve load test begins and stops the charger (R420). -/
def State.loadTest (s : State) : State :=
  (s.put SYS_PWRSTAT.CHG false).mapNvm fun x => { x with testDue := false, testRun := true }

/-- RESERVE_MEASURE (R419): the reserve reads `mv`; it may start the due load test or a waiting block
program. -/
def execReserveMeasure (mv : BitVec 16) (s : State) :
    Host.Outcome State Fault Refusal :=
  if s.gait < 2 then .next s
  else
    let v := mv.toNat
    let mf := match s.nvm.cap with
      | some c => c
      | none => s.get NVM_RSVTST.CAP
    let e := min (2 ^ 32 - 1) (reserveEnergy mf v)
    let s := ((s.set NVM_RSVV.MV v).set NVM_RSVE.UJ e).put NVM_STAT.RSV_FULL (decide (4900 ≤ v))
    let s := s.mapNvm fun x => { x with wasFull := x.wasFull || decide (4900 ≤ v) }
    let s := s.when (s.nvm.testDue && decide (4950 ≤ v) && s.flag SYS_PWRSTAT.AUX_OK) State.loadTest
    .next (s.mapUpd fun x =>
      match x.job with
      | .prog b on => { x with job := .prog b (on || decide (15000 ≤ e)) }
      | _ => x)

/-- RESERVE_LOW (R419): V has stayed below 4.50 V for 1 s with AUX present, after the first full charge. -/
def execReserveLow (s : State) :
    Host.Outcome State Fault Refusal :=
  if s.flag SYS_PWRSTAT.AUX_OK = true ∧ s.nvm.wasFull = true ∧ s.get NVM_RSVV.MV < 4500 then
    .next ((s.put NVM_FLT.RSV_LOW true).raise 242)
  else .next s

/-- RESERVE_TEST_DONE (R420): the 20 ms load test gives capacitance in mF and ESR in mΩ. -/
def execReserveTestDone (cap esr : BitVec 16) (s : State) :
    Host.Outcome State Fault Refusal :=
  if s.nvm.testRun = false then .next s
  else
    let pass : Bool := decide (800 ≤ cap.toNat ∧ esr.toNat ≤ 150)
    let s := (s.set NVM_RSVTST.CAP cap.toNat).set NVM_RSVTST.ESR esr.toNat
    let s := (s.mapNvm fun x => { x with testRun := false }).put NVM_STAT.RSV_OK pass
    let s := s.put SYS_PWRSTAT.CHG (s.flag SYS_PWRSTAT.AUX_OK)
    let s := if pass then s.mapNvm fun x => { x with cap := some cap.toNat }
      else (s.put NVM_FLT.RSV_TEST_FAIL true).raise 243
    .next (s.hwRecord 0x0024 (if pass then 1 else 6)
      (leBytes 4 (s.regWord NVM_RSVTST.CAP.addr) ++ leBytes 4 (b2n pass)))

/-- NVM_CMD (R420, R427). -/
def State.nvmCmd (s : State) (v : Nat) : State :=
  let s := s.when (bit v 0 && s.flag NVM_STAT.RSV_OK) fun s => s.put NVM_STAT.LEDGER_OK true
  s.when (bit v 1 && (decide (s.gait = Gait.walk) || decide (s.gait = Gait.halt))) State.loadTest

/-! ### Counters and clears (R429, R435) -/

/-- COUNTER_COMMIT (R429): 60 s of OPTIME have passed since the last counters commit; in Paddock the commit waits for
the wake. -/
def execCounterCommit (s : State) :
    Host.Outcome State Fault Refusal :=
  if 2 ≤ s.gait ∧ s.nvm.countersAt + 60 ≤ s.get NVM_OPTIME.SEC then .next s.queueCounters else .next s

/-- LOG_CMD (R435): a keyed clear in Walk or Halt with DO12 to DO15 off. -/
def State.logCmd (s : State) (v : Nat) : State :=
  if bit v 0 = true ∧ bits v 16 16 = 0xC1EA ∧ (s.gait = Gait.walk ∨ s.gait = Gait.halt) ∧
      s.contactorOn = false ∧ s.nvm.clearing = none then
    ((s.put LOG_STAT.CLEARING true).mapNvm fun x => { x with clearing := some 0 }).enqueue
      (Commit.blank .clear)
  else s

/-- LOG_CLEAR_DONE (R435): every slot is 0: NEXTSEQ 1, the layout applies, source 247. -/
def execLogClearDone (s : State) :
    Host.Outcome State Fault Refusal :=
  if s.nvm.clearing = some 8192 then
    let s := (s.set LOG_NEXTSEQ.SEQ 1).set LOG_STAT.LAYOUT (s.get LOG_CFG.LAYOUT)
    let s := (s.logCount 0).put LOG_STAT.CLEARING false
    .next ((s.mapNvm fun x => { x with clearing := none, circ := 16383, written := 0 }).raise 247)
  else .next s

/-! ### Boot scan (R427, R429, R436) -/

/-- A byte other than 0 is held at `a` to `a + n - 1`. -/
def State.anyByte (s : State) (a n : Nat) : Bool :=
  s.mem.any fun e => decide (a ≤ e.1 ∧ e.1 < a + n) && decide (e.2 ≠ 0)

/-- The current copy of block or item `i`, with the flags and records of a torn or lost copy (R427). -/
def State.scanFrame (s : State) (settings : Bool) (i : Nat) : State :=
  let v (c : Nat) : Bool := s.frameValid settings i c
  let held (c : Nat) : Bool := s.anyByte (frameAddr settings i c) 0x400
  let torn := if settings then NVM_FLT.SET_TORN else NVM_FLT.LED_TORN
  let lost := if settings then NVM_FLT.SET_LOST else NVM_FLT.LED_LOST
  let use (s : State) (c : Nat) : State :=
    let s := s.setBitOf (validReg settings) i
    if c = 1 then s.setBitOf (curReg settings) i else s.clrBitOf (curReg settings) i
  let hurt (s : State) : State := s.mapNvm fun x => { x with damage := true }
  if v 0 && v 1 then
    use s (if s.frameSeq settings i 0 < s.frameSeq settings i 1 then 1 else 0)
  else if v 0 || v 1 then
    let c := if v 0 then 0 else 1
    let seq := s.frameSeq settings i c
    let s := use s c
    if held (1 - c) then
      hurt ((s.put torn true).hwRecord (if settings then 0x0022 else 0x0020) (if settings then 4 else 5)
        ([i, 1 - c, 0, 0] ++ leBytes 4 seq))
    else s
  else
    let s := s.clrBitOf (validReg settings) i
    if held 0 || held 1 then
      hurt ((s.put lost true).hwRecord (if settings then 0x0023 else 0x0021) (if settings then 5 else 6)
        [i, 0, 0, 0])
    else s

/-- The recorder slots with a byte listed. -/
def State.slotsHeld (s : State) : List Nat :=
  (s.mem.foldl (fun (l : List Nat) e =>
    if 0x40100000 ≤ e.1 ∧ e.1 < 0x40500000 then
      let k := (e.1 - 0x40100000) / 256
      if l.headD 16384 = k then l else k :: l
    else l) []).reverse

/-- The scan of the event recorder (R436); a record with FLAGS.KEPT shows that the log has the legacy layout
(log entry 22: DEDUCED). -/
def State.scanLog (s : State) : State :=
  let held := s.slotsHeld.filter fun k => s.anyByte (slotAddr k) 20
  let valid := held.filter fun k => s.slotValid k
  let torn := held.length - valid.length
  let top := valid.foldl (fun m k => max m (s.slotSeq k)) 0
  let s := ((s.set LOG_NEXTSEQ.SEQ (top + 1)).logCount valid.length).put LOG_STAT.SCAN_DONE true
  let legacy := valid.any fun k => bit ((s.byte (slotAddr k + 15)).toNat) 3
  let s := s.put LOG_STAT.LAYOUT legacy
  let ring := valid.filter fun k => decide (256 ≤ k)
  let circ := ring.foldl (fun (b : Nat) k =>
    if b = 16384 then k else if s.slotSeq b < s.slotSeq k then k else b) 16384
  let kept := (valid.filter fun k => decide (k < 256)).length
  let s := s.mapNvm fun x => { x with
    circ := if circ = 16384 then 16383 else circ
    written := if circ = 16384 then kept else max 256 kept }
  let s := s.set LOG_TORNCNT.COUNT (min 65535 torn)
  if torn = 0 then s else (s.put LOG_FLT.TORN true).hwRecord 0x0025 3 (leBytes 4 torn)

/-- The counters at boot; a boot counts one power cycle (R429). -/
def State.scanCounters (s : State) : State :=
  let s := match s.cntCur with
    | some c => (s.set NVM_PWRCYC.COUNT (s.word (0x40020000 + 16 * c))).set NVM_OPTIME.SEC
        (s.word (0x40020004 + 16 * c))
    | none =>
      let s := (s.set NVM_PWRCYC.COUNT 0).set NVM_OPTIME.SEC 0
      if s.cntEmpty 0 && s.cntEmpty 1 then s
      else (s.put NVM_FLT.CNT_LOST true).mapNvm fun x => { x with damage := true }
  (s.set NVM_PWRCYC.COUNT (s.get NVM_PWRCYC.COUNT + 1)).queueCounters

/-- The boot scan of counters, log, ledger and settings (R427, R429, R436). -/
def State.bootScan (s : State) : State :=
  let s := s.scanCounters.scanLog
  let s := (List.range 32).foldl (fun (s : State) i => s.scanFrame false i) s
  (List.range 32).foldl (fun (s : State) i => s.scanFrame true i) s

end Sys2Proof.Machine
end

