-- ==== Sys2Proof/Machine/UpdOps.lean ====
section
/-! DEFINITION. Firmware update: images and slots, the boot record, the session, trial and fallback, and the
choice of the boot ROM (R440-R452). Slot 0 is A, 1 is B. -/

namespace Sys2Proof.Machine
open Sys2Proof Sys2Proof.Reg

/-- Slot states (Table UPD-2). -/
def Slot.empty : Nat := 0
def Slot.receiving : Nat := 1
def Slot.verified : Nat := 2
def Slot.armed : Nat := 3
def Slot.trial : Nat := 4
def Slot.confirmed : Nat := 5
def Slot.rejected : Nat := 6

/-- Base address of an image slot (Table ARC-11). -/
def slotBase (k : Nat) : Nat := 0x50100000 + k * 0xC00000

/-- The register of a slot's state. -/
def slotReg (k : Nat) : Fld := if k = 0 then UPD_SLOTA.STATE else UPD_SLOTB.STATE

/-- State of slot `k`. -/
def State.slotSt (s : State) (k : Nat) : Nat := s.get (slotReg k)

/-- The running and the inactive slot. -/
def State.runSlot (s : State) : Nat := s.get UPD_STAT.RUNSLOT
def State.idleSlot (s : State) : Nat := 1 - s.runSlot

/-! ### Images (R440) -/

/-- IMGLEN in the header of slot `k`. -/
def State.imgLen (s : State) (k : Nat) : Nat := s.word (slotBase k + 8)

/-- A length an image may have. -/
def imgLenOk (n : Nat) : Bool := decide (n % 4 = 0 ∧ 4096 ≤ n ∧ n ≤ 12582912)

/-- The header is as Table UPD-1 states, and every byte beyond the image reads 0xFF. -/
def State.imageHeader (s : State) (k : Nat) : Bool :=
  let b := slotBase k
  decide (s.word b = 0x47315A05) && decide (s.load 2 (b + 4) = 1) && decide (s.load 2 (b + 6) = 0)
    && imgLenOk (s.imgLen k) && decide (s.word (b + 0x1C) = 0) && decide (s.load 2 (b + 0x20) = 1)
    && ((s.getBytes (b + 0x60) 0xA0).all fun x => decide (x = 0))
    && !(s.mem.any fun e => decide (b + s.imgLen k ≤ e.1 ∧ e.1 < b + 0xC00000) && decide (e.2 ≠ 0xFF))

/-- The image identity: SHA-256 of bytes 0 to IMGLEN - 129. -/
def State.imageId (s : State) (k : Nat) : List Nat :=
  Crypto.sha256 (s.getBytes (slotBase k) (s.imgLen k - 128))

/-- The OTP key hash, factory data (log entry 2: DESIGN CHOICE). -/
def otpKeyHash : List Nat := Crypto.beBytes 32 (Config.factory 0 0 % 2 ^ 256)

/-- Key and signature of the image in slot `k` (log entry 95: PRESUMED). -/
def State.imageSigned (s : State) (k : Nat) : Bool :=
  let t := slotBase k + s.imgLen k - 128
  let w (i : Nat) : Nat := Crypto.ofBe (s.getBytes (t + 32 * i) 32)
  decide (Crypto.sha256 (s.getBytes t 64) = otpKeyHash)
    && Crypto.ecdsaOk (Crypto.ofBe (s.imageId k)) (w 0) (w 1) (w 2) (w 3)

/-- The image in slot `k` verifies. -/
def State.imageOk (s : State) (k : Nat) : Bool := s.imageHeader k && s.imageSigned k

/-! ### The boot record (R441, R442) -/

/-- The fields of the boot record after SEQ (Table UPD-2). -/
def State.bootBody (s : State) : List Nat :=
  let b := s.upd.boot
  [b.conf, b.pend, b.trials, s.slotSt 0, s.slotSt 1, 0, 0, 0] ++ leBytes 4 b.trstart ++ leBytes 4 b.imglen
    ++ (b.identA ++ List.replicate 32 0).take 32 ++ (b.identB ++ List.replicate 32 0).take 32

/-- `s` with the live boot record changed. -/
def State.mapBoot (s : State) (g : BootRec → BootRec) : State :=
  s.mapUpd fun x => { x with boot := g x.boot }

/-- The boot record goes to the MRAM as a settings-class commit (R442). -/
def State.commitBoot (s : State) : State :=
  s.enqueue { Commit.blank .boot with index := 32, data := s.bootBody }

/-- Identity stored for slot `k`. -/
def State.slotIdent (s : State) (k : Nat) : List Nat :=
  if k = 0 then s.upd.boot.identA else s.upd.boot.identB

/-! ### Maps and progress (R441, R444) -/

/-- Blocks of the session's image. -/
def State.updBlocks (s : State) : Nat := (s.upd.boot.imglen + 1023) / 1024

/-- Block `b` of the session is verified in flash. -/
def State.blockHeld (s : State) (b : Nat) : Bool := (s.byte (0x40031000 + b / 8)).getLsbD (b % 8)

/-- Bit `i` of a map in the MRAM set. -/
def State.setMap (s : State) (base i : Nat) : State :=
  let a := base + i / 8
  s.setByte a (BitVec.ofNat 8 (setBit (s.byte a).toNat (i % 8)))

/-- Both maps cleared. -/
def State.clearMaps (s : State) : State := s.loseMem 0x40031000 0x40031818

/-- UPD_RECV. -/
def State.recvShow (s : State) : State :=
  let n := s.updBlocks
  let held := ((List.range n).filter fun b => s.blockHeld b).length
  let miss := ((List.range n).find? fun b => !(s.blockHeld b)).getD n
  (s.set UPD_RECV.HELD held).set UPD_RECV.FIRSTMISS miss

/-- Every block of the session is held. -/
def State.updFull (s : State) : Bool := (List.range s.updBlocks).all fun b => s.blockHeld b

/-- SESS that follows from the inactive slot's state (R453). -/
def State.sessOf (s : State) : Nat :=
  let t := s.slotSt s.idleSlot
  if t = Slot.receiving then (if s.updFull then 2 else 1)
  else if t = Slot.verified then 4 else if t = Slot.armed then 5 else 0

/-! ### Commands (R443-R450) -/

/-- A command ends with RES; 0x4 to 0x8 report a failure with source 255. -/
def State.updEnd (s : State) (res : Nat) : State :=
  let s := (s.set UPD_STAT.RES res).put UPD_STAT.BUSY false
  let s := s.mapUpd fun x => { x with job := .idle }
  if 4 ≤ res then (s.put UPD_FLT.CMDFAIL true).raise 255 else s

/-- A command that is refused, or acts at once, gives RES; one that runs goes on (R453). -/
def State.updRes (s : State) (res : Nat) : State := s.set UPD_STAT.RES res

/-- The pair state in which the UPD block refuses (R452). -/
def State.updPaired (s : State) : Bool :=
  decide (Pair.feed ≤ s.get TDM_STAT.STATE ∧ s.get TDM_STAT.STATE ≤ Pair.standby)

/-- The identity in UPD_IDENT0-7. -/
def State.updIdent (s : State) : List Nat :=
  (List.range 8).flatMap fun i => leBytes 4 (s.get (UPD_IDENT.WORD i))

/-- BEGIN (R443); a length no image can have is refused (log entry 96: DEDUCED). -/
def State.updBegin (s : State) : State :=
  let k := s.idleSlot
  let n := s.get UPD_IMGLEN.BYTES
  if s.updPaired then s.updRes 3
  else if s.flag UPD_STAT.TRIAL ∨ s.flag UPD_STAT.BUSY ∨ imgLenOk n = false then s.updRes 2
  else
    let t := s.slotSt k
    let id := s.updIdent
    let resume : Bool := (decide (t = Slot.receiving) || decide (t = Slot.verified))
      && decide (s.slotIdent k = id) && decide (s.upd.boot.imglen = n)
    let s := if resume then s.put UPD_STAT.RESUMED true
      else
        let s := (s.put UPD_STAT.RESUMED false).clearMaps
        let s := s.set (slotReg k) Slot.receiving
        let s := s.mapBoot fun b => { b with
          imglen := n, identA := if k = 0 then id else b.identA
          identB := if k = 1 then id else b.identB, pend := if b.pend = k then 0xFF else b.pend }
        s.commitBoot
    let s := s.recvShow
    ((s.set UPD_STAT.SESS s.sessOf).raise 248).updEnd 0

/-- The 1,024 bytes of UPD_STAGE. -/
def State.stage (s : State) : List Nat :=
  (List.range 256).flatMap fun i => leBytes 4 (s.get (UPD_STAGE.WORD i))

/-- Address of block `b` in the inactive slot. -/
def State.blockAddr (s : State) (b : Nat) : Nat := slotBase s.idleSlot + 1024 * b

/-- PROG (R444): a block already held is compared; another one is programmed once the reserve holds 15 mJ
(R442). A block or padding that does not fit the image ends with RES 0x4 (log entry 96: DEDUCED). -/
def State.updProg (s : State) : State :=
  let b := s.get UPD_BLOCK.BLOCK
  if s.flag UPD_STAT.BUSY then s
  else if s.updPaired then s.updRes 3
  else if s.slotSt s.idleSlot ≠ Slot.receiving then s.updRes 2
  else
    let pad := 1024 * (b + 1) - s.upd.boot.imglen
    let fits : Bool := decide (b < s.updBlocks) && ((s.stage.drop (1024 - pad)).all fun x => decide (x = 0xFF))
    if fits = false then s.updEnd 4
    else if s.blockHeld b then
      s.updEnd (if s.getBytes (s.blockAddr b) 1024 = s.stage then 1 else 4)
    else
      let on : Bool := decide (15000 ≤ s.get NVM_RSVE.UJ)
      (s.put UPD_STAT.BUSY true).mapUpd fun x => { x with job := .prog b on }

/-- Erase, where its sector is not marked, and program of block `b`; `ok`: the read-back passed (R444). -/
def State.updProgram (s : State) (b : Nat) (ok : Bool) : State :=
  let sector := b / 64
  let base := slotBase s.idleSlot
  let s := if (s.byte (0x40031800 + sector / 8)).getLsbD (sector % 8) then s
    else (s.loseMem (base + 65536 * sector) (base + 65536 * (sector + 1))).setMap 0x40031800 sector
  let a := s.blockAddr b
  let want := s.stage
  let now := s.getBytes a 1024
  let s := s.setBytes a ((List.zip now want).map fun p => p.1 &&& p.2)
  let same : Bool := decide (s.getBytes a 1024 = want)
  if ok && same then
    let s := (s.setMap 0x40031000 b).recvShow
    let s := if s.updFull then (s.set UPD_STAT.SESS 2).raise 249 else s
    s.updEnd 0
  else if same then (s.spoil a 1024).updEnd 5
  else s.updEnd 5

/-- An erase or a program under way loses power: its map bits stay 0. Bits of the block that the program would clear may be
cleared already; a sector under erase holds nothing that anybody can tell (R444) (log entry 131: DEDUCED). -/
def State.tearProg (s : State) : State :=
  match s.upd.job with
  | .prog b true =>
    let sector := b / 64
    let t := if (s.byte (0x40031800 + sector / 8)).getLsbD (sector % 8) then
        (List.zip (List.range 1024) s.stage).foldl (fun (t : State) p =>
          let a := s.blockAddr b + p.1
          let d := t.draw 8
          d.2.setByte a (t.byte a &&& (BitVec.ofNat 8 d.1 ||| BitVec.ofNat 8 p.2))) s
      else s.spoil (slotBase s.idleSlot + 65536 * sector) 65536
    t.mapUpd fun x => { x with job := .idle }
  | _ => s

/-- VERIFY is accepted in COMPLETE (R446). -/
def State.updVerify (s : State) : State :=
  if s.updPaired then s.updRes 3
  else if s.get UPD_STAT.SESS ≠ 2 ∨ s.flag UPD_STAT.BUSY then s.updRes 2
  else ((s.put UPD_STAT.BUSY true).set UPD_STAT.SESS 3).mapUpd fun x => { x with job := .verify }

/-- RES of the check of R446: 8 header, 6 identity, 7 key or signature. -/
def State.verifyRes (s : State) : Nat :=
  let k := s.idleSlot
  if s.imageHeader k = false ∨ s.imgLen k ≠ s.upd.boot.imglen then 8
  else if s.imageId k ≠ s.updIdent then 6
  else if s.imageSigned k then 0 else 7

/-- The check ends (R446). -/
def State.updVerified (s : State) : State :=
  let k := s.idleSlot
  let r := s.verifyRes
  let s := if r = 0 then (s.set (slotReg k) Slot.verified).set UPD_STAT.SESS 4
    else (((s.set (slotReg k) Slot.receiving).clearMaps).set UPD_STAT.SESS 1).recvShow
  ((s.updEnd r).commitBoot).raise 250

/-- ARM (R447). -/
def State.updArm (s : State) : State :=
  let k := s.idleSlot
  if s.updPaired then s.updRes 3
  else if s.slotSt k ≠ Slot.verified ∨ s.flag UPD_STAT.TRIAL then s.updRes 2
  else
    let s := (s.set (slotReg k) Slot.armed).set UPD_STAT.SESS 5
    let s := (s.set UPD_TRSTAT.TRIALS 0).mapBoot fun b => { b with pend := k, trials := 0 }
    (s.commitBoot).updRes 0

/-- The running image is on trial and has not expired. -/
def State.onTrial (s : State) : Bool := s.flag UPD_STAT.TRIAL && decide (s.slotSt s.runSlot = Slot.trial)

/-- HEALTH_CONFIRM (R450). -/
def State.updConfirm (s : State) : State :=
  if s.onTrial then
    let k := s.runSlot
    let s := (s.set (slotReg k) Slot.confirmed).put UPD_STAT.TRIAL false
    let s := (s.set UPD_TRSTAT.TRIALS 0).mapBoot fun b => { b with conf := k, pend := 0xFF, trials := 0 }
    ((s.commitBoot).raise 252).updRes 0
  else s.updRes 2

/-- ABORT (R450). -/
def State.updAbort (s : State) : State :=
  let k := s.idleSlot
  if s.onTrial then ((s.set (slotReg s.runSlot) Slot.rejected).commitBoot).updRes 0
  else if 1 ≤ s.slotSt k ∧ s.slotSt k ≤ 3 then
    let s := (s.set (slotReg k) Slot.empty).set UPD_STAT.SESS 0
    let s := s.mapBoot fun b => { b with pend := if b.pend = k then 0xFF else b.pend }
    (s.commitBoot).updEnd 0
  else s.updRes 2

/-- A write of UPD_CMD: one command bit, with its KEY (R453). -/
def State.updCmd (s : State) (v : Nat) : State :=
  let c := bits v 0 6
  let key := bits v 16 16
  if c = 1 ∧ key = 0 then s.updBegin
  else if c = 2 ∧ key = 0 then s.updProg
  else if c = 4 ∧ key = 0 then s.updVerify
  else if c = 8 ∧ key = 0xA53C then s.updArm
  else if c = 16 ∧ key = 0xC3A5 then s.updConfirm
  else if c = 32 ∧ key = 0 then s.updAbort
  else s

/-- A second of the trial: in Trot, Canter or Gallop, or beside a peer with another image (R449). -/
def State.trialSecond (s : State) : State :=
  let counts : Bool := decide (3 ≤ s.gait ∧ s.gait ≤ 5)
    || (s.tandem && decide (s.get TDM_STAT.HCODE = 2) && s.flag TDM_STAT.PEERCLAIM)
  s.when (s.flag UPD_STAT.TRIAL && counts) fun s => s.bump UPD_TRSTAT.ELAPSED 1

/-- The trial has run out (R449). -/
def State.trialOver (s : State) : Bool :=
  decide (60 * s.get UPD_TRCFG.WINDOW ≤ s.get UPD_TRSTAT.ELAPSED)
    || decide (s.upd.boot.trstart + 3600 * s.get UPD_TRCFG.ABS ≤ s.get NVM_OPTIME.SEC)

/-! ### The receive ring (R445) -/

/-- Slot `n` of the receive ring lies in shared SRAM; one that does not is no free slot (log entry 131: DEDUCED). -/
def State.ringInSram (s : State) (n : Nat) : Bool :=
  let a := s.get UPD_RXBASE.ADDR + 1056 * n
  decide (0x20000000 ≤ a ∧ a + 1056 ≤ 0x20400000)

/-- An accepted telegram of TYPE 0x20 or 0x21, without its CRC, goes to the lowest free slot. -/
def State.updReceive (s : State) (b : List Nat) : State :=
  let type := b.getD 2 0
  if s.flag UPD_CTRL.ETH_EN = false ∨ s.updPaired = true ∨ (type ≠ 0x20 ∧ type ≠ 0x21) then s
  else
    match (List.range 8).find? fun n => !(s.bitOf UPD_RXFULL.SLOTS n) && s.ringInSram n with
    | none => ((s.bump UPD_RXDROP.COUNT 1).put UPD_FLT.RXDROP true).raise 255
    | some n =>
      (s.setBytes (s.get UPD_RXBASE.ADDR + 1056 * n) (b.take (b.length - 4))).setBitOf UPD_RXFULL.SLOTS n

/-! ### Boot (R448) -/

/-- The settings snapshot: frames of items 1 to 31 and their index (R441; the index layout is log entry
97: DESIGN CHOICE). -/
def State.snapItems (s : State) : State :=
  (List.range 31).foldl (fun (s : State) j =>
    let i := j + 1
    match s.curCopy true i with
    | some c =>
      let s := s.setBytes (0x40038000 + 1024 * j) (s.getBytes (frameAddr true i c) 1024)
      s.setBytes (0x4003FC00 + 32 * j)
        (leBytes 4 i ++ leBytes 4 (s.frameSeq true i c) ++ leBytes 4 (s.word (frameAddr true i c + 0x3FC)))
    | none => (s.loseMem (0x40038000 + 1024 * j) (0x40038400 + 1024 * j)).loseMem (0x4003FC00 + 32 * j)
        (0x4003FC20 + 32 * j)) s

/-- The items of the snapshot become new commits (R448) (log entry 97: DESIGN CHOICE). -/
def State.restoreItems (s : State) : State :=
  (List.range 31).foldl (fun (s : State) j =>
    let a := 0x40038000 + 1024 * j
    let n := s.load 2 (a + 0x3F8)
    if (s.byte (a + 0x3F5)).toNat = 0x53 then
      (s.frameDone true { Commit.blank .settings with index := j + 1, data := s.getBytes a n }
        (s.load 2 (a + 0x3F6))).1
    else s) s

/-- The boot record is read; without a valid copy slot A is CONF (R442). -/
def State.bootRead (s : State) : State :=
  match s.bootCur with
  | some c =>
    let a := 0x40030000 + 256 * c
    let byte (i : Nat) : Nat := (s.byte (a + i)).toNat
    let s := s.mapBoot fun _ =>
      { conf := byte 4, pend := byte 5, trials := byte 6, trstart := s.word (a + 12), imglen := s.word (a + 16)
        identA := s.getBytes (a + 20) 32, identB := s.getBytes (a + 52) 32 }
    (s.set UPD_SLOTA.STATE (byte 7)).set UPD_SLOTB.STATE (byte 8)
  | none =>
    let s := s.mapBoot fun _ => UpdSt.reset.boot
    let s := (s.set UPD_SLOTA.STATE 0).set UPD_SLOTB.STATE 0
    (s.put UPD_FLT.META_LOST true).hwRecord 0x0081 6 []

/-- Slot `k` starts. -/
def State.bootStart (s : State) (k : Nat) (trial : Bool) : State :=
  let id := s.imageId k
  let s := (s.set UPD_STAT.RUNSLOT k).put UPD_STAT.TRIAL trial
  let s := (List.range 8).foldl (fun (s : State) i =>
    s.set (UPD_RUNID.WORD i) (ofLe ((id.drop (4 * i)).take 4))) s
  let s := (s.set UPD_TRSTAT.TRIALS s.upd.boot.trials).set UPD_TRSTAT.ELAPSED 0
  let b := slotBase k
  let s := s.mapSys fun x => { x with
    entry0 := b + s.word (b + 0x10), entry1 := b + s.word (b + 0x14), entryG := b + s.word (b + 0x18) }
  let s := (s.set UPD_STAT.SESS s.sessOf).recvShow
  s.bootWrite s.bootBody

/-- The fallback (R448): a rejected image on trial leaves, its settings come back. -/
def State.bootFallback (s : State) : State :=
  let p := s.upd.boot.pend
  if p ≤ 1 ∧ s.slotSt p = Slot.rejected then
    ((s.restoreItems.mapBoot fun b => { b with pend := 0xFF }).put UPD_STAT.FALLBACK true).raise 254
  else s

/-- The choice of the boot ROM (R448): the slot that starts, none where no image verifies. -/
def State.bootChoose (s : State) : Option Nat × State :=
  let s := (s.put UPD_STAT.FALLBACK false).bootRead
  let p := s.upd.boot.pend
  let pending : Bool := decide (p ≤ 1) && (decide (s.slotSt p = Slot.armed) || decide (s.slotSt p = Slot.trial))
  let s := if pending then
      if 3 ≤ s.upd.boot.trials then s.set (slotReg p) Slot.rejected
      else
        let s := if s.upd.boot.trials = 0 then
            let t := s.get NVM_OPTIME.SEC
            s.snapItems.mapBoot fun b => { b with trstart := t }
          else s
        let s := (s.mapBoot fun b => { b with trials := b.trials + 1 }).set (slotReg p) Slot.trial
        if s.imageOk p then s else s.set (slotReg p) Slot.rejected
    else s
  if pending && decide (s.slotSt p = Slot.trial) then (some p, (s.bootStart p true).raise 251)
  else
    let s := s.bootFallback
    let c := s.upd.boot.conf
    if c ≤ 1 ∧ s.imageOk c then (some c, s.bootStart c false)
    else
      let o := 1 - c
      if s.slotSt o = Slot.confirmed ∧ s.imageOk o then
        (some o, (s.mapBoot fun b => { b with conf := o }).bootStart o false)
      else (none, s.hwRecord 0x0080 7 [])

/-- UPD registers that Paddock and Groom walks retain (R453): UPD_CTRL, UPD_TRCFG, UPD_RXBASE. -/
def updRetained (a : Nat) : Bool := [0x60130000, 0x6013001C, 0x60130024].contains a

/-- Registers whose value follows from the metadata and the boot, not from reset (R453). -/
def updBooted (a : Nat) : Bool :=
  [0x60130008, 0x60130018, 0x60130020, 0x60130030, 0x60130034].contains a
    || decide (0x60130060 ≤ a ∧ a < 0x60130080)

end Sys2Proof.Machine
end

