-- ==== Sys2Proof/Machine/SysOps.lean ====
section
/-! DEFINITION. Power as operations: clocks of the Herd, powering cores and blocks up and down, what a gait
retains (R16, R41, R55, R107, R230, R254, R255, R279, R311, R342, R362, R389, R390, R416, R438, R439, R453),
module reset and power-up (R460-R469), gait conditions and the end of each transition (R54-R61, R477). -/

namespace Sys2Proof.Machine
open Sys2Proof Sys2Proof.Reg

/-! ### The Herd's clock and power (R54, R66, R71) -/

/-- The HRD_STAT.CLK code of a gait's Herd clock (Table PWR-1). -/
def herdClkOf (g : Nat) : Nat :=
  if g = Gait.walk ∨ g = Gait.trot ∨ g = Gait.halt then 2
  else if g = Gait.canter then 3 else if g = Gait.gallop then 4 else 0

/-- The Rider clock of a gait in MHz, 0 where it is off (Table PWR-1). -/
def riderClkOf (g : Nat) : Nat :=
  if g = Gait.walk ∨ g = Gait.lame ∨ g = Gait.halt then 200
  else if g = Gait.trot then 400 else if g = Gait.canter ∨ g = Gait.gallop then 800 else 0

/-- The clock the Riders run on in MHz: the gait's, the RC oscillator after a clock loss, none while they are
powered down (R23, R24, R54). -/
def State.riderClk (s : State) : Nat :=
  if s.flag PWR_GAIT.RIDERS = false then 0 else if s.flag SYS_CLKSTAT.ON_RC then 32 else riderClkOf s.gait

/-- HRD_STAT.CLK and HALVED from the gait and the throttle (R66). -/
def State.herdClk (s : State) : State :=
  if s.flag HRD_STAT.POWERED then
    let h := s.flag THM_STAT.ENFORCED
    (s.set HRD_STAT.CLK (herdClkOf s.gait - b2n h)).put HRD_STAT.HALVED h
  else (s.set HRD_STAT.CLK 0).put HRD_STAT.HALVED false

/-- The Herd is powered up: its memories read 0, the bucket is full (R71, R116). The accumulator of the refill starts
from 0 (log entry 113: DESIGN CHOICE). -/
def State.herdUp (s : State) : State :=
  if s.flag HRD_STAT.POWERED then s.herdClk
  else
    let s := ((s.loseMem 0x30000000 0x30380000).put HRD_STAT.POWERED true).set THM_BUCKET.TOKENS 50000
    (s.mapThermal fun x => { x with frac := 0 }).herdClk

/-! ### Cores -/

/-- The operations of core `c` in flight end with no completion; a commit goes on (R107) (log entry 17: DESIGN
CHOICE). -/
def State.orphan (s : State) (c : Core) : State :=
  let own (o : Option (Core × Nat)) : Bool := decide (o.map (·.1) = some c)
  let free (s : State) (x : Commit) : Commit :=
    if own x.owner then { s.commitData x with owner := none } else x
  let s := s.mapCan fun x => { x with txf := x.txf.filter fun e => !(own e.2) }
  let s := s.mapEth fun x => { x with tx := x.tx.filter fun e => e.core ≠ c }
  let s := s.mapChn fun x => { x with chx := x.chx.filter fun e => e.core ≠ c }
  let q := s.nvm.queue.map (free s)
  let r := s.nvm.running.map (free s)
  let s := s.mapNvm fun x => { x with queue := q, running := r }
  let s := s.setJobs (s.herd.jobs.filter fun j => !(own j.owner))
  let dma := (s.dma.map fun e => (e.1, e.2.filter fun j => j.core ≠ c)).filter fun e => !(e.2.isEmpty)
  { s with dma := dma }

/-- A Rider is powered down: locks, tags and operations go; its registers are its wake state (R51, R107,
Table PWR-2). -/
def State.coreDown (s : State) (c : Core) : State :=
  let s := ((s.orphan c).dropLocks c).resetTags c
  if (s.core c).run = .halted then s else s.setRun c .off

/-- A Rider is powered up and resumes (Table PWR-2, T4). -/
def State.coreUp (s : State) (c : Core) : State :=
  if (s.core c).run = .off then s.setRun c .run else s

/-- Core `c` starts anew at `pc`, whose bits [1:0] a program counter does not hold (R96, Table SYS-7). -/
def State.coreStart (s : State) (c : Core) (pc : Nat) : State :=
  s.setCore c { CoreSt.reset with pc := BitVec.ofNat 32 (pc / 4 * 4) }

/-! ### What blocks retain (R16) -/

/-- `s` with every register from `lo` to `hi - 1` at reset but those for which `keep` holds. -/
def State.resetBut (s : State) (lo hi : Nat) (keep : Nat → Bool) : State :=
  { s with regs := s.regs.filter fun e =>
      !(decide (lo * 32 ≤ e.1) && decide (e.1 < hi * 32)) || keep (e.1 / 32) }

/-- CEL registers that Paddock and Groom walks retain (R230); CHECKS is a field of CEL_PADSTAT. -/
def celRetained (a : Nat) : Bool :=
  [0x60060000, 0x60060014, 0x60060018, 0x6006001c, 0x60060020, 0x60060024, 0x60060028, 0x6006003c].contains a
    || decide ((CEL_MAP.USED 0).addr ≤ a ∧ a ≤ (CEL_MAP.USED 511).addr)
    || decide ((CEL_UOPEN.TAPS 1).addr ≤ a ∧ a ≤ (CEL_UOPEN.TAPS 32).addr)

/-- EST registers that Paddock and Groom walks retain (R255, R279) (log entry 75: DEDUCED). -/
def estRetained (a : Nat) : Bool :=
  decide (a = 0x60070000) || decide (0x60070010 ≤ a ∧ a ≤ 0x6007003c) || decide (a = EST_ANCHCNT.A.addr)
    || decide ((EST_SOC.SOC 0).addr ≤ a ∧ a ≤ (EST_SOC.SOC 511).addr)
    || decide ((EST_CST.SIG 0).addr ≤ a ∧ a ≤ (EST_CST.SIG 511).addr)
    || decide ((EST_END.E0 0).addr ≤ a ∧ a ≤ (EST_END.E0 511).addr)
    || decide ((EST_LED.WORD 0).addr ≤ a ∧ a ≤ (EST_ZR.RHF 511).addr)
    || decide ((EST_SUSP.BITS 0).addr ≤ a ∧ a ≤ (EST_SUSP.BITS 15).addr)

/-- NVM registers that Paddock and Groom walks retain (R438); RSV_OK is a field of NVM_STAT. -/
def nvmRetained (a : Nat) : Bool :=
  [0x60110000, 0x60110018, 0x60110020, 0x60110024, 0x60110028, 0x6011002c, 0x60110030, 0x60110034].contains a

/-- LOG registers that Paddock and Groom walks retain (R439). -/
def logRetained (a : Nat) : Bool :=
  decide (a = LOG_CFG.LIMSEV.addr) || decide ((LOG_LIM.CODE 0).addr ≤ a ∧ a ≤ (LOG_LIM.CODE 63).addr)

/-- TDM registers that Paddock and Groom walks retain (R416). -/
def tdmRetained (a : Nat) : Bool :=
  [0x60100000, 0x60100014, 0x60100018, 0x6010001c, 0x60100020].contains a

/-- GGN registers that are RWF, which Paddock retains with the positions of the E axes (R311). -/
def ggnRetained (f : Fld) : Bool := decide (f.acc = .rwf)

/-- The fields of a register that Paddock retains in the GGN block: RWF fields, positions, states and
POSLOST of E axes. -/
def State.ggnWake (s : State) : State :=
  { s with regs := s.regs.filter fun e =>
      let a := e.1 / 32
      let f := (fieldsAt a).find? fun f => decide (f.key = e.1)
      let kept : Bool := match f with
        | some f => ggnRetained f || (List.range 3).any fun i =>
            [GGN_xPOS.VAL (i + 1), GGN_xSTAT.STATE (i + 1), GGN_xSTAT.POSLOST (i + 1)].contains f
        | none => false
      !(decide (0x600a0000 ≤ a ∧ a < 0x600b0000)) || kept }

/-! ### Entry to Paddock and Stable -/

/-- The Riders and every block of the core, Herd, peripheral, Ethernet and tandem domains stop (T3, T6). -/
def State.paddockDown (s : State) : State :=
  let s := (s.tearProg.coreDown .r0).coreDown .r1
  let s := (s.herdDown.chainDown).hvDown.ggnDown
  let s := s.mapCrb fun x => { x with cmpOv := [], cmpUv := [], cmpT := [] }
  let s := s.canAbortAll 1
  let s := s.txStop
  let s := (s.dma.flatMap (·.2)).foldl (fun (s : State) j => s.complete j.core j.tag 0 3 0) { s with dma := [] }
  let s := (s.when (decide (s.ptp.stopped = none)) State.ptpStop).mapSys fun x => { x with wdTicks := 0 }
  let s := ((s.put SYS_CLKSTAT.CORE_LOCK false).put SYS_CLKSTAT.PER_LOCK false).put SYS_CLKSTAT.ETH_LOCK false
  let s := ((s.put SYS_CLKSTAT.TDM_LOCK false).put TDM_STAT.LINK false).mapPower fun x => { x with gated := 0 }
  s.when (s.tandem) fun s => s.set TDM_STAT.STATE Pair.alone

/-- Every byte of volatile memory is lost: all but boot ROM, flash and MRAM (R55). -/
def State.loseRam (s : State) : State := (s.loseMem 0x10000000 0x40000000).loseMem 0x60000000 0x100000000

/-! ### Wake (T4, T5, the Rider power-up of a Groom walk) -/

/-- The GROOM_FAULT record of a fault in Paddock is written at the next wake (Table NVM-9) (log entry 23: DESIGN
CHOICE). -/
def State.groomRecord (s : State) : State :=
  match s.nvm.groomFault with
  | none => s
  | some (c, v) =>
    (s.mapNvm fun x => { x with groomFault := none }).hwRecord 0x0026 5 (leBytes 4 c ++ leBytes 4 v)

/-- The blocks that run in a Groom walk start again with what they retain (R16), and with the bleed that the units have
kept (R208, Table CEL-5) (log entry 29: DESIGN CHOICE). -/
def State.wakeBlocks (s : State) : State :=
  let s := (s.canWake.resetRange 0x60030000 0x60040000).mapChn fun _ => ChnSt.reset
  let s := s.resetRange 0x60050000 0x60060000
  let checks := s.get CEL_PADSTAT.CHECKS
  let c := s.cel
  let s := ((s.resetBut 0x60060000 0x60070000 celRetained).set CEL_PADSTAT.CHECKS checks).mapCel fun _ =>
    { CelSt.reset with map := c.map, bleed := c.bleed, want := c.want, sent := c.sent }
  let s := s.openStat
  let ok := s.flag EST_STAT.RETAINED
  let x := s.est
  let method := s.get EST_CTRL.METHOD
  let pad := x.padSec + (match x.padAt with
    | some t => s.get PWR_RTC.SEC - t
    | none => 0)
  let s := ((s.resetBut 0x60070000 0x60080000 estRetained).put EST_STAT.RETAINED ok).mapEst fun _ =>
    { EstSt.reset with
      qLame := x.qLame, lameAt := x.lameAt, gap := x.gap, owed := x.owed, rests := x.rests, padSec := pad
      reference := x.reference, method := method }
  let s := (s.resetRange 0x60080000 0x60090000).mapPrt fun _ => PrtSt.reset
  let rsv := s.flag NVM_STAT.RSV_OK
  let s := (s.resetBut 0x60110000 0x60120000 nvmRetained).put NVM_STAT.RSV_OK rsv
  let s := (s.resetBut 0x60120000 0x60130000 logRetained).mapNvm fun x => { x with lim := [] }
  let s := (List.range 63).foldl (fun (s : State) k => s.limBound k false) s
  let s := (s.resetBut 0x60130000 0x60140000 fun a => updRetained a || updBooted a).mapUpd fun x =>
    { x with job := .idle }
  let s := ((s.set UPD_STAT.RES 0).put UPD_STAT.RESUMED false).put UPD_STAT.BUSY false
  let s := (s.set UPD_STAT.SESS s.sessOf).recvShow
  let s := s.ggnWake.mapPower fun x =>
    { x with lameCauses := x.lameCauses &&&
        (2 ^ LameCause.clock + 2 ^ LameCause.dieUnknown + 2 ^ LameCause.aux) }
  let s := s.loadFactory.herdUp.groomRecord
  (s.when (decide (s.nvm.countersAt + 60 ≤ s.get NVM_OPTIME.SEC)) State.queueCounters).sweepBoundary

/-- The blocks that stay off in a Groom walk start again, and the Riders resume; the HVM block keeps its registers
(R165) (log entry 29: DESIGN CHOICE). -/
def State.wakeRiders (s : State) : State :=
  let s := (s.resetBut 0x600b0000 0x600c0000 fioConfig).mapFio fun x => FioSt.start x.eff s.nowUs
  let s := s.ethWake.ptpWake
  let s := (s.resetBut 0x60100000 0x60110000 tdmRetained).mapTdm fun _ => TdmSt.reset
  let s := s.when (s.flag TDM_CTRL.EN) fun s => s.set TDM_STAT.STATE Pair.hello
  let s := (s.put PWR_GAIT.RIDERS true).loadFactory
  ((s.coreUp .r0).coreUp .r1).redrive

/-! ### Module reset and power-up (R460-R469) -/

/-- Registers that a module reset keeps: SYS_RSTCAUSE, the levels and supply states of SYS_PWRSTAT,
SYS_AUXV, PWR_RTC, CRB_CAUSE, THM_LATCH (log entry 24: DEDUCED). -/
def resetKeeps (f : Fld) : Bool :=
  [0x60000100, 0x60000110, 0x60000114, 0x60010018, CRB_CAUSE.WORD.addr, 0x60140040].contains f.addr
    && decide (f.key ≠ SYS_PWRSTAT.RSTREF.key)

/-- A module reset: every register at reset, volatile memory lost; the MRAM, the flash, the units on the
chain, device time and the reserve go on; a running commit completes (R422) (log entry 24: DEDUCED). -/
def State.moduleReset (s : State) : State :=
  let keep (e : Nat × Nat) : Bool := (fieldsAt (e.1 / 32)).any fun f => decide (f.key = e.1) && resetKeeps f
  let s := s.finishRunning.tearProg
  let t : State := { State.reset with
    regs := s.regs.filter keep, mem := s.loseRam.mem, units := s.units, free := s.free, nowUs := s.nowUs
    pending := s.pending, rdata := s.rdata }
  let t := t.ptpReset s
  let x := s.nvm
  let t := t.mapNvm fun y => { y with
    cap := x.cap, wasFull := x.wasFull, testDue := x.testDue, clearing := x.clearing, groomFault := none }
  let table := s.eth.table
  let t := t.mapEth fun y => { y with table := table }
  let z := s.sys
  let t := t.mapSys fun y => { y with por := false, pdnAt := z.pdnAt, wakeLow := z.wakeLow }
  let t := t.markLame LameCause.aux (!(s.flag SYS_PWRSTAT.AUX_OK) && s.sys.on)
  let t := (t.setRun .r0 .off).setRun .r1 .off
  let seat := s.get SYS_PWRSTAT.SEATPIN
  (t.setRun .grm .off).set TDM_STAT.SEAT seat

/-- The seal in settings item 0: FMT 1, LEN 20, words and CRC that hold (R303). -/
def State.storedSeal (s : State) : Option (List Nat × Nat) :=
  match s.curCopy true 0 with
  | none => none
  | some c =>
    let a := frameAddr true 0 c
    let w := (List.range 4).map fun i => s.word (a + 4 * i)
    let crc := s.word (a + 16)
    if s.load 2 (a + 0x3F6) = 1 ∧ s.load 2 (a + 0x3F8) = 20 ∧ scfgCrc w = crc ∧ scfgValid w = true then
      some (w, crc)
    else none

/-- Steps 1 and 2 of power-up (Table SYS-7): cause, boot scan, sealed configuration, choice of the image. -/
def State.powerUp (s : State) (cause : Fld) : State :=
  let s := (((s.loadFactory).put cause true).put SYS_CLKSTAT.XTAL32K_OK true).ethLatch
  let s := ((s.setCore .r0 CoreSt.reset).setCore .r1 CoreSt.reset).setCore .grm CoreSt.reset
  let t := s.nowUs
  let s := (s.mapSys fun x => { x with booting := true, held := false, dieOff := false, failed := false }).mapFio
    fun _ => FioSt.start [] t
  let s := s.bootScan
  let s := match s.storedSeal with
    | some x => s.loadScfg x.1 x.2
    | none => s
  let s := if s.nvm.clearing.isSome then
      (s.put LOG_STAT.CLEARING true).enqueue { Commit.blank .clear with index := s.nvm.clearing.getD 0 }
    else s
  let s := if s.flag HVM_CALID.CRC_OK then s.put HVM_STAT.CAL_OK true
    else (s.put HVM_FLT.CAL_BAD true).raise 139
  let r := s.bootChoose
  match r.1 with
  | some _ => r.2
  | none => (r.2.mapSys fun x => { x with failed := true }).hwRecord 0x0083 7 []

/-- The reset of cause `cause`, released at once. -/
def State.resetNow (s : State) (cause : Fld) : State := s.moduleReset.powerUp cause

/-- The power-up of T1 (R61): device time from 0, PREV Stable, CAUSE 1, RIDERS at its reset value (log entry 25:
DEDUCED). -/
def State.stableBoot (s : State) : State :=
  let t := s.power.trans
  let s := s.powerUp SYS_RSTCAUSE.STABLE
  let s := ((s.set PWR_GAIT.GAIT Gait.walk).set PWR_GAIT.PREV Gait.stable).set PWR_GAIT.CAUSE 1
  ((s.put PWR_GAIT.RIDERS true).put PWR_GAIT.BUSY true).mapPower fun x => { x with trans := t }

/-- A wake that has begun T1 from Stable starts the power-up. -/
def State.wakeStable (s : State) : State :=
  let t1 : Bool := match s.power.trans with
    | some t => decide (t.num = 1 ∧ s.gait = Gait.stable)
    | none => false
  s.when t1 State.stableBoot

/-- WAKE_N is low and its wake source is enabled (R470). -/
def State.wakeNHeld (s : State) : Bool := s.sys.wakeLow && s.flag PWR_WAKEEN.WAKEN

/-- Entry to Stable: what has no supply is lost; RTC, alarm, wake registers, reset causes and latched trips
stay (R41, R55, R77) (log entry 25: DEDUCED). -/
def State.stableDown (s : State) : State :=
  let s := s.tearProg
  let keepA : List Nat := [0x60000100, 0x60010010, 0x60010014, 0x60010018, 0x6001001c, 0x60140040]
  let x := s.nvm
  let z := s.sys
  let aux := s.get SYS_PWRSTAT.AUX_OK
  let seat := s.get SYS_PWRSTAT.SEATPIN
  let t : State := { State.reset with
    regs := s.regs.filter fun e => keepA.contains (e.1 / 32), mem := s.loseRam.mem, units := s.units
    free := s.free, nowUs := s.nowUs, pending := s.pending, rdata := s.rdata }
  let t := t.mapNvm fun y => { y with cap := x.cap, wasFull := x.wasFull, testDue := x.testDue }
  let t := t.mapSys fun y => { y with booting := false, wakeLow := z.wakeLow }
  let t := (t.set SYS_PWRSTAT.AUX_OK aux).set SYS_PWRSTAT.SEATPIN seat
  let t := ((t.setRun .r0 .off).setRun .r1 .off).setRun .grm .off
  ((t.set PWR_GAIT.GAIT Gait.stable).put PWR_GAIT.RIDERS false).set TDM_STAT.SEAT seat

/-- The module has no supply: the next start is an AUX power-on (R463). -/
def State.powerOff (s : State) : State :=
  let s := s.finishRunning.tearProg
  let t : State := { State.reset with
    mem := s.loseRam.mem, units := s.units, free := s.free, nowUs := s.nowUs, pending := s.pending
    rdata := s.rdata }
  let t := t.mapSys fun y => { y with on := false, booting := false }
  ((t.setRun .r0 .off).setRun .r1 .off).setRun .grm .off

/-! ### Conditions of gait requests (Table PWR-2, R477) -/

/-- DO12 and DO13 are driven on. -/
def State.mainsClosed (s : State) : Bool := s.on 12 && s.on 13

/-- A protection trip is active: a curb stop or input, two open taps, a stale unit. -/
def State.tripActive (s : State) : Bool :=
  decide (Curb.srs ≤ s.curb) || decide (s.curbInputs ≠ 0) || s.flag CEL_STAT.OPEN2 || s.flag CEL_STAT.STALE_ANY

/-- The first refusal reason of a list of conditions (log entry 28: DEDUCED). -/
def firstReason (l : List (Bool × Nat)) : Nat := ((l.find? fun e => e.1).map (·.2)).getD 0

/-- A commit waits or runs. -/
def State.nvmBusy (s : State) : Bool := !(s.nvm.queue.isEmpty) || s.nvm.running.isSome

/-- The refusal reason of transition `num`, 0 where its condition holds (log entry 28: DEDUCED). -/
def State.gaitReason (s : State) (num target : Nat) : Nat :=
  match num with
  | 8 => firstReason
      [(!s.mainOn && (s.flag CEL_STAT.OPEN2 || s.flag CEL_STAT.STALE_ANY), 0xC), (!(s.flag CRB_STAT.SCFG_OK) || decide (s.curb = Curb.boot) || !(s.flag PRT_STAT.VALID)
        || !([2, 3, 4].contains (s.get CHN_STAT.RING)) || !(s.flag CEL_STAT.MAP_VALID)
        || !(s.flag NVM_STAT.LEDGER_OK), 0xA),
       (decide (s.get CRB_STAT.GUARD ≠ Guard.proven), 3), (decide (s.get HVM_PCHSTAT.STATE ≠ Pch.pass), 4),
       (s.tripActive, 0xC), (!s.mainsClosed, 0xD)]
  | 9 => firstReason [(s.tripActive, 0xC)]
  | 10 => firstReason [(s.flag THM_STAT.THROT_REQ, 5), (decide (s.est.method ≠ 1), 0xB)]
  | 12 => if target = Gait.walk then firstReason [(s.contactorOn || !s.currentZero, 2)] else 0
  | 14 => firstReason [(decide (s.power.lameCauses ≠ 0), 0xC), (!s.mainsClosed, 0xD)]
  | 15 => firstReason [(decide (s.power.lameCauses ≠ 0), 0xC), (s.contactorOn, 2)]
  | 2 | 3 | 7 => firstReason
      [(s.contactorOn, 2), (s.flag TDM_STAT.CLAIM || s.flag TDM_STAT.PEERCLAIM, 8), (s.nvmBusy, 9)]
  | _ => 0

/-- The transition of Table PWR-2 that a request asks for, none where there is no such row. -/
def State.gaitRow (s : State) (groom : Bool) (target : Nat) : Option Nat :=
  let g := s.gait
  if groom then
    if g = Gait.paddock ∧ target = Gait.walk then some 5
    else if s.groomWalk = true ∧ target = Gait.paddock then some 6
    else if g = Gait.paddock ∧ target = Gait.stable then some 7 else none
  else if g = Gait.walk ∧ s.groomWalk = false then
    if target = Gait.stable then some 2 else if target = Gait.paddock then some 3
    else if target = Gait.trot then some 8 else if target = Gait.lame then some 13 else none
  else if g = Gait.trot then
    if target = Gait.canter then some 9 else if target = Gait.walk then some 12
    else if target = Gait.lame then some 13 else none
  else if g = Gait.canter then
    if target = Gait.gallop then some 10 else if target = Gait.trot ∨ target = Gait.walk then some 12
    else if target = Gait.lame then some 13 else none
  else if g = Gait.gallop then
    if target = Gait.canter then some 11 else if target = Gait.lame then some 13 else none
  else if g = Gait.lame then
    if target = Gait.trot then some 14 else if target = Gait.walk then some 15 else none
  else none

/-- A write of PWR_REQ (R58, R60, R477); the standby follows the bundles instead (R402). -/
def State.gaitRequest (s : State) (c : Core) (target : Nat) : State :=
  let s := s.set PWR_REQ.TARGET target
  let groom : Bool := decide (c = .grm)
  if s.isStandby then s
  else if s.flag PWR_GAIT.BUSY then s.refuseGait 1
  else
    match s.gaitRow groom target with
    | none => s.refuseGait 7
    | some n =>
      let r := s.gaitReason n target
      if r ≠ 0 then s.refuseGait r
      else
        let s := (s.set PWR_REQSTAT.RESULT 1).set PWR_REQSTAT.REASON 0
        (s.beginTrans n target (if groom then 2 else 0) true).redrive

/-! ### Ends of transitions (R60, R61) -/

/-- The EST block on entry to Lame (R254, R255). -/
def State.estFreeze (s : State) : State :=
  let q := s.get HVM_QLO.VAL + 2 ^ 32 * s.get HVM_QHI.VAL
  let held := s.regs.any fun e => decide ((EST_SOC.SOC 0).key ≤ e.1 ∧ e.1 < (EST_SOC.SOC 511).key + 32)
    || decide ((EST_END.E0 0).key ≤ e.1 ∧ e.1 < (EST_END.E0 511).key + 32)
  let s := ((s.put EST_STAT.FROZEN true).put EST_USOC.VALID false).put EST_STAT.RETAINED held
  ((s.set EST_ISTRCH.MA 0).set EST_ISTRDC.MA 0).mapEst fun x =>
    { x with qLame := some q, lameAt := s.nowUs, gap := false }

/-- The Herd restarts after Lame: the charge counted in it, its duration and a QGAP set in it are owed to every cell
(R254). -/
def State.estThaw (s : State) : State :=
  match s.est.qLame with
  | none => s
  | some q =>
    let dq := sgn 64 (enc 64 ((s.get HVM_QLO.VAL + 2 ^ 32 * s.get HVM_QHI.VAL : Nat) - (q : Int)))
    let o := s.est.owed.getD (0, 0, false)
    s.mapEst fun x =>
      { x with qLame := none, owed := some (o.1 + dq, o.2.1 + (s.nowUs - x.lameAt), o.2.2 || x.gap) }

/-- EST_STAT.RETAINED at a Herd power-down to Paddock, and the second of its begin (R255). -/
def State.estRetain (s : State) : State :=
  let held := s.regs.any fun e => decide ((EST_SOC.SOC 0).key ≤ e.1 ∧ e.1 < (EST_SOC.SOC 511).key + 32)
    || decide ((EST_END.E0 0).key ≤ e.1 ∧ e.1 < (EST_END.E0 511).key + 32)
  (s.put EST_STAT.RETAINED held).mapEst fun x => { x with padAt := some (s.get PWR_RTC.SEC) }

/-- The action of transition `n` from gait `old`, once PWR_GAIT shows the new gait (Table PWR-2). -/
def State.transAct (s : State) (n old : Nat) : State :=
  if n = 3 ∨ n = 6 then (s.put PWR_GAIT.RIDERS false).estRetain.paddockDown.redrive
  else if n = 2 ∨ n = 7 then s.stableDown
  else if n = 4 then s.wakeBlocks.wakeRiders
  else if n = 5 then s.wakeBlocks
  else if n = 13 then
    let s := (s.bleedOff.herdDown.herdClk).estFreeze
    s.when (!(s.flag PWR_GAIT.RIDERS)) State.wakeRiders
  else if n = 16 then
    let s := s.bleedOff
    let s := if old = Gait.lame then s.herdUp.estThaw else s.herdClk
    (s.when (!(s.flag PWR_GAIT.RIDERS)) State.wakeRiders).redrive
  else if n = 14 ∨ n = 15 then s.herdUp.estThaw
  else s.herdClk

/-- A transition that follows at once: a latched wake, WAKE_N held low, a stop or a Lame cause that stands
in the gait reached (R59, R60, R470); `latched`: a wake source asserted during the transition (log entry 27:
DEDUCED). -/
def State.transNext (s : State) (n : Nat) (latched : Bool) : State :=
  let s := s.mapPower fun x => { x with wakeLatched := 0, removing := false }
  let go : Bool := latched || s.wakeNHeld
  if go && (decide (n = 3) || decide (n = 6)) then
    (s.when (!latched) fun s => s.setBitOf PWR_WAKESRC.SRC 0).beginTrans 4 Gait.walk 1 false
  else if go && decide (n = 5) then
    (s.when (!latched) fun s => s.setBitOf PWR_WAKESRC.SRC 0).beginTrans ridersUp Gait.walk 1 false
  else if go && (decide (n = 2) || decide (n = 7)) && s.flag SYS_PWRSTAT.AUX_OK then
    (s.when (!latched) fun s => s.setBitOf PWR_WAKESRC.SRC 0).beginTrans 1 Gait.walk 1 false
  else if 2 ≤ s.gait ∧ s.gait ≤ 6 ∧ s.curb = Curb.halt then s.forceTrans 16 Gait.halt 4
  else if s.gait = Gait.halt ∧ s.curb = Curb.ready then s.beginTrans 17 Gait.walk 0 false
  else if s.power.lameCauses ≠ 0 then s.enterLame
  else s

/-- The transition in progress completes (R60, R61). T1 ends when the Riders start. -/
def State.transEnd (s : State) : State :=
  match s.power.trans with
  | none => s
  | some t =>
    if t.num = 1 then s
    else
      let latched : Bool := decide (s.power.wakeLatched ≠ 0)
      let s := (s.put PWR_GAIT.BUSY false).mapPower fun x => { x with trans := none }
      if t.num = ridersUp then (s.wakeRiders).transNext t.num latched
      else
        let old := s.gait
        let s := ((s.set PWR_GAIT.PREV old).set PWR_GAIT.GAIT t.target).set PWR_GAIT.CAUSE t.cause
        let s := s.when t.requested fun s => (s.set PWR_REQSTAT.RESULT 2).set PWR_REQSTAT.REASON 0
        let s := s.note fun b => { b with gait := b.gait ++ [(t.num, t.target, t.cause)] }
        let s := s.when (!(decide (t.num = 2 ∨ t.num = 7))) fun s => s.raise 3
        ((s.transAct t.num old).transNext t.num latched).wakeStable

end Sys2Proof.Machine
end

