-- ==== Sys2Proof/Machine/RegView.lean ====
section
/-! DEFINITION. Read-only fields whose value follows from the rest of the state, and the value a field shows
(R12, R40, R104, R160, R288, R299, R308, R326, R361, R395, R436, R438). -/

namespace Sys2Proof.Machine
open Sys2Proof Sys2Proof.Reg

/-- CRB_SRST: ms since the last stop began, saturating (Table CRB-6). -/
def State.stopMs (s : State) : Nat :=
  match s.crb.stopAt with
  | some t => min 65535 ((s.nowUs - t) / 1000)
  | none => 0

/-- The module withholds its claim: in tandem mode its curb logic is not READY (R288). -/
def State.claimBlocked (s : State) : Bool := s.tandem && decide (s.curb ≠ Curb.ready)

/-- The lowest SEQ in the log, 0 where it is empty. -/
def State.logOldest (s : State) : Nat :=
  match s.oldest ((s.slotsHeld).filter fun k => s.slotValid k) with
  | some k => s.slotSeq k
  | none => 0

/-- HVM_ISO.AGE: seconds since the last result, saturating; 0 before the first since reset (log entry 116: DESIGN
CHOICE). -/
def State.isoAge (s : State) : Nat :=
  match s.hvm.isoAt with
  | some t => min 255 ((s.nowUs - t) / 1000000)
  | none => 0

/-- This seat is the tick master (R395). -/
def State.tickMaster (s : State) : Bool :=
  s.tandem && (s.flag TDM_STAT.CLAIM || (!(s.flag TDM_STAT.PEERCLAIM) && decide (s.get TDM_STAT.SEAT = 0)))

/-- Controller `x` runs with the Paddock timings (R354). -/
def State.canPaddock (s : State) (x : Nat) : Bool := decide (x = 0) && decide (s.gait = Gait.paddock)

/-- The fields that follow from the state, with their values. -/
def State.derived (s : State) : List (Fld × Nat) :=
  [(FIO_STAT.SHUNT, b2n s.crb.shuntOn), (FIO_STAT.FORCE, b2n (s.forceOff 12 || s.forceOff 14)),
   (FIO_STAT.GATED, b2n s.gateClosed), (CRB_STAT.CLAIMBLK, b2n s.claimBlocked), (CRB_STAT.ARCH, s.arch),
   (CRB_STAT.SHUNT, b2n s.crb.shuntOn), (CRB_STAT.LS13, b2n (s.lsClosed 13)),
   (CRB_STAT.LS12, b2n (s.lsClosed 12)), (CRB_STAT.PERMIT, b2n s.permit),
   (CRB_INPUT.CAUSES, s.curbInputs), (CRB_SRST.MS, s.stopMs),
   (EVT_STAT.TDM_GATE, b2n (!(s.evt.held.isEmpty))), (GGN_STAT.GATED, b2n s.gateClosed),
   (HVM_STAT.INJ_ON, b2n s.injOn), (HVM_ISO.AGE, s.isoAge),
   (NVM_STAT.QUEUED, s.nvm.queue.length + b2n s.nvm.running.isSome),
   (NVM_STAT.DEFERRING, b2n s.deferring), (NVM_STAT.BUSY, b2n s.nvm.running.isSome),
   (LOG_OLDSEQ.SEQ, s.logOldest), (TDM_STAT.TICKMASTER, b2n s.tickMaster),
   (CNx_STAT.RESTR 0, b2n (s.canForced 0)), (CNx_STAT.RESTR 1, b2n (s.canForced 1)),
   (CNx_STAT.PADDOCK 0, b2n (s.canPaddock 0)), (CNx_STAT.PADDOCK 1, b2n (s.canPaddock 1))]

/-- The value that field `f` shows. -/
def State.shown (s : State) (f : Fld) : Nat :=
  match s.derived.find? fun e => decide (e.1.key = f.key) with
  | some e => e.2 % 2 ^ f.width
  | none => s.get f

/-- A load of field `f`: WO and command fields read 0 (R12), and so do reserved bits (R13). -/
def State.readFld (s : State) (f : Fld) : Nat :=
  if f.acc = .wo ∨ f.acc = .cmd then 0 else scfgSeen f.addr (s.shown f)

/-- The word that a load of the register at `a` gives; an undefined offset reads 0 (R12, R22). -/
def State.readReg (s : State) (a : Nat) : Nat :=
  (fieldsAt a).foldl (fun acc f => acc + s.readFld f * 2 ^ f.lsb) 0

/-- Every field as it shows, kept as `State.regs` is. -/
def State.derive (s : State) : List (Nat × Nat) :=
  (s.derived.foldl (fun (t : State) e => t.set e.1 e.2) s).regs

/-- A register field as a latched view shows it. -/
def viewFld (v : List (Nat × Nat)) (f : Fld) : Nat :=
  if f.acc = .wo ∨ f.acc = .cmd then 0 else mapGet f.reset v f.key

/-- The word of the register at `a` in a latched view. -/
def viewReg (v : List (Nat × Nat)) (a : Nat) : Nat :=
  (fieldsAt a).foldl (fun acc f => acc + viewFld v f * 2 ^ f.lsb) 0

/-- A word stored into a view, field by field. -/
def viewStore (v : List (Nat × Nat)) (a w : Nat) : List (Nat × Nat) :=
  (fieldsAt a).foldl (fun v f => mapSet f.reset v f.key (bits w f.lsb f.width)) v

end Sys2Proof.Machine
end

