-- ==== Sys2Proof/Machine/TdmOps.lean ====
section
/-! DEFINITION. The tandem pair as operations: boundaries of the Riders, digest, claim and takeover,
snapshot, replay of a bundle, the mirror window (R394-R416). -/

namespace Sys2Proof.Machine
open Sys2Proof Sys2Proof.Reg

/-! ### Boundaries of the Riders (R109, R397) -/

/-- A Rider is at its tick wait: inside wfe with imm13[0] = 1. -/
def State.atTickWait (s : State) (c : Core) : Bool := decide ((s.core c).run = .wfe true)

/-- The boundary that has passed is still to be taken by a Rider. -/
def State.tickDue (s : State) (c : Core) : Bool :=
  match c with
  | .r0 => s.tdm.due0
  | .r1 => s.tdm.due1
  | .grm => false

/-- `s` with the due mark of a Rider set or cleared; its writes since the last boundary are forgotten when
it is cleared. -/
def State.setDue (s : State) (c : Core) (v : Bool) : State :=
  match c with
  | .r0 => s.mapTdm fun x => { x with due0 := v, wrote0 := if v then x.wrote0 else [] }
  | .r1 => s.mapTdm fun x => { x with due1 := v, wrote1 := if v then x.wrote1 else [] }
  | .grm => s

/-- A core counts a control tick. -/
def State.countTick (s : State) (c : Core) : State := s.setCr c Cr.tick (s.cr c Cr.tick + 1)

/-- A core leaves its wfe. -/
def State.leaveWfe (s : State) (c : Core) : State := (s.setRun c .run).advance c

/-- A Rider takes a live boundary: completions, then events, TICK (R109, R40, R397). -/
def State.takeBoundary (s : State) (c : Core) : State :=
  let s := ((s.releaseHeld c).releaseEvents c).countTick c
  (s.setDue c false).leaveWfe c

/-! ### Digest (R404) -/

/-- The 32-byte output image (Table TDM-7) and the declared bytes. -/
def State.outputImage (s : State) : List Nat :=
  [s.get FIO_DOSET.DO, s.get GGN_DSP.MA, s.get (GGN_xPOS.VAL 1), s.get (GGN_xPOS.VAL 2),
    s.get (GGN_xPOS.VAL 3), s.readReg PWR_GAIT.GAIT.addr, s.get EST_ISTRCH.MA, s.get EST_ISTRDC.MA].flatMap
      (leBytes 4)
    ++ s.getBytes (s.get TDM_DECLBASE.ADDR) (s.get TDM_DECLLEN.LEN)

/-- TDM_DIGEST of boundary `k`, kept for the last 16 boundaries. -/
def State.takeDigest (s : State) (k : Nat) : State :=
  let d := crc32c s.outputImage
  (s.set TDM_DIGEST.CRC d).mapTdm fun x => { x with digests := ((k, d) :: x.digests).take 16 }

/-- A block of the replayed class: CEL, EST, GGN, EVT, PAD (Table TDM-5). -/
def replayedBlock (a : Nat) : Bool := [0x6002, 0x6006, 0x6007, 0x600A, 0x6015].contains (a / 0x10000)

/-- A register whose Rider loads give the tick view (Table TDM-5): GGN_STAT's GATED is one field of it. -/
def viewBlock (a : Nat) : Bool := !(replayedBlock a)

/-- The mirror window takes what the peer last sent (R415). -/
def State.showMirror (s : State) : State :=
  let w := s.tdm.peerWords
  let d := s.tdm.peerDecl
  let s := s.loseMem 0x70000000 0x71000000
  let s := s.setBytes 0x70000000 ((w.take 8).flatMap (leBytes 4))
  s.setBytes 0x70000100 ((d.take (s.get TDM_DECLLEN.LEN)).map BitVec.toNat)

/-- The own words of the mirror window, which the peer is sent (Table TDM-10). -/
def State.mirrorWords (s : State) (k : Nat) : List Nat :=
  let w (f : Fld) : Nat := s.readReg f.addr
  [w TDM_STAT.STATE, w PWR_GAIT.GAIT, w CRB_STAT.STATE, s.get CRB_CAUSE.WORD, w THM_HOT.TEMP, s.get TDM_DIGEST.CRC, k,
    w TDM_RELINFO.OWN]

/-- The own declared state (R404). -/
def State.declared (s : State) : List (BitVec 8) :=
  (s.getBytes (s.get TDM_DECLBASE.ADDR) (s.get TDM_DECLLEN.LEN)).map (BitVec.ofNat 8)

/-- The STRING causes that wait for the peer (R288). -/
def State.stringOut (s : State) : List (Nat × Bool) := s.crb.toPeer.toList

/-- The words of the view that differ between two latched views (Table TDM-4). -/
def viewChanged (old new : List (Nat × Nat)) : List (Nat × Nat) :=
  let at_ := (((old ++ new).map fun e => e.1 / 32).filter fun a => viewBlock a || decide (a = GGN_STAT.GATED.addr)).eraseDups
  (at_.filter fun a => decide (viewReg old a ≠ viewReg new a)).map fun a => (a, viewReg new a)

/-- Entries and payload bytes of a bundle's sections. -/
def Bundle.sections (b : Bundle) : List Nat :=
  [b.rel.length, b.events.length, b.autoJobs.length, b.dispatched.length, b.stopped.length, b.gait.length, b.mem.length,
    (b.frames.map fun f => 12 + 2 * f.f.cells.length).sum, b.frames.length, b.posts.length, b.view.length,
    b.string.length, b.declared.length]

/-- Bundle `k` is formed and sent (R397, R398): the records since the last one, and the view that changed from
`s.tdm.view` to `v`. One that exceeds 4 KiB is lost (R405). -/
def State.sendBundle (s : State) (k : Nat) (v : List (Nat × Nat)) (planned : Bool) : State :=
  let b : Bundle := { s.tdm.next with
    k := k, planned := planned, reqResult := s.get PWR_REQSTAT.RESULT, reqReason := s.get PWR_REQSTAT.REASON
    view := viewChanged s.tdm.view v, string := s.stringOut, mirror := s.mirrorWords k, declared := s.declared }
  let s := (s.mapTdm fun x => { x with next := Bundle.blank, sent := some b }).mapCrb fun x => { x with toPeer := none }
  s.when (decide (4096 < Config.bundleBytes b.sections)) fun s =>
    (s.bump TDM_ERRCNT.LOST 1).stepLost TDM_FLT.BUNDLE

/-- A live boundary is complete: the view is latched, the digest computed; on the active seat bundle k is
formed, and a lag beyond 8 ends step (R397, R399, R400, R404, R405) (log entry 102: DESIGN CHOICE). -/
def State.boundaryDone (s : State) : State :=
  let k := s.tdm.k + 1
  let s := s.showMirror.takeDigest k
  let v := s.derive
  let s := if s.get TDM_STAT.STATE = Pair.active then
      let n := s.tdm.formed + 1
      let s := ((s.sendBundle k v false).mapTdm fun x => { x with formed := n }).set TDM_STAT.LAG (min 15 n)
      s.when (decide (8 < n)) fun s => s.stepLost TDM_FLT.LAG
    else s
  s.mapTdm fun x => { x with k := k, view := v }

/-- The boundary of a Rider is taken, and completed with the second Rider's. -/
def State.riderBoundary (s : State) (c : Core) : State :=
  let s := s.takeBoundary c
  s.when (!s.tdm.due0 && !s.tdm.due1) State.boundaryDone

/-! ### Claim (R406, R408-R410) -/

/-- The conditions of R406 that hold in every state. -/
def State.mayClaim (s : State) : Bool :=
  s.tandem && s.flag TDM_CTRL.CLAIM_EN && decide (s.curb = Curb.ready) && !(s.flag TDM_STAT.PEERCLAIM)

/-- CLAIM_OUT asserts: the next refresh key is 0x0000_A55A (R408). -/
def State.assertClaim (s : State) : State :=
  (s.put TDM_STAT.CLAIM true).mapTdm fun x => { x with second := false, refreshed := false }

/-- Tags whose completion would have come from a bundle not received: chx and txf of a Rider (R410). -/
def State.dropRemote (s : State) (c : Core) : State :=
  (List.range (coreTags c)).foldl (fun (s : State) t =>
    match s.tag c t with
    | .issued cls => if cls = 0 ∨ cls = 4 then s.release c t (completionWord 0x7FFF 3 cls t) 0 else s
    | _ => s) s

/-- A takeover: ALONE with claim, source 234, remote operations end (R409, R410). -/
def State.takeOver (s : State) : State :=
  let s := (s.set TDM_STAT.STATE Pair.alone).assertClaim.raise 234
  let s := (s.dropRemote .r0).dropRemote .r1
  let v := s.derive
  s.mapTdm fun x => { x with bundles := [], listed := [], notice := none, view := v }

/-- CHN_STAT.ORIGIN as R171 gives it at a boundary. -/
def State.originDue (s : State) : Bool :=
  !s.tandem || s.flag TDM_STAT.CLAIM
    || (!(s.flag TDM_STAT.PEERCLAIM) && decide (s.get TDM_STAT.SEAT = 0))

/-- A seat that has not enumerated takes the ring from the other's CHN registers, as its tick view holds them: units,
delays, routes and breaks, and that sweeps run (R171, R400; log entry 117: DESIGN CHOICE). -/
def State.ringFromView (s : State) : State :=
  let v := s.tdm.view
  let ring := viewFld v CHN_STAT.RING
  if s.chn.units ≠ 0 ∨ (ring ≠ Ring.intact ∧ ring ≠ Ring.broken1 ∧ ring ≠ Ring.multi) then s
  else
    let n := viewFld v CHN_CFG.UNITS
    let copy (s : State) (f : Fld) : State := s.set f (viewFld v f)
    let s := [CHN_STAT.RING, CHN_STAT.BREAKLO, CHN_STAT.BREAKHI, CHN_STAT.REFSEAT, CHN_SYNCDLY.NS, CHN_SWEEP.SWEEP,
      CHN_CTRL.SWEEP_EN].foldl copy s
    let s := (List.range 33).foldl (fun (s : State) u => if u = 0 then s else
      [CHN_USTAT.ROUTE u, CHN_USTAT.PRESENT u, CHN_UDLY.DLO u, CHN_UDLY.DHI u].foldl copy s) s
    let lo := if ring = Ring.intact then n else s.get CHN_STAT.BREAKLO
    let hi := if ring = Ring.intact then 1 else if s.get CHN_STAT.BREAKHI = 0 then n + 1 else s.get CHN_STAT.BREAKHI
    s.mapChn fun x => { x with
      units := n, loReach := lo, hiReach := hi, broken := if ring = Ring.intact then [] else listPut [lo] (hi - 1) true }

/-- ORIGIN follows at a control-tick boundary; its change leaves the next SYNC unannounced (R208), and a new origin
completes an interrupted sweep by re-read (R171, R193). -/
def State.originTick (s : State) : State :=
  let was := s.flag CHN_STAT.ORIGIN
  let now := s.originDue
  let s := s.put CHN_STAT.ORIGIN now
  if now && !was then
    let s := s.ringFromView.mapChn fun x => { x with syncAt := none, prevNext := 0 }
    s.rereadAll fun u => if s.route u = 2 then 1 else 2
  else if was && !now then
    (s.mapChn fun x => { x with
      open_ := false, inSync := false, reads := [], enum := none, syncAt := none, prevNext := 0, pingQ := []
      pingOn := [], eng := [] }).tagStat
  else s

/-! ### The boundary of the block itself -/

/-- FEED may begin (Table TDM-2): ALONE with claim, link up, the peer's hello passed and its claim absent (log entry
104: DEDUCED). -/
def State.mayFeed (s : State) : Bool :=
  decide (s.get TDM_STAT.STATE = Pair.alone) && s.flag TDM_STAT.CLAIM && s.tdm.hello && s.flag TDM_STAT.LINK
    && !(s.flag TDM_STAT.PEERCLAIM)
    && ((s.flag TDM_CTRL.AUTORESYNC && !s.tdm.holdoff) || s.tdm.resync)

/-- Pages of 4 KiB that the first round sends: TCMs, shared SRAM, and the Herd memories while powered
(R411). -/
def State.snapPages (s : State) : Nat := 256 + 1024 + (if s.flag HRD_STAT.POWERED then 896 else 0)

/-- FEED begins (R411). -/
def State.feed (s : State) : State :=
  let s := s.set TDM_STAT.STATE Pair.feed
  let s := (s.set TDM_SNAPSTAT.ROUND 1).set TDM_SNAPSTAT.PAGES s.snapPages
  s.mapTdm fun x => { x with resync := false, holdoff := false }

/-- EN = 0 takes effect: OFF, out of tandem mode; what was held is released (Table TDM-2). -/
def State.tdmOff (s : State) : State :=
  let s := ((s.put TDM_CTRL.EN false).set TDM_STAT.STATE Pair.off).put TDM_STAT.LINK false
  let s := ((s.releaseHeld .r0).releaseHeld .r1).reapJobs
  let s := (s.releaseEvents .r0).releaseEvents .r1
  (s.mapTdm fun _ => TdmSt.reset).redrive

/-- What the TDM block does at a tick boundary in tandem mode: refresh check, planned release, EN, claim,
FEED (R396, R406, R408, R409, R414). -/
def State.tdmTick (s : State) : State :=
  let missed : Bool := s.flag TDM_STAT.CLAIM && !s.tdm.refreshed
  let s := s.when missed fun s => s.dropClaim 4
  let s := s.mapTdm fun x => { x with refreshed := false }
  let s := if s.tdm.release then
      let s := s.when (decide (s.get TDM_STAT.STATE = Pair.active)) fun s => s.sendBundle (s.tdm.k + 1) s.derive true
      ((s.dropClaim 5).put TDM_CTRL.CLAIM_EN false).mapTdm fun x => { x with release := false }
    else s
  if s.tdm.enOff && !(s.flag TDM_STAT.CLAIM) then s.tdmOff
  else
    let late : Bool := match s.tdm.vanished with
      | some t => decide (t + 100 < s.nowUs)
      | none => false
    let gone : Bool := late && !(s.flag TDM_STAT.PEERCLAIM) && decide (s.tdm.notice = none)
      && !s.tdm.silent && decide (s.get TDM_STAT.STATE = Pair.standby)
    let s := (s.when late fun s => s.mapTdm fun x => { x with vanished := none }).when gone fun s =>
      (s.put TDM_FLT.BRIDLE true).raise 237
    let alone : Bool := decide (s.get TDM_STAT.STATE = Pair.alone) && !(s.flag TDM_STAT.CLAIM)
      && (decide (s.get TDM_STAT.SEAT = 0) || s.tdm.silent)
    let s := s.when (alone && s.mayClaim) State.assertClaim
    let noticed : Bool := match s.tdm.notice with
      | some r => decide (1 ≤ r ∧ r ≤ 4)
      | none => false
    let over_ : Bool := decide (s.get TDM_STAT.STATE = Pair.standby) && noticed && s.tdm.bundles.isEmpty
      && s.mayClaim
    let s := s.when over_ State.takeOver
    s.when s.mayFeed State.feed

/-! ### Hello (R396) -/

/-- HCODE of a hello: the first check of Table TDM-3 that fails, 0 where all pass. -/
def State.helloCode (s : State) (seat : Nat) (ident scfg prt cfg dly len : Nat) : Nat :=
  let own := (List.range 8).foldl (fun a i => a + s.get (UPD_RUNID.WORD i) * 2 ^ (32 * i)) 0
  firstReason [(decide (seat = s.get TDM_STAT.SEAT), 1), (decide (ident ≠ own), 2),
    (decide (scfg ≠ s.get CRB_SCFGCRC.CRC), 3), (decide (prt ≠ s.get PRT_CRC.CRC), 4),
    (decide (cfg ≠ s.get TDM_CFGCRC.CRC), 5), (decide (500 < dly), 6), (decide (len ≠ s.get TDM_DECLLEN.LEN), 7)]

/-! ### Snapshot (R411) -/

/-- A replicated region: the Rider TCMs, the shared SRAM, the Herd memories. -/
def replicated (a : Nat) : Bool :=
  match region a with
  | .r0Itcm | .r0Dtcm | .r1Itcm | .r1Dtcm | .sram | .laneMem | .teamMem | .herdMem => true
  | _ => false

/-- The state of boundary K is loaded (R411) (log entry 51: DESIGN CHOICE). -/
def State.loadSnapshot (s : State) (x : Snapshot) : State :=
  let keep := s.mem.filter fun e => !(replicated e.1)
  let s := { s with mem := keep, regs := s.regs.filter fun e => !(replayedBlock (e.1 / 32)) }
  let s := x.mem.foldl (fun (s : State) e => if replicated e.1 then s.setByte e.1 e.2 else s) s
  let regs := x.regs.foldl (fun m e =>
    match (fieldsAt (e.1 / 32)).find? fun f => decide (f.key = e.1) with
    | some f => if replayedBlock f.addr then mapSet f.reset m e.1 (e.2 % 2 ^ f.width) else m
    | none => m) s.regs
  let s := { s with regs := regs, evt := x.evt, pad := x.pad, cel := x.cel, est := x.est, ggn := x.ggn }
  let s := s.setCore .r0 { s.r0 with tags := x.tags0 }
  let s := (s.setCore .r1 { s.r1 with tags := x.tags1 }).set PWR_GAIT.GAIT x.gait
  let k := x.k
  s.sweepBoundary.mapTdm fun y => { y with k := k, bundles := [], digests := [], listed := [] }

/-! ### Replay (R399-R402) -/

/-- The full sweep index of a carried frame, from its sweep byte: the first at or after the present one. -/
def sweepOf (now byte : Nat) : Nat := now + (byte % 256 + 256 - now % 256) % 256

/-- A carried chain frame: the TDM writes the slots, the CEL block judges the frame (R400). The first frame of a sweep is
its boundary, announced where it follows the last sweep (log entry 102: DESIGN CHOICE). -/
def State.replayFrame (s : State) (b : BundleFrame) : State :=
  let now := s.get CHN_SWEEP.SWEEP
  let sw := sweepOf now b.sweep
  let s := if sw = now then s else
    let err := if sw = (now + 1) % 2 ^ 32 then some 0 else none
    ((s.set CHN_SWEEP.SWEEP sw).mapChn fun x => { x with got := [], annErr := err }).sweepBoundary.celSync
  let u := b.unit
  (s.mapChn fun x => { x with got := listPut x.got u true, open_ := true }).celFrame u b.f

/-- A carried post marker: the slots left are completed, the CEL block ends the sweep (R400). -/
def State.replayPost (s : State) (sw : Nat) : State :=
  let missing := s.missingUnits
  let s := (s.set HRD_SWEEP.SWEEP sw).mapChn fun x => { x with open_ := false }
  (s.mapCel fun x => { x with check7 := false }).celPost sw missing

/-- A job that the bundle records as stopped (Table TDM-6). -/
def State.replayStop (s : State) (i status : Nat) : State :=
  match s.jobAt i with
  | some j =>
    if j.phase = .ended then s
    else (s.when (decide (status = 4)) fun s => (s.bump HRD_MISSCNT.COUNT 1).raise 112).endJob j status 0
  | none => s

/-- A job that the bundle records as dispatched (R135). -/
def State.replayDispatch (s : State) (i : Nat) : State :=
  match s.jobAt i with
  | some j => if j.phase = .queued then s.dispatch j else s
  | none => s

/-- A transition that the bundle records (R402). -/
def State.replayGait (s : State) (n target cause : Nat) : State := (s.beginTrans n target cause false).transEnd

/-- A listed completion: chx and txf at once with the bundle's words, the others once the local operation
has ended; a local STATUS of dma or nvc that differs ends step (Table TDM-6) (log entry 53: DEDUCED). -/
def State.replayTag (s : State) (e : Core × Nat × Nat × Nat) : State :=
  let c := e.1
  let t := e.2.1
  let w := e.2.2.1
  let v := e.2.2.2
  match s.tag c t with
  | .held l _ =>
    let cls := l / 256 % 16
    let s := s.release c t w v
    if (cls = 2 ∨ cls = 3) ∧ l / 4096 % 16 ≠ w / 4096 % 16 then s.stepLost TDM_FLT.OPDIFF else s
  | .issued cls =>
    if cls = 0 ∨ cls = 4 then s.release c t w v
    else s.mapTdm fun x => { x with listed := x.listed ++ [e] }
  | _ => s

/-- A Rider takes a replay boundary. -/
def State.replayRider (s : State) (c : Core) : State := ((s.countTick c).setDue c false).leaveWfe c

/-- The Rider-routed assertions of the standby's own are discarded (R402). -/
def State.dropHeldEvents (s : State) : State :=
  let rider (n : Nat) : Bool := decide (s.get (EVT_CFG.ROUTE n) = 1) || decide (s.get (EVT_CFG.ROUTE n) = 2)
  s.mapEvt fun x => { x with held := x.held.filter fun n => !(rider n) }

/-- The digest of replay boundary `k` is returned (R404, R415). -/
def State.returnDigest (s : State) (k : Nat) : State :=
  let r : DigestReturn := ⟨k, s.get TDM_DIGEST.CRC, s.mirrorWords k, s.declared, s.stringOut⟩
  (s.mapTdm fun x => { x with back := some r }).mapCrb fun x => { x with toPeer := none }

/-- A bundle is applied: memory, tick view, Herd and gait records, completions, events (R399) (log entry 102: DESIGN
CHOICE). -/
def State.replay (s : State) (b : Bundle) : State :=
  let s := b.mem.foldl (fun (s : State) e => if replicated e.1 then s.setWord e.1 e.2 else s) s
  let s := b.frames.foldl (fun (s : State) f => s.replayFrame f) s
  let s := b.posts.foldl (fun (s : State) p => s.replayPost p.1) s
  let v := b.view.foldl (fun v e => viewStore v e.1 e.2) s.tdm.view
  let s := s.mapTdm fun x => { x with view := v, peerWords := b.mirror, peerDecl := b.declared }
  let s := if viewFld v CHN_CTRL.SWEEP_EN = 0 then s.sweepBoundary else s
  let s := b.autoJobs.foldl (fun (s : State) p => s.autoPost p.1 p.2) s
  let s := b.dispatched.foldl (fun (s : State) i => s.replayDispatch i) s
  let s := b.stopped.foldl (fun (s : State) p => s.replayStop p.1 p.2) s
  let s := b.gait.foldl (fun (s : State) g => s.replayGait g.1 g.2.1 g.2.2) s
  let s := (s.set PWR_REQSTAT.RESULT b.reqResult).set PWR_REQSTAT.REASON b.reqReason
  let due := s.tdm.listed ++ b.rel
  let s := due.foldl (fun (s : State) e => s.replayTag e) (s.mapTdm fun x => { x with listed := [] })
  let s := s.dropHeldEvents.reapJobs
  let s := b.events.foldl (fun (s : State) n => s.latchEvt (n % 256)) s
  let s := (((s.replayRider .r0).replayRider .r1).showMirror.takeDigest b.k).returnDigest b.k
  let s := s.ggnTick.mapTdm fun x => { x with k := b.k, handback := x.handback || b.handback }
  if b.planned then (s.put TDM_CTRL.CLAIM_EN false).set TDM_STAT.STATE Pair.alone else s

/-- Something has arrived from the peer. -/
def State.heard (s : State) : State := s.mapTdm fun x => { x with silent := false }

end Sys2Proof.Machine
end

