-- ==== Sys2Proof/Machine/Tdm.lean ====
section
/-! DEFINITION. The control tick (R109, R310, R349, R395, R396, R402), writes to the TDM block, and the events of
the tandem pair: hello, snapshot, tick wait, bundles, digest returns, claim lines, heartbeat (R394-R415). -/

namespace Sys2Proof.Machine
open Sys2Proof Sys2Proof.Reg

/-! ### The control tick -/

/-- A core at a boundary outside the tandem gate: held items are released, TICK counts, wfe with
imm13[0] = 1 ends (R93, R109). -/
def State.coreTick (s : State) (c : Core) : State :=
  if (s.core c).run = .off then s
  else
    let s := ((s.releaseHeld c).releaseEvents c).countTick c
    if s.atTickWait c then s.leaveWfe c else s

/-- A waitt with a limit counts the boundary (R105). -/
def State.waitTick (s : State) (c : Core) : State :=
  match (s.core c).run with
  | .waitt t d (some n) => s.setRun c (.waitt t d (some (n - 1)))
  | _ => s

/-- The Riders at a boundary in tandem mode on a seat that acts on its own inputs: due for both, taken at once
by those at their tick wait; a second boundary that passes before the first is taken adds none (R397) (log entry
103: DEDUCED). -/
def State.ridersDue (s : State) : State :=
  let up (c : Core) : Bool := decide ((s.core c).run ≠ .off) && decide ((s.core c).run ≠ .halted)
  let s := (s.setDue .r0 (up .r0)).setDue .r1 (up .r1)
  let s := if s.atTickWait .r0 then s.riderBoundary .r0 else s
  if s.atTickWait .r1 then s.riderBoundary .r1 else s

/-- The control tick, with the levels read back at DO0 to DO15 (R328); in reset only device time goes on (R374), which
does not ask for the Ethernet PLL (log entries 5: DESIGN CHOICE, 127: DESIGN CHOICE). -/
def State.controlTick (s : State) (rb : Nat) : State :=
  let s := { s with nowUs := s.nowUs + 100 }
  if s.sys.on = false ∨ s.gait < 2 then s
  else if s.inReset then s.ptpTick
  else
    let s := s.ethLatch.ptpTick.when s.tandem State.tdmTick
    let s := s.originTick
    let s := if s.sweeping || s.isStandby then s else s.sweepBoundary
    let s := ((s.waitTick .r0).waitTick .r1).waitTick .grm
    let s := s.coreTick .grm
    let s := if s.isStandby then s
      else if s.tandem then s.ridersDue.ggnTick
      else ((s.coreTick .r0).coreTick .r1).ggnTick
    let s := (s.fioTick rb).crbTick
    let wd : Bool := s.flag SYS_WDCFG.EN && !s.groomWalk
    let s := s.when wd fun s => s.mapSys fun x => { x with wdTicks := x.wdTicks + 1 }
    let s := if s.isStandby then s else s.reapJobs
    s.schedule

/-- CONTROL_TICK: the boundary of the seat's own tick; a seat that is not the tick master takes it with
TICK_SYMBOL while the link is up (R395). -/
def execControlTick (rb : BitVec 16) (s : State) :
    Host.Outcome State Fault Refusal :=
  if s.tandem ∧ s.flag TDM_STAT.LINK ∧ s.tickMaster = false then .next s
  else .next (s.controlTick rb.toNat)

/-- Something has arrived from the peer: the silence of R405 and R409 ends. -/
def State.linkUp (s : State) : Bool := s.tandem && s.flag TDM_STAT.LINK

/-- TICK_SYMBOL: the tick master's symbol places the boundary of this seat (R395). -/
def execTickSymbol (rb : BitVec 16) (s : State) :
    Host.Outcome State Fault Refusal :=
  if s.linkUp ∧ s.tickMaster = false then .next (s.heard.controlTick rb.toNat) else .next s

/-- TICK_WAIT: a Rider inside its tick wait takes a boundary that has passed at once, with TDM_FLT.OVERRUN (R397);
a standby's Rider waits for the bundle (R399) (log entry 103: DEDUCED). -/
def execTickWait (r : Rider) (s : State) :
    Host.Outcome State Fault Refusal :=
  let c : Core := match r with | .r0 => .r0 | .r1 => .r1
  if s.tandem ∧ s.atTickWait c ∧ s.tickDue c ∧ s.isStandby = false then
    .next ((s.put TDM_FLT.OVERRUN true).riderBoundary c)
  else .next s

/-! ### Writes to the TDM block -/

/-- TDM_CTRL takes the word `v` (R396): EN 0 to 1 starts hello in an awake gait with the tandem clock, EN 1 to 0
acts at the next boundary, and with the own claim asserted the write is ignored. -/
def State.tdmCtrl (s : State) (v : Nat) : State :=
  let was := s.flag TDM_CTRL.EN
  let now := bit v 0
  let rest (s : State) : State :=
    (((s.put TDM_CTRL.CLAIM_EN (bit v 1)).put TDM_CTRL.AUTORESYNC (bit v 2)).put TDM_CTRL.HANDBACK
      (bit v 3)).put TDM_CTRL.WAKEPEER (bit v 4)
  if was ∧ now = false ∧ s.flag TDM_STAT.CLAIM then s
  else if was then (rest s).mapTdm fun x => { x with enOff := !now }
  else if now then
    let s := (rest s).put TDM_CTRL.EN true
    if 2 ≤ s.gait ∧ s.flag PWR_GAIT.RIDERS ∧ s.flag SYS_CLKEN.TDM_EN then
      (s.set TDM_STAT.STATE Pair.hello).redrive
    else s.redrive
  else rest s

/-- TDM_CMD: RELEASE only with DO12 to DO14 off in FIO_DOSET; RESYNC (R396, R414). -/
def State.tdmCmd (s : State) (v : Nat) : State :=
  let rel : Bool := bit v 0 && s.flag TDM_STAT.CLAIM && decide (bits (s.get FIO_DOSET.DO) 12 3 = 0)
  let s := s.when rel fun s => s.mapTdm fun x => { x with release := true }
  s.when (bit v 1) fun s => s.mapTdm fun x => { x with resync := true }

/-- TDM_CLAIMREF: the correct keys alternate from 0x0000_A55A after each assertion; any other value is ignored
and sets TDM_FLT.REFRESH (R408). -/
def State.claimRef (s : State) (v : Nat) : State :=
  if v ≠ 0xA55A ∧ v ≠ 0x5AA5 then s.put TDM_FLT.REFRESH true
  else if s.flag TDM_STAT.CLAIM = false then s
  else if v = (if s.tdm.second then 0x5AA5 else 0xA55A) then
    s.mapTdm fun x => { x with refreshed := true, second := !x.second }
  else s.put TDM_FLT.REFRESH true

/-! ### Hello -/

/-- HELLO_COMPLETE: what the peer sent, and the delay measured (R396, Table TDM-3). -/
def execHelloComplete (seat : BitVec 1) (ident : BitVec 256) (scfg prt cfg : Word) (dly : BitVec 16)
    (len : BitVec 10) (s : State) :
    Host.Outcome State Fault Refusal :=
  if s.tandem = false ∨ s.get TDM_STAT.STATE ≠ Pair.hello then .next s
  else
    let n := s.helloCode seat.toNat ident.toNat scfg.toNat prt.toNat cfg.toNat dly.toNat len.toNat
    let s := ((s.put TDM_STAT.LINK true).set TDM_LINKDLY.NS dly.toNat).set TDM_STAT.STATE Pair.alone
    let s := s.heard.mapTdm fun x => { x with hello := decide (n = 0) }
    if n = 0 then .next s
    else .next (((s.set TDM_STAT.HCODE n).put TDM_FLT.HELLO true).raise 239)

/-- HELLO_TIMEOUT: no peer for 100 ms in HELLO (R396). -/
def execHelloTimeout (s : State) :
    Host.Outcome State Fault Refusal :=
  if s.tandem = false ∨ s.get TDM_STAT.STATE ≠ Pair.hello then .next s
  else .next (((s.set TDM_STAT.HCODE 0).set TDM_STAT.STATE Pair.alone).mapTdm fun x =>
    { x with hello := false, silent := true })

/-! ### Snapshot (R411, R412) -/

/-- A snapshot fails: ALONE, TDM_FLT.SNAPFAIL; the feeding seat holds off its retry. -/
def State.snapFail (s : State) : State :=
  let fed : Bool := decide (s.get TDM_STAT.STATE = Pair.feed)
  if fed ∨ s.get TDM_STAT.STATE = Pair.load then
    ((s.set TDM_STAT.STATE Pair.alone).put TDM_FLT.SNAPFAIL true).mapTdm fun x =>
      { x with holdoff := fed || x.holdoff }
  else s

/-- SNAPSHOT_ROUND_END: a round has ended and the next holds `pages`; a seat without claim enters LOAD with
the peer's FEED; a ninth round fails the snapshot (log entry 104: DEDUCED). -/
def execSnapshotRoundEnd (pages : BitVec 16) (s : State) :
    Host.Outcome State Fault Refusal :=
  let enters : Bool := s.tandem && decide (s.get TDM_STAT.STATE = Pair.alone) && !(s.flag TDM_STAT.CLAIM)
    && s.flag TDM_STAT.LINK && s.flag TDM_STAT.PEERCLAIM
  let st := s.get TDM_STAT.STATE
  if enters then
    .next (((s.set TDM_STAT.STATE Pair.load).set TDM_SNAPSTAT.ROUND 1).set TDM_SNAPSTAT.PAGES pages.toNat).heard
  else if s.tandem ∧ (st = Pair.feed ∨ st = Pair.load) then
    let n := s.get TDM_SNAPSTAT.ROUND
    if 8 ≤ n then .next s.snapFail
    else .next (((s.set TDM_SNAPSTAT.ROUND (n + 1)).set TDM_SNAPSTAT.PAGES pages.toNat).heard)
  else .next s

/-- SNAPSHOT_FINAL: the final round, of at most 64 pages, is taken at boundary K: the feeding seat is ACTIVE, the receiving seat loads
the state and is STANDBY; source 232 (R396, R411). -/
def execSnapshotFinal (x : Snapshot) (s : State) :
    Host.Outcome State Fault Refusal :=
  let st := s.get TDM_STAT.STATE
  if s.tandem = false ∨ 64 < s.get TDM_SNAPSTAT.PAGES then .next s
  else if st = Pair.feed then
    let s := (s.set TDM_STAT.STATE Pair.active).set TDM_MATCHCNT.COUNT 0
    .next ((s.mapTdm fun y => { y with formed := 0, digests := [], next := Bundle.blank }).raise 232)
  else if st = Pair.load then
    let s := (s.loadSnapshot x).set TDM_STAT.STATE Pair.standby
    .next ((s.mapTdm fun y => { y with notice := none, vanished := none, handback := false }).raise 232)
  else .next s

/-- SNAPSHOT_FAIL: not complete within 2 s, or the link is lost during it (R412). -/
def execSnapshotFail (s : State) :
    Host.Outcome State Fault Refusal :=
  .next (if s.tandem then s.snapFail else s)

/-- SNAPSHOT_RETRY: 1 s after a failure, while AUTORESYNC = 1 (R412). -/
def execSnapshotRetry (s : State) :
    Host.Outcome State Fault Refusal :=
  if s.tandem ∧ s.flag TDM_CTRL.AUTORESYNC ∧ s.tdm.holdoff then
    let s := s.mapTdm fun x => { x with holdoff := false }
    .next (s.when s.mayFeed State.feed)
  else .next s

/-! ### Bundles and digests -/

/-- BUNDLE_RECEIVED: the standby buffers a bundle; `rejected` frames are counted; a bundle `lost` after its
repeat, or beyond the buffer of 8, ends step (R394, R399, R405). -/
def execBundleReceived (rejected : BitVec 16) (lost : Bool) (b : Bundle) (s : State) :
    Host.Outcome State Fault Refusal :=
  if s.linkUp = false then .next s
  else
    let s := s.heard.bump TDM_ERRCNT.REJ rejected.toNat
    if s.isStandby = false then .next s
    else
      let gone : Bool := lost || decide (8 ≤ s.tdm.bundles.length)
      if gone then .next ((s.bump TDM_ERRCNT.LOST 1).stepLost TDM_FLT.BUNDLE)
      else
        let s := s.mapTdm fun x => { x with bundles := x.bundles ++ [b] }
        let peer := s.crb.toPeer
        let s := b.string.foldl (fun (s : State) p => s.curbCause p.1 (if p.2 then .sii else .srs) false) s
        .next (s.mapCrb fun x => { x with toPeer := peer })

/-- REPLAY_BOUNDARY: both Riders at their tick waits and a complete bundle held: the oldest is applied (R399);
a bundle with FLAGS.PLANNED ends the pair's work (R414). -/
def execReplayBoundary (s : State) :
    Host.Outcome State Fault Refusal :=
  match s.tdm.bundles with
  | b :: rest =>
    if s.isStandby ∧ s.atTickWait .r0 ∧ s.atTickWait .r1 then
      .next ((s.mapTdm fun x => { x with bundles := rest }).replay b)
    else .next s
  | [] => .next s

/-- DIGEST_RETURN: the standby's digest of boundary `k`, its words of the mirror window and its declared state;
STRING causes it sends reach the curb logic (R288, R404, R405, R415). -/
def execDigestReturn (k : Nat) (crc : Word) (mirror : List Word) (declared : List (BitVec 8))
    (string : List (BitVec 8 × Bool)) (s : State) :
    Host.Outcome State Fault Refusal :=
  if s.linkUp = false then .next s
  else
    let s := s.heard.mapTdm fun x => { x with peerWords := mirror.map BitVec.toNat, peerDecl := declared }
    if s.get TDM_STAT.STATE ≠ Pair.active then .next s
    else
      let s := (s.set TDM_PEERDIG.CRC crc.toNat).mapTdm fun x => { x with formed := x.k - k }
      let s := match s.tdm.digests.find? fun e => decide (e.1 = k) with
        | some e =>
          if e.2 = crc.toNat then s.bump TDM_MATCHCNT.COUNT 1
          else (s.set TDM_MATCHCNT.COUNT 0).stepLost TDM_FLT.DIGEST
        | none => s
      let peer := s.crb.toPeer
      let s := string.foldl (fun (s : State) p => s.curbCause p.1.toNat (if p.2 then .sii else .srs) false) s
      .next (s.mapCrb fun x => { x with toPeer := peer })

/-! ### Claim lines (R406-R409, R413) -/

/-- PEER_CLAIM_CHANGE: PEER_CLAIM_IN appears (the gate closes; seat B drops its own claim) or disappears (source
235). -/
def execPeerClaimChange (present : Bool) (s : State) :
    Host.Outcome State Fault Refusal :=
  if present then
    let s := ((s.put TDM_STAT.PEERCLAIM true).mapTdm fun x => { x with vanished := none }).gateShut
    .next (s.when (decide (s.get TDM_STAT.SEAT = 1)) fun s => s.dropClaim 0)
  else if s.flag TDM_STAT.PEERCLAIM then
    let s := (s.put TDM_STAT.PEERCLAIM false).raise 235
    let sudden : Bool := s.isStandby && decide (s.tdm.notice = none) && !s.tdm.handback
    let t := s.nowUs
    .next (s.when sudden fun s => s.mapTdm fun x => { x with vanished := some t })
  else .next s

/-- BRIDLE_GATE_OPEN: the own claim has been asserted for 2 µs with PEER_CLAIM_IN absent (R407). -/
def execBridleGateOpen (s : State) :
    Host.Outcome State Fault Refusal :=
  if s.tandem ∧ s.flag TDM_STAT.CLAIM ∧ s.flag TDM_STAT.PEERCLAIM = false then
    .next ((s.put TDM_STAT.GATE true).redriveDoor)
  else .next s

/-- RELEASE_NOTICE_RECEIVED: the peer's reason (Table TDM-8); a planned release clears CLAIM_EN here too (R409,
R414). -/
def execReleaseNoticeReceived (reason : BitVec 4) (s : State) :
    Host.Outcome State Fault Refusal :=
  if s.linkUp = false then .next s
  else
    let s := s.heard.set TDM_RELINFO.PEER reason.toNat
    if reason = 5 then .next ((s.put TDM_CTRL.CLAIM_EN false).set TDM_STAT.STATE Pair.alone)
    else if s.isStandby then
      .next (s.mapTdm fun x => { x with notice := some reason.toNat, vanished := none })
    else .next s

/-- A takeover at once: the pending boundary is taken live by the Riders at their tick wait (R409). -/
def State.takeOverNow (s : State) : State := s.takeOver.ridersDue

/-- PEER_SILENCE: nothing from the peer for 300 µs; `lost`: the link itself is down (R394, R405, R409, R412). In
Paddock and a Groom walk the heartbeat is gone. -/
def execPeerSilence (lost : Bool) (s : State) :
    Host.Outcome State Fault Refusal :=
  if s.tandem = false then .next s
  else if s.gait < 2 ∨ s.groomWalk = true then
    .next ((s.put TDM_STAT.PEERHB false).mapTdm fun x => { x with silent := true })
  else
    let s := s.mapTdm fun x => { x with silent := true }
    let drop : Bool := lost && s.flag TDM_STAT.LINK
    let claiming : Bool := s.inStep && s.flag TDM_STAT.PEERCLAIM
    let s := s.when drop fun s => (s.put TDM_STAT.LINK false).snapFail
    let s := s.when (drop || claiming) fun s => s.raise 238
    if claiming then .next (s.stepLost TDM_FLT.LINK)
    else if s.isStandby ∧ s.mayClaim then .next s.takeOverNow
    else .next s

/-- HANDBACK: seat B gives the claim back to seat A after MATCHCNT has reached TDM_PROVE; `peerReady`: the
other curb logic is READY (R413). The bundle of seat B's last boundary goes with FLAGS.HANDBACK. -/
def execHandback (peerReady : Bool) (s : State) :
    Host.Outcome State Fault Refusal :=
  let st := s.get TDM_STAT.STATE
  let seat := s.get TDM_STAT.SEAT
  if s.tandem ∧ seat = 1 ∧ st = Pair.active ∧ s.flag TDM_CTRL.HANDBACK ∧ s.get TDM_PROVE.PROVE ≤ s.get TDM_MATCHCNT.COUNT
      ∧ s.curb = Curb.ready ∧ peerReady ∧ s.flag PWR_GAIT.BUSY = false ∧ s.ggnMode 0 ≠ Ggn.safe then
    let s := (s.dropClaim 6).set TDM_STAT.STATE Pair.standby
    .next ((s.mapTdm fun x => { x with
      bundles := [], notice := none, sent := x.sent.map fun b => { b with handback := true } }).raise 236)
  else if s.tandem ∧ seat = 0 ∧ st = Pair.standby ∧ s.tdm.handback ∧ s.mayClaim then
    let s := s.assertClaim.set TDM_STAT.STATE Pair.active
    .next ((s.mapTdm fun x => { x with handback := false, formed := 0, digests := [], next := Bundle.blank }).raise 236)
  else .next s

/-! ### Heartbeat and link (R394) -/

/-- Gaits in which only the heartbeat runs. -/
def State.hbGait (s : State) : Bool := s.tandem && (decide (s.gait = Gait.paddock) || s.groomWalk)

/-- The Paddock link is gated with the auxiliary PLL (R24, Table ARC-4). -/
def State.hbGated (s : State) : Bool := decide (s.gait = Gait.paddock) && s.pllGated Pll.aux

/-- The module wakes from Paddock or out of a Groom walk. -/
def State.waking (s : State) : Bool :=
  match s.power.trans with
  | some t => decide (t.num = 4 ∨ t.num = ridersUp)
  | none => false

/-- HEARTBEAT_SEND: the heartbeat of Paddock and Groom walks leaves: the seat, the gait, the claim state and, of a
seat that wakes with WAKEPEER = 1, a wake request (R394, R414). -/
def execHeartbeatSend (s : State) :
    Host.Outcome State Fault Refusal :=
  let b : Heartbeat := ⟨s.get TDM_STAT.SEAT, s.gait, s.flag TDM_STAT.CLAIM, s.flag TDM_CTRL.WAKEPEER && s.waking⟩
  .next (s.when (s.hbGait && !(s.hbGated)) fun s => s.mapTdm fun x => { x with beat := some b })

/-- HEARTBEAT_RECEIVED: the peer is present; a wake request is wake source 5 (R414, Table PWR-3). -/
def execHeartbeatReceived (wakeReq : Bool) (s : State) :
    Host.Outcome State Fault Refusal :=
  if s.tandem = false ∨ s.hbGated = true then .next s
  else
    let s := s.when s.hbGait fun s => (s.heard).put TDM_STAT.PEERHB true
    .next (if wakeReq then s.wake 5 else s)

/-- TDM_LINK_RESTORED: the link trains again; source 238. -/
def execTdmLinkRestored (s : State) :
    Host.Outcome State Fault Refusal :=
  if s.tandem ∧ 2 ≤ s.gait ∧ s.groomWalk = false ∧ s.flag TDM_STAT.LINK = false then
    .next (((s.put TDM_STAT.LINK true).heard).raise 238)
  else .next s

end Sys2Proof.Machine
end

