-- ==== Sys2Proof/Machine/Sys.lean ====
section
/-! DEFINITION. Clock supervision (R23-R25), ends of gait transitions, wake by WAKE_N and the RTC (R60, R62, R470),
AUX supply and power-down (R460-R464), RESET_N, software, watchdog and supply resets (R466-R469), the start of
the Riders (Table SYS-7). -/

namespace Sys2Proof.Machine
open Sys2Proof Sys2Proof.Reg

/-- The module runs: supplied, not held in reset, not in Stable. -/
def State.alive (s : State) : Bool := s.sys.on && !s.inReset && decide (s.gait ≠ Gait.stable)

/-! ### Clocks (R23-R25) -/

/-- The core and peripheral domains go to the 32 MHz RC, with Lame and a safe ramp stop (R23); a loss in Paddock
stands as a Lame cause for the gait of the wake (R59). -/
def State.toRc (s : State) : State :=
  let s := s.put SYS_CLKSTAT.ON_RC true
  if 2 ≤ s.gait then s.forceLame LameCause.clock true else s.markLame LameCause.clock true

/-- REF_MONITOR_WINDOW: 16 µs of the 25 MHz reference against the 32 MHz RC (R23, R25). -/
def execRefMonitorWindow (ok : Bool) (s : State) :
    Host.Outcome State Fault Refusal :=
  if s.alive = false then .next s
  else if ok then .next (s.put SYS_CLKSTAT.REF_OK true)
  else if s.flag SYS_CLKSTAT.REF_OK ∨ s.flag SYS_CLKSTAT.ON_RC = false then
    .next ((((s.put SYS_CLKSTAT.REF_OK false).put SYS_CLKFLT.REF_LOSS true).raise 1).toRc)
  else .next s

/-- The lock bit of a PLL, as `Pll` numbers them; the auxiliary and the HV PLL have none (Table ARC-7). -/
def pllLock (p : Fin 6) : Option Fld :=
  match p with
  | 0 => some SYS_CLKSTAT.CORE_LOCK | 1 => some SYS_CLKSTAT.PER_LOCK | 2 => some SYS_CLKSTAT.ETH_LOCK
  | 3 => some SYS_CLKSTAT.TDM_LOCK | 4 => none | 5 => none

/-- The fault bit of a PLL (Table ARC-9). -/
def pllFault (p : Fin 6) : Option Fld :=
  match p with
  | 0 => some SYS_CLKFLT.CORE_UNLOCK | 1 => some SYS_CLKFLT.PER_UNLOCK | 2 => some SYS_CLKFLT.ETH_UNLOCK
  | 3 => some SYS_CLKFLT.TDM_UNLOCK | 4 => none | 5 => none

/-- PLL `p` runs: from Walk up, the Ethernet and tandem PLLs while enabled, the auxiliary PLL in Paddock alone
(Tables ARC-3 and ARC-8). -/
def State.pllRuns (s : State) (p : Fin 6) : Bool :=
  match p with
  | 2 => decide (2 ≤ s.gait) && s.flag SYS_CLKEN.ETH_EN
  | 3 => decide (2 ≤ s.gait) && s.flag SYS_CLKEN.TDM_EN
  | 4 => decide (s.gait = Gait.paddock)
  | _ => decide (2 ≤ s.gait)

/-- PLL `p` is locked. -/
def State.pllLocked (s : State) (p : Fin 6) : Bool :=
  match pllLock p with
  | some f => s.flag f
  | none => !(s.pllGated p.val)

/-- The lock of PLL `p` shows in SYS_CLKSTAT where it has a bit there. -/
def State.putLock (s : State) (p : Fin 6) (b : Bool) : State :=
  match pllLock p with
  | some f => s.put f b
  | none => s

/-- PLL_UNLOCK (R24): a PLL that was locked has lost lock; its domains are gated until it relocks, but for the core
and peripheral domains, which go to the RC. -/
def execPllUnlock (p : Fin 6) (s : State) :
    Host.Outcome State Fault Refusal :=
  if s.alive = false ∨ s.pllRuns p = false ∨ s.pllLocked p = false then .next s
  else
    let s := (s.putLock p false).mapPower fun x => { x with gated := setBit x.gated p.val }
    let s := (match pllFault p with
      | some f => s.put f true
      | none => s).raise 2
    if p = 0 ∨ p = 1 then .next s.toRc
    else if p = 3 ∧ s.flag TDM_STAT.LINK then
      .next (((s.put TDM_STAT.LINK false).snapFail).raise 238)
    else .next s

/-- PLL_LOCK (R24): a PLL that runs locks; its gated domains run again. -/
def execPllLock (p : Fin 6) (s : State) :
    Host.Outcome State Fault Refusal :=
  if s.alive = false ∨ s.pllRuns p = false then .next s
  else .next ((s.putLock p true).mapPower fun x => { x with gated := clrBit x.gated p.val })

/-- XTAL32K_LOSS: the 32.768 kHz crystal stops (Table ARC-9). -/
def execXtal32kLoss (s : State) :
    Host.Outcome State Fault Refusal :=
  if s.sys.on = false ∨ s.inReset = true then .next s
  else .next ((s.put SYS_CLKSTAT.XTAL32K_OK false).put SYS_CLKFLT.XTAL32K_LOSS true)

/-! ### Gait and wake -/

/-- GAIT_TRANSITION_COMPLETE: the transition in progress ends (R60, R61). -/
def execGaitTransitionComplete (s : State) :
    Host.Outcome State Fault Refusal :=
  if s.sys.on = false ∨ s.inReset = true then .next s else .next s.transEnd

/-- WAKE_N_LOW: the level at WAKE_N (R62, R470). -/
def execWakeNLow (low : Bool) (s : State) :
    Host.Outcome State Fault Refusal :=
  let s := (s.mapSys fun x => { x with wakeLow := low }).put SYS_PWRSTAT.WAKEN (!low)
  if low ∧ s.sys.on ∧ s.inReset = false then .next (s.wake 0).wakeStable else .next s

/-- RTC_TICK: a second of the 32.768 kHz crystal: PWR_RTC and NVM_OPTIME count, the alarm wakes (R62, R75, R429),
a trial's time counts (R449) (log entry 5: DESIGN CHOICE). -/
def execRtcTick (s : State) :
    Host.Outcome State Fault Refusal :=
  if s.sys.on = false then .next s
  else
    let s := s.set PWR_RTC.SEC (s.get PWR_RTC.SEC + 1)
    let s := if s.gait = Gait.stable then s else (s.set NVM_OPTIME.SEC (s.get NVM_OPTIME.SEC + 1)).trialSecond
    let hit : Bool := decide (s.get PWR_RTCALM.ALM ≠ 0xFFFFFFFF) && decide (s.get PWR_RTC.SEC = s.get PWR_RTCALM.ALM)
    .next (s.when (hit && !s.inReset) fun s => (s.wake 1).wakeStable)

/-! ### AUX supply (R460-R464) -/

/-- AUX_POWER_ON: AUX rises above the start threshold on a module without supply, or in Stable; the levels at
SEAT (high: seat B), WAKE_N and RESET_N are given; with RESET_N low the module is held after step 1 (R391, R460,
R463, R467) (log entry 26: DEDUCED). -/
def execAuxPowerOn (seat wakeN resetN : Bool) (s : State) :
    Host.Outcome State Fault Refusal :=
  if s.flag SYS_PWRSTAT.AUX_OK ∨ s.flag SYS_PWRSTAT.PDN then .next s
  else
    let s := s.powerOff
    let s := ((s.put SYS_PWRSTAT.AUX_OK true).put SYS_PWRSTAT.CHG true).put SYS_PWRSTAT.SEATPIN seat
    let s := ((s.put SYS_PWRSTAT.WAKEN wakeN).put SYS_PWRSTAT.RSTN resetN).put TDM_STAT.SEAT seat
    let s := s.setBitOf PWR_WAKESRC.SRC 6
    let s := (s.mapNvm fun x => { x with testDue := true }).mapSys fun x =>
      { x with on := true, por := true, wakeLow := !wakeN }
    .next (if resetN then s.powerUp SYS_RSTCAUSE.POR
      else ((s.put SYS_RSTCAUSE.POR true).put SYS_CLKSTAT.XTAL32K_OK true).mapSys fun x =>
        { x with booting := true, held := true })

/-- AUX_FAIL: AUX_OK clears (R461). -/
def execAuxFail (s : State) :
    Host.Outcome State Fault Refusal :=
  if s.flag SYS_PWRSTAT.AUX_OK = false then .next s
  else if s.gait = Gait.stable then .next s.powerOff
  else
    let s := ((s.put SYS_PWRSTAT.AUX_OK false).put SYS_PWRSTAT.PDN true).put SYS_PWRSTAT.CHG false
    let t := s.nowUs
    let s := (s.mapSys fun x => { x with pdnAt := some t }).mapNvm fun x =>
      { x with testDue := x.testDue || x.testRun, testRun := false }
    let s := s.raise 0
    if s.inReset then .next (s.markLame LameCause.aux true)
    else if s.inStep then
      let s := s.markLame LameCause.aux true
      let s := if s.get TDM_STAT.STATE = Pair.active then s.dropClaim 0 else s.stepLost TDM_FLT.LOCAL
      .next s.enterLame
    else .next (s.forceLame LameCause.aux true)

/-- AUX_RESTORED: AUX_OK is set again before power-down has ended (R464). -/
def execAuxRestored (s : State) :
    Host.Outcome State Fault Refusal :=
  if s.flag SYS_PWRSTAT.PDN = false then .next s
  else
    let s := ((s.put SYS_PWRSTAT.PDN false).put SYS_PWRSTAT.AUX_OK true).put SYS_PWRSTAT.CHG true
    let s := s.mapSys fun x => { x with pdnAt := none }
    .next ((s.raise 8).markLame LameCause.aux false)

/-- POWER_DOWN_END: the module removes its supply: the reserve at 2.70 V (`low`), or outputs off, no commit
queued and 100 ms past (R463). -/
def execPowerDownEnd (low : Bool) (s : State) :
    Host.Outcome State Fault Refusal :=
  let idle : Bool := !s.contactorOn && !s.nvmBusy && match s.sys.pdnAt with
    | some t => decide (t + 100000 ≤ s.nowUs)
    | none => false
  if s.flag SYS_PWRSTAT.PDN ∧ (low ∨ idle) then .next s.powerOff else .next s

/-! ### Resets (R466-R469) -/

/-- RESET_N_ASSERT: low for 20 ms: module reset, held (R466); no release notice is sent (R408). -/
def execResetNAssert (s : State) :
    Host.Outcome State Fault Refusal :=
  if s.sys.on = false ∨ s.gait = Gait.stable ∨ s.flag SYS_PWRSTAT.RSTN_MASK then .next s
  else .next ((s.moduleReset.put SYS_PWRSTAT.RSTN false).mapSys fun x => { x with held := true })

/-- RESET_N_RELEASE: the rising edge ends the reset; cause RESETN (R466) (log entry 26: DEDUCED). -/
def execResetNRelease (s : State) :
    Host.Outcome State Fault Refusal :=
  let s := s.when s.sys.on fun s => s.put SYS_PWRSTAT.RSTN true
  if s.sys.held then .next (s.powerUp SYS_RSTCAUSE.RESETN) else .next s

/-- RESET_N_STUCK: low for 8 s: the module boots with RESET_N masked; record RESET_STUCK (R466). -/
def execResetNStuck (s : State) :
    Host.Outcome State Fault Refusal :=
  if s.sys.held then
    .next (((s.put SYS_PWRSTAT.RSTN_MASK true).powerUp SYS_RSTCAUSE.RESETN).hwRecord 0x0082 5 [])
  else .next s

/-- RESET_MASK_CLEAR: RESET_N has read high for 100 ms (R467). -/
def execResetMaskClear (s : State) :
    Host.Outcome State Fault Refusal :=
  .next (if s.flag SYS_PWRSTAT.RSTN_MASK then (s.put SYS_PWRSTAT.RSTN_MASK false).put SYS_PWRSTAT.RSTN true
    else s)

/-- A write of SYS_RSTCMD (R468). -/
def State.softReset (s : State) (v : Nat) : State :=
  if bits v 16 16 ≠ 0x5EB0 ∨ bit v 0 = false then s
  else if s.mainOn = true ∧ bit v 1 = false then s.put SYS_PWRSTAT.RSTREF true
  else s.resetNow SYS_RSTCAUSE.SOFT

/-- A write of SYS_WDKEY (R469). -/
def State.sysWdKey (s : State) (v : Nat) : State :=
  if v = 0x6A3C ∧ s.flag SYS_WDCFG.EN then s.mapSys fun x => { x with wdTicks := 0 } else s

/-- SYSTEM_WATCHDOG_EXPIRY: not restarted for TMO; cause WDOG (R469). -/
def execSystemWatchdogExpiry (s : State) :
    Host.Outcome State Fault Refusal :=
  if s.alive ∧ s.flag SYS_WDCFG.EN ∧ 10 * s.get SYS_WDCFG.TMO ≤ s.sys.wdTicks then
    .next (s.resetNow SYS_RSTCAUSE.WDOG)
  else .next s

/-- SUPPLY_MONITOR_RESET: a core rail leaves its window while AUX_OK is set; cause SUPPLY. -/
def execSupplyMonitorReset (s : State) :
    Host.Outcome State Fault Refusal :=
  if s.alive ∧ s.flag SYS_PWRSTAT.AUX_OK then .next (s.resetNow SYS_RSTCAUSE.SUPPLY) else .next s

/-- The Riders start at the entry points of the image (Table SYS-7, step 3). -/
def State.ridersStart (s : State) : State :=
  let e0 := s.sys.entry0
  let e1 := s.sys.entry1
  let eg := s.sys.entryG
  let s := ((s.coreStart .r0 e0).coreStart .r1 e1).coreStart .grm eg
  let s := ((s.mapSys fun x => { x with booting := false }).loadFactory).when (decide (s.gait ≠ Gait.lame)) State.herdUp
  let s := s.when s.nvm.damage fun s => s.raise 244
  let s := s.when (s.flag SYS_PWRSTAT.RSTN_MASK) fun s => s.raise 15
  let t1 : Bool := match s.power.trans with
    | some t => decide (t.num = 1)
    | none => false
  let s := s.when t1 fun s => ((s.put PWR_GAIT.BUSY false).mapPower fun x =>
    { x with trans := none, wakeLatched := 0 }).raise 3
  s.when (decide (s.power.lameCauses ≠ 0)) State.enterLame

/-- RIDERS_START: step 3 of power-up ends; a failed self-test leaves the outputs off with record 0x0083
(R460). -/
def execRidersStart (selfTest : Bool) (s : State) :
    Host.Outcome State Fault Refusal :=
  if s.alive = false ∨ s.sys.booting = false ∨ s.sys.failed = true then .next s
  else if selfTest then .next s.ridersStart
  else .next ((s.mapSys fun x => { x with failed := true }).hwRecord 0x0083 7 [])

/-- BOOT_AGAIN: 10 s after a failed boot (R460). -/
def execBootAgain (s : State) :
    Host.Outcome State Fault Refusal :=
  if s.alive ∧ s.sys.booting ∧ s.sys.failed then
    let c := s.get SYS_RSTCAUSE.POR
    .next ((s.moduleReset.powerUp SYS_RSTCAUSE.POR).set SYS_RSTCAUSE.POR c)
  else .next s

end Sys2Proof.Machine
end

