-- ==== Sys2Proof/Machine/Bus.lean ====
section
/-! DEFINITION. Loads and stores of peripheral registers (R11-R13, R33, R400, R476): reserved encodings, fields by
access code, and the action of each register that has one. -/

namespace Sys2Proof.Machine
open Sys2Proof Sys2Proof.Reg

/-! ### Reserved encodings that span fields (R13) -/

/-- A value for a field, as a word carries it. -/
def Fld.of (f : Fld) (w : Nat) : Nat := bits w f.lsb f.width

/-- The program of the automatic job lies where Table HRD-7 allows it. -/
def jobProgOk (prog plen : Nat) : Bool :=
  decide (prog % 16 = 0)
    && (decide (0x30300100 ≤ prog ∧ prog < 0x30380000 ∧ prog + 4 * plen ≤ 0x30380000)
      || decide (0x20000000 ≤ prog ∧ prog < 0x20400000 ∧ prog + 4 * plen ≤ 0x20400000))

/-- A CAN timing register: SJW not above TSEG2, and the bit rate within Table CAN-1, with clock `f` in Hz. -/
def canTiming (f brp t1 t2 sjw lim : Nat) : Bool :=
  decide (sjw ≤ t2) && decide (f ≤ lim * brp * (1 + t1 + t2))

/-- Every field of a register. -/
def allFields : List Nat := List.range 32

/-- The fields, by lowest bit, that the word leaves as they are, because together with other fields of the register
at `a` it makes a reserved encoding (log entry 108: DEDUCED). -/
def State.crossBad (s : State) (a w : Nat) : List Nat :=
  let off := a % 0x10000
  let blk := a / 0x10000
  let keepIf (ok : Bool) (l : List Nat) : List Nat := if ok then [] else l
  if a = THM_REFILL.RMIN.addr then keepIf (decide (bits w 16 16 ≤ bits w 0 16 ∧ bits w 0 16 ≤ 50000)) allFields
  else if a = HRD_AUTOPROG.PROG.addr then keepIf (jobProgOk w (s.get HRD_AUTOCFG.PLEN)) allFields
  else if a = CEL_VRANGE.VMIN.addr then keepIf (decide (bits w 0 16 < bits w 16 16)) allFields
  else if a = CEL_BALHEAT.T1.addr then
    keepIf (decide (20 ≤ bits w 8 8 ∧ bits w 8 8 < bits w 16 8 ∧ bits w 16 8 ≤ 100))
      [CEL_BALHEAT.T1.lsb, CEL_BALHEAT.T2.lsb]
  else if a = EST_ILIMCH.MA.addr then keepIf (decide (w ≤ 0x7FFFFFFF)) allFields
  else if a = EST_ILIMDC.MA.addr then keepIf (decide (w = 0 ∨ 0x80000001 ≤ w)) allFields
  else if blk = 0x600B ∧ 0x200 ≤ off ∧ off < 0x240 then
    keepIf (!(bit w 8 && bit w 9)) [(FIO_DICFG.PULSED 0).lsb, (FIO_DICFG.TSEN 0).lsb]
  else if blk = 0x600C ∨ blk = 0x600D then
    if off = 0x10 then
      keepIf (canTiming 100000000 (bits w 0 9) (bits w 16 9) (bits w 9 7) (bits w 25 7) 1000000) allFields
    else if off = 0x14 then
      keepIf (canTiming 100000000 (bits w 0 5) (bits w 16 5) (bits w 8 4) (bits w 24 4) 5000000) allFields
    else if off = 0x20 then
      keepIf (canTiming 50000000 (bits w 0 9) (bits w 16 9) (bits w 9 7) (bits w 25 7) 1000000) allFields
    else if off = 0x24 then
      keepIf (canTiming 50000000 (bits w 0 5) (bits w 16 5) (bits w 8 4) (bits w 24 4) 5000000) allFields
    else if 0x1000 ≤ off ∧ off % 0x80 = 0 then
      keepIf (!(decide (bits w 27 2 = 0) && decide (8 < bits w 0 7))) [(CNx_OCFG.FMT 0 0).lsb, (CNx_OCFG.LEN 0 0).lsb]
        ++ keepIf (decide (blk ≠ 0x600D)) [(CNx_OCFG.WAKE 0 0).lsb]
    else []
  else if a = TDM_DECLBASE.ADDR.addr then
    keepIf (decide (w % 16 = 0) && (decide (region w = .r0Dtcm) || decide (region w = .sram) || decide (w = 0)))
      allFields
  else if a = UPD_RXBASE.ADDR.addr then
    keepIf (decide (w % 16 = 0) && (decide (region w = .sram) || decide (w = 0))) allFields
  else if blk = 0x6012 ∧ 0x100 ≤ off ∧ off < 0x1FC then
    let k := (off - 0x100) / 4
    keepIf (bit w 31 || !((List.range 63).any fun j =>
      decide (j ≠ k) && decide (s.get (LOG_LIM.AUTO j) = 0) && decide (s.get (LOG_LIM.CODE j) = bits w 0 16)))
      [(LOG_LIM.AUTO 0).lsb, (LOG_LIM.CODE 0).lsb]
  else []

/-! ### Fields by access code (R12, R476) -/

/-- The word reaches field `f`; a reserved encoding, and a field listed in `bad`, leave it as it is (log entry 108:
DEDUCED). -/
def State.storeFld (s : State) (bad : List Nat) (w : Nat) (f : Fld) : State :=
  let v := Fld.of f w
  match f.acc with
  | .rw | .rwf => if !(bad.contains f.lsb) && f.legal.ok v then s.set f v else s
  | .w1c => s.set f (andNot f.width (s.get f) v)
  | _ => s

/-- The word differs from the present value of an RWS field. -/
def State.rwsDiffers (s : State) (a w : Nat) : Bool :=
  (fieldsAt a).any fun f =>
    decide (f.acc = .rws) && f.legal.ok (Fld.of f w) && decide (scfgSeen a (Fld.of f w) ≠ s.get f)

/-- The word reaches every field of the register at `a` as its access code states; a direct store to an RWS
field raises source 16 once (R476). -/
def State.storeFields (s : State) (a w : Nat) : State :=
  let bad := s.crossBad a w
  let hit := s.rwsDiffers a w
  let s := (fieldsAt a).foldl (fun (s : State) f => s.storeFld bad w f) s
  s.when hit fun s => s.raise 16

/-- The register at `a` holds a field that only Firm writes. -/
def holdsRwf (a : Nat) : Bool := (fieldsAt a).any fun f => decide (f.acc = .rwf ∨ f.acc = .cmd)

/-! ### Registers with an action of their own -/

/-- Bits of a word whose index `p` takes. -/
def bitsOf (w : Nat) : List Nat := (List.range 32).filter (bit w)

/-- A store to a register of the SYS, PWR, EVT, PAD, HRD or HVM block that acts. -/
def State.storeAct1 (s : State) (c : Core) (a w : Nat) (here : Bool) : Option State :=
  if a = SYS_CLKEN.TDM_EN.addr then
    let s := s.storeFields a w
    let s := s.when (!(s.flag SYS_CLKEN.ETH_EN)) fun s => s.put SYS_CLKSTAT.ETH_LOCK false
    some (if s.flag SYS_CLKEN.TDM_EN then s
      else
        let drop := s.flag TDM_STAT.LINK
        ((s.put SYS_CLKSTAT.TDM_LOCK false).put TDM_STAT.LINK false).when drop fun s => s.snapFail.raise 238)
  else if a = SYS_RSTCMD.KEY.addr then some (s.softReset w)
  else if a = SYS_WDCFG.EN.addr then
    let on := s.flag SYS_WDCFG.EN
    some ((s.storeFields a w).when on fun s => s.put SYS_WDCFG.EN true)
  else if a = SYS_WDKEY.KEY.addr then some (s.sysWdKey w)
  else if a = PWR_REQ.TARGET.addr then
    some (if PWR_REQ.TARGET.legal.ok (bits w 0 3) then s.gaitRequest c (bits w 0 3) else s)
  else if a = EVT_DONE_R0.SRC.addr then some (s.doneEvt .r0 (bits w 0 8))
  else if a = EVT_DONE_R1.SRC.addr then some (s.doneEvt .r1 (bits w 0 8))
  else if a = EVT_DONE_GRM.SRC.addr then some (s.doneEvt .grm (bits w 0 8))
  else if (EVT_SET.BITS 0).addr ≤ a ∧ a ≤ (EVT_SET.BITS 7).addr then
    some (s.setEvt ((a - (EVT_SET.BITS 0).addr) / 4) w)
  else if a = PAD_LOCKLIM.LIM.addr then some (s.lockLimit (bits w 0 16))
  else if a = PAD_LOCKERR.KIND.addr then
    some (if bit w 8 then ((s.set PAD_LOCKERR.CORE 0).set PAD_LOCKERR.KIND 0).set PAD_LOCKERR.LOCK 0 else s)
  else if a = HRD_CTRL.HOLD.addr then some (s.hrdCtrl w)
  else if a = HRD_ABORT.ALL.addr then some (s.hrdAbort w)
  else if a = HRD_TEAMDIS.TEAMS.addr then some (s.hrdTeamdis w here)
  else if a = HRD_ECCCNT.CLR.addr then some (if bit w 31 then s.set HRD_ECCCNT.COUNT 0 else s)
  else if a = HVM_CTRL.INJ_EN.addr then some (s.hvmCtrl w)
  else if a = HVM_CMD.ZERO.addr then some (s.hvmCmd w)
  else if a = HVM_HALLGAIN.GAIN.addr then some (s.hvmHallgain w)
  else if [HVM_SHUNT.R.addr, HVM_IOFS.OFS.addr, HVM_HALLOFS.OFS.addr, HVM_DIV.ABS.addr].contains a then
    some ((s.storeFields a w).mapHvm fun x => { x with divRun := 0 })
  else none

/-- A store to a register of a GGN axis (R314-R329): it acts at the next control tick. -/
def State.ggnStore (s : State) (a w : Nat) : Option State :=
  let n := (a - 0x600A0100) / 0x40
  let r := a % 0x40
  if n = 0 ∧ s.ggnMode 0 = Ggn.safe then some (s.put (GGN_xFLT.LOCKED 0) true)
  else if r = 0x00 then
    let was := s.flag (GGN_xCTRL.EN n)
    let keep : Bool := decide (n = 0) && was && decide ((s.axis 0).p ≠ 0)
    let s := (s.storeFields a w).when keep fun s => s.put (GGN_xCTRL.EN 0) true
    some (s.when (was && !(s.flag (GGN_xCTRL.EN n))) fun s => s.mapAxis n fun x => { x with wOff := true })
  else if r = 0x04 then
    some ((s.storeFields a w).mapAxis n fun x => { x with wTgt := x.wTgt ++ [sgn 32 w] })
  else if r = 0x08 ∨ r = 0x0C ∨ r = 0x10 then
    some ((s.storeFields a w).mapAxis n fun x => { x with wLim := true })
  else if r = 0x1C then
    some (s.mapAxis n fun x => { x with
      wStop := x.wStop || bit w 0, wFlush := x.wFlush || bit w 1, wSetpos := x.wSetpos || bit w 2 })
  else none

/-- A store to a register of the CHN, CEL, EST, PRT, CRB, GGN or FIO block that acts. -/
def State.storeAct2 (s : State) (a w : Nat) : Option State :=
  if a = CHN_CTRL.PORT_EN.addr then some (s.chnCtrl w)
  else if a = CHN_CMD.ENUM.addr then some (s.chnCmd w)
  else if a = CEL_CTRL.BAL_EN.addr then
    let was := s.flag CEL_CTRL.BAL_EN
    let s := s.storeFields a w
    some (s.when (was && !(s.flag CEL_CTRL.BAL_EN)) State.bleedOff)
  else if a = CEL_CMD.UNIT.addr then some (s.celCmd w)
  else if a = EST_CTRL.METHOD.addr then some (s.estCtrl w)
  else if a = EST_CMD.PARAM_APPLY.addr then some (s.when (bit w 0) State.paramApply)
  else if a = EST_LSNAP.REQ.addr then some (s.lsnapReq w)
  else if PRT_CELL_OV.TRIP.addr ≤ a ∧ a ≤ PRT_INT.HBTMO.addr then
    some ((s.storeFields a w).put PRT_STAT.PEND true)
  else if a = CRB_HB.SEQ.addr then some (s.crbHb w)
  else if a = CRB_CMD.SRS.addr then some (s.crbCmd w)
  else if a = CRB_RESET.KEY.addr then some (s.crbReset w)
  else if a = CRB_SEAL.KEY.addr then some (s.crbSeal w)
  else if a = GGN_GO.G1.addr then
    some (s.mapGgn fun y => { y with go := y.go ||| bits w 0 2 })
  else if 0x600A0100 ≤ a ∧ a < 0x600A0200 then s.ggnStore a w
  else if a = FIO_DOSET.DO.addr then some (s.writeDoset (bits w 0 15))
  else if a = FIO_CMD.WD_REARM.addr then some (s.fioCmd w)
  else if a = FIO_WDKEY.KEY.addr then some (s.fioWdKey w)
  else if a = FIO_WDCFG.EN.addr then
    let on := s.flag FIO_WDCFG.EN
    some ((s.storeFields a w).when on fun s => s.put FIO_WDCFG.EN true)
  else none

/-- A store to a CAN register, controller `x`, that acts (R351, R354, R357, R360, R366, R367). -/
def State.storeCan (s : State) (x : Nat) (a w : Nat) : Option State :=
  let off := a % 0x10000
  let init : Bool := decide (s.get (CNx_CTRL.MODE x) = 3)
  if off = 0 then some ((s.storeFields a w).canModeWritten x)
  else if off = 4 then
    some ((s.when (bit w 1) fun s => s.canAbortAll x).when (bit w 0) fun s => s.canRecover x)
  else if 0x10 ≤ off ∧ off ≤ 0x24 then
    if init then none else if (fieldsAt a).isEmpty then none else some (s.put (CNx_FLT.CFGWR x) true)
  else if 0x40 ≤ off ∧ off < 0x50 then
    some ((bitsOf w).foldl (fun (s : State) b => s.canRequest x (8 * (off - 0x40) + b) none) s)
  else if 0x50 ≤ off ∧ off < 0x60 then
    let base := 8 * (off - 0x50)
    some (s.canAbortSome x 4 fun _ n => decide (base ≤ n ∧ n < base + 32) && bit w (n - base))
  else if 0x80 ≤ off ∧ off < 0x90 then
    some ((bitsOf w).foldl (fun (s : State) b => s.canNew x (8 * (off - 0x80) + b) false) s)
  else if 0x1000 ≤ off ∧ off < 0x5000 then
    let n := (off - 0x1000) / 0x80
    let r := off % 0x80
    let guarded : Bool := decide (r < 0x0C) || decide (0x20 ≤ r ∧ r < 0x60)
    if guarded && s.canPending x n && !init then some (s.put (CNx_FLT.BUSYWR x) true)
    else if r = 0 then
      let old := s.regWord a
      some ((s.storeFields a w).canCfgWritten x n old)
    else if r = 0x0C then
      some ((s.storeFields a w).when (bit w 27) fun s => s.canNew x n false)
    else if 0x20 ≤ r ∧ r < 0x60 ∧ s.flag (CNx_OCFG.DIR x n) = false then some s
    else none
  else none

/-- A store to a register of the PTP, TDM, NVM, LOG or UPD block that acts (log entry 98: DEDUCED). -/
def State.storeAct3 (s : State) (a w : Nat) : Option State :=
  if a = PTP_CTRL.EN.addr then
    let old := s.regWord a
    some ((s.storeFields a w).ptpCtrl old)
  else if a = PTP_CMD.TIME_ACCEPT.addr then
    some (((s.when (bit w 0) State.timeAccept).when (bit w 1) State.tsqPop).when (bit w 2) State.tsqClr)
  else if a = PTP_PORTCFG.DOMAIN.addr then some ((s.storeFields a w).put PTP_STAT.MASTER false)
  else if a = PTP_PPSCFG.IEN.addr then
    let was := s.flag PTP_PPSCFG.IEN
    let s := s.storeFields a w
    some (s.when (!was && s.flag PTP_PPSCFG.IEN) fun s =>
      let t := s.nowUs
      s.mapPtp fun p => { p with edge := none, edgeAt := t })
  else if (PTP_CMP.TARGET 0).addr ≤ a ∧ a ≤ (PTP_CMP.TARGET 3).addr then
    some ((s.storeFields a w).cmpArm ((a - (PTP_CMP.TARGET 0).addr) / 4))
  else if a = TDM_CTRL.EN.addr then some (s.tdmCtrl w)
  else if a = TDM_CMD.RELEASE.addr then some (s.tdmCmd w)
  else if a = TDM_CLAIMREF.KEY.addr then some (s.claimRef w)
  else if a = NVM_CMD.RSV_TEST.addr then some (s.nvmCmd w)
  else if a = LOG_CMD.KEY.addr then some (s.logCmd w)
  else if (LOG_LIM.CODE 0).addr ≤ a ∧ a < (LOG_LIM.CODE 63).addr then
    let k := (a - (LOG_LIM.CODE 0).addr) / 4
    let was : Bool := decide (s.get (LOG_LIM.AUTO k) = 0)
    some ((s.storeFields a w).limBound k was)
  else if a = UPD_CMD.KEY.addr then some (s.updCmd w)
  else none

/-- A store that Table ARC-10 and the register's block serve: its action, or its fields by access code; an offset
without a register ignores it (R22). `here`: the peer does not make the same store (R405). -/
def State.regStore (s : State) (c : Core) (a w : Nat) (here : Bool) : State :=
  if (fieldsAt a).isEmpty then s else
  let blk := a / 0x10000
  let act := if blk ≤ 0x6004 ∨ blk = 0x6015 then s.storeAct1 c a w here
    else if blk ≤ 0x600B then s.storeAct2 a w
    else if blk = 0x600C then s.storeCan 0 a w
    else if blk = 0x600D then s.storeCan 1 a w
    else s.storeAct3 a w
  act.getD (s.storeFields a w)

/-- A Rider's store is remembered until its next boundary (R400). -/
def State.noteWrite (s : State) (c : Core) (a : Nat) : State :=
  if s.tandem then
    match c with
    | .r0 => s.mapTdm fun x => { x with wrote0 := a :: x.wrote0 }
    | .r1 => s.mapTdm fun x => { x with wrote1 := a :: x.wrote1 }
    | .grm => s
  else s

/-! ### Loads -/

/-- A load has an effect: the word, and the state (R37, R152, R376). -/
def State.loadAct (s : State) (a : Nat) : Option (Nat × State) :=
  if a = EVT_CLAIM_R0.VALID.addr then some (s.claimEvt .r0)
  else if a = EVT_CLAIM_R1.VALID.addr then some (s.claimEvt .r1)
  else if a = EVT_CLAIM_GRM.VALID.addr then some (s.claimEvt .grm)
  else if a = HVM_QLO.VAL.addr then some s.qloRead
  else if a = HVM_QHI.VAL.addr then some s.qhiRead
  else if a = PTP_TIMELO.NS.addr then
    let hi := s.get PTP_TIMEHI.NS
    some (s.get PTP_TIMELO.NS, s.mapPtp fun p => { p with hold := some hi })
  else if a = PTP_TIMEHI.NS.addr then
    some (s.ptp.hold.getD (s.get PTP_TIMEHI.NS), s.mapPtp fun p => { p with hold := none })
  else none

/-- Registers that a Rider has written since its last boundary. -/
def State.wrote (s : State) (c : Core) : List Nat :=
  match c with
  | .r0 => s.tdm.wrote0 | .r1 => s.tdm.wrote1 | .grm => []

/-- The word that a Rider reads in tandem mode from a view block, or from GGN_STAT (Table TDM-5). -/
def State.viewLoad (s : State) (c : Core) (a : Nat) : Nat :=
  (fieldsAt a).foldl (fun acc f =>
    let own : Bool := (s.wrote c).contains a && decide (f.acc = .rw ∨ f.acc = .rwf)
    let latched : Bool := viewBlock a || decide (f = GGN_STAT.GATED)
    acc + (if own || !latched then s.readFld f else viewFld s.tdm.view f) * 2 ^ f.lsb) 0

/-- A served load of the register at `a` by a core (R12, R22, R400). -/
def State.regLoad (s : State) (c : Core) (a : Nat) : Nat × State :=
  if s.tandem ∧ c ≠ .grm ∧ (viewBlock a ∨ a = GGN_STAT.GATED.addr) then (s.viewLoad c a, s)
  else (s.loadAct a).getD (s.readReg a, s)

end Sys2Proof.Machine
end

