-- ==== Sys2Proof/Machine/Flags.lean ====
section
/-! DEFINITION. Integer results and the flags they set (R85, R86, Table GCS-3). -/

namespace Sys2Proof.Machine
open Sys2Proof

/-! ### Integer results (Tables GCS-5, GCS-6) -/

/-- Bits [63:32] of the signed product. -/
def mulHigh (a b : Word) : Word := BitVec.ofInt 32 (a.toInt * b.toInt / 4294967296)

/-- Bits [63:32] of the unsigned product. -/
def mulHighU (a b : Word) : Word := BitVec.ofNat 32 (a.toNat * b.toNat / 4294967296)

/-- Signed quotient toward zero; a zero divisor gives all ones (R86). -/
def divS (a b : Word) : Word := if b = 0 then 0xFFFFFFFF else a.sdiv b

/-- Unsigned quotient; a zero divisor gives all ones (R86). -/
def divU (a b : Word) : Word := if b = 0 then 0xFFFFFFFF else a / b

/-- Signed remainder with the sign of the dividend; a zero divisor gives the dividend (R86). -/
def remS (a b : Word) : Word := if b = 0 then a else a.srem b

/-- Unsigned remainder; a zero divisor gives the dividend (R86). -/
def remU (a b : Word) : Word := if b = 0 then a else a % b

/-- Shift distance: bits [4:0]. -/
def shiftBy (b : Word) : Nat := b.toNat % 32

/-- A truth value as a word. -/
def boolWord (b : Bool) : Word := if b then 1 else 0

/-! ### Flags -/

def Flag.z : Nat := 0
def Flag.n : Nat := 1
def Flag.c : Nat := 2
def Flag.v : Nat := 3

/-- The four flags as STATUS holds them. -/
def flagBits (z n c v : Bool) : Word :=
  BitVec.ofNat 32 (b2n z + 2 * b2n n + 4 * b2n c + 8 * b2n v)

/-- `s` with the four flags of STATUS of core `k` written. -/
def State.setFlags (s : State) (k : Core) (z n c v : Bool) : State :=
  s.setCr k Cr.status ((s.cr k Cr.status &&& 0xFFFFFFF0) ||| flagBits z n c v)

/-- What an operation with S = 1 does to the flags, from its operands and its result. -/
abbrev FlagRule := State → Core → Word → Word → Word → State

/-- add, addi: Z, N, C, V of the 32-bit addition (R85). -/
def State.addFlags (s : State) (k : Core) (a b r : Word) : State :=
  s.setFlags k (decide (r = 0)) r.msb (decide (2 ^ 32 ≤ a.toNat + b.toNat))
    (decide (a.msb = b.msb ∧ r.msb ≠ a.msb))

/-- sub, subi: Z, N, C (no borrow), V of the 32-bit subtraction (R85). -/
def State.subFlags (s : State) (k : Core) (a b r : Word) : State :=
  s.setFlags k (decide (r = 0)) r.msb (decide (b.toNat ≤ a.toNat))
    (decide (a.msb ≠ b.msb ∧ r.msb ≠ a.msb))

/-- Every other operation: Z and N of the result, V clear, C unchanged (R85). -/
def State.resultFlags (s : State) (k : Core) (_ _ r : Word) : State :=
  s.setFlags k (decide (r = 0)) r.msb (s.statusBit k Flag.c) false

end Sys2Proof.Machine
end

