-- ==== Sys2Proof/Machine/Operands.lean ====
section
/-! DEFINITION. Operand forms of the scalar instructions: the instruction words (Table GCS-2), immediates,
and the App windows (R83). -/

namespace Sys2Proof.Machine
open Sys2Proof

/-! ### Instruction words -/

/-- Format R: class, dst, srcA, srcB, S in [12], LOCKNO in [10:6], op in [5:0]. -/
def wordR (cls : Nat) (dst a b : Reg) (fl : Bool) (lock op : Nat) : Word :=
  BitVec.ofNat 32 (cls * 2 ^ 28 + dst.toNat * 2 ^ 23 + a.toNat * 2 ^ 18 + b.toNat * 2 ^ 13
    + b2n fl * 2 ^ 12 + lock * 2 ^ 6 + op)

/-- Format I: class, dst, srcA, op in [17:13], imm13. -/
def wordI (cls : Nat) (dst a : Reg) (op : Nat) (imm : BitVec 13) : Word :=
  BitVec.ofNat 32 (cls * 2 ^ 28 + dst.toNat * 2 ^ 23 + a.toNat * 2 ^ 18 + op * 2 ^ 13 + imm.toNat)

/-- Format A: class, dst, srcA, srcB, op in [12:10]. -/
def wordA (cls : Nat) (dst a b : Reg) (op : Nat) : Word :=
  BitVec.ofNat 32 (cls * 2 ^ 28 + dst.toNat * 2 ^ 23 + a.toNat * 2 ^ 18 + b.toNat * 2 ^ 13 + op * 2 ^ 10)

/-- Format B: class 4, cond, srcA, offset. -/
def wordB (cond : Nat) (a : Reg) (off : BitVec 18) : Word :=
  BitVec.ofNat 32 (4 * 2 ^ 28 + cond * 2 ^ 23 + a.toNat * 2 ^ 18 + off.toNat)

/-- Format J: class 5, offset. -/
def wordJ (off : BitVec 28) : Word := BitVec.ofNat 32 (5 * 2 ^ 28 + off.toNat)

/-- Format U: class 0xA, dst, imm19. -/
def wordU (dst : Reg) (imm : BitVec 19) : Word :=
  BitVec.ofNat 32 (0xA * 2 ^ 28 + dst.toNat * 2 ^ 23 + imm.toNat)

/-! ### Words that no row has (R79) -/

/-- Op codes of class 0x0 (Table GCS-5). -/
def aluOps : List Nat := List.range 0x0E ++ [0x10, 0x11, 0x12, 0x14, 0x15, 0x16, 0x17, 0x20]

/-- Op codes of class 0x6 (Table GCS-8). -/
def fpOps : List Nat := [0x00, 0x01, 0x02, 0x03, 0x04, 0x05, 0x06, 0x08, 0x09, 0x0A, 0x0B, 0x0C, 0x10, 0x11, 0x12]

/-- The word has an op or a cond that its class does not define, or a non-zero reserved field (Tables GCS-2 and GCS-5 to
GCS-18). The op codes of class 0x9 are not given (log entry 7: DESIGN CHOICE). -/
def encodingBad (x : Nat) : Bool :=
  let op6 := bits x 0 6
  let op5 := bits x 13 5
  match bits x 28 4 with
  | 0x0 => !(aluOps.contains op6) || decide (bits x 6 6 ≠ 0) || (decide (op6 = 0x20) && bit x 12)
  | 0x1 => decide (9 < bits x 13 4) || (decide (5 ≤ bits x 13 4 ∧ bits x 13 4 ≤ 7) && decide (bits x 5 8 ≠ 0))
  | 0x2 => decide (4 < op5)
  | 0x3 => !([0, 2, 4].contains op5)
  | 0x4 => decide (bits x 23 5 = 0x0F ∨ 0x15 < bits x 23 5) ||
      (decide (bits x 23 5 < 0x0F) && decide (bits x 18 5 ≠ 0))
  | 0x5 => false
  | 0x6 => !(fpOps.contains op6) || decide (bits x 6 6 ≠ 0) || (bit x 12 != decide (op6 = 0x0C)) ||
      (decide (op6 = 0x04) && decide (op5 ≠ 0))
  | 0x7 => decide (5 < op5) || (decide (op5 = 3) && decide (2 < bits x 0 13))
  | 0x8 => decide (4 < bits x 10 3) || decide (bits x 0 10 ≠ 0)
  | 0x9 => decide (bits x 0 10 ≠ 0)
  | 0xA => decide (bits x 19 4 ≠ 0)
  | 0xB => decide (6 < op6) || decide (bits x 11 2 ≠ 0) || (decide (2 ≤ op6) && decide (bits x 6 5 ≠ 0))
  | _ => false

/-- The class or operation is one that the core does not execute (Table GCS-1). -/
def classLacks (c : Core) (x : Nat) : Bool :=
  let cls := bits x 28 4
  decide (0xC ≤ cls) ||
    (decide (c = .grm) && (decide (cls = 6) || (decide (cls = 8) && decide (1 ≤ bits x 10 3 ∧ bits x 10 3 ≤ 3))))

/-- The subcode of the illegal-instruction exception that a fetched word takes on core `c`, none for a defined one
(R79, Table GCS-13). -/
def wordFault (c : Core) (w : Word) : Option Nat :=
  if classLacks c w.toNat then some 2 else if encodingBad w.toNat then some 0 else none

/-- The word of an undefined encoding that an instruction command carries, with its subcode. -/
def fetchUndefined (f : Fetch) : Option (Nat × Word) :=
  match f.raw with
  | none => none
  | some w => (wordFault f.core w).map fun k => (k, w)

/-! ### Immediates -/

/-- imm13 sign-extended. -/
def immS (imm : BitVec 13) : Word := imm.signExtend 32

/-- imm13 zero-extended. -/
def immZ (imm : BitVec 13) : Word := imm.zeroExtend 32

/-- Target of a branch at `pc`: its own address + 4 × the offset (R88). -/
def branchTarget {w : Nat} (pc : Word) (off : BitVec w) : Word := pc + 4 * off.signExtend 32

/-! ### App windows (R83) -/

def Perm.r : Nat := 1
def Perm.w : Nat := 2
def Perm.x : Nat := 4
def Perm.rw : Nat := 3

/-- Window `k` of core `c` holds the 256-byte block `b` with every permission of `perm`. -/
def State.winHolds (s : State) (c : Core) (perm b k : Nat) : Bool :=
  let base := (s.cr c (0x20 + 2 * k)).toNat
  let lim := (s.cr c (0x21 + 2 * k)).toNat
  bit base 3 && decide (base &&& perm = perm) && decide (base / 256 ≤ b ∧ b ≤ lim / 256)

/-- Every one of the `n` bytes from `a` lies in some window with the permission. -/
def State.winOk (s : State) (c : Core) (perm n a : Nat) : Bool :=
  (List.range ((a + n - 1) / 256 - a / 256 + 1)).all fun i =>
    (List.range 8).any fun k => s.winHolds c perm ((a / 256 + i) % 2 ^ 24) k

/-- The access lies outside the App windows; Firm is not checked. -/
def State.winBad (s : State) (c : Core) (perm n a : Nat) : Bool := s.isApp c && !(s.winOk c perm n a)

end Sys2Proof.Machine
end

