-- ==== Sys2Proof/Machine/CoreOps.lean ====
section
/-! DEFINITION. What the scalar instructions share: exception entry and the double fault (R92-R96), the fetch of
an instruction with its faults in the order of R94, data accesses (R29, R83, R87, R98, R476). -/

namespace Sys2Proof.Machine
open Sys2Proof Sys2Proof.Reg

/-! ### Exceptions -/

/-- Causes of Table GCS-13. -/
def Exc.illegal : Nat := 1
def Exc.window : Nat := 2
def Exc.ecc : Nat := 3
def Exc.tagOvf : Nat := 4
def Exc.fp : Nat := 5
def Exc.trap : Nat := 6
def Exc.event : Nat := 7

/-- ECAUSE: CAUSE in [7:0], SUB in [15:8]. -/
def ecauseWord (cause sub : Nat) : Word := BitVec.ofNat 32 (cause + 256 * sub)

/-- STATUS after an exception entry: PRIV = 1, IE = 0, EXC = 1 (R93). -/
def entryStatus (st : Word) : Word := (st &&& 0xFFFFFDFF) ||| 0x500

/-- A synchronous exception inside a handler: the core halts; a Rider's core-fault input asserts, the Groom's
second fault is remembered for its record (R95, R96) (log entry 15: DEDUCED). -/
def State.doubleFault (s : State) (c : Core) (ecause eval : Word) : State :=
  let s := s.setRun c .halted
  match c with
  | .grm => s.mapNvm fun x => { x with groomFault := some (ecause.toNat, eval.toNat) }
  | _ => s.coreFault c

/-- The entry itself, as one action (R93). -/
def State.enterExc (s : State) (c : Core) (cause sub : Nat) (epc eval : Word) : State :=
  let st := s.cr c Cr.status
  let s := ((s.setCr c Cr.epc epc).setCr c Cr.ecause (ecauseWord cause sub)).setCr c Cr.eval eval
  let s := (s.setCr c Cr.estatus st).setCr c Cr.status (entryStatus st)
  (s.setRun c .run).setPc c ((s.cr c Cr.vbase &&& 0xFFFFFF00) + BitVec.ofNat 32 (0x20 * cause))

/-- A synchronous exception (R93, R95). -/
def State.takeExc (s : State) (c : Core) (cause sub : Nat) (epc eval : Word) : State :=
  if s.statusBit c 10 then s.doubleFault c (ecauseWord cause sub) eval else s.enterExc c cause sub epc eval

/-- A synchronous exception of the instruction at the core's pc. -/
def State.faultHere (s : State) (c : Core) (cause sub : Nat) (eval : Word) : State :=
  s.takeExc c cause sub (s.pc c) eval

/-- A corrected single-bit error is counted in ECCCNT, saturating at 0xFFFF (R98). -/
def State.eccSeen (s : State) (c : Core) : State :=
  s.setCr c Cr.ecccnt (BitVec.ofNat 32 (min 0xFFFF ((s.cr c Cr.ecccnt).toNat + 1)))

/-! ### Execution of one instruction -/

/-- One instruction of core `f.core` at its pc, whose word is `word`: the faults of its fetch, then illegal
instruction for an undefined encoding (R79) or with subcode `bad`, in the order of R94, then `body`. A core that executes no instructions takes
no effect (log entry 12: DEDUCED). -/
def State.instr (s : State) (f : Fetch) (word : Word) (bad : Option Nat) (body : State → State) :
    Host.Outcome State Fault Refusal :=
  let c := f.core
  let pc := s.pc c
  .next (if (s.core c).run ≠ .run then s
    else if s.winBad c Perm.x 4 pc.toNat then s.faultHere c Exc.window 0 pc
    else
      match s.refusal (coreMaster c) (s.isApp c) .fetch 4 pc.toNat with
      | some k => (s.recordRefusal (coreMaster c) .fetch k pc.toNat).faultHere c Exc.window 3 pc
      | none =>
        if f.ecc = .uncorrectable then s.faultHere c Exc.ecc 0 pc
        else
          let s := s.when (decide (f.ecc = .corrected)) fun s => s.eccSeen c
          match fetchUndefined f with
          | some e => s.faultHere c Exc.illegal e.1 e.2
          | none =>
            match bad with
            | some sub => s.faultHere c Exc.illegal sub word
            | none => body s)

/-- The first subcode whose condition holds (log entry 12: DEDUCED). -/
def firstBad (l : List (Bool × Nat)) : Option Nat :=
  match l with
  | [] => none
  | (b, k) :: rest => if b then some k else firstBad rest

/-- The core does not execute the class (Table GCS-1). -/
def groomLacks (f : Fetch) : Bool := decide (f.core = .grm)

/-! ### Data accesses -/

/-- Does a data access of `n` bytes fault: the exception it takes, none where it is served. Window violation 0x00,
misaligned outside the peripheral region 0x01, refused 0x03 (R83, R87, R29). -/
def State.dataFault (s : State) (c : Core) (k : Access) (perm n : Nat) (a : Word) : Option State :=
  let x := a.toNat
  if s.winBad c perm n x then some (s.faultHere c Exc.window 0 a)
  else if region x ≠ .periph ∧ x % n ≠ 0 then some (s.faultHere c Exc.window 1 a)
  else
    match s.refusal (coreMaster c) (s.isApp c) k n x with
    | some r => some ((s.recordRefusal (coreMaster c) k r x).faultHere c Exc.window 3 a)
    | none => none

/-- Memory kept by ECC: not peripheral registers, not the mirror window. -/
def eccMem (r : Region) : Bool := decide (r ≠ .periph) && decide (r ≠ .mirror)

/-- A Herd memory: a corrected error counts in HRD_ECCCNT (R141). -/
def herdMemory (r : Region) : Bool := decide (r = .laneMem ∨ r = .teamMem ∨ r = .herdMem)

/-- What a served load of `n` bytes gives, and the state after it: a register's load may have an effect; the mirror
window reads 0 outside tandem mode (R31). -/
def State.loadAt (s : State) (c : Core) (n a : Nat) : Nat × State :=
  match region a with
  | .periph => s.regLoad c a
  | .mirror => (if s.tandem then s.load n a else 0, s)
  | _ => (s.load n a, s)

/-- A load instruction: `ext` makes the loaded bytes a word (R80, R87). -/
def State.loadInstr (s : State) (f : Fetch) (dst a : Reg) (imm : BitVec 13) (ecc : Ecc) (op n : Nat)
    (ext : Nat → Word) : Host.Outcome State Fault Refusal :=
  let c := f.core
  s.instr f (wordI 2 dst a op imm) none fun s =>
    let x := s.g c a + immS imm
    match s.dataFault c .load Perm.r n x with
    | some t => t
    | none =>
      if eccMem (region x.toNat) && decide (ecc = .uncorrectable) then s.faultHere c Exc.ecc 1 x
      else
        let fixed : Bool := eccMem (region x.toNat) && decide (ecc = .corrected)
        let s := s.when fixed fun s =>
          (s.eccSeen c).when (herdMemory (region x.toNat)) fun s => s.bump HRD_ECCCNT.COUNT 1
        let r := s.loadAt c n x.toNat
        (r.2.setG c dst (ext r.1)).advance c

/-- A served store of `n` bytes. A Rider's store to HRD_TEAMDIS is the peer's as well, the Groom's is not (log entry
14: DEDUCED). -/
def State.storeAt (s : State) (c : Core) (n a w : Nat) : State :=
  match region a with
  | .periph => (s.noteWrite c a).regStore c a w (decide (c = .grm))
  | _ => s.store n a w

/-- A store at App privilege to a register that holds an RWF field (R476). -/
def State.rwfBad (s : State) (c : Core) (a : Nat) : Bool :=
  s.isApp c && decide (region a = .periph) && holdsRwf a

/-- A store instruction: the core goes on, and the store takes effect (R87, R476). -/
def State.storeInstr (s : State) (f : Fetch) (d a : Reg) (imm : BitVec 13) (op n : Nat) :
    Host.Outcome State Fault Refusal :=
  let c := f.core
  s.instr f (wordI 3 d a op imm) none fun s =>
    let x := s.g c a + immS imm
    match s.dataFault c .store Perm.w n x with
    | some t => t
    | none =>
      if s.rwfBad c x.toNat then s.faultHere c Exc.window 4 x
      else
        let w := (s.g c d).toNat
        (s.advance c).storeAt c n x.toNat w

end Sys2Proof.Machine
end

