-- ==== Sys2Proof/Machine/Alu.lean ====
section
/-! DEFINITION. Integer instructions: classes 0x0, 0x1 and 0xA (R78, R85, R86). -/

namespace Sys2Proof.Machine
open Sys2Proof

/-- A class 0x0 operation: result to dst, flags where S = 1. -/
def State.aluReg (s : State) (f : Fetch) (fl : Bool) (dst a b : Reg) (op : Nat) (g : Word → Word → Word)
    (rule : FlagRule) : Host.Outcome State Fault Refusal :=
  let c := f.core
  s.instr f (wordR 0 dst a b fl 0 op) none fun s =>
    let x := s.g c a
    let y := s.g c b
    let r := g x y
    ((s.when fl fun s => rule s c x y r).setG c dst r).advance c

/-- A class 0x1 operation on the immediate as the word `y`; S in [17], op in [16:13]. `bad`: an undefined
encoding. -/
def State.aluImm (s : State) (f : Fetch) (fl : Bool) (dst a : Reg) (imm : BitVec 13) (op : Nat) (bad : Bool)
    (y : Word) (g : Word → Word → Word) (rule : FlagRule) : Host.Outcome State Fault Refusal :=
  let c := f.core
  s.instr f (wordI 1 dst a (16 * b2n fl + op) imm) (firstBad [(bad, 0)]) fun s =>
    let x := s.g c a
    let r := g x y
    ((s.when fl fun s => rule s c x y r).setG c dst r).advance c

/-! ### Class 0x0 -/

/-- add: srcA + srcB. -/
def execAdd (f : Fetch) (fl : Bool) (dst srcA srcB : Reg) (s : State) :
    Host.Outcome State Fault Refusal :=
  s.aluReg f fl dst srcA srcB 0x00 (fun x y => x + y) State.addFlags

/-- sub: srcA − srcB. -/
def execSub (f : Fetch) (fl : Bool) (dst srcA srcB : Reg) (s : State) :
    Host.Outcome State Fault Refusal :=
  s.aluReg f fl dst srcA srcB 0x01 (fun x y => x - y) State.subFlags

/-- and: srcA AND srcB. -/
def execAnd (f : Fetch) (fl : Bool) (dst srcA srcB : Reg) (s : State) :
    Host.Outcome State Fault Refusal :=
  s.aluReg f fl dst srcA srcB 0x02 (fun x y => x &&& y) State.resultFlags

/-- or: srcA OR srcB. -/
def execOr (f : Fetch) (fl : Bool) (dst srcA srcB : Reg) (s : State) :
    Host.Outcome State Fault Refusal :=
  s.aluReg f fl dst srcA srcB 0x03 (fun x y => x ||| y) State.resultFlags

/-- xor: srcA XOR srcB. -/
def execXor (f : Fetch) (fl : Bool) (dst srcA srcB : Reg) (s : State) :
    Host.Outcome State Fault Refusal :=
  s.aluReg f fl dst srcA srcB 0x04 (fun x y => x ^^^ y) State.resultFlags

/-- shl: srcA shifted left by srcB[4:0]. -/
def execShl (f : Fetch) (fl : Bool) (dst srcA srcB : Reg) (s : State) :
    Host.Outcome State Fault Refusal :=
  s.aluReg f fl dst srcA srcB 0x05 (fun x y => x <<< shiftBy y) State.resultFlags

/-- shr: srcA shifted right logically by srcB[4:0]. -/
def execShr (f : Fetch) (fl : Bool) (dst srcA srcB : Reg) (s : State) :
    Host.Outcome State Fault Refusal :=
  s.aluReg f fl dst srcA srcB 0x06 (fun x y => x >>> shiftBy y) State.resultFlags

/-- sar: srcA shifted right arithmetically by srcB[4:0]. -/
def execSar (f : Fetch) (fl : Bool) (dst srcA srcB : Reg) (s : State) :
    Host.Outcome State Fault Refusal :=
  s.aluReg f fl dst srcA srcB 0x07 (fun x y => x.sshiftRight (shiftBy y)) State.resultFlags

/-- slt: 1 if srcA < srcB signed. -/
def execSlt (f : Fetch) (fl : Bool) (dst srcA srcB : Reg) (s : State) :
    Host.Outcome State Fault Refusal :=
  s.aluReg f fl dst srcA srcB 0x08 (fun x y => boolWord (x.slt y)) State.resultFlags

/-- sltu: 1 if srcA < srcB unsigned. -/
def execSltu (f : Fetch) (fl : Bool) (dst srcA srcB : Reg) (s : State) :
    Host.Outcome State Fault Refusal :=
  s.aluReg f fl dst srcA srcB 0x09 (fun x y => boolWord (x.ult y)) State.resultFlags

/-- min: signed minimum. -/
def execMin (f : Fetch) (fl : Bool) (dst srcA srcB : Reg) (s : State) :
    Host.Outcome State Fault Refusal :=
  s.aluReg f fl dst srcA srcB 0x0A (fun x y => if y.slt x then y else x) State.resultFlags

/-- max: signed maximum. -/
def execMax (f : Fetch) (fl : Bool) (dst srcA srcB : Reg) (s : State) :
    Host.Outcome State Fault Refusal :=
  s.aluReg f fl dst srcA srcB 0x0B (fun x y => if x.slt y then y else x) State.resultFlags

/-- minu: unsigned minimum. -/
def execMinu (f : Fetch) (fl : Bool) (dst srcA srcB : Reg) (s : State) :
    Host.Outcome State Fault Refusal :=
  s.aluReg f fl dst srcA srcB 0x0C (fun x y => if y.ult x then y else x) State.resultFlags

/-- maxu: unsigned maximum. -/
def execMaxu (f : Fetch) (fl : Bool) (dst srcA srcB : Reg) (s : State) :
    Host.Outcome State Fault Refusal :=
  s.aluReg f fl dst srcA srcB 0x0D (fun x y => if x.ult y then y else x) State.resultFlags

/-- mul: bits [31:0] of the product. -/
def execMul (f : Fetch) (fl : Bool) (dst srcA srcB : Reg) (s : State) :
    Host.Outcome State Fault Refusal :=
  s.aluReg f fl dst srcA srcB 0x10 (fun x y => x * y) State.resultFlags

/-- mulh: bits [63:32] of the signed product. -/
def execMulh (f : Fetch) (fl : Bool) (dst srcA srcB : Reg) (s : State) :
    Host.Outcome State Fault Refusal :=
  s.aluReg f fl dst srcA srcB 0x11 mulHigh State.resultFlags

/-- mulhu: bits [63:32] of the unsigned product. -/
def execMulhu (f : Fetch) (fl : Bool) (dst srcA srcB : Reg) (s : State) :
    Host.Outcome State Fault Refusal :=
  s.aluReg f fl dst srcA srcB 0x12 mulHighU State.resultFlags

/-- div: signed quotient toward zero (R86). -/
def execDiv (f : Fetch) (fl : Bool) (dst srcA srcB : Reg) (s : State) :
    Host.Outcome State Fault Refusal :=
  s.aluReg f fl dst srcA srcB 0x14 divS State.resultFlags

/-- divu: unsigned quotient (R86). -/
def execDivu (f : Fetch) (fl : Bool) (dst srcA srcB : Reg) (s : State) :
    Host.Outcome State Fault Refusal :=
  s.aluReg f fl dst srcA srcB 0x15 divU State.resultFlags

/-- rem: signed remainder with the sign of srcA (R86). -/
def execRem (f : Fetch) (fl : Bool) (dst srcA srcB : Reg) (s : State) :
    Host.Outcome State Fault Refusal :=
  s.aluReg f fl dst srcA srcB 0x16 remS State.resultFlags

/-- remu: unsigned remainder (R86). -/
def execRemu (f : Fetch) (fl : Bool) (dst srcA srcB : Reg) (s : State) :
    Host.Outcome State Fault Refusal :=
  s.aluReg f fl dst srcA srcB 0x17 remU State.resultFlags

/-! ### Class 0x1 -/

/-- addi: srcA + imm. -/
def execAddi (f : Fetch) (fl : Bool) (dst srcA : Reg) (imm : BitVec 13) (s : State) :
    Host.Outcome State Fault Refusal :=
  s.aluImm f fl dst srcA imm 0x0 false (immS imm) (fun x y => x + y)
    State.addFlags

/-- subi: srcA − imm. -/
def execSubi (f : Fetch) (fl : Bool) (dst srcA : Reg) (imm : BitVec 13) (s : State) :
    Host.Outcome State Fault Refusal :=
  s.aluImm f fl dst srcA imm 0x1 false (immS imm) (fun x y => x - y)
    State.subFlags

/-- andi: srcA AND imm, zero-extended. -/
def execAndi (f : Fetch) (fl : Bool) (dst srcA : Reg) (imm : BitVec 13) (s : State) :
    Host.Outcome State Fault Refusal :=
  s.aluImm f fl dst srcA imm 0x2 false (immZ imm) (fun x y => x &&& y)
    State.resultFlags

/-- ori: srcA OR imm, zero-extended. -/
def execOri (f : Fetch) (fl : Bool) (dst srcA : Reg) (imm : BitVec 13) (s : State) :
    Host.Outcome State Fault Refusal :=
  s.aluImm f fl dst srcA imm 0x3 false (immZ imm) (fun x y => x ||| y)
    State.resultFlags

/-- xori: srcA XOR imm, zero-extended. -/
def execXori (f : Fetch) (fl : Bool) (dst srcA : Reg) (imm : BitVec 13) (s : State) :
    Host.Outcome State Fault Refusal :=
  s.aluImm f fl dst srcA imm 0x4 false (immZ imm) (fun x y => x ^^^ y)
    State.resultFlags

/-- shli: srcA << imm[4:0]; imm[12:5] must be 0. -/
def execShli (f : Fetch) (fl : Bool) (dst srcA : Reg) (imm : BitVec 13) (s : State) :
    Host.Outcome State Fault Refusal :=
  s.aluImm f fl dst srcA imm 0x5 (decide (32 ≤ imm.toNat)) (immZ imm) (fun x y => x <<< shiftBy y)
    State.resultFlags

/-- shri: srcA >> imm[4:0], logical; imm[12:5] must be 0. -/
def execShri (f : Fetch) (fl : Bool) (dst srcA : Reg) (imm : BitVec 13) (s : State) :
    Host.Outcome State Fault Refusal :=
  s.aluImm f fl dst srcA imm 0x6 (decide (32 ≤ imm.toNat)) (immZ imm) (fun x y => x >>> shiftBy y)
    State.resultFlags

/-- sari: srcA >> imm[4:0], arithmetic; imm[12:5] must be 0. -/
def execSari (f : Fetch) (fl : Bool) (dst srcA : Reg) (imm : BitVec 13) (s : State) :
    Host.Outcome State Fault Refusal :=
  s.aluImm f fl dst srcA imm 0x7 (decide (32 ≤ imm.toNat)) (immZ imm) (fun x y => x.sshiftRight (shiftBy y))
    State.resultFlags

/-- slti: 1 if srcA < imm signed. -/
def execSlti (f : Fetch) (fl : Bool) (dst srcA : Reg) (imm : BitVec 13) (s : State) :
    Host.Outcome State Fault Refusal :=
  s.aluImm f fl dst srcA imm 0x8 false (immS imm) (fun x y => boolWord (x.slt y))
    State.resultFlags

/-- sltiu: 1 if srcA < imm, sign-extended, then compared unsigned. -/
def execSltiu (f : Fetch) (fl : Bool) (dst srcA : Reg) (imm : BitVec 13) (s : State) :
    Host.Outcome State Fault Refusal :=
  s.aluImm f fl dst srcA imm 0x9 false (immS imm) (fun x y => boolWord (x.ult y))
    State.resultFlags

/-! ### Class 0xA -/

/-- high: imm19 << 13 to dst. -/
def execHigh (f : Fetch) (dst : Reg) (imm : BitVec 19) (s : State) :
    Host.Outcome State Fault Refusal :=
  let c := f.core
  s.instr f (wordU dst imm) none fun s => (s.setG c dst (imm.zeroExtend 32 <<< 13)).advance c

end Sys2Proof.Machine
end

