-- ==== Sys2Proof/Machine/Can.lean ====
section
/-! DEFINITION. Events at the CAN buses (R353-R361). Controller 0 is CAN-A, 1 is CAN-B; `sof` is the device
time at the sample point of the SOF bit. -/

namespace Sys2Proof.Machine
open Sys2Proof Sys2Proof.Reg

/-- A frame was received or sent without error: the counters go down as ISO 11898-1 says (log entry 91: PRESUMED). -/
def State.canGood (s : State) (x : Nat) (sent : Bool) : State :=
  if sent then (s.set (CNx_STAT.TEC x) (s.get (CNx_STAT.TEC x) - 1)).canConfine x
  else
    let r := s.get (CNx_STAT.REC x)
    if 127 < r then
      let d := s.draw 8
      (d.2.set (CNx_STAT.REC x) (119 + d.1 % 9)).canConfine x
    else (s.set (CNx_STAT.REC x) (r - 1)).canConfine x

/-- CAN_FRAME_RECEIVED (R353, R354): matched against the receive objects; remote frames are not stored (log entry
92: DEDUCED). -/
def execCanFrameReceived (x : Fin 2) (f : CanFrame) (sof : BitVec 64) (s : State) :
    Host.Outcome State Fault Refusal :=
  if s.canOn x.val then
    let r := s.canReceive x.val f sof.toNat
    .next (if s.canMode x.val = Can.restricted then r else r.canGood x.val false)
  else .next s

/-- CAN_RX_TIMEOUT (R355): the timeout of object `n` runs out, once per expiry. -/
def execCanRxTimeout (x : Fin 2) (n : BitVec 7) (s : State) :
    Host.Outcome State Fault Refusal :=
  let n := n.toNat
  if s.canUp x.val ∧ s.flag (CNx_OCFG.EN x.val n) ∧ s.flag (CNx_OCFG.DIR x.val n) = false ∧
      s.get (CNx_ORTO.MS x.val n) ≠ 0 ∧ s.flag (CNx_OSTAT.TMO x.val n) = false ∧ s.canSilent x.val n = true then
    .next (((s.put (CNx_OSTAT.TMO x.val n) true).canBit CNx_RXTMO.BITS x.val n true).raise
      (canBase x.val + 3))
  else .next s

/-- The transmitter delay is measured in the data phase of a frame that switches bit rate, with TDCEN = 1 (R351); the
measure is a free value. -/
def State.canDelay (s : State) (x : Nat) (brs : Bool) : State :=
  if brs = true ∧ s.flag (CNx_TDC.TDCEN x) = true then
    let d := s.draw 7
    d.2.set (CNx_TDC.TDCV x) d.1
  else s

/-- CAN_FRAME_SENT (R356): the frame at its EOF ends with RES 1 and is offered to the receive objects. -/
def execCanFrameSent (x : Fin 2) (obj : Option (BitVec 7)) (sof : BitVec 64) (s : State) :
    Host.Outcome State Fault Refusal :=
  match s.canBus x.val obj with
  | none => .next s
  | some n =>
    let f := s.canFrameOf x.val n
    let s := ((s.canEnd x.val n 1 sof.toNat false).canDelay x.val f.brs).canGood x.val true
    .next (s.canReceive x.val f sof.toNat)

/-- CAN_ARBITRATION_LOST (R356): a one-shot frame ends with RES 2, another is retried. -/
def execCanArbitrationLost (x : Fin 2) (obj : Option (BitVec 7)) (s : State) :
    Host.Outcome State Fault Refusal :=
  match s.canBus x.val obj with
  | none => .next s
  | some n =>
    if s.flag (CNx_OCFG.ONESHOT x.val n) then .next (s.canEnd x.val n 2 0 false) else .next s

/-- CAN_ERROR (R359, R360): error `lec` of Table CAN-7, or 0 for a set res bit: a protocol exception while
PXE = 1, else a form error. `sending` says that the controller sent the frame (of object `obj`), `inc` by
how much the counter goes up. A one-shot frame ends with RES 3 (log entry 91: PRESUMED). -/
def execCanError (x : Fin 2) (lec : Fin 7) (sending : Bool) (obj : Option (BitVec 7)) (inc : Fin 9)
    (s : State) :
    Host.Outcome State Fault Refusal :=
  let x := x.val
  if s.canOn x = false then .next s
  else if lec.val = 0 ∧ s.flag (CNx_CTRL.PXE x) = true then .next (s.put (CNx_FLT.PXE x) true)
  else
    let on := if sending then s.canBus x obj else none
    let sending := on.isSome
    let s := s.set (CNx_STAT.LEC x) (if lec.val = 0 then 2 else lec.val)
    let s := match on with
      | some n => if s.flag (CNx_OCFG.ONESHOT x n) then s.canEnd x n 3 0 false else s
      | none => s
    if s.canMode x = Can.restricted then .next s
    else if sending then
      let t := s.get (CNx_STAT.TEC x) + inc.val
      let s := s.set (CNx_STAT.TEC x) (min 255 t)
      .next (if 256 ≤ t then s.canBusOff x else s.canConfine x)
    else .next ((s.set (CNx_STAT.REC x) (min 255 (s.get (CNx_STAT.REC x) + inc.val))).canConfine x)

/-- CAN_BUS_OFF_RECOVERY (R359): 128 times 11 recessive bits have passed since the recovery began. -/
def execCanBusOffRecovery (x : Fin 2) (s : State) :
    Host.Outcome State Fault Refusal :=
  let x := x.val
  if s.canUp x ∧ s.get (CNx_STAT.STATE x) = 3 ∧ s.get (CNx_CTRL.MODE x) ≠ Can.init ∧
      (s.flag (CNx_CTRL.BOAUTO x) = true ∨ bit s.can.recovering x = true) then
    let s := ((s.set (CNx_STAT.STATE x) 1).set (CNx_STAT.TEC x) 0).set (CNx_STAT.REC x) 0
    .next ((s.mapCan fun c => { c with recovering := clrBit c.recovering x }).raise (canBase x + 7))
  else .next s

/-- CAN_MODE_CHANGE (R360): 11 recessive bits have passed since MODE left INIT: the controller joins. -/
def execCanModeChange (x : Fin 2) (s : State) :
    Host.Outcome State Fault Refusal :=
  let x := x.val
  if s.canUp x ∧ s.get (CNx_CTRL.MODE x) ≠ Can.init ∧ s.get (CNx_STAT.STATE x) = 0 then
    .next (s.set (CNx_STAT.STATE x) 1)
  else .next s

end Sys2Proof.Machine
end

