-- ==== Sys2Proof/Machine/Eth.lean ====
section
/-! DEFINITION. Events of the Ethernet switch, P0 and the time unit, and the publication of the setpoint
(R327, R363, R369-R388). -/

namespace Sys2Proof.Machine
open Sys2Proof Sys2Proof.Reg

/-- SETPOINT_PUBLISH (R327, R363, R385): once PERIOD ticks have passed, the dispatch telegram goes out on the
buses of PUBSEL. -/
def execSetpointPublish (s : State) :
    Host.Outcome State Fault Refusal :=
  let sel := s.get GGN_PUB.PUBSEL
  if sel = 0 ∨ s.ioPowered = false ∨ s.flag GGN_CTRL.RUN = false ∨
      s.nowUs < s.ggn.pubAt + 100 * s.get GGN_PUB.PERIOD then .next s
  else
    let t := s.nowUs
    let s := (s.mapGgn fun g => { g with pubAt := t }).ethQuiet
    let s := s.set CNB_DSEQ.SEQ (s.get CNB_DSEQ.SEQ + 1)
    let s := s.when (bit sel 0) fun s => s.dispatchCan
    .next (s.when (bit sel 1) fun s => s.dispatchEth)

/-- A frame to a group address. -/
def ethGroup (f : EthFrame) : Bool := f.dst.getLsbD 40

/-- A frame to the module's own MAC address. -/
def State.ethOwn (s : State) (f : EthFrame) : Bool :=
  decide (f.dst.toNat = s.ethGet ETH_MACHI.MAC * 2 ^ 32 + s.ethGet ETH_MACLO.MAC)

/-- Out ports of a frame: the port of a known unicast address, else every other port (R369). -/
def State.ethOuts (s : State) (f : EthFrame) : List Nat :=
  let all := [0, 1, 2].filter fun p => decide (p ≠ f.port.val)
  let outs := if ethGroup f then all
    else if s.ethOwn f then [0]
    else match s.eth.table.find? fun e => decide (e.mac = f.dst.toNat) with
      | some e => [e.port]
      | none => all
  outs.filter fun p => s.ethPort p && decide (p ≠ f.port.val)

/-- The transparent clock answers a Pdelay_Req at an external port itself (R372). -/
def State.ethAnswers (s : State) (f : EthFrame) : Bool :=
  decide (f.kind = .pdelayReq) && decide (f.port.val ≠ 0) && s.flag PTP_CTRL.TC_EN
    && decide (s.get PTP_PORTCFG.PROFILE = 1)

/-- Nanoseconds that the transparent clock adds to the correctionField: `residence` and, for a Sync of the
peer-to-peer profile, the ingress port's link delay (R372). -/
def State.ethCorr (s : State) (f : EthFrame) (residence linkDelay : Nat) : Nat :=
  if s.flag PTP_CTRL.TC_EN then
    match f.kind with
    | .ptpEvent sync =>
      residence + (if sync = true ∧ s.get PTP_PORTCFG.PROFILE = 1 ∧ f.port.val ≠ 0 then linkDelay else 0)
    | .pdelayReq => residence
    | _ => 0
  else 0

/-- A frame of the high queue (R369). -/
def ethHigh (f : EthFrame) : Bool :=
  decide (5 ≤ f.pcp.toNat) || (match f.kind with
    | .ptpEvent _ => true
    | .pdelayReq => true
    | .ptpGeneral => true
    | .plant => true
    | _ => false)

/-- SWITCH_FORWARD (R368-R370, R372): the source address is learned and the frame leaves by its ports; bit p of
`full`: the queue of port p is full and the frame is dropped. P0 takes an ARP reply and discards what it does not
know. -/
def execSwitchForward (f : EthFrame) (residence linkDelay : Nat) (full : BitVec 3) (s : State) :
    Host.Outcome State Fault Refusal :=
  if (s.ethUp = false ∧ s.inReset = false) ∨ s.ethPort f.port.val = false then .next s
  else
    let now := s.nowUs
    let s := s.ethQuiet.mapEth fun e =>
      let l := e.table.filter fun x => decide (now < x.seen + 300000000) && decide (x.mac ≠ f.src.toNat)
      { e with table := if l.length < 256 then l ++ [⟨f.src.toNat, f.port.val, now⟩] else l }
    if s.ethAnswers f then .next (s.ethSend (.pdelayResp f.port.val))
    else .next ((s.ethOuts f).foldl (fun (s : State) p =>
      if full.getLsbD p then s.bump ETH_SWDROP.COUNT 1
      else if p = 0 then
        (match f.kind with
          | .arpReply ip => s.arpLearn ip.toNat f.src.toNat
          | .other => if ethGroup f || s.ethOwn f then s.rxDrop else s
          | _ => s)
      else s.ethSend (.forward p (ethHigh f) (s.ethCorr f residence linkDelay))) s)

/-- ARP_REQUEST (R370): P0 answers a request for ETH_IPADDR. -/
def execArpRequest (target sender : BitVec 32) (mac : BitVec 48) (s : State) :
    Host.Outcome State Fault Refusal :=
  if s.ethUp = true ∧ target.toNat = s.ethGet ETH_IPADDR.IP then
    .next (s.ethQuiet.ethSend (.arpReply sender.toNat mac.toNat))
  else .next s.ethQuiet

/-- ICMP_ECHO_REQUEST (R370): P0 answers while ICMP_EN = 1. -/
def execIcmpEchoRequest (target sender : BitVec 32) (s : State) :
    Host.Outcome State Fault Refusal :=
  if s.ethUp = true ∧ s.ethFlag ETH_CTRL.ICMP_EN = true ∧ target.toNat = s.ethGet ETH_IPADDR.IP then
    .next (s.ethQuiet.ethSend (.icmpReply sender.toNat))
  else .next s.ethQuiet

/-- ARP_RETRY (R370): 1 s has passed without an answer for `ip`: three more requests, then ARPFAIL; the
frames of txf that wait for it end with RES 2 (R382). -/
def execArpRetry (ip : BitVec 32) (s : State) :
    Host.Outcome State Fault Refusal :=
  match s.eth.asking.find? fun e => decide (e.1 = ip.toNat) with
  | none => .next s.ethQuiet
  | some e =>
    let rest := s.eth.asking.filter fun x => decide (x.1 ≠ ip.toNat)
    if e.2 < 3 then
      .next ((s.ethQuiet.mapEth fun x => { x with asking := rest ++ [(e.1, e.2 + 1)] }).ethSend
        (.arpRequest e.1))
    else
      let s := (s.ethQuiet.mapEth fun x => { x with asking := rest }).put ETH_FLT.ARPFAIL true
      let lost := s.eth.tx.filter fun x => x.udp && decide (s.nextHop x.dip = e.1)
        && (s.arpOf e.1).isNone
      .next (lost.foldl (fun (s : State) x => s.txEnd x 2 0) s)

/-- DEMAND_TIMEOUT (R384): DTMO has passed without an accepted DEMAND. -/
def execDemandTimeout (s : State) :
    Host.Outcome State Fault Refusal :=
  if s.flag ETH_STAT.DEM_OK ∧ s.eth.demAt + 1000 * s.ethGet ETH_DEMCFG.DTMO ≤ s.nowUs then
    .next ((((s.put ETH_STAT.DEM_OK false).put ETH_STAT.DEM_TMO true).put ETH_FLT.DEM_TMO true).raise 228)
  else .next s

/-- TELEMETRY_SEND (R386): once PERIOD ms have passed; not gated. With ETH_PLANTIP 0 there is no destination
(log entry 93: DEDUCED). -/
def execTelemetrySend (s : State) :
    Host.Outcome State Fault Refusal :=
  let s := s.ethQuiet
  if s.ethFlag ETH_TELCFG.EN = true ∧ s.ethUp = true ∧ s.ethGet ETH_PLANTIP.IP ≠ 0 ∧
      s.eth.telAt + 1000 * s.ethGet ETH_TELCFG.PERIOD ≤ s.nowUs then
    let t := s.nowUs
    let s := s.mapEth fun e => { e with telAt := t }
    .next (s.sendTelegram 2 (s.ethGet ETH_PLANTIP.IP) (s.ethGet ETH_UDPPORT.PORT) s.telemetryBytes)
  else .next s

/-- ETH_LINK_CHANGE (R389): link of P1 (`p` false) or P2; source 224. -/
def execEthLinkChange (p up : Bool) (s : State) :
    Host.Outcome State Fault Refusal :=
  let f := if p then ETH_STAT.P2LINK else ETH_STAT.P1LINK
  if s.flag f = up then .next s
  else .next (((s.put f up).put (if p then ETH_FLT.P2CHG else ETH_FLT.P1CHG) true).raise 224)

/-- ETH_FRAME_SENT (R381, R382): the next frame of txf leaves P0 at device time `ts`, or finds its egress
queue full. -/
def execEthFrameSent (full : Bool) (ts : BitVec 64) (s : State) :
    Host.Outcome State Fault Refusal :=
  let s := s.ethQuiet
  if s.ethUp = false then .next s
  else
    match s.txReady with
    | none => .next s
    | some x =>
      if full then .next ((s.bump ETH_SWDROP.COUNT 1).txEnd x 3 0)
      else
        let m := if x.udp then EthOut.udp x.dip x.dport (s.ethGet ETH_UDPPORT.PORT) x.data
          else EthOut.raw x.data
        let s := s.ethSend m
        let s := s.when x.tsreq fun s => s.tsqPush x.stampId ts.toNat
        .next (s.txEnd x 1 ts.toNat)

/-! ### Time unit -/

/-- PTP_SYNC_SAMPLE (R375, R376): a complete Sync exchange with the selected parent gives an offset. -/
def execPtpSyncSample (offset : BitVec 64) (s : State) :
    Host.Outcome State Fault Refusal :=
  if s.ptpUp = true ∧ s.flag PTP_CTRL.EN = true ∧ s.get PTP_CTRL.SRC = 0 ∧
      s.flag PTP_STAT.MASTER = false then .next (s.ptpSample offset.toInt)
  else .next s

/-- BMCA_GM_CHANGE (R373, R376): the BMCA selects grandmaster `gm`, or the module's own clock. -/
def execBmcaGmChange (gm : BitVec 64) (own : Bool) (s : State) :
    Host.Outcome State Fault Refusal :=
  if s.ptpUp = false then .next s
  else
    let master : Bool := own && s.flag PTP_CTRL.MASTER_EN
    let s := ((s.set PTP_GMID0.ID gm.toNat).set PTP_GMID1.ID (gm.toNat / 2 ^ 32)).put PTP_STAT.MASTER master
    let st := s.ptpState
    if (st = Ptp.locked ∨ st = Ptp.holdover) ∧ s.flag PTP_STAT.TVALID = true ∧
        s.get PTP_CTRL.SRC = 0 ∧ gm.toNat ≠ s.ptp.gm then
      .next (s.ptpRefuse PTP_FLT.GMCHG)
    else .next s

/-- SYNC_TIMEOUT (R376): no valid sample for SYNCTMO. -/
def execSyncTimeout (s : State) :
    Host.Outcome State Fault Refusal :=
  if s.ptpState = Ptp.locked ∧ s.ptp.validAt.getD 0 + 1000000 * s.ptp.syncTmo ≤ s.nowUs then
    .next ((s.ptpEnter Ptp.holdover).put PTP_FLT.SYNCLOSS true)
  else .next s

/-- HOLDOVER_LIMIT (R376): HOLDMAX since the last corrected sample. -/
def execHoldoverLimit (s : State) :
    Host.Outcome State Fault Refusal :=
  if (s.ptpState = Ptp.holdover ∨ s.ptpState = Ptp.refused) ∧
      s.ptp.fixedAt.getD 0 + 1000000 * s.ptp.holdMax ≤ s.nowUs then .next (s.ptpEnter Ptp.free)
  else .next s

/-- TIME_STEP (R374, R376): the tick boundary at which an accepted step is made. -/
def execTimeStep (s : State) :
    Host.Outcome State Fault Refusal :=
  if s.ptpUp then .next s.ptpBoundary else .next s

/-- PPS_IN_EDGE (R378): the selected edge of PPS_IN at device time `ts`. -/
def execPpsInEdge (ts : BitVec 64) (s : State) :
    Host.Outcome State Fault Refusal :=
  if s.ptpUp = false ∨ s.flag PTP_PPSCFG.IEN = false then .next s
  else
    let t := ts.toNat
    let good : Bool := match s.ptp.edge with
      | none => true
      | some e => decide (((t : Int) - e - 1000000000).natAbs ≤ 100000)
    let s := (s.set PTP_PPSTSLO.NS t).set PTP_PPSTSHI.NS (t / 2 ^ 32)
    let at_ := s.nowUs
    let s := s.mapPtp fun p => { p with edge := some t, edgeAt := at_ }
    if good = false then .next ((s.put PTP_FLT.PPSBAD true).raise 231)
    else if s.get PTP_CTRL.SRC = 1 ∧ s.flag PTP_CTRL.EN = true then
      let sec := s.get PTP_PPSSEC.SEC
      .next ((s.set PTP_PPSSEC.SEC (sec + 1)).ptpSample ((t : Int) - sec * 1000000000))
    else .next s

/-- PPS_TIMEOUT (R378): no edge for 2 s; as a sync timeout while PPS_IN is the source. -/
def execPpsTimeout (s : State) :
    Host.Outcome State Fault Refusal :=
  if s.ptpUp = false ∨ s.flag PTP_PPSCFG.IEN = false ∨ s.nowUs < s.ptp.edgeAt + 2000000 then .next s
  else
    let s := (s.put PTP_FLT.PPSBAD true).raise 231
    if s.get PTP_CTRL.SRC = 1 ∧ s.ptpState = Ptp.locked then
      .next ((s.ptpEnter Ptp.holdover).put PTP_FLT.SYNCLOSS true)
    else .next s

/-- PPS_OUT_PULSE (R379): the whole second of device time nearest to the last boundary; PPS_OUT is high for OWIDTH
from it. -/
def execPpsOutPulse (s : State) :
    Host.Outcome State Fault Refusal :=
  if s.ptpUp = true ∧ s.flag PTP_PPSCFG.OEN = true ∧ (s.flag PTP_STAT.TVALID = true ∨ s.flag PTP_PPSCFG.OFREE = true) then
    let t := (s.devTime + 500000000) / 1000000000 * 1000000000 + 10000000 * s.get PTP_PPSCFG.OWIDTH
    .next (s.mapPtp fun p => { p with ppsUntil := t })
  else .next s

/-- TIME_COMPARE_FIRE (R380): device time reaches the target of compare `k` before the next boundary, which is
100 µs away at a rate within 500 ppm (R374). -/
def execTimeCompareFire (k : Fin 4) (s : State) :
    Host.Outcome State Fault Refusal :=
  .next (s.when (timeReached (s.devTime + 100050) (s.get (PTP_CMP.TARGET k.val))) fun s => s.cmpFire k.val)

/-- MASTER_SYNC_INTERVAL (R371): 1 s in the master role: a two-step Sync, and an Announce every second
one. -/
def execMasterSyncInterval (s : State) :
    Host.Outcome State Fault Refusal :=
  let s := s.ethQuiet
  if s.ethUp = true ∧ s.flag PTP_CTRL.MASTER_EN = true ∧ s.flag PTP_STAT.MASTER = true then
    let n := s.ptp.syncs
    let s := ((s.ethSend .ptpSync).ethSend .ptpFollowUp).mapPtp fun p => { p with syncs := n + 1 }
    .next (s.when (decide (n % 2 = 0)) fun s => s.ethSend .ptpAnnounce)
  else .next s

end Sys2Proof.Machine
end

