-- ==== Sys2Proof/Machine/Flow.lean ====
section
/-! DEFINITION. Loads, stores, branches and jumps: classes 0x2 to 0x5 and jalr (R80, R87, R88, R476). -/

namespace Sys2Proof.Machine
open Sys2Proof

/-! ### Loads -/

/-- lb: a byte, sign-extended. -/
def execLb (f : Fetch) (dst srcA : Reg) (imm : BitVec 13) (ecc : Ecc) (s : State) :
    Host.Outcome State Fault Refusal :=
  s.loadInstr f dst srcA imm ecc 0x00 1 (fun v => (BitVec.ofNat 8 v).signExtend 32)

/-- lbu: a byte, zero-extended. -/
def execLbu (f : Fetch) (dst srcA : Reg) (imm : BitVec 13) (ecc : Ecc) (s : State) :
    Host.Outcome State Fault Refusal :=
  s.loadInstr f dst srcA imm ecc 0x01 1 (fun v => BitVec.ofNat 32 v)

/-- lh: an aligned halfword, sign-extended. -/
def execLh (f : Fetch) (dst srcA : Reg) (imm : BitVec 13) (ecc : Ecc) (s : State) :
    Host.Outcome State Fault Refusal :=
  s.loadInstr f dst srcA imm ecc 0x02 2 (fun v => (BitVec.ofNat 16 v).signExtend 32)

/-- lhu: an aligned halfword, zero-extended. -/
def execLhu (f : Fetch) (dst srcA : Reg) (imm : BitVec 13) (ecc : Ecc) (s : State) :
    Host.Outcome State Fault Refusal :=
  s.loadInstr f dst srcA imm ecc 0x03 2 (fun v => BitVec.ofNat 32 v)

/-- lw: an aligned word. -/
def execLw (f : Fetch) (dst srcA : Reg) (imm : BitVec 13) (ecc : Ecc) (s : State) :
    Host.Outcome State Fault Refusal :=
  s.loadInstr f dst srcA imm ecc 0x04 4 (fun v => BitVec.ofNat 32 v)

/-! ### Stores -/

/-- sb: a byte. -/
def execSb (f : Fetch) (srcD srcA : Reg) (imm : BitVec 13) (s : State) :
    Host.Outcome State Fault Refusal :=
  s.storeInstr f srcD srcA imm 0x00 1

/-- sh: an aligned halfword. -/
def execSh (f : Fetch) (srcD srcA : Reg) (imm : BitVec 13) (s : State) :
    Host.Outcome State Fault Refusal :=
  s.storeInstr f srcD srcA imm 0x02 2

/-- sw: an aligned word. -/
def execSw (f : Fetch) (srcD srcA : Reg) (imm : BitVec 13) (s : State) :
    Host.Outcome State Fault Refusal :=
  s.storeInstr f srcD srcA imm 0x04 4

/-! ### Branches -/

/-- A branch: taken where the condition holds; srcA must be g0 for the flag conditions (Table GCS-7). -/
def State.branch (s : State) (f : Fetch) (a : Reg) (off : BitVec 18) (cond : Nat)
    (taken : State → Core → Bool) : Host.Outcome State Fault Refusal :=
  let c := f.core
  s.instr f (wordB cond a off) (firstBad [(decide (cond < 0x10) && decide (a ≠ 0), 0)]) fun s =>
    if taken s c then s.setPc c (branchTarget (s.pc c) off) else s.advance c

/-- beq: taken when Z. -/
def execBeq (f : Fetch) (srcA : Reg) (off : BitVec 18) (s : State) :
    Host.Outcome State Fault Refusal :=
  s.branch f srcA off 0x00 (fun s c => s.statusBit c Flag.z)

/-- bne: taken when not Z. -/
def execBne (f : Fetch) (srcA : Reg) (off : BitVec 18) (s : State) :
    Host.Outcome State Fault Refusal :=
  s.branch f srcA off 0x01 (fun s c => !(s.statusBit c Flag.z))

/-- bhs: taken when C. -/
def execBhs (f : Fetch) (srcA : Reg) (off : BitVec 18) (s : State) :
    Host.Outcome State Fault Refusal :=
  s.branch f srcA off 0x02 (fun s c => s.statusBit c Flag.c)

/-- blo: taken when not C. -/
def execBlo (f : Fetch) (srcA : Reg) (off : BitVec 18) (s : State) :
    Host.Outcome State Fault Refusal :=
  s.branch f srcA off 0x03 (fun s c => !(s.statusBit c Flag.c))

/-- bmi: taken when N. -/
def execBmi (f : Fetch) (srcA : Reg) (off : BitVec 18) (s : State) :
    Host.Outcome State Fault Refusal :=
  s.branch f srcA off 0x04 (fun s c => s.statusBit c Flag.n)

/-- bpl: taken when not N. -/
def execBpl (f : Fetch) (srcA : Reg) (off : BitVec 18) (s : State) :
    Host.Outcome State Fault Refusal :=
  s.branch f srcA off 0x05 (fun s c => !(s.statusBit c Flag.n))

/-- bvs: taken when V. -/
def execBvs (f : Fetch) (srcA : Reg) (off : BitVec 18) (s : State) :
    Host.Outcome State Fault Refusal :=
  s.branch f srcA off 0x06 (fun s c => s.statusBit c Flag.v)

/-- bvc: taken when not V. -/
def execBvc (f : Fetch) (srcA : Reg) (off : BitVec 18) (s : State) :
    Host.Outcome State Fault Refusal :=
  s.branch f srcA off 0x07 (fun s c => !(s.statusBit c Flag.v))

/-- bhi: taken when C and not Z. -/
def execBhi (f : Fetch) (srcA : Reg) (off : BitVec 18) (s : State) :
    Host.Outcome State Fault Refusal :=
  s.branch f srcA off 0x08 (fun s c => s.statusBit c Flag.c && !(s.statusBit c Flag.z))

/-- bls: taken when not C or Z. -/
def execBls (f : Fetch) (srcA : Reg) (off : BitVec 18) (s : State) :
    Host.Outcome State Fault Refusal :=
  s.branch f srcA off 0x09 (fun s c => !(s.statusBit c Flag.c) || s.statusBit c Flag.z)

/-- bge: taken when N = V. -/
def execBge (f : Fetch) (srcA : Reg) (off : BitVec 18) (s : State) :
    Host.Outcome State Fault Refusal :=
  s.branch f srcA off 0x0A (fun s c => s.statusBit c Flag.n == s.statusBit c Flag.v)

/-- blt: taken when N ≠ V. -/
def execBlt (f : Fetch) (srcA : Reg) (off : BitVec 18) (s : State) :
    Host.Outcome State Fault Refusal :=
  s.branch f srcA off 0x0B (fun s c => s.statusBit c Flag.n != s.statusBit c Flag.v)

/-- bgt: taken when not Z and N = V. -/
def execBgt (f : Fetch) (srcA : Reg) (off : BitVec 18) (s : State) :
    Host.Outcome State Fault Refusal :=
  s.branch f srcA off 0x0C (fun s c => !(s.statusBit c Flag.z) && (s.statusBit c Flag.n == s.statusBit c Flag.v))

/-- ble: taken when Z or N ≠ V. -/
def execBle (f : Fetch) (srcA : Reg) (off : BitVec 18) (s : State) :
    Host.Outcome State Fault Refusal :=
  s.branch f srcA off 0x0D (fun s c => s.statusBit c Flag.z || (s.statusBit c Flag.n != s.statusBit c Flag.v))

/-- j: taken always. -/
def execJ (f : Fetch) (srcA : Reg) (off : BitVec 18) (s : State) :
    Host.Outcome State Fault Refusal :=
  s.branch f srcA off 0x0E (fun _ _ => true)

/-- bz: taken when srcA = 0. -/
def execBz (f : Fetch) (srcA : Reg) (off : BitVec 18) (s : State) :
    Host.Outcome State Fault Refusal :=
  s.branch f srcA off 0x10 (fun s c => decide (s.g c srcA = 0))

/-- bnz: taken when srcA ≠ 0. -/
def execBnz (f : Fetch) (srcA : Reg) (off : BitVec 18) (s : State) :
    Host.Outcome State Fault Refusal :=
  s.branch f srcA off 0x11 (fun s c => decide (s.g c srcA ≠ 0))

/-- bltz: taken when srcA < 0 signed. -/
def execBltz (f : Fetch) (srcA : Reg) (off : BitVec 18) (s : State) :
    Host.Outcome State Fault Refusal :=
  s.branch f srcA off 0x12 (fun s c => (s.g c srcA).msb)

/-- bgez: taken when srcA ≥ 0 signed. -/
def execBgez (f : Fetch) (srcA : Reg) (off : BitVec 18) (s : State) :
    Host.Outcome State Fault Refusal :=
  s.branch f srcA off 0x13 (fun s c => !((s.g c srcA).msb))

/-- bgtz: taken when srcA > 0 signed. -/
def execBgtz (f : Fetch) (srcA : Reg) (off : BitVec 18) (s : State) :
    Host.Outcome State Fault Refusal :=
  s.branch f srcA off 0x14 (fun s c => (0 : Word).slt (s.g c srcA))

/-- blez: taken when srcA ≤ 0 signed. -/
def execBlez (f : Fetch) (srcA : Reg) (off : BitVec 18) (s : State) :
    Host.Outcome State Fault Refusal :=
  s.branch f srcA off 0x15 (fun s c => !((0 : Word).slt (s.g c srcA)))

/-! ### Jumps -/

/-- jal: own address + 4 to g31, then the 28-bit offset. -/
def execJal (f : Fetch) (off : BitVec 28) (s : State) :
    Host.Outcome State Fault Refusal :=
  let c := f.core
  s.instr f (wordJ off) none fun s =>
    let pc := s.pc c
    (s.setG c 31 (pc + 4)).setPc c (branchTarget pc off)

/-- jalr: own address + 4 to dst, then to srcA as read before; a misaligned target faults and writes nothing;
S = 1 is undefined. srcB, which jalr does not use, may name any register (log entry 122: DEDUCED). -/
def execJalr (f : Fetch) (fl : Bool) (dst srcA srcB : Reg) (s : State) :
    Host.Outcome State Fault Refusal :=
  let c := f.core
  s.instr f (wordR 0 dst srcA srcB fl 0 0x20) (firstBad [(fl, 0)]) fun s =>
    let x := s.g c srcA
    if x.toNat % 4 ≠ 0 then s.faultHere c Exc.window 1 x
    else (s.setG c dst (s.pc c + 4)).setPc c x

end Sys2Proof.Machine
end

