-- ==== Sys2Proof/Machine/Fp.lean ====
section
/-! DEFINITION. FP32 instructions: class 0x6 (R89, R90), on the Riders only. -/

namespace Sys2Proof.Machine
open Sys2Proof

/-- The conditions of a result, as FPCTL.FLAGS orders them. -/
def FpRes.conds (r : FpRes) : Nat :=
  16 * b2n r.invalid + 8 * b2n r.divZero + 4 * b2n r.overflow + 2 * b2n r.underflow + b2n r.inexact

/-- The signalled conditions: a trapped one enters the FP exception before anything is written, the others set
their sticky flags, and `done` writes the result (R90). -/
def State.fpSignal (s : State) (c : Core) (conds : Nat) (done : State → State) : State :=
  let ctl := (s.cr c Cr.fpctl).toNat
  let trapped := conds &&& (ctl / 256)
  if trapped ≠ 0 then s.faultHere c Exc.fp 0 (BitVec.ofNat 32 trapped)
  else done (s.setCr c Cr.fpctl (BitVec.ofNat 32 (ctl ||| conds)))

/-- A class 0x6 operation with a result; `bad`: an undefined encoding. `g` takes dst, srcA, srcB. -/
def State.fpInstr (s : State) (f : Fetch) (fl : Bool) (dst a b : Reg) (op : Nat) (bad : Bool)
    (g : Nat → Nat → Nat → FpRes) : Host.Outcome State Fault Refusal :=
  let c := f.core
  s.instr f (wordR 6 dst a b fl 0 op) (firstBad [(groomLacks f, 2), (fl || bad, 0)]) fun s =>
    let r := g (s.g c dst).toNat (s.g c a).toNat (s.g c b).toNat
    s.fpSignal c r.conds fun s => (s.setG c dst (BitVec.ofNat 32 r.val)).advance c

/-- fadd: srcA + srcB. -/
def execFadd (f : Fetch) (fl : Bool) (dst srcA srcB : Reg) (s : State) :
    Host.Outcome State Fault Refusal :=
  s.fpInstr f fl dst srcA srcB 0x00 false (fun _ x y => fpAdd x y)

/-- fsub: srcA − srcB. -/
def execFsub (f : Fetch) (fl : Bool) (dst srcA srcB : Reg) (s : State) :
    Host.Outcome State Fault Refusal :=
  s.fpInstr f fl dst srcA srcB 0x01 false (fun _ x y => fpSub x y)

/-- fmul: srcA × srcB. -/
def execFmul (f : Fetch) (fl : Bool) (dst srcA srcB : Reg) (s : State) :
    Host.Outcome State Fault Refusal :=
  s.fpInstr f fl dst srcA srcB 0x02 false (fun _ x y => fpMul x y)

/-- fdiv: srcA ÷ srcB. -/
def execFdiv (f : Fetch) (fl : Bool) (dst srcA srcB : Reg) (s : State) :
    Host.Outcome State Fault Refusal :=
  s.fpInstr f fl dst srcA srcB 0x03 false (fun _ x y => fpDiv x y)

/-- fsqrt: √srcA; srcB must be g0. -/
def execFsqrt (f : Fetch) (fl : Bool) (dst srcA srcB : Reg) (s : State) :
    Host.Outcome State Fault Refusal :=
  s.fpInstr f fl dst srcA srcB 0x04 (decide (srcB ≠ 0)) (fun _ x _ => fpSqrt x)

/-- fma: dst + srcA × srcB, one rounding. -/
def execFma (f : Fetch) (fl : Bool) (dst srcA srcB : Reg) (s : State) :
    Host.Outcome State Fault Refusal :=
  s.fpInstr f fl dst srcA srcB 0x05 false (fun d x y => fpFma d x y)

/-- fms: dst − srcA × srcB, one rounding. -/
def execFms (f : Fetch) (fl : Bool) (dst srcA srcB : Reg) (s : State) :
    Host.Outcome State Fault Refusal :=
  s.fpInstr f fl dst srcA srcB 0x06 false (fun d x y => fpFms d x y)

/-- fmin: minimum; when one operand is NaN, the other. -/
def execFmin (f : Fetch) (fl : Bool) (dst srcA srcB : Reg) (s : State) :
    Host.Outcome State Fault Refusal :=
  s.fpInstr f fl dst srcA srcB 0x08 false (fun _ x y => fpMin x y)

/-- fmax: maximum; when one operand is NaN, the other. -/
def execFmax (f : Fetch) (fl : Bool) (dst srcA srcB : Reg) (s : State) :
    Host.Outcome State Fault Refusal :=
  s.fpInstr f fl dst srcA srcB 0x09 false (fun _ x y => fpMax x y)

/-- fabs: bit 31 cleared. -/
def execFabs (f : Fetch) (fl : Bool) (dst srcA srcB : Reg) (s : State) :
    Host.Outcome State Fault Refusal :=
  s.fpInstr f fl dst srcA srcB 0x0A false (fun _ x _ => fpAbs x)

/-- fneg: bit 31 inverted. -/
def execFneg (f : Fetch) (fl : Bool) (dst srcA srcB : Reg) (s : State) :
    Host.Outcome State Fault Refusal :=
  s.fpInstr f fl dst srcA srcB 0x0B false (fun _ x _ => .exact (fpNegate x))

/-- fcvtsw: signed integer to FP32. -/
def execFcvtsw (f : Fetch) (fl : Bool) (dst srcA srcB : Reg) (s : State) :
    Host.Outcome State Fault Refusal :=
  s.fpInstr f fl dst srcA srcB 0x10 false (fun _ x _ => fpOfInt x)

/-- fcvtws: FP32 to signed integer, toward zero. -/
def execFcvtws (f : Fetch) (fl : Bool) (dst srcA srcB : Reg) (s : State) :
    Host.Outcome State Fault Refusal :=
  s.fpInstr f fl dst srcA srcB 0x11 false (fun _ x _ => fpToInt false x)

/-- fcvtwsr: FP32 to signed integer, to nearest even. -/
def execFcvtwsr (f : Fetch) (fl : Bool) (dst srcA srcB : Reg) (s : State) :
    Host.Outcome State Fault Refusal :=
  s.fpInstr f fl dst srcA srcB 0x12 false (fun _ x _ => fpToInt true x)

/-- fcmp: no dst; Z equal, N less, V unordered, C clear; S must be 1. A signalling NaN signals invalid; a quiet
one is left open by R89 (log entry 4: DESIGN CHOICE). -/
def execFcmp (f : Fetch) (fl : Bool) (dst srcA srcB : Reg) (s : State) :
    Host.Outcome State Fault Refusal :=
  let c := f.core
  s.instr f (wordR 6 dst srcA srcB fl 0 0x0C) (firstBad [(groomLacks f, 2), (!fl, 0)]) fun s =>
    let x := (s.g c srcA).toNat
    let y := (s.g c srcB).toNat
    let o := fpOrder x y
    let inv : Bool := isSNaN x || isSNaN y || (decide (o = .unordered) && Config.fpChoice 2)
    s.fpSignal c (16 * b2n inv) fun s =>
      (s.setFlags c (decide (o = .equal)) (decide (o = .less)) false (decide (o = .unordered))).advance c

end Sys2Proof.Machine
end

