-- ==== Sys2Proof/Machine/Ggn.lean ====
section
/-! DEFINITION. Gait generator commands that are no register write: step pulses and the step drivers
(R324, R325). -/

namespace Sys2Proof.Machine
open Sys2Proof Sys2Proof.Reg

/-- STEP_PULSE (R324): axis E1 to E3 (`axis` 0 to 2) emits the step of a crossing: the emitted position
moves one step towards the position, DIR takes the sign unless the outputs are gated (R326). -/
def execStepPulse (axis : Fin 3) (s : State) :
    Host.Outcome State Fault Refusal :=
  let n := axis.val + 1
  let x := s.axis n
  let gated := s.gateClosed
  let neg : Bool := decide (x.p ≤ (x.step - 1) * ggnOne)
  if neg = false ∧ x.p < (x.step + 1) * ggnOne then .next s
  else
    .next (s.mapAxis n fun x => { x with
      step := if neg then x.step - 1 else x.step + 1
      dir := if gated then x.dir else neg })

/-- STEP_DRIVER_SHUTDOWN (R325, Table THM-1): the axis enters FAULT at its last emitted step, its queue is
flushed, its outputs are off; source 205 on entry. -/
def execStepDriverShutdown (axis : Fin 3) (s : State) :
    Host.Outcome State Fault Refusal :=
  let n := axis.val + 1
  let was := s.ggnMode n
  let s := (s.ggnBreak n).mapAxis n fun x => { x with hot := true }
  let s := (s.put (GGN_xSTAT.POSLOST n) true).put (GGN_xFLT.THERM n) true
  let s := (s.setMode n Ggn.fault).mapAxis n fun x =>
    { x with p := x.step * ggnOne, v := 0, a := 0, segs := [], target := none, queue := [], link := none }
  .next (s.when (decide (was ≠ Ggn.fault)) fun s => s.raise 205)

/-- STEP_DRIVER_RECOVERY (R69, R325): the driver reads below 125 °C; its outputs restart and the axis stays
in FAULT. -/
def execStepDriverRecovery (axis : Fin 3) (s : State) :
    Host.Outcome State Fault Refusal :=
  .next (s.mapAxis (axis.val + 1) fun x => { x with hot := false })

end Sys2Proof.Machine
end

