-- ==== Sys2Proof/Machine/IssueOps.lean ====
section
/-! DEFINITION. Issue of the asynchronous operations: the descriptor and its refusals, and what each owner does with
an accepted one (R101-R103, R107, R108, R130, R131, R188, R358, R382, R421). -/

namespace Sys2Proof.Machine
open Sys2Proof Sys2Proof.Reg

/-- Classes of Table GCS-14. -/
def Cls.chx : Nat := 0
def Cls.job : Nat := 1
def Cls.nvc : Nat := 2
def Cls.dma : Nat := 3
def Cls.txf : Nat := 4

/-- REFUSE codes of Table GCS-15. -/
def Refuse.full : Nat := 1
def Refuse.gait : Nat := 2
def Refuse.window : Nat := 3
def Refuse.field : Nat := 4

/-- The four words of a descriptor and the argument word. -/
structure Desc where
  w0 : Nat
  w1 : Nat
  w2 : Nat
  w3 : Nat
  arg : Nat
  /-- gB is g0 -/
  noArg : Bool
  deriving DecidableEq, Repr

/-- Bits of `w` outside `mask` are 0. -/
def onlyBits (w mask : Nat) : Bool := decide (andNot 32 w mask = 0)

/-- A descriptor lies at `a`: 16-byte aligned, in the core's data TCM, shared SRAM or Groom memory (R103). -/
def descOk (c : Core) (a : Nat) : Bool :=
  decide (a % 16 = 0) && (decide (region a = .sram) || decide (region a = .groomMem)
    || decide (c = .r0 ∧ region a = .r0Dtcm) || decide (c = .r1 ∧ region a = .r1Dtcm))

/-- The result of an issue: refused with a code, or accepted with what the owner does under the tag taken. -/
inductive Accept where
  | refuse (k : Nat)
  | take (act : Nat → State → State)

/-- An asynchronous issue (R101-R103): the tag, the pool, the descriptor's address and window, its ECC, then what the
owning chapter checks. `ovf` is done where the pool is full (log entry 101: DEDUCED). -/
def State.issue (s : State) (f : Fetch) (dst a b : Reg) (ecc : Ecc) (op : Nat) (bad : List (Bool × Nat))
    (argDefined : Bool) (full : State → Bool) (ovf : State → State) (owner : State → Desc → Accept) :
    Host.Outcome State Fault Refusal :=
  let c := f.core
  let word := wordA 8 dst a b op
  s.instr f word (firstBad bad) fun s =>
    let refuse (s : State) (k : Nat) : State := (s.setG c dst (refuseWord k)).advance c
    match s.freeTag c with
    | none => s.faultHere c Exc.tagOvf 0 word
    | some t =>
      let x := (s.g c a).toNat
      if full s then refuse (ovf s) Refuse.full
      else if !(descOk c x) || (!argDefined && decide (b ≠ 0)) then refuse s Refuse.field
      else if s.winBad c Perm.r 16 x then refuse s Refuse.window
      else if ecc = .uncorrectable then s.faultHere c Exc.ecc 3 (s.g c a)
      else
        let d : Desc := { w0 := s.word x, w1 := s.word (x + 4), w2 := s.word (x + 8), w3 := s.word (x + 12)
                          arg := (s.g c b).toNat, noArg := decide (b = 0) }
        match owner s d with
        | .refuse k => refuse s k
        | .take act => act t (((s.setTag c t (.issued op)).setG c dst (issueWord t)).advance c)

/-- The first code whose condition holds, else acceptance (log entry 101: DEDUCED). -/
def Accept.check (l : List (Bool × Nat)) (act : Nat → State → State) : Accept :=
  match firstBad l with
  | some k => .refuse k
  | none => .take act

/-! ### Memory accesses of the block that owns the operation -/

/-- The first of `n` words from `a` whose access master `m` is refused, with its kind. -/
def State.firstRefused (s : State) (m : Master) (k : Access) (n a : Nat) : Option (Nat × Nat) :=
  match n with
  | 0 => none
  | j + 1 =>
    match s.refusal m false k 4 a with
    | some r => some (a, r)
    | none => State.firstRefused s m k j (a + 4)

/-- The operation under tag `t` ends with STATUS 0x2, its refused access recorded, with source 6 (R29). -/
def State.opRefused (s : State) (c : Core) (t : Nat) (m : Master) (k : Access) (r : Nat × Nat) (val : Nat) :
    State :=
  ((s.recordRefusal m k r.2 r.1).raise 6).complete c t 0 2 val

/-! ### chx (R188, R189) -/

/-- Broadcast is allowed for the command (Table CHN-6). -/
def chxCast (cmd : Nat) : Bool := [6, 7, 9, 10, 11].contains cmd

/-- A field of the descriptor lies outside Table CHN-11. -/
def State.chxBad (s : State) (d : Desc) : Bool :=
  let cmd := bits d.w0 0 8
  let addr := bits d.w0 8 6
  let port := bits d.w0 16 2
  let len := bits d.w1 0 7
  let cast : Bool := decide (addr = 0x3F)
  !(onlyBits d.w0 0x00033FFF) || !(onlyBits d.w1 0x7F)
    || !(decide (cmd = 2) || decide (4 ≤ cmd ∧ cmd ≤ 11))
    || !(if cast then chxCast cmd else decide (1 ≤ addr ∧ addr ≤ s.unitsInUse ∧ cmd ≠ 11))
    || (decide (port = 3) && !cast) || decide (64 < len)
    || (decide (len ≠ 0) && decide (d.w2 % 4 ≠ 0)) || decide (d.w3 % 4 ≠ 0)

/-- The lowest wire tag 0x40 to 0xFF not in flight (R187). -/
def State.freeWire (s : State) : Nat :=
  (((List.range 192).map (· + 0x40)).find? fun w => !(s.chn.chx.any fun x => x.wire = w)).getD 0x40

/-- An accepted chx: its payload is read, and its frame asks the arbiter for its ports (R190); a unit that no end
reaches ends it with RES 5. A standby sends nothing (R401) (log entry 16: DESIGN CHOICE) (log entry 52: DEDUCED). -/
def State.chxGo (s : State) (c : Core) (d : Desc) (t : Nat) : State :=
  let s := s.quiet
  let cmd := bits d.w0 0 8
  let addr := bits d.w0 8 6
  let port := bits d.w0 16 2
  let len := bits d.w1 0 7
  match s.firstRefused .chain .load ((len + 3) / 4) d.w2 with
  | some r => s.opRefused c t .chain .load r 0
  | none =>
    let p := s.getBytes d.w2 len
    let q := if port ≠ 0 then port else if addr = 0x3F then 3 else s.route addr
    if s.isStandby then s
    else if q = 0 then s.complete c t 5 3 0
    else
      let due := if q = 3 then [1, 2] else [q]
      let x : ChxSt := { wire := s.freeWire, core := c, tag := t, cmd := cmd, addr := addr, port := q, rxaddr := d.w3
                         payload := p, due := due, timeout := if d.noArg then s.get CHN_RTO.RTO else d.arg, bad := false }
      let reqs := due.map fun k => (⟨s.chxPost c k, s.arbLevel (s.chxPost c k), 0⟩ : ArbReq)
      ((s.mapChn fun y => { y with chx := y.chx ++ [x] }).mapPad fun y => { y with requests := y.requests ++ reqs }).tagStat

/-- What the chain engine makes of a descriptor (log entry 52: DEDUCED). -/
def State.chxOwner (s : State) (c : Core) (d : Desc) : Accept :=
  let closed : Bool := !(s.flag CHN_CTRL.PORT_EN) || (!(s.flag CHN_STAT.ORIGIN) && !s.isStandby)
    || decide (s.gait = Gait.paddock)
  Accept.check [(closed, Refuse.gait), (s.chxBad d, Refuse.field)] fun t s => s.chxGo c d t

/-! ### job (R130, R131) -/

/-- A field of the descriptor lies outside Table HRD-7. -/
def State.jobBad (s : State) (d : Desc) : Bool :=
  let plen := bits d.w1 0 12
  let ecls := bits d.w1 16 4
  !(onlyBits d.w1 0x000F0FFF) || decide (plen = 0 ∨ 2048 < plen) || !(jobProgOk d.w0 plen)
    || (decide (ecls < 15) && decide (50000 < s.jobCost ecls d.w2))
    || decide (d.w2 = 0) || decide (d.w3 = 0) || !(onlyBits d.w3 0xFFFFFF)

/-- The lowest free queue index from 1 to 63. -/
def State.freeIndex (s : State) : Option Nat :=
  ((List.range 63).map (· + 1)).find? fun i => (s.jobAt i).isNone

/-- PAD_URG of the issuing core has TEAM = 1. -/
def State.teamUrgent (s : State) (c : Core) : Bool :=
  match c with
  | .r0 => s.flag PAD_URG_R0.TEAM | .r1 => s.flag PAD_URG_R1.TEAM | .grm => s.flag PAD_URG_GRM.TEAM

/-- An accepted job joins the queue. -/
def State.jobGo (s : State) (c : Core) (d : Desc) (t : Nat) : State :=
  let ecls := bits d.w1 16 4
  s.queueJob { index := s.freeIndex.getD 0, owner := some (c, t), prog := d.w0, plen := bits d.w1 0 12
               ecls := ecls, teams := d.w2, deadline := s.nowUs + d.w3, arg := d.arg
               sweep := s.get HRD_SWEEP.SWEEP, urgent := decide (ecls = 15) || s.teamUrgent c
               candidate := false, phase := .queued, cells := [], runs := [], pubs := [] }

/-- What the Herd makes of a descriptor. -/
def State.jobOwner (s : State) (c : Core) (d : Desc) : Accept :=
  Accept.check
    [(!(s.flag HRD_STAT.POWERED), Refuse.gait), (s.jobBad d, Refuse.field),
     (s.winBad c Perm.r (4 * bits d.w1 0 12) d.w0, Refuse.window),
     (decide (d.w2 &&& s.get HRD_TEAMDIS.TEAMS ≠ 0), Refuse.gait), (s.freeIndex.isNone, Refuse.full)]
    fun t s => s.jobGo c d t

/-! ### nvc (R421, R432) -/

/-- A field of the descriptor lies outside Table NVM-3, or a case that R421 refuses. -/
def nvcBad (c : Core) (d : Desc) : Bool :=
  let cls := bits d.w0 0 2
  let index := bits d.w0 8 5
  let len := bits d.w2 0 10
  let code := bits d.w3 0 16
  let sev := bits d.w3 16 3
  let home := if c = .r0 then Region.r0Dtcm else Region.r1Dtcm
  let inside (r : Region) : Bool := decide (region d.w1 = r) && decide (region (d.w1 + (len - 1)) = r)
  let form : Bool :=
    if cls = 0 then decide (len = 512 ∧ code = 0 ∧ sev = 0)
    else if cls = 1 then decide (index = 0 ∧ len ≤ 232 ∧ len % 4 = 0 ∧ 0x80 ≤ code)
    else if cls = 2 then decide (1 ≤ index ∧ 4 ≤ len ∧ len ≤ 1008 ∧ len % 4 = 0 ∧ sev = 0)
    else false
  !(onlyBits d.w0 0x1F03) || !(onlyBits d.w2 0x3FF) || !(onlyBits d.w3 0x7FFFF) || decide (d.w1 % 4 ≠ 0)
    || !(inside home || inside .sram) || !form

/-- An accepted commit joins the queue; a record that the limiter suppresses ends at once with RES 1. -/
def State.nvcGo (s : State) (c : Core) (d : Desc) (t : Nat) : State :=
  let cls := bits d.w0 0 2
  let k : CommitKind := if cls = 0 then .ledger else if cls = 1 then .log else .settings
  let x : Commit := { Commit.blank k with
    index := bits d.w0 8 5, src := d.w1, len := bits d.w2 0 10, code := bits d.w3 0 16
    sev := bits d.w3 16 3, owner := some (c, t) }
  if cls = 1 then
    let x := s.stampRecord false x
    let r := s.passLimit x
    if r.1 then r.2.enqueue x else r.2.complete c t 1 0 0
  else s.enqueue x

/-- What the NVM block makes of a descriptor. -/
def nvcOwner (c : Core) (d : Desc) : Accept :=
  Accept.check [(nvcBad c d, Refuse.field)] fun t s => s.nvcGo c d t

/-! ### dma (R108) -/

/-- The transfers of a channel, the running one first. -/
def State.dmaChan (s : State) (ch : Nat) : List DmaJob := mapGet [] s.dma ch

/-- `s` with the transfers of a channel replaced. -/
def State.setDma (s : State) (ch : Nat) (l : List DmaJob) : State := { s with dma := mapSet [] s.dma ch l }

/-- A field of the descriptor lies outside Table GCS-17. -/
def dmaBad (d : Desc) : Bool :=
  let fill := bit d.w3 8
  (!fill && decide (d.w0 % 4 ≠ 0)) || decide (d.w1 % 4 ≠ 0)
    || !(decide (4 ≤ d.w2 ∧ d.w2 ≤ 16777212 ∧ d.w2 % 4 = 0)) || !(onlyBits d.w3 0x107)

/-- What the DMA makes of a descriptor. -/
def State.dmaOwner (s : State) (c : Core) (d : Desc) : Accept :=
  let ch := bits d.w3 0 3
  let fill := bit d.w3 8
  let job (t : Nat) (priv : Bool) : DmaJob :=
    { core := c, tag := t, src := d.w0, dst := d.w1, len := d.w2, fill := fill, priv := priv }
  Accept.check
    [(dmaBad d, Refuse.field), (!fill && s.winBad c Perm.r d.w2 d.w0, Refuse.window),
     (s.winBad c Perm.w d.w2 d.w1, Refuse.window), (decide (8 ≤ (s.dmaChan ch).length), Refuse.full)]
    fun t s => s.setDma ch (s.dmaChan ch ++ [job t (!(s.isApp c))])

/-- A word that a DMA channel loads. -/
def State.dmaLoad (s : State) (a : Nat) : Nat × State :=
  match region a with
  | .periph => s.regLoad .grm a
  | .mirror => (if s.tandem then s.word a else 0, s)
  | _ => (s.word a, s)

/-- A word that a DMA channel stores for a core; false where R476 refuses it. -/
def State.dmaStore (s : State) (j : DmaJob) (a w : Nat) : Bool × State :=
  match region a with
  | .periph =>
    if !j.priv && holdsRwf a then (false, s) else (true, s.regStore j.core a w (decide (j.core = .grm)))
  | _ => (true, s.setWord a w)

/-- `n` words of a transfer, `done` bytes having been written: the bytes written, whether all were, the state
(R108). -/
def State.dmaRun (s : State) (j : DmaJob) (n done : Nat) : Nat × Bool × State :=
  match n with
  | 0 => (done, true, s)
  | k + 1 =>
    let src := j.src + done
    let dst := j.dst + done
    match if j.fill then none else s.refusal .dma false .load 4 src with
    | some r => (done, false, (s.recordRefusal .dma .load r src).raise 6)
    | none =>
      match s.refusal .dma false .store 4 dst with
      | some r => (done, false, (s.recordRefusal .dma .store r dst).raise 6)
      | none =>
        let l := if j.fill then (j.src, s) else s.dmaLoad src
        let w := l.2.dmaStore j dst l.1
        if w.1 then w.2.dmaRun j k (done + 4) else (done, false, w.2)

/-! ### txf (R358, R382) -/

/-- A field outside Table CAN-2, no transmit object, or one pending. -/
def State.canTxfBad (s : State) (d : Desc) : Bool :=
  let x := bits d.w0 0 4
  let n := bits d.w0 8 7
  !(onlyBits d.w0 0x00017F0F) || (bit d.w0 16 && decide (d.w1 % 4 ≠ 0)) || decide (d.w2 ≠ 0) || decide (d.w3 ≠ 0)
    || !(s.flag (CNx_OCFG.EN x n)) || !(s.flag (CNx_OCFG.DIR x n)) || s.canPending x n

/-- The object's first `len` data bytes are those at `a`; a word that they fill in part keeps its other bytes. -/
def State.canCopy (s : State) (x n a len : Nat) : State :=
  (List.range ((len + 3) / 4)).foldl (fun (s : State) j =>
    let old := s.get (CNx_ODATA.WORD x n j)
    let k := min 4 (len - 4 * j)
    s.set (CNx_ODATA.WORD x n j) (s.load k (a + 4 * j) + old / 256 ^ k * 256 ^ k)) s

/-- An accepted txf for CAN requests its object, the data copied first where COPY asks. On a standby the completion
comes with the bundle (R361) (log entry 16: DESIGN CHOICE) (log entry 53: DEDUCED). -/
def State.canTxf (s : State) (c : Core) (d : Desc) (t : Nat) : State :=
  let x := bits d.w0 0 4
  let n := bits d.w0 8 7
  let len := s.get (CNx_OCFG.LEN x n)
  let copy := bit d.w0 16
  match s.firstRefused .dma .load (if copy then (len + 3) / 4 else 0) d.w1 with
  | some r => s.opRefused c t .dma .load r 0
  | none =>
    let s := if copy then s.canCopy x n d.w1 len else s
    if s.isStandby then s else s.canRequest x n (some (c, t))

/-- A field outside Table ETH-2. -/
def ethTxfBad (d : Desc) : Bool :=
  let udp : Bool := decide (bits d.w0 0 4 = 3)
  let len := bits d.w2 0 11
  !(onlyBits d.w0 0x0001000F) || decide (d.w1 % 4 ≠ 0) || !(onlyBits d.w2 0xFFFF07FF)
    || !(if udp then decide (1 ≤ len ∧ len ≤ 1472) else decide (60 ≤ len ∧ len ≤ 1518 ∧ d.w3 = 0))

/-- An accepted txf for Ethernet joins P0's list. -/
def State.ethTxf (s : State) (c : Core) (d : Desc) (t : Nat) : State :=
  let len := bits d.w2 0 11
  match s.firstRefused .dma .load ((len + 3) / 4) d.w1 with
  | some r => s.opRefused c t .dma .load r 0
  | none =>
    if s.isStandby then s
    else s.ethQuiet.txAdd { core := c, tag := t, udp := decide (bits d.w0 0 4 = 3), tsreq := bit d.w0 16
                            dip := d.w3, dport := bits d.w2 16 16, data := s.getBytes d.w1 len }

/-- What the bus blocks make of a descriptor. -/
def State.txfOwner (s : State) (c : Core) (d : Desc) : Accept :=
  let target := bits d.w0 0 4
  if target ≤ 1 then
    Accept.check [(decide (target = 1 ∧ s.gait = Gait.paddock), Refuse.gait), (s.canTxfBad d, Refuse.field)]
      fun t s => s.canTxf c d t
  else if target ≤ 3 then
    let closed : Bool := (!(s.ethFlag ETH_CTRL.P1EN) && !(s.ethFlag ETH_CTRL.P2EN)) || decide (s.gait = Gait.paddock)
    Accept.check [(closed, Refuse.gait), (ethTxfBad d, Refuse.field)] fun t s => s.ethTxf c d t
  else .refuse Refuse.field

end Sys2Proof.Machine
end

