-- ==== Sys2Proof/Machine/Issue.lean ====
section
/-! DEFINITION. Asynchronous operations, completions, locks and atomics: classes 0x8, 0x9 and 0xB, and the ends of a
DMA transfer and of a txf timeout (R101-R111, R358, R382). -/

namespace Sys2Proof.Machine
open Sys2Proof Sys2Proof.Reg

/-! ### Issue -/

/-- chx: a chain transaction (R188); a full pool sets CHN_TAGSTAT.OVF (R187). -/
def execChx (f : Fetch) (dst srcA srcB : Reg) (ecc : Ecc) (s : State) :
    Host.Outcome State Fault Refusal :=
  s.issue f dst srcA srcB ecc Cls.chx [(s.isApp f.core, 1)] true
    (fun s => decide (192 ≤ s.inFlight Cls.chx)) (fun s => s.put CHN_TAGSTAT.OVF true)
    fun s d => s.chxOwner f.core d

/-- job: a Herd job (R130). -/
def execJob (f : Fetch) (dst srcA srcB : Reg) (ecc : Ecc) (s : State) :
    Host.Outcome State Fault Refusal :=
  s.issue f dst srcA srcB ecc Cls.job [(groomLacks f, 2)] true
    (fun s => decide (63 ≤ s.inFlight Cls.job)) (fun s => s) fun s d => s.jobOwner f.core d

/-- nvc: an MRAM commit (R421). -/
def execNvc (f : Fetch) (dst srcA srcB : Reg) (ecc : Ecc) (s : State) :
    Host.Outcome State Fault Refusal :=
  s.issue f dst srcA srcB ecc Cls.nvc [(groomLacks f, 2), (s.isApp f.core, 1)] false
    (fun s => decide (16 ≤ s.inFlight Cls.nvc)) (fun s => s) fun _ d => nvcOwner f.core d

/-- dma: a memory transfer (R108). -/
def execDma (f : Fetch) (dst srcA srcB : Reg) (ecc : Ecc) (s : State) :
    Host.Outcome State Fault Refusal :=
  s.issue f dst srcA srcB ecc Cls.dma [(groomLacks f, 2)] false
    (fun s => decide (64 ≤ s.inFlight Cls.dma + s.inFlight Cls.txf)) (fun s => s) fun s d => s.dmaOwner f.core d

/-- txf: a bus frame (R358, R382). -/
def execTxf (f : Fetch) (dst srcA srcB : Reg) (ecc : Ecc) (s : State) :
    Host.Outcome State Fault Refusal :=
  s.issue f dst srcA srcB ecc Cls.txf [(s.isApp f.core, 1)] true
    (fun s => decide (64 ≤ s.inFlight Cls.dma + s.inFlight Cls.txf)) (fun s => s) fun s d => s.txfOwner f.core d

/-- DMA_TRANSFER_DONE: the running transfer of a channel ends: STATUS 0x0, or 0x2 after a refused access; the result
value is the number of bytes written (R108); a corrected load of a Herd memory is counted (R141). -/
def execDmaTransferDone (e : DmaEnd) (s : State) :
    Host.Outcome State Fault Refusal :=
  let ch := e.chan.toNat
  .next (match s.dmaChan ch with
    | [] => s
    | j :: rest =>
      let s := s.when (e.fixed && !j.fill && herdMemory (region j.src)) fun s => s.bump HRD_ECCCNT.COUNT 1
      let r := (s.setDma ch rest).dmaRun j (j.len / 4) 0
      r.2.2.complete j.core j.tag 0 (if r.2.1 then 0 else 2) r.1)

/-- TXF_TIMEOUT: the timeout of a txf passes with its frame still pending (R358, R382). -/
def execTxfTimeout (core : Core) (tag : BitVec 8) (s : State) :
    Host.Outcome State Fault Refusal :=
  let t := tag.toNat
  .next (match s.can.txf.find? fun e => decide (e.2 = some (core, t)) with
    | some e => s.canAbort (e.1 / 128) (e.1 % 128) 4 true
    | none =>
      match s.eth.tx.find? fun e => decide (e.core = core ∧ e.tag = t) with
      | some e => s.txEnd e 4 0
      | none => s)

/-! ### Completions (R105, R106) -/

/-- Is the tag DONE? -/
def TagSt.isDone (t : TagSt) : Bool :=
  match t with
  | .done _ _ => true
  | _ => false

/-- Is the tag ISSUED, its completion held or not? -/
def TagSt.isPending (t : TagSt) : Bool := !t.isFree && !t.isDone

/-- waitt: the completion word at once where the tag is not ISSUED; else the core waits, with a limit in control ticks
where gB is not g0. Illegal while the core holds a paddock lock (log entry 7: DESIGN CHOICE). A limit of 0 ticks in a
register other than g0 ends the wait at once, as WAITT_LIMIT (log entry 123: DESIGN CHOICE). -/
def execWaitt (f : Fetch) (dst srcA srcB : Reg) (s : State) :
    Host.Outcome State Fault Refusal :=
  let c := f.core
  s.instr f (wordA 9 dst srcA srcB (Config.completionOp 0 % 8)) (firstBad [(s.holdsAny c, 3)]) fun s =>
    let t := (s.g c srcA).toNat % 256
    let lim := if srcB = 0 then none else some (s.g c srcB).toNat
    if (s.tag c t).isPending then s.setRun c (.waitt t dst.toNat lim)
    else (s.setG c dst (s.pollWord c t)).advance c

/-- A core leaves its waitt with the completion word of tag `t`. -/
def State.waittEnd (s : State) (c : Core) (t d : Nat) : State :=
  ((s.setG c (BitVec.ofNat 5 d) (s.pollWord c t)).setRun c .run).advance c

/-- WAITT_RETURN: the tag is DONE. -/
def execWaittReturn (core : Core) (s : State) :
    Host.Outcome State Fault Refusal :=
  .next (match (s.core core).run with
    | .waitt t d _ => if (s.tag core t).isPending then s else s.waittEnd core t d
    | _ => s)

/-- WAITT_LIMIT: the tick boundary of the limit has passed; a completion released at it is seen first. -/
def execWaittLimit (core : Core) (s : State) :
    Host.Outcome State Fault Refusal :=
  .next (match (s.core core).run with
    | .waitt t d (some 0) => s.waittEnd core t d
    | _ => s)

/-- pollt: the completion word at once (log entry 7: DESIGN CHOICE). -/
def execPollt (f : Fetch) (dst srcA : Reg) (s : State) :
    Host.Outcome State Fault Refusal :=
  let c := f.core
  s.instr f (wordA 9 dst srcA 0 (Config.completionOp 1 % 8)) none fun s =>
    (s.setG c dst (s.pollWord c ((s.g c srcA).toNat % 256))).advance c

/-- tagrel: a DONE tag becomes FREE, else CRSTAT.BADREL. -/
def execTagrel (f : Fetch) (srcA : Reg) (s : State) :
    Host.Outcome State Fault Refusal :=
  let c := f.core
  s.instr f (wordA 9 0 srcA 0 (Config.completionOp 2 % 8)) none fun s =>
    let t := (s.g c srcA).toNat % 256
    (if decide (t < coreTags c) && (s.tag c t).isDone then s.setTag c t .free
      else s.setCrstat c Crstat.badRel).advance c

/-! ### Paddock locks (R48-R50, R110) -/

/-- A core of higher rank than `c` waits for lock `n`. -/
def State.outranked (s : State) (c : Core) (n : Nat) : Bool :=
  coresByRank.any fun k => decide (coreCode k < coreCode c) && (s.waitsLock k n).isSome

/-- lock: 0 where granted, 1 at once where refused; else the core waits. -/
def execLock (f : Fetch) (dst : Reg) (n : BitVec 5) (s : State) :
    Host.Outcome State Fault Refusal :=
  let c := f.core
  let k := n.toNat
  s.instr f (wordR 0xB dst 0 0 false k 0x00) (firstBad [(s.isApp c, 1)]) fun s =>
    if s.lockOrderBad c k then ((s.lockRefused c k 0).setG c dst 1).advance c
    else if s.lockFree k && !(s.outranked c k) then ((s.takeLock c k).setG c dst 0).advance c
    else s.setRun c (.lockWait k dst.toNat)

/-- unlock: the lock becomes free; a lock not held is a refusal (R49). dst, srcA and srcB must be g0. -/
def execUnlock (f : Fetch) (dst srcA srcB : Reg) (n : BitVec 5) (s : State) :
    Host.Outcome State Fault Refusal :=
  let c := f.core
  let k := n.toNat
  s.instr f (wordR 0xB dst srcA srcB false k 0x01)
    (firstBad [(decide (dst ≠ 0 ∨ srcA ≠ 0 ∨ srcB ≠ 0), 0), (s.isApp c, 1)]) fun s =>
    (if s.holdsLock c k then s.freeLock k else s.lockRefused c k 1).advance c

/-! ### Atomics (R111) -/

/-- An atomic on the word at gA: `g` gives the new word from gD, the old word and gB; none leaves the word. -/
def State.atomic (s : State) (f : Fetch) (dst a b : Reg) (ecc : Ecc) (op : Nat)
    (g : Word → Word → Word → Option Word) : Host.Outcome State Fault Refusal :=
  let c := f.core
  s.instr f (wordR 0xB dst a b false 0 op) none fun s =>
    let p := s.g c a
    let x := p.toNat
    if s.winBad c Perm.rw 4 x then s.faultHere c Exc.window 0 p
    else if region x ≠ .sram ∨ x % 4 ≠ 0 then s.faultHere c Exc.window 2 p
    else if ecc = .uncorrectable then s.faultHere c Exc.ecc 2 p
    else
      let s := s.when (decide (ecc = .corrected)) fun s => s.eccSeen c
      let old : Word := BitVec.ofNat 32 (s.word x)
      let s' := match g (s.g c dst) old (s.g c b) with
        | some w => s.setWord x w.toNat
        | none => s
      (s'.setG c dst old).advance c

/-- amoadd. -/
def execAmoadd (f : Fetch) (dst srcA srcB : Reg) (ecc : Ecc) (s : State) :
    Host.Outcome State Fault Refusal :=
  s.atomic f dst srcA srcB ecc 0x02 fun _ old b => some (old + b)

/-- amoswap. -/
def execAmoswap (f : Fetch) (dst srcA srcB : Reg) (ecc : Ecc) (s : State) :
    Host.Outcome State Fault Refusal :=
  s.atomic f dst srcA srcB ecc 0x03 fun _ _ b => some b

/-- amocas: gB is written where the old word equals gD. -/
def execAmocas (f : Fetch) (dst srcA srcB : Reg) (ecc : Ecc) (s : State) :
    Host.Outcome State Fault Refusal :=
  s.atomic f dst srcA srcB ecc 0x04 fun d old b => if old = d then some b else none

/-- amoand. -/
def execAmoand (f : Fetch) (dst srcA srcB : Reg) (ecc : Ecc) (s : State) :
    Host.Outcome State Fault Refusal :=
  s.atomic f dst srcA srcB ecc 0x05 fun _ old b => some (old &&& b)

/-- amoor. -/
def execAmoor (f : Fetch) (dst srcA srcB : Reg) (ecc : Ecc) (s : State) :
    Host.Outcome State Fault Refusal :=
  s.atomic f dst srcA srcB ecc 0x06 fun _ old b => some (old ||| b)

end Sys2Proof.Machine
end

