-- ==== Sys2Proof/Machine/FloatFun.lean ====
section
/-! DEFINITION. The Herd's fixed exponential and natural logarithm, within 2 units in the last place of
the exact value (R122): the exact value is found to 160 fraction bits and cut to binary32, and
Config.laneChoice says which of the four values around it is delivered. -/

namespace Sys2Proof.Machine
open Sys2Proof

/-- Fraction bits of the exact value. -/
def fxBits : Nat := 160

/-- ln 2 with `fxBits` fraction bits. -/
def fxLn2 : Nat := 1013035739299659071135698605846798551586536899366

/-- `n` terms of the exponential series of `r`, term `i` being `t`. -/
def expSeries (r : Nat) (n i t : Nat) : Nat :=
  match n with
  | 0 => 0
  | k + 1 => t + expSeries r k (i + 1) (t * r / 2 ^ fxBits / (i + 1))

/-- `n` terms of the series z + z^3 / 3 + ..., with z^(2 i + 1) being `t` and z^2 being `q`. -/
def atanhSeries (q : Int) (n i : Nat) (t : Int) : Int :=
  match n with
  | 0 => 0
  | k + 1 => t / ((2 * i + 1 : Nat) : Int) + atanhSeries q k (i + 1) (t * q / ((2 ^ fxBits : Nat) : Int))

/-- One of the values from one below to two above `base`, kept in `lo` to `hi`. -/
def nearby (log : Bool) (a base lo hi : Nat) : Nat :=
  max lo (min hi (base + Config.laneChoice log a % 4 - 1))

/-- The exact e^x cut to binary32, 0 below the subnormal range, 2^31 - 1 on overflow. -/
def expCut (a : Nat) : Nat :=
  let m : Int := fpMant a
  let e := fpScale a + fxBits
  let x : Int := (if fpNeg a then -1 else 1) * (if 0 ≤ e then m * ((2 ^ e.toNat : Nat) : Int) else m)
  if fpExp a > 134 then (if fpNeg a then 0 else 2 ^ 31 - 1)
  else
    let k := x / (fxLn2 : Int)
    let r := (x % (fxLn2 : Int)).toNat
    let v := expSeries r 45 0 (2 ^ fxBits)
    if 128 ≤ k then 2 ^ 31 - 1
    else
      let q := max (k - 23) (-149)
      let sh := fxBits + q - k
      let n := if 0 ≤ sh then v / 2 ^ sh.toNat else v
      if n < 2 ^ 23 then n else (q + 149).toNat * 2 ^ 23 + n

/-- fexp (R122) (log entry 6: DESIGN CHOICE). -/
def laneExp (a : Nat) : Nat :=
  if isNaN a then fpNaN
  else if isInf a then (if fpNeg a then 0 else fpInf false)
  else
    let c := expCut a
    if c = 0 then 0 else if c = 2 ^ 31 - 1 then fpInf false else nearby false a c 0 0x7F7FFFFF

/-- The exact ln x of a positive finite x with `fxBits` fraction bits. -/
def lnExact (a : Nat) : Int :=
  let b := bitLen (fpMant a)
  let m := fpMant a * 2 ^ (24 - b)
  let e := fpScale a + (b : Int) - 1
  let (num, den, e) : Int × Int × Int :=
    if m < 3 * 2 ^ 22 then ((m : Int) - 2 ^ 23, (m : Int) + 2 ^ 23, e)
    else ((m : Int) - 2 ^ 24, (m : Int) + 2 ^ 24, e + 1)
  let z := num * ((2 ^ fxBits : Nat) : Int) / den
  let q := z * z / ((2 ^ fxBits : Nat) : Int)
  e * (fxLn2 : Int) + 2 * atanhSeries q 38 0 z

/-- flog (R122) (log entry 6: DESIGN CHOICE). -/
def laneLog (a : Nat) : Nat :=
  if isNaN a then fpNaN
  else if isZero a then fpInf true
  else if fpNeg a then fpNaN
  else if isInf a then fpInf false
  else
    let v := lnExact a
    let mag := v.natAbs
    let b := bitLen mag
    let n := if 24 ≤ b then mag / 2 ^ (b - 24) else mag
    let code := if a = 0x3F800000 then 0 else (b + 125 - fxBits) * 2 ^ 23 + n
    fpSigned (decide (v < 0)) (nearby true a code 0 0x7F7FFFFF)

end Sys2Proof.Machine
end

