-- ==== Sys2Proof/Machine/Lanes.lean ====
section
/-! DEFINITION. The lane instructions (Table HRD-6) and the job events of the Herd. -/

namespace Sys2Proof.Machine
open Sys2Proof Sys2Proof.Reg

/-- The target of a branch by `off` words from word `pc`, the bra's own word as for R88; a target below word 0 is
outside the program as one beyond its end is, and faults at its fetch (R125), where FLTINFO.PC keeps the low 11 bits
(log entry 121: DESIGN CHOICE). -/
def branchTo (pc : Nat) (off : Int) : Nat := if (pc : Int) + off < 0 then 2048 else ((pc : Int) + off).toNat

/-- FADD: srcA + srcB (R122). -/
def execLaneFadd (o : LaneOp) (dst a b : BitVec 6) (s : State) :
    Host.Outcome State Fault Refusal :=
  s.laneBin o dst a b fun x y => (fpAdd x y).val

/-- FSUB: srcA - srcB (R122). -/
def execLaneFsub (o : LaneOp) (dst a b : BitVec 6) (s : State) :
    Host.Outcome State Fault Refusal :=
  s.laneBin o dst a b fun x y => (fpSub x y).val

/-- FMUL: srcA times srcB (R122). -/
def execLaneFmul (o : LaneOp) (dst a b : BitVec 6) (s : State) :
    Host.Outcome State Fault Refusal :=
  s.laneBin o dst a b fun x y => (fpMul x y).val

/-- FMA: dst + srcA times srcB, one rounding (R122). -/
def execLaneFma (o : LaneOp) (dst a b : BitVec 6) (s : State) :
    Host.Outcome State Fault Refusal :=
  s.laneAlu o true dst fun s l =>
    (fpFma (s.laneReg l dst.toNat) (s.laneReg l a.toNat) (s.laneReg l b.toNat)).val

/-- FMS: dst - srcA times srcB, one rounding (R122). -/
def execLaneFms (o : LaneOp) (dst a b : BitVec 6) (s : State) :
    Host.Outcome State Fault Refusal :=
  s.laneAlu o true dst fun s l =>
    (fpFms (s.laneReg l dst.toNat) (s.laneReg l a.toNat) (s.laneReg l b.toNat)).val

/-- FMIN: minimum; the other operand beside one NaN. -/
def execLaneFmin (o : LaneOp) (dst a b : BitVec 6) (s : State) :
    Host.Outcome State Fault Refusal :=
  s.laneBin o dst a b fun x y => (fpMin x y).val

/-- FMAX: maximum; the other operand beside one NaN. -/
def execLaneFmax (o : LaneOp) (dst a b : BitVec 6) (s : State) :
    Host.Outcome State Fault Refusal :=
  s.laneBin o dst a b fun x y => (fpMax x y).val

/-- FABS: bit 31 cleared. -/
def execLaneFabs (o : LaneOp) (dst a b : BitVec 6) (s : State) :
    Host.Outcome State Fault Refusal :=
  s.laneUn o dst a b (fun x => (fpAbs x).val)

/-- FNEG: bit 31 inverted. -/
def execLaneFneg (o : LaneOp) (dst a b : BitVec 6) (s : State) :
    Host.Outcome State Fault Refusal :=
  s.laneUn o dst a b fpNegate

/-- FCVTSW: signed integer srcA to FP32. -/
def execLaneFcvtsw (o : LaneOp) (dst a : BitVec 6) (s : State) :
    Host.Outcome State Fault Refusal :=
  s.laneAlu o true dst fun s l => (fpOfInt (s.laneReg l a.toNat)).val

/-- FCVTWS: FP32 srcA to a signed integer, toward zero. -/
def execLaneFcvtws (o : LaneOp) (dst a : BitVec 6) (s : State) :
    Host.Outcome State Fault Refusal :=
  s.laneAlu o true dst fun s l => (fpToInt false (s.laneReg l a.toNat)).val

/-- MOV: dst takes srcA. -/
def execLaneMov (o : LaneOp) (dst a b : BitVec 6) (s : State) :
    Host.Outcome State Fault Refusal :=
  s.laneUn o dst a b fun x => x

/-- LIDX: the lane index. -/
def execLaneLidx (o : LaneOp) (dst : BitVec 6) (s : State) :
    Host.Outcome State Fault Refusal :=
  s.laneAlu o true dst fun _ l => l

/-- TIDX: the team index. -/
def execLaneTidx (o : LaneOp) (dst : BitVec 6) (s : State) :
    Host.Outcome State Fault Refusal :=
  s.laneAlu o true dst fun _ l => l / 16

/-- CMAP: the cell served, or 0xFFFF_FFFF (R131). -/
def execLaneCmap (o : LaneOp) (dst : BitVec 6) (s : State) :
    Host.Outcome State Fault Refusal :=
  s.laneAlu o true dst fun s l =>
    match s.runner o.team.toNat with
    | some (j, _) => ((j.cells.find? fun e => e.1 = l).map (·.2)).getD 0xFFFFFFFF
    | none => 0

/-- LDI: the sign-extended immediate of [17:6]. -/
def execLaneLdi (o : LaneOp) (dst : BitVec 6) (imm : BitVec 12) (s : State) :
    Host.Outcome State Fault Refusal :=
  s.laneAlu o true dst fun _ _ => enc 32 imm.toInt

/-- IADD: add (Table GCS-5). -/
def execLaneIadd (o : LaneOp) (dst a b : BitVec 6) (s : State) :
    Host.Outcome State Fault Refusal :=
  s.laneBin o dst a b fun x y => x + y

/-- ISUB: sub (Table GCS-5). -/
def execLaneIsub (o : LaneOp) (dst a b : BitVec 6) (s : State) :
    Host.Outcome State Fault Refusal :=
  s.laneBin o dst a b fun x y => x + 2 ^ 32 - y

/-- AND: and (Table GCS-5). -/
def execLaneAnd (o : LaneOp) (dst a b : BitVec 6) (s : State) :
    Host.Outcome State Fault Refusal :=
  s.laneBin o dst a b fun x y => x &&& y

/-- OR: or (Table GCS-5). -/
def execLaneOr (o : LaneOp) (dst a b : BitVec 6) (s : State) :
    Host.Outcome State Fault Refusal :=
  s.laneBin o dst a b fun x y => x ||| y

/-- XOR: xor (Table GCS-5). -/
def execLaneXor (o : LaneOp) (dst a b : BitVec 6) (s : State) :
    Host.Outcome State Fault Refusal :=
  s.laneBin o dst a b fun x y => x ^^^ y

/-- SHL: shift left by srcB[4:0] (Table GCS-5). -/
def execLaneShl (o : LaneOp) (dst a b : BitVec 6) (s : State) :
    Host.Outcome State Fault Refusal :=
  s.laneBin o dst a b fun x y => x * 2 ^ (y % 32)

/-- SHR: logical shift right by srcB[4:0] (Table GCS-5). -/
def execLaneShr (o : LaneOp) (dst a b : BitVec 6) (s : State) :
    Host.Outcome State Fault Refusal :=
  s.laneBin o dst a b fun x y => x / 2 ^ (y % 32)

/-- SAR: arithmetic shift right by srcB[4:0] (Table GCS-5). -/
def execLaneSar (o : LaneOp) (dst a b : BitVec 6) (s : State) :
    Host.Outcome State Fault Refusal :=
  s.laneBin o dst a b fun x y => enc 32 (sgn 32 x / ((2 ^ (y % 32) : Nat) : Int))

/-- IMUL: low word of the product (Table GCS-5). -/
def execLaneImul (o : LaneOp) (dst a b : BitVec 6) (s : State) :
    Host.Outcome State Fault Refusal :=
  s.laneBin o dst a b fun x y => x * y

/-- IMIN: signed minimum (Table GCS-5). -/
def execLaneImin (o : LaneOp) (dst a b : BitVec 6) (s : State) :
    Host.Outcome State Fault Refusal :=
  s.laneBin o dst a b fun x y => if sgn 32 x < sgn 32 y then x else y

/-- IMAX: signed maximum (Table GCS-5). -/
def execLaneImax (o : LaneOp) (dst a b : BitVec 6) (s : State) :
    Host.Outcome State Fault Refusal :=
  s.laneBin o dst a b fun x y => if sgn 32 x < sgn 32 y then y else x

/-- FCLT: predicate from srcA below srcB, 0 when unordered. -/
def execLaneFclt (o : LaneOp) (dst a b : BitVec 6) (s : State) :
    Host.Outcome State Fault Refusal :=
  s.laneCmp o true dst fun s l => decide (fpOrder (s.laneReg l a.toNat) (s.laneReg l b.toNat) = .less)

/-- FCLE: predicate from srcA below or equal to srcB, 0 when unordered. -/
def execLaneFcle (o : LaneOp) (dst a b : BitVec 6) (s : State) :
    Host.Outcome State Fault Refusal :=
  s.laneCmp o true dst fun s l =>
    let r := fpOrder (s.laneReg l a.toNat) (s.laneReg l b.toNat)
    decide (r = .less) || decide (r = .equal)

/-- FCEQ: predicate from srcA equal to srcB, 0 when unordered. -/
def execLaneFceq (o : LaneOp) (dst a b : BitVec 6) (s : State) :
    Host.Outcome State Fault Refusal :=
  s.laneCmp o true dst fun s l => decide (fpOrder (s.laneReg l a.toNat) (s.laneReg l b.toNat) = .equal)

/-- ICLT: predicate from srcA below srcB, signed. -/
def execLaneIclt (o : LaneOp) (dst a b : BitVec 6) (s : State) :
    Host.Outcome State Fault Refusal :=
  s.laneCmp o true dst fun s l => decide (sgn 32 (s.laneReg l a.toNat) < sgn 32 (s.laneReg l b.toNat))

/-- ICEQ: predicate from srcA equal to srcB. -/
def execLaneIceq (o : LaneOp) (dst a b : BitVec 6) (s : State) :
    Host.Outcome State Fault Refusal :=
  s.laneCmp o true dst fun s l => decide (s.laneReg l a.toNat = s.laneReg l b.toNat)

/-- PAND: predicate AND; srcA[5:3] and srcB[5:3] must be 0. -/
def execLanePand (o : LaneOp) (dst a b : BitVec 6) (s : State) :
    Host.Outcome State Fault Refusal :=
  s.laneCmp o (decide (a.toNat < 8) && decide (b.toNat < 8)) dst fun s l =>
    bit (s.lanePreds l) a.toNat && bit (s.lanePreds l) b.toNat

/-- POR: predicate OR; srcA[5:3] and srcB[5:3] must be 0. -/
def execLanePor (o : LaneOp) (dst a b : BitVec 6) (s : State) :
    Host.Outcome State Fault Refusal :=
  s.laneCmp o (decide (a.toNat < 8) && decide (b.toNat < 8)) dst fun s l =>
    bit (s.lanePreds l) a.toNat || bit (s.lanePreds l) b.toNat

/-- PNOT: predicate NOT; srcA[5:3] and srcB must be 0. -/
def execLanePnot (o : LaneOp) (dst a b : BitVec 6) (s : State) :
    Host.Outcome State Fault Refusal :=
  s.laneCmp o (decide (a.toNat < 8) && decide (b = 0)) dst fun s l =>
    !(bit (s.lanePreds l) a.toNat)

/-- LLD: a word of the lane's own memory (R123). -/
def execLaneLld (o : LaneOp) (dst a : BitVec 6) (off : BitVec 6) (ecc : Ecc) (s : State) :
    Host.Outcome State Fault Refusal :=
  s.laneMem o ecc off a 0x1000 3 6 (fun _ => false) fun t l x => t.setLane l dst.toNat (s.word (laneAddr l x))

/-- LST: a word of the lane's own memory is written; the input area faults (R123). -/
def execLaneLst (o : LaneOp) (dst a : BitVec 6) (off : BitVec 6) (s : State) :
    Host.Outcome State Fault Refusal :=
  s.laneMem o .ok off a 0x1000 3 6 (fun x => decide (x < 0x20)) fun t l x => t.setWord (laneAddr l x) (s.laneReg l dst.toNat)

/-- TLD: a word of the team's memory (R123, R124). -/
def execLaneTld (o : LaneOp) (dst a : BitVec 6) (off : BitVec 6) (ecc : Ecc) (s : State) :
    Host.Outcome State Fault Refusal :=
  s.laneMem o ecc off a 0x8000 4 6 (fun _ => false) fun t l x =>
    t.setLane l dst.toNat (s.word (0x30200000 + 0x8000 * o.team.toNat + x))

/-- TST: a word of the team's memory is written, the highest lane last (R124). -/
def execLaneTst (o : LaneOp) (dst a : BitVec 6) (off : BitVec 6) (s : State) :
    Host.Outcome State Fault Refusal :=
  s.laneMem o .ok off a 0x8000 4 6 (fun _ => false) fun t l x =>
    t.setWord (0x30200000 + 0x8000 * o.team.toNat + x) (s.laneReg l dst.toNat)

/-- HLD: a word of herd memory (R123, R124). -/
def execLaneHld (o : LaneOp) (dst a : BitVec 6) (off : BitVec 6) (ecc : Ecc) (s : State) :
    Host.Outcome State Fault Refusal :=
  s.laneMem o ecc off a 0x80000 5 7 (fun _ => false) fun t l x =>
    t.setLane l dst.toNat (s.word (0x30300000 + x))

/-- FDIV: srcA divided by srcB (R122). -/
def execLaneFdiv (o : LaneOp) (dst a b : BitVec 6) (s : State) :
    Host.Outcome State Fault Refusal :=
  s.laneBin o dst a b fun x y => (fpDiv x y).val

/-- FSQRT: square root of srcA (R122). -/
def execLaneFsqrt (o : LaneOp) (dst a b : BitVec 6) (s : State) :
    Host.Outcome State Fault Refusal :=
  s.laneUn o dst a b fun x => (fpSqrt x).val

/-- FRCP: 1 divided by srcA (R122). -/
def execLaneFrcp (o : LaneOp) (dst a b : BitVec 6) (s : State) :
    Host.Outcome State Fault Refusal :=
  s.laneUn o dst a b fun x => (fpRcp x).val

/-- FEXP: e to the power srcA, one fixed function (R122). -/
def execLaneFexp (o : LaneOp) (dst a b : BitVec 6) (s : State) :
    Host.Outcome State Fault Refusal :=
  s.laneUn o dst a b laneExp

/-- FLOG: natural logarithm of srcA, one fixed function (R122). -/
def execLaneFlog (o : LaneOp) (dst a b : BitVec 6) (s : State) :
    Host.Outcome State Fault Refusal :=
  s.laneUn o dst a b laneLog

/-- RMIN: job-wide reduction, minimum (R126, R127). -/
def execLaneRmin (o : LaneOp) (dst a b : BitVec 6) (s : State) :
    Host.Outcome State Fault Refusal :=
  s.laneReduce o Rop.rmin dst a b

/-- RMAX: job-wide reduction, maximum (R126, R127). -/
def execLaneRmax (o : LaneOp) (dst a b : BitVec 6) (s : State) :
    Host.Outcome State Fault Refusal :=
  s.laneReduce o Rop.rmax dst a b

/-- RSUM: job-wide reduction, sum in fixed pair order (R126, R127). -/
def execLaneRsum (o : LaneOp) (dst a b : BitVec 6) (s : State) :
    Host.Outcome State Fault Refusal :=
  s.laneReduce o Rop.rsum dst a b

/-- RARGMIN: job-wide reduction, lane of the minimum (R126, R127). -/
def execLaneRargmin (o : LaneOp) (dst a b : BitVec 6) (s : State) :
    Host.Outcome State Fault Refusal :=
  s.laneReduce o Rop.rargmin dst a b

/-- RARGMAX: job-wide reduction, lane of the maximum (R126, R127). -/
def execLaneRargmax (o : LaneOp) (dst a b : BitVec 6) (s : State) :
    Host.Outcome State Fault Refusal :=
  s.laneReduce o Rop.rargmax dst a b

/-- BAR: job-wide barrier; every field but op must be 0, with UNP = 1 (R128). -/
def execLaneBar (o : LaneOp) (dst a b : BitVec 6) (s : State) :
    Host.Outcome State Fault Refusal :=
  s.laneWait o (o.unp && !o.m && decide (dst = 0) && decide (a = 0) && decide (b = 0))
    { op := Rop.bar, dst := 0, src := 0, slot := 0, m := false, pred := 0, unp := true, neg := false }

/-- BRA: sequencer branch to the word `off` words on (R125). -/
def execLaneBra (o : LaneOp) (off : BitVec 18) (s : State) :
    Host.Outcome State Fault Refusal :=
  .next (s.laneGo o true fun s j r =>
    let ls := teamLanes r.team
    let taken : Bool := if o.unp then true
      else if o.m then ls.all fun l => s.governs l o.pred.toNat false o.neg
      else ls.any fun l => s.governs l o.pred.toNat false o.neg
    if taken then s.putRun j { r with pc := branchTo r.pc off.toInt } else s.laneNext j r)

/-- RET: job return; every field but op must be 0, with UNP = 1 (R114, R129). -/
def execLaneRet (o : LaneOp) (dst a b : BitVec 6) (s : State) :
    Host.Outcome State Fault Refusal :=
  .next (s.laneGo o (o.unp && !o.m && decide (dst = 0) && decide (a = 0) && decide (b = 0)) fun s j r =>
    let j' := { j with runs := j.runs.map fun q => if q.team = r.team then { r with done := true } else q }
    (s.putJob j').judgeTeams j')

/-! ### Events of the array -/

/-- SCHEDULER_EVALUATION (R134). -/
def execSchedulerEvaluation (s : State) : Host.Outcome State Fault Refusal := .next s.schedule

/-- JOB_PROGRAM_LOADED (Table HRD-8): the lanes are initialised and the teams start at word 0; an
uncorrectable error of the source memory is a lane fault of kind 0x7, of the job's lowest team at word 0 and lane 0 (log
entry 121: DESIGN CHOICE). A corrected one counts where the source is Herd memory (R141). -/
def execJobProgramLoaded (index : BitVec 6) (ecc : Ecc) (s : State) : Host.Outcome State Fault Refusal :=
  .next (match s.jobAt index.toNat with
    | none => s
    | some j =>
      if j.phase ≠ .loading ∨ s.pllGated Pll.core then s
      else
        let s := if region j.prog = .herdMem then s.laneEcc ecc else s
        if ecc = .uncorrectable then s.laneFault j j.lowTeam 0 0 7
        else
          let runs := ((List.range 32).filter fun t => bit j.teams t).map fun t => ⟨t, 0, none, false⟩
          (s.initLanes j).putJob { j with phase := .running, runs := runs })

/-- JOB_DEADLINE_MISS (Table HRD-8, R74); a standby takes deadline outcomes from the bundle (R135). -/
def execJobDeadlineMiss (index : BitVec 6) (s : State) : Host.Outcome State Fault Refusal :=
  .next (match s.jobAt index.toNat with
    | none => s
    | some j =>
      if j.phase = .ended ∨ s.isStandby then s
      else
        let starved : Bool := decide (j.phase = .queued) && decide (j.ecls < 15) && !j.candidate
        let s := (s.bump HRD_MISSCNT.COUNT 1).raise 112
        let s := s.when starved fun s => s.raise 13
        let s := s.endJob j 4 0
        (s.note fun b => { b with stopped := b.stopped ++ [(j.index, 4)] }).schedule)

end Sys2Proof.Machine
end

