-- ==== Sys2Proof/Machine/Pad.lean ====
section
/-! DEFINITION. Events of the paddock arbiter and its locks (R45-R50). -/

namespace Sys2Proof.Machine
open Sys2Proof Sys2Proof.Reg

/-- ARBITRATION_CYCLE (R46): one cycle of the core clock (SRAM banks) or of the peripheral clock, with the
requests posted in it and the grants whose unit has ended; a granted chain port sends (R190), and a bleed channel that
the curb logic takes is off (R45). -/
def execArbitrationCycle (core : Bool) (posts ended : List ArbPost) (s : State) :
    Host.Outcome State Fault Refusal :=
  let held := s.pad.grants.filter fun g =>
    !(ended.any fun e => decide (e.cls = g.cls ∧ e.unit = g.unit) && (arbClasses core).contains e.cls)
  let t := s.quiet.arbCycle core posts ended
  .next (t.granted (t.pad.grants.filter fun g => !(held.contains g)))

/-- REQUEST_PROMOTION (R46). -/
def execRequestPromotion (post : ArbPost) (s : State) :
    Host.Outcome State Fault Refusal :=
  .next (s.promoteAll fun p => decide (p = post))

/-- LOCK_HOLD_LIMIT (R50): the holding of lock `n` passes PAD_LOCKLIM. -/
def execLockHoldLimit (n : BitVec 5) (s : State) :
    Host.Outcome State Fault Refusal :=
  .next (s.lockLong n.toNat)

/-- LOCK_GRANT (R48): the freed lock goes to the highest-ranked core that waits for it. -/
def execLockGrant (n : BitVec 5) (s : State) :
    Host.Outcome State Fault Refusal :=
  if s.lockFree n.toNat then
    match coresByRank.find? fun c => (s.waitsLock c n.toNat).isSome with
    | none => .next s
    | some c =>
      let d := (s.waitsLock c n.toNat).getD 0
      .next ((((s.takeLock c n.toNat).setG c (BitVec.ofNat 5 d) 0).setRun c .run).advance c)
  else .next s

end Sys2Proof.Machine
end

