-- ==== Sys2Proof/Machine/RegRows.lean ====
section
/-! DEFINITION. The register accesses that are commands of their own: a core's store to, or load from, one named
peripheral register (R12, R33, R476 and the rule of each row). The core must be executing instructions; its pc
stays. -/

namespace Sys2Proof.Machine
open Sys2Proof Sys2Proof.Reg

/-- A core stores the word `w` to the register at `a`, with the faults of a store instruction; `here`: the peer does
not make the same store (R405). -/
def State.regWrite (s : State) (c : Core) (a w : Nat) (here : Bool) : State :=
  let x : Word := BitVec.ofNat 32 a
  if (s.core c).run ≠ .run then s
  else
    match s.dataFault c .store Perm.w 4 x with
    | some t => t
    | none =>
      if s.rwfBad c a then s.faultHere c Exc.window 4 x else (s.noteWrite c a).regStore c a w here

/-- A register write as a command (log entry 13: DEDUCED). -/
def State.poke (s : State) (c : Core) (a w : Nat) : Host.Outcome State Fault Refusal :=
  .next (s.regWrite c a w (decide (c = .grm)))

/-- A core loads the register at `a`; the word goes to `rdata` (log entry 13: DEDUCED). -/
def State.regRead (s : State) (c : Core) (a : Nat) : State :=
  let x : Word := BitVec.ofNat 32 a
  if (s.core c).run ≠ .run then s
  else
    match s.dataFault c .load Perm.r 4 x with
    | some t => t
    | none =>
      let r := s.regLoad c a
      { r.2 with rdata := BitVec.ofNat 32 r.1 }

/-- The word that holds `v` in field `f`. -/
def Fld.word (f : Fld) (v : Nat) : Nat := v * 2 ^ f.lsb

/-! ### Any register -/

/-- PERIPH_STORE: a store of a word to an address of the peripheral region. -/
def execPeriphStore (core : Core) (addr val : Word) (s : State) :
    Host.Outcome State Fault Refusal :=
  if region addr.toNat = .periph then s.poke core addr.toNat val.toNat else .next s

/-! ### EVT, PAD, PWR, SYS -/

/-- The EVT_CLAIM and EVT_DONE registers of a core. -/
def claimReg (c : Core) : Fld :=
  match c with
  | .r0 => EVT_CLAIM_R0.VALID | .r1 => EVT_CLAIM_R1.VALID | .grm => EVT_CLAIM_GRM.VALID

/-- EVT_DONE of a core. -/
def doneReg (c : Core) : Fld :=
  match c with
  | .r0 => EVT_DONE_R0.SRC | .r1 => EVT_DONE_R1.SRC | .grm => EVT_DONE_GRM.SRC

/-- EVT_CLAIM: a core reads its claim register (R37). -/
def execEvtClaim (core : Core) (s : State) :
    Host.Outcome State Fault Refusal :=
  .next (s.regRead core (claimReg core).addr)

/-- EVT_DONE: a core writes its done register (R37). -/
def execEvtDone (core : Core) (src : BitVec 8) (s : State) :
    Host.Outcome State Fault Refusal :=
  s.poke core (doneReg core).addr src.toNat

/-- EVT_SET: a write of EVT_SETk (R39). -/
def execEvtSet (core : Core) (k : BitVec 3) (val : Word) (s : State) :
    Host.Outcome State Fault Refusal :=
  s.poke core (EVT_SET.BITS k.toNat).addr val.toNat

/-- PAD_LOCKLIM_WRITE (R50). -/
def execPadLocklimWrite (core : Core) (val : BitVec 16) (s : State) :
    Host.Outcome State Fault Refusal :=
  s.poke core PAD_LOCKLIM.LIM.addr val.toNat

/-- PWR_REQ_STABLE: TARGET Stable (R58). -/
def execPwrReqStable (core : Core) (s : State) :
    Host.Outcome State Fault Refusal :=
  s.poke core PWR_REQ.TARGET.addr Gait.stable

/-- PWR_REQ_PADDOCK: TARGET Paddock (R58). -/
def execPwrReqPaddock (core : Core) (s : State) :
    Host.Outcome State Fault Refusal :=
  s.poke core PWR_REQ.TARGET.addr Gait.paddock

/-- PWR_REQ_WALK: TARGET Walk (R58). -/
def execPwrReqWalk (core : Core) (s : State) :
    Host.Outcome State Fault Refusal :=
  s.poke core PWR_REQ.TARGET.addr Gait.walk

/-- PWR_REQ_TROT: TARGET Trot (R58). -/
def execPwrReqTrot (core : Core) (s : State) :
    Host.Outcome State Fault Refusal :=
  s.poke core PWR_REQ.TARGET.addr Gait.trot

/-- PWR_REQ_CANTER: TARGET Canter (R58). -/
def execPwrReqCanter (core : Core) (s : State) :
    Host.Outcome State Fault Refusal :=
  s.poke core PWR_REQ.TARGET.addr Gait.canter

/-- PWR_REQ_GALLOP: TARGET Gallop (R58). -/
def execPwrReqGallop (core : Core) (s : State) :
    Host.Outcome State Fault Refusal :=
  s.poke core PWR_REQ.TARGET.addr Gait.gallop

/-- PWR_REQ_LAME: TARGET Lame (R58). -/
def execPwrReqLame (core : Core) (s : State) :
    Host.Outcome State Fault Refusal :=
  s.poke core PWR_REQ.TARGET.addr Gait.lame

/-- SOFTWARE_RESET: SYS_RSTCMD with its key and RESET = 1 (R468). -/
def execSoftwareReset (core : Core) (force : Bool) (s : State) :
    Host.Outcome State Fault Refusal :=
  s.poke core SYS_RSTCMD.KEY.addr (Fld.word SYS_RSTCMD.KEY 0x5EB0 + Fld.word SYS_RSTCMD.FORCE (b2n force) + 1)

/-- SYS_WDKEY: a write of the watchdog key (R469). -/
def execSysWdkey (core : Core) (val : Word) (s : State) :
    Host.Outcome State Fault Refusal :=
  s.poke core SYS_WDKEY.KEY.addr val.toNat

/-! ### HRD, HVM -/

/-- HRD_ABORT: one queue index, or all with bit 31 (R142). -/
def execHrdAbort (core : Core) (val : Word) (s : State) :
    Host.Outcome State Fault Refusal :=
  s.poke core HRD_ABORT.ALL.addr val.toNat

/-- HRD_TEAMDIS_WRITE (R142); `here`: the peer does not make the same write (R405). -/
def execHrdTeamdisWrite (core : Core) (val : Word) (here : Bool) (s : State) :
    Host.Outcome State Fault Refusal :=
  .next (s.regWrite core HRD_TEAMDIS.TEAMS.addr val.toNat here)

/-- HRD_CTRL_WRITE (R134, R137). -/
def execHrdCtrlWrite (core : Core) (val : Word) (s : State) :
    Host.Outcome State Fault Refusal :=
  s.poke core HRD_CTRL.HOLD.addr val.toNat

/-- PCH_ARM: HVM_CMD.PCH_ARM = 1 (R163). -/
def execPchArm (core : Core) (s : State) :
    Host.Outcome State Fault Refusal :=
  s.poke core HVM_CMD.PCH_ARM.addr (Fld.word HVM_CMD.PCH_ARM 1)

/-- PCH_ABORT: HVM_CMD.PCH_ABORT = 1 (R163). -/
def execPchAbort (core : Core) (s : State) :
    Host.Outcome State Fault Refusal :=
  s.poke core HVM_CMD.PCH_ABORT.addr (Fld.word HVM_CMD.PCH_ABORT 1)

/-- RANGE_RESET: HVM_CMD.RANGE_RESET = 1 (R147). -/
def execRangeReset (core : Core) (s : State) :
    Host.Outcome State Fault Refusal :=
  s.poke core HVM_CMD.RANGE_RESET.addr (Fld.word HVM_CMD.RANGE_RESET 1)

/-- QCLR: HVM_CMD.QCLR = 1 (R152). -/
def execQclr (core : Core) (s : State) :
    Host.Outcome State Fault Refusal :=
  s.poke core HVM_CMD.QCLR.addr (Fld.word HVM_CMD.QCLR 1)

/-- ZERO: HVM_CMD.ZERO = 1 (R164). -/
def execZero (core : Core) (s : State) :
    Host.Outcome State Fault Refusal :=
  s.poke core HVM_CMD.ZERO.addr (Fld.word HVM_CMD.ZERO 1)

/-- HVM_QLO_READ (R152). -/
def execHvmQloRead (core : Core) (s : State) :
    Host.Outcome State Fault Refusal :=
  .next (s.regRead core HVM_QLO.VAL.addr)

/-- HVM_CTRL_WRITE (R153). -/
def execHvmCtrlWrite (core : Core) (val : Word) (s : State) :
    Host.Outcome State Fault Refusal :=
  s.poke core HVM_CTRL.INJ_EN.addr val.toNat

/-- HVM_HALLGAIN_WRITE (R153). -/
def execHvmHallgainWrite (core : Core) (val : Word) (s : State) :
    Host.Outcome State Fault Refusal :=
  s.poke core HVM_HALLGAIN.GAIN.addr val.toNat

/-! ### CHN, CEL, EST, PRT, CRB -/

/-- CHN_ENUM: CHN_CMD.ENUM = 1 (R182). -/
def execChnEnum (core : Core) (s : State) :
    Host.Outcome State Fault Refusal :=
  s.poke core CHN_CMD.ENUM.addr (Fld.word CHN_CMD.ENUM 1)

/-- CHN_REMEASURE: CHN_CMD.REMEASURE = 1 (R183). -/
def execChnRemeasure (core : Core) (s : State) :
    Host.Outcome State Fault Refusal :=
  s.poke core CHN_CMD.REMEASURE.addr (Fld.word CHN_CMD.REMEASURE 1)

/-- CHN_WAKE: CHN_CMD.WAKE = 1 (R199). -/
def execChnWake (core : Core) (s : State) :
    Host.Outcome State Fault Refusal :=
  s.poke core CHN_CMD.WAKE.addr (Fld.word CHN_CMD.WAKE 1)

/-- CHN_ABORT: CHN_CMD.ABORT = 1 (R189). -/
def execChnAbort (core : Core) (s : State) :
    Host.Outcome State Fault Refusal :=
  s.poke core CHN_CMD.ABORT.addr (Fld.word CHN_CMD.ABORT 1)

/-- CHN_CTRL_WRITE (R200). -/
def execChnCtrlWrite (core : Core) (val : Word) (s : State) :
    Host.Outcome State Fault Refusal :=
  s.poke core CHN_CTRL.PORT_EN.addr val.toNat

/-- MAP_APPLY: CEL_CMD.MAP_APPLY = 1 (R202). -/
def execMapApply (core : Core) (s : State) :
    Host.Outcome State Fault Refusal :=
  s.poke core CEL_CMD.MAP_APPLY.addr (Fld.word CEL_CMD.MAP_APPLY 1)

/-- SENSE_CLR: CEL_CMD.SENSE_CLR = 1 (R222). -/
def execSenseClr (core : Core) (unit : BitVec 6) (s : State) :
    Host.Outcome State Fault Refusal :=
  s.poke core CEL_CMD.SENSE_CLR.addr (Fld.word CEL_CMD.SENSE_CLR 1 + Fld.word CEL_CMD.UNIT unit.toNat)

/-- OWT_NOW: CEL_CMD.OWT_NOW = 1 (R218). -/
def execOwtNow (core : Core) (unit : BitVec 6) (s : State) :
    Host.Outcome State Fault Refusal :=
  s.poke core CEL_CMD.OWT_NOW.addr (Fld.word CEL_CMD.OWT_NOW 1 + Fld.word CEL_CMD.UNIT unit.toNat)

/-- BAL_STOP: CEL_CMD.BAL_STOP = 1 (R227). -/
def execBalStop (core : Core) (s : State) :
    Host.Outcome State Fault Refusal :=
  s.poke core CEL_CMD.BAL_STOP.addr (Fld.word CEL_CMD.BAL_STOP 1)

/-- CHECK: CEL_CMD.CHECK = 1 (R229). -/
def execCheck (core : Core) (s : State) :
    Host.Outcome State Fault Refusal :=
  s.poke core CEL_CMD.CHECK.addr (Fld.word CEL_CMD.CHECK 1)

/-- PARAM_APPLY: EST_CMD.PARAM_APPLY = 1 (R235). -/
def execParamApply (core : Core) (s : State) :
    Host.Outcome State Fault Refusal :=
  s.poke core EST_CMD.PARAM_APPLY.addr 1

/-- EST_CTRL_WRITE (R246). -/
def execEstCtrlWrite (core : Core) (val : Word) (s : State) :
    Host.Outcome State Fault Refusal :=
  s.poke core EST_CTRL.METHOD.addr val.toNat

/-- LSNAP_REQ: EST_LSNAP with REQ = 1 (R277). -/
def execLsnapReq (core : Core) (block : BitVec 5) (s : State) :
    Host.Outcome State Fault Refusal :=
  s.poke core EST_LSNAP.REQ.addr (Fld.word EST_LSNAP.REQ 1 + block.toNat)

/-- PRT_SET_WRITE: a write to a register of the protection set (R284). -/
def execPrtSetWrite (core : Core) (addr val : Word) (s : State) :
    Host.Outcome State Fault Refusal :=
  if PRT_CELL_OV.TRIP.addr ≤ addr.toNat ∧ addr.toNat ≤ PRT_INT.HBTMO.addr then
    s.poke core addr.toNat val.toNat
  else .next s

/-- CRB_HB: a heartbeat (R294). -/
def execCrbHb (core : Core) (seq : BitVec 8) (s : State) :
    Host.Outcome State Fault Refusal :=
  s.poke core CRB_HB.SEQ.addr seq.toNat

/-- CRB_CMD_SRS: CRB_CMD.SRS = 1 (R287). -/
def execCrbCmdSrs (core : Core) (s : State) :
    Host.Outcome State Fault Refusal :=
  s.poke core CRB_CMD.SRS.addr (Fld.word CRB_CMD.SRS 1)

/-- CRB_CMD_SII: CRB_CMD.SII = 1 (R287). -/
def execCrbCmdSii (core : Core) (s : State) :
    Host.Outcome State Fault Refusal :=
  s.poke core CRB_CMD.SII.addr (Fld.word CRB_CMD.SII 1)

/-- CRB_RESET: a write of a reset key (R297). -/
def execCrbReset (core : Core) (key : Word) (s : State) :
    Host.Outcome State Fault Refusal :=
  s.poke core CRB_RESET.KEY.addr key.toNat

/-- CRB_SEAL_FIRST_KEY (R303). -/
def execCrbSealFirstKey (core : Core) (s : State) :
    Host.Outcome State Fault Refusal :=
  s.poke core CRB_SEAL.KEY.addr 0x00005EA1

/-- CRB_SEAL_SECOND_KEY (R303). -/
def execCrbSealSecondKey (core : Core) (s : State) :
    Host.Outcome State Fault Refusal :=
  s.poke core CRB_SEAL.KEY.addr 0x00001AE5

/-! ### GGN, FIO -/

/-- GGN_TARGET_WRITE (R314). -/
def execGgnTargetWrite (core : Core) (axis : BitVec 2) (val : Word) (s : State) :
    Host.Outcome State Fault Refusal :=
  s.poke core (GGN_xTGT.VAL axis.toNat).addr val.toNat

/-- GGN_GO: linked moves of the groups start (R317). -/
def execGgnGo (core : Core) (g1 g2 : Bool) (s : State) :
    Host.Outcome State Fault Refusal :=
  s.poke core GGN_GO.G1.addr (Fld.word GGN_GO.G1 (b2n g1) + Fld.word GGN_GO.G2 (b2n g2))

/-- GGN_STOP: GGN_xCMD.STOP = 1 (R315). -/
def execGgnStop (core : Core) (axis : BitVec 2) (s : State) :
    Host.Outcome State Fault Refusal :=
  s.poke core (GGN_xCMD.STOP axis.toNat).addr (Fld.word (GGN_xCMD.STOP 0) 1)

/-- GGN_FLUSH: GGN_xCMD.FLUSH = 1 (R314). -/
def execGgnFlush (core : Core) (axis : BitVec 2) (s : State) :
    Host.Outcome State Fault Refusal :=
  s.poke core (GGN_xCMD.FLUSH axis.toNat).addr (Fld.word (GGN_xCMD.FLUSH 0) 1)

/-- GGN_SETPOS: GGN_xCMD.SETPOS = 1 (R325). -/
def execGgnSetpos (core : Core) (axis : BitVec 2) (s : State) :
    Host.Outcome State Fault Refusal :=
  s.poke core (GGN_xCMD.SETPOS axis.toNat).addr (Fld.word (GGN_xCMD.SETPOS 0) 1)

/-- GGN_AXIS_CTRL_WRITE (R312). -/
def execGgnAxisCtrlWrite (core : Core) (axis : BitVec 2) (val : Word) (s : State) :
    Host.Outcome State Fault Refusal :=
  s.poke core (GGN_xCTRL.EN axis.toNat).addr val.toNat

/-- FIO_DOSET_WRITE (R331). -/
def execFioDosetWrite (core : Core) (val : BitVec 15) (s : State) :
    Host.Outcome State Fault Refusal :=
  s.poke core FIO_DOSET.DO.addr val.toNat

/-- LS_RELEASE: FIO_CMD.LS12_REL or LS13_REL = 1 (R339). -/
def execLsRelease (core : Core) (ls13 : Bool) (s : State) :
    Host.Outcome State Fault Refusal :=
  s.poke core FIO_CMD.LS12_REL.addr (if ls13 then Fld.word FIO_CMD.LS13_REL 1 else Fld.word FIO_CMD.LS12_REL 1)

/-- WD_REARM: FIO_CMD.WD_REARM = 1 (R340). -/
def execWdRearm (core : Core) (s : State) :
    Host.Outcome State Fault Refusal :=
  s.poke core FIO_CMD.WD_REARM.addr (Fld.word FIO_CMD.WD_REARM 1)

/-- CNTCLR: FIO_CMD.CNTCLR of one counter (R347). -/
def execCntclr (core : Core) (k : BitVec 2) (s : State) :
    Host.Outcome State Fault Refusal :=
  s.poke core FIO_CMD.CNTCLR.addr (Fld.word FIO_CMD.CNTCLR (2 ^ k.toNat))

/-- FIO_WDKEY: a write of the output watchdog key (R340). -/
def execFioWdkey (core : Core) (val : Word) (s : State) :
    Host.Outcome State Fault Refusal :=
  s.poke core FIO_WDKEY.KEY.addr val.toNat

/-! ### CAN: controller `x`, 0 A, 1 B -/

/-- CAN_TXREQ: the TXREQ bit of object `n` (R356). -/
def execCanTxreq (core : Core) (x : BitVec 1) (n : BitVec 7) (s : State) :
    Host.Outcome State Fault Refusal :=
  s.poke core (CNx_TXREQ.BITS x.toNat (n.toNat / 32)).addr (2 ^ (n.toNat % 32))

/-- CAN_TXABORT: the TXABORT bit of object `n` (R357). -/
def execCanTxabort (core : Core) (x : BitVec 1) (n : BitVec 7) (s : State) :
    Host.Outcome State Fault Refusal :=
  s.poke core (CNx_TXABORT.BITS x.toNat (n.toNat / 32)).addr (2 ^ (n.toNat % 32))

/-- CAN_RECOVER: CNx_CMD.RECOVER = 1 (R359). -/
def execCanRecover (core : Core) (x : BitVec 1) (s : State) :
    Host.Outcome State Fault Refusal :=
  s.poke core (CNx_CMD.RECOVER x.toNat).addr (Fld.word (CNx_CMD.RECOVER 0) 1)

/-- CAN_ABORTALL: CNx_CMD.ABORTALL = 1 (R366). -/
def execCanAbortall (core : Core) (x : BitVec 1) (s : State) :
    Host.Outcome State Fault Refusal :=
  s.poke core (CNx_CMD.ABORTALL x.toNat).addr (Fld.word (CNx_CMD.ABORTALL 0) 1)

/-- CAN_TIMING_WRITE: one of the six words from CNx_NBT on (R351). -/
def execCanTimingWrite (core : Core) (x : BitVec 1) (reg : Fin 6) (val : Word) (s : State) :
    Host.Outcome State Fault Refusal :=
  s.poke core ((CNx_NBT.NBRP x.toNat).addr + 4 * reg.val) val.toNat

/-- CAN_OBJECT_CONFIG_WRITE: OCFG of object `n` (R367). -/
def execCanObjectConfigWrite (core : Core) (x : BitVec 1) (n : BitVec 7) (val : Word) (s : State) :
    Host.Outcome State Fault Refusal :=
  s.poke core (CNx_OCFG.EN x.toNat n.toNat).addr val.toNat

/-! ### PTP, TDM -/

/-- TIME_ACCEPT: PTP_CMD.TIME_ACCEPT = 1 (R376). -/
def execTimeAccept (core : Core) (s : State) :
    Host.Outcome State Fault Refusal :=
  s.poke core PTP_CMD.TIME_ACCEPT.addr (Fld.word PTP_CMD.TIME_ACCEPT 1)

/-- TSQ_POP: PTP_CMD.TSQ_POP = 1 (R381). -/
def execTsqPop (core : Core) (s : State) :
    Host.Outcome State Fault Refusal :=
  s.poke core PTP_CMD.TSQ_POP.addr (Fld.word PTP_CMD.TSQ_POP 1)

/-- TSQ_CLR: PTP_CMD.TSQ_CLR = 1 (R390). -/
def execTsqClr (core : Core) (s : State) :
    Host.Outcome State Fault Refusal :=
  s.poke core PTP_CMD.TSQ_CLR.addr (Fld.word PTP_CMD.TSQ_CLR 1)

/-- PTP_CMP_WRITE: a time compare is armed (R380). -/
def execPtpCmpWrite (core : Core) (k : BitVec 2) (val : Word) (s : State) :
    Host.Outcome State Fault Refusal :=
  s.poke core (PTP_CMP.TARGET k.toNat).addr val.toNat

/-- PTP_TIMELO_READ (R374). -/
def execPtpTimeloRead (core : Core) (s : State) :
    Host.Outcome State Fault Refusal :=
  .next (s.regRead core PTP_TIMELO.NS.addr)

/-- TDM_CTRL_WRITE (R396). -/
def execTdmCtrlWrite (core : Core) (val : Word) (s : State) :
    Host.Outcome State Fault Refusal :=
  s.poke core TDM_CTRL.EN.addr val.toNat

/-- TDM_RESYNC: TDM_CMD.RESYNC = 1 (R396). -/
def execTdmResync (core : Core) (s : State) :
    Host.Outcome State Fault Refusal :=
  s.poke core TDM_CMD.RESYNC.addr (Fld.word TDM_CMD.RESYNC 1)

/-- TDM_RELEASE: TDM_CMD.RELEASE = 1 (R414). -/
def execTdmRelease (core : Core) (s : State) :
    Host.Outcome State Fault Refusal :=
  s.poke core TDM_CMD.RELEASE.addr (Fld.word TDM_CMD.RELEASE 1)

/-- TDM_CLAIMREF: a claim refresh key (R408). -/
def execTdmClaimref (core : Core) (key : Word) (s : State) :
    Host.Outcome State Fault Refusal :=
  s.poke core TDM_CLAIMREF.KEY.addr key.toNat

/-! ### NVM, LOG, UPD -/

/-- RSV_TEST: NVM_CMD.RSV_TEST = 1 (R420). -/
def execRsvTest (core : Core) (s : State) :
    Host.Outcome State Fault Refusal :=
  s.poke core NVM_CMD.RSV_TEST.addr (Fld.word NVM_CMD.RSV_TEST 1)

/-- LEDGER_DONE: NVM_CMD.LEDGER_DONE = 1 (R427). -/
def execLedgerDone (core : Core) (s : State) :
    Host.Outcome State Fault Refusal :=
  s.poke core NVM_CMD.LEDGER_DONE.addr (Fld.word NVM_CMD.LEDGER_DONE 1)

/-- LOG_CLEAR: LOG_CMD with its key and CLEAR = 1 (R435). -/
def execLogClear (core : Core) (s : State) :
    Host.Outcome State Fault Refusal :=
  s.poke core LOG_CMD.CLEAR.addr (Fld.word LOG_CMD.KEY 0xC1EA + Fld.word LOG_CMD.CLEAR 1)

/-- UPD_BEGIN: UPD_CMD.BEGIN = 1 (R443). -/
def execUpdBegin (core : Core) (s : State) :
    Host.Outcome State Fault Refusal :=
  s.poke core UPD_CMD.BEGIN.addr (Fld.word UPD_CMD.BEGIN 1)

/-- UPD_PROG: UPD_CMD.PROG = 1 (R444). -/
def execUpdProg (core : Core) (s : State) :
    Host.Outcome State Fault Refusal :=
  s.poke core UPD_CMD.PROG.addr (Fld.word UPD_CMD.PROG 1)

/-- UPD_VERIFY: UPD_CMD.VERIFY = 1 (R446). -/
def execUpdVerify (core : Core) (s : State) :
    Host.Outcome State Fault Refusal :=
  s.poke core UPD_CMD.VERIFY.addr (Fld.word UPD_CMD.VERIFY 1)

/-- UPD_ARM: UPD_CMD.ARM = 1 with its key (R447). -/
def execUpdArm (core : Core) (s : State) :
    Host.Outcome State Fault Refusal :=
  s.poke core UPD_CMD.ARM.addr (Fld.word UPD_CMD.KEY 0xA53C + Fld.word UPD_CMD.ARM 1)

/-- HEALTH_CONFIRM: UPD_CMD.CONFIRM = 1 with its key (R450). -/
def execHealthConfirm (core : Core) (s : State) :
    Host.Outcome State Fault Refusal :=
  s.poke core UPD_CMD.CONFIRM.addr (Fld.word UPD_CMD.KEY 0xC3A5 + Fld.word UPD_CMD.CONFIRM 1)

/-- UPD_ABORT: UPD_CMD.ABORT = 1 (R450). -/
def execUpdAbort (core : Core) (s : State) :
    Host.Outcome State Fault Refusal :=
  s.poke core UPD_CMD.ABORT.addr (Fld.word UPD_CMD.ABORT 1)

end Sys2Proof.Machine
end

