-- ==== Sys2Proof/Machine/CrOps.lean ====
section
/-! DEFINITION. Control registers as mfcr reads and mtcr writes them (R82, R84, R91, Tables GCS-3 and GCS-10 to
GCS-12). -/

namespace Sys2Proof.Machine
open Sys2Proof Sys2Proof.Reg

def Cr.tagfree : Nat := 0x014
def Cr.coreId : Nat := 0x018
def Cr.cycle : Nat := 0x019

/-- The numbers that Table GCS-10 lists. -/
def crListed (n : Nat) : Bool :=
  decide (n ≤ 6) || decide (n = 8) || decide (0x10 ≤ n ∧ n ≤ 0x14) || decide (0x18 ≤ n ∧ n ≤ 0x1A)
    || decide (0x20 ≤ n ∧ n ≤ 0x2F)

/-- The control registers that App may read (R84). -/
def crApp (n : Nat) : Bool := [Cr.fpctl, Cr.tagfree, Cr.coreId, Cr.cycle, Cr.tick].contains n

/-- CRSTAT.GATE: a Rider's completions are held while the module runs in tandem mode (R109) (log entry 11: DESIGN
CHOICE). -/
def State.gateBit (s : State) (c : Core) : Bool := s.tandem && decide (c ≠ .grm)

/-- What mfcr reads, and the state after it: CYCLE is a free value (log entry 3: DESIGN CHOICE) (log entry 11:
DESIGN CHOICE). -/
def State.readCr (s : State) (c : Core) (n : Nat) : Word × State :=
  if n = Cr.tagfree then (BitVec.ofNat 32 (s.tagFree c), s)
  else if n = Cr.coreId then (BitVec.ofNat 32 (coreCode c), s)
  else if n = Cr.cycle then
    let d := s.draw 32
    let v := s.cr c n + BitVec.ofNat 32 d.1
    (v, d.2.setCr c n v)
  else if n = Cr.crstat then
    (s.cr c n ||| BitVec.ofNat 32 (b2n (s.gateBit c) * 2 ^ Crstat.gate), s)
  else (s.cr c n, s)

/-- The bits of an RW control register that a write reaches; none for an RO register. -/
def crMask (c : Core) (n : Nat) : Word :=
  if n = Cr.status then 0x60F
  else if n = Cr.estatus then 0x70F
  else if n = Cr.ecause then 0xFFFF
  else if n = Cr.epc ∨ n = Cr.eval then 0xFFFFFFFF
  else if n = Cr.vbase then 0xFFFFFF00
  else if n = Cr.fpctl then 0x1F1F
  else if n = Cr.crbase then (if c = .grm then 0xFFFFFF00 else 0xFFFFF800)
  else if n = Cr.crrp then (if c = .grm then 0x3F else 0x1FF)
  else if 0x20 ≤ n ∧ n ≤ 0x2F then (if n % 2 = 0 then 0xFFFFFF0F else 0xFFFFFF00)
  else 0

/-- What a register holds after the write of `v`: ECCCNT clears by bit 31, CRSTAT by ones in its W1C bits, PRIV
of STATUS stays (R82). -/
def State.crAfter (s : State) (c : Core) (n : Nat) (v : Word) : Word :=
  let old := s.cr c n
  if n = Cr.ecccnt then (if v.msb then 0 else old)
  else if n = Cr.crstat then old &&& ~~~(v &&& 0xB)
  else (old &&& ~~~(crMask c n)) ||| (v &&& crMask c n)

/-- mtcr of a listed control register. -/
def State.writeCr (s : State) (c : Core) (n : Nat) (v : Word) : State := s.setCr c n (s.crAfter c n v)

end Sys2Proof.Machine
end

