-- ==== Sys2Proof/Machine/System.lean ====
section
/-! DEFINITION. System instructions, class 0x7, and what the module does with a core: wake, event interrupt, Groom
reset, lockstep mismatch (R82, R84, R91-R97, R100). -/

namespace Sys2Proof.Machine
open Sys2Proof Sys2Proof.Reg

/-! ### Control registers -/

/-- mfcr: a control register to dst; an unlisted number is undefined. -/
def execMfcr (f : Fetch) (dst : Reg) (cr : BitVec 13) (s : State) :
    Host.Outcome State Fault Refusal :=
  let c := f.core
  let n := cr.toNat
  s.instr f (wordI 7 dst 0 0x00 cr) (firstBad [(!(crListed n), 0), (s.isApp c && !(crApp n), 1)]) fun s =>
    let r := s.readCr c n
    (r.2.setG c dst r.1).advance c

/-- mtcr: srcA to a control register; dst must be g0. -/
def execMtcr (f : Fetch) (dst srcA : Reg) (cr : BitVec 13) (s : State) :
    Host.Outcome State Fault Refusal :=
  let c := f.core
  let n := cr.toNat
  s.instr f (wordI 7 dst srcA 0x01 cr)
    (firstBad [(!(crListed n) || decide (dst ≠ 0), 0), (s.isApp c && decide (n ≠ Cr.fpctl), 1)]) fun s =>
    (s.writeCr c n (s.g c srcA)).advance c

/-! ### wfe, fences, trap, eret -/

/-- wfe: the core waits at the instruction; imm13[0] adds the tick boundary (R93). -/
def execWfe (f : Fetch) (imm : BitVec 13) (s : State) :
    Host.Outcome State Fault Refusal :=
  let c := f.core
  s.instr f (wordI 7 0 0 0x02 imm) (firstBad [(s.isApp c, 1)]) fun s =>
    s.setCore c { s.core c with run := .wfe (imm.getLsbD 0), wakeSeen := false }

/-- A core is inside wfe. -/
def State.inWfe (s : State) (c : Core) : Bool :=
  match (s.core c).run with
  | .wfe _ => true
  | _ => false

/-- WFE_WAKE: an event has become eligible, or a ring entry or a tick boundary has come (R93). -/
def execWfeWake (core : Core) (s : State) :
    Host.Outcome State Fault Refusal :=
  .next (if s.inWfe core && ((s.eligible core).isSome || (s.core core).wakeSeen) then s.leaveWfe core else s)

/-- fence 0: accesses take effect in program order (R99), so only the pc moves (log entry 107: DEDUCED). -/
def execFenceFull (f : Fetch) (s : State) :
    Host.Outcome State Fault Refusal :=
  s.instr f (wordI 7 0 0 0x03 0) none fun s => s.advance f.core

/-- fence 1: the store buffer holds nothing between commands (log entry 107: DEDUCED). -/
def execFenceStores (f : Fetch) (s : State) :
    Host.Outcome State Fault Refusal :=
  s.instr f (wordI 7 0 0 0x03 1) none fun s => s.advance f.core

/-- fence 2: nothing is prefetched between commands. -/
def execFenceInstruction (f : Fetch) (s : State) :
    Host.Outcome State Fault Refusal :=
  s.instr f (wordI 7 0 0 0x03 2) none fun s => s.advance f.core

/-- trap: the trap exception, EPC past it, EVAL = imm13 (R92). -/
def execTrap (f : Fetch) (imm : BitVec 13) (s : State) :
    Host.Outcome State Fault Refusal :=
  let c := f.core
  s.instr f (wordI 7 0 0 0x04 imm) none fun s => s.takeExc c Exc.trap 0 (s.pc c + 4) (immZ imm)

/-- eret: PC from EPC and STATUS from ESTATUS in one step (R82). -/
def execEret (f : Fetch) (s : State) :
    Host.Outcome State Fault Refusal :=
  let c := f.core
  s.instr f (wordI 7 0 0 0x05 0) (firstBad [(s.isApp c, 1)]) fun s =>
    (s.setCr c Cr.status (s.cr c Cr.estatus)).setPc c (s.cr c Cr.epc &&& 0xFFFFFFFC)

/-! ### Event interrupts (R94, R106, R110) -/

/-- The core stands at an instruction boundary, or inside waitt or lock (log entry 106: DEDUCED). -/
def State.interruptible (s : State) (c : Core) : Bool :=
  match (s.core c).run with
  | .run => true
  | .waitt _ _ _ => true
  | .lockWait _ _ => true
  | _ => false

/-- EVENT_INTERRUPT: an eligible event while IE = 1 and EXC = 0; EPC names the instruction not yet executed, which
is the waitt or lock that waits (log entry 106: DEDUCED). -/
def execEventInterrupt (core : Core) (s : State) :
    Host.Outcome State Fault Refusal :=
  .next (if s.interruptible core && s.statusBit core 9 && !(s.statusBit core 10) && (s.eligible core).isSome then
      s.enterExc core Exc.event 0 (s.pc core) 0
    else s)

/-! ### Core faults (R96, R97) -/

/-- GROOM_FAULT_RESET: the Groom alone is reset and starts at ENTRYG; SYS_RSTCAUSE.GROOM, and the record where MRAM
is open, in Paddock at the next wake (log entry 23: DESIGN CHOICE). The events that the Groom had in service stay in
service (log entry 124: DESIGN CHOICE). -/
def execGroomFaultReset (s : State) :
    Host.Outcome State Fault Refusal :=
  .next (if s.grm.run = .halted then
      let entry := s.sys.entryG
      let s := ((s.orphan .grm).dropLocks .grm).coreStart .grm entry
      let s := s.put SYS_RSTCAUSE.GROOM true
      s.when (decide (Gait.walk ≤ s.gait)) State.groomRecord
    else s)

/-- The core of a Rider. -/
def riderCore (r : Rider) : Core :=
  match r with
  | .r0 => .r0 | .r1 => .r1

/-- LOCKSTEP_MISMATCH: the pair halts and its core-fault input asserts (log entry 15: DEDUCED). -/
def execLockstepMismatch (rider : Rider) (s : State) :
    Host.Outcome State Fault Refusal :=
  let c := riderCore rider
  .next (match (s.core c).run with
    | .off => s
    | .halted => s
    | _ => (s.setRun c .halted).coreFault c)

end Sys2Proof.Machine
end

