-- ==== Sys2Proof/Machine/Thermal.lean ====
section
/-! DEFINITION. Heat: the sensor window, throttle and enforcement, thermal shutdown of the die and of the HV
converter, the token bucket (R64-R74). -/

namespace Sys2Proof.Machine
open Sys2Proof Sys2Proof.Reg

/-! ### The sensor window (R64-R67, R72) -/

/-- The numbers of a list in rising order. -/
def sortInts (l : List Int) : List Int :=
  l.foldl (fun acc x => (acc.filter fun y => decide (y ≤ x)) ++ x :: (acc.filter fun y => decide (x < y))) []

/-- Twice the median; none of an empty list. -/
def median2 (l : List Int) : Option Int :=
  let m := sortInts l
  let n := m.length
  if n = 0 then none
  else if n % 2 = 1 then some (2 * m.getD (n / 2) 0)
  else some (m.getD (n / 2 - 1) 0 + m.getD (n / 2) 0)

/-- By how much the count of die sensor `i` falls from 25 °C to 125 °C: at least 25, for an accuracy of 2 °C (R64; log entry 132: DEDUCED). -/
def dieSpan (i : Nat) : Nat := Config.dieCal i false + 25

/-- The count of die sensor `i` at 125 °C: at least the fall from 25 °C, so that hotter dies have one too (R64; log entry 132: DEDUCED). -/
def dieHot (i : Nat) : Nat := Config.dieCal i true + dieSpan i

/-- The temperature in 0.01 °C behind the count of die sensor `i`: the straight line through its calibration points
at 25 °C and 125 °C, none for a count of zero (R64, R65). -/
def dieTemp (i : Nat) (count : Nat) : Option Int :=
  if count = 0 then none
  else some (divRound (12500 * dieSpan i + 10000 * ((dieHot i : Int) - count)) (dieSpan i))

/-- A sensor passes the count and range tests (R65). -/
def dieInRange (r : Option Int) : Bool :=
  match r with
  | some t => decide (-5500 ≤ t ∧ t ≤ 17500)
  | none => false

/-- Reading `i` lies more than 15 °C from the median of the other sensors in range; none where no test is
made (R65). -/
def dieDeviates (rs : List (Option Int)) (i : Nat) : Option Bool :=
  match rs.getD i none with
  | none => none
  | some t =>
    if dieInRange (some t) = false then none
    else
      let others := ((List.range rs.length).filter (· ≠ i)).filterMap fun j =>
        if dieInRange (rs.getD j none) then rs.getD j none else none
      match median2 others with
      | none => none
      | some m => some (decide (3000 < (2 * t - m).natAbs))

/-- The deviation runs and fault bit of sensor `i` after a window: 8 windows beyond make it faulty, 8 within
end the fault; a window without a test restarts both runs. -/
def devStep (x : ThermalSt) (rs : List (Option Int)) (i : Nat) : ThermalSt :=
  match dieDeviates rs i with
  | some true =>
    let n := min 8 (mapGet 0 x.devOut i + 1)
    { x with devOut := mapSet 0 x.devOut i n, devIn := mapErase x.devIn i
             devFault := if n = 8 then setBit x.devFault i else x.devFault }
  | some false =>
    let n := min 8 (mapGet 0 x.devIn i + 1)
    { x with devOut := mapErase x.devOut i, devIn := mapSet 0 x.devIn i n
             devFault := if n = 8 then clrBit x.devFault i else x.devFault }
  | none => { x with devOut := mapErase x.devOut i, devIn := mapErase x.devIn i }

/-- THM_RATE shows the rate of the last sensor window, halved while the throttle is enforced (R66, R67, R72). -/
def State.showRate (s : State) : State :=
  s.set THM_RATE.R (if s.flag THM_STAT.ENFORCED then s.thermal.rate / 2 else s.thermal.rate)

/-- The refill rate R of a sensor window (R72). -/
def State.thmRate (s : State) : State :=
  let max_ : Int := s.get THM_REFILL.RMAX
  let min_ : Int := s.get THM_REFILL.RMIN
  let full : Int := 100 * s.get THM_HFULL.HFULL
  let hot := s.get THM_HOT.TEMP
  let h : Int := if hot = 0x8000 then 0 else 100 * (s.get THM_THROT.LEVEL : Int) - sgn 16 hot
  let r := if full ≤ h then max_ else if h ≤ 0 then min_ else min_ + (max_ - min_) * h / full
  (s.mapThermal fun x => { x with rate := r.toNat }).showRate

/-- Sensor `i` is faulty (R65). -/
def ThermalSt.faulty (x : ThermalSt) (i : Nat) : Bool := bit x.rangeFault i || bit x.devFault i

/-- The readings of the window reach the registers: THM_DIE, THM_HV, THM_HOT, HOTIDX, SENS_FAULT. -/
def State.thmShow (s : State) (rs hv : List (Option Int)) : State :=
  let x := s.thermal
  let good (i : Nat) : Option Int := if x.faulty i then none else rs.getD i none
  let s := (List.range 6).foldl (fun (s : State) i => s.set (THM_DIE.TEMP i) (tempCode (good i))) s
  let s := (List.range 2).foldl (fun (s : State) i => s.set (THM_HV.TEMP i) (tempCode (hv.getD i none))) s
  let hot := (List.range 6).foldl (fun (b : Option (Nat × Int)) i =>
    match good i, b with
    | some t, none => some (i, t)
    | some t, some p => if p.2 < t then some (i, t) else some p
    | none, b => b) none
  let s := s.set THM_HOT.TEMP (tempCode (hot.map (·.2)))
  let s := s.set THM_STAT.HOTIDX ((hot.map (·.1)).getD 0)
  s.put THM_STAT.SENS_FAULT ((List.range 6).any x.faulty)

/-- The throttle request against THM_HOT; a request takes the grace time of its own (R66, R67, R68). GRACE_RUN ends
when the request clears (log entry 114: DESIGN CHOICE). -/
def State.throttle (s : State) : State :=
  let hot := s.get THM_HOT.TEMP
  if hot = 0x8000 ∨ s.thermal.unknown = true then s
  else
    let t := sgn 16 hot
    let level : Int := 100 * s.get THM_THROT.LEVEL
    let low := level - 100 * (s.get THM_THROT.HYST : Int)
    if s.flag THM_STAT.THROT_REQ = false ∧ level ≤ t then
      let due := s.nowUs + 1000 * s.get THM_GRACE.MS
      (((s.put THM_STAT.THROT_REQ true).put THM_STAT.GRACE_RUN true).mapThermal fun x =>
        { x with graceAt := due }).raise 9
    else if s.flag THM_STAT.THROT_REQ = true ∧ t < low then
      let e := s.flag THM_STAT.ENFORCED
      ((s.put THM_STAT.THROT_REQ false).put THM_STAT.GRACE_RUN false).mapThermal fun x => { x with restore := e }
    else s

/-- Three faulty sensors at once: die temperature unknown until reset (R65). -/
def State.dieUnknown (s : State) : State :=
  if s.thermal.unknown then s
  else
    let req := s.flag THM_STAT.THROT_REQ
    let enf := s.flag THM_STAT.ENFORCED
    let s := ((s.put THM_STAT.THROT_REQ true).put THM_STAT.ENFORCED true).put THM_STAT.GRACE_RUN false
    let s := s.mapThermal fun x => { x with unknown := true, restore := false }
    let s := (s.when (!req) fun s => s.raise 9).when (!enf) fun s => s.raise 10
    s.herdClk.forceLame LameCause.dieUnknown true

/-- A valid die sensor at 150 °C: immediate isolation, the module held in reset, its claim dropped; the deviation runs
of the sensors go on (R65, R69, R70). -/
def State.dieShutdown (s : State) : State :=
  let s := (s.setBitOf CRB_INPUT.CAUSES (Cause.therm - 1)).curbCause Cause.therm .sii false
  let s := (s.dropClaim 3).put THM_LATCH.DIE_PAST true
  let x := s.thermal
  let s := s.moduleReset.mapSys fun x => { x with dieOff := true, booting := false }
  s.mapThermal fun y => { y with devOut := x.devOut, devIn := x.devIn, devFault := x.devFault }

/-- The sensor states after a window with the die readings `rs` in 0.01 °C (R65). -/
def ThermalSt.window (x : ThermalSt) (rs : List (Option Int)) : ThermalSt :=
  (List.range 6).foldl (fun x i => devStep x rs i)
    { x with rangeFault := maskOf 6 fun i => !(dieInRange (rs.getD i none)) }

/-- A sensor window with the readings of the die and of the HV sensors in 0.01 °C (R64 to R67, R69, R72). -/
def State.thmWindow (s : State) (rs hv : List (Option Int)) : State :=
  let s := s.mapThermal fun x => x.window rs
  let s := s.thmShow rs hv
  let n := ((List.range 6).filter s.thermal.faulty).length
  let s := (s.when (decide (3 ≤ n)) State.dieUnknown).throttle.thmRate
  let warm := maskOf 2 fun k => match hv.getD k none with
    | some t => decide (10500 ≤ t)
    | none => false
  let s := s.mapThermal fun x => { x with hvWarm := x.hvWarm &&& warm }
  let hot : Bool := (List.range 6).any fun i =>
    let c := s.get (THM_DIE.TEMP i)
    decide (c ≠ 0x8000) && decide (15000 ≤ sgn 16 c)
  s.when hot State.dieShutdown

/-- THM_SENSOR_WINDOW (R64): the counts of the six die sensors over the window, and the readings of the two HV sensors
in 0.01 °C, none where unpowered. -/
def execThmSensorWindow (n0 n1 n2 n3 n4 n5 : Nat) (hv0 hv1 : Option Int) (s : State) :
    Host.Outcome State Fault Refusal :=
  if s.gait = Gait.stable ∨ s.sys.on = false ∨ s.inReset = true then .next s
  else .next (s.thmWindow
    [dieTemp 0 n0, dieTemp 1 n1, dieTemp 2 n2, dieTemp 3 n3, dieTemp 4 n4, dieTemp 5 n5] [hv0, hv1])

/-! ### Grace and release (R66, R67) -/

/-- THM_GRACE_EXPIRY: the grace time of the request has passed with THROT_REQ set; a pending restore is cancelled. -/
def execThmGraceExpiry (s : State) :
    Host.Outcome State Fault Refusal :=
  if s.flag THM_STAT.GRACE_RUN = false ∨ s.flag THM_STAT.THROT_REQ = false ∨ s.nowUs < s.thermal.graceAt then .next s
  else
    let s := s.put THM_STAT.GRACE_RUN false
    if s.flag THM_STAT.ENFORCED then .next (s.mapThermal fun x => { x with restore := false })
    else
      let s := ((s.put THM_STAT.ENFORCED true).raise 10).herdClk.showRate
      .next (if s.gait = Gait.gallop then s.standbyLocal.forceTrans 11 Gait.canter 6 else s)

/-- THM_RELEASE: the first sweep boundary after THROT_REQ has cleared ends enforcement. -/
def execThmRelease (s : State) :
    Host.Outcome State Fault Refusal :=
  if s.thermal.restore then
    let s := (s.put THM_STAT.ENFORCED false).mapThermal fun x => { x with restore := false }
    .next ((s.raise 11).herdClk.showRate)
  else .next s

/-! ### Shutdown and restart (R69, R70) -/

/-- A window of the die sensors, readings in 0.01 °C, while a die shutdown holds the module in reset: at least one
valid sensor and every valid one below 125 °C end it (R65, Table THM-1). -/
def State.dieCooling (s : State) (rs : List (Option Int)) : State :=
  let s := s.mapThermal fun x => x.window rs
  let valid := ((List.range 6).filter fun i => !(s.thermal.faulty i)).filterMap fun i => rs.getD i none
  if valid ≠ [] ∧ (valid.all fun t => decide (t < 12500)) = true then s.powerUp SYS_RSTCAUSE.THERM else s

/-- DIE_RESTART (Table THM-1): the counts of the die sensors over a window while the module is held in reset. -/
def execDieRestart (n0 n1 n2 n3 n4 n5 : Nat) (s : State) :
    Host.Outcome State Fault Refusal :=
  if s.sys.dieOff then .next (s.dieCooling
    [dieTemp 0 n0, dieTemp 1 n1, dieTemp 2 n2, dieTemp 3 n3, dieTemp 4 n4, dieTemp 5 n5])
  else .next s

/-- HV_CONVERTER_TRIP (Table THM-1): THM_HV0 or THM_HV1 at 150 °C latches the converter off; the alive code stops, and
the precharge check with the section (Table HVM-4). -/
def execHvConverterTrip (s : State) :
    Host.Outcome State Fault Refusal :=
  if s.flag THM_LATCH.HV_CONV = true ∨ s.gait < 2 then .next s
  else
    let s := (s.put THM_LATCH.HV_CONV true).raise 12
    let s := ((s.put HVM_STAT.READY false).put HVM_STAT.SUPPLY_OK false).put HVM_STAT.LINK_OK false
    let s := s.hvLost.pchAbort
    .next (s.mapCrb fun x => { x with alive := false }).aliveTrip

/-- The HV sensors that show 105 °C or more, as a mask. -/
def State.hvHot (s : State) : Nat := maskOf 2 fun k =>
  let c := s.get (THM_HV.TEMP k)
  decide (c ≠ 0x8000 ∧ 10500 ≤ sgn 16 c)

/-- HV_TEMP_WARN (R70): THM_HV0 or THM_HV1 has reached 105 °C, once per rise of that sensor. -/
def execHvTempWarn (s : State) :
    Host.Outcome State Fault Refusal :=
  let warm := s.thermal.hvWarm ||| s.hvHot
  if warm = s.thermal.hvWarm then .next s
  else .next ((s.mapThermal fun x => { x with hvWarm := warm }).raise 14)

/-! ### Energy tokens (R71) -/

/-- TOKEN_REFILL: 10 µs have passed; the scheduler evaluates (R134). -/
def execTokenRefill (s : State) :
    Host.Outcome State Fault Refusal :=
  if s.flag HRD_STAT.POWERED = false then .next s
  else
    let n := s.thermal.frac + s.get THM_RATE.R
    let s := (s.mapThermal fun x => { x with frac := n % 100 }).set THM_BUCKET.TOKENS
      (min 50000 (s.get THM_BUCKET.TOKENS + n / 100))
    .next s.schedule

end Sys2Proof.Machine
end

