-- ==== Sys2Proof/Machine/Upd.lean ====
section
/-! DEFINITION. Events of the UPD block, and plant telegrams, whose update types it takes (R383, R444-R449). -/

namespace Sys2Proof.Machine
open Sys2Proof Sys2Proof.Reg

/-- PROG_DONE (R444): erase and program of the block end; `ok`: the read-back passed. The map words wait for 0.6 mJ
(R442). -/
def execProgDone (ok : Bool) (s : State) :
    Host.Outcome State Fault Refusal :=
  match s.upd.job with
  | .prog b true => if 600 ≤ s.get NVM_RSVE.UJ then .next (s.updProgram b ok) else .next s
  | _ => .next s

/-- VERIFY_DONE (R446). -/
def execVerifyDone (s : State) :
    Host.Outcome State Fault Refusal :=
  match s.upd.job with
  | .verify => .next s.updVerified
  | _ => .next s

/-- TRIAL_EXPIRY (R449): the window or the absolute limit has passed. -/
def execTrialExpiry (s : State) :
    Host.Outcome State Fault Refusal :=
  if s.onTrial && s.trialOver then
    .next ((((s.set (slotReg s.runSlot) Slot.rejected).put UPD_FLT.EXPIRED true).commitBoot).raise 253)
  else .next s

/-- PLANT_TELEGRAM_RECEIVED (R383, R384, R387, R445): a UDP datagram to P0, checked in order. -/
def execPlantTelegramReceived (src : BitVec 32) (dport : BitVec 16) (bytes : List (BitVec 8)) (s : State) :
    Host.Outcome State Fault Refusal :=
  let b := bytes.map (·.toNat)
  let type := b.getD 2 0
  let ip := s.ethGet ETH_PLANTIP.IP
  if s.ethUp = false then .next s
  else if s.ethFlag ETH_CTRL.PLANT_EN = false ∨ dport.toNat ≠ s.ethGet ETH_UDPPORT.PORT ∨
      (ip ≠ 0 ∧ src.toNat ≠ ip) ∨ plantForm b = false ∨
      ofLe ((b.drop 8).take 4) ≠ s.get SYS_UID0.UID ∨
      s.plantNew type (ofLe ((b.drop 4).take 4)) = false ∨ s.plantAge b = some false then .next s.rxDrop
  else
    let seq := ofLe ((b.drop 4).take 4)
    let skipped := (s.plantAge b).isNone
    let s := s.mapEth fun e => { e with rxSeq := mapSet none e.rxSeq type (some seq) }
    let s := s.when (skipped || decide (type = 0x10)) fun s => s.put ETH_DEMSTAT.NOAGE skipped
    if type = 0x10 then .next (s.demand b)
    else if type = 0x11 then .next (s.service b)
    else .next (s.updReceive b)

end Sys2Proof.Machine
end

