-- ==== Sys2Proof/Machine/Dispatch.lean ====
section
/-! DEFINITION. The meaning of every command: one arm per constructor of Instr, each a direct call. -/

namespace Sys2Proof.Machine
open Sys2Proof

def exec (i : Instr) (s : State) : Host.Outcome State Fault Refusal :=
  match i with
  | .add x1 x2 x3 x4 x5 => Sys2Proof.Machine.execAdd x1 x2 x3 x4 x5 s
  | .sub x1 x2 x3 x4 x5 => Sys2Proof.Machine.execSub x1 x2 x3 x4 x5 s
  | .and x1 x2 x3 x4 x5 => Sys2Proof.Machine.execAnd x1 x2 x3 x4 x5 s
  | .or x1 x2 x3 x4 x5 => Sys2Proof.Machine.execOr x1 x2 x3 x4 x5 s
  | .xor x1 x2 x3 x4 x5 => Sys2Proof.Machine.execXor x1 x2 x3 x4 x5 s
  | .shl x1 x2 x3 x4 x5 => Sys2Proof.Machine.execShl x1 x2 x3 x4 x5 s
  | .shr x1 x2 x3 x4 x5 => Sys2Proof.Machine.execShr x1 x2 x3 x4 x5 s
  | .sar x1 x2 x3 x4 x5 => Sys2Proof.Machine.execSar x1 x2 x3 x4 x5 s
  | .slt x1 x2 x3 x4 x5 => Sys2Proof.Machine.execSlt x1 x2 x3 x4 x5 s
  | .sltu x1 x2 x3 x4 x5 => Sys2Proof.Machine.execSltu x1 x2 x3 x4 x5 s
  | .min x1 x2 x3 x4 x5 => Sys2Proof.Machine.execMin x1 x2 x3 x4 x5 s
  | .max x1 x2 x3 x4 x5 => Sys2Proof.Machine.execMax x1 x2 x3 x4 x5 s
  | .minu x1 x2 x3 x4 x5 => Sys2Proof.Machine.execMinu x1 x2 x3 x4 x5 s
  | .maxu x1 x2 x3 x4 x5 => Sys2Proof.Machine.execMaxu x1 x2 x3 x4 x5 s
  | .mul x1 x2 x3 x4 x5 => Sys2Proof.Machine.execMul x1 x2 x3 x4 x5 s
  | .mulh x1 x2 x3 x4 x5 => Sys2Proof.Machine.execMulh x1 x2 x3 x4 x5 s
  | .mulhu x1 x2 x3 x4 x5 => Sys2Proof.Machine.execMulhu x1 x2 x3 x4 x5 s
  | .div x1 x2 x3 x4 x5 => Sys2Proof.Machine.execDiv x1 x2 x3 x4 x5 s
  | .divu x1 x2 x3 x4 x5 => Sys2Proof.Machine.execDivu x1 x2 x3 x4 x5 s
  | .rem x1 x2 x3 x4 x5 => Sys2Proof.Machine.execRem x1 x2 x3 x4 x5 s
  | .remu x1 x2 x3 x4 x5 => Sys2Proof.Machine.execRemu x1 x2 x3 x4 x5 s
  | .jalr x1 x2 x3 x4 x5 => Sys2Proof.Machine.execJalr x1 x2 x3 x4 x5 s
  | .addi x1 x2 x3 x4 x5 => Sys2Proof.Machine.execAddi x1 x2 x3 x4 x5 s
  | .subi x1 x2 x3 x4 x5 => Sys2Proof.Machine.execSubi x1 x2 x3 x4 x5 s
  | .andi x1 x2 x3 x4 x5 => Sys2Proof.Machine.execAndi x1 x2 x3 x4 x5 s
  | .ori x1 x2 x3 x4 x5 => Sys2Proof.Machine.execOri x1 x2 x3 x4 x5 s
  | .xori x1 x2 x3 x4 x5 => Sys2Proof.Machine.execXori x1 x2 x3 x4 x5 s
  | .shli x1 x2 x3 x4 x5 => Sys2Proof.Machine.execShli x1 x2 x3 x4 x5 s
  | .shri x1 x2 x3 x4 x5 => Sys2Proof.Machine.execShri x1 x2 x3 x4 x5 s
  | .sari x1 x2 x3 x4 x5 => Sys2Proof.Machine.execSari x1 x2 x3 x4 x5 s
  | .slti x1 x2 x3 x4 x5 => Sys2Proof.Machine.execSlti x1 x2 x3 x4 x5 s
  | .sltiu x1 x2 x3 x4 x5 => Sys2Proof.Machine.execSltiu x1 x2 x3 x4 x5 s
  | .lb x1 x2 x3 x4 x5 => Sys2Proof.Machine.execLb x1 x2 x3 x4 x5 s
  | .lbu x1 x2 x3 x4 x5 => Sys2Proof.Machine.execLbu x1 x2 x3 x4 x5 s
  | .lh x1 x2 x3 x4 x5 => Sys2Proof.Machine.execLh x1 x2 x3 x4 x5 s
  | .lhu x1 x2 x3 x4 x5 => Sys2Proof.Machine.execLhu x1 x2 x3 x4 x5 s
  | .lw x1 x2 x3 x4 x5 => Sys2Proof.Machine.execLw x1 x2 x3 x4 x5 s
  | .sb x1 x2 x3 x4 => Sys2Proof.Machine.execSb x1 x2 x3 x4 s
  | .sh x1 x2 x3 x4 => Sys2Proof.Machine.execSh x1 x2 x3 x4 s
  | .sw x1 x2 x3 x4 => Sys2Proof.Machine.execSw x1 x2 x3 x4 s
  | .beq x1 x2 x3 => Sys2Proof.Machine.execBeq x1 x2 x3 s
  | .bne x1 x2 x3 => Sys2Proof.Machine.execBne x1 x2 x3 s
  | .bhs x1 x2 x3 => Sys2Proof.Machine.execBhs x1 x2 x3 s
  | .blo x1 x2 x3 => Sys2Proof.Machine.execBlo x1 x2 x3 s
  | .bmi x1 x2 x3 => Sys2Proof.Machine.execBmi x1 x2 x3 s
  | .bpl x1 x2 x3 => Sys2Proof.Machine.execBpl x1 x2 x3 s
  | .bvs x1 x2 x3 => Sys2Proof.Machine.execBvs x1 x2 x3 s
  | .bvc x1 x2 x3 => Sys2Proof.Machine.execBvc x1 x2 x3 s
  | .bhi x1 x2 x3 => Sys2Proof.Machine.execBhi x1 x2 x3 s
  | .bls x1 x2 x3 => Sys2Proof.Machine.execBls x1 x2 x3 s
  | .bge x1 x2 x3 => Sys2Proof.Machine.execBge x1 x2 x3 s
  | .blt x1 x2 x3 => Sys2Proof.Machine.execBlt x1 x2 x3 s
  | .bgt x1 x2 x3 => Sys2Proof.Machine.execBgt x1 x2 x3 s
  | .ble x1 x2 x3 => Sys2Proof.Machine.execBle x1 x2 x3 s
  | .j x1 x2 x3 => Sys2Proof.Machine.execJ x1 x2 x3 s
  | .bz x1 x2 x3 => Sys2Proof.Machine.execBz x1 x2 x3 s
  | .bnz x1 x2 x3 => Sys2Proof.Machine.execBnz x1 x2 x3 s
  | .bltz x1 x2 x3 => Sys2Proof.Machine.execBltz x1 x2 x3 s
  | .bgez x1 x2 x3 => Sys2Proof.Machine.execBgez x1 x2 x3 s
  | .bgtz x1 x2 x3 => Sys2Proof.Machine.execBgtz x1 x2 x3 s
  | .blez x1 x2 x3 => Sys2Proof.Machine.execBlez x1 x2 x3 s
  | .jal x1 x2 => Sys2Proof.Machine.execJal x1 x2 s
  | .high x1 x2 x3 => Sys2Proof.Machine.execHigh x1 x2 x3 s
  | .fadd x1 x2 x3 x4 x5 => Sys2Proof.Machine.execFadd x1 x2 x3 x4 x5 s
  | .fsub x1 x2 x3 x4 x5 => Sys2Proof.Machine.execFsub x1 x2 x3 x4 x5 s
  | .fmul x1 x2 x3 x4 x5 => Sys2Proof.Machine.execFmul x1 x2 x3 x4 x5 s
  | .fdiv x1 x2 x3 x4 x5 => Sys2Proof.Machine.execFdiv x1 x2 x3 x4 x5 s
  | .fsqrt x1 x2 x3 x4 x5 => Sys2Proof.Machine.execFsqrt x1 x2 x3 x4 x5 s
  | .fma x1 x2 x3 x4 x5 => Sys2Proof.Machine.execFma x1 x2 x3 x4 x5 s
  | .fms x1 x2 x3 x4 x5 => Sys2Proof.Machine.execFms x1 x2 x3 x4 x5 s
  | .fmin x1 x2 x3 x4 x5 => Sys2Proof.Machine.execFmin x1 x2 x3 x4 x5 s
  | .fmax x1 x2 x3 x4 x5 => Sys2Proof.Machine.execFmax x1 x2 x3 x4 x5 s
  | .fabs x1 x2 x3 x4 x5 => Sys2Proof.Machine.execFabs x1 x2 x3 x4 x5 s
  | .fneg x1 x2 x3 x4 x5 => Sys2Proof.Machine.execFneg x1 x2 x3 x4 x5 s
  | .fcmp x1 x2 x3 x4 x5 => Sys2Proof.Machine.execFcmp x1 x2 x3 x4 x5 s
  | .fcvtsw x1 x2 x3 x4 x5 => Sys2Proof.Machine.execFcvtsw x1 x2 x3 x4 x5 s
  | .fcvtws x1 x2 x3 x4 x5 => Sys2Proof.Machine.execFcvtws x1 x2 x3 x4 x5 s
  | .fcvtwsr x1 x2 x3 x4 x5 => Sys2Proof.Machine.execFcvtwsr x1 x2 x3 x4 x5 s
  | .mfcr x1 x2 x3 => Sys2Proof.Machine.execMfcr x1 x2 x3 s
  | .mtcr x1 x2 x3 x4 => Sys2Proof.Machine.execMtcr x1 x2 x3 x4 s
  | .wfe x1 x2 => Sys2Proof.Machine.execWfe x1 x2 s
  | .wfeWake x1 => Sys2Proof.Machine.execWfeWake x1 s
  | .fenceFull x1 => Sys2Proof.Machine.execFenceFull x1 s
  | .fenceStores x1 => Sys2Proof.Machine.execFenceStores x1 s
  | .fenceInstruction x1 => Sys2Proof.Machine.execFenceInstruction x1 s
  | .trap x1 x2 => Sys2Proof.Machine.execTrap x1 x2 s
  | .eret x1 => Sys2Proof.Machine.execEret x1 s
  | .eventInterrupt x1 => Sys2Proof.Machine.execEventInterrupt x1 s
  | .groomFaultReset => Sys2Proof.Machine.execGroomFaultReset s
  | .lockstepMismatch x1 => Sys2Proof.Machine.execLockstepMismatch x1 s
  | .chx x1 x2 x3 x4 x5 => Sys2Proof.Machine.execChx x1 x2 x3 x4 x5 s
  | .job x1 x2 x3 x4 x5 => Sys2Proof.Machine.execJob x1 x2 x3 x4 x5 s
  | .nvc x1 x2 x3 x4 x5 => Sys2Proof.Machine.execNvc x1 x2 x3 x4 x5 s
  | .dma x1 x2 x3 x4 x5 => Sys2Proof.Machine.execDma x1 x2 x3 x4 x5 s
  | .txf x1 x2 x3 x4 x5 => Sys2Proof.Machine.execTxf x1 x2 x3 x4 x5 s
  | .waitt x1 x2 x3 x4 => Sys2Proof.Machine.execWaitt x1 x2 x3 x4 s
  | .waittReturn x1 => Sys2Proof.Machine.execWaittReturn x1 s
  | .waittLimit x1 => Sys2Proof.Machine.execWaittLimit x1 s
  | .pollt x1 x2 x3 => Sys2Proof.Machine.execPollt x1 x2 x3 s
  | .tagrel x1 x2 => Sys2Proof.Machine.execTagrel x1 x2 s
  | .lock x1 x2 x3 => Sys2Proof.Machine.execLock x1 x2 x3 s
  | .lockGrant x1 => Sys2Proof.Machine.execLockGrant x1 s
  | .unlock x1 x2 x3 x4 x5 => Sys2Proof.Machine.execUnlock x1 x2 x3 x4 x5 s
  | .amoadd x1 x2 x3 x4 x5 => Sys2Proof.Machine.execAmoadd x1 x2 x3 x4 x5 s
  | .amoswap x1 x2 x3 x4 x5 => Sys2Proof.Machine.execAmoswap x1 x2 x3 x4 x5 s
  | .amocas x1 x2 x3 x4 x5 => Sys2Proof.Machine.execAmocas x1 x2 x3 x4 x5 s
  | .amoand x1 x2 x3 x4 x5 => Sys2Proof.Machine.execAmoand x1 x2 x3 x4 x5 s
  | .amoor x1 x2 x3 x4 x5 => Sys2Proof.Machine.execAmoor x1 x2 x3 x4 x5 s
  | .dmaTransferDone x1 => Sys2Proof.Machine.execDmaTransferDone x1 s
  | .controlTick x1 => Sys2Proof.Machine.execControlTick x1 s
  | .periphStore x1 x2 x3 => Sys2Proof.Machine.execPeriphStore x1 x2 x3 s
  | .refMonitorWindow x1 => Sys2Proof.Machine.execRefMonitorWindow x1 s
  | .pllUnlock x1 => Sys2Proof.Machine.execPllUnlock x1 s
  | .xtal32kLoss => Sys2Proof.Machine.execXtal32kLoss s
  | .evtClaim x1 => Sys2Proof.Machine.execEvtClaim x1 s
  | .evtDone x1 x2 => Sys2Proof.Machine.execEvtDone x1 x2 s
  | .evtSet x1 x2 x3 => Sys2Proof.Machine.execEvtSet x1 x2 x3 s
  | .arbitrationCycle x1 x2 x3 => Sys2Proof.Machine.execArbitrationCycle x1 x2 x3 s
  | .requestPromotion x1 => Sys2Proof.Machine.execRequestPromotion x1 s
  | .lockHoldLimit x1 => Sys2Proof.Machine.execLockHoldLimit x1 s
  | .padLocklimWrite x1 x2 => Sys2Proof.Machine.execPadLocklimWrite x1 x2 s
  | .pwrReqStable x1 => Sys2Proof.Machine.execPwrReqStable x1 s
  | .pwrReqPaddock x1 => Sys2Proof.Machine.execPwrReqPaddock x1 s
  | .pwrReqWalk x1 => Sys2Proof.Machine.execPwrReqWalk x1 s
  | .pwrReqTrot x1 => Sys2Proof.Machine.execPwrReqTrot x1 s
  | .pwrReqCanter x1 => Sys2Proof.Machine.execPwrReqCanter x1 s
  | .pwrReqGallop x1 => Sys2Proof.Machine.execPwrReqGallop x1 s
  | .pwrReqLame x1 => Sys2Proof.Machine.execPwrReqLame x1 s
  | .gaitTransitionComplete => Sys2Proof.Machine.execGaitTransitionComplete s
  | .wakeNLow x1 => Sys2Proof.Machine.execWakeNLow x1 s
  | .rtcTick => Sys2Proof.Machine.execRtcTick s
  | .thmSensorWindow x1 x2 x3 x4 x5 x6 x7 x8 => Sys2Proof.Machine.execThmSensorWindow x1 x2 x3 x4 x5 x6 x7 x8 s
  | .thmGraceExpiry => Sys2Proof.Machine.execThmGraceExpiry s
  | .thmRelease => Sys2Proof.Machine.execThmRelease s
  | .dieRestart x1 x2 x3 x4 x5 x6 => Sys2Proof.Machine.execDieRestart x1 x2 x3 x4 x5 x6 s
  | .outputThermalShutdown x1 => Sys2Proof.Machine.execOutputThermalShutdown x1 s
  | .outputThermalRestart x1 => Sys2Proof.Machine.execOutputThermalRestart x1 s
  | .hvConverterTrip => Sys2Proof.Machine.execHvConverterTrip s
  | .hvTempWarn => Sys2Proof.Machine.execHvTempWarn s
  | .tokenRefill => Sys2Proof.Machine.execTokenRefill s
  | .schedulerEvaluation => Sys2Proof.Machine.execSchedulerEvaluation s
  | .jobProgramLoaded x1 x2 => Sys2Proof.Machine.execJobProgramLoaded x1 x2 s
  | .jobDeadlineMiss x1 => Sys2Proof.Machine.execJobDeadlineMiss x1 s
  | .hrdAbort x1 x2 => Sys2Proof.Machine.execHrdAbort x1 x2 s
  | .hrdTeamdisWrite x1 x2 x3 => Sys2Proof.Machine.execHrdTeamdisWrite x1 x2 x3 s
  | .hrdCtrlWrite x1 x2 => Sys2Proof.Machine.execHrdCtrlWrite x1 x2 s
  | .postDeadline => Sys2Proof.Machine.execPostDeadline s
  | .laneFadd x1 x2 x3 x4 => Sys2Proof.Machine.execLaneFadd x1 x2 x3 x4 s
  | .laneFsub x1 x2 x3 x4 => Sys2Proof.Machine.execLaneFsub x1 x2 x3 x4 s
  | .laneFmul x1 x2 x3 x4 => Sys2Proof.Machine.execLaneFmul x1 x2 x3 x4 s
  | .laneFma x1 x2 x3 x4 => Sys2Proof.Machine.execLaneFma x1 x2 x3 x4 s
  | .laneFms x1 x2 x3 x4 => Sys2Proof.Machine.execLaneFms x1 x2 x3 x4 s
  | .laneFmin x1 x2 x3 x4 => Sys2Proof.Machine.execLaneFmin x1 x2 x3 x4 s
  | .laneFmax x1 x2 x3 x4 => Sys2Proof.Machine.execLaneFmax x1 x2 x3 x4 s
  | .laneFabs x1 x2 x3 x4 => Sys2Proof.Machine.execLaneFabs x1 x2 x3 x4 s
  | .laneFneg x1 x2 x3 x4 => Sys2Proof.Machine.execLaneFneg x1 x2 x3 x4 s
  | .laneFcvtsw x1 x2 x3 => Sys2Proof.Machine.execLaneFcvtsw x1 x2 x3 s
  | .laneFcvtws x1 x2 x3 => Sys2Proof.Machine.execLaneFcvtws x1 x2 x3 s
  | .laneMov x1 x2 x3 x4 => Sys2Proof.Machine.execLaneMov x1 x2 x3 x4 s
  | .laneLidx x1 x2 => Sys2Proof.Machine.execLaneLidx x1 x2 s
  | .laneCmap x1 x2 => Sys2Proof.Machine.execLaneCmap x1 x2 s
  | .laneTidx x1 x2 => Sys2Proof.Machine.execLaneTidx x1 x2 s
  | .laneLdi x1 x2 x3 => Sys2Proof.Machine.execLaneLdi x1 x2 x3 s
  | .laneIadd x1 x2 x3 x4 => Sys2Proof.Machine.execLaneIadd x1 x2 x3 x4 s
  | .laneIsub x1 x2 x3 x4 => Sys2Proof.Machine.execLaneIsub x1 x2 x3 x4 s
  | .laneAnd x1 x2 x3 x4 => Sys2Proof.Machine.execLaneAnd x1 x2 x3 x4 s
  | .laneOr x1 x2 x3 x4 => Sys2Proof.Machine.execLaneOr x1 x2 x3 x4 s
  | .laneXor x1 x2 x3 x4 => Sys2Proof.Machine.execLaneXor x1 x2 x3 x4 s
  | .laneShl x1 x2 x3 x4 => Sys2Proof.Machine.execLaneShl x1 x2 x3 x4 s
  | .laneShr x1 x2 x3 x4 => Sys2Proof.Machine.execLaneShr x1 x2 x3 x4 s
  | .laneSar x1 x2 x3 x4 => Sys2Proof.Machine.execLaneSar x1 x2 x3 x4 s
  | .laneImul x1 x2 x3 x4 => Sys2Proof.Machine.execLaneImul x1 x2 x3 x4 s
  | .laneImin x1 x2 x3 x4 => Sys2Proof.Machine.execLaneImin x1 x2 x3 x4 s
  | .laneImax x1 x2 x3 x4 => Sys2Proof.Machine.execLaneImax x1 x2 x3 x4 s
  | .laneFclt x1 x2 x3 x4 => Sys2Proof.Machine.execLaneFclt x1 x2 x3 x4 s
  | .laneFcle x1 x2 x3 x4 => Sys2Proof.Machine.execLaneFcle x1 x2 x3 x4 s
  | .laneFceq x1 x2 x3 x4 => Sys2Proof.Machine.execLaneFceq x1 x2 x3 x4 s
  | .laneIclt x1 x2 x3 x4 => Sys2Proof.Machine.execLaneIclt x1 x2 x3 x4 s
  | .laneIceq x1 x2 x3 x4 => Sys2Proof.Machine.execLaneIceq x1 x2 x3 x4 s
  | .lanePand x1 x2 x3 x4 => Sys2Proof.Machine.execLanePand x1 x2 x3 x4 s
  | .lanePor x1 x2 x3 x4 => Sys2Proof.Machine.execLanePor x1 x2 x3 x4 s
  | .lanePnot x1 x2 x3 x4 => Sys2Proof.Machine.execLanePnot x1 x2 x3 x4 s
  | .laneLld x1 x2 x3 x4 x5 => Sys2Proof.Machine.execLaneLld x1 x2 x3 x4 x5 s
  | .laneLst x1 x2 x3 x4 => Sys2Proof.Machine.execLaneLst x1 x2 x3 x4 s
  | .laneTld x1 x2 x3 x4 x5 => Sys2Proof.Machine.execLaneTld x1 x2 x3 x4 x5 s
  | .laneTst x1 x2 x3 x4 => Sys2Proof.Machine.execLaneTst x1 x2 x3 x4 s
  | .laneHld x1 x2 x3 x4 x5 => Sys2Proof.Machine.execLaneHld x1 x2 x3 x4 x5 s
  | .laneFdiv x1 x2 x3 x4 => Sys2Proof.Machine.execLaneFdiv x1 x2 x3 x4 s
  | .laneFsqrt x1 x2 x3 x4 => Sys2Proof.Machine.execLaneFsqrt x1 x2 x3 x4 s
  | .laneFrcp x1 x2 x3 x4 => Sys2Proof.Machine.execLaneFrcp x1 x2 x3 x4 s
  | .laneFexp x1 x2 x3 x4 => Sys2Proof.Machine.execLaneFexp x1 x2 x3 x4 s
  | .laneFlog x1 x2 x3 x4 => Sys2Proof.Machine.execLaneFlog x1 x2 x3 x4 s
  | .laneRmin x1 x2 x3 x4 => Sys2Proof.Machine.execLaneRmin x1 x2 x3 x4 s
  | .laneRmax x1 x2 x3 x4 => Sys2Proof.Machine.execLaneRmax x1 x2 x3 x4 s
  | .laneRsum x1 x2 x3 x4 => Sys2Proof.Machine.execLaneRsum x1 x2 x3 x4 s
  | .laneRargmin x1 x2 x3 x4 => Sys2Proof.Machine.execLaneRargmin x1 x2 x3 x4 s
  | .laneRargmax x1 x2 x3 x4 => Sys2Proof.Machine.execLaneRargmax x1 x2 x3 x4 s
  | .laneBar x1 x2 x3 x4 => Sys2Proof.Machine.execLaneBar x1 x2 x3 x4 s
  | .laneBra x1 x2 => Sys2Proof.Machine.execLaneBra x1 x2 s
  | .laneRet x1 x2 x3 x4 => Sys2Proof.Machine.execLaneRet x1 x2 x3 x4 s
  | .fastOcTrip x1 => Sys2Proof.Machine.execFastOcTrip x1 s
  | .aliveCodeLoss => Sys2Proof.Machine.execAliveCodeLoss s
  | .aliveCodeStartupTimeout => Sys2Proof.Machine.execAliveCodeStartupTimeout s
  | .protectionSample x1 x2 x3 x4 => Sys2Proof.Machine.execProtectionSample x1 x2 x3 x4 s
  | .fineSample x1 x2 x3 x4 => Sys2Proof.Machine.execFineSample x1 x2 x3 x4 s
  | .rangeCompareFail => Sys2Proof.Machine.execRangeCompareFail s
  | .hvOverload => Sys2Proof.Machine.execHvOverload s
  | .voltageChannelInvalid x1 => Sys2Proof.Machine.execVoltageChannelInvalid x1 s
  | .voltageChannelRecover x1 => Sys2Proof.Machine.execVoltageChannelRecover x1 s
  | .hallSample x1 x2 => Sys2Proof.Machine.execHallSample x1 x2 s
  | .diversityMismatch => Sys2Proof.Machine.execDiversityMismatch s
  | .hallFault x1 => Sys2Proof.Machine.execHallFault x1 s
  | .sweepHeaderHvmWrite x1 => Sys2Proof.Machine.execSweepHeaderHvmWrite x1 s
  | .isolatorLinkLoss => Sys2Proof.Machine.execIsolatorLinkLoss s
  | .isolatorLinkRestored => Sys2Proof.Machine.execIsolatorLinkRestored s
  | .hvSupplyFault => Sys2Proof.Machine.execHvSupplyFault s
  | .hvSectionReady => Sys2Proof.Machine.execHvSectionReady s
  | .insulationPeriodEnd x1 x2 x3 => Sys2Proof.Machine.execInsulationPeriodEnd x1 x2 x3 s
  | .insulationTimeout => Sys2Proof.Machine.execInsulationTimeout s
  | .pchArm x1 => Sys2Proof.Machine.execPchArm x1 s
  | .pchAbort x1 => Sys2Proof.Machine.execPchAbort x1 s
  | .prechargePass => Sys2Proof.Machine.execPrechargePass s
  | .prechargeLinkShort => Sys2Proof.Machine.execPrechargeLinkShort s
  | .prechargeTimeout => Sys2Proof.Machine.execPrechargeTimeout s
  | .prechargeDrop => Sys2Proof.Machine.execPrechargeDrop s
  | .rangeReset x1 => Sys2Proof.Machine.execRangeReset x1 s
  | .qclr x1 => Sys2Proof.Machine.execQclr x1 s
  | .zero x1 => Sys2Proof.Machine.execZero x1 s
  | .zeroTrimDone => Sys2Proof.Machine.execZeroTrimDone s
  | .hvmQloRead x1 => Sys2Proof.Machine.execHvmQloRead x1 s
  | .hvmCtrlWrite x1 x2 => Sys2Proof.Machine.execHvmCtrlWrite x1 x2 s
  | .hvmHallgainWrite x1 x2 => Sys2Proof.Machine.execHvmHallgainWrite x1 x2 s
  | .enumClear x1 => Sys2Proof.Machine.execEnumClear x1 s
  | .enumAssignUp x1 x2 x3 => Sys2Proof.Machine.execEnumAssignUp x1 x2 x3 s
  | .enumAssignDown x1 x2 x3 => Sys2Proof.Machine.execEnumAssignDown x1 x2 x3 s
  | .enumVerifyDown x1 x2 x3 => Sys2Proof.Machine.execEnumVerifyDown x1 x2 x3 s
  | .ping x1 => Sys2Proof.Machine.execPing x1 s
  | .sync x1 x2 x3 x4 => Sys2Proof.Machine.execSync x1 x2 x3 x4 s
  | .unitLatch x1 x2 => Sys2Proof.Machine.execUnitLatch x1 x2 s
  | .readBlock x1 x2 => Sys2Proof.Machine.execReadBlock x1 x2 s
  | .readReg x1 x2 x3 => Sys2Proof.Machine.execReadReg x1 x2 x3 s
  | .writeReg x1 x2 x3 x4 => Sys2Proof.Machine.execWriteReg x1 x2 x3 x4 s
  | .bleedSet x1 x2 x3 => Sys2Proof.Machine.execBleedSet x1 x2 x3 s
  | .owt x1 => Sys2Proof.Machine.execOwt x1 s
  | .owtUnitResponse x1 x2 x3 => Sys2Proof.Machine.execOwtUnitResponse x1 x2 x3 s
  | .excite x1 x2 x3 x4 x5 x6 => Sys2Proof.Machine.execExcite x1 x2 x3 x4 x5 x6 s
  | .exciteChip x1 => Sys2Proof.Machine.execExciteChip x1 s
  | .faultAck x1 x2 => Sys2Proof.Machine.execFaultAck x1 x2 s
  | .sleep x1 => Sys2Proof.Machine.execSleep x1 s
  | .wakeTone x1 => Sys2Proof.Machine.execWakeTone x1 s
  | .unitLossOfLock x1 x2 => Sys2Proof.Machine.execUnitLossOfLock x1 x2 s
  | .unitAutoSleep x1 => Sys2Proof.Machine.execUnitAutoSleep x1 s
  | .bleedTimeout x1 => Sys2Proof.Machine.execBleedTimeout x1 s
  | .bleedQuietStart x1 => Sys2Proof.Machine.execBleedQuietStart x1 s
  | .bleedQuietEnd x1 => Sys2Proof.Machine.execBleedQuietEnd x1 s
  | .unitFaultEmit x1 x2 x3 => Sys2Proof.Machine.execUnitFaultEmit x1 x2 x3 s
  | .unitFaultRepeat x1 => Sys2Proof.Machine.execUnitFaultRepeat x1 s
  | .faultForward x1 x2 => Sys2Proof.Machine.execFaultForward x1 x2 s
  | .faultSymbolReceived => Sys2Proof.Machine.execFaultSymbolReceived s
  | .chnEnum x1 => Sys2Proof.Machine.execChnEnum x1 s
  | .enumPhaseTimeout x1 x2 x3 x4 => Sys2Proof.Machine.execEnumPhaseTimeout x1 x2 x3 x4 s
  | .pingResponse x1 x2 x3 => Sys2Proof.Machine.execPingResponse x1 x2 x3 s
  | .enumDone => Sys2Proof.Machine.execEnumDone s
  | .chnRemeasure x1 => Sys2Proof.Machine.execChnRemeasure x1 s
  | .chnWake x1 => Sys2Proof.Machine.execChnWake x1 s
  | .chnAbort x1 => Sys2Proof.Machine.execChnAbort x1 s
  | .chnCtrlWrite x1 x2 => Sys2Proof.Machine.execChnCtrlWrite x1 x2 s
  | .syncSend => Sys2Proof.Machine.execSyncSend s
  | .readBlockResponse x1 x2 x3 => Sys2Proof.Machine.execReadBlockResponse x1 x2 x3 s
  | .linknote x1 x2 => Sys2Proof.Machine.execLinknote x1 x2 s
  | .portLossOfLock x1 => Sys2Proof.Machine.execPortLossOfLock x1 s
  | .portSilenceTimeout x1 => Sys2Proof.Machine.execPortSilenceTimeout x1 s
  | .chxResponse x1 x2 x3 => Sys2Proof.Machine.execChxResponse x1 x2 x3 s
  | .chxTimeout x1 => Sys2Proof.Machine.execChxTimeout x1 s
  | .mapApply x1 => Sys2Proof.Machine.execMapApply x1 s
  | .mapValidate => Sys2Proof.Machine.execMapValidate s
  | .cellsWriteResponse x1 x2 => Sys2Proof.Machine.execCellsWriteResponse x1 x2 s
  | .senseClr x1 x2 => Sys2Proof.Machine.execSenseClr x1 x2 s
  | .owtNow x1 x2 => Sys2Proof.Machine.execOwtNow x1 x2 s
  | .balStop x1 => Sys2Proof.Machine.execBalStop x1 s
  | .check x1 => Sys2Proof.Machine.execCheck x1 s
  | .paddockCheckDone => Sys2Proof.Machine.execPaddockCheckDone s
  | .owtSchedule => Sys2Proof.Machine.execOwtSchedule s
  | .owtResponseReceived x1 => Sys2Proof.Machine.execOwtResponseReceived x1 s
  | .owtRetry => Sys2Proof.Machine.execOwtRetry s
  | .owtDeadline x1 => Sys2Proof.Machine.execOwtDeadline x1 s
  | .balanceEvaluation => Sys2Proof.Machine.execBalanceEvaluation s
  | .bleedRefresh x1 => Sys2Proof.Machine.execBleedRefresh x1 s
  | .bleedSetAck x1 x2 => Sys2Proof.Machine.execBleedSetAck x1 x2 s
  | .paramApply x1 => Sys2Proof.Machine.execParamApply x1 s
  | .paramCheck => Sys2Proof.Machine.execParamCheck s
  | .limitHoldExpiry => Sys2Proof.Machine.execLimitHoldExpiry s
  | .estCtrlWrite x1 x2 => Sys2Proof.Machine.execEstCtrlWrite x1 x2 s
  | .lsnapReq x1 x2 => Sys2Proof.Machine.execLsnapReq x1 x2 s
  | .ledgerSnapshot => Sys2Proof.Machine.execLedgerSnapshot s
  | .prtSetWrite x1 x2 x3 => Sys2Proof.Machine.execPrtSetWrite x1 x2 x3 s
  | .prtCommit => Sys2Proof.Machine.execPrtCommit s
  | .crbCopyCheck x1 => Sys2Proof.Machine.execCrbCopyCheck x1 s
  | .hvCopyEcho x1 => Sys2Proof.Machine.execHvCopyEcho x1 s
  | .unitCopyReadback x1 x2 x3 => Sys2Proof.Machine.execUnitCopyReadback x1 x2 x3 s
  | .sweepWatchdogExpiry => Sys2Proof.Machine.execSweepWatchdogExpiry s
  | .heartbeatTimeout => Sys2Proof.Machine.execHeartbeatTimeout s
  | .crbHb x1 x2 => Sys2Proof.Machine.execCrbHb x1 x2 s
  | .curbOscCheck x1 => Sys2Proof.Machine.execCurbOscCheck x1 s
  | .curbSupplyFault => Sys2Proof.Machine.execCurbSupplyFault s
  | .crbCmdSrs x1 => Sys2Proof.Machine.execCrbCmdSrs x1 s
  | .crbCmdSii x1 => Sys2Proof.Machine.execCrbCmdSii x1 s
  | .srsCurrentZero => Sys2Proof.Machine.execSrsCurrentZero s
  | .srsRampTimeout => Sys2Proof.Machine.execSrsRampTimeout s
  | .shuntPulseEnd => Sys2Proof.Machine.execShuntPulseEnd s
  | .weldDetect => Sys2Proof.Machine.execWeldDetect s
  | .curbSelfTestDone x1 => Sys2Proof.Machine.execCurbSelfTestDone x1 s
  | .crbReset x1 x2 => Sys2Proof.Machine.execCrbReset x1 x2 s
  | .channel2Check => Sys2Proof.Machine.execChannel2Check s
  | .doorChannelChange x1 x2 x3 => Sys2Proof.Machine.execDoorChannelChange x1 x2 x3 s
  | .guardDiscrepancy => Sys2Proof.Machine.execGuardDiscrepancy s
  | .guardOpenConfirm => Sys2Proof.Machine.execGuardOpenConfirm s
  | .crbSealFirstKey x1 => Sys2Proof.Machine.execCrbSealFirstKey x1 s
  | .crbSealSecondKey x1 => Sys2Proof.Machine.execCrbSealSecondKey x1 s
  | .sealArmExpiry => Sys2Proof.Machine.execSealArmExpiry s
  | .sealCommitDone => Sys2Proof.Machine.execSealCommitDone s
  | .ggnTargetWrite x1 x2 x3 => Sys2Proof.Machine.execGgnTargetWrite x1 x2 x3 s
  | .ggnGo x1 x2 x3 => Sys2Proof.Machine.execGgnGo x1 x2 x3 s
  | .ggnStop x1 x2 => Sys2Proof.Machine.execGgnStop x1 x2 s
  | .ggnFlush x1 x2 => Sys2Proof.Machine.execGgnFlush x1 x2 s
  | .ggnSetpos x1 x2 => Sys2Proof.Machine.execGgnSetpos x1 x2 s
  | .ggnAxisCtrlWrite x1 x2 x3 => Sys2Proof.Machine.execGgnAxisCtrlWrite x1 x2 x3 s
  | .stepPulse x1 => Sys2Proof.Machine.execStepPulse x1 s
  | .stepDriverShutdown x1 => Sys2Proof.Machine.execStepDriverShutdown x1 s
  | .setpointPublish => Sys2Proof.Machine.execSetpointPublish s
  | .fioDosetWrite x1 x2 => Sys2Proof.Machine.execFioDosetWrite x1 x2 s
  | .pullinEnd x1 => Sys2Proof.Machine.execPullinEnd x1 s
  | .outputOverload x1 => Sys2Proof.Machine.execOutputOverload x1 s
  | .openLoadOff x1 => Sys2Proof.Machine.execOpenLoadOff x1 s
  | .openLoadOn x1 => Sys2Proof.Machine.execOpenLoadOn x1 s
  | .offHigh x1 => Sys2Proof.Machine.execOffHigh x1 s
  | .testWindowStart x1 x2 x3 => Sys2Proof.Machine.execTestWindowStart x1 x2 x3 s
  | .testWindowEnd x1 x2 => Sys2Proof.Machine.execTestWindowEnd x1 x2 s
  | .tiedWatchExpiry x1 => Sys2Proof.Machine.execTiedWatchExpiry x1 s
  | .lsRelease x1 x2 => Sys2Proof.Machine.execLsRelease x1 x2 s
  | .wdRearm x1 => Sys2Proof.Machine.execWdRearm x1 s
  | .cntclr x1 x2 => Sys2Proof.Machine.execCntclr x1 x2 s
  | .fioWdkey x1 x2 => Sys2Proof.Machine.execFioWdkey x1 x2 s
  | .fioWatchdogExpiry => Sys2Proof.Machine.execFioWatchdogExpiry s
  | .vfLow x1 => Sys2Proof.Machine.execVfLow x1 s
  | .vfRecover x1 => Sys2Proof.Machine.execVfRecover x1 s
  | .testSourcePulse x1 x2 => Sys2Proof.Machine.execTestSourcePulse x1 x2 s
  | .testSourceOverload x1 => Sys2Proof.Machine.execTestSourceOverload x1 s
  | .testSourceRetry x1 => Sys2Proof.Machine.execTestSourceRetry x1 s
  | .diSample x1 x2 => Sys2Proof.Machine.execDiSample x1 x2 s
  | .diFilterChange x1 => Sys2Proof.Machine.execDiFilterChange x1 s
  | .diWakeChange x1 => Sys2Proof.Machine.execDiWakeChange x1 s
  | .counterEdge x1 x2 x3 => Sys2Proof.Machine.execCounterEdge x1 x2 x3 s
  | .counterPeriodTimeout x1 => Sys2Proof.Machine.execCounterPeriodTimeout x1 s
  | .canFrameReceived x1 x2 x3 => Sys2Proof.Machine.execCanFrameReceived x1 x2 x3 s
  | .canRxTimeout x1 x2 => Sys2Proof.Machine.execCanRxTimeout x1 x2 s
  | .canTxreq x1 x2 x3 => Sys2Proof.Machine.execCanTxreq x1 x2 x3 s
  | .canTxabort x1 x2 x3 => Sys2Proof.Machine.execCanTxabort x1 x2 x3 s
  | .canFrameSent x1 x2 x3 => Sys2Proof.Machine.execCanFrameSent x1 x2 x3 s
  | .canArbitrationLost x1 x2 => Sys2Proof.Machine.execCanArbitrationLost x1 x2 s
  | .canError x1 x2 x3 x4 x5 => Sys2Proof.Machine.execCanError x1 x2 x3 x4 x5 s
  | .canBusOffRecovery x1 => Sys2Proof.Machine.execCanBusOffRecovery x1 s
  | .canRecover x1 x2 => Sys2Proof.Machine.execCanRecover x1 x2 s
  | .canAbortall x1 x2 => Sys2Proof.Machine.execCanAbortall x1 x2 s
  | .canTimingWrite x1 x2 x3 x4 => Sys2Proof.Machine.execCanTimingWrite x1 x2 x3 x4 s
  | .canObjectConfigWrite x1 x2 x3 x4 => Sys2Proof.Machine.execCanObjectConfigWrite x1 x2 x3 x4 s
  | .canModeChange x1 => Sys2Proof.Machine.execCanModeChange x1 s
  | .txfTimeout x1 x2 => Sys2Proof.Machine.execTxfTimeout x1 x2 s
  | .switchForward x1 x2 x3 x4 => Sys2Proof.Machine.execSwitchForward x1 x2 x3 x4 s
  | .arpRequest x1 x2 x3 => Sys2Proof.Machine.execArpRequest x1 x2 x3 s
  | .icmpEchoRequest x1 x2 => Sys2Proof.Machine.execIcmpEchoRequest x1 x2 s
  | .arpRetry x1 => Sys2Proof.Machine.execArpRetry x1 s
  | .plantTelegramReceived x1 x2 x3 => Sys2Proof.Machine.execPlantTelegramReceived x1 x2 x3 s
  | .demandTimeout => Sys2Proof.Machine.execDemandTimeout s
  | .ptpSyncSample x1 => Sys2Proof.Machine.execPtpSyncSample x1 s
  | .bmcaGmChange x1 x2 => Sys2Proof.Machine.execBmcaGmChange x1 x2 s
  | .syncTimeout => Sys2Proof.Machine.execSyncTimeout s
  | .holdoverLimit => Sys2Proof.Machine.execHoldoverLimit s
  | .timeAccept x1 => Sys2Proof.Machine.execTimeAccept x1 s
  | .timeStep => Sys2Proof.Machine.execTimeStep s
  | .tsqPop x1 => Sys2Proof.Machine.execTsqPop x1 s
  | .tsqClr x1 => Sys2Proof.Machine.execTsqClr x1 s
  | .ppsInEdge x1 => Sys2Proof.Machine.execPpsInEdge x1 s
  | .ppsTimeout => Sys2Proof.Machine.execPpsTimeout s
  | .ppsOutPulse => Sys2Proof.Machine.execPpsOutPulse s
  | .ptpCmpWrite x1 x2 x3 => Sys2Proof.Machine.execPtpCmpWrite x1 x2 x3 s
  | .timeCompareFire x1 => Sys2Proof.Machine.execTimeCompareFire x1 s
  | .ptpTimeloRead x1 => Sys2Proof.Machine.execPtpTimeloRead x1 s
  | .ethFrameSent x1 x2 => Sys2Proof.Machine.execEthFrameSent x1 x2 s
  | .telemetrySend => Sys2Proof.Machine.execTelemetrySend s
  | .ethLinkChange x1 x2 => Sys2Proof.Machine.execEthLinkChange x1 x2 s
  | .tdmCtrlWrite x1 x2 => Sys2Proof.Machine.execTdmCtrlWrite x1 x2 s
  | .helloComplete x1 x2 x3 x4 x5 x6 x7 => Sys2Proof.Machine.execHelloComplete x1 x2 x3 x4 x5 x6 x7 s
  | .helloTimeout => Sys2Proof.Machine.execHelloTimeout s
  | .tdmResync x1 => Sys2Proof.Machine.execTdmResync x1 s
  | .tdmRelease x1 => Sys2Proof.Machine.execTdmRelease x1 s
  | .snapshotRoundEnd x1 => Sys2Proof.Machine.execSnapshotRoundEnd x1 s
  | .snapshotFinal x1 => Sys2Proof.Machine.execSnapshotFinal x1 s
  | .snapshotFail => Sys2Proof.Machine.execSnapshotFail s
  | .snapshotRetry => Sys2Proof.Machine.execSnapshotRetry s
  | .tickSymbol x1 => Sys2Proof.Machine.execTickSymbol x1 s
  | .tickWait x1 => Sys2Proof.Machine.execTickWait x1 s
  | .bundleReceived x1 x2 x3 => Sys2Proof.Machine.execBundleReceived x1 x2 x3 s
  | .replayBoundary => Sys2Proof.Machine.execReplayBoundary s
  | .digestReturn x1 x2 x3 x4 x5 => Sys2Proof.Machine.execDigestReturn x1 x2 x3 x4 x5 s
  | .tdmClaimref x1 x2 => Sys2Proof.Machine.execTdmClaimref x1 x2 s
  | .peerClaimChange x1 => Sys2Proof.Machine.execPeerClaimChange x1 s
  | .bridleGateOpen => Sys2Proof.Machine.execBridleGateOpen s
  | .releaseNoticeReceived x1 => Sys2Proof.Machine.execReleaseNoticeReceived x1 s
  | .peerSilence x1 => Sys2Proof.Machine.execPeerSilence x1 s
  | .handback x1 => Sys2Proof.Machine.execHandback x1 s
  | .heartbeatSend => Sys2Proof.Machine.execHeartbeatSend s
  | .heartbeatReceived x1 => Sys2Proof.Machine.execHeartbeatReceived x1 s
  | .commitStart => Sys2Proof.Machine.execCommitStart s
  | .commitDone x1 => Sys2Proof.Machine.execCommitDone x1 s
  | .commitAbandon => Sys2Proof.Machine.execCommitAbandon s
  | .limiterSecond => Sys2Proof.Machine.execLimiterSecond s
  | .limiterTokenGain x1 => Sys2Proof.Machine.execLimiterTokenGain x1 s
  | .reserveMeasure x1 => Sys2Proof.Machine.execReserveMeasure x1 s
  | .reserveLow => Sys2Proof.Machine.execReserveLow s
  | .rsvTest x1 => Sys2Proof.Machine.execRsvTest x1 s
  | .reserveTestDone x1 x2 => Sys2Proof.Machine.execReserveTestDone x1 x2 s
  | .ledgerDone x1 => Sys2Proof.Machine.execLedgerDone x1 s
  | .counterCommit => Sys2Proof.Machine.execCounterCommit s
  | .logClear x1 => Sys2Proof.Machine.execLogClear x1 s
  | .logClearDone => Sys2Proof.Machine.execLogClearDone s
  | .updBegin x1 => Sys2Proof.Machine.execUpdBegin x1 s
  | .updProg x1 => Sys2Proof.Machine.execUpdProg x1 s
  | .progDone x1 => Sys2Proof.Machine.execProgDone x1 s
  | .updVerify x1 => Sys2Proof.Machine.execUpdVerify x1 s
  | .verifyDone => Sys2Proof.Machine.execVerifyDone s
  | .updArm x1 => Sys2Proof.Machine.execUpdArm x1 s
  | .healthConfirm x1 => Sys2Proof.Machine.execHealthConfirm x1 s
  | .updAbort x1 => Sys2Proof.Machine.execUpdAbort x1 s
  | .trialExpiry => Sys2Proof.Machine.execTrialExpiry s
  | .auxPowerOn x1 x2 x3 => Sys2Proof.Machine.execAuxPowerOn x1 x2 x3 s
  | .ridersStart x1 => Sys2Proof.Machine.execRidersStart x1 s
  | .auxFail => Sys2Proof.Machine.execAuxFail s
  | .auxRestored => Sys2Proof.Machine.execAuxRestored s
  | .powerDownEnd x1 => Sys2Proof.Machine.execPowerDownEnd x1 s
  | .resetNAssert => Sys2Proof.Machine.execResetNAssert s
  | .resetNRelease => Sys2Proof.Machine.execResetNRelease s
  | .resetNStuck => Sys2Proof.Machine.execResetNStuck s
  | .resetMaskClear => Sys2Proof.Machine.execResetMaskClear s
  | .softwareReset x1 x2 => Sys2Proof.Machine.execSoftwareReset x1 x2 s
  | .sysWdkey x1 x2 => Sys2Proof.Machine.execSysWdkey x1 x2 s
  | .systemWatchdogExpiry => Sys2Proof.Machine.execSystemWatchdogExpiry s
  | .supplyMonitorReset => Sys2Proof.Machine.execSupplyMonitorReset s
  | .syncInstant => Sys2Proof.Machine.execSyncInstant s
  | .pllLock x1 => Sys2Proof.Machine.execPllLock x1 s
  | .stepDriverRecovery x1 => Sys2Proof.Machine.execStepDriverRecovery x1 s
  | .aliveCodeStart => Sys2Proof.Machine.execAliveCodeStart s
  | .bleedRestoreTimeout x1 => Sys2Proof.Machine.execBleedRestoreTimeout x1 s
  | .bootAgain => Sys2Proof.Machine.execBootAgain s
  | .tdmLinkRestored => Sys2Proof.Machine.execTdmLinkRestored s
  | .masterSyncInterval => Sys2Proof.Machine.execMasterSyncInterval s
  | .cellsWriteTimeout x1 => Sys2Proof.Machine.execCellsWriteTimeout x1 s

end Sys2Proof.Machine
end

