-- ==== Sys2Proof/Machine/Step.lean ====
section
/-! DEFINITION. One step of the module: the command at the front of its queue; an empty queue leaves it idle (log
entry 8). -/

namespace Sys2Proof.Machine
open Sys2Proof

/-- `s` with its queue replaced (log entry 8: DESIGN CHOICE). -/
def State.withPending (s : State) (q : List Instr) : State := { s with pending := q }

/-- One step: the front command acts on the state with the queue's rest. -/
def step (s : State) : Host.Outcome State Fault Refusal :=
  match s.pending with
  | [] => .next s
  | c :: rest => exec c (s.withPending rest)

/-- `s` with the command that the word spells at the front of its queue (log entry 8: DESIGN CHOICE). -/
def State.withFetchWord (s : State) (nbits w : Nat) : State :=
  match decodeTableWord nbits w with
  | some c => s.withPending (c :: s.pending)
  | none => s

end Sys2Proof.Machine
end

