-- ==== Sys2Proof/Safety.lean ====
section
/-! DEFINITION. What the claims mean by a state in order: the canonical form of memory, the program counters, the
hard-wired register. -/

namespace Sys2Proof.Machine
open Sys2Proof Sys2Proof.Reg

/-- The canonical form of memory: addresses strictly rising, and no entry equal to what an unlisted address reads
as. -/
def Memory.wf (m : List Host.Cell) : Bool := keysRise m && m.all fun e => decide (e.2 ≠ memUnlisted e.1)

/-- Bits [1:0] of every program counter are 0 (section "Registers and status"). -/
def State.pcAligned (s : State) : Bool :=
  decide (s.r0.pc.toNat % 4 = 0 ∧ s.r1.pc.toNat % 4 = 0 ∧ s.grm.pc.toNat % 4 = 0)

/-- No core holds a value for g0 (R80). -/
def State.zeroHeld (s : State) : Bool :=
  (s.r0.g ++ s.r1.g ++ s.grm.g).all fun e => decide (e.1 ≠ 0)

/-- The applied layout table names cells 0 to 511, units from 1 on (Table CEL-1). -/
def State.mapRange (s : State) : Bool := s.cel.map.all fun e => decide (e.1 < 512 ∧ 1 ≤ layUnit e.2)

/-! ### Instructions that reach their effect -/

/-- Core `f.core` executes instructions, and the fetch at its pc raises no exception: inside the App windows
(R83), not refused (R29), no uncorrectable ECC error (R98), and the word an instruction (R79). -/
def State.fetches (s : State) (f : Fetch) : Bool :=
  decide ((s.core f.core).run = .run) && !(s.winBad f.core Perm.x 4 (s.pc f.core).toNat)
    && (s.refusal (coreMaster f.core) (s.isApp f.core) .fetch 4 (s.pc f.core).toNat).isNone
    && decide (f.ecc ≠ .uncorrectable) && (fetchUndefined f).isNone

/-- `s` with a corrected ECC error of the fetch counted (R98). -/
def State.fetched (s : State) (f : Fetch) : State :=
  s.when (decide (f.ecc = .corrected)) fun s => s.eccSeen f.core

/-- A data access raises no exception (R29, R83, R87). -/
def State.serves (s : State) (c : Core) (k : Access) (perm n : Nat) (a : Word) : Bool :=
  (s.dataFault c k perm n a).isNone

/-- `t` is `s` but for the general registers, the control registers and the pc of core `c`. -/
def State.sameBut (s t : State) (c : Core) : Prop :=
  t = s.setCore c { s.core c with g := (t.core c).g, cr := (t.core c).cr, pc := (t.core c).pc }

/-- Every control register of core `c` but those in `but` reads in `t` as in `s`. -/
def State.sameCr (s t : State) (c : Core) (but : List Nat) : Prop := ∀ n, n ∉ but → t.cr c n = s.cr c n

/-- Core `c` has entered the handler of `cause` (R93): EPC, ECAUSE and EVAL written, STATUS saved and changed to
PRIV = 1, IE = 0, EXC = 1, the pc at the vector slot; nothing else of the module changed. -/
def State.entered (s t : State) (c : Core) (cause sub : Nat) (epc eval : Word) : Prop :=
  t.cr c Cr.epc = epc ∧ t.cr c Cr.ecause = BitVec.ofNat 32 (cause + 256 * sub) ∧ t.cr c Cr.eval = eval ∧
    t.cr c Cr.estatus = s.cr c Cr.status ∧
    t.statusBit c 8 = true ∧ t.statusBit c 9 = false ∧ t.statusBit c 10 = true ∧
    (∀ b, b < 8 ∨ 10 < b → t.statusBit c b = s.statusBit c b) ∧
    t.pc c = (s.cr c Cr.vbase &&& 0xFFFFFF00) + BitVec.ofNat 32 (0x20 * cause) ∧
    s.sameCr t c [Cr.status, Cr.epc, Cr.estatus, Cr.ecause, Cr.eval] ∧ (∀ r, t.g c r = s.g c r) ∧
    t = s.setCore c { s.core c with cr := (t.core c).cr, pc := (t.core c).pc, run := .run }

/-! ### Lane words that reach their effect -/

/-- Team `o.team` executes a word of job `j` with its sequencer at `r`: inside the program, no uncorrectable error
of the program store, an op code of Table HRD-6, PRED and NEG 0 where UNP is 1 (R121, R125). -/
def State.laneReady (s : State) (o : LaneOp) (j : Job) (r : TeamRun) : Prop :=
  s.runner o.team.toNat = some (j, r) ∧ r.pc < j.plen ∧ o.ecc ≠ .uncorrectable ∧ laneUndefined o = false ∧
    (o.unp = true → o.pred = 0 ∧ o.neg = false)

/-- Lane `l` executes the word: a lane of the team whose governing predicate holds. -/
def State.laneRuns (s : State) (o : LaneOp) (l : Nat) : Prop :=
  l / 16 = o.team.toNat ∧ (o.unp = true ∨ (s.lanePreds l).testBit o.pred.toNat = !o.neg)

/-- The scalar cores of `s` and `t` are the same. -/
def State.sameCores (s t : State) : Prop := t.r0 = s.r0 ∧ t.r1 = s.r1 ∧ t.grm = s.grm

/-- The team goes on with word `pc` of its program, the cores as they were. -/
def State.laneAt (s t : State) (o : LaneOp) (r : TeamRun) (pc : Nat) : Prop :=
  (∃ j', t.runner o.team.toNat = some (j', { r with pc := pc })) ∧ s.sameCores t

/-! ### Register commands and events -/

/-- Core `c` executes instructions and a store of a word to the register at `a` is served (R33, R83, R476). -/
def State.storesReg (s : State) (c : Core) (a : Nat) : Prop :=
  (s.core c).run = .run ∧ s.serves c .store Perm.w 4 (BitVec.ofNat 32 a) = true ∧ s.rwfBad c a = false

/-- Core `c` executes instructions and a load of the register at `a` is served (R33, R83). -/
def State.loadsReg (s : State) (c : Core) (a : Nat) : Prop :=
  (s.core c).run = .run ∧ s.serves c .load Perm.r 4 (BitVec.ofNat 32 a) = true

/-- Source `n`, as EVT_CFG stands in `s`, has asserted in `t`: where enabled it is pending, or, routed to a Rider in
tandem mode, held for the tick boundary (R35, R40). -/
def State.asserts (s t : State) (n : Nat) : Prop :=
  s.get (EVT_CFG.EN n) ≠ 0 →
    if s.tandem = true ∧ (s.get (EVT_CFG.ROUTE n) = 1 ∨ s.get (EVT_CFG.ROUTE n) = 2) then n ∈ t.evt.held
    else t.evtPending n = true

/-- `t` has the memory and the cores of `s`. -/
def State.sameRest (s t : State) : Prop := t.mem = s.mem ∧ s.sameCores t

/-- From Walk to Gallop with no transition in progress, T13 to Lame has begun, and Lame cause `b` is marked (R59, R305). -/
def State.lameBegins (s t : State) (b : Nat) : Prop :=
  t.power.lameCauses.testBit b = true ∧
    (2 ≤ s.gait → s.gait ≤ 5 → s.power.trans = none →
      t.power.trans = some ⟨13, Gait.lame, 3, false⟩ ∧ t.get PWR_GAIT.BUSY = 1)

/-- Every core stands at its reset state and the boot runs (Table SYS-7). -/
def State.rebooted (t : State) : Prop :=
  t.r0 = CoreSt.reset ∧ t.r1 = CoreSt.reset ∧ t.grm = CoreSt.reset ∧ t.sys.booting = true ∧ t.sys.held = false

/-- Every core is off. -/
def State.coresOff (t : State) : Prop := t.r0.run = .off ∧ t.r1.run = .off ∧ t.grm.run = .off

/-- What a loss of volatile memory leaves of `s`: the boot ROM, the MRAM and the flash (R55). -/
def State.lostRam (s t : State) : Prop :=
  ∀ a, t.byte a = if 0x10000000 ≤ a ∧ a < 0x40000000 ∨ 0x60000000 ≤ a ∧ a < 0x100000000 then memUnlisted a else s.byte a

/-! ### The integer operations as Tables GCS-5 and GCS-6 give them -/

/-- Class 0x0 operations on gA and gB, but add, sub and jalr. -/
def regOps : List ((Fetch → Bool → Reg → Reg → Reg → Instr) × (Word → Word → Word)) :=
  [(.and, fun x y => x &&& y), (.or, fun x y => x ||| y), (.xor, fun x y => x ^^^ y),
    (.shl, fun x y => x <<< (y.toNat % 32)), (.shr, fun x y => x >>> (y.toNat % 32)),
    (.sar, fun x y => x.sshiftRight (y.toNat % 32)), (.slt, fun x y => if x.toInt < y.toInt then 1 else 0),
    (.sltu, fun x y => if x.toNat < y.toNat then 1 else 0), (.min, fun x y => if x.toInt ≤ y.toInt then x else y),
    (.max, fun x y => if y.toInt ≤ x.toInt then x else y), (.minu, fun x y => if x.toNat ≤ y.toNat then x else y),
    (.maxu, fun x y => if y.toNat ≤ x.toNat then x else y), (.mul, fun x y => x * y),
    (.mulh, fun x y => BitVec.ofInt 32 (x.toInt * y.toInt / 2 ^ 32)),
    (.mulhu, fun x y => BitVec.ofNat 32 (x.toNat * y.toNat / 2 ^ 32)),
    (.div, fun x y => if y = 0 then 0xFFFFFFFF else BitVec.ofInt 32 (x.toInt.tdiv y.toInt)),
    (.divu, fun x y => if y = 0 then 0xFFFFFFFF else BitVec.ofNat 32 (x.toNat / y.toNat)),
    (.rem, fun x y => if y = 0 then x else BitVec.ofInt 32 (x.toInt.tmod y.toInt)),
    (.remu, fun x y => if y = 0 then x else BitVec.ofNat 32 (x.toNat % y.toNat))]

/-- Class 0x1 operations on gA and imm13, but addi, subi and the shifts. -/
def immOps : List ((Fetch → Bool → Reg → Reg → BitVec 13 → Instr) × (Word → BitVec 13 → Word)) :=
  [(.andi, fun x i => x &&& i.zeroExtend 32), (.ori, fun x i => x ||| i.zeroExtend 32),
    (.xori, fun x i => x ^^^ i.zeroExtend 32), (.slti, fun x i => if x.toInt < i.toInt then 1 else 0),
    (.sltiu, fun x i => if x.toNat < (i.signExtend 32).toNat then 1 else 0)]

/-- The immediate shifts, for a distance in imm[4:0] with imm[12:5] = 0. -/
def shiftOps : List ((Fetch → Bool → Reg → Reg → BitVec 13 → Instr) × (Word → BitVec 13 → Word)) :=
  [(.shli, fun x i => x <<< i.toNat), (.shri, fun x i => x >>> i.toNat), (.sari, fun x i => x.sshiftRight i.toNat)]

end Sys2Proof.Machine
end

