-- ==== Sys2Proof/Certificates/Slice0/Obligations.lean ====
section
/-! DEFINITION. The statements about the module, one definition each. -/

open Sys2Proof Sys2Proof.Machine Sys2Proof.Reg

/-- With a command c at the front of the queue, step is exec of c on the state with the rest of the queue; with an
empty queue it answers the same state (the model's choice, log entry 8). -/
def Obligations.StepRunsFrontCommand : Prop :=
  (∀ (c : Instr) (q : List Instr) (s : State), step (s.withPending (c :: q)) = exec c (s.withPending q)) ∧
    ∀ s : State, s.pending = [] → step s = .next s

/-- Each class 0x0 operation but jalr whose fetch raises no exception completes: gD holds the result of Table GCS-5
or GCS-6 on gA and gB (with g0 nothing), every other general register is unchanged, the pc advances by 4, no
control register but STATUS (with S = 1) and ECCCNT (a corrected fetch) changes, and nothing else of the module
changes. -/
def Obligations.RegisterArithmeticResults : Prop :=
  ∀ row ∈ (.add, fun x y => x + y) :: (.sub, fun x y => x - y) :: regOps,
    ∀ (f : Fetch) (fl : Bool) (d a b : Reg) (s : State), s.fetches f = true →
      ∃ t, exec (row.1 f fl d a b) s = .next t ∧
        (∀ r, t.g f.core r = if r = d ∧ r ≠ 0 then row.2 (s.g f.core a) (s.g f.core b) else s.g f.core r) ∧
        t.pc f.core = s.pc f.core + 4 ∧ s.sameBut t f.core ∧
        s.sameCr t f.core ((if fl then [Cr.status] else []) ++ (if f.ecc = .corrected then [Cr.ecccnt] else []))

/-- Each class 0x1 operation whose fetch raises no exception completes as Table GCS-5 states: addi, subi, slti and
sltiu sign-extend the immediate, andi, ori and xori zero-extend it, the shifts take imm[4:0], and with imm[12:5]
not 0 they are an undefined encoding and enter the illegal-instruction handler with subcode 0x00; high writes imm19
shifted left by 13. The frame is that of the class 0x0 operations. -/
def Obligations.ImmediateArithmeticResults : Prop :=
  let completes (i : Instr) (f : Fetch) (fl : Bool) (d : Reg) (v : Word) (s : State) : Prop :=
    ∃ t, exec i s = .next t ∧ (∀ r, t.g f.core r = if r = d ∧ r ≠ 0 then v else s.g f.core r) ∧
      t.pc f.core = s.pc f.core + 4 ∧ s.sameBut t f.core ∧
      s.sameCr t f.core ((if fl then [Cr.status] else []) ++ (if f.ecc = .corrected then [Cr.ecccnt] else []))
  (∀ row ∈ (.addi, fun x i => x + i.signExtend 32) :: (.subi, fun x i => x - i.signExtend 32) :: immOps,
    ∀ (f : Fetch) (fl : Bool) (d a : Reg) (imm : BitVec 13) (s : State), s.fetches f = true →
      completes (row.1 f fl d a imm) f fl d (row.2 (s.g f.core a) imm) s) ∧
  (∀ row ∈ shiftOps, ∀ (f : Fetch) (fl : Bool) (d a : Reg) (imm : BitVec 13) (s : State), s.fetches f = true →
    (imm.toNat < 32 → completes (row.1 f fl d a imm) f fl d (row.2 (s.g f.core a) imm) s) ∧
    (32 ≤ imm.toNat → s.statusBit f.core 10 = false →
      ∃ t eval, exec (row.1 f fl d a imm) s = .next t ∧ (s.fetched f).entered t f.core 1 0 (s.pc f.core) eval)) ∧
  ∀ (f : Fetch) (d : Reg) (imm : BitVec 19) (s : State), s.fetches f = true →
    completes (.high f d imm) f false d (BitVec.ofNat 32 (imm.toNat * 2 ^ 13)) s

/-- With S = 1, add, sub, addi and subi set Z, N, C and V from the 32-bit operation (C a carry, or no borrow; V
where the signed result does not fit); every other class 0x0 or 0x1 operation sets Z and N from its result, clears
V and leaves C; the other STATUS bits stay. jalr with S = 1 takes the illegal-instruction exception with subcode
0x00. With S = 0 the flags are unchanged, jalr included. -/
def Obligations.FlagsOfIntegerOperations : Prop :=
  let zn (s t : State) (c : Core) (r : Word) : Prop :=
    t.statusBit c 0 = decide (r = 0) ∧ t.statusBit c 1 = decide (r.toInt < 0) ∧
      ∀ b, 4 ≤ b → t.statusBit c b = s.statusBit c b
  let sums (i : Fetch → Bool → Reg → Reg → Instr) (plus : Bool) (y : State → Fetch → Word) : Prop :=
    ∀ (f : Fetch) (d a : Reg) (s : State), s.fetches f = true →
      let x := s.g f.core a
      let y := y s f
      let r := if plus then x + y else x - y
      let exact : Int := if plus then x.toInt + y.toInt else x.toInt - y.toInt
      (∃ t, exec (i f true d a) s = .next t ∧ zn s t f.core r ∧
        t.statusBit f.core 2 = (if plus then decide (2 ^ 32 ≤ x.toNat + y.toNat) else decide (y.toNat ≤ x.toNat)) ∧
        t.statusBit f.core 3 = decide (r.toInt ≠ exact)) ∧
      ∃ t, exec (i f false d a) s = .next t ∧ t.cr f.core Cr.status = s.cr f.core Cr.status
  let plain (i : Bool → Instr) (f : Fetch) (r : Word) (s : State) : Prop :=
    (∃ t, exec (i true) s = .next t ∧ zn s t f.core r ∧
      t.statusBit f.core 2 = s.statusBit f.core 2 ∧ t.statusBit f.core 3 = false) ∧
    ∃ t, exec (i false) s = .next t ∧ t.cr f.core Cr.status = s.cr f.core Cr.status
  (∀ b : Reg, sums (fun f fl d a => .add f fl d a b) true fun s f => s.g f.core b) ∧
  (∀ b : Reg, sums (fun f fl d a => .sub f fl d a b) false fun s f => s.g f.core b) ∧
  (∀ imm : BitVec 13, sums (fun f fl d a => .addi f fl d a imm) true fun _ _ => imm.signExtend 32) ∧
  (∀ imm : BitVec 13, sums (fun f fl d a => .subi f fl d a imm) false fun _ _ => imm.signExtend 32) ∧
  (∀ row ∈ regOps, ∀ (f : Fetch) (d a b : Reg) (s : State), s.fetches f = true →
    plain (fun fl => row.1 f fl d a b) f (row.2 (s.g f.core a) (s.g f.core b)) s) ∧
  (∀ row ∈ immOps, ∀ (f : Fetch) (d a : Reg) (imm : BitVec 13) (s : State), s.fetches f = true →
    plain (fun fl => row.1 f fl d a imm) f (row.2 (s.g f.core a) imm) s) ∧
  (∀ row ∈ shiftOps, ∀ (f : Fetch) (d a : Reg) (imm : BitVec 13) (s : State), s.fetches f = true → imm.toNat < 32 →
    plain (fun fl => row.1 f fl d a imm) f (row.2 (s.g f.core a) imm) s) ∧
  (∀ (f : Fetch) (d a b : Reg) (s : State), s.fetches f = true → s.statusBit f.core 10 = false →
    ∃ t, exec (.jalr f true d a b) s = .next t ∧
      (s.fetched f).entered t f.core 1 0 (s.pc f.core) (wordR 0 d a b true 0 0x20)) ∧
  ∀ (f : Fetch) (d a b : Reg) (s : State), s.fetches f = true → (s.g f.core a).toNat % 4 = 0 →
    ∃ t, exec (.jalr f false d a b) s = .next t ∧ t.cr f.core Cr.status = s.cr f.core Cr.status

/-- A load whose fetch and data access raise no exception, on memory that is neither peripheral nor the mirror
window and without an uncorrectable error, completes: gD holds the 1, 2 or 4 bytes at gA + imm13, little-endian,
sign-extended for lb and lh; with g0 nothing is written. Every other register stays, the pc advances, no byte of
memory changes, ECCCNT alone of the control registers may count corrected errors. lw of a peripheral register
without a read effect gives the word that the register reads; the mirror window reads 0 outside tandem mode. An
uncorrectable error enters the ECC handler with subcode 0x01. -/
def Obligations.LoadsReadMemory : Prop :=
  let rows : List ((Fetch → Reg → Reg → BitVec 13 → Ecc → Instr) × Nat × (Nat → Word)) :=
    [(.lb, 1, fun v => (BitVec.ofNat 8 v).signExtend 32), (.lbu, 1, BitVec.ofNat 32),
      (.lh, 2, fun v => (BitVec.ofNat 16 v).signExtend 32), (.lhu, 2, BitVec.ofNat 32), (.lw, 4, BitVec.ofNat 32)]
  let gives (i : Instr) (f : Fetch) (d : Reg) (v : Word) (ecc : Ecc) (s : State) : Prop :=
    ∃ t, exec i s = .next t ∧ (∀ r, t.g f.core r = if r = d ∧ r ≠ 0 then v else s.g f.core r) ∧
      t.pc f.core = s.pc f.core + 4 ∧ s.sameBut t f.core ∧ (∀ a, t.byte a = s.byte a) ∧
      s.sameCr t f.core (if f.ecc = .corrected ∨ ecc = .corrected then [Cr.ecccnt] else [])
  ∀ row ∈ rows, ∀ (f : Fetch) (d a : Reg) (imm : BitVec 13) (ecc : Ecc) (s : State), s.fetches f = true →
    let x := s.g f.core a + imm.signExtend 32
    (s.fetched f).serves f.core .load Perm.r row.2.1 x = true →
    (region x.toNat ≠ .periph → region x.toNat ≠ .mirror →
      (ecc ≠ .uncorrectable → gives (row.1 f d a imm ecc) f d (row.2.2 (s.load row.2.1 x.toNat)) ecc s) ∧
      (ecc = .uncorrectable → s.statusBit f.core 10 = false →
        ∃ t, exec (row.1 f d a imm ecc) s = .next t ∧ (s.fetched f).entered t f.core 3 1 (s.pc f.core) x)) ∧
    (region x.toNat = .periph → s.tandem = false → (s.fetched f).loadAct x.toNat = none →
      gives (row.1 f d a imm ecc) f d (row.2.2 ((s.fetched f).readReg x.toNat)) .ok s) ∧
    (region x.toNat = .mirror → s.tandem = false → gives (row.1 f d a imm ecc) f d (row.2.2 0) .ok s)

/-- A store whose fetch and data access raise no exception completes. On memory, the 1, 2 or 4 bytes at gA + imm13
hold the low bytes of gD, little-endian, every other byte is unchanged, and nothing else changes but the pc (and
ECCCNT for a corrected fetch). On a peripheral register that App may store to, the word reaches the register as
State.regStore says, after the pc has advanced; at App privilege a register that holds an RWF field is refused as a
whole with subcode 0x04. -/
def Obligations.StoresWriteMemory : Prop :=
  ∀ row ∈ ([(.sb, 1), (.sh, 2), (.sw, 4)] : List ((Fetch → Reg → Reg → BitVec 13 → Instr) × Nat)),
    ∀ (f : Fetch) (d a : Reg) (imm : BitVec 13) (s : State), s.fetches f = true →
      let x := s.g f.core a + imm.signExtend 32
      (s.fetched f).serves f.core .store Perm.w row.2 x = true →
      (region x.toNat ≠ .periph →
        ∃ t, exec (row.1 f d a imm) s = .next t ∧
          (∀ k < row.2, t.byte (x.toNat + k) = BitVec.ofNat 8 ((s.g f.core d).toNat / 256 ^ k)) ∧
          (∀ b, b < x.toNat ∨ x.toNat + row.2 ≤ b → t.byte b = s.byte b) ∧
          t = { (s.fetched f).advance f.core with mem := t.mem }) ∧
      (region x.toNat = .periph →
        ((s.fetched f).rwfBad f.core x.toNat = false →
          exec (row.1 f d a imm) s = .next ((((s.fetched f).advance f.core).noteWrite f.core x.toNat).regStore
            f.core x.toNat (s.g f.core d).toNat (decide (f.core = .grm)))) ∧
        (s.isApp f.core = true → holdsRwf x.toNat = true → s.statusBit f.core 10 = false →
          ∃ t, exec (row.1 f d a imm) s = .next t ∧ (s.fetched f).entered t f.core 2 4 (s.pc f.core) x))

/-- A halfword access that is not 2-byte aligned or a word access that is not 4-byte aligned, inside the App
windows, changes no memory and enters the window-violation handler: with subcode 0x01 outside the peripheral
region; in the peripheral region it is refused, with SYS_ERRADDR the address and SYS_ERRSRC.KIND 4, and subcode
0x03. EPC is the instruction and EVAL the address. -/
def Obligations.MisalignedAccessesFault : Prop :=
  let wrong (i : Instr) (k : Access) (perm n : Nat) (f : Fetch) (x : Word) (s : State) : Prop :=
    s.fetches f = true → s.statusBit f.core 10 = false → (s.fetched f).winBad f.core perm n x.toNat = false → x.toNat % n ≠ 0 →
    ∃ t, exec i s = .next t ∧ (∀ a, t.byte a = s.byte a) ∧
      (region x.toNat ≠ .periph → (s.fetched f).entered t f.core 2 1 (s.pc f.core) x) ∧
      (region x.toNat = .periph →
        ((s.fetched f).recordRefusal (coreMaster f.core) k 4 x.toNat).entered t f.core 2 3 (s.pc f.core) x ∧
        t.get SYS_ERRADDR.ADDR = x.toNat ∧ t.get SYS_ERRSRC.KIND = 4)
  (∀ row ∈ ([(.lh, 2), (.lhu, 2), (.lw, 4)] : List ((Fetch → Reg → Reg → BitVec 13 → Ecc → Instr) × Nat)),
    ∀ (f : Fetch) (d a : Reg) (imm : BitVec 13) (ecc : Ecc) (s : State),
      wrong (row.1 f d a imm ecc) .load Perm.r row.2 f (s.g f.core a + imm.signExtend 32) s) ∧
  ∀ row ∈ ([(.sh, 2), (.sw, 4)] : List ((Fetch → Reg → Reg → BitVec 13 → Instr) × Nat)),
    ∀ (f : Fetch) (d a : Reg) (imm : BitVec 13) (s : State),
      wrong (row.1 f d a imm) .store Perm.w row.2 f (s.g f.core a + imm.signExtend 32) s

/-- At Firm privilege windows are not checked. At App privilege an access of 1 to 16 bytes is outside the windows
exactly when some byte lies in no window k with EN = 1, BASE ≤ a[31:8] ≤ LIMIT and the permission bits; a load (R),
a store (W) or an atomic (R and W) outside them enters the window-violation handler with subcode 0x00, EVAL its
address, and changes no memory; a fetch outside them (X) does so with EVAL the pc. -/
def Obligations.AppWindowsGuardAccesses : Prop :=
  let open_ (s : State) (c : Core) (perm a : Nat) : Prop :=
    ∃ k < 8, (s.cr c (0x20 + 2 * k)).getLsbD 3 = true ∧ (s.cr c (0x20 + 2 * k)).toNat / 256 ≤ a / 256 ∧
      a / 256 ≤ (s.cr c (0x21 + 2 * k)).toNat / 256 ∧
      ∀ b < 3, perm.testBit b = true → (s.cr c (0x20 + 2 * k)).getLsbD b = true
  let faults (i : Instr) (f : Fetch) (perm n : Nat) (x : Word) (s : State) : Prop :=
    s.fetches f = true → s.statusBit f.core 10 = false → s.isApp f.core = true →
    (∃ k < n, ¬ open_ s f.core perm ((x.toNat + k) % 2 ^ 32)) →
    ∃ t, exec i s = .next t ∧ (s.fetched f).entered t f.core 2 0 (s.pc f.core) x ∧ ∀ a, t.byte a = s.byte a
  (∀ (s : State) (c : Core) (perm n a : Nat), s.isApp c = false → s.winBad c perm n a = false) ∧
  (∀ (s : State) (c : Core) (perm n : Nat) (a : Word), s.isApp c = true → 1 ≤ n → n ≤ 16 → perm < 8 →
    (s.winBad c perm n a.toNat = true ↔ ∃ k < n, ¬ open_ s c perm ((a.toNat + k) % 2 ^ 32))) ∧
  (∀ row ∈ ([(.lb, 1), (.lbu, 1), (.lh, 2), (.lhu, 2), (.lw, 4)] :
      List ((Fetch → Reg → Reg → BitVec 13 → Ecc → Instr) × Nat)),
    ∀ (f : Fetch) (d a : Reg) (imm : BitVec 13) (ecc : Ecc) (s : State),
      faults (row.1 f d a imm ecc) f 1 row.2 (s.g f.core a + imm.signExtend 32) s) ∧
  (∀ row ∈ ([(.sb, 1), (.sh, 2), (.sw, 4)] : List ((Fetch → Reg → Reg → BitVec 13 → Instr) × Nat)),
    ∀ (f : Fetch) (d a : Reg) (imm : BitVec 13) (s : State),
      faults (row.1 f d a imm) f 2 row.2 (s.g f.core a + imm.signExtend 32) s) ∧
  (∀ i ∈ ([.amoadd, .amoswap, .amocas, .amoand, .amoor] : List (Fetch → Reg → Reg → Reg → Ecc → Instr)),
    ∀ (f : Fetch) (d a b : Reg) (ecc : Ecc) (s : State), faults (i f d a b ecc) f 3 4 (s.g f.core a) s) ∧
  ∀ (f : Fetch) (imm : BitVec 13) (s : State), (s.core f.core).run = .run → s.statusBit f.core 10 = false →
    s.isApp f.core = true → (∃ k < 4, ¬ open_ s f.core 4 (((s.pc f.core).toNat + k) % 2 ^ 32)) →
    ∃ t, exec (.trap f imm) s = .next t ∧ s.entered t f.core 2 0 (s.pc f.core) (s.pc f.core)

/-- Each conditional branch whose fetch raises no exception goes to its own address + 4 × the sign-extended 18-bit
offset where the condition of Table GCS-7 holds on the flags or gA, else to the next instruction; a flag condition
with srcA not g0 is an undefined encoding. jal writes its own address + 4 to g31 and goes to its own address + 4 ×
the sign-extended 28-bit offset. jalr reads srcA before it writes dst; with srcA[1:0] not 0 it enters the window-
violation handler with subcode 0x01 and writes nothing. Nothing else changes. -/
def Obligations.BranchesAndJumps : Prop :=
  let moves (i : Instr) (f : Fetch) (pc : Word) (link : Option Reg) (s : State) : Prop :=
    ∃ t, exec i s = .next t ∧ t.pc f.core = pc ∧ s.sameBut t f.core ∧
      (∀ r, t.g f.core r = if some r = link ∧ r ≠ 0 then s.pc f.core + 4 else s.g f.core r) ∧
      s.sameCr t f.core (if f.ecc = .corrected then [Cr.ecccnt] else [])
  (∀ row ∈ ([(.beq, fun z _ _ _ => z), (.bne, fun z _ _ _ => !z), (.bhs, fun _ _ c _ => c), (.blo, fun _ _ c _ => !c),
      (.bmi, fun _ n _ _ => n), (.bpl, fun _ n _ _ => !n), (.bvs, fun _ _ _ v => v), (.bvc, fun _ _ _ v => !v),
      (.bhi, fun z _ c _ => c && !z), (.bls, fun z _ c _ => !c || z), (.bge, fun _ n _ v => n == v),
      (.blt, fun _ n _ v => n != v), (.bgt, fun z n _ v => !z && n == v), (.ble, fun z n _ v => z || n != v),
      (.j, fun _ _ _ _ => true)] :
      List ((Fetch → Reg → BitVec 18 → Instr) × (Bool → Bool → Bool → Bool → Bool))),
    ∀ (f : Fetch) (a : Reg) (off : BitVec 18) (s : State), s.fetches f = true →
      (a = 0 → moves (row.1 f a off) f
        (if row.2 (s.statusBit f.core 0) (s.statusBit f.core 1) (s.statusBit f.core 2) (s.statusBit f.core 3)
          then s.pc f.core + 4 * off.signExtend 32 else s.pc f.core + 4) none s) ∧
      (a ≠ 0 → s.statusBit f.core 10 = false →
        ∃ t eval, exec (row.1 f a off) s = .next t ∧ (s.fetched f).entered t f.core 1 0 (s.pc f.core) eval)) ∧
  (∀ row ∈ ([(.bz, fun x => decide (x = 0)), (.bnz, fun x => decide (x ≠ 0)), (.bltz, fun x => decide (x < 0)),
      (.bgez, fun x => decide (0 ≤ x)), (.bgtz, fun x => decide (0 < x)), (.blez, fun x => decide (x ≤ 0))] :
      List ((Fetch → Reg → BitVec 18 → Instr) × (Int → Bool))),
    ∀ (f : Fetch) (a : Reg) (off : BitVec 18) (s : State), s.fetches f = true →
      moves (row.1 f a off) f
        (if row.2 (s.g f.core a).toInt then s.pc f.core + 4 * off.signExtend 32 else s.pc f.core + 4) none s) ∧
  (∀ (f : Fetch) (off : BitVec 28) (s : State), s.fetches f = true →
    moves (.jal f off) f (s.pc f.core + 4 * off.signExtend 32) (some 31) s) ∧
  ∀ (f : Fetch) (d a b : Reg) (s : State), s.fetches f = true →
    ((s.g f.core a).toNat % 4 = 0 → moves (.jalr f false d a b) f (s.g f.core a) (some d) s) ∧
    ((s.g f.core a).toNat % 4 ≠ 0 → s.statusBit f.core 10 = false →
      ∃ t, exec (.jalr f false d a b) s = .next t ∧
        (s.fetched f).entered t f.core 2 1 (s.pc f.core) (s.g f.core a))

/-- On a Rider, each FP32 operation whose fetch raises no exception and whose encoding is defined: where no
signalled condition has its trap enable set in FPCTL, the sticky flags take the signalled conditions, gD (with g0
nothing) takes the operation's result on the old gD, gA and gB, and the pc advances; fcmp sets Z, N, V and clears C
in place of gD. Where one is enabled, the core enters the FP handler with EVAL the trapped conditions, gD and FPCTL
unchanged. The results are those of the model's binary32 arithmetic (fpAdd and the others). -/
def Obligations.FloatResultsFlagsAndTraps : Prop :=
  let rows : List ((Fetch → Bool → Reg → Reg → Reg → Instr) × (Nat → Nat → Nat → FpRes)) :=
    [(.fadd, fun _ x y => fpAdd x y), (.fsub, fun _ x y => fpSub x y), (.fmul, fun _ x y => fpMul x y),
      (.fdiv, fun _ x y => fpDiv x y), (.fma, fpFma), (.fms, fpFms), (.fmin, fun _ x y => fpMin x y),
      (.fmax, fun _ x y => fpMax x y), (.fabs, fun _ x _ => fpAbs x), (.fneg, fun _ x _ => .exact (fpNegate x)),
      (.fcvtsw, fun _ x _ => fpOfInt x), (.fcvtws, fun _ x _ => fpToInt false x),
      (.fcvtwsr, fun _ x _ => fpToInt true x)]
  let masked (i : Instr) (f : Fetch) (conds : Nat) (s : State) (P : State → Prop) : Prop :=
    conds &&& ((s.cr f.core Cr.fpctl).toNat / 256) = 0 →
    ∃ t, exec i s = .next t ∧ t.cr f.core Cr.fpctl = BitVec.ofNat 32 ((s.cr f.core Cr.fpctl).toNat ||| conds) ∧
      t.pc f.core = s.pc f.core + 4 ∧ s.sameBut t f.core ∧ P t
  let trapped (i : Instr) (f : Fetch) (conds : Nat) (s : State) : Prop :=
    conds &&& ((s.cr f.core Cr.fpctl).toNat / 256) ≠ 0 → s.statusBit f.core 10 = false →
    ∃ t, exec i s = .next t ∧ (s.fetched f).entered t f.core 5 0 (s.pc f.core)
      (BitVec.ofNat 32 (conds &&& ((s.cr f.core Cr.fpctl).toNat / 256)))
  let does (i : Instr) (f : Fetch) (d : Reg) (r : FpRes) (s : State) : Prop :=
    masked i f r.conds s (fun t =>
      (∀ q, t.g f.core q = if q = d ∧ q ≠ 0 then BitVec.ofNat 32 r.val else s.g f.core q) ∧
      s.sameCr t f.core ([Cr.fpctl] ++ if f.ecc = .corrected then [Cr.ecccnt] else [])) ∧
    trapped i f r.conds s
  (∀ row ∈ rows, ∀ (f : Fetch) (d a b : Reg) (s : State), s.fetches f = true → f.core ≠ .grm →
    does (row.1 f false d a b) f d
      (row.2 (s.g f.core d).toNat (s.g f.core a).toNat (s.g f.core b).toNat) s) ∧
  (∀ (f : Fetch) (d a : Reg) (s : State), s.fetches f = true → f.core ≠ .grm →
    does (.fsqrt f false d a 0) f d (fpSqrt (s.g f.core a).toNat) s) ∧
  ∀ (f : Fetch) (d a b : Reg) (s : State), s.fetches f = true → f.core ≠ .grm →
    let x := (s.g f.core a).toNat
    let y := (s.g f.core b).toNat
    let conds := if isSNaN x || isSNaN y || (decide (fpOrder x y = .unordered) && Config.fpChoice 2) then 16 else 0
    masked (.fcmp f true d a b) f conds s (fun t =>
      t.statusBit f.core 0 = decide (fpOrder x y = .equal) ∧ t.statusBit f.core 1 = decide (fpOrder x y = .less) ∧
      t.statusBit f.core 2 = false ∧ t.statusBit f.core 3 = decide (fpOrder x y = .unordered) ∧
      (∀ b, 4 ≤ b → t.statusBit f.core b = s.statusBit f.core b) ∧ ∀ q, t.g f.core q = s.g f.core q) ∧
    trapped (.fcmp f true d a b) f conds s

/-- On a Rider with no FP trap enabled: a NaN operand of fadd, fsub, fmul, fdiv or fsqrt gives 0x7FC0_0000; fcvtws
and fcvtwsr give 0x7FFF_FFFF for numbers of 2^31 or more and +infinity, 0x8000_0000 for numbers below −2^31 and
−infinity, 0 for NaN, and set the invalid flag in all three cases; fabs and fneg change only bit 31 and leave
FPCTL. -/
def Obligations.FloatSpecialValues : Prop :=
  let nan (x : Word) : Prop := 0x7F800000 < x.toNat % 2 ^ 31
  let ready (f : Fetch) (d : Reg) (s : State) : Prop :=
    s.fetches f = true ∧ f.core ≠ .grm ∧ d ≠ 0 ∧ (s.cr f.core Cr.fpctl).toNat < 256
  (∀ i ∈ ([.fadd, .fsub, .fmul, .fdiv] : List (Fetch → Bool → Reg → Reg → Reg → Instr)),
    ∀ (f : Fetch) (d a b : Reg) (s : State), ready f d s → nan (s.g f.core a) ∨ nan (s.g f.core b) →
      ∃ t, exec (i f false d a b) s = .next t ∧ t.g f.core d = 0x7FC00000) ∧
  (∀ (f : Fetch) (d a : Reg) (s : State), ready f d s → nan (s.g f.core a) →
      ∃ t, exec (.fsqrt f false d a 0) s = .next t ∧ t.g f.core d = 0x7FC00000) ∧
  (∀ i ∈ ([.fcvtws, .fcvtwsr] : List (Fetch → Bool → Reg → Reg → Reg → Instr)),
    ∀ (f : Fetch) (d a b : Reg) (s : State), ready f d s →
      let x := (s.g f.core a).toNat
      let gives (v : Word) : Prop :=
        ∃ t, exec (i f false d a b) s = .next t ∧ t.g f.core d = v ∧ (t.cr f.core Cr.fpctl).getLsbD 4 = true
      (nan (s.g f.core a) → gives 0) ∧ (0x4F000000 ≤ x → x ≤ 0x7F800000 → gives 0x7FFFFFFF) ∧
        (0xCF000001 ≤ x → x ≤ 0xFF800000 → gives 0x80000000)) ∧
  ∀ (f : Fetch) (d a b : Reg) (s : State), ready f d s →
    (∃ t, exec (.fabs f false d a b) s = .next t ∧ t.g f.core d = s.g f.core a &&& 0x7FFFFFFF ∧
      t.cr f.core Cr.fpctl = s.cr f.core Cr.fpctl) ∧
    ∃ t, exec (.fneg f false d a b) s = .next t ∧ t.g f.core d = s.g f.core a ^^^ 0x80000000 ∧
      t.cr f.core Cr.fpctl = s.cr f.core Cr.fpctl

/-- At Firm privilege, or at App for the registers that R84 leaves to it: mfcr of a listed control register
completes, gD (with g0 nothing) holding the register as kept, TAGFREE the number of FREE tags, CORE the core's
number, CRSTAT with GATE 1 on a Rider in tandem mode, CYCLE what it held plus a free value (log entry 3); mtcr
changes exactly the writable bits of Table GCS-10 of its register, RO registers not at all, ECCCNT to 0 by bit 31,
CRSTAT by ones, and no other control register, STATUS.PRIV staying (a choice of the model that R82 leads to). mfcr
and mtcr of an unlisted number enter the illegal-instruction handler with subcode 0x00. -/
def Obligations.ControlRegisterMoves : Prop :=
  let listed (n : Nat) : Prop := n ≤ 6 ∨ n = 8 ∨ (0x10 ≤ n ∧ n ≤ 0x14) ∨ (0x18 ≤ n ∧ n ≤ 0x1A) ∨ (0x20 ≤ n ∧ n ≤ 0x2F)
  let reads (f : Fetch) (d : Reg) (n : BitVec 13) (v : Word) (s : State) : Prop :=
    ∃ t, exec (.mfcr f d n) s = .next t ∧ t.pc f.core = s.pc f.core + 4 ∧ s.sameBut { t with free := s.free } f.core ∧
      (∀ r, r ≠ d ∨ r = 0 → t.g f.core r = s.g f.core r) ∧ (n.toNat ≠ 0x19 → d ≠ 0 → t.g f.core d = v)
  (∀ (f : Fetch) (d : Reg) (n : BitVec 13) (s : State), s.fetches f = true →
    s.isApp f.core = false ∨ n.toNat ∈ [8, 0x14, 0x18, 0x19, 0x1A] → listed n.toNat →
    reads f d n (if n.toNat = 0x14 then BitVec.ofNat 32 (s.tagFree f.core)
      else if n.toNat = 0x18 then BitVec.ofNat 32 (coreCode f.core)
      else if n.toNat = 0x13 then
        s.cr f.core 0x13 ||| (if s.tandem = true ∧ f.core ≠ .grm then 4 else 0)
      else (s.fetched f).cr f.core n.toNat) s) ∧
  (∀ (f : Fetch) (a : Reg) (n : BitVec 13) (s : State), s.fetches f = true →
    s.isApp f.core = false ∨ n.toNat = 8 → listed n.toNat →
    let v := s.g f.core a
    let old := (s.fetched f).cr f.core n.toNat
    let mask : Word := if n.toNat = 0 then 0x60F else if n.toNat = 2 then 0x70F else if n.toNat = 3 then 0xFFFF
      else if n.toNat = 1 ∨ n.toNat = 4 then 0xFFFFFFFF else if n.toNat = 5 then 0xFFFFFF00
      else if n.toNat = 8 then 0x1F1F
      else if n.toNat = 0x10 then (if f.core = .grm then 0xFFFFFF00 else 0xFFFFF800)
      else if n.toNat = 0x12 then (if f.core = .grm then 0x3F else 0x1FF)
      else if 0x20 ≤ n.toNat then (if n.toNat % 2 = 0 then 0xFFFFFF0F else 0xFFFFFF00) else 0
    ∃ t, exec (.mtcr f 0 a n) s = .next t ∧ t.pc f.core = s.pc f.core + 4 ∧ s.sameBut t f.core ∧
      (∀ r, t.g f.core r = s.g f.core r) ∧ (s.fetched f).sameCr t f.core [n.toNat] ∧
      t.cr f.core n.toNat = if n.toNat = 6 then (if v.msb then 0 else old)
        else if n.toNat = 0x13 then old &&& ~~~(v &&& 0xB) else (old &&& ~~~mask) ||| (v &&& mask)) ∧
  ∀ (f : Fetch) (d a : Reg) (n : BitVec 13) (s : State), s.fetches f = true → s.statusBit f.core 10 = false →
    ¬ listed n.toNat →
    (∃ t, exec (.mfcr f d n) s = .next t ∧ (s.fetched f).entered t f.core 1 0 (s.pc f.core) (wordI 7 d 0 0 n)) ∧
    ∃ t, exec (.mtcr f 0 a n) s = .next t ∧ (s.fetched f).entered t f.core 1 0 (s.pc f.core) (wordI 7 0 a 1 n)

/-- At App privilege, outside a handler, these enter the illegal-instruction handler with subcode 0x01, EPC the
instruction and EVAL its word, and do nothing else: mtcr to a listed register but FPCTL, mfcr of a listed register
but FPCTL, TAGFREE, CORE, CYCLE and TICK, wfe, eret, lock, unlock, chx, nvc (on a Rider) and txf. -/
def Obligations.AppPrivilegeTraps : Prop :=
  ∀ (f : Fetch) (s : State), s.fetches f = true → s.statusBit f.core 10 = false → s.isApp f.core = true →
    let traps (i : Instr) (w : Word) : Prop :=
      ∃ t, exec i s = .next t ∧ (s.fetched f).entered t f.core 1 1 (s.pc f.core) w
    (∀ (d a : Reg) (n : BitVec 13), crListed n.toNat = true →
      (n.toNat ≠ 8 → traps (.mtcr f 0 a n) (wordI 7 0 a 1 n)) ∧
      (n.toNat ∉ [8, 0x14, 0x18, 0x19, 0x1A] → traps (.mfcr f d n) (wordI 7 d 0 0 n))) ∧
    (∀ imm : BitVec 13, traps (.wfe f imm) (wordI 7 0 0 2 imm)) ∧ traps (.eret f) (wordI 7 0 0 5 0) ∧
    (∀ (d : Reg) (n : BitVec 5), traps (.lock f d n) (wordR 0xB d 0 0 false n.toNat 0)) ∧
    (∀ n : BitVec 5, traps (.unlock f 0 0 0 n) (wordR 0xB 0 0 0 false n.toNat 1)) ∧
    ∀ (d a b : Reg) (ecc : Ecc),
      traps (.chx f d a b ecc) (wordA 8 d a b 0) ∧ traps (.txf f d a b ecc) (wordA 8 d a b 4) ∧
        (f.core ≠ .grm → traps (.nvc f d a b ecc) (wordA 8 d a b 2))

/-- Outside a handler: an FP32 operation, job, nvc or dma on the Groom enters the illegal-instruction handler with
subcode 0x02; on a Rider, S = 1 on an FP32 operation but fcmp, fcmp with S = 0, fsqrt with srcB not g0, mtcr with
dst not g0 and unlock with an operand not g0 enter it with subcode 0x00. A fetched word of class 0xC to 0xF enters
it with subcode 0x02, one of class 0 with an op code above 0x20 with subcode 0x00, whatever the instruction command
is that carries it, EVAL the word. EPC is the instruction. -/
def Obligations.IllegalEncodingsTrap : Prop :=
  (∀ (f : Fetch) (s : State), s.fetches f = true → s.statusBit f.core 10 = false →
    let traps (i : Instr) (sub : Nat) : Prop :=
      ∃ t eval, exec i s = .next t ∧ (s.fetched f).entered t f.core 1 sub (s.pc f.core) eval
    let fps : List (Fetch → Bool → Reg → Reg → Reg → Instr) :=
      [.fadd, .fsub, .fmul, .fdiv, .fsqrt, .fma, .fms, .fmin, .fmax, .fabs, .fneg, .fcvtsw, .fcvtws, .fcvtwsr]
    (∀ (d a b : Reg), (∀ i ∈ fps ++ [.fcmp], ∀ fl, f.core = .grm → traps (i f fl d a b) 2) ∧
      (∀ ecc, f.core = .grm → traps (.job f d a b ecc) 2 ∧ traps (.nvc f d a b ecc) 2 ∧ traps (.dma f d a b ecc) 2) ∧
      (∀ i ∈ fps, f.core ≠ .grm → traps (i f true d a b) 0) ∧ (f.core ≠ .grm → traps (.fcmp f false d a b) 0) ∧
      (∀ fl, f.core ≠ .grm → b ≠ 0 → traps (.fsqrt f fl d a b) 0) ∧
      (∀ n, d ≠ 0 → traps (.mtcr f d a n) 0) ∧
      ∀ n, d ≠ 0 ∨ a ≠ 0 ∨ b ≠ 0 → traps (.unlock f d a b n) 0)) ∧
  ∀ (f : Fetch) (w : Word) (imm : BitVec 13) (s : State), f.raw = some w → s.fetches { f with raw := none } = true →
    s.statusBit f.core 10 = false → ∀ i ∈ ([.trap f imm, .wfe f imm, .eret f, .fenceFull f] : List Instr),
      let traps (sub : Nat) : Prop :=
        ∃ t, exec i s = .next t ∧ (s.fetched f).entered t f.core 1 sub (s.pc f.core) w
      (12 ≤ w.toNat / 2 ^ 28 → traps 2) ∧ (w.toNat / 2 ^ 28 = 0 → 0x20 < w.toNat % 64 → traps 0)

/-- trap outside a handler enters the handler of cause 0x06 as one action: EPC the instruction after it, ECAUSE,
EVAL = imm13, STATUS copied to ESTATUS, PRIV = 1, IE = 0, EXC = 1, the pc at VBASE + 0x20 × cause; no general
register, no memory and nothing else of the module changes. eret at Firm privilege restores PC from EPC (its bits
[1:0] as 0) and STATUS from ESTATUS in one step, and writes nothing else. -/
def Obligations.TrapEntersHandler : Prop :=
  (∀ (f : Fetch) (imm : BitVec 13) (s : State), s.fetches f = true → s.statusBit f.core 10 = false →
    ∃ t, exec (.trap f imm) s = .next t ∧
      (s.fetched f).entered t f.core 6 0 (s.pc f.core + 4) (imm.zeroExtend 32) ∧ ∀ a, t.byte a = s.byte a) ∧
  ∀ (f : Fetch) (s : State), s.fetches f = true → s.isApp f.core = false →
    ∃ t, exec (.eret f) s = .next t ∧ t.pc f.core = s.cr f.core Cr.epc &&& 0xFFFFFFFC ∧
      t.cr f.core Cr.status = s.cr f.core Cr.estatus ∧ (s.fetched f).sameCr t f.core [Cr.status] ∧
      (∀ r, t.g f.core r = s.g f.core r) ∧ s.sameBut t f.core

/-- While EXC = 1, trap halts its core: EPC, the other exception registers, the general registers and the pc keep
their values. On a Rider the core-fault input of the curb logic asserts as for a lockstep mismatch of that Rider;
on the Groom nothing else of the module changes but the fault kept for its GROOM_FAULT record. -/
def Obligations.DoubleFaultHalts : Prop :=
  ∀ (f : Fetch) (imm : BitVec 13) (s : State), s.fetches f = true → s.statusBit f.core 10 = true →
    let h := (s.fetched f).setRun f.core .halted
    ∃ t, exec (.trap f imm) s = .next t ∧ (t.core f.core).run = .halted ∧ (∀ r, t.g f.core r = s.g f.core r) ∧
      t.pc f.core = s.pc f.core ∧ s.sameCr t f.core (if f.ecc = .corrected then [Cr.ecccnt] else []) ∧
      (f.core = .r0 → t = h.curbCause Cause.core0 .sii false) ∧
      (f.core = .r1 → t = h.curbCause Cause.core1 (if h.act PRT_INT.R1SII = 1 then .sii else .srs) false) ∧
      (f.core = .grm → t = { h with nvm := t.nvm } ∧ t.nvm.groomFault = some (6, imm.toNat))

/-- wfe at Firm privilege leaves the core waiting at the instruction, its wake conditions counted from then on;
WFE_WAKE of a waiting core with an eligible event, a ring entry written since, or (with imm13[0] = 1) a tick
boundary passed resumes it at the next instruction, and of any other core changes nothing. A fence only advances
the pc: accesses take effect in program order. -/
def Obligations.WaitsAndFencesComplete : Prop :=
  (∀ (f : Fetch) (imm : BitVec 13) (s : State), s.fetches f = true → s.isApp f.core = false →
    ∃ t, exec (.wfe f imm) s = .next t ∧ (t.core f.core).run = .wfe (imm.getLsbD 0) ∧
      (t.core f.core).wakeSeen = false ∧ t.pc f.core = s.pc f.core ∧
      t.setCore f.core (s.core f.core) = s) ∧
  (∀ (c : Core) (b : Bool) (s : State), (s.core c).run = .wfe b →
    (s.eligible c ≠ none ∨ (s.core c).wakeSeen = true →
      ∃ t, exec (.wfeWake c) s = .next t ∧ (t.core c).run = .run ∧ t.pc c = s.pc c + 4 ∧
        (∀ r, t.g c r = s.g c r) ∧ t.setCore c (s.core c) = s) ∧
    (s.eligible c = none → (s.core c).wakeSeen = false → exec (.wfeWake c) s = .next s)) ∧
  (∀ (c : Core) (s : State), (∀ b, (s.core c).run ≠ .wfe b) → exec (.wfeWake c) s = .next s) ∧
  ∀ i ∈ ([.fenceFull, .fenceStores, .fenceInstruction] : List (Fetch → Instr)),
    ∀ (f : Fetch) (s : State), s.fetches f = true →
      ∃ t, exec (i f) s = .next t ∧ t.pc f.core = s.pc f.core + 4 ∧ s.sameBut t f.core ∧
        (∀ r, t.g f.core r = s.g f.core r) ∧ s.sameCr t f.core (if f.ecc = .corrected then [Cr.ecccnt] else [])

/-- EVENT_INTERRUPT of a core at an instruction boundary, or inside waitt or lock, with IE = 1, EXC = 0 and an
eligible event enters the handler of cause 0x07 with EPC the instruction not yet executed (the waitt or lock that
waits) and EVAL 0; the wait is withdrawn. With IE = 0, EXC = 1, no eligible event, or a core that is halted, off or
in wfe, nothing changes. -/
def Obligations.EventInterruptIsTaken : Prop :=
  ∀ (c : Core) (s : State),
    let open_ : Prop := (s.core c).run = .run ∨ (∃ t d l, (s.core c).run = .waitt t d l) ∨ ∃ n d, (s.core c).run = .lockWait n d
    (open_ → s.statusBit c 9 = true → s.statusBit c 10 = false → s.eligible c ≠ none →
      ∃ t, exec (.eventInterrupt c) s = .next t ∧ s.entered t c 7 0 (s.pc c) 0) ∧
    (¬ open_ ∨ s.statusBit c 9 = false ∨ s.statusBit c 10 = true ∨ s.eligible c = none →
      exec (.eventInterrupt c) s = .next s)

/-- GROOM_FAULT_RESET of a halted Groom starts it at ENTRYG with every register at its reset value, its tag space
empty and its locks free, SYS_RSTCAUSE.GROOM set; both Riders, the gait, the curb state and every byte of Groom
memory are unchanged. LOCKSTEP_MISMATCH of a Rider that is neither off nor halted halts it, with its registers
unchanged, and asserts its core-fault input; its peer Rider and the Groom are unchanged. -/
def Obligations.CoreFaultsResetAndHalt : Prop :=
  (∀ s : State, s.grm.run = .halted →
    ∃ t, exec .groomFaultReset s = .next t ∧ t.grm.run = .run ∧ t.grm.tags = [] ∧ t.grm.cr = [] ∧ t.grm.g = [] ∧
      t.grm.pc = BitVec.ofNat 32 (s.sys.entryG / 4 * 4) ∧ t.flag SYS_RSTCAUSE.GROOM = true ∧
      (∀ n < 32, s.get (PAD_LOCKOWN.OWN n) = 3 → t.get (PAD_LOCKOWN.OWN n) = 0) ∧
      t.r0 = s.r0 ∧ t.r1 = s.r1 ∧ t.gait = s.gait ∧ t.curb = s.curb ∧
      ∀ a, region a = .groomMem → t.byte a = s.byte a) ∧
  ∀ (r : Rider) (s : State), (s.core (riderCore r)).run ≠ .off → (s.core (riderCore r)).run ≠ .halted →
    let c := riderCore r
    ∃ t, exec (.lockstepMismatch r) s = .next t ∧ (t.core c).run = .halted ∧ (∀ q, t.g c q = s.g c q) ∧
      t.pc c = s.pc c ∧ (∀ k, k ≠ c → t.core k = s.core k) ∧
      t = (s.setRun c .halted).curbCause (if r = .r0 then Cause.core0 else Cause.core1)
        (if r = .r0 ∨ s.act PRT_INT.R1SII = 1 then .sii else .srs) false

/-- An issue that passes every check takes the lowest-numbered FREE tag k and makes it ISSUED, gD holds the issue
result 0x100 + k, the pc advances, and the owning block has the operation: a dma transfer joins its channel, a job
its queue, a ledger or settings commit the commit queue, a unicast chx is in flight with its payload, its request
for its port waiting at the arbiter, a txf for CAN requests its object, a txf for Ethernet joins P0's list. Nothing
else is done with the descriptor. -/
def Obligations.AcceptedIssuesTakeTheTag : Prop :=
  let lowest (s : State) (c : Core) (k : Nat) : Prop :=
    k < coreTags c ∧ s.tag c k = .free ∧ ∀ j < k, s.tag c j ≠ .free
  let desc (s : State) (f : Fetch) (a b : Reg) : Desc :=
    let x := (s.g f.core a).toNat
    ⟨s.word x, s.word (x + 4), s.word (x + 8), s.word (x + 12), (s.g f.core b).toNat, decide (b = 0)⟩
  ∀ (f : Fetch) (d a b : Reg) (ecc : Ecc) (s : State) (k : Nat), s.fetches f = true → lowest s f.core k →
    (s.fetched f).winBad f.core Perm.r 16 (s.g f.core a).toNat = false → descOk f.core (s.g f.core a).toNat = true →
    ecc ≠ .uncorrectable →
    let x := desc s f a b
    let u (cls : Nat) : State :=
      (((s.fetched f).setTag f.core k (.issued cls)).setG f.core d (BitVec.ofNat 32 (256 + k))).advance f.core
    let v := s.fetched f
    (f.core ≠ .grm → b = 0 → s.inFlight 3 + s.inFlight 4 < 64 → dmaBad x = false →
      v.winBad f.core Perm.w x.w2 x.w1 = false → (bit x.w3 8 = false → v.winBad f.core Perm.r x.w2 x.w0 = false) →
      (s.dmaChan (bits x.w3 0 3)).length < 8 →
      exec (.dma f d a b ecc) s = .next ((u 3).setDma (bits x.w3 0 3) (s.dmaChan (bits x.w3 0 3) ++
        [⟨f.core, k, x.w0, x.w1, x.w2, bit x.w3 8, !(s.isApp f.core)⟩]))) ∧
    (f.core ≠ .grm → s.inFlight 1 < 63 → s.flag HRD_STAT.POWERED = true → v.jobBad x = false →
      v.winBad f.core Perm.r (4 * bits x.w1 0 12) x.w0 = false → x.w2 &&& s.get HRD_TEAMDIS.TEAMS = 0 →
      s.freeIndex ≠ none → ∃ t j, exec (.job f d a b ecc) s = .next t ∧ t = (u 1).queueJob j ∧
        some j.index = s.freeIndex ∧ j.owner = some (f.core, k) ∧ j.prog = x.w0 ∧ j.plen = bits x.w1 0 12 ∧
        j.ecls = bits x.w1 16 4 ∧ j.teams = x.w2 ∧ j.deadline = s.nowUs + x.w3 ∧ j.arg = x.arg ∧ j.phase = .queued) ∧
    (f.core ≠ .grm → s.isApp f.core = false → b = 0 → s.inFlight 2 < 16 → nvcBad f.core x = false →
      bits x.w0 0 2 ≠ 1 → ∃ t y, exec (.nvc f d a b ecc) s = .next t ∧ t = (u 2).enqueue y ∧
        y.kind = (if bits x.w0 0 2 = 0 then .ledger else .settings) ∧ y.index = bits x.w0 8 5 ∧ y.src = x.w1 ∧
        y.len = bits x.w2 0 10 ∧ y.owner = some (f.core, k)) ∧
    (s.isApp f.core = false → s.inFlight 0 < 192 → s.flag CHN_CTRL.PORT_EN = true → s.flag CHN_STAT.ORIGIN = true →
      s.gait ≠ Gait.paddock → s.isStandby = false → v.chxBad x = false → bits x.w0 8 6 ≠ 0x3F → bits x.w0 16 2 ≠ 0 →
      v.firstRefused .chain .load ((bits x.w1 0 7 + 3) / 4) x.w2 = none →
      ∃ t, exec (.chx f d a b ecc) s = .next t ∧ t.tag f.core k = .issued 0 ∧ t.chn.chx = s.chn.chx ++
        [⟨s.freeWire, f.core, k, bits x.w0 0 8, bits x.w0 8 6, bits x.w0 16 2, x.w3, s.getBytes x.w2 (bits x.w1 0 7),
          [bits x.w0 16 2], if b = 0 then s.get CHN_RTO.RTO else x.arg, false⟩] ∧
        t.pad.requests = s.pad.requests ++
          [⟨s.chxPost f.core (bits x.w0 16 2), s.arbLevel (s.chxPost f.core (bits x.w0 16 2)), 0⟩] ∧
        (∀ r, t.g f.core r = (u 0).g f.core r) ∧ t.pc f.core = s.pc f.core + 4) ∧
    (s.isApp f.core = false → s.inFlight 3 + s.inFlight 4 < 64 → s.isStandby = false →
      (bits x.w0 0 4 ≤ 1 → (bits x.w0 0 4 = 0 ∨ s.gait ≠ Gait.paddock) → v.canTxfBad x = false → bit x.w0 16 = false →
        exec (.txf f d a b ecc) s =
          .next ((u 4).canRequest (bits x.w0 0 4) (bits x.w0 8 7) (some (f.core, k)))) ∧
      (bits x.w0 0 4 = 2 ∨ bits x.w0 0 4 = 3 → s.ethFlag ETH_CTRL.P1EN = true → s.gait ≠ Gait.paddock →
        ethTxfBad x = false → v.firstRefused .dma .load ((bits x.w2 0 11 + 3) / 4) x.w1 = none →
        ∃ t, exec (.txf f d a b ecc) s = .next t ∧ t = (u 4).ethQuiet.txAdd ⟨f.core, k, decide (bits x.w0 0 4 = 3),
          bit x.w0 16, x.w3, bits x.w2 16 16, s.getBytes x.w1 (bits x.w2 0 11)⟩))

/-- An issue without a FREE tag enters the tag-overflow handler, EVAL the instruction word. With a FREE tag: a full
pool of Table GCS-14 is refused with REFUSE 1, a descriptor that is not 16-byte aligned or not in the core's data
TCM, shared SRAM or Groom memory, or a gB other than g0 where no argument is defined, with REFUSE 4, one outside
the App windows with REFUSE 3; gD holds the refusal, no tag is taken, the pc advances and nothing else happens but
CHN_TAGSTAT.OVF for a full chx pool. The order of these checks is the model's (log entry 101). -/
def Obligations.RefusedIssuesTakeNoTag : Prop :=
  ∀ row ∈ ([(.chx, 0, true), (.job, 1, true), (.nvc, 2, false), (.dma, 3, false), (.txf, 4, true)] :
      List ((Fetch → Reg → Reg → Reg → Ecc → Instr) × Nat × Bool)),
    ∀ (f : Fetch) (d a b : Reg) (ecc : Ecc) (s : State), s.fetches f = true →
      (f.core ≠ .grm ∨ row.2.1 = 0 ∨ row.2.1 = 4) → (s.isApp f.core = false ∨ row.2.1 = 1 ∨ row.2.1 = 3) →
      let x := (s.g f.core a).toNat
      let full : Prop := if row.2.1 = 0 then 192 ≤ s.inFlight 0 else if row.2.1 = 1 then 63 ≤ s.inFlight 1
        else if row.2.1 = 2 then 16 ≤ s.inFlight 2 else 64 ≤ s.inFlight 3 + s.inFlight 4
      let placed : Prop := x % 16 = 0 ∧ (region x = .sram ∨ region x = .groomMem ∨
        (f.core = .r0 ∧ region x = .r0Dtcm) ∨ (f.core = .r1 ∧ region x = .r1Dtcm)) ∧ (row.2.2 = false → b = 0)
      let refused (k : Nat) (u : State) : Prop := ∃ t, exec (row.1 f d a b ecc) s = .next t ∧
        (∀ r, t.g f.core r = if r = d ∧ r ≠ 0 then BitVec.ofNat 32 (512 * k) else s.g f.core r) ∧
        t.pc f.core = s.pc f.core + 4 ∧ u.sameBut t f.core ∧
        s.sameCr t f.core (if f.ecc = .corrected then [Cr.ecccnt] else [])
      ((∀ k < coreTags f.core, s.tag f.core k ≠ .free) → s.statusBit f.core 10 = false →
        ∃ t, exec (row.1 f d a b ecc) s = .next t ∧
          (s.fetched f).entered t f.core 4 0 (s.pc f.core) (wordA 8 d a b row.2.1)) ∧
      ((∃ k < coreTags f.core, s.tag f.core k = .free) →
        (full → refused 1 (if row.2.1 = 0 then s.put CHN_TAGSTAT.OVF true else s)) ∧
        (¬ full → ¬ placed → refused 4 s) ∧
        (¬ full → placed → (s.fetched f).winBad f.core Perm.r 16 x = true → refused 3 s) ∧
        (¬ full → placed → (s.fetched f).winBad f.core Perm.r 16 x = false → ecc = .uncorrectable →
          s.statusBit f.core 10 = false → ∃ t, exec (row.1 f d a b ecc) s = .next t ∧
            (s.fetched f).entered t f.core 3 3 (s.pc f.core) (s.g f.core a)))

/-- pollt gives the completion word of the tag in gA[7:0] at once: that of a DONE tag, STATUS 0xF with DONE = 0 for
an ISSUED one (held ones included), STATUS 0xE with DONE = 0 for a FREE one or a number that names no tag. waitt
without a paddock lock gives the same word at once for a tag that is not ISSUED, else waits at the instruction with
its limit in ticks; with a lock held it enters the illegal-instruction handler with subcode 0x03. A waiting waitt
returns the word once its tag is not ISSUED, or STATUS 0xF once no tick of its limit is left. tagrel makes a DONE
tag FREE, and of any other only sets CRSTAT.BADREL. -/
def Obligations.CompletionInstructions : Prop :=
  let status (s : State) (c : Core) (n : Nat) (w : Word) : Prop :=
    (coreTags c ≤ n ∨ s.tag c n = .free → w.toNat / 4096 % 16 = 0xE ∧ w.msb = false) ∧
    ((∃ k, s.tag c n = .issued k) ∨ (∃ x v, s.tag c n = .held x v) → n < coreTags c →
      w.toNat / 4096 % 16 = 0xF ∧ w.msb = false ∧ w.toNat % 256 = n) ∧
    ∀ x v, s.tag c n = .done x v → n < coreTags c → w = BitVec.ofNat 32 x
  let returns (i : Instr) (c : Core) (d : Reg) (n : Nat) (s : State) : Prop :=
    ∃ t w, exec i s = .next t ∧ status s c n w ∧ (∀ r, t.g c r = if r = d ∧ r ≠ 0 then w else s.g c r) ∧
      t.pc c = s.pc c + 4 ∧ (t.core c).run = .run ∧ (t.core c).tags = (s.core c).tags ∧ t.setCore c (s.core c) = s
  let waits (s : State) (c : Core) (n : Nat) : Prop :=
    (∃ k, s.tag c n = .issued k) ∨ ∃ x v, s.tag c n = .held x v
  (∀ (f : Fetch) (d a : Reg) (s : State), s.fetches f = true →
    returns (.pollt f d a) f.core d ((s.g f.core a).toNat % 256) s) ∧
  (∀ (f : Fetch) (d a b : Reg) (s : State), s.fetches f = true →
    let n := (s.g f.core a).toNat % 256
    (s.holdsAny f.core = false → ¬ waits s f.core n → returns (.waitt f d a b) f.core d n s) ∧
    (s.holdsAny f.core = false → waits s f.core n → ∃ t, exec (.waitt f d a b) s = .next t ∧
      (t.core f.core).run = .waitt n d.toNat (if b = 0 then none else some (s.g f.core b).toNat) ∧
      t.pc f.core = s.pc f.core ∧ (∀ r, t.g f.core r = s.g f.core r) ∧ t.setCore f.core (s.core f.core) = s) ∧
    (s.holdsAny f.core = true → s.statusBit f.core 10 = false → ∃ t eval, exec (.waitt f d a b) s = .next t ∧
      (s.fetched f).entered t f.core 1 3 (s.pc f.core) eval)) ∧
  (∀ (c : Core) (n : Nat) (d : Reg) (l : Option Nat) (s : State), (s.core c).run = .waitt n d.toNat l →
    (¬ waits s c n → returns (.waittReturn c) c d n s) ∧ (waits s c n → exec (.waittReturn c) s = .next s) ∧
    (l = some 0 → returns (.waittLimit c) c d n s) ∧ (l ≠ some 0 → exec (.waittLimit c) s = .next s)) ∧
  ∀ (f : Fetch) (a : Reg) (s : State), s.fetches f = true →
    let n := (s.g f.core a).toNat % 256
    let done : Prop := n < coreTags f.core ∧ ∃ x v, s.tag f.core n = .done x v
    ∃ t, exec (.tagrel f a) s = .next t ∧ t.pc f.core = s.pc f.core + 4 ∧ (∀ r, t.g f.core r = s.g f.core r) ∧
      t.setCore f.core (s.core f.core) = s ∧ (∀ k, k ≠ n → t.tag f.core k = s.tag f.core k) ∧
      (done → t.tag f.core n = .free ∧ t.cr f.core Cr.crstat = s.cr f.core Cr.crstat) ∧
      (¬ done → t.tag f.core n = s.tag f.core n ∧ t.cr f.core Cr.crstat = s.cr f.core Cr.crstat ||| 2)

/-- The release of a completion of core c makes its tag DONE with its word and value. With fewer than 256 entries
unread (32 for the Groom) and the entry inside shared SRAM (Groom memory), the two words stand at CRBASE + 8 × the
index, CRWP advances modulo twice the ring and every other byte is unchanged; with the ring full nothing is
written, CRWP stays and RING_OVF is set; with the entry elsewhere nothing is written, CRWP advances and RING_BAD is
set. No other tag and no general register changes. -/
def Obligations.ReleasedCompletionsFillTheRing : Prop :=
  ∀ (c : Core) (k w v : Nat) (s : State), w < 2 ^ 32 → v < 2 ^ 32 → (s.cr c Cr.crwp).toNat < 2 * ringSize c →
    (s.cr c Cr.crrp).toNat < 2 * ringSize c →
    let t := s.release c k w v
    let n := ringSize c
    let wp := (s.cr c Cr.crwp).toNat
    let full : Prop := (wp + 2 * n - (s.cr c Cr.crrp).toNat) % (2 * n) = n
    let a := (s.cr c Cr.crbase).toNat + 8 * (wp % n)
    let home : Prop := region a = (if c = .grm then .groomMem else .sram) ∧
      region (a + 7) = (if c = .grm then .groomMem else .sram)
    n = (if c = .grm then 32 else 256) ∧ t.tag c k = .done w v ∧ (∀ j, j ≠ k → t.tag c j = s.tag c j) ∧
    (∀ r, t.g c r = s.g c r) ∧ t.pc c = s.pc c ∧ (∀ q, q ≠ c → t.core q = s.core q) ∧
    (full → t.mem = s.mem ∧ t.cr c Cr.crwp = s.cr c Cr.crwp ∧ t.cr c Cr.crstat = s.cr c Cr.crstat ||| 1) ∧
    (¬ full → (t.cr c Cr.crwp).toNat = (wp + 1) % (2 * n) ∧
      (home → t.word a = w ∧ t.word (a + 4) = v ∧ t.cr c Cr.crstat = s.cr c Cr.crstat ∧
        ∀ b, b < a ∨ a + 8 ≤ b → t.byte b = s.byte b) ∧
      (¬ home → t.mem = s.mem ∧ t.cr c Cr.crstat = s.cr c Cr.crstat ||| 8))

/-- DMA_TRANSFER_DONE of a channel whose first transfer moves words from shared SRAM to shared SRAM not overlapping
them (or fills), outside tandem mode and outside the completion ring, leaves the destination words equal to the
source words (or the fill word), every byte outside the destination and the ring entry unchanged, the transfer gone
from the channel, and its tag DONE with STATUS 0 and the length as result value. Any transfer whose destination is
no register ends with STATUS 0 and its length in whole words, or with STATUS 2 and less, its completion held in
tandem mode for a Rider. A transfer whose first destination word is refused ends with STATUS 0x2 and value 0 and
writes no destination. An idle channel changes nothing. TXF_TIMEOUT of an Ethernet txf still pending ends it with
RES 4 and STATUS 5; with no such txf it changes nothing. -/
def Obligations.DmaTransfersMoveWords : Prop :=
  let ring (s : State) (c : Core) (a : Nat) : Prop :=
    (s.cr c Cr.crbase).toNat ≤ a ∧ a < (s.cr c Cr.crbase).toNat + 8 * ringSize c
  let sram (a n : Nat) : Prop := 0x20000000 ≤ a ∧ a + n ≤ 0x20400000
  (∀ (ch : BitVec 3) (fx : Bool) (j : DmaJob) (rest : List DmaJob) (cls : Nat) (s : State), s.dmaChan ch.toNat = j :: rest →
    s.tandem = false → s.tag j.core j.tag = .issued cls → j.len % 4 = 0 → j.src % 4 = 0 → j.dst % 4 = 0 →
    sram j.dst j.len → (j.fill = false → sram j.src j.len) →
    (j.fill = false → j.src + j.len ≤ j.dst ∨ j.dst + j.len ≤ j.src) → j.src < 2 ^ 32 →
    (∀ k < j.len, ¬ ring s j.core (j.dst + k)) →
    ∃ t, exec (.dmaTransferDone ⟨ch, fx⟩) s = .next t ∧ t.dmaChan ch.toNat = rest ∧
      (∀ k < j.len / 4, t.word (j.dst + 4 * k) = if j.fill then j.src else s.word (j.src + 4 * k)) ∧
      (∀ a, (a < j.dst ∨ j.dst + j.len ≤ a) → ¬ ring s j.core a → t.byte a = s.byte a) ∧
      t.tag j.core j.tag = .done (completionWord 0 0 cls j.tag) j.len) ∧
  (∀ (ch : BitVec 3) (fx : Bool) (j : DmaJob) (rest : List DmaJob) (cls r : Nat) (s : State), s.dmaChan ch.toNat = j :: rest →
    s.tandem = false → s.tag j.core j.tag = .issued cls → j.fill = true → 4 ≤ j.len →
    s.refusal .dma false .store 4 j.dst = some r →
    ∃ t, exec (.dmaTransferDone ⟨ch, fx⟩) s = .next t ∧ t.dmaChan ch.toNat = rest ∧
      t.tag j.core j.tag = .done (completionWord 0 2 cls j.tag) 0 ∧
      ∀ a, ¬ ring s j.core a → t.byte a = s.byte a) ∧
  (∀ (ch : BitVec 3) (fx : Bool) (j : DmaJob) (rest : List DmaJob) (cls : Nat) (s : State), s.dmaChan ch.toNat = j :: rest →
    s.tag j.core j.tag = .issued cls → (∀ k < j.len, region (j.dst + k) ≠ .periph) →
    ∃ t st v, exec (.dmaTransferDone ⟨ch, fx⟩) s = .next t ∧ t.dmaChan ch.toNat = rest ∧
      ((st = 0 ∧ v = 4 * (j.len / 4)) ∨ (st = 2 ∧ v < j.len)) ∧
      t.tag j.core j.tag = if s.tandem = true ∧ j.core ≠ .grm then .held (completionWord 0 st cls j.tag) v
        else .done (completionWord 0 st cls j.tag) v) ∧
  (∀ (ch : BitVec 3) (fx : Bool) (s : State), s.dmaChan ch.toNat = [] → exec (.dmaTransferDone ⟨ch, fx⟩) s = .next s) ∧
  ∀ (c : Core) (k : BitVec 8) (s : State), (∀ e ∈ s.can.txf, e.2 ≠ some (c, k.toNat)) →
    (∀ e cls, s.eth.tx.find? (fun e => decide (e.core = c ∧ e.tag = k.toNat)) = some e → s.tandem = false →
      s.tag c k.toNat = .issued cls → ∃ t, exec (.txfTimeout c k) s = .next t ∧
        t.tag c k.toNat = .done (completionWord 4 5 cls k.toNat) 0) ∧
    ((∀ e ∈ s.eth.tx, e.core = c → e.tag ≠ k.toNat) → exec (.txfTimeout c k) s = .next s)

/-- At Firm privilege: lock n of a core that holds a lock j with n ≤ j returns 1 at once and is recorded in
PAD_LOCKERR with KIND 0; of a free lock that no higher-ranked core waits for it takes the lock and returns 0; else
the core waits at the instruction. LOCK_GRANT of a free lock gives it to the highest-ranked core that waits for it,
which goes on with 0 in its gD; of a lock that is held, or that no core waits for, it changes nothing. unlock of a
lock held frees it; of any other it is ignored and recorded with KIND 1. No memory changes. -/
def Obligations.PaddockLocks : Prop :=
  let recorded (s t : State) (c : Core) (kind n : Nat) : Prop :=
    t.get PAD_LOCKERR.CORE = coreCode c ∧ t.get PAD_LOCKERR.KIND = kind ∧ t.get PAD_LOCKERR.LOCK = n ∧
      (∀ m < 32, t.get (PAD_LOCKOWN.OWN m) = s.get (PAD_LOCKOWN.OWN m))
  (∀ (f : Fetch) (d : Reg) (n : BitVec 5) (s : State), s.fetches f = true → s.isApp f.core = false →
    let bad : Prop := ∃ j < 32, s.get (PAD_LOCKOWN.OWN j) = coreCode f.core + 1 ∧ n.toNat ≤ j
    let outranked : Prop := ∃ k x, coreCode k < coreCode f.core ∧ (s.core k).run = .lockWait n.toNat x
    let answers (v : Word) (t : State) : Prop := exec (.lock f d n) s = .next t ∧ t.mem = s.mem ∧
      (∀ r, t.g f.core r = if r = d ∧ r ≠ 0 then v else s.g f.core r) ∧ t.pc f.core = s.pc f.core + 4
    (bad → ∃ t, answers 1 t ∧ recorded s t f.core 0 n.toNat) ∧
    (¬ bad → s.get (PAD_LOCKOWN.OWN n.toNat) = 0 → ¬ outranked → ∃ t, answers 0 t ∧
      t.get (PAD_LOCKOWN.OWN n.toNat) = coreCode f.core + 1 ∧
      ∀ m < 32, m ≠ n.toNat → t.get (PAD_LOCKOWN.OWN m) = s.get (PAD_LOCKOWN.OWN m)) ∧
    (¬ bad → (s.get (PAD_LOCKOWN.OWN n.toNat) ≠ 0 ∨ outranked) → ∃ t, exec (.lock f d n) s = .next t ∧
      (t.core f.core).run = .lockWait n.toNat d.toNat ∧ t.pc f.core = s.pc f.core ∧
      (∀ r, t.g f.core r = s.g f.core r) ∧ t.setCore f.core (s.core f.core) = s)) ∧
  (∀ (c : Core) (n : BitVec 5) (d : Reg) (s : State), s.get (PAD_LOCKOWN.OWN n.toNat) = 0 →
    (s.core c).run = .lockWait n.toNat d.toNat →
    (∀ k x, coreCode k < coreCode c → (s.core k).run ≠ .lockWait n.toNat x) →
    ∃ t, exec (.lockGrant n) s = .next t ∧ t.get (PAD_LOCKOWN.OWN n.toNat) = coreCode c + 1 ∧ (t.core c).run = .run ∧
      t.pc c = s.pc c + 4 ∧ (∀ r, t.g c r = if r = d then 0 else s.g c r) ∧
      ∀ k, k ≠ c → t.core k = s.core k) ∧
  (∀ (n : BitVec 5) (s : State), s.get (PAD_LOCKOWN.OWN n.toNat) ≠ 0 ∨ (∀ c x, (s.core c).run ≠ .lockWait n.toNat x) →
    exec (.lockGrant n) s = .next s) ∧
  ∀ (f : Fetch) (n : BitVec 5) (s : State), s.fetches f = true → s.isApp f.core = false →
    ∃ t, exec (.unlock f 0 0 0 n) s = .next t ∧ t.pc f.core = s.pc f.core + 4 ∧ t.mem = s.mem ∧
      (∀ r, t.g f.core r = s.g f.core r) ∧
      (s.get (PAD_LOCKOWN.OWN n.toNat) = coreCode f.core + 1 → t.get (PAD_LOCKOWN.OWN n.toNat) = 0 ∧
        ∀ m < 32, m ≠ n.toNat → t.get (PAD_LOCKOWN.OWN m) = s.get (PAD_LOCKOWN.OWN m)) ∧
      (s.get (PAD_LOCKOWN.OWN n.toNat) ≠ coreCode f.core + 1 → recorded s t f.core 1 n.toNat)

/-- An atomic on a 4-byte aligned word of shared SRAM inside the App windows, without an uncorrectable error,
returns the old word in gD and leaves the word old + gB, gB, gB where old equals gD, old AND gB, or old OR gB, as
its operation says; every other byte, register and control register (ECCCNT apart) is unchanged and the pc
advances. On any other address it enters the window-violation handler with subcode 0x02 and changes no memory. -/
def Obligations.AtomicsActOnSharedSram : Prop :=
  ∀ row ∈ ([(.amoadd, fun _ o b => o + b), (.amoswap, fun _ _ b => b), (.amocas, fun d o b => if o = d then b else o),
      (.amoand, fun _ o b => o &&& b), (.amoor, fun _ o b => o ||| b)] :
      List ((Fetch → Reg → Reg → Reg → Ecc → Instr) × (Word → Word → Word → Word))),
    ∀ (f : Fetch) (d a b : Reg) (ecc : Ecc) (s : State), s.fetches f = true →
      let p := s.g f.core a
      let x := p.toNat
      let old : Word := BitVec.ofNat 32 (s.word x)
      (s.fetched f).winBad f.core Perm.rw 4 x = false →
      (region x = .sram → x % 4 = 0 → ecc ≠ .uncorrectable →
        ∃ t, exec (row.1 f d a b ecc) s = .next t ∧
          t.word x = (row.2 (s.g f.core d) old (s.g f.core b)).toNat ∧
          (∀ k, k < x ∨ x + 4 ≤ k → t.byte k = s.byte k) ∧
          (∀ r, t.g f.core r = if r = d ∧ r ≠ 0 then old else s.g f.core r) ∧ t.pc f.core = s.pc f.core + 4 ∧
          s.sameBut { t with mem := s.mem } f.core ∧
          s.sameCr t f.core (if f.ecc = .corrected ∨ ecc = .corrected then [Cr.ecccnt] else [])) ∧
      (region x ≠ .sram ∨ x % 4 ≠ 0 → s.statusBit f.core 10 = false →
        ∃ t, exec (row.1 f d a b ecc) s = .next t ∧ (s.fetched f).entered t f.core 2 2 (s.pc f.core) p ∧
          ∀ k, t.byte k = s.byte k)

/-- A lane word of arithmetic, logic, conversion, move or index whose team runs it with M = 0 (and srcB = 0 where
one source is read) completes: dst of every executing lane of the team takes the result of Table HRD-6 on the
lane's registers as they were, every other lane register and every predicate is unchanged, no byte of memory and no
scalar core changes, and the sequencer goes on with the next word. -/
def Obligations.LaneArithmeticResults : Prop :=
  let does (i : Instr) (o : LaneOp) (dst : BitVec 6) (v : Nat → Nat) (s : State) : Prop :=
    ∀ (j : Job) (r : TeamRun), s.laneReady o j r → o.m = false →
      ∃ t, exec i s = .next t ∧
        (∀ (l : Nat) (q : BitVec 6), s.laneRuns o l → t.laneReg l q.toNat =
          if q = dst then v l % 2 ^ 32 else s.laneReg l q.toNat) ∧
        (∀ (l : Nat) (q : BitVec 6), ¬ s.laneRuns o l → t.laneReg l q.toNat = s.laneReg l q.toNat) ∧
        (∀ l, t.lanePreds l = s.lanePreds l) ∧ t.mem = s.mem ∧ s.laneAt t o r (r.pc + 1)
  (∀ row ∈ ([(.laneFadd, fun x y => (fpAdd x y).val), (.laneFsub, fun x y => (fpSub x y).val),
      (.laneFmul, fun x y => (fpMul x y).val), (.laneFmin, fun x y => (fpMin x y).val),
      (.laneFmax, fun x y => (fpMax x y).val), (.laneFdiv, fun x y => (fpDiv x y).val), (.laneIadd, fun x y => x + y),
      (.laneIsub, fun x y => x + 2 ^ 32 - y), (.laneAnd, fun x y => x &&& y), (.laneOr, fun x y => x ||| y),
      (.laneXor, fun x y => x ^^^ y), (.laneShl, fun x y => x * 2 ^ (y % 32)), (.laneShr, fun x y => x / 2 ^ (y % 32)),
      (.laneSar, fun x y => (sgn 32 x / ((2 ^ (y % 32) : Nat) : Int) % ((2 ^ 32 : Nat) : Int)).toNat),
      (.laneImul, fun x y => x * y),
      (.laneImin, fun x y => if sgn 32 x < sgn 32 y then x else y),
      (.laneImax, fun x y => if sgn 32 y ≤ sgn 32 x then x else y)] :
      List ((LaneOp → BitVec 6 → BitVec 6 → BitVec 6 → Instr) × (Nat → Nat → Nat))),
    ∀ (o : LaneOp) (dst a b : BitVec 6) (s : State),
      does (row.1 o dst a b) o dst (fun l => row.2 (s.laneReg l a.toNat) (s.laneReg l b.toNat)) s) ∧
  (∀ row ∈ ([(.laneFma, fun d x y => (fpFma d x y).val), (.laneFms, fun d x y => (fpFms d x y).val)] :
      List ((LaneOp → BitVec 6 → BitVec 6 → BitVec 6 → Instr) × (Nat → Nat → Nat → Nat))),
    ∀ (o : LaneOp) (dst a b : BitVec 6) (s : State), does (row.1 o dst a b) o dst
      (fun l => row.2 (s.laneReg l dst.toNat) (s.laneReg l a.toNat) (s.laneReg l b.toNat)) s) ∧
  (∀ row ∈ ([(.laneFabs, fun x => x % 2 ^ 31), (.laneFneg, fpNegate), (.laneMov, fun x => x),
      (.laneFsqrt, fun x => (fpSqrt x).val), (.laneFrcp, fun x => (fpDiv 0x3F800000 x).val), (.laneFexp, laneExp),
      (.laneFlog, laneLog)] : List ((LaneOp → BitVec 6 → BitVec 6 → BitVec 6 → Instr) × (Nat → Nat))),
    ∀ (o : LaneOp) (dst a : BitVec 6) (s : State),
      does (row.1 o dst a 0) o dst (fun l => row.2 (s.laneReg l a.toNat)) s) ∧
  (∀ (o : LaneOp) (dst a : BitVec 6) (s : State),
    does (.laneFcvtsw o dst a) o dst (fun l => (fpOfInt (s.laneReg l a.toNat)).val) s ∧
    does (.laneFcvtws o dst a) o dst (fun l => (fpToInt false (s.laneReg l a.toNat)).val) s) ∧
  ∀ (o : LaneOp) (dst : BitVec 6) (s : State), does (.laneLidx o dst) o dst (fun l => l) s ∧
    does (.laneTidx o dst) o dst (fun l => l / 16) s ∧
    (∀ imm : BitVec 12, does (.laneLdi o dst imm) o dst (fun _ => (imm.signExtend 32).toNat) s) ∧
    ∀ (j : Job) (r : TeamRun), s.laneReady o j r → does (.laneCmap o dst) o dst
      (fun l => ((j.cells.find? fun e => e.1 = l).map (·.2)).getD 0xFFFFFFFF) s

/-- A compare or predicate word whose team runs it with M = 0 and its predicate fields below 8 (srcB = 0 for PNOT)
completes: predicate dst of every executing lane takes the comparison of the lane's registers, or the AND, OR or
NOT of its predicates, as they were; every other predicate, every lane register, memory and the scalar cores are
unchanged and the sequencer goes on with the next word. An unordered comparison gives 0. -/
def Obligations.LanePredicateResults : Prop :=
  let does (i : Instr) (o : LaneOp) (dst : BitVec 6) (v : Nat → Bool) (s : State) : Prop :=
    ∀ (j : Job) (r : TeamRun), s.laneReady o j r → o.m = false → dst.toNat < 8 →
      ∃ t, exec i s = .next t ∧
        (∀ l, s.laneRuns o l → ∀ p, (t.lanePreds l).testBit p =
          if p = dst.toNat then v l else (s.lanePreds l).testBit p) ∧
        (∀ l, ¬ s.laneRuns o l → t.lanePreds l = s.lanePreds l) ∧
        (∀ (l : Nat) (q : BitVec 6), t.laneReg l q.toNat = s.laneReg l q.toNat) ∧ t.mem = s.mem ∧
        s.laneAt t o r (r.pc + 1)
  (∀ row ∈ ([(.laneFclt, fun x y => decide (fpOrder x y = .less)),
      (.laneFcle, fun x y => decide (fpOrder x y = .less) || decide (fpOrder x y = .equal)),
      (.laneFceq, fun x y => decide (fpOrder x y = .equal)), (.laneIclt, fun x y => decide (sgn 32 x < sgn 32 y)),
      (.laneIceq, fun x y => decide (x = y))] :
      List ((LaneOp → BitVec 6 → BitVec 6 → BitVec 6 → Instr) × (Nat → Nat → Bool))),
    ∀ (o : LaneOp) (dst a b : BitVec 6) (s : State),
      does (row.1 o dst a b) o dst (fun l => row.2 (s.laneReg l a.toNat) (s.laneReg l b.toNat)) s) ∧
  ∀ (o : LaneOp) (dst a b : BitVec 6) (s : State), a.toNat < 8 → b.toNat < 8 →
    does (.lanePand o dst a b) o dst
      (fun l => (s.lanePreds l).testBit a.toNat && (s.lanePreds l).testBit b.toNat) s ∧
    does (.lanePor o dst a b) o dst
      (fun l => (s.lanePreds l).testBit a.toNat || (s.lanePreds l).testBit b.toNat) s ∧
    does (.lanePnot o dst a 0) o dst (fun l => !(s.lanePreds l).testBit a.toNat) s

/-- With M = 0: LLD, TLD and HLD give dst of every executing lane the word at srcA + 4 × the offset of its own, its
team's or the herd memory, where every such address is aligned and inside, without an uncorrectable error; LST and
TST store the lane's dst there (LST not below 0x20), where two lanes of TST meet the highest lane's word standing;
every other byte and register is unchanged and the sequencer goes on. Where an executing lane's address is not so,
the lowest such lane faults: HRD_FLTINFO holds the team, the word, the lane and kind 3, 4 or 5, the team's bit of
HRD_TEAMFLT is set. -/
def Obligations.LaneMemoryWords : Prop :=
  let at_ (s : State) (a off : BitVec 6) (l : Nat) : Nat := s.laneReg l a.toNat + 4 * off.toNat
  let loads (i : Instr) (o : LaneOp) (dst a off : BitVec 6) (size : Nat) (base : Nat → Nat) (r : TeamRun)
      (s : State) : Prop :=
    (∀ l, s.laneRuns o l → at_ s a off l % 4 = 0 ∧ at_ s a off l < size) →
    ∃ t, exec i s = .next t ∧ t.mem = s.mem ∧
      (∀ (l : Nat) (q : BitVec 6), s.laneRuns o l → t.laneReg l q.toNat =
        if q = dst then s.word (base l + at_ s a off l) else s.laneReg l q.toNat) ∧
      (∀ (l : Nat) (q : BitVec 6), ¬ s.laneRuns o l → t.laneReg l q.toNat = s.laneReg l q.toNat) ∧
      (∀ l, t.lanePreds l = s.lanePreds l) ∧ s.laneAt t o r (r.pc + 1)
  let stores (i : Instr) (o : LaneOp) (dst a off : BitVec 6) (low size : Nat) (base : Nat → Nat)
      (r : TeamRun) (s : State) : Prop :=
    (∀ l, s.laneRuns o l → at_ s a off l % 4 = 0 ∧ low ≤ at_ s a off l ∧ at_ s a off l < size) →
    ∃ t, exec i s = .next t ∧
      (∀ l, s.laneRuns o l → (∀ k, s.laneRuns o k → l < k → base k + at_ s a off k ≠ base l + at_ s a off l) →
        t.word (base l + at_ s a off l) = s.laneReg l dst.toNat % 2 ^ 32) ∧
      (∀ b, (∀ l, s.laneRuns o l → b < base l + at_ s a off l ∨ base l + at_ s a off l + 4 ≤ b) →
        t.byte b = s.byte b) ∧
      (∀ (l : Nat) (q : BitVec 6), t.laneReg l q.toNat = s.laneReg l q.toNat) ∧
      (∀ l, t.lanePreds l = s.lanePreds l) ∧ s.laneAt t o r (r.pc + 1)
  let faults (i : Instr) (o : LaneOp) (a off : BitVec 6) (low size kind : Nat) (s : State) : Prop :=
    ∀ (j : Job) (r : TeamRun), s.runner o.team.toNat = some (j, r) → j.owner ≠ none →
      ∀ l, s.laneRuns o l → (at_ s a off l % 4 ≠ 0 ∨ at_ s a off l < low ∨ size ≤ at_ s a off l) →
      (∀ k < l, s.laneRuns o k → at_ s a off k % 4 = 0 ∧ low ≤ at_ s a off k ∧ at_ s a off k < size) →
      ∃ t, exec i s = .next t ∧ t.get HRD_FLTINFO.TEAM = o.team.toNat ∧ t.get HRD_FLTINFO.PC = r.pc % 2 ^ 11 ∧
        t.get HRD_FLTINFO.LANE = l % 16 ∧ t.get HRD_FLTINFO.KIND = kind ∧
        t.bitOf HRD_TEAMFLT.TEAMS o.team.toNat = true
  let own : Nat → Nat := fun l => 0x30000000 + 0x1000 * l
  ∀ (o : LaneOp) (dst a off : BitVec 6) (ecc : Ecc) (j : Job) (r : TeamRun) (s : State), s.laneReady o j r →
    o.m = false →
    let team : Nat → Nat := fun _ => 0x30200000 + 0x8000 * o.team.toNat
    (ecc ≠ .uncorrectable → loads (.laneLld o dst a off ecc) o dst a off 0x1000 own r s ∧
      loads (.laneTld o dst a off ecc) o dst a off 0x8000 team r s ∧
      loads (.laneHld o dst a off ecc) o dst a off 0x80000 (fun _ => 0x30300000) r s) ∧
    stores (.laneLst o dst a off) o dst a off 0x20 0x1000 own r s ∧
    stores (.laneTst o dst a off) o dst a off 0 0x8000 team r s ∧
    faults (.laneLld o dst a off ecc) o a off 0 0x1000 3 s ∧ faults (.laneLst o dst a off) o a off 0x20 0x1000 3 s ∧
    faults (.laneTld o dst a off ecc) o a off 0 0x8000 4 s ∧ faults (.laneTst o dst a off) o a off 0 0x8000 4 s ∧
    faults (.laneHld o dst a off ecc) o a off 0 0x80000 5 s

/-- A reduction word (with M its srcB below 16) or a barrier word of a legal form that a team of a job reaches:
where another team of the job is still running, this team waits at the word and no lane register changes; where
every other team already waits at the same operation, every team goes on with its next word, a reduction giving its
result over the contributors of the waiting teams to dst in every lane of every team, and with M holding a publish
for the end of the job. Memory is unchanged. -/
def Obligations.LaneRendezvousWords : Prop :=
  let meets (i : Instr) (o : LaneOp) (w : Rdv) (s : State) : Prop :=
    ∀ (j : Job) (r : TeamRun), s.laneReady o j r → j.runs.filter (fun q => q.team = r.team) = [r] →
      (∀ q ∈ j.runs, q.done = false ∧ ∀ x, q.wait = some x → x.dst < 64) →
      let j' : Job := { j with runs := j.runs.map fun q => if q.team = r.team then { r with wait := some w } else q }
      ((∃ q ∈ j.runs, q.team ≠ r.team ∧ q.wait = none) →
        ∃ t, exec i s = .next t ∧ t.jobAt j.index = some j' ∧ t.mem = s.mem ∧ s.sameCores t ∧
          ∀ l q, t.laneReg l q = s.laneReg l q) ∧
      ((∀ q ∈ j.runs, q.team ≠ r.team → ∃ x, q.wait = some x ∧ x.op = w.op ∧ x.slot = w.slot ∧ x.m = w.m) →
        ∃ t, exec i s = .next t ∧ t.mem = s.mem ∧ s.sameCores t ∧
          (∃ k, t.jobAt j.index = some k ∧ k.runs = j'.runs.map (fun q => { q with wait := none, pc := q.pc + 1 }) ∧
            (w.m = false → k.pubs = j.pubs) ∧ (w.m = true → w.op ≠ Rop.bar → k.pubs.length = j.pubs.length + 1)) ∧
          (w.op = Rop.bar → ∀ l q, t.laneReg l q = s.laneReg l q) ∧
          (w.op ≠ Rop.bar → ∀ l ∈ teamLanes r.team, t.laneReg l w.dst = (reduce w.op (s.contributors j')).1 % 2 ^ 32))
  (∀ row ∈ ([(.laneRmin, Rop.rmin), (.laneRmax, Rop.rmax), (.laneRsum, Rop.rsum), (.laneRargmin, Rop.rargmin),
      (.laneRargmax, Rop.rargmax)] : List ((LaneOp → BitVec 6 → BitVec 6 → BitVec 6 → Instr) × Nat)),
    ∀ (o : LaneOp) (dst a b : BitVec 6) (s : State), (o.m = true → b.toNat < 16) →
      meets (row.1 o dst a b) o
        ⟨row.2, dst.toNat, a.toNat, if o.m then b.toNat % 16 else 0, o.m, o.pred.toNat, o.unp, o.neg⟩ s) ∧
  ∀ (o : LaneOp) (s : State), o.unp = true → o.m = false → meets (.laneBar o 0 0 0) o ⟨Rop.bar, 0, 0, 0, false, 0, true, false⟩ s

/-- BRA goes to the word its offset names (a target below word 0 lies outside the program) where UNP is 1 or some
lane of the team (with M every lane) holds the predicate, else to the next word. RET of the last running team ends
the job: its tag is DONE with STATUS 0, its publishes are written; of another team it only marks the team.
JOB_PROGRAM_LOADED of a loading job starts its teams at word 0 with the lane state of R113. JOB_DEADLINE_MISS of a
queued or running job counts, raises source 112 and ends it with STATUS 4. A scheduler evaluation with HOLD = 0 and
no standby puts the only queued job, where the bucket allows it, in LOADING and takes its cost (of class 15 where
it is urgent). An evaluation takes no job away, whatever the queue. A word with an undefined op code or of another
class is a lane fault of kind 1. Stated outside tandem mode for jobs of a core, with the core PLL locked. -/
def Obligations.LaneControlAndJobEvents : Prop :=
  (∀ (o : LaneOp) (off : BitVec 18) (j : Job) (r : TeamRun) (s : State), s.laneReady o j r →
    let holds (l : Nat) : Prop := (s.lanePreds l).testBit o.pred.toNat = !o.neg
    let taken : Prop := o.unp = true ∨ (if o.m then ∀ l ∈ teamLanes r.team, holds l else ∃ l ∈ teamLanes r.team, holds l)
    ∃ t, exec (.laneBra o off) s = .next t ∧ t.mem = s.mem ∧ (∀ l q, t.laneReg l q = s.laneReg l q) ∧
      (¬ taken → s.laneAt t o r (r.pc + 1)) ∧
      (taken → 0 ≤ (r.pc : Int) + off.toInt → s.laneAt t o r ((r.pc : Int) + off.toInt).toNat) ∧
      (taken → (r.pc : Int) + off.toInt < 0 → s.laneAt t o r 2048)) ∧
  (∀ (o : LaneOp) (j : Job) (r : TeamRun) (c : Core) (k cls : Nat) (s : State), s.laneReady o j r →
    o.unp = true → o.m = false → s.tandem = false → j.owner = some (c, k) → s.tag c k = .issued cls →
    ((∀ q ∈ j.runs, q.team ≠ r.team → q.done = true) → ∃ t v, exec (.laneRet o 0 0 0) s = .next t ∧
      t.jobAt j.index = none ∧ t.tag c k = .done (completionWord 0 0 cls k) v) ∧
    ((∃ q ∈ j.runs, q.team ≠ r.team ∧ q.done = false) → (∀ q ∈ j.runs, q.team ≠ r.team → q.wait = none) →
      ∃ t j', exec (.laneRet o 0 0 0) s = .next t ∧ t.jobAt j.index = some j' ∧
        j'.runs = j.runs.map (fun q => if q.team = r.team then { r with done := true } else q))) ∧
  (∀ (i : BitVec 6) (j : Job) (ecc : Ecc) (s : State), s.jobAt i.toNat = some j → j.phase = .loading →
    s.pllGated Pll.core = false → ecc ≠ .uncorrectable → ∃ t j', exec (.jobProgramLoaded i ecc) s = .next t ∧ t.jobAt i.toNat = some j' ∧
      j'.phase = .running ∧ (∀ q ∈ j'.runs, q.pc = 0 ∧ q.wait = none ∧ q.done = false) ∧ t.mem = s.mem ∧
      ∀ l ∈ j.lanes, let cell := (j.cells.find? fun e => e.1 = l).map (·.2)
        t.laneReg l 0 = l % 2 ^ 32 ∧ t.laneReg l 1 = cell.getD 0xFFFFFFFF % 2 ^ 32 ∧ t.laneReg l 2 = j.arg % 2 ^ 32 ∧
        t.laneReg l 3 = j.sweep % 2 ^ 32 ∧ (∀ q, 4 ≤ q → q < 64 → t.laneReg l q = 0) ∧
        t.lanePreds l = if cell = none then 0 else 1) ∧
  (∀ (i : BitVec 6) (j : Job) (c : Core) (k cls : Nat) (s : State), s.jobAt i.toNat = some j → j.phase ≠ .ended →
    s.tandem = false → j.owner = some (c, k) → s.tag c k = .issued cls →
    ∃ t v, exec (.jobDeadlineMiss i) s = .next t ∧ t.jobAt i.toNat = none ∧
      t.tag c k = .done (completionWord 0 4 cls k) v ∧
      t.get HRD_MISSCNT.COUNT = min (2 ^ 32 - 1) (s.get HRD_MISSCNT.COUNT + 1)) ∧
  (∀ s : State, ∃ t, exec .schedulerEvaluation s = .next t ∧ s.sameRest t ∧
    t.herd.jobs.map (·.index) = s.herd.jobs.map (·.index)) ∧
  (∀ (o : LaneOp) (w : Word) (off : BitVec 18) (j : Job) (r : TeamRun) (s : State),
    s.runner o.team.toNat = some (j, r) → r.pc < j.plen → o.ecc ≠ .uncorrectable → j.owner ≠ none → o.raw = some w →
    (w.toNat / 2 ^ 30 ≠ 3 ∨ w.toNat / 2 ^ 24 % 64 ∈ [0x1B, 0x1C, 0x1D, 0x1E, 0x1F, 0x2D, 0x2E, 0x2F, 0x35, 0x36, 0x37]) →
    ∃ t, exec (.laneBra o off) s = .next t ∧ t.get HRD_FLTINFO.TEAM = o.team.toNat ∧
      t.get HRD_FLTINFO.PC = r.pc % 2 ^ 11 ∧ t.get HRD_FLTINFO.KIND = 1 ∧
      t.bitOf HRD_TEAMFLT.TEAMS o.team.toNat = true) ∧
  ∀ (j : Job) (s : State), s.herd.jobs = [j] → j.phase = .queued → s.isStandby = false → j.teams < 2 ^ 32 →
    s.pllGated Pll.core = false → s.isCandidate j = true →
    (s.flag HRD_CTRL.HOLD = false → ∃ t j', exec .schedulerEvaluation s = .next t ∧ t.herd.jobs = [j'] ∧
      j'.phase = .loading ∧ j'.index = j.index ∧ j'.teams = j.teams ∧
      t.get THM_BUCKET.TOKENS = (s.get THM_BUCKET.TOKENS - s.jobCost j.bucketClass j.teams) % 2 ^ THM_BUCKET.TOKENS.width) ∧
    (s.flag HRD_CTRL.HOLD = true → ∃ t j', exec .schedulerEvaluation s = .next t ∧ t.herd.jobs = [j'] ∧
      j'.phase = .queued)

/-- An asserting source that is enabled becomes pending, or is held for the tick boundary in tandem mode with a
Rider route; one already pending sets its EVT_OVR bit; one not enabled changes nothing. EVT_SET asserts each source
with a 1 but those that never assert, changes no other pending bit and reaches no curb logic. A claim returns the
source of highest priority among those pending, routed to the core and above its running priority, the lowest
number among equals, takes it out of EVT_PEND and into service, and gives 0 where there is none. EVT_DONE ends the
service of its source for that core only. -/
def Obligations.EventAssertionClaimAndService : Prop :=
  (∀ (n : Nat) (s : State), n < 256 → s.asserts (s.raise n) n ∧ (s.get (EVT_CFG.EN n) = 0 → s.raise n = s) ∧
    (s.get (EVT_CFG.EN n) ≠ 0 → s.tandem = false → s.evtPending n = true →
      (s.raise n).bitOf (EVT_OVR.BITS (n / 32)) (n % 32) = true) ∧ s.sameRest (s.raise n)) ∧
  (∀ (c : Core) (k : BitVec 3) (v : Word) (s : State), s.storesReg c (EVT_SET.BITS k.toNat).addr →
    let never (n : Nat) : Prop := (74 ≤ n ∧ n ≤ 79) ∨ (116 ≤ n ∧ n ≤ 127) ∨ (141 ≤ n ∧ n ≤ 143)
    ∃ t, exec (.evtSet c k v) s = .next t ∧ s.sameRest t ∧ t.crb = s.crb ∧
      (∀ b < 32, v.getLsbD b = true → ¬ never (32 * k.toNat + b) → s.asserts t (32 * k.toNat + b)) ∧
      ∀ n < 256, n / 32 ≠ k.toNat ∨ v.getLsbD (n % 32) = false ∨ never n → t.evtPending n = s.evtPending n) ∧
  (∀ (c : Core) (s : State), s.loadsReg c (claimReg c).addr →
    let wins (n : Nat) : Prop := n < 256 ∧ s.evtPending n = true ∧ s.get (EVT_CFG.ROUTE n) = coreCode c + 1 ∧
      s.get (thrOf c) < s.get (EVT_CFG.PRIO n) ∧
      ∀ x ∈ s.evt.inService, x.core = c → x.prio < s.get (EVT_CFG.PRIO n)
    ((∀ n, ¬ wins n) → exec (.evtClaim c) s = .next { s with rdata := 0 }) ∧
    ∀ n, wins n → (∀ m, wins m → s.get (EVT_CFG.PRIO m) < s.get (EVT_CFG.PRIO n) ∨
        (s.get (EVT_CFG.PRIO m) = s.get (EVT_CFG.PRIO n) ∧ n ≤ m)) →
      ∃ t, exec (.evtClaim c) s = .next t ∧ s.sameRest t ∧
        t.rdata = 0x80000000 + BitVec.ofNat 32 (256 * s.get (EVT_CFG.PRIO n) + n) ∧
        t.evtPending n = false ∧ (∀ m < 256, m ≠ n → t.evtPending m = s.evtPending m) ∧
        t.evt.inService = ⟨c, n, s.get (EVT_CFG.PRIO n)⟩ :: s.evt.inService) ∧
  ∀ (c : Core) (n : BitVec 8) (s : State), s.storesReg c (doneReg c).addr →
    ∃ t, exec (.evtDone c n) s = .next t ∧ s.sameRest t ∧ t.regs = s.regs ∧
      ∀ x, x ∈ t.evt.inService ↔ x ∈ s.evt.inService ∧ ¬ (x.core = c ∧ x.src = n.toNat)

/-- With nothing waiting or granted, two requests posted for one unit in a cycle of its clock leave it with one
holder, where the first of them may be granted now (no chx frame at normal level while a sweep holds its port, no
other requester on a bleed channel of the curb logic): the urgent before the normal, else the higher-ranked
requester, else the lower index; the other waits, and a bleed channel that the curb logic takes is off. A cycle
never leaves a unit with two holders. Promotion makes a normal request that has waited more than 64 cycles promoted
and counts it; any other stays. LOCK_HOLD_LIMIT of a held lock raises source 4 once for the holding, with a limit
that is not 0; writing PAD_LOCKLIM takes the limit and raises source 4 for every holding already longer. -/
def Obligations.PaddockArbiterGrants : Prop :=
  (∀ (core : Bool) (p q : ArbPost) (s : State), s.pad.requests = [] → s.pad.grants = [] →
    p.cls = q.cls → p.unit = q.unit → arbPostOk p = true → arbPostOk q = true → (p.cls = 5 ↔ core = true) → p.cls < 6 →
    (p.cls = 0 → s.arbLevel p = 0 ∨ s.sweepHold p.unit = false) → (p.cls = 3 → p.req = 1 ∨ s.curbHolds p.unit = false) →
    let urgent (x : ArbPost) : Prop := x.req = 1 ∨ s.get (urgField x.req x.cls) = 1
    ((urgent p ∧ ¬ urgent q) ∨ ((urgent p ↔ urgent q) ∧
        (p.req < q.req ∨ (p.req = q.req ∧ p.index < q.index)))) →
    ∃ t r, exec (.arbitrationCycle core [p, q] []) s = .next t ∧ (s.chn.chx = [] → s.sameRest t) ∧
      t.pad.grants = [⟨p.cls, p.unit, p.req, p.index⟩] ∧ t.pad.requests = [r] ∧ r.post = q ∧ r.wait = 1 ∧
      (p.cls = 3 → p.req = 1 → p.unit ∉ t.cel.bleed ∧ p.unit ∉ t.cel.want)) ∧
  (∀ (core : Bool) (posts ended : List ArbPost) (s : State),
    s.pad.grants.Pairwise (fun a b => ¬ (a.cls = b.cls ∧ a.unit = b.unit)) →
    ∃ t, exec (.arbitrationCycle core posts ended) s = .next t ∧ (s.chn.chx = [] → s.sameRest t) ∧
      t.pad.grants.Pairwise (fun a b => ¬ (a.cls = b.cls ∧ a.unit = b.unit))) ∧
  (∀ (p : ArbPost) (r : ArbReq) (s : State), s.pad.requests = [r] → r.post = p →
    ∃ t, exec (.requestPromotion p) s = .next t ∧ s.sameRest t ∧
      (r.level = 2 → 64 < r.wait → t.pad.requests = [{ r with level := 1 }] ∧
        (s.get PAD_PROMCNT.COUNT < 2 ^ 32 - 1 → t.get PAD_PROMCNT.COUNT = s.get PAD_PROMCNT.COUNT + 1)) ∧
      (r.level ≠ 2 ∨ r.wait ≤ 64 → t.pad.requests = [r])) ∧
  (∀ (n : BitVec 5) (s : State),
    (s.get (PAD_LOCKOWN.OWN n.toNat) ≠ 0 → s.get PAD_LOCKLIM.LIM ≠ 0 → s.pad.lockRaised.testBit n.toNat = false →
      ∃ t, exec (.lockHoldLimit n) s = .next t ∧ s.sameRest t ∧ s.asserts t 4 ∧
        t.pad.lockRaised.testBit n.toNat = true) ∧
    (s.get (PAD_LOCKOWN.OWN n.toNat) = 0 ∨ s.get PAD_LOCKLIM.LIM = 0 ∨ s.pad.lockRaised.testBit n.toNat = true →
      exec (.lockHoldLimit n) s = .next s)) ∧
  ∀ (c : Core) (v : BitVec 16) (s : State), s.storesReg c PAD_LOCKLIM.LIM.addr →
    ∃ t, exec (.padLocklimWrite c v) s = .next t ∧ s.sameRest t ∧ t.get PAD_LOCKLIM.LIM = v.toNat ∧
      ∀ n < 32, s.get (PAD_LOCKOWN.OWN n) ≠ 0 → v ≠ 0 → s.pad.lockRaised.testBit n = false →
        v.toNat < s.nowUs - mapGet 0 s.pad.lockSince n → s.asserts t 4 ∧ t.pad.lockRaised.testBit n = true

/-- A store of a core to a peripheral address that is served takes place, as the register's own rule says
(regStore), whatever the register. A store to EVT_CFG writes PRIO, ROUTE and EN, leaves CURB, and with a CURB bit
that differs on a designated source asserts source 16. A store to SYS_CLKFLT clears the bits written as 1. A store
to THM_REFILL takes a defined pair and leaves a reserved one. A store to a read-only register changes no register.
At App privilege a store to a register with an RWF field enters the window-violation handler with subcode 0x04 and
writes nothing. -/
def Obligations.PeripheralStoresByAccessCode : Prop :=
  (∀ (c : Core) (a v : Word) (s : State), s.storesReg c a.toNat → region a.toNat = .periph →
    exec (.periphStore c a v) s =
      .next ((s.noteWrite c a.toNat).regStore c a.toNat v.toNat (decide (c = .grm)))) ∧
  (∀ (c : Core) (n : BitVec 8) (v : Word) (s : State), s.storesReg c (EVT_CFG.EN n.toNat).addr →
    ∃ t, exec (.periphStore c (BitVec.ofNat 32 (EVT_CFG.EN n.toNat).addr) v) s = .next t ∧ s.sameRest t ∧
      t.get (EVT_CFG.PRIO n.toNat) = v.toNat % 8 ∧ t.get (EVT_CFG.ROUTE n.toNat) = v.toNat / 16 % 4 ∧
      t.get (EVT_CFG.EN n.toNat) = v.toNat / 4096 % 2 ∧
      t.get (EVT_CFG.CURB n.toNat) = s.get (EVT_CFG.CURB n.toNat) ∧
      (s.get (EVT_CFG.CURB n.toNat) ≠ v.toNat / 256 % 2 → evtDesignated n.toNat = true → n ≠ 16 → s.asserts t 16)) ∧
  (∀ (c : Core) (v : Word) (s : State), s.storesReg c SYS_CLKFLT.REF_LOSS.addr →
    ∃ t, exec (.periphStore c 0x60000018 v) s = .next t ∧ s.sameRest t ∧
      ∀ f ∈ [SYS_CLKFLT.REF_LOSS, SYS_CLKFLT.CORE_UNLOCK, SYS_CLKFLT.PER_UNLOCK, SYS_CLKFLT.ETH_UNLOCK,
          SYS_CLKFLT.TDM_UNLOCK, SYS_CLKFLT.XTAL32K_LOSS],
        (v.getLsbD f.lsb = true → t.get f = 0) ∧ (v.getLsbD f.lsb = false → t.get f = s.get f % 2)) ∧
  (∀ (c : Core) (v : Word) (s : State), s.storesReg c THM_REFILL.RMIN.addr →
    ∃ t, exec (.periphStore c (BitVec.ofNat 32 THM_REFILL.RMIN.addr) v) s = .next t ∧ s.sameRest t ∧
      if v.toNat / 65536 ≤ v.toNat % 65536 ∧ v.toNat % 65536 ≤ 50000 then
        t.get THM_REFILL.RMAX = v.toNat % 65536 ∧ t.get THM_REFILL.RMIN = v.toNat / 65536
      else t.get THM_REFILL.RMAX = s.get THM_REFILL.RMAX ∧ t.get THM_REFILL.RMIN = s.get THM_REFILL.RMIN) ∧
  (∀ (c : Core) (v : Word) (s : State), s.storesReg c SYS_ID.DEVICE.addr →
    ∃ t, exec (.periphStore c 0x60000000 v) s = .next t ∧ s.sameRest t ∧ t.regs = s.regs) ∧
  ∀ (c : Core) (v : Word) (s : State), (s.core c).run = .run → s.isApp c = true → s.statusBit c 10 = false →
    s.serves c .store Perm.w 4 (BitVec.ofNat 32 SYS_CLKEN.ETH_EN.addr) = true →
    ∃ t, exec (.periphStore c 0x60000014 v) s = .next t ∧ s.entered t c 2 4 (s.pc c) 0x60000014

/-- On a running module: a good reference window sets REF_OK; a bad one, with REF_OK set or not yet on the RC,
clears it, sets REF_LOSS and source 1, moves the clocks to the RC and, from Walk to Gallop, begins T13. A running
PLL that loses lock gates its domains, clears its lock bit and sets its fault bit, where it has them, and source 2;
the core and peripheral PLLs also act as the reference does, the tandem PLL drops the link with source 238. A PLL
that runs locks, and its domains run again. The loss of the 32.768 kHz crystal is shown and nothing else. With no
main output closed the cores and memory stay. Outside Stable a second counts PWR_RTC and NVM_OPTIME; in Stable
without a matching alarm only PWR_RTC. A matching alarm, and WAKE_N low, with their wake source enabled, in Paddock
and with no transition in progress, record the source and begin T4 to Walk with cause 1. A source that is not
enabled is not recorded. WAKE_N high only shows its level. -/
def Obligations.ClocksSecondsAndWakes : Prop :=
  (∀ s : State, s.alive = true →
      exec (.refMonitorWindow true) s = .next (s.put SYS_CLKSTAT.REF_OK true) ∧
      (s.flag SYS_CLKSTAT.REF_OK = true ∨ s.flag SYS_CLKSTAT.ON_RC = false →
        ∃ t, exec (.refMonitorWindow false) s = .next t ∧ t.get SYS_CLKSTAT.REF_OK = 0 ∧
          t.get SYS_CLKFLT.REF_LOSS = 1 ∧ t.get SYS_CLKSTAT.ON_RC = 1 ∧ s.asserts t 1 ∧
          (s.mainOn = false → s.sameRest t ∧ (2 ≤ s.gait → s.lameBegins t LameCause.clock))) ∧
      (s.flag SYS_CLKSTAT.REF_OK = false → s.flag SYS_CLKSTAT.ON_RC = true →
        exec (.refMonitorWindow false) s = .next s) ∧
      (∀ p : Fin 6, s.pllRuns p = true → s.pllLocked p = true →
        ∃ t, exec (.pllUnlock p) s = .next t ∧ (s.mainOn = false → s.sameRest t) ∧ t.pllGated p = true ∧
          (∀ f, Machine.pllLock p = some f → t.get f = 0) ∧ (∀ f, Machine.pllFault p = some f → t.get f = 1) ∧
          s.asserts t 2 ∧
          (p = 0 ∨ p = 1 → t.get SYS_CLKSTAT.ON_RC = 1 ∧
            (2 ≤ s.gait → s.mainOn = false → s.lameBegins t LameCause.clock)) ∧
          (p = 3 → s.flag TDM_STAT.LINK = true → t.get TDM_STAT.LINK = 0 ∧ s.asserts t 238)) ∧
      (∀ p : Fin 6, s.pllRuns p = false ∨ s.pllLocked p = false → exec (.pllUnlock p) s = .next s) ∧
      (∀ p : Fin 6, s.pllRuns p = true → ∃ t, exec (.pllLock p) s = .next t ∧ s.sameRest t ∧ t.pllGated p = false ∧
        (∀ q : Fin 6, q ≠ p → t.pllGated q = s.pllGated q) ∧
        (∀ f, Machine.pllLock p = some f → t.get f = 1) ∧
        ∀ f : Fld, (∀ l, Machine.pllLock p = some l → l.key ≠ f.key) → t.get f = s.get f) ∧
      (∀ p : Fin 6, s.pllRuns p = false → exec (.pllLock p) s = .next s) ∧
      ∃ t, exec .xtal32kLoss s = .next t ∧ s.sameRest t ∧ t.get SYS_CLKSTAT.XTAL32K_OK = 0 ∧
        t.get SYS_CLKFLT.XTAL32K_LOSS = 1 ∧
        ∀ f : Fld, f.key ≠ SYS_CLKSTAT.XTAL32K_OK.key → f.key ≠ SYS_CLKFLT.XTAL32K_LOSS.key → t.get f = s.get f) ∧
  (let wakes (s t : State) (b : Nat) : Prop := s.gait = Gait.paddock → s.power.trans = none → s.sys.booting = false →
      t.bitOf PWR_WAKESRC.SRC b = true ∧ t.power.trans = some ⟨4, Gait.walk, 1, false⟩ ∧ t.get PWR_GAIT.BUSY = 1
   ∀ s : State, s.sys.on = true → s.inReset = false →
      (s.gait ≠ Gait.stable → ∃ t, exec .rtcTick s = .next t ∧ s.sameRest t ∧
        t.get PWR_RTC.SEC = (s.get PWR_RTC.SEC + 1) % 2 ^ 32 ∧ t.get NVM_OPTIME.SEC = (s.get NVM_OPTIME.SEC + 1) % 2 ^ 32 ∧
        (s.get PWR_RTCALM.ALM ≠ 0xFFFFFFFF → s.get PWR_RTCALM.ALM = (s.get PWR_RTC.SEC + 1) % 2 ^ 32 →
          (s.flag PWR_WAKEEN.RTC = true → wakes s t 1) ∧
          (s.flag PWR_WAKEEN.RTC = false → t.get PWR_WAKESRC.SRC = s.get PWR_WAKESRC.SRC ∧ t.power = s.power))) ∧
      (s.gait = Gait.stable → s.get PWR_RTCALM.ALM = 0xFFFFFFFF → ∃ t, exec .rtcTick s = .next t ∧ s.sameRest t ∧
        t.get PWR_RTC.SEC = (s.get PWR_RTC.SEC + 1) % 2 ^ 32 ∧ t.get NVM_OPTIME.SEC = s.get NVM_OPTIME.SEC) ∧
      (s.gait ≠ Gait.stable → ∃ t, exec (.wakeNLow true) s = .next t ∧ s.sameRest t ∧ t.sys.wakeLow = true ∧
        t.get SYS_PWRSTAT.WAKEN = 0 ∧ (s.flag PWR_WAKEEN.WAKEN = true → wakes s t 0) ∧
        (s.flag PWR_WAKEEN.WAKEN = false → t.get PWR_WAKESRC.SRC = s.get PWR_WAKESRC.SRC ∧ t.power = s.power)) ∧
      ∃ t, exec (.wakeNLow false) s = .next t ∧ s.sameRest t ∧ t.sys.wakeLow = false ∧
        t.get SYS_PWRSTAT.WAKEN = 1 ∧ t.power = s.power ∧ t.get PWR_WAKESRC.SRC = s.get PWR_WAKESRC.SRC)

/-- A write of PWR_REQ on a module that is no standby, with no transition in progress, takes TARGET and: where
Table PWR-2 has no row for the core, the gait and the target, is refused with reason 7; where its conditions hold,
begins that transition with RESULT 1 and REASON 0; else is refused with the reason of the first condition that
fails. A refusal raises source 7 and starts nothing; during a transition the reason is 1. The end of T8 to T12
makes the target the gait, the old gait PREV, with its CAUSE, BUSY 0, RESULT 2 for a request, source 3 and the Herd
clock of the gait. -/
def Obligations.GaitRequestsFollowTheTable : Prop :=
  let rows : List ((Core → Instr) × Nat) := [(.pwrReqStable, 0), (.pwrReqPaddock, 1), (.pwrReqWalk, 2), (.pwrReqTrot, 3),
    (.pwrReqCanter, 4), (.pwrReqGallop, 5), (.pwrReqLame, 6)]
  let rider : List (Nat × Nat × Nat) := [(2, 0, 2), (2, 1, 3), (2, 3, 8), (2, 6, 13), (3, 4, 9), (3, 2, 12), (3, 6, 13),
    (4, 5, 10), (4, 3, 12), (4, 2, 12), (4, 6, 13), (5, 4, 11), (5, 6, 13), (6, 3, 14), (6, 2, 15)]
  let groom : List (Nat × Nat × Nat) := [(1, 2, 5), (2, 1, 6), (1, 0, 7)]
  let fails (s : State) (n target : Nat) : List (Prop × Nat) :=
    if n = 8 then [(s.mainOn = false ∧ (s.get CEL_STAT.OPEN2 ≠ 0 ∨ s.get CEL_STAT.STALE_ANY ≠ 0), 0xC),
        (s.get CRB_STAT.SCFG_OK = 0 ∨ s.curb = Curb.boot ∨ s.get PRT_STAT.VALID = 0 ∨
          s.get CHN_STAT.RING ∉ [2, 3, 4] ∨ s.get CEL_STAT.MAP_VALID = 0 ∨ s.get NVM_STAT.LEDGER_OK = 0, 0xA),
        (s.get CRB_STAT.GUARD ≠ 2, 3), (s.get HVM_PCHSTAT.STATE ≠ Pch.pass, 4), (s.tripActive = true, 0xC),
        (s.mainsClosed = false, 0xD)]
    else if n = 9 then [(s.tripActive = true, 0xC)]
    else if n = 10 then [(s.get THM_STAT.THROT_REQ ≠ 0, 5), (s.est.method ≠ 1, 0xB)]
    else if n = 12 ∧ target = 2 then [(s.contactorOn = true ∨ s.currentZero = false, 2)]
    else if n = 14 then [(s.power.lameCauses ≠ 0, 0xC), (s.mainsClosed = false, 0xD)]
    else if n = 15 then [(s.power.lameCauses ≠ 0, 0xC), (s.contactorOn = true, 2)]
    else if n = 2 ∨ n = 3 ∨ n = 7 then [(s.contactorOn = true, 2),
      (s.get TDM_STAT.CLAIM ≠ 0 ∨ s.get TDM_STAT.PEERCLAIM ≠ 0, 8), (s.nvmBusy = true, 9)]
    else []
  (∀ row ∈ rows, ∀ (c : Core) (s : State), s.storesReg c PWR_REQ.TARGET.addr → s.isStandby = false →
    let row? (n : Nat) : Prop := (s.gait, row.2, n) ∈ (if c = .grm then groom else rider) ∧
      (s.gait = Gait.walk → (c = .grm ↔ s.groomWalk = true))
    let refused (k : Nat) : Prop := ∃ t, exec (row.1 c) s = .next t ∧ s.sameRest t ∧ t.get PWR_REQ.TARGET = row.2 ∧
      t.get PWR_REQSTAT.RESULT = 3 ∧ t.get PWR_REQSTAT.REASON = k ∧ s.asserts t 7 ∧ t.gait = s.gait ∧ t.power = s.power
    (s.get PWR_GAIT.BUSY ≠ 0 → refused 1) ∧
    (s.get PWR_GAIT.BUSY = 0 →
      ((∀ n, ¬ row? n) → refused 7) ∧
      ∀ n, row? n →
        (∀ e pre post, fails s n row.2 = pre ++ e :: post → e.1 → (∀ x ∈ pre, ¬ x.1) → refused e.2) ∧
        ((∀ e ∈ fails s n row.2, ¬ e.1) → ∃ t, exec (row.1 c) s = .next t ∧ s.sameRest t ∧
          t.get PWR_REQ.TARGET = row.2 ∧ t.get PWR_REQSTAT.RESULT = 1 ∧ t.get PWR_REQSTAT.REASON = 0 ∧
          t.get PWR_GAIT.BUSY = 1 ∧ t.gait = s.gait ∧
          t.power.trans = some ⟨n, row.2, if c = .grm then 2 else 0, true⟩))) ∧
  ∀ (n g cause : Nat) (req : Bool) (s : State), s.sys.on = true → s.inReset = false →
    s.power.trans = some ⟨n, g, cause, req⟩ → 8 ≤ n → n ≤ 12 → 2 ≤ g → g ≤ 5 → cause < 16 → s.gait < 8 →
    s.curb ≠ Curb.halt → s.power.lameCauses = 0 →
    ∃ t, exec .gaitTransitionComplete s = .next t ∧ s.sameRest t ∧ t.gait = g ∧ t.get PWR_GAIT.PREV = s.gait ∧
      t.get PWR_GAIT.CAUSE = cause ∧ t.get PWR_GAIT.BUSY = 0 ∧ t.power.trans = none ∧ s.asserts t 3 ∧
      (req = true → t.get PWR_REQSTAT.RESULT = 2 ∧ t.get PWR_REQSTAT.REASON = 0) ∧
      (s.flag HRD_STAT.POWERED = true → s.get THM_STAT.ENFORCED = 0 →
        t.get HRD_STAT.CLK = if g = 4 then 3 else if g = 5 then 4 else 2)

/-- AUX power-on boots with cause POR, the pin levels shown, held while RESET_N is low. AUX_FAIL outside Stable, no
pair in step, shows PDN and source 0, marks the Lame cause, keeps the time; AUX_RESTORED undoes it with source 8.
POWER_DOWN_END removes the supply: cores off, registers and volatile memory lost, MRAM and flash kept (where no
commit and no programming is under way). RESET_N low holds the module with the same losses, its rise boots with
cause RESETN, 8 s low boot it masked, and RESET_MASK_CLEAR unmasks. SYS_RSTCMD with an output closed and no FORCE
only sets RSTREF, else it resets with cause SOFT; the watchdog resets with WDOG once its time has passed and is
restarted by its key alone; the supply monitor resets with SUPPLY. RIDERS_START starts each core at its entry
point, no memory but the Herd's changed; a failed self-test starts none, and BOOT_AGAIN boots anew. -/
def Obligations.SupplyAndResets : Prop :=
  ∀ s : State,
    let still : Prop := s.nvm.running = none ∧ ∀ b, s.upd.job ≠ .prog b true
    (∀ seat w r : Bool, s.get SYS_PWRSTAT.AUX_OK = 0 → s.get SYS_PWRSTAT.PDN = 0 →
      ∃ t, exec (.auxPowerOn seat w r) s = .next t ∧ t.sys.on = true ∧ (r = true → t.rebooted) ∧
        (r = false → t.sys.held = true ∧ t.coresOff) ∧ t.get SYS_RSTCAUSE.POR = 1 ∧
        t.get SYS_PWRSTAT.AUX_OK = 1 ∧ t.get SYS_PWRSTAT.SEATPIN = b2n seat ∧ t.get SYS_PWRSTAT.WAKEN = b2n w ∧
        t.get SYS_PWRSTAT.RSTN = b2n r) ∧
    (s.get SYS_PWRSTAT.AUX_OK ≠ 0 → s.gait ≠ Gait.stable → s.inReset = false → s.inStep = false → s.mainOn = false →
      ∃ t, exec .auxFail s = .next t ∧ s.sameRest t ∧ t.get SYS_PWRSTAT.AUX_OK = 0 ∧ t.get SYS_PWRSTAT.PDN = 1 ∧
        t.get SYS_PWRSTAT.CHG = 0 ∧ t.sys.pdnAt = some s.nowUs ∧ s.asserts t 0 ∧ s.lameBegins t LameCause.aux) ∧
    (s.get SYS_PWRSTAT.PDN ≠ 0 → ∃ t, exec .auxRestored s = .next t ∧ s.sameRest t ∧ t.get SYS_PWRSTAT.PDN = 0 ∧
      t.get SYS_PWRSTAT.AUX_OK = 1 ∧ t.get SYS_PWRSTAT.CHG = 1 ∧ t.sys.pdnAt = none ∧ s.asserts t 8 ∧
      t.power.lameCauses.testBit LameCause.aux = false) ∧
    (∀ low : Bool, let idle : Prop := s.contactorOn = false ∧ s.nvmBusy = false ∧
        ∃ x, s.sys.pdnAt = some x ∧ x + 100000 ≤ s.nowUs
      (s.get SYS_PWRSTAT.PDN ≠ 0 → low = true ∨ idle → ∃ t, exec (.powerDownEnd low) s = .next t ∧ t.sys.on = false ∧
        t.coresOff ∧ t.regs = [] ∧ (still → s.lostRam t)) ∧
      (s.get SYS_PWRSTAT.PDN = 0 ∨ (low = false ∧ ¬ idle) → exec (.powerDownEnd low) s = .next s)) ∧
    (s.sys.on = true → s.gait ≠ Gait.stable → s.get SYS_PWRSTAT.RSTN_MASK = 0 →
      ∃ t, exec .resetNAssert s = .next t ∧ t.coresOff ∧ t.sys.held = true ∧ t.get SYS_PWRSTAT.RSTN = 0 ∧
        (still → s.lostRam t) ∧ t.get SYS_RSTCAUSE.RESETN = s.get SYS_RSTCAUSE.RESETN) ∧
    (s.sys.held = true → (∃ t, exec .resetNRelease s = .next t ∧ t.rebooted ∧ t.get SYS_RSTCAUSE.RESETN = 1) ∧
      ∃ t, exec .resetNStuck s = .next t ∧ t.rebooted ∧ t.get SYS_PWRSTAT.RSTN_MASK = 1) ∧
    (s.get SYS_PWRSTAT.RSTN_MASK ≠ 0 → ∃ t, exec .resetMaskClear s = .next t ∧ s.sameRest t ∧
      t.get SYS_PWRSTAT.RSTN_MASK = 0 ∧ t.get SYS_PWRSTAT.RSTN = 1) ∧
    (∀ (c : Core) (force : Bool), s.storesReg c SYS_RSTCMD.KEY.addr →
      (s.mainOn = true → force = false → ∃ t, exec (.softwareReset c force) s = .next t ∧ s.sameRest t ∧
        t.get SYS_PWRSTAT.RSTREF = 1) ∧
      (s.mainOn = false ∨ force = true → ∃ t, exec (.softwareReset c force) s = .next t ∧ t.rebooted ∧
        t.get SYS_RSTCAUSE.SOFT = 1)) ∧
    (∀ (c : Core) (v : Word), s.storesReg c SYS_WDKEY.KEY.addr → ∃ t, exec (.sysWdkey c v) s = .next t ∧
      s.sameRest t ∧ t.regs = s.regs ∧
      t.sys.wdTicks = if v = 0x6A3C ∧ s.get SYS_WDCFG.EN ≠ 0 then 0 else s.sys.wdTicks) ∧
    (let due : Prop := s.alive = true ∧ s.get SYS_WDCFG.EN ≠ 0 ∧ 10 * s.get SYS_WDCFG.TMO ≤ s.sys.wdTicks
     (due → ∃ t, exec .systemWatchdogExpiry s = .next t ∧ t.rebooted ∧ t.get SYS_RSTCAUSE.WDOG = 1) ∧
     (¬ due → exec .systemWatchdogExpiry s = .next s)) ∧
    (s.alive = true → s.get SYS_PWRSTAT.AUX_OK ≠ 0 → ∃ t, exec .supplyMonitorReset s = .next t ∧ t.rebooted ∧
      t.get SYS_RSTCAUSE.SUPPLY = 1) ∧
    (s.alive = true → s.sys.booting = true → s.sys.failed = false →
      (let at_ (e : Nat) : CoreSt := { CoreSt.reset with pc := BitVec.ofNat 32 (e / 4 * 4) }
        ∃ t, exec (.ridersStart true) s = .next t ∧ t.sys.booting = false ∧ t.r0 = at_ s.sys.entry0 ∧
          t.r1 = at_ s.sys.entry1 ∧ t.grm = at_ s.sys.entryG ∧
          ∀ a, a < 0x30000000 ∨ 0x30380000 ≤ a → t.byte a = s.byte a) ∧
      ∃ t, exec (.ridersStart false) s = .next t ∧ s.sameRest t ∧ t.sys.failed = true ∧ t.sys.booting = true) ∧
    (s.alive = true → s.sys.booting = true → s.sys.failed = true →
      ∃ t, exec .bootAgain s = .next t ∧ t.rebooted ∧ t.get SYS_RSTCAUSE.POR = s.get SYS_RSTCAUSE.POR % 2)

/-- Six counts whose temperatures are in range, within 15 °C of each other and below 150 °C, with no sensor faulty:
THM_DIE shows them, THM_HOT the hottest, SENS_FAULT 0; at LEVEL the throttle request sets with source 9 and the
grace timer, below LEVEL - HYST it clears; R is RMIN without headroom and RMAX from HFULL on. A reading at 150 °C
shuts the module down with DIE_PAST. Grace expiry, once the grace time of the request has passed, with the request
standing enforces with source 10; release after it ends enforcement with source 11. A die shutdown ends with some
reading of a sensor that is not faulty, and every such reading below 125 °C. An HV converter trip latches with
source 12, an HV warning raises source 14 once per rise of its sensor. A refill adds R/100 tokens to at most 50 000
with the Herd powered. -/
def Obligations.HeatActs : Prop :=
  (∀ (n0 n1 n2 n3 n4 n5 : Nat) (d0 d1 d2 d3 d4 d5 h : Int) (v0 v1 : Option Int) (s : State), s.gait ≠ Gait.stable → s.sys.on = true →
    s.inReset = false → s.thermal.devFault = 0 → s.thermal.unknown = false →
    let d : List Int := [d0, d1, d2, d3, d4, d5]
    [dieTemp 0 n0, dieTemp 1 n1, dieTemp 2 n2, dieTemp 3 n3, dieTemp 4 n4, dieTemp 5 n5] = d.map some → (∀ x ∈ d, ∀ y ∈ d, -5500 ≤ x ∧ x ≤ 17500 ∧ x - y ≤ 1500) → h ∈ d → (∀ x ∈ d, x ≤ h) →
    let cmd : Instr := .thmSensorWindow n0 n1 n2 n3 n4 n5 v0 v1
    (h < 15000 → ∃ t, exec cmd s = .next t ∧ s.sameRest t ∧ (∀ i < 6, t.get (THM_DIE.TEMP i) = enc 16 (d.getD i 0)) ∧
      t.get THM_HOT.TEMP = enc 16 h ∧ t.get THM_STAT.SENS_FAULT = 0 ∧
      (s.get THM_STAT.THROT_REQ = 0 → 100 * (s.get THM_THROT.LEVEL : Int) ≤ h →
        t.get THM_STAT.THROT_REQ = 1 ∧ t.get THM_STAT.GRACE_RUN = 1 ∧ s.asserts t 9) ∧
      (s.get THM_STAT.THROT_REQ ≠ 0 → h < 100 * (s.get THM_THROT.LEVEL : Int) - 100 * s.get THM_THROT.HYST →
        t.get THM_STAT.THROT_REQ = 0 ∧ t.get THM_STAT.GRACE_RUN = 0) ∧
      (s.get THM_STAT.ENFORCED = 0 → 0 < s.get THM_HFULL.HFULL →
        (100 * (s.get THM_THROT.LEVEL : Int) ≤ h → t.get THM_RATE.R = s.get THM_REFILL.RMIN % 2 ^ 16) ∧
        (h + 100 * s.get THM_HFULL.HFULL ≤ 100 * (s.get THM_THROT.LEVEL : Int) →
          t.get THM_RATE.R = s.get THM_REFILL.RMAX % 2 ^ 16))) ∧
    (15000 ≤ h → ∃ t, exec cmd s = .next t ∧ t.coresOff ∧ t.sys.dieOff = true ∧ t.get THM_LATCH.DIE_PAST = 1)) ∧
  ∀ s : State,
    (s.get THM_STAT.GRACE_RUN ≠ 0 → s.get THM_STAT.THROT_REQ ≠ 0 → s.get THM_STAT.ENFORCED = 0 →
      s.thermal.graceAt ≤ s.nowUs → ∃ t, exec .thmGraceExpiry s = .next t ∧ s.sameRest t ∧ t.get THM_STAT.ENFORCED = 1 ∧
        t.get THM_STAT.GRACE_RUN = 0 ∧ s.asserts t 10) ∧
    (s.thermal.restore = true → ∃ t, exec .thmRelease s = .next t ∧ s.sameRest t ∧ t.get THM_STAT.ENFORCED = 0 ∧
      t.thermal.restore = false ∧ s.asserts t 11) ∧
    (s.thermal.restore = false → exec .thmRelease s = .next s) ∧
    (s.nowUs < s.thermal.graceAt → exec .thmGraceExpiry s = .next s) ∧
    (∀ n0 n1 n2 n3 n4 n5 : Nat, s.sys.dieOff = true →
      let rs := [dieTemp 0 n0, dieTemp 1 n1, dieTemp 2 n2, dieTemp 3 n3, dieTemp 4 n4, dieTemp 5 n5]
      let valid (x : Int) : Prop := ∃ i < 6, rs.getD i none = some x ∧ (s.thermal.window rs).faulty i = false
      ((∃ x, valid x) → (∀ x, valid x → x < 12500) →
        ∃ t, exec (.dieRestart n0 n1 n2 n3 n4 n5) s = .next t ∧ t.rebooted ∧ t.get SYS_RSTCAUSE.THERM = 1) ∧
      ((∀ x, ¬ valid x) ∨ (∃ x, valid x ∧ 12500 ≤ x) →
        ∃ t, exec (.dieRestart n0 n1 n2 n3 n4 n5) s = .next t ∧ s.sameRest t ∧ t.sys = s.sys ∧ t.regs = s.regs)) ∧
    (s.get THM_LATCH.HV_CONV = 0 → 2 ≤ s.gait → ∃ t, exec .hvConverterTrip s = .next t ∧
      t.get THM_LATCH.HV_CONV = 1 ∧ s.asserts t 12 ∧ t.get HVM_STAT.READY = 0 ∧ t.get HVM_STAT.SUPPLY_OK = 0 ∧
      t.crb.alive = false) ∧
    (let hot (k : Nat) : Prop := s.get (THM_HV.TEMP k) ≠ 0x8000 ∧ 10500 ≤ sgn 16 (s.get (THM_HV.TEMP k))
     (∀ k : Fin 2, hot k.val → s.thermal.hvWarm.testBit k = false → ∃ t, exec .hvTempWarn s = .next t ∧ s.sameRest t ∧
        t.thermal.hvWarm.testBit k = true ∧ s.asserts t 14) ∧
      ((∀ k : Fin 2, hot k.val → s.thermal.hvWarm.testBit k = true) → exec .hvTempWarn s = .next s)) ∧
    (s.get HRD_STAT.POWERED ≠ 0 → s.herd.jobs = [] → ∃ t, exec .tokenRefill s = .next t ∧ s.sameRest t ∧
      t.get THM_BUCKET.TOKENS = min 50000 (s.get THM_BUCKET.TOKENS + (s.thermal.frac + s.get THM_RATE.R) / 100) ∧
      t.thermal.frac = (s.thermal.frac + s.get THM_RATE.R) % 100) ∧
    (s.get HRD_STAT.POWERED = 0 → exec .tokenRefill s = .next s)

/-- Outside tandem mode, with one job in the queue: HRD_ABORT of its index, or of all, and HRD_TEAMDIS newly
disabling one of its teams, end it with STATUS 0x3, its tag DONE; another index, or no newly disabled team of it,
leaves a job that HOLD keeps queued. HRD_TEAMDIS takes the mask; newly disabling a team on this module alone ends
step of a pair in step, with source 233. HRD_CTRL takes HOLD, and AUTO_EN only while a program length is set. -/
def Obligations.HerdRegisterWrites : Prop :=
  (∀ (c : Core) (v : Word) (here : Bool) (j : Job) (k : Core) (n : Nat) (s : State), s.tandem = false →
    s.herd.jobs = [j] → j.owner = some (k, n) → j.phase ≠ .ended → s.tag k n = .issued 1 →
    let ends (i : Instr) : Prop := ∃ t x, exec i s = .next t ∧ t.herd.jobs = [] ∧
      t.tag k n = .done (completionWord 0 3 1 n) x
    let stays (i : Instr) : Prop := s.flag HRD_CTRL.HOLD = true → j.phase = .queued → ∃ t x, exec i s = .next t ∧
      t.herd.jobs = [x] ∧ x.phase = .queued ∧ x.index = j.index ∧ s.sameRest t
    let newly : Nat := andNot 32 v.toNat (s.get HRD_TEAMDIS.TEAMS)
    (s.storesReg c HRD_ABORT.ALL.addr →
      (v.getLsbD 31 = true ∨ v.toNat % 64 = j.index → ends (.hrdAbort c v)) ∧
      (v.getLsbD 31 = false → v.toNat % 64 ≠ j.index → stays (.hrdAbort c v))) ∧
    (s.storesReg c HRD_TEAMDIS.TEAMS.addr →
      (j.teams &&& newly ≠ 0 → ends (.hrdTeamdisWrite c v here)) ∧
      (j.teams &&& newly = 0 → stays (.hrdTeamdisWrite c v here)))) ∧
  (∀ (c : Core) (v : Word) (here : Bool) (s : State), s.storesReg c HRD_TEAMDIS.TEAMS.addr → s.herd.jobs = [] →
    ∃ t, exec (.hrdTeamdisWrite c v here) s = .next t ∧ s.sameRest t ∧ t.get HRD_TEAMDIS.TEAMS = v.toNat ∧
      (here = true → s.inStep = true → andNot 32 v.toNat (s.get HRD_TEAMDIS.TEAMS) ≠ 0 →
        t.get TDM_FLT.LOCAL = 1 ∧ t.get TDM_STAT.STATE = Pair.alone ∧ s.asserts t 233) ∧
      (here = false → t.get TDM_STAT.STATE = s.get TDM_STAT.STATE)) ∧
  ∀ (c : Core) (v : Word) (s : State), s.storesReg c HRD_CTRL.HOLD.addr →
    ∃ t, exec (.hrdCtrlWrite c v) s = .next t ∧ s.sameRest t ∧ t.get HRD_CTRL.HOLD = b2n (v.getLsbD 1) ∧
      t.get HRD_CTRL.AUTO_EN = b2n (v.getLsbD 0 && decide (s.get HRD_AUTOCFG.PLEN ≠ 0))

/-- A valid protection sample uses the low range unless HIONLY, LOW_DIS, an overload or more than 95 % of its scale
forbids it, and HVM_IPROT reads (shunt voltage - offset) / R, rounded half away from zero and saturated; without a
valid section it reads the not-available code. A damaged frame of the link is counted. A fine sample of 16 valid
ones makes HVM_IFINE their mean and HVM_VBAT that of 16 voltages, and the 64-bit charge counter grows by it modulo
2^64, or restarts at 0 after QCLR; an invalid one, or one cut short by a loss of the section, adds nothing and sets
QGAP; a shorter window gives none. Overload shows with source 138 once. A fast sample beyond its level is cause FOC
at once. 100 failed comparisons disable the low range until RANGE_RESET. The zero trim refuses a closed contactor
and more than 20 uV. A read of HVM_QLO holds the high word. -/
def Obligations.CurrentAndChargeMeasurement : Prop :=
  let code (i : Int) : Nat := enc 32 (max (1 - 2 ^ 31) (min (2 ^ 31 - 1) i))
  (∀ (low high : Int) (bad : Nat) (lo ho : Bool) (s : State),
    (s.pllGated Pll.hv = false → s.hvValid = true →
      let useLow : Prop := s.get HVM_CTRL.HIONLY = 0 ∧ s.get HVM_STAT.LOW_DIS = 0 ∧ lo = false ∧
        100 * low.natAbs ≤ 95 * 7500000
      let sat : Int := if ho = true then (if high < 0 then -75000000 else 75000000) else
        max (-75000000) (min 75000000 high)
      ∃ t, exec (.protectionSample low high ⟨lo, ho⟩ bad) s = .next t ∧ t.hvm.win.length ≤ 16 ∧
        t.get HVM_LINKERR.COUNT = min 0xFFFFFFFF (s.get HVM_LINKERR.COUNT + bad) ∧
        (useLow → t.get HVM_STAT.RANGE = 1 ∧ t.crb.latest = some (s.shuntMa low) ∧
          t.get HVM_IPROT.VAL = code (s.shuntMa low)) ∧
        (¬ useLow → t.get HVM_STAT.RANGE = 0 ∧ t.crb.latest = some (s.shuntMa sat) ∧
          t.get HVM_IPROT.VAL = code (s.shuntMa sat))) ∧
    (s.pllGated Pll.hv = false → s.hvValid = false →
      ∃ t, exec (.protectionSample low high ⟨lo, ho⟩ bad) s = .next t ∧
        t.get HVM_IPROT.VAL = 0x80000000 ∧ t.crb.latest = none) ∧
    (s.pllGated Pll.hv = true → exec (.protectionSample low high ⟨lo, ho⟩ bad) s = .next s)) ∧
  (∀ (bat link mid : Vector Int 16) (past : Bool) (s : State),
    let q : Int := (s.get HVM_QHI.VAL : Int) * 2 ^ 32 + s.get HVM_QLO.VAL
    let runs : Prop := s.hvPowered = true ∧ (s.get HVM_STAT.READY ≠ 0 ∨ s.get THM_LATCH.HV_CONV ≠ 0)
    (¬ runs ∨ (s.hvValid = true ∧ s.hvm.win.length < 16) → exec (.fineSample bat link mid past) s = .next s) ∧
    (∀ xs : List Int, runs → s.hvValid = true → s.hvm.win.length = 16 → s.hvm.win.map (·.ma) = xs.map some →
      ∃ t, exec (.fineSample bat link mid past) s = .next t ∧ t.hvm.win = [] ∧ t.get HVM_IFINE.VAL = code (divRound xs.sum 16) ∧
        (s.vinv 0 = false → ∀ m : Nat, divRound bat.toList.sum 16 = m → m ≤ 1750000 → t.get HVM_VBAT.VAL = m) ∧
        ((t.get HVM_QHI.VAL : Int) * 2 ^ 32 + t.get HVM_QLO.VAL = if s.hvm.qclr = true then 0 else
          (q + divRound xs.sum 16) % 2 ^ 64)) ∧
    (runs → s.hvValid = false ∨ (16 ≤ s.hvm.win.length ∧ ∃ p ∈ s.hvm.win, p.ma = none) →
      ∃ t, exec (.fineSample bat link mid past) s = .next t ∧ t.get HVM_IFINE.VAL = 0x80000000 ∧ t.get HVM_FLT.QGAP = 1 ∧
        (t.get HVM_QHI.VAL : Int) * 2 ^ 32 + t.get HVM_QLO.VAL = if s.hvm.qclr = true then 0 else q % 2 ^ 64)) ∧
  ∀ s : State,
    (s.hvValid = true → ∃ t, exec .hvOverload s = .next t ∧ s.sameRest t ∧ t.get HVM_STAT.OVLD_HI = 1 ∧
      (s.get HVM_STAT.OVLD_HI = 0 → t.get HVM_FLT.OVLD = 1 ∧ s.asserts t 138)) ∧
    (∀ nv : Int, s.get PRT_STAT.VALID ≠ 0 → s.hvClocked = true →
      let i := s.shuntMa (max (-75000000) (min 75000000 nv))
      let trips : Prop := 1000 * (s.act PRT_OC_FAST.CHG : Int) < i ∨ i < -(1000 * (s.act PRT_OC_FAST.DCH : Int))
      (trips → exec (.fastOcTrip nv) s =
        .next ((s.setBitOf CRB_INPUT.CAUSES 0).curbCause Cause.foc .sii false)) ∧
      (¬ trips → s.crb.alive = false → exec (.fastOcTrip nv) s = .next s)) ∧
    (100 ≤ s.hvm.rangeRun → s.get HVM_STAT.LOW_DIS = 0 → ∃ t, exec .rangeCompareFail s = .next t ∧
      t.get HVM_FLT.RANGE = 1 ∧ t.get HVM_STAT.LOW_DIS = 1 ∧ s.asserts t 130) ∧
    (s.hvm.rangeRun < 100 → exec .rangeCompareFail s = .next s) ∧
    (s.get HVM_STAT.ZERO_BUSY ≠ 0 → 16000 ≤ s.hvm.zn ∨ s.hvm.zbad = true →
      ∃ t, exec .zeroTrimDone s = .next t ∧ s.sameRest t ∧ t.get HVM_STAT.ZERO_BUSY = 0 ∧
        let mean := divRound s.hvm.zsum s.hvm.zn
        (s.hvm.zbad = true ∨ 20000 < mean.natAbs → t.get HVM_FLT.ZERO_FAIL = 1 ∧ t.get HVM_IOFS.OFS = s.get HVM_IOFS.OFS) ∧
        (s.hvm.zbad = false → mean.natAbs ≤ 20000 → t.get HVM_IOFS.OFS = enc 32 mean)) ∧
    ∀ c : Core, (s.storesReg c HVM_CMD.ZERO.addr →
      (∃ t, exec (.zero c) s = .next t ∧ s.sameRest t ∧
        (s.get HVM_STAT.ZERO_BUSY = 0 → s.mainOn = true → t.get HVM_FLT.ZERO_FAIL = 1 ∧ t.get HVM_STAT.ZERO_BUSY = 0) ∧
        (s.get HVM_STAT.ZERO_BUSY = 0 → s.mainOn = false → t.get HVM_STAT.ZERO_BUSY = 1 ∧ t.hvm.zn = 0 ∧ t.hvm.zsum = 0)) ∧
      (∃ t, exec (.rangeReset c) s = .next t ∧ s.sameRest t ∧ t.get HVM_STAT.LOW_DIS = 0 ∧ t.hvm.rangeRun = 0) ∧
      ∃ t, exec (.qclr c) s = .next t ∧ s.sameRest t ∧ t.hvm.qclr = true ∧ t.regs = s.regs) ∧
      (s.loadsReg c HVM_QLO.VAL.addr → s.tandem = false ∨ c = .grm → ∃ t, exec (.hvmQloRead c) s = .next t ∧
        s.sameRest t ∧ t.rdata = BitVec.ofNat 32 (s.get HVM_QLO.VAL) ∧ t.hvm.qhold = some (s.get HVM_QHI.VAL))

/-- A reversed channel, or MID above BAT for 16 samples, becomes invalid with source 133, and valid again after 160
good samples. A Hall sample shows its current, saturated; a failed check for 1 ms, or silence, ends HALL_OK with
source 132, once until the next good sample; a mismatch for HVM_DIV.TIME sets DIV_MISMATCH and source 129. The
alive code missing for 4 us under supervision, or 50 ms after power-up, is cause FOC; its start begins supervision.
Three missing frames are a link loss; it and a supply fault invalidate every value, with sources 128 and 131;
restored link and readiness end them, READY with source 140. HVM_CTRL takes its enables, HALL_EN only with a gain;
HVM_HALLGAIN refuses 0 while HALL_EN is 1. -/
def Obligations.HvSupervisionActs : Prop :=
  ∀ s : State,
    (∀ ch : BitVec 2, ch.toNat < 3 →
      (s.vinv ch.toNat = false → s.hvm.rev.testBit ch.toNat = true ∨ (ch = 2 ∧ 16 ≤ s.hvm.midRun) →
        ∃ t, exec (.voltageChannelInvalid ch) s = .next t ∧ s.sameRest t ∧ t.vinv ch.toNat = true ∧
          t.get HVM_FLT.VPLAUS = 1 ∧ s.asserts t 133 ∧
          t.get (if ch = 0 then HVM_VBAT.VAL else if ch = 1 then HVM_VLINK.VAL else HVM_VMID.VAL) = 0xFFFFFFFF) ∧
      (s.vinv ch.toNat = true → 160 ≤ s.hvm.good.getD ch.toNat 0 →
        ∃ t, exec (.voltageChannelRecover ch) s = .next t ∧ s.sameRest t ∧ t.vinv ch.toNat = false)) ∧
    (∀ (uv : Int) (ua : Nat) (next : Bool), s.get HVM_CTRL.HALL_EN ≠ 0 → s.hvPowered = true → uv.natAbs ≤ 4100000 → 2000 ≤ ua → ua ≤ 60000 →
      ∃ t, exec (.hallSample ⟨uv, ua⟩ next) s = .next t ∧ s.sameRest t ∧ t.get HVM_STAT.HALL_OK ≠ 0 ∧
        t.get HVM_IHALL.VAL =
          enc 32 (max (1 - 2 ^ 31) (min (2 ^ 31 - 1)
            (divRound ((uv - 100 * s.hvGeti HVM_HALLOFS.OFS) * s.hvGeti HVM_HALLGAIN.GAIN) 1000000)))) ∧
    (∀ silent : Bool, s.hvm.hallFlt = true → exec (.hallFault silent) s = .next s) ∧
    (∀ silent : Bool, s.get HVM_CTRL.HALL_EN ≠ 0 → s.hvPowered = true → s.hvm.hallFlt = false →
      silent = true ∨ 16 ≤ s.hvm.hallBad → ∃ t, exec (.hallFault silent) s = .next t ∧ s.sameRest t ∧ t.get HVM_STAT.HALL_OK = 0 ∧
        t.get HVM_IHALL.VAL = 0x80000000 ∧ t.get HVM_FLT.HALL = 1 ∧ s.asserts t 132) ∧
    (16 * s.hvGet HVM_DIV.TIME ≤ s.hvm.divRun → s.get HVM_STAT.DIV_MISMATCH = 0 →
      ∃ t, exec .diversityMismatch s = .next t ∧ t.get HVM_STAT.DIV_MISMATCH = 1 ∧ t.get HVM_FLT.DIV = 1 ∧
        s.asserts t 129) ∧
    (s.crb.alive = true → ∃ t, exec .aliveCodeLoss s = .next t ∧ t.crb.alive = false ∧
      (s.curb ≠ Curb.boot → t.get CRB_CAUSE.WORD / 256 % 256 = Cause.foc) ∧ t.bitOf CRB_INPUT.CAUSES 0 = true) ∧
    (s.crb.alive = false → exec .aliveCodeLoss s = .next s) ∧
    (s.crb.alive = false → s.hvPowered = true → ∃ t, exec .aliveCodeStartupTimeout s = .next t ∧
      t.bitOf CRB_INPUT.CAUSES 0 = true ∧ (s.curb ≠ Curb.boot → t.get CRB_CAUSE.WORD / 256 % 256 = Cause.foc)) ∧
    (s.hvPowered = true → ∃ t, exec .aliveCodeStart s = .next t ∧ s.sameRest t ∧ t.crb.alive = true ∧
      t.bitOf CRB_INPUT.CAUSES 0 = false) ∧
    (let invalid (t : State) : Prop := t.get HVM_IPROT.VAL = 0x80000000 ∧ t.get HVM_IFINE.VAL = 0x80000000 ∧
       t.get HVM_VBAT.VAL = 0xFFFFFFFF ∧ t.get HVM_VLINK.VAL = 0xFFFFFFFF ∧ t.get HVM_VMID.VAL = 0xFFFFFFFF ∧
       t.get HVM_STAT.ISO_VALID = 0
     (s.get HVM_STAT.LINK_OK ≠ 0 → ∃ t, exec .isolatorLinkLoss s = .next t ∧ invalid t ∧ t.get HVM_STAT.LINK_OK = 0 ∧
       t.get HVM_LINKERR.COUNT = min 0xFFFFFFFF (s.get HVM_LINKERR.COUNT + 3) ∧ t.get HVM_FLT.LINK_LOSS = 1 ∧ s.asserts t 128) ∧
     (s.get HVM_STAT.SUPPLY_OK ≠ 0 → ∃ t, exec .hvSupplyFault s = .next t ∧ invalid t ∧ t.get HVM_STAT.SUPPLY_OK = 0 ∧
       t.get HVM_FLT.SUPPLY = 1 ∧ s.asserts t 131)) ∧
    (s.hvPowered = true → s.get THM_LATCH.HV_CONV = 0 →
      (∃ t, exec .isolatorLinkRestored s = .next t ∧ s.sameRest t ∧ t.get HVM_STAT.LINK_OK = 1) ∧
      (s.get HVM_STAT.READY = 0 → ∃ t, exec .hvSectionReady s = .next t ∧ s.sameRest t ∧ t.get HVM_STAT.READY = 1 ∧
        t.get HVM_STAT.LINK_OK = 1 ∧ t.get HVM_STAT.SUPPLY_OK = 1 ∧ s.asserts t 140)) ∧
    ∀ (c : Core) (v : Word),
      (s.storesReg c HVM_CTRL.INJ_EN.addr → ∃ t, exec (.hvmCtrlWrite c v) s = .next t ∧ s.sameRest t ∧
        t.get HVM_CTRL.INJ_CLAIM = b2n (v.getLsbD 8) ∧ t.get HVM_CTRL.HIONLY = b2n (v.getLsbD 4) ∧
        t.get HVM_CTRL.DIV_EN = b2n (v.getLsbD 2) ∧ t.get HVM_CTRL.INJ_EN = b2n (v.getLsbD 0) ∧
        (s.get HVM_CTRL.HALL_EN = 0 → t.get HVM_CTRL.HALL_EN = b2n (v.getLsbD 1 && decide (s.get HVM_HALLGAIN.GAIN ≠ 0))) ∧
        (v.getLsbD 1 = false → t.get HVM_CTRL.HALL_EN = 0 ∧ t.get HVM_STAT.HALL_OK = 0)) ∧
      (s.storesReg c HVM_HALLGAIN.GAIN.addr → ∃ t, exec (.hvmHallgainWrite c v) s = .next t ∧ s.sameRest t ∧
        t.get HVM_HALLGAIN.GAIN = if v = 0 ∧ s.get HVM_CTRL.HALL_EN ≠ 0 then s.get HVM_HALLGAIN.GAIN else v.toNat)

/-- PCH_ARM and PCH_ABORT act at the next fine sample: PCH_ARM while not armed starts the check with both voltages
valid and at least 50 V, else it fails with reason 3; PCH_ABORT of an armed or passed check idles it with reason 6.
An armed check passes after 160 good samples with source 136, fails with reason 2 on a link below 5 % at a quarter
of TIME and with reason 1 after TIME; a passed one fails with reason 5 after 160 low samples; each failure raises
source 137. An insulation period with injection on and no output moved gives 2000 dV / (100 V - dV) kohm, kept to
10 to 50 000 with BELOW and ABOVE for the exact value, and source 134; with an output moved it gives none. 30 s
without a value end its validity with source 135. -/
def Obligations.PrechargeAndInsulation : Prop :=
  ∀ s : State,
    (∀ c : Core, s.storesReg c HVM_CMD.PCH_ARM.addr →
      (∃ t, exec (.pchArm c) s = .next t ∧ s.sameRest t ∧ t.hvm.pchReq = 1 ∧ t.regs = s.regs) ∧
      ∃ t, exec (.pchAbort c) s = .next t ∧ s.sameRest t ∧ t.hvm.pchReq = 2 ∧ t.regs = s.regs) ∧
    (∀ (bat link mid : Vector Int 16) (past : Bool), s.hvPowered = true → s.get HVM_STAT.READY ≠ 0 → s.hvValid = true → 16 ≤ s.hvm.win.length →
      s.hvm.pchReq ≠ 0 → ∃ t, exec (.fineSample bat link mid past) s = .next t ∧ t.hvm.pchReq = 0 ∧
        (s.hvm.pchReq = 1 → s.get HVM_PCHSTAT.STATE ≠ 1 →
          let good : Prop := t.get HVM_VLINK.VAL ≠ 0xFFFFFFFF ∧ t.get HVM_VBAT.VAL ≠ 0xFFFFFFFF ∧
            50000 ≤ t.get HVM_VBAT.VAL
          (good → t.get HVM_PCHSTAT.STATE = 1 ∧ t.get HVM_PCHSTAT.REASON = 0 ∧ t.get HVM_PCHSTAT.ELAPSED = 0) ∧
          (¬ good → t.get HVM_PCHSTAT.STATE = 3 ∧ t.get HVM_PCHSTAT.REASON = 3 ∧ s.asserts t 137)) ∧
        (s.hvm.pchReq = 2 →
          (s.get HVM_PCHSTAT.STATE = 1 ∨ s.get HVM_PCHSTAT.STATE = 2 →
            t.get HVM_PCHSTAT.STATE = 0 ∧ t.get HVM_PCHSTAT.REASON = 6) ∧
          (s.get HVM_PCHSTAT.STATE = 0 ∨ s.get HVM_PCHSTAT.STATE = 3 →
            t.get HVM_PCHSTAT.STATE = s.get HVM_PCHSTAT.STATE))) ∧
    (let goes (i : Instr) (st reason src : Nat) : Prop := ∃ t, exec i s = .next t ∧ s.sameRest t ∧
       t.get HVM_PCHSTAT.STATE = st ∧ t.get HVM_PCHSTAT.REASON = reason ∧ s.asserts t src
     let b := s.get HVM_VBAT.VAL
     let l := s.get HVM_VLINK.VAL
     (s.get HVM_PCHSTAT.STATE = 1 →
       (160 ≤ s.hvm.pchRun → goes .prechargePass 2 0 136) ∧ (s.hvm.pchRun < 160 → exec .prechargePass s = .next s) ∧
       (b ≠ 0xFFFFFFFF → l ≠ 0xFFFFFFFF → s.hvm.pchN = 4 * s.get HVM_PCHCFG.TIME → 100 * l < 5 * b →
         goes .prechargeLinkShort 3 2 137) ∧
       (s.hvm.pchN ≠ 4 * s.get HVM_PCHCFG.TIME → exec .prechargeLinkShort s = .next s) ∧
       (16 * s.get HVM_PCHCFG.TIME ≤ s.hvm.pchN → goes .prechargeTimeout 3 1 137) ∧
       (s.hvm.pchN < 16 * s.get HVM_PCHCFG.TIME → exec .prechargeTimeout s = .next s)) ∧
     (s.get HVM_PCHSTAT.STATE = 2 → (160 ≤ s.hvm.dropRun → goes .prechargeDrop 3 5 137) ∧
       (s.hvm.dropRun < 160 → exec .prechargeDrop s = .next s))) ∧
    (∀ (vp vn : Int) (resid : Bool), s.injOn = true →
      let dv := vp - vn
      (s.crb.doMoved = false → ∃ t, exec (.insulationPeriodEnd vp vn resid) s = .next t ∧ s.asserts t 134 ∧
        t.get HVM_ISO.CAPHIGH = b2n resid ∧
        (dv < 100000 → resid = false →
          let k := divRound (2000 * dv) (100000 - dv).toNat
          t.get HVM_ISO.RKOHM = (max 10 (min 50000 k)).toNat ∧ 
          t.get HVM_ISO.BELOW = b2n (decide (2000 * dv < 10 * (100000 - dv))) ∧
          t.get HVM_ISO.ABOVE = b2n (decide (50000 * (100000 - dv) < 2000 * dv)) ∧ t.get HVM_ISO.VALID = 1 ∧ t.get HVM_STAT.ISO_VALID = 1)) ∧
      (s.crb.doMoved = true → ∃ t, exec (.insulationPeriodEnd vp vn resid) s = .next t ∧ s.sameRest t ∧
        t.regs = s.regs ∧ t.crb.doMoved = false)) ∧
    (s.injOn = true → s.get HVM_STAT.ISO_VALID ≠ 0 → ∃ t, exec .insulationTimeout s = .next t ∧ s.sameRest t ∧
      t.get HVM_STAT.ISO_VALID = 0 ∧ t.get HVM_ISO.VALID = 0 ∧ t.get HVM_ISO.RKOHM = 0xFFFF ∧
      t.get HVM_FLT.ISO_INVALID = 1 ∧ s.asserts t 135)

/-- A unit that is awake with an address answers on the side a request came from, with its tag: PING with its
address; READ_BLOCK with the sample of the sweep asked for, else NAK 0x03; READ_REG with the registers, NAK 0x04
where one is undefined; WRITE_REG by writing, NAK 0x04 for a read-only or undefined register and 0x02 for a value
out of range, both writing nothing; BLEED_SET by setting the switches not under EXCITE; OWT at its end, NAK 0x05
during OWT or EXCITE; EXCITE by arming the sequence, NAK 0x02 out of range; FAULT_ACK by ceasing to emit. A
broadcast is acted on and forwarded, not answered. Any of these frames: for another address it is forwarded,
damaged it is counted in ERR, with a wrong LEN it meets NAK 0x02, and a sleeping unit ignores it. As a repeater the
module passes it on to the other port, but answers a PING to address 0 on its South port. Only that unit changes.
-/
def Obligations.UnitsAnswerRequests : Prop :=
  let reqs (w i n st ch rp : BitVec 8) (ws : List Word) (m : BitVec 16) : List ((Hop → Instr) × Nat × List Nat) :=
    [(.ping, 2, []), (fun g => .readBlock g w, 4, [w.toNat]), (fun g => .readReg g i n, 5, [i.toNat, n.toNat]),
      (fun g => .writeReg g.side g.head i ws, 6, [i.toNat, ws.length] ++ ws.flatMap fun v => leBytes 4 v.toNat),
      (fun g => .bleedSet g.side g.head m, 7, leBytes 2 m.toNat), (.owt, 8, []),
      (fun g => .excite g.side g.head m st ch rp, 9, leBytes 2 m.toNat ++ [st.toNat, ch.toNat, rp.toNat]), (fun g => .faultAck g.side g.head, 10, []),
      (.sleep, 11, [])]
  (∀ (h : Hop) (s : State), h.unit ≠ 0 →
    let x := s.unit h.unit
    let y : UnitSt := { x with out := [] }
    let own : Hop := { h with dest := x.addr, rx := .good, lenOk := true }
    let all : Hop := { h with dest := 0x3F, rx := .good, lenOk := true }
    let acts (i : Instr) (p : UnitSt → Prop) : Prop := ∃ t, exec i s = .next t ∧ t = { s with units := t.units } ∧
      (∀ v, v ≠ h.unit → t.unit v = s.unit v) ∧ p (t.unit h.unit)
    let answers (i : Instr) (y : UnitSt) (cmd : Nat) (payload : List Nat) : Prop :=
      acts i fun z => z = { y with resp := some (h.south, ⟨h.tag, y.addr + 128, cmd, payload⟩) }
    let sent (d cmd : Nat) (p : List Nat) : List (Bool × LineSym) := [(!h.south, .frame ⟨h.tag, d, cmd, p⟩)]
    (∀ (w i n st ch rp : BitVec 8) (ws : List Word) (m : BitVec 16), ∀ r ∈ reqs w i n st ch rp ws m,
      (x.asleep = true → acts (r.1 h) fun z => z = x) ∧
      (x.asleep = false → x.addr ≠ 0x3E → x.addr ≠ 0x3F →
        (h.dest ≠ x.addr → h.dest ≠ 0x3F → acts (r.1 h) fun z => z = { x with out := sent h.dest r.2.1 r.2.2 }) ∧
        (r.2.1 ≠ 11 → answers (r.1 { own with lenOk := false }) y (r.2.1 + 128) [2]) ∧
        ∀ e : Rx, e ≠ .good → acts (r.1 { own with rx := e }) fun z =>
          z = if h.south = true then { y with errS := min 0xFFFF (x.errS + 1) }
            else { y with errN := min 0xFFFF (x.errN + 1) })) ∧
    (x.asleep = false → x.addr ≠ 0x3E → x.addr ≠ 0x3F →
      answers (.ping own) y 2 [x.addr, 1] ∧
      (∀ (w : BitVec 8) (k : Nat) (f : UnitFrame), x.sample = some (k, f) →
        (k = w.toNat → answers (.readBlock own w) y 4 ([f.ustat] ++ leBytes 4 f.stack ++ leBytes 2 f.t0 ++
          leBytes 2 f.t1 ++ f.cells.flatMap (leBytes 2))) ∧
        (k ≠ w.toNat → answers (.readBlock own w) y 0x84 [3])) ∧
      (∀ p ∈ ([(2, x.cells), (3, x.addr + 256), (4, x.ldlyN), (5, x.ldlyS), (6, x.vth), (7, x.fcfg), (8, x.qcfg),
          (9, x.bltmo), (0xA, x.bleed), (0xB, x.lock), (0xC, x.errN + 65536 * x.errS)] : List (BitVec 8 × Nat)),
        answers (.readReg own p.1 1) y 5 (p.1.toNat :: leBytes 4 p.2)) ∧
      (∀ i : BitVec 8, 0xC < i.toNat → answers (.readReg own i 1) y 0x85 [4]) ∧
      (∀ w : Word, let put (i : BitVec 8) (y : UnitSt) : Prop := answers (.writeReg own.side own.head i [w]) y 6 [i.toNat, 1]
        put 4 { y with ldlyN := w.toNat % 65536 } ∧ put 5 { y with ldlyS := w.toNat % 65536 } ∧
        put 6 { y with vth := w.toNat } ∧ put 8 { y with qcfg := w.toNat % 256 } ∧
        put 0xC { y with errN := 0, errS := 0 } ∧
        (8 ≤ w.toNat % 32 → w.toNat % 32 ≤ 16 → put 2 { y with cells := w.toNat % 32 }) ∧
        (w.toNat % 256 ≠ 0 → put 7 { y with fcfg := w.toNat % 256 }) ∧
        (w.toNat % 65536 ≠ 0 → put 9 { y with bltmo := w.toNat % 65536 }) ∧
        (w.toNat % 256 = 0 → answers (.writeReg own.side own.head 7 [w]) y 0x86 [2]) ∧
        (∀ i ∈ ([0, 1, 3, 0xA, 0xB] : List (BitVec 8)), answers (.writeReg own.side own.head i [w]) y 0x86 [4]) ∧
        acts (.writeReg all.side all.head 6 [w]) fun z =>
          z = { x with vth := w.toNat, out := sent 0x3F 6 ([6, 1] ++ leBytes 4 w.toNat) }) ∧
      (∀ m : BitVec 16, (x.exc = none → answers (.bleedSet own.side own.head m) { y with bleedCmd := m.toNat } 7 (leBytes 2 m.toNat)) ∧
        (m ≠ 0 → acts (.bleedSet all.side all.head m) fun z => z = { x with out := sent 0x3F 7 (leBytes 2 m.toNat) })) ∧
      (x.owt = false → x.exc = none → acts (.owt own) fun z => z = { y with owt := true, owtHop := some own }) ∧
      (x.owt = true ∨ x.exc ≠ none → answers (.owt own) y 0x88 [5]) ∧
      (∀ (u : BitVec 6) (o : Word) (dv : List (BitVec 16)), u.toNat = h.unit → x.owtHop = some h →
        answers (.owtUnitResponse u o dv) { x with owt := false, owtHop := none } 8
          (leBytes 4 o.toNat ++ (dv.take (x.cells + 1)).flatMap fun d => leBytes 2 d.toNat)) ∧
      (∀ (m : BitVec 16) (st chip reps : BitVec 8), m ≠ 0 →
        (1 ≤ chip.toNat → chip.toNat ≤ 20 → 1 ≤ reps.toNat → reps.toNat ≤ 8 → x.owt = false →
          answers (.excite own.side own.head m st chip reps)
            { y with exc := some ⟨m.toNat, st.toNat, chip.toNat, reps.toNat, 0x7F, 0, 0, false⟩ } 9 (leBytes 2 m.toNat)) ∧
        (20 < chip.toNat ∨ 8 < reps.toNat → answers (.excite own.side own.head m st chip reps) y 0x89 [2]) ∧
        answers (.excite own.side own.head 0 st chip reps) { y with exc := none } 9 [0, 0]) ∧
      (acts (.faultAck all.side all.head) fun z =>
        z = { x with emit := false, acked := x.ov || x.uv, out := sent 0x3F 10 [] }) ∧
      (acts (.sleep all) fun z =>
        z = { x with asleep := true, addr := 0x3E, lock := 0, out := sent 0x3F 11 [] }) ∧
      answers (.sleep own) y 0x8B [1] ∧
      ∃ p, answers (.faultAck own.side own.head) { y with emit := false, acked := x.ov || x.uv } 0xA [p])) ∧
  ∀ s : State, s.repeats = true → ∀ g : Hop, g.unit = 0 →
    (g.south = true → g.dest = 0 → g.rx = .good → g.lenOk = true → ∃ t, exec (.ping g) s = .next t ∧
      t = { s with chn := { s.chn with pong := some ⟨g.tag, 0x80, 2, [0, 0]⟩ } }) ∧
    ∀ (w i n st ch rp : BitVec 8) (ws : List Word) (m : BitVec 16), ∀ r ∈ reqs w i n st ch rp ws m,
      r.2.1 ≠ 2 ∨ g.south = false ∨ g.dest ≠ 0 → exec (r.1 g) s =
        .next { s with chn := { s.chn with rep := [(!g.south, .frame ⟨g.tag, g.dest, r.2.1, r.2.2⟩)] } }

/-- ENUM CLEAR takes a unit's address; ASSIGN gives COUNT 1 to 32 to a unit without one and forwards COUNT + 1 or -
1; any unit whose address differs from COUNT answers CONFLICT; a damaged ENUM ends with ABORT. A broadcast SYNC is
forwarded, and on a side in use schedules the latch once per sweep byte, and the latch makes the sample the held
one where a copy had a good CRC. EXCITE advances its sequence at each chip and ends after its repetitions. The wake
tone wakes a unit, from its reset values where it has been without supply; a lost lock drops what waited for that
side and sends LINKNOTE, a restored one too. Bleed timeouts, auto-sleep and the quiet window act as given. A
comparator condition makes a unit emit FAULT on both sides, after the wake tone where it slept, unless acknowledged
since it began, and FAULT is repeated and forwarded. Only that unit changes. -/
def Obligations.UnitsEnumerateLatchAndWarn : Prop :=
  ∀ (h : Hop) (u : BitVec 6) (s : State), h.unit = u.toNat → u ≠ 0 →
    let x := s.unit u.toNat
    let y : UnitSt := { x with out := [] }
    let good : Prop := h.rx = .good ∧ h.lenOk = true
    let acts (i : Instr) (p : UnitSt → Prop) : Prop := ∃ t, exec i s = .next t ∧ t = { s with units := t.units } ∧
      (∀ v, v ≠ u.toNat → t.unit v = s.unit v) ∧ p (t.unit u.toNat)
    let sent (p : List Nat) : List (Bool × LineSym) := [(!h.south, .frame ⟨h.tag, h.dest, 1, p⟩)]
    let bad (z : UnitSt) : UnitSt := if h.south = true then { z with errS := min 0xFFFF (x.errS + 1) }
      else { z with errN := min 0xFFFF (x.errN + 1) }
    (x.asleep = false →
      (good → acts (.enumClear h) (fun z => z = { x with addr := 0x3E, out := sent [0, 0, 0] })) ∧
      (∀ (n fl : BitVec 8), good →
        (x.addr = 0x3E → 1 ≤ n.toNat → n.toNat ≤ 32 →
          acts (.enumAssignUp h n fl) (fun z => z.addr = n.toNat ∧ z.out = sent [n.toNat + 1, 1, fl.toNat] ∧
            z.resp = some (h.south, ⟨h.tag, n.toNat + 128, 1, [n.toNat, fl.toNat]⟩)) ∧
          acts (.enumAssignDown h n fl) (fun z => z.addr = n.toNat ∧ z.out = sent [n.toNat - 1, 2, fl.toNat] ∧
            z.resp = some (h.south, ⟨h.tag, n.toNat + 128, 1, [n.toNat, fl.toNat]⟩))) ∧
        (x.addr ≠ n.toNat → ∀ i ∈ ([.enumAssignUp, .enumAssignDown, .enumVerifyDown] :
            List (Hop → BitVec 8 → BitVec 8 → Instr)),
          x.addr ≠ 0x3E ∨ n = 0 ∨ 32 < n.toNat → acts (i h n fl) (fun z => z.addr = x.addr ∧
            z.resp = some (h.south, ⟨h.tag, x.addr + 128, 1, [x.addr, fl.toNat ||| 1]⟩))) ∧
        (x.addr = n.toNat → 1 ≤ n.toNat → n.toNat ≤ 32 → acts (.enumVerifyDown h n fl) (fun z => z.addr = x.addr ∧
          z.resp = some (h.south, ⟨h.tag, x.addr + 128, 1, [x.addr, fl.toNat]⟩)))) ∧
      (∀ (n fl : BitVec 8), h.rx ≠ .good → ∀ i ∈ ([.enumClear h, .enumAssignUp h n fl, .enumAssignDown h n fl,
          .enumVerifyDown h n fl] : List Instr),
        acts i (fun z => z = bad { x with out := [(!h.south, .abort)] })) ∧
      (∀ (w : BitVec 8) (nx : BitVec 16), x.addr ≠ 0x3F → h.dest = 0x3F → h.lenOk = true →
        (if h.south = true then x.ldlyS else x.ldlyN) ≠ 0xFFFF → x.sync = none →
        let v : UnitSt := { x with out := [(!h.south, .frame ⟨h.tag, 0x3F, 3, w.toNat :: leBytes 2 nx.toNat⟩)] }
        let v := if h.rx = .good then v else bad v
        (x.lastSweep ≠ some w.toNat → acts (.sync h.side h.head w nx) fun z =>
          z = { v with sync := some ⟨w.toNat, nx.toNat, decide (h.rx = .good)⟩, lastSweep := some w.toNat }) ∧
        (x.lastSweep = some w.toNat → acts (.sync h.side h.head w nx) fun z => z = v)) ∧
      (∀ south cut : Bool,
        let side : Nat := if south = true then 1 else 0
        let note (l : Nat) : Bool × LineSym := (!south, .frame ⟨0, x.addr + 128, 0xD, [side + 2 * l]⟩)
        acts (.unitLossOfLock u ⟨south, true, cut⟩) (fun z => z.lock = clrBit x.lock side ∧
          z.resp = x.resp.filter (fun e => e.1 ≠ south) ∧
          z.out = x.out.filter (fun e => e.1 ≠ south) ++ (if cut = true then [(!south, .abort)] else []) ++ [note 1]) ∧
        acts (.unitLossOfLock u ⟨south, false, cut⟩) (fun z => z = { x with lock := setBit x.lock side, out := [note 0] }) ∧
        acts (.faultForward u south) fun z => z = { x with out := [(!south, .fault)] })) ∧
    (∀ (f : UnitFrame) (p : SyncSt), x.sync = some p →
      (p.ok = true → acts (.unitLatch u f) (fun z => ∃ g, z.sample = some (p.sweep, g) ∧ z.sync = none ∧ z.next = p.next ∧
        g.cells = (f.cells.take x.cells).map (· % 65536) ∧ g.stack = f.stack % 2 ^ 32 ∧ g.ustat % 8 =
          b2n x.ov + 2 * b2n x.uv + 4 * b2n x.emit)) ∧
      (p.ok = false → acts (.unitLatch u f) (fun z => z = { x with sync := none }))) ∧
    (∀ e : ExciteSt, x.exc = some e → e.on = true →
      (e.chipIdx < 126 → acts (.exciteChip u) (fun z => z.exc = some { e with
        r := e.r / 2 ||| (((e.r % 2) ^^^ (e.r / 2 % 2)) * 64), chipIdx := e.chipIdx + 1 })) ∧
      (126 ≤ e.chipIdx → e.reps ≤ e.rep + 1 → acts (.exciteChip u) (fun z => z = { x with exc := none }))) ∧
    (x.asleep = true → acts (.wakeTone ⟨h.side, false⟩) (fun z => z = { y with asleep := false, lock := 3 })) ∧
    acts (.wakeTone ⟨h.side, true⟩) (fun z => z = { UnitSt.fresh u.toNat with asleep := false, lock := 3 }) ∧
    (x.lock = 0 → acts (.unitAutoSleep u) (fun z => z = { x with asleep := true, addr := 0x3E })) ∧
    acts (.bleedTimeout u) (fun z => z = { x with bleedCmd := 0 }) ∧
    (x.next ≠ 0 → acts (.bleedQuietStart u) (fun z => z = { x with quiet := true } ∧ z.bleed = x.excOn)) ∧
    acts (.bleedQuietEnd u) (fun z => z = { x with quiet := false }) ∧
    acts (.bleedRestoreTimeout u) (fun z => z = { x with quiet := false, next := 0 }) ∧
    (let both (l : LineSym) : List (Bool × LineSym) := [(false, l), (true, l)]
     (∀ ov uv : Bool, ov = true ∨ uv = true →
       (x.acked = false → acts (.unitFaultEmit u ov uv) (fun z => z.ov = ov ∧ z.uv = uv ∧ z.emit = true ∧
         z.asleep = false ∧ z.out = (if x.asleep = true then both .tone else []) ++ both .fault)) ∧
       (x.acked = true → acts (.unitFaultEmit u ov uv) (fun z => z = { x with ov := ov, uv := uv, emit := false }))) ∧
     acts (.unitFaultEmit u false false)
       (fun z => z = { x with ov := false, uv := false, emit := false, acked := false }) ∧
     (x.emit = true → acts (.unitFaultRepeat u) (fun z => z = { x with out := both .fault })) ∧
     (x.emit = false → exec (.unitFaultRepeat u) s = .next (s.setUnit u.toNat x))) ∧
    ∀ south : Bool, s.repeats = true →
      exec (.faultForward 0 south) s = .next { s with chn := { s.chn with rep := [(!south, .fault)] } }

/-- ENUM with sweeps off, on a module that originates, ends every chx and sends CLEAR from both ports with RING =
ENUM; else it is ignored. The phases follow R182: ASSIGN_UP from the low end, then VERIFY_DOWN where it came back,
else ASSIGN_DOWN; the ring is MISMATCH on a conflict, a wrong COUNT or PROTO, or where the addresses are not 1 to
UNITS, else INTACT or BROKEN1. The answer to the PING in flight is added to its round trips; from 0x3E it sets
ADDR_LOST with source 72. The end shows RING, SYNCDLY and the delays with source 67, 68 too for MISMATCH. REMEASURE
measures again, WAKE sends the tone and pings, ABORT ends a chx with RES 6, CHN_CTRL takes its enables, SWEEP_EN =
0 while sweeps run after one more SYNC (log entry 118: the model's choice). -/
def Obligations.ChainEngineEnumerates : Prop :=
  (∀ (c : Core) (s : State), s.storesReg c CHN_CMD.ENUM.addr →
    let up : Prop := s.get CHN_CTRL.SWEEP_EN = 0 ∧ s.chainUp = true
    (up → (∃ t e, exec (.chnEnum c) s = .next t ∧ t.get CHN_STAT.RING = 1 ∧ t.chn.chx = [] ∧ t.chn.enum = some e ∧
        e.phase = 1 ∧ (3, (⟨0, 0x3F, 1, [0, 0, 0]⟩ : Frame)) ∈ t.chn.out ∧ t.chn.units = s.get CHN_CFG.UNITS) ∧
      (s.get CHN_STAT.RING ≠ 0 → s.get CHN_STAT.RING ≠ 1 → ∃ t e, exec (.chnRemeasure c) s = .next t ∧ s.sameRest t ∧
        (∀ f : Fld, f.key ≠ CHN_TAGSTAT.CHXN.key → f.key ≠ CHN_TAGSTAT.ENGN.key → t.get f = s.get f) ∧ t.chn.enum = some e ∧ e.phase = 5 ∧ e.cls = s.get CHN_STAT.RING ∧ t.chn.rtt = [])) ∧
    (¬ up → (∃ t, exec (.chnEnum c) s = .next t ∧ s.sameRest t ∧ t.regs = s.regs ∧ t.chn = s.chn) ∧
      ∃ t, exec (.chnRemeasure c) s = .next t ∧ s.sameRest t ∧ t.regs = s.regs ∧ t.chn = s.chn) ∧
    (s.chainUp = true → ∃ t, exec (.chnWake c) s = .next t ∧ s.sameRest t ∧ (3, toneFrame) ∈ t.chn.out ∧
      ∀ u, u ∈ t.chn.pings ↔ 1 ≤ u ∧ u ≤ 32 ∧ u ≤ s.unitsInUse) ∧
    (∀ x, s.chn.chx = [x] → s.tandem = false → s.tag x.core x.tag = .issued 0 → ∃ t, exec (.chnAbort c) s = .next t ∧
      t.chn.chx = [] ∧ t.tag x.core x.tag = .done (completionWord 6 3 0 x.tag) 0)) ∧
  (∀ (c : Core) (v : Word) (s : State), s.storesReg c CHN_CTRL.PORT_EN.addr →
    ∃ t, exec (.chnCtrlWrite c v) s = .next t ∧ s.sameRest t ∧ t.get CHN_CTRL.PORT_EN = b2n (v.getLsbD 0) ∧
      (v.getLsbD 1 = false →
        let last : Prop := v.getLsbD 0 = true ∧ s.sweeping = true ∧ s.get CHN_CTRL.SWEEP_EN ≠ 0
        (last → t.chn.stopping = true ∧ t.get CHN_CTRL.SWEEP_EN = s.get CHN_CTRL.SWEEP_EN) ∧
        (¬ last → t.get CHN_CTRL.SWEEP_EN = 0)) ∧
      (v.getLsbD 1 = true → (s.get CHN_STAT.RING ∈ [0, 1, 5] → t.get CHN_CTRL.SWEEP_EN = s.get CHN_CTRL.SWEEP_EN) ∧
        (s.get CHN_STAT.RING ∉ [0, 1, 5] → t.get CHN_CTRL.SWEEP_EN = 1)) ∧
      (v.getLsbD 0 = false → t.get CHN_STAT.LOLOCK = 0 ∧ t.get CHN_STAT.HILOCK = 0)) ∧
  (∀ (acks : List (BitVec 6)) (conflict proto : Bool) (ret : Option (BitVec 8)) (e : EnumSt) (s : State),
    s.chn.enum = some e →
    let cmd : Instr := .enumPhaseTimeout acks conflict proto ret
    let n := s.chn.units
    let goes (p port : Nat) (f : Frame) : Prop := ∃ t e', exec cmd s = .next t ∧ s.sameRest t ∧ t.chn.enum = some e' ∧
      e'.phase = p ∧ t.chn.out = [(port, f)]
    (e.phase = 1 → goes 2 1 ⟨0, 0x3F, 1, [1, 1, 0]⟩) ∧
    (e.phase = 2 → ret ≠ none → goes 3 2 ⟨0, 0x3F, 1, [n, 3, 0]⟩) ∧
    (e.phase = 2 → ret = none → goes 4 2 ⟨0, 0x3F, 1, [n, 2, 0]⟩) ∧
    (e.phase = 3 ∨ e.phase = 4 → n ≤ 32 → ∃ t e', exec cmd s = .next t ∧ s.sameRest t ∧ t.chn.enum = some e' ∧
      e'.phase = 5 ∧
      let a := e.lo ++ acks.map (·.toNat)
      let bad : Prop := e.bad = true ∨ conflict = true ∨ proto = false ∨ ¬ ∀ u, u ∈ a ↔ 1 ≤ u ∧ u ≤ n
      (bad → e'.cls = 5) ∧ (¬ bad → e.phase = 3 → ret = some 0 → e'.cls = 2) ∧
      (¬ bad → (e.phase = 3 ∧ ret ≠ some 0) ∨ (e.phase = 4 ∧ e.intact = false) → e'.cls = 3 ∧ s.asserts t 65))) ∧
  (∀ (high : Bool) (w : Wire) (u rtt : Nat) (s : State), s.chainUp = true → s.chn.broken = [] → 1 ≤ u → u ≤ 32 →
    wireRx w = .good →
    let port := if high = true then 2 else 1
    (port, u) ∈ s.chn.pingOn →
    (s.chn.enum ≠ none → w.f = ⟨u - 1, u + 128, 2, [u, 1]⟩ →
      ∃ t, exec (.pingResponse high w rtt) s = .next t ∧ s.sameRest t ∧
      let was := mapGet ⟨0, 0⟩ s.chn.rtt (rttKey u port)
      mapGet ⟨0, 0⟩ t.chn.rtt (rttKey u port) = (⟨was.n + 1, was.sum + rtt⟩ : RttSt)) ∧
    (w.f = ⟨u - 1, 0xBE, 2, [0x3E, 0]⟩ → ∃ t, exec (.pingResponse high w rtt) s = .next t ∧ s.sameRest t ∧
      t.get CHN_FLT.ADDR_LOST = 1 ∧ t.get (CHN_USTAT.UNASSIGNED u) = 1 ∧ s.asserts t 72)) ∧
  ∀ (e : EnumSt) (s : State), s.chn.enum = some e → e.phase = 5 → s.chn.units ≤ 32 → e.cls < 8 →
    ∃ t, exec .enumDone s = .next t ∧ s.sameRest t ∧ t.chn.enum = none ∧ s.asserts t 67 ∧
      t.get CHN_SYNCDLY.NS = ((s.chn.units + (if s.tandem = true then 2 else 1)) * 320 + 1000 +
        (if s.tandem = true then 640 else 0) + 999) / 1000 * 1000 ∧
      (∀ u d, 1 ≤ u → u ≤ s.chn.units → d < 0xFFFE →
        mapGet ⟨0, 0⟩ s.chn.rtt (rttKey u 1) = (⟨4, 4 * (2800 + 2 * d)⟩ : RttSt) → t.get (CHN_UDLY.DLO u) = d) ∧
      (s.tandem = false → s.chn.rtt = [] → t.get CHN_STAT.RING = e.cls) ∧
      (t.get CHN_STAT.RING = 5 → t.get CHN_FLT.ENUM_MIS = 1 ∧ s.asserts t 68)

/-- SYNC_SEND sends SYNC with the next sweep byte on both ports; at its instant CHN_SWEEP counts, the HVM header of
the sweep is taken and every named unit with a route is read. A good response of a read enters its unit as
delivered with MISS 0 and not stale; a bad frame is counted with source 69 once a sweep. A response that a repeater
sees passes on. At the post deadline, not before, every unit without a frame counts MISS, stale at the limit, and
the sweep is posted. A lost link, by LINKNOTE, loss of lock or silence, makes an intact ring BROKEN1 with source 65
and routes its far units to the other end; its restoration makes it INTACT with source 73. A fault symbol is cause
FSYM, source 64 at its onset. A chx ends with RES 0 or 1 on its response, RES 2 or 3 on its timeout. -/
def Obligations.SweepsReadTheRing : Prop :=
  (∀ s : State, s.get CHN_CTRL.SWEEP_EN ≠ 0 → s.chainUp = true → s.chn.enum = none →
    ∃ t x y, exec .syncSend s = .next t ∧ t.chn.inSync = true ∧ t.chn.open_ = true ∧ t.chn.got = [] ∧
      (3, (⟨0, 0x3F, 3, [(s.get CHN_SWEEP.SWEEP + 1) % 256, x, y]⟩ : Frame)) ∈ t.chn.out) ∧
  (∀ s : State, (s.chn.inSync = false → exec .syncInstant s = .next s.quiet) ∧
    (s.chn.inSync = true → s.chn.hdr = false → ∃ t, exec .syncInstant s = .next t ∧ s.sameRest t ∧ t.chn.inSync = false ∧
      t.get CHN_SWEEP.SWEEP = (s.get CHN_SWEEP.SWEEP + 1) % 2 ^ 32 ∧ t.hvm.tsync = s.devTime + s.get CHN_SYNCDLY.NS ∧
      ∀ u ∈ s.namedUnits, s.route u = 1 ∨ s.route u = 2 → ⟨u, s.route u, false⟩ ∈ t.chn.reads)) ∧
  (∀ (q : Bracket) (s : State), s.chn.open_ = true → s.chn.inSync = false → s.get CHN_STAT.ORIGIN ≠ 0 → s.hvValid = true →
    ∃ t, exec (.sweepHeaderHvmWrite q) s = .next t ∧ t.chn.hdr = true ∧
      (s.missingUnits ≠ [] → t.hvm.hdr.isync = interp q.num q.den q.i0 q.i1 ∧ t.hvm.hdr.tsync = s.hvm.tsync ∧
        (s.get HRD_STAT.POWERED ≠ 0 → ∀ i, interp q.num q.den q.i0 q.i1 = some i →
          t.word (0x3030000C + 64 * (s.get CHN_SWEEP.SWEEP % 2)) = enc 32 (max (1 - 2 ^ 31) (min (2 ^ 31 - 1) i))))) ∧
  (∀ (high : Bool) (w : Wire) (r : ReadSt) (p : List Nat) (tag : Nat) (s : State), s.chainUp = true →
    wireRx w = .good → w.f = ⟨tag, r.unit + 128, 4, p⟩ → s.chn.broken = [] → r ∈ s.chn.reads →
    (∀ q ∈ s.chn.reads, q.unit = r.unit → q = r) → 1 ≤ r.unit → r.unit ≤ 32 →
    tag = (if r.again = true then 32 else 0) + r.unit - 1 → s.chn.open_ = true →
    p.length = 9 + 2 * (s.unitCells r.unit).length →
    ∃ t, exec (.readBlockResponse high w.f w.tail) s = .next t ∧ r.unit ∈ t.chn.got ∧
      t.get (CHN_USTAT.USTAT r.unit) = p.headD 0 % 256 ∧ t.get (CHN_USTAT.MISS r.unit) = 0 ∧
      t.get (CHN_USTAT.STALE r.unit) = 0) ∧
  (∀ (w : Wire) (s : State), s.chainUp = true → wireRx w = .crc →
    ∃ t, exec (.readBlockResponse false w.f w.tail) s = .next t ∧ s.sameRest t ∧
    t.get CHN_ERRLO.CRC = min 65535 (s.get CHN_ERRLO.CRC + 1) ∧ t.get CHN_FLT.CRC = 1 ∧
    (s.chn.crcSeen = false → s.asserts t 69)) ∧
  (∀ (high : Bool) (w : Wire) (s : State), s.repeats = true → exec (.readBlockResponse high w.f w.tail) s = .next
    { s with chn := { s.chn with rep := [(!(high != s.flag TDM_STAT.SEAT), .frame w.f)] } }) ∧
  (∀ s : State, s.postDue = false → exec .postDeadline s = .next s.quiet) ∧
  (∀ s : State, s.postDue = true → s.chn.open_ = true → s.chn.inSync = false → s.get CHN_STAT.ORIGIN ≠ 0 →
    0 ∉ s.missingUnits → ∃ t, exec .postDeadline s = .next t ∧ t.chn.open_ = false ∧ t.get HRD_SWEEP.SWEEP = s.get CHN_SWEEP.SWEEP % 2 ^ 32 ∧
      ∀ u ∈ s.missingUnits, t.get (CHN_USTAT.MISS u) = min 255 (s.get (CHN_USTAT.MISS u) + 1) ∧
        (s.swGet CHN_SWCFG.STALE ≤ min 255 (s.get (CHN_USTAT.MISS u) + 1) → t.get (CHN_USTAT.STALE u) ≠ 0)) ∧
  (∀ (k n : Nat) (s : State), s.chainUp = true → s.chn.units = n → k ≤ n → 1 ≤ n → n ≤ 32 →
    let links (restored : Bool) (u : Nat) (i : Instr) : Prop := ∃ high w tag, u ≤ n ∧ wireRx w = .good ∧
      i = .linknote high w ∧ ((u = k ∧ 1 ≤ u ∧ w.f = ⟨tag, u + 128, 13, [if restored = true then 1 else 3]⟩) ∨
        (u = k + 1 ∧ w.f = ⟨tag, u + 128, 13, [if restored = true then 0 else 2]⟩))
    (s.chn.broken = [] → s.chn.loReach = n → s.chn.hiReach = 1 → s.get CHN_STAT.RING = 2 →
      let breaks (i : Instr) : Prop := ∃ t, exec i s = .next t ∧ t.chn.broken = [k] ∧ t.get CHN_FLT.BREAK = 1 ∧
        s.asserts t 65 ∧ t.get CHN_STAT.RING = 3 ∧ t.get CHN_STAT.BREAKLO = k ∧
        t.get CHN_STAT.BREAKHI = (if k < n then k + 1 else 0) ∧
        ∀ u, 1 ≤ u → u ≤ n → t.get (CHN_USTAT.ROUTE u) = if u ≤ k then 1 else 2
      (∀ u i, links false u i → breaks i) ∧ (k = 0 → breaks (.portLossOfLock false)) ∧
      (k = n → breaks (.portLossOfLock true)) ∧
      (k < n → s.chn.reads = [⟨k + 1, 1, false⟩] → s.chn.got = [] → breaks (.portSilenceTimeout false))) ∧
    (s.chn.broken = [k] → s.get CHN_STAT.RING = 3 → ∀ u i, links true u i → ∃ t, exec i s = .next t ∧
      t.chn.broken = [] ∧ t.get CHN_FLT.HEAL = 1 ∧ s.asserts t 73 ∧ t.get CHN_STAT.RING = 2 ∧
      ∀ u, 1 ≤ u → u ≤ n → t.get (CHN_USTAT.ROUTE u) = 1)) ∧
  (∀ s : State, s.gait ≠ Gait.stable → ∃ t, exec .faultSymbolReceived s = .next t ∧ t.chn.fsymAt = some s.nowUs ∧
    (s.chn.fsymAt = none → t.get CHN_FLT.FSYM = 1 ∧ s.asserts t 64) ∧ (s.chn.inSync = true → t.get CHN_FLT.SYNC_HIT = 1) ∧
    (s.curb ≠ Curb.boot → t.get CRB_CAUSE.WORD / 256 % 256 = Cause.fsym)) ∧
  ∀ (x : ChxSt) (s : State), s.chn.chx = [x] → s.tandem = false → s.tag x.core x.tag = .issued 0 → s.chn.broken = [] →
    let ends (i : Instr) (info status val : Nat) : Prop := ∃ t, exec i s = .next t ∧ t.chn.chx = [] ∧
      t.tag x.core x.tag = .done (completionWord info status 0 x.tag) val
    (x.wire < 256 → ends (.chxTimeout (BitVec.ofNat 8 x.wire)) (if x.bad = true then 3 else 2)
      (if x.bad = true then 1 else 5) 0) ∧
    (s.chainUp = true → x.rxaddr = 0 → x.cmd < 128 → ∀ (high : Bool) (w : Wire) (p : List Nat), wireRx w = .good →
      let port := if high = true then 2 else 1
      (w.f = ⟨x.wire, x.addr + 128, x.cmd, p⟩ →
        ends (.chxResponse high w.f w.tail) (16 * x.addr) 0 (p.length + 256 * x.cmd + 65536 * port)) ∧
      (w.f = ⟨x.wire, x.addr + 128, x.cmd + 128, p⟩ →
        ends (.chxResponse high w.f w.tail) (1 + 16 * x.addr) 1 (p.length + 256 * (x.cmd + 128) + 65536 * port)))

/-- MAP_APPLY with sweeps off, and MAP_VALIDATE when applying waits, judge the written table by checks 0x1 to 0x6
of Table CEL-1: where every check passes it is applied with MAP_VALID and NCELLS, else the old one stays, with
CODE, MAP_ERR and source 159; with sweeps on MAP_APPLY waits. A NAK or no answer to a CELLS write due fails check
0x7. SENSE_CLR clears the taps of the unit that its latest OWT found closed. OWT_NOW queues a test or sends it; the
periodic schedule takes the next named unit; a response opens taps by OPEN and, at the ends, by DV above THR, and
clears a suspect found closed; NAK 0x05 waits for its retry, another NAK gives no result; before the deadline
nothing ends, at it the suspect taps of a suspect-driven test count as open with OWT_INC and source 156, others set
OWT_INC only. -/
def Obligations.LayoutTableAndOpenWireTests : Prop :=
  (∀ s : State,
    let m := s.writtenMap
    let own (u : Nat) : List (Nat × Nat) := m.filter fun e => layUnit e.2 = u
    let ok : Prop := m ≠ [] ∧ m.map (·.1) = List.range m.length ∧
      (∀ e ∈ m, 1 ≤ layUnit e.2 ∧ layUnit e.2 ≤ s.unitsInUse) ∧
      (m.Pairwise fun e f => (layUnit e.2, layLocal e.2) ≠ (layUnit f.2, layLocal f.2)) ∧
      (m.Pairwise fun e f => layLane e.2 ≠ layLane f.2) ∧
      (∀ u, own u ≠ [] → 8 ≤ (own u).length ∧ (own u).length ≤ 16 ∧
        (own u).map (fun e => layLocal e.2) = List.range (own u).length ∧
        ∃ a, (own u).map (·.1) = List.range' a (own u).length) ∧ s.mainOn = false
    let judged (i : Instr) : Prop := s.unitsInUse ≤ 32 → ∃ t, exec i s = .next t ∧ s.sameRest t ∧ t.cel.apply = false ∧
      (ok → t.get CEL_STAT.MAP_VALID = 1 ∧ t.get CEL_MAPSTAT.CODE = 0 ∧ t.get CEL_MAPSTAT.NCELLS = m.length ∧ t.cel.map = m) ∧
      (¬ ok → t.get CEL_MAPSTAT.CODE ≠ 0 ∧ t.get CEL_FLT.MAP_ERR = 1 ∧ s.asserts t 159 ∧ t.cel.map = s.cel.map ∧
        t.get CEL_STAT.MAP_VALID = s.get CEL_STAT.MAP_VALID)
    (s.cel.apply = true → judged .mapValidate) ∧
    ∀ c : Core, s.storesReg c CEL_CMD.MAP_APPLY.addr → (s.get CHN_CTRL.SWEEP_EN = 0 → judged (.mapApply c)) ∧
      (s.get CHN_CTRL.SWEEP_EN ≠ 0 → ∃ t, exec (.mapApply c) s = .next t ∧ s.sameRest t ∧ t.regs = s.regs ∧
        t.cel = { s.cel with apply := true })) ∧
  (∀ (u : BitVec 6) (s : State), u.toNat ∈ s.cel.cellsDue →
    let fails (i : Instr) : Prop := ∃ t, exec i s = .next t ∧ s.sameRest t ∧ t.get CEL_STAT.MAP_VALID = 0 ∧
      t.get CEL_MAPSTAT.CODE = 7 ∧ t.get CEL_MAPSTAT.UNIT = u.toNat ∧ t.get CEL_FLT.MAP_ERR = 1 ∧ s.asserts t 159
    fails (.cellsWriteResponse u true) ∧ fails (.cellsWriteTimeout u) ∧
    ∃ t, exec (.cellsWriteResponse u false) s = .next t ∧ s.sameRest t ∧ u.toNat ∉ t.cel.cellsDue ∧
      (∀ f : Fld, f.key ≠ CHN_TAGSTAT.CHXN.key → f.key ≠ CHN_TAGSTAT.ENGN.key → t.get f = s.get f)) ∧
  (∀ (c : Core) (u : BitVec 6) (s : State), s.storesReg c CEL_CMD.UNIT.addr → 1 ≤ u.toNat → u.toNat ≤ 32 →
    (∃ t, exec (.senseClr c u) s = .next t ∧ ∀ k, k < 17 → (t.bitOf (CEL_UOPEN.TAPS u.toNat) k = true ↔
      s.bitOf (CEL_UOPEN.TAPS u.toNat) k = true ∧ (mapGet 0 s.cel.closed u.toNat).testBit k = false)) ∧
    (s.cel.owtBusy ≠ none → (∀ r ∈ s.cel.owtQueue, r.unit = u.toNat → r.why ≠ .command) →
      ∃ t, exec (.owtNow c u) s = .next t ∧ s.sameRest t ∧ t.regs = s.regs ∧
        t.cel.owtQueue = s.cel.owtQueue ++ [⟨u.toNat, .command, s.nowUs⟩]) ∧
    (s.cel.owtBusy = none → s.cel.owtQueue = [] → s.chainUp = true → s.readEnded u.toNat = true → s.route u.toNat ≠ 0 →
      ∃ t, exec (.owtNow c u) s = .next t ∧ s.sameRest t ∧ t.cel.owtBusy = some ⟨u.toNat, .command, s.nowUs⟩ ∧
        t.get CEL_STAT.OWT_BUSY = 1 ∧ (s.route u.toNat, (⟨0x20 + u.toNat - 1, u.toNat, 8, []⟩ : Frame)) ∈ t.chn.out)) ∧
  (∀ s : State,
    let due : Prop := s.swGet CEL_CTRL.OWT_EN ≠ 0 ∧ (s.gait = Gait.walk ∨ s.gait = Gait.trot) ∧ s.groomWalk = false ∧
      s.owtTurn = true
    (¬ due → exec .owtSchedule s = .next s.quiet) ∧
    (due → ∀ u ∈ s.namedUnits, ((s.cel.owtLast < u ∧ ∀ v ∈ s.namedUnits, s.cel.owtLast < v → u ≤ v) ∨
        ∀ v ∈ s.namedUnits, v ≤ s.cel.owtLast ∧ u ≤ v) →
      ∃ t r, exec .owtSchedule s = .next t ∧ s.sameRest t ∧ t.cel.owtLast = u ∧ r.unit = u ∧ r.why = .periodic ∧
        (r ∈ t.cel.owtQueue ∨ t.cel.owtBusy = some r)) ∧
    (s.cel.owtRetry = [] → exec .owtRetry s = .next s.quiet) ∧
    ∀ (r : OwtReq) (rest : List OwtReq), s.cel.owtRetry = r :: rest →
      ∃ t, exec .owtRetry s = .next t ∧ s.sameRest t ∧ t.cel.owtRetry = rest ∧
      (r ∈ t.cel.owtQueue ∨ t.cel.owtBusy = some r)) ∧
  (∀ (r : OwtReq) (o : Nat) (p dv : List Nat) (high : Bool) (w : Wire) (s : State), s.cel.owtBusy = some r →
    1 ≤ r.unit → r.unit ≤ 32 → s.mapRange = true → (s.unitCells r.unit).length ≤ 16 → s.chainUp = true →
    wireRx w = .good → dv.length = 17 → p = leBytes 4 o ++ dv.flatMap (leBytes 2) →
    let u := r.unit
    let k := (s.unitCells u).length
    let opens (j : Nat) : Prop := if j = 0 ∨ j = k then 10 * s.swGet CEL_OWTCFG.THR < dv.getD j 0 % 65536
      else (o % 2 ^ 32).testBit j = true
    (w.f = ⟨0x20 + u - 1, u + 128, 8, p⟩ → ∃ t, exec (.owtResponseReceived ⟨high, w⟩) s = .next t ∧
      (s.cel.owtQueue = [] → t.cel.owtBusy = none ∧ t.get CEL_STAT.OWT_BUSY = 0) ∧
      (∀ j, j ≤ k → opens j → t.bitOf (CEL_UOPEN.TAPS u) j = true) ∧
      (∀ j, j ≤ k → ¬ opens j → t.bitOf (CEL_UOPEN.TAPS u) j = s.bitOf (CEL_UOPEN.TAPS u) j ∧
        (tapKey u j ∈ s.cel.sig → tapKey u j ∉ t.cel.sig ∧ t.bitOf (CEL_USUSP.TAPS u) j = false)) ∧
      ((∃ j, j ≤ k ∧ opens j ∧ s.bitOf (CEL_UOPEN.TAPS u) j = false) → t.get CEL_FLT.OPEN = 1 ∧ s.asserts t 152)) ∧
    ∀ n, w.f = ⟨0x20 + u - 1, u + 128, 0x88, [n]⟩ → ∃ t, exec (.owtResponseReceived ⟨high, w⟩) s = .next t ∧ s.sameRest t ∧
      (n = 5 → t.cel.owtBusy = none ∧ t.get CEL_STAT.OWT_BUSY = 0 ∧ t.cel.owtRetry = s.cel.owtRetry ++ [r] ∧
        t.cel.owtNone = s.cel.owtNone) ∧
      (n ≠ 5 → t.cel.owtRetry = s.cel.owtRetry ∧ t.cel.owtNone = s.cel.owtNone ++ [r] ∧
        (s.cel.owtQueue = [] → t.cel.owtBusy = none ∧ t.get CEL_STAT.OWT_BUSY = 0))) ∧
  ∀ (u : BitVec 6) (w : OwtWhy) (at_ : Nat) (s : State), s.cel.owtBusy = some ⟨u.toNat, w, at_⟩ → s.cel.owtQueue = [] →
    s.cel.owtRetry = [] → s.cel.owtNone = [] → 1 ≤ u.toNat → u.toNat ≤ 32 → s.mapRange = true →
    (s.owtLate ⟨u.toNat, w, at_⟩ = false → exec (.owtDeadline u) s = .next s.quiet) ∧
    (s.owtLate ⟨u.toNat, w, at_⟩ = true → ∃ t, exec (.owtDeadline u) s = .next t ∧ t.cel.owtBusy = none ∧ t.get CEL_FLT.OWT_INC = 1 ∧
      (w = .suspect → s.asserts t 156 ∧ ∀ j, j < 17 → s.bitOf (CEL_USUSP.TAPS u.toNat) j = true →
        t.bitOf (CEL_UOPEN.TAPS u.toNat) j = true) ∧
      (w ≠ .suspect → s.sameRest t ∧ ∀ v, t.get (CEL_UOPEN.TAPS v) = s.get (CEL_UOPEN.TAPS v)))

/-- An evaluation while balancing runs: with VSRC = 0 and a main output on, |IAVG| above IMAX or no IAVG: no cell
bleeds and BAL_HOLD is set. Else, with the target from the lowest eligible voltage (relative) or as given
(absolute), a cell wants to bleed above target + HYST, or above the target where it wanted to before, unless the
curb holds its channel; a unit lets at most N_max less its EXCITE cells bleed, LIMITED and source 158 otherwise; no
eligible cell above target + HYST and none bleeding sets BALANCED; a changed mask leaves by BLEED_SET.
BLEED_REFRESH sends the mask, its acknowledgment shows in MASK. BAL_STOP clears BAL_EN and turns bleed off by
broadcast. CHECK in a Groom walk with the RTC wake enabled sends the tone and enumerates; its end gives CAUSE,
ALARM, CHECKS, DONE, BLTMO and SLEEP. -/
def Obligations.BalancingAndPaddockCheck : Prop :=
  (∀ s : State, (s.balOn = false → exec .balanceEvaluation s = .next s) ∧ (s.balOn = true → s.mapRange = true → ∃ t,
    exec .balanceEvaluation s = .next t ∧ s.sameRest t ∧
    let hold : Prop := s.swGet CEL_CTRL.VSRC = 0 ∧ s.mainOn = true ∧ (s.hvm.hdr.iavg = none ∨
      ∃ i, s.hvm.hdr.iavg = some i ∧ 1000 * s.swGet CEL_BALCFG.IMAX < i.natAbs)
    let volt (c v : Nat) : Prop := (∃ e ∈ s.cel.map, e.1 = c) ∧ s.balVolt c = some v
    (hold → t.get CEL_STAT.BAL_HOLD = 1 ∧ t.cel.bleed = []) ∧
    (s.swGet CEL_CTRL.VSRC = 0 → ∀ c v, volt c v ↔ (∃ e ∈ s.cel.map, e.1 = c) ∧ s.get (CEL_CELL.FRESH c) ≠ 0 ∧
      s.get (CEL_CFLG.FLAGS c) &&& 0x3BB = 0 ∧ v = s.get (CEL_CELL.VCELL c)) ∧
    (¬ hold → t.get CEL_STAT.BAL_HOLD = 0 ∧ ∀ low target, (∃ c, volt c low) → (∀ c v, volt c v → low ≤ v) →
      target = (if s.swGet CEL_CTRL.BAL_MODE = 1 then 0 else low) + s.swGet CEL_BALCFG.TARGET →
      (∀ c, c ∈ t.cel.want ↔ s.curbHolds c = false ∧ ∃ v, volt c v ∧
        (target + s.swGet CEL_BALCFG.HYST < v ∨ (c ∈ s.cel.want ∧ target < v))) ∧
      (∀ c ∈ t.cel.bleed, c ∈ t.cel.want) ∧
      (∀ u ∈ s.namedUnits, 1 ≤ u → u ≤ 32 →
        let wants := ((s.unitCells u).map (·.1)).filter fun c => t.cel.want.contains c
        let n := s.heatMax u - popcount16 (s.unit u).excMask
        (wants.length ≤ n → t.get (CEL_UBLEED.LIMITED u) = 0 ∧ ∀ c ∈ wants, c ∈ t.cel.bleed) ∧
        (n < wants.length → t.get (CEL_UBLEED.LIMITED u) = 1 ∧
          (s.get (CEL_UBLEED.LIMITED u) = 0 → t.get CEL_FLT.BAL_HEAT = 1 ∧ s.asserts t 158))) ∧
      ((∀ c v, volt c v → v ≤ target + s.swGet CEL_BALCFG.HYST) → t.cel.bleed = [] → t.get CEL_STAT.BALANCED ≠ 0)) ∧
    t.get CEL_STAT.NBLEED = t.cel.bleed.length % 1024 ∧
    ∀ u ∈ s.namedUnits, s.chainUp = true → s.readEnded u = true → s.route u ≠ 0 →
      mapGet 0 s.cel.sent u ≠ t.bleedMask u → (s.route u, (⟨u - 1, u, 7, leBytes 2 (t.bleedMask u)⟩ : Frame)) ∈ t.chn.out)) ∧
  (∀ (u : BitVec 6) (s : State), s.balOn = true → u.toNat ∈ s.namedUnits → s.chainUp = true →
    s.readEnded u.toNat = true → s.route u.toNat ≠ 0 → ∃ t, exec (.bleedRefresh u) s = .next t ∧ s.sameRest t ∧
      (∀ f : Fld, f.key ≠ CHN_TAGSTAT.CHXN.key → f.key ≠ CHN_TAGSTAT.ENGN.key → t.get f = s.get f) ∧
      t.chn.out = [(s.route u.toNat, ⟨u.toNat - 1, u.toNat, 7, leBytes 2 (s.bleedMask u.toNat)⟩)]) ∧
  (∀ (u : BitVec 6) (mask : BitVec 16) (s : State), 1 ≤ u.toNat → u.toNat ≤ 32 →
    ∃ t, exec (.bleedSetAck u mask) s = .next t ∧ s.sameRest t ∧ t.get (CEL_UBLEED.MASK u.toNat) = mask.toNat ∧
      ∀ f : Fld, f.key ≠ CHN_TAGSTAT.CHXN.key → f.key ≠ CHN_TAGSTAT.ENGN.key → f.key ≠ (CEL_UBLEED.MASK u.toNat).key →
        t.get f = s.get f) ∧
  (∀ (c : Core) (s : State), s.storesReg c CEL_CMD.UNIT.addr →
    (∃ t, exec (.balStop c) s = .next t ∧ s.sameRest t ∧ t.get CEL_CTRL.BAL_EN = 0 ∧ t.cel.bleed = [] ∧
      t.get CEL_STAT.BALACT = 0 ∧ (s.chainUp = true → (3, (⟨0, 0x3F, 7, [0, 0]⟩ : Frame)) ∈ t.chn.out)) ∧
    (s.groomWalk = false ∨ s.get PWR_WAKEEN.RTC = 0 → ∃ t, exec (.check c) s = .next t ∧ s.sameRest t ∧
      t.regs = s.regs ∧ t.cel = s.cel) ∧
    (s.groomWalk = true → s.get PWR_WAKEEN.RTC ≠ 0 → s.get CHN_STAT.ORIGIN ≠ 0 → ∃ t, exec (.check c) s = .next t ∧
      t.get CEL_PADSTAT.DONE = 0 ∧ t.get CEL_PADSTAT.ALARM = 0 ∧ t.get CEL_PADSTAT.CAUSE = 0 ∧ t.cel.check = some 0 ∧
      (3, toneFrame) ∈ t.chn.out ∧ (s.get CHN_CTRL.SWEEP_EN = 0 → t.get CHN_STAT.RING = 1 ∧
        (3, (⟨0, 0x3F, 1, [0, 0, 0]⟩ : Frame)) ∈ t.chn.out))) ∧
  ∀ (n : Nat) (s : State), s.cel.check = some n → 2 ≤ n →
    let stale : Prop := ∃ u ∈ s.namedUnits, s.get (CHN_USTAT.STALE u) ≠ 0
    let warn : Prop := s.get PRT_STAT.VALID ≠ 0 ∧ ∃ e ∈ s.cel.map, s.get (CEL_CELL.FRESH e.1) ≠ 0 ∧
      (s.act PRT_CELL_OV.WARN ≤ s.get (CEL_CELL.VCELL e.1) ∨ s.get (CEL_CELL.VCELL e.1) ≤ s.act PRT_CELL_UV.WARN)
    let sus : Prop := s.get CEL_STAT.SUSPECT_ANY ≠ 0 ∨ ∃ k ∈ s.cel.due, k < 2048
    ∃ t, exec .paddockCheckDone s = .next t ∧ s.sameRest t ∧ t.cel.check = none ∧ t.get CEL_PADSTAT.DONE = 1 ∧
      t.get CEL_PADSTAT.CHECKS = min 65535 (s.get CEL_PADSTAT.CHECKS + 1) ∧
      (stale → t.get CEL_PADSTAT.ALARM = 1 ∧ t.get CEL_PADSTAT.CAUSE = 1) ∧
      (¬ stale → warn → t.get CEL_PADSTAT.ALARM = 1 ∧ t.get CEL_PADSTAT.CAUSE = 2) ∧
      (¬ stale → ¬ warn → sus → t.get CEL_PADSTAT.ALARM = 1 ∧ t.get CEL_PADSTAT.CAUSE = 3) ∧
      (¬ stale → ¬ warn → ¬ sus → t.get CEL_PADSTAT.ALARM = 0 ∧ t.get CEL_PADSTAT.CAUSE = 0) ∧
      (t.get CEL_STAT.BALANCED = 0 ∨ t.get CEL_STAT.BALANCED = 1 → t.get CEL_PADSTAT.BALOK = t.get CEL_STAT.BALANCED) ∧
      (t.cel.bleed ≠ [] → (3, writeRegFrame 0 0x3F 9 [min 65535 (s.get CEL_PADCFG.BALINT + 10)]) ∈ t.chn.out) ∧
      (t.cel.bleed = [] → (3, writeRegFrame 0 0x3F 9 [2]) ∈ t.chn.out) ∧
      (3, (⟨0, 0x3F, 0x0B, []⟩ : Frame)) ∈ t.chn.out

/-- PARAM_APPLY with AUTO_EN = 0, and PARAM_CHECK when an apply waits, run the checks of Table EST-2 in order: with
every check passed PARAM_OK is set and EST_PBASE goes to HRD_AUTOARG, else PCODE takes the first failure, PARAM_ERR
and source 146. An automatic job that ends with STATUS 0 and slots 0 to 8 valid for its sweep gives the limits of
slots 0 to 5 clamped, halved under ILIM50 and 0 where inhibited, the usable SoC, and each cell whose stamp matches
its SOC, FLAGS and ledger words; one that ends otherwise counts MISSRUN, which at HOLD sets the limits to 0 with
LIMLOST and source 145, as LIMIT_HOLD_EXPIRY does. EST_CTRL takes its fields but METHOD = 0 in Gallop. LSNAP_REQ
waits for a boundary with valid results, which copies the block of 128 ledger words. -/
def Obligations.EstimatorResultsAndParameters : Prop :=
  (∀ s : State,
    let p := s.get EST_PBASE.ADDR
    let falls (a : Nat) : Prop := ∃ r i, r < 4 ∧ i < 100 ∧ s.load 2 (p + a + 202 * r + 2 * (i + 1)) < s.load 2 (p + a + 202 * r + 2 * i)
    let fails : List (Prop × Nat) := [(p % 16 ≠ 0 ∨ p < 0x30300100 ∨ 0x30380000 < p + 0x770, 1),
      (s.load 2 p ≠ 1 ∨ s.word (p + 4) ≠ 0x770, 2),
      (crc32c (s.getBytes (p + 0xC) (0x770 - 0xC)) ≠ s.word (p + 8), 3),
      (s.load 2 (p + 0x10) ≠ 64536 ∨ s.load 2 (p + 0x12) ≠ 1000 ∨ s.load 2 (p + 0x14) ≠ 2500 ∨ s.load 2 (p + 0x16) ≠ 4500, 4),
      (falls 0x50 ∨ ((s.load 2 (p + 2)).testBit 0 = true ∧ falls 0x378), 5),
      ((∃ i, i < 4 ∧ (s.load 2 (p + 0x18 + 2 * i) = 0 ∨ s.load 2 (p + 0x28 + 2 * i) = 0 ∨ s.load 2 (p + 0x30 + 2 * i) = 0)) ∨
        s.load 2 (p + 0x46) = 0 ∨ s.get EST_CAPNOM.MAH = 0, 6),
      (s.get EST_VEND.VSD = 0 ∨ s.get EST_VEND.VCO ≤ s.get EST_VEND.VSD ∨ s.get EST_VLIM.VMIN = 0 ∨
        s.get EST_VLIM.VMAX ≤ s.get EST_VLIM.VMIN, 7)]
    let judged (i : Instr) : Prop := ∃ t, exec i s = .next t ∧ s.sameRest t ∧ t.est.apply = false ∧
      ((∀ e ∈ fails, ¬ e.1) → t.get EST_STAT.PCODE = 0 ∧ t.get EST_STAT.PARAM_OK = 1 ∧ t.get HRD_AUTOARG.ARG = p) ∧
      ∀ e pre post, fails = pre ++ e :: post → e.1 → (∀ x ∈ pre, ¬ x.1) → t.get EST_STAT.PCODE = e.2 ∧
        t.get EST_FLT.PARAM_ERR = 1 ∧ s.asserts t 146 ∧ t.get EST_STAT.PARAM_OK = s.get EST_STAT.PARAM_OK ∧
        t.get HRD_AUTOARG.ARG = s.get HRD_AUTOARG.ARG
    (s.est.apply = true → judged .paramCheck) ∧
    ∀ c : Core, s.storesReg c EST_CMD.PARAM_APPLY.addr → (s.get HRD_CTRL.AUTO_EN = 0 → judged (.paramApply c)) ∧
      (s.get HRD_CTRL.AUTO_EN ≠ 0 → ∃ t, exec (.paramApply c) s = .next t ∧ s.sameRest t ∧ t.regs = s.regs ∧
        t.est = { s.est with apply := true })) ∧
  (∀ s : State,
    let lost : Prop := s.swGet EST_LIMCFG.HOLD ≤ s.get EST_STAT.MISSRUN ∧ s.get EST_STAT.LIMLOST = 0
    (lost → ∃ t, exec .limitHoldExpiry s = .next t ∧ s.sameRest t ∧ t.get EST_ISTRCH.MA = 0 ∧ t.get EST_ISTRDC.MA = 0 ∧
      t.get EST_STAT.LIMLOST = 1 ∧ t.get EST_FLT.LIMLOST = 1 ∧ s.asserts t 145) ∧
    (¬ lost → exec .limitHoldExpiry s = .next s)) ∧
  (∀ (c : Core) (v : Word) (s : State), s.storesReg c EST_CTRL.METHOD.addr →
    ∃ t, exec (.estCtrlWrite c v) s = .next t ∧ s.sameRest t ∧ t.est = s.est ∧ t.get EST_CTRL.B_EN = b2n (v.getLsbD 3) ∧
      t.get EST_CTRL.A_EN = b2n (v.getLsbD 2) ∧
      let ignored : Prop := v.getLsbD 0 = false ∧ s.gait = Gait.gallop
      (ignored → t.get EST_CTRL.METHOD = s.get EST_CTRL.METHOD ∧ t.get EST_FLT.METHOD_REF = 1) ∧
      (¬ ignored → t.get EST_CTRL.METHOD = b2n (v.getLsbD 0) ∧ t.get EST_FLT.METHOD_REF = s.get EST_FLT.METHOD_REF)) ∧
  (∀ (c : Core) (b : BitVec 5) (s : State), s.storesReg c EST_LSNAP.REQ.addr →
    ∃ t, exec (.lsnapReq c b) s = .next t ∧ s.sameRest t ∧ t.get EST_LSNAP.BLOCK = b.toNat ∧ t.get EST_LSNAP.DONE = 0 ∧
      t.est = { s.est with snap := some b.toNat }) ∧
  (∀ (b : Nat) (s : State), s.est.snap = some b → b < 32 →
    (s.get EST_STAT.VALID = 0 → exec .ledgerSnapshot s = .next s) ∧
    (s.get EST_STAT.VALID ≠ 0 → ∃ t, exec .ledgerSnapshot s = .next t ∧ s.sameRest t ∧ t.get EST_LSNAP.DONE = 1 ∧
      t.est.snap = none ∧ t.get EST_LSNAPSW.SWEEP = s.get EST_SWEEP.SWEEP % 2 ^ 32 ∧
      ∀ i, i < 128 → t.get (EST_LSNAPBUF.WORD i) = s.get (EST_LED.WORD (128 * b + i)) % 2 ^ 32)) ∧
  (∀ (i : BitVec 6) (j : Job) (s : State), s.jobAt i.toNat = some j → j.phase ≠ .ended → j.owner = none →
    (s.isStandby = true → exec (.jobDeadlineMiss i) s = .next s) ∧ (s.isStandby = false → ∃ t, exec (.jobDeadlineMiss i) s = .next t ∧ s.sameRest t ∧ t.get HRD_AUTOSTAT.STATUS = 4 ∧ s.asserts t 113 ∧
      let n := min 15 (s.get EST_STAT.MISSRUN + 1)
      let lost : Prop := s.get EST_STAT.MISSRUN < s.swGet EST_LIMCFG.HOLD ∧ s.swGet EST_LIMCFG.HOLD ≤ n
      t.get EST_STAT.MISSRUN = n ∧ t.get EST_STAT.LIMHOLD = 1 ∧ t.get EST_STAT.VALID = 0 ∧ t.cel.predOf = none ∧
      (lost ∨ s.get PRT_STAT.CHGINH ≠ 0 → t.get EST_ISTRCH.MA = 0) ∧
      (lost ∨ s.get PRT_STAT.DCHINH ≠ 0 → t.get EST_ISTRDC.MA = 0) ∧
      (lost → t.get EST_STAT.LIMLOST = 1 ∧ s.asserts t 145) ∧
      (¬ lost → s.get PRT_STAT.CHGINH = 0 → t.get EST_ISTRCH.MA = s.get EST_ISTRCH.MA))) ∧
  ∀ (o : LaneOp) (j : Job) (r : TeamRun) (s : State), s.laneReady o j r → o.unp = true → o.m = false → j.owner = none →
    (∀ q ∈ j.runs, q.team ≠ r.team → q.done = true) →
    ∃ t, exec (.laneRet o 0 0 0) s = .next t ∧ s.sameCores t ∧ t.get HRD_AUTOSTAT.STATUS = 0 ∧
      let valid : Prop := ∀ k, k < 9 → (t.word (slotWord k + 4)).testBit 15 = true ∧
        t.word (slotWord k + 4) / 2 ^ 16 = j.sweep % 2 ^ 16
      let lim (k : Nat) : Int :=
        let v := if s.get CEL_STAT.ILIM50 ≠ 0 then Int.tdiv (t.slotInt k) 2 else t.slotInt k
        if k < 3 then clampI 0 (sgn 32 (s.swGet EST_ILIMCH.MA)) v else clampI (sgn 32 (s.swGet EST_ILIMDC.MA)) 0 v
      let hor := s.swGet EST_LIMCFG.HOR
      let lo := (clampI 0 65535 (t.slotInt 6)).toNat
      let hi := (clampI 0 65535 (t.slotInt 7)).toNat
      (¬ valid → t.get EST_STAT.VALID = 0 ∧ t.get EST_STAT.LIMHOLD = 1) ∧
      (valid → t.get EST_STAT.VALID = 1 ∧ t.get EST_STAT.MISSRUN = 0 ∧ t.get EST_STAT.LIMHOLD = 0 ∧
        t.get EST_STAT.LIMLOST = 0 ∧ t.get EST_SWEEP.SWEEP = j.sweep % 2 ^ 32 ∧ t.cel.predOf = some j.sweep ∧
        t.geti EST_SCH2.MA = lim 0 ∧ t.geti EST_SCH10.MA = lim 1 ∧ t.geti EST_SCH30.MA = lim 2 ∧
        t.geti EST_SDC2.MA = lim 3 ∧ t.geti EST_SDC10.MA = lim 4 ∧ t.geti EST_SDC30.MA = lim 5 ∧
        (hor < 3 → t.geti EST_ISTRCH.MA = (if s.get PRT_STAT.CHGINH ≠ 0 then 0 else lim hor) ∧
          t.geti EST_ISTRDC.MA = (if s.get PRT_STAT.DCHINH ≠ 0 then 0 else lim (3 + hor))) ∧
        t.get EST_USOCMIN.USOC = lo ∧ t.get EST_USOCMAX.USOC = hi ∧ t.get EST_USOC.VALID = 1 ∧
        t.get EST_USOC.SOC = usoc lo hi % 2 ^ 16 ∧
        (s.mapRange = true → (s.cel.map.map (·.1)).Nodup → ∀ e ∈ s.cel.map,
          let w (off : Nat) : Nat := t.word (laneAddr (layLane e.2) off)
          (w 0x24 % 2 ^ 16 ≠ j.sweep % 2 ^ 16 → t.get EST_FLT.STAMP = 1) ∧
          (w 0x24 % 2 ^ 16 = j.sweep % 2 ^ 16 → t.get (EST_SOC.SOC e.1) = w 0x28 % 2 ^ 16 ∧
            t.get (EST_SOC.USOC e.1) = w 0x28 / 2 ^ 16 ∧ t.get (EST_CST.FLAGS e.1) = w 0x24 / 2 ^ 16 % 256 ∧
            ∀ i, i < 8 → t.get (EST_LED.WORD (8 * e.1 + i)) = w (0x60 + 4 * i))))

/-- A write of a protection register stages its fields and sets PEND; the active set stands. PRT_COMMIT with PEND
runs the checks of Table PRT-2 in order: the first failure gives RCODE and REJECT and keeps the active set, else
the staged words become active with VALID, COPY_OK, PRT_CRC and the sweep, the levels are broadcast, and a tested
curb in BOOT with its configuration goes READY, where no input stands; source 25 either way. Two disagreeing checks
of the curb copy or of the HV echo running, or of a unit's read-back after it was written again, are a mismatch:
fault bit, COPY_OK 0, source 26, Lame cause, cause COPY. No complete sweep for TMO ms with a main output on is
cause SWDOG, no heartbeat for HBTMO ticks cause HB. -/
def Obligations.ProtectionSetCommitAndCopies : Prop :=
  let latest (t : State) : Nat := t.get CRB_CAUSE.WORD / 256 % 256
  let calm (s : State) : Prop := s.curbInputs = 0 ∧ s.crb.doorOpen = 0 ∧ s.crb.discrepant = false
  (∀ (c : Core) (a v : Word) (s : State), 0x60080000 ≤ a.toNat → a.toNat ≤ 0x60080030 → s.storesReg c a.toNat →
    ∃ t, exec (.prtSetWrite c a v) s = .next t ∧ s.sameRest t ∧ t.get PRT_STAT.PEND = 1 ∧ t.prt = s.prt ∧
      ∀ f ∈ fieldsAt a.toNat, t.get f = Fld.of f v.toNat) ∧
  (∀ s : State,
    let g (f : Fld) : Nat := s.get f
    let edge (f : Fld) : Prop := g f = 0 ∨ g f = 0xFFFF
    let top := 71250000 / g HVM_SHUNT.R
    let window (lo hi : Fld) : Prop := -4000 ≤ sgn 16 (g lo) ∧ sgn 16 (g lo) < sgn 16 (g hi) ∧ sgn 16 (g hi) ≤ 8500
    let i2t (ic k fast : Fld) : Prop := 1 ≤ g ic ∧ g ic < g fast ∧ 1 ≤ g k
    let passes : List (Prop × Nat) := [
      ((g PRT_CELL_UV.TRIP < g PRT_CELL_UV.WARN ∧ g PRT_CELL_UV.WARN < g PRT_CELL_OV.WARN ∧
        g PRT_CELL_OV.WARN < g PRT_CELL_OV.TRIP) ∧ ¬ edge PRT_CELL_OV.WARN ∧ ¬ edge PRT_CELL_OV.TRIP ∧
        ¬ edge PRT_CELL_UV.WARN ∧ ¬ edge PRT_CELL_UV.TRIP, 1),
      ((g PRT_CELL_OV.TRIP ≤ g PRT_UNIT_VTH.OVTH ∧ g PRT_UNIT_VTH.UVTH ≤ g PRT_CELL_UV.TRIP) ∧
        ¬ edge PRT_UNIT_VTH.OVTH ∧ ¬ edge PRT_UNIT_VTH.UVTH, 2),
      (0 < g PRT_STR_UV.MV ∧ g PRT_STR_UV.MV < g PRT_STR_OV.MV ∧ g PRT_STR_OV.MV ≤ 1750000, 3),
      (1 ≤ g PRT_OC_FAST.CHG ∧ g PRT_OC_FAST.CHG ≤ top ∧ 1 ≤ g PRT_OC_FAST.DCH ∧ g PRT_OC_FAST.DCH ≤ top, 4),
      (i2t PRT_I2T_CHG.ICONT PRT_I2T_CHG.K PRT_OC_FAST.CHG ∧ i2t PRT_I2T_DCH.ICONT PRT_I2T_DCH.K PRT_OC_FAST.DCH, 5),
      (window PRT_TWIN_CHG.LOW PRT_TWIN_CHG.HIGH ∧ window PRT_TWIN_DCH.LOW PRT_TWIN_DCH.HIGH, 6),
      (10 ≤ g PRT_ISO.TRIP ∧ g PRT_ISO.TRIP < g PRT_ISO.WARN ∧ g PRT_ISO.WARN ≤ 50000, 7),
      (20 ≤ g PRT_SWDOG.TMO ∧ g PRT_SWDOG.TMO ≤ 1000 ∧ 1 ≤ g PRT_INT.HBTMO ∧ g PRT_INT.HBTMO ≤ 100 ∧ 1 ≤ g PRT_INT.DEB, 8)]
    (s.get PRT_STAT.PEND = 0 → exec .prtCommit s = .next s) ∧
    (s.get PRT_STAT.PEND ≠ 0 → ∃ t, exec .prtCommit s = .next t ∧ (s.get TDM_STAT.GATE = 0 → s.sameRest t) ∧ t.get PRT_STAT.PEND = 0 ∧ s.asserts t 25 ∧
      (∀ e pre post, passes = pre ++ e :: post → ¬ e.1 → (∀ x ∈ pre, x.1) → t.get PRT_STAT.RCODE = e.2 ∧
        t.get PRT_FLT.REJECT = 1 ∧ t.prt = s.prt ∧ t.get PRT_STAT.VALID = s.get PRT_STAT.VALID) ∧
      ((∀ e ∈ passes, e.1) → t.get PRT_STAT.RCODE = 0 ∧ t.prt.active = s.stagedSet ∧ t.get PRT_STAT.VALID = 1 ∧
        t.get PRT_STAT.COPY_OK = 1 ∧ t.get PRT_CRC.CRC = crc32c (s.stagedSet.flatMap (leBytes 4)) % 2 ^ 32 ∧
        t.get PRT_COMMITSW.SWEEP = s.get CHN_SWEEP.SWEEP % 2 ^ 32 ∧
        (s.curb = Curb.boot → s.get CRB_STAT.STEST_OK ≠ 0 → s.get CRB_STAT.SCFG_OK ≠ 0 → calm s → s.crb.hbAge = 0 →
          t.curb = Curb.ready) ∧
        (s.chainUp = true → (3, writeRegFrame 0 0x3F 6 [s.stagedSet.getD 2 0, bits (s.stagedSet.getD 12 0) 8 8]) ∈ t.chn.out)))) ∧
  (∀ s : State,
    let wrong (i : Instr) (b : Nat) (f : Fld) : Prop := ∃ t, exec i s = .next t ∧ (s.get TDM_STAT.GATE = 0 → s.sameRest t) ∧
      t.get f = 1 ∧ t.get PRT_STAT.COPY_OK = 0 ∧ t.prt.bad.testBit b = true ∧ s.asserts t 26 ∧
      t.power.lameCauses.testBit LameCause.copy = true ∧ (s.curb ≠ Curb.boot → latest t = Cause.copy ∨ (2 ≤ s.gait ∧ latest t = Cause.reqSrs))
    let same (i : Instr) (n : Nat) (upd : PrtSt) : Prop := n = 0 → exec i s = .next { s with prt := upd }
    (s.copyChecked = false → (∀ ok, exec (.crbCopyCheck ok) s = .next s) ∧ ∀ ok, exec (.hvCopyEcho ok) s = .next s) ∧
    (s.copyChecked = true →
      same (.crbCopyCheck true) 0 { s.prt with crbBad := 0 } ∧ same (.hvCopyEcho true) 0 { s.prt with hvBad := 0 } ∧
      same (.crbCopyCheck false) s.prt.crbBad { s.prt with crbBad := 1 } ∧
      same (.hvCopyEcho false) s.prt.hvBad { s.prt with hvBad := 1 } ∧
      (s.prt.crbBad = 1 → wrong (.crbCopyCheck false) 0 PRT_FLT.COPY_CRB) ∧
      (s.prt.hvBad = 1 → wrong (.hvCopyEcho false) 1 PRT_FLT.COPY_HVM) ∧
      (2 ≤ s.prt.crbBad → exec (.crbCopyCheck false) s = .next { s with prt := { s.prt with crbBad := 2 } }) ∧
      (2 ≤ s.prt.hvBad → exec (.hvCopyEcho false) s = .next { s with prt := { s.prt with hvBad := 2 } })) ∧
    ∀ (u : BitVec 6) (vth fcfg : Word) (second : Bool), s.get PRT_STAT.VALID ≠ 0 → s.prt.rbNow = some (u.toNat, second) →
      let i : Instr := .unitCopyReadback u vth fcfg
      let levels := [s.prt.active.getD 2 0, s.act PRT_INT.DEB]
      let known (upd : PrtSt) (out : List (Nat × Frame)) : Prop := ∃ t, exec i s = .next t ∧ s.sameRest t ∧ t.prt = upd ∧
        t.chn.out = out ∧ (∀ f : Fld, f.key ≠ CHN_TAGSTAT.CHXN.key → f.key ≠ CHN_TAGSTAT.ENGN.key → t.get f = s.get f)
      ([vth.toNat, fcfg.toNat] = levels → known { s.prt with rbNow := none } []) ∧
      ([vth.toNat, fcfg.toNat] ≠ levels → second = false → known { s.prt with rbNow := none, again := some u.toNat }
        [(s.route u.toNat, writeRegFrame (u.toNat - 1) u.toNat 6 levels)]) ∧
      ([vth.toNat, fcfg.toNat] ≠ levels → second = true → wrong i 2 PRT_FLT.COPY_UNIT)) ∧
  ∀ s : State,
    let late : Prop := s.mainOn = true ∧ s.get PRT_STAT.VALID ≠ 0 ∧ (s.get CRB_INPUT.CAUSES).testBit 7 = false ∧
      max s.prt.fullAt s.crb.mainAt + 1000 * s.act PRT_SWDOG.TMO ≤ s.nowUs
    let silent : Prop := s.hbChecked = true ∧ s.act PRT_INT.HBTMO ≤ s.crb.hbAge
    (late → ∃ t, exec .sweepWatchdogExpiry s = .next t ∧ (t.mainOn = true → t.bitOf CRB_INPUT.CAUSES 7 = true) ∧
      (s.curb ≠ Curb.boot → latest t = Cause.swdog)) ∧ (¬ late → exec .sweepWatchdogExpiry s = .next s) ∧
    (silent → s.curb ≠ Curb.boot → ∃ t, exec .heartbeatTimeout s = .next t ∧ latest t = Cause.hb ∧
      (s.get TDM_STAT.GATE = 0 → s.sameRest t)) ∧ (¬ silent → exec .heartbeatTimeout s = .next s)

/-- In READY a requested stop records its cause as first and latest, sets STOP, source 28 and enters SRS with a
main output on, else HALT; SII, whose shunt pulse fires with a main output on or |I| of 2 A, else HALT. HALT takes
the bleeds, raises source 29 and begins T16; outside READY and SRS the single architecture opens DO12 and DO13, the
diverse one the low sides. A later cause is the latest and counted; SII in SRS goes on. A zero current of 16
samples or the end of the ramp ends SRS in HALT, the pulse end SII. Heartbeats, the oscillator and supply checks,
weld and second-channel detection, self-test, the safety reset by two keys within 1 ms, the door channels with the
guard proof, and the seal by two keys within its time act as given, each refusal with its fault bit and source 31.
-/
def Obligations.CurbStopsAndSafetyReset : Prop :=
  let latest (t : State) : Nat := t.get CRB_CAUSE.WORD / 256 % 256
  let calm (s : State) : Prop := s.curbInputs = 0 ∧ s.crb.doorOpen = 0 ∧ s.crb.discrepant = false
  let first (t : State) : Nat := t.get CRB_CAUSE.WORD % 256
  let opens (t : State) : Prop := (t.arch = Arch.single → t.mainOn = false) ∧
    (t.arch = Arch.diverse → t.lsClosed 12 = false ∧ t.lsClosed 13 = false)
  let halts (s t : State) : Prop := t.curb = Curb.halt ∧ s.asserts t 28 ∧ s.asserts t 29 ∧ t.crb.allBleeds = true ∧ opens t ∧
    (2 ≤ s.gait → s.power.trans = none → t.power.trans = some ⟨16, Gait.halt, 4, false⟩)
  (∀ (c : Core) (s : State), s.storesReg c CRB_CMD.SRS.addr →
    let fires : Prop := s.mainOn = true ∨ s.currentFlows = true
    let sii (t : State) : Prop := (fires → t.curb = Curb.sii ∧ t.crb.shuntOn = true ∧ s.asserts t 28 ∧ opens t) ∧ (¬ fires → halts s t)
    (s.curb = Curb.boot → (∃ t, exec (.crbCmdSrs c) s = .next t ∧ s.sameRest t ∧ t.regs = s.regs) ∧
      ∃ t, exec (.crbCmdSii c) s = .next t ∧ s.sameRest t ∧ t.regs = s.regs) ∧
    (s.curb = Curb.ready → (∃ t, exec (.crbCmdSrs c) s = .next t ∧ first t = 0x10 ∧ latest t = 0x10 ∧
        t.get CRB_FLT.STOP = 1 ∧ t.crb.stopAt = some s.nowUs ∧ (s.mainOn = false → halts s t) ∧
        (s.mainOn = true → t.curb = Curb.srs ∧ s.asserts t 28 ∧ ∀ i, s.crb.lastValid = some i →
          t.get CRB_SRSI0.MA = i.natAbs % 2 ^ 32)) ∧
      ∃ t, exec (.crbCmdSii c) s = .next t ∧ first t = 0x11 ∧ latest t = 0x11 ∧ t.get CRB_FLT.STOP = 1 ∧ sii t) ∧
    (s.curb ≠ Curb.boot → s.curb ≠ Curb.ready →
      let counted (t : State) : Prop := first t = first s ∧
        t.get CRB_CAUSE.WORD / 65536 % 256 = min 255 (s.get CRB_CAUSE.WORD / 65536 % 256 + 1)
      (∃ t, exec (.crbCmdSrs c) s = .next t ∧ s.sameRest t ∧ counted t ∧ latest t = 0x10 ∧ t.curb = s.curb) ∧
      ∃ t, exec (.crbCmdSii c) s = .next t ∧ s.sameRest t ∧ counted t ∧ latest t = 0x11 ∧ (s.curb ≠ Curb.srs → t.curb = s.curb) ∧
        (s.curb = Curb.srs → sii t))) ∧
  (∀ (c : Core) (seq : BitVec 8) (s : State), s.storesReg c CRB_HB.SEQ.addr →
    ∃ t, exec (.crbHb c seq) s = .next t ∧ s.sameRest t ∧ t.get CRB_HB.SEQ = seq.toNat ∧
      (seq.toNat = (s.get CRB_HB.SEQ + 1) % 256 → t.crb = { s.crb with hbAge := 0 }) ∧
      (seq.toNat ≠ (s.get CRB_HB.SEQ + 1) % 256 → t.crb = s.crb ∧ t.get CRB_FLT.HB_SEQ = 1 ∧ s.asserts t 31)) ∧
  (∀ (s : State) (n : Nat),
    let good : Prop := 1800 ≤ n ∧ n ≤ 2200
    (good → exec (.curbOscCheck n) s = .next { s with crb := { s.crb with oscBad := 0 } }) ∧
    (¬ good → s.crb.oscBad = 0 → exec (.curbOscCheck n) s = .next { s with crb := { s.crb with oscBad := 1 } }) ∧
    (¬ good → s.crb.oscBad = 1 → ∃ t, exec (.curbOscCheck n) s = .next t ∧ t.get CRB_FLT.OSC = 1 ∧
      (s.curb ≠ Curb.boot → latest t = Cause.osc)) ∧
    (∃ t, exec .curbSupplyFault s = .next t ∧ t.crb.supplyBad = true ∧ t.lsClosed 12 = false ∧ t.lsClosed 13 = false ∧
      (s.curb ≠ Curb.boot → latest t = Cause.supply)) ∧
    (s.curb = Curb.srs → 16 ≤ s.crb.zeroRun → ∃ t, exec .srsCurrentZero s = .next t ∧ s.sameRest t ∧ halts s t) ∧
    (s.curb ≠ Curb.srs ∨ s.crb.zeroRun < 16 → exec .srsCurrentZero s = .next s) ∧
    (s.curb = Curb.srs → s.srsOver = true → ∃ t, exec .srsRampTimeout s = .next t ∧ s.sameRest t ∧ halts s t) ∧
    (s.curb ≠ Curb.srs ∨ s.srsOver = false → exec .srsRampTimeout s = .next s) ∧
    (s.crb.shuntOn = false → exec .shuntPulseEnd s = .next s) ∧
    (s.crb.shuntOn = true → ∃ t, exec .shuntPulseEnd s = .next t ∧ s.sameRest t ∧ t.crb.shuntOn = false ∧ t.on 15 = false ∧
      (s.curb = Curb.sii → halts s t) ∧ (s.curb ≠ Curb.sii → t.curb = s.curb)) ∧
    (let welded : Prop := s.curb = Curb.halt ∧ s.currentFlows = true ∧ s.crb.shuntFired = false
     (welded → ∃ t, exec .weldDetect s = .next t ∧ s.sameRest t ∧ latest t = Cause.weld ∧ t.get CRB_FLT.WELD = 1 ∧
       s.asserts t 30 ∧ t.crb.shuntOn = true ∧ t.crb.shuntFired = true) ∧ (¬ welded → exec .weldDetect s = .next s)) ∧
    (∀ ok : Bool, (s.curb = Curb.boot → ∃ t, exec (.curbSelfTestDone ok) s = .next t ∧ (s.get TDM_STAT.GATE = 0 → s.sameRest t) ∧
        t.get CRB_STAT.STEST_OK = b2n ok ∧ (ok = true → s.get CRB_STAT.SCFG_OK ≠ 0 → s.get PRT_STAT.VALID ≠ 0 → calm s →
          t.curb = Curb.ready) ∧ (ok = false → t.curb = Curb.boot)) ∧
      (s.curb ≠ Curb.boot → exec (.curbSelfTestDone ok) s = .next s)) ∧
    (let stuck : Prop := s.arch = Arch.diverse ∧ (s.curb = Curb.sii ∨ s.curb = Curb.halt) ∧ s.mainOn = true
     (stuck → ∃ t, exec .channel2Check s = .next t ∧ s.sameRest t ∧ t.get CRB_FLT.CHAN2 = 1 ∧ s.asserts t 31) ∧
     (¬ stuck → exec .channel2Check s = .next s))) ∧
  (∀ (c : Core) (s : State), s.storesReg c CRB_RESET.KEY.addr →
    (∃ t, exec (.crbReset c 0xC0DE) s = .next t ∧ s.sameRest t ∧ t.regs = s.regs ∧ t.crb = { s.crb with resetAt := some s.nowUs }) ∧
    let ok : Prop := (∃ x, s.crb.resetAt = some x ∧ s.nowUs ≤ x + 1000) ∧ s.curb = Curb.halt ∧ s.curbInputs = 0 ∧
      s.contactorOn = false ∧ s.currentZero = true
    (ok → ∃ t, exec (.crbReset c 0x3F21) s = .next t ∧ s.sameRest t ∧ t.curb = Curb.ready ∧ t.get CRB_STAT.GUARD = 0 ∧
      t.crb.allBleeds = false ∧ t.crb.uvCells = [] ∧ (s.gait = Gait.halt → t.power.trans = some ⟨17, Gait.walk, 0, false⟩) ∧
      (s.gait ≠ Gait.halt → t.power.trans = s.power.trans)) ∧
    (¬ ok → ∃ t, exec (.crbReset c 0x3F21) s = .next t ∧ s.sameRest t ∧ t.curb = s.curb ∧ t.get CRB_FLT.RESET_REF = 1 ∧
      s.asserts t 31 ∧ t.power = s.power)) ∧
  (∀ (second high pattern : Bool) (s : State),
    let k := b2n second
    let ok : Prop := pattern = true ∧ (s.fioGet FIO_TSCFG.EN).testBit k = true ∧ s.fio.tsOff.testBit k = false
    let g := s.get CRB_STAT.GUARD
    ∃ t, exec (.doorChannelChange second high pattern) s = .next t ∧
      (t.crb.doorOpen.testBit k = true ↔ ¬ (high = true ∧ ok)) ∧
      (high = true → ¬ ok → t.get CRB_FLT.XSHORT = 1 ∧ s.asserts t 31) ∧
      (g = 1 → t.crb.doorOpen = 0 → s.crb.doorOpen ≠ 0 → s.nowUs - s.crb.closedAt ≤ 50000 →
        t.get CRB_STAT.GUARD = 2 ∧ s.asserts t 27) ∧
      (g = 2 → t.crb.doorOpen ≠ 0 → t.get CRB_STAT.GUARD = 0 ∧ s.asserts t 27) ∧
      (s.mainOn = true → t.crb.doorOpen ≠ 0 → s.curb ≠ Curb.boot → latest t = Cause.door) ∧
      (s.mainOn = false → s.sameRest t ∧ t.curb = s.curb)) ∧
  (∀ s : State, let apart : Prop := s.crb.doorOpen = 1 ∨ s.crb.doorOpen = 2
    (apart → ∃ t, exec .guardDiscrepancy s = .next t ∧ t.crb.discrepant = true ∧ t.get CRB_STAT.GUARD = 3 ∧
      t.get CRB_FLT.DISCREP = 1 ∧ s.asserts t 27 ∧ s.asserts t 31 ∧
      (s.mainOn = true → s.curb ≠ Curb.boot → latest t = Cause.door)) ∧ (¬ apart → exec .guardDiscrepancy s = .next s) ∧
    (s.crb.doorOpen = 3 → ∃ t, exec .guardOpenConfirm s = .next t ∧ s.sameRest t ∧ t.get CRB_STAT.GUARD = 1 ∧
      (s.get CRB_STAT.GUARD ≠ 1 → s.asserts t 27)) ∧ (s.crb.doorOpen ≠ 3 → exec .guardOpenConfirm s = .next s) ∧
    exec .sealArmExpiry s = .next { s with crb := { s.crb with sealArmed := false } } ∧
    (s.crb.sealDone = [] → exec .sealCommitDone s = .next s) ∧
    ∀ (ok : Bool) (w : List Nat) (rest : List (Bool × List Nat)), s.crb.sealDone = (ok, w) :: rest →
      ∃ t, exec .sealCommitDone s = .next t ∧ (s.get TDM_STAT.GATE = 0 → s.sameRest t) ∧ t.crb.sealDone = rest ∧
      t.get CRB_SEALSTAT.RESULT = (if ok = true then 2 else 7) ∧
      (ok = false → ∀ i, i < 4 → t.get (CRB_SCFG.WORD i) = s.get (CRB_SCFG.WORD i)) ∧
      (ok = true → (∀ i, i < 4 → t.get (CRB_SCFG.WORD i) = w.getD i 0 % 2 ^ 32) ∧
        t.get CRB_STAT.SCFG_OK = 1 ∧ t.get CRB_STAT.GUARD = 0 ∧
        (s.curb = Curb.boot → s.get CRB_STAT.STEST_OK ≠ 0 → s.get PRT_STAT.VALID ≠ 0 → calm s → t.curb = Curb.ready))) ∧
  ∀ (c : Core) (s : State), s.storesReg c CRB_SEAL.KEY.addr →
    (∃ t, exec (.crbSealFirstKey c) s = .next t ∧ s.sameRest t ∧ t.regs = s.regs ∧ t.crb.sealArmed = true ∧ t.crb.sealTicks = 0) ∧
    ∃ t, exec (.crbSealSecondKey c) s = .next t ∧ s.sameRest t ∧ t.crb.sealArmed = false ∧
      let w := (List.range 4).map fun i => s.get (CRB_STG.WORD i)
      let crc := s.get CRB_STGCRC.CRC
      let result : Nat := if ¬ (s.crb.sealArmed = true ∧ s.crb.sealTicks ≤ 100) then 6
        else if crc32c (w.flatMap (leBytes 4)) ≠ crc then 3 else if scfgValid w = false then 4
        else if (s.gait ≠ Gait.walk ∧ s.gait ≠ Gait.halt) ∨ s.contactorOn = true then 5 else 1
      t.get CRB_SEALSTAT.RESULT = result ∧
      (result ≠ 1 → t.nvm = s.nvm ∧ t.get CRB_FLT.SEAL_REF = 1 ∧ s.asserts t 31) ∧
      (result = 1 → t.nvm.queue = s.nvm.queue ++
        [{ Commit.blank .seal with code := 1, len := 20, data := (w ++ [crc]).flatMap (leBytes 4) }])

/-- A write of a target, STOP, FLUSH, SETPOS, GO or EN = 0 waits for the next boundary, but on axis D in SAFE,
where it only sets LOCKED; EN = 0 on axis D off position 0 is ignored. The planned move covers its distance exactly
from rest to rest, the planned stop ends at rest. At the tick an idle E axis with a target that it may take starts
the move to it, completes at once at its own position with source 200, stages it in a group, refuses it with
BADPAR, or with QFULL and source 201 on four waiting moves; a move at its last tick ends on its target in IDLE.
Axis D above its bound enters PURSUIT with source 203; a curb stop takes it to SAFE at its position, SII at 0 with
source 204, the ramp lowers it, the safety reset brings IDLE at 0. A step pulse moves the emitted position by one
where the position is a step or more away; a driver shutdown faults the axis with source 205, breaking a linked
move with 206, its recovery leaves it in FAULT. -/
def Obligations.GaitGeneratorAxes : Prop :=
  (∀ (c : Core) (a : BitVec 2) (v : Word) (s : State),
    let n := a.toNat
    let x := s.axis n
    let locked : Prop := n = 0 ∧ s.ggnMode 0 = Ggn.safe
    let takes (i : Instr) (y : GgnAxis) (p : State → Prop) : Prop :=
      (locked → ∃ t, exec i s = .next t ∧ s.sameRest t ∧ t.get (GGN_xFLT.LOCKED 0) = 1 ∧ t.ggn = s.ggn) ∧
      (¬ locked → ∃ t, exec i s = .next t ∧ s.sameRest t ∧ t.axis n = y ∧ (∀ m, m ≠ n → t.axis m = s.axis m) ∧
        t.ggn.go = s.ggn.go ∧ p t)
    (s.storesReg c (GGN_xTGT.VAL n).addr → takes (.ggnTargetWrite c a v) { x with wTgt := x.wTgt ++ [v.toInt] } fun t =>
      t.get (GGN_xTGT.VAL n) = v.toNat) ∧
    (s.storesReg c (GGN_xCMD.STOP n).addr →
      takes (.ggnStop c a) { x with wStop := true } (fun t => t.regs = s.regs) ∧
      takes (.ggnFlush c a) { x with wFlush := true } (fun t => t.regs = s.regs) ∧
      takes (.ggnSetpos c a) { x with wSetpos := true } (fun t => t.regs = s.regs)) ∧
    (s.storesReg c (GGN_xCTRL.EN n).addr →
      let kept : Prop := n = 0 ∧ s.get (GGN_xCTRL.EN 0) ≠ 0 ∧ x.p ≠ 0
      let grp := bits v.toNat 4 2
      (v.getLsbD 0 = true ∨ kept ∨ s.get (GGN_xCTRL.EN n) = 0 → takes (.ggnAxisCtrlWrite c a v) x fun t =>
        t.get (GGN_xCTRL.EN n) = (if kept then 1 else b2n (v.getLsbD 0)) ∧ (grp ≠ 3 → t.get (GGN_xCTRL.GRP n) = grp)) ∧
      (v.getLsbD 0 = false → ¬ kept → s.get (GGN_xCTRL.EN n) ≠ 0 → takes (.ggnAxisCtrlWrite c a v) { x with wOff := true } fun t =>
        t.get (GGN_xCTRL.EN n) = 0 ∧ (grp ≠ 3 → t.get (GGN_xCTRL.GRP n) = grp))) ∧
    ∀ g1 g2 : Bool, s.storesReg c GGN_GO.G1.addr → ∃ t, exec (.ggnGo c g1 g2) s = .next t ∧ s.sameRest t ∧ t.regs = s.regs ∧
      t.ggn = { s.ggn with go := s.ggn.go ||| (b2n g1 + 2 * b2n g2) }) ∧
  (∀ d V A J : Rat, d ≠ 0 → (ggnMoveSegs d V A J).foldl afterSeg (0, 0, 0) = (d, 0, 0)) ∧
  (∀ v a S J : Rat, ((ggnStopSegs v a S J).foldl afterSeg (0, v, a)).2 = (0, 0)) ∧
  (∀ (rb : BitVec 16) (n : Nat) (s : State), n < 4 → s.sys.on = true → s.inReset = false → s.tandem = false →
    s.ioPowered = true → s.get GGN_CTRL.RUN ≠ 0 → s.ggn.go = 0 →
    (∀ i, i < 4 → i ≠ n → s.axis i = GgnAxis.reset ∧ (s.ggnMode i = Ggn.idle ∨ s.ggnMode i = Ggn.fault)) →
    let lo := s.geti EST_ISTRDC.MA
    let hi := s.geti EST_ISTRCH.MA
    let ticks (p : State → Prop) : Prop := ∃ t, exec (.controlTick rb) s = .next t ∧ t.nowUs = s.nowUs + 100 ∧ p t
    (1 ≤ n → lo ≤ 0 → 0 ≤ hi → s.crb.dStop = 0 → ∀ p0 v : Int,
      let ok : Prop := s.ggnTakes n = true
      let l := s.ggnLim n
      (s.ggnMode n = Ggn.idle → s.axis n = { GgnAxis.reset with p := p0 * ggnOne, wTgt := [v] } →
        (¬ ok → ticks fun t => t.get (GGN_xFLT.BADPAR n) = 1 ∧ t.ggnMode n = Ggn.idle ∧ (t.axis n).queue = []) ∧
        (ok → s.get (GGN_xCTRL.GRP n) ≠ 0 → ticks fun t => (t.axis n).staged = some v ∧ t.get (GGN_xSTAT.STAGED n) = 1 ∧
          t.ggnMode n = Ggn.idle) ∧
        (ok → s.get (GGN_xCTRL.GRP n) = 0 → v = p0 → ticks fun t => t.ggnMode n = Ggn.idle ∧ s.asserts t 200 ∧
          (t.axis n).p = p0 * ggnOne) ∧
        (ok → s.get (GGN_xCTRL.GRP n) = 0 → v ≠ p0 → ticks fun t => t.ggnMode n = Ggn.move ∧ (t.axis n).target = some v ∧
          (t.axis n).p = p0 * ggnOne ∧ (t.axis n).segs = ggnMoveSegs ((v : Rat) - (p0 : Rat)) l.1 l.2.1 l.2.2)) ∧
      (ok → s.ggnMode n = Ggn.fault → s.get (GGN_xCTRL.GRP n) = 0 → (s.axis n).wTgt = [v] → (s.axis n).queue.length = 4 →
        (s.axis n).wOff = false → (s.axis n).wFlush = false → (s.axis n).wSetpos = false →
        ticks fun t => t.get (GGN_xFLT.QFULL n) = 1 ∧ s.asserts t 201 ∧ (t.axis n).queue = (s.axis n).queue) ∧
      (∀ j : Rat, s.ggnMode n = Ggn.move → s.axis n = { GgnAxis.reset with p := p0, segs := [⟨1, j⟩], target := some v } →
        ticks fun t => t.ggnMode n = Ggn.idle ∧ (t.axis n).p = v * ggnOne ∧ t.get (GGN_xPOS.VAL n) = enc 32 v ∧ s.asserts t 200)) ∧
    (n = 0 → ∀ p0 : Int,
      (s.crb.dStop = 0 → s.ggnMode 0 = Ggn.idle → s.axis 0 = { GgnAxis.reset with p := p0 * ggnOne } → hi < p0 →
        ticks fun t => t.ggnMode 0 = Ggn.pursuit ∧ (t.axis 0).pursuit = some hi ∧ s.asserts t 203) ∧
      (s.crb.dStop = 1 → s.ggnMode 0 = Ggn.idle → s.axis 0 = { GgnAxis.reset with p := p0 } →
        ticks fun t => t.ggnMode 0 = Ggn.safe ∧ (t.axis 0).p = p0 ∧ (t.axis 0).safeP0 = p0 ∧ (p0 = 0 → s.asserts t 204)) ∧
      (s.crb.dStop = 2 → s.ggnMode 0 = Ggn.idle → s.axis 0 = { GgnAxis.reset with p := p0 } →
        ticks fun t => t.ggnMode 0 = Ggn.safe ∧ (t.axis 0).p = 0 ∧ s.asserts t 204) ∧
      (∀ k : Nat, s.crb.dStop = 0 → s.ggnMode 0 = Ggn.safe → s.axis 0 = { GgnAxis.reset with p := p0, safeP0 := p0, safeT := k } →
        ticks fun t => let ramp := 10 * (s.get (CRB_SCFG.WORD 1) % 65536)
          t.ggnMode 0 = Ggn.safe ∧ (t.axis 0).p = (if ramp ≤ k + 1 then 0 else p0 * ((ramp - (k + 1) : Nat) : Int) / (ramp : Int)) ∧
          (p0 ≠ 0 → (t.axis 0).p = 0 → s.asserts t 204)) ∧
      (lo ≤ 0 → 0 ≤ hi → s.crb.dStop = 3 → s.ggnMode 0 = Ggn.safe → s.axis 0 = { GgnAxis.reset with p := p0 } →
        ticks fun t => t.ggnMode 0 = Ggn.idle ∧ (t.axis 0).p = 0 ∧ s.asserts t 200))) ∧
  ∀ (e : Fin 3) (s : State),
    let n := e.val + 1
    let x := s.axis n
    let emits (neg : Bool) (goal : Int) : Prop := ∃ t, exec (.stepPulse e) s = .next t ∧ s.sameRest t ∧ t.regs = s.regs ∧
      t.axis n = { x with step := goal, dir := if s.gateClosed = true then x.dir else neg }
    ((x.step - 1) * ggnOne < x.p → x.p < (x.step + 1) * ggnOne → exec (.stepPulse e) s = .next s) ∧
    (x.p ≤ (x.step - 1) * ggnOne → emits true (x.step - 1)) ∧
    ((x.step + 1) * ggnOne ≤ x.p → emits false (x.step + 1)) ∧
    (∃ t, exec (.stepDriverShutdown e) s = .next t ∧ s.sameRest t ∧ t.ggnMode n = Ggn.fault ∧
      t.get (GGN_xSTAT.POSLOST n) = 1 ∧ t.get (GGN_xFLT.THERM n) = 1 ∧ (s.ggnMode n ≠ Ggn.fault → s.asserts t 205) ∧
      (t.axis n).p = x.step * ggnOne ∧ (t.axis n).queue = [] ∧ (t.axis n).v = 0 ∧ (t.axis n).hot = true ∧
      ∀ l, x.link = some l → s.asserts t 206 ∧ ∀ i, i < 4 → (s.axis i).linked l.id = true →
        t.get (GGN_xFLT.GRPBRK i) = 1 ∧ (i ≠ n → t.ggnMode i = Ggn.stopping)) ∧
    ∃ t, exec (.stepDriverRecovery e) s = .next t ∧ s.sameRest t ∧ t.regs = s.regs ∧ t.axis n = { x with hot := false }

/-- A write of FIO_DOSET gives each output that no higher rank holds its demand and keeps a held output off; with a
door open a main output that turns on is cause DOOR. Thermal shutdown turns the output off with its fault and
source 160 + n, for DO12 to DO15 latched with source 12; the restart releases DO0 to DO11 only. A diagnostic sets
its bit and source where its condition holds and changes nothing elsewhere; OFF_HIGH opens the partner and starts
the watch. A test window drives its output at the test level or, coinciding with another, is discarded, the third
in a row setting TPSTARVE; its end judges the following, of the tied channels as well. The output watchdog ends in
the safe drives with source 199 and is restarted by its key. Field supplies, test sources, raw and filtered inputs,
edges, wakes and counters act as given. The effective configuration is that of the last tick boundary. -/
def Obligations.FieldInputsAndOutputs : Prop :=
  let shut (s : State) : Prop := s.crb.doorOpen = 0 ∧ s.crb.discrepant = false
  let demand (s : State) (n : Nat) : Bool := (s.get FIO_DOSET.DO).testBit n
  (∀ (c : Core) (v : BitVec 15) (s : State), s.storesReg c FIO_DOSET.DO.addr →
    (shut s → ∃ t, exec (.fioDosetWrite c v) s = .next t ∧ s.sameRest t ∧ t.get FIO_DOSET.DO = v.toNat ∧
      ∀ n, n < 15 → (s.held n = false → s.get FIO_STAT.TEST_BUSY = 0 → t.on n = v.getLsbD n) ∧
        (s.held n = true → s.get FIO_STAT.WD_EXP = 0 → t.on n = false)) ∧
    (s.crb.doorOpen ≠ 0 → s.curb ≠ Curb.boot → s.held 12 = false → s.get FIO_STAT.TEST_BUSY = 0 → v.getLsbD 12 = true →
      ∃ t, exec (.fioDosetWrite c v) s = .next t ∧ t.get CRB_CAUSE.WORD / 256 % 256 = Cause.door)) ∧
  (∀ (n : BitVec 4) (s : State),
    let k := n.toNat
    let src (t : State) : Prop := s.asserts t (160 + k)
    let latch : Fld := if k = 12 then THM_LATCH.DO12 else if k = 13 then THM_LATCH.DO13
      else if k = 14 then THM_LATCH.DO14 else THM_LATCH.DO15
    let judged (i : Instr) (p : Prop) (f : Fld) (q : State → Prop) : Prop :=
      (p → ∃ t, exec i s = .next t ∧ s.sameRest t ∧ t.get f = 1 ∧ q t) ∧ (¬ p → exec i s = .next s)
    exec (.pullinEnd n) s = .next (if s.fioGet (FIO_DOCFG.ECO k) = 1 ∧
        mapGet 0 s.fio.pullAt k + 1000 * s.fioGet FIO_ECOCFG.PULLIN ≤ s.nowUs then
      { s with fio := { s.fio with pullin := clrBit s.fio.pullin k } } else s) ∧
    (∃ t, exec (.outputThermalShutdown n) s = .next t ∧ s.sameRest t ∧ t.on k = false ∧ t.thermOff k = true ∧
      t.get (FIO_DOFLT.OT k) = 1 ∧ src t ∧ (12 ≤ k → t.get latch = 1 ∧ s.asserts t 12)) ∧
    (∃ t, exec (.outputThermalRestart n) s = .next t ∧ s.sameRest t ∧
      (k < 12 → t.thermOff k = false ∧ (s.gaitOff k = false → s.get FIO_STAT.WD_EXP = 0 → s.get FIO_STAT.TEST_BUSY = 0 →
        t.on k = demand s k)) ∧
      (12 ≤ k → s.thermOff k = true → t.thermOff k = true ∧ t.on k = false)) ∧
    judged (.outputOverload n) (s.diagOn k = true ∧ s.on k = true) (FIO_DOFLT.OVL k) src ∧
    judged (.openLoadOff n) (s.diagOn k = true ∧ s.on k = false ∧ s.fioGet (FIO_DOCFG.OLOFF k) = 1 ∧ s.testing k = false ∧
      (k < 12 ∨ k = 15 ∨ s.flag TDM_STAT.PEERCLAIM = false)) (FIO_DOFLT.OL_OFF k) src ∧
    judged (.openLoadOn n) (s.diagOn k = true ∧ s.on k = true ∧ s.fioGet (FIO_DOCFG.OLON k) = 1 ∧ s.testing k = false)
      (FIO_DOFLT.OL_ON k) src ∧
    judged (.offHigh n) (s.diagOn k = true ∧ s.on k = false ∧ s.testing k = false ∧ s.get (FIO_DOFLT.OFF_HIGH k) = 0)
      (FIO_DOFLT.OFF_HIGH k) (fun t => src t ∧ t.bitOf FIO_DOSTAT.RB k = true ∧ t.fio.watch.testBit k = true ∧ mapGet 0 t.fio.watchAt k = s.nowUs ∧
        (k = 12 → t.lsClosed 12 = false) ∧ (k = 13 → t.lsClosed 13 = false)) ∧
    judged (.tiedWatchExpiry n) (s.fio.watch.testBit k = true ∧ s.get (FIO_DOFLT.OFF_HIGH k) ≠ 0 ∧
      mapGet 0 s.fio.watchAt k + 1000 * s.fioGet FIO_TPCFG.PERIOD ≤ s.nowUs) (FIO_DOFLT.STUCK_ON k)
      (fun t => t.fio.watch.testBit k = false) ∧
    ∀ light ts : Bool,
      let i : Instr := .testWindowStart n light ts
      let due : Prop := s.diagOn k = true ∧ s.held k = false ∧
        if light then k < 15 ∧ s.fioGet (FIO_DOCFG.LTEST k) = 1 ∧ s.on k = false
        else s.fioGet (FIO_DOCFG.DTEST k) = 1 ∧ demand s k = true
      let met : Prop := s.get FIO_STAT.TEST_BUSY ≠ 0 ∨ ts = true
      let key := 2 * k + b2n light
      (¬ due → exec i s = .next s) ∧
      (due → met → ∃ t, exec i s = .next t ∧ s.sameRest t ∧ t.get FIO_STAT.TEST_BUSY = s.get FIO_STAT.TEST_BUSY ∧
        mapGet 0 t.fio.discards key = mapGet 0 s.fio.discards key + 1 ∧
        (2 ≤ mapGet 0 s.fio.discards key → t.get (FIO_DOFLT.TPSTARVE k) = 1)) ∧
      (due → ¬ met → k < 15 → ∃ t, exec i s = .next t ∧ s.sameRest t ∧ t.testing k = true ∧ t.on k = light ∧
        t.fio.light = light ∧ t.fio.width = s.fioGet (if light then FIO_TPCFG.LW else FIO_TPCFG.DW) ∧
        (light = false → t.fio.pullin = s.fio.pullin))) ∧
  (∀ (low high : BitVec 16) (s : State) (m : Nat), m < 16 → s.get FIO_STAT.TESTCH = m →
    let follows (j : Nat) : Bool := if s.fio.light then high.getLsbD j else low.getLsbD j
    (s.get FIO_STAT.TEST_BUSY = 0 → exec (.testWindowEnd low high) s = .next s) ∧
    (s.get FIO_STAT.TEST_BUSY ≠ 0 → ∃ t, exec (.testWindowEnd low high) s = .next t ∧ s.sameRest t ∧
      t.get FIO_STAT.TEST_BUSY = 0 ∧ (s.diagOn m = false → t.fio.discards = s.fio.discards) ∧
      (s.diagOn m = true → mapGet 0 t.fio.discards (2 * m + b2n s.fio.light) = 0 ∧
        (follows m = false → (s.fio.failing.testBit (2 * m + b2n s.fio.light) = false → s.asserts t (160 + m)) ∧
          t.get (if s.fio.light then FIO_DOFLT.LIGHT_FAIL m else FIO_DOFLT.DARK_FAIL m) = 1) ∧
        ∀ j, j < 16 → j ≠ m → s.fio.watch.testBit j = true → s.get (FIO_DOFLT.OFF_HIGH j) ≠ 0 → s.on j = false →
          follows j = true → t.get (FIO_DOFLT.TIED j) = 1 ∧ t.get (FIO_DOFLT.TIEDWITH j) = m ∧
          t.fio.watch.testBit j = false ∧ (s.get (FIO_DOFLT.OFF_HIGH m) ≠ 0 → t.get (FIO_DOFLT.TIED m) = 1)))) ∧
  (∀ (c : Core) (s : State), s.storesReg c FIO_CMD.WD_REARM.addr →
    (∀ b : Bool, let k := if b then 13 else 12
      let hold := if b then FIO_STAT.LSHOLD13 else FIO_STAT.LSHOLD12
      ∃ t, exec (.lsRelease c b) s = .next t ∧ s.sameRest t ∧
        (s.bitOf FIO_DOSTAT.RB k = true → t.get FIO_FLT.REL_REF = 1 ∧ t.get hold = s.get hold) ∧
        (s.bitOf FIO_DOSTAT.RB k = false → s.on k = true → t.regs = s.regs) ∧
        (s.bitOf FIO_DOSTAT.RB k = false → s.on k = false → t.get hold = 0)) ∧
    (s.get FIO_STAT.WD_EXP = 0 → ∃ t, exec (.wdRearm c) s = .next t ∧ s.sameRest t ∧ t.regs = s.regs ∧ t.fio = s.fio) ∧
    (s.get FIO_STAT.WD_EXP ≠ 0 → shut s → ∃ t, exec (.wdRearm c) s = .next t ∧ s.sameRest t ∧ t.get FIO_STAT.WD_EXP = 0 ∧
      t.get FIO_STAT.WD_RUN = 1 ∧ t.fio.wdTicks = 0 ∧ ∀ n, n < 12 → s.gaitOff n = false → s.thermOff n = false →
        s.get FIO_STAT.TEST_BUSY = 0 → t.on n = demand s n) ∧
    ∀ k : BitVec 2, ∃ t, exec (.cntclr c k) s = .next t ∧ s.sameRest t ∧ t.get (FIO_CNT.COUNT k.toNat) = 0 ∧
      t.get (FIO_CNTPER.PER k.toNat) = 0xFFFFFFFF ∧ t.fio.cntSeen.testBit k.toNat = false) ∧
  (∀ (c : Core) (v : Word) (s : State), s.storesReg c FIO_WDKEY.KEY.addr →
    ∃ t, exec (.fioWdkey c v) s = .next t ∧ s.sameRest t ∧
      (s.fioGet FIO_WDCFG.EN = 0 → t.regs = s.regs ∧ t.fio = s.fio) ∧
      (s.fioGet FIO_WDCFG.EN ≠ 0 → v = 0x5A17 → t.regs = s.regs ∧ t.fio = { s.fio with wdTicks := 0 }) ∧
      (s.fioGet FIO_WDCFG.EN ≠ 0 → v ≠ 0x5A17 → t.get FIO_FLT.WD_KEY = 1 ∧ t.fio = s.fio)) ∧
  (∀ s : State,
    let due : Prop := s.get FIO_STAT.WD_RUN ≠ 0 ∧ 10 * s.fioGet FIO_WDCFG.TMO ≤ s.fio.wdTicks
    (¬ due → exec .fioWatchdogExpiry s = .next s) ∧
    (due → ∃ t, exec .fioWatchdogExpiry s = .next t ∧ s.sameRest t ∧ t.get FIO_STAT.WD_RUN = 0 ∧ t.get FIO_STAT.WD_EXP = 1 ∧
      t.get FIO_FLT.WD_EXP = 1 ∧ s.asserts t 199 ∧ t.fio.wdDemand = s.get FIO_DOSET.DO ∧
      (∀ n, n < 12 → s.gaitOff n = false → s.thermOff n = false → (t.on n = true ↔ s.fioGet (FIO_DOCFG.SAFE n) = 1 ∨
        s.fioGet (FIO_DOCFG.SAFE n) = 2 ∧ demand s n = true)) ∧ ∀ n, 12 ≤ n → n < 15 → t.on n = false) ∧
    ∀ second : Bool,
      let ok := if second then FIO_STAT.VF2_OK else FIO_STAT.VF1_OK
      (s.ioPowered = false → exec (.vfLow second) s = .next s ∧ exec (.vfRecover second) s = .next s) ∧
      (s.ioPowered = true → ∃ t, exec (.vfLow second) s = .next t ∧ s.sameRest t ∧ t.get ok = 0 ∧
        t.get (if second then FIO_FLT.VF2_LOW else FIO_FLT.VF1_LOW) = 1 ∧ s.asserts t 198) ∧
      (s.ioPowered = true → ∃ t, exec (.vfRecover second) s = .next t ∧ s.sameRest t ∧ t.get ok = 1 ∧ ∀ f : Fld, f.key ≠ ok.key → t.get f = s.get f)) ∧
  (∀ (k : BitVec 2) (s : State),
    let pulses : Prop := s.ioPowered = true ∧ (s.fioGet FIO_TSCFG.EN).testBit k.toNat = true ∧ s.fio.tsOff.testBit k.toNat = false
    (¬ pulses → exec (.testSourceOverload k) s = .next s) ∧
    (pulses → ∃ t, exec (.testSourceOverload k) s = .next t ∧ s.sameRest t ∧ t.bitOf FIO_FLT.TS_OVL k.toNat = true ∧ s.asserts t 197 ∧
      t.fio.tsOff.testBit k.toNat = true) ∧
    (∃ t, exec (.testSourceRetry k) s = .next t ∧ s.sameRest t ∧ t.regs = s.regs ∧ t.fio.tsOff.testBit k.toNat = false) ∧
    (∀ high : BitVec 12,
      (¬ pulses → exec (.testSourcePulse k high) s = .next s) ∧
      (pulses → ∃ t, exec (.testSourcePulse k high) s = .next t ∧ s.sameRest t ∧
        ∀ n, n < 12 → s.fioGet (FIO_DICFG.TSEN n) = 1 → s.fioGet (FIO_DICFG.TSSEL n) = k.toNat →
          let x := mapGet 0 s.fio.xs n
          (high.getLsbD n = false → mapGet 0 t.fio.xs n = 0 ∧ t.fio.xsForce.testBit n = false) ∧
          (high.getLsbD n = true → mapGet 0 t.fio.xs n = min (x + 1) 2 ∧ (x = 1 → s.asserts t 197 ∧
            t.bitOf FIO_DIFLT.XSHORT n = true ∧ t.bitOf FIO_DISTAT.FILT n = false ∧ t.fio.xsForce.testBit n = true)))) ∧
    (let e := s.fioGet (FIO_CNTCFG.EDGE k.toNat)
     ∀ (rising : Bool) (dt : Nat),
      let counted : Prop := s.ioPowered = true ∧ (e = 2 ∨ (e = 0 ∧ rising = true) ∨ (e = 1 ∧ rising = false))
      let n := (s.get (FIO_CNT.COUNT k.toNat) + 1) % 2 ^ 32
      (¬ counted → exec (.counterEdge k rising dt) s = .next s) ∧
      (counted → ∃ t, exec (.counterEdge k rising dt) s = .next t ∧ s.sameRest t ∧ t.get (FIO_CNT.COUNT k.toNat) = n ∧
        t.fio.cntSeen.testBit k.toNat = true ∧ mapGet 0 t.fio.cntAt k.toNat = s.nowUs ∧ t.fio.cntTimed.testBit k.toNat = false ∧
        t.get (FIO_CNTPER.PER k.toNat) = (if s.fio.cntSeen.testBit k.toNat then min dt 0xFFFFFFFE
          else s.get (FIO_CNTPER.PER k.toNat)) ∧
        (n = s.fioGet (FIO_CNTCMP.CMP k.toNat) → s.asserts t (192 + k.toNat)))) ∧
    let runs : Prop := s.ioPowered = true ∧ s.fio.cntTimed.testBit k.toNat = false ∧
      mapGet 0 s.fio.cntAt k.toNat + 1000 * s.fioGet (FIO_CNTCFG.PTMO k.toNat) ≤ s.nowUs
    (¬ runs → exec (.counterPeriodTimeout k) s = .next s) ∧
    (runs → ∃ t, exec (.counterPeriodTimeout k) s = .next t ∧ s.sameRest t ∧ t.get (FIO_CNTPER.PER k.toNat) = 0xFFFFFFFF ∧
      s.asserts t 196 ∧ t.fio.cntTimed.testBit k.toNat = true)) ∧
  (∀ (n : BitVec 4) (s : State),
    let k := n.toNat
    (∀ level : Bool, (s.ioPowered = false → exec (.diSample n level) s = .next s) ∧
      (s.ioPowered = true → ∃ t, exec (.diSample n level) s = .next t ∧ s.sameRest t ∧ t.bitOf FIO_DISTAT.RAW k = level ∧
        (12 ≤ k → t.bitOf FIO_DISTAT.FILT k = level) ∧ (k < 12 → t.get FIO_DISTAT.FILT = s.get FIO_DISTAT.FILT))) ∧
    (let now : Bool := s.bitOf FIO_DISTAT.RAW k && !(s.fio.xsForce.testBit k)
     let e := s.fioGet (FIO_DICFG.EDGE k)
     let acts : Prop := s.ioPowered = true ∧ k < 12 ∧ now ≠ s.bitOf FIO_DISTAT.FILT k ∧
       mapGet 0 s.fio.rawAt k + s.filterUs k ≤ s.nowUs
     (¬ acts → exec (.diFilterChange n) s = .next s) ∧
     (acts → ∃ t, exec (.diFilterChange n) s = .next t ∧ s.sameRest t ∧ t.bitOf FIO_DISTAT.FILT k = now ∧
       (e = 3 ∨ (e = 1 ∧ now = true) ∨ (e = 2 ∧ now = false) → s.asserts t (176 + k)))) ∧
    let watched : Prop := s.bitOf FIO_DIWAKE.DI k = true
    (¬ watched → exec (.diWakeChange n) s = .next s) ∧
    (watched → ∃ t, exec (.diWakeChange n) s = .next t ∧ s.sameRest t ∧ (s.flag PWR_WAKEEN.DI = true → s.gait = Gait.paddock →
      s.power.trans = none → s.sys.booting = false → t.bitOf PWR_WAKESRC.SRC 4 = true ∧ t.power.trans = some ⟨4, Gait.walk, 1, false⟩ ∧
        t.get PWR_GAIT.BUSY = 1)))

/-- A frame received without error is stored by the first matching receive object, passing on objects with NEXT
while NEW: data, identifier, formats, timestamp (0 in Paddock), RXSEQ, NEW; over an unread frame with OVR, RXLOST
and source base + 6, or lost at the end of a NEXT chain. A receive timeout sets TMO and source base + 3. A request
sets TXPEND, or with the gate closed ends with RES 5; an abort ends with RES 4 what is not on the bus. The frame
offered is the one that wins arbitration. A frame sent ends with RES 1 and completes its txf; a one-shot frame ends
with RES 2 or 3 and source base + 2, another is retried. Errors count TEC or REC by the increment of ISO 11898-1,
to error passive with source base + 4 and bus-off with RES 6 and source base + 5, recovery with base + 7;
restricted operation does not count. Timing is written only in INIT, a pending object not outside it; fields that
make a reserved encoding together keep their values (the choice of log entry 108). A powered controller that left
INIT joins. -/
def Obligations.CanControllers : Prop :=
  let base (x : Nat) : Nat := 208 + 8 * x
  let obit (t : State) (f : Nat → Nat → Fld) (x n : Nat) : Bool := t.bitOf (f x (n / 32)) (n % 32)
  let ended (t : State) (x n res : Nat) : Prop := t.get (CNx_OSTAT.TXPEND x n) = 0 ∧ obit t CNx_TXPEND.BITS x n = false ∧
    t.get (CNx_OSTAT.RES x n) = res ∧ obit t CNx_TXDONE.BITS x n = true
  let completes (s t : State) (x n res status val : Nat) : Prop := ∀ c k cls, mapGet none s.can.txf (128 * x + n) = some (c, k) →
    s.tandem = false → s.tag c k = .issued cls → t.tag c k = .done (completionWord res status cls k) val
  let plain (s t : State) : Prop := s.can.txf = [] → s.sameRest t
  (∀ (x : Fin 2) (f : CanFrame) (sof : BitVec 64) (s : State),
    let X := x.val
    let i : Instr := .canFrameReceived x f sof
    let fits (n : Nat) : Prop := n < 128 ∧ s.get (CNx_OCFG.EN X n) ≠ 0 ∧ s.get (CNx_OCFG.DIR X n) = 0 ∧
      (s.get (CNx_OCFG.IDE X n) ≠ 0 ↔ f.ide = true) ∧ (s.get (CNx_OCFG.FMT X n) = 2 ∨ s.get (CNx_OCFG.FMT X n) = b2n f.fdf) ∧
      ∀ b, b < 29 → (f.ide = false → 18 ≤ b) → s.bitOf (CNx_OMASK.MASK X n) b = true → f.id.getLsbD b = s.bitOf (CNx_OID.ID X n) b
    let new (n : Nat) : Prop := s.get (CNx_OSTAT.NEW X n) ≠ 0
    let next (n : Nat) : Prop := s.get (CNx_OCFG.NEXT X n) ≠ 0
    let dropped : Prop := f.remote = true ∨ (f.fdf = true ∧ s.get (CNx_CTRL.FDEN X) = 0)
    let ends (n : Nat) : Prop := ¬ dropped ∧ fits n ∧ (∀ m, m < n → fits m → next m ∧ new m) ∧
      (next n → new n → ∀ m, n < m → ¬ fits m)
    let stored (t : State) (n : Nat) : Prop := (∀ j, j < 16 → t.get (CNx_ODATA.WORD X n j) = wordOf (f.data.map (·.toNat)) j) ∧
      t.get (CNx_ORXID.ID X n) = f.id.toNat ∧ t.get (CNx_OSTAT.LEN X n) = f.data.length % 128 ∧
      t.get (CNx_OSTAT.FDF X n) = b2n f.fdf ∧ t.get (CNx_OSTAT.BRS X n) = b2n f.brs ∧ t.get (CNx_OSTAT.ESI X n) = b2n f.esi ∧
      t.get (CNx_OSTAT.IDE X n) = b2n f.ide ∧ t.get (CNx_OSTAT.RXSEQ X n) = (s.get (CNx_OSTAT.RXSEQ X n) + 1) % 16 ∧
      t.get (CNx_OSTAT.NEW X n) = 1 ∧ obit t CNx_RXNEW.BITS X n = true ∧ t.get (CNx_OSTAT.TMO X n) = 0 ∧
      (s.gait = Gait.paddock → t.get (CNx_OTSLO.NS X n) = 0 ∧ t.get (CNx_OTSHI.NS X n) = 0) ∧
      (s.gait ≠ Gait.paddock → t.get (CNx_OTSLO.NS X n) = sof.toNat % 2 ^ 32 ∧ t.get (CNx_OTSHI.NS X n) = sof.toNat / 2 ^ 32) ∧
      (s.get (CNx_OCFG.IRQ X n) ≠ 0 → s.asserts t (base X))
    let lost (t : State) : Prop := t.get (CNx_FLT.RXLOST X) = 1 ∧ s.asserts t (base X + 6)
    let same (t : State) (n : Nat) : Prop := t.get (CNx_OSTAT.RXSEQ X n) = s.get (CNx_OSTAT.RXSEQ X n) ∧
      t.get (CNx_OSTAT.NEW X n) = s.get (CNx_OSTAT.NEW X n) ∧ ∀ j, j < 16 → t.get (CNx_ODATA.WORD X n j) = s.get (CNx_ODATA.WORD X n j)
    (s.canOn X = false → exec i s = .next s) ∧
    (s.canOn X = true → ∃ t, exec i s = .next t ∧ s.sameRest t ∧
      (dropped ∨ (∀ n, ¬ fits n) → ∀ n, n < 128 → same t n) ∧
      (∀ n, ends n → (∀ m, m < 128 → m ≠ n → same t m) ∧ (¬ new n → stored t n) ∧
        (new n → lost t ∧ (¬ next n → stored t n ∧ t.get (CNx_OSTAT.OVR X n) = 1) ∧ (next n → same t n))) ∧
      (s.canMode X ≠ Can.restricted → (s.get (CNx_STAT.REC X) ≤ 127 → t.get (CNx_STAT.REC X) = s.get (CNx_STAT.REC X) - 1) ∧
        (127 < s.get (CNx_STAT.REC X) → 119 ≤ t.get (CNx_STAT.REC X) ∧ t.get (CNx_STAT.REC X) ≤ 127)) ∧
      (s.canMode X = Can.restricted → t.get (CNx_STAT.REC X) = s.get (CNx_STAT.REC X)))) ∧
  (∀ (x : Fin 2) (n : BitVec 7) (s : State),
    let X := x.val
    let N := n.toNat
    let due : Prop := s.canUp X = true ∧ s.get (CNx_OCFG.EN X N) ≠ 0 ∧ s.get (CNx_OCFG.DIR X N) = 0 ∧
      s.get (CNx_ORTO.MS X N) ≠ 0 ∧ s.get (CNx_OSTAT.TMO X N) = 0 ∧ (s.gait = Gait.paddock ∨
        mapGet s.can.upAt s.can.rxAt (128 * X + N) + 1000 * s.get (CNx_ORTO.MS X N) ≤ s.nowUs)
    (¬ due → exec (.canRxTimeout x n) s = .next s) ∧
    (due → ∃ t, exec (.canRxTimeout x n) s = .next t ∧ s.sameRest t ∧ t.get (CNx_OSTAT.TMO X N) = 1 ∧
      obit t CNx_RXTMO.BITS X N = true ∧ s.asserts t (base X + 3))) ∧
  (∀ (c : Core) (x : BitVec 1) (n : BitVec 7) (s : State),
    let X := x.toNat
    let N := n.toNat
    (s.storesReg c (CNx_TXREQ.BITS X (N / 32)).addr →
      let able : Prop := s.canUp X = true ∧ s.get (CNx_OCFG.EN X N) ≠ 0 ∧ s.get (CNx_OCFG.DIR X N) ≠ 0
      let shut : Prop := s.get (CNx_OCFG.GATED X N) ≠ 0 ∧ s.gateClosed = true
      ∃ t, exec (.canTxreq c x n) s = .next t ∧ plain s t ∧ (¬ able → t.regs = s.regs) ∧ (able → shut → ended t X N 5) ∧
        (able → ¬ shut → s.sameRest t ∧ t.get (CNx_OSTAT.TXPEND X N) = 1 ∧ obit t CNx_TXPEND.BITS X N = true ∧
          t.get (CNx_OSTAT.RES X N) = 0)) ∧
    (s.storesReg c (CNx_TXABORT.BITS X (N / 32)).addr →
      ∃ t, exec (.canTxabort c x n) s = .next t ∧ plain s t ∧ (s.get (CNx_OSTAT.TXPEND X N) = 0 → s.sameRest t ∧ t.regs = s.regs) ∧
        (s.get (CNx_OSTAT.TXPEND X N) ≠ 0 → (ended t X N 4 ∧ completes s t X N 4 3 0) ∨
          (s.canSends X = true ∧ s.canAble X N = true ∧ t.regs = s.regs ∧ t.can = s.can ∧ s.sameRest t))) ∧
    (s.storesReg c (CNx_CMD.RECOVER X).addr →
      (∃ t, exec (.canRecover c x) s = .next t ∧ s.sameRest t ∧ t.regs = s.regs ∧
        (s.get (CNx_STAT.STATE X) = 3 → t.can.recovering.testBit X = true) ∧ (s.get (CNx_STAT.STATE X) ≠ 3 → t.can = s.can)) ∧
      ∃ t, exec (.canAbortall c x) s = .next t ∧ plain s t ∧ ∃ kept : Option Nat, (s.canSends X = false → kept = none) ∧
        ∀ m, m < 128 → s.get (CNx_OSTAT.TXPEND X m) ≠ 0 → (kept ≠ some m → ended t X m 4) ∧
          (kept = some m → s.canAble X m = true ∧ t.get (CNx_OSTAT.TXPEND X m) = s.get (CNx_OSTAT.TXPEND X m)))) ∧
  (∀ (x : Fin 2) (obj : Option (BitVec 7)) (sof : BitVec 64) (s : State),
    let X := x.val
    (s.canBus X obj = none → exec (.canFrameSent x obj sof) s = .next s ∧ exec (.canArbitrationLost x obj) s = .next s) ∧
    ∀ n, n < 128 → s.canBus X obj = some n →
      s.canAble X n = true ∧
      (obj = none → ∀ m, m < 128 → s.canAble X m = true → s.canKey X n < s.canKey X m ∨ (s.canKey X n = s.canKey X m ∧ n ≤ m)) ∧
      (∃ t, exec (.canFrameSent x obj sof) s = .next t ∧ plain s t ∧ ended t X n 1 ∧
        t.get (CNx_STAT.TEC X) = (s.get (CNx_STAT.TEC X) - 1) % 256 ∧
        completes s t X n 1 0 (if s.gait = Gait.paddock then 0 else sof.toNat % 2 ^ 32) ∧
        (s.get (CNx_OCFG.IRQ X n) ≠ 0 → s.asserts t (base X + 1)) ∧
        (s.gait ≠ Gait.paddock → t.get (CNx_OTSLO.NS X n) = sof.toNat % 2 ^ 32)) ∧
      (s.get (CNx_OCFG.ONESHOT X n) = 0 → exec (.canArbitrationLost x obj) s = .next s) ∧
      (s.get (CNx_OCFG.ONESHOT X n) ≠ 0 → ∃ t, exec (.canArbitrationLost x obj) s = .next t ∧ plain s t ∧ ended t X n 2 ∧
        completes s t X n 2 1 0 ∧ t.get (CNx_FLT.ONESHOT X) = 1 ∧ s.asserts t (base X + 2))) ∧
  (∀ (x : Fin 2) (lec : Fin 7) (sending : Bool) (obj : Option (BitVec 7)) (inc : Fin 9) (s : State),
    let X := x.val
    let i : Instr := .canError x lec sending obj inc
    let pxe : Prop := lec.val = 0 ∧ s.get (CNx_CTRL.PXE X) ≠ 0
    let tec := s.get (CNx_STAT.TEC X)
    let rec0 := s.get (CNx_STAT.REC X)
    let st := s.get (CNx_STAT.STATE X)
    let tx : Bool := sending && (s.canBus X obj).isSome
    let off : Prop := tx = true ∧ 256 ≤ tec + inc.val
    (s.canOn X = false → exec i s = .next s) ∧
    (s.canOn X = true → pxe → exec i s = .next (s.put (CNx_FLT.PXE X) true)) ∧
    (s.canOn X = true → ¬ pxe → tec ≤ 255 → rec0 ≤ 255 → ∃ t, exec i s = .next t ∧ plain s t ∧
      t.get (CNx_STAT.LEC X) = (if lec.val = 0 then 2 else lec.val) ∧
      (∀ n, sending = true → s.canBus X obj = some n → s.get (CNx_OCFG.ONESHOT X n) ≠ 0 → n < 128 → ended t X n 3 ∧
        completes s t X n 3 1 0 ∧ t.get (CNx_FLT.ONESHOT X) = 1 ∧ s.asserts t (base X + 2)) ∧
      (s.canMode X = Can.restricted → t.get (CNx_STAT.TEC X) = tec ∧ t.get (CNx_STAT.REC X) = rec0 ∧ t.get (CNx_STAT.STATE X) = st) ∧
      (s.canMode X ≠ Can.restricted →
        t.get (CNx_STAT.TEC X) = (if tx then min 255 (tec + inc.val) else tec) ∧
        t.get (CNx_STAT.REC X) = (if tx then rec0 else min 255 (rec0 + inc.val)) ∧
        (off → t.get (CNx_STAT.STATE X) = 3 ∧ t.get (CNx_FLT.BUSOFF X) = 1 ∧ s.asserts t (base X + 5) ∧
          (t.can.recovering.testBit X = true ↔ s.get (CNx_CTRL.BOAUTO X) ≠ 0) ∧
          ∀ m, m < 128 → s.get (CNx_OSTAT.TXPEND X m) ≠ 0 → t.get (CNx_OSTAT.TXPEND X m) = 0 ∧
            (s.canBus X obj ≠ some m → ended t X m 6 ∧
              ((∀ n, s.canBus X obj = some n → s.get (CNx_OCFG.ONESHOT X n) = 0) → completes s t X m 6 1 0))) ∧
        (¬ off → st = 1 → (128 ≤ t.get (CNx_STAT.TEC X) ∨ 128 ≤ t.get (CNx_STAT.REC X)) →
          t.get (CNx_STAT.STATE X) = 2 ∧ t.get (CNx_FLT.ERRPASS X) = 1 ∧ s.asserts t (base X + 4)) ∧
        (¬ off → st = 1 → t.get (CNx_STAT.TEC X) < 128 → t.get (CNx_STAT.REC X) < 128 → t.get (CNx_STAT.STATE X) = 1)))) ∧
  (∀ (x : Fin 2) (s : State),
    let X := x.val
    let back : Prop := s.canUp X = true ∧ s.get (CNx_STAT.STATE X) = 3 ∧ s.get (CNx_CTRL.MODE X) ≠ Can.init ∧
      (s.get (CNx_CTRL.BOAUTO X) ≠ 0 ∨ s.can.recovering.testBit X = true)
    let joins : Prop := s.canUp X = true ∧ s.get (CNx_CTRL.MODE X) ≠ Can.init ∧ s.get (CNx_STAT.STATE X) = 0
    (¬ back → exec (.canBusOffRecovery x) s = .next s) ∧
    (back → ∃ t, exec (.canBusOffRecovery x) s = .next t ∧ s.sameRest t ∧ t.get (CNx_STAT.STATE X) = 1 ∧
      t.get (CNx_STAT.TEC X) = 0 ∧ t.get (CNx_STAT.REC X) = 0 ∧ s.asserts t (base X + 7) ∧ t.can.recovering.testBit X = false) ∧
    (¬ joins → exec (.canModeChange x) s = .next s) ∧
    (joins → exec (.canModeChange x) s = .next (s.set (CNx_STAT.STATE X) 1))) ∧
  ∀ (c : Core) (x : BitVec 1) (v : Word) (s : State),
    let X := x.toNat
    let inInit : Prop := s.get (CNx_CTRL.MODE X) = Can.init
    let keeps (t : State) (a : Nat) : Prop := ∀ f ∈ fieldsAt a, t.get f = s.get f
    (∀ reg : Fin 6,
      let a := 0x600C0010 + 0x10000 * X + 4 * reg.val
      s.storesReg c a → fieldsAt a ≠ [] → ∃ t, exec (.canTimingWrite c x reg v) s = .next t ∧ s.sameRest t ∧
        (¬ inInit → t.get (CNx_FLT.CFGWR X) = 1 ∧ keeps t a) ∧
        (inInit → ∀ f ∈ fieldsAt a, t.get f = s.get f ∨ t.get f = Fld.of f v.toNat) ∧
        (inInit → reg.val = 0 →
          let g (f : Nat → Fld) : Nat := Fld.of (f X) v.toNat
          let brp := g CNx_NBT.NBRP
          let t1 := g CNx_NBT.NTSEG1
          let t2 := g CNx_NBT.NTSEG2
          let sjw := g CNx_NBT.NSJW
          let fine : Prop := 1 ≤ sjw ∧ sjw ≤ t2 ∧ 1 ≤ t2 ∧ 2 ≤ t1 ∧ t1 ≤ 256 ∧ 1 ≤ brp ∧ 100 ≤ brp * (1 + t1 + t2)
          (fine → ∀ f ∈ fieldsAt a, t.get f = Fld.of f v.toNat) ∧ (t2 < sjw ∨ brp * (1 + t1 + t2) < 100 → keeps t a))) ∧
    ∀ n : BitVec 7,
      let N := n.toNat
      let a := (CNx_OCFG.EN X N).addr
      let word (f : Nat → Nat → Fld) : Nat := Fld.of (f X N) v.toNat
      let bad (f : Fld) : Prop :=
        (f = CNx_OCFG.FMT X N ∨ f = CNx_OCFG.LEN X N) ∧ word CNx_OCFG.FMT = 0 ∧ 8 < word CNx_OCFG.LEN ∨
          X = 1 ∧ f = CNx_OCFG.WAKE X N
      s.storesReg c a → (∀ f ∈ fieldsAt a, s.get f < 2 ^ f.width) → ∃ t, exec (.canObjectConfigWrite c x n v) s = .next t ∧ s.sameRest t ∧
        (s.get (CNx_OSTAT.TXPEND X N) ≠ 0 → ¬ inInit → t.get (CNx_FLT.BUSYWR X) = 1 ∧ keeps t a) ∧
        (s.get (CNx_OSTAT.TXPEND X N) = 0 ∨ inInit →
          (∀ f ∈ fieldsAt a, (bad f ∨ f.legal.ok (Fld.of f v.toNat) = false → t.get f = s.get f) ∧
            (¬ bad f → f.legal.ok (Fld.of f v.toNat) = true → t.get f = Fld.of f v.toNat)) ∧
          ((∃ f ∈ [CNx_OCFG.EN X N, CNx_OCFG.DIR X N, CNx_OCFG.IDE X N, CNx_OCFG.FMT X N], t.get f ≠ s.get f) →
            t.get (CNx_OSTAT.NEW X N) = 0 ∧ obit t CNx_RXNEW.BITS X N = false ∧ t.get (CNx_OSTAT.OVR X N) = 0 ∧
            t.get (CNx_OSTAT.TMO X N) = 0))

/-- The switch learns the source and forwards to the port of a learned unicast address, else to every other enabled
port, with the residence time corrected where TC_EN is 1, dropping and counting on a full queue; P0 answers ARP and
echo, retries ARP three times and then fails. A DEMAND, SERVICE telegram takes effect only when every check passes,
else it is counted; the timeout clears DEM_OK with source 228. A publication sends the dispatch telegram on the
buses selected. A frame of txf leaves with its timestamp queued, or with RES 3. The time unit changes state as
Table PTP-2 gives: samples, grandmaster, sync timeout, HOLDMAX, TIME_ACCEPT, the step at the boundary. PPS edges,
time compares, the timestamp queue, telemetry, link changes and the master role act as given. -/
def Obligations.EthernetAndTime : Prop :=
  let quiet (s : State) : State := { s with eth := { s.eth with out := [] } }
  let fresh (s : State) (ip : Nat) : Prop := ∃ e, s.arpOf (s.nextHop ip) = some e ∧ s.nowUs < e.seen + 60000000
  let ends (s t : State) (x : EthTx) (res status val : Nat) : Prop := ∀ cls, s.tandem = false → s.tag x.core x.tag = .issued cls →
    t.tag x.core x.tag = .done (completionWord res status cls x.tag) val
  (∀ (f : EthFrame) (residence ld : Nat) (full : BitVec 3) (s : State),
    let i : Instr := .switchForward f residence ld full
    let runs : Prop := (s.ethUp = true ∨ s.inReset = true) ∧ s.ethPort f.port.val = true
    (¬ runs → exec i s = .next s) ∧
    (runs → ∃ t, exec i s = .next t ∧ s.sameRest t ∧
      (s.eth.table.length < 256 → ∃ e ∈ t.eth.table, e.mac = f.src.toNat ∧ e.port = f.port.val ∧ e.seen = s.nowUs) ∧
      let known := t.eth.table.find? fun e => decide (e.mac = f.dst.toNat)
      let group : Prop := f.dst.getLsbD 40 = true
      let own : Prop := f.dst.toNat = s.ethGet ETH_MACHI.MAC * 2 ^ 32 + s.ethGet ETH_MACLO.MAC
      let clock : Prop := s.get PTP_CTRL.TC_EN ≠ 0
      let peer : Prop := s.get PTP_PORTCFG.PROFILE = 1 ∧ f.port.val ≠ 0
      let answers : Prop := f.kind = .pdelayReq ∧ clock ∧ peer
      let goes (p : Nat) : Prop := p ≠ f.port.val ∧ s.ethPort p = true ∧
        (group ∨ (own ∧ p = 0) ∨ (¬ own ∧ ∀ e, known = some e → e.port = p))
      let high : Bool := decide (5 ≤ f.pcp.toNat) || decide (f.kind = .ptpEvent true) || decide (f.kind = .ptpEvent false) ||
        decide (f.kind = .pdelayReq) || decide (f.kind = .ptpGeneral) || decide (f.kind = .plant)
      let toP0 : Prop := goes 0 ∧ full.getLsbD 0 = false
      (answers → t.eth.out = [.pdelayResp f.port.val] ∧ t.regs = s.regs) ∧
      (¬ answers →
        (∀ p corr, p = 1 ∨ p = 2 →
          ((¬ clock → corr = 0) ∧ (clock → f.kind = .ptpEvent true → peer → corr = residence + ld) ∧
            (clock → f.kind = .ptpEvent true → ¬ peer → corr = residence) ∧
            (clock → f.kind = .ptpEvent false ∨ f.kind = .pdelayReq → corr = residence) ∧
            (f.kind ≠ .ptpEvent true → f.kind ≠ .ptpEvent false → f.kind ≠ .pdelayReq → corr = 0)) →
          (EthOut.forward p high corr ∈ t.eth.out ↔ goes p ∧ full.getLsbD p = false)) ∧
        (full = 0 → t.get ETH_SWDROP.COUNT = s.get ETH_SWDROP.COUNT) ∧
        (∀ p e, p = 1 ∨ p = 2 → goes p → full.getLsbD p = true → ¬ group → known = some e →
          t.get ETH_SWDROP.COUNT = min 0xFFFFFFFF (s.get ETH_SWDROP.COUNT + 1)) ∧
        (∀ ip, toP0 → f.kind = .arpReply ip → t.arpOf ip.toNat = some ⟨ip.toNat, f.src.toNat, s.nowUs⟩) ∧
        (toP0 → group ∨ own → f.kind = .other →
          t.get ETH_RXDROP.COUNT = min 0xFFFFFFFF (s.get ETH_RXDROP.COUNT + 1))))) ∧
  (∀ (target sender : BitVec 32) (mac : BitVec 48) (s : State),
    let mine : Prop := s.ethUp = true ∧ target.toNat = s.ethGet ETH_IPADDR.IP
    exec (.arpRequest target sender mac) s = .next
      { s with eth := { s.eth with out := if mine then [.arpReply sender.toNat mac.toNat] else [] } } ∧
    exec (.icmpEchoRequest target sender) s = .next { s with eth := { s.eth with
      out := if mine ∧ s.ethGet ETH_CTRL.ICMP_EN ≠ 0 then [.icmpReply sender.toNat] else [] } }) ∧
  (∀ (ip : BitVec 32) (s : State),
    let i : Instr := .arpRetry ip
    let e := s.eth.asking.find? fun e => decide (e.1 = ip.toNat)
    (e = none → exec i s = .next (quiet s)) ∧
    (∀ n, e = some (ip.toNat, n) → (n < 3 → ∃ t, exec i s = .next t ∧ s.sameRest t ∧ t.regs = s.regs ∧
        t.eth.out = [.arpRequest ip.toNat] ∧ t.eth.asking.find? (fun e => decide (e.1 = ip.toNat)) = some (ip.toNat, n + 1)) ∧
      (3 ≤ n → ∃ t, exec i s = .next t ∧ t.get ETH_FLT.ARPFAIL = 1 ∧ (∀ m, (ip.toNat, m) ∉ t.eth.asking) ∧ t.eth.out = [] ∧
        (s.eth.tx = [] → s.sameRest t) ∧ ∀ x, s.eth.tx = [x] → x.udp = true → s.nextHop x.dip = ip.toNat → s.arpOf ip.toNat = none →
          t.eth.tx = [] ∧ ends s t x 2 1 0))) ∧
  (∀ (src : BitVec 32) (dport : BitVec 16) (bytes : List (BitVec 8)) (s : State),
    let i : Instr := .plantTelegramReceived src dport bytes
    let b := bytes.map (·.toNat)
    let at_ (k : Nat) : Nat := b.getD k 0
    let word (k : Nat) : Nat := ofLe ((b.drop k).take 4)
    let n := b.length
    let age : Int := sgn 32 (enc 32 ((word 12 : Int) - (s.devTime : Int)))
    let aged : Prop := s.get PTP_STAT.TVALID ≠ 0 ∧ at_ 3 % 2 = 1
    let accepts (type len : Nat) (zero : List Nat) : Prop := s.ethGet ETH_CTRL.PLANT_EN ≠ 0 ∧ dport.toNat = s.ethGet ETH_UDPPORT.PORT ∧
      (s.ethGet ETH_PLANTIP.IP = 0 ∨ src.toNat = s.ethGet ETH_PLANTIP.IP) ∧ at_ 0 = 0xA7 ∧ at_ 1 = 1 ∧ at_ 2 = type ∧ n = len ∧
      (∀ k ∈ zero, at_ k = 0) ∧ word (n - 4) = crc32c (b.take (n - 4)) ∧ word 8 = s.get SYS_UID0.UID ∧
      (∀ l, mapGet none s.eth.rxSeq type = some l → sgn 32 l < sgn 32 (word 4)) ∧
      (aged → (age.natAbs : Int) ≤ 1000000 * (s.ethGet ETH_DEMCFG.AGEMAX : Int))
    let noted (t : State) (type : Nat) : Prop := s.sameRest t ∧ mapGet none t.eth.rxSeq type = some (word 4) ∧ s.asserts t 229
    (s.ethUp = false → exec i s = .next s) ∧
    (s.ethUp = true → accepts 0x10 36 [17, 18, 19, 28, 29, 30, 31] → ∃ t, exec i s = .next t ∧ noted t 0x10 ∧
      t.get ETH_DEMSEQ.SEQ = word 4 ∧ t.get ETH_DEMI.MA = word 20 ∧ t.get ETH_DEMV.RAMPV = word 24 ∧ t.get ETH_DEMSTAT.MODE = at_ 16 ∧
      t.get ETH_STAT.DEM_OK = 1 ∧ t.get ETH_STAT.DEM_TMO = 0 ∧ (t.get ETH_DEMSTAT.NOAGE = 1 ↔ ¬ aged)) ∧
    (s.ethUp = true → accepts 0x11 28 [20, 21, 22, 23] → ∃ t, exec i s = .next t ∧ noted t 0x11 ∧ t.get ETH_SVC.CODE = at_ 16 ∧
      t.get ETH_SVC.CELL = at_ 18 + 256 * at_ 19 ∧ t.get ETH_SVC.NEW = 1) ∧
    (s.ethUp = true → (at_ 2 = 0x10 ∧ ¬ accepts 0x10 36 [17, 18, 19, 28, 29, 30, 31]) ∨
      (at_ 2 = 0x11 ∧ ¬ accepts 0x11 28 [20, 21, 22, 23]) → exec i s = .next (s.bump ETH_RXDROP.COUNT 1))) ∧
  (∀ s : State,
    let sel := s.get GGN_PUB.PUBSEL
    let on : Prop := sel ≠ 0 ∧ s.ioPowered = true ∧ s.get GGN_CTRL.RUN ≠ 0 ∧
      s.ggn.pubAt + 100 * s.get GGN_PUB.PERIOD ≤ s.nowUs
    let n := s.get CNB_DISP.OBJ
    (¬ on → exec .setpointPublish s = .next s) ∧
    (on → ∃ t, exec .setpointPublish s = .next t ∧ (s.can.txf = [] → s.sameRest t) ∧
      t.get CNB_DSEQ.SEQ = (s.get CNB_DSEQ.SEQ + 1) % 65536 ∧
      (sel.testBit 0 = true → s.dispatchUsable = false → t.get (CNx_FLT.DISP_CFG 1) = 1) ∧
      (sel.testBit 0 = true → s.dispatchUsable = true → n < 128 → t.get (CNx_ODATA.WORD 1 n 0) % 65536 = t.get CNB_DSEQ.SEQ ∧
        t.get (CNx_ODATA.WORD 1 n 1) = s.get GGN_DSP.MA % 2 ^ 32 ∧ t.get (CNx_ODATA.WORD 1 n 2) = s.get EST_ISTRCH.MA % 2 ^ 32 ∧
        t.get (CNx_ODATA.WORD 1 n 3) = s.get EST_ISTRDC.MA % 2 ^ 32 ∧ t.get (CNx_ODATA.WORD 1 n 5) = s.devTime % 2 ^ 32 ∧
        (s.get (CNx_OSTAT.TXPEND 1 n) ≠ 0 → t.get (CNx_FLT.DISP_STALE 1) = 1) ∧
        (s.gateClosed = false → t.get (CNx_OSTAT.TXPEND 1 n) = 1 ∧ t.get (CNx_OSTAT.RES 1 n) = 0) ∧
        (s.gateClosed = true → t.get (CNx_OSTAT.TXPEND 1 n) = 0 ∧ t.get (CNx_OSTAT.RES 1 n) = 5)) ∧
      let ip := s.ethGet ETH_DISPIP.IP
      (sel.testBit 1 = false → t.eth.out = []) ∧
      (sel.testBit 1 = true → ip = 0 → t.get ETH_FLT.DISP_CFG = 1 ∧ t.eth.out = []) ∧
      (sel.testBit 1 = true → ip ≠ 0 → s.gateClosed = true ∨ s.ethUp = false → t.eth.out = []) ∧
      (sel.testBit 1 = true → ip ≠ 0 → s.gateClosed = false → s.ethUp = true → fresh s ip → ∃ b : List Nat, b.length = 44 ∧
        b.take 3 = [0xA7, 1, 1] ∧ b.drop 40 = leBytes 4 (crc32c (b.take 40)) ∧
        t.eth.out = [.udp ip (s.ethGet ETH_DISPPORT.PORT) (s.ethGet ETH_UDPPORT.PORT) b]))) ∧
  (∀ s : State,
    let late : Prop := s.get ETH_STAT.DEM_OK ≠ 0 ∧ s.eth.demAt + 1000 * s.ethGet ETH_DEMCFG.DTMO ≤ s.nowUs
    (¬ late → exec .demandTimeout s = .next s) ∧
    (late → ∃ t, exec .demandTimeout s = .next t ∧ s.sameRest t ∧ t.get ETH_STAT.DEM_OK = 0 ∧
      t.get ETH_STAT.DEM_TMO = 1 ∧ t.get ETH_FLT.DEM_TMO = 1 ∧ s.asserts t 228) ∧
    (let ip := s.ethGet ETH_PLANTIP.IP
     let sends : Prop := s.ethGet ETH_TELCFG.EN ≠ 0 ∧ s.ethUp = true ∧ ip ≠ 0 ∧
       s.eth.telAt + 1000 * s.ethGet ETH_TELCFG.PERIOD ≤ s.nowUs
     (¬ sends → exec .telemetrySend s = .next (quiet s)) ∧
     (sends → ∃ t, exec .telemetrySend s = .next t ∧ s.sameRest t ∧ t.regs = s.regs ∧ t.eth.telAt = s.nowUs ∧ (fresh s ip → ∃ b : List Nat, b.length = 68 ∧
       b.take 3 = [0xA7, 1, 2] ∧ b.drop 64 = leBytes 4 (crc32c (b.take 64)) ∧
       t.eth.out = [.udp ip (s.ethGet ETH_UDPPORT.PORT) (s.ethGet ETH_UDPPORT.PORT) b]))) ∧
    (∀ p up : Bool,
      let f := if p then ETH_STAT.P2LINK else ETH_STAT.P1LINK
      (s.flag f = up → exec (.ethLinkChange p up) s = .next s) ∧
      (s.flag f ≠ up → ∃ t, exec (.ethLinkChange p up) s = .next t ∧ s.sameRest t ∧ t.get f = b2n up ∧
        t.get (if p then ETH_FLT.P2CHG else ETH_FLT.P1CHG) = 1 ∧ s.asserts t 224)) ∧
    (let master : Prop := s.ethUp = true ∧ s.get PTP_CTRL.MASTER_EN ≠ 0 ∧ s.get PTP_STAT.MASTER ≠ 0
     (¬ master → exec .masterSyncInterval s = .next (quiet s)) ∧
     (master → ∃ t, exec .masterSyncInterval s = .next t ∧ s.sameRest t ∧ t.regs = s.regs ∧ t.ptp.syncs = s.ptp.syncs + 1 ∧
       t.eth.out = if s.ptp.syncs % 2 = 0 then [.ptpSync, .ptpFollowUp, .ptpAnnounce] else [.ptpSync, .ptpFollowUp])) ∧
    ∀ (full : Bool) (ts : BitVec 64),
      let i : Instr := .ethFrameSent full ts
      (s.ethUp = false ∨ s.txReady = none → exec i s = .next (quiet s)) ∧
      ∀ x, s.ethUp = true → s.txReady = some x → ∃ t, exec i s = .next t ∧ x ∉ t.eth.tx ∧
        (full = true → t.get ETH_SWDROP.COUNT = min 0xFFFFFFFF (s.get ETH_SWDROP.COUNT + 1) ∧ t.eth.out = [] ∧ t.ptp = s.ptp ∧
          ends s t x 3 1 0) ∧
        (full = false → ends s t x 1 0 (ts.toNat % 2 ^ 32) ∧
          t.eth.out = [if x.udp then .udp x.dip x.dport (s.ethGet ETH_UDPPORT.PORT) x.data else .raw x.data] ∧
          (x.tsreq = false → t.ptp = s.ptp) ∧
          (x.tsreq = true → s.ptp.tsq.length < 8 → t.ptp.tsq = s.ptp.tsq ++ [(x.stampId, ts.toNat)]) ∧
          (x.tsreq = true → 8 ≤ s.ptp.tsq.length → t.ptp = s.ptp ∧ t.get PTP_FLT.TSQ_OVF = 1 ∧ s.asserts t 227))) ∧
  (∀ s : State,
    let st := s.get PTP_STAT.STATE
    let locked : Prop := st = Ptp.locked
    let held : Prop := st = Ptp.locked ∨ st = Ptp.holdover
    let moves (t : State) (x : Nat) : Prop := t.get PTP_STAT.STATE = x ∧ (st ≠ x → s.asserts t 225 ∧ t.get PTP_STAT.TVALID = b2n (decide (x ≠ Ptp.free)))
    let refuses (t : State) (f : Fld) : Prop := moves t Ptp.refused ∧ t.get f = 1 ∧ s.asserts t 226 ∧ t.ptp.rate = s.ptp.rate
    let sampled (o : Int) (t : State) : Prop :=
      let sum : Int := if st = Ptp.locked then s.ptp.sum + o else o
      let q : Rat := (o : Rat) / ((2 ^ s.get PTP_SERVO.KPSH : Nat) : Rat) + (sum : Rat) / ((2 ^ s.get PTP_SERVO.KISH : Nat) : Rat)
      let m : Rat := ((1000 * s.get PTP_SERVO.RMAX : Nat) : Rat)
      let mine : Prop := s.get PTP_CTRL.SRC ≠ 0 ∨ s.gmid = s.ptp.gm
      let small : Prop := (o.natAbs : Int) ≤ 1000 * (s.get PTP_JUMPTHR.JUMPTHR : Int)
      t.get PTP_OFFSET.NS = enc 32 (max (-2147483648) (min 2147483647 o)) ∧ t.ptp.validAt = some s.nowUs ∧
      t.ptp.syncTmo = s.get PTP_TIMING.SYNCTMO ∧ t.ptp.holdMax = s.get PTP_TIMING.HOLDMAX ∧ t.devTime = s.devTime ∧
      (st = Ptp.free → s.get PTP_CTRL.AUTOFIRST ≠ 0 → t.ptp.first = some o ∧ t.get PTP_STAT.STATE = st) ∧
      (st = Ptp.free → s.get PTP_CTRL.AUTOFIRST = 0 → refuses t PTP_FLT.JUMP ∧ t.refofs = sgn 64 (enc 64 o)) ∧
      (held → ¬ mine → t.get PTP_STAT.STATE = st ∧ t.ptp.rate = s.ptp.rate) ∧
      (held → mine → small → moves t Ptp.locked ∧ t.ptp.rate = -(max (-m) (min m q)) ∧ t.ptp.sum = sum ∧ t.ptp.jumps = 0) ∧
      (held → mine → ¬ small → s.ptp.jumps < 2 → t.ptp.jumps = s.ptp.jumps + 1 ∧ t.get PTP_STAT.STATE = st ∧ t.ptp.rate = s.ptp.rate) ∧
      (held → mine → ¬ small → 2 ≤ s.ptp.jumps → refuses t PTP_FLT.JUMP ∧ t.refofs = sgn 64 (enc 64 o)) ∧
      (st = Ptp.refused → t.refofs = sgn 64 (enc 64 o) ∧ t.get PTP_STAT.STATE = st ∧ t.ptp.rate = s.ptp.rate)
    (∀ o : BitVec 64,
      let takes : Prop := s.ptpUp = true ∧ s.get PTP_CTRL.EN ≠ 0 ∧ s.get PTP_CTRL.SRC = 0 ∧ s.get PTP_STAT.MASTER = 0
      (¬ takes → exec (.ptpSyncSample o) s = .next s) ∧
      (takes → ∃ t, exec (.ptpSyncSample o) s = .next t ∧ s.sameRest t ∧ sampled o.toInt t)) ∧
    (∀ (gm : BitVec 64) (own : Bool), (s.ptpUp = false → exec (.bmcaGmChange gm own) s = .next s) ∧
      (s.ptpUp = true → ∃ t, exec (.bmcaGmChange gm own) s = .next t ∧ s.sameRest t ∧ t.gmid = gm.toNat ∧
        (t.get PTP_STAT.MASTER = 1 ↔ own = true ∧ s.get PTP_CTRL.MASTER_EN ≠ 0) ∧
        let other : Prop := held ∧ s.get PTP_STAT.TVALID ≠ 0 ∧ s.get PTP_CTRL.SRC = 0 ∧ gm.toNat ≠ s.ptp.gm
        (other → refuses t PTP_FLT.GMCHG) ∧ (¬ other → t.get PTP_STAT.STATE = st))) ∧
    (let late : Prop := locked ∧ s.ptp.validAt.getD 0 + 1000000 * s.ptp.syncTmo ≤ s.nowUs
     (¬ late → exec .syncTimeout s = .next s) ∧
     (late → ∃ t, exec .syncTimeout s = .next t ∧ s.sameRest t ∧ moves t Ptp.holdover ∧ t.get PTP_FLT.SYNCLOSS = 1 ∧ t.ptp = s.ptp)) ∧
    (let late : Prop := (st = Ptp.holdover ∨ st = Ptp.refused) ∧ s.ptp.fixedAt.getD 0 + 1000000 * s.ptp.holdMax ≤ s.nowUs
     (¬ late → exec .holdoverLimit s = .next s) ∧
     (late → ∃ t, exec .holdoverLimit s = .next t ∧ s.sameRest t ∧ moves t Ptp.free ∧ t.ptp = s.ptp)) ∧
    (∀ c : Core, s.storesReg c PTP_CMD.TIME_ACCEPT.addr →
      let sound : Prop := ∃ x, s.ptp.validAt = some x ∧ s.nowUs ≤ x + 1000000 * s.ptp.syncTmo
      (∃ t, exec (.timeAccept c) s = .next t ∧ s.sameRest t ∧ (st ≠ Ptp.refused → t.regs = s.regs ∧ t.ptp = s.ptp) ∧
        (st = Ptp.refused → sound → t.regs = s.regs ∧ t.ptp = { s.ptp with accept := true }) ∧
        (st = Ptp.refused → ¬ sound → t.get PTP_FLT.ACCEPT_REF = 1 ∧ t.ptp = s.ptp)) ∧
      let shows (t : State) (q : List (Nat × Nat)) : Prop := s.sameRest t ∧ t.ptp.tsq = q ∧
        (q.length < 16 → t.get PTP_TSQSTAT.COUNT = q.length) ∧ (t.get PTP_TSQID.VALID = 1 ↔ q ≠ []) ∧
        ∀ e rest, q = e :: rest → t.get PTP_TSQID.ID = e.1 % 65536 ∧ t.get PTP_TSQLO.NS = e.2 % 2 ^ 32
      (∃ t, exec (.tsqPop c) s = .next t ∧ shows t (s.ptp.tsq.drop 1)) ∧ ∃ t, exec (.tsqClr c) s = .next t ∧ shows t []) ∧
    (s.ptpUp = false → exec .timeStep s = .next s) ∧
    (s.ptpUp = true → s.ptp.off = false → s.ptp.first = none → s.ptp.accept = false → exec .timeStep s = .next s) ∧
    (s.ptpUp = true → s.ptp.off = true → ∃ t, exec .timeStep s = .next t ∧ s.sameRest t ∧ t.get PTP_STAT.STATE = Ptp.holdover ∧
      t.devTime = s.devTime ∧ t.ptp.rate = s.ptp.rate ∧ (t.get PTP_STAT.TVALID ≠ 0 ↔ s.get PTP_STAT.TVALID ≠ 0)) ∧
    (∀ d : Int, s.ptpUp = true → s.ptp.off = false → (s.ptp.first = some (-d)) ∨ (s.ptp.first = none ∧ s.ptp.accept = true ∧ d = -s.refofs) →
      ∃ t, exec .timeStep s = .next t ∧ s.sameRest t ∧ t.devTime = enc 64 ((s.devTime : Int) + d) ∧ moves t Ptp.locked ∧
        t.ptp.gm = s.gmid ∧ t.ptp.sum = 0 ∧ t.ptp.rate = 0 ∧ t.ptp.first = none ∧ t.ptp.accept = false ∧
        t.get PTP_FLT.STEP = 1) ∧
    (∀ ts : BitVec 64,
      let n := ts.toNat
      let good : Prop := ∀ e, s.ptp.edge = some e → (((n : Int) - e - 1000000000).natAbs : Int) ≤ 100000
      let on : Prop := s.ptpUp = true ∧ s.get PTP_PPSCFG.IEN ≠ 0
      let source : Prop := s.get PTP_CTRL.SRC = 1 ∧ s.get PTP_CTRL.EN ≠ 0
      let sec := s.get PTP_PPSSEC.SEC
      let late : Prop := s.ptp.edgeAt + 2000000 ≤ s.nowUs
      (¬ on → exec (.ppsInEdge ts) s = .next s) ∧ (¬ (on ∧ late) → exec .ppsTimeout s = .next s) ∧
      (on → (∃ t, exec (.ppsInEdge ts) s = .next t ∧ s.sameRest t ∧ t.ptp.edge = some n ∧ t.ptp.edgeAt = s.nowUs ∧
          t.get PTP_PPSTSLO.NS = n % 2 ^ 32 ∧ t.get PTP_PPSTSHI.NS = n / 2 ^ 32 ∧
          (¬ good → t.get PTP_FLT.PPSBAD = 1 ∧ s.asserts t 231 ∧ t.get PTP_PPSSEC.SEC = sec) ∧
          (good → ¬ source → t.get PTP_PPSSEC.SEC = sec) ∧
          (good → source → t.get PTP_PPSSEC.SEC = (sec + 1) % 2 ^ 32 ∧ sampled ((n : Int) - sec * 1000000000) t)) ∧
        (late → ∃ t, exec .ppsTimeout s = .next t ∧ s.sameRest t ∧ t.get PTP_FLT.PPSBAD = 1 ∧ s.asserts t 231 ∧
          (s.get PTP_CTRL.SRC = 1 → locked → moves t Ptp.holdover ∧ t.get PTP_FLT.SYNCLOSS = 1)))) ∧
    (let driven : Prop := s.ptpUp = true ∧ s.get PTP_PPSCFG.OEN ≠ 0 ∧ (s.get PTP_STAT.TVALID ≠ 0 ∨ s.get PTP_PPSCFG.OFREE ≠ 0)
     exec .ppsOutPulse s = .next (if driven then
       { s with ptp := { s.ptp with
         ppsUntil := (s.devTime + 500000000) / 1000000000 * 1000000000 + 10000000 * s.get PTP_PPSCFG.OWIDTH } } else s)) ∧
    (let fires (t : State) (k : Nat) : Prop := s.sameRest t ∧ t.bitOf PTP_CMPSTAT.FIRED k = true ∧
       t.bitOf PTP_CMPSTAT.ARMED k = false ∧ s.asserts t 230
     (∀ (c : Core) (k : BitVec 2) (v : Word), s.storesReg c (PTP_CMP.TARGET k.toNat).addr →
       let reached : Prop := (s.devTime + (2 ^ 32 - v.toNat)) % 2 ^ 32 < 2 ^ 31
       ∃ t, exec (.ptpCmpWrite c k v) s = .next t ∧ t.get (PTP_CMP.TARGET k.toNat) = v.toNat ∧ (reached → fires t k.toNat) ∧
         (¬ reached → s.sameRest t ∧ t.bitOf PTP_CMPSTAT.ARMED k.toNat = true)) ∧
     ∀ k : Fin 4,
       let due : Prop := s.bitOf PTP_CMPSTAT.ARMED k.val = true ∧ timeReached (s.devTime + 100050) (s.get (PTP_CMP.TARGET k.val)) = true
       (¬ due → exec (.timeCompareFire k) s = .next s) ∧
       (due → ∃ t, exec (.timeCompareFire k) s = .next t ∧ fires t k.val)) ∧
    ∀ c : Core, s.loadsReg c PTP_TIMELO.NS.addr → s.tandem = false → ∃ t, exec (.ptpTimeloRead c) s = .next t ∧ s.sameRest t ∧
      t.regs = s.regs ∧ t.rdata = BitVec.ofNat 32 (s.get PTP_TIMELO.NS) ∧
      (t.regLoad c PTP_TIMEHI.NS.addr).1 = s.get PTP_TIMEHI.NS)

/-- Writes of TDM_CTRL act as Table TDM-2 gives, RELEASE and RESYNC wait for the boundary. A hello that passes
every check of Table TDM-3 leads to ALONE; the first failing check gives HCODE with source 239. Snapshot rounds,
the final round (ACTIVE for the feeding, STANDBY with the state loaded for the receiving seat, source 232), failure
and retry act as given. The tick symbol places the boundary of the other seat; a late Rider takes its boundary with
OVERRUN. The standby buffers bundles, a lost or ninth one ends step with source 233, and applies the oldest at both
tick waits. A returned digest counts or ends step. Claim keys alternate. The peer's claim shuts the gate and makes
seat B drop its own; the gate opens with the own claim alone. Release notice, peer silence with the takeover,
handback, heartbeat and link restoration act as given. -/
def Obligations.TandemPair : Prop :=
  let st (s : State) : Nat := s.get TDM_STAT.STATE
  let claim (s : State) : Prop := s.get TDM_STAT.CLAIM ≠ 0
  let peer (s : State) : Prop := s.get TDM_STAT.PEERCLAIM ≠ 0
  let link (s : State) : Prop := s.get TDM_STAT.LINK ≠ 0
  let stepEnds (s t : State) (f : Fld) : Prop := st t = Pair.alone ∧ t.get f = 1 ∧ s.asserts t 233
  (∀ (c : Core) (v : Word) (s : State), s.storesReg c TDM_CTRL.EN.addr →
    let i : Instr := .tdmCtrlWrite c v
    let en := s.get TDM_CTRL.EN
    let takes (t : State) : Prop := s.sameRest t ∧ t.get TDM_CTRL.CLAIM_EN = b2n (v.getLsbD 1) ∧
      t.get TDM_CTRL.AUTORESYNC = b2n (v.getLsbD 2) ∧ t.get TDM_CTRL.HANDBACK = b2n (v.getLsbD 3) ∧
      t.get TDM_CTRL.WAKEPEER = b2n (v.getLsbD 4)
    (en ≠ 0 → v.getLsbD 0 = false → claim s → ∃ t, exec i s = .next t ∧ s.sameRest t ∧ t.regs = s.regs ∧ t.tdm.enOff = s.tdm.enOff) ∧
    (en ≠ 0 → v.getLsbD 0 = true ∨ ¬ claim s → ∃ t, exec i s = .next t ∧ takes t ∧ t.get TDM_CTRL.EN = en ∧
      t.tdm.enOff = !(v.getLsbD 0)) ∧
    (en = 0 → v.getLsbD 0 = false → ∃ t, exec i s = .next t ∧ takes t ∧ t.get TDM_CTRL.EN = 0 ∧ st t = st s) ∧
    (en = 0 → v.getLsbD 0 = true → ∃ t, exec i s = .next t ∧ takes t ∧ t.get TDM_CTRL.EN = 1 ∧
      st t = if 2 ≤ s.gait ∧ s.get PWR_GAIT.RIDERS ≠ 0 ∧ s.get SYS_CLKEN.TDM_EN ≠ 0 then Pair.hello else st s)) ∧
  (∀ (c : Core) (s : State), s.storesReg c TDM_CMD.RESYNC.addr →
    (∃ t, exec (.tdmResync c) s = .next t ∧ s.sameRest t ∧ t.regs = s.regs ∧ t.tdm.resync = true ∧ t.tdm.release = s.tdm.release) ∧
    ∃ t, exec (.tdmRelease c) s = .next t ∧ s.sameRest t ∧ t.regs = s.regs ∧ t.tdm.resync = s.tdm.resync ∧
      (claim s → s.get FIO_DOSET.DO / 4096 % 8 = 0 → t.tdm.release = true) ∧
      (¬ claim s ∨ s.get FIO_DOSET.DO / 4096 % 8 ≠ 0 → t.tdm.release = s.tdm.release)) ∧
  (∀ (seat : BitVec 1) (ident : BitVec 256) (scfg prt cfg : Word) (dly : BitVec 16) (len : BitVec 10) (s : State),
    (∀ i, i < 8 → s.get (UPD_RUNID.WORD i) < 2 ^ 32) →
    let i : Instr := .helloComplete seat ident scfg prt cfg dly len
    let on : Prop := s.tandem = true ∧ st s = Pair.hello
    let passes : List (Prop × Nat) := [(seat.toNat ≠ s.get TDM_STAT.SEAT, 1),
      (∀ i, i < 8 → s.get (UPD_RUNID.WORD i) = ident.toNat / 2 ^ (32 * i) % 2 ^ 32, 2), (scfg.toNat = s.get CRB_SCFGCRC.CRC, 3),
      (prt.toNat = s.get PRT_CRC.CRC, 4), (cfg.toNat = s.get TDM_CFGCRC.CRC, 5), (dly.toNat ≤ 500, 6),
      (len.toNat = s.get TDM_DECLLEN.LEN, 7)]
    (¬ on → exec i s = .next s ∧ exec .helloTimeout s = .next s) ∧
    (on → (∃ t, exec i s = .next t ∧ s.sameRest t ∧ st t = Pair.alone ∧ t.get TDM_STAT.LINK = 1 ∧ t.get TDM_LINKDLY.NS = dly.toNat ∧
        ((∀ e ∈ passes, e.1) → t.tdm.hello = true ∧ t.get TDM_FLT.HELLO = s.get TDM_FLT.HELLO) ∧
        (∀ e pre post, passes = pre ++ e :: post → ¬ e.1 → (∀ x ∈ pre, x.1) → t.tdm.hello = false ∧ t.get TDM_STAT.HCODE = e.2 ∧
          t.get TDM_FLT.HELLO = 1 ∧ s.asserts t 239)) ∧
      ∃ t, exec .helloTimeout s = .next t ∧ s.sameRest t ∧ st t = Pair.alone ∧ t.get TDM_STAT.HCODE = 0 ∧ t.tdm.hello = false)) ∧
  (∀ (pages : BitVec 16) (s : State),
    let i : Instr := .snapshotRoundEnd pages
    let enters : Prop := s.tandem = true ∧ st s = Pair.alone ∧ ¬ claim s ∧ link s ∧ peer s
    let runs : Prop := s.tandem = true ∧ (st s = Pair.feed ∨ st s = Pair.load)
    let fails (t : State) : Prop := s.sameRest t ∧ st t = Pair.alone ∧ t.get TDM_FLT.SNAPFAIL = 1 ∧
      (st s = Pair.feed → t.tdm.holdoff = true)
    (¬ enters → ¬ runs → exec i s = .next s) ∧
    (enters → ∃ t, exec i s = .next t ∧ s.sameRest t ∧ st t = Pair.load ∧ t.get TDM_SNAPSTAT.ROUND = 1 ∧
      t.get TDM_SNAPSTAT.PAGES = pages.toNat) ∧
    (runs → s.get TDM_SNAPSTAT.ROUND < 8 → ∃ t, exec i s = .next t ∧ s.sameRest t ∧ st t = st s ∧
      t.get TDM_SNAPSTAT.ROUND = s.get TDM_SNAPSTAT.ROUND + 1 ∧ t.get TDM_SNAPSTAT.PAGES = pages.toNat) ∧
    (runs → 8 ≤ s.get TDM_SNAPSTAT.ROUND → ∃ t, exec i s = .next t ∧ fails t) ∧
    (¬ runs → exec .snapshotFail s = .next s) ∧ (runs → ∃ t, exec .snapshotFail s = .next t ∧ fails t) ∧
    (let again : Prop := s.tandem = true ∧ s.get TDM_CTRL.AUTORESYNC ≠ 0 ∧ s.tdm.holdoff = true
     let feeds : Prop := st s = Pair.alone ∧ claim s ∧ s.tdm.hello = true ∧ link s ∧ ¬ peer s
     (¬ again → exec .snapshotRetry s = .next s) ∧
     (again → ∃ t, exec .snapshotRetry s = .next t ∧ s.sameRest t ∧ t.tdm.holdoff = false ∧
       (feeds → st t = Pair.feed ∧ t.get TDM_SNAPSTAT.ROUND = 1) ∧ (¬ feeds → st t = st s)))) ∧
  (∀ (x : Snapshot) (s : State),
    let i : Instr := .snapshotFinal x
    (s.tandem = false ∨ 64 < s.get TDM_SNAPSTAT.PAGES ∨ (st s ≠ Pair.feed ∧ st s ≠ Pair.load) → exec i s = .next s) ∧
    (s.tandem = true → s.get TDM_SNAPSTAT.PAGES ≤ 64 → st s = Pair.feed → ∃ t, exec i s = .next t ∧ s.sameRest t ∧ st t = Pair.active ∧ s.asserts t 232 ∧
      t.get TDM_MATCHCNT.COUNT = 0 ∧ t.tdm.formed = 0) ∧
    (s.tandem = true → s.get TDM_SNAPSTAT.PAGES ≤ 64 → st s = Pair.load → keysRise x.mem = true → ∃ t, exec i s = .next t ∧ st t = Pair.standby ∧
      (∀ a, replicated a = true → t.byte a = mapGet (memUnlisted a) x.mem a) ∧ (∀ a, replicated a = false → t.byte a = s.byte a) ∧
      t.pad = x.pad ∧ t.cel = x.cel ∧ t.est = { x.est with method := t.get EST_CTRL.METHOD } ∧ t.ggn = x.ggn ∧ t.tdm.k = x.k ∧ t.r0 = { s.r0 with tags := x.tags0 } ∧
      t.r1 = { s.r1 with tags := x.tags1 } ∧ t.grm = s.grm ∧ t.gait = x.gait % 2 ^ PWR_GAIT.GAIT.width)) ∧
  (∀ (rb : BitVec 16) (s : State),
    let follows : Prop := s.tandem = true ∧ link s ∧ s.tickMaster = false
    (follows → exec (.controlTick rb) s = .next s ∧
      exec (.tickSymbol rb) s = .next (({ s with tdm := { s.tdm with silent := false } } : State).controlTick rb.toNat)) ∧
    (¬ follows → exec (.tickSymbol rb) s = .next s ∧ exec (.controlTick rb) s = .next (s.controlTick rb.toNat))) ∧
  (∀ (r : Rider) (s : State),
    let c : Core := match r with | .r0 => .r0 | .r1 => .r1
    let d : Core := match r with | .r0 => .r1 | .r1 => .r0
    let late : Prop := s.tandem = true ∧ (s.core c).run = .wfe true ∧ s.tickDue c = true ∧ s.isStandby = false
    (¬ late → exec (.tickWait r) s = .next s) ∧
    (late → ∃ t, exec (.tickWait r) s = .next t ∧ t.get TDM_FLT.OVERRUN = 1 ∧ (t.core c).run = .run ∧ t.pc c = s.pc c + 4 ∧
      t.cr c Cr.tick = s.cr c Cr.tick + 1 ∧ t.tickDue c = false ∧
      (s.tickDue d = true → t.tdm.k = s.tdm.k) ∧ (s.tickDue d = false → t.tdm.k = s.tdm.k + 1))) ∧
  (∀ (rejected : BitVec 16) (lost : Bool) (b : Bundle) (s : State),
    let i : Instr := .bundleReceived rejected lost b
    let gone : Prop := lost = true ∨ 8 ≤ s.tdm.bundles.length
    (s.linkUp = false → exec i s = .next s) ∧
    (s.linkUp = true → b.string = [] → ∃ t, exec i s = .next t ∧ s.sameRest t ∧ t.tdm.silent = false ∧
      t.get TDM_ERRCNT.REJ = min 0xFFFF (s.get TDM_ERRCNT.REJ + rejected.toNat) ∧
      (st s ≠ Pair.standby → t.tdm.bundles = s.tdm.bundles) ∧
      (st s = Pair.standby → ¬ gone → t.tdm.bundles = s.tdm.bundles ++ [b] ∧ st t = st s) ∧
      (st s = Pair.standby → gone → t.tdm.bundles = s.tdm.bundles ∧ stepEnds s t TDM_FLT.BUNDLE ∧
        t.get TDM_ERRCNT.LOST = min 0xFFFF (s.get TDM_ERRCNT.LOST + 1)))) ∧
  (∀ s : State,
    let ready : Prop := s.isStandby = true ∧ s.r0.run = .wfe true ∧ s.r1.run = .wfe true
    (s.tdm.bundles = [] ∨ ¬ ready → exec .replayBoundary s = .next s) ∧
    ∀ b rest, ready → s.tdm.bundles = b :: rest → b.frames = [] → b.posts = [] → b.autoJobs = [] → b.dispatched = [] →
      b.stopped = [] → b.gait = [] → b.rel = [] → s.tdm.listed = [] → s.herd.jobs = [] →
      ∃ t, exec .replayBoundary s = .next t ∧ t.tdm.bundles = rest ∧ t.tdm.k = b.k ∧ t.r0.run = .run ∧ t.r1.run = .run ∧
        t.r0.pc = s.r0.pc + 4 ∧ t.r1.pc = s.r1.pc + 4 ∧ t.cr .r0 Cr.tick = s.cr .r0 Cr.tick + 1 ∧
        t.cr .r1 Cr.tick = s.cr .r1 Cr.tick + 1 ∧ (∀ a w, b.mem = [(a, w)] → replicated a = true → t.word a = w % 2 ^ 32) ∧
        (b.planned = true → st t = Pair.alone ∧ t.get TDM_CTRL.CLAIM_EN = 0) ∧ (b.planned = false → st t = st s)) ∧
  (∀ (k : Nat) (crc : Word) (mirror : List Word) (declared : List (BitVec 8)) (s : State),
    let i : Instr := .digestReturn k crc mirror declared []
    (s.linkUp = false → ∀ string, exec (.digestReturn k crc mirror declared string) s = .next s) ∧
    (s.linkUp = true → ∃ t, exec i s = .next t ∧ s.sameRest t ∧ t.tdm.peerWords = mirror.map BitVec.toNat ∧
      t.tdm.peerDecl = declared ∧ (st s ≠ Pair.active → t.regs = s.regs) ∧
      (st s = Pair.active → t.get TDM_PEERDIG.CRC = crc.toNat ∧ t.tdm.formed = s.tdm.k - k ∧
        let own := s.tdm.digests.find? fun e => decide (e.1 = k)
        (own = none → t.get TDM_MATCHCNT.COUNT = s.get TDM_MATCHCNT.COUNT ∧ st t = st s) ∧
        (own = some (k, crc.toNat) → st t = st s ∧ t.get TDM_MATCHCNT.COUNT = min 0xFFFFFFFF (s.get TDM_MATCHCNT.COUNT + 1)) ∧
        (∀ d, own = some (k, d) → d ≠ crc.toNat → stepEnds s t TDM_FLT.DIGEST ∧ t.get TDM_MATCHCNT.COUNT = 0)))) ∧
  (∀ (c : Core) (key : Word) (s : State), s.storesReg c TDM_CLAIMREF.KEY.addr →
    let right : Word := if s.tdm.second then 0x5AA5 else 0xA55A
    ∃ t, exec (.tdmClaimref c key) s = .next t ∧ s.sameRest t ∧
      (key ≠ 0xA55A → key ≠ 0x5AA5 → t.get TDM_FLT.REFRESH = 1 ∧ t.tdm.refreshed = s.tdm.refreshed) ∧
      (claim s → key = right → t.regs = s.regs ∧ t.tdm.refreshed = true ∧ t.tdm.second = !s.tdm.second) ∧
      (claim s → key ≠ right → t.get TDM_FLT.REFRESH = 1 ∧ t.tdm.refreshed = s.tdm.refreshed) ∧
      (¬ claim s → key = 0xA55A ∨ key = 0x5AA5 → t.regs = s.regs ∧ t.tdm.refreshed = s.tdm.refreshed)) ∧
  (∀ s : State,
    (∃ t, exec (.peerClaimChange true) s = .next t ∧ t.get TDM_STAT.PEERCLAIM = 1 ∧ t.get TDM_STAT.GATE = 0 ∧
      (s.get TDM_STAT.SEAT = 1 → t.get TDM_STAT.CLAIM = 0) ∧ (s.get TDM_STAT.SEAT ≠ 1 → t.get TDM_STAT.CLAIM = s.get TDM_STAT.CLAIM) ∧
      (s.tandem = true → s.get TDM_STAT.GATE ≠ 0 → ∀ n, 12 ≤ n → n < 15 → t.on n = false)) ∧
    (¬ peer s → exec (.peerClaimChange false) s = .next s) ∧
    (peer s → ∃ t, exec (.peerClaimChange false) s = .next t ∧ s.sameRest t ∧ t.get TDM_STAT.PEERCLAIM = 0 ∧ s.asserts t 235 ∧
      (s.isStandby = true → s.tdm.notice = none → s.tdm.handback = false → t.tdm.vanished = some s.nowUs)) ∧
    (let opens : Prop := s.tandem = true ∧ claim s ∧ ¬ peer s
     (¬ opens → exec .bridleGateOpen s = .next s) ∧
     let shut : Prop := s.crb.doorOpen = 0 ∧ s.crb.discrepant = false
     (opens → shut → ∃ t, exec .bridleGateOpen s = .next t ∧ s.sameRest t ∧ t.get TDM_STAT.GATE = 1 ∧ t.gateClosed = false) ∧
     (opens → ¬ shut → s.curb ≠ Curb.boot → ∃ t, exec .bridleGateOpen s = .next t ∧
       (t.get TDM_STAT.GATE = 1 ∨ t.get CRB_CAUSE.WORD / 256 % 256 = Cause.door))) ∧
    (∀ reason : BitVec 4, (s.linkUp = false → exec (.releaseNoticeReceived reason) s = .next s) ∧
      (s.linkUp = true → ∃ t, exec (.releaseNoticeReceived reason) s = .next t ∧ s.sameRest t ∧
        t.get TDM_RELINFO.PEER = reason.toNat ∧ (reason = 5 → st t = Pair.alone ∧ t.get TDM_CTRL.CLAIM_EN = 0) ∧
        (reason ≠ 5 → st t = st s ∧ (st s = Pair.standby → t.tdm.notice = some reason.toNat)))) ∧
    (∀ lost : Bool,
      let i : Instr := .peerSilence lost
      let on : Prop := s.tandem = true ∧ 2 ≤ s.gait ∧ s.groomWalk = false
      let claiming : Prop := s.inStep = true ∧ peer s
      let takes : Prop := s.isStandby = true ∧ ¬ peer s ∧ s.get TDM_CTRL.CLAIM_EN ≠ 0 ∧ s.curb = Curb.ready
      (s.tandem = false → exec i s = .next s) ∧
      (s.tandem = true → ¬ on → ∃ t, exec i s = .next t ∧ s.sameRest t ∧ t.tdm.silent = true ∧ t.get TDM_STAT.PEERHB = 0) ∧
      (on → ∃ t, exec i s = .next t ∧ t.tdm.silent = true ∧ (lost = true → t.get TDM_STAT.LINK = 0) ∧
        (claiming → s.sameRest t ∧ stepEnds s t TDM_FLT.LINK ∧ s.asserts t 238) ∧ (lost = true → link s → ¬ takes → s.asserts t 238) ∧
        (takes → st t = Pair.alone ∧ t.get TDM_STAT.CLAIM = 1 ∧
          (s.get (EVT_CFG.EN 234) ≠ 0 → t.evtPending 234 = true ∨ 234 ∈ t.evt.held)) ∧
        (¬ claiming → ¬ takes → s.sameRest t ∧ t.get TDM_STAT.CLAIM = s.get TDM_STAT.CLAIM))) ∧
    (∀ ready : Bool,
      let gives : Prop := s.tandem = true ∧ s.get TDM_STAT.SEAT = 1 ∧ st s = Pair.active ∧ s.get TDM_CTRL.HANDBACK ≠ 0 ∧
        s.get TDM_PROVE.PROVE ≤ s.get TDM_MATCHCNT.COUNT ∧ s.curb = Curb.ready ∧ ready = true ∧ s.get PWR_GAIT.BUSY = 0 ∧
        s.ggnMode 0 ≠ Ggn.safe
      let receives : Prop := s.tandem = true ∧ s.get TDM_STAT.SEAT = 0 ∧ st s = Pair.standby ∧ s.tdm.handback = true ∧
        s.get TDM_CTRL.CLAIM_EN ≠ 0 ∧ s.curb = Curb.ready ∧ ¬ peer s
      (¬ gives → ¬ receives → exec (.handback ready) s = .next s) ∧
      (gives → ∃ t, exec (.handback ready) s = .next t ∧ st t = Pair.standby ∧ t.get TDM_STAT.CLAIM = 0 ∧ s.asserts t 236 ∧
        (claim s → t.get TDM_STAT.GATE = 0 ∧ t.get TDM_RELINFO.OWN = 6)) ∧
      (receives → ∃ t, exec (.handback ready) s = .next t ∧ s.sameRest t ∧ st t = Pair.active ∧ t.get TDM_STAT.CLAIM = 1 ∧
        s.asserts t 236)) ∧
    (s.hbGait = false ∨ s.hbGated = true → exec .heartbeatSend s = .next s) ∧
    (s.hbGait = true → s.hbGated = false → ∃ t, exec .heartbeatSend s = .next t ∧ t = s.mapTdm (fun _ => t.tdm) ∧
      ∃ w, t.tdm.beat = some ⟨s.get TDM_STAT.SEAT, s.gait, decide (s.get TDM_STAT.CLAIM ≠ 0), w⟩ ∧
        (w = true ↔ s.get TDM_CTRL.WAKEPEER ≠ 0 ∧ s.waking = true)) ∧
    (∀ wake : Bool, (s.tandem = false ∨ s.hbGated = true → exec (.heartbeatReceived wake) s = .next s) ∧
      (s.tandem = true → s.hbGated = false → ∃ t, exec (.heartbeatReceived wake) s = .next t ∧ s.sameRest t ∧
        (s.hbGait = true → t.get TDM_STAT.PEERHB = 1 ∧ t.tdm.silent = false) ∧
        (wake = true → s.get PWR_WAKEEN.TANDEM ≠ 0 → s.gait = Gait.paddock → s.power.trans = none → s.sys.booting = false →
          t.bitOf PWR_WAKESRC.SRC 5 = true ∧ t.power.trans = some ⟨4, Gait.walk, 1, false⟩))) ∧
    let restored : Prop := s.tandem = true ∧ 2 ≤ s.gait ∧ s.groomWalk = false ∧ s.get TDM_STAT.LINK = 0
    (¬ restored → exec .tdmLinkRestored s = .next s) ∧
    (restored → ∃ t, exec .tdmLinkRestored s = .next t ∧ s.sameRest t ∧ t.get TDM_STAT.LINK = 1 ∧ t.tdm.silent = false ∧
      s.asserts t 238))

/-- At the free MRAM port the oldest commit whose energy the reserve covers starts, the older ones deferred, the
first deferral with source 240; its end writes a ledger or settings frame over the other copy, which becomes
current, or a record into its slot, and gives RES 0, a failure RES 4 with source 241; an abandoned one gives RES 3.
The reserve is measured, tested and its low voltage reported; suppressed records are written after their time,
tokens come back. Counters, the keyed clear and its end act as given. BEGIN opens or resumes a session, PROG takes
a block, programs it after erasing an unmarked sector and marks it, VERIFY and ARM, HEALTH_CONFIRM, ABORT and the
trial's end change the slots as given, a refused command giving RES 2 or 3 and changing nothing. -/
def Obligations.CommitsRecorderAndUpdate : Prop :=
  let queued (s t : State) (k : CommitKind) : Prop := ∃ c : Commit, c.kind = k ∧ t.nvm.queue = s.nvm.queue ++ [c]
  (∀ s : State,
    let e := s.get NVM_RSVE.UJ
    let fits (c : Commit) : Prop := c.kind ≠ .seal ∧ s.logWaits c = false
    let deferred (c : Commit) : Commit := if c.deferred.isSome then c else { c with deferred := some s.nowUs }
    let loaded (c : Commit) : Commit := if c.owner.isSome then { c with data := s.getBytes c.src c.len } else c
    (s.nvm.running.isSome = true ∨ s.nvm.queue = [] → exec .commitStart s = .next s) ∧
    (∀ (pre post : List Commit) (c : Commit), s.nvm.running = none → s.nvm.queue = pre ++ c :: post →
      (∀ x ∈ pre ++ c :: post, fits x) → (∀ x ∈ pre, e < x.kind.needs) → c.kind.needs ≤ e →
      (pre ++ [c]).Pairwise (fun a b => Commit.same a b = false) → ∃ t, exec .commitStart s = .next t ∧
        t.nvm.queue = pre.map deferred ++ post ∧ (pre ≠ [] → t.get NVM_FLT.DEFER = 1) ∧
        (pre ≠ [] → (∀ x ∈ s.nvm.queue, x.deferred = none) → s.asserts t 240) ∧
        (c.kind ≠ .log → s.sameRest t ∧ t.nvm.running = some (loaded c)) ∧
        (c.kind = .log → s.get LOG_STAT.LAYOUT = 0 → ∀ k ow, s.placeNative c.sev = some (k, ow) → s.sameRest t ∧
          t.nvm.running = some { loaded c with slot := k, seq := s.get LOG_NEXTSEQ.SEQ } ∧
          t.get LOG_NEXTSEQ.SEQ = min 0xFFFFFFFF (s.get LOG_NEXTSEQ.SEQ + 1)) ∧
        (c.kind = .log → s.get LOG_STAT.LAYOUT = 0 → s.placeNative c.sev = none → t.nvm.running = none ∧
          t.get LOG_FLT.DROP = 1 ∧ s.asserts t 245)) ∧
    (s.nvm.running = none → exec (.commitDone true) s = .next s ∧ exec (.commitDone false) s = .next s) ∧
    (∀ c : Commit, s.nvm.running = some c →
      let ends (t : State) (res status val : Nat) : Prop := ∀ o k cls, c.owner = some (o, k) → s.tandem = false →
        s.tag o k = .issued cls → t.tag o k = .done (completionWord res status cls k) val
      let place (t : State) (a : Nat) (bs : List Nat) : Prop := c.owner = none → s.sameCores t ∧
        (∀ j, j < bs.length → t.byte (a + j) = BitVec.ofNat 8 (bs.getD j 0)) ∧
        ∀ x, x < a ∨ a + bs.length ≤ x → t.byte x = s.byte x
      (∃ t, exec (.commitDone true) s = .next t ∧ t.nvm.running = none ∧
        (c.kind = .log → place t (slotAddr c.slot) (recordBytes c) ∧ ends t 0 0 c.seq) ∧
        (∀ b : Bool, c.kind = (if b then CommitKind.settings else CommitKind.ledger) → c.index < 32 →
          let n := s.nextCopy b c.index
          ends t 0 0 n.2 ∧ place t (frameAddr b c.index n.1) (frameBytes c.data b c.index (if b then c.code else 1) n.2) ∧
          t.curCopy b c.index = some n.1)) ∧
      ∃ t, exec (.commitDone false) s = .next t ∧ t.nvm.running = none ∧ t.get NVM_FLT.COMMIT_FAIL = 1 ∧ s.asserts t 241 ∧
        ends t 4 1 0 ∧ (c.owner = none → s.sameCores t ∧ ∀ x, x < (s.commitPlace c).1 ∨
          (s.commitPlace c).1 + (s.commitPlace c).2 ≤ x → t.byte x = s.byte x)) ∧
    (let old := s.nvm.queue.find? fun c => match c.deferred with
       | some d => decide (d + 1000000 * s.get NVM_CFG.DEFTMO ≤ s.nowUs)
       | none => false
     (old = none → exec .commitAbandon s = .next s) ∧
     ∀ c, old = some c → ∃ t, exec .commitAbandon s = .next t ∧ t.nvm.queue = s.nvm.queue.erase c ∧ (c.owner = none → s.sameRest t) ∧
       (c.kind = .log → t.get LOG_FLT.DROP = 1) ∧
       (c.kind.cls ≠ 1 → t.get NVM_FLT.COMMIT_FAIL = 1 ∧ s.asserts t 241) ∧
       ∀ o k cls, c.owner = some (o, k) → s.tandem = false → s.tag o k = .issued cls →
         t.tag o k = .done (completionWord 3 (if c.kind.cls = 1 then 0 else 5) cls k) 0)) ∧
  (∀ s : State, ∃ t, exec .limiterSecond s = .next t ∧ s.sameRest t ∧ ∀ k, k < 64 →
    let supp := s.get (LOG_LIMST.SUPP k)
    let x := s.lim k
    let full : Prop := k < 63 ∧ s.get (LOG_LIM.AUTO k) = 1 ∧ s.get (LOG_LIMST.BOUND k) ≠ 0xFFFF ∧
      s.get (LOG_LIM.BURST k) ≤ s.get (LOG_LIMST.TOKENS k)
    (0 < supp → 59 ≤ x.age → t.get (LOG_LIMST.SUPP k) = 0 ∧
      ∃ c ∈ t.nvm.queue, c.kind = .log ∧ c.code = 1 ∧ c.sev = x.sev ∧ (c.data.drop 4).take 4 = leBytes 4 supp) ∧
    (0 < supp → x.age < 59 → t.get (LOG_LIMST.SUPP k) = supp ∧ t.lim k = { x with age := x.age + 1, full := 0 }) ∧
    (supp = 0 → full → 599 ≤ x.full → t.get (LOG_LIMST.BOUND k) = 0xFFFF) ∧
    (supp = 0 → full → x.full < 599 → t.get (LOG_LIMST.BOUND k) = s.get (LOG_LIMST.BOUND k) ∧ t.lim k = { x with full := x.full + 1 })) ∧
  (∀ (k : BitVec 6) (s : State), s.get (LOG_LIM.BURST k.toNat) < 2 ^ (LOG_LIMST.TOKENS k.toNat).width →
    let due : Prop := 60000000 ≤ s.get (LOG_LIM.RATE k.toNat) * (s.nowUs - (s.lim k.toNat).tokAt)
    (¬ due → exec (.limiterTokenGain k) s = .next s) ∧
    (due → ∃ t, exec (.limiterTokenGain k) s = .next t ∧ s.sameRest t ∧ (t.lim k.toNat).tokAt = s.nowUs ∧
      t.get (LOG_LIMST.TOKENS k.toNat) = min (s.get (LOG_LIM.BURST k.toNat)) (s.get (LOG_LIMST.TOKENS k.toNat) + 1))) ∧
  (∀ (mv : BitVec 16) (s : State),
    let v := mv.toNat
    let mf := s.nvm.cap.getD (s.get NVM_RSVTST.CAP)
    (s.gait < 2 → exec (.reserveMeasure mv) s = .next s) ∧
    (2 ≤ s.gait → ∃ t, exec (.reserveMeasure mv) s = .next t ∧ s.sameRest t ∧ t.get NVM_RSVV.MV = v ∧
      (t.get NVM_STAT.RSV_FULL = 1 ↔ 4900 ≤ v) ∧ (v ≤ 2700 → t.get NVM_RSVE.UJ = 0) ∧
      (2700 < v → t.get NVM_RSVE.UJ = min 0xFFFFFFFF ((mf * (v * v - 7290000) + 1000) / 2000)) ∧
      (s.nvm.testDue = true → 4950 ≤ v → s.get SYS_PWRSTAT.AUX_OK ≠ 0 → t.nvm.testRun = true ∧ t.nvm.testDue = false) ∧
      ∀ b, s.upd.job = .prog b false → t.upd.job = .prog b (decide (15000 ≤ t.get NVM_RSVE.UJ)))) ∧
  (∀ s : State,
    let low : Prop := s.get SYS_PWRSTAT.AUX_OK ≠ 0 ∧ s.nvm.wasFull = true ∧ s.get NVM_RSVV.MV < 4500
    (¬ low → exec .reserveLow s = .next s) ∧
    (low → ∃ t, exec .reserveLow s = .next t ∧ s.sameRest t ∧ t.get NVM_FLT.RSV_LOW = 1 ∧ s.asserts t 242) ∧
    (∀ cap esr : BitVec 16, (s.nvm.testRun = false → exec (.reserveTestDone cap esr) s = .next s) ∧
      (s.nvm.testRun = true → ∃ t, exec (.reserveTestDone cap esr) s = .next t ∧ s.sameRest t ∧ t.nvm.testRun = false ∧
        t.get NVM_RSVTST.CAP = cap.toNat ∧ t.get NVM_RSVTST.ESR = esr.toNat ∧
        (800 ≤ cap.toNat ∧ esr.toNat ≤ 150 → t.get NVM_STAT.RSV_OK = 1 ∧ t.nvm.cap = some cap.toNat) ∧
        (cap.toNat < 800 ∨ 150 < esr.toNat → t.get NVM_STAT.RSV_OK = 0 ∧ t.get NVM_FLT.RSV_TEST_FAIL = 1 ∧ s.asserts t 243))) ∧
    (s.gait < 2 ∨ s.get NVM_OPTIME.SEC < s.nvm.countersAt + 60 → exec .counterCommit s = .next s) ∧
    (2 ≤ s.gait → s.nvm.countersAt + 60 ≤ s.get NVM_OPTIME.SEC → ∃ t, exec .counterCommit s = .next t ∧ s.sameRest t ∧ queued s t .counters ∧ t.nvm.countersAt = s.get NVM_OPTIME.SEC) ∧
    (s.nvm.clearing ≠ some 8192 → exec .logClearDone s = .next s) ∧
    (s.nvm.clearing = some 8192 → ∃ t, exec .logClearDone s = .next t ∧ s.sameRest t ∧ t.nvm.clearing = none ∧
      t.get LOG_NEXTSEQ.SEQ = 1 ∧ t.get LOG_STAT.COUNT = 0 ∧ t.get LOG_STAT.CLEARING = 0 ∧ s.asserts t 247) ∧
    ∀ c : Core,
      (s.storesReg c NVM_CMD.RSV_TEST.addr →
        let idle : Prop := s.gait = Gait.walk ∨ s.gait = Gait.halt
        (∃ t, exec (.rsvTest c) s = .next t ∧ s.sameRest t ∧ (¬ idle → t.regs = s.regs ∧ t.nvm = s.nvm) ∧
          (idle → t.nvm.testRun = true ∧ t.nvm.testDue = false ∧ t.get SYS_PWRSTAT.CHG = 0)) ∧
        ∃ t, exec (.ledgerDone c) s = .next t ∧ s.sameRest t ∧ t.nvm = s.nvm ∧
          (s.get NVM_STAT.RSV_OK ≠ 0 → t.get NVM_STAT.LEDGER_OK = 1) ∧ (s.get NVM_STAT.RSV_OK = 0 → t.regs = s.regs)) ∧
      (s.storesReg c LOG_CMD.CLEAR.addr →
        let may : Prop := (s.gait = Gait.walk ∨ s.gait = Gait.halt) ∧ s.contactorOn = false ∧ s.nvm.clearing = none
        ∃ t, exec (.logClear c) s = .next t ∧ s.sameRest t ∧ (¬ may → t.regs = s.regs ∧ t.nvm = s.nvm) ∧
          (may → t.get LOG_STAT.CLEARING = 1 ∧ t.nvm.clearing = some 0 ∧ queued s t .clear))) ∧
  (∀ (c : Core) (s : State), s.storesReg c UPD_CMD.BEGIN.addr →
    let k := s.idleSlot
    let n := s.get UPD_IMGLEN.BYTES
    let paired : Prop := Pair.feed ≤ s.get TDM_STAT.STATE ∧ s.get TDM_STAT.STATE ≤ Pair.standby
    let busy : Prop := s.get UPD_STAT.BUSY ≠ 0
    let trial : Prop := s.get UPD_STAT.TRIAL ≠ 0
    let ends (i : Instr) (res : Nat) (p : State → Prop) : Prop := ∃ t, exec i s = .next t ∧ s.sameCores t ∧
      t.get UPD_STAT.RES = res ∧ p t
    let refuses (i : Instr) (res : Nat) : Prop := ends i res fun t => t.mem = s.mem ∧ t.upd = s.upd ∧ t.nvm = s.nvm ∧
      ∀ f : Fld, f.key ≠ UPD_STAT.RES.key → t.get f = s.get f
    let cleared (t : State) : Prop := (∀ a, 0x40031000 ≤ a → a < 0x40031818 → t.byte a = 0) ∧
      ∀ a, a < 0x40031000 ∨ 0x40031818 ≤ a → t.byte a = s.byte a
    let slot (t : State) (j : Nat) : Nat := t.get (slotReg j)
    let lenOk : Prop := n % 4 = 0 ∧ 4096 ≤ n ∧ n ≤ 12582912
    let same : Prop := (slot s k = Slot.receiving ∨ slot s k = Slot.verified) ∧ s.slotIdent k = s.updIdent ∧ s.upd.boot.imglen = n
    (paired → refuses (.updBegin c) 3 ∧ refuses (.updVerify c) 3 ∧ refuses (.updArm c) 3 ∧ (¬ busy → refuses (.updProg c) 3)) ∧
    (¬ paired → trial ∨ busy ∨ ¬ lenOk → refuses (.updBegin c) 2) ∧
    (¬ paired → ¬ trial → ¬ busy → lenOk →
      (same → ends (.updBegin c) 0 fun t => t.mem = s.mem ∧ s.asserts t 248 ∧ t.get UPD_STAT.RESUMED = 1 ∧ slot t k = slot s k) ∧
      (¬ same → ends (.updBegin c) 0 fun t => cleared t ∧ s.asserts t 248 ∧ t.get UPD_STAT.RESUMED = 0 ∧ slot t k = Slot.receiving ∧
        t.get UPD_STAT.SESS = 1 ∧ t.upd.boot.imglen = n ∧ t.slotIdent k = s.updIdent ∧ queued s t .boot)) ∧
    (busy → ∃ t, exec (.updProg c) s = .next t ∧ s.sameRest t ∧ t.regs = s.regs ∧ t.upd = s.upd) ∧
    (¬ paired → ¬ busy → slot s k ≠ Slot.receiving → refuses (.updProg c) 2) ∧
    (¬ paired → ¬ busy → slot s k = Slot.receiving →
      let b := s.get UPD_BLOCK.BLOCK
      let legal : Prop := 1024 * b < s.upd.boot.imglen ∧
        ∀ x ∈ s.stage.drop (1024 - (1024 * (b + 1) - s.upd.boot.imglen)), x = 0xFF
      let equal : Prop := s.getBytes (slotBase k + 1024 * b) 1024 = s.stage
      let fails (t : State) : Prop := t.mem = s.mem ∧ t.get UPD_FLT.CMDFAIL = 1 ∧ s.asserts t 255
      (¬ legal → ends (.updProg c) 4 fails) ∧ (legal → s.blockHeld b = true → equal → ends (.updProg c) 1 fun t => t.mem = s.mem) ∧
      (legal → s.blockHeld b = true → ¬ equal → ends (.updProg c) 4 fails) ∧
      (legal → s.blockHeld b = false → ∃ t, exec (.updProg c) s = .next t ∧ s.sameRest t ∧ t.get UPD_STAT.BUSY = 1 ∧
        t.upd.job = .prog b (decide (15000 ≤ s.get NVM_RSVE.UJ)))) ∧
    (¬ paired → s.get UPD_STAT.SESS ≠ 2 ∨ busy → refuses (.updVerify c) 2) ∧
    (¬ paired → s.get UPD_STAT.SESS = 2 → ¬ busy → ∃ t, exec (.updVerify c) s = .next t ∧ s.sameRest t ∧
      t.get UPD_STAT.SESS = 3 ∧ t.get UPD_STAT.BUSY = 1 ∧ t.upd.job = .verify) ∧
    (¬ paired → slot s k ≠ Slot.verified ∨ trial → refuses (.updArm c) 2) ∧
    (¬ paired → slot s k = Slot.verified → ¬ trial → ends (.updArm c) 0 fun t => t.mem = s.mem ∧ slot t k = Slot.armed ∧
      t.get UPD_STAT.SESS = 5 ∧ t.get UPD_TRSTAT.TRIALS = 0 ∧ t.upd.boot.pend = k ∧ t.upd.boot.trials = 0 ∧ queued s t .boot) ∧
    let onTrial : Prop := trial ∧ slot s s.runSlot = Slot.trial
    (¬ onTrial → refuses (.healthConfirm c) 2) ∧
    (onTrial → ends (.healthConfirm c) 0 (fun t => t.mem = s.mem ∧ slot t s.runSlot = Slot.confirmed ∧ t.get UPD_STAT.TRIAL = 0 ∧
        t.upd.boot.conf = s.runSlot ∧ t.upd.boot.pend = 0xFF ∧ s.asserts t 252 ∧ queued s t .boot) ∧
      ends (.updAbort c) 0 fun t => t.mem = s.mem ∧ slot t s.runSlot = Slot.rejected ∧ queued s t .boot) ∧
    (¬ onTrial → 1 ≤ slot s k → slot s k ≤ 3 → ends (.updAbort c) 0 fun t => t.mem = s.mem ∧ slot t k = Slot.empty ∧
      t.get UPD_STAT.SESS = 0 ∧ (s.upd.boot.pend = k → t.upd.boot.pend = 0xFF) ∧ queued s t .boot) ∧
    (¬ onTrial → slot s k = 0 ∨ 3 < slot s k → refuses (.updAbort c) 2)) ∧
  ∀ s : State,
    let k := s.idleSlot
    (∀ ok : Bool, ((∀ b, s.upd.job ≠ .prog b true) ∨ s.get NVM_RSVE.UJ < 600 → exec (.progDone ok) s = .next s)) ∧
    (∀ b, s.upd.job = .prog b true → b < 12288 → 600 ≤ s.get NVM_RSVE.UJ →
      let marked := (s.byte (0x40031800 + b / 64 / 8)).getLsbD (b / 64 % 8)
      (marked = false → ∃ t, exec (.progDone true) s = .next t ∧ s.sameCores t ∧ t.get UPD_STAT.RES = 0 ∧ t.get UPD_STAT.BUSY = 0 ∧
        t.upd.job = .idle ∧ t.getBytes (slotBase k + 1024 * b) 1024 = s.stage ∧ t.blockHeld b = true ∧
        (t.byte (0x40031800 + b / 64 / 8)).getLsbD (b / 64 % 8) = true ∧
        (t.updFull = true → t.get UPD_STAT.SESS = 2 ∧ s.asserts t 249)) ∧
      ∃ t, exec (.progDone false) s = .next t ∧ s.sameCores t ∧ t.get UPD_STAT.RES = 5 ∧ t.get UPD_STAT.BUSY = 0 ∧
        t.get UPD_FLT.CMDFAIL = 1 ∧ s.asserts t 255 ∧ t.blockHeld b = s.blockHeld b) ∧
    (s.upd.job ≠ .verify → exec .verifyDone s = .next s) ∧
    (s.upd.job = .verify → ∃ t, exec .verifyDone s = .next t ∧ s.sameCores t ∧ s.asserts t 250 ∧ t.upd.job = .idle ∧
      let passes : Prop := s.imageOk k = true ∧ s.imgLen k = s.upd.boot.imglen ∧ s.imageId k = s.updIdent
      (passes → t.mem = s.mem ∧ t.get UPD_STAT.RES = 0 ∧ t.get (slotReg k) = Slot.verified ∧ t.get UPD_STAT.SESS = 4) ∧
      (¬ passes → 6 ≤ t.get UPD_STAT.RES ∧ t.get (slotReg k) = Slot.receiving ∧ t.get UPD_STAT.SESS = 1 ∧
        t.get UPD_FLT.CMDFAIL = 1 ∧ ∀ a, 0x40031000 ≤ a → a < 0x40031818 → t.byte a = 0)) ∧
    let expired : Prop := s.get UPD_STAT.TRIAL ≠ 0 ∧ s.get (slotReg s.runSlot) = Slot.trial ∧
      (60 * s.get UPD_TRCFG.WINDOW ≤ s.get UPD_TRSTAT.ELAPSED ∨
        s.upd.boot.trstart + 3600 * s.get UPD_TRCFG.ABS ≤ s.get NVM_OPTIME.SEC)
    (¬ expired → exec .trialExpiry s = .next s) ∧
    (expired → ∃ t, exec .trialExpiry s = .next t ∧ s.sameRest t ∧ t.get (slotReg s.runSlot) = Slot.rejected ∧
      t.get UPD_FLT.EXPIRED = 1 ∧ s.asserts t 253 ∧ queued s t .boot)

/-- At reset every register field reads the reset value of its field table (R16): the gait is Walk with PREV
Paddock, the curb state BOOT, the boot ROM runs; each core is at Firm privilege with IE and EXC 0 (R82), its
control registers read as Table GCS-10 lists (TAGFREE 256, on the Groom 32; CYCLE holds 0, and its read adds a free
number of cycles, log entry 3), every tag is free, no lane job runs and no lane holds a predicate. The memory has
its canonical form, pcs are aligned, no core holds a value for g0 and the applied layout is in range: the premises
of MemoryStaysCanonical and ProgramCountersStayAligned. The queue of commands is empty. General registers 0, pc 0
and memory with nothing listed are the model's choice (log entries 1 and 10: the spec gives no value). -/
def Obligations.ResetState : Prop :=
  let s := State.reset
  (∀ f : Fld, s.get f = f.reset) ∧ s.gait = Gait.walk ∧ s.get PWR_GAIT.PREV = Gait.paddock ∧ s.get CRB_STAT.STATE = Curb.boot ∧
    s.sys.booting = true ∧ s.power.trans = none ∧
    (∀ c : Core, s.isApp c = false ∧ s.cr c Cr.status = 0x100 ∧ (s.readCr c Cr.tagfree).1 = (if c = .grm then 32 else 256) ∧
      (∀ n, n ≠ Cr.status → n ≠ Cr.tagfree → n ≠ Cr.coreId → n ≠ Cr.cycle → (s.readCr c n).1 = 0) ∧ s.cr c Cr.cycle = 0 ∧ (s.core c).tags = [] ∧
      (∀ r, s.g c r = 0) ∧ s.pc c = 0) ∧
    s.herd.jobs = [] ∧ (∀ l, s.lanePreds l = 0) ∧ (∀ a, s.byte a = memUnlisted a) ∧ s.pending = [] ∧
    Memory.wf s.mem = true ∧ s.pcAligned = true ∧ s.zeroHeld = true ∧ s.mapRange = true

/-- For every state whose memory has its canonical form (addresses strictly rising, no entry equal to what an
unlisted address reads as) every command of the table, well-formed or not, answers a next state (no fault, no
refusal), whose memory has that form, and leaves the queue as it is. The state after a step has memory in that
form, with an empty queue too. A store by a core or an engine, a block written by the flash or by a program job,
the loss of memory in a gait or at reset and the load of a snapshot are all steps. The form is the model's (log
entry 1), so that equal memories are equal data. -/
def Obligations.MemoryStaysCanonical : Prop :=
  (∀ (c : Instr) (s : State), Memory.wf s.mem = true →
    ∃ t, exec c s = .next t ∧ Memory.wf t.mem = true ∧ t.pending = s.pending) ∧
  ∀ s t : State, Memory.wf s.mem = true → step s = .next t → Memory.wf t.mem = true

/-- For every state in which the pc of each core has bits [1:0] 0, no core holds a value for g0, and the applied
layout names cells 0 to 511 on units from 1 on, and every queue whose commands carry well-formed operands: after
the step the same holds, and the commands left in the queue are those behind the front one. Every well-formed
command completes from such a state, in such a state. Branches, jumps, exception entry and return, the start of a
core at an entry point, a core reset and a snapshot are all steps. -/
def Obligations.ProgramCountersStayAligned : Prop :=
  (∀ (c : Instr) (s : State), s.pcAligned = true → s.zeroHeld = true → s.mapRange = true → c.wellFormed = true →
    ∃ t, exec c s = .next t ∧ t.pcAligned = true ∧ t.zeroHeld = true ∧ t.mapRange = true ∧ t.pending = s.pending) ∧
  ∀ s t : State, s.pcAligned = true → s.zeroHeld = true → s.mapRange = true →
    (∀ c rest, s.pending = c :: rest → c.wellFormed = true) → step s = .next t →
      t.pcAligned = true ∧ t.zeroHeld = true ∧ t.mapRange = true ∧ t.pending = s.pending.tail
end

