-- ==== Sys2Proof/Laws/Maps.lean ====
section
/-! SUPPORT. The sparse maps: what a write reads back as, and that writes keep the canonical form. -/

namespace Sys2Proof

variable {α : Type}

@[simp] theorem mapGet_mapErase_same (d : α) (m : List (Nat × α)) (k : Nat) : mapGet d (mapErase m k) k = d := by
  induction m with
  | nil => rfl
  | cons e rest ih => by_cases h : e.1 = k <;> simp [mapErase, mapGet, h, ih]

theorem mapGet_mapErase_ne (d : α) (m : List (Nat × α)) {j k : Nat} (h : j ≠ k) :
    mapGet d (mapErase m k) j = mapGet d m j := by
  induction m with
  | nil => rfl
  | cons e rest ih =>
    by_cases hk : e.1 = k
    · have : e.1 ≠ j := fun x => h (x ▸ hk)
      simp [mapErase, mapGet, hk, ih, Ne.symm h]
    · simp [mapErase, mapGet, hk, ih]

theorem mapErase_no_key (m : List (Nat × α)) (k : Nat) : ∀ e ∈ mapErase m k, e.1 ≠ k := by
  induction m with
  | nil => simp [mapErase]
  | cons e rest ih =>
    by_cases hk : e.1 = k
    · simpa [mapErase, hk] using ih
    · simpa [mapErase, hk] using ih

theorem mapGet_mapInsert_same (d : α) (m : List (Nat × α)) (k : Nat) (v : α) (h : ∀ e ∈ m, e.1 ≠ k) :
    mapGet d (mapInsert m k v) k = v := by
  induction m with
  | nil => simp [mapInsert, mapGet]
  | cons e rest ih =>
    by_cases hk : k < e.1
    · simp [mapInsert, mapGet, hk]
    · simp [mapInsert, mapGet, hk, h e (by simp), ih fun x hx => h x (by simp [hx])]

theorem mapGet_mapInsert_ne (d : α) (m : List (Nat × α)) {j k : Nat} (v : α) (h : j ≠ k) :
    mapGet d (mapInsert m k v) j = mapGet d m j := by
  induction m with
  | nil => simp [mapInsert, mapGet, Ne.symm h]
  | cons e rest ih =>
    by_cases hk : k < e.1
    · simp [mapInsert, mapGet, hk, Ne.symm h]
    · simp [mapInsert, mapGet, hk, ih]

@[simp] theorem mapGet_mapSet_same [DecidableEq α] (d : α) (m : List (Nat × α)) (k : Nat) (v : α) :
    mapGet d (mapSet d m k v) k = v := by
  by_cases h : v = d
  · simp [mapSet, h]
  · simpa [mapSet, h] using mapGet_mapInsert_same d _ k v (mapErase_no_key m k)

theorem mapGet_mapSet_ne [DecidableEq α] (d d' : α) (m : List (Nat × α)) {j k : Nat} (v : α) (h : j ≠ k) :
    mapGet d (mapSet d' m k v) j = mapGet d m j := by
  by_cases hv : v = d'
  · simp [mapSet, hv, mapGet_mapErase_ne d m h]
  · simp [mapSet, hv, mapGet_mapInsert_ne d _ v h, mapGet_mapErase_ne d m h]

@[simp] theorem mapGet_mapPut_same (d : α) (m : List (Nat × α)) (k : Nat) (v : α) : mapGet d (mapPut m k v) k = v :=
  mapGet_mapInsert_same d _ k v (mapErase_no_key m k)

theorem mapGet_mapPut_ne (d : α) (m : List (Nat × α)) {j k : Nat} (v : α) (h : j ≠ k) :
    mapGet d (mapPut m k v) j = mapGet d m j := by
  simp [mapPut, mapGet_mapInsert_ne d _ v h, mapGet_mapErase_ne d m h]

/-! ### The canonical form -/

theorem mapErase_mem {m : List (Nat × α)} {k : Nat} {e : Nat × α} (h : e ∈ mapErase m k) : e ∈ m := by
  induction m with
  | nil => simp [mapErase] at h
  | cons x rest ih =>
    by_cases hk : x.1 = k
    · simp only [mapErase, hk, if_true] at h
      exact List.mem_cons_of_mem _ (ih h)
    · simp only [mapErase, hk, if_false, List.mem_cons] at h
      rcases h with h | h
      · exact h ▸ List.mem_cons_self
      · exact List.mem_cons_of_mem _ (ih h)

theorem mapInsert_mem {m : List (Nat × α)} {k : Nat} {v : α} {e : Nat × α} (h : e ∈ mapInsert m k v) :
    e = (k, v) ∨ e ∈ m := by
  induction m with
  | nil => simpa [mapInsert] using h
  | cons x rest ih =>
    by_cases hk : k < x.1
    · simpa [mapInsert, hk] using h
    · simp only [mapInsert, hk, if_false, List.mem_cons] at h ⊢
      rcases h with h | h
      · exact .inr (.inl h)
      · exact (ih h).imp id .inr

theorem keysRise_cons {e : Nat × α} {m : List (Nat × α)} :
    keysRise (e :: m) = true ↔ (∀ x ∈ m, e.1 < x.1) ∧ keysRise m = true := by
  simp [keysRise]

theorem keysRise_filter {m : List (Nat × α)} (p : Nat × α → Bool) (h : keysRise m = true) :
    keysRise (m.filter p) = true := by
  induction m with
  | nil => simpa using h
  | cons e rest ih =>
    obtain ⟨h1, h2⟩ := keysRise_cons.mp h
    by_cases hp : p e = true
    · simp only [List.filter_cons, hp, if_true]
      exact keysRise_cons.mpr ⟨fun x hx => h1 x (List.mem_filter.mp hx).1, ih h2⟩
    · simpa [List.filter_cons, hp] using ih h2

theorem keysRise_mapErase {m : List (Nat × α)} (k : Nat) (h : keysRise m = true) :
    keysRise (mapErase m k) = true := by
  induction m with
  | nil => simpa [mapErase] using h
  | cons e rest ih =>
    obtain ⟨h1, h2⟩ := keysRise_cons.mp h
    by_cases hk : e.1 = k
    · simpa [mapErase, hk] using ih h2
    · simp only [mapErase, hk, if_false]
      exact keysRise_cons.mpr ⟨fun x hx => h1 x (mapErase_mem hx), ih h2⟩

theorem keysRise_mapInsert {m : List (Nat × α)} (k : Nat) (v : α) (h : keysRise m = true)
    (hk : ∀ e ∈ m, e.1 ≠ k) : keysRise (mapInsert m k v) = true := by
  induction m with
  | nil => simp [mapInsert, keysRise]
  | cons e rest ih =>
    obtain ⟨h1, h2⟩ := keysRise_cons.mp h
    by_cases hlt : k < e.1
    · simp only [mapInsert, hlt, if_true]
      refine keysRise_cons.mpr ⟨fun x hx => ?_, h⟩
      rcases List.mem_cons.mp hx with hx | hx
      · simpa [hx] using hlt
      · exact Nat.lt_trans hlt (h1 x hx)
    · simp only [mapInsert, hlt, if_false]
      have he : e.1 ≠ k := hk e List.mem_cons_self
      refine keysRise_cons.mpr ⟨fun x hx => ?_, ih h2 fun x hx => hk x (List.mem_cons_of_mem _ hx)⟩
      rcases mapInsert_mem hx with hx | hx
      · subst hx
        show e.1 < k
        omega
      · exact h1 x hx

theorem keysRise_mapSet [DecidableEq α] (d : α) {m : List (Nat × α)} (k : Nat) (v : α) (h : keysRise m = true) :
    keysRise (mapSet d m k v) = true := by
  by_cases hv : v = d
  · simpa [mapSet, hv] using keysRise_mapErase k h
  · simpa [mapSet, hv] using keysRise_mapInsert k v (keysRise_mapErase k h) (mapErase_no_key m k)

theorem mapSet_mem [DecidableEq α] {d : α} {m : List (Nat × α)} {k : Nat} {v : α} {e : Nat × α}
    (h : e ∈ mapSet d m k v) : (e = (k, v) ∧ v ≠ d) ∨ e ∈ m := by
  by_cases hv : v = d
  · exact .inr (mapErase_mem (by simpa [mapSet, hv] using h))
  · rcases mapInsert_mem (by simpa [mapSet, hv] using h) with h | h
    · exact .inl ⟨h, hv⟩
    · exact .inr (mapErase_mem h)

end Sys2Proof
end

