-- ==== Sys2Proof/Laws/State.lean ====
section
/-! SUPPORT. One lemma per field of State and update of State: what the update leaves, and what it makes of the field it
changes. -/

namespace Sys2Proof.Machine
open Sys2Proof

@[simp] theorem State.mapEvt_regs (s : State) (g : EvtSt → EvtSt) : (s.mapEvt g).regs = s.regs := rfl
@[simp] theorem State.mapEvt_mem (s : State) (g : EvtSt → EvtSt) : (s.mapEvt g).mem = s.mem := rfl
@[simp] theorem State.mapEvt_pending (s : State) (g : EvtSt → EvtSt) : (s.mapEvt g).pending = s.pending := rfl
@[simp] theorem State.mapEvt_free (s : State) (g : EvtSt → EvtSt) : (s.mapEvt g).free = s.free := rfl
@[simp] theorem State.mapEvt_nowUs (s : State) (g : EvtSt → EvtSt) : (s.mapEvt g).nowUs = s.nowUs := rfl
@[simp] theorem State.mapEvt_rdata (s : State) (g : EvtSt → EvtSt) : (s.mapEvt g).rdata = s.rdata := rfl
@[simp] theorem State.mapEvt_r0 (s : State) (g : EvtSt → EvtSt) : (s.mapEvt g).r0 = s.r0 := rfl
@[simp] theorem State.mapEvt_r1 (s : State) (g : EvtSt → EvtSt) : (s.mapEvt g).r1 = s.r1 := rfl
@[simp] theorem State.mapEvt_grm (s : State) (g : EvtSt → EvtSt) : (s.mapEvt g).grm = s.grm := rfl
@[simp] theorem State.mapEvt_dma (s : State) (g : EvtSt → EvtSt) : (s.mapEvt g).dma = s.dma := rfl
@[simp] theorem State.mapEvt_evt (s : State) (g : EvtSt → EvtSt) : (s.mapEvt g).evt = g s.evt := rfl
@[simp] theorem State.mapEvt_pad (s : State) (g : EvtSt → EvtSt) : (s.mapEvt g).pad = s.pad := rfl
@[simp] theorem State.mapEvt_power (s : State) (g : EvtSt → EvtSt) : (s.mapEvt g).power = s.power := rfl
@[simp] theorem State.mapEvt_thermal (s : State) (g : EvtSt → EvtSt) : (s.mapEvt g).thermal = s.thermal := rfl
@[simp] theorem State.mapEvt_nvm (s : State) (g : EvtSt → EvtSt) : (s.mapEvt g).nvm = s.nvm := rfl
@[simp] theorem State.mapEvt_fio (s : State) (g : EvtSt → EvtSt) : (s.mapEvt g).fio = s.fio := rfl
@[simp] theorem State.mapEvt_crb (s : State) (g : EvtSt → EvtSt) : (s.mapEvt g).crb = s.crb := rfl
@[simp] theorem State.mapEvt_prt (s : State) (g : EvtSt → EvtSt) : (s.mapEvt g).prt = s.prt := rfl
@[simp] theorem State.mapEvt_units (s : State) (g : EvtSt → EvtSt) : (s.mapEvt g).units = s.units := rfl
@[simp] theorem State.mapEvt_herd (s : State) (g : EvtSt → EvtSt) : (s.mapEvt g).herd = s.herd := rfl
@[simp] theorem State.mapEvt_chn (s : State) (g : EvtSt → EvtSt) : (s.mapEvt g).chn = s.chn := rfl
@[simp] theorem State.mapEvt_cel (s : State) (g : EvtSt → EvtSt) : (s.mapEvt g).cel = s.cel := rfl
@[simp] theorem State.mapEvt_est (s : State) (g : EvtSt → EvtSt) : (s.mapEvt g).est = s.est := rfl
@[simp] theorem State.mapEvt_hvm (s : State) (g : EvtSt → EvtSt) : (s.mapEvt g).hvm = s.hvm := rfl
@[simp] theorem State.mapEvt_ggn (s : State) (g : EvtSt → EvtSt) : (s.mapEvt g).ggn = s.ggn := rfl
@[simp] theorem State.mapEvt_can (s : State) (g : EvtSt → EvtSt) : (s.mapEvt g).can = s.can := rfl
@[simp] theorem State.mapEvt_eth (s : State) (g : EvtSt → EvtSt) : (s.mapEvt g).eth = s.eth := rfl
@[simp] theorem State.mapEvt_ptp (s : State) (g : EvtSt → EvtSt) : (s.mapEvt g).ptp = s.ptp := rfl
@[simp] theorem State.mapEvt_upd (s : State) (g : EvtSt → EvtSt) : (s.mapEvt g).upd = s.upd := rfl
@[simp] theorem State.mapEvt_sys (s : State) (g : EvtSt → EvtSt) : (s.mapEvt g).sys = s.sys := rfl
@[simp] theorem State.mapEvt_tdm (s : State) (g : EvtSt → EvtSt) : (s.mapEvt g).tdm = s.tdm := rfl

@[simp] theorem State.mapPad_regs (s : State) (g : PadSt → PadSt) : (s.mapPad g).regs = s.regs := rfl
@[simp] theorem State.mapPad_mem (s : State) (g : PadSt → PadSt) : (s.mapPad g).mem = s.mem := rfl
@[simp] theorem State.mapPad_pending (s : State) (g : PadSt → PadSt) : (s.mapPad g).pending = s.pending := rfl
@[simp] theorem State.mapPad_free (s : State) (g : PadSt → PadSt) : (s.mapPad g).free = s.free := rfl
@[simp] theorem State.mapPad_nowUs (s : State) (g : PadSt → PadSt) : (s.mapPad g).nowUs = s.nowUs := rfl
@[simp] theorem State.mapPad_rdata (s : State) (g : PadSt → PadSt) : (s.mapPad g).rdata = s.rdata := rfl
@[simp] theorem State.mapPad_r0 (s : State) (g : PadSt → PadSt) : (s.mapPad g).r0 = s.r0 := rfl
@[simp] theorem State.mapPad_r1 (s : State) (g : PadSt → PadSt) : (s.mapPad g).r1 = s.r1 := rfl
@[simp] theorem State.mapPad_grm (s : State) (g : PadSt → PadSt) : (s.mapPad g).grm = s.grm := rfl
@[simp] theorem State.mapPad_dma (s : State) (g : PadSt → PadSt) : (s.mapPad g).dma = s.dma := rfl
@[simp] theorem State.mapPad_evt (s : State) (g : PadSt → PadSt) : (s.mapPad g).evt = s.evt := rfl
@[simp] theorem State.mapPad_pad (s : State) (g : PadSt → PadSt) : (s.mapPad g).pad = g s.pad := rfl
@[simp] theorem State.mapPad_power (s : State) (g : PadSt → PadSt) : (s.mapPad g).power = s.power := rfl
@[simp] theorem State.mapPad_thermal (s : State) (g : PadSt → PadSt) : (s.mapPad g).thermal = s.thermal := rfl
@[simp] theorem State.mapPad_nvm (s : State) (g : PadSt → PadSt) : (s.mapPad g).nvm = s.nvm := rfl
@[simp] theorem State.mapPad_fio (s : State) (g : PadSt → PadSt) : (s.mapPad g).fio = s.fio := rfl
@[simp] theorem State.mapPad_crb (s : State) (g : PadSt → PadSt) : (s.mapPad g).crb = s.crb := rfl
@[simp] theorem State.mapPad_prt (s : State) (g : PadSt → PadSt) : (s.mapPad g).prt = s.prt := rfl
@[simp] theorem State.mapPad_units (s : State) (g : PadSt → PadSt) : (s.mapPad g).units = s.units := rfl
@[simp] theorem State.mapPad_herd (s : State) (g : PadSt → PadSt) : (s.mapPad g).herd = s.herd := rfl
@[simp] theorem State.mapPad_chn (s : State) (g : PadSt → PadSt) : (s.mapPad g).chn = s.chn := rfl
@[simp] theorem State.mapPad_cel (s : State) (g : PadSt → PadSt) : (s.mapPad g).cel = s.cel := rfl
@[simp] theorem State.mapPad_est (s : State) (g : PadSt → PadSt) : (s.mapPad g).est = s.est := rfl
@[simp] theorem State.mapPad_hvm (s : State) (g : PadSt → PadSt) : (s.mapPad g).hvm = s.hvm := rfl
@[simp] theorem State.mapPad_ggn (s : State) (g : PadSt → PadSt) : (s.mapPad g).ggn = s.ggn := rfl
@[simp] theorem State.mapPad_can (s : State) (g : PadSt → PadSt) : (s.mapPad g).can = s.can := rfl
@[simp] theorem State.mapPad_eth (s : State) (g : PadSt → PadSt) : (s.mapPad g).eth = s.eth := rfl
@[simp] theorem State.mapPad_ptp (s : State) (g : PadSt → PadSt) : (s.mapPad g).ptp = s.ptp := rfl
@[simp] theorem State.mapPad_upd (s : State) (g : PadSt → PadSt) : (s.mapPad g).upd = s.upd := rfl
@[simp] theorem State.mapPad_sys (s : State) (g : PadSt → PadSt) : (s.mapPad g).sys = s.sys := rfl
@[simp] theorem State.mapPad_tdm (s : State) (g : PadSt → PadSt) : (s.mapPad g).tdm = s.tdm := rfl

@[simp] theorem State.mapPower_regs (s : State) (g : PowerSt → PowerSt) : (s.mapPower g).regs = s.regs := rfl
@[simp] theorem State.mapPower_mem (s : State) (g : PowerSt → PowerSt) : (s.mapPower g).mem = s.mem := rfl
@[simp] theorem State.mapPower_pending (s : State) (g : PowerSt → PowerSt) : (s.mapPower g).pending = s.pending := rfl
@[simp] theorem State.mapPower_free (s : State) (g : PowerSt → PowerSt) : (s.mapPower g).free = s.free := rfl
@[simp] theorem State.mapPower_nowUs (s : State) (g : PowerSt → PowerSt) : (s.mapPower g).nowUs = s.nowUs := rfl
@[simp] theorem State.mapPower_rdata (s : State) (g : PowerSt → PowerSt) : (s.mapPower g).rdata = s.rdata := rfl
@[simp] theorem State.mapPower_r0 (s : State) (g : PowerSt → PowerSt) : (s.mapPower g).r0 = s.r0 := rfl
@[simp] theorem State.mapPower_r1 (s : State) (g : PowerSt → PowerSt) : (s.mapPower g).r1 = s.r1 := rfl
@[simp] theorem State.mapPower_grm (s : State) (g : PowerSt → PowerSt) : (s.mapPower g).grm = s.grm := rfl
@[simp] theorem State.mapPower_dma (s : State) (g : PowerSt → PowerSt) : (s.mapPower g).dma = s.dma := rfl
@[simp] theorem State.mapPower_evt (s : State) (g : PowerSt → PowerSt) : (s.mapPower g).evt = s.evt := rfl
@[simp] theorem State.mapPower_pad (s : State) (g : PowerSt → PowerSt) : (s.mapPower g).pad = s.pad := rfl
@[simp] theorem State.mapPower_power (s : State) (g : PowerSt → PowerSt) : (s.mapPower g).power = g s.power := rfl
@[simp] theorem State.mapPower_thermal (s : State) (g : PowerSt → PowerSt) : (s.mapPower g).thermal = s.thermal := rfl
@[simp] theorem State.mapPower_nvm (s : State) (g : PowerSt → PowerSt) : (s.mapPower g).nvm = s.nvm := rfl
@[simp] theorem State.mapPower_fio (s : State) (g : PowerSt → PowerSt) : (s.mapPower g).fio = s.fio := rfl
@[simp] theorem State.mapPower_crb (s : State) (g : PowerSt → PowerSt) : (s.mapPower g).crb = s.crb := rfl
@[simp] theorem State.mapPower_prt (s : State) (g : PowerSt → PowerSt) : (s.mapPower g).prt = s.prt := rfl
@[simp] theorem State.mapPower_units (s : State) (g : PowerSt → PowerSt) : (s.mapPower g).units = s.units := rfl
@[simp] theorem State.mapPower_herd (s : State) (g : PowerSt → PowerSt) : (s.mapPower g).herd = s.herd := rfl
@[simp] theorem State.mapPower_chn (s : State) (g : PowerSt → PowerSt) : (s.mapPower g).chn = s.chn := rfl
@[simp] theorem State.mapPower_cel (s : State) (g : PowerSt → PowerSt) : (s.mapPower g).cel = s.cel := rfl
@[simp] theorem State.mapPower_est (s : State) (g : PowerSt → PowerSt) : (s.mapPower g).est = s.est := rfl
@[simp] theorem State.mapPower_hvm (s : State) (g : PowerSt → PowerSt) : (s.mapPower g).hvm = s.hvm := rfl
@[simp] theorem State.mapPower_ggn (s : State) (g : PowerSt → PowerSt) : (s.mapPower g).ggn = s.ggn := rfl
@[simp] theorem State.mapPower_can (s : State) (g : PowerSt → PowerSt) : (s.mapPower g).can = s.can := rfl
@[simp] theorem State.mapPower_eth (s : State) (g : PowerSt → PowerSt) : (s.mapPower g).eth = s.eth := rfl
@[simp] theorem State.mapPower_ptp (s : State) (g : PowerSt → PowerSt) : (s.mapPower g).ptp = s.ptp := rfl
@[simp] theorem State.mapPower_upd (s : State) (g : PowerSt → PowerSt) : (s.mapPower g).upd = s.upd := rfl
@[simp] theorem State.mapPower_sys (s : State) (g : PowerSt → PowerSt) : (s.mapPower g).sys = s.sys := rfl
@[simp] theorem State.mapPower_tdm (s : State) (g : PowerSt → PowerSt) : (s.mapPower g).tdm = s.tdm := rfl

@[simp] theorem State.mapThermal_regs (s : State) (g : ThermalSt → ThermalSt) : (s.mapThermal g).regs = s.regs := rfl
@[simp] theorem State.mapThermal_mem (s : State) (g : ThermalSt → ThermalSt) : (s.mapThermal g).mem = s.mem := rfl
@[simp] theorem State.mapThermal_pending (s : State) (g : ThermalSt → ThermalSt) : (s.mapThermal g).pending = s.pending := rfl
@[simp] theorem State.mapThermal_free (s : State) (g : ThermalSt → ThermalSt) : (s.mapThermal g).free = s.free := rfl
@[simp] theorem State.mapThermal_nowUs (s : State) (g : ThermalSt → ThermalSt) : (s.mapThermal g).nowUs = s.nowUs := rfl
@[simp] theorem State.mapThermal_rdata (s : State) (g : ThermalSt → ThermalSt) : (s.mapThermal g).rdata = s.rdata := rfl
@[simp] theorem State.mapThermal_r0 (s : State) (g : ThermalSt → ThermalSt) : (s.mapThermal g).r0 = s.r0 := rfl
@[simp] theorem State.mapThermal_r1 (s : State) (g : ThermalSt → ThermalSt) : (s.mapThermal g).r1 = s.r1 := rfl
@[simp] theorem State.mapThermal_grm (s : State) (g : ThermalSt → ThermalSt) : (s.mapThermal g).grm = s.grm := rfl
@[simp] theorem State.mapThermal_dma (s : State) (g : ThermalSt → ThermalSt) : (s.mapThermal g).dma = s.dma := rfl
@[simp] theorem State.mapThermal_evt (s : State) (g : ThermalSt → ThermalSt) : (s.mapThermal g).evt = s.evt := rfl
@[simp] theorem State.mapThermal_pad (s : State) (g : ThermalSt → ThermalSt) : (s.mapThermal g).pad = s.pad := rfl
@[simp] theorem State.mapThermal_power (s : State) (g : ThermalSt → ThermalSt) : (s.mapThermal g).power = s.power := rfl
@[simp] theorem State.mapThermal_thermal (s : State) (g : ThermalSt → ThermalSt) : (s.mapThermal g).thermal = g s.thermal := rfl
@[simp] theorem State.mapThermal_nvm (s : State) (g : ThermalSt → ThermalSt) : (s.mapThermal g).nvm = s.nvm := rfl
@[simp] theorem State.mapThermal_fio (s : State) (g : ThermalSt → ThermalSt) : (s.mapThermal g).fio = s.fio := rfl
@[simp] theorem State.mapThermal_crb (s : State) (g : ThermalSt → ThermalSt) : (s.mapThermal g).crb = s.crb := rfl
@[simp] theorem State.mapThermal_prt (s : State) (g : ThermalSt → ThermalSt) : (s.mapThermal g).prt = s.prt := rfl
@[simp] theorem State.mapThermal_units (s : State) (g : ThermalSt → ThermalSt) : (s.mapThermal g).units = s.units := rfl
@[simp] theorem State.mapThermal_herd (s : State) (g : ThermalSt → ThermalSt) : (s.mapThermal g).herd = s.herd := rfl
@[simp] theorem State.mapThermal_chn (s : State) (g : ThermalSt → ThermalSt) : (s.mapThermal g).chn = s.chn := rfl
@[simp] theorem State.mapThermal_cel (s : State) (g : ThermalSt → ThermalSt) : (s.mapThermal g).cel = s.cel := rfl
@[simp] theorem State.mapThermal_est (s : State) (g : ThermalSt → ThermalSt) : (s.mapThermal g).est = s.est := rfl
@[simp] theorem State.mapThermal_hvm (s : State) (g : ThermalSt → ThermalSt) : (s.mapThermal g).hvm = s.hvm := rfl
@[simp] theorem State.mapThermal_ggn (s : State) (g : ThermalSt → ThermalSt) : (s.mapThermal g).ggn = s.ggn := rfl
@[simp] theorem State.mapThermal_can (s : State) (g : ThermalSt → ThermalSt) : (s.mapThermal g).can = s.can := rfl
@[simp] theorem State.mapThermal_eth (s : State) (g : ThermalSt → ThermalSt) : (s.mapThermal g).eth = s.eth := rfl
@[simp] theorem State.mapThermal_ptp (s : State) (g : ThermalSt → ThermalSt) : (s.mapThermal g).ptp = s.ptp := rfl
@[simp] theorem State.mapThermal_upd (s : State) (g : ThermalSt → ThermalSt) : (s.mapThermal g).upd = s.upd := rfl
@[simp] theorem State.mapThermal_sys (s : State) (g : ThermalSt → ThermalSt) : (s.mapThermal g).sys = s.sys := rfl
@[simp] theorem State.mapThermal_tdm (s : State) (g : ThermalSt → ThermalSt) : (s.mapThermal g).tdm = s.tdm := rfl

@[simp] theorem State.mapNvm_regs (s : State) (g : NvmSt → NvmSt) : (s.mapNvm g).regs = s.regs := rfl
@[simp] theorem State.mapNvm_mem (s : State) (g : NvmSt → NvmSt) : (s.mapNvm g).mem = s.mem := rfl
@[simp] theorem State.mapNvm_pending (s : State) (g : NvmSt → NvmSt) : (s.mapNvm g).pending = s.pending := rfl
@[simp] theorem State.mapNvm_free (s : State) (g : NvmSt → NvmSt) : (s.mapNvm g).free = s.free := rfl
@[simp] theorem State.mapNvm_nowUs (s : State) (g : NvmSt → NvmSt) : (s.mapNvm g).nowUs = s.nowUs := rfl
@[simp] theorem State.mapNvm_rdata (s : State) (g : NvmSt → NvmSt) : (s.mapNvm g).rdata = s.rdata := rfl
@[simp] theorem State.mapNvm_r0 (s : State) (g : NvmSt → NvmSt) : (s.mapNvm g).r0 = s.r0 := rfl
@[simp] theorem State.mapNvm_r1 (s : State) (g : NvmSt → NvmSt) : (s.mapNvm g).r1 = s.r1 := rfl
@[simp] theorem State.mapNvm_grm (s : State) (g : NvmSt → NvmSt) : (s.mapNvm g).grm = s.grm := rfl
@[simp] theorem State.mapNvm_dma (s : State) (g : NvmSt → NvmSt) : (s.mapNvm g).dma = s.dma := rfl
@[simp] theorem State.mapNvm_evt (s : State) (g : NvmSt → NvmSt) : (s.mapNvm g).evt = s.evt := rfl
@[simp] theorem State.mapNvm_pad (s : State) (g : NvmSt → NvmSt) : (s.mapNvm g).pad = s.pad := rfl
@[simp] theorem State.mapNvm_power (s : State) (g : NvmSt → NvmSt) : (s.mapNvm g).power = s.power := rfl
@[simp] theorem State.mapNvm_thermal (s : State) (g : NvmSt → NvmSt) : (s.mapNvm g).thermal = s.thermal := rfl
@[simp] theorem State.mapNvm_nvm (s : State) (g : NvmSt → NvmSt) : (s.mapNvm g).nvm = g s.nvm := rfl
@[simp] theorem State.mapNvm_fio (s : State) (g : NvmSt → NvmSt) : (s.mapNvm g).fio = s.fio := rfl
@[simp] theorem State.mapNvm_crb (s : State) (g : NvmSt → NvmSt) : (s.mapNvm g).crb = s.crb := rfl
@[simp] theorem State.mapNvm_prt (s : State) (g : NvmSt → NvmSt) : (s.mapNvm g).prt = s.prt := rfl
@[simp] theorem State.mapNvm_units (s : State) (g : NvmSt → NvmSt) : (s.mapNvm g).units = s.units := rfl
@[simp] theorem State.mapNvm_herd (s : State) (g : NvmSt → NvmSt) : (s.mapNvm g).herd = s.herd := rfl
@[simp] theorem State.mapNvm_chn (s : State) (g : NvmSt → NvmSt) : (s.mapNvm g).chn = s.chn := rfl
@[simp] theorem State.mapNvm_cel (s : State) (g : NvmSt → NvmSt) : (s.mapNvm g).cel = s.cel := rfl
@[simp] theorem State.mapNvm_est (s : State) (g : NvmSt → NvmSt) : (s.mapNvm g).est = s.est := rfl
@[simp] theorem State.mapNvm_hvm (s : State) (g : NvmSt → NvmSt) : (s.mapNvm g).hvm = s.hvm := rfl
@[simp] theorem State.mapNvm_ggn (s : State) (g : NvmSt → NvmSt) : (s.mapNvm g).ggn = s.ggn := rfl
@[simp] theorem State.mapNvm_can (s : State) (g : NvmSt → NvmSt) : (s.mapNvm g).can = s.can := rfl
@[simp] theorem State.mapNvm_eth (s : State) (g : NvmSt → NvmSt) : (s.mapNvm g).eth = s.eth := rfl
@[simp] theorem State.mapNvm_ptp (s : State) (g : NvmSt → NvmSt) : (s.mapNvm g).ptp = s.ptp := rfl
@[simp] theorem State.mapNvm_upd (s : State) (g : NvmSt → NvmSt) : (s.mapNvm g).upd = s.upd := rfl
@[simp] theorem State.mapNvm_sys (s : State) (g : NvmSt → NvmSt) : (s.mapNvm g).sys = s.sys := rfl
@[simp] theorem State.mapNvm_tdm (s : State) (g : NvmSt → NvmSt) : (s.mapNvm g).tdm = s.tdm := rfl

@[simp] theorem State.mapFio_regs (s : State) (g : FioSt → FioSt) : (s.mapFio g).regs = s.regs := rfl
@[simp] theorem State.mapFio_mem (s : State) (g : FioSt → FioSt) : (s.mapFio g).mem = s.mem := rfl
@[simp] theorem State.mapFio_pending (s : State) (g : FioSt → FioSt) : (s.mapFio g).pending = s.pending := rfl
@[simp] theorem State.mapFio_free (s : State) (g : FioSt → FioSt) : (s.mapFio g).free = s.free := rfl
@[simp] theorem State.mapFio_nowUs (s : State) (g : FioSt → FioSt) : (s.mapFio g).nowUs = s.nowUs := rfl
@[simp] theorem State.mapFio_rdata (s : State) (g : FioSt → FioSt) : (s.mapFio g).rdata = s.rdata := rfl
@[simp] theorem State.mapFio_r0 (s : State) (g : FioSt → FioSt) : (s.mapFio g).r0 = s.r0 := rfl
@[simp] theorem State.mapFio_r1 (s : State) (g : FioSt → FioSt) : (s.mapFio g).r1 = s.r1 := rfl
@[simp] theorem State.mapFio_grm (s : State) (g : FioSt → FioSt) : (s.mapFio g).grm = s.grm := rfl
@[simp] theorem State.mapFio_dma (s : State) (g : FioSt → FioSt) : (s.mapFio g).dma = s.dma := rfl
@[simp] theorem State.mapFio_evt (s : State) (g : FioSt → FioSt) : (s.mapFio g).evt = s.evt := rfl
@[simp] theorem State.mapFio_pad (s : State) (g : FioSt → FioSt) : (s.mapFio g).pad = s.pad := rfl
@[simp] theorem State.mapFio_power (s : State) (g : FioSt → FioSt) : (s.mapFio g).power = s.power := rfl
@[simp] theorem State.mapFio_thermal (s : State) (g : FioSt → FioSt) : (s.mapFio g).thermal = s.thermal := rfl
@[simp] theorem State.mapFio_nvm (s : State) (g : FioSt → FioSt) : (s.mapFio g).nvm = s.nvm := rfl
@[simp] theorem State.mapFio_fio (s : State) (g : FioSt → FioSt) : (s.mapFio g).fio = g s.fio := rfl
@[simp] theorem State.mapFio_crb (s : State) (g : FioSt → FioSt) : (s.mapFio g).crb = s.crb := rfl
@[simp] theorem State.mapFio_prt (s : State) (g : FioSt → FioSt) : (s.mapFio g).prt = s.prt := rfl
@[simp] theorem State.mapFio_units (s : State) (g : FioSt → FioSt) : (s.mapFio g).units = s.units := rfl
@[simp] theorem State.mapFio_herd (s : State) (g : FioSt → FioSt) : (s.mapFio g).herd = s.herd := rfl
@[simp] theorem State.mapFio_chn (s : State) (g : FioSt → FioSt) : (s.mapFio g).chn = s.chn := rfl
@[simp] theorem State.mapFio_cel (s : State) (g : FioSt → FioSt) : (s.mapFio g).cel = s.cel := rfl
@[simp] theorem State.mapFio_est (s : State) (g : FioSt → FioSt) : (s.mapFio g).est = s.est := rfl
@[simp] theorem State.mapFio_hvm (s : State) (g : FioSt → FioSt) : (s.mapFio g).hvm = s.hvm := rfl
@[simp] theorem State.mapFio_ggn (s : State) (g : FioSt → FioSt) : (s.mapFio g).ggn = s.ggn := rfl
@[simp] theorem State.mapFio_can (s : State) (g : FioSt → FioSt) : (s.mapFio g).can = s.can := rfl
@[simp] theorem State.mapFio_eth (s : State) (g : FioSt → FioSt) : (s.mapFio g).eth = s.eth := rfl
@[simp] theorem State.mapFio_ptp (s : State) (g : FioSt → FioSt) : (s.mapFio g).ptp = s.ptp := rfl
@[simp] theorem State.mapFio_upd (s : State) (g : FioSt → FioSt) : (s.mapFio g).upd = s.upd := rfl
@[simp] theorem State.mapFio_sys (s : State) (g : FioSt → FioSt) : (s.mapFio g).sys = s.sys := rfl
@[simp] theorem State.mapFio_tdm (s : State) (g : FioSt → FioSt) : (s.mapFio g).tdm = s.tdm := rfl

@[simp] theorem State.mapCrb_regs (s : State) (g : CurbSt → CurbSt) : (s.mapCrb g).regs = s.regs := rfl
@[simp] theorem State.mapCrb_mem (s : State) (g : CurbSt → CurbSt) : (s.mapCrb g).mem = s.mem := rfl
@[simp] theorem State.mapCrb_pending (s : State) (g : CurbSt → CurbSt) : (s.mapCrb g).pending = s.pending := rfl
@[simp] theorem State.mapCrb_free (s : State) (g : CurbSt → CurbSt) : (s.mapCrb g).free = s.free := rfl
@[simp] theorem State.mapCrb_nowUs (s : State) (g : CurbSt → CurbSt) : (s.mapCrb g).nowUs = s.nowUs := rfl
@[simp] theorem State.mapCrb_rdata (s : State) (g : CurbSt → CurbSt) : (s.mapCrb g).rdata = s.rdata := rfl
@[simp] theorem State.mapCrb_r0 (s : State) (g : CurbSt → CurbSt) : (s.mapCrb g).r0 = s.r0 := rfl
@[simp] theorem State.mapCrb_r1 (s : State) (g : CurbSt → CurbSt) : (s.mapCrb g).r1 = s.r1 := rfl
@[simp] theorem State.mapCrb_grm (s : State) (g : CurbSt → CurbSt) : (s.mapCrb g).grm = s.grm := rfl
@[simp] theorem State.mapCrb_dma (s : State) (g : CurbSt → CurbSt) : (s.mapCrb g).dma = s.dma := rfl
@[simp] theorem State.mapCrb_evt (s : State) (g : CurbSt → CurbSt) : (s.mapCrb g).evt = s.evt := rfl
@[simp] theorem State.mapCrb_pad (s : State) (g : CurbSt → CurbSt) : (s.mapCrb g).pad = s.pad := rfl
@[simp] theorem State.mapCrb_power (s : State) (g : CurbSt → CurbSt) : (s.mapCrb g).power = s.power := rfl
@[simp] theorem State.mapCrb_thermal (s : State) (g : CurbSt → CurbSt) : (s.mapCrb g).thermal = s.thermal := rfl
@[simp] theorem State.mapCrb_nvm (s : State) (g : CurbSt → CurbSt) : (s.mapCrb g).nvm = s.nvm := rfl
@[simp] theorem State.mapCrb_fio (s : State) (g : CurbSt → CurbSt) : (s.mapCrb g).fio = s.fio := rfl
@[simp] theorem State.mapCrb_crb (s : State) (g : CurbSt → CurbSt) : (s.mapCrb g).crb = g s.crb := rfl
@[simp] theorem State.mapCrb_prt (s : State) (g : CurbSt → CurbSt) : (s.mapCrb g).prt = s.prt := rfl
@[simp] theorem State.mapCrb_units (s : State) (g : CurbSt → CurbSt) : (s.mapCrb g).units = s.units := rfl
@[simp] theorem State.mapCrb_herd (s : State) (g : CurbSt → CurbSt) : (s.mapCrb g).herd = s.herd := rfl
@[simp] theorem State.mapCrb_chn (s : State) (g : CurbSt → CurbSt) : (s.mapCrb g).chn = s.chn := rfl
@[simp] theorem State.mapCrb_cel (s : State) (g : CurbSt → CurbSt) : (s.mapCrb g).cel = s.cel := rfl
@[simp] theorem State.mapCrb_est (s : State) (g : CurbSt → CurbSt) : (s.mapCrb g).est = s.est := rfl
@[simp] theorem State.mapCrb_hvm (s : State) (g : CurbSt → CurbSt) : (s.mapCrb g).hvm = s.hvm := rfl
@[simp] theorem State.mapCrb_ggn (s : State) (g : CurbSt → CurbSt) : (s.mapCrb g).ggn = s.ggn := rfl
@[simp] theorem State.mapCrb_can (s : State) (g : CurbSt → CurbSt) : (s.mapCrb g).can = s.can := rfl
@[simp] theorem State.mapCrb_eth (s : State) (g : CurbSt → CurbSt) : (s.mapCrb g).eth = s.eth := rfl
@[simp] theorem State.mapCrb_ptp (s : State) (g : CurbSt → CurbSt) : (s.mapCrb g).ptp = s.ptp := rfl
@[simp] theorem State.mapCrb_upd (s : State) (g : CurbSt → CurbSt) : (s.mapCrb g).upd = s.upd := rfl
@[simp] theorem State.mapCrb_sys (s : State) (g : CurbSt → CurbSt) : (s.mapCrb g).sys = s.sys := rfl
@[simp] theorem State.mapCrb_tdm (s : State) (g : CurbSt → CurbSt) : (s.mapCrb g).tdm = s.tdm := rfl

@[simp] theorem State.mapPrt_regs (s : State) (g : PrtSt → PrtSt) : (s.mapPrt g).regs = s.regs := rfl
@[simp] theorem State.mapPrt_mem (s : State) (g : PrtSt → PrtSt) : (s.mapPrt g).mem = s.mem := rfl
@[simp] theorem State.mapPrt_pending (s : State) (g : PrtSt → PrtSt) : (s.mapPrt g).pending = s.pending := rfl
@[simp] theorem State.mapPrt_free (s : State) (g : PrtSt → PrtSt) : (s.mapPrt g).free = s.free := rfl
@[simp] theorem State.mapPrt_nowUs (s : State) (g : PrtSt → PrtSt) : (s.mapPrt g).nowUs = s.nowUs := rfl
@[simp] theorem State.mapPrt_rdata (s : State) (g : PrtSt → PrtSt) : (s.mapPrt g).rdata = s.rdata := rfl
@[simp] theorem State.mapPrt_r0 (s : State) (g : PrtSt → PrtSt) : (s.mapPrt g).r0 = s.r0 := rfl
@[simp] theorem State.mapPrt_r1 (s : State) (g : PrtSt → PrtSt) : (s.mapPrt g).r1 = s.r1 := rfl
@[simp] theorem State.mapPrt_grm (s : State) (g : PrtSt → PrtSt) : (s.mapPrt g).grm = s.grm := rfl
@[simp] theorem State.mapPrt_dma (s : State) (g : PrtSt → PrtSt) : (s.mapPrt g).dma = s.dma := rfl
@[simp] theorem State.mapPrt_evt (s : State) (g : PrtSt → PrtSt) : (s.mapPrt g).evt = s.evt := rfl
@[simp] theorem State.mapPrt_pad (s : State) (g : PrtSt → PrtSt) : (s.mapPrt g).pad = s.pad := rfl
@[simp] theorem State.mapPrt_power (s : State) (g : PrtSt → PrtSt) : (s.mapPrt g).power = s.power := rfl
@[simp] theorem State.mapPrt_thermal (s : State) (g : PrtSt → PrtSt) : (s.mapPrt g).thermal = s.thermal := rfl
@[simp] theorem State.mapPrt_nvm (s : State) (g : PrtSt → PrtSt) : (s.mapPrt g).nvm = s.nvm := rfl
@[simp] theorem State.mapPrt_fio (s : State) (g : PrtSt → PrtSt) : (s.mapPrt g).fio = s.fio := rfl
@[simp] theorem State.mapPrt_crb (s : State) (g : PrtSt → PrtSt) : (s.mapPrt g).crb = s.crb := rfl
@[simp] theorem State.mapPrt_prt (s : State) (g : PrtSt → PrtSt) : (s.mapPrt g).prt = g s.prt := rfl
@[simp] theorem State.mapPrt_units (s : State) (g : PrtSt → PrtSt) : (s.mapPrt g).units = s.units := rfl
@[simp] theorem State.mapPrt_herd (s : State) (g : PrtSt → PrtSt) : (s.mapPrt g).herd = s.herd := rfl
@[simp] theorem State.mapPrt_chn (s : State) (g : PrtSt → PrtSt) : (s.mapPrt g).chn = s.chn := rfl
@[simp] theorem State.mapPrt_cel (s : State) (g : PrtSt → PrtSt) : (s.mapPrt g).cel = s.cel := rfl
@[simp] theorem State.mapPrt_est (s : State) (g : PrtSt → PrtSt) : (s.mapPrt g).est = s.est := rfl
@[simp] theorem State.mapPrt_hvm (s : State) (g : PrtSt → PrtSt) : (s.mapPrt g).hvm = s.hvm := rfl
@[simp] theorem State.mapPrt_ggn (s : State) (g : PrtSt → PrtSt) : (s.mapPrt g).ggn = s.ggn := rfl
@[simp] theorem State.mapPrt_can (s : State) (g : PrtSt → PrtSt) : (s.mapPrt g).can = s.can := rfl
@[simp] theorem State.mapPrt_eth (s : State) (g : PrtSt → PrtSt) : (s.mapPrt g).eth = s.eth := rfl
@[simp] theorem State.mapPrt_ptp (s : State) (g : PrtSt → PrtSt) : (s.mapPrt g).ptp = s.ptp := rfl
@[simp] theorem State.mapPrt_upd (s : State) (g : PrtSt → PrtSt) : (s.mapPrt g).upd = s.upd := rfl
@[simp] theorem State.mapPrt_sys (s : State) (g : PrtSt → PrtSt) : (s.mapPrt g).sys = s.sys := rfl
@[simp] theorem State.mapPrt_tdm (s : State) (g : PrtSt → PrtSt) : (s.mapPrt g).tdm = s.tdm := rfl

@[simp] theorem State.mapHerd_regs (s : State) (g : HerdSt → HerdSt) : (s.mapHerd g).regs = s.regs := rfl
@[simp] theorem State.mapHerd_mem (s : State) (g : HerdSt → HerdSt) : (s.mapHerd g).mem = s.mem := rfl
@[simp] theorem State.mapHerd_pending (s : State) (g : HerdSt → HerdSt) : (s.mapHerd g).pending = s.pending := rfl
@[simp] theorem State.mapHerd_free (s : State) (g : HerdSt → HerdSt) : (s.mapHerd g).free = s.free := rfl
@[simp] theorem State.mapHerd_nowUs (s : State) (g : HerdSt → HerdSt) : (s.mapHerd g).nowUs = s.nowUs := rfl
@[simp] theorem State.mapHerd_rdata (s : State) (g : HerdSt → HerdSt) : (s.mapHerd g).rdata = s.rdata := rfl
@[simp] theorem State.mapHerd_r0 (s : State) (g : HerdSt → HerdSt) : (s.mapHerd g).r0 = s.r0 := rfl
@[simp] theorem State.mapHerd_r1 (s : State) (g : HerdSt → HerdSt) : (s.mapHerd g).r1 = s.r1 := rfl
@[simp] theorem State.mapHerd_grm (s : State) (g : HerdSt → HerdSt) : (s.mapHerd g).grm = s.grm := rfl
@[simp] theorem State.mapHerd_dma (s : State) (g : HerdSt → HerdSt) : (s.mapHerd g).dma = s.dma := rfl
@[simp] theorem State.mapHerd_evt (s : State) (g : HerdSt → HerdSt) : (s.mapHerd g).evt = s.evt := rfl
@[simp] theorem State.mapHerd_pad (s : State) (g : HerdSt → HerdSt) : (s.mapHerd g).pad = s.pad := rfl
@[simp] theorem State.mapHerd_power (s : State) (g : HerdSt → HerdSt) : (s.mapHerd g).power = s.power := rfl
@[simp] theorem State.mapHerd_thermal (s : State) (g : HerdSt → HerdSt) : (s.mapHerd g).thermal = s.thermal := rfl
@[simp] theorem State.mapHerd_nvm (s : State) (g : HerdSt → HerdSt) : (s.mapHerd g).nvm = s.nvm := rfl
@[simp] theorem State.mapHerd_fio (s : State) (g : HerdSt → HerdSt) : (s.mapHerd g).fio = s.fio := rfl
@[simp] theorem State.mapHerd_crb (s : State) (g : HerdSt → HerdSt) : (s.mapHerd g).crb = s.crb := rfl
@[simp] theorem State.mapHerd_prt (s : State) (g : HerdSt → HerdSt) : (s.mapHerd g).prt = s.prt := rfl
@[simp] theorem State.mapHerd_units (s : State) (g : HerdSt → HerdSt) : (s.mapHerd g).units = s.units := rfl
@[simp] theorem State.mapHerd_herd (s : State) (g : HerdSt → HerdSt) : (s.mapHerd g).herd = g s.herd := rfl
@[simp] theorem State.mapHerd_chn (s : State) (g : HerdSt → HerdSt) : (s.mapHerd g).chn = s.chn := rfl
@[simp] theorem State.mapHerd_cel (s : State) (g : HerdSt → HerdSt) : (s.mapHerd g).cel = s.cel := rfl
@[simp] theorem State.mapHerd_est (s : State) (g : HerdSt → HerdSt) : (s.mapHerd g).est = s.est := rfl
@[simp] theorem State.mapHerd_hvm (s : State) (g : HerdSt → HerdSt) : (s.mapHerd g).hvm = s.hvm := rfl
@[simp] theorem State.mapHerd_ggn (s : State) (g : HerdSt → HerdSt) : (s.mapHerd g).ggn = s.ggn := rfl
@[simp] theorem State.mapHerd_can (s : State) (g : HerdSt → HerdSt) : (s.mapHerd g).can = s.can := rfl
@[simp] theorem State.mapHerd_eth (s : State) (g : HerdSt → HerdSt) : (s.mapHerd g).eth = s.eth := rfl
@[simp] theorem State.mapHerd_ptp (s : State) (g : HerdSt → HerdSt) : (s.mapHerd g).ptp = s.ptp := rfl
@[simp] theorem State.mapHerd_upd (s : State) (g : HerdSt → HerdSt) : (s.mapHerd g).upd = s.upd := rfl
@[simp] theorem State.mapHerd_sys (s : State) (g : HerdSt → HerdSt) : (s.mapHerd g).sys = s.sys := rfl
@[simp] theorem State.mapHerd_tdm (s : State) (g : HerdSt → HerdSt) : (s.mapHerd g).tdm = s.tdm := rfl

@[simp] theorem State.mapChn_regs (s : State) (g : ChnSt → ChnSt) : (s.mapChn g).regs = s.regs := rfl
@[simp] theorem State.mapChn_mem (s : State) (g : ChnSt → ChnSt) : (s.mapChn g).mem = s.mem := rfl
@[simp] theorem State.mapChn_pending (s : State) (g : ChnSt → ChnSt) : (s.mapChn g).pending = s.pending := rfl
@[simp] theorem State.mapChn_free (s : State) (g : ChnSt → ChnSt) : (s.mapChn g).free = s.free := rfl
@[simp] theorem State.mapChn_nowUs (s : State) (g : ChnSt → ChnSt) : (s.mapChn g).nowUs = s.nowUs := rfl
@[simp] theorem State.mapChn_rdata (s : State) (g : ChnSt → ChnSt) : (s.mapChn g).rdata = s.rdata := rfl
@[simp] theorem State.mapChn_r0 (s : State) (g : ChnSt → ChnSt) : (s.mapChn g).r0 = s.r0 := rfl
@[simp] theorem State.mapChn_r1 (s : State) (g : ChnSt → ChnSt) : (s.mapChn g).r1 = s.r1 := rfl
@[simp] theorem State.mapChn_grm (s : State) (g : ChnSt → ChnSt) : (s.mapChn g).grm = s.grm := rfl
@[simp] theorem State.mapChn_dma (s : State) (g : ChnSt → ChnSt) : (s.mapChn g).dma = s.dma := rfl
@[simp] theorem State.mapChn_evt (s : State) (g : ChnSt → ChnSt) : (s.mapChn g).evt = s.evt := rfl
@[simp] theorem State.mapChn_pad (s : State) (g : ChnSt → ChnSt) : (s.mapChn g).pad = s.pad := rfl
@[simp] theorem State.mapChn_power (s : State) (g : ChnSt → ChnSt) : (s.mapChn g).power = s.power := rfl
@[simp] theorem State.mapChn_thermal (s : State) (g : ChnSt → ChnSt) : (s.mapChn g).thermal = s.thermal := rfl
@[simp] theorem State.mapChn_nvm (s : State) (g : ChnSt → ChnSt) : (s.mapChn g).nvm = s.nvm := rfl
@[simp] theorem State.mapChn_fio (s : State) (g : ChnSt → ChnSt) : (s.mapChn g).fio = s.fio := rfl
@[simp] theorem State.mapChn_crb (s : State) (g : ChnSt → ChnSt) : (s.mapChn g).crb = s.crb := rfl
@[simp] theorem State.mapChn_prt (s : State) (g : ChnSt → ChnSt) : (s.mapChn g).prt = s.prt := rfl
@[simp] theorem State.mapChn_units (s : State) (g : ChnSt → ChnSt) : (s.mapChn g).units = s.units := rfl
@[simp] theorem State.mapChn_herd (s : State) (g : ChnSt → ChnSt) : (s.mapChn g).herd = s.herd := rfl
@[simp] theorem State.mapChn_chn (s : State) (g : ChnSt → ChnSt) : (s.mapChn g).chn = g s.chn := rfl
@[simp] theorem State.mapChn_cel (s : State) (g : ChnSt → ChnSt) : (s.mapChn g).cel = s.cel := rfl
@[simp] theorem State.mapChn_est (s : State) (g : ChnSt → ChnSt) : (s.mapChn g).est = s.est := rfl
@[simp] theorem State.mapChn_hvm (s : State) (g : ChnSt → ChnSt) : (s.mapChn g).hvm = s.hvm := rfl
@[simp] theorem State.mapChn_ggn (s : State) (g : ChnSt → ChnSt) : (s.mapChn g).ggn = s.ggn := rfl
@[simp] theorem State.mapChn_can (s : State) (g : ChnSt → ChnSt) : (s.mapChn g).can = s.can := rfl
@[simp] theorem State.mapChn_eth (s : State) (g : ChnSt → ChnSt) : (s.mapChn g).eth = s.eth := rfl
@[simp] theorem State.mapChn_ptp (s : State) (g : ChnSt → ChnSt) : (s.mapChn g).ptp = s.ptp := rfl
@[simp] theorem State.mapChn_upd (s : State) (g : ChnSt → ChnSt) : (s.mapChn g).upd = s.upd := rfl
@[simp] theorem State.mapChn_sys (s : State) (g : ChnSt → ChnSt) : (s.mapChn g).sys = s.sys := rfl
@[simp] theorem State.mapChn_tdm (s : State) (g : ChnSt → ChnSt) : (s.mapChn g).tdm = s.tdm := rfl

@[simp] theorem State.mapCel_regs (s : State) (g : CelSt → CelSt) : (s.mapCel g).regs = s.regs := rfl
@[simp] theorem State.mapCel_mem (s : State) (g : CelSt → CelSt) : (s.mapCel g).mem = s.mem := rfl
@[simp] theorem State.mapCel_pending (s : State) (g : CelSt → CelSt) : (s.mapCel g).pending = s.pending := rfl
@[simp] theorem State.mapCel_free (s : State) (g : CelSt → CelSt) : (s.mapCel g).free = s.free := rfl
@[simp] theorem State.mapCel_nowUs (s : State) (g : CelSt → CelSt) : (s.mapCel g).nowUs = s.nowUs := rfl
@[simp] theorem State.mapCel_rdata (s : State) (g : CelSt → CelSt) : (s.mapCel g).rdata = s.rdata := rfl
@[simp] theorem State.mapCel_r0 (s : State) (g : CelSt → CelSt) : (s.mapCel g).r0 = s.r0 := rfl
@[simp] theorem State.mapCel_r1 (s : State) (g : CelSt → CelSt) : (s.mapCel g).r1 = s.r1 := rfl
@[simp] theorem State.mapCel_grm (s : State) (g : CelSt → CelSt) : (s.mapCel g).grm = s.grm := rfl
@[simp] theorem State.mapCel_dma (s : State) (g : CelSt → CelSt) : (s.mapCel g).dma = s.dma := rfl
@[simp] theorem State.mapCel_evt (s : State) (g : CelSt → CelSt) : (s.mapCel g).evt = s.evt := rfl
@[simp] theorem State.mapCel_pad (s : State) (g : CelSt → CelSt) : (s.mapCel g).pad = s.pad := rfl
@[simp] theorem State.mapCel_power (s : State) (g : CelSt → CelSt) : (s.mapCel g).power = s.power := rfl
@[simp] theorem State.mapCel_thermal (s : State) (g : CelSt → CelSt) : (s.mapCel g).thermal = s.thermal := rfl
@[simp] theorem State.mapCel_nvm (s : State) (g : CelSt → CelSt) : (s.mapCel g).nvm = s.nvm := rfl
@[simp] theorem State.mapCel_fio (s : State) (g : CelSt → CelSt) : (s.mapCel g).fio = s.fio := rfl
@[simp] theorem State.mapCel_crb (s : State) (g : CelSt → CelSt) : (s.mapCel g).crb = s.crb := rfl
@[simp] theorem State.mapCel_prt (s : State) (g : CelSt → CelSt) : (s.mapCel g).prt = s.prt := rfl
@[simp] theorem State.mapCel_units (s : State) (g : CelSt → CelSt) : (s.mapCel g).units = s.units := rfl
@[simp] theorem State.mapCel_herd (s : State) (g : CelSt → CelSt) : (s.mapCel g).herd = s.herd := rfl
@[simp] theorem State.mapCel_chn (s : State) (g : CelSt → CelSt) : (s.mapCel g).chn = s.chn := rfl
@[simp] theorem State.mapCel_cel (s : State) (g : CelSt → CelSt) : (s.mapCel g).cel = g s.cel := rfl
@[simp] theorem State.mapCel_est (s : State) (g : CelSt → CelSt) : (s.mapCel g).est = s.est := rfl
@[simp] theorem State.mapCel_hvm (s : State) (g : CelSt → CelSt) : (s.mapCel g).hvm = s.hvm := rfl
@[simp] theorem State.mapCel_ggn (s : State) (g : CelSt → CelSt) : (s.mapCel g).ggn = s.ggn := rfl
@[simp] theorem State.mapCel_can (s : State) (g : CelSt → CelSt) : (s.mapCel g).can = s.can := rfl
@[simp] theorem State.mapCel_eth (s : State) (g : CelSt → CelSt) : (s.mapCel g).eth = s.eth := rfl
@[simp] theorem State.mapCel_ptp (s : State) (g : CelSt → CelSt) : (s.mapCel g).ptp = s.ptp := rfl
@[simp] theorem State.mapCel_upd (s : State) (g : CelSt → CelSt) : (s.mapCel g).upd = s.upd := rfl
@[simp] theorem State.mapCel_sys (s : State) (g : CelSt → CelSt) : (s.mapCel g).sys = s.sys := rfl
@[simp] theorem State.mapCel_tdm (s : State) (g : CelSt → CelSt) : (s.mapCel g).tdm = s.tdm := rfl

@[simp] theorem State.mapEst_regs (s : State) (g : EstSt → EstSt) : (s.mapEst g).regs = s.regs := rfl
@[simp] theorem State.mapEst_mem (s : State) (g : EstSt → EstSt) : (s.mapEst g).mem = s.mem := rfl
@[simp] theorem State.mapEst_pending (s : State) (g : EstSt → EstSt) : (s.mapEst g).pending = s.pending := rfl
@[simp] theorem State.mapEst_free (s : State) (g : EstSt → EstSt) : (s.mapEst g).free = s.free := rfl
@[simp] theorem State.mapEst_nowUs (s : State) (g : EstSt → EstSt) : (s.mapEst g).nowUs = s.nowUs := rfl
@[simp] theorem State.mapEst_rdata (s : State) (g : EstSt → EstSt) : (s.mapEst g).rdata = s.rdata := rfl
@[simp] theorem State.mapEst_r0 (s : State) (g : EstSt → EstSt) : (s.mapEst g).r0 = s.r0 := rfl
@[simp] theorem State.mapEst_r1 (s : State) (g : EstSt → EstSt) : (s.mapEst g).r1 = s.r1 := rfl
@[simp] theorem State.mapEst_grm (s : State) (g : EstSt → EstSt) : (s.mapEst g).grm = s.grm := rfl
@[simp] theorem State.mapEst_dma (s : State) (g : EstSt → EstSt) : (s.mapEst g).dma = s.dma := rfl
@[simp] theorem State.mapEst_evt (s : State) (g : EstSt → EstSt) : (s.mapEst g).evt = s.evt := rfl
@[simp] theorem State.mapEst_pad (s : State) (g : EstSt → EstSt) : (s.mapEst g).pad = s.pad := rfl
@[simp] theorem State.mapEst_power (s : State) (g : EstSt → EstSt) : (s.mapEst g).power = s.power := rfl
@[simp] theorem State.mapEst_thermal (s : State) (g : EstSt → EstSt) : (s.mapEst g).thermal = s.thermal := rfl
@[simp] theorem State.mapEst_nvm (s : State) (g : EstSt → EstSt) : (s.mapEst g).nvm = s.nvm := rfl
@[simp] theorem State.mapEst_fio (s : State) (g : EstSt → EstSt) : (s.mapEst g).fio = s.fio := rfl
@[simp] theorem State.mapEst_crb (s : State) (g : EstSt → EstSt) : (s.mapEst g).crb = s.crb := rfl
@[simp] theorem State.mapEst_prt (s : State) (g : EstSt → EstSt) : (s.mapEst g).prt = s.prt := rfl
@[simp] theorem State.mapEst_units (s : State) (g : EstSt → EstSt) : (s.mapEst g).units = s.units := rfl
@[simp] theorem State.mapEst_herd (s : State) (g : EstSt → EstSt) : (s.mapEst g).herd = s.herd := rfl
@[simp] theorem State.mapEst_chn (s : State) (g : EstSt → EstSt) : (s.mapEst g).chn = s.chn := rfl
@[simp] theorem State.mapEst_cel (s : State) (g : EstSt → EstSt) : (s.mapEst g).cel = s.cel := rfl
@[simp] theorem State.mapEst_est (s : State) (g : EstSt → EstSt) : (s.mapEst g).est = g s.est := rfl
@[simp] theorem State.mapEst_hvm (s : State) (g : EstSt → EstSt) : (s.mapEst g).hvm = s.hvm := rfl
@[simp] theorem State.mapEst_ggn (s : State) (g : EstSt → EstSt) : (s.mapEst g).ggn = s.ggn := rfl
@[simp] theorem State.mapEst_can (s : State) (g : EstSt → EstSt) : (s.mapEst g).can = s.can := rfl
@[simp] theorem State.mapEst_eth (s : State) (g : EstSt → EstSt) : (s.mapEst g).eth = s.eth := rfl
@[simp] theorem State.mapEst_ptp (s : State) (g : EstSt → EstSt) : (s.mapEst g).ptp = s.ptp := rfl
@[simp] theorem State.mapEst_upd (s : State) (g : EstSt → EstSt) : (s.mapEst g).upd = s.upd := rfl
@[simp] theorem State.mapEst_sys (s : State) (g : EstSt → EstSt) : (s.mapEst g).sys = s.sys := rfl
@[simp] theorem State.mapEst_tdm (s : State) (g : EstSt → EstSt) : (s.mapEst g).tdm = s.tdm := rfl

@[simp] theorem State.mapHvm_regs (s : State) (g : HvmSt → HvmSt) : (s.mapHvm g).regs = s.regs := rfl
@[simp] theorem State.mapHvm_mem (s : State) (g : HvmSt → HvmSt) : (s.mapHvm g).mem = s.mem := rfl
@[simp] theorem State.mapHvm_pending (s : State) (g : HvmSt → HvmSt) : (s.mapHvm g).pending = s.pending := rfl
@[simp] theorem State.mapHvm_free (s : State) (g : HvmSt → HvmSt) : (s.mapHvm g).free = s.free := rfl
@[simp] theorem State.mapHvm_nowUs (s : State) (g : HvmSt → HvmSt) : (s.mapHvm g).nowUs = s.nowUs := rfl
@[simp] theorem State.mapHvm_rdata (s : State) (g : HvmSt → HvmSt) : (s.mapHvm g).rdata = s.rdata := rfl
@[simp] theorem State.mapHvm_r0 (s : State) (g : HvmSt → HvmSt) : (s.mapHvm g).r0 = s.r0 := rfl
@[simp] theorem State.mapHvm_r1 (s : State) (g : HvmSt → HvmSt) : (s.mapHvm g).r1 = s.r1 := rfl
@[simp] theorem State.mapHvm_grm (s : State) (g : HvmSt → HvmSt) : (s.mapHvm g).grm = s.grm := rfl
@[simp] theorem State.mapHvm_dma (s : State) (g : HvmSt → HvmSt) : (s.mapHvm g).dma = s.dma := rfl
@[simp] theorem State.mapHvm_evt (s : State) (g : HvmSt → HvmSt) : (s.mapHvm g).evt = s.evt := rfl
@[simp] theorem State.mapHvm_pad (s : State) (g : HvmSt → HvmSt) : (s.mapHvm g).pad = s.pad := rfl
@[simp] theorem State.mapHvm_power (s : State) (g : HvmSt → HvmSt) : (s.mapHvm g).power = s.power := rfl
@[simp] theorem State.mapHvm_thermal (s : State) (g : HvmSt → HvmSt) : (s.mapHvm g).thermal = s.thermal := rfl
@[simp] theorem State.mapHvm_nvm (s : State) (g : HvmSt → HvmSt) : (s.mapHvm g).nvm = s.nvm := rfl
@[simp] theorem State.mapHvm_fio (s : State) (g : HvmSt → HvmSt) : (s.mapHvm g).fio = s.fio := rfl
@[simp] theorem State.mapHvm_crb (s : State) (g : HvmSt → HvmSt) : (s.mapHvm g).crb = s.crb := rfl
@[simp] theorem State.mapHvm_prt (s : State) (g : HvmSt → HvmSt) : (s.mapHvm g).prt = s.prt := rfl
@[simp] theorem State.mapHvm_units (s : State) (g : HvmSt → HvmSt) : (s.mapHvm g).units = s.units := rfl
@[simp] theorem State.mapHvm_herd (s : State) (g : HvmSt → HvmSt) : (s.mapHvm g).herd = s.herd := rfl
@[simp] theorem State.mapHvm_chn (s : State) (g : HvmSt → HvmSt) : (s.mapHvm g).chn = s.chn := rfl
@[simp] theorem State.mapHvm_cel (s : State) (g : HvmSt → HvmSt) : (s.mapHvm g).cel = s.cel := rfl
@[simp] theorem State.mapHvm_est (s : State) (g : HvmSt → HvmSt) : (s.mapHvm g).est = s.est := rfl
@[simp] theorem State.mapHvm_hvm (s : State) (g : HvmSt → HvmSt) : (s.mapHvm g).hvm = g s.hvm := rfl
@[simp] theorem State.mapHvm_ggn (s : State) (g : HvmSt → HvmSt) : (s.mapHvm g).ggn = s.ggn := rfl
@[simp] theorem State.mapHvm_can (s : State) (g : HvmSt → HvmSt) : (s.mapHvm g).can = s.can := rfl
@[simp] theorem State.mapHvm_eth (s : State) (g : HvmSt → HvmSt) : (s.mapHvm g).eth = s.eth := rfl
@[simp] theorem State.mapHvm_ptp (s : State) (g : HvmSt → HvmSt) : (s.mapHvm g).ptp = s.ptp := rfl
@[simp] theorem State.mapHvm_upd (s : State) (g : HvmSt → HvmSt) : (s.mapHvm g).upd = s.upd := rfl
@[simp] theorem State.mapHvm_sys (s : State) (g : HvmSt → HvmSt) : (s.mapHvm g).sys = s.sys := rfl
@[simp] theorem State.mapHvm_tdm (s : State) (g : HvmSt → HvmSt) : (s.mapHvm g).tdm = s.tdm := rfl

@[simp] theorem State.mapGgn_regs (s : State) (g : GgnSt → GgnSt) : (s.mapGgn g).regs = s.regs := rfl
@[simp] theorem State.mapGgn_mem (s : State) (g : GgnSt → GgnSt) : (s.mapGgn g).mem = s.mem := rfl
@[simp] theorem State.mapGgn_pending (s : State) (g : GgnSt → GgnSt) : (s.mapGgn g).pending = s.pending := rfl
@[simp] theorem State.mapGgn_free (s : State) (g : GgnSt → GgnSt) : (s.mapGgn g).free = s.free := rfl
@[simp] theorem State.mapGgn_nowUs (s : State) (g : GgnSt → GgnSt) : (s.mapGgn g).nowUs = s.nowUs := rfl
@[simp] theorem State.mapGgn_rdata (s : State) (g : GgnSt → GgnSt) : (s.mapGgn g).rdata = s.rdata := rfl
@[simp] theorem State.mapGgn_r0 (s : State) (g : GgnSt → GgnSt) : (s.mapGgn g).r0 = s.r0 := rfl
@[simp] theorem State.mapGgn_r1 (s : State) (g : GgnSt → GgnSt) : (s.mapGgn g).r1 = s.r1 := rfl
@[simp] theorem State.mapGgn_grm (s : State) (g : GgnSt → GgnSt) : (s.mapGgn g).grm = s.grm := rfl
@[simp] theorem State.mapGgn_dma (s : State) (g : GgnSt → GgnSt) : (s.mapGgn g).dma = s.dma := rfl
@[simp] theorem State.mapGgn_evt (s : State) (g : GgnSt → GgnSt) : (s.mapGgn g).evt = s.evt := rfl
@[simp] theorem State.mapGgn_pad (s : State) (g : GgnSt → GgnSt) : (s.mapGgn g).pad = s.pad := rfl
@[simp] theorem State.mapGgn_power (s : State) (g : GgnSt → GgnSt) : (s.mapGgn g).power = s.power := rfl
@[simp] theorem State.mapGgn_thermal (s : State) (g : GgnSt → GgnSt) : (s.mapGgn g).thermal = s.thermal := rfl
@[simp] theorem State.mapGgn_nvm (s : State) (g : GgnSt → GgnSt) : (s.mapGgn g).nvm = s.nvm := rfl
@[simp] theorem State.mapGgn_fio (s : State) (g : GgnSt → GgnSt) : (s.mapGgn g).fio = s.fio := rfl
@[simp] theorem State.mapGgn_crb (s : State) (g : GgnSt → GgnSt) : (s.mapGgn g).crb = s.crb := rfl
@[simp] theorem State.mapGgn_prt (s : State) (g : GgnSt → GgnSt) : (s.mapGgn g).prt = s.prt := rfl
@[simp] theorem State.mapGgn_units (s : State) (g : GgnSt → GgnSt) : (s.mapGgn g).units = s.units := rfl
@[simp] theorem State.mapGgn_herd (s : State) (g : GgnSt → GgnSt) : (s.mapGgn g).herd = s.herd := rfl
@[simp] theorem State.mapGgn_chn (s : State) (g : GgnSt → GgnSt) : (s.mapGgn g).chn = s.chn := rfl
@[simp] theorem State.mapGgn_cel (s : State) (g : GgnSt → GgnSt) : (s.mapGgn g).cel = s.cel := rfl
@[simp] theorem State.mapGgn_est (s : State) (g : GgnSt → GgnSt) : (s.mapGgn g).est = s.est := rfl
@[simp] theorem State.mapGgn_hvm (s : State) (g : GgnSt → GgnSt) : (s.mapGgn g).hvm = s.hvm := rfl
@[simp] theorem State.mapGgn_ggn (s : State) (g : GgnSt → GgnSt) : (s.mapGgn g).ggn = g s.ggn := rfl
@[simp] theorem State.mapGgn_can (s : State) (g : GgnSt → GgnSt) : (s.mapGgn g).can = s.can := rfl
@[simp] theorem State.mapGgn_eth (s : State) (g : GgnSt → GgnSt) : (s.mapGgn g).eth = s.eth := rfl
@[simp] theorem State.mapGgn_ptp (s : State) (g : GgnSt → GgnSt) : (s.mapGgn g).ptp = s.ptp := rfl
@[simp] theorem State.mapGgn_upd (s : State) (g : GgnSt → GgnSt) : (s.mapGgn g).upd = s.upd := rfl
@[simp] theorem State.mapGgn_sys (s : State) (g : GgnSt → GgnSt) : (s.mapGgn g).sys = s.sys := rfl
@[simp] theorem State.mapGgn_tdm (s : State) (g : GgnSt → GgnSt) : (s.mapGgn g).tdm = s.tdm := rfl

@[simp] theorem State.mapCan_regs (s : State) (g : CanSt → CanSt) : (s.mapCan g).regs = s.regs := rfl
@[simp] theorem State.mapCan_mem (s : State) (g : CanSt → CanSt) : (s.mapCan g).mem = s.mem := rfl
@[simp] theorem State.mapCan_pending (s : State) (g : CanSt → CanSt) : (s.mapCan g).pending = s.pending := rfl
@[simp] theorem State.mapCan_free (s : State) (g : CanSt → CanSt) : (s.mapCan g).free = s.free := rfl
@[simp] theorem State.mapCan_nowUs (s : State) (g : CanSt → CanSt) : (s.mapCan g).nowUs = s.nowUs := rfl
@[simp] theorem State.mapCan_rdata (s : State) (g : CanSt → CanSt) : (s.mapCan g).rdata = s.rdata := rfl
@[simp] theorem State.mapCan_r0 (s : State) (g : CanSt → CanSt) : (s.mapCan g).r0 = s.r0 := rfl
@[simp] theorem State.mapCan_r1 (s : State) (g : CanSt → CanSt) : (s.mapCan g).r1 = s.r1 := rfl
@[simp] theorem State.mapCan_grm (s : State) (g : CanSt → CanSt) : (s.mapCan g).grm = s.grm := rfl
@[simp] theorem State.mapCan_dma (s : State) (g : CanSt → CanSt) : (s.mapCan g).dma = s.dma := rfl
@[simp] theorem State.mapCan_evt (s : State) (g : CanSt → CanSt) : (s.mapCan g).evt = s.evt := rfl
@[simp] theorem State.mapCan_pad (s : State) (g : CanSt → CanSt) : (s.mapCan g).pad = s.pad := rfl
@[simp] theorem State.mapCan_power (s : State) (g : CanSt → CanSt) : (s.mapCan g).power = s.power := rfl
@[simp] theorem State.mapCan_thermal (s : State) (g : CanSt → CanSt) : (s.mapCan g).thermal = s.thermal := rfl
@[simp] theorem State.mapCan_nvm (s : State) (g : CanSt → CanSt) : (s.mapCan g).nvm = s.nvm := rfl
@[simp] theorem State.mapCan_fio (s : State) (g : CanSt → CanSt) : (s.mapCan g).fio = s.fio := rfl
@[simp] theorem State.mapCan_crb (s : State) (g : CanSt → CanSt) : (s.mapCan g).crb = s.crb := rfl
@[simp] theorem State.mapCan_prt (s : State) (g : CanSt → CanSt) : (s.mapCan g).prt = s.prt := rfl
@[simp] theorem State.mapCan_units (s : State) (g : CanSt → CanSt) : (s.mapCan g).units = s.units := rfl
@[simp] theorem State.mapCan_herd (s : State) (g : CanSt → CanSt) : (s.mapCan g).herd = s.herd := rfl
@[simp] theorem State.mapCan_chn (s : State) (g : CanSt → CanSt) : (s.mapCan g).chn = s.chn := rfl
@[simp] theorem State.mapCan_cel (s : State) (g : CanSt → CanSt) : (s.mapCan g).cel = s.cel := rfl
@[simp] theorem State.mapCan_est (s : State) (g : CanSt → CanSt) : (s.mapCan g).est = s.est := rfl
@[simp] theorem State.mapCan_hvm (s : State) (g : CanSt → CanSt) : (s.mapCan g).hvm = s.hvm := rfl
@[simp] theorem State.mapCan_ggn (s : State) (g : CanSt → CanSt) : (s.mapCan g).ggn = s.ggn := rfl
@[simp] theorem State.mapCan_can (s : State) (g : CanSt → CanSt) : (s.mapCan g).can = g s.can := rfl
@[simp] theorem State.mapCan_eth (s : State) (g : CanSt → CanSt) : (s.mapCan g).eth = s.eth := rfl
@[simp] theorem State.mapCan_ptp (s : State) (g : CanSt → CanSt) : (s.mapCan g).ptp = s.ptp := rfl
@[simp] theorem State.mapCan_upd (s : State) (g : CanSt → CanSt) : (s.mapCan g).upd = s.upd := rfl
@[simp] theorem State.mapCan_sys (s : State) (g : CanSt → CanSt) : (s.mapCan g).sys = s.sys := rfl
@[simp] theorem State.mapCan_tdm (s : State) (g : CanSt → CanSt) : (s.mapCan g).tdm = s.tdm := rfl

@[simp] theorem State.mapEth_regs (s : State) (g : EthSt → EthSt) : (s.mapEth g).regs = s.regs := rfl
@[simp] theorem State.mapEth_mem (s : State) (g : EthSt → EthSt) : (s.mapEth g).mem = s.mem := rfl
@[simp] theorem State.mapEth_pending (s : State) (g : EthSt → EthSt) : (s.mapEth g).pending = s.pending := rfl
@[simp] theorem State.mapEth_free (s : State) (g : EthSt → EthSt) : (s.mapEth g).free = s.free := rfl
@[simp] theorem State.mapEth_nowUs (s : State) (g : EthSt → EthSt) : (s.mapEth g).nowUs = s.nowUs := rfl
@[simp] theorem State.mapEth_rdata (s : State) (g : EthSt → EthSt) : (s.mapEth g).rdata = s.rdata := rfl
@[simp] theorem State.mapEth_r0 (s : State) (g : EthSt → EthSt) : (s.mapEth g).r0 = s.r0 := rfl
@[simp] theorem State.mapEth_r1 (s : State) (g : EthSt → EthSt) : (s.mapEth g).r1 = s.r1 := rfl
@[simp] theorem State.mapEth_grm (s : State) (g : EthSt → EthSt) : (s.mapEth g).grm = s.grm := rfl
@[simp] theorem State.mapEth_dma (s : State) (g : EthSt → EthSt) : (s.mapEth g).dma = s.dma := rfl
@[simp] theorem State.mapEth_evt (s : State) (g : EthSt → EthSt) : (s.mapEth g).evt = s.evt := rfl
@[simp] theorem State.mapEth_pad (s : State) (g : EthSt → EthSt) : (s.mapEth g).pad = s.pad := rfl
@[simp] theorem State.mapEth_power (s : State) (g : EthSt → EthSt) : (s.mapEth g).power = s.power := rfl
@[simp] theorem State.mapEth_thermal (s : State) (g : EthSt → EthSt) : (s.mapEth g).thermal = s.thermal := rfl
@[simp] theorem State.mapEth_nvm (s : State) (g : EthSt → EthSt) : (s.mapEth g).nvm = s.nvm := rfl
@[simp] theorem State.mapEth_fio (s : State) (g : EthSt → EthSt) : (s.mapEth g).fio = s.fio := rfl
@[simp] theorem State.mapEth_crb (s : State) (g : EthSt → EthSt) : (s.mapEth g).crb = s.crb := rfl
@[simp] theorem State.mapEth_prt (s : State) (g : EthSt → EthSt) : (s.mapEth g).prt = s.prt := rfl
@[simp] theorem State.mapEth_units (s : State) (g : EthSt → EthSt) : (s.mapEth g).units = s.units := rfl
@[simp] theorem State.mapEth_herd (s : State) (g : EthSt → EthSt) : (s.mapEth g).herd = s.herd := rfl
@[simp] theorem State.mapEth_chn (s : State) (g : EthSt → EthSt) : (s.mapEth g).chn = s.chn := rfl
@[simp] theorem State.mapEth_cel (s : State) (g : EthSt → EthSt) : (s.mapEth g).cel = s.cel := rfl
@[simp] theorem State.mapEth_est (s : State) (g : EthSt → EthSt) : (s.mapEth g).est = s.est := rfl
@[simp] theorem State.mapEth_hvm (s : State) (g : EthSt → EthSt) : (s.mapEth g).hvm = s.hvm := rfl
@[simp] theorem State.mapEth_ggn (s : State) (g : EthSt → EthSt) : (s.mapEth g).ggn = s.ggn := rfl
@[simp] theorem State.mapEth_can (s : State) (g : EthSt → EthSt) : (s.mapEth g).can = s.can := rfl
@[simp] theorem State.mapEth_eth (s : State) (g : EthSt → EthSt) : (s.mapEth g).eth = g s.eth := rfl
@[simp] theorem State.mapEth_ptp (s : State) (g : EthSt → EthSt) : (s.mapEth g).ptp = s.ptp := rfl
@[simp] theorem State.mapEth_upd (s : State) (g : EthSt → EthSt) : (s.mapEth g).upd = s.upd := rfl
@[simp] theorem State.mapEth_sys (s : State) (g : EthSt → EthSt) : (s.mapEth g).sys = s.sys := rfl
@[simp] theorem State.mapEth_tdm (s : State) (g : EthSt → EthSt) : (s.mapEth g).tdm = s.tdm := rfl

@[simp] theorem State.mapPtp_regs (s : State) (g : PtpSt → PtpSt) : (s.mapPtp g).regs = s.regs := rfl
@[simp] theorem State.mapPtp_mem (s : State) (g : PtpSt → PtpSt) : (s.mapPtp g).mem = s.mem := rfl
@[simp] theorem State.mapPtp_pending (s : State) (g : PtpSt → PtpSt) : (s.mapPtp g).pending = s.pending := rfl
@[simp] theorem State.mapPtp_free (s : State) (g : PtpSt → PtpSt) : (s.mapPtp g).free = s.free := rfl
@[simp] theorem State.mapPtp_nowUs (s : State) (g : PtpSt → PtpSt) : (s.mapPtp g).nowUs = s.nowUs := rfl
@[simp] theorem State.mapPtp_rdata (s : State) (g : PtpSt → PtpSt) : (s.mapPtp g).rdata = s.rdata := rfl
@[simp] theorem State.mapPtp_r0 (s : State) (g : PtpSt → PtpSt) : (s.mapPtp g).r0 = s.r0 := rfl
@[simp] theorem State.mapPtp_r1 (s : State) (g : PtpSt → PtpSt) : (s.mapPtp g).r1 = s.r1 := rfl
@[simp] theorem State.mapPtp_grm (s : State) (g : PtpSt → PtpSt) : (s.mapPtp g).grm = s.grm := rfl
@[simp] theorem State.mapPtp_dma (s : State) (g : PtpSt → PtpSt) : (s.mapPtp g).dma = s.dma := rfl
@[simp] theorem State.mapPtp_evt (s : State) (g : PtpSt → PtpSt) : (s.mapPtp g).evt = s.evt := rfl
@[simp] theorem State.mapPtp_pad (s : State) (g : PtpSt → PtpSt) : (s.mapPtp g).pad = s.pad := rfl
@[simp] theorem State.mapPtp_power (s : State) (g : PtpSt → PtpSt) : (s.mapPtp g).power = s.power := rfl
@[simp] theorem State.mapPtp_thermal (s : State) (g : PtpSt → PtpSt) : (s.mapPtp g).thermal = s.thermal := rfl
@[simp] theorem State.mapPtp_nvm (s : State) (g : PtpSt → PtpSt) : (s.mapPtp g).nvm = s.nvm := rfl
@[simp] theorem State.mapPtp_fio (s : State) (g : PtpSt → PtpSt) : (s.mapPtp g).fio = s.fio := rfl
@[simp] theorem State.mapPtp_crb (s : State) (g : PtpSt → PtpSt) : (s.mapPtp g).crb = s.crb := rfl
@[simp] theorem State.mapPtp_prt (s : State) (g : PtpSt → PtpSt) : (s.mapPtp g).prt = s.prt := rfl
@[simp] theorem State.mapPtp_units (s : State) (g : PtpSt → PtpSt) : (s.mapPtp g).units = s.units := rfl
@[simp] theorem State.mapPtp_herd (s : State) (g : PtpSt → PtpSt) : (s.mapPtp g).herd = s.herd := rfl
@[simp] theorem State.mapPtp_chn (s : State) (g : PtpSt → PtpSt) : (s.mapPtp g).chn = s.chn := rfl
@[simp] theorem State.mapPtp_cel (s : State) (g : PtpSt → PtpSt) : (s.mapPtp g).cel = s.cel := rfl
@[simp] theorem State.mapPtp_est (s : State) (g : PtpSt → PtpSt) : (s.mapPtp g).est = s.est := rfl
@[simp] theorem State.mapPtp_hvm (s : State) (g : PtpSt → PtpSt) : (s.mapPtp g).hvm = s.hvm := rfl
@[simp] theorem State.mapPtp_ggn (s : State) (g : PtpSt → PtpSt) : (s.mapPtp g).ggn = s.ggn := rfl
@[simp] theorem State.mapPtp_can (s : State) (g : PtpSt → PtpSt) : (s.mapPtp g).can = s.can := rfl
@[simp] theorem State.mapPtp_eth (s : State) (g : PtpSt → PtpSt) : (s.mapPtp g).eth = s.eth := rfl
@[simp] theorem State.mapPtp_ptp (s : State) (g : PtpSt → PtpSt) : (s.mapPtp g).ptp = g s.ptp := rfl
@[simp] theorem State.mapPtp_upd (s : State) (g : PtpSt → PtpSt) : (s.mapPtp g).upd = s.upd := rfl
@[simp] theorem State.mapPtp_sys (s : State) (g : PtpSt → PtpSt) : (s.mapPtp g).sys = s.sys := rfl
@[simp] theorem State.mapPtp_tdm (s : State) (g : PtpSt → PtpSt) : (s.mapPtp g).tdm = s.tdm := rfl

@[simp] theorem State.mapUpd_regs (s : State) (g : UpdSt → UpdSt) : (s.mapUpd g).regs = s.regs := rfl
@[simp] theorem State.mapUpd_mem (s : State) (g : UpdSt → UpdSt) : (s.mapUpd g).mem = s.mem := rfl
@[simp] theorem State.mapUpd_pending (s : State) (g : UpdSt → UpdSt) : (s.mapUpd g).pending = s.pending := rfl
@[simp] theorem State.mapUpd_free (s : State) (g : UpdSt → UpdSt) : (s.mapUpd g).free = s.free := rfl
@[simp] theorem State.mapUpd_nowUs (s : State) (g : UpdSt → UpdSt) : (s.mapUpd g).nowUs = s.nowUs := rfl
@[simp] theorem State.mapUpd_rdata (s : State) (g : UpdSt → UpdSt) : (s.mapUpd g).rdata = s.rdata := rfl
@[simp] theorem State.mapUpd_r0 (s : State) (g : UpdSt → UpdSt) : (s.mapUpd g).r0 = s.r0 := rfl
@[simp] theorem State.mapUpd_r1 (s : State) (g : UpdSt → UpdSt) : (s.mapUpd g).r1 = s.r1 := rfl
@[simp] theorem State.mapUpd_grm (s : State) (g : UpdSt → UpdSt) : (s.mapUpd g).grm = s.grm := rfl
@[simp] theorem State.mapUpd_dma (s : State) (g : UpdSt → UpdSt) : (s.mapUpd g).dma = s.dma := rfl
@[simp] theorem State.mapUpd_evt (s : State) (g : UpdSt → UpdSt) : (s.mapUpd g).evt = s.evt := rfl
@[simp] theorem State.mapUpd_pad (s : State) (g : UpdSt → UpdSt) : (s.mapUpd g).pad = s.pad := rfl
@[simp] theorem State.mapUpd_power (s : State) (g : UpdSt → UpdSt) : (s.mapUpd g).power = s.power := rfl
@[simp] theorem State.mapUpd_thermal (s : State) (g : UpdSt → UpdSt) : (s.mapUpd g).thermal = s.thermal := rfl
@[simp] theorem State.mapUpd_nvm (s : State) (g : UpdSt → UpdSt) : (s.mapUpd g).nvm = s.nvm := rfl
@[simp] theorem State.mapUpd_fio (s : State) (g : UpdSt → UpdSt) : (s.mapUpd g).fio = s.fio := rfl
@[simp] theorem State.mapUpd_crb (s : State) (g : UpdSt → UpdSt) : (s.mapUpd g).crb = s.crb := rfl
@[simp] theorem State.mapUpd_prt (s : State) (g : UpdSt → UpdSt) : (s.mapUpd g).prt = s.prt := rfl
@[simp] theorem State.mapUpd_units (s : State) (g : UpdSt → UpdSt) : (s.mapUpd g).units = s.units := rfl
@[simp] theorem State.mapUpd_herd (s : State) (g : UpdSt → UpdSt) : (s.mapUpd g).herd = s.herd := rfl
@[simp] theorem State.mapUpd_chn (s : State) (g : UpdSt → UpdSt) : (s.mapUpd g).chn = s.chn := rfl
@[simp] theorem State.mapUpd_cel (s : State) (g : UpdSt → UpdSt) : (s.mapUpd g).cel = s.cel := rfl
@[simp] theorem State.mapUpd_est (s : State) (g : UpdSt → UpdSt) : (s.mapUpd g).est = s.est := rfl
@[simp] theorem State.mapUpd_hvm (s : State) (g : UpdSt → UpdSt) : (s.mapUpd g).hvm = s.hvm := rfl
@[simp] theorem State.mapUpd_ggn (s : State) (g : UpdSt → UpdSt) : (s.mapUpd g).ggn = s.ggn := rfl
@[simp] theorem State.mapUpd_can (s : State) (g : UpdSt → UpdSt) : (s.mapUpd g).can = s.can := rfl
@[simp] theorem State.mapUpd_eth (s : State) (g : UpdSt → UpdSt) : (s.mapUpd g).eth = s.eth := rfl
@[simp] theorem State.mapUpd_ptp (s : State) (g : UpdSt → UpdSt) : (s.mapUpd g).ptp = s.ptp := rfl
@[simp] theorem State.mapUpd_upd (s : State) (g : UpdSt → UpdSt) : (s.mapUpd g).upd = g s.upd := rfl
@[simp] theorem State.mapUpd_sys (s : State) (g : UpdSt → UpdSt) : (s.mapUpd g).sys = s.sys := rfl
@[simp] theorem State.mapUpd_tdm (s : State) (g : UpdSt → UpdSt) : (s.mapUpd g).tdm = s.tdm := rfl

@[simp] theorem State.mapSys_regs (s : State) (g : SysSt → SysSt) : (s.mapSys g).regs = s.regs := rfl
@[simp] theorem State.mapSys_mem (s : State) (g : SysSt → SysSt) : (s.mapSys g).mem = s.mem := rfl
@[simp] theorem State.mapSys_pending (s : State) (g : SysSt → SysSt) : (s.mapSys g).pending = s.pending := rfl
@[simp] theorem State.mapSys_free (s : State) (g : SysSt → SysSt) : (s.mapSys g).free = s.free := rfl
@[simp] theorem State.mapSys_nowUs (s : State) (g : SysSt → SysSt) : (s.mapSys g).nowUs = s.nowUs := rfl
@[simp] theorem State.mapSys_rdata (s : State) (g : SysSt → SysSt) : (s.mapSys g).rdata = s.rdata := rfl
@[simp] theorem State.mapSys_r0 (s : State) (g : SysSt → SysSt) : (s.mapSys g).r0 = s.r0 := rfl
@[simp] theorem State.mapSys_r1 (s : State) (g : SysSt → SysSt) : (s.mapSys g).r1 = s.r1 := rfl
@[simp] theorem State.mapSys_grm (s : State) (g : SysSt → SysSt) : (s.mapSys g).grm = s.grm := rfl
@[simp] theorem State.mapSys_dma (s : State) (g : SysSt → SysSt) : (s.mapSys g).dma = s.dma := rfl
@[simp] theorem State.mapSys_evt (s : State) (g : SysSt → SysSt) : (s.mapSys g).evt = s.evt := rfl
@[simp] theorem State.mapSys_pad (s : State) (g : SysSt → SysSt) : (s.mapSys g).pad = s.pad := rfl
@[simp] theorem State.mapSys_power (s : State) (g : SysSt → SysSt) : (s.mapSys g).power = s.power := rfl
@[simp] theorem State.mapSys_thermal (s : State) (g : SysSt → SysSt) : (s.mapSys g).thermal = s.thermal := rfl
@[simp] theorem State.mapSys_nvm (s : State) (g : SysSt → SysSt) : (s.mapSys g).nvm = s.nvm := rfl
@[simp] theorem State.mapSys_fio (s : State) (g : SysSt → SysSt) : (s.mapSys g).fio = s.fio := rfl
@[simp] theorem State.mapSys_crb (s : State) (g : SysSt → SysSt) : (s.mapSys g).crb = s.crb := rfl
@[simp] theorem State.mapSys_prt (s : State) (g : SysSt → SysSt) : (s.mapSys g).prt = s.prt := rfl
@[simp] theorem State.mapSys_units (s : State) (g : SysSt → SysSt) : (s.mapSys g).units = s.units := rfl
@[simp] theorem State.mapSys_herd (s : State) (g : SysSt → SysSt) : (s.mapSys g).herd = s.herd := rfl
@[simp] theorem State.mapSys_chn (s : State) (g : SysSt → SysSt) : (s.mapSys g).chn = s.chn := rfl
@[simp] theorem State.mapSys_cel (s : State) (g : SysSt → SysSt) : (s.mapSys g).cel = s.cel := rfl
@[simp] theorem State.mapSys_est (s : State) (g : SysSt → SysSt) : (s.mapSys g).est = s.est := rfl
@[simp] theorem State.mapSys_hvm (s : State) (g : SysSt → SysSt) : (s.mapSys g).hvm = s.hvm := rfl
@[simp] theorem State.mapSys_ggn (s : State) (g : SysSt → SysSt) : (s.mapSys g).ggn = s.ggn := rfl
@[simp] theorem State.mapSys_can (s : State) (g : SysSt → SysSt) : (s.mapSys g).can = s.can := rfl
@[simp] theorem State.mapSys_eth (s : State) (g : SysSt → SysSt) : (s.mapSys g).eth = s.eth := rfl
@[simp] theorem State.mapSys_ptp (s : State) (g : SysSt → SysSt) : (s.mapSys g).ptp = s.ptp := rfl
@[simp] theorem State.mapSys_upd (s : State) (g : SysSt → SysSt) : (s.mapSys g).upd = s.upd := rfl
@[simp] theorem State.mapSys_sys (s : State) (g : SysSt → SysSt) : (s.mapSys g).sys = g s.sys := rfl
@[simp] theorem State.mapSys_tdm (s : State) (g : SysSt → SysSt) : (s.mapSys g).tdm = s.tdm := rfl

@[simp] theorem State.mapTdm_regs (s : State) (g : TdmSt → TdmSt) : (s.mapTdm g).regs = s.regs := rfl
@[simp] theorem State.mapTdm_mem (s : State) (g : TdmSt → TdmSt) : (s.mapTdm g).mem = s.mem := rfl
@[simp] theorem State.mapTdm_pending (s : State) (g : TdmSt → TdmSt) : (s.mapTdm g).pending = s.pending := rfl
@[simp] theorem State.mapTdm_free (s : State) (g : TdmSt → TdmSt) : (s.mapTdm g).free = s.free := rfl
@[simp] theorem State.mapTdm_nowUs (s : State) (g : TdmSt → TdmSt) : (s.mapTdm g).nowUs = s.nowUs := rfl
@[simp] theorem State.mapTdm_rdata (s : State) (g : TdmSt → TdmSt) : (s.mapTdm g).rdata = s.rdata := rfl
@[simp] theorem State.mapTdm_r0 (s : State) (g : TdmSt → TdmSt) : (s.mapTdm g).r0 = s.r0 := rfl
@[simp] theorem State.mapTdm_r1 (s : State) (g : TdmSt → TdmSt) : (s.mapTdm g).r1 = s.r1 := rfl
@[simp] theorem State.mapTdm_grm (s : State) (g : TdmSt → TdmSt) : (s.mapTdm g).grm = s.grm := rfl
@[simp] theorem State.mapTdm_dma (s : State) (g : TdmSt → TdmSt) : (s.mapTdm g).dma = s.dma := rfl
@[simp] theorem State.mapTdm_evt (s : State) (g : TdmSt → TdmSt) : (s.mapTdm g).evt = s.evt := rfl
@[simp] theorem State.mapTdm_pad (s : State) (g : TdmSt → TdmSt) : (s.mapTdm g).pad = s.pad := rfl
@[simp] theorem State.mapTdm_power (s : State) (g : TdmSt → TdmSt) : (s.mapTdm g).power = s.power := rfl
@[simp] theorem State.mapTdm_thermal (s : State) (g : TdmSt → TdmSt) : (s.mapTdm g).thermal = s.thermal := rfl
@[simp] theorem State.mapTdm_nvm (s : State) (g : TdmSt → TdmSt) : (s.mapTdm g).nvm = s.nvm := rfl
@[simp] theorem State.mapTdm_fio (s : State) (g : TdmSt → TdmSt) : (s.mapTdm g).fio = s.fio := rfl
@[simp] theorem State.mapTdm_crb (s : State) (g : TdmSt → TdmSt) : (s.mapTdm g).crb = s.crb := rfl
@[simp] theorem State.mapTdm_prt (s : State) (g : TdmSt → TdmSt) : (s.mapTdm g).prt = s.prt := rfl
@[simp] theorem State.mapTdm_units (s : State) (g : TdmSt → TdmSt) : (s.mapTdm g).units = s.units := rfl
@[simp] theorem State.mapTdm_herd (s : State) (g : TdmSt → TdmSt) : (s.mapTdm g).herd = s.herd := rfl
@[simp] theorem State.mapTdm_chn (s : State) (g : TdmSt → TdmSt) : (s.mapTdm g).chn = s.chn := rfl
@[simp] theorem State.mapTdm_cel (s : State) (g : TdmSt → TdmSt) : (s.mapTdm g).cel = s.cel := rfl
@[simp] theorem State.mapTdm_est (s : State) (g : TdmSt → TdmSt) : (s.mapTdm g).est = s.est := rfl
@[simp] theorem State.mapTdm_hvm (s : State) (g : TdmSt → TdmSt) : (s.mapTdm g).hvm = s.hvm := rfl
@[simp] theorem State.mapTdm_ggn (s : State) (g : TdmSt → TdmSt) : (s.mapTdm g).ggn = s.ggn := rfl
@[simp] theorem State.mapTdm_can (s : State) (g : TdmSt → TdmSt) : (s.mapTdm g).can = s.can := rfl
@[simp] theorem State.mapTdm_eth (s : State) (g : TdmSt → TdmSt) : (s.mapTdm g).eth = s.eth := rfl
@[simp] theorem State.mapTdm_ptp (s : State) (g : TdmSt → TdmSt) : (s.mapTdm g).ptp = s.ptp := rfl
@[simp] theorem State.mapTdm_upd (s : State) (g : TdmSt → TdmSt) : (s.mapTdm g).upd = s.upd := rfl
@[simp] theorem State.mapTdm_sys (s : State) (g : TdmSt → TdmSt) : (s.mapTdm g).sys = s.sys := rfl
@[simp] theorem State.mapTdm_tdm (s : State) (g : TdmSt → TdmSt) : (s.mapTdm g).tdm = g s.tdm := rfl

@[simp] theorem State.set_mem (s : State) (f : Fld) (v : Nat) : (s.set f v).mem = s.mem := rfl
@[simp] theorem State.set_pending (s : State) (f : Fld) (v : Nat) : (s.set f v).pending = s.pending := rfl
@[simp] theorem State.set_free (s : State) (f : Fld) (v : Nat) : (s.set f v).free = s.free := rfl
@[simp] theorem State.set_nowUs (s : State) (f : Fld) (v : Nat) : (s.set f v).nowUs = s.nowUs := rfl
@[simp] theorem State.set_rdata (s : State) (f : Fld) (v : Nat) : (s.set f v).rdata = s.rdata := rfl
@[simp] theorem State.set_r0 (s : State) (f : Fld) (v : Nat) : (s.set f v).r0 = s.r0 := rfl
@[simp] theorem State.set_r1 (s : State) (f : Fld) (v : Nat) : (s.set f v).r1 = s.r1 := rfl
@[simp] theorem State.set_grm (s : State) (f : Fld) (v : Nat) : (s.set f v).grm = s.grm := rfl
@[simp] theorem State.set_dma (s : State) (f : Fld) (v : Nat) : (s.set f v).dma = s.dma := rfl
@[simp] theorem State.set_evt (s : State) (f : Fld) (v : Nat) : (s.set f v).evt = s.evt := rfl
@[simp] theorem State.set_pad (s : State) (f : Fld) (v : Nat) : (s.set f v).pad = s.pad := rfl
@[simp] theorem State.set_power (s : State) (f : Fld) (v : Nat) : (s.set f v).power = s.power := rfl
@[simp] theorem State.set_thermal (s : State) (f : Fld) (v : Nat) : (s.set f v).thermal = s.thermal := rfl
@[simp] theorem State.set_nvm (s : State) (f : Fld) (v : Nat) : (s.set f v).nvm = s.nvm := rfl
@[simp] theorem State.set_fio (s : State) (f : Fld) (v : Nat) : (s.set f v).fio = s.fio := rfl
@[simp] theorem State.set_crb (s : State) (f : Fld) (v : Nat) : (s.set f v).crb = s.crb := rfl
@[simp] theorem State.set_prt (s : State) (f : Fld) (v : Nat) : (s.set f v).prt = s.prt := rfl
@[simp] theorem State.set_units (s : State) (f : Fld) (v : Nat) : (s.set f v).units = s.units := rfl
@[simp] theorem State.set_herd (s : State) (f : Fld) (v : Nat) : (s.set f v).herd = s.herd := rfl
@[simp] theorem State.set_chn (s : State) (f : Fld) (v : Nat) : (s.set f v).chn = s.chn := rfl
@[simp] theorem State.set_cel (s : State) (f : Fld) (v : Nat) : (s.set f v).cel = s.cel := rfl
@[simp] theorem State.set_est (s : State) (f : Fld) (v : Nat) : (s.set f v).est = s.est := rfl
@[simp] theorem State.set_hvm (s : State) (f : Fld) (v : Nat) : (s.set f v).hvm = s.hvm := rfl
@[simp] theorem State.set_ggn (s : State) (f : Fld) (v : Nat) : (s.set f v).ggn = s.ggn := rfl
@[simp] theorem State.set_can (s : State) (f : Fld) (v : Nat) : (s.set f v).can = s.can := rfl
@[simp] theorem State.set_eth (s : State) (f : Fld) (v : Nat) : (s.set f v).eth = s.eth := rfl
@[simp] theorem State.set_ptp (s : State) (f : Fld) (v : Nat) : (s.set f v).ptp = s.ptp := rfl
@[simp] theorem State.set_upd (s : State) (f : Fld) (v : Nat) : (s.set f v).upd = s.upd := rfl
@[simp] theorem State.set_sys (s : State) (f : Fld) (v : Nat) : (s.set f v).sys = s.sys := rfl
@[simp] theorem State.set_tdm (s : State) (f : Fld) (v : Nat) : (s.set f v).tdm = s.tdm := rfl

@[simp] theorem State.setByte_regs (s : State) (a : Nat) (b : BitVec 8) : (s.setByte a b).regs = s.regs := rfl
@[simp] theorem State.setByte_pending (s : State) (a : Nat) (b : BitVec 8) : (s.setByte a b).pending = s.pending := rfl
@[simp] theorem State.setByte_free (s : State) (a : Nat) (b : BitVec 8) : (s.setByte a b).free = s.free := rfl
@[simp] theorem State.setByte_nowUs (s : State) (a : Nat) (b : BitVec 8) : (s.setByte a b).nowUs = s.nowUs := rfl
@[simp] theorem State.setByte_rdata (s : State) (a : Nat) (b : BitVec 8) : (s.setByte a b).rdata = s.rdata := rfl
@[simp] theorem State.setByte_r0 (s : State) (a : Nat) (b : BitVec 8) : (s.setByte a b).r0 = s.r0 := rfl
@[simp] theorem State.setByte_r1 (s : State) (a : Nat) (b : BitVec 8) : (s.setByte a b).r1 = s.r1 := rfl
@[simp] theorem State.setByte_grm (s : State) (a : Nat) (b : BitVec 8) : (s.setByte a b).grm = s.grm := rfl
@[simp] theorem State.setByte_dma (s : State) (a : Nat) (b : BitVec 8) : (s.setByte a b).dma = s.dma := rfl
@[simp] theorem State.setByte_evt (s : State) (a : Nat) (b : BitVec 8) : (s.setByte a b).evt = s.evt := rfl
@[simp] theorem State.setByte_pad (s : State) (a : Nat) (b : BitVec 8) : (s.setByte a b).pad = s.pad := rfl
@[simp] theorem State.setByte_power (s : State) (a : Nat) (b : BitVec 8) : (s.setByte a b).power = s.power := rfl
@[simp] theorem State.setByte_thermal (s : State) (a : Nat) (b : BitVec 8) : (s.setByte a b).thermal = s.thermal := rfl
@[simp] theorem State.setByte_nvm (s : State) (a : Nat) (b : BitVec 8) : (s.setByte a b).nvm = s.nvm := rfl
@[simp] theorem State.setByte_fio (s : State) (a : Nat) (b : BitVec 8) : (s.setByte a b).fio = s.fio := rfl
@[simp] theorem State.setByte_crb (s : State) (a : Nat) (b : BitVec 8) : (s.setByte a b).crb = s.crb := rfl
@[simp] theorem State.setByte_prt (s : State) (a : Nat) (b : BitVec 8) : (s.setByte a b).prt = s.prt := rfl
@[simp] theorem State.setByte_units (s : State) (a : Nat) (b : BitVec 8) : (s.setByte a b).units = s.units := rfl
@[simp] theorem State.setByte_herd (s : State) (a : Nat) (b : BitVec 8) : (s.setByte a b).herd = s.herd := rfl
@[simp] theorem State.setByte_chn (s : State) (a : Nat) (b : BitVec 8) : (s.setByte a b).chn = s.chn := rfl
@[simp] theorem State.setByte_cel (s : State) (a : Nat) (b : BitVec 8) : (s.setByte a b).cel = s.cel := rfl
@[simp] theorem State.setByte_est (s : State) (a : Nat) (b : BitVec 8) : (s.setByte a b).est = s.est := rfl
@[simp] theorem State.setByte_hvm (s : State) (a : Nat) (b : BitVec 8) : (s.setByte a b).hvm = s.hvm := rfl
@[simp] theorem State.setByte_ggn (s : State) (a : Nat) (b : BitVec 8) : (s.setByte a b).ggn = s.ggn := rfl
@[simp] theorem State.setByte_can (s : State) (a : Nat) (b : BitVec 8) : (s.setByte a b).can = s.can := rfl
@[simp] theorem State.setByte_eth (s : State) (a : Nat) (b : BitVec 8) : (s.setByte a b).eth = s.eth := rfl
@[simp] theorem State.setByte_ptp (s : State) (a : Nat) (b : BitVec 8) : (s.setByte a b).ptp = s.ptp := rfl
@[simp] theorem State.setByte_upd (s : State) (a : Nat) (b : BitVec 8) : (s.setByte a b).upd = s.upd := rfl
@[simp] theorem State.setByte_sys (s : State) (a : Nat) (b : BitVec 8) : (s.setByte a b).sys = s.sys := rfl
@[simp] theorem State.setByte_tdm (s : State) (a : Nat) (b : BitVec 8) : (s.setByte a b).tdm = s.tdm := rfl

@[simp] theorem State.withPending_regs (s : State) (q : List Instr) : (s.withPending q).regs = s.regs := rfl
@[simp] theorem State.withPending_mem (s : State) (q : List Instr) : (s.withPending q).mem = s.mem := rfl
@[simp] theorem State.withPending_free (s : State) (q : List Instr) : (s.withPending q).free = s.free := rfl
@[simp] theorem State.withPending_nowUs (s : State) (q : List Instr) : (s.withPending q).nowUs = s.nowUs := rfl
@[simp] theorem State.withPending_rdata (s : State) (q : List Instr) : (s.withPending q).rdata = s.rdata := rfl
@[simp] theorem State.withPending_r0 (s : State) (q : List Instr) : (s.withPending q).r0 = s.r0 := rfl
@[simp] theorem State.withPending_r1 (s : State) (q : List Instr) : (s.withPending q).r1 = s.r1 := rfl
@[simp] theorem State.withPending_grm (s : State) (q : List Instr) : (s.withPending q).grm = s.grm := rfl
@[simp] theorem State.withPending_dma (s : State) (q : List Instr) : (s.withPending q).dma = s.dma := rfl
@[simp] theorem State.withPending_evt (s : State) (q : List Instr) : (s.withPending q).evt = s.evt := rfl
@[simp] theorem State.withPending_pad (s : State) (q : List Instr) : (s.withPending q).pad = s.pad := rfl
@[simp] theorem State.withPending_power (s : State) (q : List Instr) : (s.withPending q).power = s.power := rfl
@[simp] theorem State.withPending_thermal (s : State) (q : List Instr) : (s.withPending q).thermal = s.thermal := rfl
@[simp] theorem State.withPending_nvm (s : State) (q : List Instr) : (s.withPending q).nvm = s.nvm := rfl
@[simp] theorem State.withPending_fio (s : State) (q : List Instr) : (s.withPending q).fio = s.fio := rfl
@[simp] theorem State.withPending_crb (s : State) (q : List Instr) : (s.withPending q).crb = s.crb := rfl
@[simp] theorem State.withPending_prt (s : State) (q : List Instr) : (s.withPending q).prt = s.prt := rfl
@[simp] theorem State.withPending_units (s : State) (q : List Instr) : (s.withPending q).units = s.units := rfl
@[simp] theorem State.withPending_herd (s : State) (q : List Instr) : (s.withPending q).herd = s.herd := rfl
@[simp] theorem State.withPending_chn (s : State) (q : List Instr) : (s.withPending q).chn = s.chn := rfl
@[simp] theorem State.withPending_cel (s : State) (q : List Instr) : (s.withPending q).cel = s.cel := rfl
@[simp] theorem State.withPending_est (s : State) (q : List Instr) : (s.withPending q).est = s.est := rfl
@[simp] theorem State.withPending_hvm (s : State) (q : List Instr) : (s.withPending q).hvm = s.hvm := rfl
@[simp] theorem State.withPending_ggn (s : State) (q : List Instr) : (s.withPending q).ggn = s.ggn := rfl
@[simp] theorem State.withPending_can (s : State) (q : List Instr) : (s.withPending q).can = s.can := rfl
@[simp] theorem State.withPending_eth (s : State) (q : List Instr) : (s.withPending q).eth = s.eth := rfl
@[simp] theorem State.withPending_ptp (s : State) (q : List Instr) : (s.withPending q).ptp = s.ptp := rfl
@[simp] theorem State.withPending_upd (s : State) (q : List Instr) : (s.withPending q).upd = s.upd := rfl
@[simp] theorem State.withPending_sys (s : State) (q : List Instr) : (s.withPending q).sys = s.sys := rfl
@[simp] theorem State.withPending_tdm (s : State) (q : List Instr) : (s.withPending q).tdm = s.tdm := rfl

@[simp] theorem State.loseMem_regs (s : State) (lo hi : Nat) : (s.loseMem lo hi).regs = s.regs := rfl
@[simp] theorem State.loseMem_pending (s : State) (lo hi : Nat) : (s.loseMem lo hi).pending = s.pending := rfl
@[simp] theorem State.loseMem_free (s : State) (lo hi : Nat) : (s.loseMem lo hi).free = s.free := rfl
@[simp] theorem State.loseMem_nowUs (s : State) (lo hi : Nat) : (s.loseMem lo hi).nowUs = s.nowUs := rfl
@[simp] theorem State.loseMem_rdata (s : State) (lo hi : Nat) : (s.loseMem lo hi).rdata = s.rdata := rfl
@[simp] theorem State.loseMem_r0 (s : State) (lo hi : Nat) : (s.loseMem lo hi).r0 = s.r0 := rfl
@[simp] theorem State.loseMem_r1 (s : State) (lo hi : Nat) : (s.loseMem lo hi).r1 = s.r1 := rfl
@[simp] theorem State.loseMem_grm (s : State) (lo hi : Nat) : (s.loseMem lo hi).grm = s.grm := rfl
@[simp] theorem State.loseMem_dma (s : State) (lo hi : Nat) : (s.loseMem lo hi).dma = s.dma := rfl
@[simp] theorem State.loseMem_evt (s : State) (lo hi : Nat) : (s.loseMem lo hi).evt = s.evt := rfl
@[simp] theorem State.loseMem_pad (s : State) (lo hi : Nat) : (s.loseMem lo hi).pad = s.pad := rfl
@[simp] theorem State.loseMem_power (s : State) (lo hi : Nat) : (s.loseMem lo hi).power = s.power := rfl
@[simp] theorem State.loseMem_thermal (s : State) (lo hi : Nat) : (s.loseMem lo hi).thermal = s.thermal := rfl
@[simp] theorem State.loseMem_nvm (s : State) (lo hi : Nat) : (s.loseMem lo hi).nvm = s.nvm := rfl
@[simp] theorem State.loseMem_fio (s : State) (lo hi : Nat) : (s.loseMem lo hi).fio = s.fio := rfl
@[simp] theorem State.loseMem_crb (s : State) (lo hi : Nat) : (s.loseMem lo hi).crb = s.crb := rfl
@[simp] theorem State.loseMem_prt (s : State) (lo hi : Nat) : (s.loseMem lo hi).prt = s.prt := rfl
@[simp] theorem State.loseMem_units (s : State) (lo hi : Nat) : (s.loseMem lo hi).units = s.units := rfl
@[simp] theorem State.loseMem_herd (s : State) (lo hi : Nat) : (s.loseMem lo hi).herd = s.herd := rfl
@[simp] theorem State.loseMem_chn (s : State) (lo hi : Nat) : (s.loseMem lo hi).chn = s.chn := rfl
@[simp] theorem State.loseMem_cel (s : State) (lo hi : Nat) : (s.loseMem lo hi).cel = s.cel := rfl
@[simp] theorem State.loseMem_est (s : State) (lo hi : Nat) : (s.loseMem lo hi).est = s.est := rfl
@[simp] theorem State.loseMem_hvm (s : State) (lo hi : Nat) : (s.loseMem lo hi).hvm = s.hvm := rfl
@[simp] theorem State.loseMem_ggn (s : State) (lo hi : Nat) : (s.loseMem lo hi).ggn = s.ggn := rfl
@[simp] theorem State.loseMem_can (s : State) (lo hi : Nat) : (s.loseMem lo hi).can = s.can := rfl
@[simp] theorem State.loseMem_eth (s : State) (lo hi : Nat) : (s.loseMem lo hi).eth = s.eth := rfl
@[simp] theorem State.loseMem_ptp (s : State) (lo hi : Nat) : (s.loseMem lo hi).ptp = s.ptp := rfl
@[simp] theorem State.loseMem_upd (s : State) (lo hi : Nat) : (s.loseMem lo hi).upd = s.upd := rfl
@[simp] theorem State.loseMem_sys (s : State) (lo hi : Nat) : (s.loseMem lo hi).sys = s.sys := rfl
@[simp] theorem State.loseMem_tdm (s : State) (lo hi : Nat) : (s.loseMem lo hi).tdm = s.tdm := rfl

@[simp] theorem State.resetRange_mem (s : State) (lo hi : Nat) : (s.resetRange lo hi).mem = s.mem := rfl
@[simp] theorem State.resetRange_pending (s : State) (lo hi : Nat) : (s.resetRange lo hi).pending = s.pending := rfl
@[simp] theorem State.resetRange_free (s : State) (lo hi : Nat) : (s.resetRange lo hi).free = s.free := rfl
@[simp] theorem State.resetRange_nowUs (s : State) (lo hi : Nat) : (s.resetRange lo hi).nowUs = s.nowUs := rfl
@[simp] theorem State.resetRange_rdata (s : State) (lo hi : Nat) : (s.resetRange lo hi).rdata = s.rdata := rfl
@[simp] theorem State.resetRange_r0 (s : State) (lo hi : Nat) : (s.resetRange lo hi).r0 = s.r0 := rfl
@[simp] theorem State.resetRange_r1 (s : State) (lo hi : Nat) : (s.resetRange lo hi).r1 = s.r1 := rfl
@[simp] theorem State.resetRange_grm (s : State) (lo hi : Nat) : (s.resetRange lo hi).grm = s.grm := rfl
@[simp] theorem State.resetRange_dma (s : State) (lo hi : Nat) : (s.resetRange lo hi).dma = s.dma := rfl
@[simp] theorem State.resetRange_evt (s : State) (lo hi : Nat) : (s.resetRange lo hi).evt = s.evt := rfl
@[simp] theorem State.resetRange_pad (s : State) (lo hi : Nat) : (s.resetRange lo hi).pad = s.pad := rfl
@[simp] theorem State.resetRange_power (s : State) (lo hi : Nat) : (s.resetRange lo hi).power = s.power := rfl
@[simp] theorem State.resetRange_thermal (s : State) (lo hi : Nat) : (s.resetRange lo hi).thermal = s.thermal := rfl
@[simp] theorem State.resetRange_nvm (s : State) (lo hi : Nat) : (s.resetRange lo hi).nvm = s.nvm := rfl
@[simp] theorem State.resetRange_fio (s : State) (lo hi : Nat) : (s.resetRange lo hi).fio = s.fio := rfl
@[simp] theorem State.resetRange_crb (s : State) (lo hi : Nat) : (s.resetRange lo hi).crb = s.crb := rfl
@[simp] theorem State.resetRange_prt (s : State) (lo hi : Nat) : (s.resetRange lo hi).prt = s.prt := rfl
@[simp] theorem State.resetRange_units (s : State) (lo hi : Nat) : (s.resetRange lo hi).units = s.units := rfl
@[simp] theorem State.resetRange_herd (s : State) (lo hi : Nat) : (s.resetRange lo hi).herd = s.herd := rfl
@[simp] theorem State.resetRange_chn (s : State) (lo hi : Nat) : (s.resetRange lo hi).chn = s.chn := rfl
@[simp] theorem State.resetRange_cel (s : State) (lo hi : Nat) : (s.resetRange lo hi).cel = s.cel := rfl
@[simp] theorem State.resetRange_est (s : State) (lo hi : Nat) : (s.resetRange lo hi).est = s.est := rfl
@[simp] theorem State.resetRange_hvm (s : State) (lo hi : Nat) : (s.resetRange lo hi).hvm = s.hvm := rfl
@[simp] theorem State.resetRange_ggn (s : State) (lo hi : Nat) : (s.resetRange lo hi).ggn = s.ggn := rfl
@[simp] theorem State.resetRange_can (s : State) (lo hi : Nat) : (s.resetRange lo hi).can = s.can := rfl
@[simp] theorem State.resetRange_eth (s : State) (lo hi : Nat) : (s.resetRange lo hi).eth = s.eth := rfl
@[simp] theorem State.resetRange_ptp (s : State) (lo hi : Nat) : (s.resetRange lo hi).ptp = s.ptp := rfl
@[simp] theorem State.resetRange_upd (s : State) (lo hi : Nat) : (s.resetRange lo hi).upd = s.upd := rfl
@[simp] theorem State.resetRange_sys (s : State) (lo hi : Nat) : (s.resetRange lo hi).sys = s.sys := rfl
@[simp] theorem State.resetRange_tdm (s : State) (lo hi : Nat) : (s.resetRange lo hi).tdm = s.tdm := rfl

@[simp] theorem State.put_mem (s : State) (f : Fld) (b : Bool) : (s.put f b).mem = s.mem := rfl
@[simp] theorem State.put_pending (s : State) (f : Fld) (b : Bool) : (s.put f b).pending = s.pending := rfl
@[simp] theorem State.put_free (s : State) (f : Fld) (b : Bool) : (s.put f b).free = s.free := rfl
@[simp] theorem State.put_nowUs (s : State) (f : Fld) (b : Bool) : (s.put f b).nowUs = s.nowUs := rfl
@[simp] theorem State.put_rdata (s : State) (f : Fld) (b : Bool) : (s.put f b).rdata = s.rdata := rfl
@[simp] theorem State.put_r0 (s : State) (f : Fld) (b : Bool) : (s.put f b).r0 = s.r0 := rfl
@[simp] theorem State.put_r1 (s : State) (f : Fld) (b : Bool) : (s.put f b).r1 = s.r1 := rfl
@[simp] theorem State.put_grm (s : State) (f : Fld) (b : Bool) : (s.put f b).grm = s.grm := rfl
@[simp] theorem State.put_dma (s : State) (f : Fld) (b : Bool) : (s.put f b).dma = s.dma := rfl
@[simp] theorem State.put_evt (s : State) (f : Fld) (b : Bool) : (s.put f b).evt = s.evt := rfl
@[simp] theorem State.put_pad (s : State) (f : Fld) (b : Bool) : (s.put f b).pad = s.pad := rfl
@[simp] theorem State.put_power (s : State) (f : Fld) (b : Bool) : (s.put f b).power = s.power := rfl
@[simp] theorem State.put_thermal (s : State) (f : Fld) (b : Bool) : (s.put f b).thermal = s.thermal := rfl
@[simp] theorem State.put_nvm (s : State) (f : Fld) (b : Bool) : (s.put f b).nvm = s.nvm := rfl
@[simp] theorem State.put_fio (s : State) (f : Fld) (b : Bool) : (s.put f b).fio = s.fio := rfl
@[simp] theorem State.put_crb (s : State) (f : Fld) (b : Bool) : (s.put f b).crb = s.crb := rfl
@[simp] theorem State.put_prt (s : State) (f : Fld) (b : Bool) : (s.put f b).prt = s.prt := rfl
@[simp] theorem State.put_units (s : State) (f : Fld) (b : Bool) : (s.put f b).units = s.units := rfl
@[simp] theorem State.put_herd (s : State) (f : Fld) (b : Bool) : (s.put f b).herd = s.herd := rfl
@[simp] theorem State.put_chn (s : State) (f : Fld) (b : Bool) : (s.put f b).chn = s.chn := rfl
@[simp] theorem State.put_cel (s : State) (f : Fld) (b : Bool) : (s.put f b).cel = s.cel := rfl
@[simp] theorem State.put_est (s : State) (f : Fld) (b : Bool) : (s.put f b).est = s.est := rfl
@[simp] theorem State.put_hvm (s : State) (f : Fld) (b : Bool) : (s.put f b).hvm = s.hvm := rfl
@[simp] theorem State.put_ggn (s : State) (f : Fld) (b : Bool) : (s.put f b).ggn = s.ggn := rfl
@[simp] theorem State.put_can (s : State) (f : Fld) (b : Bool) : (s.put f b).can = s.can := rfl
@[simp] theorem State.put_eth (s : State) (f : Fld) (b : Bool) : (s.put f b).eth = s.eth := rfl
@[simp] theorem State.put_ptp (s : State) (f : Fld) (b : Bool) : (s.put f b).ptp = s.ptp := rfl
@[simp] theorem State.put_upd (s : State) (f : Fld) (b : Bool) : (s.put f b).upd = s.upd := rfl
@[simp] theorem State.put_sys (s : State) (f : Fld) (b : Bool) : (s.put f b).sys = s.sys := rfl
@[simp] theorem State.put_tdm (s : State) (f : Fld) (b : Bool) : (s.put f b).tdm = s.tdm := rfl

@[simp] theorem State.setBitOf_mem (s : State) (f : Fld) (b : Nat) : (s.setBitOf f b).mem = s.mem := rfl
@[simp] theorem State.setBitOf_pending (s : State) (f : Fld) (b : Nat) : (s.setBitOf f b).pending = s.pending := rfl
@[simp] theorem State.setBitOf_free (s : State) (f : Fld) (b : Nat) : (s.setBitOf f b).free = s.free := rfl
@[simp] theorem State.setBitOf_nowUs (s : State) (f : Fld) (b : Nat) : (s.setBitOf f b).nowUs = s.nowUs := rfl
@[simp] theorem State.setBitOf_rdata (s : State) (f : Fld) (b : Nat) : (s.setBitOf f b).rdata = s.rdata := rfl
@[simp] theorem State.setBitOf_r0 (s : State) (f : Fld) (b : Nat) : (s.setBitOf f b).r0 = s.r0 := rfl
@[simp] theorem State.setBitOf_r1 (s : State) (f : Fld) (b : Nat) : (s.setBitOf f b).r1 = s.r1 := rfl
@[simp] theorem State.setBitOf_grm (s : State) (f : Fld) (b : Nat) : (s.setBitOf f b).grm = s.grm := rfl
@[simp] theorem State.setBitOf_dma (s : State) (f : Fld) (b : Nat) : (s.setBitOf f b).dma = s.dma := rfl
@[simp] theorem State.setBitOf_evt (s : State) (f : Fld) (b : Nat) : (s.setBitOf f b).evt = s.evt := rfl
@[simp] theorem State.setBitOf_pad (s : State) (f : Fld) (b : Nat) : (s.setBitOf f b).pad = s.pad := rfl
@[simp] theorem State.setBitOf_power (s : State) (f : Fld) (b : Nat) : (s.setBitOf f b).power = s.power := rfl
@[simp] theorem State.setBitOf_thermal (s : State) (f : Fld) (b : Nat) : (s.setBitOf f b).thermal = s.thermal := rfl
@[simp] theorem State.setBitOf_nvm (s : State) (f : Fld) (b : Nat) : (s.setBitOf f b).nvm = s.nvm := rfl
@[simp] theorem State.setBitOf_fio (s : State) (f : Fld) (b : Nat) : (s.setBitOf f b).fio = s.fio := rfl
@[simp] theorem State.setBitOf_crb (s : State) (f : Fld) (b : Nat) : (s.setBitOf f b).crb = s.crb := rfl
@[simp] theorem State.setBitOf_prt (s : State) (f : Fld) (b : Nat) : (s.setBitOf f b).prt = s.prt := rfl
@[simp] theorem State.setBitOf_units (s : State) (f : Fld) (b : Nat) : (s.setBitOf f b).units = s.units := rfl
@[simp] theorem State.setBitOf_herd (s : State) (f : Fld) (b : Nat) : (s.setBitOf f b).herd = s.herd := rfl
@[simp] theorem State.setBitOf_chn (s : State) (f : Fld) (b : Nat) : (s.setBitOf f b).chn = s.chn := rfl
@[simp] theorem State.setBitOf_cel (s : State) (f : Fld) (b : Nat) : (s.setBitOf f b).cel = s.cel := rfl
@[simp] theorem State.setBitOf_est (s : State) (f : Fld) (b : Nat) : (s.setBitOf f b).est = s.est := rfl
@[simp] theorem State.setBitOf_hvm (s : State) (f : Fld) (b : Nat) : (s.setBitOf f b).hvm = s.hvm := rfl
@[simp] theorem State.setBitOf_ggn (s : State) (f : Fld) (b : Nat) : (s.setBitOf f b).ggn = s.ggn := rfl
@[simp] theorem State.setBitOf_can (s : State) (f : Fld) (b : Nat) : (s.setBitOf f b).can = s.can := rfl
@[simp] theorem State.setBitOf_eth (s : State) (f : Fld) (b : Nat) : (s.setBitOf f b).eth = s.eth := rfl
@[simp] theorem State.setBitOf_ptp (s : State) (f : Fld) (b : Nat) : (s.setBitOf f b).ptp = s.ptp := rfl
@[simp] theorem State.setBitOf_upd (s : State) (f : Fld) (b : Nat) : (s.setBitOf f b).upd = s.upd := rfl
@[simp] theorem State.setBitOf_sys (s : State) (f : Fld) (b : Nat) : (s.setBitOf f b).sys = s.sys := rfl
@[simp] theorem State.setBitOf_tdm (s : State) (f : Fld) (b : Nat) : (s.setBitOf f b).tdm = s.tdm := rfl

@[simp] theorem State.clrBitOf_mem (s : State) (f : Fld) (b : Nat) : (s.clrBitOf f b).mem = s.mem := rfl
@[simp] theorem State.clrBitOf_pending (s : State) (f : Fld) (b : Nat) : (s.clrBitOf f b).pending = s.pending := rfl
@[simp] theorem State.clrBitOf_free (s : State) (f : Fld) (b : Nat) : (s.clrBitOf f b).free = s.free := rfl
@[simp] theorem State.clrBitOf_nowUs (s : State) (f : Fld) (b : Nat) : (s.clrBitOf f b).nowUs = s.nowUs := rfl
@[simp] theorem State.clrBitOf_rdata (s : State) (f : Fld) (b : Nat) : (s.clrBitOf f b).rdata = s.rdata := rfl
@[simp] theorem State.clrBitOf_r0 (s : State) (f : Fld) (b : Nat) : (s.clrBitOf f b).r0 = s.r0 := rfl
@[simp] theorem State.clrBitOf_r1 (s : State) (f : Fld) (b : Nat) : (s.clrBitOf f b).r1 = s.r1 := rfl
@[simp] theorem State.clrBitOf_grm (s : State) (f : Fld) (b : Nat) : (s.clrBitOf f b).grm = s.grm := rfl
@[simp] theorem State.clrBitOf_dma (s : State) (f : Fld) (b : Nat) : (s.clrBitOf f b).dma = s.dma := rfl
@[simp] theorem State.clrBitOf_evt (s : State) (f : Fld) (b : Nat) : (s.clrBitOf f b).evt = s.evt := rfl
@[simp] theorem State.clrBitOf_pad (s : State) (f : Fld) (b : Nat) : (s.clrBitOf f b).pad = s.pad := rfl
@[simp] theorem State.clrBitOf_power (s : State) (f : Fld) (b : Nat) : (s.clrBitOf f b).power = s.power := rfl
@[simp] theorem State.clrBitOf_thermal (s : State) (f : Fld) (b : Nat) : (s.clrBitOf f b).thermal = s.thermal := rfl
@[simp] theorem State.clrBitOf_nvm (s : State) (f : Fld) (b : Nat) : (s.clrBitOf f b).nvm = s.nvm := rfl
@[simp] theorem State.clrBitOf_fio (s : State) (f : Fld) (b : Nat) : (s.clrBitOf f b).fio = s.fio := rfl
@[simp] theorem State.clrBitOf_crb (s : State) (f : Fld) (b : Nat) : (s.clrBitOf f b).crb = s.crb := rfl
@[simp] theorem State.clrBitOf_prt (s : State) (f : Fld) (b : Nat) : (s.clrBitOf f b).prt = s.prt := rfl
@[simp] theorem State.clrBitOf_units (s : State) (f : Fld) (b : Nat) : (s.clrBitOf f b).units = s.units := rfl
@[simp] theorem State.clrBitOf_herd (s : State) (f : Fld) (b : Nat) : (s.clrBitOf f b).herd = s.herd := rfl
@[simp] theorem State.clrBitOf_chn (s : State) (f : Fld) (b : Nat) : (s.clrBitOf f b).chn = s.chn := rfl
@[simp] theorem State.clrBitOf_cel (s : State) (f : Fld) (b : Nat) : (s.clrBitOf f b).cel = s.cel := rfl
@[simp] theorem State.clrBitOf_est (s : State) (f : Fld) (b : Nat) : (s.clrBitOf f b).est = s.est := rfl
@[simp] theorem State.clrBitOf_hvm (s : State) (f : Fld) (b : Nat) : (s.clrBitOf f b).hvm = s.hvm := rfl
@[simp] theorem State.clrBitOf_ggn (s : State) (f : Fld) (b : Nat) : (s.clrBitOf f b).ggn = s.ggn := rfl
@[simp] theorem State.clrBitOf_can (s : State) (f : Fld) (b : Nat) : (s.clrBitOf f b).can = s.can := rfl
@[simp] theorem State.clrBitOf_eth (s : State) (f : Fld) (b : Nat) : (s.clrBitOf f b).eth = s.eth := rfl
@[simp] theorem State.clrBitOf_ptp (s : State) (f : Fld) (b : Nat) : (s.clrBitOf f b).ptp = s.ptp := rfl
@[simp] theorem State.clrBitOf_upd (s : State) (f : Fld) (b : Nat) : (s.clrBitOf f b).upd = s.upd := rfl
@[simp] theorem State.clrBitOf_sys (s : State) (f : Fld) (b : Nat) : (s.clrBitOf f b).sys = s.sys := rfl
@[simp] theorem State.clrBitOf_tdm (s : State) (f : Fld) (b : Nat) : (s.clrBitOf f b).tdm = s.tdm := rfl

@[simp] theorem State.seti_mem (s : State) (f : Fld) (i : Int) : (s.seti f i).mem = s.mem := rfl
@[simp] theorem State.seti_pending (s : State) (f : Fld) (i : Int) : (s.seti f i).pending = s.pending := rfl
@[simp] theorem State.seti_free (s : State) (f : Fld) (i : Int) : (s.seti f i).free = s.free := rfl
@[simp] theorem State.seti_nowUs (s : State) (f : Fld) (i : Int) : (s.seti f i).nowUs = s.nowUs := rfl
@[simp] theorem State.seti_rdata (s : State) (f : Fld) (i : Int) : (s.seti f i).rdata = s.rdata := rfl
@[simp] theorem State.seti_r0 (s : State) (f : Fld) (i : Int) : (s.seti f i).r0 = s.r0 := rfl
@[simp] theorem State.seti_r1 (s : State) (f : Fld) (i : Int) : (s.seti f i).r1 = s.r1 := rfl
@[simp] theorem State.seti_grm (s : State) (f : Fld) (i : Int) : (s.seti f i).grm = s.grm := rfl
@[simp] theorem State.seti_dma (s : State) (f : Fld) (i : Int) : (s.seti f i).dma = s.dma := rfl
@[simp] theorem State.seti_evt (s : State) (f : Fld) (i : Int) : (s.seti f i).evt = s.evt := rfl
@[simp] theorem State.seti_pad (s : State) (f : Fld) (i : Int) : (s.seti f i).pad = s.pad := rfl
@[simp] theorem State.seti_power (s : State) (f : Fld) (i : Int) : (s.seti f i).power = s.power := rfl
@[simp] theorem State.seti_thermal (s : State) (f : Fld) (i : Int) : (s.seti f i).thermal = s.thermal := rfl
@[simp] theorem State.seti_nvm (s : State) (f : Fld) (i : Int) : (s.seti f i).nvm = s.nvm := rfl
@[simp] theorem State.seti_fio (s : State) (f : Fld) (i : Int) : (s.seti f i).fio = s.fio := rfl
@[simp] theorem State.seti_crb (s : State) (f : Fld) (i : Int) : (s.seti f i).crb = s.crb := rfl
@[simp] theorem State.seti_prt (s : State) (f : Fld) (i : Int) : (s.seti f i).prt = s.prt := rfl
@[simp] theorem State.seti_units (s : State) (f : Fld) (i : Int) : (s.seti f i).units = s.units := rfl
@[simp] theorem State.seti_herd (s : State) (f : Fld) (i : Int) : (s.seti f i).herd = s.herd := rfl
@[simp] theorem State.seti_chn (s : State) (f : Fld) (i : Int) : (s.seti f i).chn = s.chn := rfl
@[simp] theorem State.seti_cel (s : State) (f : Fld) (i : Int) : (s.seti f i).cel = s.cel := rfl
@[simp] theorem State.seti_est (s : State) (f : Fld) (i : Int) : (s.seti f i).est = s.est := rfl
@[simp] theorem State.seti_hvm (s : State) (f : Fld) (i : Int) : (s.seti f i).hvm = s.hvm := rfl
@[simp] theorem State.seti_ggn (s : State) (f : Fld) (i : Int) : (s.seti f i).ggn = s.ggn := rfl
@[simp] theorem State.seti_can (s : State) (f : Fld) (i : Int) : (s.seti f i).can = s.can := rfl
@[simp] theorem State.seti_eth (s : State) (f : Fld) (i : Int) : (s.seti f i).eth = s.eth := rfl
@[simp] theorem State.seti_ptp (s : State) (f : Fld) (i : Int) : (s.seti f i).ptp = s.ptp := rfl
@[simp] theorem State.seti_upd (s : State) (f : Fld) (i : Int) : (s.seti f i).upd = s.upd := rfl
@[simp] theorem State.seti_sys (s : State) (f : Fld) (i : Int) : (s.seti f i).sys = s.sys := rfl
@[simp] theorem State.seti_tdm (s : State) (f : Fld) (i : Int) : (s.seti f i).tdm = s.tdm := rfl

@[simp] theorem State.bump_mem (s : State) (f : Fld) (k : Nat) : (s.bump f k).mem = s.mem := rfl
@[simp] theorem State.bump_pending (s : State) (f : Fld) (k : Nat) : (s.bump f k).pending = s.pending := rfl
@[simp] theorem State.bump_free (s : State) (f : Fld) (k : Nat) : (s.bump f k).free = s.free := rfl
@[simp] theorem State.bump_nowUs (s : State) (f : Fld) (k : Nat) : (s.bump f k).nowUs = s.nowUs := rfl
@[simp] theorem State.bump_rdata (s : State) (f : Fld) (k : Nat) : (s.bump f k).rdata = s.rdata := rfl
@[simp] theorem State.bump_r0 (s : State) (f : Fld) (k : Nat) : (s.bump f k).r0 = s.r0 := rfl
@[simp] theorem State.bump_r1 (s : State) (f : Fld) (k : Nat) : (s.bump f k).r1 = s.r1 := rfl
@[simp] theorem State.bump_grm (s : State) (f : Fld) (k : Nat) : (s.bump f k).grm = s.grm := rfl
@[simp] theorem State.bump_dma (s : State) (f : Fld) (k : Nat) : (s.bump f k).dma = s.dma := rfl
@[simp] theorem State.bump_evt (s : State) (f : Fld) (k : Nat) : (s.bump f k).evt = s.evt := rfl
@[simp] theorem State.bump_pad (s : State) (f : Fld) (k : Nat) : (s.bump f k).pad = s.pad := rfl
@[simp] theorem State.bump_power (s : State) (f : Fld) (k : Nat) : (s.bump f k).power = s.power := rfl
@[simp] theorem State.bump_thermal (s : State) (f : Fld) (k : Nat) : (s.bump f k).thermal = s.thermal := rfl
@[simp] theorem State.bump_nvm (s : State) (f : Fld) (k : Nat) : (s.bump f k).nvm = s.nvm := rfl
@[simp] theorem State.bump_fio (s : State) (f : Fld) (k : Nat) : (s.bump f k).fio = s.fio := rfl
@[simp] theorem State.bump_crb (s : State) (f : Fld) (k : Nat) : (s.bump f k).crb = s.crb := rfl
@[simp] theorem State.bump_prt (s : State) (f : Fld) (k : Nat) : (s.bump f k).prt = s.prt := rfl
@[simp] theorem State.bump_units (s : State) (f : Fld) (k : Nat) : (s.bump f k).units = s.units := rfl
@[simp] theorem State.bump_herd (s : State) (f : Fld) (k : Nat) : (s.bump f k).herd = s.herd := rfl
@[simp] theorem State.bump_chn (s : State) (f : Fld) (k : Nat) : (s.bump f k).chn = s.chn := rfl
@[simp] theorem State.bump_cel (s : State) (f : Fld) (k : Nat) : (s.bump f k).cel = s.cel := rfl
@[simp] theorem State.bump_est (s : State) (f : Fld) (k : Nat) : (s.bump f k).est = s.est := rfl
@[simp] theorem State.bump_hvm (s : State) (f : Fld) (k : Nat) : (s.bump f k).hvm = s.hvm := rfl
@[simp] theorem State.bump_ggn (s : State) (f : Fld) (k : Nat) : (s.bump f k).ggn = s.ggn := rfl
@[simp] theorem State.bump_can (s : State) (f : Fld) (k : Nat) : (s.bump f k).can = s.can := rfl
@[simp] theorem State.bump_eth (s : State) (f : Fld) (k : Nat) : (s.bump f k).eth = s.eth := rfl
@[simp] theorem State.bump_ptp (s : State) (f : Fld) (k : Nat) : (s.bump f k).ptp = s.ptp := rfl
@[simp] theorem State.bump_upd (s : State) (f : Fld) (k : Nat) : (s.bump f k).upd = s.upd := rfl
@[simp] theorem State.bump_sys (s : State) (f : Fld) (k : Nat) : (s.bump f k).sys = s.sys := rfl
@[simp] theorem State.bump_tdm (s : State) (f : Fld) (k : Nat) : (s.bump f k).tdm = s.tdm := rfl

@[simp] theorem State.withPending_pending (s : State) (q : List Instr) : (s.withPending q).pending = q := rfl

@[simp] theorem State.setCore_regs (s : State) (c : Core) (x : CoreSt) : (s.setCore c x).regs = s.regs := by
  cases c <;> rfl
@[simp] theorem State.setCore_mem (s : State) (c : Core) (x : CoreSt) : (s.setCore c x).mem = s.mem := by
  cases c <;> rfl
@[simp] theorem State.setCore_pending (s : State) (c : Core) (x : CoreSt) : (s.setCore c x).pending = s.pending := by
  cases c <;> rfl
@[simp] theorem State.setCore_free (s : State) (c : Core) (x : CoreSt) : (s.setCore c x).free = s.free := by
  cases c <;> rfl
@[simp] theorem State.setCore_nowUs (s : State) (c : Core) (x : CoreSt) : (s.setCore c x).nowUs = s.nowUs := by
  cases c <;> rfl
@[simp] theorem State.setCore_rdata (s : State) (c : Core) (x : CoreSt) : (s.setCore c x).rdata = s.rdata := by
  cases c <;> rfl
@[simp] theorem State.setCore_dma (s : State) (c : Core) (x : CoreSt) : (s.setCore c x).dma = s.dma := by
  cases c <;> rfl
@[simp] theorem State.setCore_evt (s : State) (c : Core) (x : CoreSt) : (s.setCore c x).evt = s.evt := by
  cases c <;> rfl
@[simp] theorem State.setCore_pad (s : State) (c : Core) (x : CoreSt) : (s.setCore c x).pad = s.pad := by
  cases c <;> rfl
@[simp] theorem State.setCore_power (s : State) (c : Core) (x : CoreSt) : (s.setCore c x).power = s.power := by
  cases c <;> rfl
@[simp] theorem State.setCore_thermal (s : State) (c : Core) (x : CoreSt) : (s.setCore c x).thermal = s.thermal := by
  cases c <;> rfl
@[simp] theorem State.setCore_nvm (s : State) (c : Core) (x : CoreSt) : (s.setCore c x).nvm = s.nvm := by
  cases c <;> rfl
@[simp] theorem State.setCore_fio (s : State) (c : Core) (x : CoreSt) : (s.setCore c x).fio = s.fio := by
  cases c <;> rfl
@[simp] theorem State.setCore_crb (s : State) (c : Core) (x : CoreSt) : (s.setCore c x).crb = s.crb := by
  cases c <;> rfl
@[simp] theorem State.setCore_prt (s : State) (c : Core) (x : CoreSt) : (s.setCore c x).prt = s.prt := by
  cases c <;> rfl
@[simp] theorem State.setCore_units (s : State) (c : Core) (x : CoreSt) : (s.setCore c x).units = s.units := by
  cases c <;> rfl
@[simp] theorem State.setCore_herd (s : State) (c : Core) (x : CoreSt) : (s.setCore c x).herd = s.herd := by
  cases c <;> rfl
@[simp] theorem State.setCore_chn (s : State) (c : Core) (x : CoreSt) : (s.setCore c x).chn = s.chn := by
  cases c <;> rfl
@[simp] theorem State.setCore_cel (s : State) (c : Core) (x : CoreSt) : (s.setCore c x).cel = s.cel := by
  cases c <;> rfl
@[simp] theorem State.setCore_est (s : State) (c : Core) (x : CoreSt) : (s.setCore c x).est = s.est := by
  cases c <;> rfl
@[simp] theorem State.setCore_hvm (s : State) (c : Core) (x : CoreSt) : (s.setCore c x).hvm = s.hvm := by
  cases c <;> rfl
@[simp] theorem State.setCore_ggn (s : State) (c : Core) (x : CoreSt) : (s.setCore c x).ggn = s.ggn := by
  cases c <;> rfl
@[simp] theorem State.setCore_can (s : State) (c : Core) (x : CoreSt) : (s.setCore c x).can = s.can := by
  cases c <;> rfl
@[simp] theorem State.setCore_eth (s : State) (c : Core) (x : CoreSt) : (s.setCore c x).eth = s.eth := by
  cases c <;> rfl
@[simp] theorem State.setCore_ptp (s : State) (c : Core) (x : CoreSt) : (s.setCore c x).ptp = s.ptp := by
  cases c <;> rfl
@[simp] theorem State.setCore_upd (s : State) (c : Core) (x : CoreSt) : (s.setCore c x).upd = s.upd := by
  cases c <;> rfl
@[simp] theorem State.setCore_sys (s : State) (c : Core) (x : CoreSt) : (s.setCore c x).sys = s.sys := by
  cases c <;> rfl
@[simp] theorem State.setCore_tdm (s : State) (c : Core) (x : CoreSt) : (s.setCore c x).tdm = s.tdm := by
  cases c <;> rfl

@[simp] theorem State.setG_regs (s : State) (c : Core) (r : Reg) (v : Word) : (s.setG c r v).regs = s.regs := by
  unfold State.setG; split <;> simp
@[simp] theorem State.setG_mem (s : State) (c : Core) (r : Reg) (v : Word) : (s.setG c r v).mem = s.mem := by
  unfold State.setG; split <;> simp
@[simp] theorem State.setG_pending (s : State) (c : Core) (r : Reg) (v : Word) : (s.setG c r v).pending = s.pending := by
  unfold State.setG; split <;> simp
@[simp] theorem State.setG_free (s : State) (c : Core) (r : Reg) (v : Word) : (s.setG c r v).free = s.free := by
  unfold State.setG; split <;> simp
@[simp] theorem State.setG_nowUs (s : State) (c : Core) (r : Reg) (v : Word) : (s.setG c r v).nowUs = s.nowUs := by
  unfold State.setG; split <;> simp
@[simp] theorem State.setG_rdata (s : State) (c : Core) (r : Reg) (v : Word) : (s.setG c r v).rdata = s.rdata := by
  unfold State.setG; split <;> simp
@[simp] theorem State.setG_dma (s : State) (c : Core) (r : Reg) (v : Word) : (s.setG c r v).dma = s.dma := by
  unfold State.setG; split <;> simp
@[simp] theorem State.setG_evt (s : State) (c : Core) (r : Reg) (v : Word) : (s.setG c r v).evt = s.evt := by
  unfold State.setG; split <;> simp
@[simp] theorem State.setG_pad (s : State) (c : Core) (r : Reg) (v : Word) : (s.setG c r v).pad = s.pad := by
  unfold State.setG; split <;> simp
@[simp] theorem State.setG_power (s : State) (c : Core) (r : Reg) (v : Word) : (s.setG c r v).power = s.power := by
  unfold State.setG; split <;> simp
@[simp] theorem State.setG_thermal (s : State) (c : Core) (r : Reg) (v : Word) : (s.setG c r v).thermal = s.thermal := by
  unfold State.setG; split <;> simp
@[simp] theorem State.setG_nvm (s : State) (c : Core) (r : Reg) (v : Word) : (s.setG c r v).nvm = s.nvm := by
  unfold State.setG; split <;> simp
@[simp] theorem State.setG_fio (s : State) (c : Core) (r : Reg) (v : Word) : (s.setG c r v).fio = s.fio := by
  unfold State.setG; split <;> simp
@[simp] theorem State.setG_crb (s : State) (c : Core) (r : Reg) (v : Word) : (s.setG c r v).crb = s.crb := by
  unfold State.setG; split <;> simp
@[simp] theorem State.setG_prt (s : State) (c : Core) (r : Reg) (v : Word) : (s.setG c r v).prt = s.prt := by
  unfold State.setG; split <;> simp
@[simp] theorem State.setG_units (s : State) (c : Core) (r : Reg) (v : Word) : (s.setG c r v).units = s.units := by
  unfold State.setG; split <;> simp
@[simp] theorem State.setG_herd (s : State) (c : Core) (r : Reg) (v : Word) : (s.setG c r v).herd = s.herd := by
  unfold State.setG; split <;> simp
@[simp] theorem State.setG_chn (s : State) (c : Core) (r : Reg) (v : Word) : (s.setG c r v).chn = s.chn := by
  unfold State.setG; split <;> simp
@[simp] theorem State.setG_cel (s : State) (c : Core) (r : Reg) (v : Word) : (s.setG c r v).cel = s.cel := by
  unfold State.setG; split <;> simp
@[simp] theorem State.setG_est (s : State) (c : Core) (r : Reg) (v : Word) : (s.setG c r v).est = s.est := by
  unfold State.setG; split <;> simp
@[simp] theorem State.setG_hvm (s : State) (c : Core) (r : Reg) (v : Word) : (s.setG c r v).hvm = s.hvm := by
  unfold State.setG; split <;> simp
@[simp] theorem State.setG_ggn (s : State) (c : Core) (r : Reg) (v : Word) : (s.setG c r v).ggn = s.ggn := by
  unfold State.setG; split <;> simp
@[simp] theorem State.setG_can (s : State) (c : Core) (r : Reg) (v : Word) : (s.setG c r v).can = s.can := by
  unfold State.setG; split <;> simp
@[simp] theorem State.setG_eth (s : State) (c : Core) (r : Reg) (v : Word) : (s.setG c r v).eth = s.eth := by
  unfold State.setG; split <;> simp
@[simp] theorem State.setG_ptp (s : State) (c : Core) (r : Reg) (v : Word) : (s.setG c r v).ptp = s.ptp := by
  unfold State.setG; split <;> simp
@[simp] theorem State.setG_upd (s : State) (c : Core) (r : Reg) (v : Word) : (s.setG c r v).upd = s.upd := by
  unfold State.setG; split <;> simp
@[simp] theorem State.setG_sys (s : State) (c : Core) (r : Reg) (v : Word) : (s.setG c r v).sys = s.sys := by
  unfold State.setG; split <;> simp
@[simp] theorem State.setG_tdm (s : State) (c : Core) (r : Reg) (v : Word) : (s.setG c r v).tdm = s.tdm := by
  unfold State.setG; split <;> simp

@[simp] theorem State.setCr_regs (s : State) (c : Core) (n : Nat) (v : Word) : (s.setCr c n v).regs = s.regs :=
  State.setCore_regs ..
@[simp] theorem State.setCr_mem (s : State) (c : Core) (n : Nat) (v : Word) : (s.setCr c n v).mem = s.mem :=
  State.setCore_mem ..
@[simp] theorem State.setCr_pending (s : State) (c : Core) (n : Nat) (v : Word) : (s.setCr c n v).pending = s.pending :=
  State.setCore_pending ..
@[simp] theorem State.setCr_free (s : State) (c : Core) (n : Nat) (v : Word) : (s.setCr c n v).free = s.free :=
  State.setCore_free ..
@[simp] theorem State.setCr_nowUs (s : State) (c : Core) (n : Nat) (v : Word) : (s.setCr c n v).nowUs = s.nowUs :=
  State.setCore_nowUs ..
@[simp] theorem State.setCr_rdata (s : State) (c : Core) (n : Nat) (v : Word) : (s.setCr c n v).rdata = s.rdata :=
  State.setCore_rdata ..
@[simp] theorem State.setCr_dma (s : State) (c : Core) (n : Nat) (v : Word) : (s.setCr c n v).dma = s.dma :=
  State.setCore_dma ..
@[simp] theorem State.setCr_evt (s : State) (c : Core) (n : Nat) (v : Word) : (s.setCr c n v).evt = s.evt :=
  State.setCore_evt ..
@[simp] theorem State.setCr_pad (s : State) (c : Core) (n : Nat) (v : Word) : (s.setCr c n v).pad = s.pad :=
  State.setCore_pad ..
@[simp] theorem State.setCr_power (s : State) (c : Core) (n : Nat) (v : Word) : (s.setCr c n v).power = s.power :=
  State.setCore_power ..
@[simp] theorem State.setCr_thermal (s : State) (c : Core) (n : Nat) (v : Word) : (s.setCr c n v).thermal = s.thermal :=
  State.setCore_thermal ..
@[simp] theorem State.setCr_nvm (s : State) (c : Core) (n : Nat) (v : Word) : (s.setCr c n v).nvm = s.nvm :=
  State.setCore_nvm ..
@[simp] theorem State.setCr_fio (s : State) (c : Core) (n : Nat) (v : Word) : (s.setCr c n v).fio = s.fio :=
  State.setCore_fio ..
@[simp] theorem State.setCr_crb (s : State) (c : Core) (n : Nat) (v : Word) : (s.setCr c n v).crb = s.crb :=
  State.setCore_crb ..
@[simp] theorem State.setCr_prt (s : State) (c : Core) (n : Nat) (v : Word) : (s.setCr c n v).prt = s.prt :=
  State.setCore_prt ..
@[simp] theorem State.setCr_units (s : State) (c : Core) (n : Nat) (v : Word) : (s.setCr c n v).units = s.units :=
  State.setCore_units ..
@[simp] theorem State.setCr_herd (s : State) (c : Core) (n : Nat) (v : Word) : (s.setCr c n v).herd = s.herd :=
  State.setCore_herd ..
@[simp] theorem State.setCr_chn (s : State) (c : Core) (n : Nat) (v : Word) : (s.setCr c n v).chn = s.chn :=
  State.setCore_chn ..
@[simp] theorem State.setCr_cel (s : State) (c : Core) (n : Nat) (v : Word) : (s.setCr c n v).cel = s.cel :=
  State.setCore_cel ..
@[simp] theorem State.setCr_est (s : State) (c : Core) (n : Nat) (v : Word) : (s.setCr c n v).est = s.est :=
  State.setCore_est ..
@[simp] theorem State.setCr_hvm (s : State) (c : Core) (n : Nat) (v : Word) : (s.setCr c n v).hvm = s.hvm :=
  State.setCore_hvm ..
@[simp] theorem State.setCr_ggn (s : State) (c : Core) (n : Nat) (v : Word) : (s.setCr c n v).ggn = s.ggn :=
  State.setCore_ggn ..
@[simp] theorem State.setCr_can (s : State) (c : Core) (n : Nat) (v : Word) : (s.setCr c n v).can = s.can :=
  State.setCore_can ..
@[simp] theorem State.setCr_eth (s : State) (c : Core) (n : Nat) (v : Word) : (s.setCr c n v).eth = s.eth :=
  State.setCore_eth ..
@[simp] theorem State.setCr_ptp (s : State) (c : Core) (n : Nat) (v : Word) : (s.setCr c n v).ptp = s.ptp :=
  State.setCore_ptp ..
@[simp] theorem State.setCr_upd (s : State) (c : Core) (n : Nat) (v : Word) : (s.setCr c n v).upd = s.upd :=
  State.setCore_upd ..
@[simp] theorem State.setCr_sys (s : State) (c : Core) (n : Nat) (v : Word) : (s.setCr c n v).sys = s.sys :=
  State.setCore_sys ..
@[simp] theorem State.setCr_tdm (s : State) (c : Core) (n : Nat) (v : Word) : (s.setCr c n v).tdm = s.tdm :=
  State.setCore_tdm ..

@[simp] theorem State.setPc_regs (s : State) (c : Core) (a : Word) : (s.setPc c a).regs = s.regs :=
  State.setCore_regs ..
@[simp] theorem State.setPc_mem (s : State) (c : Core) (a : Word) : (s.setPc c a).mem = s.mem :=
  State.setCore_mem ..
@[simp] theorem State.setPc_pending (s : State) (c : Core) (a : Word) : (s.setPc c a).pending = s.pending :=
  State.setCore_pending ..
@[simp] theorem State.setPc_free (s : State) (c : Core) (a : Word) : (s.setPc c a).free = s.free :=
  State.setCore_free ..
@[simp] theorem State.setPc_nowUs (s : State) (c : Core) (a : Word) : (s.setPc c a).nowUs = s.nowUs :=
  State.setCore_nowUs ..
@[simp] theorem State.setPc_rdata (s : State) (c : Core) (a : Word) : (s.setPc c a).rdata = s.rdata :=
  State.setCore_rdata ..
@[simp] theorem State.setPc_dma (s : State) (c : Core) (a : Word) : (s.setPc c a).dma = s.dma :=
  State.setCore_dma ..
@[simp] theorem State.setPc_evt (s : State) (c : Core) (a : Word) : (s.setPc c a).evt = s.evt :=
  State.setCore_evt ..
@[simp] theorem State.setPc_pad (s : State) (c : Core) (a : Word) : (s.setPc c a).pad = s.pad :=
  State.setCore_pad ..
@[simp] theorem State.setPc_power (s : State) (c : Core) (a : Word) : (s.setPc c a).power = s.power :=
  State.setCore_power ..
@[simp] theorem State.setPc_thermal (s : State) (c : Core) (a : Word) : (s.setPc c a).thermal = s.thermal :=
  State.setCore_thermal ..
@[simp] theorem State.setPc_nvm (s : State) (c : Core) (a : Word) : (s.setPc c a).nvm = s.nvm :=
  State.setCore_nvm ..
@[simp] theorem State.setPc_fio (s : State) (c : Core) (a : Word) : (s.setPc c a).fio = s.fio :=
  State.setCore_fio ..
@[simp] theorem State.setPc_crb (s : State) (c : Core) (a : Word) : (s.setPc c a).crb = s.crb :=
  State.setCore_crb ..
@[simp] theorem State.setPc_prt (s : State) (c : Core) (a : Word) : (s.setPc c a).prt = s.prt :=
  State.setCore_prt ..
@[simp] theorem State.setPc_units (s : State) (c : Core) (a : Word) : (s.setPc c a).units = s.units :=
  State.setCore_units ..
@[simp] theorem State.setPc_herd (s : State) (c : Core) (a : Word) : (s.setPc c a).herd = s.herd :=
  State.setCore_herd ..
@[simp] theorem State.setPc_chn (s : State) (c : Core) (a : Word) : (s.setPc c a).chn = s.chn :=
  State.setCore_chn ..
@[simp] theorem State.setPc_cel (s : State) (c : Core) (a : Word) : (s.setPc c a).cel = s.cel :=
  State.setCore_cel ..
@[simp] theorem State.setPc_est (s : State) (c : Core) (a : Word) : (s.setPc c a).est = s.est :=
  State.setCore_est ..
@[simp] theorem State.setPc_hvm (s : State) (c : Core) (a : Word) : (s.setPc c a).hvm = s.hvm :=
  State.setCore_hvm ..
@[simp] theorem State.setPc_ggn (s : State) (c : Core) (a : Word) : (s.setPc c a).ggn = s.ggn :=
  State.setCore_ggn ..
@[simp] theorem State.setPc_can (s : State) (c : Core) (a : Word) : (s.setPc c a).can = s.can :=
  State.setCore_can ..
@[simp] theorem State.setPc_eth (s : State) (c : Core) (a : Word) : (s.setPc c a).eth = s.eth :=
  State.setCore_eth ..
@[simp] theorem State.setPc_ptp (s : State) (c : Core) (a : Word) : (s.setPc c a).ptp = s.ptp :=
  State.setCore_ptp ..
@[simp] theorem State.setPc_upd (s : State) (c : Core) (a : Word) : (s.setPc c a).upd = s.upd :=
  State.setCore_upd ..
@[simp] theorem State.setPc_sys (s : State) (c : Core) (a : Word) : (s.setPc c a).sys = s.sys :=
  State.setCore_sys ..
@[simp] theorem State.setPc_tdm (s : State) (c : Core) (a : Word) : (s.setPc c a).tdm = s.tdm :=
  State.setCore_tdm ..

@[simp] theorem State.advance_regs (s : State) (c : Core) : (s.advance c).regs = s.regs := by
  simp [State.advance]
@[simp] theorem State.advance_mem (s : State) (c : Core) : (s.advance c).mem = s.mem := by
  simp [State.advance]
@[simp] theorem State.advance_pending (s : State) (c : Core) : (s.advance c).pending = s.pending := by
  simp [State.advance]
@[simp] theorem State.advance_free (s : State) (c : Core) : (s.advance c).free = s.free := by
  simp [State.advance]
@[simp] theorem State.advance_nowUs (s : State) (c : Core) : (s.advance c).nowUs = s.nowUs := by
  simp [State.advance]
@[simp] theorem State.advance_rdata (s : State) (c : Core) : (s.advance c).rdata = s.rdata := by
  simp [State.advance]
@[simp] theorem State.advance_dma (s : State) (c : Core) : (s.advance c).dma = s.dma := by
  simp [State.advance]
@[simp] theorem State.advance_evt (s : State) (c : Core) : (s.advance c).evt = s.evt := by
  simp [State.advance]
@[simp] theorem State.advance_pad (s : State) (c : Core) : (s.advance c).pad = s.pad := by
  simp [State.advance]
@[simp] theorem State.advance_power (s : State) (c : Core) : (s.advance c).power = s.power := by
  simp [State.advance]
@[simp] theorem State.advance_thermal (s : State) (c : Core) : (s.advance c).thermal = s.thermal := by
  simp [State.advance]
@[simp] theorem State.advance_nvm (s : State) (c : Core) : (s.advance c).nvm = s.nvm := by
  simp [State.advance]
@[simp] theorem State.advance_fio (s : State) (c : Core) : (s.advance c).fio = s.fio := by
  simp [State.advance]
@[simp] theorem State.advance_crb (s : State) (c : Core) : (s.advance c).crb = s.crb := by
  simp [State.advance]
@[simp] theorem State.advance_prt (s : State) (c : Core) : (s.advance c).prt = s.prt := by
  simp [State.advance]
@[simp] theorem State.advance_units (s : State) (c : Core) : (s.advance c).units = s.units := by
  simp [State.advance]
@[simp] theorem State.advance_herd (s : State) (c : Core) : (s.advance c).herd = s.herd := by
  simp [State.advance]
@[simp] theorem State.advance_chn (s : State) (c : Core) : (s.advance c).chn = s.chn := by
  simp [State.advance]
@[simp] theorem State.advance_cel (s : State) (c : Core) : (s.advance c).cel = s.cel := by
  simp [State.advance]
@[simp] theorem State.advance_est (s : State) (c : Core) : (s.advance c).est = s.est := by
  simp [State.advance]
@[simp] theorem State.advance_hvm (s : State) (c : Core) : (s.advance c).hvm = s.hvm := by
  simp [State.advance]
@[simp] theorem State.advance_ggn (s : State) (c : Core) : (s.advance c).ggn = s.ggn := by
  simp [State.advance]
@[simp] theorem State.advance_can (s : State) (c : Core) : (s.advance c).can = s.can := by
  simp [State.advance]
@[simp] theorem State.advance_eth (s : State) (c : Core) : (s.advance c).eth = s.eth := by
  simp [State.advance]
@[simp] theorem State.advance_ptp (s : State) (c : Core) : (s.advance c).ptp = s.ptp := by
  simp [State.advance]
@[simp] theorem State.advance_upd (s : State) (c : Core) : (s.advance c).upd = s.upd := by
  simp [State.advance]
@[simp] theorem State.advance_sys (s : State) (c : Core) : (s.advance c).sys = s.sys := by
  simp [State.advance]
@[simp] theorem State.advance_tdm (s : State) (c : Core) : (s.advance c).tdm = s.tdm := by
  simp [State.advance]

@[simp] theorem State.setRun_regs (s : State) (c : Core) (r : CoreRun) : (s.setRun c r).regs = s.regs :=
  State.setCore_regs ..
@[simp] theorem State.setRun_mem (s : State) (c : Core) (r : CoreRun) : (s.setRun c r).mem = s.mem :=
  State.setCore_mem ..
@[simp] theorem State.setRun_pending (s : State) (c : Core) (r : CoreRun) : (s.setRun c r).pending = s.pending :=
  State.setCore_pending ..
@[simp] theorem State.setRun_free (s : State) (c : Core) (r : CoreRun) : (s.setRun c r).free = s.free :=
  State.setCore_free ..
@[simp] theorem State.setRun_nowUs (s : State) (c : Core) (r : CoreRun) : (s.setRun c r).nowUs = s.nowUs :=
  State.setCore_nowUs ..
@[simp] theorem State.setRun_rdata (s : State) (c : Core) (r : CoreRun) : (s.setRun c r).rdata = s.rdata :=
  State.setCore_rdata ..
@[simp] theorem State.setRun_dma (s : State) (c : Core) (r : CoreRun) : (s.setRun c r).dma = s.dma :=
  State.setCore_dma ..
@[simp] theorem State.setRun_evt (s : State) (c : Core) (r : CoreRun) : (s.setRun c r).evt = s.evt :=
  State.setCore_evt ..
@[simp] theorem State.setRun_pad (s : State) (c : Core) (r : CoreRun) : (s.setRun c r).pad = s.pad :=
  State.setCore_pad ..
@[simp] theorem State.setRun_power (s : State) (c : Core) (r : CoreRun) : (s.setRun c r).power = s.power :=
  State.setCore_power ..
@[simp] theorem State.setRun_thermal (s : State) (c : Core) (r : CoreRun) : (s.setRun c r).thermal = s.thermal :=
  State.setCore_thermal ..
@[simp] theorem State.setRun_nvm (s : State) (c : Core) (r : CoreRun) : (s.setRun c r).nvm = s.nvm :=
  State.setCore_nvm ..
@[simp] theorem State.setRun_fio (s : State) (c : Core) (r : CoreRun) : (s.setRun c r).fio = s.fio :=
  State.setCore_fio ..
@[simp] theorem State.setRun_crb (s : State) (c : Core) (r : CoreRun) : (s.setRun c r).crb = s.crb :=
  State.setCore_crb ..
@[simp] theorem State.setRun_prt (s : State) (c : Core) (r : CoreRun) : (s.setRun c r).prt = s.prt :=
  State.setCore_prt ..
@[simp] theorem State.setRun_units (s : State) (c : Core) (r : CoreRun) : (s.setRun c r).units = s.units :=
  State.setCore_units ..
@[simp] theorem State.setRun_herd (s : State) (c : Core) (r : CoreRun) : (s.setRun c r).herd = s.herd :=
  State.setCore_herd ..
@[simp] theorem State.setRun_chn (s : State) (c : Core) (r : CoreRun) : (s.setRun c r).chn = s.chn :=
  State.setCore_chn ..
@[simp] theorem State.setRun_cel (s : State) (c : Core) (r : CoreRun) : (s.setRun c r).cel = s.cel :=
  State.setCore_cel ..
@[simp] theorem State.setRun_est (s : State) (c : Core) (r : CoreRun) : (s.setRun c r).est = s.est :=
  State.setCore_est ..
@[simp] theorem State.setRun_hvm (s : State) (c : Core) (r : CoreRun) : (s.setRun c r).hvm = s.hvm :=
  State.setCore_hvm ..
@[simp] theorem State.setRun_ggn (s : State) (c : Core) (r : CoreRun) : (s.setRun c r).ggn = s.ggn :=
  State.setCore_ggn ..
@[simp] theorem State.setRun_can (s : State) (c : Core) (r : CoreRun) : (s.setRun c r).can = s.can :=
  State.setCore_can ..
@[simp] theorem State.setRun_eth (s : State) (c : Core) (r : CoreRun) : (s.setRun c r).eth = s.eth :=
  State.setCore_eth ..
@[simp] theorem State.setRun_ptp (s : State) (c : Core) (r : CoreRun) : (s.setRun c r).ptp = s.ptp :=
  State.setCore_ptp ..
@[simp] theorem State.setRun_upd (s : State) (c : Core) (r : CoreRun) : (s.setRun c r).upd = s.upd :=
  State.setCore_upd ..
@[simp] theorem State.setRun_sys (s : State) (c : Core) (r : CoreRun) : (s.setRun c r).sys = s.sys :=
  State.setCore_sys ..
@[simp] theorem State.setRun_tdm (s : State) (c : Core) (r : CoreRun) : (s.setRun c r).tdm = s.tdm :=
  State.setCore_tdm ..

@[simp] theorem State.setTag_regs (s : State) (c : Core) (t : Nat) (x : TagSt) : (s.setTag c t x).regs = s.regs :=
  State.setCore_regs ..
@[simp] theorem State.setTag_mem (s : State) (c : Core) (t : Nat) (x : TagSt) : (s.setTag c t x).mem = s.mem :=
  State.setCore_mem ..
@[simp] theorem State.setTag_pending (s : State) (c : Core) (t : Nat) (x : TagSt) : (s.setTag c t x).pending = s.pending :=
  State.setCore_pending ..
@[simp] theorem State.setTag_free (s : State) (c : Core) (t : Nat) (x : TagSt) : (s.setTag c t x).free = s.free :=
  State.setCore_free ..
@[simp] theorem State.setTag_nowUs (s : State) (c : Core) (t : Nat) (x : TagSt) : (s.setTag c t x).nowUs = s.nowUs :=
  State.setCore_nowUs ..
@[simp] theorem State.setTag_rdata (s : State) (c : Core) (t : Nat) (x : TagSt) : (s.setTag c t x).rdata = s.rdata :=
  State.setCore_rdata ..
@[simp] theorem State.setTag_dma (s : State) (c : Core) (t : Nat) (x : TagSt) : (s.setTag c t x).dma = s.dma :=
  State.setCore_dma ..
@[simp] theorem State.setTag_evt (s : State) (c : Core) (t : Nat) (x : TagSt) : (s.setTag c t x).evt = s.evt :=
  State.setCore_evt ..
@[simp] theorem State.setTag_pad (s : State) (c : Core) (t : Nat) (x : TagSt) : (s.setTag c t x).pad = s.pad :=
  State.setCore_pad ..
@[simp] theorem State.setTag_power (s : State) (c : Core) (t : Nat) (x : TagSt) : (s.setTag c t x).power = s.power :=
  State.setCore_power ..
@[simp] theorem State.setTag_thermal (s : State) (c : Core) (t : Nat) (x : TagSt) : (s.setTag c t x).thermal = s.thermal :=
  State.setCore_thermal ..
@[simp] theorem State.setTag_nvm (s : State) (c : Core) (t : Nat) (x : TagSt) : (s.setTag c t x).nvm = s.nvm :=
  State.setCore_nvm ..
@[simp] theorem State.setTag_fio (s : State) (c : Core) (t : Nat) (x : TagSt) : (s.setTag c t x).fio = s.fio :=
  State.setCore_fio ..
@[simp] theorem State.setTag_crb (s : State) (c : Core) (t : Nat) (x : TagSt) : (s.setTag c t x).crb = s.crb :=
  State.setCore_crb ..
@[simp] theorem State.setTag_prt (s : State) (c : Core) (t : Nat) (x : TagSt) : (s.setTag c t x).prt = s.prt :=
  State.setCore_prt ..
@[simp] theorem State.setTag_units (s : State) (c : Core) (t : Nat) (x : TagSt) : (s.setTag c t x).units = s.units :=
  State.setCore_units ..
@[simp] theorem State.setTag_herd (s : State) (c : Core) (t : Nat) (x : TagSt) : (s.setTag c t x).herd = s.herd :=
  State.setCore_herd ..
@[simp] theorem State.setTag_chn (s : State) (c : Core) (t : Nat) (x : TagSt) : (s.setTag c t x).chn = s.chn :=
  State.setCore_chn ..
@[simp] theorem State.setTag_cel (s : State) (c : Core) (t : Nat) (x : TagSt) : (s.setTag c t x).cel = s.cel :=
  State.setCore_cel ..
@[simp] theorem State.setTag_est (s : State) (c : Core) (t : Nat) (x : TagSt) : (s.setTag c t x).est = s.est :=
  State.setCore_est ..
@[simp] theorem State.setTag_hvm (s : State) (c : Core) (t : Nat) (x : TagSt) : (s.setTag c t x).hvm = s.hvm :=
  State.setCore_hvm ..
@[simp] theorem State.setTag_ggn (s : State) (c : Core) (t : Nat) (x : TagSt) : (s.setTag c t x).ggn = s.ggn :=
  State.setCore_ggn ..
@[simp] theorem State.setTag_can (s : State) (c : Core) (t : Nat) (x : TagSt) : (s.setTag c t x).can = s.can :=
  State.setCore_can ..
@[simp] theorem State.setTag_eth (s : State) (c : Core) (t : Nat) (x : TagSt) : (s.setTag c t x).eth = s.eth :=
  State.setCore_eth ..
@[simp] theorem State.setTag_ptp (s : State) (c : Core) (t : Nat) (x : TagSt) : (s.setTag c t x).ptp = s.ptp :=
  State.setCore_ptp ..
@[simp] theorem State.setTag_upd (s : State) (c : Core) (t : Nat) (x : TagSt) : (s.setTag c t x).upd = s.upd :=
  State.setCore_upd ..
@[simp] theorem State.setTag_sys (s : State) (c : Core) (t : Nat) (x : TagSt) : (s.setTag c t x).sys = s.sys :=
  State.setCore_sys ..
@[simp] theorem State.setTag_tdm (s : State) (c : Core) (t : Nat) (x : TagSt) : (s.setTag c t x).tdm = s.tdm :=
  State.setCore_tdm ..

@[simp] theorem State.setFlags_regs (s : State) (k : Core) (z n c v : Bool) : (s.setFlags k z n c v).regs = s.regs := by
  simp [State.setFlags]
@[simp] theorem State.setFlags_mem (s : State) (k : Core) (z n c v : Bool) : (s.setFlags k z n c v).mem = s.mem := by
  simp [State.setFlags]
@[simp] theorem State.setFlags_pending (s : State) (k : Core) (z n c v : Bool) : (s.setFlags k z n c v).pending = s.pending := by
  simp [State.setFlags]
@[simp] theorem State.setFlags_free (s : State) (k : Core) (z n c v : Bool) : (s.setFlags k z n c v).free = s.free := by
  simp [State.setFlags]
@[simp] theorem State.setFlags_nowUs (s : State) (k : Core) (z n c v : Bool) : (s.setFlags k z n c v).nowUs = s.nowUs := by
  simp [State.setFlags]
@[simp] theorem State.setFlags_rdata (s : State) (k : Core) (z n c v : Bool) : (s.setFlags k z n c v).rdata = s.rdata := by
  simp [State.setFlags]
@[simp] theorem State.setFlags_dma (s : State) (k : Core) (z n c v : Bool) : (s.setFlags k z n c v).dma = s.dma := by
  simp [State.setFlags]
@[simp] theorem State.setFlags_evt (s : State) (k : Core) (z n c v : Bool) : (s.setFlags k z n c v).evt = s.evt := by
  simp [State.setFlags]
@[simp] theorem State.setFlags_pad (s : State) (k : Core) (z n c v : Bool) : (s.setFlags k z n c v).pad = s.pad := by
  simp [State.setFlags]
@[simp] theorem State.setFlags_power (s : State) (k : Core) (z n c v : Bool) : (s.setFlags k z n c v).power = s.power := by
  simp [State.setFlags]
@[simp] theorem State.setFlags_thermal (s : State) (k : Core) (z n c v : Bool) : (s.setFlags k z n c v).thermal = s.thermal := by
  simp [State.setFlags]
@[simp] theorem State.setFlags_nvm (s : State) (k : Core) (z n c v : Bool) : (s.setFlags k z n c v).nvm = s.nvm := by
  simp [State.setFlags]
@[simp] theorem State.setFlags_fio (s : State) (k : Core) (z n c v : Bool) : (s.setFlags k z n c v).fio = s.fio := by
  simp [State.setFlags]
@[simp] theorem State.setFlags_crb (s : State) (k : Core) (z n c v : Bool) : (s.setFlags k z n c v).crb = s.crb := by
  simp [State.setFlags]
@[simp] theorem State.setFlags_prt (s : State) (k : Core) (z n c v : Bool) : (s.setFlags k z n c v).prt = s.prt := by
  simp [State.setFlags]
@[simp] theorem State.setFlags_units (s : State) (k : Core) (z n c v : Bool) : (s.setFlags k z n c v).units = s.units := by
  simp [State.setFlags]
@[simp] theorem State.setFlags_herd (s : State) (k : Core) (z n c v : Bool) : (s.setFlags k z n c v).herd = s.herd := by
  simp [State.setFlags]
@[simp] theorem State.setFlags_chn (s : State) (k : Core) (z n c v : Bool) : (s.setFlags k z n c v).chn = s.chn := by
  simp [State.setFlags]
@[simp] theorem State.setFlags_cel (s : State) (k : Core) (z n c v : Bool) : (s.setFlags k z n c v).cel = s.cel := by
  simp [State.setFlags]
@[simp] theorem State.setFlags_est (s : State) (k : Core) (z n c v : Bool) : (s.setFlags k z n c v).est = s.est := by
  simp [State.setFlags]
@[simp] theorem State.setFlags_hvm (s : State) (k : Core) (z n c v : Bool) : (s.setFlags k z n c v).hvm = s.hvm := by
  simp [State.setFlags]
@[simp] theorem State.setFlags_ggn (s : State) (k : Core) (z n c v : Bool) : (s.setFlags k z n c v).ggn = s.ggn := by
  simp [State.setFlags]
@[simp] theorem State.setFlags_can (s : State) (k : Core) (z n c v : Bool) : (s.setFlags k z n c v).can = s.can := by
  simp [State.setFlags]
@[simp] theorem State.setFlags_eth (s : State) (k : Core) (z n c v : Bool) : (s.setFlags k z n c v).eth = s.eth := by
  simp [State.setFlags]
@[simp] theorem State.setFlags_ptp (s : State) (k : Core) (z n c v : Bool) : (s.setFlags k z n c v).ptp = s.ptp := by
  simp [State.setFlags]
@[simp] theorem State.setFlags_upd (s : State) (k : Core) (z n c v : Bool) : (s.setFlags k z n c v).upd = s.upd := by
  simp [State.setFlags]
@[simp] theorem State.setFlags_sys (s : State) (k : Core) (z n c v : Bool) : (s.setFlags k z n c v).sys = s.sys := by
  simp [State.setFlags]
@[simp] theorem State.setFlags_tdm (s : State) (k : Core) (z n c v : Bool) : (s.setFlags k z n c v).tdm = s.tdm := by
  simp [State.setFlags]

@[simp] theorem State.setCrstat_regs (s : State) (c : Core) (b : Nat) : (s.setCrstat c b).regs = s.regs := by
  simp [State.setCrstat]
@[simp] theorem State.setCrstat_mem (s : State) (c : Core) (b : Nat) : (s.setCrstat c b).mem = s.mem := by
  simp [State.setCrstat]
@[simp] theorem State.setCrstat_pending (s : State) (c : Core) (b : Nat) : (s.setCrstat c b).pending = s.pending := by
  simp [State.setCrstat]
@[simp] theorem State.setCrstat_free (s : State) (c : Core) (b : Nat) : (s.setCrstat c b).free = s.free := by
  simp [State.setCrstat]
@[simp] theorem State.setCrstat_nowUs (s : State) (c : Core) (b : Nat) : (s.setCrstat c b).nowUs = s.nowUs := by
  simp [State.setCrstat]
@[simp] theorem State.setCrstat_rdata (s : State) (c : Core) (b : Nat) : (s.setCrstat c b).rdata = s.rdata := by
  simp [State.setCrstat]
@[simp] theorem State.setCrstat_dma (s : State) (c : Core) (b : Nat) : (s.setCrstat c b).dma = s.dma := by
  simp [State.setCrstat]
@[simp] theorem State.setCrstat_evt (s : State) (c : Core) (b : Nat) : (s.setCrstat c b).evt = s.evt := by
  simp [State.setCrstat]
@[simp] theorem State.setCrstat_pad (s : State) (c : Core) (b : Nat) : (s.setCrstat c b).pad = s.pad := by
  simp [State.setCrstat]
@[simp] theorem State.setCrstat_power (s : State) (c : Core) (b : Nat) : (s.setCrstat c b).power = s.power := by
  simp [State.setCrstat]
@[simp] theorem State.setCrstat_thermal (s : State) (c : Core) (b : Nat) : (s.setCrstat c b).thermal = s.thermal := by
  simp [State.setCrstat]
@[simp] theorem State.setCrstat_nvm (s : State) (c : Core) (b : Nat) : (s.setCrstat c b).nvm = s.nvm := by
  simp [State.setCrstat]
@[simp] theorem State.setCrstat_fio (s : State) (c : Core) (b : Nat) : (s.setCrstat c b).fio = s.fio := by
  simp [State.setCrstat]
@[simp] theorem State.setCrstat_crb (s : State) (c : Core) (b : Nat) : (s.setCrstat c b).crb = s.crb := by
  simp [State.setCrstat]
@[simp] theorem State.setCrstat_prt (s : State) (c : Core) (b : Nat) : (s.setCrstat c b).prt = s.prt := by
  simp [State.setCrstat]
@[simp] theorem State.setCrstat_units (s : State) (c : Core) (b : Nat) : (s.setCrstat c b).units = s.units := by
  simp [State.setCrstat]
@[simp] theorem State.setCrstat_herd (s : State) (c : Core) (b : Nat) : (s.setCrstat c b).herd = s.herd := by
  simp [State.setCrstat]
@[simp] theorem State.setCrstat_chn (s : State) (c : Core) (b : Nat) : (s.setCrstat c b).chn = s.chn := by
  simp [State.setCrstat]
@[simp] theorem State.setCrstat_cel (s : State) (c : Core) (b : Nat) : (s.setCrstat c b).cel = s.cel := by
  simp [State.setCrstat]
@[simp] theorem State.setCrstat_est (s : State) (c : Core) (b : Nat) : (s.setCrstat c b).est = s.est := by
  simp [State.setCrstat]
@[simp] theorem State.setCrstat_hvm (s : State) (c : Core) (b : Nat) : (s.setCrstat c b).hvm = s.hvm := by
  simp [State.setCrstat]
@[simp] theorem State.setCrstat_ggn (s : State) (c : Core) (b : Nat) : (s.setCrstat c b).ggn = s.ggn := by
  simp [State.setCrstat]
@[simp] theorem State.setCrstat_can (s : State) (c : Core) (b : Nat) : (s.setCrstat c b).can = s.can := by
  simp [State.setCrstat]
@[simp] theorem State.setCrstat_eth (s : State) (c : Core) (b : Nat) : (s.setCrstat c b).eth = s.eth := by
  simp [State.setCrstat]
@[simp] theorem State.setCrstat_ptp (s : State) (c : Core) (b : Nat) : (s.setCrstat c b).ptp = s.ptp := by
  simp [State.setCrstat]
@[simp] theorem State.setCrstat_upd (s : State) (c : Core) (b : Nat) : (s.setCrstat c b).upd = s.upd := by
  simp [State.setCrstat]
@[simp] theorem State.setCrstat_sys (s : State) (c : Core) (b : Nat) : (s.setCrstat c b).sys = s.sys := by
  simp [State.setCrstat]
@[simp] theorem State.setCrstat_tdm (s : State) (c : Core) (b : Nat) : (s.setCrstat c b).tdm = s.tdm := by
  simp [State.setCrstat]

end Sys2Proof.Machine
end

