-- ==== Sys2Proof/Laws/Core.lean ====
section
/-! SUPPORT. Scalar cores: what each update of a core's record reads back as. -/

namespace Sys2Proof.Machine
open Sys2Proof

/-! ### The record of a core -/

theorem core_setCore (s : State) (c k : Core) (x : CoreSt) :
    (s.setCore c x).core k = if k = c then x else s.core k := by
  cases c <;> cases k <;> rfl

@[simp] theorem core_setCore_same (s : State) (c : Core) (x : CoreSt) : (s.setCore c x).core c = x := by
  simp [core_setCore]

@[simp] theorem core_setCore_ne (s : State) {c k : Core} (x : CoreSt) (h : k ≠ c) :
    (s.setCore c x).core k = s.core k := by simp [core_setCore, h]

@[simp] theorem setCore_setCore (s : State) (c : Core) (x y : CoreSt) :
    (s.setCore c x).setCore c y = s.setCore c y := by cases c <;> rfl

@[simp] theorem setCore_core (s : State) (c : Core) : s.setCore c (s.core c) = s := by cases c <;> rfl

/-! ### Updates are updates of the record -/

@[simp] theorem core_setG_ne (s : State) {c k : Core} (r : Reg) (v : Word) (h : k ≠ c) :
    (s.setG c r v).core k = s.core k := by
  unfold State.setG; split <;> simp [h]

@[simp] theorem core_setCr_ne (s : State) {c k : Core} (n : Nat) (v : Word) (h : k ≠ c) :
    (s.setCr c n v).core k = s.core k := by simp [State.setCr, h]

@[simp] theorem core_setPc_ne (s : State) {c k : Core} (a : Word) (h : k ≠ c) :
    (s.setPc c a).core k = s.core k := by simp [State.setPc, h]

@[simp] theorem core_setRun_ne (s : State) {c k : Core} (r : CoreRun) (h : k ≠ c) :
    (s.setRun c r).core k = s.core k := by simp [State.setRun, h]

@[simp] theorem setG_setCore (s : State) (c : Core) (r : Reg) (v : Word) (x : CoreSt) :
    (s.setG c r v).setCore c x = s.setCore c x := by
  unfold State.setG; split <;> simp

@[simp] theorem setCr_setCore (s : State) (c : Core) (n : Nat) (v : Word) (x : CoreSt) :
    (s.setCr c n v).setCore c x = s.setCore c x := by simp [State.setCr]

@[simp] theorem setPc_setCore (s : State) (c : Core) (a : Word) (x : CoreSt) :
    (s.setPc c a).setCore c x = s.setCore c x := by simp [State.setPc]

@[simp] theorem setRun_setCore (s : State) (c : Core) (r : CoreRun) (x : CoreSt) :
    (s.setRun c r).setCore c x = s.setCore c x := by simp [State.setRun]

@[simp] theorem setFlags_setCore (s : State) (c : Core) (z n k v : Bool) (x : CoreSt) :
    (s.setFlags c z n k v).setCore c x = s.setCore c x := by simp [State.setFlags]

@[simp] theorem advance_setCore (s : State) (c : Core) (x : CoreSt) :
    (s.advance c).setCore c x = s.setCore c x := by simp [State.advance]

@[simp] theorem eccSeen_setCore (s : State) (c : Core) (x : CoreSt) :
    (s.eccSeen c).setCore c x = s.setCore c x := by simp [State.eccSeen]

/-! ### General registers -/

@[simp] theorem g_zero (s : State) (c : Core) : s.g c 0#5 = 0#32 := rfl

theorem g_setG (s : State) (c : Core) (r q : Reg) (v : Word) :
    (s.setG c r v).g c q = if q = r ∧ q ≠ 0 then v else s.g c q := by
  by_cases hr : r = 0
  · subst hr
    by_cases hq : q = 0 <;> simp [State.setG, hq]
  · by_cases hq : q = 0
    · simp [hq]
    · have hs : s.setG c r v = s.setCore c { s.core c with g := mapSet 0 (s.core c).g r.toNat v } := if_neg hr
      by_cases h : q = r
      · subst h; rw [hs, if_pos ⟨rfl, hq⟩, State.g, if_neg hq]; simp
      · have h' : q.toNat ≠ r.toNat := fun e => h (BitVec.eq_of_toNat_eq e)
        rw [hs, if_neg (fun e => h e.1), State.g, State.g, if_neg hq, if_neg hq]
        simp [mapGet_mapSet_ne _ _ _ _ h']

@[simp] theorem g_setG_ne (s : State) {c k : Core} (r q : Reg) (v : Word) (h : k ≠ c) :
    (s.setG c r v).g k q = s.g k q := by simp [State.g, h]

@[simp] theorem g_setCr (s : State) (c k : Core) (n : Nat) (v : Word) (q : Reg) :
    (s.setCr c n v).g k q = s.g k q := by
  by_cases h : k = c
  · subst h; simp [State.g, State.setCr]
  · simp [State.g, h]

@[simp] theorem g_setPc (s : State) (c k : Core) (a : Word) (q : Reg) : (s.setPc c a).g k q = s.g k q := by
  by_cases h : k = c
  · subst h; simp [State.g, State.setPc]
  · simp [State.g, h]

@[simp] theorem g_setRun (s : State) (c k : Core) (r : CoreRun) (q : Reg) : (s.setRun c r).g k q = s.g k q := by
  by_cases h : k = c
  · subst h; simp [State.g, State.setRun]
  · simp [State.g, h]

@[simp] theorem g_advance (s : State) (c k : Core) (q : Reg) : (s.advance c).g k q = s.g k q := by
  simp [State.advance]

@[simp] theorem g_setFlags (s : State) (c k : Core) (z n a v : Bool) (q : Reg) :
    (s.setFlags c z n a v).g k q = s.g k q := by simp [State.setFlags]

@[simp] theorem g_eccSeen (s : State) (c k : Core) (q : Reg) : (s.eccSeen c).g k q = s.g k q := by
  simp [State.eccSeen]

/-! ### Control registers -/

@[simp] theorem cr_setCr_same (s : State) (c : Core) (n : Nat) (v : Word) : (s.setCr c n v).cr c n = v := by
  simp [State.cr, State.setCr]

@[simp] theorem cr_setCr_ne (s : State) (c : Core) {n m : Nat} (v : Word) (h : m ≠ n) :
    (s.setCr c n v).cr c m = s.cr c m := by
  simp [State.cr, State.setCr, mapGet_mapSet_ne _ _ _ _ h]

theorem cr_setCr (s : State) (c : Core) (n m : Nat) (v : Word) :
    (s.setCr c n v).cr c m = if m = n then v else s.cr c m := by
  by_cases h : m = n
  · subst h; simp
  · simp [h]

@[simp] theorem cr_setG (s : State) (c k : Core) (r : Reg) (v : Word) (m : Nat) :
    (s.setG c r v).cr k m = s.cr k m := by
  by_cases h : k = c
  · subst h; unfold State.setG; split <;> simp [State.cr]
  · simp [State.cr, h]

@[simp] theorem cr_setPc (s : State) (c k : Core) (a : Word) (m : Nat) : (s.setPc c a).cr k m = s.cr k m := by
  by_cases h : k = c
  · subst h; simp [State.cr, State.setPc]
  · simp [State.cr, h]

@[simp] theorem cr_setRun (s : State) (c k : Core) (r : CoreRun) (m : Nat) : (s.setRun c r).cr k m = s.cr k m := by
  by_cases h : k = c
  · subst h; simp [State.cr, State.setRun]
  · simp [State.cr, h]

@[simp] theorem cr_advance (s : State) (c k : Core) (m : Nat) : (s.advance c).cr k m = s.cr k m := by
  simp [State.advance]

/-! ### Program counter, activity, tags -/

@[simp] theorem pc_setPc (s : State) (c : Core) (a : Word) : (s.setPc c a).pc c = a := by
  simp [State.pc, State.setPc]

@[simp] theorem pc_advance (s : State) (c : Core) : (s.advance c).pc c = s.pc c + 4 := by
  simp [State.advance]

@[simp] theorem pc_setG (s : State) (c k : Core) (r : Reg) (v : Word) : (s.setG c r v).pc k = s.pc k := by
  by_cases h : k = c
  · subst h; unfold State.setG; split <;> simp [State.pc]
  · simp [State.pc, h]

@[simp] theorem pc_setCr (s : State) (c k : Core) (n : Nat) (v : Word) : (s.setCr c n v).pc k = s.pc k := by
  by_cases h : k = c
  · subst h; simp [State.pc, State.setCr]
  · simp [State.pc, h]

@[simp] theorem pc_setFlags (s : State) (c k : Core) (z n a v : Bool) :
    (s.setFlags c z n a v).pc k = s.pc k := by simp [State.setFlags]

@[simp] theorem pc_eccSeen (s : State) (c k : Core) : (s.eccSeen c).pc k = s.pc k := by simp [State.eccSeen]

@[simp] theorem pc_setRun (s : State) (c k : Core) (r : CoreRun) : (s.setRun c r).pc k = s.pc k := by
  by_cases h : k = c
  · subst h; simp [State.pc, State.setRun]
  · simp [State.pc, h]

@[simp] theorem run_setRun (s : State) (c : Core) (r : CoreRun) : ((s.setRun c r).core c).run = r := by
  simp [State.setRun]

@[simp] theorem run_setPc (s : State) (c k : Core) (a : Word) : ((s.setPc c a).core k).run = (s.core k).run := by
  by_cases h : k = c
  · subst h; simp [State.setPc]
  · simp [h]

@[simp] theorem run_setG (s : State) (c k : Core) (r : Reg) (v : Word) :
    ((s.setG c r v).core k).run = (s.core k).run := by
  by_cases h : k = c
  · subst h; unfold State.setG; split <;> simp
  · simp [h]

@[simp] theorem run_setCr (s : State) (c k : Core) (n : Nat) (v : Word) :
    ((s.setCr c n v).core k).run = (s.core k).run := by
  by_cases h : k = c
  · subst h; simp [State.setCr]
  · simp [h]

@[simp] theorem run_advance (s : State) (c k : Core) : ((s.advance c).core k).run = (s.core k).run := by
  simp [State.advance]

@[simp] theorem tags_setG (s : State) (c k : Core) (r : Reg) (v : Word) :
    ((s.setG c r v).core k).tags = (s.core k).tags := by
  by_cases h : k = c
  · subst h; unfold State.setG; split <;> simp
  · simp [h]

@[simp] theorem tags_setPc (s : State) (c k : Core) (a : Word) :
    ((s.setPc c a).core k).tags = (s.core k).tags := by
  by_cases h : k = c
  · subst h; simp [State.setPc]
  · simp [h]

@[simp] theorem tags_setCr (s : State) (c k : Core) (n : Nat) (v : Word) :
    ((s.setCr c n v).core k).tags = (s.core k).tags := by
  by_cases h : k = c
  · subst h; simp [State.setCr]
  · simp [h]

@[simp] theorem tags_setRun (s : State) (c k : Core) (r : CoreRun) :
    ((s.setRun c r).core k).tags = (s.core k).tags := by
  by_cases h : k = c
  · subst h; simp [State.setRun]
  · simp [h]

@[simp] theorem tags_advance (s : State) (c k : Core) : ((s.advance c).core k).tags = (s.core k).tags := by
  simp [State.advance]

end Sys2Proof.Machine
end

