-- ==== Sys2Proof/Laws/Dispatch.lean ====
section
/-! SUPPORT. The arms of exec, one lemma per command: its meaning. -/

namespace Sys2Proof.Machine
open Sys2Proof

@[simp] theorem exec_add (f : Fetch) (fl : Bool) (dst srcA srcB : Reg) (s : State) :
    exec (.add f fl dst srcA srcB) s = execAdd f fl dst srcA srcB s := rfl
@[simp] theorem exec_sub (f : Fetch) (fl : Bool) (dst srcA srcB : Reg) (s : State) :
    exec (.sub f fl dst srcA srcB) s = execSub f fl dst srcA srcB s := rfl
@[simp] theorem exec_and (f : Fetch) (fl : Bool) (dst srcA srcB : Reg) (s : State) :
    exec (.and f fl dst srcA srcB) s = execAnd f fl dst srcA srcB s := rfl
@[simp] theorem exec_or (f : Fetch) (fl : Bool) (dst srcA srcB : Reg) (s : State) :
    exec (.or f fl dst srcA srcB) s = execOr f fl dst srcA srcB s := rfl
@[simp] theorem exec_xor (f : Fetch) (fl : Bool) (dst srcA srcB : Reg) (s : State) :
    exec (.xor f fl dst srcA srcB) s = execXor f fl dst srcA srcB s := rfl
@[simp] theorem exec_shl (f : Fetch) (fl : Bool) (dst srcA srcB : Reg) (s : State) :
    exec (.shl f fl dst srcA srcB) s = execShl f fl dst srcA srcB s := rfl
@[simp] theorem exec_shr (f : Fetch) (fl : Bool) (dst srcA srcB : Reg) (s : State) :
    exec (.shr f fl dst srcA srcB) s = execShr f fl dst srcA srcB s := rfl
@[simp] theorem exec_sar (f : Fetch) (fl : Bool) (dst srcA srcB : Reg) (s : State) :
    exec (.sar f fl dst srcA srcB) s = execSar f fl dst srcA srcB s := rfl
@[simp] theorem exec_slt (f : Fetch) (fl : Bool) (dst srcA srcB : Reg) (s : State) :
    exec (.slt f fl dst srcA srcB) s = execSlt f fl dst srcA srcB s := rfl
@[simp] theorem exec_sltu (f : Fetch) (fl : Bool) (dst srcA srcB : Reg) (s : State) :
    exec (.sltu f fl dst srcA srcB) s = execSltu f fl dst srcA srcB s := rfl
@[simp] theorem exec_min (f : Fetch) (fl : Bool) (dst srcA srcB : Reg) (s : State) :
    exec (.min f fl dst srcA srcB) s = execMin f fl dst srcA srcB s := rfl
@[simp] theorem exec_max (f : Fetch) (fl : Bool) (dst srcA srcB : Reg) (s : State) :
    exec (.max f fl dst srcA srcB) s = execMax f fl dst srcA srcB s := rfl
@[simp] theorem exec_minu (f : Fetch) (fl : Bool) (dst srcA srcB : Reg) (s : State) :
    exec (.minu f fl dst srcA srcB) s = execMinu f fl dst srcA srcB s := rfl
@[simp] theorem exec_maxu (f : Fetch) (fl : Bool) (dst srcA srcB : Reg) (s : State) :
    exec (.maxu f fl dst srcA srcB) s = execMaxu f fl dst srcA srcB s := rfl
@[simp] theorem exec_mul (f : Fetch) (fl : Bool) (dst srcA srcB : Reg) (s : State) :
    exec (.mul f fl dst srcA srcB) s = execMul f fl dst srcA srcB s := rfl
@[simp] theorem exec_mulh (f : Fetch) (fl : Bool) (dst srcA srcB : Reg) (s : State) :
    exec (.mulh f fl dst srcA srcB) s = execMulh f fl dst srcA srcB s := rfl
@[simp] theorem exec_mulhu (f : Fetch) (fl : Bool) (dst srcA srcB : Reg) (s : State) :
    exec (.mulhu f fl dst srcA srcB) s = execMulhu f fl dst srcA srcB s := rfl
@[simp] theorem exec_div (f : Fetch) (fl : Bool) (dst srcA srcB : Reg) (s : State) :
    exec (.div f fl dst srcA srcB) s = execDiv f fl dst srcA srcB s := rfl
@[simp] theorem exec_divu (f : Fetch) (fl : Bool) (dst srcA srcB : Reg) (s : State) :
    exec (.divu f fl dst srcA srcB) s = execDivu f fl dst srcA srcB s := rfl
@[simp] theorem exec_rem (f : Fetch) (fl : Bool) (dst srcA srcB : Reg) (s : State) :
    exec (.rem f fl dst srcA srcB) s = execRem f fl dst srcA srcB s := rfl
@[simp] theorem exec_remu (f : Fetch) (fl : Bool) (dst srcA srcB : Reg) (s : State) :
    exec (.remu f fl dst srcA srcB) s = execRemu f fl dst srcA srcB s := rfl
@[simp] theorem exec_jalr (f : Fetch) (fl : Bool) (dst srcA srcB : Reg) (s : State) :
    exec (.jalr f fl dst srcA srcB) s = execJalr f fl dst srcA srcB s := rfl
@[simp] theorem exec_addi (f : Fetch) (fl : Bool) (dst srcA : Reg) (imm : BitVec 13) (s : State) :
    exec (.addi f fl dst srcA imm) s = execAddi f fl dst srcA imm s := rfl
@[simp] theorem exec_subi (f : Fetch) (fl : Bool) (dst srcA : Reg) (imm : BitVec 13) (s : State) :
    exec (.subi f fl dst srcA imm) s = execSubi f fl dst srcA imm s := rfl
@[simp] theorem exec_andi (f : Fetch) (fl : Bool) (dst srcA : Reg) (imm : BitVec 13) (s : State) :
    exec (.andi f fl dst srcA imm) s = execAndi f fl dst srcA imm s := rfl
@[simp] theorem exec_ori (f : Fetch) (fl : Bool) (dst srcA : Reg) (imm : BitVec 13) (s : State) :
    exec (.ori f fl dst srcA imm) s = execOri f fl dst srcA imm s := rfl
@[simp] theorem exec_xori (f : Fetch) (fl : Bool) (dst srcA : Reg) (imm : BitVec 13) (s : State) :
    exec (.xori f fl dst srcA imm) s = execXori f fl dst srcA imm s := rfl
@[simp] theorem exec_shli (f : Fetch) (fl : Bool) (dst srcA : Reg) (imm : BitVec 13) (s : State) :
    exec (.shli f fl dst srcA imm) s = execShli f fl dst srcA imm s := rfl
@[simp] theorem exec_shri (f : Fetch) (fl : Bool) (dst srcA : Reg) (imm : BitVec 13) (s : State) :
    exec (.shri f fl dst srcA imm) s = execShri f fl dst srcA imm s := rfl
@[simp] theorem exec_sari (f : Fetch) (fl : Bool) (dst srcA : Reg) (imm : BitVec 13) (s : State) :
    exec (.sari f fl dst srcA imm) s = execSari f fl dst srcA imm s := rfl
@[simp] theorem exec_slti (f : Fetch) (fl : Bool) (dst srcA : Reg) (imm : BitVec 13) (s : State) :
    exec (.slti f fl dst srcA imm) s = execSlti f fl dst srcA imm s := rfl
@[simp] theorem exec_sltiu (f : Fetch) (fl : Bool) (dst srcA : Reg) (imm : BitVec 13) (s : State) :
    exec (.sltiu f fl dst srcA imm) s = execSltiu f fl dst srcA imm s := rfl
@[simp] theorem exec_lb (f : Fetch) (dst srcA : Reg) (imm : BitVec 13) (ecc : Ecc) (s : State) :
    exec (.lb f dst srcA imm ecc) s = execLb f dst srcA imm ecc s := rfl
@[simp] theorem exec_lbu (f : Fetch) (dst srcA : Reg) (imm : BitVec 13) (ecc : Ecc) (s : State) :
    exec (.lbu f dst srcA imm ecc) s = execLbu f dst srcA imm ecc s := rfl
@[simp] theorem exec_lh (f : Fetch) (dst srcA : Reg) (imm : BitVec 13) (ecc : Ecc) (s : State) :
    exec (.lh f dst srcA imm ecc) s = execLh f dst srcA imm ecc s := rfl
@[simp] theorem exec_lhu (f : Fetch) (dst srcA : Reg) (imm : BitVec 13) (ecc : Ecc) (s : State) :
    exec (.lhu f dst srcA imm ecc) s = execLhu f dst srcA imm ecc s := rfl
@[simp] theorem exec_lw (f : Fetch) (dst srcA : Reg) (imm : BitVec 13) (ecc : Ecc) (s : State) :
    exec (.lw f dst srcA imm ecc) s = execLw f dst srcA imm ecc s := rfl
@[simp] theorem exec_sb (f : Fetch) (srcD srcA : Reg) (imm : BitVec 13) (s : State) :
    exec (.sb f srcD srcA imm) s = execSb f srcD srcA imm s := rfl
@[simp] theorem exec_sh (f : Fetch) (srcD srcA : Reg) (imm : BitVec 13) (s : State) :
    exec (.sh f srcD srcA imm) s = execSh f srcD srcA imm s := rfl
@[simp] theorem exec_sw (f : Fetch) (srcD srcA : Reg) (imm : BitVec 13) (s : State) :
    exec (.sw f srcD srcA imm) s = execSw f srcD srcA imm s := rfl
@[simp] theorem exec_beq (f : Fetch) (srcA : Reg) (off : BitVec 18) (s : State) :
    exec (.beq f srcA off) s = execBeq f srcA off s := rfl
@[simp] theorem exec_bne (f : Fetch) (srcA : Reg) (off : BitVec 18) (s : State) :
    exec (.bne f srcA off) s = execBne f srcA off s := rfl
@[simp] theorem exec_bhs (f : Fetch) (srcA : Reg) (off : BitVec 18) (s : State) :
    exec (.bhs f srcA off) s = execBhs f srcA off s := rfl
@[simp] theorem exec_blo (f : Fetch) (srcA : Reg) (off : BitVec 18) (s : State) :
    exec (.blo f srcA off) s = execBlo f srcA off s := rfl
@[simp] theorem exec_bmi (f : Fetch) (srcA : Reg) (off : BitVec 18) (s : State) :
    exec (.bmi f srcA off) s = execBmi f srcA off s := rfl
@[simp] theorem exec_bpl (f : Fetch) (srcA : Reg) (off : BitVec 18) (s : State) :
    exec (.bpl f srcA off) s = execBpl f srcA off s := rfl
@[simp] theorem exec_bvs (f : Fetch) (srcA : Reg) (off : BitVec 18) (s : State) :
    exec (.bvs f srcA off) s = execBvs f srcA off s := rfl
@[simp] theorem exec_bvc (f : Fetch) (srcA : Reg) (off : BitVec 18) (s : State) :
    exec (.bvc f srcA off) s = execBvc f srcA off s := rfl
@[simp] theorem exec_bhi (f : Fetch) (srcA : Reg) (off : BitVec 18) (s : State) :
    exec (.bhi f srcA off) s = execBhi f srcA off s := rfl
@[simp] theorem exec_bls (f : Fetch) (srcA : Reg) (off : BitVec 18) (s : State) :
    exec (.bls f srcA off) s = execBls f srcA off s := rfl
@[simp] theorem exec_bge (f : Fetch) (srcA : Reg) (off : BitVec 18) (s : State) :
    exec (.bge f srcA off) s = execBge f srcA off s := rfl
@[simp] theorem exec_blt (f : Fetch) (srcA : Reg) (off : BitVec 18) (s : State) :
    exec (.blt f srcA off) s = execBlt f srcA off s := rfl
@[simp] theorem exec_bgt (f : Fetch) (srcA : Reg) (off : BitVec 18) (s : State) :
    exec (.bgt f srcA off) s = execBgt f srcA off s := rfl
@[simp] theorem exec_ble (f : Fetch) (srcA : Reg) (off : BitVec 18) (s : State) :
    exec (.ble f srcA off) s = execBle f srcA off s := rfl
@[simp] theorem exec_j (f : Fetch) (srcA : Reg) (off : BitVec 18) (s : State) :
    exec (.j f srcA off) s = execJ f srcA off s := rfl
@[simp] theorem exec_bz (f : Fetch) (srcA : Reg) (off : BitVec 18) (s : State) :
    exec (.bz f srcA off) s = execBz f srcA off s := rfl
@[simp] theorem exec_bnz (f : Fetch) (srcA : Reg) (off : BitVec 18) (s : State) :
    exec (.bnz f srcA off) s = execBnz f srcA off s := rfl
@[simp] theorem exec_bltz (f : Fetch) (srcA : Reg) (off : BitVec 18) (s : State) :
    exec (.bltz f srcA off) s = execBltz f srcA off s := rfl
@[simp] theorem exec_bgez (f : Fetch) (srcA : Reg) (off : BitVec 18) (s : State) :
    exec (.bgez f srcA off) s = execBgez f srcA off s := rfl
@[simp] theorem exec_bgtz (f : Fetch) (srcA : Reg) (off : BitVec 18) (s : State) :
    exec (.bgtz f srcA off) s = execBgtz f srcA off s := rfl
@[simp] theorem exec_blez (f : Fetch) (srcA : Reg) (off : BitVec 18) (s : State) :
    exec (.blez f srcA off) s = execBlez f srcA off s := rfl
@[simp] theorem exec_jal (f : Fetch) (off : BitVec 28) (s : State) : exec (.jal f off) s = execJal f off s := rfl
@[simp] theorem exec_high (f : Fetch) (dst : Reg) (imm : BitVec 19) (s : State) :
    exec (.high f dst imm) s = execHigh f dst imm s := rfl
@[simp] theorem exec_fadd (f : Fetch) (fl : Bool) (dst srcA srcB : Reg) (s : State) :
    exec (.fadd f fl dst srcA srcB) s = execFadd f fl dst srcA srcB s := rfl
@[simp] theorem exec_fsub (f : Fetch) (fl : Bool) (dst srcA srcB : Reg) (s : State) :
    exec (.fsub f fl dst srcA srcB) s = execFsub f fl dst srcA srcB s := rfl
@[simp] theorem exec_fmul (f : Fetch) (fl : Bool) (dst srcA srcB : Reg) (s : State) :
    exec (.fmul f fl dst srcA srcB) s = execFmul f fl dst srcA srcB s := rfl
@[simp] theorem exec_fdiv (f : Fetch) (fl : Bool) (dst srcA srcB : Reg) (s : State) :
    exec (.fdiv f fl dst srcA srcB) s = execFdiv f fl dst srcA srcB s := rfl
@[simp] theorem exec_fsqrt (f : Fetch) (fl : Bool) (dst srcA srcB : Reg) (s : State) :
    exec (.fsqrt f fl dst srcA srcB) s = execFsqrt f fl dst srcA srcB s := rfl
@[simp] theorem exec_fma (f : Fetch) (fl : Bool) (dst srcA srcB : Reg) (s : State) :
    exec (.fma f fl dst srcA srcB) s = execFma f fl dst srcA srcB s := rfl
@[simp] theorem exec_fms (f : Fetch) (fl : Bool) (dst srcA srcB : Reg) (s : State) :
    exec (.fms f fl dst srcA srcB) s = execFms f fl dst srcA srcB s := rfl
@[simp] theorem exec_fmin (f : Fetch) (fl : Bool) (dst srcA srcB : Reg) (s : State) :
    exec (.fmin f fl dst srcA srcB) s = execFmin f fl dst srcA srcB s := rfl
@[simp] theorem exec_fmax (f : Fetch) (fl : Bool) (dst srcA srcB : Reg) (s : State) :
    exec (.fmax f fl dst srcA srcB) s = execFmax f fl dst srcA srcB s := rfl
@[simp] theorem exec_fabs (f : Fetch) (fl : Bool) (dst srcA srcB : Reg) (s : State) :
    exec (.fabs f fl dst srcA srcB) s = execFabs f fl dst srcA srcB s := rfl
@[simp] theorem exec_fneg (f : Fetch) (fl : Bool) (dst srcA srcB : Reg) (s : State) :
    exec (.fneg f fl dst srcA srcB) s = execFneg f fl dst srcA srcB s := rfl
@[simp] theorem exec_fcmp (f : Fetch) (fl : Bool) (dst srcA srcB : Reg) (s : State) :
    exec (.fcmp f fl dst srcA srcB) s = execFcmp f fl dst srcA srcB s := rfl
@[simp] theorem exec_fcvtsw (f : Fetch) (fl : Bool) (dst srcA srcB : Reg) (s : State) :
    exec (.fcvtsw f fl dst srcA srcB) s = execFcvtsw f fl dst srcA srcB s := rfl
@[simp] theorem exec_fcvtws (f : Fetch) (fl : Bool) (dst srcA srcB : Reg) (s : State) :
    exec (.fcvtws f fl dst srcA srcB) s = execFcvtws f fl dst srcA srcB s := rfl
@[simp] theorem exec_fcvtwsr (f : Fetch) (fl : Bool) (dst srcA srcB : Reg) (s : State) :
    exec (.fcvtwsr f fl dst srcA srcB) s = execFcvtwsr f fl dst srcA srcB s := rfl
@[simp] theorem exec_mfcr (f : Fetch) (dst : Reg) (cr : BitVec 13) (s : State) :
    exec (.mfcr f dst cr) s = execMfcr f dst cr s := rfl
@[simp] theorem exec_mtcr (f : Fetch) (dst srcA : Reg) (cr : BitVec 13) (s : State) :
    exec (.mtcr f dst srcA cr) s = execMtcr f dst srcA cr s := rfl
@[simp] theorem exec_wfe (f : Fetch) (imm : BitVec 13) (s : State) : exec (.wfe f imm) s = execWfe f imm s := rfl
@[simp] theorem exec_wfeWake (core : Core) (s : State) : exec (.wfeWake core) s = execWfeWake core s := rfl
@[simp] theorem exec_fenceFull (f : Fetch) (s : State) : exec (.fenceFull f) s = execFenceFull f s := rfl
@[simp] theorem exec_fenceStores (f : Fetch) (s : State) : exec (.fenceStores f) s = execFenceStores f s := rfl
@[simp] theorem exec_fenceInstruction (f : Fetch) (s : State) :
    exec (.fenceInstruction f) s = execFenceInstruction f s := rfl
@[simp] theorem exec_trap (f : Fetch) (imm : BitVec 13) (s : State) : exec (.trap f imm) s = execTrap f imm s := rfl
@[simp] theorem exec_eret (f : Fetch) (s : State) : exec (.eret f) s = execEret f s := rfl
@[simp] theorem exec_eventInterrupt (core : Core) (s : State) :
    exec (.eventInterrupt core) s = execEventInterrupt core s := rfl
@[simp] theorem exec_groomFaultReset (s : State) : exec .groomFaultReset s = execGroomFaultReset s := rfl
@[simp] theorem exec_lockstepMismatch (rider : Rider) (s : State) :
    exec (.lockstepMismatch rider) s = execLockstepMismatch rider s := rfl
@[simp] theorem exec_chx (f : Fetch) (dst srcA srcB : Reg) (ecc : Ecc) (s : State) :
    exec (.chx f dst srcA srcB ecc) s = execChx f dst srcA srcB ecc s := rfl
@[simp] theorem exec_job (f : Fetch) (dst srcA srcB : Reg) (ecc : Ecc) (s : State) :
    exec (.job f dst srcA srcB ecc) s = execJob f dst srcA srcB ecc s := rfl
@[simp] theorem exec_nvc (f : Fetch) (dst srcA srcB : Reg) (ecc : Ecc) (s : State) :
    exec (.nvc f dst srcA srcB ecc) s = execNvc f dst srcA srcB ecc s := rfl
@[simp] theorem exec_dma (f : Fetch) (dst srcA srcB : Reg) (ecc : Ecc) (s : State) :
    exec (.dma f dst srcA srcB ecc) s = execDma f dst srcA srcB ecc s := rfl
@[simp] theorem exec_txf (f : Fetch) (dst srcA srcB : Reg) (ecc : Ecc) (s : State) :
    exec (.txf f dst srcA srcB ecc) s = execTxf f dst srcA srcB ecc s := rfl
@[simp] theorem exec_waitt (f : Fetch) (dst srcA srcB : Reg) (s : State) :
    exec (.waitt f dst srcA srcB) s = execWaitt f dst srcA srcB s := rfl
@[simp] theorem exec_waittReturn (core : Core) (s : State) :
    exec (.waittReturn core) s = execWaittReturn core s := rfl
@[simp] theorem exec_waittLimit (core : Core) (s : State) : exec (.waittLimit core) s = execWaittLimit core s := rfl
@[simp] theorem exec_pollt (f : Fetch) (dst srcA : Reg) (s : State) :
    exec (.pollt f dst srcA) s = execPollt f dst srcA s := rfl
@[simp] theorem exec_tagrel (f : Fetch) (srcA : Reg) (s : State) :
    exec (.tagrel f srcA) s = execTagrel f srcA s := rfl
@[simp] theorem exec_lock (f : Fetch) (dst : Reg) (n : BitVec 5) (s : State) :
    exec (.lock f dst n) s = execLock f dst n s := rfl
@[simp] theorem exec_lockGrant (n : BitVec 5) (s : State) : exec (.lockGrant n) s = execLockGrant n s := rfl
@[simp] theorem exec_unlock (f : Fetch) (dst srcA srcB : Reg) (n : BitVec 5) (s : State) :
    exec (.unlock f dst srcA srcB n) s = execUnlock f dst srcA srcB n s := rfl
@[simp] theorem exec_amoadd (f : Fetch) (dst srcA srcB : Reg) (ecc : Ecc) (s : State) :
    exec (.amoadd f dst srcA srcB ecc) s = execAmoadd f dst srcA srcB ecc s := rfl
@[simp] theorem exec_amoswap (f : Fetch) (dst srcA srcB : Reg) (ecc : Ecc) (s : State) :
    exec (.amoswap f dst srcA srcB ecc) s = execAmoswap f dst srcA srcB ecc s := rfl
@[simp] theorem exec_amocas (f : Fetch) (dst srcA srcB : Reg) (ecc : Ecc) (s : State) :
    exec (.amocas f dst srcA srcB ecc) s = execAmocas f dst srcA srcB ecc s := rfl
@[simp] theorem exec_amoand (f : Fetch) (dst srcA srcB : Reg) (ecc : Ecc) (s : State) :
    exec (.amoand f dst srcA srcB ecc) s = execAmoand f dst srcA srcB ecc s := rfl
@[simp] theorem exec_amoor (f : Fetch) (dst srcA srcB : Reg) (ecc : Ecc) (s : State) :
    exec (.amoor f dst srcA srcB ecc) s = execAmoor f dst srcA srcB ecc s := rfl
@[simp] theorem exec_dmaTransferDone (e : DmaEnd) (s : State) :
    exec (.dmaTransferDone e) s = execDmaTransferDone e s := rfl
@[simp] theorem exec_controlTick (rb : BitVec 16) (s : State) : exec (.controlTick rb) s = execControlTick rb s := rfl
@[simp] theorem exec_periphStore (core : Core) (addr val : Word) (s : State) :
    exec (.periphStore core addr val) s = execPeriphStore core addr val s := rfl
@[simp] theorem exec_refMonitorWindow (ok : Bool) (s : State) :
    exec (.refMonitorWindow ok) s = execRefMonitorWindow ok s := rfl
@[simp] theorem exec_pllUnlock (p : Fin 6) (s : State) : exec (.pllUnlock p) s = execPllUnlock p s := rfl
@[simp] theorem exec_xtal32kLoss (s : State) : exec .xtal32kLoss s = execXtal32kLoss s := rfl
@[simp] theorem exec_evtClaim (core : Core) (s : State) : exec (.evtClaim core) s = execEvtClaim core s := rfl
@[simp] theorem exec_evtDone (core : Core) (src : BitVec 8) (s : State) :
    exec (.evtDone core src) s = execEvtDone core src s := rfl
@[simp] theorem exec_evtSet (core : Core) (k : BitVec 3) (val : Word) (s : State) :
    exec (.evtSet core k val) s = execEvtSet core k val s := rfl
@[simp] theorem exec_arbitrationCycle (core : Bool) (posts ended : List ArbPost) (s : State) :
    exec (.arbitrationCycle core posts ended) s = execArbitrationCycle core posts ended s := rfl
@[simp] theorem exec_requestPromotion (post : ArbPost) (s : State) :
    exec (.requestPromotion post) s = execRequestPromotion post s := rfl
@[simp] theorem exec_lockHoldLimit (n : BitVec 5) (s : State) :
    exec (.lockHoldLimit n) s = execLockHoldLimit n s := rfl
@[simp] theorem exec_padLocklimWrite (core : Core) (val : BitVec 16) (s : State) :
    exec (.padLocklimWrite core val) s = execPadLocklimWrite core val s := rfl
@[simp] theorem exec_pwrReqStable (core : Core) (s : State) :
    exec (.pwrReqStable core) s = execPwrReqStable core s := rfl
@[simp] theorem exec_pwrReqPaddock (core : Core) (s : State) :
    exec (.pwrReqPaddock core) s = execPwrReqPaddock core s := rfl
@[simp] theorem exec_pwrReqWalk (core : Core) (s : State) : exec (.pwrReqWalk core) s = execPwrReqWalk core s := rfl
@[simp] theorem exec_pwrReqTrot (core : Core) (s : State) : exec (.pwrReqTrot core) s = execPwrReqTrot core s := rfl
@[simp] theorem exec_pwrReqCanter (core : Core) (s : State) :
    exec (.pwrReqCanter core) s = execPwrReqCanter core s := rfl
@[simp] theorem exec_pwrReqGallop (core : Core) (s : State) :
    exec (.pwrReqGallop core) s = execPwrReqGallop core s := rfl
@[simp] theorem exec_pwrReqLame (core : Core) (s : State) : exec (.pwrReqLame core) s = execPwrReqLame core s := rfl
@[simp] theorem exec_gaitTransitionComplete (s : State) :
    exec .gaitTransitionComplete s = execGaitTransitionComplete s := rfl
@[simp] theorem exec_wakeNLow (low : Bool) (s : State) : exec (.wakeNLow low) s = execWakeNLow low s := rfl
@[simp] theorem exec_rtcTick (s : State) : exec .rtcTick s = execRtcTick s := rfl
@[simp] theorem exec_thmSensorWindow (n0 n1 n2 n3 n4 n5 : Nat) (hv0 hv1 : Option Int) (s : State) :
    exec (.thmSensorWindow n0 n1 n2 n3 n4 n5 hv0 hv1) s = execThmSensorWindow n0 n1 n2 n3 n4 n5 hv0 hv1 s := rfl
@[simp] theorem exec_thmGraceExpiry (s : State) : exec .thmGraceExpiry s = execThmGraceExpiry s := rfl
@[simp] theorem exec_thmRelease (s : State) : exec .thmRelease s = execThmRelease s := rfl
@[simp] theorem exec_dieRestart (n0 n1 n2 n3 n4 n5 : Nat) (s : State) :
    exec (.dieRestart n0 n1 n2 n3 n4 n5) s = execDieRestart n0 n1 n2 n3 n4 n5 s := rfl
@[simp] theorem exec_outputThermalShutdown (n : BitVec 4) (s : State) :
    exec (.outputThermalShutdown n) s = execOutputThermalShutdown n s := rfl
@[simp] theorem exec_outputThermalRestart (n : BitVec 4) (s : State) :
    exec (.outputThermalRestart n) s = execOutputThermalRestart n s := rfl
@[simp] theorem exec_hvConverterTrip (s : State) : exec .hvConverterTrip s = execHvConverterTrip s := rfl
@[simp] theorem exec_hvTempWarn (s : State) :
    exec .hvTempWarn s = execHvTempWarn s := rfl
@[simp] theorem exec_tokenRefill (s : State) : exec .tokenRefill s = execTokenRefill s := rfl
@[simp] theorem exec_schedulerEvaluation (s : State) : exec .schedulerEvaluation s = execSchedulerEvaluation s := rfl
@[simp] theorem exec_jobProgramLoaded (index : BitVec 6) (ecc : Ecc) (s : State) :
    exec (.jobProgramLoaded index ecc) s = execJobProgramLoaded index ecc s := rfl
@[simp] theorem exec_jobDeadlineMiss (index : BitVec 6) (s : State) :
    exec (.jobDeadlineMiss index) s = execJobDeadlineMiss index s := rfl
@[simp] theorem exec_hrdAbort (core : Core) (val : Word) (s : State) :
    exec (.hrdAbort core val) s = execHrdAbort core val s := rfl
@[simp] theorem exec_hrdTeamdisWrite (core : Core) (val : Word) (here : Bool) (s : State) :
    exec (.hrdTeamdisWrite core val here) s = execHrdTeamdisWrite core val here s := rfl
@[simp] theorem exec_hrdCtrlWrite (core : Core) (val : Word) (s : State) :
    exec (.hrdCtrlWrite core val) s = execHrdCtrlWrite core val s := rfl
@[simp] theorem exec_postDeadline (s : State) : exec .postDeadline s = execPostDeadline s := rfl
@[simp] theorem exec_laneFadd (o : LaneOp) (dst a b : BitVec 6) (s : State) :
    exec (.laneFadd o dst a b) s = execLaneFadd o dst a b s := rfl
@[simp] theorem exec_laneFsub (o : LaneOp) (dst a b : BitVec 6) (s : State) :
    exec (.laneFsub o dst a b) s = execLaneFsub o dst a b s := rfl
@[simp] theorem exec_laneFmul (o : LaneOp) (dst a b : BitVec 6) (s : State) :
    exec (.laneFmul o dst a b) s = execLaneFmul o dst a b s := rfl
@[simp] theorem exec_laneFma (o : LaneOp) (dst a b : BitVec 6) (s : State) :
    exec (.laneFma o dst a b) s = execLaneFma o dst a b s := rfl
@[simp] theorem exec_laneFms (o : LaneOp) (dst a b : BitVec 6) (s : State) :
    exec (.laneFms o dst a b) s = execLaneFms o dst a b s := rfl
@[simp] theorem exec_laneFmin (o : LaneOp) (dst a b : BitVec 6) (s : State) :
    exec (.laneFmin o dst a b) s = execLaneFmin o dst a b s := rfl
@[simp] theorem exec_laneFmax (o : LaneOp) (dst a b : BitVec 6) (s : State) :
    exec (.laneFmax o dst a b) s = execLaneFmax o dst a b s := rfl
@[simp] theorem exec_laneFabs (o : LaneOp) (dst a b : BitVec 6) (s : State) :
    exec (.laneFabs o dst a b) s = execLaneFabs o dst a b s := rfl
@[simp] theorem exec_laneFneg (o : LaneOp) (dst a b : BitVec 6) (s : State) :
    exec (.laneFneg o dst a b) s = execLaneFneg o dst a b s := rfl
@[simp] theorem exec_laneFcvtsw (o : LaneOp) (dst a : BitVec 6) (s : State) :
    exec (.laneFcvtsw o dst a) s = execLaneFcvtsw o dst a s := rfl
@[simp] theorem exec_laneFcvtws (o : LaneOp) (dst a : BitVec 6) (s : State) :
    exec (.laneFcvtws o dst a) s = execLaneFcvtws o dst a s := rfl
@[simp] theorem exec_laneMov (o : LaneOp) (dst a b : BitVec 6) (s : State) :
    exec (.laneMov o dst a b) s = execLaneMov o dst a b s := rfl
@[simp] theorem exec_laneLidx (o : LaneOp) (dst : BitVec 6) (s : State) :
    exec (.laneLidx o dst) s = execLaneLidx o dst s := rfl
@[simp] theorem exec_laneCmap (o : LaneOp) (dst : BitVec 6) (s : State) :
    exec (.laneCmap o dst) s = execLaneCmap o dst s := rfl
@[simp] theorem exec_laneTidx (o : LaneOp) (dst : BitVec 6) (s : State) :
    exec (.laneTidx o dst) s = execLaneTidx o dst s := rfl
@[simp] theorem exec_laneLdi (o : LaneOp) (dst : BitVec 6) (imm : BitVec 12) (s : State) :
    exec (.laneLdi o dst imm) s = execLaneLdi o dst imm s := rfl
@[simp] theorem exec_laneIadd (o : LaneOp) (dst a b : BitVec 6) (s : State) :
    exec (.laneIadd o dst a b) s = execLaneIadd o dst a b s := rfl
@[simp] theorem exec_laneIsub (o : LaneOp) (dst a b : BitVec 6) (s : State) :
    exec (.laneIsub o dst a b) s = execLaneIsub o dst a b s := rfl
@[simp] theorem exec_laneAnd (o : LaneOp) (dst a b : BitVec 6) (s : State) :
    exec (.laneAnd o dst a b) s = execLaneAnd o dst a b s := rfl
@[simp] theorem exec_laneOr (o : LaneOp) (dst a b : BitVec 6) (s : State) :
    exec (.laneOr o dst a b) s = execLaneOr o dst a b s := rfl
@[simp] theorem exec_laneXor (o : LaneOp) (dst a b : BitVec 6) (s : State) :
    exec (.laneXor o dst a b) s = execLaneXor o dst a b s := rfl
@[simp] theorem exec_laneShl (o : LaneOp) (dst a b : BitVec 6) (s : State) :
    exec (.laneShl o dst a b) s = execLaneShl o dst a b s := rfl
@[simp] theorem exec_laneShr (o : LaneOp) (dst a b : BitVec 6) (s : State) :
    exec (.laneShr o dst a b) s = execLaneShr o dst a b s := rfl
@[simp] theorem exec_laneSar (o : LaneOp) (dst a b : BitVec 6) (s : State) :
    exec (.laneSar o dst a b) s = execLaneSar o dst a b s := rfl
@[simp] theorem exec_laneImul (o : LaneOp) (dst a b : BitVec 6) (s : State) :
    exec (.laneImul o dst a b) s = execLaneImul o dst a b s := rfl
@[simp] theorem exec_laneImin (o : LaneOp) (dst a b : BitVec 6) (s : State) :
    exec (.laneImin o dst a b) s = execLaneImin o dst a b s := rfl
@[simp] theorem exec_laneImax (o : LaneOp) (dst a b : BitVec 6) (s : State) :
    exec (.laneImax o dst a b) s = execLaneImax o dst a b s := rfl
@[simp] theorem exec_laneFclt (o : LaneOp) (dst a b : BitVec 6) (s : State) :
    exec (.laneFclt o dst a b) s = execLaneFclt o dst a b s := rfl
@[simp] theorem exec_laneFcle (o : LaneOp) (dst a b : BitVec 6) (s : State) :
    exec (.laneFcle o dst a b) s = execLaneFcle o dst a b s := rfl
@[simp] theorem exec_laneFceq (o : LaneOp) (dst a b : BitVec 6) (s : State) :
    exec (.laneFceq o dst a b) s = execLaneFceq o dst a b s := rfl
@[simp] theorem exec_laneIclt (o : LaneOp) (dst a b : BitVec 6) (s : State) :
    exec (.laneIclt o dst a b) s = execLaneIclt o dst a b s := rfl
@[simp] theorem exec_laneIceq (o : LaneOp) (dst a b : BitVec 6) (s : State) :
    exec (.laneIceq o dst a b) s = execLaneIceq o dst a b s := rfl
@[simp] theorem exec_lanePand (o : LaneOp) (dst a b : BitVec 6) (s : State) :
    exec (.lanePand o dst a b) s = execLanePand o dst a b s := rfl
@[simp] theorem exec_lanePor (o : LaneOp) (dst a b : BitVec 6) (s : State) :
    exec (.lanePor o dst a b) s = execLanePor o dst a b s := rfl
@[simp] theorem exec_lanePnot (o : LaneOp) (dst a b : BitVec 6) (s : State) :
    exec (.lanePnot o dst a b) s = execLanePnot o dst a b s := rfl
@[simp] theorem exec_laneLld (o : LaneOp) (dst a : BitVec 6) (off : BitVec 6) (ecc : Ecc) (s : State) :
    exec (.laneLld o dst a off ecc) s = execLaneLld o dst a off ecc s := rfl
@[simp] theorem exec_laneLst (o : LaneOp) (dst a : BitVec 6) (off : BitVec 6) (s : State) :
    exec (.laneLst o dst a off) s = execLaneLst o dst a off s := rfl
@[simp] theorem exec_laneTld (o : LaneOp) (dst a : BitVec 6) (off : BitVec 6) (ecc : Ecc) (s : State) :
    exec (.laneTld o dst a off ecc) s = execLaneTld o dst a off ecc s := rfl
@[simp] theorem exec_laneTst (o : LaneOp) (dst a : BitVec 6) (off : BitVec 6) (s : State) :
    exec (.laneTst o dst a off) s = execLaneTst o dst a off s := rfl
@[simp] theorem exec_laneHld (o : LaneOp) (dst a : BitVec 6) (off : BitVec 6) (ecc : Ecc) (s : State) :
    exec (.laneHld o dst a off ecc) s = execLaneHld o dst a off ecc s := rfl
@[simp] theorem exec_laneFdiv (o : LaneOp) (dst a b : BitVec 6) (s : State) :
    exec (.laneFdiv o dst a b) s = execLaneFdiv o dst a b s := rfl
@[simp] theorem exec_laneFsqrt (o : LaneOp) (dst a b : BitVec 6) (s : State) :
    exec (.laneFsqrt o dst a b) s = execLaneFsqrt o dst a b s := rfl
@[simp] theorem exec_laneFrcp (o : LaneOp) (dst a b : BitVec 6) (s : State) :
    exec (.laneFrcp o dst a b) s = execLaneFrcp o dst a b s := rfl
@[simp] theorem exec_laneFexp (o : LaneOp) (dst a b : BitVec 6) (s : State) :
    exec (.laneFexp o dst a b) s = execLaneFexp o dst a b s := rfl
@[simp] theorem exec_laneFlog (o : LaneOp) (dst a b : BitVec 6) (s : State) :
    exec (.laneFlog o dst a b) s = execLaneFlog o dst a b s := rfl
@[simp] theorem exec_laneRmin (o : LaneOp) (dst a b : BitVec 6) (s : State) :
    exec (.laneRmin o dst a b) s = execLaneRmin o dst a b s := rfl
@[simp] theorem exec_laneRmax (o : LaneOp) (dst a b : BitVec 6) (s : State) :
    exec (.laneRmax o dst a b) s = execLaneRmax o dst a b s := rfl
@[simp] theorem exec_laneRsum (o : LaneOp) (dst a b : BitVec 6) (s : State) :
    exec (.laneRsum o dst a b) s = execLaneRsum o dst a b s := rfl
@[simp] theorem exec_laneRargmin (o : LaneOp) (dst a b : BitVec 6) (s : State) :
    exec (.laneRargmin o dst a b) s = execLaneRargmin o dst a b s := rfl
@[simp] theorem exec_laneRargmax (o : LaneOp) (dst a b : BitVec 6) (s : State) :
    exec (.laneRargmax o dst a b) s = execLaneRargmax o dst a b s := rfl
@[simp] theorem exec_laneBar (o : LaneOp) (dst a b : BitVec 6) (s : State) :
    exec (.laneBar o dst a b) s = execLaneBar o dst a b s := rfl
@[simp] theorem exec_laneBra (o : LaneOp) (off : BitVec 18) (s : State) :
    exec (.laneBra o off) s = execLaneBra o off s := rfl
@[simp] theorem exec_laneRet (o : LaneOp) (dst a b : BitVec 6) (s : State) :
    exec (.laneRet o dst a b) s = execLaneRet o dst a b s := rfl
@[simp] theorem exec_fastOcTrip (nv : Int) (s : State) : exec (.fastOcTrip nv) s = execFastOcTrip nv s := rfl
@[simp] theorem exec_aliveCodeLoss (s : State) : exec .aliveCodeLoss s = execAliveCodeLoss s := rfl
@[simp] theorem exec_aliveCodeStartupTimeout (s : State) :
    exec .aliveCodeStartupTimeout s = execAliveCodeStartupTimeout s := rfl
@[simp] theorem exec_protectionSample (low high : Int) (ovl : Overloads) (bad : Nat) (s : State) :
    exec (.protectionSample low high ovl bad) s = execProtectionSample low high ovl bad s := rfl
@[simp] theorem exec_fineSample (bat link mid : Vector Int 16) (past : Bool) (s : State) :
    exec (.fineSample bat link mid past) s = execFineSample bat link mid past s := rfl
@[simp] theorem exec_rangeCompareFail (s : State) : exec .rangeCompareFail s = execRangeCompareFail s := rfl
@[simp] theorem exec_hvOverload (s : State) : exec .hvOverload s = execHvOverload s := rfl
@[simp] theorem exec_voltageChannelInvalid (ch : BitVec 2) (s : State) :
    exec (.voltageChannelInvalid ch) s = execVoltageChannelInvalid ch s := rfl
@[simp] theorem exec_voltageChannelRecover (ch : BitVec 2) (s : State) :
    exec (.voltageChannelRecover ch) s = execVoltageChannelRecover ch s := rfl
@[simp] theorem exec_hallSample (x : HallRead) (next : Bool) (s : State) :
    exec (.hallSample x next) s = execHallSample x next s := rfl
@[simp] theorem exec_diversityMismatch (s : State) : exec .diversityMismatch s = execDiversityMismatch s := rfl
@[simp] theorem exec_hallFault (silent : Bool) (s : State) :
    exec (.hallFault silent) s = execHallFault silent s := rfl
@[simp] theorem exec_sweepHeaderHvmWrite (q : Bracket) (s : State) :
    exec (.sweepHeaderHvmWrite q) s = execSweepHeaderHvmWrite q s := rfl
@[simp] theorem exec_isolatorLinkLoss (s : State) :
    exec .isolatorLinkLoss s = execIsolatorLinkLoss s := rfl
@[simp] theorem exec_isolatorLinkRestored (s : State) :
    exec .isolatorLinkRestored s = execIsolatorLinkRestored s := rfl
@[simp] theorem exec_hvSupplyFault (s : State) : exec .hvSupplyFault s = execHvSupplyFault s := rfl
@[simp] theorem exec_hvSectionReady (s : State) : exec .hvSectionReady s = execHvSectionReady s := rfl
@[simp] theorem exec_insulationPeriodEnd (vp vn : Int) (resid : Bool) (s : State) :
    exec (.insulationPeriodEnd vp vn resid) s = execInsulationPeriodEnd vp vn resid s := rfl
@[simp] theorem exec_insulationTimeout (s : State) : exec .insulationTimeout s = execInsulationTimeout s := rfl
@[simp] theorem exec_pchArm (core : Core) (s : State) : exec (.pchArm core) s = execPchArm core s := rfl
@[simp] theorem exec_pchAbort (core : Core) (s : State) : exec (.pchAbort core) s = execPchAbort core s := rfl
@[simp] theorem exec_prechargePass (s : State) : exec .prechargePass s = execPrechargePass s := rfl
@[simp] theorem exec_prechargeLinkShort (s : State) : exec .prechargeLinkShort s = execPrechargeLinkShort s := rfl
@[simp] theorem exec_prechargeTimeout (s : State) : exec .prechargeTimeout s = execPrechargeTimeout s := rfl
@[simp] theorem exec_prechargeDrop (s : State) : exec .prechargeDrop s = execPrechargeDrop s := rfl
@[simp] theorem exec_rangeReset (core : Core) (s : State) : exec (.rangeReset core) s = execRangeReset core s := rfl
@[simp] theorem exec_qclr (core : Core) (s : State) : exec (.qclr core) s = execQclr core s := rfl
@[simp] theorem exec_zero (core : Core) (s : State) : exec (.zero core) s = execZero core s := rfl
@[simp] theorem exec_zeroTrimDone (s : State) : exec .zeroTrimDone s = execZeroTrimDone s := rfl
@[simp] theorem exec_hvmQloRead (core : Core) (s : State) : exec (.hvmQloRead core) s = execHvmQloRead core s := rfl
@[simp] theorem exec_hvmCtrlWrite (core : Core) (val : Word) (s : State) :
    exec (.hvmCtrlWrite core val) s = execHvmCtrlWrite core val s := rfl
@[simp] theorem exec_hvmHallgainWrite (core : Core) (val : Word) (s : State) :
    exec (.hvmHallgainWrite core val) s = execHvmHallgainWrite core val s := rfl
@[simp] theorem exec_enumClear (h : Hop) (s : State) : exec (.enumClear h) s = execEnumClear h s := rfl
@[simp] theorem exec_enumAssignUp (h : Hop) (count flags : BitVec 8) (s : State) :
    exec (.enumAssignUp h count flags) s = execEnumAssignUp h count flags s := rfl
@[simp] theorem exec_enumAssignDown (h : Hop) (count flags : BitVec 8) (s : State) :
    exec (.enumAssignDown h count flags) s = execEnumAssignDown h count flags s := rfl
@[simp] theorem exec_enumVerifyDown (h : Hop) (count flags : BitVec 8) (s : State) :
    exec (.enumVerifyDown h count flags) s = execEnumVerifyDown h count flags s := rfl
@[simp] theorem exec_ping (h : Hop) (s : State) : exec (.ping h) s = execPing h s := rfl
@[simp] theorem exec_sync (p : Side) (k : Head) (sweep : BitVec 8) (next : BitVec 16) (s : State) :
    exec (.sync p k sweep next) s = execSync p k sweep next s := rfl
@[simp] theorem exec_unitLatch (u : BitVec 6) (f : UnitFrame) (s : State) :
    exec (.unitLatch u f) s = execUnitLatch u f s := rfl
@[simp] theorem exec_readBlock (h : Hop) (sweep : BitVec 8) (s : State) :
    exec (.readBlock h sweep) s = execReadBlock h sweep s := rfl
@[simp] theorem exec_readReg (h : Hop) (index count : BitVec 8) (s : State) :
    exec (.readReg h index count) s = execReadReg h index count s := rfl
@[simp] theorem exec_writeReg (p : Side) (k : Head) (index : BitVec 8) (words : List Word) (s : State) :
    exec (.writeReg p k index words) s = execWriteReg p k index words s := rfl
@[simp] theorem exec_bleedSet (p : Side) (k : Head) (mask : BitVec 16) (s : State) :
    exec (.bleedSet p k mask) s = execBleedSet p k mask s := rfl
@[simp] theorem exec_owt (h : Hop) (s : State) : exec (.owt h) s = execOwt h s := rfl
@[simp] theorem exec_owtUnitResponse (u : BitVec 6) (opened : Word) (dv : List (BitVec 16)) (s : State) :
    exec (.owtUnitResponse u opened dv) s = execOwtUnitResponse u opened dv s := rfl
@[simp] theorem exec_excite (p : Side) (k : Head) (mask : BitVec 16) (start chip reps : BitVec 8) (s : State) :
    exec (.excite p k mask start chip reps) s = execExcite p k mask start chip reps s := rfl
@[simp] theorem exec_exciteChip (u : BitVec 6) (s : State) : exec (.exciteChip u) s = execExciteChip u s := rfl
@[simp] theorem exec_faultAck (p : Side) (k : Head) (s : State) :
    exec (.faultAck p k) s = execFaultAck p k s := rfl
@[simp] theorem exec_sleep (h : Hop) (s : State) : exec (.sleep h) s = execSleep h s := rfl
@[simp] theorem exec_wakeTone (x : Tone) (s : State) :
    exec (.wakeTone x) s = execWakeTone x s := rfl
@[simp] theorem exec_unitLossOfLock (u : BitVec 6) (x : LockChange) (s : State) :
    exec (.unitLossOfLock u x) s = execUnitLossOfLock u x s := rfl
@[simp] theorem exec_unitAutoSleep (u : BitVec 6) (s : State) :
    exec (.unitAutoSleep u) s = execUnitAutoSleep u s := rfl
@[simp] theorem exec_bleedTimeout (u : BitVec 6) (s : State) : exec (.bleedTimeout u) s = execBleedTimeout u s := rfl
@[simp] theorem exec_bleedQuietStart (u : BitVec 6) (s : State) :
    exec (.bleedQuietStart u) s = execBleedQuietStart u s := rfl
@[simp] theorem exec_bleedQuietEnd (u : BitVec 6) (s : State) :
    exec (.bleedQuietEnd u) s = execBleedQuietEnd u s := rfl
@[simp] theorem exec_unitFaultEmit (u : BitVec 6) (ov uv : Bool) (s : State) :
    exec (.unitFaultEmit u ov uv) s = execUnitFaultEmit u ov uv s := rfl
@[simp] theorem exec_unitFaultRepeat (u : BitVec 6) (s : State) :
    exec (.unitFaultRepeat u) s = execUnitFaultRepeat u s := rfl
@[simp] theorem exec_faultForward (u : BitVec 6) (south : Bool) (s : State) :
    exec (.faultForward u south) s = execFaultForward u south s := rfl
@[simp] theorem exec_faultSymbolReceived (s : State) : exec .faultSymbolReceived s = execFaultSymbolReceived s := rfl
@[simp] theorem exec_chnEnum (core : Core) (s : State) : exec (.chnEnum core) s = execChnEnum core s := rfl
@[simp] theorem exec_enumPhaseTimeout (acks : List (BitVec 6)) (conflict proto : Bool) (ret : Option (BitVec 8)) (s : State) :
    exec (.enumPhaseTimeout acks conflict proto ret) s = execEnumPhaseTimeout acks conflict proto ret s := rfl
@[simp] theorem exec_pingResponse (high : Bool) (w : Wire) (rtt : Nat) (s : State) :
    exec (.pingResponse high w rtt) s = execPingResponse high w rtt s := rfl
@[simp] theorem exec_enumDone (s : State) : exec .enumDone s = execEnumDone s := rfl
@[simp] theorem exec_chnRemeasure (core : Core) (s : State) :
    exec (.chnRemeasure core) s = execChnRemeasure core s := rfl
@[simp] theorem exec_chnWake (core : Core) (s : State) : exec (.chnWake core) s = execChnWake core s := rfl
@[simp] theorem exec_chnAbort (core : Core) (s : State) : exec (.chnAbort core) s = execChnAbort core s := rfl
@[simp] theorem exec_chnCtrlWrite (core : Core) (val : Word) (s : State) :
    exec (.chnCtrlWrite core val) s = execChnCtrlWrite core val s := rfl
@[simp] theorem exec_syncSend (s : State) : exec .syncSend s = execSyncSend s := rfl
@[simp] theorem exec_readBlockResponse (high : Bool) (f : Frame) (e : Tail) (s : State) :
    exec (.readBlockResponse high f e) s = execReadBlockResponse high f e s := rfl
@[simp] theorem exec_linknote (high : Bool) (w : Wire) (s : State) :
    exec (.linknote high w) s = execLinknote high w s := rfl
@[simp] theorem exec_portLossOfLock (high : Bool) (s : State) :
    exec (.portLossOfLock high) s = execPortLossOfLock high s := rfl
@[simp] theorem exec_portSilenceTimeout (high : Bool) (s : State) :
    exec (.portSilenceTimeout high) s = execPortSilenceTimeout high s := rfl
@[simp] theorem exec_chxResponse (high : Bool) (f : Frame) (e : Tail) (s : State) :
    exec (.chxResponse high f e) s = execChxResponse high f e s := rfl
@[simp] theorem exec_chxTimeout (wire : BitVec 8) (s : State) :
    exec (.chxTimeout wire) s = execChxTimeout wire s := rfl
@[simp] theorem exec_mapApply (core : Core) (s : State) : exec (.mapApply core) s = execMapApply core s := rfl
@[simp] theorem exec_mapValidate (s : State) : exec .mapValidate s = execMapValidate s := rfl
@[simp] theorem exec_cellsWriteResponse (u : BitVec 6) (nak : Bool) (s : State) :
    exec (.cellsWriteResponse u nak) s = execCellsWriteResponse u nak s := rfl
@[simp] theorem exec_senseClr (core : Core) (unit : BitVec 6) (s : State) :
    exec (.senseClr core unit) s = execSenseClr core unit s := rfl
@[simp] theorem exec_owtNow (core : Core) (unit : BitVec 6) (s : State) :
    exec (.owtNow core unit) s = execOwtNow core unit s := rfl
@[simp] theorem exec_balStop (core : Core) (s : State) : exec (.balStop core) s = execBalStop core s := rfl
@[simp] theorem exec_check (core : Core) (s : State) : exec (.check core) s = execCheck core s := rfl
@[simp] theorem exec_paddockCheckDone (s : State) : exec .paddockCheckDone s = execPaddockCheckDone s := rfl
@[simp] theorem exec_owtSchedule (s : State) : exec .owtSchedule s = execOwtSchedule s := rfl
@[simp] theorem exec_owtResponseReceived (a : Arrival) (s : State) :
    exec (.owtResponseReceived a) s = execOwtResponseReceived a s := rfl
@[simp] theorem exec_owtRetry (s : State) : exec .owtRetry s = execOwtRetry s := rfl
@[simp] theorem exec_owtDeadline (u : BitVec 6) (s : State) : exec (.owtDeadline u) s = execOwtDeadline u s := rfl
@[simp] theorem exec_balanceEvaluation (s : State) : exec .balanceEvaluation s = execBalanceEvaluation s := rfl
@[simp] theorem exec_bleedRefresh (u : BitVec 6) (s : State) : exec (.bleedRefresh u) s = execBleedRefresh u s := rfl
@[simp] theorem exec_bleedSetAck (u : BitVec 6) (mask : BitVec 16) (s : State) :
    exec (.bleedSetAck u mask) s = execBleedSetAck u mask s := rfl
@[simp] theorem exec_paramApply (core : Core) (s : State) : exec (.paramApply core) s = execParamApply core s := rfl
@[simp] theorem exec_paramCheck (s : State) : exec .paramCheck s = execParamCheck s := rfl
@[simp] theorem exec_limitHoldExpiry (s : State) : exec .limitHoldExpiry s = execLimitHoldExpiry s := rfl
@[simp] theorem exec_estCtrlWrite (core : Core) (val : Word) (s : State) :
    exec (.estCtrlWrite core val) s = execEstCtrlWrite core val s := rfl
@[simp] theorem exec_lsnapReq (core : Core) (block : BitVec 5) (s : State) :
    exec (.lsnapReq core block) s = execLsnapReq core block s := rfl
@[simp] theorem exec_ledgerSnapshot (s : State) : exec .ledgerSnapshot s = execLedgerSnapshot s := rfl
@[simp] theorem exec_prtSetWrite (core : Core) (addr val : Word) (s : State) :
    exec (.prtSetWrite core addr val) s = execPrtSetWrite core addr val s := rfl
@[simp] theorem exec_prtCommit (s : State) : exec .prtCommit s = execPrtCommit s := rfl
@[simp] theorem exec_crbCopyCheck (agree : Bool) (s : State) :
    exec (.crbCopyCheck agree) s = execCrbCopyCheck agree s := rfl
@[simp] theorem exec_hvCopyEcho (agree : Bool) (s : State) :
    exec (.hvCopyEcho agree) s = execHvCopyEcho agree s := rfl
@[simp] theorem exec_unitCopyReadback (u : BitVec 6) (vth fcfg : Word) (s : State) :
    exec (.unitCopyReadback u vth fcfg) s = execUnitCopyReadback u vth fcfg s := rfl
@[simp] theorem exec_sweepWatchdogExpiry (s : State) : exec .sweepWatchdogExpiry s = execSweepWatchdogExpiry s := rfl
@[simp] theorem exec_heartbeatTimeout (s : State) : exec .heartbeatTimeout s = execHeartbeatTimeout s := rfl
@[simp] theorem exec_crbHb (core : Core) (seq : BitVec 8) (s : State) :
    exec (.crbHb core seq) s = execCrbHb core seq s := rfl
@[simp] theorem exec_curbOscCheck (count : Nat) (s : State) :
    exec (.curbOscCheck count) s = execCurbOscCheck count s := rfl
@[simp] theorem exec_curbSupplyFault (s : State) : exec .curbSupplyFault s = execCurbSupplyFault s := rfl
@[simp] theorem exec_crbCmdSrs (core : Core) (s : State) : exec (.crbCmdSrs core) s = execCrbCmdSrs core s := rfl
@[simp] theorem exec_crbCmdSii (core : Core) (s : State) : exec (.crbCmdSii core) s = execCrbCmdSii core s := rfl
@[simp] theorem exec_srsCurrentZero (s : State) : exec .srsCurrentZero s = execSrsCurrentZero s := rfl
@[simp] theorem exec_srsRampTimeout (s : State) : exec .srsRampTimeout s = execSrsRampTimeout s := rfl
@[simp] theorem exec_shuntPulseEnd (s : State) : exec .shuntPulseEnd s = execShuntPulseEnd s := rfl
@[simp] theorem exec_weldDetect (s : State) : exec .weldDetect s = execWeldDetect s := rfl
@[simp] theorem exec_curbSelfTestDone (passed : Bool) (s : State) :
    exec (.curbSelfTestDone passed) s = execCurbSelfTestDone passed s := rfl
@[simp] theorem exec_crbReset (core : Core) (key : Word) (s : State) :
    exec (.crbReset core key) s = execCrbReset core key s := rfl
@[simp] theorem exec_channel2Check (s : State) : exec .channel2Check s = execChannel2Check s := rfl
@[simp] theorem exec_doorChannelChange (second high pattern : Bool) (s : State) :
    exec (.doorChannelChange second high pattern) s = execDoorChannelChange second high pattern s := rfl
@[simp] theorem exec_guardDiscrepancy (s : State) : exec .guardDiscrepancy s = execGuardDiscrepancy s := rfl
@[simp] theorem exec_guardOpenConfirm (s : State) : exec .guardOpenConfirm s = execGuardOpenConfirm s := rfl
@[simp] theorem exec_crbSealFirstKey (core : Core) (s : State) :
    exec (.crbSealFirstKey core) s = execCrbSealFirstKey core s := rfl
@[simp] theorem exec_crbSealSecondKey (core : Core) (s : State) :
    exec (.crbSealSecondKey core) s = execCrbSealSecondKey core s := rfl
@[simp] theorem exec_sealArmExpiry (s : State) : exec .sealArmExpiry s = execSealArmExpiry s := rfl
@[simp] theorem exec_sealCommitDone (s : State) : exec .sealCommitDone s = execSealCommitDone s := rfl
@[simp] theorem exec_ggnTargetWrite (core : Core) (axis : BitVec 2) (val : Word) (s : State) :
    exec (.ggnTargetWrite core axis val) s = execGgnTargetWrite core axis val s := rfl
@[simp] theorem exec_ggnGo (core : Core) (g1 g2 : Bool) (s : State) :
    exec (.ggnGo core g1 g2) s = execGgnGo core g1 g2 s := rfl
@[simp] theorem exec_ggnStop (core : Core) (axis : BitVec 2) (s : State) :
    exec (.ggnStop core axis) s = execGgnStop core axis s := rfl
@[simp] theorem exec_ggnFlush (core : Core) (axis : BitVec 2) (s : State) :
    exec (.ggnFlush core axis) s = execGgnFlush core axis s := rfl
@[simp] theorem exec_ggnSetpos (core : Core) (axis : BitVec 2) (s : State) :
    exec (.ggnSetpos core axis) s = execGgnSetpos core axis s := rfl
@[simp] theorem exec_ggnAxisCtrlWrite (core : Core) (axis : BitVec 2) (val : Word) (s : State) :
    exec (.ggnAxisCtrlWrite core axis val) s = execGgnAxisCtrlWrite core axis val s := rfl
@[simp] theorem exec_stepPulse (axis : Fin 3) (s : State) : exec (.stepPulse axis) s = execStepPulse axis s := rfl
@[simp] theorem exec_stepDriverShutdown (axis : Fin 3) (s : State) :
    exec (.stepDriverShutdown axis) s = execStepDriverShutdown axis s := rfl
@[simp] theorem exec_setpointPublish (s : State) : exec .setpointPublish s = execSetpointPublish s := rfl
@[simp] theorem exec_fioDosetWrite (core : Core) (val : BitVec 15) (s : State) :
    exec (.fioDosetWrite core val) s = execFioDosetWrite core val s := rfl
@[simp] theorem exec_pullinEnd (n : BitVec 4) (s : State) : exec (.pullinEnd n) s = execPullinEnd n s := rfl
@[simp] theorem exec_outputOverload (n : BitVec 4) (s : State) :
    exec (.outputOverload n) s = execOutputOverload n s := rfl
@[simp] theorem exec_openLoadOff (n : BitVec 4) (s : State) : exec (.openLoadOff n) s = execOpenLoadOff n s := rfl
@[simp] theorem exec_openLoadOn (n : BitVec 4) (s : State) : exec (.openLoadOn n) s = execOpenLoadOn n s := rfl
@[simp] theorem exec_offHigh (n : BitVec 4) (s : State) : exec (.offHigh n) s = execOffHigh n s := rfl
@[simp] theorem exec_testWindowStart (n : BitVec 4) (light ts : Bool) (s : State) :
    exec (.testWindowStart n light ts) s = execTestWindowStart n light ts s := rfl
@[simp] theorem exec_testWindowEnd (low high : BitVec 16) (s : State) :
    exec (.testWindowEnd low high) s = execTestWindowEnd low high s := rfl
@[simp] theorem exec_tiedWatchExpiry (n : BitVec 4) (s : State) :
    exec (.tiedWatchExpiry n) s = execTiedWatchExpiry n s := rfl
@[simp] theorem exec_lsRelease (core : Core) (ls13 : Bool) (s : State) :
    exec (.lsRelease core ls13) s = execLsRelease core ls13 s := rfl
@[simp] theorem exec_wdRearm (core : Core) (s : State) : exec (.wdRearm core) s = execWdRearm core s := rfl
@[simp] theorem exec_cntclr (core : Core) (k : BitVec 2) (s : State) :
    exec (.cntclr core k) s = execCntclr core k s := rfl
@[simp] theorem exec_fioWdkey (core : Core) (val : Word) (s : State) :
    exec (.fioWdkey core val) s = execFioWdkey core val s := rfl
@[simp] theorem exec_fioWatchdogExpiry (s : State) : exec .fioWatchdogExpiry s = execFioWatchdogExpiry s := rfl
@[simp] theorem exec_vfLow (second : Bool) (s : State) : exec (.vfLow second) s = execVfLow second s := rfl
@[simp] theorem exec_vfRecover (second : Bool) (s : State) :
    exec (.vfRecover second) s = execVfRecover second s := rfl
@[simp] theorem exec_testSourcePulse (k : BitVec 2) (high : BitVec 12) (s : State) :
    exec (.testSourcePulse k high) s = execTestSourcePulse k high s := rfl
@[simp] theorem exec_testSourceOverload (k : BitVec 2) (s : State) :
    exec (.testSourceOverload k) s = execTestSourceOverload k s := rfl
@[simp] theorem exec_testSourceRetry (k : BitVec 2) (s : State) :
    exec (.testSourceRetry k) s = execTestSourceRetry k s := rfl
@[simp] theorem exec_diSample (n : BitVec 4) (level : Bool) (s : State) :
    exec (.diSample n level) s = execDiSample n level s := rfl
@[simp] theorem exec_diFilterChange (n : BitVec 4) (s : State) :
    exec (.diFilterChange n) s = execDiFilterChange n s := rfl
@[simp] theorem exec_diWakeChange (n : BitVec 4) (s : State) : exec (.diWakeChange n) s = execDiWakeChange n s := rfl
@[simp] theorem exec_counterEdge (k : BitVec 2) (rising : Bool) (dt : Nat) (s : State) :
    exec (.counterEdge k rising dt) s = execCounterEdge k rising dt s := rfl
@[simp] theorem exec_counterPeriodTimeout (k : BitVec 2) (s : State) :
    exec (.counterPeriodTimeout k) s = execCounterPeriodTimeout k s := rfl
@[simp] theorem exec_canFrameReceived (x : Fin 2) (f : CanFrame) (sof : BitVec 64) (s : State) :
    exec (.canFrameReceived x f sof) s = execCanFrameReceived x f sof s := rfl
@[simp] theorem exec_canRxTimeout (x : Fin 2) (n : BitVec 7) (s : State) :
    exec (.canRxTimeout x n) s = execCanRxTimeout x n s := rfl
@[simp] theorem exec_canTxreq (core : Core) (x : BitVec 1) (n : BitVec 7) (s : State) :
    exec (.canTxreq core x n) s = execCanTxreq core x n s := rfl
@[simp] theorem exec_canTxabort (core : Core) (x : BitVec 1) (n : BitVec 7) (s : State) :
    exec (.canTxabort core x n) s = execCanTxabort core x n s := rfl
@[simp] theorem exec_canFrameSent (x : Fin 2) (obj : Option (BitVec 7)) (sof : BitVec 64) (s : State) :
    exec (.canFrameSent x obj sof) s = execCanFrameSent x obj sof s := rfl
@[simp] theorem exec_canArbitrationLost (x : Fin 2) (obj : Option (BitVec 7)) (s : State) :
    exec (.canArbitrationLost x obj) s = execCanArbitrationLost x obj s := rfl
@[simp] theorem exec_canError (x : Fin 2) (lec : Fin 7) (sending : Bool) (obj : Option (BitVec 7)) (inc : Fin 9) (s : State) :
    exec (.canError x lec sending obj inc) s = execCanError x lec sending obj inc s := rfl
@[simp] theorem exec_canBusOffRecovery (x : Fin 2) (s : State) :
    exec (.canBusOffRecovery x) s = execCanBusOffRecovery x s := rfl
@[simp] theorem exec_canRecover (core : Core) (x : BitVec 1) (s : State) :
    exec (.canRecover core x) s = execCanRecover core x s := rfl
@[simp] theorem exec_canAbortall (core : Core) (x : BitVec 1) (s : State) :
    exec (.canAbortall core x) s = execCanAbortall core x s := rfl
@[simp] theorem exec_canTimingWrite (core : Core) (x : BitVec 1) (reg : Fin 6) (val : Word) (s : State) :
    exec (.canTimingWrite core x reg val) s = execCanTimingWrite core x reg val s := rfl
@[simp] theorem exec_canObjectConfigWrite (core : Core) (x : BitVec 1) (n : BitVec 7) (val : Word) (s : State) :
    exec (.canObjectConfigWrite core x n val) s = execCanObjectConfigWrite core x n val s := rfl
@[simp] theorem exec_canModeChange (x : Fin 2) (s : State) : exec (.canModeChange x) s = execCanModeChange x s := rfl
@[simp] theorem exec_txfTimeout (core : Core) (tag : BitVec 8) (s : State) :
    exec (.txfTimeout core tag) s = execTxfTimeout core tag s := rfl
@[simp] theorem exec_switchForward (f : EthFrame) (residence linkDelay : Nat) (full : BitVec 3) (s : State) :
    exec (.switchForward f residence linkDelay full) s = execSwitchForward f residence linkDelay full s := rfl
@[simp] theorem exec_arpRequest (target sender : BitVec 32) (mac : BitVec 48) (s : State) :
    exec (.arpRequest target sender mac) s = execArpRequest target sender mac s := rfl
@[simp] theorem exec_icmpEchoRequest (target sender : BitVec 32) (s : State) :
    exec (.icmpEchoRequest target sender) s = execIcmpEchoRequest target sender s := rfl
@[simp] theorem exec_arpRetry (ip : BitVec 32) (s : State) : exec (.arpRetry ip) s = execArpRetry ip s := rfl
@[simp] theorem exec_plantTelegramReceived (src : BitVec 32) (dport : BitVec 16) (bytes : List (BitVec 8)) (s : State) :
    exec (.plantTelegramReceived src dport bytes) s = execPlantTelegramReceived src dport bytes s := rfl
@[simp] theorem exec_demandTimeout (s : State) : exec .demandTimeout s = execDemandTimeout s := rfl
@[simp] theorem exec_ptpSyncSample (offset : BitVec 64) (s : State) :
    exec (.ptpSyncSample offset) s = execPtpSyncSample offset s := rfl
@[simp] theorem exec_bmcaGmChange (gm : BitVec 64) (own : Bool) (s : State) :
    exec (.bmcaGmChange gm own) s = execBmcaGmChange gm own s := rfl
@[simp] theorem exec_syncTimeout (s : State) : exec .syncTimeout s = execSyncTimeout s := rfl
@[simp] theorem exec_holdoverLimit (s : State) : exec .holdoverLimit s = execHoldoverLimit s := rfl
@[simp] theorem exec_timeAccept (core : Core) (s : State) : exec (.timeAccept core) s = execTimeAccept core s := rfl
@[simp] theorem exec_timeStep (s : State) : exec .timeStep s = execTimeStep s := rfl
@[simp] theorem exec_tsqPop (core : Core) (s : State) : exec (.tsqPop core) s = execTsqPop core s := rfl
@[simp] theorem exec_tsqClr (core : Core) (s : State) : exec (.tsqClr core) s = execTsqClr core s := rfl
@[simp] theorem exec_ppsInEdge (ts : BitVec 64) (s : State) : exec (.ppsInEdge ts) s = execPpsInEdge ts s := rfl
@[simp] theorem exec_ppsTimeout (s : State) : exec .ppsTimeout s = execPpsTimeout s := rfl
@[simp] theorem exec_ppsOutPulse (s : State) : exec .ppsOutPulse s = execPpsOutPulse s := rfl
@[simp] theorem exec_ptpCmpWrite (core : Core) (k : BitVec 2) (val : Word) (s : State) :
    exec (.ptpCmpWrite core k val) s = execPtpCmpWrite core k val s := rfl
@[simp] theorem exec_timeCompareFire (k : Fin 4) (s : State) :
    exec (.timeCompareFire k) s = execTimeCompareFire k s := rfl
@[simp] theorem exec_ptpTimeloRead (core : Core) (s : State) :
    exec (.ptpTimeloRead core) s = execPtpTimeloRead core s := rfl
@[simp] theorem exec_ethFrameSent (full : Bool) (ts : BitVec 64) (s : State) :
    exec (.ethFrameSent full ts) s = execEthFrameSent full ts s := rfl
@[simp] theorem exec_telemetrySend (s : State) : exec .telemetrySend s = execTelemetrySend s := rfl
@[simp] theorem exec_ethLinkChange (p up : Bool) (s : State) :
    exec (.ethLinkChange p up) s = execEthLinkChange p up s := rfl
@[simp] theorem exec_tdmCtrlWrite (core : Core) (val : Word) (s : State) :
    exec (.tdmCtrlWrite core val) s = execTdmCtrlWrite core val s := rfl
@[simp] theorem exec_helloComplete (seat : BitVec 1) (ident : BitVec 256) (scfg prt cfg : Word) (dly : BitVec 16) (len : BitVec 10) (s : State) :
    exec (.helloComplete seat ident scfg prt cfg dly len) s = execHelloComplete seat ident scfg prt cfg dly len s := rfl
@[simp] theorem exec_helloTimeout (s : State) : exec .helloTimeout s = execHelloTimeout s := rfl
@[simp] theorem exec_tdmResync (core : Core) (s : State) : exec (.tdmResync core) s = execTdmResync core s := rfl
@[simp] theorem exec_tdmRelease (core : Core) (s : State) : exec (.tdmRelease core) s = execTdmRelease core s := rfl
@[simp] theorem exec_snapshotRoundEnd (pages : BitVec 16) (s : State) :
    exec (.snapshotRoundEnd pages) s = execSnapshotRoundEnd pages s := rfl
@[simp] theorem exec_snapshotFinal (x : Snapshot) (s : State) :
    exec (.snapshotFinal x) s = execSnapshotFinal x s := rfl
@[simp] theorem exec_snapshotFail (s : State) : exec .snapshotFail s = execSnapshotFail s := rfl
@[simp] theorem exec_snapshotRetry (s : State) : exec .snapshotRetry s = execSnapshotRetry s := rfl
@[simp] theorem exec_tickSymbol (rb : BitVec 16) (s : State) : exec (.tickSymbol rb) s = execTickSymbol rb s := rfl
@[simp] theorem exec_tickWait (r : Rider) (s : State) : exec (.tickWait r) s = execTickWait r s := rfl
@[simp] theorem exec_bundleReceived (rejected : BitVec 16) (lost : Bool) (b : Bundle) (s : State) :
    exec (.bundleReceived rejected lost b) s = execBundleReceived rejected lost b s := rfl
@[simp] theorem exec_replayBoundary (s : State) : exec .replayBoundary s = execReplayBoundary s := rfl
@[simp] theorem exec_digestReturn (k : Nat) (crc : Word) (mirror : List Word) (declared : List (BitVec 8)) (string : List (BitVec 8 × Bool)) (s : State) :
    exec (.digestReturn k crc mirror declared string) s = execDigestReturn k crc mirror declared string s := rfl
@[simp] theorem exec_tdmClaimref (core : Core) (key : Word) (s : State) :
    exec (.tdmClaimref core key) s = execTdmClaimref core key s := rfl
@[simp] theorem exec_peerClaimChange (present : Bool) (s : State) :
    exec (.peerClaimChange present) s = execPeerClaimChange present s := rfl
@[simp] theorem exec_bridleGateOpen (s : State) : exec .bridleGateOpen s = execBridleGateOpen s := rfl
@[simp] theorem exec_releaseNoticeReceived (reason : BitVec 4) (s : State) :
    exec (.releaseNoticeReceived reason) s = execReleaseNoticeReceived reason s := rfl
@[simp] theorem exec_peerSilence (lost : Bool) (s : State) :
    exec (.peerSilence lost) s = execPeerSilence lost s := rfl
@[simp] theorem exec_handback (peerReady : Bool) (s : State) :
    exec (.handback peerReady) s = execHandback peerReady s := rfl
@[simp] theorem exec_heartbeatSend (s : State) : exec .heartbeatSend s = execHeartbeatSend s := rfl
@[simp] theorem exec_heartbeatReceived (wakeReq : Bool) (s : State) :
    exec (.heartbeatReceived wakeReq) s = execHeartbeatReceived wakeReq s := rfl
@[simp] theorem exec_commitStart (s : State) : exec .commitStart s = execCommitStart s := rfl
@[simp] theorem exec_commitDone (ok : Bool) (s : State) : exec (.commitDone ok) s = execCommitDone ok s := rfl
@[simp] theorem exec_commitAbandon (s : State) : exec .commitAbandon s = execCommitAbandon s := rfl
@[simp] theorem exec_limiterSecond (s : State) : exec .limiterSecond s = execLimiterSecond s := rfl
@[simp] theorem exec_limiterTokenGain (k : BitVec 6) (s : State) :
    exec (.limiterTokenGain k) s = execLimiterTokenGain k s := rfl
@[simp] theorem exec_reserveMeasure (mv : BitVec 16) (s : State) :
    exec (.reserveMeasure mv) s = execReserveMeasure mv s := rfl
@[simp] theorem exec_reserveLow (s : State) : exec .reserveLow s = execReserveLow s := rfl
@[simp] theorem exec_rsvTest (core : Core) (s : State) : exec (.rsvTest core) s = execRsvTest core s := rfl
@[simp] theorem exec_reserveTestDone (cap esr : BitVec 16) (s : State) :
    exec (.reserveTestDone cap esr) s = execReserveTestDone cap esr s := rfl
@[simp] theorem exec_ledgerDone (core : Core) (s : State) : exec (.ledgerDone core) s = execLedgerDone core s := rfl
@[simp] theorem exec_counterCommit (s : State) : exec .counterCommit s = execCounterCommit s := rfl
@[simp] theorem exec_logClear (core : Core) (s : State) : exec (.logClear core) s = execLogClear core s := rfl
@[simp] theorem exec_logClearDone (s : State) : exec .logClearDone s = execLogClearDone s := rfl
@[simp] theorem exec_updBegin (core : Core) (s : State) : exec (.updBegin core) s = execUpdBegin core s := rfl
@[simp] theorem exec_updProg (core : Core) (s : State) : exec (.updProg core) s = execUpdProg core s := rfl
@[simp] theorem exec_progDone (ok : Bool) (s : State) : exec (.progDone ok) s = execProgDone ok s := rfl
@[simp] theorem exec_updVerify (core : Core) (s : State) : exec (.updVerify core) s = execUpdVerify core s := rfl
@[simp] theorem exec_verifyDone (s : State) : exec .verifyDone s = execVerifyDone s := rfl
@[simp] theorem exec_updArm (core : Core) (s : State) : exec (.updArm core) s = execUpdArm core s := rfl
@[simp] theorem exec_healthConfirm (core : Core) (s : State) :
    exec (.healthConfirm core) s = execHealthConfirm core s := rfl
@[simp] theorem exec_updAbort (core : Core) (s : State) : exec (.updAbort core) s = execUpdAbort core s := rfl
@[simp] theorem exec_trialExpiry (s : State) : exec .trialExpiry s = execTrialExpiry s := rfl
@[simp] theorem exec_auxPowerOn (seat wakeN resetN : Bool) (s : State) :
    exec (.auxPowerOn seat wakeN resetN) s = execAuxPowerOn seat wakeN resetN s := rfl
@[simp] theorem exec_ridersStart (selfTest : Bool) (s : State) :
    exec (.ridersStart selfTest) s = execRidersStart selfTest s := rfl
@[simp] theorem exec_auxFail (s : State) : exec .auxFail s = execAuxFail s := rfl
@[simp] theorem exec_auxRestored (s : State) : exec .auxRestored s = execAuxRestored s := rfl
@[simp] theorem exec_powerDownEnd (low : Bool) (s : State) :
    exec (.powerDownEnd low) s = execPowerDownEnd low s := rfl
@[simp] theorem exec_resetNAssert (s : State) : exec .resetNAssert s = execResetNAssert s := rfl
@[simp] theorem exec_resetNRelease (s : State) : exec .resetNRelease s = execResetNRelease s := rfl
@[simp] theorem exec_resetNStuck (s : State) : exec .resetNStuck s = execResetNStuck s := rfl
@[simp] theorem exec_resetMaskClear (s : State) : exec .resetMaskClear s = execResetMaskClear s := rfl
@[simp] theorem exec_softwareReset (core : Core) (force : Bool) (s : State) :
    exec (.softwareReset core force) s = execSoftwareReset core force s := rfl
@[simp] theorem exec_sysWdkey (core : Core) (val : Word) (s : State) :
    exec (.sysWdkey core val) s = execSysWdkey core val s := rfl
@[simp] theorem exec_systemWatchdogExpiry (s : State) :
    exec .systemWatchdogExpiry s = execSystemWatchdogExpiry s := rfl
@[simp] theorem exec_supplyMonitorReset (s : State) : exec .supplyMonitorReset s = execSupplyMonitorReset s := rfl
@[simp] theorem exec_syncInstant (s : State) : exec .syncInstant s = execSyncInstant s := rfl
@[simp] theorem exec_pllLock (p : Fin 6) (s : State) : exec (.pllLock p) s = execPllLock p s := rfl
@[simp] theorem exec_stepDriverRecovery (axis : Fin 3) (s : State) :
    exec (.stepDriverRecovery axis) s = execStepDriverRecovery axis s := rfl
@[simp] theorem exec_aliveCodeStart (s : State) : exec .aliveCodeStart s = execAliveCodeStart s := rfl
@[simp] theorem exec_bleedRestoreTimeout (u : BitVec 6) (s : State) :
    exec (.bleedRestoreTimeout u) s = execBleedRestoreTimeout u s := rfl
@[simp] theorem exec_bootAgain (s : State) : exec .bootAgain s = execBootAgain s := rfl
@[simp] theorem exec_tdmLinkRestored (s : State) : exec .tdmLinkRestored s = execTdmLinkRestored s := rfl
@[simp] theorem exec_masterSyncInterval (s : State) : exec .masterSyncInterval s = execMasterSyncInterval s := rfl
@[simp] theorem exec_cellsWriteTimeout (u : BitVec 6) (s : State) :
    exec (.cellsWriteTimeout u) s = execCellsWriteTimeout u s := rfl

end Sys2Proof.Machine
end

