-- ==== Sys2Proof/Laws/Instr.lean ====
section
/-! SUPPORT. What the scalar instructions share: the fetch, the exception entry, the flags, accesses. -/

namespace Sys2Proof.Machine
open Sys2Proof

/-! ### The fetch -/

/-- An instruction whose fetch raises no exception: illegal instruction, or its body. -/
theorem instr_fetches {s : State} {f : Fetch} (h : s.fetches f = true) (w : Word) (bad : Option Nat)
    (body : State → State) :
    s.instr f w bad body = .next (match bad with
      | some k => (s.fetched f).faultHere f.core Exc.illegal k w
      | none => body (s.fetched f)) := by
  simp only [State.fetches, Bool.and_eq_true, decide_eq_true_eq, Bool.not_eq_true', Option.isNone_iff_eq_none] at h
  obtain ⟨⟨⟨⟨h1, h2⟩, h3⟩, h4⟩, h5⟩ := h
  simp only [State.instr, State.fetched, h1, h2, h3, h4, h5]
  cases bad <;> simp

@[simp] theorem fetched_setCore (s : State) (f : Fetch) (x : CoreSt) :
    (s.fetched f).setCore f.core x = s.setCore f.core x := by
  unfold State.fetched State.when; split <;> simp

@[simp] theorem g_fetched (s : State) (f : Fetch) (k : Core) (r : Reg) : (s.fetched f).g k r = s.g k r := by
  unfold State.fetched State.when; split <;> simp

@[simp] theorem pc_fetched (s : State) (f : Fetch) (k : Core) : (s.fetched f).pc k = s.pc k := by
  unfold State.fetched State.when; split <;> simp

theorem cr_fetched (s : State) (f : Fetch) {n : Nat} (h : n ≠ Cr.ecccnt) :
    (s.fetched f).cr f.core n = s.cr f.core n := by
  unfold State.fetched State.when; split
  · simp [State.eccSeen, h]
  · rfl

theorem cr_fetched_ok (s : State) (f : Fetch) (n : Nat) (h : f.ecc ≠ .corrected) :
    (s.fetched f).cr f.core n = s.cr f.core n := by simp [State.fetched, State.when, h]

@[simp] theorem run_fetched (s : State) (f : Fetch) (k : Core) : ((s.fetched f).core k).run = (s.core k).run := by
  unfold State.fetched State.when; split
  · simp [State.eccSeen]
  · rfl

@[simp] theorem tags_fetched (s : State) (f : Fetch) (k : Core) : ((s.fetched f).core k).tags = (s.core k).tags := by
  unfold State.fetched State.when; split
  · simp [State.eccSeen]
  · rfl

/-- The fetch changes no more than a control register of the core. -/
theorem sameBut_fetched (s : State) (f : Fetch) : s.sameBut (s.fetched f) f.core := by
  unfold State.sameBut State.fetched State.when
  split
  · simp [State.eccSeen, State.setCr]
  · exact (setCore_core s f.core).symm

/-! ### Frames -/

theorem sameBut_iff {s t : State} {c : Core} :
    s.sameBut t c ↔ t.setCore c (s.core c) = s ∧ (t.core c).run = (s.core c).run ∧
      (t.core c).tags = (s.core c).tags ∧ (t.core c).wakeSeen = (s.core c).wakeSeen := by
  unfold State.sameBut
  constructor
  · intro h
    rw [h]; simp
  · rintro ⟨h1, h2, h3, h4⟩
    rw [← h1]
    simp only [setCore_setCore, core_setCore_same, ← h2, ← h3, ← h4]
    exact (setCore_core t c).symm

theorem sameBut_trans {s t u : State} {c : Core} (h : s.sameBut t c) (k : t.sameBut u c) : s.sameBut u c := by
  rw [sameBut_iff] at *
  obtain ⟨h1, h2, h3, h4⟩ := h
  obtain ⟨k1, k2, k3, k4⟩ := k
  refine ⟨?_, k2.trans h2, k3.trans h3, k4.trans h4⟩
  rw [← h1, ← k1]; simp

theorem sameBut_setG (s : State) (c : Core) (r : Reg) (v : Word) : s.sameBut (s.setG c r v) c := by
  unfold State.sameBut State.setG; split
  · exact (setCore_core s c).symm
  · simp

theorem sameBut_setCr (s : State) (c : Core) (n : Nat) (v : Word) : s.sameBut (s.setCr c n v) c := by
  simp [State.sameBut, State.setCr]

theorem sameBut_setPc (s : State) (c : Core) (a : Word) : s.sameBut (s.setPc c a) c := by
  simp [State.sameBut, State.setPc]

theorem sameBut_advance (s : State) (c : Core) : s.sameBut (s.advance c) c := sameBut_setPc _ _ _

theorem sameBut_setFlags (s : State) (c : Core) (z n k v : Bool) : s.sameBut (s.setFlags c z n k v) c :=
  sameBut_setCr _ _ _ _

theorem sameBut_refl (s : State) (c : Core) : s.sameBut s c := (setCore_core s c).symm

/-! ### Flags -/

theorem statusBit_setFlags (s : State) (c : Core) (z n k v : Bool) (b : Nat) :
    (s.setFlags c z n k v).statusBit c b =
      if b = 0 then z else if b = 1 then n else if b = 2 then k else if b = 3 then v else s.statusBit c b := by
  have h : ∀ b, b < 32 → ∀ w : Word, ((w &&& 0xFFFFFFF0) ||| flagBits z n k v).getLsbD b =
      if b = 0 then z else if b = 1 then n else if b = 2 then k else if b = 3 then v else w.getLsbD b := by
    intro b hb w
    cases z <;> cases n <;> cases k <;> cases v <;>
      (simp only [BitVec.getLsbD_or, BitVec.getLsbD_and, flagBits, b2n]
       interval_cases b <;> simp)
  unfold State.statusBit State.setFlags
  rw [cr_setCr_same]
  by_cases hb : b < 32
  · exact h b hb _
  · have h1 : ∀ x : Word, x.getLsbD b = false := fun x => BitVec.getLsbD_of_ge x b (by omega)
    rw [if_neg (by omega), if_neg (by omega), if_neg (by omega), if_neg (by omega), h1, h1]

/-! ### Exceptions -/

/-- A synchronous exception outside a handler enters its handler. -/
theorem takeExc_entered {s : State} {c : Core} (h : s.statusBit c 10 = false) (cause sub : Nat) (epc eval : Word) :
    s.entered (s.takeExc c cause sub epc eval) c cause sub epc eval := by
  have hst : ∀ w : Word, ∀ b, (entryStatus w).getLsbD b =
      if b = 8 ∨ b = 10 then true else if b = 9 then false else w.getLsbD b := by
    intro w b
    by_cases hb : b < 32
    · unfold entryStatus
      simp only [BitVec.getLsbD_or, BitVec.getLsbD_and]
      interval_cases b <;> simp
    · have h1 : ∀ x : Word, x.getLsbD b = false := fun x => BitVec.getLsbD_of_ge x b (by omega)
      rw [h1, h1, if_neg (by omega), if_neg (by omega)]
  unfold State.takeExc
  rw [if_neg (by simp [h])]
  unfold State.enterExc
  refine ⟨?_, ?_, ?_, ?_, ?_, ?_, ?_, ?_, ?_, ?_, ?_, ?_⟩
  · simp [cr_setCr, Cr.epc, Cr.status, Cr.estatus, Cr.eval, Cr.ecause]
  · simp [cr_setCr, Cr.epc, Cr.status, Cr.estatus, Cr.eval, Cr.ecause, ecauseWord]
  · simp [cr_setCr, Cr.epc, Cr.status, Cr.estatus, Cr.eval, Cr.ecause]
  · simp [cr_setCr, Cr.epc, Cr.status, Cr.estatus, Cr.eval, Cr.ecause]
  · simp only [State.statusBit, cr_setPc, cr_setRun, cr_setCr_same, hst]; simp
  · simp only [State.statusBit, cr_setPc, cr_setRun, cr_setCr_same, hst]; simp
  · simp only [State.statusBit, cr_setPc, cr_setRun, cr_setCr_same, hst]; simp
  · intro b hb
    simp only [State.statusBit, cr_setPc, cr_setRun, cr_setCr_same, hst]
    rw [if_neg (by omega), if_neg (by omega)]
  · simp [cr_setCr, Cr.epc, Cr.status, Cr.estatus, Cr.eval, Cr.ecause, Cr.vbase]
  · intro n hn
    simp only [List.mem_cons, not_or] at hn
    obtain ⟨h0, h1, h2, h3, h4, -⟩ := hn
    simp [cr_setCr, h0, h1, h2, h3, h4]
  · intro r; simp
  · simp only [State.setPc, State.setRun, State.setCr, setCore_setCore, core_setCore_same]

theorem faultHere_entered {s : State} {c : Core} (h : s.statusBit c 10 = false) (cause sub : Nat) (eval : Word) :
    s.entered (s.faultHere c cause sub eval) c cause sub (s.pc c) eval := takeExc_entered h _ _ _ _

@[simp] theorem statusBit_fetched (s : State) (f : Fetch) (b : Nat) :
    (s.fetched f).statusBit f.core b = s.statusBit f.core b := by
  unfold State.statusBit
  rw [cr_fetched s f (by decide)]

end Sys2Proof.Machine
end

