-- ==== Sys2Proof/Laws/Memory.lean ====
section
/-! SUPPORT. Memory: what a write reads back as, and that every memory operation keeps the canonical form. -/

namespace Sys2Proof.Machine
open Sys2Proof

/-! ### Reads after writes -/

@[simp] theorem byte_setByte_same (s : State) (a : Nat) (b : BitVec 8) : (s.setByte a b).byte a = b := by
  simp [State.setByte, State.byte]

theorem byte_setByte_ne (s : State) {a x : Nat} (b : BitVec 8) (h : x ≠ a) : (s.setByte a b).byte x = s.byte x := by
  simp [State.setByte, State.byte, mapGet_mapSet_ne _ _ _ _ h]

/-- A store of `n` bytes leaves every byte outside them. -/
theorem byte_store_outside (n : Nat) : ∀ (s : State) (a v x : Nat), x < a ∨ a + n ≤ x →
    (s.store n a v).byte x = s.byte x := by
  induction n with
  | zero => intro s a v x _; rfl
  | succ k ih =>
    intro s a v x h
    have h1 : x ≠ a := by omega
    rw [State.store, ih _ _ _ _ (by omega), byte_setByte_ne s _ h1]

/-- A byte inside a store holds its part of the value. -/
theorem byte_store_inside (n : Nat) : ∀ (s : State) (a v i : Nat), i < n →
    (s.store n a v).byte (a + i) = BitVec.ofNat 8 (v / 256 ^ i) := by
  induction n with
  | zero => intro s a v i h; omega
  | succ k ih =>
    intro s a v i h
    cases i with
    | zero =>
      rw [State.store, byte_store_outside k _ _ _ _ (by omega)]
      simp
    | succ j =>
      have := ih (s.setByte a (BitVec.ofNat 8 v)) (a + 1) (v / 256) j (by omega)
      rw [State.store, show a + (j + 1) = a + 1 + j by omega, this, Nat.div_div_eq_div_mul, Nat.pow_succ,
        Nat.mul_comm 256]

/-- Two states with the same bytes from `a` on load the same number. -/
theorem load_congr (n : Nat) : ∀ (s t : State) (a : Nat), (∀ i < n, s.byte (a + i) = t.byte (a + i)) →
    s.load n a = t.load n a := by
  induction n with
  | zero => intro s t a _; rfl
  | succ k ih =>
    intro s t a h
    rw [State.load, State.load, ih s t (a + 1) fun i hi => by have := h (i + 1) (by omega); rwa [show a + 1 + i = a + (i + 1) by omega],
      show s.byte a = t.byte a from by simpa using h 0 (by omega)]

/-- A load after a store of the same bytes gives the value stored. -/
theorem load_store_same (n : Nat) : ∀ (s : State) (a v : Nat), (s.store n a v).load n a = v % 256 ^ n := by
  induction n with
  | zero => intro s a v; simp [State.load, Nat.mod_one]
  | succ k ih =>
    intro s a v
    have h0 : (s.store (k + 1) a v).byte a = BitVec.ofNat 8 v := by
      simpa using byte_store_inside (k + 1) s a v 0 (by omega)
    have hm : v % 256 ^ (k + 1) = v % 256 + 256 * (v / 256 % 256 ^ k) := by
      rw [Nat.pow_succ, Nat.mul_comm, Nat.mod_mul]
    rw [State.load, h0, State.store, ih, BitVec.toNat_ofNat, hm]

/-- A load of other bytes is left by a store. -/
theorem load_store_outside (s : State) (n m a b v : Nat) (h : b + m ≤ a ∨ a + n ≤ b) :
    (s.store n a v).load m b = s.load m b :=
  load_congr m _ _ b fun i _ => byte_store_outside n s a v _ (by omega)

/-! ### The canonical form -/

theorem wf_iff {m : List Host.Cell} :
    Memory.wf m = true ↔ keysRise m = true ∧ ∀ e ∈ m, e.2 ≠ memUnlisted e.1 := by
  simp [Memory.wf]

theorem wf_setByte {s : State} (a : Nat) (b : BitVec 8) (h : Memory.wf s.mem = true) :
    Memory.wf (s.setByte a b).mem = true := by
  obtain ⟨h1, h2⟩ := wf_iff.mp h
  refine wf_iff.mpr ⟨keysRise_mapSet _ a b h1, fun e he => ?_⟩
  rcases mapSet_mem he with ⟨rfl, hb⟩ | he
  · exact hb
  · exact h2 e he

theorem wf_store (n : Nat) : ∀ {s : State} (a v : Nat), Memory.wf s.mem = true →
    Memory.wf (s.store n a v).mem = true := by
  induction n with
  | zero => intro s a v h; exact h
  | succ k ih => intro s a v h; exact ih _ _ (wf_setByte a _ h)

theorem wf_setWord {s : State} (a v : Nat) (h : Memory.wf s.mem = true) : Memory.wf (s.setWord a v).mem = true :=
  wf_store 4 a v h

theorem wf_setBytes (bs : List Nat) : ∀ {s : State} (a : Nat), Memory.wf s.mem = true →
    Memory.wf (s.setBytes a bs).mem = true := by
  induction bs with
  | nil => intro s a h; exact h
  | cons b rest ih => intro s a h; exact ih (a + 1) (wf_setByte a _ h)

theorem wf_filter {m : List Host.Cell} (p : Host.Cell → Bool) (h : Memory.wf m = true) :
    Memory.wf (m.filter p) = true := by
  obtain ⟨h1, h2⟩ := wf_iff.mp h
  exact wf_iff.mpr ⟨keysRise_filter p h1, fun e he => h2 e (List.mem_filter.mp he).1⟩

theorem wf_loseMem {s : State} (lo hi : Nat) (h : Memory.wf s.mem = true) :
    Memory.wf (s.loseMem lo hi).mem = true := wf_filter _ h

/-- The memory after reset has the form. -/
theorem wf_reset : Memory.wf State.reset.mem = true := rfl

/-- A word reads back as it was written. -/
theorem word_setWord_same (s : State) (a v : Nat) : (s.setWord a v).word a = v % 2 ^ 32 := load_store_same 4 s a v

/-- Bytes outside a written word read as before. -/
theorem getBytes_setWord_outside (s : State) (a v b n : Nat) (h : b + n ≤ a ∨ a + 4 ≤ b) :
    (s.setWord a v).getBytes b n = s.getBytes b n := by
  unfold State.getBytes
  refine List.map_congr_left fun i hi => congrArg BitVec.toNat ?_
  have := List.mem_range.mp hi
  exact byte_store_outside 4 s a v (b + i) (by omega)

/-- One byte keeps a CRC of 32 bits within 32 bits. -/
theorem crcByte_lt {poly c : Nat} (b : Nat) (hp : poly < 2 ^ 32) (hc : c < 2 ^ 32) : crcByte poly c b < 2 ^ 32 := by
  have bitLt : ∀ {x : Nat}, x < 2 ^ 32 → crcBit poly x < 2 ^ 32 := by
    intro x hx
    unfold crcBit
    have : x / 2 < 2 ^ 32 := by omega
    split
    · exact Nat.xor_lt_two_pow this hp
    · exact this
  have : c ^^^ (b % 256) < 2 ^ 32 := Nat.xor_lt_two_pow hc (by omega)
  exact bitLt (bitLt (bitLt (bitLt (bitLt (bitLt (bitLt (bitLt this)))))))

/-- A CRC-32C has 32 bits. -/
theorem crc32c_lt (bs : List Nat) : crc32c bs < 2 ^ 32 := by
  have : ∀ (l : List Nat) (c : Nat), c < 2 ^ 32 → l.foldl (crcByte 0x82F63B78) c < 2 ^ 32 := by
    intro l
    induction l with
    | nil => exact fun _ h => h
    | cons b l ih => exact fun c h => ih _ (crcByte_lt b (by decide) h)
  exact Nat.xor_lt_two_pow (this bs _ (by decide)) (by decide)

end Sys2Proof.Machine
end

