-- ==== Sys2Proof/Laws/Rest.lean ====
section
/-! SUPPORT. The operations that leave the memory, the queue and the cores as they are. -/

set_option linter.unusedSimpArgs false

namespace Sys2Proof.Machine
open Sys2Proof Sys2Proof.Reg

/-- The memory, the queue and the cores. -/
def State.rest (s : State) : List Host.Cell × List Instr × CoreSt × CoreSt × CoreSt :=
  (s.mem, s.pending, s.r0, s.r1, s.grm)

theorem State.sameRest_iff (s t : State) (h : t.pending = s.pending) : s.sameRest t ↔ t.rest = s.rest := by
  simp [State.sameRest, State.sameCores, State.rest, h]

theorem State.mem_of_rest {s t : State} (h : t.rest = s.rest) : t.mem = s.mem := congrArg (·.1) h

theorem State.pending_of_rest {s t : State} (h : t.rest = s.rest) : t.pending = s.pending := congrArg (·.2.1) h

theorem State.sameRest_of_rest {s t : State} (h : t.rest = s.rest) : s.sameRest t := by
  simp only [State.rest, Prod.mk.injEq] at h
  exact ⟨h.1, h.2.2⟩

theorem State.core_of_rest {s t : State} (h : t.rest = s.rest) (c : Core) : t.core c = s.core c := by
  simp only [State.rest, Prod.mk.injEq] at h
  cases c <;> simp [State.core, h]

@[simp] theorem State.mapEvt_rest (s : State) (g : EvtSt → EvtSt) : (s.mapEvt g).rest = s.rest := rfl
@[simp] theorem State.mapPad_rest (s : State) (g : PadSt → PadSt) : (s.mapPad g).rest = s.rest := rfl
@[simp] theorem State.mapPower_rest (s : State) (g : PowerSt → PowerSt) : (s.mapPower g).rest = s.rest := rfl
@[simp] theorem State.mapThermal_rest (s : State) (g : ThermalSt → ThermalSt) : (s.mapThermal g).rest = s.rest := rfl
@[simp] theorem State.mapNvm_rest (s : State) (g : NvmSt → NvmSt) : (s.mapNvm g).rest = s.rest := rfl
@[simp] theorem State.mapFio_rest (s : State) (g : FioSt → FioSt) : (s.mapFio g).rest = s.rest := rfl
@[simp] theorem State.mapCrb_rest (s : State) (g : CurbSt → CurbSt) : (s.mapCrb g).rest = s.rest := rfl
@[simp] theorem State.mapPrt_rest (s : State) (g : PrtSt → PrtSt) : (s.mapPrt g).rest = s.rest := rfl
@[simp] theorem State.mapHerd_rest (s : State) (g : HerdSt → HerdSt) : (s.mapHerd g).rest = s.rest := rfl
@[simp] theorem State.mapChn_rest (s : State) (g : ChnSt → ChnSt) : (s.mapChn g).rest = s.rest := rfl
@[simp] theorem State.mapCel_rest (s : State) (g : CelSt → CelSt) : (s.mapCel g).rest = s.rest := rfl
@[simp] theorem State.mapEst_rest (s : State) (g : EstSt → EstSt) : (s.mapEst g).rest = s.rest := rfl
@[simp] theorem State.mapHvm_rest (s : State) (g : HvmSt → HvmSt) : (s.mapHvm g).rest = s.rest := rfl
@[simp] theorem State.mapGgn_rest (s : State) (g : GgnSt → GgnSt) : (s.mapGgn g).rest = s.rest := rfl
@[simp] theorem State.mapCan_rest (s : State) (g : CanSt → CanSt) : (s.mapCan g).rest = s.rest := rfl
@[simp] theorem State.mapEth_rest (s : State) (g : EthSt → EthSt) : (s.mapEth g).rest = s.rest := rfl
@[simp] theorem State.mapPtp_rest (s : State) (g : PtpSt → PtpSt) : (s.mapPtp g).rest = s.rest := rfl
@[simp] theorem State.mapUpd_rest (s : State) (g : UpdSt → UpdSt) : (s.mapUpd g).rest = s.rest := rfl
@[simp] theorem State.mapSys_rest (s : State) (g : SysSt → SysSt) : (s.mapSys g).rest = s.rest := rfl
@[simp] theorem State.mapTdm_rest (s : State) (g : TdmSt → TdmSt) : (s.mapTdm g).rest = s.rest := rfl
@[simp] theorem State.set_rest (s : State) (f : Fld) (v : Nat) : (s.set f v).rest = s.rest := rfl
@[simp] theorem State.resetRange_rest (s : State) (lo hi : Nat) : (s.resetRange lo hi).rest = s.rest := rfl
@[simp] theorem State.put_rest (s : State) (f : Fld) (b : Bool) : (s.put f b).rest = s.rest := rfl
@[simp] theorem State.setBitOf_rest (s : State) (f : Fld) (b : Nat) : (s.setBitOf f b).rest = s.rest := rfl
@[simp] theorem State.clrBitOf_rest (s : State) (f : Fld) (b : Nat) : (s.clrBitOf f b).rest = s.rest := rfl
@[simp] theorem State.seti_rest (s : State) (f : Fld) (i : Int) : (s.seti f i).rest = s.rest := rfl
@[simp] theorem State.bump_rest (s : State) (f : Fld) (k : Nat) : (s.bump f k).rest = s.rest := rfl

@[simp] theorem State.resetFields_rest (fs : List Fld) : ∀ s : State, (s.resetFields fs).rest = s.rest := by
  induction fs with
  | nil => intro s; rfl
  | cons f rest ih => intro s; rw [State.resetFields, ih]; rfl

theorem foldl_rest {α : Type} (f : State → α → State) (l : List α) (s : State)
    (h : ∀ t x, (f t x).rest = t.rest) : (l.foldl f s).rest = s.rest := by
  induction l generalizing s with
  | nil => rfl
  | cons a l ih => rw [List.foldl_cons, ih, h]

@[simp] theorem State.ite_rest {c : Prop} [Decidable c] (a b : State) :
    (if c then a else b).rest = if c then a.rest else b.rest := by split <;> rfl

theorem foldr_rest {α : Type} (f : α → State → State) (l : List α) (s : State)
    (h : ∀ x t, (f x t).rest = t.rest) : (l.foldr f s).rest = s.rest := by
  induction l with
  | nil => rfl
  | cons a l ih => rw [List.foldr_cons, h, ih]

@[simp] theorem State.when_rest (s : State) (c : Bool) (g : State → State) :
    (s.when c g).rest = if c then (g s).rest else s.rest := by unfold State.when; split <;> rfl

@[simp] theorem State.loadFactory_rest (s : State) : (s.loadFactory).rest = s.rest := by
  unfold State.loadFactory; try dsimp only
  repeat' first
    | intro _ _
    | rw [foldl_rest]
    | rw [foldr_rest]
    | (simp; done)
    | split
    | simp
    | (simp [State.rest]; done)

@[simp] theorem State.note_rest (s : State) (g : Bundle → Bundle) : (s.note g).rest = s.rest := by
  simp [State.note]

@[simp] theorem State.latchEvt_rest (s : State) (n : Nat) : (s.latchEvt n).rest = s.rest := by
  simp [State.latchEvt]

@[simp] theorem State.softEvt_rest (s : State) (n : Nat) : (s.softEvt n).rest = s.rest := by
  unfold State.softEvt; try dsimp only
  repeat' first
    | intro _ _
    | rw [foldl_rest]
    | rw [foldr_rest]
    | (simp; done)
    | split
    | simp
    | (simp [State.rest]; done)

@[simp] theorem State.raise_rest (s : State) (n : Nat) : (s.raise n).rest = s.rest := by
  simp [State.raise]

@[simp] theorem State.recordRefusal_rest (s : State) (m : Master) (k : Access) (kind : Nat) (a : Nat) : (s.recordRefusal m k kind a).rest = s.rest := by
  simp [State.recordRefusal]

@[simp] theorem State.draw_rest (s : State) (w : Nat) : ((s.draw w).2).rest = s.rest := by
  simp [State.draw, State.rest]

@[simp] theorem State.claimEvt_rest (s : State) (c : Core) : ((s.claimEvt c).2).rest = s.rest := by
  unfold State.claimEvt; try dsimp only
  repeat' first
    | intro _ _
    | rw [foldl_rest]
    | rw [foldr_rest]
    | (simp; done)
    | split
    | simp
    | (simp [State.rest]; done)

@[simp] theorem State.doneEvt_rest (s : State) (c : Core) (n : Nat) : (s.doneEvt c n).rest = s.rest := by
  simp [State.doneEvt]

@[simp] theorem State.setEvt_rest (s : State) (k : Nat) (v : Nat) : (s.setEvt k v).rest = s.rest := by
  unfold State.setEvt; try dsimp only
  repeat' first
    | intro _ _
    | rw [foldl_rest]
    | rw [foldr_rest]
    | (simp; done)
    | split
    | simp
    | (simp [State.rest]; done)

@[simp] theorem State.releaseEvents_rest (s : State) (c : Core) : (s.releaseEvents c).rest = s.rest := by
  unfold State.releaseEvents; try dsimp only
  repeat' first
    | intro _ _
    | rw [foldl_rest]
    | rw [foldr_rest]
    | (simp; done)
    | split
    | simp
    | (simp [State.rest]; done)

@[simp] theorem State.arbUnit_rest (s : State) (cls : Nat) (u : Nat) : (s.arbUnit cls u).rest = s.rest := by
  unfold State.arbUnit; try dsimp only
  repeat' first
    | intro _ _
    | rw [foldl_rest]
    | rw [foldr_rest]
    | (simp; done)
    | split
    | simp
    | (simp [State.rest]; done)

@[simp] theorem State.promoteAll_rest (s : State) (p : ArbPost → Bool) : (s.promoteAll p).rest = s.rest := by
  simp [State.promoteAll]

@[simp] theorem State.arbCycle_rest (s : State) (core : Bool) (posts : List ArbPost) (ended : List ArbPost) : (s.arbCycle core posts ended).rest = s.rest := by
  unfold State.arbCycle; try dsimp only
  repeat' first
    | intro _ _
    | rw [foldl_rest]
    | rw [foldr_rest]
    | (simp; done)
    | split
    | simp
    | (simp [State.rest]; done)

@[simp] theorem State.takeLock_rest (s : State) (c : Core) (n : Nat) : (s.takeLock c n).rest = s.rest := by
  simp [State.takeLock]

@[simp] theorem State.freeLock_rest (s : State) (n : Nat) : (s.freeLock n).rest = s.rest := by
  simp [State.freeLock]

@[simp] theorem State.lockRefused_rest (s : State) (c : Core) (n : Nat) (kind : Nat) : (s.lockRefused c n kind).rest = s.rest := by
  simp [State.lockRefused]

@[simp] theorem State.dropLocks_rest (s : State) (c : Core) : (s.dropLocks c).rest = s.rest := by
  unfold State.dropLocks; try dsimp only
  repeat' first
    | intro _ _
    | rw [foldl_rest]
    | rw [foldr_rest]
    | (simp; done)
    | split
    | simp
    | (simp [State.rest]; done)

@[simp] theorem State.lockLong_rest (s : State) (n : Nat) : (s.lockLong n).rest = s.rest := by
  simp [State.lockLong]

@[simp] theorem State.lockLimit_rest (s : State) (v : Nat) : (s.lockLimit v).rest = s.rest := by
  unfold State.lockLimit; try dsimp only
  repeat' first
    | intro _ _
    | rw [foldl_rest]
    | rw [foldr_rest]
    | (simp; done)
    | split
    | simp
    | (simp [State.rest]; done)

@[simp] theorem State.enqueue_rest (s : State) (c : Commit) : (s.enqueue c).rest = s.rest := by
  simp [State.enqueue, State.rest]

@[simp] theorem State.setLim_rest (s : State) (k : Nat) (x : LimSt) : (s.setLim k x).rest = s.rest := by
  simp [State.setLim, State.rest]

@[simp] theorem State.limBound_rest (s : State) (k : Nat) (was : Bool) : (s.limBound k was).rest = s.rest := by
  simp [State.limBound]

@[simp] theorem State.writeSuppressed_rest (s : State) (k : Nat) : (s.writeSuppressed k).rest = s.rest := by
  simp [State.writeSuppressed]

@[simp] theorem State.passLimit_rest (s : State) (c : Commit) : ((s.passLimit c).2).rest = s.rest := by
  unfold State.passLimit; try dsimp only
  repeat' first
    | intro _ _
    | rw [foldl_rest]
    | rw [foldr_rest]
    | (simp; done)
    | split
    | simp
    | (simp [State.rest]; done)

@[simp] theorem State.hwRecord_rest (s : State) (code : Nat) (sev : Nat) (payload : List Nat) : (s.hwRecord code sev payload).rest = s.rest := by
  unfold State.hwRecord; try dsimp only
  repeat' first
    | intro _ _
    | rw [foldl_rest]
    | rw [foldr_rest]
    | (simp; done)
    | split
    | simp
    | (simp [State.rest]; done)

@[simp] theorem State.logCount_rest (s : State) (n : Nat) : (s.logCount n).rest = s.rest := by
  simp [State.logCount]

@[simp] theorem State.redrive_rest (s : State) : (s.redrive).rest = s.rest := by
  simp [State.redrive]

@[simp] theorem State.sendFrame_rest (s : State) (port : Nat) (f : Frame) : (s.sendFrame port f).rest = s.rest := by
  simp [State.sendFrame]

@[simp] theorem State.bleedStat_rest (s : State) : (s.bleedStat).rest = s.rest := by
  simp [State.bleedStat]

@[simp] theorem State.bleedOff_rest (s : State) : (s.bleedOff).rest = s.rest := by
  simp [State.bleedOff]

@[simp] theorem State.refuseGait_rest (s : State) (reason : Nat) : (s.refuseGait reason).rest = s.rest := by
  simp [State.refuseGait]

@[simp] theorem State.beginTrans_rest (s : State) (num : Nat) (target : Nat) (cause : Nat) (requested : Bool) : (s.beginTrans num target cause requested).rest = s.rest := by
  simp [State.beginTrans, State.rest]

@[simp] theorem State.removalBegun_rest (s : State) : ((s.removalBegun).2).rest = s.rest := by
  unfold State.removalBegun; try dsimp only
  repeat' first
    | intro _ _
    | rw [foldl_rest]
    | rw [foldr_rest]
    | (simp; done)
    | split
    | simp
    | (simp [State.rest]; done)

@[simp] theorem State.forceTrans_rest (s : State) (num : Nat) (target : Nat) (cause : Nat) : (s.forceTrans num target cause).rest = s.rest := by
  unfold State.forceTrans; try dsimp only
  repeat' first
    | intro _ _
    | rw [foldl_rest]
    | rw [foldr_rest]
    | (simp; done)
    | split
    | simp
    | (simp [State.rest]; done)

@[simp] theorem State.markLame_rest (s : State) (b : Nat) (v : Bool) : (s.markLame b v).rest = s.rest := by
  simp [State.markLame, State.rest]

@[simp] theorem State.enterLame_rest (s : State) : (s.enterLame).rest = s.rest := by
  simp [State.enterLame]

@[simp] theorem State.wake_rest (s : State) (b : Nat) : (s.wake b).rest = s.rest := by
  unfold State.wake; try dsimp only
  repeat' first
    | intro _ _
    | rw [foldl_rest]
    | rw [foldr_rest]
    | (simp; done)
    | split
    | simp
    | (simp [State.rest]; done)

@[simp] theorem State.canBit_rest (s : State) (f : Nat → Nat → Fld) (x : Nat) (n : Nat) (v : Bool) : (s.canBit f x n v).rest = s.rest := by
  simp [State.canBit]

@[simp] theorem State.canNew_rest (s : State) (x : Nat) (n : Nat) (v : Bool) : (s.canNew x n v).rest = s.rest := by
  simp [State.canNew]

@[simp] theorem State.canPend_rest (s : State) (x : Nat) (n : Nat) (v : Bool) : (s.canPend x n v).rest = s.rest := by
  simp [State.canPend]

@[simp] theorem State.canStamp_rest (s : State) (x : Nat) (n : Nat) (t : Nat) : (s.canStamp x n t).rest = s.rest := by
  simp [State.canStamp]

@[simp] theorem State.canRearm_rest (s : State) (x : Nat) (n : Nat) : (s.canRearm x n).rest = s.rest := by
  simp [State.canRearm]

@[simp] theorem State.canStore_rest (s : State) (x : Nat) (n : Nat) (f : CanFrame) (t : Nat) : (s.canStore x n f t).rest = s.rest := by
  unfold State.canStore; try dsimp only
  repeat' first
    | intro _ _
    | rw [foldl_rest]
    | rw [foldr_rest]
    | (simp; done)
    | split
    | simp
    | (simp [State.rest]; done)

@[simp] theorem State.canLost_rest (s : State) (x : Nat) : (s.canLost x).rest = s.rest := by
  simp [State.canLost]

@[simp] theorem State.canReceive_rest (s : State) (x : Nat) (f : CanFrame) (t : Nat) : (s.canReceive x f t).rest = s.rest := by
  unfold State.canReceive; try dsimp only
  repeat' first
    | intro _ _
    | rw [foldl_rest]
    | rw [foldr_rest]
    | (simp; done)
    | split
    | simp
    | (simp [State.rest]; done)

@[simp] theorem State.canOnBus_rest (s : State) (x : Nat) : ((s.canOnBus x).2).rest = s.rest := by
  unfold State.canOnBus; try dsimp only
  repeat' first
    | intro _ _
    | rw [foldl_rest]
    | rw [foldr_rest]
    | (simp; done)
    | split
    | simp
    | (simp [State.rest]; done)

@[simp] theorem State.canConfine_rest (s : State) (x : Nat) : (s.canConfine x).rest = s.rest := by
  simp [State.canConfine]

@[simp] theorem State.canRecover_rest (s : State) (x : Nat) : (s.canRecover x).rest = s.rest := by
  simp [State.canRecover]

@[simp] theorem State.canModeWritten_rest (s : State) (x : Nat) : (s.canModeWritten x).rest = s.rest := by
  simp [State.canModeWritten]

@[simp] theorem State.canCfgWritten_rest (s : State) (x : Nat) (n : Nat) (old : Nat) : (s.canCfgWritten x n old).rest = s.rest := by
  simp [State.canCfgWritten]

@[simp] theorem State.canWake_rest (s : State) : (s.canWake).rest = s.rest := by
  simp [State.canWake, State.rest]

@[simp] theorem State.stepLost_rest (s : State) (f : Fld) : (s.stepLost f).rest = s.rest := by
  simp [State.stepLost]

@[simp] theorem State.standbyLocal_rest (s : State) : (s.standbyLocal).rest = s.rest := by
  simp [State.standbyLocal]

@[simp] theorem State.recordCause_rest (s : State) (code : Nat) (gc : Bool) (first : Bool) : (s.recordCause code gc first).rest = s.rest := by
  simp [State.recordCause]

@[simp] theorem State.enterStop_rest (s : State) (st : Nat) : (s.enterStop st).rest = s.rest := by
  unfold State.enterStop; try dsimp only
  repeat' first
    | intro _ _
    | rw [foldl_rest]
    | rw [foldr_rest]
    | (simp; done)
    | split
    | simp
    | (simp [State.rest]; done)

@[simp] theorem State.enterSrs_rest (s : State) : (s.enterSrs).rest = s.rest := by
  unfold State.enterSrs; try dsimp only
  repeat' first
    | intro _ _
    | rw [foldl_rest]
    | rw [foldr_rest]
    | (simp; done)
    | split
    | simp
    | (simp [State.rest]; done)

@[simp] theorem State.beginStop_rest (s : State) : (s.beginStop).rest = s.rest := by
  simp [State.beginStop, State.rest]

@[simp] theorem State.setGuard_rest (s : State) (g : Nat) : (s.setGuard g).rest = s.rest := by
  simp [State.setGuard]

@[simp] theorem State.crbDiag_rest (s : State) (f : Fld) : (s.crbDiag f).rest = s.rest := by
  simp [State.crbDiag]

@[simp] theorem State.loadScfg_rest (s : State) (w : List Nat) (crc : Nat) : (s.loadScfg w crc).rest = s.rest := by
  unfold State.loadScfg; try dsimp only
  repeat' first
    | intro _ _
    | rw [foldl_rest]
    | rw [foldr_rest]
    | (simp; done)
    | split
    | simp
    | (simp [State.rest]; done)

@[simp] theorem State.sweepBoundary_rest (s : State) : (s.sweepBoundary).rest = s.rest := by
  simp [State.sweepBoundary]

@[simp] theorem State.paramCheck_rest (s : State) : (s.paramCheck).rest = s.rest := by
  simp [State.paramCheck]

@[simp] theorem State.limit_rest (s : State) (f : Fld) (v : Int) (lo : Int) (hi : Int) : (s.limit f v lo hi).rest = s.rest := by
  simp [State.limit]

@[simp] theorem State.ends_rest (s : State) (l : Nat) : ((s.ends l).2.2).rest = s.rest := by
  unfold State.ends; try dsimp only
  repeat' first
    | intro _ _
    | rw [foldl_rest]
    | rw [foldr_rest]
    | (simp; done)
    | split
    | simp
    | (simp [State.rest]; done)

@[simp] theorem State.collectCell_rest (s : State) (sw : Nat) (cell : Nat) (l : Nat) : (s.collectCell sw cell l).rest = s.rest := by
  unfold State.collectCell; try dsimp only
  repeat' first
    | intro _ _
    | rw [foldl_rest]
    | rw [foldr_rest]
    | (simp; done)
    | split
    | simp
    | (simp [State.rest]; done)

@[simp] theorem State.learnCell_rest (s : State) (cell : Nat) (l : Nat) : (s.learnCell cell l).rest = s.rest := by
  unfold State.learnCell; try dsimp only
  repeat' first
    | intro _ _
    | rw [foldl_rest]
    | rw [foldr_rest]
    | (simp; done)
    | split
    | simp
    | (simp [State.rest]; done)

@[simp] theorem State.learnCollect_rest (s : State) (sw : Nat) : (s.learnCollect sw).rest = s.rest := by
  unfold State.learnCollect; try dsimp only
  repeat' first
    | intro _ _
    | rw [foldl_rest]
    | rw [foldr_rest]
    | (simp; done)
    | split
    | simp
    | (simp [State.rest]; done)

@[simp] theorem State.estMissing_rest (s : State) : (s.estMissing).rest = s.rest := by
  unfold State.estMissing; try dsimp only
  repeat' first
    | intro _ _
    | rw [foldl_rest]
    | rw [foldr_rest]
    | (simp; done)
    | split
    | simp
    | (simp [State.rest]; done)

@[simp] theorem State.estCollect_rest (s : State) (sw : Nat) : (s.estCollect sw).rest = s.rest := by
  unfold State.estCollect; try dsimp only
  repeat' first
    | intro _ _
    | rw [foldl_rest]
    | rw [foldr_rest]
    | (simp; done)
    | split
    | simp
    | (simp [State.rest]; done)

@[simp] theorem State.keepPred_rest (s : State) (sw : Nat) : (s.keepPred sw).rest = s.rest := by
  simp [State.keepPred]

@[simp] theorem State.autoEnded_rest (s : State) (sw : Nat) (status : Nat) : (s.autoEnded sw status).rest = s.rest := by
  unfold State.autoEnded; try dsimp only
  repeat' first
    | intro _ _
    | rw [foldl_rest]
    | rw [foldr_rest]
    | (simp; done)
    | split
    | simp
    | (simp [State.rest]; done)

@[simp] theorem State.paramApply_rest (s : State) : (s.paramApply).rest = s.rest := by
  simp [State.paramApply]

@[simp] theorem State.estCtrl_rest (s : State) (v : Nat) : (s.estCtrl v).rest = s.rest := by
  simp [State.estCtrl]

@[simp] theorem State.lsnapReq_rest (s : State) (v : Nat) : (s.lsnapReq v).rest = s.rest := by
  simp [State.lsnapReq]

@[simp] theorem State.setUnit_rest (s : State) (u : Nat) (x : UnitSt) : (s.setUnit u x).rest = s.rest := by
  simp [State.setUnit, State.rest]

@[simp] theorem State.mapUnit_rest (s : State) (u : Nat) (g : UnitSt → UnitSt) : (s.mapUnit u g).rest = s.rest := by
  simp [State.mapUnit]

@[simp] theorem State.relay_rest (s : State) (south : Bool) (y : LineSym) : (s.relay south y).rest = s.rest := by
  simp [State.relay]

@[simp] theorem State.request_rest (s : State) (h : Hop) (cmd : Nat) (p : List Nat) (g : UnitSt → UnitSt) : (s.request h cmd p g).rest = s.rest := by
  simp [State.request]

@[simp] theorem State.chainReq_rest (s : State) (h : Hop) (cmd : Nat) (p : List Nat) (act : UnitSt → UnitSt) : (s.chainReq h cmd p act).rest = s.rest := by
  simp [State.chainReq]

@[simp] theorem State.refDown_rest (s : State) : (s.refDown).rest = s.rest := by
  simp [State.refDown]

@[simp] theorem State.herdRegs_rest (s : State) : (s.herdRegs).rest = s.rest := by
  simp [State.herdRegs]

@[simp] theorem State.setJobs_rest (s : State) (js : List Job) : (s.setJobs js).rest = s.rest := by
  simp [State.setJobs]

@[simp] theorem State.putJob_rest (s : State) (j : Job) : (s.putJob j).rest = s.rest := by
  simp [State.putJob]

@[simp] theorem State.dropJob_rest (s : State) (j : Job) : (s.dropJob j).rest = s.rest := by
  simp [State.dropJob]

@[simp] theorem State.reapJobs_rest (s : State) : (s.reapJobs).rest = s.rest := by
  simp [State.reapJobs]

@[simp] theorem State.dispatch_rest (s : State) (j : Job) : (s.dispatch j).rest = s.rest := by
  simp [State.dispatch]

@[simp] theorem State.evaluate_rest (s : State) (fuel : Nat) : (s.evaluate fuel).rest = s.rest := by
  induction fuel generalizing s with
  | zero => rfl
  | succ n ih =>
    unfold State.evaluate; dsimp only
    repeat' first
      | intro _ _
      | rw [foldl_rest]
      | rw [ih]
      | (simp; done)
      | split
      | simp

@[simp] theorem State.markCandidates_rest (s : State) : (s.markCandidates).rest = s.rest := by
  simp [State.markCandidates]

@[simp] theorem State.schedule_rest (s : State) : (s.schedule).rest = s.rest := by
  unfold State.schedule; try dsimp only
  repeat' first
    | intro _ _
    | rw [foldl_rest]
    | rw [foldr_rest]
    | (simp; done)
    | split
    | simp
    | (simp [State.rest]; done)

@[simp] theorem State.queueJob_rest (s : State) (j : Job) : (s.queueJob j).rest = s.rest := by
  unfold State.queueJob; try dsimp only
  repeat' first
    | intro _ _
    | rw [foldl_rest]
    | rw [foldr_rest]
    | (simp; done)
    | split
    | simp
    | (simp [State.rest]; done)

@[simp] theorem State.setLane_rest (s : State) (l : Nat) (r : Nat) (v : Nat) : (s.setLane l r v).rest = s.rest := by
  simp [State.setLane]

@[simp] theorem State.setPred_rest (s : State) (l : Nat) (p : Nat) (v : Bool) : (s.setPred l p v).rest = s.rest := by
  simp [State.setPred]

@[simp] theorem State.initLanes_rest (s : State) (j : Job) : (s.initLanes j).rest = s.rest := by
  unfold State.initLanes; try dsimp only
  repeat' first
    | intro _ _
    | rw [foldl_rest]
    | rw [foldr_rest]
    | (simp; done)
    | split
    | simp
    | (simp [State.rest]; done)

@[simp] theorem State.putRun_rest (s : State) (j : Job) (r : TeamRun) : (s.putRun j r).rest = s.rest := by
  simp [State.putRun]

@[simp] theorem State.laneEcc_rest (s : State) (e : Ecc) : (s.laneEcc e).rest = s.rest := by
  simp [State.laneEcc]

@[simp] theorem State.laneNext_rest (s : State) (j : Job) (r : TeamRun) : (s.laneNext j r).rest = s.rest := by
  simp [State.laneNext]

@[simp] theorem State.meet_rest (s : State) (j : Job) (w : Rdv) : (s.meet j w).rest = s.rest := by
  unfold State.meet; try dsimp only
  repeat' first
    | intro _ _
    | rw [foldl_rest]
    | rw [foldr_rest]
    | (simp; done)
    | split
    | simp
    | (simp [State.rest]; done)

@[simp] theorem State.autoPost_rest (s : State) (sw : Nat) (late : Bool) : (s.autoPost sw late).rest = s.rest := by
  unfold State.autoPost; try dsimp only
  repeat' first
    | intro _ _
    | rw [foldl_rest]
    | rw [foldr_rest]
    | (simp; done)
    | split
    | simp
    | (simp [State.rest]; done)

@[simp] theorem State.hrdCtrl_rest (s : State) (v : Nat) : (s.hrdCtrl v).rest = s.rest := by
  unfold State.hrdCtrl; try dsimp only
  repeat' first
    | intro _ _
    | rw [foldl_rest]
    | rw [foldr_rest]
    | (simp; done)
    | split
    | simp
    | (simp [State.rest]; done)

@[simp] theorem State.tagStat_rest (s : State) : (s.tagStat).rest = s.rest := by
  simp [State.tagStat]

@[simp] theorem State.sendReq_rest (s : State) (port : Nat) (f : Frame) : (s.sendReq port f).rest = s.rest := by
  simp [State.sendReq]

@[simp] theorem State.reqEnd_rest (s : State) (addr : Nat) (cmd : Nat) : (s.reqEnd addr cmd).rest = s.rest := by
  simp [State.reqEnd]

@[simp] theorem State.castLevels_rest (s : State) : (s.castLevels).rest = s.rest := by
  simp [State.castLevels]

@[simp] theorem State.commitRecord_rest (s : State) (old : Nat) : (s.commitRecord old).rest = s.rest := by
  unfold State.commitRecord; try dsimp only
  repeat' first
    | intro _ _
    | rw [foldl_rest]
    | rw [foldr_rest]
    | (simp; done)
    | split
    | simp
    | (simp [State.rest]; done)

@[simp] theorem State.sendReadBack_rest (s : State) (u : Nat) : (s.sendReadBack u).rest = s.rest := by
  simp [State.sendReadBack]

@[simp] theorem State.prtSync_rest (s : State) : (s.prtSync).rest = s.rest := by
  simp [State.prtSync]

@[simp] theorem State.sweepFull_rest (s : State) : (s.sweepFull).rest = s.rest := by
  simp [State.sweepFull]

@[simp] theorem State.quiet_rest (s : State) : (s.quiet).rest = s.rest := by
  simp [State.quiet]

@[simp] theorem State.mapFail_rest (s : State) (code : Nat) (cell : Nat) (unit : Nat) : (s.mapFail code cell unit).rest = s.rest := by
  simp [State.mapFail]

@[simp] theorem State.mapFail7_rest (s : State) (u : Nat) : (s.mapFail7 u).rest = s.rest := by
  simp [State.mapFail7]

@[simp] theorem State.sendCells_rest (s : State) (u : Nat) : (s.sendCells u).rest = s.rest := by
  simp [State.sendCells]

@[simp] theorem State.cellsAgain_rest (s : State) : (s.cellsAgain).rest = s.rest := by
  unfold State.cellsAgain; try dsimp only
  repeat' first
    | intro _ _
    | rw [foldl_rest]
    | rw [foldr_rest]
    | (simp; done)
    | split
    | simp
    | (simp [State.rest]; done)

@[simp] theorem State.mapTake_rest (s : State) (m : List (Nat × Nat)) : (s.mapTake m).rest = s.rest := by
  simp [State.mapTake]

@[simp] theorem State.mapValidate_rest (s : State) : (s.mapValidate).rest = s.rest := by
  unfold State.mapValidate; try dsimp only
  repeat' first
    | intro _ _
    | rw [foldl_rest]
    | rw [foldr_rest]
    | (simp; done)
    | split
    | simp
    | (simp [State.rest]; done)

@[simp] theorem State.classify_rest (s : State) (u : Nat) (stack : Nat) (xs : List CellNow) : (s.classify u stack xs).rest = s.rest := by
  simp [State.classify]

@[simp] theorem State.refreshFlags_rest (s : State) (u : Nat) : (s.refreshFlags u).rest = s.rest := by
  unfold State.refreshFlags; try dsimp only
  repeat' first
    | intro _ _
    | rw [foldl_rest]
    | rw [foldr_rest]
    | (simp; done)
    | split
    | simp
    | (simp [State.rest]; done)

@[simp] theorem State.owtQueue_rest (s : State) (u : Nat) (why : OwtWhy) : (s.owtQueue u why).rest = s.rest := by
  simp [State.owtQueue]

@[simp] theorem State.takeSignature_rest (s : State) (k : Nat) : (s.takeSignature k).rest = s.rest := by
  simp [State.takeSignature]

@[simp] theorem State.clearSignature_rest (s : State) (k : Nat) : (s.clearSignature k).rest = s.rest := by
  simp [State.clearSignature]

@[simp] theorem State.suspectAny_rest (s : State) : (s.suspectAny).rest = s.rest := by
  simp [State.suspectAny]

@[simp] theorem State.dropOpen_rest (s : State) : (s.dropOpen).rest = s.rest := by
  simp [State.dropOpen]

@[simp] theorem State.celSync_rest (s : State) : (s.celSync).rest = s.rest := by
  unfold State.celSync; try dsimp only
  repeat' first
    | intro _ _
    | rw [foldl_rest]
    | rw [foldr_rest]
    | (simp; done)
    | split
    | simp
    | (simp [State.rest]; done)

@[simp] theorem State.flagOpen_rest (s : State) (u : Nat) (t : Nat) : (s.flagOpen u t).rest = s.rest := by
  unfold State.flagOpen; try dsimp only
  repeat' first
    | intro _ _
    | rw [foldl_rest]
    | rw [foldr_rest]
    | (simp; done)
    | split
    | simp
    | (simp [State.rest]; done)

@[simp] theorem State.findClosed_rest (s : State) (u : Nat) (t : Nat) : (s.findClosed u t).rest = s.rest := by
  simp [State.findClosed]

@[simp] theorem State.owtTry_rest (s : State) : (s.owtTry).rest = s.rest := by
  unfold State.owtTry; try dsimp only
  repeat' first
    | intro _ _
    | rw [foldl_rest]
    | rw [foldr_rest]
    | (simp; done)
    | split
    | simp
    | (simp [State.rest]; done)

@[simp] theorem State.owtEnd_rest (s : State) : (s.owtEnd).rest = s.rest := by
  unfold State.owtEnd; try dsimp only
  repeat' first
    | intro _ _
    | rw [foldl_rest]
    | rw [foldr_rest]
    | (simp; done)
    | split
    | simp
    | (simp [State.rest]; done)

@[simp] theorem State.owtReroute_rest (s : State) (was : Nat → Nat) : (s.owtReroute was).rest = s.rest := by
  unfold State.owtReroute; try dsimp only
  repeat' first
    | intro _ _
    | rw [foldl_rest]
    | rw [foldr_rest]
    | (simp; done)
    | split
    | simp
    | (simp [State.rest]; done)

@[simp] theorem State.sendBleed_rest (s : State) (u : Nat) : (s.sendBleed u).rest = s.rest := by
  simp [State.sendBleed]

@[simp] theorem State.bleedFlush_rest (s : State) (u : Nat) : (s.bleedFlush u).rest = s.rest := by
  simp [State.bleedFlush]

@[simp] theorem State.dropTaken_rest (s : State) : (s.dropTaken).rest = s.rest := by
  simp [State.dropTaken]

@[simp] theorem State.limitUnit_rest (s : State) (u : Nat) (volt : Nat → Nat) : (s.limitUnit u volt).rest = s.rest := by
  simp [State.limitUnit]

@[simp] theorem State.cellSummary_rest (s : State) : (s.cellSummary).rest = s.rest := by
  unfold State.cellSummary; try dsimp only
  repeat' first
    | intro _ _
    | rw [foldl_rest]
    | rw [foldr_rest]
    | (simp; done)
    | split
    | simp
    | (simp [State.rest]; done)

@[simp] theorem State.stringSum_rest (s : State) : (s.stringSum).rest = s.rest := by
  unfold State.stringSum; try dsimp only
  repeat' first
    | intro _ _
    | rw [foldl_rest]
    | rw [foldr_rest]
    | (simp; done)
    | split
    | simp
    | (simp [State.rest]; done)

@[simp] theorem State.staleAny_rest (s : State) : (s.staleAny).rest = s.rest := by
  simp [State.staleAny]

@[simp] theorem State.engineRx_rest (s : State) (high : Bool) (w : Wire) (g : State → State) (h0 : ∀ t : State, (g t).rest = t.rest) : (s.engineRx high w g).rest = s.rest := by
  simp [State.engineRx, h0]

@[simp] theorem State.discard_rest (s : State) (port : Nat) (rx : Rx) : (s.discard port rx).rest = s.rest := by
  unfold State.discard; try dsimp only
  repeat' first
    | intro _ _
    | rw [foldl_rest]
    | rw [foldr_rest]
    | (simp; done)
    | split
    | simp
    | (simp [State.rest]; done)

@[simp] theorem State.chxDrop_rest (s : State) (x : ChxSt) : (s.chxDrop x).rest = s.rest := by
  unfold State.chxDrop; try dsimp only
  repeat' first
    | intro _ _
    | rw [foldl_rest]
    | rw [foldr_rest]
    | (simp; done)
    | split
    | simp
    | (simp [State.rest]; done)

@[simp] theorem State.setRoutes_rest (s : State) : (s.setRoutes).rest = s.rest := by
  unfold State.setRoutes; try dsimp only
  repeat' first
    | intro _ _
    | rw [foldl_rest]
    | rw [foldr_rest]
    | (simp; done)
    | split
    | simp
    | (simp [State.rest]; done)

@[simp] theorem State.reachFromBroken_rest (s : State) : (s.reachFromBroken).rest = s.rest := by
  simp [State.reachFromBroken]

@[simp] theorem State.ringStat_rest (s : State) : (s.ringStat).rest = s.rest := by
  simp [State.ringStat]

@[simp] theorem State.sendRead_rest (s : State) (u : Nat) (port : Nat) (again : Bool) : (s.sendRead u port again).rest = s.rest := by
  simp [State.sendRead]

@[simp] theorem State.rereadSome_rest (s : State) (p : Nat → Bool) (first : Nat → Nat) : (s.rereadSome p first).rest = s.rest := by
  unfold State.rereadSome; try dsimp only
  repeat' first
    | intro _ _
    | rw [foldl_rest]
    | rw [foldr_rest]
    | (simp; done)
    | split
    | simp
    | (simp [State.rest]; done)

@[simp] theorem State.rereadAll_rest (s : State) (first : Nat → Nat) : (s.rereadAll first).rest = s.rest := by
  unfold State.rereadAll; try dsimp only
  repeat' first
    | intro _ _
    | rw [foldl_rest]
    | rw [foldr_rest]
    | (simp; done)
    | split
    | simp
    | (simp [State.rest]; done)

@[simp] theorem State.pingNext_rest (s : State) (port : Nat) : (s.pingNext port).rest = s.rest := by
  unfold State.pingNext; try dsimp only
  repeat' first
    | intro _ _
    | rw [foldl_rest]
    | rw [foldr_rest]
    | (simp; done)
    | split
    | simp
    | (simp [State.rest]; done)

@[simp] theorem State.pingAll_rest (s : State) (l : List (Nat × Nat)) : (s.pingAll l).rest = s.rest := by
  simp [State.pingAll]

@[simp] theorem State.pingEnd_rest (s : State) (p : Nat × Nat → Bool) : (s.pingEnd p).rest = s.rest := by
  simp [State.pingEnd]

@[simp] theorem State.healAt_rest (s : State) (k : Nat) : (s.healAt k).rest = s.rest := by
  unfold State.healAt; try dsimp only
  repeat' first
    | intro _ _
    | rw [foldl_rest]
    | rw [foldr_rest]
    | (simp; done)
    | split
    | simp
    | (simp [State.rest]; done)

@[simp] theorem State.portAlive_rest (s : State) (port : Nat) : (s.portAlive port).rest = s.rest := by
  unfold State.portAlive; try dsimp only
  repeat' first
    | intro _ _
    | rw [foldl_rest]
    | rw [foldr_rest]
    | (simp; done)
    | split
    | simp
    | (simp [State.rest]; done)

@[simp] theorem State.sendLdly_rest (s : State) (u : Nat) : (s.sendLdly u).rest = s.rest := by
  simp [State.sendLdly]

@[simp] theorem State.measure_rest (s : State) : (s.measure).rest = s.rest := by
  unfold State.measure; try dsimp only
  repeat' first
    | intro _ _
    | rw [foldl_rest]
    | rw [foldr_rest]
    | (simp; done)
    | split
    | simp
    | (simp [State.rest]; done)

@[simp] theorem State.classifyRing_rest (s : State) (e : EnumSt) : (s.classifyRing e).rest = s.rest := by
  unfold State.classifyRing; try dsimp only
  repeat' first
    | intro _ _
    | rw [foldl_rest]
    | rw [foldr_rest]
    | (simp; done)
    | split
    | simp
    | (simp [State.rest]; done)

@[simp] theorem State.checkRing_rest (s : State) : (s.checkRing).rest = s.rest := by
  unfold State.checkRing; try dsimp only
  repeat' first
    | intro _ _
    | rw [foldl_rest]
    | rw [foldr_rest]
    | (simp; done)
    | split
    | simp
    | (simp [State.rest]; done)

@[simp] theorem State.writeDelays_rest (s : State) (e : EnumSt) : (s.writeDelays e).rest = s.rest := by
  unfold State.writeDelays; try dsimp only
  repeat' first
    | intro _ _
    | rw [foldl_rest]
    | rw [foldr_rest]
    | (simp; done)
    | split
    | simp
    | (simp [State.rest]; done)

@[simp] theorem State.measured_rest (s : State) : (s.measured).rest = s.rest := by
  unfold State.measured; try dsimp only
  repeat' first
    | intro _ _
    | rw [foldl_rest]
    | rw [foldr_rest]
    | (simp; done)
    | split
    | simp
    | (simp [State.rest]; done)

@[simp] theorem State.enumDone_rest (s : State) (e : EnumSt) : (s.enumDone e).rest = s.rest := by
  unfold State.enumDone; try dsimp only
  repeat' first
    | intro _ _
    | rw [foldl_rest]
    | rw [foldr_rest]
    | (simp; done)
    | split
    | simp
    | (simp [State.rest]; done)

@[simp] theorem State.afterRead_rest (s : State) (u : Nat) : (s.afterRead u).rest = s.rest := by
  simp [State.afterRead]

@[simp] theorem State.overload_rest (s : State) (on : Bool) : (s.overload on).rest = s.rest := by
  simp [State.overload]

@[simp] theorem State.rangeCheck_rest (s : State) (hi : Option Int) (lo : Option Int) : (s.rangeCheck hi lo).rest = s.rest := by
  unfold State.rangeCheck; try dsimp only
  repeat' first
    | intro _ _
    | rw [foldl_rest]
    | rw [foldr_rest]
    | (simp; done)
    | split
    | simp
    | (simp [State.rest]; done)

@[simp] theorem State.countCharge_rest (s : State) (i : Option Int) : (s.countCharge i).rest = s.rest := by
  unfold State.countCharge; try dsimp only
  repeat' first
    | intro _ _
    | rw [foldl_rest]
    | rw [foldr_rest]
    | (simp; done)
    | split
    | simp
    | (simp [State.rest]; done)

@[simp] theorem State.zeroSample_rest (s : State) (nv : Option Int) : (s.zeroSample nv).rest = s.rest := by
  simp [State.zeroSample]

@[simp] theorem State.zeroStart_rest (s : State) : (s.zeroStart).rest = s.rest := by
  simp [State.zeroStart]

@[simp] theorem State.setVolts_rest (s : State) (b : Option Nat) (l : Option Nat) (m : Option Nat) : (s.setVolts b l m).rest = s.rest := by
  simp [State.setVolts]

@[simp] theorem State.voltCheck_rest (s : State) (b : Int) (l : Int) (m : Int) : (s.voltCheck b l m).rest = s.rest := by
  simp [State.voltCheck]

@[simp] theorem State.pchEnter_rest (s : State) (st : Nat) (reason : Nat) : (s.pchEnter st reason).rest = s.rest := by
  simp [State.pchEnter]

@[simp] theorem State.pchAbort_rest (s : State) : (s.pchAbort).rest = s.rest := by
  simp [State.pchAbort]

@[simp] theorem State.pchArm_rest (s : State) : (s.pchArm).rest = s.rest := by
  unfold State.pchArm; try dsimp only
  repeat' first
    | intro _ _
    | rw [foldl_rest]
    | rw [foldr_rest]
    | (simp; done)
    | split
    | simp
    | (simp [State.rest]; done)

@[simp] theorem State.pchAsk_rest (s : State) (req : Nat) : (s.pchAsk req).rest = s.rest := by
  simp [State.pchAsk]

@[simp] theorem State.pchSample_rest (s : State) : (s.pchSample).rest = s.rest := by
  unfold State.pchSample; try dsimp only
  repeat' first
    | intro _ _
    | rw [foldl_rest]
    | rw [foldr_rest]
    | (simp; done)
    | split
    | simp
    | (simp [State.rest]; done)

@[simp] theorem State.divStop_rest (s : State) : (s.divStop).rest = s.rest := by
  simp [State.divStop]

@[simp] theorem State.diversity_rest (s : State) (hall : Int) : (s.diversity hall).rest = s.rest := by
  unfold State.diversity; try dsimp only
  repeat' first
    | intro _ _
    | rw [foldl_rest]
    | rw [foldr_rest]
    | (simp; done)
    | split
    | simp
    | (simp [State.rest]; done)

@[simp] theorem State.divWaiting_rest (s : State) : (s.divWaiting).rest = s.rest := by
  unfold State.divWaiting; try dsimp only
  repeat' first
    | intro _ _
    | rw [foldl_rest]
    | rw [foldr_rest]
    | (simp; done)
    | split
    | simp
    | (simp [State.rest]; done)

@[simp] theorem State.hvmCtrl_rest (s : State) (v : Nat) : (s.hvmCtrl v).rest = s.rest := by
  simp [State.hvmCtrl]

@[simp] theorem State.hvmHallgain_rest (s : State) (v : Nat) : (s.hvmHallgain v).rest = s.rest := by
  simp [State.hvmHallgain]

@[simp] theorem State.hvInvalid_rest (s : State) : (s.hvInvalid).rest = s.rest := by
  simp [State.hvInvalid]

@[simp] theorem State.isoInvalid_rest (s : State) : (s.isoInvalid).rest = s.rest := by
  simp [State.isoInvalid]

@[simp] theorem State.hvLost_rest (s : State) : (s.hvLost).rest = s.rest := by
  simp [State.hvLost]

@[simp] theorem State.hvDown_rest (s : State) : (s.hvDown).rest = s.rest := by
  simp [State.hvDown]

@[simp] theorem State.rangeReset_rest (s : State) : (s.rangeReset).rest = s.rest := by
  simp [State.rangeReset]

@[simp] theorem State.qClr_rest (s : State) : (s.qClr).rest = s.rest := by
  simp [State.qClr]

@[simp] theorem State.hvmCmd_rest (s : State) (v : Nat) : (s.hvmCmd v).rest = s.rest := by
  simp [State.hvmCmd]

@[simp] theorem State.qloRead_rest (s : State) : ((s.qloRead).2).rest = s.rest := by
  simp [State.qloRead]

@[simp] theorem State.qhiRead_rest (s : State) : ((s.qhiRead).2).rest = s.rest := by
  simp [State.qhiRead]

@[simp] theorem State.mapAxis_rest (s : State) (n : Nat) (g : GgnAxis → GgnAxis) : (s.mapAxis n g).rest = s.rest := by
  simp [State.mapAxis]

@[simp] theorem State.setMode_rest (s : State) (n : Nat) (m : Nat) : (s.setMode n m).rest = s.rest := by
  simp [State.setMode]

@[simp] theorem State.ggnIdle_rest (s : State) (n : Nat) : (s.ggnIdle n).rest = s.rest := by
  simp [State.ggnIdle]

@[simp] theorem State.ggnOwnStop_rest (s : State) (n : Nat) : (s.ggnOwnStop n).rest = s.rest := by
  simp [State.ggnOwnStop]

@[simp] theorem State.ggnBreak_rest (s : State) (n : Nat) : (s.ggnBreak n).rest = s.rest := by
  unfold State.ggnBreak; try dsimp only
  repeat' first
    | intro _ _
    | rw [foldl_rest]
    | rw [foldr_rest]
    | (simp; done)
    | split
    | simp
    | (simp [State.rest]; done)

@[simp] theorem State.ggnStop_rest (s : State) (n : Nat) : (s.ggnStop n).rest = s.rest := by
  unfold State.ggnStop; try dsimp only
  repeat' first
    | intro _ _
    | rw [foldl_rest]
    | rw [foldr_rest]
    | (simp; done)
    | split
    | simp
    | (simp [State.rest]; done)

@[simp] theorem State.ggnIntegrate_rest (s : State) : (s.ggnIntegrate).rest = s.rest := by
  unfold State.ggnIntegrate; try dsimp only
  repeat' first
    | intro _ _
    | rw [foldl_rest]
    | rw [foldr_rest]
    | (simp; done)
    | split
    | simp
    | (simp [State.rest]; done)

@[simp] theorem State.ggnArrive_rest (s : State) : ((s.ggnArrive).1).rest = s.rest := by
  unfold State.ggnArrive; try dsimp only
  repeat' first
    | intro _ _
    | rw [foldl_rest]
    | rw [foldr_rest]
    | (simp; done)
    | split
    | simp
    | (simp [State.rest]; done)

@[simp] theorem State.ggnLeaveSafe_rest (s : State) : (s.ggnLeaveSafe).rest = s.rest := by
  simp [State.ggnLeaveSafe]

@[simp] theorem State.ggnSafe_rest (s : State) : (s.ggnSafe).rest = s.rest := by
  simp [State.ggnSafe]

@[simp] theorem State.ggnBounds_rest (s : State) (lo : Int) (hi : Int) : (s.ggnBounds lo hi).rest = s.rest := by
  unfold State.ggnBounds; try dsimp only
  repeat' first
    | intro _ _
    | rw [foldl_rest]
    | rw [foldr_rest]
    | (simp; done)
    | split
    | simp
    | (simp [State.rest]; done)

@[simp] theorem State.ggnCmds_rest (s : State) (n : Nat) : (s.ggnCmds n).rest = s.rest := by
  simp [State.ggnCmds]

@[simp] theorem State.ggnLimits_rest (s : State) (n : Nat) : (s.ggnLimits n).rest = s.rest := by
  unfold State.ggnLimits; try dsimp only
  repeat' first
    | intro _ _
    | rw [foldl_rest]
    | rw [foldr_rest]
    | (simp; done)
    | split
    | simp
    | (simp [State.rest]; done)

@[simp] theorem State.ggnTargets_rest (s : State) (n : Nat) : (s.ggnTargets n).rest = s.rest := by
  unfold State.ggnTargets; try dsimp only
  repeat' first
    | intro _ _
    | rw [foldl_rest]
    | rw [foldr_rest]
    | (simp; done)
    | split
    | simp
    | (simp [State.rest]; done)

@[simp] theorem State.ggnGroup_rest (s : State) (k : Nat) : (s.ggnGroup k).rest = s.rest := by
  unfold State.ggnGroup; try dsimp only
  repeat' first
    | intro _ _
    | rw [foldl_rest]
    | rw [foldr_rest]
    | (simp; done)
    | split
    | simp
    | (simp [State.rest]; done)

@[simp] theorem State.ggnClamp_rest (s : State) (n : Nat) (lo : Int) (hi : Int) (t : Int) : ((s.ggnClamp n lo hi t).1).rest = s.rest := by
  unfold State.ggnClamp; try dsimp only
  repeat' first
    | intro _ _
    | rw [foldl_rest]
    | rw [foldr_rest]
    | (simp; done)
    | split
    | simp
    | (simp [State.rest]; done)

@[simp] theorem State.ggnBegin_rest (s : State) (n : Nat) (t : Int) (segs : List GgnSeg) (link : Option GgnLink) : (s.ggnBegin n t segs link).rest = s.rest := by
  simp [State.ggnBegin]

@[simp] theorem State.ggnStart_rest (s : State) (n : Nat) (lo : Int) (hi : Int) (m : GgnMove) : (s.ggnStart n lo hi m).rest = s.rest := by
  unfold State.ggnStart; try dsimp only
  repeat' first
    | intro _ _
    | rw [foldl_rest]
    | rw [foldr_rest]
    | (simp; done)
    | split
    | simp
    | (simp [State.rest]; done)

@[simp] theorem State.ggnShow_rest (s : State) (lo : Int) (hi : Int) : (s.ggnShow lo hi).rest = s.rest := by
  unfold State.ggnShow; try dsimp only
  repeat' first
    | intro _ _
    | rw [foldl_rest]
    | rw [foldr_rest]
    | (simp; done)
    | split
    | simp
    | (simp [State.rest]; done)

@[simp] theorem State.ggnDown_rest (s : State) : (s.ggnDown).rest = s.rest := by
  unfold State.ggnDown; try dsimp only
  repeat' first
    | intro _ _
    | rw [foldl_rest]
    | rw [foldr_rest]
    | (simp; done)
    | split
    | simp
    | (simp [State.rest]; done)

@[simp] theorem State.doDiag_rest (s : State) (f : Fld) (n : Nat) : (s.doDiag f n).rest = s.rest := by
  simp [State.doDiag]

@[simp] theorem State.lsRelease_rest (s : State) (k : Nat) : (s.lsRelease k).rest = s.rest := by
  simp [State.lsRelease]

@[simp] theorem State.cntMatch_rest (s : State) (k : Nat) : (s.cntMatch k).rest = s.rest := by
  simp [State.cntMatch]

@[simp] theorem State.fioWdKey_rest (s : State) (v : Nat) : (s.fioWdKey v).rest = s.rest := by
  unfold State.fioWdKey; try dsimp only
  repeat' first
    | intro _ _
    | rw [foldl_rest]
    | rw [foldr_rest]
    | (simp; done)
    | split
    | simp
    | (simp [State.rest]; done)

@[simp] theorem State.fioTick_rest (s : State) (rb : Nat) : (s.fioTick rb).rest = s.rest := by
  unfold State.fioTick; try dsimp only
  repeat' first
    | intro _ _
    | rw [foldl_rest]
    | rw [foldr_rest]
    | (simp; done)
    | split
    | simp
    | (simp [State.rest]; done)

@[simp] theorem State.tie_rest (s : State) (j : Nat) (m : Nat) : (s.tie j m).rest = s.rest := by
  simp [State.tie]

@[simp] theorem State.judgeWindow_rest (s : State) (m : Nat) (low : BitVec 16) (high : BitVec 16) : (s.judgeWindow m low high).rest = s.rest := by
  unfold State.judgeWindow; try dsimp only
  repeat' first
    | intro _ _
    | rw [foldl_rest]
    | rw [foldr_rest]
    | (simp; done)
    | split
    | simp
    | (simp [State.rest]; done)

@[simp] theorem State.filterTakes_rest (s : State) (n : Nat) (now : Bool) : (s.filterTakes n now).rest = s.rest := by
  simp [State.filterTakes]

@[simp] theorem State.ptpEnter_rest (s : State) (st : Nat) : (s.ptpEnter st).rest = s.rest := by
  simp [State.ptpEnter]

@[simp] theorem State.setTime_rest (s : State) (t : Nat) : (s.setTime t).rest = s.rest := by
  simp [State.setTime]

@[simp] theorem State.cmpFire_rest (s : State) (k : Nat) : (s.cmpFire k).rest = s.rest := by
  simp [State.cmpFire]

@[simp] theorem State.cmpCheck_rest (s : State) : (s.cmpCheck).rest = s.rest := by
  unfold State.cmpCheck; try dsimp only
  repeat' first
    | intro _ _
    | rw [foldl_rest]
    | rw [foldr_rest]
    | (simp; done)
    | split
    | simp
    | (simp [State.rest]; done)

@[simp] theorem State.cmpArm_rest (s : State) (k : Nat) : (s.cmpArm k).rest = s.rest := by
  simp [State.cmpArm]

@[simp] theorem State.setRefofs_rest (s : State) (o : Int) : (s.setRefofs o).rest = s.rest := by
  simp [State.setRefofs]

@[simp] theorem State.ptpRefuse_rest (s : State) (f : Fld) : (s.ptpRefuse f).rest = s.rest := by
  simp [State.ptpRefuse]

@[simp] theorem State.ptpSample_rest (s : State) (o : Int) : (s.ptpSample o).rest = s.rest := by
  unfold State.ptpSample; try dsimp only
  repeat' first
    | intro _ _
    | rw [foldl_rest]
    | rw [foldr_rest]
    | (simp; done)
    | split
    | simp
    | (simp [State.rest]; done)

@[simp] theorem State.timeAccept_rest (s : State) : (s.timeAccept).rest = s.rest := by
  simp [State.timeAccept]

@[simp] theorem State.timeStep_rest (s : State) (d : Int) : (s.timeStep d).rest = s.rest := by
  unfold State.timeStep; try dsimp only
  repeat' first
    | intro _ _
    | rw [foldl_rest]
    | rw [foldr_rest]
    | (simp; done)
    | split
    | simp
    | (simp [State.rest]; done)

@[simp] theorem State.ptpBoundary_rest (s : State) : (s.ptpBoundary).rest = s.rest := by
  unfold State.ptpBoundary; try dsimp only
  repeat' first
    | intro _ _
    | rw [foldl_rest]
    | rw [foldr_rest]
    | (simp; done)
    | split
    | simp
    | (simp [State.rest]; done)

@[simp] theorem State.ptpTick_rest (s : State) : (s.ptpTick).rest = s.rest := by
  unfold State.ptpTick; try dsimp only
  repeat' first
    | intro _ _
    | rw [foldl_rest]
    | rw [foldr_rest]
    | (simp; done)
    | split
    | simp
    | (simp [State.rest]; done)

@[simp] theorem State.ptpCtrl_rest (s : State) (old : Nat) : (s.ptpCtrl old).rest = s.rest := by
  simp [State.ptpCtrl]

@[simp] theorem State.tsqShow_rest (s : State) : (s.tsqShow).rest = s.rest := by
  unfold State.tsqShow; try dsimp only
  repeat' first
    | intro _ _
    | rw [foldl_rest]
    | rw [foldr_rest]
    | (simp; done)
    | split
    | simp
    | (simp [State.rest]; done)

@[simp] theorem State.tsqPush_rest (s : State) (id : Nat) (t : Nat) : (s.tsqPush id t).rest = s.rest := by
  simp [State.tsqPush]

@[simp] theorem State.tsqPop_rest (s : State) : (s.tsqPop).rest = s.rest := by
  simp [State.tsqPop]

@[simp] theorem State.tsqClr_rest (s : State) : (s.tsqClr).rest = s.rest := by
  simp [State.tsqClr]

@[simp] theorem State.ptpStop_rest (s : State) : (s.ptpStop).rest = s.rest := by
  simp [State.ptpStop]

@[simp] theorem State.ptpWake_rest (s : State) : (s.ptpWake).rest = s.rest := by
  unfold State.ptpWake; try dsimp only
  repeat' first
    | intro _ _
    | rw [foldl_rest]
    | rw [foldr_rest]
    | (simp; done)
    | split
    | simp
    | (simp [State.rest]; done)

@[simp] theorem State.ethLatch_rest (s : State) : (s.ethLatch).rest = s.rest := by
  simp [State.ethLatch]

@[simp] theorem State.ethQuiet_rest (s : State) : (s.ethQuiet).rest = s.rest := by
  simp [State.ethQuiet]

@[simp] theorem State.ethSend_rest (s : State) (m : EthOut) : (s.ethSend m).rest = s.rest := by
  simp [State.ethSend]

@[simp] theorem State.rxDrop_rest (s : State) : (s.rxDrop).rest = s.rest := by
  simp [State.rxDrop]

@[simp] theorem State.arpAsk_rest (s : State) (ip : Nat) : (s.arpAsk ip).rest = s.rest := by
  simp [State.arpAsk]

@[simp] theorem State.arpUse_rest (s : State) (ip : Nat) : ((s.arpUse ip).2).rest = s.rest := by
  unfold State.arpUse; try dsimp only
  repeat' first
    | intro _ _
    | rw [foldl_rest]
    | rw [foldr_rest]
    | (simp; done)
    | split
    | simp
    | (simp [State.rest]; done)

@[simp] theorem State.arpLearn_rest (s : State) (ip : Nat) (mac : Nat) : (s.arpLearn ip mac).rest = s.rest := by
  simp [State.arpLearn]

@[simp] theorem State.udpSend_rest (s : State) (ip : Nat) (dport : Nat) (payload : List Nat) : (s.udpSend ip dport payload).rest = s.rest := by
  unfold State.udpSend; try dsimp only
  repeat' first
    | intro _ _
    | rw [foldl_rest]
    | rw [foldr_rest]
    | (simp; done)
    | split
    | simp
    | (simp [State.rest]; done)

@[simp] theorem State.sendTelegram_rest (s : State) (type : Nat) (ip : Nat) (dport : Nat) (payload : List Nat) : (s.sendTelegram type ip dport payload).rest = s.rest := by
  unfold State.sendTelegram; try dsimp only
  repeat' first
    | intro _ _
    | rw [foldl_rest]
    | rw [foldr_rest]
    | (simp; done)
    | split
    | simp
    | (simp [State.rest]; done)

@[simp] theorem State.dispatchEth_rest (s : State) : (s.dispatchEth).rest = s.rest := by
  unfold State.dispatchEth; try dsimp only
  repeat' first
    | intro _ _
    | rw [foldl_rest]
    | rw [foldr_rest]
    | (simp; done)
    | split
    | simp
    | (simp [State.rest]; done)

@[simp] theorem State.demand_rest (s : State) (b : List Nat) : (s.demand b).rest = s.rest := by
  simp [State.demand]

@[simp] theorem State.service_rest (s : State) (b : List Nat) : (s.service b).rest = s.rest := by
  simp [State.service]

@[simp] theorem State.txDrop_rest (s : State) (c : Core) (t : Nat) : (s.txDrop c t).rest = s.rest := by
  simp [State.txDrop]

@[simp] theorem State.txAdd_rest (s : State) (x : EthTx) : (s.txAdd x).rest = s.rest := by
  unfold State.txAdd; try dsimp only
  repeat' first
    | intro _ _
    | rw [foldl_rest]
    | rw [foldr_rest]
    | (simp; done)
    | split
    | simp
    | (simp [State.rest]; done)

@[simp] theorem State.loadTest_rest (s : State) : (s.loadTest).rest = s.rest := by
  simp [State.loadTest]

@[simp] theorem State.nvmCmd_rest (s : State) (v : Nat) : (s.nvmCmd v).rest = s.rest := by
  unfold State.nvmCmd; try dsimp only
  repeat' first
    | intro _ _
    | rw [foldl_rest]
    | rw [foldr_rest]
    | (simp; done)
    | split
    | simp
    | (simp [State.rest]; done)

@[simp] theorem State.logCmd_rest (s : State) (v : Nat) : (s.logCmd v).rest = s.rest := by
  simp [State.logCmd]

@[simp] theorem State.scanFrame_rest (s : State) (settings : Bool) (i : Nat) : (s.scanFrame settings i).rest = s.rest := by
  unfold State.scanFrame; try dsimp only
  repeat' first
    | intro _ _
    | rw [foldl_rest]
    | rw [foldr_rest]
    | (simp; done)
    | split
    | simp
    | (simp [State.rest]; done)

@[simp] theorem State.scanLog_rest (s : State) : (s.scanLog).rest = s.rest := by
  unfold State.scanLog; try dsimp only
  repeat' first
    | intro _ _
    | rw [foldl_rest]
    | rw [foldr_rest]
    | (simp; done)
    | split
    | simp
    | (simp [State.rest]; done)

@[simp] theorem State.mapBoot_rest (s : State) (g : BootRec → BootRec) : (s.mapBoot g).rest = s.rest := by
  simp [State.mapBoot]

@[simp] theorem State.commitBoot_rest (s : State) : (s.commitBoot).rest = s.rest := by
  simp [State.commitBoot]

@[simp] theorem State.recvShow_rest (s : State) : (s.recvShow).rest = s.rest := by
  simp [State.recvShow]

@[simp] theorem State.updEnd_rest (s : State) (res : Nat) : (s.updEnd res).rest = s.rest := by
  simp [State.updEnd]

@[simp] theorem State.updRes_rest (s : State) (res : Nat) : (s.updRes res).rest = s.rest := by
  simp [State.updRes]

@[simp] theorem State.updProg_rest (s : State) : (s.updProg).rest = s.rest := by
  simp [State.updProg]

@[simp] theorem State.updVerify_rest (s : State) : (s.updVerify).rest = s.rest := by
  simp [State.updVerify]

@[simp] theorem State.updArm_rest (s : State) : (s.updArm).rest = s.rest := by
  simp [State.updArm]

@[simp] theorem State.updConfirm_rest (s : State) : (s.updConfirm).rest = s.rest := by
  simp [State.updConfirm]

@[simp] theorem State.updAbort_rest (s : State) : (s.updAbort).rest = s.rest := by
  simp [State.updAbort]

@[simp] theorem State.trialSecond_rest (s : State) : (s.trialSecond).rest = s.rest := by
  unfold State.trialSecond; try dsimp only
  repeat' first
    | intro _ _
    | rw [foldl_rest]
    | rw [foldr_rest]
    | (simp; done)
    | split
    | simp
    | (simp [State.rest]; done)

@[simp] theorem State.bootRead_rest (s : State) : (s.bootRead).rest = s.rest := by
  unfold State.bootRead; try dsimp only
  repeat' first
    | intro _ _
    | rw [foldl_rest]
    | rw [foldr_rest]
    | (simp; done)
    | split
    | simp
    | (simp [State.rest]; done)

@[simp] theorem State.herdClk_rest (s : State) : (s.herdClk).rest = s.rest := by
  simp [State.herdClk]

@[simp] theorem State.resetBut_rest (s : State) (lo : Nat) (hi : Nat) (keep : Nat → Bool) : (s.resetBut lo hi keep).rest = s.rest := by
  simp [State.resetBut, State.rest]

@[simp] theorem State.ggnWake_rest (s : State) : (s.ggnWake).rest = s.rest := by
  simp [State.ggnWake, State.rest]

@[simp] theorem State.groomRecord_rest (s : State) : (s.groomRecord).rest = s.rest := by
  unfold State.groomRecord; try dsimp only
  repeat' first
    | intro _ _
    | rw [foldl_rest]
    | rw [foldr_rest]
    | (simp; done)
    | split
    | simp
    | (simp [State.rest]; done)

@[simp] theorem State.gaitRequest_rest (s : State) (c : Core) (target : Nat) : (s.gaitRequest c target).rest = s.rest := by
  unfold State.gaitRequest; try dsimp only
  repeat' first
    | intro _ _
    | rw [foldl_rest]
    | rw [foldr_rest]
    | (simp; done)
    | split
    | simp
    | (simp [State.rest]; done)

@[simp] theorem State.estFreeze_rest (s : State) : (s.estFreeze).rest = s.rest := by
  simp [State.estFreeze]

@[simp] theorem State.estThaw_rest (s : State) : (s.estThaw).rest = s.rest := by
  unfold State.estThaw; try dsimp only
  repeat' first
    | intro _ _
    | rw [foldl_rest]
    | rw [foldr_rest]
    | (simp; done)
    | split
    | simp
    | (simp [State.rest]; done)

@[simp] theorem State.estRetain_rest (s : State) : (s.estRetain).rest = s.rest := by
  simp [State.estRetain]

@[simp] theorem State.transNext_rest (s : State) (n : Nat) (latched : Bool) : (s.transNext n latched).rest = s.rest := by
  unfold State.transNext; try dsimp only
  repeat' first
    | intro _ _
    | rw [foldl_rest]
    | rw [foldr_rest]
    | (simp; done)
    | split
    | simp
    | (simp [State.rest]; done)

@[simp] theorem State.setDue_rest (s : State) (c : Core) (v : Bool) : (s.setDue c v).rest = s.rest := by
  unfold State.setDue; try dsimp only
  repeat' first
    | intro _ _
    | rw [foldl_rest]
    | rw [foldr_rest]
    | (simp; done)
    | split
    | simp
    | (simp [State.rest]; done)

@[simp] theorem State.takeDigest_rest (s : State) (k : Nat) : (s.takeDigest k).rest = s.rest := by
  simp [State.takeDigest]

@[simp] theorem State.sendBundle_rest (s : State) (k : Nat) (v : List (Nat × Nat)) (planned : Bool) : (s.sendBundle k v planned).rest = s.rest := by
  simp [State.sendBundle]

@[simp] theorem State.assertClaim_rest (s : State) : (s.assertClaim).rest = s.rest := by
  simp [State.assertClaim]

@[simp] theorem State.ringFromView_rest (s : State) : (s.ringFromView).rest = s.rest := by
  unfold State.ringFromView; try dsimp only
  repeat' first
    | intro _ _
    | rw [foldl_rest]
    | rw [foldr_rest]
    | (simp; done)
    | split
    | simp
    | (simp [State.rest]; done)

@[simp] theorem State.originTick_rest (s : State) : (s.originTick).rest = s.rest := by
  unfold State.originTick; try dsimp only
  repeat' first
    | intro _ _
    | rw [foldl_rest]
    | rw [foldr_rest]
    | (simp; done)
    | split
    | simp
    | (simp [State.rest]; done)

@[simp] theorem State.feed_rest (s : State) : (s.feed).rest = s.rest := by
  simp [State.feed]

@[simp] theorem State.replayDispatch_rest (s : State) (i : Nat) : (s.replayDispatch i).rest = s.rest := by
  unfold State.replayDispatch; try dsimp only
  repeat' first
    | intro _ _
    | rw [foldl_rest]
    | rw [foldr_rest]
    | (simp; done)
    | split
    | simp
    | (simp [State.rest]; done)

@[simp] theorem State.dropHeldEvents_rest (s : State) : (s.dropHeldEvents).rest = s.rest := by
  simp [State.dropHeldEvents]

@[simp] theorem State.returnDigest_rest (s : State) (k : Nat) : (s.returnDigest k).rest = s.rest := by
  simp [State.returnDigest]

@[simp] theorem State.heard_rest (s : State) : (s.heard).rest = s.rest := by
  simp [State.heard]

@[simp] theorem State.crbHb_rest (s : State) (v : Nat) : (s.crbHb v).rest = s.rest := by
  simp [State.crbHb]

@[simp] theorem State.safetyReset_rest (s : State) : (s.safetyReset).rest = s.rest := by
  simp [State.safetyReset]

@[simp] theorem State.crbReset_rest (s : State) (v : Nat) : (s.crbReset v).rest = s.rest := by
  simp [State.crbReset]

@[simp] theorem State.sealRefuse_rest (s : State) (result : Nat) : (s.sealRefuse result).rest = s.rest := by
  simp [State.sealRefuse]

@[simp] theorem State.sealCheck_rest (s : State) : (s.sealCheck).rest = s.rest := by
  simp [State.sealCheck]

@[simp] theorem State.crbSeal_rest (s : State) (v : Nat) : (s.crbSeal v).rest = s.rest := by
  simp [State.crbSeal]

@[simp] theorem State.crbTick_rest (s : State) : (s.crbTick).rest = s.rest := by
  simp [State.crbTick]

@[simp] theorem State.tdmCtrl_rest (s : State) (v : Nat) : (s.tdmCtrl v).rest = s.rest := by
  simp [State.tdmCtrl]

@[simp] theorem State.tdmCmd_rest (s : State) (v : Nat) : (s.tdmCmd v).rest = s.rest := by
  unfold State.tdmCmd; try dsimp only
  repeat' first
    | intro _ _
    | rw [foldl_rest]
    | rw [foldr_rest]
    | (simp; done)
    | split
    | simp
    | (simp [State.rest]; done)

@[simp] theorem State.claimRef_rest (s : State) (v : Nat) : (s.claimRef v).rest = s.rest := by
  simp [State.claimRef]

@[simp] theorem State.snapFail_rest (s : State) : (s.snapFail).rest = s.rest := by
  simp [State.snapFail]

@[simp] theorem State.putLock_rest (s : State) (p : Fin 6) (b : Bool) : (s.putLock p b).rest = s.rest := by
  unfold State.putLock; try dsimp only
  repeat' first
    | intro _ _
    | rw [foldl_rest]
    | rw [foldr_rest]
    | (simp; done)
    | split
    | simp
    | (simp [State.rest]; done)

@[simp] theorem State.sysWdKey_rest (s : State) (v : Nat) : (s.sysWdKey v).rest = s.rest := by
  simp [State.sysWdKey]

@[simp] theorem State.chnRemeasure_rest (s : State) : (s.chnRemeasure).rest = s.rest := by
  unfold State.chnRemeasure; try dsimp only
  repeat' first
    | intro _ _
    | rw [foldl_rest]
    | rw [foldr_rest]
    | (simp; done)
    | split
    | simp
    | (simp [State.rest]; done)

@[simp] theorem State.chnWake_rest (s : State) : (s.chnWake).rest = s.rest := by
  unfold State.chnWake; try dsimp only
  repeat' first
    | intro _ _
    | rw [foldl_rest]
    | rw [foldr_rest]
    | (simp; done)
    | split
    | simp
    | (simp [State.rest]; done)

@[simp] theorem State.sweepsOff_rest (s : State) : (s.sweepsOff).rest = s.rest := by
  simp [State.sweepsOff]

@[simp] theorem State.chnCtrl_rest (s : State) (v : Nat) : (s.chnCtrl v).rest = s.rest := by
  simp [State.chnCtrl]

@[simp] theorem State.takePing_rest (s : State) (port : Nat) (u : Nat) (f : Frame) (rtt : Nat) : (s.takePing port u f rtt).rest = s.rest := by
  simp [State.takePing]

@[simp] theorem State.mapApply_rest (s : State) : (s.mapApply).rest = s.rest := by
  simp [State.mapApply]

@[simp] theorem State.owtNow_rest (s : State) (u : Nat) : (s.owtNow u).rest = s.rest := by
  unfold State.owtNow; try dsimp only
  repeat' first
    | intro _ _
    | rw [foldl_rest]
    | rw [foldr_rest]
    | (simp; done)
    | split
    | simp
    | (simp [State.rest]; done)

@[simp] theorem State.balStop_rest (s : State) : (s.balStop).rest = s.rest := by
  simp [State.balStop]

@[simp] theorem State.storeFld_rest (s : State) (bad : List Nat) (w : Nat) (f : Fld) : (s.storeFld bad w f).rest = s.rest := by
  unfold State.storeFld; try dsimp only
  repeat' first
    | intro _ _
    | rw [foldl_rest]
    | rw [foldr_rest]
    | (simp; done)
    | split
    | simp
    | (simp [State.rest]; done)

@[simp] theorem State.storeFields_rest (s : State) (a : Nat) (w : Nat) : (s.storeFields a w).rest = s.rest := by
  unfold State.storeFields; try dsimp only
  repeat' first
    | intro _ _
    | rw [foldl_rest]
    | rw [foldr_rest]
    | (simp; done)
    | split
    | simp
    | (simp [State.rest]; done)

@[simp] theorem State.noteWrite_rest (s : State) (c : Core) (a : Nat) : (s.noteWrite c a).rest = s.rest := by
  unfold State.noteWrite; try dsimp only
  repeat' first
    | intro _ _
    | rw [foldl_rest]
    | rw [foldr_rest]
    | (simp; done)
    | split
    | simp
    | (simp [State.rest]; done)

@[simp] theorem State.canGood_rest (s : State) (x : Nat) (sent : Bool) : (s.canGood x sent).rest = s.rest := by
  unfold State.canGood; try dsimp only
  repeat' first
    | intro _ _
    | rw [foldl_rest]
    | rw [foldr_rest]
    | (simp; done)
    | split
    | simp
    | (simp [State.rest]; done)

@[simp] theorem State.canDelay_rest (s : State) (x : Nat) (brs : Bool) : (s.canDelay x brs).rest = s.rest := by
  simp [State.canDelay]

@[simp] theorem State.jobGo_rest (s : State) (c : Core) (d : Desc) (t : Nat) : (s.jobGo c d t).rest = s.rest := by
  unfold State.jobGo; try dsimp only
  repeat' first
    | intro _ _
    | rw [foldl_rest]
    | rw [foldr_rest]
    | (simp; done)
    | split
    | simp
    | (simp [State.rest]; done)

@[simp] theorem State.setDma_rest (s : State) (ch : Nat) (l : List DmaJob) : (s.setDma ch l).rest = s.rest := by
  simp [State.setDma, State.rest]

@[simp] theorem State.canCopy_rest (s : State) (x : Nat) (n : Nat) (a : Nat) (len : Nat) : (s.canCopy x n a len).rest = s.rest := by
  unfold State.canCopy; try dsimp only
  repeat' first
    | intro _ _
    | rw [foldl_rest]
    | rw [foldr_rest]
    | (simp; done)
    | split
    | simp
    | (simp [State.rest]; done)

@[simp] theorem State.showRate_rest (s : State) : (s.showRate).rest = s.rest := by
  simp [State.showRate]

@[simp] theorem State.thmRate_rest (s : State) : (s.thmRate).rest = s.rest := by
  simp [State.thmRate]

@[simp] theorem State.thmShow_rest (s : State) (rs : List (Option Int)) (hv : List (Option Int)) : (s.thmShow rs hv).rest = s.rest := by
  unfold State.thmShow; try dsimp only
  repeat' first
    | intro _ _
    | rw [foldl_rest]
    | rw [foldr_rest]
    | (simp; done)
    | split
    | simp
    | (simp [State.rest]; done)

@[simp] theorem State.throttle_rest (s : State) : (s.throttle).rest = s.rest := by
  simp [State.throttle]

end Sys2Proof.Machine
end

