-- ==== Sys2Proof/Laws/MemWf.lean ====
section
/-! SUPPORT. The operations that leave the memory as it is, and that the others keep its canonical form. -/

set_option linter.unusedSimpArgs false
set_option linter.unusedTactic false
set_option linter.unreachableTactic false

namespace Sys2Proof.Machine
open Sys2Proof Sys2Proof.Reg

theorem foldl_mem {α : Type} (f : State → α → State) (l : List α) (s : State)
    (h : ∀ t x, (f t x).mem = t.mem) : (l.foldl f s).mem = s.mem := by
  induction l generalizing s with
  | nil => rfl
  | cons a l ih => rw [List.foldl_cons, ih, h]

@[simp] theorem State.ite_mem {c : Prop} [Decidable c] (a b : State) :
    (if c then a else b).mem = if c then a.mem else b.mem := by split <;> rfl

theorem foldr_mem {α : Type} (f : α → State → State) (l : List α) (s : State)
    (h : ∀ x t, (f x t).mem = t.mem) : (l.foldr f s).mem = s.mem := by
  induction l with
  | nil => rfl
  | cons a l ih => rw [List.foldr_cons, h, ih]

@[simp] theorem State.when_mem (s : State) (c : Bool) (g : State → State) :
    (s.when c g).mem = if c then (g s).mem else s.mem := by unfold State.when; split <;> rfl

@[simp] theorem State.resetFields_mem (fs : List Fld) : ∀ s : State, (s.resetFields fs).mem = s.mem := by
  induction fs with
  | nil => intro s; rfl
  | cons f rest ih => intro s; rw [State.resetFields, ih]

@[simp] theorem State.loadFactory_mem (s : State) : (s.loadFactory).mem = s.mem :=
  State.mem_of_rest (State.loadFactory_rest s)

@[simp] theorem State.note_mem (s : State) (g : Bundle → Bundle) : (s.note g).mem = s.mem :=
  State.mem_of_rest (State.note_rest s g)

@[simp] theorem State.latchEvt_mem (s : State) (n : Nat) : (s.latchEvt n).mem = s.mem :=
  State.mem_of_rest (State.latchEvt_rest s n)

@[simp] theorem State.softEvt_mem (s : State) (n : Nat) : (s.softEvt n).mem = s.mem :=
  State.mem_of_rest (State.softEvt_rest s n)

@[simp] theorem State.raise_mem (s : State) (n : Nat) : (s.raise n).mem = s.mem :=
  State.mem_of_rest (State.raise_rest s n)

@[simp] theorem State.recordRefusal_mem (s : State) (m : Master) (k : Access) (kind : Nat) (a : Nat) : (s.recordRefusal m k kind a).mem = s.mem :=
  State.mem_of_rest (State.recordRefusal_rest s m k kind a)

@[simp] theorem State.draw_mem (s : State) (w : Nat) : ((s.draw w).2).mem = s.mem :=
  State.mem_of_rest (State.draw_rest s w)

@[simp] theorem State.resetTags_mem (s : State) (c : Core) : (s.resetTags c).mem = s.mem := by
  simp [State.resetTags]

@[simp] theorem State.claimEvt_mem (s : State) (c : Core) : ((s.claimEvt c).2).mem = s.mem :=
  State.mem_of_rest (State.claimEvt_rest s c)

@[simp] theorem State.doneEvt_mem (s : State) (c : Core) (n : Nat) : (s.doneEvt c n).mem = s.mem :=
  State.mem_of_rest (State.doneEvt_rest s c n)

@[simp] theorem State.setEvt_mem (s : State) (k : Nat) (v : Nat) : (s.setEvt k v).mem = s.mem :=
  State.mem_of_rest (State.setEvt_rest s k v)

@[simp] theorem State.releaseEvents_mem (s : State) (c : Core) : (s.releaseEvents c).mem = s.mem :=
  State.mem_of_rest (State.releaseEvents_rest s c)

@[simp] theorem State.arbUnit_mem (s : State) (cls : Nat) (u : Nat) : (s.arbUnit cls u).mem = s.mem :=
  State.mem_of_rest (State.arbUnit_rest s cls u)

@[simp] theorem State.promoteAll_mem (s : State) (p : ArbPost → Bool) : (s.promoteAll p).mem = s.mem :=
  State.mem_of_rest (State.promoteAll_rest s p)

@[simp] theorem State.arbCycle_mem (s : State) (core : Bool) (posts : List ArbPost) (ended : List ArbPost) : (s.arbCycle core posts ended).mem = s.mem :=
  State.mem_of_rest (State.arbCycle_rest s core posts ended)

@[simp] theorem State.takeLock_mem (s : State) (c : Core) (n : Nat) : (s.takeLock c n).mem = s.mem :=
  State.mem_of_rest (State.takeLock_rest s c n)

@[simp] theorem State.freeLock_mem (s : State) (n : Nat) : (s.freeLock n).mem = s.mem :=
  State.mem_of_rest (State.freeLock_rest s n)

@[simp] theorem State.lockRefused_mem (s : State) (c : Core) (n : Nat) (kind : Nat) : (s.lockRefused c n kind).mem = s.mem :=
  State.mem_of_rest (State.lockRefused_rest s c n kind)

@[simp] theorem State.dropLocks_mem (s : State) (c : Core) : (s.dropLocks c).mem = s.mem :=
  State.mem_of_rest (State.dropLocks_rest s c)

@[simp] theorem State.lockLong_mem (s : State) (n : Nat) : (s.lockLong n).mem = s.mem :=
  State.mem_of_rest (State.lockLong_rest s n)

@[simp] theorem State.lockLimit_mem (s : State) (v : Nat) : (s.lockLimit v).mem = s.mem :=
  State.mem_of_rest (State.lockLimit_rest s v)

@[simp] theorem State.enqueue_mem (s : State) (c : Commit) : (s.enqueue c).mem = s.mem :=
  State.mem_of_rest (State.enqueue_rest s c)

@[simp] theorem State.setLim_mem (s : State) (k : Nat) (x : LimSt) : (s.setLim k x).mem = s.mem :=
  State.mem_of_rest (State.setLim_rest s k x)

@[simp] theorem State.limBound_mem (s : State) (k : Nat) (was : Bool) : (s.limBound k was).mem = s.mem :=
  State.mem_of_rest (State.limBound_rest s k was)

@[simp] theorem State.writeSuppressed_mem (s : State) (k : Nat) : (s.writeSuppressed k).mem = s.mem :=
  State.mem_of_rest (State.writeSuppressed_rest s k)

@[simp] theorem State.passLimit_mem (s : State) (c : Commit) : ((s.passLimit c).2).mem = s.mem :=
  State.mem_of_rest (State.passLimit_rest s c)

@[simp] theorem State.hwRecord_mem (s : State) (code : Nat) (sev : Nat) (payload : List Nat) : (s.hwRecord code sev payload).mem = s.mem :=
  State.mem_of_rest (State.hwRecord_rest s code sev payload)

@[simp] theorem State.logCount_mem (s : State) (n : Nat) : (s.logCount n).mem = s.mem :=
  State.mem_of_rest (State.logCount_rest s n)

@[simp] theorem State.place_mem (s : State) (c : Commit) : ((s.place c).2).mem = s.mem := by
  unfold State.place; try dsimp only
  repeat' first
    | intro _ _
    | rw [foldl_mem]
    | rw [foldr_mem]
    | (simp; done)
    | split
    | simp

@[simp] theorem State.queueCounters_mem (s : State) : (s.queueCounters).mem = s.mem := by
  simp [State.queueCounters]

@[simp] theorem State.redrive_mem (s : State) : (s.redrive).mem = s.mem :=
  State.mem_of_rest (State.redrive_rest s)

@[simp] theorem State.sendFrame_mem (s : State) (port : Nat) (f : Frame) : (s.sendFrame port f).mem = s.mem :=
  State.mem_of_rest (State.sendFrame_rest s port f)

@[simp] theorem State.bleedStat_mem (s : State) : (s.bleedStat).mem = s.mem :=
  State.mem_of_rest (State.bleedStat_rest s)

@[simp] theorem State.bleedOff_mem (s : State) : (s.bleedOff).mem = s.mem :=
  State.mem_of_rest (State.bleedOff_rest s)

@[simp] theorem State.refuseGait_mem (s : State) (reason : Nat) : (s.refuseGait reason).mem = s.mem :=
  State.mem_of_rest (State.refuseGait_rest s reason)

@[simp] theorem State.beginTrans_mem (s : State) (num : Nat) (target : Nat) (cause : Nat) (requested : Bool) : (s.beginTrans num target cause requested).mem = s.mem :=
  State.mem_of_rest (State.beginTrans_rest s num target cause requested)

@[simp] theorem State.removalBegun_mem (s : State) : ((s.removalBegun).2).mem = s.mem :=
  State.mem_of_rest (State.removalBegun_rest s)

@[simp] theorem State.forceTrans_mem (s : State) (num : Nat) (target : Nat) (cause : Nat) : (s.forceTrans num target cause).mem = s.mem :=
  State.mem_of_rest (State.forceTrans_rest s num target cause)

@[simp] theorem State.markLame_mem (s : State) (b : Nat) (v : Bool) : (s.markLame b v).mem = s.mem :=
  State.mem_of_rest (State.markLame_rest s b v)

@[simp] theorem State.enterLame_mem (s : State) : (s.enterLame).mem = s.mem :=
  State.mem_of_rest (State.enterLame_rest s)

@[simp] theorem State.wake_mem (s : State) (b : Nat) : (s.wake b).mem = s.mem :=
  State.mem_of_rest (State.wake_rest s b)

@[simp] theorem State.canBit_mem (s : State) (f : Nat → Nat → Fld) (x : Nat) (n : Nat) (v : Bool) : (s.canBit f x n v).mem = s.mem :=
  State.mem_of_rest (State.canBit_rest s f x n v)

@[simp] theorem State.canNew_mem (s : State) (x : Nat) (n : Nat) (v : Bool) : (s.canNew x n v).mem = s.mem :=
  State.mem_of_rest (State.canNew_rest s x n v)

@[simp] theorem State.canPend_mem (s : State) (x : Nat) (n : Nat) (v : Bool) : (s.canPend x n v).mem = s.mem :=
  State.mem_of_rest (State.canPend_rest s x n v)

@[simp] theorem State.canStamp_mem (s : State) (x : Nat) (n : Nat) (t : Nat) : (s.canStamp x n t).mem = s.mem :=
  State.mem_of_rest (State.canStamp_rest s x n t)

@[simp] theorem State.canRearm_mem (s : State) (x : Nat) (n : Nat) : (s.canRearm x n).mem = s.mem :=
  State.mem_of_rest (State.canRearm_rest s x n)

@[simp] theorem State.canStore_mem (s : State) (x : Nat) (n : Nat) (f : CanFrame) (t : Nat) : (s.canStore x n f t).mem = s.mem :=
  State.mem_of_rest (State.canStore_rest s x n f t)

@[simp] theorem State.canLost_mem (s : State) (x : Nat) : (s.canLost x).mem = s.mem :=
  State.mem_of_rest (State.canLost_rest s x)

@[simp] theorem State.canReceive_mem (s : State) (x : Nat) (f : CanFrame) (t : Nat) : (s.canReceive x f t).mem = s.mem :=
  State.mem_of_rest (State.canReceive_rest s x f t)

@[simp] theorem State.canOnBus_mem (s : State) (x : Nat) : ((s.canOnBus x).2).mem = s.mem :=
  State.mem_of_rest (State.canOnBus_rest s x)

@[simp] theorem State.canConfine_mem (s : State) (x : Nat) : (s.canConfine x).mem = s.mem :=
  State.mem_of_rest (State.canConfine_rest s x)

@[simp] theorem State.canRecover_mem (s : State) (x : Nat) : (s.canRecover x).mem = s.mem :=
  State.mem_of_rest (State.canRecover_rest s x)

@[simp] theorem State.canModeWritten_mem (s : State) (x : Nat) : (s.canModeWritten x).mem = s.mem :=
  State.mem_of_rest (State.canModeWritten_rest s x)

@[simp] theorem State.canCfgWritten_mem (s : State) (x : Nat) (n : Nat) (old : Nat) : (s.canCfgWritten x n old).mem = s.mem :=
  State.mem_of_rest (State.canCfgWritten_rest s x n old)

@[simp] theorem State.canWake_mem (s : State) : (s.canWake).mem = s.mem :=
  State.mem_of_rest (State.canWake_rest s)

@[simp] theorem State.stepLost_mem (s : State) (f : Fld) : (s.stepLost f).mem = s.mem :=
  State.mem_of_rest (State.stepLost_rest s f)

@[simp] theorem State.standbyLocal_mem (s : State) : (s.standbyLocal).mem = s.mem :=
  State.mem_of_rest (State.standbyLocal_rest s)

@[simp] theorem State.recordCause_mem (s : State) (code : Nat) (gc : Bool) (first : Bool) : (s.recordCause code gc first).mem = s.mem :=
  State.mem_of_rest (State.recordCause_rest s code gc first)

@[simp] theorem State.enterStop_mem (s : State) (st : Nat) : (s.enterStop st).mem = s.mem :=
  State.mem_of_rest (State.enterStop_rest s st)

@[simp] theorem State.enterHalt_mem (s : State) : (s.enterHalt).mem = s.mem := by
  unfold State.enterHalt; try dsimp only
  repeat' first
    | intro _ _
    | rw [foldl_mem]
    | rw [foldr_mem]
    | (simp; done)
    | split
    | simp

@[simp] theorem State.enterSii_mem (s : State) : (s.enterSii).mem = s.mem := by
  unfold State.enterSii; try dsimp only
  repeat' first
    | intro _ _
    | rw [foldl_mem]
    | rw [foldr_mem]
    | (simp; done)
    | split
    | simp

@[simp] theorem State.enterSrs_mem (s : State) : (s.enterSrs).mem = s.mem :=
  State.mem_of_rest (State.enterSrs_rest s)

@[simp] theorem State.beginStop_mem (s : State) : (s.beginStop).mem = s.mem :=
  State.mem_of_rest (State.beginStop_rest s)

@[simp] theorem State.setGuard_mem (s : State) (g : Nat) : (s.setGuard g).mem = s.mem :=
  State.mem_of_rest (State.setGuard_rest s g)

@[simp] theorem State.crbDiag_mem (s : State) (f : Fld) : (s.crbDiag f).mem = s.mem :=
  State.mem_of_rest (State.crbDiag_rest s f)

@[simp] theorem State.loadScfg_mem (s : State) (w : List Nat) (crc : Nat) : (s.loadScfg w crc).mem = s.mem :=
  State.mem_of_rest (State.loadScfg_rest s w crc)

@[simp] theorem State.sweepBoundary_mem (s : State) : (s.sweepBoundary).mem = s.mem :=
  State.mem_of_rest (State.sweepBoundary_rest s)

@[simp] theorem State.paramCheck_mem (s : State) : (s.paramCheck).mem = s.mem :=
  State.mem_of_rest (State.paramCheck_rest s)

@[simp] theorem State.limit_mem (s : State) (f : Fld) (v : Int) (lo : Int) (hi : Int) : (s.limit f v lo hi).mem = s.mem :=
  State.mem_of_rest (State.limit_rest s f v lo hi)

@[simp] theorem State.ends_mem (s : State) (l : Nat) : ((s.ends l).2.2).mem = s.mem :=
  State.mem_of_rest (State.ends_rest s l)

@[simp] theorem State.collectCell_mem (s : State) (sw : Nat) (cell : Nat) (l : Nat) : (s.collectCell sw cell l).mem = s.mem :=
  State.mem_of_rest (State.collectCell_rest s sw cell l)

@[simp] theorem State.learnCell_mem (s : State) (cell : Nat) (l : Nat) : (s.learnCell cell l).mem = s.mem :=
  State.mem_of_rest (State.learnCell_rest s cell l)

@[simp] theorem State.learnCollect_mem (s : State) (sw : Nat) : (s.learnCollect sw).mem = s.mem :=
  State.mem_of_rest (State.learnCollect_rest s sw)

@[simp] theorem State.estMissing_mem (s : State) : (s.estMissing).mem = s.mem :=
  State.mem_of_rest (State.estMissing_rest s)

@[simp] theorem State.estCollect_mem (s : State) (sw : Nat) : (s.estCollect sw).mem = s.mem :=
  State.mem_of_rest (State.estCollect_rest s sw)

@[simp] theorem State.keepPred_mem (s : State) (sw : Nat) : (s.keepPred sw).mem = s.mem :=
  State.mem_of_rest (State.keepPred_rest s sw)

@[simp] theorem State.autoEnded_mem (s : State) (sw : Nat) (status : Nat) : (s.autoEnded sw status).mem = s.mem :=
  State.mem_of_rest (State.autoEnded_rest s sw status)

@[simp] theorem State.paramApply_mem (s : State) : (s.paramApply).mem = s.mem :=
  State.mem_of_rest (State.paramApply_rest s)

@[simp] theorem State.estCtrl_mem (s : State) (v : Nat) : (s.estCtrl v).mem = s.mem :=
  State.mem_of_rest (State.estCtrl_rest s v)

@[simp] theorem State.lsnapReq_mem (s : State) (v : Nat) : (s.lsnapReq v).mem = s.mem :=
  State.mem_of_rest (State.lsnapReq_rest s v)

@[simp] theorem State.setUnit_mem (s : State) (u : Nat) (x : UnitSt) : (s.setUnit u x).mem = s.mem :=
  State.mem_of_rest (State.setUnit_rest s u x)

@[simp] theorem State.mapUnit_mem (s : State) (u : Nat) (g : UnitSt → UnitSt) : (s.mapUnit u g).mem = s.mem :=
  State.mem_of_rest (State.mapUnit_rest s u g)

@[simp] theorem State.relay_mem (s : State) (south : Bool) (y : LineSym) : (s.relay south y).mem = s.mem :=
  State.mem_of_rest (State.relay_rest s south y)

@[simp] theorem State.request_mem (s : State) (h : Hop) (cmd : Nat) (p : List Nat) (g : UnitSt → UnitSt) : (s.request h cmd p g).mem = s.mem :=
  State.mem_of_rest (State.request_rest s h cmd p g)

@[simp] theorem State.chainReq_mem (s : State) (h : Hop) (cmd : Nat) (p : List Nat) (act : UnitSt → UnitSt) : (s.chainReq h cmd p act).mem = s.mem :=
  State.mem_of_rest (State.chainReq_rest s h cmd p act)

@[simp] theorem State.refDown_mem (s : State) : (s.refDown).mem = s.mem :=
  State.mem_of_rest (State.refDown_rest s)

@[simp] theorem State.herdRegs_mem (s : State) : (s.herdRegs).mem = s.mem :=
  State.mem_of_rest (State.herdRegs_rest s)

@[simp] theorem State.setJobs_mem (s : State) (js : List Job) : (s.setJobs js).mem = s.mem :=
  State.mem_of_rest (State.setJobs_rest s js)

@[simp] theorem State.putJob_mem (s : State) (j : Job) : (s.putJob j).mem = s.mem :=
  State.mem_of_rest (State.putJob_rest s j)

@[simp] theorem State.dropJob_mem (s : State) (j : Job) : (s.dropJob j).mem = s.mem :=
  State.mem_of_rest (State.dropJob_rest s j)

@[simp] theorem State.reapJobs_mem (s : State) : (s.reapJobs).mem = s.mem :=
  State.mem_of_rest (State.reapJobs_rest s)

@[simp] theorem State.dispatch_mem (s : State) (j : Job) : (s.dispatch j).mem = s.mem :=
  State.mem_of_rest (State.dispatch_rest s j)

@[simp] theorem State.evaluate_mem (s : State) (fuel : Nat) : (s.evaluate fuel).mem = s.mem :=
  State.mem_of_rest (State.evaluate_rest s fuel)

@[simp] theorem State.markCandidates_mem (s : State) : (s.markCandidates).mem = s.mem :=
  State.mem_of_rest (State.markCandidates_rest s)

@[simp] theorem State.schedule_mem (s : State) : (s.schedule).mem = s.mem :=
  State.mem_of_rest (State.schedule_rest s)

@[simp] theorem State.queueJob_mem (s : State) (j : Job) : (s.queueJob j).mem = s.mem :=
  State.mem_of_rest (State.queueJob_rest s j)

@[simp] theorem State.setLane_mem (s : State) (l : Nat) (r : Nat) (v : Nat) : (s.setLane l r v).mem = s.mem :=
  State.mem_of_rest (State.setLane_rest s l r v)

@[simp] theorem State.setPred_mem (s : State) (l : Nat) (p : Nat) (v : Bool) : (s.setPred l p v).mem = s.mem :=
  State.mem_of_rest (State.setPred_rest s l p v)

@[simp] theorem State.initLanes_mem (s : State) (j : Job) : (s.initLanes j).mem = s.mem :=
  State.mem_of_rest (State.initLanes_rest s j)

@[simp] theorem State.putRun_mem (s : State) (j : Job) (r : TeamRun) : (s.putRun j r).mem = s.mem :=
  State.mem_of_rest (State.putRun_rest s j r)

@[simp] theorem State.laneEcc_mem (s : State) (e : Ecc) : (s.laneEcc e).mem = s.mem :=
  State.mem_of_rest (State.laneEcc_rest s e)

@[simp] theorem State.laneNext_mem (s : State) (j : Job) (r : TeamRun) : (s.laneNext j r).mem = s.mem :=
  State.mem_of_rest (State.laneNext_rest s j r)

@[simp] theorem State.meet_mem (s : State) (j : Job) (w : Rdv) : (s.meet j w).mem = s.mem :=
  State.mem_of_rest (State.meet_rest s j w)

@[simp] theorem State.autoPost_mem (s : State) (sw : Nat) (late : Bool) : (s.autoPost sw late).mem = s.mem :=
  State.mem_of_rest (State.autoPost_rest s sw late)

@[simp] theorem State.hrdCtrl_mem (s : State) (v : Nat) : (s.hrdCtrl v).mem = s.mem :=
  State.mem_of_rest (State.hrdCtrl_rest s v)

@[simp] theorem State.tagStat_mem (s : State) : (s.tagStat).mem = s.mem :=
  State.mem_of_rest (State.tagStat_rest s)

@[simp] theorem State.sendReq_mem (s : State) (port : Nat) (f : Frame) : (s.sendReq port f).mem = s.mem :=
  State.mem_of_rest (State.sendReq_rest s port f)

@[simp] theorem State.reqEnd_mem (s : State) (addr : Nat) (cmd : Nat) : (s.reqEnd addr cmd).mem = s.mem :=
  State.mem_of_rest (State.reqEnd_rest s addr cmd)

@[simp] theorem State.castLevels_mem (s : State) : (s.castLevels).mem = s.mem :=
  State.mem_of_rest (State.castLevels_rest s)

@[simp] theorem State.commitRecord_mem (s : State) (old : Nat) : (s.commitRecord old).mem = s.mem :=
  State.mem_of_rest (State.commitRecord_rest s old)

@[simp] theorem State.sendReadBack_mem (s : State) (u : Nat) : (s.sendReadBack u).mem = s.mem :=
  State.mem_of_rest (State.sendReadBack_rest s u)

@[simp] theorem State.prtSync_mem (s : State) : (s.prtSync).mem = s.mem :=
  State.mem_of_rest (State.prtSync_rest s)

@[simp] theorem State.sweepFull_mem (s : State) : (s.sweepFull).mem = s.mem :=
  State.mem_of_rest (State.sweepFull_rest s)

@[simp] theorem State.quiet_mem (s : State) : (s.quiet).mem = s.mem :=
  State.mem_of_rest (State.quiet_rest s)

@[simp] theorem State.mapFail_mem (s : State) (code : Nat) (cell : Nat) (unit : Nat) : (s.mapFail code cell unit).mem = s.mem :=
  State.mem_of_rest (State.mapFail_rest s code cell unit)

@[simp] theorem State.mapFail7_mem (s : State) (u : Nat) : (s.mapFail7 u).mem = s.mem :=
  State.mem_of_rest (State.mapFail7_rest s u)

@[simp] theorem State.sendCells_mem (s : State) (u : Nat) : (s.sendCells u).mem = s.mem :=
  State.mem_of_rest (State.sendCells_rest s u)

@[simp] theorem State.cellsAgain_mem (s : State) : (s.cellsAgain).mem = s.mem :=
  State.mem_of_rest (State.cellsAgain_rest s)

@[simp] theorem State.mapTake_mem (s : State) (m : List (Nat × Nat)) : (s.mapTake m).mem = s.mem :=
  State.mem_of_rest (State.mapTake_rest s m)

@[simp] theorem State.mapValidate_mem (s : State) : (s.mapValidate).mem = s.mem :=
  State.mem_of_rest (State.mapValidate_rest s)

@[simp] theorem State.classify_mem (s : State) (u : Nat) (stack : Nat) (xs : List CellNow) : (s.classify u stack xs).mem = s.mem :=
  State.mem_of_rest (State.classify_rest s u stack xs)

@[simp] theorem State.refreshFlags_mem (s : State) (u : Nat) : (s.refreshFlags u).mem = s.mem :=
  State.mem_of_rest (State.refreshFlags_rest s u)

@[simp] theorem State.owtQueue_mem (s : State) (u : Nat) (why : OwtWhy) : (s.owtQueue u why).mem = s.mem :=
  State.mem_of_rest (State.owtQueue_rest s u why)

@[simp] theorem State.takeSignature_mem (s : State) (k : Nat) : (s.takeSignature k).mem = s.mem :=
  State.mem_of_rest (State.takeSignature_rest s k)

@[simp] theorem State.clearSignature_mem (s : State) (k : Nat) : (s.clearSignature k).mem = s.mem :=
  State.mem_of_rest (State.clearSignature_rest s k)

@[simp] theorem State.suspectAny_mem (s : State) : (s.suspectAny).mem = s.mem :=
  State.mem_of_rest (State.suspectAny_rest s)

@[simp] theorem State.dropOpen_mem (s : State) : (s.dropOpen).mem = s.mem :=
  State.mem_of_rest (State.dropOpen_rest s)

@[simp] theorem State.celSync_mem (s : State) : (s.celSync).mem = s.mem :=
  State.mem_of_rest (State.celSync_rest s)

@[simp] theorem State.flagOpen_mem (s : State) (u : Nat) (t : Nat) : (s.flagOpen u t).mem = s.mem :=
  State.mem_of_rest (State.flagOpen_rest s u t)

@[simp] theorem State.findClosed_mem (s : State) (u : Nat) (t : Nat) : (s.findClosed u t).mem = s.mem :=
  State.mem_of_rest (State.findClosed_rest s u t)

@[simp] theorem State.owtTry_mem (s : State) : (s.owtTry).mem = s.mem :=
  State.mem_of_rest (State.owtTry_rest s)

@[simp] theorem State.owtEnd_mem (s : State) : (s.owtEnd).mem = s.mem :=
  State.mem_of_rest (State.owtEnd_rest s)

@[simp] theorem State.owtReroute_mem (s : State) (was : Nat → Nat) : (s.owtReroute was).mem = s.mem :=
  State.mem_of_rest (State.owtReroute_rest s was)

@[simp] theorem State.sendBleed_mem (s : State) (u : Nat) : (s.sendBleed u).mem = s.mem :=
  State.mem_of_rest (State.sendBleed_rest s u)

@[simp] theorem State.bleedFlush_mem (s : State) (u : Nat) : (s.bleedFlush u).mem = s.mem :=
  State.mem_of_rest (State.bleedFlush_rest s u)

@[simp] theorem State.dropTaken_mem (s : State) : (s.dropTaken).mem = s.mem :=
  State.mem_of_rest (State.dropTaken_rest s)

@[simp] theorem State.limitUnit_mem (s : State) (u : Nat) (volt : Nat → Nat) : (s.limitUnit u volt).mem = s.mem :=
  State.mem_of_rest (State.limitUnit_rest s u volt)

@[simp] theorem State.cellSummary_mem (s : State) : (s.cellSummary).mem = s.mem :=
  State.mem_of_rest (State.cellSummary_rest s)

@[simp] theorem State.stringSum_mem (s : State) : (s.stringSum).mem = s.mem :=
  State.mem_of_rest (State.stringSum_rest s)

@[simp] theorem State.staleAny_mem (s : State) : (s.staleAny).mem = s.mem :=
  State.mem_of_rest (State.staleAny_rest s)

@[simp] theorem State.engineRx_mem (s : State) (high : Bool) (w : Wire) (g : State → State) (h0 : ∀ t : State, (g t).mem = t.mem) : (s.engineRx high w g).mem = s.mem := by
  simp [State.engineRx, h0]

@[simp] theorem State.discard_mem (s : State) (port : Nat) (rx : Rx) : (s.discard port rx).mem = s.mem :=
  State.mem_of_rest (State.discard_rest s port rx)

@[simp] theorem State.chxDrop_mem (s : State) (x : ChxSt) : (s.chxDrop x).mem = s.mem :=
  State.mem_of_rest (State.chxDrop_rest s x)

@[simp] theorem State.setRoutes_mem (s : State) : (s.setRoutes).mem = s.mem :=
  State.mem_of_rest (State.setRoutes_rest s)

@[simp] theorem State.reachFromBroken_mem (s : State) : (s.reachFromBroken).mem = s.mem :=
  State.mem_of_rest (State.reachFromBroken_rest s)

@[simp] theorem State.ringStat_mem (s : State) : (s.ringStat).mem = s.mem :=
  State.mem_of_rest (State.ringStat_rest s)

@[simp] theorem State.sendRead_mem (s : State) (u : Nat) (port : Nat) (again : Bool) : (s.sendRead u port again).mem = s.mem :=
  State.mem_of_rest (State.sendRead_rest s u port again)

@[simp] theorem State.rereadSome_mem (s : State) (p : Nat → Bool) (first : Nat → Nat) : (s.rereadSome p first).mem = s.mem :=
  State.mem_of_rest (State.rereadSome_rest s p first)

@[simp] theorem State.rereadAll_mem (s : State) (first : Nat → Nat) : (s.rereadAll first).mem = s.mem :=
  State.mem_of_rest (State.rereadAll_rest s first)

@[simp] theorem State.pingNext_mem (s : State) (port : Nat) : (s.pingNext port).mem = s.mem :=
  State.mem_of_rest (State.pingNext_rest s port)

@[simp] theorem State.pingAll_mem (s : State) (l : List (Nat × Nat)) : (s.pingAll l).mem = s.mem :=
  State.mem_of_rest (State.pingAll_rest s l)

@[simp] theorem State.pingEnd_mem (s : State) (p : Nat × Nat → Bool) : (s.pingEnd p).mem = s.mem :=
  State.mem_of_rest (State.pingEnd_rest s p)

@[simp] theorem State.healAt_mem (s : State) (k : Nat) : (s.healAt k).mem = s.mem :=
  State.mem_of_rest (State.healAt_rest s k)

@[simp] theorem State.portAlive_mem (s : State) (port : Nat) : (s.portAlive port).mem = s.mem :=
  State.mem_of_rest (State.portAlive_rest s port)

@[simp] theorem State.sendLdly_mem (s : State) (u : Nat) : (s.sendLdly u).mem = s.mem :=
  State.mem_of_rest (State.sendLdly_rest s u)

@[simp] theorem State.measure_mem (s : State) : (s.measure).mem = s.mem :=
  State.mem_of_rest (State.measure_rest s)

@[simp] theorem State.classifyRing_mem (s : State) (e : EnumSt) : (s.classifyRing e).mem = s.mem :=
  State.mem_of_rest (State.classifyRing_rest s e)

@[simp] theorem State.checkRing_mem (s : State) : (s.checkRing).mem = s.mem :=
  State.mem_of_rest (State.checkRing_rest s)

@[simp] theorem State.writeDelays_mem (s : State) (e : EnumSt) : (s.writeDelays e).mem = s.mem :=
  State.mem_of_rest (State.writeDelays_rest s e)

@[simp] theorem State.measured_mem (s : State) : (s.measured).mem = s.mem :=
  State.mem_of_rest (State.measured_rest s)

@[simp] theorem State.enumDone_mem (s : State) (e : EnumSt) : (s.enumDone e).mem = s.mem :=
  State.mem_of_rest (State.enumDone_rest s e)

@[simp] theorem State.afterRead_mem (s : State) (u : Nat) : (s.afterRead u).mem = s.mem :=
  State.mem_of_rest (State.afterRead_rest s u)

@[simp] theorem State.overload_mem (s : State) (on : Bool) : (s.overload on).mem = s.mem :=
  State.mem_of_rest (State.overload_rest s on)

@[simp] theorem State.rangeCheck_mem (s : State) (hi : Option Int) (lo : Option Int) : (s.rangeCheck hi lo).mem = s.mem :=
  State.mem_of_rest (State.rangeCheck_rest s hi lo)

@[simp] theorem State.countCharge_mem (s : State) (i : Option Int) : (s.countCharge i).mem = s.mem :=
  State.mem_of_rest (State.countCharge_rest s i)

@[simp] theorem State.zeroSample_mem (s : State) (nv : Option Int) : (s.zeroSample nv).mem = s.mem :=
  State.mem_of_rest (State.zeroSample_rest s nv)

@[simp] theorem State.zeroStart_mem (s : State) : (s.zeroStart).mem = s.mem :=
  State.mem_of_rest (State.zeroStart_rest s)

@[simp] theorem State.setVolts_mem (s : State) (b : Option Nat) (l : Option Nat) (m : Option Nat) : (s.setVolts b l m).mem = s.mem :=
  State.mem_of_rest (State.setVolts_rest s b l m)

@[simp] theorem State.voltCheck_mem (s : State) (b : Int) (l : Int) (m : Int) : (s.voltCheck b l m).mem = s.mem :=
  State.mem_of_rest (State.voltCheck_rest s b l m)

@[simp] theorem State.pchEnter_mem (s : State) (st : Nat) (reason : Nat) : (s.pchEnter st reason).mem = s.mem :=
  State.mem_of_rest (State.pchEnter_rest s st reason)

@[simp] theorem State.pchAbort_mem (s : State) : (s.pchAbort).mem = s.mem :=
  State.mem_of_rest (State.pchAbort_rest s)

@[simp] theorem State.pchArm_mem (s : State) : (s.pchArm).mem = s.mem :=
  State.mem_of_rest (State.pchArm_rest s)

@[simp] theorem State.pchAsk_mem (s : State) (req : Nat) : (s.pchAsk req).mem = s.mem :=
  State.mem_of_rest (State.pchAsk_rest s req)

@[simp] theorem State.pchSample_mem (s : State) : (s.pchSample).mem = s.mem :=
  State.mem_of_rest (State.pchSample_rest s)

@[simp] theorem State.divStop_mem (s : State) : (s.divStop).mem = s.mem :=
  State.mem_of_rest (State.divStop_rest s)

@[simp] theorem State.diversity_mem (s : State) (hall : Int) : (s.diversity hall).mem = s.mem :=
  State.mem_of_rest (State.diversity_rest s hall)

@[simp] theorem State.divWaiting_mem (s : State) : (s.divWaiting).mem = s.mem :=
  State.mem_of_rest (State.divWaiting_rest s)

@[simp] theorem State.hvmCtrl_mem (s : State) (v : Nat) : (s.hvmCtrl v).mem = s.mem :=
  State.mem_of_rest (State.hvmCtrl_rest s v)

@[simp] theorem State.hvmHallgain_mem (s : State) (v : Nat) : (s.hvmHallgain v).mem = s.mem :=
  State.mem_of_rest (State.hvmHallgain_rest s v)

@[simp] theorem State.hvInvalid_mem (s : State) : (s.hvInvalid).mem = s.mem :=
  State.mem_of_rest (State.hvInvalid_rest s)

@[simp] theorem State.isoInvalid_mem (s : State) : (s.isoInvalid).mem = s.mem :=
  State.mem_of_rest (State.isoInvalid_rest s)

@[simp] theorem State.hvLost_mem (s : State) : (s.hvLost).mem = s.mem :=
  State.mem_of_rest (State.hvLost_rest s)

@[simp] theorem State.hvDown_mem (s : State) : (s.hvDown).mem = s.mem :=
  State.mem_of_rest (State.hvDown_rest s)

@[simp] theorem State.rangeReset_mem (s : State) : (s.rangeReset).mem = s.mem :=
  State.mem_of_rest (State.rangeReset_rest s)

@[simp] theorem State.qClr_mem (s : State) : (s.qClr).mem = s.mem :=
  State.mem_of_rest (State.qClr_rest s)

@[simp] theorem State.hvmCmd_mem (s : State) (v : Nat) : (s.hvmCmd v).mem = s.mem :=
  State.mem_of_rest (State.hvmCmd_rest s v)

@[simp] theorem State.qloRead_mem (s : State) : ((s.qloRead).2).mem = s.mem :=
  State.mem_of_rest (State.qloRead_rest s)

@[simp] theorem State.qhiRead_mem (s : State) : ((s.qhiRead).2).mem = s.mem :=
  State.mem_of_rest (State.qhiRead_rest s)

@[simp] theorem State.mapAxis_mem (s : State) (n : Nat) (g : GgnAxis → GgnAxis) : (s.mapAxis n g).mem = s.mem :=
  State.mem_of_rest (State.mapAxis_rest s n g)

@[simp] theorem State.setMode_mem (s : State) (n : Nat) (m : Nat) : (s.setMode n m).mem = s.mem :=
  State.mem_of_rest (State.setMode_rest s n m)

@[simp] theorem State.ggnIdle_mem (s : State) (n : Nat) : (s.ggnIdle n).mem = s.mem :=
  State.mem_of_rest (State.ggnIdle_rest s n)

@[simp] theorem State.ggnOwnStop_mem (s : State) (n : Nat) : (s.ggnOwnStop n).mem = s.mem :=
  State.mem_of_rest (State.ggnOwnStop_rest s n)

@[simp] theorem State.ggnBreak_mem (s : State) (n : Nat) : (s.ggnBreak n).mem = s.mem :=
  State.mem_of_rest (State.ggnBreak_rest s n)

@[simp] theorem State.ggnStop_mem (s : State) (n : Nat) : (s.ggnStop n).mem = s.mem :=
  State.mem_of_rest (State.ggnStop_rest s n)

@[simp] theorem State.ggnIntegrate_mem (s : State) : (s.ggnIntegrate).mem = s.mem :=
  State.mem_of_rest (State.ggnIntegrate_rest s)

@[simp] theorem State.ggnArrive_mem (s : State) : ((s.ggnArrive).1).mem = s.mem :=
  State.mem_of_rest (State.ggnArrive_rest s)

@[simp] theorem State.ggnLeaveSafe_mem (s : State) : (s.ggnLeaveSafe).mem = s.mem :=
  State.mem_of_rest (State.ggnLeaveSafe_rest s)

@[simp] theorem State.ggnSafe_mem (s : State) : (s.ggnSafe).mem = s.mem :=
  State.mem_of_rest (State.ggnSafe_rest s)

@[simp] theorem State.ggnBounds_mem (s : State) (lo : Int) (hi : Int) : (s.ggnBounds lo hi).mem = s.mem :=
  State.mem_of_rest (State.ggnBounds_rest s lo hi)

@[simp] theorem State.ggnCmds_mem (s : State) (n : Nat) : (s.ggnCmds n).mem = s.mem :=
  State.mem_of_rest (State.ggnCmds_rest s n)

@[simp] theorem State.ggnLimits_mem (s : State) (n : Nat) : (s.ggnLimits n).mem = s.mem :=
  State.mem_of_rest (State.ggnLimits_rest s n)

@[simp] theorem State.ggnTargets_mem (s : State) (n : Nat) : (s.ggnTargets n).mem = s.mem :=
  State.mem_of_rest (State.ggnTargets_rest s n)

@[simp] theorem State.ggnGroup_mem (s : State) (k : Nat) : (s.ggnGroup k).mem = s.mem :=
  State.mem_of_rest (State.ggnGroup_rest s k)

@[simp] theorem State.ggnClamp_mem (s : State) (n : Nat) (lo : Int) (hi : Int) (t : Int) : ((s.ggnClamp n lo hi t).1).mem = s.mem :=
  State.mem_of_rest (State.ggnClamp_rest s n lo hi t)

@[simp] theorem State.ggnBegin_mem (s : State) (n : Nat) (t : Int) (segs : List GgnSeg) (link : Option GgnLink) : (s.ggnBegin n t segs link).mem = s.mem :=
  State.mem_of_rest (State.ggnBegin_rest s n t segs link)

@[simp] theorem State.ggnStart_mem (s : State) (n : Nat) (lo : Int) (hi : Int) (m : GgnMove) : (s.ggnStart n lo hi m).mem = s.mem :=
  State.mem_of_rest (State.ggnStart_rest s n lo hi m)

@[simp] theorem State.ggnShow_mem (s : State) (lo : Int) (hi : Int) : (s.ggnShow lo hi).mem = s.mem :=
  State.mem_of_rest (State.ggnShow_rest s lo hi)

@[simp] theorem State.ggnDown_mem (s : State) : (s.ggnDown).mem = s.mem :=
  State.mem_of_rest (State.ggnDown_rest s)

@[simp] theorem State.doDiag_mem (s : State) (f : Fld) (n : Nat) : (s.doDiag f n).mem = s.mem :=
  State.mem_of_rest (State.doDiag_rest s f n)

@[simp] theorem State.lsRelease_mem (s : State) (k : Nat) : (s.lsRelease k).mem = s.mem :=
  State.mem_of_rest (State.lsRelease_rest s k)

@[simp] theorem State.cntMatch_mem (s : State) (k : Nat) : (s.cntMatch k).mem = s.mem :=
  State.mem_of_rest (State.cntMatch_rest s k)

@[simp] theorem State.cntClr_mem (s : State) (k : Nat) : (s.cntClr k).mem = s.mem := by
  simp [State.cntClr]

@[simp] theorem State.fioWdKey_mem (s : State) (v : Nat) : (s.fioWdKey v).mem = s.mem :=
  State.mem_of_rest (State.fioWdKey_rest s v)

@[simp] theorem State.fioTick_mem (s : State) (rb : Nat) : (s.fioTick rb).mem = s.mem :=
  State.mem_of_rest (State.fioTick_rest s rb)

@[simp] theorem State.tie_mem (s : State) (j : Nat) (m : Nat) : (s.tie j m).mem = s.mem :=
  State.mem_of_rest (State.tie_rest s j m)

@[simp] theorem State.judgeWindow_mem (s : State) (m : Nat) (low : BitVec 16) (high : BitVec 16) : (s.judgeWindow m low high).mem = s.mem :=
  State.mem_of_rest (State.judgeWindow_rest s m low high)

@[simp] theorem State.filterTakes_mem (s : State) (n : Nat) (now : Bool) : (s.filterTakes n now).mem = s.mem :=
  State.mem_of_rest (State.filterTakes_rest s n now)

@[simp] theorem State.ptpEnter_mem (s : State) (st : Nat) : (s.ptpEnter st).mem = s.mem :=
  State.mem_of_rest (State.ptpEnter_rest s st)

@[simp] theorem State.setTime_mem (s : State) (t : Nat) : (s.setTime t).mem = s.mem :=
  State.mem_of_rest (State.setTime_rest s t)

@[simp] theorem State.cmpFire_mem (s : State) (k : Nat) : (s.cmpFire k).mem = s.mem :=
  State.mem_of_rest (State.cmpFire_rest s k)

@[simp] theorem State.cmpCheck_mem (s : State) : (s.cmpCheck).mem = s.mem :=
  State.mem_of_rest (State.cmpCheck_rest s)

@[simp] theorem State.cmpArm_mem (s : State) (k : Nat) : (s.cmpArm k).mem = s.mem :=
  State.mem_of_rest (State.cmpArm_rest s k)

@[simp] theorem State.setRefofs_mem (s : State) (o : Int) : (s.setRefofs o).mem = s.mem :=
  State.mem_of_rest (State.setRefofs_rest s o)

@[simp] theorem State.ptpRefuse_mem (s : State) (f : Fld) : (s.ptpRefuse f).mem = s.mem :=
  State.mem_of_rest (State.ptpRefuse_rest s f)

@[simp] theorem State.ptpSample_mem (s : State) (o : Int) : (s.ptpSample o).mem = s.mem :=
  State.mem_of_rest (State.ptpSample_rest s o)

@[simp] theorem State.timeAccept_mem (s : State) : (s.timeAccept).mem = s.mem :=
  State.mem_of_rest (State.timeAccept_rest s)

@[simp] theorem State.timeStep_mem (s : State) (d : Int) : (s.timeStep d).mem = s.mem :=
  State.mem_of_rest (State.timeStep_rest s d)

@[simp] theorem State.ptpBoundary_mem (s : State) : (s.ptpBoundary).mem = s.mem :=
  State.mem_of_rest (State.ptpBoundary_rest s)

@[simp] theorem State.ptpTick_mem (s : State) : (s.ptpTick).mem = s.mem :=
  State.mem_of_rest (State.ptpTick_rest s)

@[simp] theorem State.ptpCtrl_mem (s : State) (old : Nat) : (s.ptpCtrl old).mem = s.mem :=
  State.mem_of_rest (State.ptpCtrl_rest s old)

@[simp] theorem State.tsqShow_mem (s : State) : (s.tsqShow).mem = s.mem :=
  State.mem_of_rest (State.tsqShow_rest s)

@[simp] theorem State.tsqPush_mem (s : State) (id : Nat) (t : Nat) : (s.tsqPush id t).mem = s.mem :=
  State.mem_of_rest (State.tsqPush_rest s id t)

@[simp] theorem State.tsqPop_mem (s : State) : (s.tsqPop).mem = s.mem :=
  State.mem_of_rest (State.tsqPop_rest s)

@[simp] theorem State.tsqClr_mem (s : State) : (s.tsqClr).mem = s.mem :=
  State.mem_of_rest (State.tsqClr_rest s)

@[simp] theorem State.ptpStop_mem (s : State) : (s.ptpStop).mem = s.mem :=
  State.mem_of_rest (State.ptpStop_rest s)

@[simp] theorem State.ptpWake_mem (s : State) : (s.ptpWake).mem = s.mem :=
  State.mem_of_rest (State.ptpWake_rest s)

@[simp] theorem State.ethLatch_mem (s : State) : (s.ethLatch).mem = s.mem :=
  State.mem_of_rest (State.ethLatch_rest s)

@[simp] theorem State.ethQuiet_mem (s : State) : (s.ethQuiet).mem = s.mem :=
  State.mem_of_rest (State.ethQuiet_rest s)

@[simp] theorem State.ethSend_mem (s : State) (m : EthOut) : (s.ethSend m).mem = s.mem :=
  State.mem_of_rest (State.ethSend_rest s m)

@[simp] theorem State.rxDrop_mem (s : State) : (s.rxDrop).mem = s.mem :=
  State.mem_of_rest (State.rxDrop_rest s)

@[simp] theorem State.arpAsk_mem (s : State) (ip : Nat) : (s.arpAsk ip).mem = s.mem :=
  State.mem_of_rest (State.arpAsk_rest s ip)

@[simp] theorem State.arpUse_mem (s : State) (ip : Nat) : ((s.arpUse ip).2).mem = s.mem :=
  State.mem_of_rest (State.arpUse_rest s ip)

@[simp] theorem State.arpLearn_mem (s : State) (ip : Nat) (mac : Nat) : (s.arpLearn ip mac).mem = s.mem :=
  State.mem_of_rest (State.arpLearn_rest s ip mac)

@[simp] theorem State.udpSend_mem (s : State) (ip : Nat) (dport : Nat) (payload : List Nat) : (s.udpSend ip dport payload).mem = s.mem :=
  State.mem_of_rest (State.udpSend_rest s ip dport payload)

@[simp] theorem State.sendTelegram_mem (s : State) (type : Nat) (ip : Nat) (dport : Nat) (payload : List Nat) : (s.sendTelegram type ip dport payload).mem = s.mem :=
  State.mem_of_rest (State.sendTelegram_rest s type ip dport payload)

@[simp] theorem State.dispatchEth_mem (s : State) : (s.dispatchEth).mem = s.mem :=
  State.mem_of_rest (State.dispatchEth_rest s)

@[simp] theorem State.demand_mem (s : State) (b : List Nat) : (s.demand b).mem = s.mem :=
  State.mem_of_rest (State.demand_rest s b)

@[simp] theorem State.service_mem (s : State) (b : List Nat) : (s.service b).mem = s.mem :=
  State.mem_of_rest (State.service_rest s b)

@[simp] theorem State.txDrop_mem (s : State) (c : Core) (t : Nat) : (s.txDrop c t).mem = s.mem :=
  State.mem_of_rest (State.txDrop_rest s c t)

@[simp] theorem State.txAdd_mem (s : State) (x : EthTx) : (s.txAdd x).mem = s.mem :=
  State.mem_of_rest (State.txAdd_rest s x)

@[simp] theorem State.loadTest_mem (s : State) : (s.loadTest).mem = s.mem :=
  State.mem_of_rest (State.loadTest_rest s)

@[simp] theorem State.nvmCmd_mem (s : State) (v : Nat) : (s.nvmCmd v).mem = s.mem :=
  State.mem_of_rest (State.nvmCmd_rest s v)

@[simp] theorem State.logCmd_mem (s : State) (v : Nat) : (s.logCmd v).mem = s.mem :=
  State.mem_of_rest (State.logCmd_rest s v)

@[simp] theorem State.scanFrame_mem (s : State) (settings : Bool) (i : Nat) : (s.scanFrame settings i).mem = s.mem :=
  State.mem_of_rest (State.scanFrame_rest s settings i)

@[simp] theorem State.scanLog_mem (s : State) : (s.scanLog).mem = s.mem :=
  State.mem_of_rest (State.scanLog_rest s)

@[simp] theorem State.scanCounters_mem (s : State) : (s.scanCounters).mem = s.mem := by
  unfold State.scanCounters; (repeat' split) <;> simp

@[simp] theorem State.bootScan_mem (s : State) : (s.bootScan).mem = s.mem := by
  unfold State.bootScan; try dsimp only
  repeat' first
    | intro _ _
    | rw [foldl_mem]
    | rw [foldr_mem]
    | (simp; done)
    | split
    | simp

@[simp] theorem State.mapBoot_mem (s : State) (g : BootRec → BootRec) : (s.mapBoot g).mem = s.mem :=
  State.mem_of_rest (State.mapBoot_rest s g)

@[simp] theorem State.commitBoot_mem (s : State) : (s.commitBoot).mem = s.mem :=
  State.mem_of_rest (State.commitBoot_rest s)

@[simp] theorem State.recvShow_mem (s : State) : (s.recvShow).mem = s.mem :=
  State.mem_of_rest (State.recvShow_rest s)

@[simp] theorem State.updEnd_mem (s : State) (res : Nat) : (s.updEnd res).mem = s.mem :=
  State.mem_of_rest (State.updEnd_rest s res)

@[simp] theorem State.updRes_mem (s : State) (res : Nat) : (s.updRes res).mem = s.mem :=
  State.mem_of_rest (State.updRes_rest s res)

@[simp] theorem State.updProg_mem (s : State) : (s.updProg).mem = s.mem :=
  State.mem_of_rest (State.updProg_rest s)

@[simp] theorem State.updVerify_mem (s : State) : (s.updVerify).mem = s.mem :=
  State.mem_of_rest (State.updVerify_rest s)

@[simp] theorem State.updArm_mem (s : State) : (s.updArm).mem = s.mem :=
  State.mem_of_rest (State.updArm_rest s)

@[simp] theorem State.updConfirm_mem (s : State) : (s.updConfirm).mem = s.mem :=
  State.mem_of_rest (State.updConfirm_rest s)

@[simp] theorem State.updAbort_mem (s : State) : (s.updAbort).mem = s.mem :=
  State.mem_of_rest (State.updAbort_rest s)

@[simp] theorem State.trialSecond_mem (s : State) : (s.trialSecond).mem = s.mem :=
  State.mem_of_rest (State.trialSecond_rest s)

@[simp] theorem State.bootRead_mem (s : State) : (s.bootRead).mem = s.mem :=
  State.mem_of_rest (State.bootRead_rest s)

@[simp] theorem State.herdClk_mem (s : State) : (s.herdClk).mem = s.mem :=
  State.mem_of_rest (State.herdClk_rest s)

@[simp] theorem State.orphan_mem (s : State) (c : Core) : (s.orphan c).mem = s.mem := by
  simp [State.orphan]

@[simp] theorem State.coreDown_mem (s : State) (c : Core) : (s.coreDown c).mem = s.mem := by
  simp [State.coreDown]

@[simp] theorem State.coreUp_mem (s : State) (c : Core) : (s.coreUp c).mem = s.mem := by
  simp [State.coreUp]

@[simp] theorem State.coreStart_mem (s : State) (c : Core) (pc : Nat) : (s.coreStart c pc).mem = s.mem := by
  simp [State.coreStart]

@[simp] theorem State.resetBut_mem (s : State) (lo : Nat) (hi : Nat) (keep : Nat → Bool) : (s.resetBut lo hi keep).mem = s.mem :=
  State.mem_of_rest (State.resetBut_rest s lo hi keep)

@[simp] theorem State.ggnWake_mem (s : State) : (s.ggnWake).mem = s.mem :=
  State.mem_of_rest (State.ggnWake_rest s)

@[simp] theorem State.groomRecord_mem (s : State) : (s.groomRecord).mem = s.mem :=
  State.mem_of_rest (State.groomRecord_rest s)

@[simp] theorem State.gaitRequest_mem (s : State) (c : Core) (target : Nat) : (s.gaitRequest c target).mem = s.mem :=
  State.mem_of_rest (State.gaitRequest_rest s c target)

@[simp] theorem State.estFreeze_mem (s : State) : (s.estFreeze).mem = s.mem :=
  State.mem_of_rest (State.estFreeze_rest s)

@[simp] theorem State.estThaw_mem (s : State) : (s.estThaw).mem = s.mem :=
  State.mem_of_rest (State.estThaw_rest s)

@[simp] theorem State.estRetain_mem (s : State) : (s.estRetain).mem = s.mem :=
  State.mem_of_rest (State.estRetain_rest s)

@[simp] theorem State.transNext_mem (s : State) (n : Nat) (latched : Bool) : (s.transNext n latched).mem = s.mem :=
  State.mem_of_rest (State.transNext_rest s n latched)

@[simp] theorem State.setDue_mem (s : State) (c : Core) (v : Bool) : (s.setDue c v).mem = s.mem :=
  State.mem_of_rest (State.setDue_rest s c v)

@[simp] theorem State.countTick_mem (s : State) (c : Core) : (s.countTick c).mem = s.mem := by
  simp [State.countTick]

@[simp] theorem State.leaveWfe_mem (s : State) (c : Core) : (s.leaveWfe c).mem = s.mem := by
  simp [State.leaveWfe]

@[simp] theorem State.takeDigest_mem (s : State) (k : Nat) : (s.takeDigest k).mem = s.mem :=
  State.mem_of_rest (State.takeDigest_rest s k)

@[simp] theorem State.sendBundle_mem (s : State) (k : Nat) (v : List (Nat × Nat)) (planned : Bool) : (s.sendBundle k v planned).mem = s.mem :=
  State.mem_of_rest (State.sendBundle_rest s k v planned)

@[simp] theorem State.assertClaim_mem (s : State) : (s.assertClaim).mem = s.mem :=
  State.mem_of_rest (State.assertClaim_rest s)

@[simp] theorem State.ringFromView_mem (s : State) : (s.ringFromView).mem = s.mem :=
  State.mem_of_rest (State.ringFromView_rest s)

@[simp] theorem State.originTick_mem (s : State) : (s.originTick).mem = s.mem :=
  State.mem_of_rest (State.originTick_rest s)

@[simp] theorem State.feed_mem (s : State) : (s.feed).mem = s.mem :=
  State.mem_of_rest (State.feed_rest s)

@[simp] theorem State.replayDispatch_mem (s : State) (i : Nat) : (s.replayDispatch i).mem = s.mem :=
  State.mem_of_rest (State.replayDispatch_rest s i)

@[simp] theorem State.replayRider_mem (s : State) (c : Core) : (s.replayRider c).mem = s.mem := by
  simp [State.replayRider]

@[simp] theorem State.dropHeldEvents_mem (s : State) : (s.dropHeldEvents).mem = s.mem :=
  State.mem_of_rest (State.dropHeldEvents_rest s)

@[simp] theorem State.returnDigest_mem (s : State) (k : Nat) : (s.returnDigest k).mem = s.mem :=
  State.mem_of_rest (State.returnDigest_rest s k)

@[simp] theorem State.heard_mem (s : State) : (s.heard).mem = s.mem :=
  State.mem_of_rest (State.heard_rest s)

@[simp] theorem State.crbHb_mem (s : State) (v : Nat) : (s.crbHb v).mem = s.mem :=
  State.mem_of_rest (State.crbHb_rest s v)

@[simp] theorem State.safetyReset_mem (s : State) : (s.safetyReset).mem = s.mem :=
  State.mem_of_rest (State.safetyReset_rest s)

@[simp] theorem State.crbReset_mem (s : State) (v : Nat) : (s.crbReset v).mem = s.mem :=
  State.mem_of_rest (State.crbReset_rest s v)

@[simp] theorem State.sealRefuse_mem (s : State) (result : Nat) : (s.sealRefuse result).mem = s.mem :=
  State.mem_of_rest (State.sealRefuse_rest s result)

@[simp] theorem State.sealCheck_mem (s : State) : (s.sealCheck).mem = s.mem :=
  State.mem_of_rest (State.sealCheck_rest s)

@[simp] theorem State.crbSeal_mem (s : State) (v : Nat) : (s.crbSeal v).mem = s.mem :=
  State.mem_of_rest (State.crbSeal_rest s v)

@[simp] theorem State.crbTick_mem (s : State) : (s.crbTick).mem = s.mem :=
  State.mem_of_rest (State.crbTick_rest s)

@[simp] theorem State.waitTick_mem (s : State) (c : Core) : (s.waitTick c).mem = s.mem := by
  unfold State.waitTick; (repeat' split) <;> simp

@[simp] theorem State.tdmCtrl_mem (s : State) (v : Nat) : (s.tdmCtrl v).mem = s.mem :=
  State.mem_of_rest (State.tdmCtrl_rest s v)

@[simp] theorem State.tdmCmd_mem (s : State) (v : Nat) : (s.tdmCmd v).mem = s.mem :=
  State.mem_of_rest (State.tdmCmd_rest s v)

@[simp] theorem State.claimRef_mem (s : State) (v : Nat) : (s.claimRef v).mem = s.mem :=
  State.mem_of_rest (State.claimRef_rest s v)

@[simp] theorem State.snapFail_mem (s : State) : (s.snapFail).mem = s.mem :=
  State.mem_of_rest (State.snapFail_rest s)

@[simp] theorem State.putLock_mem (s : State) (p : Fin 6) (b : Bool) : (s.putLock p b).mem = s.mem :=
  State.mem_of_rest (State.putLock_rest s p b)

@[simp] theorem State.sysWdKey_mem (s : State) (v : Nat) : (s.sysWdKey v).mem = s.mem :=
  State.mem_of_rest (State.sysWdKey_rest s v)

@[simp] theorem State.chnRemeasure_mem (s : State) : (s.chnRemeasure).mem = s.mem :=
  State.mem_of_rest (State.chnRemeasure_rest s)

@[simp] theorem State.chnWake_mem (s : State) : (s.chnWake).mem = s.mem :=
  State.mem_of_rest (State.chnWake_rest s)

@[simp] theorem State.sweepsOff_mem (s : State) : (s.sweepsOff).mem = s.mem :=
  State.mem_of_rest (State.sweepsOff_rest s)

@[simp] theorem State.chnCtrl_mem (s : State) (v : Nat) : (s.chnCtrl v).mem = s.mem :=
  State.mem_of_rest (State.chnCtrl_rest s v)

@[simp] theorem State.takePing_mem (s : State) (port : Nat) (u : Nat) (f : Frame) (rtt : Nat) : (s.takePing port u f rtt).mem = s.mem :=
  State.mem_of_rest (State.takePing_rest s port u f rtt)

@[simp] theorem State.mapApply_mem (s : State) : (s.mapApply).mem = s.mem :=
  State.mem_of_rest (State.mapApply_rest s)

@[simp] theorem State.owtNow_mem (s : State) (u : Nat) : (s.owtNow u).mem = s.mem :=
  State.mem_of_rest (State.owtNow_rest s u)

@[simp] theorem State.balStop_mem (s : State) : (s.balStop).mem = s.mem :=
  State.mem_of_rest (State.balStop_rest s)

@[simp] theorem State.storeFld_mem (s : State) (bad : List Nat) (w : Nat) (f : Fld) : (s.storeFld bad w f).mem = s.mem :=
  State.mem_of_rest (State.storeFld_rest s bad w f)

@[simp] theorem State.storeFields_mem (s : State) (a : Nat) (w : Nat) : (s.storeFields a w).mem = s.mem :=
  State.mem_of_rest (State.storeFields_rest s a w)

@[simp] theorem State.noteWrite_mem (s : State) (c : Core) (a : Nat) : (s.noteWrite c a).mem = s.mem :=
  State.mem_of_rest (State.noteWrite_rest s c a)

@[simp] theorem State.addFlags_mem (s : State) (k : Core) (a : Word) (b : Word) (r : Word) : (s.addFlags k a b r).mem = s.mem := by
  simp [State.addFlags]

@[simp] theorem State.subFlags_mem (s : State) (k : Core) (a : Word) (b : Word) (r : Word) : (s.subFlags k a b r).mem = s.mem := by
  simp [State.subFlags]

@[simp] theorem State.resultFlags_mem (s : State) (k : Core) (u1 : Word) (u2 : Word) (r : Word) : (s.resultFlags k u1 u2 r).mem = s.mem := by
  unfold State.resultFlags; try dsimp only
  repeat' first
    | intro _ _
    | rw [foldl_mem]
    | rw [foldr_mem]
    | (simp; done)
    | split
    | simp

@[simp] theorem State.enterExc_mem (s : State) (c : Core) (cause : Nat) (sub : Nat) (epc : Word) (eval : Word) : (s.enterExc c cause sub epc eval).mem = s.mem := by
  simp [State.enterExc]

@[simp] theorem State.eccSeen_mem (s : State) (c : Core) : (s.eccSeen c).mem = s.mem := by
  simp [State.eccSeen]

@[simp] theorem State.canGood_mem (s : State) (x : Nat) (sent : Bool) : (s.canGood x sent).mem = s.mem :=
  State.mem_of_rest (State.canGood_rest s x sent)

@[simp] theorem State.canDelay_mem (s : State) (x : Nat) (brs : Bool) : (s.canDelay x brs).mem = s.mem :=
  State.mem_of_rest (State.canDelay_rest s x brs)

@[simp] theorem State.jobGo_mem (s : State) (c : Core) (d : Desc) (t : Nat) : (s.jobGo c d t).mem = s.mem :=
  State.mem_of_rest (State.jobGo_rest s c d t)

@[simp] theorem State.setDma_mem (s : State) (ch : Nat) (l : List DmaJob) : (s.setDma ch l).mem = s.mem :=
  State.mem_of_rest (State.setDma_rest s ch l)

@[simp] theorem State.canCopy_mem (s : State) (x : Nat) (n : Nat) (a : Nat) (len : Nat) : (s.canCopy x n a len).mem = s.mem :=
  State.mem_of_rest (State.canCopy_rest s x n a len)

@[simp] theorem State.waittEnd_mem (s : State) (c : Core) (t : Nat) (d : Nat) : (s.waittEnd c t d).mem = s.mem := by
  simp [State.waittEnd]

@[simp] theorem State.readCr_mem (s : State) (c : Core) (n : Nat) : ((s.readCr c n).2).mem = s.mem := by
  unfold State.readCr; try dsimp only
  repeat' first
    | intro _ _
    | rw [foldl_mem]
    | rw [foldr_mem]
    | (simp; done)
    | split
    | simp

@[simp] theorem State.writeCr_mem (s : State) (c : Core) (n : Nat) (v : Word) : (s.writeCr c n v).mem = s.mem := by
  simp [State.writeCr]

@[simp] theorem State.showRate_mem (s : State) : (s.showRate).mem = s.mem :=
  State.mem_of_rest (State.showRate_rest s)

@[simp] theorem State.thmRate_mem (s : State) : (s.thmRate).mem = s.mem :=
  State.mem_of_rest (State.thmRate_rest s)

@[simp] theorem State.thmShow_mem (s : State) (rs : List (Option Int)) (hv : List (Option Int)) : (s.thmShow rs hv).mem = s.mem :=
  State.mem_of_rest (State.thmShow_rest s rs hv)

@[simp] theorem State.throttle_mem (s : State) : (s.throttle).mem = s.mem :=
  State.mem_of_rest (State.throttle_rest s)

@[simp] theorem State.withFetchWord_mem (s : State) (nbits : Nat) (w : Nat) : (s.withFetchWord nbits w).mem = s.mem := by
  unfold State.withFetchWord; (repeat' split) <;> simp

theorem wf_foldl_fst {α β : Type} (f : State × β → α → State × β) (l : List α) (x : State × β)
    (h : Memory.wf x.1.mem = true) (hf : ∀ y a, Memory.wf y.1.mem = true → Memory.wf (f y a).1.mem = true) :
    Memory.wf (l.foldl f x).1.mem = true := by
  induction l generalizing x with
  | nil => exact h
  | cons a l ih => exact ih _ (hf x a h)

theorem foldl_fst_mem {α β : Type} (f : State × β → α → State × β) (l : List α) (x : State × β)
    (h : ∀ y a, (f y a).1.mem = y.1.mem) : (l.foldl f x).1.mem = x.1.mem := by
  induction l generalizing x with
  | nil => rfl
  | cons a l ih => rw [List.foldl_cons, ih, h]

@[simp] theorem State.ggnStartLinked_mem (s : State) (lo hi : Int) (m : GgnMove) :
    (s.ggnStartLinked lo hi m).mem = s.mem := by
  unfold State.ggnStartLinked
  extract_lets ms c t plan best L tL dL mag low segs p0L
  have ht : t.mem = s.mem := foldl_fst_mem _ _ _ (fun y a => by simp)
  split
  · rw [foldl_mem _ _ _ (fun y a => by simp), ht]
  · rw [foldl_mem _ _ _ (fun y a => by simp), ht]

theorem wf_getD_ite {c : Prop} [Decidable c] {x y : Option State} {d : State}
    (hx : Memory.wf (x.getD d).mem = true) (hy : Memory.wf (y.getD d).mem = true) :
    Memory.wf ((if c then x else y).getD d).mem = true := by
  split
  · exact hx
  · exact hy

theorem wf_getD_some {x d : State} (h : Memory.wf x.mem = true) : Memory.wf ((some x).getD d).mem = true := h

theorem wf_foldl {α : Type} (f : State → α → State) (l : List α) (s : State)
    (h : Memory.wf s.mem = true) (hf : ∀ t x, Memory.wf t.mem = true → Memory.wf (f t x).mem = true) :
    Memory.wf (l.foldl f s).mem = true := by
  induction l generalizing s with
  | nil => exact h
  | cons a l ih => exact ih _ (hf s a h)

theorem wf_when (s : State) (c : Bool) (g : State → State) (h : Memory.wf s.mem = true)
    (hg : ∀ t, Memory.wf t.mem = true → Memory.wf (g t).mem = true) : Memory.wf (s.when c g).mem = true := by
  unfold State.when; split
  · exact hg s h
  · exact h

theorem State.release_wf (s : State) (c : Core) (t : Nat) (word : Nat) (val : Nat) (h : Memory.wf s.mem = true) :
    Memory.wf (s.release c t word val).mem = true := by
  unfold State.release; try dsimp only
  repeat' first
    | with_reducible assumption
    | intro _ _ _
    | intro _ _
    | with_reducible apply wf_foldl
    | with_reducible apply wf_when
    | with_reducible apply wf_setWord
    | with_reducible apply wf_store
    | split
    | simp only [State.setTag_mem, State.setCrstat_mem, State.setCr_mem, State.setCore_mem, State.recordRefusal_mem, State.draw_mem]
    | dsimp only

theorem State.complete_wf (s : State) (c : Core) (t : Nat) (info : Nat) (status : Nat) (val : Nat) (h : Memory.wf s.mem = true) :
    Memory.wf (s.complete c t info status val).mem = true := by
  unfold State.complete; try dsimp only
  repeat' first
    | with_reducible assumption
    | intro _ _ _
    | intro _ _
    | with_reducible apply wf_foldl
    | with_reducible apply wf_when
    | with_reducible apply State.release_wf
    | split
    | simp only [State.setTag_mem]
    | dsimp only

theorem State.releaseHeld_wf (s : State) (c : Core) (h : Memory.wf s.mem = true) :
    Memory.wf (s.releaseHeld c).mem = true := by
  unfold State.releaseHeld; try dsimp only
  repeat' first
    | with_reducible assumption
    | intro _ _ _
    | intro _ _
    | with_reducible apply wf_foldl
    | with_reducible apply wf_when
    | with_reducible apply State.release_wf
    | split
    | simp only [State.note_mem]
    | dsimp only

theorem State.canEnd_wf (s : State) (x : Nat) (n : Nat) (res : Nat) (t : Nat) (timeout : Bool) (h : Memory.wf s.mem = true) :
    Memory.wf (s.canEnd x n res t timeout).mem = true := by
  unfold State.canEnd; try dsimp only
  repeat' first
    | with_reducible assumption
    | intro _ _ _
    | intro _ _
    | with_reducible apply wf_foldl
    | with_reducible apply wf_when
    | with_reducible apply State.complete_wf
    | split
    | simp only [State.canPend_mem, State.set_mem, State.canBit_mem, State.mapCan_mem, State.canStamp_mem, State.raise_mem, State.put_mem]
    | dsimp only

theorem State.canRequest_wf (s : State) (x : Nat) (n : Nat) (own : Option (Core × Nat)) (h : Memory.wf s.mem = true) :
    Memory.wf (s.canRequest x n own).mem = true := by
  unfold State.canRequest; try dsimp only
  repeat' first
    | with_reducible assumption
    | intro _ _ _
    | intro _ _
    | with_reducible apply wf_foldl
    | with_reducible apply wf_when
    | with_reducible apply State.canEnd_wf
    | split
    | simp only [State.mapCan_mem, State.set_mem, State.canPend_mem]
    | dsimp only

theorem State.canAbort_wf (s : State) (x : Nat) (n : Nat) (res : Nat) (timeout : Bool) (h : Memory.wf s.mem = true) :
    Memory.wf (s.canAbort x n res timeout).mem = true := by
  unfold State.canAbort; try dsimp only
  repeat' first
    | with_reducible assumption
    | intro _ _ _
    | intro _ _
    | with_reducible apply wf_foldl
    | with_reducible apply wf_when
    | with_reducible apply State.canEnd_wf
    | split
    | simp only [State.canOnBus_mem]
    | dsimp only

theorem State.canAbortSome_wf (s : State) (x : Nat) (res : Nat) (p : State → Nat → Bool) (h : Memory.wf s.mem = true) :
    Memory.wf (s.canAbortSome x res p).mem = true := by
  unfold State.canAbortSome; try dsimp only
  repeat' first
    | with_reducible assumption
    | intro _ _ _
    | intro _ _
    | with_reducible apply wf_foldl
    | with_reducible apply wf_when
    | with_reducible apply State.canEnd_wf
    | split
    | simp only [State.canOnBus_mem]
    | dsimp only

theorem State.canAbortAll_wf (s : State) (x : Nat) (h : Memory.wf s.mem = true) :
    Memory.wf (s.canAbortAll x).mem = true := by
  unfold State.canAbortAll; try dsimp only
  repeat' first
    | with_reducible assumption
    | intro _ _ _
    | intro _ _
    | with_reducible apply wf_foldl
    | with_reducible apply wf_when
    | with_reducible apply State.canAbortSome_wf
    | split
    | dsimp only

theorem State.canGateClose_wf (s : State) (h : Memory.wf s.mem = true) :
    Memory.wf (s.canGateClose).mem = true := by
  unfold State.canGateClose; try dsimp only
  repeat' first
    | with_reducible assumption
    | intro _ _ _
    | intro _ _
    | with_reducible apply wf_foldl
    | with_reducible apply wf_when
    | with_reducible apply State.canAbortSome_wf
    | split
    | dsimp only

theorem State.canBusOff_wf (s : State) (x : Nat) (h : Memory.wf s.mem = true) :
    Memory.wf (s.canBusOff x).mem = true := by
  unfold State.canBusOff; try dsimp only
  repeat' first
    | with_reducible assumption
    | intro _ _ _
    | intro _ _
    | with_reducible apply wf_foldl
    | with_reducible apply wf_when
    | with_reducible apply State.canEnd_wf
    | split
    | simp only [State.set_mem, State.put_mem, State.mapCan_mem, State.raise_mem]
    | dsimp only

theorem State.dispatchCan_wf (s : State) (h : Memory.wf s.mem = true) :
    Memory.wf (s.dispatchCan).mem = true := by
  unfold State.dispatchCan; try dsimp only
  repeat' first
    | with_reducible assumption
    | intro _ _ _
    | intro _ _
    | with_reducible apply wf_foldl
    | with_reducible apply wf_when
    | with_reducible apply State.canEnd_wf
    | with_reducible apply State.canRequest_wf
    | split
    | simp only [State.put_mem, State.set_mem]
    | dsimp only

theorem State.gateShut_wf (s : State) (h : Memory.wf s.mem = true) :
    Memory.wf (s.gateShut).mem = true := by
  unfold State.gateShut; try dsimp only
  repeat' first
    | with_reducible assumption
    | intro _ _ _
    | intro _ _
    | with_reducible apply wf_foldl
    | with_reducible apply wf_when
    | with_reducible apply State.canGateClose_wf
    | split
    | simp only [State.put_mem, State.redrive_mem]
    | dsimp only

theorem State.dropClaim_wf (s : State) (reason : Nat) (h : Memory.wf s.mem = true) :
    Memory.wf (s.dropClaim reason).mem = true := by
  unfold State.dropClaim; try dsimp only
  repeat' first
    | with_reducible assumption
    | intro _ _ _
    | intro _ _
    | with_reducible apply wf_foldl
    | with_reducible apply wf_when
    | with_reducible apply State.gateShut_wf
    | split
    | simp only [State.put_mem, State.set_mem]
    | dsimp only

theorem State.curbCause_wf (s : State) (code : Nat) (a : Stop) (gc : Bool) (h : Memory.wf s.mem = true) :
    Memory.wf (s.curbCause code a gc).mem = true := by
  unfold State.curbCause; try dsimp only
  repeat' first
    | with_reducible assumption
    | intro _ _ _
    | intro _ _
    | with_reducible apply wf_foldl
    | with_reducible apply wf_when
    | with_reducible apply State.dropClaim_wf
    | split
    | simp only [State.recordCause_mem, State.beginStop_mem, State.standbyLocal_mem, State.enterHalt_mem, State.enterSrs_mem, State.enterSii_mem]
    | dsimp only

theorem State.gaitSrs_wf (s : State) (h : Memory.wf s.mem = true) :
    Memory.wf (s.gaitSrs).mem = true := by
  unfold State.gaitSrs; try dsimp only
  repeat' first
    | with_reducible assumption
    | intro _ _ _
    | intro _ _
    | with_reducible apply wf_foldl
    | with_reducible apply wf_when
    | with_reducible apply State.curbCause_wf
    | split
    | dsimp only

theorem State.forceLame_wf (s : State) (b : Nat) (srs : Bool) (h : Memory.wf s.mem = true) :
    Memory.wf (s.forceLame b srs).mem = true := by
  unfold State.forceLame; try dsimp only
  repeat' first
    | with_reducible assumption
    | intro _ _ _
    | intro _ _
    | with_reducible apply wf_foldl
    | with_reducible apply wf_when
    | with_reducible apply State.gaitSrs_wf
    | split
    | simp only [State.markLame_mem, State.standbyLocal_mem, State.enterLame_mem]
    | dsimp only

theorem State.raiseD_wf (s : State) (n : Nat) (h : Memory.wf s.mem = true) :
    Memory.wf (s.raiseD n).mem = true := by
  unfold State.raiseD; try dsimp only
  repeat' first
    | with_reducible assumption
    | intro _ _ _
    | intro _ _
    | with_reducible apply wf_foldl
    | with_reducible apply wf_when
    | with_reducible apply State.curbCause_wf
    | split
    | simp only [State.softEvt_mem]
    | dsimp only

theorem State.assertEvt_wf (s : State) (n : Nat) (h : Memory.wf s.mem = true) :
    Memory.wf (s.assertEvt n).mem = true := by
  unfold State.assertEvt; try dsimp only
  repeat' first
    | with_reducible assumption
    | intro _ _ _
    | intro _ _
    | with_reducible apply wf_foldl
    | with_reducible apply wf_when
    | with_reducible apply State.raiseD_wf
    | split
    | simp only [State.softEvt_mem]
    | dsimp only

theorem State.doorCheck_wf (s : State) (h : Memory.wf s.mem = true) :
    Memory.wf (s.doorCheck).mem = true := by
  unfold State.doorCheck; try dsimp only
  repeat' first
    | with_reducible assumption
    | intro _ _ _
    | intro _ _
    | with_reducible apply wf_foldl
    | with_reducible apply wf_when
    | with_reducible apply State.curbCause_wf
    | split
    | dsimp only

theorem State.coreFault_wf (s : State) (c : Core) (h : Memory.wf s.mem = true) :
    Memory.wf (s.coreFault c).mem = true := by
  unfold State.coreFault; try dsimp only
  repeat' first
    | with_reducible assumption
    | intro _ _ _
    | intro _ _
    | with_reducible apply wf_foldl
    | with_reducible apply wf_when
    | with_reducible apply State.curbCause_wf
    | split
    | dsimp only

theorem State.redriveDoor_wf (s : State) (h : Memory.wf s.mem = true) :
    Memory.wf (s.redriveDoor).mem = true := by
  unfold State.redriveDoor; try dsimp only
  repeat' first
    | with_reducible assumption
    | intro _ _ _
    | intro _ _
    | with_reducible apply wf_foldl
    | with_reducible apply wf_when
    | with_reducible apply State.doorCheck_wf
    | split
    | simp only [State.redrive_mem]
    | dsimp only

theorem State.curbReady_wf (s : State) (h : Memory.wf s.mem = true) :
    Memory.wf (s.curbReady).mem = true := by
  unfold State.curbReady; try dsimp only
  repeat' first
    | with_reducible assumption
    | intro _ _ _
    | intro _ _
    | with_reducible apply wf_foldl
    | with_reducible apply wf_when
    | with_reducible apply State.curbCause_wf
    | split
    | simp only [State.set_mem, State.redrive_mem]
    | dsimp only

theorem State.putHeader_wf (s : State) (l : List (Nat × Nat)) (h : Memory.wf s.mem = true) :
    Memory.wf (s.putHeader l).mem = true := by
  unfold State.putHeader; try dsimp only
  repeat' first
    | with_reducible assumption
    | intro _ _ _
    | intro _ _
    | with_reducible apply wf_foldl
    | with_reducible apply wf_when
    | with_reducible apply wf_setWord
    | split
    | simp only [State.note_mem]
    | dsimp only

theorem State.writePublishes_wf (s : State) (ps : List Publish) (h : Memory.wf s.mem = true) :
    Memory.wf (s.writePublishes ps).mem = true := by
  unfold State.writePublishes; try dsimp only
  repeat' first
    | with_reducible assumption
    | intro _ _ _
    | intro _ _
    | with_reducible apply wf_foldl
    | with_reducible apply wf_when
    | with_reducible apply wf_setWord
    | split
    | dsimp only

theorem State.setWords_wf (ws : List Nat) : ∀ (s : State) (a : Nat), Memory.wf s.mem = true →
    Memory.wf (s.setWords a ws).mem = true := by
  induction ws with
  | nil => intro s a h; exact h
  | cons w rest ih => intro s a h; exact ih _ _ (wf_setWord _ _ h)

theorem State.setPoints_wf (s : State) (a : Nat) (z : LaneEst) (h : Memory.wf s.mem = true) :
    Memory.wf (s.setPoints a z).mem = true := by
  unfold State.setPoints; try dsimp only
  repeat' first
    | with_reducible assumption
    | intro _ _ _
    | intro _ _
    | with_reducible apply wf_foldl
    | with_reducible apply wf_when
    | with_reducible apply State.setWords_wf
    | split
    | dsimp only

theorem State.refLane_wf (s : State) (sw : Nat) (p : Nat) (par : RefPar) (l : Nat) (cell : Nat) (h : Memory.wf s.mem = true) :
    Memory.wf ((s.refLane sw p par l cell).1).mem = true := by
  unfold State.refLane; try dsimp only
  repeat' first
    | with_reducible assumption
    | intro _ _ _
    | intro _ _
    | with_reducible apply wf_foldl
    | with_reducible apply wf_when
    | with_reducible apply State.setWords_wf
    | with_reducible apply State.setPoints_wf
    | split
    | simp only [State.mapEst_mem]
    | dsimp only

theorem State.refRun_wf (s : State) (sw : Nat) (p : Nat) (teams : Nat) (cells : List (Nat × Nat)) (h : Memory.wf s.mem = true) :
    Memory.wf (s.refRun sw p teams cells).mem = true := by
  unfold State.refRun; try dsimp only
  repeat' first
    | with_reducible assumption
    | intro _ _ _
    | intro _ _
    | with_reducible apply wf_foldl_fst
    | with_reducible apply wf_foldl
    | with_reducible apply wf_when
    | with_reducible apply State.refLane_wf
    | with_reducible apply State.writePublishes_wf
    | split
    | simp only [State.mapEst_mem]
    | dsimp only

theorem State.jobOutcome_wf (s : State) (j : Job) (status : Nat) (info : Nat) (h : Memory.wf s.mem = true) :
    Memory.wf (s.jobOutcome j status info).mem = true := by
  unfold State.jobOutcome; try dsimp only
  repeat' first
    | with_reducible assumption
    | intro _ _ _
    | intro _ _
    | with_reducible apply wf_foldl
    | with_reducible apply wf_when
    | with_reducible apply State.complete_wf
    | split
    | simp only [State.set_mem, State.raise_mem, State.autoEnded_mem, State.draw_mem]
    | dsimp only

theorem State.endJob_wf (s : State) (j : Job) (status : Nat) (info : Nat) (h : Memory.wf s.mem = true) :
    Memory.wf (s.endJob j status info).mem = true := by
  unfold State.endJob; try dsimp only
  repeat' first
    | with_reducible assumption
    | intro _ _ _
    | intro _ _
    | with_reducible apply wf_foldl
    | with_reducible apply wf_when
    | with_reducible apply State.writePublishes_wf
    | with_reducible apply State.refRun_wf
    | with_reducible apply State.jobOutcome_wf
    | split
    | simp only [State.dropJob_mem]
    | dsimp only

theorem State.abortJobs_wf (s : State) (p : Job → Bool) (h : Memory.wf s.mem = true) :
    Memory.wf (s.abortJobs p).mem = true := by
  unfold State.abortJobs; try dsimp only
  repeat' first
    | with_reducible assumption
    | intro _ _ _
    | intro _ _
    | with_reducible apply wf_foldl
    | with_reducible apply wf_when
    | with_reducible apply State.endJob_wf
    | split
    | simp only [State.note_mem]
    | dsimp only

theorem State.laneFault_wf (s : State) (j : Job) (team : Nat) (pc : Nat) (lane : Nat) (kind : Nat) (h : Memory.wf s.mem = true) :
    Memory.wf (s.laneFault j team pc lane kind).mem = true := by
  unfold State.laneFault; try dsimp only
  repeat' first
    | with_reducible assumption
    | intro _ _ _
    | intro _ _
    | with_reducible apply wf_foldl
    | with_reducible apply wf_when
    | with_reducible apply State.endJob_wf
    | with_reducible apply State.abortJobs_wf
    | split
    | simp only [State.setBitOf_mem, State.raise_mem, State.set_mem, State.stepLost_mem, State.schedule_mem]
    | dsimp only

theorem State.laneGo_wf (s : State) (o : LaneOp) (legal : Bool) (body : State → Job → TeamRun → State)
    (h : Memory.wf s.mem = true) (hb : ∀ t j r, Memory.wf t.mem = true → Memory.wf (body t j r).mem = true) :
    Memory.wf (s.laneGo o legal body).mem = true := by
  have he : Memory.wf (s.laneEcc o.ecc).mem = true := by rw [State.laneEcc_mem]; exact h
  unfold State.laneGo
  split
  · exact h
  · dsimp only
    split
    · exact State.laneFault_wf _ _ _ _ _ _ he
    · split
      · exact State.laneFault_wf _ _ _ _ _ _ he
      · split
        · exact State.laneFault_wf _ _ _ _ _ _ he
        · exact hb _ _ _ he

theorem State.judgeTeams_wf (s : State) (j : Job) (h : Memory.wf s.mem = true) :
    Memory.wf (s.judgeTeams j).mem = true := by
  unfold State.judgeTeams; try dsimp only
  repeat' first
    | with_reducible assumption
    | intro _ _ _
    | intro _ _
    | with_reducible apply wf_foldl
    | with_reducible apply wf_when
    | with_reducible apply State.endJob_wf
    | with_reducible apply State.laneFault_wf
    | split
    | simp only [State.schedule_mem, State.meet_mem]
    | dsimp only

theorem State.herdDown_wf (s : State) (h : Memory.wf s.mem = true) :
    Memory.wf (s.herdDown).mem = true := by
  unfold State.herdDown; try dsimp only
  repeat' first
    | with_reducible assumption
    | intro _ _ _
    | intro _ _
    | with_reducible apply wf_foldl
    | with_reducible apply wf_when
    | with_reducible apply State.abortJobs_wf
    | with_reducible apply wf_loseMem
    | split
    | simp only [State.mapHerd_mem, State.put_mem, State.set_mem, State.mapEst_mem, State.refDown_mem]
    | dsimp only

theorem State.hrdAbort_wf (s : State) (v : Nat) (h : Memory.wf s.mem = true) :
    Memory.wf (s.hrdAbort v).mem = true := by
  unfold State.hrdAbort; try dsimp only
  repeat' first
    | with_reducible assumption
    | intro _ _ _
    | intro _ _
    | with_reducible apply wf_foldl
    | with_reducible apply wf_when
    | with_reducible apply State.abortJobs_wf
    | split
    | simp only [State.schedule_mem]
    | dsimp only

theorem State.hrdTeamdis_wf (s : State) (v : Nat) (here : Bool) (h : Memory.wf s.mem = true) :
    Memory.wf (s.hrdTeamdis v here).mem = true := by
  unfold State.hrdTeamdis; try dsimp only
  repeat' first
    | with_reducible assumption
    | intro _ _ _
    | intro _ _
    | with_reducible apply wf_foldl
    | with_reducible apply wf_when
    | with_reducible apply State.abortJobs_wf
    | split
    | simp only [State.set_mem, State.stepLost_mem, State.schedule_mem]
    | dsimp only

theorem State.prtCommit_wf (s : State) (h : Memory.wf s.mem = true) :
    Memory.wf (s.prtCommit).mem = true := by
  unfold State.prtCommit; try dsimp only
  repeat' first
    | with_reducible assumption
    | intro _ _ _
    | intro _ _
    | with_reducible apply wf_foldl
    | with_reducible apply wf_when
    | with_reducible apply State.curbReady_wf
    | split
    | simp only [State.put_mem, State.set_mem, State.raise_mem, State.commitRecord_mem, State.mapPrt_mem, State.markLame_mem, State.castLevels_mem]
    | dsimp only

theorem State.copyMismatch_wf (s : State) (b : Nat) (h : Memory.wf s.mem = true) :
    Memory.wf (s.copyMismatch b).mem = true := by
  unfold State.copyMismatch; try dsimp only
  repeat' first
    | with_reducible assumption
    | intro _ _ _
    | intro _ _
    | with_reducible apply wf_foldl
    | with_reducible apply wf_when
    | with_reducible apply State.raiseD_wf
    | with_reducible apply State.forceLame_wf
    | with_reducible apply State.curbCause_wf
    | with_reducible apply State.gaitSrs_wf
    | split
    | simp only [State.mapPrt_mem, State.put_mem, State.redrive_mem]
    | dsimp only

theorem State.cmpTrip_wf (s : State) (was : List Nat) (hit : List Nat) (code : Nat) (a : Stop) (h : Memory.wf s.mem = true) :
    Memory.wf (s.cmpTrip was hit code a).mem = true := by
  unfold State.cmpTrip; try dsimp only
  repeat' first
    | with_reducible assumption
    | intro _ _ _
    | intro _ _
    | with_reducible apply wf_foldl
    | with_reducible apply wf_when
    | with_reducible apply State.curbCause_wf
    | split
    | simp only [State.put_mem, State.raise_mem]
    | dsimp only

theorem State.compareFrame_wf (s : State) (vs : List CmpVal) (ts : List (Nat × Option Int)) (h : Memory.wf s.mem = true) :
    Memory.wf (s.compareFrame vs ts).mem = true := by
  unfold State.compareFrame; try dsimp only
  repeat' first
    | with_reducible assumption
    | intro _ _ _
    | intro _ _
    | with_reducible apply wf_foldl
    | with_reducible apply wf_when
    | with_reducible apply State.raiseD_wf
    | with_reducible apply State.cmpTrip_wf
    | split
    | simp only [State.mapCrb_mem, State.mapPrt_mem, State.put_mem]
    | dsimp only

theorem State.prtSweep_wf (s : State) (iavg : Option Int) (h : Memory.wf s.mem = true) :
    Memory.wf (s.prtSweep iavg).mem = true := by
  unfold State.prtSweep; try dsimp only
  repeat' first
    | with_reducible assumption
    | intro _ _ _
    | intro _ _
    | with_reducible apply wf_foldl
    | with_reducible apply wf_when
    | with_reducible apply State.raiseD_wf
    | split
    | simp only [State.set_mem, State.put_mem, State.mapPrt_mem]
    | dsimp only

theorem State.i2t_wf (s : State) (i : Int) (h : Memory.wf s.mem = true) :
    Memory.wf (s.i2t i).mem = true := by
  unfold State.i2t; try dsimp only
  repeat' first
    | with_reducible assumption
    | intro _ _ _
    | intro _ _
    | with_reducible apply wf_foldl
    | with_reducible apply wf_when
    | with_reducible apply State.raiseD_wf
    | split
    | simp only [State.mapPrt_mem, State.set_mem, State.put_mem]
    | dsimp only

theorem State.stringCheck_wf (s : State) (vbat : Option Nat) (h : Memory.wf s.mem = true) :
    Memory.wf (s.stringCheck vbat).mem = true := by
  unfold State.stringCheck; try dsimp only
  repeat' first
    | with_reducible assumption
    | intro _ _ _
    | intro _ _
    | with_reducible apply wf_foldl
    | with_reducible apply wf_when
    | with_reducible apply State.raiseD_wf
    | split
    | simp only [State.put_mem, State.mapPrt_mem]
    | dsimp only

theorem State.isoCompare_wf (s : State) (k : Nat) (below : Bool) (above : Bool) (h : Memory.wf s.mem = true) :
    Memory.wf (s.isoCompare k below above).mem = true := by
  unfold State.isoCompare; try dsimp only
  repeat' first
    | with_reducible assumption
    | intro _ _ _
    | intro _ _
    | with_reducible apply wf_foldl
    | with_reducible apply wf_when
    | with_reducible apply State.raiseD_wf
    | split
    | simp only [State.put_mem]
    | dsimp only

theorem State.openStat_wf (s : State) (h : Memory.wf s.mem = true) :
    Memory.wf (s.openStat).mem = true := by
  unfold State.openStat; try dsimp only
  repeat' first
    | with_reducible assumption
    | intro _ _ _
    | intro _ _
    | with_reducible apply wf_foldl
    | with_reducible apply wf_when
    | with_reducible apply State.gaitSrs_wf
    | split
    | simp only [State.set_mem, State.put_mem, State.raise_mem]
    | dsimp only

theorem State.findOpen_wf (s : State) (u : Nat) (t : Nat) (h : Memory.wf s.mem = true) :
    Memory.wf (s.findOpen u t).mem = true := by
  unfold State.findOpen; try dsimp only
  repeat' first
    | with_reducible assumption
    | intro _ _ _
    | intro _ _
    | with_reducible apply wf_foldl
    | with_reducible apply wf_when
    | with_reducible apply State.openStat_wf
    | split
    | simp only [State.mapCel_mem, State.setBitOf_mem, State.flagOpen_mem, State.put_mem, State.raise_mem]
    | dsimp only

theorem State.owtResult_wf (s : State) (u : Nat) (mask : Nat) (dv : List Nat) (h : Memory.wf s.mem = true) :
    Memory.wf (s.owtResult u mask dv).mem = true := by
  unfold State.owtResult; try dsimp only
  repeat' first
    | with_reducible assumption
    | intro _ _ _
    | intro _ _
    | with_reducible apply wf_foldl
    | with_reducible apply wf_when
    | with_reducible apply State.findOpen_wf
    | split
    | simp only [State.mapCel_mem, State.findClosed_mem]
    | dsimp only

theorem State.senseClr_wf (s : State) (u : Nat) (h : Memory.wf s.mem = true) :
    Memory.wf (s.senseClr u).mem = true := by
  unfold State.senseClr; try dsimp only
  repeat' first
    | with_reducible assumption
    | intro _ _ _
    | intro _ _
    | with_reducible apply wf_foldl
    | with_reducible apply wf_when
    | with_reducible apply State.openStat_wf
    | split
    | simp only [State.mapCel_mem, State.set_mem, State.refreshFlags_mem]
    | dsimp only

theorem State.balEvaluate_wf (s : State) (h : Memory.wf s.mem = true) :
    Memory.wf (s.balEvaluate).mem = true := by
  unfold State.balEvaluate; try dsimp only
  repeat' first
    | with_reducible assumption
    | intro _ _ _
    | intro _ _
    | with_reducible apply wf_foldl
    | with_reducible apply wf_when
    | split
    | simp only [State.put_mem, State.mapCel_mem, State.limitUnit_mem, State.raise_mem, State.bleedFlush_mem, State.bleedStat_mem]
    | dsimp only

theorem State.writeSlot_wf (s : State) (l : Nat) (sw : Nat) (w0 : Nat) (w1 : Nat) (w3 : Nat) (h : Memory.wf s.mem = true) :
    Memory.wf (s.writeSlot l sw w0 w1 w3).mem = true := by
  unfold State.writeSlot; try dsimp only
  repeat' first
    | with_reducible assumption
    | intro _ _ _
    | intro _ _
    | with_reducible apply wf_foldl
    | with_reducible apply wf_when
    | with_reducible apply wf_setWord
    | split
    | dsimp only

theorem State.cellTake_wf (s : State) (u : Nat) (k : Nat) (stack : Nat) (sw : Nat) (vs : List Nat) (x : CellNow) (h : Memory.wf s.mem = true) :
    Memory.wf (s.cellTake u k stack sw vs x).mem = true := by
  unfold State.cellTake; try dsimp only
  repeat' first
    | with_reducible assumption
    | intro _ _ _
    | intro _ _
    | with_reducible apply wf_foldl
    | with_reducible apply wf_when
    | with_reducible apply State.writeSlot_wf
    | split
    | simp only [State.set_mem, State.put_mem]
    | dsimp only

theorem State.celFrame_wf (s : State) (u : Nat) (f : UnitFrame) (h : Memory.wf s.mem = true) :
    Memory.wf (s.celFrame u f).mem = true := by
  unfold State.celFrame; try dsimp only
  repeat' first
    | with_reducible assumption
    | intro _ _ _
    | intro _ _
    | with_reducible apply wf_foldl
    | with_reducible apply wf_when
    | with_reducible apply State.cellTake_wf
    | split
    | simp only [State.set_mem, State.put_mem, State.classify_mem]
    | dsimp only

theorem State.cellCarry_wf (s : State) (u : Nat) (sw : Nat) (e : Nat × Nat) (h : Memory.wf s.mem = true) :
    Memory.wf (s.cellCarry u sw e).mem = true := by
  unfold State.cellCarry; try dsimp only
  repeat' first
    | with_reducible assumption
    | intro _ _ _
    | intro _ _
    | with_reducible apply wf_foldl
    | with_reducible apply wf_when
    | with_reducible apply State.writeSlot_wf
    | split
    | simp only [State.put_mem, State.set_mem]
    | dsimp only

theorem State.celStale_wf (s : State) (u : Nat) (h : Memory.wf s.mem = true) :
    Memory.wf (s.celStale u).mem = true := by
  unfold State.celStale; try dsimp only
  repeat' first
    | with_reducible assumption
    | intro _ _ _
    | intro _ _
    | with_reducible apply wf_foldl
    | with_reducible apply wf_when
    | with_reducible apply State.forceLame_wf
    | with_reducible apply State.curbCause_wf
    | split
    | simp only [State.setBitOf_mem, State.put_mem, State.raise_mem]
    | dsimp only

theorem State.celPost_wf (s : State) (sw : Nat) (missing : List Nat) (h : Memory.wf s.mem = true) :
    Memory.wf (s.celPost sw missing).mem = true := by
  unfold State.celPost; try dsimp only
  repeat' first
    | with_reducible assumption
    | intro _ _ _
    | intro _ _
    | with_reducible apply wf_foldl
    | with_reducible apply wf_when
    | with_reducible apply State.cellCarry_wf
    | split
    | simp only [State.cellSummary_mem, State.set_mem, State.stringSum_mem]
    | dsimp only

theorem State.chxEnd_wf (s : State) (x : ChxSt) (res : Nat) (addr : Nat) (val : Nat) (h : Memory.wf s.mem = true) :
    Memory.wf (s.chxEnd x res addr val).mem = true := by
  unfold State.chxEnd; try dsimp only
  repeat' first
    | with_reducible assumption
    | intro _ _ _
    | intro _ _
    | with_reducible apply wf_foldl
    | with_reducible apply wf_when
    | with_reducible apply State.complete_wf
    | split
    | simp only [State.chxDrop_mem]
    | dsimp only

theorem State.chxEndAll_wf (s : State) (res : Nat) (p : ChxSt → Bool) (h : Memory.wf s.mem = true) :
    Memory.wf (s.chxEndAll res p).mem = true := by
  unfold State.chxEndAll; try dsimp only
  repeat' first
    | with_reducible assumption
    | intro _ _ _
    | intro _ _
    | with_reducible apply wf_foldl
    | with_reducible apply wf_when
    | with_reducible apply State.chxEnd_wf
    | split
    | dsimp only

theorem State.chxLeave_wf (s : State) (port : Nat) (c : Core) (h : Memory.wf s.mem = true) :
    Memory.wf (s.chxLeave port c).mem = true := by
  unfold State.chxLeave; try dsimp only
  repeat' first
    | with_reducible assumption
    | intro _ _ _
    | intro _ _
    | with_reducible apply wf_foldl
    | with_reducible apply wf_when
    | with_reducible apply State.chxEnd_wf
    | split
    | simp only [State.mapChn_mem, State.sendFrame_mem]
    | dsimp only

theorem State.granted_wf (s : State) (new : List ArbGrant) (h : Memory.wf s.mem = true) :
    Memory.wf (s.granted new).mem = true := by
  unfold State.granted; try dsimp only
  repeat' first
    | with_reducible assumption
    | intro _ _ _
    | intro _ _
    | with_reducible apply wf_foldl
    | with_reducible apply wf_when
    | with_reducible apply State.chxLeave_wf
    | split
    | simp only [State.dropTaken_mem, State.bleedFlush_mem]
    | dsimp only

theorem State.chainStore_wf (bs : List Nat) : ∀ (s : State) (a : Nat), Memory.wf s.mem = true →
    Memory.wf (s.chainStore a bs).2.mem = true := by
  induction bs with
  | nil => intro s a h; exact h
  | cons b rest ih =>
    intro s a h
    unfold State.chainStore
    split
    · simp only [State.recordRefusal_mem]; exact h
    · exact ih _ _ (wf_setByte _ _ h)

theorem State.chxRefused_wf (s : State) (x : ChxSt) (h : Memory.wf s.mem = true) :
    Memory.wf (s.chxRefused x).mem = true := by
  unfold State.chxRefused; try dsimp only
  repeat' first
    | with_reducible assumption
    | intro _ _ _
    | intro _ _
    | with_reducible apply wf_foldl
    | with_reducible apply wf_when
    | with_reducible apply State.complete_wf
    | split
    | simp only [State.chxDrop_mem, State.raise_mem]
    | dsimp only

theorem State.rerouted_wf (s : State) (was : Nat → Nat) (h : Memory.wf s.mem = true) :
    Memory.wf (s.rerouted was).mem = true := by
  unfold State.rerouted; try dsimp only
  repeat' first
    | with_reducible assumption
    | intro _ _ _
    | intro _ _
    | with_reducible apply wf_foldl
    | with_reducible apply wf_when
    | with_reducible apply State.chxEndAll_wf
    | split
    | simp only [State.mapChn_mem, State.tagStat_mem, State.owtReroute_mem, State.rereadAll_mem]
    | dsimp only

theorem State.breakAt_wf (s : State) (k : Nat) (h : Memory.wf s.mem = true) :
    Memory.wf (s.breakAt k).mem = true := by
  unfold State.breakAt; try dsimp only
  repeat' first
    | with_reducible assumption
    | intro _ _ _
    | intro _ _
    | with_reducible apply wf_foldl
    | with_reducible apply wf_when
    | with_reducible apply State.rerouted_wf
    | split
    | simp only [State.mapChn_mem, State.setRoutes_mem, State.ringStat_mem, State.put_mem, State.raise_mem]
    | dsimp only

theorem State.enumStart_wf (s : State) (h : Memory.wf s.mem = true) :
    Memory.wf (s.enumStart).mem = true := by
  unfold State.enumStart; try dsimp only
  repeat' first
    | with_reducible assumption
    | intro _ _ _
    | intro _ _
    | with_reducible apply wf_foldl
    | with_reducible apply wf_when
    | with_reducible apply State.chxEndAll_wf
    | split
    | simp only [State.mapChn_mem, State.put_mem, State.set_mem, State.sendFrame_mem, State.tagStat_mem]
    | dsimp only

theorem State.writeHeader_wf (s : State) (sw : Nat) (missing : Nat) (late : Bool) (h : Memory.wf s.mem = true) :
    Memory.wf (s.writeHeader sw missing late).mem = true := by
  unfold State.writeHeader; try dsimp only
  repeat' first
    | with_reducible assumption
    | intro _ _ _
    | intro _ _
    | with_reducible apply wf_foldl
    | with_reducible apply wf_when
    | with_reducible apply State.putHeader_wf
    | split
    | dsimp only

theorem State.postSweep_wf (s : State) (late : Bool) (h : Memory.wf s.mem = true) :
    Memory.wf (s.postSweep late).mem = true := by
  unfold State.postSweep; try dsimp only
  repeat' first
    | with_reducible assumption
    | intro _ _ _
    | intro _ _
    | with_reducible apply wf_foldl
    | with_reducible apply wf_when
    | with_reducible apply State.writeHeader_wf
    | with_reducible apply State.celPost_wf
    | with_reducible apply State.prtSweep_wf
    | split
    | simp only [State.mapHvm_mem, State.set_mem, State.note_mem, State.mapChn_mem, State.mapCel_mem, State.sweepFull_mem, State.autoPost_mem]
    | dsimp only

theorem State.tryPost_wf (s : State) (h : Memory.wf s.mem = true) :
    Memory.wf (s.tryPost).mem = true := by
  unfold State.tryPost; try dsimp only
  repeat' first
    | with_reducible assumption
    | intro _ _ _
    | intro _ _
    | with_reducible apply wf_foldl
    | with_reducible apply wf_when
    | with_reducible apply State.postSweep_wf
    | split
    | dsimp only

theorem State.countMiss_wf (s : State) (h : Memory.wf s.mem = true) :
    Memory.wf (s.countMiss).mem = true := by
  unfold State.countMiss; try dsimp only
  repeat' first
    | with_reducible assumption
    | intro _ _ _
    | intro _ _
    | with_reducible apply wf_foldl
    | with_reducible apply wf_when
    | with_reducible apply State.assertEvt_wf
    | with_reducible apply State.celStale_wf
    | split
    | simp only [State.set_mem, State.put_mem]
    | dsimp only

theorem State.takeBlock_wf (s : State) (u : Nat) (f : UnitFrame) (h : Memory.wf s.mem = true) :
    Memory.wf (s.takeBlock u f).mem = true := by
  unfold State.takeBlock; try dsimp only
  repeat' first
    | with_reducible assumption
    | intro _ _ _
    | intro _ _
    | with_reducible apply wf_foldl
    | with_reducible apply wf_when
    | with_reducible apply State.compareFrame_wf
    | with_reducible apply State.celFrame_wf
    | with_reducible apply State.tryPost_wf
    | split
    | simp only [State.set_mem, State.put_mem, State.staleAny_mem, State.dropTaken_mem, State.mapChn_mem]
    | dsimp only

theorem State.chainDown_wf (s : State) (h : Memory.wf s.mem = true) :
    Memory.wf (s.chainDown).mem = true := by
  unfold State.chainDown; try dsimp only
  repeat' first
    | with_reducible assumption
    | intro _ _ _
    | intro _ _
    | with_reducible apply wf_foldl
    | with_reducible apply wf_when
    | with_reducible apply State.chxEndAll_wf
    | split
    | simp only [State.mapChn_mem, State.put_mem, State.tagStat_mem, State.owtEnd_mem, State.mapCel_mem]
    | dsimp only

theorem State.srsSample_wf (s : State) (i : Option Int) (h : Memory.wf s.mem = true) :
    Memory.wf (s.srsSample i).mem = true := by
  unfold State.srsSample; try dsimp only
  repeat' first
    | with_reducible assumption
    | intro _ _ _
    | intro _ _
    | with_reducible apply wf_foldl
    | with_reducible apply wf_when
    | with_reducible apply State.curbCause_wf
    | split
    | simp only [State.mapCrb_mem, State.put_mem, State.raise_mem]
    | dsimp only

theorem State.protSample_wf (s : State) (p : ProtSample) (h : Memory.wf s.mem = true) :
    Memory.wf (s.protSample p).mem = true := by
  unfold State.protSample; try dsimp only
  repeat' first
    | with_reducible assumption
    | intro _ _ _
    | intro _ _
    | with_reducible apply wf_foldl
    | with_reducible apply wf_when
    | with_reducible apply State.i2t_wf
    | with_reducible apply State.srsSample_wf
    | split
    | simp only [State.set_mem, State.mapHvm_mem, State.mapCrb_mem]
    | dsimp only

theorem State.aliveTrip_wf (s : State) (h : Memory.wf s.mem = true) :
    Memory.wf (s.aliveTrip).mem = true := by
  unfold State.aliveTrip; try dsimp only
  repeat' first
    | with_reducible assumption
    | intro _ _ _
    | intro _ _
    | with_reducible apply wf_foldl
    | with_reducible apply wf_when
    | with_reducible apply State.curbCause_wf
    | split
    | simp only [State.setBitOf_mem]
    | dsimp only

theorem State.ggnStarts_wf (s : State) (arrived : List Nat) (lo : Int) (hi : Int) (h : Memory.wf s.mem = true) :
    Memory.wf (s.ggnStarts arrived lo hi).mem = true := by
  unfold State.ggnStarts; try dsimp only
  repeat' first
    | with_reducible assumption
    | intro _ _ _
    | intro _ _
    | with_reducible apply wf_foldl
    | with_reducible apply wf_when
    | split
    | simp only [State.ggnStart_mem, State.ggnStartLinked_mem]
    | dsimp only

theorem State.ggnTick_wf (s : State) (h : Memory.wf s.mem = true) :
    Memory.wf (s.ggnTick).mem = true := by
  unfold State.ggnTick; try dsimp only
  repeat' first
    | with_reducible assumption
    | intro _ _ _
    | intro _ _
    | with_reducible apply wf_foldl
    | with_reducible apply wf_when
    | with_reducible apply State.ggnStarts_wf
    | split
    | simp only [State.ggnIntegrate_mem, State.ggnArrive_mem, State.ggnSafe_mem, State.ggnBounds_mem, State.ggnCmds_mem, State.ggnLimits_mem, State.ggnTargets_mem, State.mapGgn_mem, State.ggnGroup_mem, State.ggnShow_mem]
    | dsimp only

theorem State.writeDoset_wf (s : State) (v : Nat) (h : Memory.wf s.mem = true) :
    Memory.wf (s.writeDoset v).mem = true := by
  unfold State.writeDoset; try dsimp only
  repeat' first
    | with_reducible assumption
    | intro _ _ _
    | intro _ _
    | with_reducible apply wf_foldl
    | with_reducible apply wf_when
    | with_reducible apply State.redriveDoor_wf
    | split
    | simp only [State.set_mem, State.put_mem]
    | dsimp only

theorem State.wdRearm_wf (s : State) (h : Memory.wf s.mem = true) :
    Memory.wf (s.wdRearm).mem = true := by
  unfold State.wdRearm; try dsimp only
  repeat' first
    | with_reducible assumption
    | intro _ _ _
    | intro _ _
    | with_reducible apply wf_foldl
    | with_reducible apply wf_when
    | with_reducible apply State.redriveDoor_wf
    | split
    | simp only [State.put_mem]
    | dsimp only

theorem State.fioCmd_wf (s : State) (v : Nat) (h : Memory.wf s.mem = true) :
    Memory.wf (s.fioCmd v).mem = true := by
  unfold State.fioCmd; try dsimp only
  repeat' first
    | with_reducible assumption
    | intro _ _ _
    | intro _ _
    | with_reducible apply wf_foldl
    | with_reducible apply wf_when
    | with_reducible apply State.wdRearm_wf
    | split
    | simp only [State.lsRelease_mem, State.cntClr_mem]
    | dsimp only

theorem State.txEnd_wf (s : State) (x : EthTx) (res : Nat) (t : Nat) (h : Memory.wf s.mem = true) :
    Memory.wf (s.txEnd x res t).mem = true := by
  unfold State.txEnd; try dsimp only
  repeat' first
    | with_reducible assumption
    | intro _ _ _
    | intro _ _
    | with_reducible apply wf_foldl
    | with_reducible apply wf_when
    | with_reducible apply State.complete_wf
    | split
    | simp only [State.txDrop_mem]
    | dsimp only

theorem State.txStop_wf (s : State) (h : Memory.wf s.mem = true) :
    Memory.wf (s.txStop).mem = true := by
  unfold State.txStop; try dsimp only
  repeat' first
    | with_reducible assumption
    | intro _ _ _
    | intro _ _
    | with_reducible apply wf_foldl
    | with_reducible apply wf_when
    | with_reducible apply State.complete_wf
    | split
    | simp only [State.txDrop_mem]
    | dsimp only

theorem State.ethWake_wf (s : State) (h : Memory.wf s.mem = true) :
    Memory.wf (s.ethWake).mem = true := by
  unfold State.ethWake; try dsimp only
  repeat' first
    | with_reducible assumption
    | intro _ _ _
    | intro _ _
    | with_reducible apply wf_foldl
    | with_reducible apply wf_when
    | with_reducible apply State.txStop_wf
    | split
    | dsimp only

theorem State.spoil_wf (s : State) (a : Nat) (n : Nat) (h : Memory.wf s.mem = true) :
    Memory.wf (s.spoil a n).mem = true := by
  unfold State.spoil; try dsimp only
  repeat' first
    | with_reducible assumption
    | intro _ _ _
    | intro _ _
    | with_reducible apply wf_foldl
    | with_reducible apply wf_when
    | with_reducible apply wf_setByte
    | split
    | simp only [State.draw_mem]
    | dsimp only

theorem State.commitResult_wf (s : State) (c : Commit) (res : Nat) (status : Nat) (val : Nat) (h : Memory.wf s.mem = true) :
    Memory.wf (s.commitResult c res status val).mem = true := by
  unfold State.commitResult; try dsimp only
  repeat' first
    | with_reducible assumption
    | intro _ _ _
    | intro _ _
    | with_reducible apply wf_foldl
    | with_reducible apply wf_when
    | with_reducible apply State.complete_wf
    | split
    | simp only [State.put_mem, State.raise_mem, State.mapCrb_mem]
    | dsimp only

theorem State.commitBegin_wf (s : State) (c : Commit) (h : Memory.wf s.mem = true) :
    Memory.wf (s.commitBegin c).mem = true := by
  unfold State.commitBegin; try dsimp only
  repeat' first
    | with_reducible assumption
    | intro _ _ _
    | intro _ _
    | with_reducible apply wf_foldl
    | with_reducible apply wf_when
    | with_reducible apply State.commitResult_wf
    | split
    | simp only [State.place_mem, State.mapNvm_mem]
    | dsimp only

theorem State.frameDone_wf (s : State) (settings : Bool) (c : Commit) (fmt : Nat) (h : Memory.wf s.mem = true) :
    Memory.wf ((s.frameDone settings c fmt).1).mem = true := by
  unfold State.frameDone; try dsimp only
  repeat' first
    | with_reducible assumption
    | intro _ _ _
    | intro _ _
    | with_reducible apply wf_foldl
    | with_reducible apply wf_when
    | with_reducible apply wf_setBytes
    | split
    | simp only [State.setBitOf_mem, State.clrBitOf_mem]
    | dsimp only

theorem State.bootWrite_wf (s : State) (body : List Nat) (h : Memory.wf s.mem = true) :
    Memory.wf (s.bootWrite body).mem = true := by
  unfold State.bootWrite; try dsimp only
  repeat' first
    | with_reducible assumption
    | intro _ _ _
    | intro _ _
    | with_reducible apply wf_foldl
    | with_reducible apply wf_when
    | with_reducible apply wf_setBytes
    | split
    | dsimp only

theorem State.commitWrite_wf (s : State) (c : Commit) (h : Memory.wf s.mem = true) :
    Memory.wf ((s.commitWrite c).1).mem = true := by
  unfold State.commitWrite; try dsimp only
  repeat' first
    | with_reducible assumption
    | intro _ _ _
    | intro _ _
    | with_reducible apply wf_foldl
    | with_reducible apply wf_when
    | with_reducible apply State.frameDone_wf
    | with_reducible apply wf_setBytes
    | with_reducible apply State.bootWrite_wf
    | split
    | simp only [State.mapNvm_mem, State.enqueue_mem]
    | dsimp only

theorem State.finishRunning_wf (s : State) (h : Memory.wf s.mem = true) :
    Memory.wf (s.finishRunning).mem = true := by
  unfold State.finishRunning; try dsimp only
  repeat' first
    | with_reducible assumption
    | intro _ _ _
    | intro _ _
    | with_reducible apply wf_foldl
    | with_reducible apply wf_when
    | with_reducible apply State.commitWrite_wf
    | split
    | simp only [State.mapNvm_mem]
    | dsimp only

theorem State.setMap_wf (s : State) (base : Nat) (i : Nat) (h : Memory.wf s.mem = true) :
    Memory.wf (s.setMap base i).mem = true := by
  unfold State.setMap; try dsimp only
  repeat' first
    | with_reducible assumption
    | intro _ _ _
    | intro _ _
    | with_reducible apply wf_foldl
    | with_reducible apply wf_when
    | with_reducible apply wf_setByte
    | split
    | dsimp only

theorem State.clearMaps_wf (s : State) (h : Memory.wf s.mem = true) :
    Memory.wf (s.clearMaps).mem = true := by
  unfold State.clearMaps; try dsimp only
  repeat' first
    | with_reducible assumption
    | intro _ _ _
    | intro _ _
    | with_reducible apply wf_foldl
    | with_reducible apply wf_when
    | with_reducible apply wf_loseMem
    | split
    | dsimp only

theorem State.updBegin_wf (s : State) (h : Memory.wf s.mem = true) :
    Memory.wf (s.updBegin).mem = true := by
  unfold State.updBegin; try dsimp only
  repeat' first
    | with_reducible assumption
    | intro _ _ _
    | intro _ _
    | with_reducible apply wf_foldl
    | with_reducible apply wf_when
    | with_reducible apply State.clearMaps_wf
    | split
    | simp only [State.updRes_mem, State.put_mem, State.set_mem, State.mapBoot_mem, State.commitBoot_mem, State.recvShow_mem, State.raise_mem, State.updEnd_mem]
    | dsimp only

theorem State.updProgram_wf (s : State) (b : Nat) (ok : Bool) (h : Memory.wf s.mem = true) :
    Memory.wf (s.updProgram b ok).mem = true := by
  unfold State.updProgram; try dsimp only
  repeat' first
    | with_reducible assumption
    | intro _ _ _
    | intro _ _
    | with_reducible apply wf_foldl
    | with_reducible apply wf_when
    | with_reducible apply wf_loseMem
    | with_reducible apply State.setMap_wf
    | with_reducible apply wf_setBytes
    | with_reducible apply State.spoil_wf
    | split
    | simp only [State.recvShow_mem, State.set_mem, State.raise_mem, State.updEnd_mem]
    | dsimp only

theorem State.tearProg_wf (s : State) (h : Memory.wf s.mem = true) :
    Memory.wf (s.tearProg).mem = true := by
  unfold State.tearProg
  split
  · rw [State.mapUpd_mem]
    split
    · exact wf_foldl _ _ _ h (fun u p hu => wf_setByte _ _ (by simpa using hu))
    · exact State.spoil_wf _ _ _ h
  · exact h

theorem State.updVerified_wf (s : State) (h : Memory.wf s.mem = true) :
    Memory.wf (s.updVerified).mem = true := by
  unfold State.updVerified; try dsimp only
  repeat' first
    | with_reducible assumption
    | intro _ _ _
    | intro _ _
    | with_reducible apply wf_foldl
    | with_reducible apply wf_when
    | with_reducible apply State.clearMaps_wf
    | split
    | simp only [State.set_mem, State.recvShow_mem, State.updEnd_mem, State.commitBoot_mem, State.raise_mem]
    | dsimp only

theorem State.updCmd_wf (s : State) (v : Nat) (h : Memory.wf s.mem = true) :
    Memory.wf (s.updCmd v).mem = true := by
  unfold State.updCmd; try dsimp only
  repeat' first
    | with_reducible assumption
    | intro _ _ _
    | intro _ _
    | with_reducible apply wf_foldl
    | with_reducible apply wf_when
    | with_reducible apply State.updBegin_wf
    | split
    | simp only [State.updProg_mem, State.updVerify_mem, State.updArm_mem, State.updConfirm_mem, State.updAbort_mem]
    | dsimp only

theorem State.updReceive_wf (s : State) (b : List Nat) (h : Memory.wf s.mem = true) :
    Memory.wf (s.updReceive b).mem = true := by
  unfold State.updReceive; try dsimp only
  repeat' first
    | with_reducible assumption
    | intro _ _ _
    | intro _ _
    | with_reducible apply wf_foldl
    | with_reducible apply wf_when
    | with_reducible apply wf_setBytes
    | split
    | simp only [State.bump_mem, State.put_mem, State.raise_mem, State.setBitOf_mem]
    | dsimp only

theorem State.snapItems_wf (s : State) (h : Memory.wf s.mem = true) :
    Memory.wf (s.snapItems).mem = true := by
  unfold State.snapItems; try dsimp only
  repeat' first
    | with_reducible assumption
    | intro _ _ _
    | intro _ _
    | with_reducible apply wf_foldl
    | with_reducible apply wf_when
    | with_reducible apply wf_setBytes
    | with_reducible apply wf_loseMem
    | split
    | dsimp only

theorem State.restoreItems_wf (s : State) (h : Memory.wf s.mem = true) :
    Memory.wf (s.restoreItems).mem = true := by
  unfold State.restoreItems; try dsimp only
  repeat' first
    | with_reducible assumption
    | intro _ _ _
    | intro _ _
    | with_reducible apply wf_foldl
    | with_reducible apply wf_when
    | with_reducible apply State.frameDone_wf
    | split
    | dsimp only

theorem State.bootStart_wf (s : State) (k : Nat) (trial : Bool) (h : Memory.wf s.mem = true) :
    Memory.wf (s.bootStart k trial).mem = true := by
  unfold State.bootStart; try dsimp only
  repeat' first
    | with_reducible assumption
    | intro _ _ _
    | intro _ _
    | with_reducible apply wf_foldl
    | with_reducible apply wf_when
    | with_reducible apply State.bootWrite_wf
    | split
    | simp only [State.set_mem, State.put_mem, State.mapSys_mem, State.recvShow_mem]
    | dsimp only

theorem State.bootFallback_wf (s : State) (h : Memory.wf s.mem = true) :
    Memory.wf (s.bootFallback).mem = true := by
  unfold State.bootFallback; try dsimp only
  repeat' first
    | with_reducible assumption
    | intro _ _ _
    | intro _ _
    | with_reducible apply wf_foldl
    | with_reducible apply wf_when
    | with_reducible apply State.restoreItems_wf
    | split
    | simp only [State.mapBoot_mem, State.put_mem, State.raise_mem]
    | dsimp only

theorem State.bootChoose_wf (s : State) (h : Memory.wf s.mem = true) :
    Memory.wf ((s.bootChoose).2).mem = true := by
  unfold State.bootChoose; try dsimp only
  repeat' first
    | with_reducible assumption
    | intro _ _ _
    | intro _ _
    | with_reducible apply wf_foldl
    | with_reducible apply wf_when
    | with_reducible apply State.snapItems_wf
    | with_reducible apply State.bootStart_wf
    | with_reducible apply State.bootFallback_wf
    | split
    | simp only [State.put_mem, State.bootRead_mem, State.set_mem, State.mapBoot_mem, State.raise_mem, State.hwRecord_mem]
    | dsimp only

theorem State.herdUp_wf (s : State) (h : Memory.wf s.mem = true) :
    Memory.wf (s.herdUp).mem = true := by
  unfold State.herdUp; try dsimp only
  repeat' first
    | with_reducible assumption
    | intro _ _ _
    | intro _ _
    | with_reducible apply wf_foldl
    | with_reducible apply wf_when
    | with_reducible apply wf_loseMem
    | split
    | simp only [State.herdClk_mem, State.put_mem, State.set_mem, State.mapThermal_mem]
    | dsimp only

theorem State.paddockDown_wf (s : State) (h : Memory.wf s.mem = true) :
    Memory.wf (s.paddockDown).mem = true := by
  unfold State.paddockDown; try dsimp only
  repeat' first
    | with_reducible assumption
    | intro _ _ _
    | intro _ _
    | with_reducible apply wf_foldl
    | with_reducible apply wf_when
    | with_reducible apply State.tearProg_wf
    | with_reducible apply State.herdDown_wf
    | with_reducible apply State.chainDown_wf
    | with_reducible apply State.canAbortAll_wf
    | with_reducible apply State.txStop_wf
    | with_reducible apply State.complete_wf
    | split
    | simp only [State.coreDown_mem, State.hvDown_mem, State.ggnDown_mem, State.mapCrb_mem, State.ptpStop_mem, State.mapSys_mem, State.put_mem, State.mapPower_mem, State.set_mem]
    | dsimp only

theorem State.loseRam_wf (s : State) (h : Memory.wf s.mem = true) :
    Memory.wf (s.loseRam).mem = true := by
  unfold State.loseRam; try dsimp only
  repeat' first
    | with_reducible assumption
    | intro _ _ _
    | intro _ _
    | with_reducible apply wf_foldl
    | with_reducible apply wf_when
    | with_reducible apply wf_loseMem
    | split
    | dsimp only

theorem State.wakeBlocks_wf (s : State) (h : Memory.wf s.mem = true) :
    Memory.wf (s.wakeBlocks).mem = true := by
  unfold State.wakeBlocks; try dsimp only
  repeat' first
    | with_reducible assumption
    | intro _ _ _
    | intro _ _
    | with_reducible apply wf_foldl
    | with_reducible apply wf_when
    | with_reducible apply State.openStat_wf
    | with_reducible apply State.herdUp_wf
    | split
    | simp only [State.canWake_mem, State.resetRange_mem, State.mapChn_mem, State.resetBut_mem, State.set_mem, State.mapCel_mem, State.put_mem, State.mapEst_mem, State.mapPrt_mem, State.mapNvm_mem, State.limBound_mem, State.mapUpd_mem, State.recvShow_mem, State.ggnWake_mem, State.mapPower_mem, State.loadFactory_mem, State.groomRecord_mem, State.queueCounters_mem, State.sweepBoundary_mem]
    | dsimp only

@[simp] theorem State.ptpReset_mem (s old : State) : (s.ptpReset old).mem = s.mem := by
  unfold State.ptpReset
  dsimp only
  split
  · rw [State.put_mem, State.set_mem, State.mapPtp_mem, State.setTime_mem]
  · rw [State.mapPtp_mem, State.setTime_mem]

theorem wakeFio_wf (s : State) (h : Memory.wf s.mem = true) :
    Memory.wf ((s.resetBut 0x600b0000 0x600c0000 fioConfig).mapFio fun x => FioSt.start x.eff s.nowUs).mem = true := by
  rw [State.mapFio_mem, State.resetBut_mem]; exact h

theorem wakeEth_wf (s : State) (h : Memory.wf s.mem = true) : Memory.wf (s.ethWake.ptpWake).mem = true := by
  rw [State.ptpWake_mem]; exact State.ethWake_wf _ h

theorem wakeTdm_wf (s : State) (h : Memory.wf s.mem = true) :
    Memory.wf ((s.resetBut 0x60100000 0x60110000 tdmRetained).mapTdm fun _ => TdmSt.reset).mem = true := by
  rw [State.mapTdm_mem, State.resetBut_mem]; exact h

theorem wakeHello_wf (s : State) (h : Memory.wf s.mem = true) :
    Memory.wf (s.when (s.flag TDM_CTRL.EN) fun s => s.set TDM_STAT.STATE Pair.hello).mem = true :=
  wf_when _ _ _ h (by intro t ht; rw [State.set_mem]; exact ht)

theorem wakeCores_wf (s : State) (h : Memory.wf s.mem = true) :
    Memory.wf ((((s.put PWR_GAIT.RIDERS true).loadFactory.coreUp .r0).coreUp .r1).redrive).mem = true := by
  rw [State.redrive_mem, State.coreUp_mem, State.coreUp_mem, State.loadFactory_mem, State.put_mem]; exact h

theorem State.wakeRiders_wf (s : State) (h : Memory.wf s.mem = true) : Memory.wf (s.wakeRiders).mem = true := by
  unfold State.wakeRiders
  exact wakeCores_wf _ (wakeHello_wf _ (wakeTdm_wf _ (wakeEth_wf _ (wakeFio_wf s h))))

theorem State.moduleReset_wf (s : State) (h : Memory.wf s.mem = true) :
    Memory.wf (s.moduleReset).mem = true := by
  unfold State.moduleReset; try dsimp only
  repeat' first
    | with_reducible assumption
    | intro _ _ _
    | intro _ _
    | with_reducible apply wf_foldl
    | with_reducible apply wf_when
    | with_reducible apply State.finishRunning_wf
    | with_reducible apply State.tearProg_wf
    | with_reducible apply State.loseRam_wf
    | split
    | simp only [State.mapNvm_mem, State.mapEth_mem, State.mapSys_mem, State.markLame_mem, State.setRun_mem, State.set_mem, State.ptpReset_mem]
    | dsimp only

theorem State.powerUp_wf (s : State) (cause : Fld) (h : Memory.wf s.mem = true) :
    Memory.wf (s.powerUp cause).mem = true := by
  unfold State.powerUp; try dsimp only
  repeat' first
    | with_reducible assumption
    | intro _ _ _
    | intro _ _
    | with_reducible apply wf_foldl
    | with_reducible apply wf_when
    | with_reducible apply State.bootChoose_wf
    | split
    | simp only [State.loadFactory_mem, State.put_mem, State.ethLatch_mem, State.setCore_mem, State.mapSys_mem, State.mapFio_mem, State.bootScan_mem, State.loadScfg_mem, State.enqueue_mem, State.raise_mem, State.hwRecord_mem]
    | dsimp only

theorem State.resetNow_wf (s : State) (cause : Fld) (h : Memory.wf s.mem = true) :
    Memory.wf (s.resetNow cause).mem = true := by
  unfold State.resetNow; try dsimp only
  repeat' first
    | with_reducible assumption
    | intro _ _ _
    | intro _ _
    | with_reducible apply wf_foldl
    | with_reducible apply wf_when
    | with_reducible apply State.moduleReset_wf
    | with_reducible apply State.powerUp_wf
    | split
    | dsimp only

theorem State.stableBoot_wf (s : State) (h : Memory.wf s.mem = true) :
    Memory.wf (s.stableBoot).mem = true := by
  unfold State.stableBoot; try dsimp only
  repeat' first
    | with_reducible assumption
    | intro _ _ _
    | intro _ _
    | with_reducible apply wf_foldl
    | with_reducible apply wf_when
    | with_reducible apply State.powerUp_wf
    | split
    | simp only [State.set_mem, State.put_mem, State.mapPower_mem]
    | dsimp only

theorem State.wakeStable_wf (s : State) (h : Memory.wf s.mem = true) :
    Memory.wf (s.wakeStable).mem = true := by
  unfold State.wakeStable; try dsimp only
  repeat' first
    | with_reducible assumption
    | intro _ _ _
    | intro _ _
    | with_reducible apply wf_foldl
    | with_reducible apply wf_when
    | with_reducible apply State.stableBoot_wf
    | split
    | dsimp only

theorem State.stableDown_wf (s : State) (h : Memory.wf s.mem = true) :
    Memory.wf (s.stableDown).mem = true := by
  unfold State.stableDown; try dsimp only
  repeat' first
    | with_reducible assumption
    | intro _ _ _
    | intro _ _
    | with_reducible apply wf_foldl
    | with_reducible apply wf_when
    | with_reducible apply State.tearProg_wf
    | with_reducible apply State.loseRam_wf
    | split
    | simp only [State.mapNvm_mem, State.mapSys_mem, State.set_mem, State.setRun_mem, State.put_mem]
    | dsimp only

theorem State.powerOff_wf (s : State) (h : Memory.wf s.mem = true) :
    Memory.wf (s.powerOff).mem = true := by
  unfold State.powerOff; try dsimp only
  repeat' first
    | with_reducible assumption
    | intro _ _ _
    | intro _ _
    | with_reducible apply wf_foldl
    | with_reducible apply wf_when
    | with_reducible apply State.finishRunning_wf
    | with_reducible apply State.tearProg_wf
    | with_reducible apply State.loseRam_wf
    | split
    | simp only [State.mapSys_mem, State.setRun_mem]
    | dsimp only

theorem State.transAct_wf (s : State) (n : Nat) (old : Nat) (h : Memory.wf s.mem = true) :
    Memory.wf (s.transAct n old).mem = true := by
  unfold State.transAct; try dsimp only
  repeat' first
    | with_reducible assumption
    | intro _ _ _
    | intro _ _
    | with_reducible apply wf_foldl
    | with_reducible apply wf_when
    | with_reducible apply State.paddockDown_wf
    | with_reducible apply State.stableDown_wf
    | with_reducible apply State.wakeBlocks_wf
    | with_reducible apply State.herdDown_wf
    | with_reducible apply State.herdUp_wf
    | with_reducible apply State.wakeRiders_wf
    | split
    | simp only [State.put_mem, State.estRetain_mem, State.redrive_mem, State.bleedOff_mem, State.herdClk_mem, State.estFreeze_mem, State.estThaw_mem]
    | dsimp only

theorem State.transEnd_wf (s : State) (h : Memory.wf s.mem = true) :
    Memory.wf (s.transEnd).mem = true := by
  unfold State.transEnd; try dsimp only
  repeat' first
    | with_reducible assumption
    | intro _ _ _
    | intro _ _
    | with_reducible apply wf_foldl
    | with_reducible apply wf_when
    | with_reducible apply State.transAct_wf
    | with_reducible apply State.wakeStable_wf
    | with_reducible apply State.wakeRiders_wf
    | split
    | simp only [State.put_mem, State.mapPower_mem, State.transNext_mem, State.set_mem, State.note_mem, State.raise_mem]
    | dsimp only

theorem State.takeBoundary_wf (s : State) (c : Core) (h : Memory.wf s.mem = true) :
    Memory.wf (s.takeBoundary c).mem = true := by
  unfold State.takeBoundary; try dsimp only
  repeat' first
    | with_reducible assumption
    | intro _ _ _
    | intro _ _
    | with_reducible apply wf_foldl
    | with_reducible apply wf_when
    | with_reducible apply State.releaseHeld_wf
    | split
    | simp only [State.releaseEvents_mem, State.countTick_mem, State.setDue_mem, State.leaveWfe_mem]
    | dsimp only

theorem State.showMirror_wf (s : State) (h : Memory.wf s.mem = true) :
    Memory.wf (s.showMirror).mem = true := by
  unfold State.showMirror; try dsimp only
  repeat' first
    | with_reducible assumption
    | intro _ _ _
    | intro _ _
    | with_reducible apply wf_foldl
    | with_reducible apply wf_when
    | with_reducible apply wf_loseMem
    | with_reducible apply wf_setBytes
    | split
    | dsimp only

theorem State.boundaryDone_wf (s : State) (h : Memory.wf s.mem = true) :
    Memory.wf (s.boundaryDone).mem = true := by
  unfold State.boundaryDone; try dsimp only
  repeat' first
    | with_reducible assumption
    | intro _ _ _
    | intro _ _
    | with_reducible apply wf_foldl
    | with_reducible apply wf_when
    | with_reducible apply State.showMirror_wf
    | split
    | simp only [State.takeDigest_mem, State.sendBundle_mem, State.mapTdm_mem, State.set_mem, State.stepLost_mem]
    | dsimp only

theorem State.riderBoundary_wf (s : State) (c : Core) (h : Memory.wf s.mem = true) :
    Memory.wf (s.riderBoundary c).mem = true := by
  unfold State.riderBoundary; try dsimp only
  repeat' first
    | with_reducible assumption
    | intro _ _ _
    | intro _ _
    | with_reducible apply wf_foldl
    | with_reducible apply wf_when
    | with_reducible apply State.takeBoundary_wf
    | with_reducible apply State.boundaryDone_wf
    | split
    | dsimp only

theorem State.dropRemote_wf (s : State) (c : Core) (h : Memory.wf s.mem = true) :
    Memory.wf (s.dropRemote c).mem = true := by
  unfold State.dropRemote; try dsimp only
  repeat' first
    | with_reducible assumption
    | intro _ _ _
    | intro _ _
    | with_reducible apply wf_foldl
    | with_reducible apply wf_when
    | with_reducible apply State.release_wf
    | split
    | dsimp only

theorem State.takeOver_wf (s : State) (h : Memory.wf s.mem = true) :
    Memory.wf (s.takeOver).mem = true := by
  unfold State.takeOver; try dsimp only
  repeat' first
    | with_reducible assumption
    | intro _ _ _
    | intro _ _
    | with_reducible apply wf_foldl
    | with_reducible apply wf_when
    | with_reducible apply State.dropRemote_wf
    | split
    | simp only [State.set_mem, State.assertClaim_mem, State.raise_mem, State.mapTdm_mem]
    | dsimp only

theorem State.tdmOff_wf (s : State) (h : Memory.wf s.mem = true) :
    Memory.wf (s.tdmOff).mem = true := by
  unfold State.tdmOff; try dsimp only
  repeat' first
    | with_reducible assumption
    | intro _ _ _
    | intro _ _
    | with_reducible apply wf_foldl
    | with_reducible apply wf_when
    | with_reducible apply State.releaseHeld_wf
    | split
    | simp only [State.put_mem, State.set_mem, State.reapJobs_mem, State.releaseEvents_mem, State.mapTdm_mem, State.redrive_mem]
    | dsimp only

theorem State.tdmTick_wf (s : State) (h : Memory.wf s.mem = true) :
    Memory.wf (s.tdmTick).mem = true := by
  unfold State.tdmTick; try dsimp only
  repeat' first
    | with_reducible assumption
    | intro _ _ _
    | intro _ _
    | with_reducible apply wf_foldl
    | with_reducible apply wf_when
    | with_reducible apply State.dropClaim_wf
    | with_reducible apply State.release_wf
    | with_reducible apply State.tdmOff_wf
    | with_reducible apply State.takeOver_wf
    | split
    | simp only [State.mapTdm_mem, State.sendBundle_mem, State.put_mem, State.raise_mem, State.assertClaim_mem, State.feed_mem]
    | dsimp only

theorem State.replayFrame_wf (s : State) (b : BundleFrame) (h : Memory.wf s.mem = true) :
    Memory.wf (s.replayFrame b).mem = true := by
  unfold State.replayFrame; try dsimp only
  repeat' first
    | with_reducible assumption
    | intro _ _ _
    | intro _ _
    | with_reducible apply wf_foldl
    | with_reducible apply wf_when
    | with_reducible apply State.celFrame_wf
    | split
    | simp only [State.set_mem, State.mapChn_mem, State.sweepBoundary_mem, State.celSync_mem]
    | dsimp only

theorem State.replayPost_wf (s : State) (sw : Nat) (h : Memory.wf s.mem = true) :
    Memory.wf (s.replayPost sw).mem = true := by
  unfold State.replayPost; try dsimp only
  repeat' first
    | with_reducible assumption
    | intro _ _ _
    | intro _ _
    | with_reducible apply wf_foldl
    | with_reducible apply wf_when
    | with_reducible apply State.celPost_wf
    | split
    | simp only [State.set_mem, State.mapChn_mem, State.mapCel_mem]
    | dsimp only

theorem State.replayStop_wf (s : State) (i : Nat) (status : Nat) (h : Memory.wf s.mem = true) :
    Memory.wf (s.replayStop i status).mem = true := by
  unfold State.replayStop; try dsimp only
  repeat' first
    | with_reducible assumption
    | intro _ _ _
    | intro _ _
    | with_reducible apply wf_foldl
    | with_reducible apply wf_when
    | with_reducible apply State.endJob_wf
    | split
    | simp only [State.bump_mem, State.raise_mem]
    | dsimp only

theorem State.replayGait_wf (s : State) (n : Nat) (target : Nat) (cause : Nat) (h : Memory.wf s.mem = true) :
    Memory.wf (s.replayGait n target cause).mem = true := by
  unfold State.replayGait; try dsimp only
  repeat' first
    | with_reducible assumption
    | intro _ _ _
    | intro _ _
    | with_reducible apply wf_foldl
    | with_reducible apply wf_when
    | with_reducible apply State.transEnd_wf
    | split
    | simp only [State.beginTrans_mem]
    | dsimp only

theorem State.replayTag_wf (s : State) (e : Core × Nat × Nat × Nat) (h : Memory.wf s.mem = true) :
    Memory.wf (s.replayTag e).mem = true := by
  unfold State.replayTag; try dsimp only
  repeat' first
    | with_reducible assumption
    | intro _ _ _
    | intro _ _
    | with_reducible apply wf_foldl
    | with_reducible apply wf_when
    | with_reducible apply State.release_wf
    | split
    | simp only [State.stepLost_mem, State.mapTdm_mem]
    | dsimp only

theorem State.replay_wf (s : State) (b : Bundle) (h : Memory.wf s.mem = true) :
    Memory.wf (s.replay b).mem = true := by
  unfold State.replay; try dsimp only
  repeat' first
    | with_reducible assumption
    | intro _ _ _
    | intro _ _
    | with_reducible apply wf_foldl
    | with_reducible apply wf_when
    | with_reducible apply wf_setWord
    | with_reducible apply State.replayFrame_wf
    | with_reducible apply State.replayPost_wf
    | with_reducible apply State.replayStop_wf
    | with_reducible apply State.replayGait_wf
    | with_reducible apply State.replayTag_wf
    | with_reducible apply State.showMirror_wf
    | with_reducible apply State.ggnTick_wf
    | split
    | simp only [State.mapTdm_mem, State.sweepBoundary_mem, State.autoPost_mem, State.replayDispatch_mem, State.set_mem, State.dropHeldEvents_mem, State.reapJobs_mem, State.latchEvt_mem, State.replayRider_mem, State.takeDigest_mem, State.returnDigest_mem, State.put_mem]
    | dsimp only

theorem State.crbCmd_wf (s : State) (v : Nat) (h : Memory.wf s.mem = true) :
    Memory.wf (s.crbCmd v).mem = true := by
  unfold State.crbCmd; try dsimp only
  repeat' first
    | with_reducible assumption
    | intro _ _ _
    | intro _ _
    | with_reducible apply wf_foldl
    | with_reducible apply wf_when
    | with_reducible apply State.curbCause_wf
    | split
    | dsimp only

theorem State.coreTick_wf (s : State) (c : Core) (h : Memory.wf s.mem = true) :
    Memory.wf (s.coreTick c).mem = true := by
  unfold State.coreTick; try dsimp only
  repeat' first
    | with_reducible assumption
    | intro _ _ _
    | intro _ _
    | with_reducible apply wf_foldl
    | with_reducible apply wf_when
    | with_reducible apply State.releaseHeld_wf
    | split
    | simp only [State.releaseEvents_mem, State.countTick_mem, State.leaveWfe_mem]
    | dsimp only

theorem State.ridersDue_wf (s : State) (h : Memory.wf s.mem = true) :
    Memory.wf (s.ridersDue).mem = true := by
  unfold State.ridersDue; try dsimp only
  repeat' first
    | with_reducible assumption
    | intro _ _ _
    | intro _ _
    | with_reducible apply wf_foldl
    | with_reducible apply wf_when
    | with_reducible apply State.riderBoundary_wf
    | split
    | simp only [State.setDue_mem]
    | dsimp only

theorem State.controlTick_wf (s : State) (rb : Nat) (h : Memory.wf s.mem = true) :
    Memory.wf (s.controlTick rb).mem = true := by
  unfold State.controlTick; try dsimp only
  repeat' first
    | with_reducible assumption
    | intro _ _ _
    | intro _ _
    | with_reducible apply wf_foldl
    | with_reducible apply wf_when
    | with_reducible apply State.tdmTick_wf
    | with_reducible apply State.coreTick_wf
    | with_reducible apply State.ridersDue_wf
    | with_reducible apply State.ggnTick_wf
    | split
    | simp only [State.ptpTick_mem, State.ethLatch_mem, State.originTick_mem, State.sweepBoundary_mem, State.waitTick_mem, State.fioTick_mem, State.crbTick_mem, State.mapSys_mem, State.reapJobs_mem, State.schedule_mem]
    | dsimp only

theorem State.takeOverNow_wf (s : State) (h : Memory.wf s.mem = true) :
    Memory.wf (s.takeOverNow).mem = true := by
  unfold State.takeOverNow; try dsimp only
  repeat' first
    | with_reducible assumption
    | intro _ _ _
    | intro _ _
    | with_reducible apply wf_foldl
    | with_reducible apply wf_when
    | with_reducible apply State.takeOver_wf
    | with_reducible apply State.ridersDue_wf
    | split
    | dsimp only

theorem State.toRc_wf (s : State) (h : Memory.wf s.mem = true) :
    Memory.wf (s.toRc).mem = true := by
  unfold State.toRc; try dsimp only
  repeat' first
    | with_reducible assumption
    | intro _ _ _
    | intro _ _
    | with_reducible apply wf_foldl
    | with_reducible apply wf_when
    | with_reducible apply State.forceLame_wf
    | split
    | simp only [State.put_mem, State.markLame_mem]
    | dsimp only

theorem State.softReset_wf (s : State) (v : Nat) (h : Memory.wf s.mem = true) :
    Memory.wf (s.softReset v).mem = true := by
  unfold State.softReset; try dsimp only
  repeat' first
    | with_reducible assumption
    | intro _ _ _
    | intro _ _
    | with_reducible apply wf_foldl
    | with_reducible apply wf_when
    | with_reducible apply State.resetNow_wf
    | split
    | simp only [State.put_mem]
    | dsimp only

theorem State.ridersStart_wf (s : State) (h : Memory.wf s.mem = true) :
    Memory.wf (s.ridersStart).mem = true := by
  unfold State.ridersStart; try dsimp only
  repeat' first
    | with_reducible assumption
    | intro _ _ _
    | intro _ _
    | with_reducible apply wf_foldl
    | with_reducible apply wf_when
    | with_reducible apply State.herdUp_wf
    | split
    | simp only [State.coreStart_mem, State.mapSys_mem, State.loadFactory_mem, State.raise_mem, State.put_mem, State.mapPower_mem, State.enterLame_mem]
    | dsimp only

theorem State.chnAbort_wf (s : State) (h : Memory.wf s.mem = true) :
    Memory.wf (s.chnAbort).mem = true := by
  unfold State.chnAbort; try dsimp only
  repeat' first
    | with_reducible assumption
    | intro _ _ _
    | intro _ _
    | with_reducible apply wf_foldl
    | with_reducible apply wf_when
    | with_reducible apply State.chxEndAll_wf
    | split
    | dsimp only

theorem State.chnCmd_wf (s : State) (v : Nat) (h : Memory.wf s.mem = true) :
    Memory.wf (s.chnCmd v).mem = true := by
  unfold State.chnCmd; try dsimp only
  repeat' first
    | with_reducible assumption
    | intro _ _ _
    | intro _ _
    | with_reducible apply wf_foldl
    | with_reducible apply wf_when
    | with_reducible apply State.chnAbort_wf
    | with_reducible apply State.enumStart_wf
    | split
    | simp only [State.chnWake_mem, State.chnRemeasure_mem]
    | dsimp only

theorem State.checkStart_wf (s : State) (h : Memory.wf s.mem = true) :
    Memory.wf (s.checkStart).mem = true := by
  unfold State.checkStart; try dsimp only
  repeat' first
    | with_reducible assumption
    | intro _ _ _
    | intro _ _
    | with_reducible apply wf_foldl
    | with_reducible apply wf_when
    | with_reducible apply State.enumStart_wf
    | split
    | simp only [State.put_mem, State.set_mem, State.mapCel_mem, State.mapChn_mem, State.sendFrame_mem]
    | dsimp only

theorem State.celCmd_wf (s : State) (v : Nat) (h : Memory.wf s.mem = true) :
    Memory.wf (s.celCmd v).mem = true := by
  unfold State.celCmd; try dsimp only
  repeat' first
    | with_reducible assumption
    | intro _ _ _
    | intro _ _
    | with_reducible apply wf_foldl
    | with_reducible apply wf_when
    | with_reducible apply State.senseClr_wf
    | with_reducible apply State.checkStart_wf
    | split
    | simp only [State.mapApply_mem, State.owtNow_mem, State.balStop_mem]
    | dsimp only

theorem State.storeAct1_wf (s : State) (c : Core) (a w : Nat) (here : Bool) (d : State) (h : Memory.wf s.mem = true)
    (hd : Memory.wf d.mem = true) : Memory.wf ((s.storeAct1 c a w here).getD d).mem = true := by
  unfold State.storeAct1; try dsimp only
  repeat' first
    | with_reducible assumption
    | intro _ _ _
    | intro _ _
    | with_reducible apply wf_foldl
    | with_reducible apply wf_when
    | with_reducible apply State.softReset_wf
    | with_reducible apply State.hrdAbort_wf
    | with_reducible apply State.hrdTeamdis_wf
    | with_reducible apply wf_getD_ite
    | split
    | simp only [Option.getD_some, Option.getD_none, State.storeFields_mem, State.put_mem, State.snapFail_mem, State.raise_mem, State.sysWdKey_mem, State.gaitRequest_mem, State.doneEvt_mem, State.setEvt_mem, State.lockLimit_mem, State.set_mem, State.hrdCtrl_mem, State.hvmCtrl_mem, State.hvmCmd_mem, State.hvmHallgain_mem, State.mapHvm_mem]
    | dsimp only

theorem State.ggnStore_wf (s : State) (a w : Nat) (d : State) (h : Memory.wf s.mem = true)
    (hd : Memory.wf d.mem = true) : Memory.wf ((s.ggnStore a w).getD d).mem = true := by
  unfold State.ggnStore; dsimp only
  repeat' first
    | with_reducible assumption
    | intro _ _
    | with_reducible apply wf_when
    | with_reducible apply wf_getD_ite
    | simp only [Option.getD_some, Option.getD_none, State.storeFields_mem, State.put_mem, State.mapAxis_mem]

theorem State.storeAct2_wf (s : State) (a w : Nat) (d : State) (h : Memory.wf s.mem = true)
    (hd : Memory.wf d.mem = true) : Memory.wf ((s.storeAct2 a w).getD d).mem = true := by
  unfold State.storeAct2
  refine wf_getD_ite (by rw [Option.getD_some, State.chnCtrl_mem]; exact h) ?_
  refine wf_getD_ite (by rw [Option.getD_some]; exact State.chnCmd_wf _ _ h) ?_
  refine wf_getD_ite ?_ ?_
  · exact wf_when (s.storeFields a w) _ _ (by rw [State.storeFields_mem]; exact h)
      (by intro t ht; rw [State.bleedOff_mem]; exact ht)
  refine wf_getD_ite (by rw [Option.getD_some]; exact State.celCmd_wf _ _ h) ?_
  refine wf_getD_ite (by rw [Option.getD_some, State.estCtrl_mem]; exact h) ?_
  refine wf_getD_ite (wf_when _ _ _ h (by intro t ht; rw [State.paramApply_mem]; exact ht)) ?_
  refine wf_getD_ite (by rw [Option.getD_some, State.lsnapReq_mem]; exact h) ?_
  refine wf_getD_ite (by rw [Option.getD_some, State.put_mem, State.storeFields_mem]; exact h) ?_
  refine wf_getD_ite (by rw [Option.getD_some, State.crbHb_mem]; exact h) ?_
  refine wf_getD_ite (by rw [Option.getD_some]; exact State.crbCmd_wf _ _ h) ?_
  refine wf_getD_ite (by rw [Option.getD_some, State.crbReset_mem]; exact h) ?_
  refine wf_getD_ite (by rw [Option.getD_some, State.crbSeal_mem]; exact h) ?_
  refine wf_getD_ite (by rw [Option.getD_some, State.mapGgn_mem]; exact h) ?_
  refine wf_getD_ite (State.ggnStore_wf s a w d h hd) ?_
  refine wf_getD_ite (by rw [Option.getD_some]; exact State.writeDoset_wf _ _ h) ?_
  refine wf_getD_ite (by rw [Option.getD_some]; exact State.fioCmd_wf _ _ h) ?_
  refine wf_getD_ite (by rw [Option.getD_some, State.fioWdKey_mem]; exact h) ?_
  refine wf_getD_ite ?_ hd
  exact wf_when (s.storeFields a w) _ _ (by rw [State.storeFields_mem]; exact h)
    (by intro t ht; rw [State.put_mem]; exact ht)

theorem State.storeCan_wf (s : State) (x a w : Nat) (d : State) (h : Memory.wf s.mem = true)
    (hd : Memory.wf d.mem = true) : Memory.wf ((s.storeCan x a w).getD d).mem = true := by
  unfold State.storeCan
  extract_lets off init base n r guarded old
  have hf : Memory.wf (s.storeFields a w).mem = true := by rw [State.storeFields_mem]; exact h
  refine wf_getD_ite (wf_getD_some ?_) ?_
  · rw [State.canModeWritten_mem]; exact hf
  refine wf_getD_ite (wf_getD_some ?_) ?_
  · refine wf_when _ _ _ (wf_when _ _ _ h fun _ ht => State.canAbortAll_wf _ _ ht) ?_
    intro t ht; rw [State.canRecover_mem]; exact ht
  refine wf_getD_ite (wf_getD_ite hd (wf_getD_ite hd (wf_getD_some ?_))) ?_
  · rw [State.put_mem]; exact h
  refine wf_getD_ite (wf_getD_some ?_) ?_
  · exact wf_foldl _ _ _ h fun _ _ ht => State.canRequest_wf _ _ _ _ ht
  refine wf_getD_ite (wf_getD_some (State.canAbortSome_wf _ _ _ _ h)) ?_
  refine wf_getD_ite (wf_getD_some ?_) ?_
  · exact wf_foldl _ _ _ h (by intro t b ht; rw [State.canNew_mem]; exact ht)
  refine wf_getD_ite ?_ hd
  refine wf_getD_ite (wf_getD_some ?_) ?_
  · rw [State.put_mem]; exact h
  refine wf_getD_ite (wf_getD_some ?_) ?_
  · rw [State.canCfgWritten_mem]; exact hf
  refine wf_getD_ite (wf_getD_some ?_) (wf_getD_ite (wf_getD_some h) hd)
  exact wf_when _ _ _ hf (by intro t ht; rw [State.canNew_mem]; exact ht)

theorem State.storeAct3_wf (s : State) (a w : Nat) (d : State) (h : Memory.wf s.mem = true)
    (hd : Memory.wf d.mem = true) : Memory.wf ((s.storeAct3 a w).getD d).mem = true := by
  unfold State.storeAct3; try dsimp only
  repeat' first
    | with_reducible assumption
    | intro _ _ _
    | intro _ _
    | with_reducible apply wf_foldl
    | with_reducible apply wf_when
    | with_reducible apply State.updCmd_wf
    | with_reducible apply wf_getD_ite
    | split
    | simp only [Option.getD_some, Option.getD_none, State.storeFields_mem, State.ptpCtrl_mem, State.timeAccept_mem, State.tsqPop_mem, State.tsqClr_mem, State.put_mem, State.mapPtp_mem, State.cmpArm_mem, State.tdmCtrl_mem, State.tdmCmd_mem, State.claimRef_mem, State.nvmCmd_mem, State.logCmd_mem, State.limBound_mem]
    | dsimp only

theorem State.regStore_wf (s : State) (c : Core) (a w : Nat) (here : Bool) (h : Memory.wf s.mem = true) :
    Memory.wf (s.regStore c a w here).mem = true := by
  have hd : Memory.wf (s.storeFields a w).mem = true := by rw [State.storeFields_mem]; exact h
  unfold State.regStore; dsimp only
  repeat' split
  · exact h
  · exact State.storeAct1_wf _ _ _ _ _ _ h hd
  · exact State.storeAct2_wf _ _ _ _ h hd
  · exact State.storeCan_wf _ _ _ _ _ h hd
  · exact State.storeCan_wf _ _ _ _ _ h hd
  · exact State.storeAct3_wf _ _ _ _ h hd

@[simp] theorem State.regLoad_mem (s : State) (c : Core) (a : Nat) : (s.regLoad c a).2.mem = s.mem := by
  unfold State.regLoad
  split
  · rfl
  · unfold State.loadAct
    repeat' split
    all_goals simp

theorem State.regLoad_wf (s : State) (c : Core) (a : Nat) (h : Memory.wf s.mem = true) :
    Memory.wf (s.regLoad c a).2.mem = true := by rw [State.regLoad_mem]; exact h

theorem State.doubleFault_wf (s : State) (c : Core) (ecause : Word) (eval : Word) (h : Memory.wf s.mem = true) :
    Memory.wf (s.doubleFault c ecause eval).mem = true := by
  unfold State.doubleFault; try dsimp only
  repeat' first
    | with_reducible assumption
    | intro _ _ _
    | intro _ _
    | with_reducible apply wf_foldl
    | with_reducible apply wf_when
    | with_reducible apply State.coreFault_wf
    | split
    | simp only [State.setRun_mem, State.mapNvm_mem]
    | dsimp only

theorem State.takeExc_wf (s : State) (c : Core) (cause : Nat) (sub : Nat) (epc : Word) (eval : Word) (h : Memory.wf s.mem = true) :
    Memory.wf (s.takeExc c cause sub epc eval).mem = true := by
  unfold State.takeExc; try dsimp only
  repeat' first
    | with_reducible assumption
    | intro _ _ _
    | intro _ _
    | with_reducible apply wf_foldl
    | with_reducible apply wf_when
    | with_reducible apply State.doubleFault_wf
    | split
    | simp only [State.enterExc_mem]
    | dsimp only

theorem State.faultHere_wf (s : State) (c : Core) (cause : Nat) (sub : Nat) (eval : Word) (h : Memory.wf s.mem = true) :
    Memory.wf (s.faultHere c cause sub eval).mem = true := by
  unfold State.faultHere; try dsimp only
  repeat' first
    | with_reducible assumption
    | intro _ _ _
    | intro _ _
    | with_reducible apply wf_foldl
    | with_reducible apply wf_when
    | with_reducible apply State.takeExc_wf
    | split
    | dsimp only

theorem State.loadAt_wf (s : State) (c : Core) (n : Nat) (a : Nat) (h : Memory.wf s.mem = true) :
    Memory.wf ((s.loadAt c n a).2).mem = true := by
  unfold State.loadAt; try dsimp only
  repeat' first
    | with_reducible assumption
    | intro _ _ _
    | intro _ _
    | with_reducible apply wf_foldl
    | with_reducible apply wf_when
    | with_reducible apply State.regLoad_wf
    | split
    | dsimp only

theorem State.dataFault_wf {s : State} {c : Core} {k : Access} {perm n : Nat} {a : Word} {t : State}
    (e : s.dataFault c k perm n a = some t) (h : Memory.wf s.mem = true) : Memory.wf t.mem = true := by
  unfold State.dataFault at e; dsimp only at e
  repeat' split at e
  · cases e; exact State.faultHere_wf _ _ _ _ _ h
  · cases e; exact State.faultHere_wf _ _ _ _ _ h
  · cases e; exact State.faultHere_wf _ _ _ _ _ (by rw [State.recordRefusal_mem]; exact h)
  · cases e

theorem State.storeAt_wf (s : State) (c : Core) (n : Nat) (a : Nat) (w : Nat) (h : Memory.wf s.mem = true) :
    Memory.wf (s.storeAt c n a w).mem = true := by
  unfold State.storeAt; try dsimp only
  repeat' first
    | with_reducible assumption
    | intro _ _ _
    | intro _ _
    | with_reducible apply wf_foldl
    | with_reducible apply wf_when
    | with_reducible apply State.regStore_wf
    | with_reducible apply wf_store
    | split
    | simp only [State.noteWrite_mem]
    | dsimp only

theorem State.fpSignal_wf (s : State) (c : Core) (conds : Nat) (done : State → State) (h : Memory.wf s.mem = true)
    (h0 : ∀ t : State, Memory.wf t.mem = true → Memory.wf (done t).mem = true) :
    Memory.wf (s.fpSignal c conds done).mem = true := by
  unfold State.fpSignal; try dsimp only
  repeat' first
    | with_reducible assumption
    | intro _ _ _
    | intro _ _
    | with_reducible apply wf_foldl
    | with_reducible apply wf_when
    | with_reducible apply h0
    | with_reducible apply State.faultHere_wf
    | split
    | simp only [State.setCr_mem]
    | dsimp only

theorem State.opRefused_wf (s : State) (c : Core) (t : Nat) (m : Master) (k : Access) (r : Nat × Nat) (val : Nat) (h : Memory.wf s.mem = true) :
    Memory.wf (s.opRefused c t m k r val).mem = true := by
  unfold State.opRefused; try dsimp only
  repeat' first
    | with_reducible assumption
    | intro _ _ _
    | intro _ _
    | with_reducible apply wf_foldl
    | with_reducible apply wf_when
    | with_reducible apply State.complete_wf
    | split
    | simp only [State.recordRefusal_mem, State.raise_mem]
    | dsimp only

theorem State.chxGo_wf (s : State) (c : Core) (d : Desc) (t : Nat) (h : Memory.wf s.mem = true) :
    Memory.wf (s.chxGo c d t).mem = true := by
  unfold State.chxGo; try dsimp only
  repeat' first
    | with_reducible assumption
    | intro _ _ _
    | intro _ _
    | with_reducible apply wf_foldl
    | with_reducible apply wf_when
    | with_reducible apply State.opRefused_wf
    | with_reducible apply State.complete_wf
    | split
    | simp only [State.quiet_mem, State.mapChn_mem, State.mapPad_mem, State.tagStat_mem]
    | dsimp only

theorem State.nvcGo_wf (s : State) (c : Core) (d : Desc) (t : Nat) (h : Memory.wf s.mem = true) :
    Memory.wf (s.nvcGo c d t).mem = true := by
  unfold State.nvcGo; try dsimp only
  repeat' first
    | with_reducible assumption
    | intro _ _ _
    | intro _ _
    | with_reducible apply wf_foldl
    | with_reducible apply wf_when
    | with_reducible apply State.complete_wf
    | split
    | simp only [State.passLimit_mem, State.enqueue_mem]
    | dsimp only

theorem State.dmaLoad_wf (s : State) (a : Nat) (h : Memory.wf s.mem = true) :
    Memory.wf ((s.dmaLoad a).2).mem = true := by
  unfold State.dmaLoad; try dsimp only
  repeat' first
    | with_reducible assumption
    | intro _ _ _
    | intro _ _
    | with_reducible apply wf_foldl
    | with_reducible apply wf_when
    | with_reducible apply State.regLoad_wf
    | split
    | dsimp only

theorem State.dmaStore_wf (s : State) (j : DmaJob) (a : Nat) (w : Nat) (h : Memory.wf s.mem = true) :
    Memory.wf ((s.dmaStore j a w).2).mem = true := by
  unfold State.dmaStore; try dsimp only
  repeat' first
    | with_reducible assumption
    | intro _ _ _
    | intro _ _
    | with_reducible apply wf_foldl
    | with_reducible apply wf_when
    | with_reducible apply State.regStore_wf
    | with_reducible apply wf_setWord
    | split
    | dsimp only

theorem State.dmaRun_wf (s : State) (j : DmaJob) (n : Nat) (done : Nat) (h : Memory.wf s.mem = true) :
    Memory.wf ((s.dmaRun j n done).2.2).mem = true := by
  induction n generalizing s done with
  | zero => exact h
  | succ k ih =>
    unfold State.dmaRun; dsimp only
    repeat' first
      | with_reducible assumption
      | with_reducible apply ih
      | intro _ _ _
      | intro _ _
      | with_reducible apply wf_foldl
      | with_reducible apply wf_when
      | with_reducible apply wf_store
      | with_reducible apply State.dmaLoad_wf
      | with_reducible apply State.dmaStore_wf
      | split
      | simp only [State.recordRefusal_mem, State.raise_mem]
      | dsimp only

theorem State.canTxf_wf (s : State) (c : Core) (d : Desc) (t : Nat) (h : Memory.wf s.mem = true) :
    Memory.wf (s.canTxf c d t).mem = true := by
  unfold State.canTxf; try dsimp only
  repeat' first
    | with_reducible assumption
    | intro _ _ _
    | intro _ _
    | with_reducible apply wf_foldl
    | with_reducible apply wf_when
    | with_reducible apply State.opRefused_wf
    | with_reducible apply State.canRequest_wf
    | split
    | simp only [State.canCopy_mem]
    | dsimp only

theorem State.ethTxf_wf (s : State) (c : Core) (d : Desc) (t : Nat) (h : Memory.wf s.mem = true) :
    Memory.wf (s.ethTxf c d t).mem = true := by
  unfold State.ethTxf; try dsimp only
  repeat' first
    | with_reducible assumption
    | intro _ _ _
    | intro _ _
    | with_reducible apply wf_foldl
    | with_reducible apply wf_when
    | with_reducible apply State.opRefused_wf
    | split
    | simp only [State.ethQuiet_mem, State.txAdd_mem]
    | dsimp only

theorem State.regWrite_wf (s : State) (c : Core) (a w : Nat) (here : Bool) (h : Memory.wf s.mem = true) :
    Memory.wf (s.regWrite c a w here).mem = true := by
  unfold State.regWrite; dsimp only
  split
  · exact h
  · split
    · rename_i e; exact State.dataFault_wf e h
    · split
      · exact State.faultHere_wf _ _ _ _ _ h
      · exact State.regStore_wf _ _ _ _ _ (by rw [State.noteWrite_mem]; exact h)

theorem State.regRead_wf (s : State) (c : Core) (a : Nat) (h : Memory.wf s.mem = true) :
    Memory.wf (s.regRead c a).mem = true := by
  unfold State.regRead; dsimp only
  split
  · exact h
  · split
    · rename_i e; exact State.dataFault_wf e h
    · dsimp only; rw [State.regLoad_mem]; exact h

theorem State.dieUnknown_wf (s : State) (h : Memory.wf s.mem = true) :
    Memory.wf (s.dieUnknown).mem = true := by
  unfold State.dieUnknown; try dsimp only
  repeat' first
    | with_reducible assumption
    | intro _ _ _
    | intro _ _
    | with_reducible apply wf_foldl
    | with_reducible apply wf_when
    | with_reducible apply State.forceLame_wf
    | split
    | simp only [State.put_mem, State.mapThermal_mem, State.raise_mem, State.herdClk_mem]
    | dsimp only

theorem State.dieShutdown_wf (s : State) (h : Memory.wf s.mem = true) :
    Memory.wf (s.dieShutdown).mem = true := by
  unfold State.dieShutdown; try dsimp only
  repeat' first
    | with_reducible assumption
    | intro _ _ _
    | intro _ _
    | with_reducible apply wf_foldl
    | with_reducible apply wf_when
    | with_reducible apply State.curbCause_wf
    | with_reducible apply State.dropClaim_wf
    | with_reducible apply State.moduleReset_wf
    | split
    | simp only [State.setBitOf_mem, State.put_mem, State.mapSys_mem, State.mapThermal_mem]
    | dsimp only

theorem State.thmWindow_wf (s : State) (rs : List (Option Int)) (hv : List (Option Int)) (h : Memory.wf s.mem = true) :
    Memory.wf (s.thmWindow rs hv).mem = true := by
  unfold State.thmWindow; try dsimp only
  repeat' first
    | with_reducible assumption
    | intro _ _ _
    | intro _ _
    | with_reducible apply wf_foldl
    | with_reducible apply wf_when
    | with_reducible apply State.dieUnknown_wf
    | with_reducible apply State.dieShutdown_wf
    | split
    | simp only [State.mapThermal_mem, State.thmShow_mem, State.throttle_mem, State.thmRate_mem]
    | dsimp only

theorem State.dieCooling_wf (s : State) (rs : List (Option Int)) (h : Memory.wf s.mem = true) :
    Memory.wf (s.dieCooling rs).mem = true := by
  unfold State.dieCooling; try dsimp only
  repeat' first
    | with_reducible assumption
    | intro _ _ _
    | intro _ _
    | with_reducible apply wf_foldl
    | with_reducible apply wf_when
    | with_reducible apply State.powerUp_wf
    | split
    | simp only [State.mapThermal_mem]
    | dsimp only

end Sys2Proof.Machine
end

