-- ==== Sys2Proof/Laws/Regs.lean ====
section
/-! SUPPORT. A register field read after a write of it, and after a write of another field. -/

namespace Sys2Proof.Machine
open Sys2Proof Sys2Proof.Reg

/-- A field reads as the low bits of what was written to it. -/
@[simp] theorem get_set_same (s : State) (f : Fld) (v : Nat) : (s.set f v).get f = v % 2 ^ f.width := by
  unfold State.get State.set
  dsimp only
  split
  · exact mapGet_mapPut_same _ _ _ _
  · exact mapGet_mapSet_same _ _ _ _

/-- A write of one field leaves a field of another key alone. -/
theorem get_set_ne (s : State) {f q : Fld} (v : Nat) (h : q.key ≠ f.key) : (s.set f v).get q = s.get q := by
  unfold State.get State.set
  dsimp only
  split
  · exact mapGet_mapPut_ne _ _ _ h
  · exact mapGet_mapSet_ne _ _ _ _ h

/-- A one-bit field reads as the truth value put there. -/
@[simp] theorem flag_put_same (s : State) (f : Fld) (b : Bool) (h : f.width ≠ 0) : (s.put f b).flag f = b := by
  have : 1 < 2 ^ f.width := Nat.one_lt_two_pow h
  unfold State.flag State.put
  rw [get_set_same]
  cases b <;> simp [b2n, Nat.mod_eq_of_lt this]

theorem get_put_ne (s : State) {f q : Fld} (b : Bool) (h : q.key ≠ f.key) : (s.put f b).get q = s.get q :=
  get_set_ne s _ h

theorem flag_set_ne (s : State) {f q : Fld} (v : Nat) (h : q.key ≠ f.key) : (s.set f v).flag q = s.flag q := by
  unfold State.flag; rw [get_set_ne s v h]

theorem flag_put_ne (s : State) {f q : Fld} (b : Bool) (h : q.key ≠ f.key) : (s.put f b).flag q = s.flag q :=
  flag_set_ne s _ h

end Sys2Proof.Machine
end

