-- ==== Sys2Proof/Tests/Slice0.lean ====
section
/-! SUPPORT. Checks of the model on small states: operands that no command can carry, states that meet the
hypotheses of the statements, single commands with the results that the spec gives. -/

set_option Elab.async false

namespace Sys2Proof.Machine.Tests
open Sys2Proof Sys2Proof.Machine Sys2Proof.Reg

/-! ### Helpers -/

/-- `s` with fields set. -/
def withFields (s : State) (l : List (Fld × Nat)) : State := l.foldl (fun s p => s.set p.1 p.2) s

/-- The state after reset with fields set. -/
def st (l : List (Fld × Nat)) : State := withFields State.reset l

/-- `s` with a field listed as it is: for fields whose reset value is a constant of Config. -/
def withRaw (s : State) (f : Fld) (v : Nat) : State := { s with regs := s.regs ++ [(f.key, v)] }

/-- A fetch without an ECC error. -/
def fe (c : Core) : Fetch := ⟨c, .ok, none⟩

/-- A property of the next state of a command. -/
def after (i : Instr) (s : State) (p : State → Bool) : Bool :=
  match exec i s with
  | .next t => p t
  | _ => false

def noBundle : Bundle :=
  { k := 0, handback := false, planned := false, rel := [], events := [], autoJobs := [], dispatched := []
    stopped := [], gait := [], reqResult := 0, reqReason := 0, mem := [], frames := [], posts := [], view := []
    string := [], mirror := [], declared := [] }

def okBundle : Bundle := { noBundle with mirror := List.replicate 8 0 }

def emptySnapshot : Snapshot :=
  { mem := [], regs := [], evt := State.reset.evt, pad := State.reset.pad, cel := CelSt.reset, est := EstSt.reset
    ggn := GgnSt.reset, tags0 := [], tags1 := [], gait := 2, k := 0 }

/-! ### Operands that no command can carry -/

theorem test_wf_refuses_arbiter_posts :
    Instr.wellFormed (.requestPromotion ⟨6, 0, 1, 0⟩) = false ∧ Instr.wellFormed (.requestPromotion ⟨0, 2, 1, 0⟩) = false ∧
      Instr.wellFormed (.requestPromotion ⟨0, 0, 0, 0⟩) = false ∧ Instr.wellFormed (.requestPromotion ⟨0, 0, 7, 0⟩) = false ∧
      Instr.wellFormed (.requestPromotion ⟨1, 0, 5, 32⟩) = false ∧
      Instr.wellFormed (.arbitrationCycle true [⟨0, 0, 1, 0⟩, ⟨6, 0, 1, 0⟩] []) = false ∧
      Instr.wellFormed (.arbitrationCycle true [] [⟨0, 0, 1, 1⟩]) = false ∧
      Instr.wellFormed (.requestPromotion ⟨1, 31, 5, 31⟩) = true := by decide

theorem test_wf_refuses_frames :
    let w (t a c : Nat) (p : List Nat) : Wire := wireOf ⟨t, a, c, p⟩
    Instr.wellFormed (.linknote true (w 256 1 6 [])) = false ∧ Instr.wellFormed (.linknote true (w 0 256 6 [])) = false ∧
      Instr.wellFormed (.linknote true (w 0 1 256 [])) = false ∧ Instr.wellFormed (.linknote true (w 0 1 6 [256])) = false ∧
      Instr.wellFormed (.pingResponse true (w 0 1 6 (List.replicate 65 0)) 0) = false ∧
      Instr.wellFormed (.readBlockResponse true ⟨256, 1, 6, []⟩ (w 0 1 6 []).tail) = false ∧
      Instr.wellFormed (.readBlockResponse true ⟨0, 1, 6, []⟩ ⟨256, 0, false⟩) = false ∧
      Instr.wellFormed (.chxResponse true ⟨0, 1, 6, []⟩ ⟨0, 65536, false⟩) = false ∧
      Instr.wellFormed (.owtResponseReceived ⟨true, w 256 1 6 []⟩) = false ∧
      Instr.wellFormed (.linknote true (w 255 255 255 (List.replicate 64 255))) = true := by decide +kernel

theorem test_wf_refuses_samples :
    Instr.wellFormed (.unitLatch 0 ⟨0, 0, 0, 0, [0]⟩) = false ∧ Instr.wellFormed (.unitLatch 33 ⟨0, 0, 0, 0, [0]⟩) = false ∧
      Instr.wellFormed (.unitLatch 1 ⟨256, 0, 0, 0, [0]⟩) = false ∧ Instr.wellFormed (.unitLatch 1 ⟨0, 2 ^ 32, 0, 0, [0]⟩) = false ∧
      Instr.wellFormed (.unitLatch 1 ⟨0, 0, 65536, 0, [0]⟩) = false ∧ Instr.wellFormed (.unitLatch 1 ⟨0, 0, 0, 65536, [0]⟩) = false ∧
      Instr.wellFormed (.unitLatch 1 ⟨0, 0, 0, 0, [65536]⟩) = false ∧
      Instr.wellFormed (.unitLatch 1 ⟨0, 0, 0, 0, List.replicate 17 0⟩) = false ∧
      Instr.wellFormed (.unitLatch 32 ⟨255, 0, 0, 0, List.replicate 16 65535⟩) = true := by decide

theorem test_wf_refuses_unit_addresses :
    ([.exciteChip 0, .unitLossOfLock 0 ⟨true, true, false⟩, .unitAutoSleep 33, .bleedTimeout 0, .bleedQuietStart 0, .bleedQuietEnd 33,
      .unitFaultEmit 0 true true, .unitFaultRepeat 0, .faultForward 33 true, .cellsWriteResponse 0 true, .owtDeadline 0,
      .bleedRefresh 33, .bleedSetAck 0 0, .unitCopyReadback 0 0 0, .bleedRestoreTimeout 0, .cellsWriteTimeout 0,
      .owtUnitResponse 0 0 []] : List Instr).all (fun i => !i.wellFormed) = true := by decide

theorem test_wf_refuses_hops :
    let h : Hop := ⟨33, true, 0, 1, .good, true⟩
    ([.enumClear h, .enumAssignUp h 0 0, .enumAssignDown h 0 0, .enumVerifyDown h 0 0, .ping h, .sync h.side h.head 0 0,
      .readBlock h 0, .readReg h 0 0, .writeReg h.side h.head 0 [0], .bleedSet h.side h.head 0, .owt h, .excite h.side h.head 0 0 0 0, .faultAck h.side h.head,
      .sleep h, .wakeTone ⟨h.side, true⟩, .ping ⟨1, true, 0, 64, .good, true⟩, .ping ⟨1, true, 256, 1, .good, true⟩] : List Instr).map (fun i => i.wellFormed) =
      List.replicate 17 false := by decide

theorem test_wf_refuses_lists :
    let h : Hop := ⟨0, true, 0, 63, .good, true⟩
    Instr.wellFormed (.writeReg h.side h.head 0 []) = false ∧ Instr.wellFormed (.writeReg h.side h.head 0 (List.replicate 16 0)) = false ∧
      Instr.wellFormed (.owtUnitResponse 1 0 (List.replicate 18 0)) = false ∧ Instr.wellFormed (.ping h) = true ∧
      Instr.wellFormed (.digestReturn 0 0 [] [] []) = false := by decide

theorem test_wf_refuses_long_lists :
    Instr.wellFormed (.plantTelegramReceived 0 0 (List.replicate 1473 0)) = false ∧
      Instr.wellFormed (.digestReturn 0 0 (List.replicate 8 0) (List.replicate 513 0) []) = false ∧
      Instr.wellFormed (.bundleReceived 0 false { okBundle with declared := List.replicate 513 0 }) = false := by
  decide +kernel

theorem test_wf_refuses_brackets :
    let q (n h d : Nat) : Instr := .sweepHeaderHvmWrite ⟨n, h, d, none, none, none, none, none, none, none, none, none, none⟩
    (q 0 0 0).wellFormed = false ∧ (q 2 0 1).wellFormed = false ∧ (q 0 2 1).wellFormed = false ∧
      (q 1 1 1).wellFormed = true := by decide

theorem test_wf_refuses_can_frames :
    let i (f : CanFrame) : Bool := (Instr.canFrameReceived 0 f 0).wellFormed
    i ⟨false, true, false, false, false, 0, List.replicate 9 0⟩ = false ∧
      i ⟨false, false, false, false, false, 0, List.replicate 12 0⟩ = false ∧
      i ⟨false, false, true, false, false, 0, []⟩ = false ∧ i ⟨false, true, false, false, true, 0, []⟩ = false ∧
      i ⟨false, false, false, false, false, 1, []⟩ = false ∧ i ⟨true, true, true, true, false, 1, List.replicate 64 0⟩ = true := by
  decide

theorem test_wf_refuses_bundles_and_snapshots :
    Instr.wellFormed (.bundleReceived 0 false noBundle) = false ∧
      Instr.wellFormed (.bundleReceived 0 false okBundle) = true ∧
      Instr.wellFormed (.snapshotFinal { emptySnapshot with mem := [(1, 0), (1, 0)] }) = false ∧
      Instr.wellFormed (.snapshotFinal { emptySnapshot with cel := { CelSt.reset with map := [(512, 1)] } }) = false ∧
      Instr.wellFormed (.snapshotFinal { emptySnapshot with cel := { CelSt.reset with map := [(511, 64)] } }) = false ∧
      Instr.wellFormed (.snapshotFinal emptySnapshot) = true := by decide

/-! ### Witnesses of hypotheses: cores -/

/-- Rider 0 at App privilege at the start of its instruction TCM, window 0 over it for fetches, window 1 over the first 256 bytes of its data
TCM for reads. -/
def appState : State :=
  (((((State.reset.setCr .r0 0 0).setPc .r0 0x10000000).setCr .r0 0x20 0x1000000C).setCr .r0 0x21 0x1003FF00).setCr .r0 0x22
    0x10040009).setCr .r0 0x23 0x10040000

/-- Rider 0 with `v` in g1. -/
def withG1 (v : Word) : State := State.reset.setG .r0 1 v

theorem witness_StepRunsFrontCommand : State.reset.pending = [] := by decide

/-- The fetch of each core, and of a core with a corrected error, raises no exception at reset. -/
theorem witness_fetches :
    State.reset.fetches (fe .r0) = true ∧ State.reset.fetches (fe .r1) = true ∧ State.reset.fetches (fe .grm) = true ∧
      State.reset.fetches ⟨.r0, .corrected, none⟩ = true ∧ State.reset.statusBit .r0 10 = false ∧
      State.reset.isApp .r0 = false := by decide

theorem witness_ImmediateArithmeticResults :
    (31 : BitVec 13).toNat < 32 ∧ 32 ≤ (32 : BitVec 13).toNat ∧ State.reset.statusBit .r0 10 = false := by decide

theorem witness_FlagsOfIntegerOperations :
    (State.reset.g .r0 1).toNat % 4 = 0 ∧ State.reset.statusBit .r0 10 = false := by decide

/-- Data accesses at boundary addresses of a region, of a register without a read effect, of the mirror window. -/
theorem witness_LoadsReadMemory :
    State.reset.serves .r0 .load Perm.r 1 0x10040000 = true ∧ region 0x10040000 = .r0Dtcm ∧
      State.reset.serves .r0 .load Perm.r 2 0x203FFFFE = true ∧ region 0x203FFFFE = .sram ∧
      State.reset.serves .r0 .load Perm.r 4 0x60000000 = true ∧ region 0x60000000 = .periph ∧
      (State.reset.loadAct 0x60000000).isNone = true ∧ State.reset.tandem = false ∧
      State.reset.serves .r0 .load Perm.r 4 0x70000000 = true ∧ region 0x70000000 = .mirror := by decide +kernel

theorem witness_StoresWriteMemory :
    State.reset.serves .r0 .store Perm.w 1 0x1007FFFF = true ∧ State.reset.serves .r0 .store Perm.w 2 0x20000000 = true ∧
      State.reset.serves .r0 .store Perm.w 4 0x60020000 = true ∧ State.reset.rwfBad .r0 0x60020000 = false ∧
      holdsRwf 0x60010004 = true ∧ appState.isApp .r0 = true ∧ appState.fetches (fe .r0) = true ∧
      appState.statusBit .r0 10 = false := by decide +kernel

theorem witness_MisalignedAccessesFault :
    State.reset.winBad .r0 Perm.r 2 0x20000001 = false ∧ 0x20000001 % 2 ≠ 0 ∧ region 0x20000001 = .sram ∧
      State.reset.winBad .r0 Perm.w 4 0x60000002 = false ∧ 0x60000002 % 4 ≠ 0 ∧ region 0x60000002 = .periph := by
  decide +kernel

theorem witness_AppWindowsGuardAccesses :
    appState.isApp .r0 = true ∧ appState.fetches (fe .r0) = true ∧ appState.statusBit .r0 10 = false ∧
      appState.winBad .r0 1 1 0x100400FF = false ∧ appState.winBad .r0 1 2 0x100400FF = true ∧
      appState.winBad .r0 2 1 0x10040000 = true ∧ appState.winBad .r0 3 4 0x20000000 = true ∧
      (appState.setPc .r0 0x100).winBad .r0 4 4 0x100 = true ∧ (appState.core .r0).run = .run := by decide +kernel

theorem witness_BranchesAndJumps :
    (State.reset.g .r0 1).toNat % 4 = 0 ∧ ((withG1 6).g .r0 1).toNat % 4 ≠ 0 ∧ (withG1 6).fetches (fe .r0) = true ∧
      (1 : Reg) ≠ 0 := by decide

theorem witness_FloatResultsFlagsAndTraps :
    let s := State.reset.setCr .r0 Cr.fpctl 0x1000
    State.reset.fetches (fe .r0) = true ∧ (fe .r0).core ≠ .grm ∧ s.fetches (fe .r0) = true ∧
      16 &&& ((State.reset.cr .r0 Cr.fpctl).toNat / 256) = 0 ∧ 16 &&& ((s.cr .r0 Cr.fpctl).toNat / 256) ≠ 0 ∧
      s.statusBit .r0 10 = false := by decide

theorem witness_FloatSpecialValues :
    (1 : Reg) ≠ 0 ∧ (State.reset.cr .r0 Cr.fpctl).toNat < 256 ∧ 0x7F800000 < (0xFF800001 : Nat) % 2 ^ 31 ∧
      ((withG1 0x4F000000).g .r0 1).toNat = 0x4F000000 ∧ ((withG1 0xFF800000).g .r0 1).toNat = 0xFF800000 := by decide

theorem witness_ControlRegisterMoves :
    State.reset.isApp .r0 = false ∧ appState.isApp .r0 = true ∧ crListed 0x2F = true ∧ crListed 7 = false ∧
      crListed 0x30 = false := by decide

theorem witness_AppPrivilegeTraps :
    appState.fetches (fe .r0) = true ∧ appState.statusBit .r0 10 = false ∧ appState.isApp .r0 = true ∧
      crListed 0 = true ∧ crListed 0x19 = true := by decide +kernel

theorem witness_IllegalEncodingsTrap :
    State.reset.fetches (fe .grm) = true ∧ State.reset.fetches (fe .r1) = true ∧ State.reset.statusBit .grm 10 = false ∧
      (1 : Reg) ≠ 0 := by decide

theorem witness_IllegalEncodingsTrap_words :
    let f : Fetch := ⟨.r0, .ok, some 0xC0000000⟩
    State.reset.fetches { f with raw := none } = true ∧ 12 ≤ (0xC0000000 : Word).toNat / 2 ^ 28 ∧
      (0x21 : Word).toNat / 2 ^ 28 = 0 ∧ 0x20 < (0x21 : Word).toNat % 64 ∧ State.reset.statusBit .r0 10 = false := by decide

theorem witness_TrapEntersHandler :
    State.reset.fetches (fe .r0) = true ∧ State.reset.statusBit .r0 10 = false ∧ State.reset.isApp .r0 = false := by decide

theorem witness_DoubleFaultHalts :
    let s := ((State.reset.setCr .r0 0 0x500).setCr .r1 0 0x500).setCr .grm 0 0x500
    s.fetches (fe .r0) = true ∧ s.statusBit .r0 10 = true ∧ s.fetches (fe .r1) = true ∧ s.statusBit .r1 10 = true ∧
      s.fetches (fe .grm) = true ∧ s.statusBit .grm 10 = true := by decide

/-- Source 3 enabled to Rider 0 at priority 1 and pending. -/
def eventState : State :=
  (st [(EVT_CFG.EN 3, 1), (EVT_CFG.ROUTE 3, 1), (EVT_CFG.PRIO 3, 1), (EVT_PEND.BITS 0, 8)]).setCr .r0 0 0x300

theorem witness_WaitsAndFencesComplete :
    let s := State.reset.setRun .r0 (.wfe true)
    let t := eventState.setRun .r0 (.wfe false)
    (s.core .r0).run = .wfe true ∧ s.eligible .r0 = none ∧ (s.core .r0).wakeSeen = false ∧
      (t.core .r0).run = .wfe false ∧ t.eligible .r0 ≠ none ∧ (State.reset.core .r0).run = .run := by decide +kernel

theorem witness_EventInterruptIsTaken :
    (eventState.core .r0).run = .run ∧ eventState.statusBit .r0 9 = true ∧ eventState.statusBit .r0 10 = false ∧
      eventState.eligible .r0 ≠ none ∧ State.reset.statusBit .r0 9 = false ∧ State.reset.eligible .r0 = none ∧
      (State.reset.setCr .r0 0 0x500).statusBit .r0 10 = true := by decide +kernel

theorem witness_CoreFaultsResetAndHalt :
    (State.reset.setRun .grm .halted).grm.run = .halted ∧ (State.reset.core (riderCore .r0)).run ≠ .off ∧
      (State.reset.core (riderCore .r1)).run ≠ .halted := by decide

/-! ### Witnesses of hypotheses: operations, locks, lanes, events -/

/-- Four words from `a` on. -/
def withDesc (s : State) (a w0 w1 w2 w3 : Nat) : State :=
  (((s.setWord a w0).setWord (a + 4) w1).setWord (a + 8) w2).setWord (a + 12) w3

/-- The descriptor at `a` with no argument. -/
def descAt (s : State) (a : Nat) : Desc := ⟨s.word a, s.word (a + 4), s.word (a + 8), s.word (a + 12), 0, true⟩

/-- Descriptors of each class in shared SRAM, the blocks ready to take them, g1 at the first. -/
def issueState : State :=
  let s := st [(HRD_STAT.POWERED, 1), (CHN_CTRL.PORT_EN, 1), (CHN_STAT.ORIGIN, 1), (CHN_CFG.UNITS, 2),
    (CNx_OCFG.EN 0 5, 1), (CNx_OCFG.DIR 0 5, 1), (ETH_CTRL.P1EN, 1)]
  let s := withRaw s (THM_COST.COST 0) 1
  let s := s.mapEth fun x => { x with eff := [(ETH_CTRL.P1EN.key, 1)] }
  let s := withDesc s 0x20000000 0x20001000 0x20002000 16 3
  let s := withDesc s 0x20000010 0x20001000 1 1 100
  let s := withDesc s 0x20000020 0 0x20001000 512 0
  let s := withDesc s 0x20000030 0x10102 0 0 0
  let s := withDesc s 0x20000040 0x500 0 0 0
  let s := withDesc s 0x20000050 2 0x20001000 60 0
  s.setG .r0 1 0x20000000

theorem witness_AcceptedIssuesTakeTheTag :
    issueState.fetches (fe .r0) = true ∧ issueState.tag .r0 0 = .free ∧ 0 < coreTags .r0 ∧ descOk .r0 0x20000000 = true ∧
      issueState.winBad .r0 Perm.r 16 0x20000000 = false := by decide +kernel

theorem witness_issue_dma :
    let x := descAt issueState 0x20000000
    dmaBad x = false ∧ issueState.inFlight 3 + issueState.inFlight 4 < 64 ∧ issueState.winBad .r0 Perm.w x.w2 x.w1 = false ∧
      bit x.w3 8 = false ∧ issueState.winBad .r0 Perm.r x.w2 x.w0 = false ∧ (issueState.dmaChan 3).length < 8 := by decide +kernel

theorem witness_issue_job :
    let x := descAt issueState 0x20000010
    issueState.jobBad x = false ∧ issueState.inFlight 1 < 63 ∧ issueState.flag HRD_STAT.POWERED = true ∧
      issueState.winBad .r0 Perm.r (4 * bits x.w1 0 12) x.w0 = false ∧ x.w2 &&& issueState.get HRD_TEAMDIS.TEAMS = 0 ∧
      issueState.freeIndex = some 1 := by decide +kernel

theorem witness_issue_commit :
    let x := descAt issueState 0x20000020
    nvcBad .r0 x = false ∧ issueState.inFlight 2 < 16 ∧ bits x.w0 0 2 ≠ 1 ∧ issueState.isApp .r0 = false := by decide +kernel

theorem witness_issue_chain :
    let x := descAt issueState 0x20000030
    issueState.chxBad x = false ∧ issueState.inFlight 0 < 192 ∧ issueState.flag CHN_CTRL.PORT_EN = true ∧
      issueState.flag CHN_STAT.ORIGIN = true ∧ issueState.gait ≠ Gait.paddock ∧ issueState.isStandby = false ∧
      bits x.w0 8 6 ≠ 0x3F ∧ bits x.w0 16 2 ≠ 0 ∧
      (issueState.firstRefused .chain .load ((bits x.w1 0 7 + 3) / 4) x.w2).isNone = true := by decide +kernel

theorem witness_issue_frames :
    let x := descAt issueState 0x20000040
    let y := descAt issueState 0x20000050
    issueState.canTxfBad x = false ∧ bits x.w0 0 4 = 0 ∧ bit x.w0 16 = false ∧ issueState.isStandby = false ∧
      ethTxfBad y = false ∧ bits y.w0 0 4 = 2 ∧ issueState.ethFlag ETH_CTRL.P1EN = true ∧ issueState.gait ≠ Gait.paddock ∧
      (issueState.firstRefused .dma .load ((bits y.w2 0 11 + 3) / 4) y.w1).isNone = true := by decide +kernel

/-- The Groom with every tag issued. -/
def fullState : State :=
  { State.reset with grm := { CoreSt.reset with tags := (List.range 32).map fun k => (k, .issued 4) } }

/-- Rider 0 with 64 dma operations issued. -/
def fullPool : State :=
  { State.reset with r0 := { CoreSt.reset with tags := (List.range 64).map fun k => (k, .issued 3) } }

theorem witness_RefusedIssuesTakeNoTag :
    fullState.fetches (fe .grm) = true ∧ (∀ k < coreTags .grm, fullState.tag .grm k ≠ .free) ∧
      fullState.statusBit .grm 10 = false ∧ fullPool.fetches (fe .r0) = true ∧ fullPool.tag .r0 64 = .free ∧
      64 ≤ fullPool.inFlight 3 + fullPool.inFlight 4 ∧ issueState.inFlight 3 + issueState.inFlight 4 < 64 ∧
      (0x20000008 % 16 ≠ 0) ∧ region 0x20000000 = .sram ∧ appState.winBad .r0 Perm.r 16 0x20000000 = true ∧
      appState.inFlight 3 + appState.inFlight 4 < 64 := by decide +kernel

/-- Rider 0 with an issued, a held and a done tag, lock 3 held. -/
def tagState : State :=
  { st [(PAD_LOCKOWN.OWN 3, 1)] with
    r0 := { CoreSt.reset with tags := [(1, .issued 0), (2, .held 5 6), (3, .done 7 8)] } }

theorem witness_CompletionInstructions :
    tagState.fetches (fe .r0) = true ∧ tagState.tag .r0 0 = .free ∧ tagState.tag .r0 1 = .issued 0 ∧
      tagState.tag .r0 2 = .held 5 6 ∧ tagState.tag .r0 3 = .done 7 8 ∧ tagState.holdsAny .r0 = true ∧
      State.reset.holdsAny .r0 = false ∧ tagState.statusBit .r0 10 = false ∧
      ((tagState.setRun .r0 (.waitt 3 1 (some 0))).core .r0).run = .waitt 3 1 (some 0) ∧ coreTags .grm ≤ 32 := by
  decide +kernel

theorem witness_ReleasedCompletionsFillTheRing :
    (State.reset.cr .r0 Cr.crwp).toNat < 2 * ringSize .r0 ∧ (State.reset.cr .r0 Cr.crrp).toNat < 2 * ringSize .r0 ∧
      region ((State.reset.setCr .r0 Cr.crbase 0x20000000).cr .r0 Cr.crbase).toNat = .sram ∧
      (let s := State.reset.setCr .r0 Cr.crwp 256
       ((s.cr .r0 Cr.crwp).toNat + 512 - (s.cr .r0 Cr.crrp).toNat) % 512 = 256) ∧
      region (State.reset.cr .r0 Cr.crbase).toNat ≠ .sram := by decide +kernel

/-- Channel 0 with a copy, channel 1 with a fill of a read-only region, an Ethernet frame under tag 9. -/
def dmaState : State :=
  let s := { State.reset with
    dma := [(0, [⟨.r0, 1, 0x20001000, 0x20002000, 16, false, true⟩]), (1, [⟨.r0, 2, 7, 0x40000000, 4, true, true⟩])]
    r0 := { CoreSt.reset with tags := [(1, .issued 3), (2, .issued 3), (9, .issued 4)] } }
  s.mapEth fun x => { x with tx := [⟨.r0, 9, false, false, 0, 0, []⟩] }

theorem witness_DmaTransfersMoveWords :
    dmaState.dmaChan 0 = [⟨.r0, 1, 0x20001000, 0x20002000, 16, false, true⟩] ∧ dmaState.tandem = false ∧
      dmaState.tag .r0 1 = .issued 3 ∧ dmaState.dmaChan 1 = [⟨.r0, 2, 7, 0x40000000, 4, true, true⟩] ∧
      (dmaState.refusal .dma false .store 4 0x40000000).isSome = true ∧ dmaState.dmaChan 2 = [] ∧
      (dmaState.cr .r0 Cr.crbase).toNat + 8 * ringSize .r0 ≤ 0x20002000 ∧ dmaState.can.txf = [] ∧
      (dmaState.eth.tx.find? fun e => decide (e.core = .r0 ∧ e.tag = 9)) = some ⟨.r0, 9, false, false, 0, 0, []⟩ ∧
      dmaState.tag .r0 9 = .issued 4 ∧ (∀ k < 16, region (0x20002000 + k) ≠ .periph) := by decide +kernel

theorem witness_PaddockLocks :
    let s := (st [(PAD_LOCKOWN.OWN 3, 1)]).setRun .r1 (.lockWait 5 2)
    s.fetches (fe .r0) = true ∧ s.isApp .r0 = false ∧ s.get (PAD_LOCKOWN.OWN 3) = coreCode .r0 + 1 ∧
      s.get (PAD_LOCKOWN.OWN 31) = 0 ∧ (s.core .r1).run = .lockWait 5 2 ∧ s.get (PAD_LOCKOWN.OWN 5) = 0 ∧
      (s.core .r0).run = .run ∧ (s.core .grm).run = .run ∧ s.fetches (fe .grm) = true := by decide +kernel

theorem witness_AtomicsActOnSharedSram :
    State.reset.fetches (fe .r0) = true ∧ State.reset.winBad .r0 Perm.rw 4 0x203FFFFC = false ∧ region 0x203FFFFC = .sram ∧
      0x203FFFFC % 4 = 0 ∧ region 0x10040000 ≠ .sram ∧ State.reset.statusBit .r0 10 = false := by decide +kernel

def aJob : Job :=
  { index := 1, owner := some (.r0, 7), prog := 0x20000000, plen := 4, ecls := 0, teams := 3, deadline := 100, arg := 0
    sweep := 0, urgent := false, candidate := false, phase := .running, cells := [], runs := [⟨0, 0, none, false⟩, ⟨1, 0, none, false⟩]
    pubs := [] }

def laneState (j : Job) : State :=
  let s := { withRaw (st [(HRD_STAT.POWERED, 1), (THM_BUCKET.TOKENS, 50)]) (THM_COST.COST 0) 1 with
    r0 := { CoreSt.reset with tags := [(7, .issued 1)] } }
  { s with herd := { jobs := [j], v := [], p := [] } }

def laneOp (unp : Bool) : LaneOp := ⟨0, 0, unp, false, false, .ok, none⟩

theorem witness_lanes_ready :
    (laneState aJob).laneReady (laneOp true) aJob ⟨0, 0, none, false⟩ ∧
      (laneState aJob).laneReady (laneOp false) aJob ⟨0, 0, none, false⟩ := by
  refine ⟨⟨?_, ?_, ?_, ?_⟩, ⟨?_, ?_, ?_, ?_⟩⟩ <;> decide +kernel

theorem witness_LaneMemoryWords :
    (laneState aJob).laneReg 0 0 + 4 * 0 < 0x1000 ∧ 0x20 ≤ (laneState aJob).laneReg 0 0 + 4 * (8 : BitVec 6).toNat ∧
      (laneState aJob).laneReg 0 0 + 4 * (7 : BitVec 6).toNat < 0x20 ∧ aJob.owner ≠ none ∧ 0 / 16 = (laneOp true).team.toNat := by
  decide +kernel

theorem witness_LaneRendezvousWords :
    let w : Rdv := ⟨Rop.bar, 0, 0, 0, false, 0, true, false⟩
    let j := { aJob with runs := [⟨0, 0, none, false⟩, ⟨1, 0, some w, false⟩] }
    aJob.runs.filter (fun q => q.team = 0) = [⟨0, 0, none, false⟩] ∧
      (aJob.runs.any fun q => decide (q.team ≠ 0 ∧ q.wait = none)) = true ∧ (laneState j).runner 0 = some (j, ⟨0, 0, none, false⟩) ∧
      j.runs.filter (fun q => q.team = 0) = [⟨0, 0, none, false⟩] := by decide +kernel

theorem witness_LaneControlAndJobEvents :
    let last := { aJob with runs := [⟨0, 0, none, false⟩, ⟨1, 0, none, true⟩] }
    let load := { aJob with phase := .loading }
    let wait := { aJob with phase := .queued }
    (laneState last).runner 0 = some (last, ⟨0, 0, none, false⟩) ∧ (laneState aJob).tandem = false ∧
      (laneState aJob).pllGated Pll.core = false ∧ (0 : Word).toNat / 2 ^ 30 ≠ 3 ∧ (0xDB000000 : Word).toNat / 2 ^ 24 % 64 = 0x1B ∧
      (laneState aJob).tag .r0 7 = .issued 1 ∧ (laneState load).jobAt 1 = some load ∧ (laneState wait).herd.jobs = [wait] ∧
      (laneState wait).isCandidate wait = true ∧ (laneState wait).isStandby = false ∧
      (laneState wait).flag HRD_CTRL.HOLD = false ∧
      (withFields (laneState wait) [(HRD_CTRL.HOLD, 1)]).flag HRD_CTRL.HOLD = true := by decide +kernel

/-! ### Witnesses of hypotheses: events, clocks, gaits, supply -/

theorem witness_EventAssertionClaimAndService :
    let e := st [(EVT_CFG.EN 20, 1), (EVT_CFG.PRIO 20, 3), (EVT_CFG.ROUTE 20, 1), (EVT_PEND.BITS 0, 2 ^ 20)]
    (st [(EVT_CFG.EN 20, 0)]).get (EVT_CFG.EN 20) = 0 ∧ e.get (EVT_CFG.EN 20) ≠ 0 ∧ e.tandem = false ∧ e.evtPending 20 = true ∧
      State.reset.rwfBad .r0 (EVT_SET.BITS 0).addr = false ∧ State.reset.rwfBad .r0 (EVT_SET.BITS 7).addr = false ∧
      State.reset.serves .r0 .store Perm.w 4 (BitVec.ofNat 32 (EVT_SET.BITS 7).addr) = true ∧
      State.reset.serves .r0 .load Perm.r 4 (BitVec.ofNat 32 (claimReg .r0).addr) = true ∧ (State.reset.core .r0).run = .run ∧
      (∀ n < 256, State.reset.evtPending n = false) ∧
      (e.evtPending 20 = true ∧ e.get (EVT_CFG.ROUTE 20) = coreCode .r0 + 1 ∧ e.get (thrOf .r0) < e.get (EVT_CFG.PRIO 20) ∧
        e.evt.inService = [] ∧ ∀ m < 256, m ≠ 20 → e.evtPending m = false) ∧
      State.reset.serves .grm .store Perm.w 4 (BitVec.ofNat 32 (doneReg .grm).addr) = true ∧
      State.reset.rwfBad .grm (doneReg .grm).addr = false := by decide +kernel

theorem witness_PaddockArbiterGrants :
    let p : ArbPost := ⟨0, 0, 2, 0⟩
    let q : ArbPost := ⟨0, 0, 3, 0⟩
    let p' : ArbPost := ⟨1, 0, 5, 0⟩
    let q' : ArbPost := ⟨1, 0, 5, 1⟩
    let u : ArbPost := ⟨0, 0, 1, 0⟩
    let b : ArbPost := ⟨5, 3, 2, 0⟩
    let wait (r : ArbReq) : State := { State.reset with pad := { State.reset.pad with requests := [r] } }
    let held := { st [(PAD_LOCKOWN.OWN 3, 1), (PAD_LOCKLIM.LIM, 10)] with nowUs := 50 }
    State.reset.pad.requests = [] ∧ State.reset.pad.grants = [] ∧ State.reset.chn.chx = [] ∧
      State.reset.sweepHold 0 = false ∧ State.reset.curbHolds 3 = false ∧ State.reset.arbLevel u = 0 ∧ arbPostOk p = true ∧ arbPostOk q = true ∧ arbPostOk q' = true ∧
      arbPostOk u = true ∧ arbPostOk b = true ∧ p.req < q.req ∧ p'.req = q'.req ∧ p'.index < q'.index ∧ u.req = 1 ∧ p.req ≠ 1 ∧
      State.reset.get (urgField p.req p.cls) = 1 ∧ State.reset.get (urgField q.req q.cls) ≠ 1 ∧
      (wait ⟨p, 2, 65⟩).pad.requests = [⟨p, 2, 65⟩] ∧ (wait ⟨p, 2, 65⟩).get PAD_PROMCNT.COUNT < 2 ^ 32 - 1 ∧
      (wait ⟨p, 2, 64⟩).pad.requests = [⟨p, 2, 64⟩] ∧
      held.get (PAD_LOCKOWN.OWN 3) ≠ 0 ∧ held.get PAD_LOCKLIM.LIM ≠ 0 ∧ held.pad.lockRaised.testBit 3 = false ∧
      State.reset.get (PAD_LOCKOWN.OWN 31) = 0 ∧ State.reset.serves .r0 .store Perm.w 4 (BitVec.ofNat 32 PAD_LOCKLIM.LIM.addr) = true ∧
      State.reset.rwfBad .r0 PAD_LOCKLIM.LIM.addr = false ∧ 49 < held.nowUs - mapGet 0 held.pad.lockSince 3 := by decide +kernel

theorem witness_PeripheralStoresByAccessCode :
    (∀ a ∈ [(EVT_CFG.EN 0).addr, (EVT_CFG.EN 255).addr, SYS_CLKFLT.REF_LOSS.addr, THM_REFILL.RMIN.addr, SYS_ID.DEVICE.addr],
      State.reset.serves .r0 .store Perm.w 4 (BitVec.ofNat 32 a) = true ∧ State.reset.rwfBad .r0 a = false) ∧
      evtDesignated 17 = true ∧ evtDesignated 16 = false ∧ (appState.core .r0).run = .run ∧ appState.isApp .r0 = true ∧
      appState.statusBit .r0 10 = false ∧
      (let s := (appState.setCr .r0 0x22 0x6000000B).setCr .r0 0x23 0x600FFFFF
       s.serves .r0 .store Perm.w 4 (BitVec.ofNat 32 SYS_CLKEN.ETH_EN.addr) = true ∧ s.isApp .r0 = true) := by decide +kernel

/-- The module in a gait with more fields set. -/
def inGait (g : Nat) (l : List (Fld × Nat)) : State := st ((PWR_GAIT.GAIT, g) :: l)

theorem witness_ClocksSecondsAndWakes :
    State.reset.alive = true ∧ (st [(SYS_CLKSTAT.REF_OK, 1)]).flag SYS_CLKSTAT.REF_OK = true ∧ State.reset.mainOn = false ∧
      2 ≤ State.reset.gait ∧
      (let s := st [(SYS_CLKSTAT.REF_OK, 0), (SYS_CLKSTAT.ON_RC, 1)]
       s.flag SYS_CLKSTAT.REF_OK = false ∧ s.flag SYS_CLKSTAT.ON_RC = true) ∧
      (∀ p : Fin 6,
        let r := st [(SYS_CLKEN.ETH_EN, 1), (SYS_CLKEN.TDM_EN, 1), (SYS_CLKSTAT.CORE_LOCK, 1), (SYS_CLKSTAT.PER_LOCK, 1),
          (SYS_CLKSTAT.ETH_LOCK, 1), (SYS_CLKSTAT.TDM_LOCK, 1)]
        let s := if p = 4 then inGait 1 [] else r
        s.pllRuns p = true ∧ s.pllLocked p = true ∧ (inGait 0 []).pllRuns p = false) ∧
      (withFields State.reset [(SYS_CLKEN.ETH_EN, 1)]).flag SYS_CLKEN.ETH_EN = true ∧
      (withRaw State.reset TDM_STAT.LINK 1).flag TDM_STAT.LINK = true ∧
      (st [(SYS_CLKEN.TDM_EN, 1)]).flag SYS_CLKEN.TDM_EN = true ∧
      (let s := inGait 1 [(PWR_RTCALM.ALM, 1), (PWR_WAKEEN.RTC, 1), (PWR_WAKEEN.WAKEN, 1)]
       s.sys.on = true ∧ s.inReset = false ∧ s.gait ≠ Gait.stable ∧ s.get PWR_RTCALM.ALM = (s.get PWR_RTC.SEC + 1) % 2 ^ 32 ∧
         s.flag PWR_WAKEEN.RTC = true ∧ s.flag PWR_WAKEEN.WAKEN = true ∧ s.gait = Gait.paddock ∧ s.power.trans = none ∧
         ({ s with sys := { SysSt.reset with booting := false } } : State).sys.booting = false) ∧
      (let s := inGait 0 [(PWR_RTCALM.ALM, 0xFFFFFFFF)]
       s.gait = Gait.stable ∧ s.get PWR_RTCALM.ALM = 0xFFFFFFFF ∧ (s.set PWR_WAKEEN.RTC 0).flag PWR_WAKEEN.RTC = false) := by decide +kernel

/-- The conditions of T8, T9, T10, T12, T14 and T15 met, in gait `g`. -/
def readyFor (g : Nat) : State :=
  let s := inGait g [(CRB_STAT.STATE, 1), (CRB_STAT.SCFG_OK, 1), (PRT_STAT.VALID, 1), (CHN_STAT.RING, 2), (CEL_STAT.MAP_VALID, 1),
    (NVM_STAT.LEDGER_OK, 1), (CRB_STAT.GUARD, 2), (HVM_PCHSTAT.STATE, Pch.pass)]
  { s with est := { s.est with method := 1 } }

theorem witness_gait_requests_rider :
    (∀ a ∈ [Core.r0, .r1, .grm], State.reset.serves a .store Perm.w 4 (BitVec.ofNat 32 PWR_REQ.TARGET.addr) = true ∧
      State.reset.rwfBad a PWR_REQ.TARGET.addr = false) ∧ State.reset.isStandby = false ∧
      State.reset.get PWR_GAIT.BUSY = 0 ∧ (st [(PWR_GAIT.BUSY, 1)]).get PWR_GAIT.BUSY ≠ 0 ∧ State.reset.groomWalk = false ∧
      State.reset.gait = Gait.walk ∧
      (let s := readyFor 2
       s.get CRB_STAT.SCFG_OK ≠ 0 ∧ s.curb ≠ Curb.boot ∧ s.get PRT_STAT.VALID ≠ 0 ∧ s.get CHN_STAT.RING ∈ [2, 3, 4] ∧
         s.get CEL_STAT.MAP_VALID ≠ 0 ∧ s.get NVM_STAT.LEDGER_OK ≠ 0 ∧ s.get CRB_STAT.GUARD = 2 ∧
         s.get HVM_PCHSTAT.STATE = Pch.pass ∧ s.tripActive = false ∧ s.contactorOn = false ∧
         s.get TDM_STAT.PEERCLAIM = 0 ∧ s.nvmBusy = false) ∧
      State.reset.get CRB_STAT.SCFG_OK = 0 ∧ (readyFor 4).get THM_STAT.THROT_REQ = 0 ∧ (readyFor 4).est.method = 1 ∧
      (readyFor 4).gait = 4 ∧ (readyFor 6).power.lameCauses = 0 ∧ (readyFor 6).contactorOn = false := by decide +kernel

/-- The same in Walk with the main outputs on and the doors closed: every condition of T8. -/
def readyClosed : State :=
  { withFields (readyFor 2) [(FIO_DOSTAT.ON, 0x3000)] with crb := { CurbSt.reset with doorOpen := 0 } }

theorem witness_gait_requests_closed :
    let s := readyClosed
    s.get CRB_STAT.SCFG_OK ≠ 0 ∧ s.curb ≠ Curb.boot ∧ s.get PRT_STAT.VALID ≠ 0 ∧ s.get CHN_STAT.RING ∈ [2, 3, 4] ∧
      s.get CEL_STAT.MAP_VALID ≠ 0 ∧ s.get NVM_STAT.LEDGER_OK ≠ 0 ∧ s.get CRB_STAT.GUARD = 2 ∧
      s.get HVM_PCHSTAT.STATE = Pch.pass ∧ s.mainsClosed = true ∧ s.tripActive = false ∧ (readyFor 2).mainsClosed = false ∧
      s.contactorOn = true := by decide +kernel

theorem witness_gait_transition_ends :
    let s := { readyFor 3 with power := { State.reset.power with trans := some ⟨9, 4, 0, true⟩ } }
    s.sys.on = true ∧ s.inReset = false ∧ s.power.trans = some ⟨9, 4, 0, true⟩ ∧ s.gait < 8 ∧ s.curb ≠ Curb.halt ∧
      s.power.lameCauses = 0 ∧ (withFields s [(HRD_STAT.POWERED, 1)]).flag HRD_STAT.POWERED = true ∧
      s.get THM_STAT.ENFORCED = 0 := by decide +kernel

theorem witness_SupplyAndResets :
    let down := { st [(SYS_PWRSTAT.AUX_OK, 0), (SYS_PWRSTAT.PDN, 1)] with
      nowUs := 100000, sys := { SysSt.reset with pdnAt := some 0 } }
    let off := st [(SYS_PWRSTAT.AUX_OK, 0), (SYS_PWRSTAT.PDN, 0)]
    let wd := { st [(SYS_WDCFG.EN, 1), (SYS_WDCFG.TMO, 3)] with sys := { SysSt.reset with wdTicks := 30 } }
    off.get SYS_PWRSTAT.AUX_OK = 0 ∧ off.get SYS_PWRSTAT.PDN = 0 ∧ (st [(SYS_PWRSTAT.AUX_OK, 1)]).get SYS_PWRSTAT.AUX_OK ≠ 0 ∧
      State.reset.gait ≠ Gait.stable ∧ State.reset.inReset = false ∧ State.reset.inStep = false ∧ State.reset.mainOn = false ∧
      down.get SYS_PWRSTAT.PDN ≠ 0 ∧ down.contactorOn = false ∧ down.nvmBusy = false ∧ down.sys.pdnAt = some 0 ∧
      0 + 100000 ≤ down.nowUs ∧ State.reset.sys.on = true ∧ State.reset.get SYS_PWRSTAT.RSTN_MASK = 0 ∧
      State.reset.nvm.running = none ∧ State.reset.upd.job = .idle ∧ ({ State.reset with sys := { SysSt.reset with held := true } } : State).sys.held = true ∧
      (st [(SYS_PWRSTAT.RSTN_MASK, 1)]).get SYS_PWRSTAT.RSTN_MASK ≠ 0 ∧
      State.reset.serves .r0 .store Perm.w 4 (BitVec.ofNat 32 SYS_RSTCMD.KEY.addr) = true ∧
      State.reset.rwfBad .r0 SYS_RSTCMD.KEY.addr = false ∧ (st [(FIO_DOSTAT.ON, 0x1000)]).mainOn = true ∧
      State.reset.serves .r0 .store Perm.w 4 (BitVec.ofNat 32 SYS_WDKEY.KEY.addr) = true ∧ State.reset.rwfBad .r0 SYS_WDKEY.KEY.addr = false ∧
      wd.alive = true ∧ wd.get SYS_WDCFG.EN ≠ 0 ∧ 10 * wd.get SYS_WDCFG.TMO ≤ wd.sys.wdTicks ∧ State.reset.sys.booting = true ∧
      State.reset.sys.failed = false ∧ ({ State.reset with sys := { SysSt.reset with failed := true } } : State).alive = true := by
  decide +kernel

/-! ### Witnesses of hypotheses: heat, Herd registers, high-voltage section, units -/

def heatState : State := st [(HRD_STAT.POWERED, 1), (THM_STAT.THROT_REQ, 1), (THM_STAT.GRACE_RUN, 1)]

/-- A positive quotient rounded to the nearest integer lies between `lo` and `hi` where the quotient does. -/
theorem divRound_between (n lo hi : Int) (d : Nat) (hd : 0 < d) (h0 : 0 ≤ n) (hlo : lo * d ≤ n) (hhi : n ≤ hi * d) :
    lo ≤ divRound n d ∧ divRound n d ≤ hi := by
  have hd' : (0 : Int) < d := by omega
  unfold divRound
  rw [if_neg (by omega), if_pos h0]
  constructor
  · rw [Int.le_ediv_iff_mul_le (by omega)]; nlinarith
  · have : (2 * n + d) / (2 * d) < hi + 1 := by
      rw [Int.ediv_lt_iff_lt_mul (by omega)]; nlinarith
    omega

/-- Counts of a die sensor at 25 °C, at 125 °C and at 150 °C or a little above. -/
theorem dieTemp_points (i : Nat) :
    dieTemp i (dieHot i + dieSpan i) = some 2500 ∧ dieTemp i (dieHot i) = some 12500 ∧
      ∃ n t, dieTemp i n = some t ∧ 15000 ≤ t ∧ t ≤ 15300 := by
  have hs : 25 ≤ dieSpan i := by unfold dieSpan; omega
  have hh : dieSpan i ≤ dieHot i := by unfold dieHot; omega
  generalize hS : dieSpan i = S at *
  generalize hH : dieHot i = H at *
  refine ⟨?_, ?_, H - (S + 3) / 4, divRound (12500 * S + 10000 * ((H : Int) - (H - (S + 3) / 4 : Nat))) S, ?_, ?_⟩
  · unfold dieTemp; rw [hS, hH, if_neg (by omega)]
    have := divRound_between (12500 * S + 10000 * ((H : Int) - (H + S : Nat))) 2500 2500 S (by omega) (by omega) (by omega) (by omega)
    exact congrArg some (by omega)
  · unfold dieTemp; rw [hS, hH, if_neg (by omega)]
    have := divRound_between (12500 * S + 10000 * ((H : Int) - H)) 12500 12500 S (by omega) (by omega) (by omega) (by omega)
    exact congrArg some (by omega)
  · unfold dieTemp; rw [hS, hH, if_neg (by omega)]
  · exact divRound_between _ 15000 15300 S (by omega) (by omega) (by omega) (by omega)

/-- The module at work with a throttle limit of 125 °C. -/
def warmState : State := st [(THM_THROT.LEVEL, 125)]

theorem witness_HeatActs_windows :
    (∃ n : Nat → Nat, ∀ i, dieTemp i (n i) = some 2500) ∧ (∃ n : Nat → Nat, ∀ i, dieTemp i (n i) = some 12500) ∧
      ∃ (n : Nat → Nat) (t : Nat → Int), (∀ i, dieTemp i (n i) = some (t i)) ∧
        ∀ i j, 15000 ≤ t i ∧ -5500 ≤ t i ∧ t i ≤ 17500 ∧ t i - t j ≤ 1500 := by
  refine ⟨⟨_, fun i => (dieTemp_points i).1⟩, ⟨_, fun i => (dieTemp_points i).2.1⟩, ?_⟩
  choose n t h using fun i => (dieTemp_points i).2.2
  refine ⟨n, t, fun i => (h i).1, fun i j => ?_⟩
  have hi := h i
  have hj := h j
  omega

theorem witness_HeatActs :
    State.reset.gait ≠ Gait.stable ∧ State.reset.sys.on = true ∧ State.reset.inReset = false ∧
      State.reset.thermal.devFault = 0 ∧ State.reset.thermal.unknown = false ∧
      warmState.get THM_STAT.THROT_REQ = 0 ∧ 100 * (warmState.get THM_THROT.LEVEL : Int) ≤ 12500 ∧
      heatState.get THM_STAT.THROT_REQ ≠ 0 ∧
      (2500 : Int) < 100 * (heatState.get THM_THROT.LEVEL : Int) - 100 * heatState.get THM_THROT.HYST ∧
      State.reset.get THM_STAT.ENFORCED = 0 ∧ 0 < State.reset.get THM_HFULL.HFULL ∧
      (2500 : Int) + 100 * State.reset.get THM_HFULL.HFULL ≤ 100 * (State.reset.get THM_THROT.LEVEL : Int) ∧
      heatState.get THM_STAT.GRACE_RUN ≠ 0 ∧ heatState.get THM_STAT.ENFORCED = 0 ∧ heatState.thermal.graceAt ≤ heatState.nowUs ∧
      State.reset.thermal.restore = false ∧ State.reset.thermal.hvWarm.testBit 0 = false ∧ (st [(THM_HV.TEMP 0, 10500)]).get (THM_HV.TEMP 0) = 10500 ∧
      sgn 16 10500 = 10500 ∧ State.reset.get THM_LATCH.HV_CONV = 0 ∧
      2 ≤ State.reset.gait ∧ heatState.get HRD_STAT.POWERED ≠ 0 ∧ heatState.herd.jobs = [] ∧
      State.reset.get HRD_STAT.POWERED = 0 := by decide +kernel

theorem witness_HeatActs_set :
    let t := { State.reset with thermal := { State.reset.thermal with restore := true, hvWarm := 3, graceAt := 1 } }
    let d := { State.reset with sys := { SysSt.reset with dieOff := true } }
    t.thermal.restore = true ∧ t.thermal.hvWarm.testBit 1 = true ∧ t.nowUs < t.thermal.graceAt ∧ d.sys.dieOff = true ∧
      (∀ x : Int, x = 2500 ∨ x = 12500 → ∀ i < 6,
        (List.replicate 6 (some x)).getD i none = some x ∧ (d.thermal.window (List.replicate 6 (some x))).faulty i = false) ∧
      dieTemp 0 0 = none := by
  refine ⟨rfl, rfl, by decide, rfl, ?_, rfl⟩
  rintro x (rfl | rfl) <;> decide

theorem witness_HerdRegisterWrites :
    let q := { aJob with phase := .queued }
    let s := withFields (laneState q) [(HRD_CTRL.HOLD, 1)]
    s.tandem = false ∧ s.herd.jobs = [q] ∧ q.owner = some (.r0, 7) ∧ q.phase ≠ .ended ∧ s.tag .r0 7 = .issued 1 ∧
      s.flag HRD_CTRL.HOLD = true ∧ q.phase = .queued ∧
      (∀ a ∈ [HRD_ABORT.ALL.addr, HRD_TEAMDIS.TEAMS.addr, HRD_CTRL.HOLD.addr],
        s.serves .r0 .store Perm.w 4 (BitVec.ofNat 32 a) = true ∧ s.rwfBad .r0 a = false) ∧
      (1 : Word).toNat % 64 = q.index ∧ (2 : Word).toNat % 64 ≠ q.index ∧ (0x80000000 : Word).getLsbD 31 = true ∧
      q.teams &&& andNot 32 2 (s.get HRD_TEAMDIS.TEAMS) ≠ 0 ∧ q.teams &&& andNot 32 4 (s.get HRD_TEAMDIS.TEAMS) = 0 ∧
      State.reset.herd.jobs = [] ∧ (st [(TDM_STAT.STATE, Pair.active), (TDM_CTRL.EN, 1)]).inStep = true ∧
      State.reset.get HRD_AUTOCFG.PLEN = 0 ∧ (st [(HRD_AUTOCFG.PLEN, 8)]).get HRD_AUTOCFG.PLEN ≠ 0 := by decide +kernel

/-- The high-voltage section up, with valid values. -/
def hvState : State :=
  st [(HVM_STAT.READY, 1), (HVM_STAT.LINK_OK, 1), (HVM_STAT.SUPPLY_OK, 1), (HVM_STAT.CAL_OK, 1), (HVM_VBAT.VAL, 50000),
    (HVM_VLINK.VAL, 1000), (PRT_STAT.VALID, 1), (HVM_CTRL.INJ_EN, 1), (HVM_CTRL.HALL_EN, 1), (HVM_STAT.HALL_OK, 1)]

/-- `hvState` with the measurement state `x`. -/
def withHvm (x : HvmSt) : State := { hvState with hvm := x }

theorem witness_CurrentAndChargeMeasurement :
    let p : ProtSample := ⟨some 5, 500, 5, some 5⟩
    let full := withHvm { HvmSt.reset with win := List.replicate 16 p }
    let gap := withHvm { HvmSt.reset with win := ⟨none, 0, 0, none⟩ :: List.replicate 15 p }
    full.vinv 0 = false ∧ divRound (Vector.replicate 16 (50000 : Int)).toList.sum 16 = ((50000 : Nat) : Int) ∧
      hvState.hvValid = true ∧ State.reset.hvValid = false ∧ State.reset.hvm.win.length < 16 ∧ full.hvm.win.length = 16 ∧
      full.hvm.win.map (·.ma) = (List.replicate 16 5).map some ∧ 16 ≤ gap.hvm.win.length ∧ (∃ q ∈ gap.hvm.win, q.ma = none) ∧
      State.reset.get HVM_STAT.OVLD_HI = 0 ∧ hvState.get PRT_STAT.VALID ≠ 0 ∧ hvState.hvPowered = true ∧
      hvState.crb.alive = false ∧ 100 ≤ (withHvm { HvmSt.reset with rangeRun := 100 }).hvm.rangeRun ∧
      State.reset.get HVM_STAT.LOW_DIS = 0 ∧ State.reset.hvm.rangeRun < 100 ∧
      (st [(HVM_STAT.ZERO_BUSY, 1)]).get HVM_STAT.ZERO_BUSY ≠ 0 ∧
      16000 ≤ (withHvm { HvmSt.reset with zn := 16000 }).hvm.zn ∧ (withHvm { HvmSt.reset with zbad := true }).hvm.zbad = true ∧
      hvState.mainOn = false ∧ State.reset.get HVM_STAT.ZERO_BUSY = 0 ∧
      State.reset.serves .r0 .store Perm.w 4 (BitVec.ofNat 32 HVM_CMD.ZERO.addr) = true ∧ State.reset.rwfBad .r0 HVM_CMD.ZERO.addr = false ∧
      State.reset.serves .r0 .load Perm.r 4 (BitVec.ofNat 32 HVM_QLO.VAL.addr) = true ∧ State.reset.tandem = false ∧
      hvState.pllGated Pll.hv = false ∧ hvState.hvClocked = true ∧ hvState.get HVM_STAT.READY ≠ 0 ∧
      ({ hvState with power := { State.reset.power with gated := 32 } } : State).pllGated Pll.hv = true ∧
      State.reset.get HVM_STAT.READY = 0 ∧ State.reset.get THM_LATCH.HV_CONV = 0 ∧
      (withFields full [(HVM_STAT.LINK_OK, 0)]).hvValid = false ∧ (withHvm { HvmSt.reset with qclr := true }).hvm.qclr = true ∧
      100 * (7125000 : Int).natAbs ≤ 95 * 7500000 ∧ ¬ 100 * (7125001 : Int).natAbs ≤ 95 * 7500000 := by decide +kernel

theorem witness_HvSupervisionActs :
    let s := withHvm { HvmSt.reset with rev := 1, midRun := 16, good := [160, 0, 0], hallBad := 16, divRun := 100000 }
    let a := { hvState with crb := { CurbSt.reset with alive := true } }
    s.vinv 0 = false ∧ s.hvm.rev.testBit 0 = true ∧ 16 ≤ s.hvm.midRun ∧ s.vinv 2 = false ∧
      (withFields s [(HVM_STAT.VINV, 1)]).vinv 0 = true ∧ 160 ≤ s.hvm.good.getD 0 0 ∧ s.get HVM_CTRL.HALL_EN ≠ 0 ∧
      (4100000 : Int).natAbs ≤ 4100000 ∧ s.get HVM_STAT.HALL_OK ≠ 0 ∧ 16 ≤ s.hvm.hallBad ∧
      s.hvm.hallFlt = false ∧ (withHvm { HvmSt.reset with hallFlt := true }).hvm.hallFlt = true ∧
      16 * s.hvGet HVM_DIV.TIME ≤ s.hvm.divRun ∧ s.get HVM_STAT.DIV_MISMATCH = 0 ∧ a.crb.alive = true ∧ s.crb.alive = false ∧
      s.hvPowered = true ∧ (withFields s [(CRB_STAT.STATE, 1)]).curb ≠ Curb.boot ∧ s.get HVM_STAT.LINK_OK ≠ 0 ∧
      s.get HVM_STAT.SUPPLY_OK ≠ 0 ∧ s.get THM_LATCH.HV_CONV = 0 ∧ State.reset.get HVM_STAT.READY = 0 ∧
      State.reset.get HVM_CTRL.HALL_EN = 0 ∧ State.reset.hvPowered = true ∧
      (∀ r ∈ [HVM_CTRL.INJ_EN.addr, HVM_HALLGAIN.GAIN.addr], s.serves .r0 .store Perm.w 4 (BitVec.ofNat 32 r) = true ∧
        s.rwfBad .r0 r = false) := by decide +kernel

theorem witness_PrechargeAndInsulation :
    let s := withFields (withHvm { HvmSt.reset with pchRun := 160, pchN := 100000 }) [(HVM_PCHSTAT.STATE, 1)]
    let p := withFields (withHvm { HvmSt.reset with dropRun := 160 }) [(HVM_PCHSTAT.STATE, 2), (HVM_STAT.ISO_VALID, 1)]
    let m := { hvState with crb := { CurbSt.reset with doMoved := true } }
    let q := withHvm { HvmSt.reset with pchReq := 1, win := List.replicate 16 ⟨some 5, 500, 5, some 5⟩ }
    let m4 := withFields (withHvm { HvmSt.reset with pchN := 4000 }) [(HVM_PCHSTAT.STATE, 1), (HVM_PCHCFG.TIME, 1000)]
    (∀ x ∈ [hvState, s, p], x.serves .r0 .store Perm.w 4 (BitVec.ofNat 32 HVM_CMD.PCH_ARM.addr) = true ∧
      x.rwfBad .r0 HVM_CMD.PCH_ARM.addr = false) ∧ hvState.get HVM_PCHSTAT.STATE = 0 ∧ s.get HVM_PCHSTAT.STATE = 1 ∧
      p.get HVM_PCHSTAT.STATE = 2 ∧ hvState.get HVM_VLINK.VAL ≠ 0xFFFFFFFF ∧ hvState.get HVM_VBAT.VAL ≠ 0xFFFFFFFF ∧
      50000 ≤ hvState.get HVM_VBAT.VAL ∧ (withFields s [(HVM_VBAT.VAL, 49999)]).get HVM_VBAT.VAL < 50000 ∧
      160 ≤ s.hvm.pchRun ∧ hvState.hvm.pchRun < 160 ∧ 16 * s.get HVM_PCHCFG.TIME ≤ s.hvm.pchN ∧
      (withHvm { HvmSt.reset with pchReq := 2 }).hvm.pchReq = 2 ∧ q.get HVM_STAT.READY ≠ 0 ∧ q.hvPowered = true ∧
      q.hvValid = true ∧ 16 ≤ q.hvm.win.length ∧ q.hvm.pchReq = 1 ∧ q.get HVM_PCHSTAT.STATE = 0 ∧
      m4.hvm.pchN = 4 * m4.get HVM_PCHCFG.TIME ∧ m4.get HVM_PCHSTAT.STATE = 1 ∧ 100 * s.get HVM_VLINK.VAL < 5 * s.get HVM_VBAT.VAL ∧
      hvState.hvm.pchN < 16 * hvState.get HVM_PCHCFG.TIME ∧ 160 ≤ p.hvm.dropRun ∧ hvState.hvm.dropRun < 160 ∧
      hvState.injOn = true ∧ hvState.crb.doMoved = false ∧ m.crb.doMoved = true ∧ p.injOn = true ∧
      p.get HVM_STAT.ISO_VALID ≠ 0 := by decide +kernel

/-- A unit of 16 cells, awake. -/
def aUnit : UnitSt :=
  { cells := 16, addr := 1, ldlyN := 0, ldlyS := 0, vth := 0, fcfg := 4, qcfg := 10, bltmo := 2, lock := 3, errN := 0, errS := 0
    bleedCmd := 0, quiet := false, sample := some (7, ⟨0, 0, 0, 0, []⟩), sync := none, lastSweep := some 7, next := 1, exc := none
    owt := false, owtHop := none, asleep := false, ov := false, uv := false, emit := false, acked := false, before := none, resp := none
    out := [] }

/-- `x` as the first unit of the ring. -/
def withUnit (x : UnitSt) : State := { State.reset with units := [(1, x)] }

theorem witness_UnitsAnswerRequests :
    let h : Hop := ⟨1, false, 9, 1, .good, true⟩
    let e : ExciteSt := ⟨1, 0, 1, 1, 0x7F, 0, 0, true⟩
    h.unit ≠ 0 ∧ (withUnit aUnit).unit 1 = aUnit ∧ aUnit.asleep = false ∧ aUnit.addr ≠ 0x3E ∧ aUnit.exc = none ∧
      aUnit.owt = false ∧ aUnit.sample = some ((7 : BitVec 8).toNat, ⟨0, 0, 0, 0, []⟩) ∧
      ((withUnit { aUnit with owt := true }).unit 1).owt = true ∧ ((withUnit { aUnit with exc := some e }).unit 1).exc ≠ none ∧
      ((withUnit { aUnit with owtHop := some h }).unit 1).owtHop = some h ∧ (1 : BitVec 6).toNat = h.unit ∧
      8 ≤ (16 : Word).toNat % 32 ∧ (16 : Word).toNat % 32 ≤ 16 ∧ State.reset.repeats = true ∧
      ((withUnit { aUnit with asleep := true }).unit 1).asleep = true ∧ h.dest = aUnit.addr ∧ h.rx = .good ∧ h.lenOk = true ∧
      aUnit.addr ≠ 0x3F ∧ ({ h with dest := 9 } : Hop).dest ≠ aUnit.addr ∧ (Rx.crc ≠ .good) := by decide +kernel

theorem witness_UnitsEnumerateLatchAndWarn :
    let z := { aUnit with addr := 0x3E }
    let y := { aUnit with sync := some ⟨7, 1, true⟩, emit := true, lock := 0 }
    let n := { aUnit with sync := some ⟨7, 1, false⟩ }
    let e : ExciteSt := ⟨1, 0, 1, 1, 0x7F, 126, 0, true⟩
    (withUnit z).unit 1 = z ∧ z.addr = 0x3E ∧ aUnit.addr ≠ 32 ∧ aUnit.addr = 1 ∧ aUnit.asleep = false ∧ aUnit.ldlyN ≠ 0xFFFF ∧
      aUnit.ldlyS ≠ 0xFFFF ∧ aUnit.sync = none ∧ aUnit.lastSweep = some 7 ∧ aUnit.next ≠ 0 ∧ (withUnit y).unit 1 = y ∧
      y.sync = some ⟨7, 1, true⟩ ∧ y.emit = true ∧ y.lock = 0 ∧ (withUnit n).unit 1 = n ∧ n.sync = some ⟨7, 1, false⟩ ∧
      ((withUnit { aUnit with exc := some e }).unit 1).exc = some e ∧ e.on = true ∧ 126 ≤ e.chipIdx ∧ e.reps ≤ e.rep + 1 ∧
      ((withUnit { aUnit with exc := some { e with chipIdx := 125 } }).unit 1).exc = some { e with chipIdx := 125 } ∧
      ((withUnit { aUnit with asleep := true }).unit 1).asleep = true ∧ aUnit.emit = false ∧
      ((withUnit { aUnit with acked := true }).unit 1).acked = true ∧ (1 : BitVec 6) ≠ 0 ∧ State.reset.repeats = true := by
  decide +kernel

/-! ### Witnesses of hypotheses: chain engine, cells -/

/-- The chain powered with four units of the last enumeration, in the engine state `x`. -/
def chainState (x : ChnSt) : State :=
  { st [(CHN_CTRL.PORT_EN, 1), (CHN_STAT.ORIGIN, 1), (CHN_CFG.UNITS, 4), (CHN_STAT.RING, 2), (HVM_STAT.LINK_OK, 1),
      (HVM_STAT.SUPPLY_OK, 1), (HVM_STAT.CAL_OK, 1), (HRD_STAT.POWERED, 1), (CHN_USTAT.ROUTE 1, 1)] with
    chn := { x with units := 4 }, r0 := { CoreSt.reset with tags := [(9, .issued 0)] } }

def aChx : ChxSt := ⟨0x40, .r0, 9, 4, 1, 1, 0, [], [], 100, false⟩

theorem witness_ChainEngineEnumerates :
    let s := chainState { ChnSt.reset with chx := [aChx] }
    let e (p : Nat) : EnumSt := ⟨p, [1, 2, 3], [], false, true, 2⟩
    let ph (p : Nat) := chainState { ChnSt.reset with enum := some (e p) }
    (∀ a ∈ [CHN_CMD.ENUM.addr, CHN_CTRL.PORT_EN.addr], s.serves .r0 .store Perm.w 4 (BitVec.ofNat 32 a) = true ∧
      s.rwfBad .r0 a = false) ∧ s.get CHN_CTRL.SWEEP_EN = 0 ∧ s.chainUp = true ∧ s.get CHN_STAT.RING ≠ 0 ∧
      s.get CHN_STAT.RING ≠ 1 ∧ State.reset.chainUp = false ∧ s.chn.chx = [aChx] ∧ s.tandem = false ∧
      s.tag aChx.core aChx.tag = .issued 0 ∧ s.get CHN_STAT.RING ∉ [0, 1, 5] ∧ State.reset.get CHN_STAT.RING ∈ [0, 1, 5] ∧
      (∀ p ∈ [1, 2, 3, 4, 5], (ph p).chn.enum = some (e p)) ∧ s.chn.units ≤ 32 ∧
      (∀ u ∈ (e 3).lo ++ [(4 : BitVec 6)].map (·.toNat), 1 ≤ u ∧ u ≤ s.chn.units) ∧ s.chn.broken = [] ∧
      (1, 4) ∈ (chainState { ChnSt.reset with pingOn := [(1, 4)] }).chn.pingOn ∧
      wireRx (wireOf ⟨3, 132, 2, [4, 1]⟩) = .good ∧ wireRx (wireOf ⟨3, 0xBE, 2, [0x3E, 0]⟩) = .good ∧
      (let r := withFields (chainState { ChnSt.reset with syncAt := some 0 }) [(CHN_CTRL.SWEEP_EN, 1)]
       r.sweeping = true ∧ r.get CHN_CTRL.SWEEP_EN ≠ 0) ∧ State.reset.sweeping = false ∧ s.unitsInUse = 4 ∧
      (ph 5).chn.enum ≠ none ∧ (e 5).cls < 8 ∧ s.chn.rtt = [] := by decide +kernel

/-- The CEL_MAP word of the cell at position 0 of unit 1, lane 0. -/
def layoutOne : Nat := 0x80000001

theorem witness_SweepsReadTheRing :
    let s := withFields (chainState { ChnSt.reset with open_ := true, reads := [⟨1, 1, false⟩] }) [(CHN_CTRL.SWEEP_EN, 1)]
    let i := chainState { ChnSt.reset with inSync := true }
    let n := { s with cel := { CelSt.reset with map := [(0, layoutOne)] } }
    let r := chainState { ChnSt.reset with loReach := 4, hiReach := 1, reads := [⟨3, 1, false⟩] }
    let b := withFields (chainState { ChnSt.reset with broken := [2], loReach := 2, hiReach := 3 }) [(CHN_STAT.RING, 3)]
    let x := chainState { ChnSt.reset with chx := [aChx] }
    s.get CHN_CTRL.SWEEP_EN ≠ 0 ∧ s.chainUp = true ∧ s.chn.enum = none ∧ s.chn.inSync = false ∧ i.chn.inSync = true ∧
      i.chn.hdr = false ∧ 1 ∈ n.namedUnits ∧ n.route 1 = 1 ∧ s.chn.open_ = true ∧ s.get CHN_STAT.ORIGIN ≠ 0 ∧ s.hvValid = true ∧
      n.missingUnits ≠ [] ∧ 0 ∉ n.missingUnits ∧ s.get HRD_STAT.POWERED ≠ 0 ∧ s.chn.broken = [] ∧
      (⟨1, 1, false⟩ : ReadSt) ∈ s.chn.reads ∧ s.chn.crcSeen = false ∧ r.chn.units = 4 ∧ r.chn.loReach = 4 ∧ r.chn.hiReach = 1 ∧
      r.get CHN_STAT.RING = 2 ∧ r.chn.reads = [⟨2 + 1, 1, false⟩] ∧ r.chn.got = [] ∧ b.chn.broken = [2] ∧
      b.get CHN_STAT.RING = 3 ∧ s.gait ≠ Gait.stable ∧ s.chn.fsymAt = none ∧ x.chn.chx = [aChx] ∧ x.tandem = false ∧
      x.tag aChx.core aChx.tag = .issued 0 ∧ { s with nowUs := 1000000 }.postDue = true ∧ State.reset.postDue = false ∧ State.reset.repeats = true ∧
      wireRx (wireOf ⟨0, 129, 4, List.replicate 9 0⟩) = .good ∧ (s.unitCells 1).length = 0 ∧ wireRx ⟨⟨0, 1, 4, []⟩, 0, 1, false⟩ = .crc ∧
      wireRx (wireOf ⟨7, 130, 13, [1]⟩) = .good ∧ wireRx (wireOf ⟨aChx.wire, aChx.addr + 128, aChx.cmd, []⟩) = .good ∧
      aChx.wire < 256 ∧ aChx.rxaddr = 0 ∧ aChx.cmd < 128 := by decide +kernel

/-- Eight cells of unit 1 in CEL_MAP. -/
def mapState : State :=
  withFields State.reset ((List.range 8).flatMap fun n => [(CEL_MAP.USED n, 1), (CEL_MAP.UNIT n, 1), (CEL_MAP.LOCAL n, n),
    (CEL_MAP.LANE n, n)])

theorem witness_LayoutTableAndOpenWireTests :
    let w := { withFields mapState [(CHN_CFG.UNITS, 1)] with cel := { CelSt.reset with apply := true } }
    let r : OwtReq := ⟨1, .command, 0⟩
    let m : CelSt := { CelSt.reset with map := w.writtenMap }
    let b := { chainState ChnSt.reset with cel := { m with owtBusy := some r } }
    let f := { chainState ChnSt.reset with cel := m }
    let q := { f with cel := { m with owtRetry := [r], cellsDue := [1] } }
    let p : OwtReq := ⟨1, .periodic, 0⟩
    let k : OwtReq := ⟨1, .suspect, 0⟩
    let z := { f with chn := { f.chn with eff := [(CEL_CTRL.OWT_EN.key, 0)] } }
    let d := { f with chn := { f.chn with eff := [(CEL_CTRL.OWT_EN.key, 1)] }, nowUs := 4000000000 }
    w.writtenMap.length = 8 ∧ w.writtenMap.map (·.1) = List.range 8 ∧
      w.writtenMap.map (fun e => (layUnit e.2, layLocal e.2, layLane e.2)) = (List.range 8).map (fun n => (1, n, n)) ∧
      w.mainOn = false ∧ w.get CHN_CFG.UNITS = 1 ∧ w.cel.apply = true ∧ State.reset.writtenMap = [] ∧
      (∀ a ∈ [CEL_CMD.MAP_APPLY.addr, CEL_CMD.UNIT.addr], w.serves .r0 .store Perm.w 4 (BitVec.ofNat 32 a) = true ∧
        w.rwfBad .r0 a = false) ∧ w.get CHN_CTRL.SWEEP_EN = 0 ∧ (st [(CHN_CTRL.SWEEP_EN, 1)]).get CHN_CTRL.SWEEP_EN ≠ 0 ∧
      (1 : BitVec 6).toNat ∈ q.cel.cellsDue ∧ b.cel.owtBusy ≠ none ∧ b.cel.owtQueue = [] ∧ f.cel.owtBusy = none ∧
      f.cel.owtQueue = [] ∧ f.chainUp = true ∧ f.readEnded 1 = true ∧ f.route 1 ≠ 0 ∧ z.swGet CEL_CTRL.OWT_EN = 0 ∧
      d.swGet CEL_CTRL.OWT_EN ≠ 0 ∧ d.gait = Gait.walk ∧ d.groomWalk = false ∧ d.namedUnits = [1] ∧ d.cel.owtLast < 1 ∧
      d.owtTurn = true ∧ f.owtTurn = false ∧ w.unitsInUse ≤ 32 ∧ b.cel.owtNone = [] ∧ b.chainUp = true ∧
      wireRx (wireOf ⟨0x20, 129, 8, leBytes 4 0 ++ (List.replicate 17 0).flatMap (leBytes 2)⟩) = .good ∧
      wireRx (wireOf ⟨0x20, 129, 0x88, [5]⟩) = .good ∧ f.owtLate p = true ∧ f.owtLate k = false ∧ d.owtLate k = true ∧
      (∀ e ∈ w.writtenMap, 1 ≤ layUnit e.2 ∧ layUnit e.2 ≤ w.unitsInUse) ∧
      q.cel.owtRetry = [r] ∧ b.mapRange = true ∧ b.cel.owtRetry = [] ∧ (b.unitCells 1).length = 8 := by decide +kernel

/-! ### Witnesses of hypotheses: balancing, estimator, protection -/

/-- Unit 1 with eight cells at 3,3 V but cell 0 at 3,4 V, sampled, balancing on. -/
def balState (hvm : HvmSt) : State :=
  let s := withFields mapState ([(CEL_CTRL.BAL_EN, 1), (CHN_USTAT.ROUTE 1, 1), (CHN_CTRL.PORT_EN, 1), (CHN_STAT.ORIGIN, 1)] ++
    (List.range 8).flatMap fun n => [(CEL_CELL.FRESH n, 1), (CEL_CELL.VCELL n, if n = 0 then 34000 else 33000)])
  { s with cel := { CelSt.reset with map := s.writtenMap }, hvm := hvm, units := [(1, aUnit)],
           chn := { s.chn with eff := [(CEL_CTRL.BAL_EN.key, 1)] } }

theorem witness_BalancingAndPaddockCheck :
    let s := balState { HvmSt.reset with hdr := { HvmSt.reset.hdr with iavg := some 0 } }
    let h := withFields (balState { HvmSt.reset with hdr := { HvmSt.reset.hdr with iavg := some 1000000 } }) [(FIO_DOSTAT.ON, 0x1000)]
    let g := withFields s [(PWR_GAIT.RIDERS, 0)]
    let k := { s with cel := { s.cel with check := some 2 } }
    State.reset.balOn = false ∧ s.balOn = true ∧ s.mapRange = true ∧ s.swGet CEL_CTRL.VSRC = 0 ∧
      1000 * h.swGet CEL_BALCFG.IMAX < (1000000 : Int).natAbs ∧ h.swGet CEL_CTRL.VSRC = 0 ∧ h.mainOn = true ∧ h.balOn = true ∧ h.mapRange = true ∧ h.hvm.hdr.iavg = some 1000000 ∧ s.mainOn = false ∧
      s.balVolt 0 = some 34000 ∧ s.balVolt 7 = some 33000 ∧ s.namedUnits = [1] ∧ s.chainUp = true ∧ s.readEnded 1 = true ∧
      s.route 1 ≠ 0 ∧ s.curbHolds 0 = false ∧ State.reset.groomWalk = false ∧ (s.set PWR_WAKEEN.RTC 0).get PWR_WAKEEN.RTC = 0 ∧
      g.groomWalk = true ∧ g.get PWR_WAKEEN.RTC ≠ 0 ∧ g.get CHN_STAT.ORIGIN ≠ 0 ∧ g.get CHN_CTRL.SWEEP_EN = 0 ∧
      (∀ x ∈ [s, g], x.serves .r0 .store Perm.w 4 (BitVec.ofNat 32 CEL_CMD.UNIT.addr) = true ∧
        x.rwfBad .r0 CEL_CMD.UNIT.addr = false) ∧ k.cel.check = some 2 ∧
      k.get CEL_STAT.SUSPECT_ANY = 0 ∧ 3 ∈ ({ k with cel := { k.cel with due := [3] } } : State).cel.due := by decide +kernel

/-- A parameter block of zeros, but for the fields that Table EST-2 checks, without its CRC. -/
def paramBase : State :=
  let s := st [(EST_PBASE.ADDR, 0x30300100), (EST_CAPNOM.MAH, 1000), (EST_VEND.VSD, 1), (EST_VEND.VCO, 2), (EST_VLIM.VMIN, 1),
    (EST_VLIM.VMAX, 2)]
  let s := ((s.store 2 0x30300100 1).setWord 0x30300104 0x770).setWord 0x30300110 (64536 + 65536 * 1000)
  let s := (s.setWord 0x30300114 (2500 + 65536 * 4500)).store 2 0x30300146 1
  [0x18, 0x1C, 0x28, 0x2C, 0x30, 0x34].foldl (fun s a => s.setWord (0x30300100 + a) 0x10001) s

/-- The block with its CRC. -/
def paramState : State := paramBase.setWord 0x30300108 (crc32c (paramBase.getBytes 0x3030010C 0x764))

/-- What `paramBase` meets of the hypotheses. -/
theorem paramBase_fields :
    let s := paramBase
    let p := s.get EST_PBASE.ADDR
    p = 0x30300100 ∧ p % 16 = 0 ∧ 0x30300100 ≤ p ∧ p + 0x770 ≤ 0x30380000 ∧ s.load 2 p = 1 ∧ s.load 4 (p + 4) = 0x770 ∧
      s.load 2 (p + 0x10) = 64536 ∧ s.load 2 (p + 0x12) = 1000 ∧ s.load 2 (p + 0x14) = 2500 ∧ s.load 2 (p + 0x16) = 4500 ∧
      (∀ r < 4, ∀ i < 101, s.load 2 (p + 0x50 + 202 * r + 2 * i) = 0) ∧ (s.load 2 (p + 2)).testBit 0 = false ∧
      (∀ i < 4, s.load 2 (p + 0x18 + 2 * i) ≠ 0 ∧ s.load 2 (p + 0x28 + 2 * i) ≠ 0 ∧ s.load 2 (p + 0x30 + 2 * i) ≠ 0) ∧
      s.load 2 (p + 0x46) ≠ 0 ∧ s.get EST_CAPNOM.MAH ≠ 0 ∧ s.get EST_VEND.VSD ≠ 0 ∧ s.get EST_VEND.VSD < s.get EST_VEND.VCO ∧
      s.get EST_VLIM.VMIN ≠ 0 ∧ s.get EST_VLIM.VMIN < s.get EST_VLIM.VMAX := by decide +kernel

/-- A stored word leaves the registers. -/
theorem setWord_regs (s : State) (a v : Nat) : (s.setWord a v).regs = s.regs := rfl

/-- With its CRC the block passes that check, and reads elsewhere as before. -/
theorem witness_estimator_parameters :
    crc32c (paramState.getBytes 0x3030010C 0x764) = paramState.word 0x30300108 ∧ paramState.regs = paramBase.regs ∧
      ∀ n b, b + n ≤ 0x30300108 ∨ 0x3030010C ≤ b → paramState.load n b = paramBase.load n b := by
  unfold paramState
  generalize paramBase = s
  rw [getBytes_setWord_outside _ _ _ _ _ (by decide), word_setWord_same, Nat.mod_eq_of_lt (crc32c_lt _)]
  generalize crc32c (s.getBytes 0x3030010C 0x764) = v
  exact ⟨rfl, setWord_regs s _ v, fun n b h => load_store_outside s 4 n 0x30300108 b v h⟩

theorem witness_EstimatorResultsAndParameters :
    let a := { State.reset with est := { EstSt.reset with apply := true } }
    let n := { EstSt.reset with snap := some 31 }
    let j := { aJob with owner := none, runs := [⟨0, 0, none, false⟩, ⟨1, 0, none, true⟩] }
    let l := laneState j
    let m := withFields l [(TDM_CTRL.EN, 1), (TDM_STAT.STATE, Pair.standby)]
    a.est.apply = true ∧ (st [(EST_PBASE.ADDR, 0x303000F0)]).get EST_PBASE.ADDR < 0x30300100 ∧
      (∀ r ∈ [EST_CMD.PARAM_APPLY.addr, EST_CTRL.METHOD.addr, EST_LSNAP.REQ.addr],
        State.reset.serves .r0 .store Perm.w 4 (BitVec.ofNat 32 r) = true ∧ State.reset.rwfBad .r0 r = false) ∧
      State.reset.get HRD_CTRL.AUTO_EN = 0 ∧ (st [(HRD_CTRL.AUTO_EN, 1)]).get HRD_CTRL.AUTO_EN ≠ 0 ∧
      (let s := st [(EST_STAT.MISSRUN, 15), (EST_STAT.LIMLOST, 0)]
       s.swGet EST_LIMCFG.HOLD ≤ s.get EST_STAT.MISSRUN ∧ s.get EST_STAT.LIMLOST = 0) ∧
      State.reset.get EST_STAT.MISSRUN < State.reset.swGet EST_LIMCFG.HOLD ∧
      (let s := inGait 5 [(EST_CTRL.METHOD, 1)]
       s.gait = Gait.gallop ∧ s.get EST_CTRL.METHOD ≠ 0) ∧
      ({ State.reset with est := n } : State).est.snap = some 31 ∧ State.reset.get EST_STAT.VALID = 0 ∧
      ({ st [(EST_STAT.VALID, 1)] with est := n } : State).get EST_STAT.VALID ≠ 0 ∧
      l.jobAt (1 : BitVec 6).toNat = some j ∧ l.isStandby = false ∧ m.isStandby = true ∧
      m.jobAt (1 : BitVec 6).toNat = some j ∧ j.phase ≠ .ended ∧ j.owner = none ∧
      (∀ q ∈ j.runs, q.team ≠ 0 → q.done = true) ∧ l.runner 0 = some (j, ⟨0, 0, none, false⟩) ∧ 0 < j.plen := by decide +kernel

/-- A protection set that passes every check, staged. -/
def protState : State :=
  st [(PRT_CELL_OV.TRIP, 42500), (PRT_CELL_OV.WARN, 42000), (PRT_CELL_UV.TRIP, 25000), (PRT_CELL_UV.WARN, 27000),
    (PRT_UNIT_VTH.OVTH, 42500), (PRT_UNIT_VTH.UVTH, 25000), (PRT_STR_OV.MV, 1750000), (PRT_STR_UV.MV, 100000),
    (PRT_OC_FAST.DCH, 1425), (PRT_OC_FAST.CHG, 1), (PRT_I2T_CHG.K, 1), (PRT_I2T_DCH.K, 1), (PRT_I2T_DCH.ICONT, 300),
    (PRT_TWIN_CHG.HIGH, 8500), (PRT_TWIN_DCH.HIGH, 4000), (PRT_ISO.TRIP, 10), (PRT_ISO.WARN, 50000), (PRT_SWDOG.TMO, 20),
    (PRT_INT.HBTMO, 100), (PRT_INT.DEB, 1), (PRT_STAT.PEND, 1), (CRB_STAT.STEST_OK, 1), (CRB_STAT.SCFG_OK, 1)]

theorem witness_protection_sets :
    let good := { withFields protState [(PRT_OC_FAST.CHG, 400), (PRT_I2T_CHG.ICONT, 399)] with
      crb := { CurbSt.reset with doorOpen := 0 } }
    protState.get PRT_STAT.PEND ≠ 0 ∧ State.reset.get PRT_STAT.PEND = 0 ∧ protState.prtCode = 5 ∧ good.prtCode = 0 ∧
      good.curb = Curb.boot ∧ good.get CRB_STAT.STEST_OK ≠ 0 ∧ good.get CRB_STAT.SCFG_OK ≠ 0 ∧
      good.curbInputs = 0 ∧ good.crb.doorOpen = 0 ∧ good.crb.discrepant = false ∧ good.crb.hbAge = 0 ∧ good.get TDM_STAT.GATE = 0 ∧
      (∀ a ∈ [0x60080000, 0x60080030], State.reset.serves .r0 .store Perm.w 4 (BitVec.ofNat 32 a) = true ∧
        State.reset.rwfBad .r0 a = false) := by decide +kernel

/-- The set of `protState` active. -/
def activeState (p : PrtSt) (l : List (Fld × Nat)) : State :=
  { st ((PRT_STAT.VALID, 1) :: l) with prt := { p with active := protState.stagedSet } }

theorem witness_protection_copies :
    let s := activeState { PrtSt.reset with crbBad := 1, hvBad := 1, rbNow := some (1, true) } [(CRB_STAT.STATE, 1)]
    let b := activeState { PrtSt.reset with crbBad := 2, hvBad := 2 } []
    let n := { activeState { PrtSt.reset with rbNow := some (1, false) } [(CRB_STAT.STATE, 1)] with cel := { CelSt.reset with map := [(0, layoutOne)] } }
    State.reset.copyChecked = false ∧ s.copyChecked = true ∧ s.prt.bad.testBit 0 = false ∧ s.prt.bad.testBit 1 = false ∧
      s.prt.bad.testBit 2 = false ∧ s.prt.crbBad = 1 ∧ s.prt.hvBad = 1 ∧ n.prt.crbBad = 0 ∧
      n.prt.hvBad = 0 ∧ b.copyChecked = true ∧ 2 ≤ b.prt.crbBad ∧ 2 ≤ b.prt.hvBad ∧
      s.get TDM_STAT.GATE = 0 ∧ s.curb ≠ Curb.boot ∧ s.get PRT_STAT.VALID ≠ 0 ∧ s.prt.rbNow = some ((1 : BitVec 6).toNat, true) ∧
      n.prt.rbNow = some ((1 : BitVec 6).toNat, false) ∧ n.get PRT_STAT.VALID ≠ 0 := by decide +kernel

theorem witness_protection_watchdogs :
    let s := { activeState PrtSt.reset [(CRB_STAT.STATE, 1), (FIO_DOSTAT.ON, 0x1000)] with
      nowUs := 20000, crb := { CurbSt.reset with hbAge := 100 } }
    s.mainOn = true ∧ s.get PRT_STAT.VALID ≠ 0 ∧ (s.get CRB_INPUT.CAUSES).testBit 7 = false ∧
      max s.prt.fullAt s.crb.mainAt + 1000 * s.act PRT_SWDOG.TMO ≤ s.nowUs ∧ s.hbChecked = true ∧
      s.act PRT_INT.HBTMO ≤ s.crb.hbAge ∧ s.curb ≠ Curb.boot ∧ State.reset.mainOn = false ∧ State.reset.hbChecked = false := by
  decide +kernel

/-! ### Witnesses of hypotheses: curb logic, gait generator -/

/-- The curb in state `k` with its state `x` and more fields set. -/
def curbAt (k : Nat) (x : CurbSt) (l : List (Fld × Nat)) : State := { st ((CRB_STAT.STATE, k) :: l) with crb := x }

theorem witness_curb_stops :
    let flow : CurbSt := { CurbSt.reset with latest := some 2000, lastValid := some 2000 }
    let main := [(FIO_DOSTAT.ON, 0x1000), (CRB_SCFG.WORD 0, 1)]
    let ramp : CurbSt := { CurbSt.reset with zeroRun := 16, srsN := 100000, shuntOn := true, oscBad := 1 }
    (∀ a ∈ [CRB_CMD.SRS.addr, CRB_HB.SEQ.addr, CRB_RESET.KEY.addr, CRB_SEAL.KEY.addr],
      State.reset.serves .r0 .store Perm.w 4 (BitVec.ofNat 32 a) = true ∧ State.reset.rwfBad .r0 a = false) ∧
      State.reset.curb = Curb.boot ∧ (curbAt 1 flow main).curb = Curb.ready ∧ (curbAt 1 flow main).mainOn = true ∧
      (curbAt 1 flow main).arch = Arch.single ∧ (curbAt 1 flow []).currentFlows = true ∧ (curbAt 1 flow []).mainOn = false ∧
      (curbAt 1 CurbSt.reset []).currentFlows = false ∧ (curbAt 1 flow [(CRB_SCFG.WORD 0, 2)]).arch = Arch.diverse ∧
      (curbAt 1 flow main).crb.lastValid = some 2000 ∧ (curbAt 2 ramp main).curb = Curb.srs ∧
      (curbAt 4 ramp main).curb ≠ Curb.srs ∧ 16 ≤ (curbAt 2 ramp main).crb.zeroRun ∧ (curbAt 2 ramp main).srsOver = true ∧
      (curbAt 2 flow main).srsOver = false ∧ (curbAt 2 flow main).crb.zeroRun < 16 ∧ ramp.shuntOn = true ∧
      flow.shuntOn = false ∧ (curbAt 3 ramp main).curb = Curb.sii ∧ (curbAt 4 flow []).curb = Curb.halt ∧
      flow.shuntFired = false ∧ (curbAt 4 flow [(CRB_SCFG.WORD 0, 2), (FIO_DOSTAT.ON, 0x2000)]).mainOn = true ∧
      ramp.oscBad = 1 ∧ flow.oscBad = 0 ∧ 2 ≤ State.reset.gait ∧ State.reset.power.trans = none := by decide +kernel

theorem witness_curb_reset_and_seal :
    let key : CurbSt := { CurbSt.reset with resetAt := some 0, latest := some 1999 }
    let h := { curbAt 4 key [] with nowUs := 1000 }
    let sealWs := [1 + 256 * 5, 50 + 65536 + 16777216, 0, 0]
    let arm : CurbSt := { CurbSt.reset with sealArmed := true, sealTicks := 100, sealDone := [(true, [5]), (false, [])] }
    let s := curbAt 0 arm ((List.range 4).map fun i => (CRB_STG.WORD i, sealWs.getD i 0))
    let s := s.set CRB_STGCRC.CRC (crc32c (sealWs.flatMap (leBytes 4)))
    h.crb.resetAt = some 0 ∧ h.nowUs ≤ 0 + 1000 ∧ h.curb = Curb.halt ∧ h.curbInputs = 0 ∧ h.contactorOn = false ∧
      h.currentZero = true ∧ State.reset.crb.resetAt = none ∧ s.crb.sealArmed = true ∧ s.crb.sealTicks ≤ 100 ∧
      ((List.range 4).map fun i => s.get (CRB_STG.WORD i)) = sealWs ∧
      crc32c (sealWs.flatMap (leBytes 4)) = s.get CRB_STGCRC.CRC ∧ s.gait = Gait.walk ∧ s.contactorOn = false ∧
      s.crb.sealDone = (true, [5]) :: [(false, [])] ∧ s.get TDM_STAT.GATE = 0 ∧ (withFields h [(PWR_GAIT.GAIT, Gait.halt)]).gait = Gait.halt ∧
      h.gait ≠ Gait.halt := by decide +kernel

theorem witness_curb_doors :
    let shut : CurbSt := { CurbSt.reset with doorOpen := 1, closedAt := 10 }
    let s := { curbAt 1 shut [(CRB_STAT.GUARD, 1)] with nowUs := 50010, fio := { FioSt.reset with eff := [(FIO_TSCFG.EN.key, 3)] } }
    let main := [(FIO_DOSTAT.ON, 0x1000), (CRB_STAT.GUARD, 2)]
    (s.fioGet FIO_TSCFG.EN).testBit 0 = true ∧ s.fio.tsOff.testBit 0 = false ∧ s.get CRB_STAT.GUARD = 1 ∧ s.crb.doorOpen ≠ 0 ∧
      s.nowUs - s.crb.closedAt ≤ 50000 ∧ (curbAt 1 shut main).get CRB_STAT.GUARD = 2 ∧ (curbAt 1 shut main).mainOn = true ∧
      s.mainOn = false ∧ s.crb.doorOpen = 1 ∧ State.reset.crb.doorOpen = 3 ∧ (curbAt 1 shut main).get CRB_STAT.GUARD ≠ 1 ∧
      s.curb ≠ Curb.boot := by decide +kernel

/-- Axis `n` at `x`, in state `m`, the generator running. -/
def axisState (n m : Nat) (x : GgnAxis) (l : List (Fld × Nat)) : State :=
  { st ([(GGN_xSTAT.STATE n, m), (GGN_CTRL.RUN, 1)] ++ l) with ggn := { GgnSt.reset with axes := [(n, x)] } }

def axisOn (n : Nat) : List (Fld × Nat) :=
  [(GGN_xCTRL.EN n, 1), (GGN_xVMAX.VAL n, 65536), (GGN_xAMAX.VAL n, 65536), (GGN_xJMAX.VAL n, 65536)]

theorem witness_gait_generator_writes :
    (∀ a ∈ [(GGN_xTGT.VAL 0).addr, (GGN_xTGT.VAL 3).addr, (GGN_xCMD.STOP 0).addr, (GGN_xCMD.STOP 3).addr, (GGN_xCTRL.EN 0).addr,
        (GGN_xCTRL.EN 3).addr, GGN_GO.G1.addr],
      State.reset.serves .r0 .store Perm.w 4 (BitVec.ofNat 32 a) = true ∧ State.reset.rwfBad .r0 a = false) ∧
      (axisState 0 4 GgnAxis.reset []).ggnMode 0 = Ggn.safe ∧ State.reset.ggnMode 0 ≠ Ggn.safe ∧
      (axisState 0 0 { GgnAxis.reset with p := ggnOne } (axisOn 0)).get (GGN_xCTRL.EN 0) ≠ 0 ∧
      ((axisState 0 0 { GgnAxis.reset with p := ggnOne } (axisOn 0)).axis 0).p ≠ 0 ∧
      (axisState 1 0 GgnAxis.reset (axisOn 1)).get (GGN_xCTRL.EN 1) ≠ 0 ∧ State.reset.get (GGN_xCTRL.EN 1) = 0 := by
  decide +kernel

theorem witness_gait_generator_ticks :
    let x : GgnAxis := { GgnAxis.reset with p := 5 * ggnOne, wTgt := [9] }
    let i := axisState 1 0 x (axisOn 1)
    let f := axisState 1 5 { GgnAxis.reset with wTgt := [9], queue := List.replicate 4 ⟨1, 0, 0⟩ } (axisOn 1)
    let m : GgnAxis := { GgnAxis.reset with p := 7, segs := [⟨1, 0⟩], target := some 9 }
    let d : GgnAxis := { GgnAxis.reset with p := 5 * ggnOne }
    let r : GgnAxis := { GgnAxis.reset with p := 50, safeP0 := 50, safeT := 3 }
    let c (k : Nat) : CurbSt := { CurbSt.reset with dStop := k }
    i.sys.on = true ∧ i.inReset = false ∧ i.tandem = false ∧ i.ioPowered = true ∧ i.get GGN_CTRL.RUN ≠ 0 ∧ i.ggn.go = 0 ∧
      (∀ k < 4, k ≠ 1 → i.axis k = GgnAxis.reset ∧ (i.ggnMode k = Ggn.idle ∨ i.ggnMode k = Ggn.fault)) ∧ i.geti EST_ISTRDC.MA ≤ 0 ∧
      0 ≤ i.geti EST_ISTRCH.MA ∧ i.crb.dStop = 0 ∧ i.ggnMode 1 = Ggn.idle ∧ i.axis 1 = x ∧ i.ggnTakes 1 = true ∧
      (axisState 1 0 x []).ggnTakes 1 = false ∧ i.get (GGN_xCTRL.GRP 1) = 0 ∧
      (axisState 1 0 x ((GGN_xCTRL.GRP 1, 1) :: axisOn 1)).get (GGN_xCTRL.GRP 1) ≠ 0 ∧ (9 : Int) ≠ 5 ∧
      f.ggnTakes 1 = true ∧ f.ggnMode 1 = Ggn.fault ∧ f.get (GGN_xCTRL.GRP 1) = 0 ∧ (f.axis 1).wTgt = [9] ∧
      (f.axis 1).queue.length = 4 ∧ (f.axis 1).wOff = false ∧ (f.axis 1).wFlush = false ∧ (f.axis 1).wSetpos = false ∧
      (axisState 1 1 m []).ggnMode 1 = Ggn.move ∧ (axisState 1 1 m []).axis 1 = m ∧
      (axisState 0 0 d []).axis 0 = d ∧ (axisState 0 0 d []).geti EST_ISTRCH.MA < 5 ∧ (axisState 0 4 r []).ggnMode 0 = Ggn.safe ∧
      (axisState 0 4 r []).axis 0 = r ∧
      (∀ k ∈ [1, 2, 3], ({ axisState 0 0 d [] with crb := c k } : State).crb.dStop = k) := by decide +kernel

theorem witness_gait_generator_steps :
    let x : GgnAxis := { GgnAxis.reset with p := -ggnOne, link := some ⟨1, 1, 0, 0, 0, 0⟩ }
    let s := axisState 1 1 x []
    (s.axis 1).p ≤ ((s.axis 1).step - 1) * ggnOne ∧ ((State.reset.axis 1).step - 1) * ggnOne < (State.reset.axis 1).p ∧
      (State.reset.axis 1).p < ((State.reset.axis 1).step + 1) * ggnOne ∧
      (let u := axisState 1 1 { GgnAxis.reset with p := ggnOne } []; ((u.axis 1).step + 1) * ggnOne ≤ (u.axis 1).p) ∧
      s.ggnMode 1 ≠ Ggn.fault ∧ (s.axis 1).link = some ⟨1, 1, 0, 0, 0, 0⟩ ∧ (s.axis 1).linked 1 = true := by decide +kernel

/-! ### Witnesses of hypotheses: field inputs and outputs, CAN -/

/-- The field supplies present, the curb released, fields in effect `eff` and FIO state `x`. -/
def fioState (x : FioSt) (eff : List (Fld × Nat)) (l : List (Fld × Nat)) : State :=
  { st ([(FIO_STAT.VF1_OK, 1), (FIO_STAT.VF2_OK, 1), (CRB_STAT.STATE, 1), (CRB_STAT.STEST_OK, 1), (CRB_SCFG.WORD 0, 1)] ++ l) with
    fio := { x with eff := eff.map fun e => (e.1.key, e.2) }, crb := { CurbSt.reset with doorOpen := 0 } }

theorem witness_field_outputs :
    let s := fioState FioSt.reset [(FIO_DOCFG.ECO 3, 1), (FIO_DOCFG.OLOFF 3, 1)] [(FIO_DOSET.DO, 8)]
    let d := { withFields s [(FIO_DOSTAT.ON, 0x2000)] with crb := { CurbSt.reset with doorOpen := 1 } }
    let on := fioState FioSt.reset [(FIO_DOCFG.OLON 3, 1)] [(FIO_DOSTAT.ON, 8), (FIO_DOSET.DO, 8)]
    let w := fioState { FioSt.reset with watch := 8 } [] [(FIO_DOFLT.OFF_HIGH 3, 1)]
    let l := { w with nowUs := 1000000 }
    (∀ a ∈ [FIO_DOSET.DO.addr, FIO_CMD.WD_REARM.addr, FIO_WDKEY.KEY.addr],
      s.serves .r0 .store Perm.w 4 (BitVec.ofNat 32 a) = true ∧ s.rwfBad .r0 a = false) ∧
      s.crb.doorOpen = 0 ∧ s.crb.discrepant = false ∧ s.held 0 = false ∧ s.held 3 = false ∧ s.get FIO_STAT.TEST_BUSY = 0 ∧
      (fioState FioSt.reset [] [(THM_LATCH.DO12, 1)]).held 12 = true ∧ s.get FIO_STAT.WD_EXP = 0 ∧ d.crb.doorOpen ≠ 0 ∧
      d.curb ≠ Curb.boot ∧ d.held 12 = false ∧ s.fioGet (FIO_DOCFG.ECO 3) = 1 ∧ State.reset.fioGet (FIO_DOCFG.ECO 3) ≠ 1 ∧
      on.diagOn 3 = true ∧ on.on 3 = true ∧ s.diagOn 3 = true ∧ s.on 3 = false ∧ s.fioGet (FIO_DOCFG.OLOFF 3) = 1 ∧
      s.testing 3 = false ∧ on.fioGet (FIO_DOCFG.OLON 3) = 1 ∧ s.get (FIO_DOFLT.OFF_HIGH 3) = 0 ∧ w.fio.watch.testBit 3 = true ∧
      w.get (FIO_DOFLT.OFF_HIGH 3) ≠ 0 ∧ State.reset.on 3 = false ∧ State.reset.diagOn 15 = false ∧
      (fioState FioSt.reset [] [(THM_LATCH.DO12, 1)]).thermOff 12 = true ∧ s.gaitOff 3 = false ∧ s.flag TDM_STAT.PEERCLAIM = false ∧
      mapGet 0 l.fio.watchAt 3 + 1000 * l.fioGet FIO_TPCFG.PERIOD ≤ l.nowUs ∧
      (let p := { s with nowUs := 100000 }; mapGet 0 p.fio.pullAt 3 + 1000 * p.fioGet FIO_ECOCFG.PULLIN ≤ p.nowUs) ∧
      on.bitOf FIO_DOSTAT.RB 12 = false := by decide +kernel

theorem witness_output_tests :
    let s := fioState FioSt.reset [(FIO_DOCFG.LTEST 0, 1), (FIO_DOCFG.DTEST 3, 1)] [(FIO_DOSET.DO, 8), (FIO_DOSTAT.ON, 8)]
    let b := fioState { FioSt.reset with watch := 16, discards := [(6, 2)] } [(FIO_DOCFG.DTEST 3, 1)]
      [(FIO_DOSET.DO, 8), (FIO_DOSTAT.ON, 8), (FIO_STAT.TEST_BUSY, 1), (FIO_STAT.TESTCH, 15), (FIO_DOFLT.OFF_HIGH 4, 1)]
    s.diagOn 0 = true ∧ s.held 0 = false ∧ s.fioGet (FIO_DOCFG.LTEST 0) = 1 ∧ s.on 0 = false ∧ s.diagOn 3 = true ∧
      s.held 3 = false ∧ s.fioGet (FIO_DOCFG.DTEST 3) = 1 ∧ (s.get FIO_DOSET.DO).testBit 3 = true ∧ s.get FIO_STAT.TEST_BUSY = 0 ∧
      b.get FIO_STAT.TEST_BUSY ≠ 0 ∧ 2 ≤ mapGet 0 b.fio.discards 6 ∧ b.get FIO_STAT.TESTCH = 15 ∧ b.fio.watch.testBit 4 = true ∧
      b.get (FIO_DOFLT.OFF_HIGH 4) ≠ 0 ∧ s.diagOn 15 = true ∧
      b.diagOn 15 = true ∧ State.reset.diagOn 15 = false ∧ b.fio.failing.testBit (2 * 15) = false ∧ b.on 4 = false := by decide +kernel

theorem witness_output_watchdog :
    let w := fioState { FioSt.reset with wdTicks := 100000 } [(FIO_WDCFG.EN, 1), (FIO_DOCFG.SAFE 1, 1), (FIO_DOCFG.SAFE 2, 2)]
      [(FIO_STAT.WD_RUN, 1), (FIO_DOSET.DO, 4)]
    let x := fioState FioSt.reset [] [(FIO_STAT.WD_EXP, 1)]
    w.get FIO_STAT.WD_RUN ≠ 0 ∧ 10 * w.fioGet FIO_WDCFG.TMO ≤ w.fio.wdTicks ∧ w.fioGet FIO_WDCFG.EN ≠ 0 ∧
      State.reset.fioGet FIO_WDCFG.EN = 0 ∧ w.ioPowered = true ∧ w.gaitOff 1 = false ∧ w.thermOff 0 = false ∧ x.get FIO_STAT.WD_EXP ≠ 0 ∧
      x.crb.doorOpen = 0 ∧ x.crb.discrepant = false ∧ x.ioPowered = true ∧ x.get FIO_STAT.TEST_BUSY = 0 ∧
      x.bitOf FIO_DOSTAT.RB 12 = false ∧ x.on 12 = false ∧ (withFields x [(FIO_DOSTAT.RB, 0x2000)]).bitOf FIO_DOSTAT.RB 13 = true ∧
      (withFields x [(FIO_DOSTAT.ON, 0x2000)]).on 13 = true ∧ State.reset.get FIO_STAT.WD_EXP = 0 := by decide +kernel

theorem witness_field_inputs :
    let s := fioState { FioSt.reset with xs := [(0, 1)], cntSeen := 1 }
      [(FIO_TSCFG.EN, 3), (FIO_DICFG.TSEN 0, 1), (FIO_DICFG.TSSEL 0, 0), (FIO_CNTCFG.EDGE 0, 2), (FIO_CNTCMP.CMP 0, 1),
        (FIO_DICFG.EDGE 11, 3)] [(FIO_DISTAT.RAW, 0x800)]
    let p := inGait 1 [(FIO_DIWAKE.DI, 0x800), (PWR_WAKEEN.DI, 1)]
    let p := { p with sys := { p.sys with booting := false } }
    { s with nowUs := 1000000 }.filterUs 11 ≤ 1000000 ∧ mapGet 0 s.fio.rawAt 11 = 0 ∧ mapGet 0 s.fio.cntAt 0 = 0 ∧
      1000 * s.fioGet (FIO_CNTCFG.PTMO 0) ≤ 10000000 ∧ p.sys.booting = false ∧
      s.ioPowered = true ∧ (s.fioGet FIO_TSCFG.EN).testBit 0 = true ∧ s.fio.tsOff.testBit 0 = false ∧
      s.fioGet (FIO_DICFG.TSEN 0) = 1 ∧ s.fioGet (FIO_DICFG.TSSEL 0) = 0 ∧ mapGet 0 s.fio.xs 0 = 1 ∧
      s.fioGet (FIO_CNTCFG.EDGE 0) = 2 ∧ s.fio.cntSeen.testBit 0 = true ∧ s.fio.cntSeen.testBit 3 = false ∧
      s.fioGet (FIO_CNTCMP.CMP 0) = (s.get (FIO_CNT.COUNT 0) + 1) % 2 ^ 32 ∧ s.fio.cntTimed.testBit 0 = false ∧
      s.bitOf FIO_DISTAT.RAW 11 = true ∧ s.fio.xsForce.testBit 11 = false ∧ s.bitOf FIO_DISTAT.FILT 11 = false ∧
      s.fioGet (FIO_DICFG.EDGE 11) = 3 ∧ p.gait = Gait.paddock ∧ p.bitOf FIO_DIWAKE.DI 11 = true ∧
      p.flag PWR_WAKEEN.DI = true ∧ p.power.trans = none ∧ State.reset.bitOf FIO_DIWAKE.DI 0 = false ∧
      (State.reset.set PWR_GAIT.RIDERS 0).ioPowered = false := by decide +kernel

/-- Controller 0 on the bus, object 1 receiving identifier 0x123, object 5 with a frame pending. -/
def canState (x : CanSt) (l : List (Fld × Nat)) : State :=
  { st ([(CNx_CTRL.MODE 0, 0), (CNx_STAT.STATE 0, 1), (CNx_OCFG.EN 0 1, 1), (CNx_OID.ID 0 1, 0x123 * 2 ^ 18),
      (CNx_OMASK.MASK 0 1, 2 ^ 29 - 1), (CNx_OCFG.EN 0 5, 1), (CNx_OCFG.DIR 0 5, 1), (CNx_OSTAT.TXPEND 0 5, 1)] ++ l) with
    can := x, r0 := { CoreSt.reset with tags := [(6, .issued 5)] } }

def aCanFrame : CanFrame := ⟨false, false, false, false, false, BitVec.ofNat 29 (0x123 * 2 ^ 18), [1, 2]⟩

theorem witness_can_reception :
    let s := canState CanSt.reset []
    let n := canState CanSt.reset [(CNx_OSTAT.NEW 0 1, 1), (CNx_OCFG.NEXT 0 1, 1), (CNx_ORTO.MS 0 1, 10)]
    s.canOn 0 = true ∧ State.reset.canOn 0 = false ∧ s.get (CNx_OCFG.EN 0 1) ≠ 0 ∧ s.get (CNx_OCFG.DIR 0 1) = 0 ∧
      s.get (CNx_OCFG.IDE 0 1) = 0 ∧ s.get (CNx_OCFG.FMT 0 1) = b2n aCanFrame.fdf ∧
      (∀ b < 29, 18 ≤ b → s.bitOf (CNx_OMASK.MASK 0 1) b = true → aCanFrame.id.getLsbD b = s.bitOf (CNx_OID.ID 0 1) b) ∧
      s.get (CNx_OCFG.EN 0 0) = 0 ∧ (∀ m < 128, m ≠ 1 → s.get (CNx_OCFG.EN 0 m) = 0 ∨ s.get (CNx_OCFG.DIR 0 m) ≠ 0) ∧
      aCanFrame.remote = false ∧ s.get (CNx_OSTAT.NEW 0 1) = 0 ∧ n.get (CNx_OSTAT.NEW 0 1) ≠ 0 ∧
      n.get (CNx_OCFG.NEXT 0 1) ≠ 0 ∧ s.canMode 0 = Can.normal ∧ s.get (CNx_STAT.REC 0) ≤ 127 ∧
      127 < (canState CanSt.reset [(CNx_STAT.REC 0, 128)]).get (CNx_STAT.REC 0) ∧ n.canUp 0 = true ∧
      n.get (CNx_ORTO.MS 0 1) ≠ 0 ∧ n.get (CNx_OSTAT.TMO 0 1) = 0 ∧ (canState CanSt.reset [(CNx_CTRL.MODE 0, 1)]).canMode 0 = Can.restricted ∧
      mapGet n.can.upAt n.can.rxAt (128 * 0 + 1) + 1000 * n.get (CNx_ORTO.MS 0 1) ≤ 10000 := by decide +kernel

theorem witness_can_transmission :
    let s := canState { CanSt.reset with txf := [(5, some (.r0, 6))] } []
    let o := canState CanSt.reset [(CNx_OCFG.ONESHOT 0 5, 1), (CNx_OCFG.IRQ 0 5, 1)]
    (∀ a ∈ [(CNx_TXREQ.BITS 0 0).addr, (CNx_TXREQ.BITS 1 3).addr, (CNx_TXABORT.BITS 0 0).addr, (CNx_CMD.RECOVER 0).addr],
      s.serves .r0 .store Perm.w 4 (BitVec.ofNat 32 a) = true ∧ s.rwfBad .r0 a = false) ∧
      s.canUp 0 = true ∧ s.get (CNx_OCFG.EN 0 5) ≠ 0 ∧ s.get (CNx_OCFG.DIR 0 5) ≠ 0 ∧ s.get (CNx_OCFG.GATED 0 5) = 0 ∧
      (canState CanSt.reset [(CNx_OCFG.GATED 0 5, 1), (TDM_CTRL.EN, 1)]).gateClosed = true ∧
      s.get (CNx_OSTAT.TXPEND 0 5) ≠ 0 ∧ s.get (CNx_OSTAT.TXPEND 0 6) = 0 ∧ s.canBus 0 none = some 5 ∧
      s.canBus 0 (some 5) = some 5 ∧ s.canBus 0 (some 6) = none ∧ mapGet none s.can.txf (128 * 0 + 5) = some (.r0, 6) ∧
      s.tandem = false ∧ s.tag .r0 6 = .issued 5 ∧ s.get (CNx_OCFG.ONESHOT 0 5) = 0 ∧ o.get (CNx_OCFG.ONESHOT 0 5) ≠ 0 ∧
      o.can.txf = [] ∧ o.get (CNx_OCFG.IRQ 0 5) ≠ 0 ∧ s.gait ≠ Gait.paddock ∧ State.reset.canSends 0 = false := by decide +kernel

theorem witness_can_errors_and_modes :
    let s := canState CanSt.reset [(CNx_STAT.TEC 0, 248)]
    let b := canState { CanSt.reset with recovering := 1 } [(CNx_STAT.STATE 0, 3)]
    s.canOn 0 = true ∧ (canState CanSt.reset [(CNx_CTRL.PXE 0, 1)]).get (CNx_CTRL.PXE 0) ≠ 0 ∧ s.get (CNx_STAT.TEC 0) ≤ 255 ∧
      s.get (CNx_STAT.REC 0) ≤ 255 ∧ 256 ≤ s.get (CNx_STAT.TEC 0) + 8 ∧ ¬ 256 ≤ s.get (CNx_STAT.TEC 0) + 7 ∧
      (canState CanSt.reset [(CNx_CTRL.MODE 0, 1)]).canMode 0 = Can.restricted ∧ s.canMode 0 ≠ Can.restricted ∧
      s.get (CNx_STAT.STATE 0) = 1 ∧ b.canUp 0 = true ∧ b.get (CNx_STAT.STATE 0) = 3 ∧
      b.get (CNx_CTRL.MODE 0) ≠ Can.init ∧ b.can.recovering.testBit 0 = true ∧
      (st [(CNx_CTRL.MODE 0, 0)]).get (CNx_STAT.STATE 0) = 0 ∧ State.reset.get (CNx_CTRL.MODE 0) = Can.init ∧
      (∀ a ∈ [0x600C0010, 0x600D0010, (CNx_OCFG.EN 0 5).addr],
        s.serves .r0 .store Perm.w 4 (BitVec.ofNat 32 a) = true ∧ s.rwfBad .r0 a = false ∧ fieldsAt a ≠ []) ∧
      (∀ f ∈ fieldsAt (CNx_OCFG.EN 0 5).addr, s.get f < 2 ^ f.width) ∧
      (let v := Fld.of (CNx_NBT.NBRP 0) 0 + 2 ^ (CNx_NBT.NTSEG1 0).lsb
       Fld.of (CNx_NBT.NTSEG1 0) v = 1) := by decide +kernel

/-! ### Witnesses of hypotheses: Ethernet and network time -/

/-- Ethernet and the time unit running in the states `e` and `p`. -/
def netState (e : EthSt) (p : PtpSt) (l : List (Fld × Nat)) : State :=
  { st ([(SYS_CLKEN.ETH_EN, 1), (ETH_CTRL.P1EN, 1), (ETH_CTRL.P2EN, 1)] ++ l) with
    eth := { e with eff := ([(ETH_CTRL.P1EN, 1), (ETH_CTRL.P2EN, 1)] ++ l).map fun (x : Fld × Nat) => (x.1.key, x.2) }, ptp := p, r0 := { CoreSt.reset with tags := [(9, .issued 4)] } }

/-- A UDP frame of txf with a timestamp asked for. -/
def aTx : EthTx := ⟨.r0, 9, true, true, 0x0A000002, 5000, [1, 2]⟩

theorem witness_ethernet_switch :
    let s := netState { EthSt.reset with table := [⟨0x020000000001, 2, 0⟩] } PtpSt.reset [(PTP_CTRL.TC_EN, 1)]
    let r := { State.reset with sys := { SysSt.reset with held := true } }
    s.ethUp = true ∧ s.ethPort 1 = true ∧ s.ethPort 2 = true ∧ s.ethPort 0 = true ∧ r.inReset = true ∧ r.ethPort 1 = true ∧
      State.reset.ethUp = false ∧ State.reset.inReset = false ∧ s.eth.table.length < 256 ∧
      (s.eth.table.find? fun e => decide (e.mac = 0x020000000001)) = some ⟨0x020000000001, 2, 0⟩ ∧
      (0x020000000001 : BitVec 48).toNat / 2 ^ 40 % 2 = 0 ∧ (0xFFFFFFFFFFFF : BitVec 48).toNat / 2 ^ 40 % 2 = 1 ∧
      s.get PTP_CTRL.TC_EN ≠ 0 ∧ (st [(PTP_CTRL.TC_EN, 0)]).get PTP_CTRL.TC_EN = 0 := by decide +kernel

theorem witness_ethernet_arp :
    let ip : BitVec 32 := 0x0A000002
    let net := [(ETH_IPADDR.IP, 0x0A000001), (ETH_NETMASK.IP, 0xFFFFFF00), (ETH_CTRL.ICMP_EN, 1)]
    let a (n : Nat) := netState { EthSt.reset with asking := [(ip.toNat, n)], tx := [aTx] } PtpSt.reset net
    let k := netState { EthSt.reset with arp := [⟨ip.toNat, 7, 0⟩], tx := [aTx] } PtpSt.reset net
    (a 0).ethUp = true ∧ (a 0).ethGet ETH_IPADDR.IP = 0x0A000001 ∧ (a 0).ethGet ETH_CTRL.ICMP_EN ≠ 0 ∧
      (∀ n ∈ [0, 2, 3], ((a n).eth.asking.find? fun e => decide (e.1 = ip.toNat)) = some (ip.toNat, n)) ∧
      (State.reset.eth.asking.find? fun e => decide (e.1 = ip.toNat)) = none ∧ (a 3).eth.tx = [aTx] ∧ aTx.udp = true ∧
      (a 3).nextHop aTx.dip = ip.toNat ∧ (a 3).arpOf ip.toNat = none ∧ State.reset.eth.tx = [] ∧
      k.arpOf (k.nextHop ip.toNat) = some ⟨ip.toNat, 7, 0⟩ ∧ k.nowUs < 0 + 60000000 ∧ k.txReady = some aTx ∧
      (a 3).txReady = none ∧ k.tandem = false ∧ k.tag .r0 9 = .issued 4 ∧ k.ptp.tsq.length < 8 ∧
      8 ≤ (List.replicate 8 (0, 0) : List (Nat × Nat)).length := by decide +kernel

/-- The bytes of a telegram with its CRC. -/
def telegram (body : List Nat) : List Nat := body ++ leBytes 4 (crc32c body)

/-- A DEMAND and a SERVICE telegram for unique id 7, without valid age. -/
def demand : List Nat :=
  telegram ([0xA7, 1, 0x10, 0] ++ leBytes 4 5 ++ leBytes 4 7 ++ leBytes 4 0 ++ [1, 0, 0, 0] ++ leBytes 4 1000 ++ leBytes 4 9 ++
    leBytes 4 0)
def service : List Nat :=
  telegram ([0xA7, 1, 0x11, 0] ++ leBytes 4 5 ++ leBytes 4 7 ++ leBytes 4 0 ++ [1, 0, 2, 0] ++ leBytes 4 0)

theorem witness_plant_telegrams :
    let s := withRaw (netState EthSt.reset PtpSt.reset [(ETH_CTRL.PLANT_EN, 1)]) SYS_UID0.UID 7
    let word (b : List Nat) (k : Nat) : Nat := ofLe ((b.drop k).take 4)
    s.ethUp = true ∧ s.ethGet ETH_CTRL.PLANT_EN ≠ 0 ∧ s.ethGet ETH_UDPPORT.PORT < 65536 ∧ s.ethGet ETH_PLANTIP.IP = 0 ∧
      demand.length = 36 ∧ service.length = 28 ∧ demand.getD 2 0 = 0x10 ∧ service.getD 2 0 = 0x11 ∧
      (∀ k ∈ [17, 18, 19, 28, 29, 30, 31], demand.getD k 0 = 0) ∧ (∀ k ∈ [20, 21, 22, 23], service.getD k 0 = 0) ∧
      word demand 32 = crc32c (demand.take 32) ∧ word service 24 = crc32c (service.take 24) ∧
      word demand 8 = s.get SYS_UID0.UID ∧ word service 8 = s.get SYS_UID0.UID ∧ mapGet none s.eth.rxSeq 0x10 = none ∧
      mapGet none s.eth.rxSeq 0x11 = none ∧ s.get PTP_STAT.TVALID = 0 ∧ (∀ b ∈ demand ++ service, b < 256) := by decide +kernel

theorem witness_ethernet_sends :
    let s := netState EthSt.reset PtpSt.reset [(GGN_PUB.PUBSEL, 3), (GGN_CTRL.RUN, 1), (CNB_DISP.EN, 1), (CNB_DISP.OBJ, 5),
      (CNx_OCFG.EN 1 5, 1), (CNx_OCFG.DIR 1 5, 1), (CNx_OCFG.ONESHOT 1 5, 1), (CNx_OCFG.GATED 1 5, 1), (CNx_OCFG.FMT 1 5, 1),
      (CNx_OCFG.LEN 1 5, 24), (ETH_DISPIP.IP, 0x0A000002), (ETH_PLANTIP.IP, 0x0A000002), (ETH_TELCFG.EN, 1), (ETH_STAT.DEM_OK, 1),
      (PTP_CTRL.MASTER_EN, 1), (PTP_STAT.MASTER, 1)]
    s.get GGN_PUB.PUBSEL ≠ 0 ∧ s.ioPowered = true ∧ s.get GGN_CTRL.RUN ≠ 0 ∧ s.dispatchUsable = true ∧
      State.reset.dispatchUsable = false ∧ (s.get GGN_PUB.PUBSEL).testBit 0 = true ∧ (s.get GGN_PUB.PUBSEL).testBit 1 = true ∧
      s.get CNB_DISP.OBJ < 128 ∧ s.get (CNx_OSTAT.TXPEND 1 5) = 0 ∧ s.gateClosed = false ∧
      (withFields s [(TDM_CTRL.EN, 1)]).gateClosed = true ∧ s.ethGet ETH_DISPIP.IP ≠ 0 ∧ State.reset.ethGet ETH_DISPIP.IP = 0 ∧
      s.get ETH_STAT.DEM_OK ≠ 0 ∧ State.reset.get ETH_STAT.DEM_OK = 0 ∧ s.ethGet ETH_TELCFG.EN ≠ 0 ∧ s.ethGet ETH_PLANTIP.IP ≠ 0 ∧
      s.ggn.pubAt + 100 * s.get GGN_PUB.PERIOD ≤ 60000000 ∧ s.eth.demAt + 1000 * s.ethGet ETH_DEMCFG.DTMO ≤ 60000000 ∧
      s.eth.telAt + 1000 * s.ethGet ETH_TELCFG.PERIOD ≤ 60000000 ∧ s.nowUs = 0 ∧
      s.flag ETH_STAT.P1LINK = false ∧ s.ethUp = true ∧ s.get PTP_CTRL.MASTER_EN ≠ 0 ∧ s.get PTP_STAT.MASTER ≠ 0 ∧
      State.reset.get PTP_STAT.MASTER = 0 := by decide +kernel

theorem witness_time_unit :
    let s (x : Nat) := netState EthSt.reset { PtpSt.reset with validAt := some 0, jumps := 2 }
      [(PTP_CTRL.EN, 1), (PTP_STAT.STATE, x), (PTP_STAT.TVALID, 1), (PTP_JUMPTHR.JUMPTHR, 1)]
    let free := netState EthSt.reset PtpSt.reset [(PTP_CTRL.AUTOFIRST, 0)]
    let p (y : PtpSt) := netState EthSt.reset y []
    (∀ x ∈ [1, 2, 3], (s x).get PTP_STAT.STATE = x) ∧ free.get PTP_STAT.STATE = Ptp.free ∧ free.get PTP_CTRL.AUTOFIRST = 0 ∧
      (netState EthSt.reset PtpSt.reset [(PTP_CTRL.AUTOFIRST, 1)]).get PTP_CTRL.AUTOFIRST ≠ 0 ∧ (s 1).ptpUp = true ∧
      (s 1).get PTP_CTRL.EN ≠ 0 ∧ (s 1).get PTP_CTRL.SRC = 0 ∧ (s 1).get PTP_STAT.MASTER = 0 ∧ (s 1).get PTP_STAT.TVALID ≠ 0 ∧
      ((1000 : Int).natAbs : Int) ≤ 1000 * ((s 1).get PTP_JUMPTHR.JUMPTHR : Int) ∧
      ¬ ((1001 : Int).natAbs : Int) ≤ 1000 * ((s 1).get PTP_JUMPTHR.JUMPTHR : Int) ∧ 2 ≤ (s 1).ptp.jumps ∧ free.ptp.jumps < 2 ∧
      (1 : BitVec 64).toNat ≠ (s 1).ptp.gm ∧ (s 1).gmid = (s 1).ptp.gm ∧
      (withFields (s 1) [(PTP_GMID0.ID, 1)]).gmid ≠ (s 1).ptp.gm ∧ (inGait 1 []).ptpUp = false ∧
      (s 3).ptp.validAt = some 0 ∧ (s 3).nowUs ≤ 0 + 1000000 * (s 3).ptp.syncTmo ∧
      (s 1).ptp.validAt.getD 0 + 1000000 * (s 1).ptp.syncTmo ≤ 4000000000000 ∧
      (s 3).ptp.fixedAt.getD 0 + 1000000 * (s 3).ptp.holdMax ≤ 4000000000000 ∧ free.ptp.validAt = none ∧
      (∀ a ∈ [PTP_CMD.TIME_ACCEPT.addr, (PTP_CMP.TARGET 0).addr, (PTP_CMP.TARGET 3).addr],
        free.serves .r0 .store Perm.w 4 (BitVec.ofNat 32 a) = true ∧ free.rwfBad .r0 a = false) ∧
      (p { PtpSt.reset with off := true }).ptp.off = true ∧ (p { PtpSt.reset with first := some (-5) }).ptp.first = some (-5) ∧
      (p { PtpSt.reset with accept := true }).ptp.accept = true ∧ free.ptp.off = false ∧ free.ptp.first = none ∧
      free.ptp.accept = false ∧ free.serves .r0 .load Perm.r 4 (BitVec.ofNat 32 PTP_TIMELO.NS.addr) = true ∧
      free.tandem = false := by decide +kernel

theorem witness_pulses_and_compares :
    let s := netState EthSt.reset { PtpSt.reset with edge := some 0, tsq := [(1, 2)] } [(PTP_PPSCFG.IEN, 1), (PTP_CTRL.SRC, 1),
      (PTP_CTRL.EN, 1), (PTP_PPSCFG.OEN, 1), (PTP_PPSCFG.OFREE, 1), (PTP_CMPSTAT.ARMED, 8)]
    s.ptpUp = true ∧ s.get PTP_PPSCFG.IEN ≠ 0 ∧ State.reset.get PTP_PPSCFG.IEN = 0 ∧ s.get PTP_CTRL.SRC = 1 ∧ s.get PTP_CTRL.EN ≠ 0 ∧
      ((((1000100000 : BitVec 64).toNat : Int) - 0 - 1000000000).natAbs : Int) ≤ 100000 ∧
      ¬ ((((1000100001 : BitVec 64).toNat : Int) - 0 - 1000000000).natAbs : Int) ≤ 100000 ∧ s.ptp.edge = some 0 ∧
      s.get PTP_PPSCFG.OEN ≠ 0 ∧ s.get PTP_PPSCFG.OFREE ≠ 0 ∧ (s.devTime + (2 ^ 32 - 0)) % 2 ^ 32 < 2 ^ 31 ∧
      ¬ (s.devTime + (2 ^ 32 - 1)) % 2 ^ 32 < 2 ^ 31 ∧ s.bitOf PTP_CMPSTAT.ARMED 3 = true ∧ s.bitOf PTP_CMPSTAT.ARMED 0 = false ∧
      { s with nowUs := 2000000 }.ptp.edgeAt + 2000000 ≤ 2000000 ∧ timeReached (s.devTime + 100050) 100050 = true ∧
      timeReached (s.devTime + 100050) (s.get (PTP_CMP.TARGET 3)) = true ∧
      s.ptp.tsq = [(1, 2)] ∧ (withFields s [(PTP_STAT.STATE, 1)]).get PTP_STAT.STATE = Ptp.locked := by decide +kernel

/-! ### Witnesses of hypotheses: tandem pair, commits, update, whole machine -/

/-- Tandem mode in pair state `p` with the block's state `x`, seat A, and more fields as they are. -/
def pairState (p : Nat) (x : TdmSt) (l : List (Fld × Nat)) : State :=
  let s := { st [(TDM_CTRL.EN, 1)] with tdm := x }
  ([(TDM_STAT.STATE, p), (TDM_STAT.SEAT, 0), (TDM_STAT.LINK, 1)] ++ l).foldl (fun s e => withRaw s e.1 e.2) s

theorem witness_tandem_start :
    let s := pairState Pair.hello TdmSt.reset ((List.range 8).map fun i => (UPD_RUNID.WORD i, i))
    let a := pairState Pair.alone { TdmSt.reset with hello := true, holdoff := true } [(TDM_STAT.CLAIM, 1), (TDM_CTRL.AUTORESYNC, 1)]
    let l := pairState Pair.alone TdmSt.reset [(TDM_STAT.PEERCLAIM, 1)]
    (∀ r ∈ [TDM_CTRL.EN.addr, TDM_CMD.RESYNC.addr, TDM_CLAIMREF.KEY.addr],
      State.reset.serves .r0 .store Perm.w 4 (BitVec.ofNat 32 r) = true ∧ State.reset.rwfBad .r0 r = false) ∧
      State.reset.get TDM_CTRL.EN = 0 ∧ s.get TDM_CTRL.EN ≠ 0 ∧ a.get TDM_STAT.CLAIM ≠ 0 ∧ s.get TDM_STAT.CLAIM = 0 ∧
      a.get FIO_DOSET.DO / 4096 % 8 = 0 ∧ (st [(FIO_DOSET.DO, 4096)]).get FIO_DOSET.DO / 4096 % 8 ≠ 0 ∧
      (∀ i, i < 8 → s.get (UPD_RUNID.WORD i) < 2 ^ 32) ∧ s.tandem = true ∧ s.get TDM_STAT.STATE = Pair.hello ∧
      (1 : BitVec 1).toNat ≠ s.get TDM_STAT.SEAT ∧
      (∀ i, i < 8 → s.get (UPD_RUNID.WORD i) =
        (0x700000006000000050000000400000003000000020000000100000000 : BitVec 256).toNat / 2 ^ (32 * i) % 2 ^ 32) ∧
      s.get CRB_SCFGCRC.CRC < 2 ^ 32 ∧ s.get PRT_CRC.CRC < 2 ^ 32 ∧ s.get TDM_CFGCRC.CRC < 2 ^ 32 ∧ s.get TDM_DECLLEN.LEN < 1024 ∧
      l.get TDM_STAT.STATE = Pair.alone ∧ l.get TDM_STAT.CLAIM = 0 ∧ l.get TDM_STAT.LINK ≠ 0 ∧ l.get TDM_STAT.PEERCLAIM ≠ 0 ∧
      (pairState Pair.feed TdmSt.reset []).get TDM_SNAPSTAT.ROUND < 8 ∧
      8 ≤ (pairState Pair.load TdmSt.reset [(TDM_SNAPSTAT.ROUND, 8)]).get TDM_SNAPSTAT.ROUND ∧ a.get TDM_CTRL.AUTORESYNC ≠ 0 ∧
      a.tdm.holdoff = true ∧ a.tdm.hello = true ∧ a.get TDM_STAT.PEERCLAIM = 0 ∧ keysRise emptySnapshot.mem = true ∧
      State.reset.get TDM_STAT.STATE ≠ Pair.hello ∧
      (pairState Pair.load TdmSt.reset [(TDM_SNAPSTAT.PAGES, 64)]).get TDM_SNAPSTAT.PAGES ≤ 64 ∧
      64 < (pairState Pair.load TdmSt.reset [(TDM_SNAPSTAT.PAGES, 65)]).get TDM_SNAPSTAT.PAGES := by decide +kernel

theorem witness_tandem_steps :
    let w (x : TdmSt) (l : List (Fld × Nat)) : State :=
      (pairState Pair.standby x l).setRun .r0 (.wfe true) |>.setRun .r1 (.wfe true)
    let b : Bundle := { okBundle with mem := [(0x20000000, 7)], planned := true }
    let c (l : List (Fld × Nat)) := (pairState Pair.active { TdmSt.reset with due0 := true, digests := [(3, 5)] } l).setRun .r0 (.wfe true)
    (pairState Pair.active TdmSt.reset [(TDM_STAT.CLAIM, 1)]).tickMaster = true ∧
      (pairState Pair.active TdmSt.reset [(TDM_STAT.PEERCLAIM, 1)]).tickMaster = false ∧
      (c []).tandem = true ∧ ((c []).core .r0).run = .wfe true ∧ (c []).tickDue .r0 = true ∧ (c []).isStandby = false ∧
      (c []).tickDue .r1 = false ∧ (c []).linkUp = true ∧ State.reset.linkUp = false ∧ b.string = [] ∧
      (w TdmSt.reset []).tdm.bundles.length < 8 ∧ 8 ≤ (w { TdmSt.reset with bundles := List.replicate 8 b } []).tdm.bundles.length ∧
      (w TdmSt.reset []).isStandby = true ∧ (w TdmSt.reset []).r0.run = .wfe true ∧ (w TdmSt.reset []).r1.run = .wfe true ∧
      (w { TdmSt.reset with bundles := [b] } []).tdm.bundles = [b] ∧ b.frames = [] ∧ b.posts = [] ∧ b.autoJobs = [] ∧
      b.dispatched = [] ∧ b.stopped = [] ∧ b.gait = [] ∧ b.rel = [] ∧ b.mem = [(0x20000000, 7)] ∧ replicated 0x20000000 = true ∧
      (w TdmSt.reset []).tdm.listed = [] ∧ (w TdmSt.reset []).herd.jobs = [] ∧
      ((c []).tdm.digests.find? fun e => decide (e.1 = 3)) = some (3, 5) ∧
      ((c []).tdm.digests.find? fun e => decide (e.1 = 4)) = none := by decide +kernel

theorem witness_tandem_claims :
    let a := pairState Pair.active { TdmSt.reset with refreshed := true } [(TDM_STAT.CLAIM, 1), (TDM_STAT.GATE, 1)]
    let p := pairState Pair.standby TdmSt.reset [(TDM_STAT.PEERCLAIM, 1)]
    let t := pairState Pair.standby { TdmSt.reset with handback := true } [(TDM_CTRL.CLAIM_EN, 1), (CRB_STAT.STATE, 1)]
    let g := pairState Pair.active TdmSt.reset [(TDM_STAT.CLAIM, 1), (CRB_STAT.STATE, 1), (TDM_MATCHCNT.COUNT, 0xFFFFFFFF)]
    let g := withRaw { g with regs := g.regs.filter fun e => e.1 ≠ TDM_STAT.SEAT.key } TDM_STAT.SEAT 1
    let h := { pairState Pair.off TdmSt.reset [(PWR_GAIT.GAIT, 1), (TDM_CTRL.WAKEPEER, 1), (PWR_WAKEEN.TANDEM, 1)] with
      power := { State.reset.power with trans := some ⟨4, Gait.walk, 1, false⟩ } }
    a.get TDM_STAT.GATE ≠ 0 ∧ a.get TDM_STAT.PEERCLAIM = 0 ∧ p.get TDM_STAT.PEERCLAIM ≠ 0 ∧ p.isStandby = true ∧
      p.tdm.notice = none ∧ p.tdm.handback = false ∧ p.inStep = true ∧ 2 ≤ p.gait ∧ t.isStandby = true ∧
      t.get TDM_CTRL.CLAIM_EN ≠ 0 ∧ t.curb = Curb.ready ∧ t.tdm.handback = true ∧ t.get TDM_STAT.SEAT = 0 ∧
      t.get TDM_STAT.PEERCLAIM = 0 ∧ g.get TDM_STAT.SEAT = 1 ∧ g.get TDM_STAT.STATE = Pair.active ∧ g.get TDM_CTRL.HANDBACK ≠ 0 ∧
      g.get TDM_PROVE.PROVE ≤ g.get TDM_MATCHCNT.COUNT ∧ g.curb = Curb.ready ∧ g.get PWR_GAIT.BUSY = 0 ∧ g.ggnMode 0 ≠ Ggn.safe ∧
      h.hbGait = true ∧ State.reset.hbGait = false ∧ h.get TDM_CTRL.WAKEPEER ≠ 0 ∧ h.waking = true ∧ h.get PWR_WAKEEN.TANDEM ≠ 0 ∧
      ({ h with power := State.reset.power } : State).power.trans = none ∧ h.gait = Gait.paddock ∧ a.gait = Gait.walk ∧
      a.groomWalk = false ∧ a.crb.doorOpen ≠ 0 ∧ t.curb ≠ Curb.boot ∧
      ({ a with crb := { CurbSt.reset with doorOpen := 0 } } : State).crb.doorOpen = 0 ∧ CurbSt.reset.discrepant = false ∧
      h.hbGated = false ∧ ({ h with power := { h.power with gated := 63 } } : State).hbGated = true ∧
      ({ h with sys := { h.sys with booting := false } } : State).sys.booting = false ∧ (withRaw (st [(TDM_CTRL.EN, 1)]) TDM_STAT.LINK 0).get TDM_STAT.LINK = 0 := by decide +kernel

/-- Commits in the queue, in order: settings, a ledger block, a record. -/
def commits : List Commit :=
  [{ Commit.blank .settings with index := 31 }, { Commit.blank .ledger with index := 3, owner := some (.r0, 5) }, Commit.blank .log]

/-- The MRAM port with queue `q` and commit `r` running, the reserve holding `e` in µJ. -/
def nvmState (q : List Commit) (r : Option Commit) (e : Nat) : State :=
  { st [(NVM_RSVE.UJ, e)] with
    nvm := { State.reset.nvm with queue := q, running := r }, r0 := { CoreSt.reset with tags := [(5, .issued 2)] } }

theorem witness_commits :
    let s := nvmState commits none 600
    let c : Commit := Commit.blank .log
    s.nvm.running = none ∧ s.nvm.queue = (commits.take 2) ++ c :: [] ∧ (nvmState [{ Commit.blank .log with deferred := some 0 }] none 0).nvm.queue.find? (fun c => match c.deferred with
        | some d => decide (d + 1000000 * s.get NVM_CFG.DEFTMO ≤ 4000000000)
        | none => false) = some { Commit.blank .log with deferred := some 0 } ∧ (∀ x ∈ commits, x.kind ≠ .seal ∧ s.logWaits x = false) ∧
      (∀ x ∈ commits.take 2, s.get NVM_RSVE.UJ < x.kind.needs) ∧ c.kind.needs ≤ s.get NVM_RSVE.UJ ∧
      (commits.take 2 ++ [c]).Pairwise (fun a b => Commit.same a b = false) ∧ (∀ x ∈ s.nvm.queue, x.deferred = none) ∧
      s.get LOG_STAT.LAYOUT = 0 ∧ (nvmState [] (some c) 0).nvm.running = some c ∧ c.owner = none ∧
      (∀ x ∈ commits, (nvmState [] (some x) 0).nvm.running = some x) ∧ s.tag .r0 5 = .issued 2 ∧ s.tandem = false ∧
      (commits.map (·.index)) = [31, 3, 0] := by decide +kernel

/-- An empty memory has its first slot free for a record. -/
theorem witness_record_slot : State.reset.slotValid 0 = false ∧ (State.reset.slotValid 16383 = false) ∧
    State.reset.placeNative 0 = some (0, false) := by decide +kernel

theorem witness_recorder :
    let s := { st [(LOG_LIMST.SUPP 0, 3), (LOG_LIMST.SUPP 1, 3), (LOG_LIM.AUTO 2, 1), (LOG_LIMST.BOUND 2, 7), (LOG_LIM.BURST 2, 1),
        (LOG_LIMST.TOKENS 2, 1)] with
      nvm := { State.reset.nvm with lim := [(0, ⟨0, 59, 1, 0, 0, 0⟩), (1, ⟨0, 58, 1, 0, 0, 0⟩), (2, ⟨0, 0, 0, 0, 0, 599⟩)] } }
    let r := { st [(SYS_PWRSTAT.AUX_OK, 1)] with nvm := { State.reset.nvm with wasFull := true, testRun := true, clearing := some 8192 } }
    60000000 ≤ s.get (LOG_LIM.RATE 2) * (60000000 - (s.lim 2).tokAt) ∧ State.reset.get NVM_RSVV.MV < 4500 ∧
      State.reset.nvm.countersAt + 60 ≤ (st [(NVM_OPTIME.SEC, 60)]).get NVM_OPTIME.SEC ∧
      State.reset.get NVM_OPTIME.SEC < State.reset.nvm.countersAt + 60 ∧ 0 < s.get (LOG_LIMST.SUPP 0) ∧ 59 ≤ (s.lim 0).age ∧ 0 < s.get (LOG_LIMST.SUPP 1) ∧ (s.lim 1).age < 59 ∧
      s.get (LOG_LIMST.SUPP 2) = 0 ∧ s.get (LOG_LIM.AUTO 2) = 1 ∧ s.get (LOG_LIMST.BOUND 2) ≠ 0xFFFF ∧
      s.get (LOG_LIM.BURST 2) ≤ s.get (LOG_LIMST.TOKENS 2) ∧ 599 ≤ (s.lim 2).full ∧ (s.lim 3).full < 599 ∧
      (∀ k < 64, s.get (LOG_LIM.BURST k) < 2 ^ (LOG_LIMST.TOKENS k).width) ∧ (inGait 1 []).gait < 2 ∧ 2 ≤ r.gait ∧
      r.nvm.testDue = true ∧ r.get SYS_PWRSTAT.AUX_OK ≠ 0 ∧ r.nvm.wasFull = true ∧ r.nvm.testRun = true ∧
      r.nvm.clearing = some 8192 ∧ State.reset.nvm.clearing = none ∧ State.reset.contactorOn = false ∧
      State.reset.gait = Gait.walk ∧ State.reset.nvm.testRun = false ∧ (st [(NVM_STAT.RSV_OK, 1)]).get NVM_STAT.RSV_OK ≠ 0 ∧
      State.reset.get NVM_STAT.RSV_OK = 0 ∧
      (∀ a ∈ [NVM_CMD.RSV_TEST.addr, LOG_CMD.CLEAR.addr, UPD_CMD.BEGIN.addr],
        State.reset.serves .r0 .store Perm.w 4 (BitVec.ofNat 32 a) = true ∧ State.reset.rwfBad .r0 a = false) := by decide +kernel

/-- Slot A running, slot B in state `b`, session state `e`, trial bit `tr`. -/
def updState (b e tr a : Nat) (x : UpdSt) (l : List (Fld × Nat)) : State :=
  let s := { st l with upd := x }
  [(UPD_STAT.RUNSLOT, 0), (UPD_SLOTA.STATE, a), (UPD_SLOTB.STATE, b), (UPD_STAT.SESS, e), (UPD_STAT.TRIAL, tr)].foldl
    (fun s e => withRaw s e.1 e.2) s

theorem witness_updates :
    let z : List Nat := List.replicate 32 0
    let x : UpdSt := { UpdSt.reset with boot := { UpdSt.reset.boot with imglen := 4096, identB := z } }
    let r := updState 1 1 0 5 x [(UPD_IMGLEN.BYTES, 4096), (UPD_BLOCK.BLOCK, 3)]
    let e := updState 0 0 0 5 UpdSt.reset [(UPD_IMGLEN.BYTES, 4096)]
    let t := updState 0 0 1 4 { UpdSt.reset with job := .prog 3 true } [(UPD_TRSTAT.ELAPSED, 14400), (NVM_RSVE.UJ, 600)]
    r.idleSlot = 1 ∧ r.get UPD_STAT.BUSY = 0 ∧ r.get UPD_STAT.TRIAL = 0 ∧ r.get UPD_IMGLEN.BYTES % 4 = 0 ∧
      4096 ≤ r.get UPD_IMGLEN.BYTES ∧ r.get UPD_IMGLEN.BYTES ≤ 12582912 ∧ r.get (slotReg 1) = Slot.receiving ∧
      r.slotIdent 1 = r.updIdent ∧ r.upd.boot.imglen = r.get UPD_IMGLEN.BYTES ∧ e.get (slotReg 1) = Slot.empty ∧
      (st [(UPD_IMGLEN.BYTES, 4092)]).get UPD_IMGLEN.BYTES < 4096 ∧ 1024 * r.get UPD_BLOCK.BLOCK < r.upd.boot.imglen ∧
      ¬ 1024 * (r.set UPD_BLOCK.BLOCK 4).get UPD_BLOCK.BLOCK < r.upd.boot.imglen ∧
      (r.setByte 0x40031000 8).blockHeld 3 = true ∧ r.blockHeld 3 = false ∧
      (updState 1 2 0 5 x []).get UPD_STAT.SESS = 2 ∧ (updState 2 4 0 5 x []).get (slotReg 1) = Slot.verified ∧
      t.get UPD_STAT.TRIAL ≠ 0 ∧ t.get (slotReg t.runSlot) = Slot.trial ∧
      60 * t.get UPD_TRCFG.WINDOW ≤ t.get UPD_TRSTAT.ELAPSED ∧ t.upd.job = .prog 3 true ∧ 600 ≤ t.get NVM_RSVE.UJ ∧
      State.reset.get NVM_RSVE.UJ < 600 ∧
      (t.byte (0x40031800 + 3 / 64 / 8)).getLsbD (3 / 64 % 8) = false ∧
      ({ r with upd := { x with job := .verify } } : State).upd.job = .verify ∧
      Pair.feed ≤ (st [(TDM_STAT.STATE, 5)]).get TDM_STAT.STATE ∧ (st [(UPD_STAT.BUSY, 1)]).get UPD_STAT.BUSY ≠ 0 := by
  decide +kernel

/-- A state with cores, registers, memory and commands other than after reset meets the premises of the invariants. -/
theorem witness_invariants :
    let s := { ((((State.reset.setG .r0 1 7).setPc .r1 0x100).setWord 0x20000000 5).setWord 0x50100000 0) with
      cel := { CelSt.reset with map := [(511, layoutOne)] }, pending := [.add (fe .r0) true 1 2 3] }
    Memory.wf s.mem = true ∧ s.mem ≠ [] ∧ s.pcAligned = true ∧ s.zeroHeld = true ∧ s.mapRange = true ∧
      (Instr.add (fe .r0) true 1 2 3).wellFormed = true ∧ (∃ t, step s = .next t) := by
  refine ⟨?_, ?_, ?_, ?_, ?_, ?_, ⟨_, rfl⟩⟩ <;> decide +kernel

/-! ### Single commands with the results that the spec gives -/

/-- Rider 0 with `x` in g1 and `y` in g2. -/
def regs2 (x y : Word) : State := (State.reset.setG .r0 1 x).setG .r0 2 y

/-- What rider 0's g3 holds after `i`. -/
def g3After (i : Fetch → Instr) (x y v : Word) : Bool := after (i (fe .r0)) (regs2 x y) fun t => decide (t.g .r0 3 = v)

/-- Table GCS-5: sums wrap, C is the carry out, V the signed overflow; the result leaves the flags with F = 0. -/
theorem test_add_wraps_and_sets_flags :
    after (.add (fe .r0) true 3 1 2) (regs2 0xFFFFFFFF 1) (fun t => decide (t.g .r0 3 = 0 ∧
      t.statusBit .r0 0 = true ∧ t.statusBit .r0 1 = false ∧ t.statusBit .r0 2 = true ∧ t.statusBit .r0 3 = false ∧
      t.pc .r0 = 4)) = true ∧
      after (.add (fe .r0) false 3 1 2) (regs2 0x7FFFFFFF 1) (fun t => decide (t.g .r0 3 = 0x80000000 ∧
        t.cr .r0 Cr.status = 0x100)) = true := by decide +kernel

/-- g0 reads 0 and discards writes (R80). -/
theorem test_g0_discards : after (.addi (fe .r0) false 0 0 5) State.reset (fun t => decide (t.g .r0 0 = 0)) = true := by
  decide +kernel

/-- Division by 0 gives all ones, the remainder the dividend; the most negative by -1 gives itself. -/
theorem test_division_corners :
    g3After (.div · false 3 1 2) 7 0 0xFFFFFFFF = true ∧ g3After (.rem · false 3 1 2) 7 0 7 = true ∧
      g3After (.div · false 3 1 2) 0x80000000 0xFFFFFFFF 0x80000000 = true ∧
      g3After (.rem · false 3 1 2) 0x80000000 0xFFFFFFFF 0 = true ∧ g3After (.div · false 3 1 2) (-7) 2 (-3) = true ∧
      g3After (.rem · false 3 1 2) (-7) 2 (-1) = true := by decide +kernel

theorem test_high_products :
    g3After (.mulh · false 3 1 2) (-1) 2 0xFFFFFFFF = true ∧ g3After (.mulhu · false 3 1 2) 0xFFFFFFFF 2 1 = true ∧
      g3After (.sar · false 3 1 2) 0x80000000 33 0xC0000000 = true := by decide +kernel

/-- Sign extension of loads, little-endian order (R9). -/
theorem test_loads_extend :
    let s := ((State.reset.setG .r0 1 0x20000000).setWord 0x20000000 0x80FF7F80)
    after (.lb (fe .r0) 3 1 0 .ok) s (fun t => decide (t.g .r0 3 = 0xFFFFFF80)) = true ∧
      after (.lhu (fe .r0) 3 1 2 .ok) s (fun t => decide (t.g .r0 3 = 0x80FF)) = true ∧
      after (.lh (fe .r0) 3 1 2 .ok) s (fun t => decide (t.g .r0 3 = 0xFFFF80FF)) = true := by decide +kernel

/-- A store narrower than a word changes its bytes only. -/
theorem test_store_half :
    after (.sh (fe .r0) 2 1 2) ((regs2 0x20000000 0x12345678).setWord 0x20000000 0xAABBCCDD)
      (fun t => decide (t.word 0x20000000 = 0x5678CCDD ∧ t.pc .r0 = 4)) = true := by decide +kernel

/-- A misaligned word load faults (cause 3, R87) at 0x20 times the cause from VBASE (R93). -/
theorem test_misaligned_load :
    after (.lw (fe .r0) 3 1 0 .ok) (regs2 0x20000002 0) (fun t => decide (t.g .r0 3 = 0 ∧ (t.pc .r0).toNat % 32 = 0 ∧
      t.cr .r0 Cr.eval = 0x20000002 ∧ t.cr .r0 Cr.epc = 0 ∧ t.statusBit .r0 10 = true)) = true := by decide +kernel

/-- jal links the next address and jumps relative to its own (R88, R90). -/
theorem test_jal_links : after (.jal (fe .r0) (-1)) (State.reset.setPc .r0 0x100) (fun t => decide (t.pc .r0 = 0xFC ∧
    t.g .r0 31 = 0x104)) = true := by decide +kernel

/-- IEEE 754 sums: 1.5 + 2.25, infinity less infinity, a tie to even. -/
theorem test_float_sums :
    g3After (.fadd · false 3 1 2) 0x3FC00000 0x40100000 0x40700000 = true ∧
      g3After (.fsub · false 3 1 2) 0x7F800000 0x7F800000 0x7FC00000 = true ∧
      g3After (.fadd · false 3 1 2) 0x3F800000 0x33800000 0x3F800000 = true ∧
      g3After (.fadd · false 3 1 2) 0x3F800001 0x33800000 0x3F800002 = true := by decide +kernel

theorem test_float_quotient_and_root :
    g3After (.fdiv · false 3 1 2) 0x3F800000 0x40400000 0x3EAAAAAB = true ∧
      g3After (.fsqrt · false 3 1 0) 0x40000000 0 0x3FB504F3 = true ∧
      g3After (.fmul · false 3 1 2) 0x3F000001 0x00800000 0x00400000 = true := by decide +kernel

/-- amocas stores only on a match and returns the old word. -/
theorem test_amocas :
    let s := ((regs2 0x20000000 9).setG .r0 3 5).setWord 0x20000000 5
    after (.amocas (fe .r0) 3 1 2 .ok) s (fun t => decide (t.word 0x20000000 = 9 ∧ t.g .r0 3 = 5)) = true ∧
      after (.amocas (fe .r0) 3 1 2 .ok) (s.setG .r0 3 6) (fun t => decide (t.word 0x20000000 = 5 ∧ t.g .r0 3 = 5)) = true := by
  decide +kernel

/-- A lock is granted to the core that asks for it free, as its number + 1 (R110). -/
theorem test_lock_free : after (.lock (fe .r1) 3 7) State.reset (fun t => decide (t.get (PAD_LOCKOWN.OWN 7) = 2)) = true := by
  decide +kernel

/-- The RTC counts a second; in Walk so does the operating time. -/
theorem test_rtc_tick : after .rtcTick (withRaw State.reset UPD_STAT.TRIAL 0) (fun t => decide (t.get PWR_RTC.SEC = State.reset.get PWR_RTC.SEC + 1 ∧
    t.get NVM_OPTIME.SEC = State.reset.get NVM_OPTIME.SEC + 1)) = true := by decide +kernel

/-- CRC-32C of the nine digits. -/
theorem test_crc32c : crc32c ((List.range 9).map (· + 49)) = 0xE3069283 := by decide +kernel

/-- EVT_SET asserts a source; its claim returns VALID, the priority and the number. -/
theorem test_event_set_and_claim :
    let s := st [(EVT_CFG.PRIO 40, 5), (EVT_CFG.ROUTE 40, 1)]
    after (.evtSet .r0 1 0x100) s (fun t => t.evtPending 40 &&
      after (.evtClaim .r0) t fun u => decide (u.rdata = 0x80000528 ∧ u.evtPending 40 = false)) = true := by decide +kernel

/-- Token refill at R = 50,000 hundredths (R71). -/
theorem test_refill :
    after .tokenRefill (st [(HRD_STAT.POWERED, 1), (THM_RATE.R, 2150)]) (fun t => decide (t.thermal.frac = 50 ∧
      t.get THM_BUCKET.TOKENS = min 50000 (State.reset.get THM_BUCKET.TOKENS + 21))) = true := by decide +kernel

/-- A Rider may ask for Trot in Walk only with T8's conditions: the configuration comes first. -/
theorem test_trot_refused : after (.pwrReqTrot .r0) State.reset (fun t => decide (t.get PWR_REQSTAT.RESULT = 3 ∧
    t.get PWR_REQSTAT.REASON = 0xA ∧ t.gait = Gait.walk)) = true := by decide +kernel

/-- Trot begins with every condition met and the main outputs closed. -/
theorem test_trot_begins : after (.pwrReqTrot .r0) readyClosed (fun t =>
    decide (t.get PWR_REQSTAT.RESULT = 1 ∧ t.get PWR_GAIT.BUSY = 1)) = true := by decide +kernel

/-- A unit answers PING with its address and counts none (R174). -/
theorem test_ping : after (.ping ⟨1, true, 5, 1, .good, true⟩) (withUnit aUnit) (fun t => decide ((t.unit 1).resp =
    some (true, ⟨5, 0x81, 2, [1, 1]⟩))) = true := by decide +kernel

/-- 50 A over 50 µΩ: 2.5 mV on the low range (R145, R147). -/
theorem test_shunt_current : after (.protectionSample 2500000 2500000 ⟨false, false⟩ 0) hvState (fun t =>
    decide (t.get HVM_IPROT.VAL = 50000 ∧ t.get HVM_STAT.RANGE = 1)) = true := by decide +kernel

/-- Insulation: 50 V of 100 V injected is 2,000 kΩ (R159). -/
theorem test_insulation : after (.insulationPeriodEnd 50000 0 false) hvState (fun t => decide (t.get HVM_ISO.RKOHM = 2000)) = true := by
  decide +kernel

/-- A frame that fits object 1 is stored there with its data (R355). -/
theorem test_can_reception : after (.canFrameReceived 0 aCanFrame 77) (canState CanSt.reset []) (fun t =>
    decide (t.get (CNx_ODATA.WORD 0 1 0) = 0x201 ∧ t.get (CNx_OSTAT.NEW 0 1) = 1 ∧ t.get (CNx_OTSLO.NS 0 1) = 77)) = true := by
  decide +kernel

/-- A DEMAND telegram takes effect (Table ETH-3). -/
theorem test_demand :
    let s := withRaw (netState EthSt.reset PtpSt.reset [(ETH_CTRL.PLANT_EN, 1)]) SYS_UID0.UID 7
    after (.plantTelegramReceived 1 (BitVec.ofNat 16 (s.get ETH_UDPPORT.PORT)) (demand.map (BitVec.ofNat 8))) s (fun t =>
      decide (t.get ETH_DEMI.MA = 1000 ∧ t.get ETH_STAT.DEM_OK = 1)) = true := by decide +kernel

/-- A step pulse of an axis one step behind. -/
theorem test_step_pulse : after (.stepPulse 0) (axisState 1 1 { GgnAxis.reset with p := ggnOne } []) (fun t =>
    decide ((t.axis 1).step = 1 ∧ (t.axis 1).dir = false)) = true := by decide +kernel

/-- An output the demand turns on, no rank holding it (Table FIO-2). -/
theorem test_output_on : after (.fioDosetWrite .r0 8) (fioState FioSt.reset [] []) (fun t => decide (t.on 3 = true ∧
    t.on 2 = false)) = true := by decide +kernel

/-- A stop in READY with nothing flowing is HALT with the cause of CRB_CMD.SRS. -/
theorem test_curb_command : after (.crbCmdSrs .r0) (curbAt 1 CurbSt.reset []) (fun t => decide (t.curb = Curb.halt ∧
    t.get CRB_CAUSE.WORD % 65536 = 0x1010)) = true := by decide +kernel

/-- SHA-256 of the three bytes of "abc" (FIPS 180-4). -/
theorem test_sha256 : Crypto.sha256 [0x61, 0x62, 0x63] =
    Crypto.beBytes 32 0xba7816bf8f01cfea414140de5dae2223b00361a396177a9cb410ff61f20015ad := by decide +kernel

end Sys2Proof.Machine.Tests
end

section
/-! SUPPORT. Served stores: what a store instruction and a register store command do once no check refuses them. -/

namespace Sys2Proof.Machine
open Sys2Proof Sys2Proof.Reg

/-! ### Stores of bytes -/

/-- A store of bytes changes the memory alone. -/
theorem store_eq_withMem (n : Nat) : ∀ (s : State) (a v : Nat),
    s.store n a v = { s with mem := (s.store n a v).mem } := by
  induction n with
  | zero => intro s a v; rfl
  | succ k ih =>
    intro s a v
    rw [State.store, ih]
    rfl

theorem byte_advance_fetched (s : State) (f : Fetch) (c : Core) (b : Nat) :
    ((s.fetched f).advance c).byte b = s.byte b := by
  simp [State.byte, State.fetched]

/-! ### The access -/

theorem storeAt_memory {a : Nat} (h : region a ≠ .periph) (s : State) (c : Core) (n w : Nat) :
    s.storeAt c n a w = s.store n a w := by
  unfold State.storeAt
  split
  · contradiction
  · rfl

theorem storeAt_periph {a : Nat} (h : region a = .periph) (s : State) (c : Core) (n w : Nat) :
    s.storeAt c n a w = (s.noteWrite c a).regStore c a w (decide (c = .grm)) := by
  unfold State.storeAt
  rw [h]

theorem serves_iff {s : State} {c : Core} {k : Access} {perm n : Nat} {a : Word} :
    s.serves c k perm n a = true ↔ s.dataFault c k perm n a = none := Option.isNone_iff_eq_none

theorem rwfBad_of_memory {a : Nat} (h : region a ≠ .periph) (s : State) (c : Core) : s.rwfBad c a = false := by
  simp [State.rwfBad, h]

theorem rwfBad_of_app {s : State} {c : Core} {a : Nat} (hr : region a = .periph) (happ : s.isApp c = true)
    (hf : holdsRwf a = true) : s.rwfBad c a = true := by
  simp [State.rwfBad, hr, happ, hf]

@[simp] theorem isApp_fetched (s : State) (f : Fetch) : (s.fetched f).isApp f.core = s.isApp f.core := by
  simp [State.isApp]

section
variable {s : State} {f : Fetch} {a : Reg} {imm : BitVec 13} {n : Nat} {x : Word}

/-- A store instruction whose fetch and data access raise no exception, and that the RWF check lets pass. -/
theorem storeInstr_served (hf : s.fetches f = true) (hx : s.g f.core a + imm.signExtend 32 = x)
    (hs : (s.fetched f).serves f.core .store Perm.w n x = true) (hok : (s.fetched f).rwfBad f.core x.toNat = false)
    (d : Reg) (op : Nat) :
    s.storeInstr f d a imm op n =
      .next (((s.fetched f).advance f.core).storeAt f.core n x.toNat (s.g f.core d).toNat) := by
  unfold State.storeInstr
  rw [instr_fetches hf]
  simp only [g_fetched, immS, hx, serves_iff.mp hs, hok]
  rfl

/-- The same store, refused for an RWF field. -/
theorem storeInstr_rwfBad (hf : s.fetches f = true) (hx : s.g f.core a + imm.signExtend 32 = x)
    (hs : (s.fetched f).serves f.core .store Perm.w n x = true) (hbad : (s.fetched f).rwfBad f.core x.toNat = true)
    (d : Reg) (op : Nat) :
    s.storeInstr f d a imm op n = .next ((s.fetched f).faultHere f.core Exc.window 4 x) := by
  unfold State.storeInstr
  rw [instr_fetches hf]
  simp only [g_fetched, immS, hx, serves_iff.mp hs, hbad]
  rfl

end

/-- sb, sh and sw are the store instruction of 1, 2 and 4 bytes. -/
theorem exec_eq_storeInstr {row : (Fetch → Reg → Reg → BitVec 13 → Instr) × Nat}
    (h : row ∈ ([(.sb, 1), (.sh, 2), (.sw, 4)] : List ((Fetch → Reg → Reg → BitVec 13 → Instr) × Nat))) :
    ∃ op, ∀ f d a imm s, exec (row.1 f d a imm) s = s.storeInstr f d a imm op row.2 := by
  simp only [List.mem_cons, List.not_mem_nil, or_false] at h
  rcases h with rfl | rfl | rfl
  · exact ⟨0x00, fun _ _ _ _ _ => rfl⟩
  · exact ⟨0x02, fun _ _ _ _ _ => rfl⟩
  · exact ⟨0x04, fun _ _ _ _ _ => rfl⟩

/-! ### Register store commands -/

/-- A store of a word by a running core, served at the register at `a`. -/
theorem regWrite_served {s : State} {c : Core} {a : Nat} (h : s.storesReg c a) (w : Nat) (here : Bool) :
    s.regWrite c a w here = (s.noteWrite c a).regStore c a w here := by
  obtain ⟨hrun, hserves, hrwf⟩ := h
  unfold State.regWrite
  simp only [hrun, serves_iff.mp hserves, hrwf]
  simp

/-- A store at App privilege to a register with an RWF field, not refused otherwise. -/
theorem regWrite_rwfBad {s : State} {c : Core} {a : Nat} (hrun : (s.core c).run = .run)
    (hs : s.serves c .store Perm.w 4 (BitVec.ofNat 32 a) = true) (hb : s.rwfBad c a = true) (w : Nat) (here : Bool) :
    s.regWrite c a w here = s.faultHere c Exc.window 4 (BitVec.ofNat 32 a) := by
  unfold State.regWrite
  simp only [hrun, serves_iff.mp hs, hb]
  simp

theorem exec_periphStore_periph {a : Word} {x : Nat} (hx : a.toNat = x) (hr : region x = .periph) (c : Core) (v : Word)
    (s : State) : exec (.periphStore c a v) s = .next (s.regWrite c x v.toNat (decide (c = .grm))) := by
  subst hx
  rw [exec_periphStore, execPeriphStore, if_pos hr, State.poke]

theorem exec_periphStore_served {c : Core} {a : Word} {x : Nat} {s : State} (hx : a.toNat = x) (hr : region x = .periph)
    (h : s.storesReg c x) (v : Word) :
    exec (.periphStore c a v) s = .next ((s.noteWrite c x).regStore c x v.toNat (decide (c = .grm))) := by
  rw [exec_periphStore_periph hx hr, regWrite_served h]

/-- A store command at a register without an action: the word reaches the fields by access code. -/
theorem exec_periphStore_fields {c : Core} {a : Word} {x : Nat} {s : State} (hx : a.toNat = x) (hr : region x = .periph)
    (h : s.storesReg c x) (v : Word)
    (hreg : ∀ (t : State) (w : Nat) (here : Bool), t.regStore c x w here = t.storeFields x w) :
    exec (.periphStore c a v) s = .next ((s.noteWrite c x).storeFields x v.toNat) := by
  rw [exec_periphStore_served hx hr h, hreg]

theorem sameRest_storeFields_noteWrite (s : State) (c : Core) (x w : Nat) :
    s.sameRest ((s.noteWrite c x).storeFields x w) :=
  State.sameRest_of_rest (by rw [State.storeFields_rest, State.noteWrite_rest])

end Sys2Proof.Machine
end

section
/-! SUPPORT. A register store field by field: which fields an address holds, what each access code makes of a field, and
the assertion of a source. -/

namespace Sys2Proof.Reg

/-! ### The fields at an address -/

/-- Slots that end at or below an address hold no register there. -/
theorem fieldsIn_append_of_below {l : List RegSlot} {addr : Nat} (m : List RegSlot)
    (h : ∀ r ∈ l, r.base + r.count * r.stride ≤ addr) : fieldsIn (l ++ m) addr = fieldsIn m addr := by
  induction l with
  | nil => rfl
  | cons r rest ih =>
    have hr := h r List.mem_cons_self
    rw [List.cons_append, fieldsIn, if_neg (by omega)]
    exact ih fun x hx => h x (List.mem_cons_of_mem _ hx)

/-- The slots before EVT_CFG. -/
def belowEvtCfg : List RegSlot := slots0.take 34

theorem below_evtCfg : ∀ r ∈ belowEvtCfg, r.base + r.count * r.stride ≤ 0x60020400 := by decide

theorem fieldsAt_evtCfg {n : Nat} (h : n < 256) :
    fieldsAt (0x60020400 + 4 * n) = [EVT_CFG.EN n, EVT_CFG.CURB n, EVT_CFG.ROUTE n, EVT_CFG.PRIO n] := by
  have hsplit : slots = belowEvtCfg ++
      (⟨0x60020400, 256, 4, fun i => [EVT_CFG.EN i, EVT_CFG.CURB i, EVT_CFG.ROUTE i, EVT_CFG.PRIO i]⟩ : RegSlot) ::
        (slots.drop 35) := rfl
  rw [fieldsAt, hsplit, fieldsIn_append_of_below _ fun r hr => (below_evtCfg r hr).trans (by omega), fieldsIn,
    if_pos (by dsimp only; omega)]
  have hi : (0x60020400 + 4 * n - 0x60020400) / 4 = n := by omega
  simp only [hi]

end Sys2Proof.Reg

namespace Sys2Proof.Machine
open Sys2Proof Sys2Proof.Reg

/-! ### Fields by access code (R12) -/

/-- What field `f`, holding `old`, holds once a word `w` has reached it (State.storeFld). -/
def fldAfter (bad : List Nat) (w : Nat) (f : Fld) (old : Nat) : Nat :=
  match f.acc with
  | .rw | .rwf => if !(bad.contains f.lsb) && f.legal.ok (Fld.of f w) then Fld.of f w % 2 ^ f.width else old
  | .w1c => andNot f.width old (Fld.of f w) % 2 ^ f.width
  | _ => old

theorem get_storeFld_same (s : State) (bad : List Nat) (w : Nat) (f : Fld) :
    (s.storeFld bad w f).get f = fldAfter bad w f (s.get f) := by
  unfold State.storeFld fldAfter
  cases f.acc <;> dsimp only
  case rw | rwf => split <;> simp
  case w1c => simp

theorem get_storeFld_ne (s : State) (bad : List Nat) (w : Nat) {f q : Fld} (h : q.key ≠ f.key) :
    (s.storeFld bad w f).get q = s.get q := by
  unfold State.storeFld
  cases f.acc <;> dsimp only
  case rw | rwf =>
    split
    · exact get_set_ne s _ h
    · rfl
  case w1c => exact get_set_ne s _ h

/-- The word reaches the fields `fs` in turn. -/
def State.storeFlds (s : State) (bad : List Nat) (w : Nat) (fs : List Fld) : State :=
  fs.foldl (fun (s : State) f => s.storeFld bad w f) s

theorem get_storeFlds_other (bad : List Nat) (w : Nat) {q : Fld} (fs : List Fld) : ∀ (s : State),
    (∀ f ∈ fs, q.key ≠ f.key) → (s.storeFlds bad w fs).get q = s.get q := by
  induction fs with
  | nil => intro s _; rfl
  | cons f rest ih =>
    intro s h
    calc ((s.storeFld bad w f).storeFlds bad w rest).get q
        = (s.storeFld bad w f).get q := ih _ fun x hx => h x (List.mem_cons_of_mem _ hx)
      _ = s.get q := get_storeFld_ne s bad w (h f List.mem_cons_self)

/-- Fields of different keys each take the word as their own access code says. -/
theorem get_storeFlds_mem (bad : List Nat) (w : Nat) {q : Fld} (fs : List Fld) : ∀ (s : State),
    fs.Pairwise (fun f g => f.key ≠ g.key) → q ∈ fs → (s.storeFlds bad w fs).get q = fldAfter bad w q (s.get q) := by
  induction fs with
  | nil => intro s _ h; simp at h
  | cons f rest ih =>
    intro s hp hq
    obtain ⟨hf, hrest⟩ := List.pairwise_cons.mp hp
    show ((s.storeFld bad w f).storeFlds bad w rest).get q = _
    rcases List.mem_cons.mp hq with rfl | hq
    · rw [get_storeFlds_other bad w rest _ hf, get_storeFld_same]
    · rw [ih _ hrest hq, get_storeFld_ne s bad w (hf q hq).symm]

theorem storeFlds_of_ro (bad : List Nat) (w : Nat) (fs : List Fld) : ∀ (s : State),
    (∀ f ∈ fs, f.acc = .ro) → s.storeFlds bad w fs = s := by
  induction fs with
  | nil => intro s _; rfl
  | cons f rest ih =>
    intro s h
    have hf : s.storeFld bad w f = s := by
      unfold State.storeFld
      rw [h f List.mem_cons_self]
    show (s.storeFld bad w f).storeFlds bad w rest = s
    rw [hf]
    exact ih s fun x hx => h x (List.mem_cons_of_mem _ hx)

theorem storeFields_eq (s : State) (a w : Nat) :
    s.storeFields a w = if s.rwsDiffers a w then (s.storeFlds (s.crossBad a w) w (fieldsAt a)).raise 16
      else s.storeFlds (s.crossBad a w) w (fieldsAt a) := rfl

/-- A register without an RWS field: the word reaches its fields and raises nothing. -/
theorem storeFields_of_noRws {a : Nat} (h : ∀ f ∈ fieldsAt a, f.acc ≠ .rws) (s : State) (w : Nat) :
    s.storeFields a w = s.storeFlds (s.crossBad a w) w (fieldsAt a) := by
  have : s.rwsDiffers a w = false := by
    simp only [State.rwsDiffers, List.any_eq_false, Bool.and_eq_true, decide_eq_true_eq, not_and, and_imp]
    intro f hf hacc
    exact absurd hacc (h f hf)
  rw [storeFields_eq, this]
  rfl

@[simp] theorem regs_noteWrite (s : State) (c : Core) (a : Nat) : (s.noteWrite c a).regs = s.regs := by
  unfold State.noteWrite
  split
  · cases c <;> rfl
  · rfl

@[simp] theorem get_noteWrite (s : State) (c : Core) (a : Nat) (f : Fld) : (s.noteWrite c a).get f = s.get f := by
  simp [State.get]

/-! ### The assertion of a source (R35) -/

/-- An assertion writes EVT_PEND and EVT_OVR alone. -/
theorem get_raise_ne (s : State) {n : Nat} {q : Fld} (hp : q.key ≠ (EVT_PEND.BITS (n / 32)).key)
    (ho : q.key ≠ (EVT_OVR.BITS (n / 32)).key) : (s.raise n).get q = s.get q := by
  unfold State.raise State.softEvt State.latchEvt State.setBitOf
  split
  · rfl
  · split
    · rfl
    · split
      · exact get_set_ne s _ ho
      · exact get_set_ne s _ hp

theorem evtPending_latchEvt (s : State) (n : Nat) : (s.latchEvt n).evtPending n = true := by
  unfold State.latchEvt
  have hlt : n % 32 < 32 := Nat.mod_lt _ (by decide)
  split
  case isTrue h =>
    have hkey : (EVT_PEND.BITS (n / 32)).key ≠ (EVT_OVR.BITS (n / 32)).key := by
      simp only [EVT_PEND.BITS, EVT_OVR.BITS, Fld.key]; omega
    simpa only [State.evtPending, State.bitOf, State.setBitOf, get_set_ne s _ hkey] using h
  case isFalse =>
    simp only [State.evtPending, State.bitOf, State.setBitOf, get_set_same, bit, setBit, Nat.testBit_mod_two_pow]
    simp [EVT_PEND.BITS, hlt]

theorem asserts_raise (s : State) (n : Nat) : s.asserts (s.raise n) n := by
  intro hen
  unfold State.raise State.softEvt
  rw [if_neg hen]
  split
  · simp
  · exact evtPending_latchEvt s n

/-- Whether a source asserts rests on its enable, its route and the mode alone. -/
theorem asserts_congr {s s' t : State} {n : Nat} (hen : s'.get (EVT_CFG.EN n) = s.get (EVT_CFG.EN n))
    (hroute : s'.get (EVT_CFG.ROUTE n) = s.get (EVT_CFG.ROUTE n))
    (htdm : s'.get TDM_CTRL.EN = s.get TDM_CTRL.EN) (h : s'.asserts t n) : s.asserts t n := by
  have ht : s'.tandem = s.tandem := by simp only [State.tandem, State.flag, htdm]
  unfold State.asserts at h ⊢
  rwa [hen, hroute, ht] at h

end Sys2Proof.Machine
end

section
/-! SUPPORT. What a store makes of the registers that PeripheralStoresByAccessCode names: EVT_CFG, SYS_CLKFLT, SYS_ID,
SYS_CLKEN and THM_REFILL. -/

namespace Sys2Proof.Machine
open Sys2Proof Sys2Proof.Reg

/-! ### Bits of a stored word -/

theorem bits_width_one (n b : Nat) : bits n b 1 = b2n (n.testBit b) := by
  rw [bits, Nat.testBit_eq_decide_div_mod_eq]
  rcases Nat.mod_two_eq_zero_or_one (n / 2 ^ b) with h | h <;> simp [h, b2n]

theorem andNot_width_one (n : Nat) (b : Bool) : andNot 1 n (b2n b) % 2 = if b then 0 else n % 2 := by
  cases b <;> simp [andNot, trunc, b2n, Nat.and_one_is_mod]

/-- A W1C field of one bit: cleared by a 1, kept by a 0. -/
theorem fldAfter_w1c_bit {f : Fld} (hacc : f.acc = .w1c) (hw : f.width = 1) (bad : List Nat) (w old : Nat) :
    fldAfter bad w f old = if w.testBit f.lsb then 0 else old % 2 := by
  unfold fldAfter
  rw [hacc, hw]
  simp only [Fld.of, hw, bits_width_one, andNot_width_one, pow_one]

/-- An RW field all of whose encodings are defined, of which the rest of the word makes no reserved one. -/
theorem fldAfter_write_any {f : Fld} (hacc : f.acc = .rw ∨ f.acc = .rwf) (hl : f.legal = .any) {bad : List Nat}
    (hb : f.lsb ∉ bad) (w old : Nat) : fldAfter bad w f old = w / 2 ^ f.lsb % 2 ^ f.width := by
  unfold fldAfter
  rcases hacc with h | h <;> simp [h, hl, hb, Legal.ok, Fld.of, bits]

/-- An RW field that a reserved encoding spans keeps what it holds (log entry 108). -/
theorem fldAfter_bad {f : Fld} (hacc : f.acc = .rw ∨ f.acc = .rwf) {bad : List Nat} (hb : f.lsb ∈ bad) (w old : Nat) :
    fldAfter bad w f old = old := by
  unfold fldAfter
  rcases hacc with h | h <;> simp [h, hb]

/-! ### EVT_CFG -/

theorem region_evtCfg {n : Nat} (h : n < 256) : region (0x60020400 + 4 * n) = .periph := by
  unfold region
  simp (disch := omega) only [if_neg, if_pos]

/-- The registers at one address of the SYS, PWR, EVT, PAD, HRD or HVM block whose store acts. -/
def act1Regs : List Nat :=
  [SYS_CLKEN.TDM_EN.addr, SYS_RSTCMD.KEY.addr, SYS_WDCFG.EN.addr, SYS_WDKEY.KEY.addr, PWR_REQ.TARGET.addr,
    EVT_DONE_R0.SRC.addr, EVT_DONE_R1.SRC.addr, EVT_DONE_GRM.SRC.addr, PAD_LOCKLIM.LIM.addr, PAD_LOCKERR.KIND.addr,
    HRD_CTRL.HOLD.addr, HRD_ABORT.ALL.addr, HRD_TEAMDIS.TEAMS.addr, HRD_ECCCNT.CLR.addr, HVM_CTRL.INJ_EN.addr,
    HVM_CMD.ZERO.addr, HVM_HALLGAIN.GAIN.addr, HVM_SHUNT.R.addr, HVM_IOFS.OFS.addr, HVM_HALLOFS.OFS.addr,
    HVM_DIV.ABS.addr]

/-- A store to any other register of these blocks, EVT_SET aside, has no action of its own. -/
theorem storeAct1_none {a : Nat} (h : a ∉ act1Regs)
    (hset : ¬ ((EVT_SET.BITS 0).addr ≤ a ∧ a ≤ (EVT_SET.BITS 7).addr)) (s : State) (c : Core) (w : Nat) (here : Bool) :
    s.storeAct1 c a w here = none := by
  simp only [act1Regs, List.mem_cons, List.not_mem_nil, or_false, not_or] at h
  unfold State.storeAct1
  simp only [h, hset, if_false, List.contains_cons, List.contains_nil, beq_iff_eq, Bool.or_eq_true, Bool.false_eq_true,
    or_self]

theorem evtCfg_notMem_act1Regs {n : Nat} (h : n < 256) : 0x60020400 + 4 * n ∉ act1Regs := by
  have hout : ∀ a ∈ act1Regs, a < 0x60020400 ∨ 0x60020800 ≤ a := by decide
  intro hmem
  have := hout _ hmem
  omega

/-- A store to a register of these blocks without an action reaches its fields by access code. -/
theorem regStore_eq_storeFields {a : Nat} (hne : fieldsAt a ≠ []) (hblk : a / 0x10000 ≤ 0x6004) (h : a ∉ act1Regs)
    (hset : ¬ ((EVT_SET.BITS 0).addr ≤ a ∧ a ≤ (EVT_SET.BITS 7).addr)) (s : State) (c : Core) (w : Nat) (here : Bool) :
    s.regStore c a w here = s.storeFields a w := by
  unfold State.regStore
  simp [hne, hblk, storeAct1_none h hset]

theorem regStore_evtCfg {n : Nat} (h : n < 256) (s : State) (c : Core) (w : Nat) (here : Bool) :
    s.regStore c (0x60020400 + 4 * n) w here = s.storeFields (0x60020400 + 4 * n) w := by
  refine regStore_eq_storeFields ?_ (by omega) (evtCfg_notMem_act1Regs h) ?_ s c w here
  · rw [fieldsAt_evtCfg h]; exact List.cons_ne_nil _ _
  · simp only [EVT_SET.BITS]; omega

/-- Below the staging registers of the curb logic a value is seen as it stands. -/
theorem scfgSeen_below {a : Nat} (h : a < (CRB_SCFG.WORD 0).addr) (v : Nat) : scfgSeen a v = v := by
  have hstg : (CRB_SCFG.WORD 0).addr ≤ (CRB_STG.WORD 0).addr := by decide
  unfold scfgSeen
  dsimp only
  rw [if_neg (by omega), if_neg (by omega)]
  rfl

theorem crossBad_evtCfg {n : Nat} (h : n < 256) (s : State) (w : Nat) : s.crossBad (0x60020400 + 4 * n) w = [] := by
  have hblk : (0x60020400 + 4 * n) / 0x10000 = 0x6002 := by omega
  unfold State.crossBad
  simp only [hblk, THM_REFILL.RMIN, HRD_AUTOPROG.PROG, CEL_VRANGE.VMIN, CEL_BALHEAT.T1, EST_ILIMCH.MA, EST_ILIMDC.MA,
    TDM_DECLBASE.ADDR, UPD_RXBASE.ADDR]
  simp (disch := omega) only [if_neg]

/-- A store to EVT_CFG raises source 16 where it differs from the CURB bit of a designated source (R38, R476). -/
theorem rwsDiffers_evtCfg {n : Nat} (h : n < 256) (s : State) (w : Nat) :
    s.rwsDiffers (0x60020400 + 4 * n) w =
      ((EVT_CFG.CURB n).legal.ok (w / 256 % 2) && decide (w / 256 % 2 ≠ s.get (EVT_CFG.CURB n))) := by
  unfold State.rwsDiffers
  rw [fieldsAt_evtCfg h]
  have hof : Fld.of (EVT_CFG.CURB n) w = w / 256 % 2 := rfl
  have hseen : ∀ v, scfgSeen (0x60020400 + 4 * n) v = v := scfgSeen_below (by simp only [CRB_SCFG.WORD]; omega)
  have hen : (EVT_CFG.EN n).acc = .rw := rfl
  have hcurb : (EVT_CFG.CURB n).acc = .rws := rfl
  have hroute : (EVT_CFG.ROUTE n).acc = .rw := rfl
  have hprio : (EVT_CFG.PRIO n).acc = .rw := rfl
  simp [hseen, hof, hen, hcurb, hroute, hprio]

theorem evtCfg_keys_ne (n : Nat) :
    [EVT_CFG.EN n, EVT_CFG.CURB n, EVT_CFG.ROUTE n, EVT_CFG.PRIO n].Pairwise (fun f g => f.key ≠ g.key) := by
  simp [Fld.key, EVT_CFG.EN, EVT_CFG.CURB, EVT_CFG.ROUTE, EVT_CFG.PRIO]

/-- No field of EVT_CFG is one that the assertion of source 16 writes. -/
theorem get_raise16_evtCfg {n : Nat} {q : Fld}
    (hq : q ∈ [EVT_CFG.EN n, EVT_CFG.CURB n, EVT_CFG.ROUTE n, EVT_CFG.PRIO n]) (s : State) :
    (s.raise 16).get q = s.get q := by
  have haddr : q.addr = 0x60020400 + 4 * n := by
    simp only [List.mem_cons, List.not_mem_nil, or_false] at hq
    rcases hq with rfl | rfl | rfl | rfl <;> rfl
  apply get_raise_ne <;> simp only [Fld.key, EVT_PEND.BITS, EVT_OVR.BITS, haddr] <;> omega

/-- A field of EVT_CFG after a store to the register. -/
theorem get_storeFields_evtCfg {n : Nat} (h : n < 256) {q : Fld}
    (hq : q ∈ [EVT_CFG.EN n, EVT_CFG.CURB n, EVT_CFG.ROUTE n, EVT_CFG.PRIO n]) (s : State) (w : Nat) :
    (s.storeFields (0x60020400 + 4 * n) w).get q = fldAfter [] w q (s.get q) := by
  rw [storeFields_eq, crossBad_evtCfg h, fieldsAt_evtCfg h]
  split
  · rw [get_raise16_evtCfg hq, get_storeFlds_mem _ _ _ _ (evtCfg_keys_ne n) hq]
  · exact get_storeFlds_mem _ _ _ _ (evtCfg_keys_ne n) hq

/-- A store that differs from the CURB bit of a designated source asserts source 16, as the enable and route of 16
stood before the store. -/
theorem asserts_storeFields_evtCfg {n : Nat} (h : n < 256) (h16 : n ≠ 16) {s : State} {w : Nat}
    (hd : evtDesignated n = true) (hdiff : s.get (EVT_CFG.CURB n) ≠ w / 256 % 2) :
    s.asserts (s.storeFields (0x60020400 + 4 * n) w) 16 := by
  have hit : s.rwsDiffers (0x60020400 + 4 * n) w = true := by
    rw [rwsDiffers_evtCfg h]
    have hlegal : (EVT_CFG.CURB n).legal = .any := if_pos hd
    simp [hlegal, Legal.ok, hdiff.symm]
  rw [storeFields_eq, hit, if_pos rfl, fieldsAt_evtCfg h]
  have other : ∀ q : Fld, q.addr < 0x60020400 + 4 * n ∨ 0x60020400 + 4 * n < q.addr → q.lsb < 32 →
      ∀ f ∈ [EVT_CFG.EN n, EVT_CFG.CURB n, EVT_CFG.ROUTE n, EVT_CFG.PRIO n], q.key ≠ f.key := by
    intro q haddr hlsb f hf
    simp only [List.mem_cons, List.not_mem_nil, or_false] at hf
    rcases hf with rfl | rfl | rfl | rfl <;>
      simp only [Fld.key, EVT_CFG.EN, EVT_CFG.CURB, EVT_CFG.ROUTE, EVT_CFG.PRIO] <;> omega
  refine asserts_congr ?_ ?_ ?_ (asserts_raise _ 16) <;> refine get_storeFlds_other _ _ _ _ (other _ ?_ ?_)
  all_goals simp only [EVT_CFG.EN, EVT_CFG.ROUTE, TDM_CTRL.EN]; omega

/-! ### SYS_CLKFLT, SYS_ID, SYS_CLKEN and THM_REFILL -/

theorem fieldsAt_sysClkflt : fieldsAt 0x60000018 =
    [SYS_CLKFLT.XTAL32K_LOSS, SYS_CLKFLT.TDM_UNLOCK, SYS_CLKFLT.ETH_UNLOCK, SYS_CLKFLT.PER_UNLOCK,
      SYS_CLKFLT.CORE_UNLOCK, SYS_CLKFLT.REF_LOSS] := rfl

theorem fieldsAt_sysId : fieldsAt 0x60000000 = [SYS_ID.DEVICE, SYS_ID.REV, SYS_ID.VARIANT] := rfl

theorem fieldsAt_thmRefill : fieldsAt 0x60140030 = [THM_REFILL.RMIN, THM_REFILL.RMAX] := by decide +kernel

theorem holdsRwf_sysClken : holdsRwf 0x60000014 = true := rfl

theorem regStore_sysClkflt (s : State) (c : Core) (w : Nat) (here : Bool) :
    s.regStore c 0x60000018 w here = s.storeFields 0x60000018 w :=
  regStore_eq_storeFields (by rw [fieldsAt_sysClkflt]; exact List.cons_ne_nil _ _) (by decide) (by decide) (by decide)
    s c w here

theorem regStore_sysId (s : State) (c : Core) (w : Nat) (here : Bool) :
    s.regStore c 0x60000000 w here = s.storeFields 0x60000000 w :=
  regStore_eq_storeFields (by rw [fieldsAt_sysId]; exact List.cons_ne_nil _ _) (by decide) (by decide) (by decide)
    s c w here

/-- Each field of SYS_CLKFLT is W1C: a 1 clears it, a 0 keeps it. -/
theorem get_storeFields_sysClkflt {f : Fld} (hf : f ∈ fieldsAt 0x60000018) (s : State) (w : Nat) :
    (s.storeFields 0x60000018 w).get f = if w.testBit f.lsb then 0 else s.get f % 2 := by
  have hbit : ∀ f ∈ fieldsAt 0x60000018, f.acc = .w1c ∧ f.width = 1 := by decide
  have hkeys : (fieldsAt 0x60000018).Pairwise fun f g => f.key ≠ g.key := by decide
  obtain ⟨hacc, hwidth⟩ := hbit f hf
  rw [storeFields_of_noRws fun g hg => by rw [(hbit g hg).1]; decide]
  rw [get_storeFlds_mem _ _ _ _ hkeys hf, fldAfter_w1c_bit hacc hwidth]

theorem storeFields_sysId (s : State) (w : Nat) : s.storeFields 0x60000000 w = s := by
  have hro : ∀ f ∈ fieldsAt 0x60000000, f.acc = .ro := by decide
  rw [storeFields_of_noRws fun g hg => by rw [hro g hg]; decide]
  exact storeFlds_of_ro _ _ _ s hro

theorem regStore_thmRefill (s : State) (c : Core) (w : Nat) (here : Bool) :
    s.regStore c 0x60140030 w here = s.storeFields 0x60140030 w := by
  have hact : s.storeAct3 0x60140030 w = none := rfl
  unfold State.regStore
  simp [fieldsAt_thmRefill, hact]

/-- RMIN above RMAX, or RMAX above 50000, is the reserved encoding of THM_REFILL. -/
theorem crossBad_thmRefill (s : State) (w : Nat) :
    s.crossBad 0x60140030 w = if bits w 16 16 ≤ bits w 0 16 ∧ bits w 0 16 ≤ 50000 then [] else allFields := by
  unfold State.crossBad
  simp [THM_REFILL.RMIN]

theorem get_storeFields_thmRefill {f : Fld} (hf : f ∈ fieldsAt 0x60140030) (s : State) (w : Nat) :
    (s.storeFields 0x60140030 w).get f =
      if bits w 16 16 ≤ bits w 0 16 ∧ bits w 0 16 ≤ 50000 then w / 2 ^ f.lsb % 2 ^ f.width else s.get f := by
  have hfld : ∀ f ∈ fieldsAt 0x60140030, f.acc = .rwf ∧ f.legal = .any ∧ f.lsb ∈ allFields := by
    rw [fieldsAt_thmRefill]; decide
  have hkeys : (fieldsAt 0x60140030).Pairwise fun f g => f.key ≠ g.key := by rw [fieldsAt_thmRefill]; decide
  obtain ⟨hacc, hlegal, hlsb⟩ := hfld f hf
  rw [storeFields_of_noRws fun g hg => by rw [(hfld g hg).1]; decide]
  rw [get_storeFlds_mem _ _ _ _ hkeys hf, crossBad_thmRefill]
  split
  · exact fldAfter_write_any (.inr hacc) hlegal List.not_mem_nil w _
  · exact fldAfter_bad (.inr hacc) hlsb w _

end Sys2Proof.Machine
end

section
/-! PROOF. The two statements about stores. -/

namespace Sys2Proof.Machine
open Sys2Proof Sys2Proof.Reg

/-! ### Stores (R12, R87, R476) -/

/-- Settles O6: the three stores are one store instruction; on memory the laws of State.store give the bytes, on a
peripheral register the word goes to regStore, or the RWF check enters the handler. -/
theorem storesWriteMemory : Obligations.StoresWriteMemory := by
  intro row hrow f d a imm s hf x hs
  obtain ⟨op, hexec⟩ := exec_eq_storeInstr hrow
  refine ⟨fun hmem => ?_, fun hper => ⟨fun hok => ?_, fun happ hrwf h10 => ?_⟩⟩
  · have hstore := storeInstr_served hf rfl hs (rwfBad_of_memory hmem _ _) d op
    rw [storeAt_memory hmem] at hstore
    refine ⟨_, (hexec f d a imm s).trans hstore, fun k hk => ?_, fun b hb => ?_, ?_⟩
    · exact byte_store_inside _ _ _ _ k hk
    · rw [byte_store_outside _ _ _ _ b hb, byte_advance_fetched]
    · exact store_eq_withMem _ _ _ _
  · rw [hexec, storeInstr_served hf rfl hs hok, storeAt_periph hper]
  · have hbad : (s.fetched f).rwfBad f.core x.toNat = true := rwfBad_of_app hper (by rw [isApp_fetched, happ]) hrwf
    refine ⟨_, (hexec f d a imm s).trans (storeInstr_rwfBad hf rfl hs hbad d op), ?_⟩
    have hentered := faultHere_entered (s := s.fetched f) (c := f.core) (by rw [statusBit_fetched, h10]) Exc.window 4 x
    rwa [pc_fetched] at hentered

/-! ### Register store commands (R12, R13, R476) -/

/-- The clause of PeripheralStoresByAccessCode about EVT_CFG. -/
theorem periphStore_evtCfg (c : Core) (n : BitVec 8) (v : Word) (s : State)
    (h : s.storesReg c (EVT_CFG.EN n.toNat).addr) :
    ∃ t, exec (.periphStore c (BitVec.ofNat 32 (EVT_CFG.EN n.toNat).addr) v) s = .next t ∧ s.sameRest t ∧
      t.get (EVT_CFG.PRIO n.toNat) = v.toNat % 8 ∧ t.get (EVT_CFG.ROUTE n.toNat) = v.toNat / 16 % 4 ∧
      t.get (EVT_CFG.EN n.toNat) = v.toNat / 4096 % 2 ∧
      t.get (EVT_CFG.CURB n.toNat) = s.get (EVT_CFG.CURB n.toNat) ∧
      (s.get (EVT_CFG.CURB n.toNat) ≠ v.toNat / 256 % 2 → evtDesignated n.toNat = true → n ≠ 16 → s.asserts t 16) := by
  have hn : n.toNat < 256 := n.isLt
  have haddr : (BitVec.ofNat 32 (0x60020400 + 4 * n.toNat)).toNat = 0x60020400 + 4 * n.toNat := by
    rw [BitVec.toNat_ofNat]; omega
  refine ⟨_, exec_periphStore_fields haddr (region_evtCfg hn) h v fun t w here => regStore_evtCfg hn t c w here,
    sameRest_storeFields_noteWrite s c _ _, ?_, ?_, ?_, ?_, fun hdiff hd h16 => ?_⟩
  · rw [get_storeFields_evtCfg hn (by simp), fldAfter_write_any (.inl rfl) rfl List.not_mem_nil]
    simp [EVT_CFG.PRIO]
  · rw [get_storeFields_evtCfg hn (by simp), fldAfter_write_any (.inl rfl) rfl List.not_mem_nil]
    simp [EVT_CFG.ROUTE]
  · rw [get_storeFields_evtCfg hn (by simp), fldAfter_write_any (.inl rfl) rfl List.not_mem_nil]
    simp [EVT_CFG.EN]
  · rw [get_storeFields_evtCfg hn (by simp), get_noteWrite]
    rfl
  · have h16' : n.toNat ≠ 16 := fun e => h16 (BitVec.eq_of_toNat_eq e)
    refine asserts_congr (get_noteWrite s c _ _) (get_noteWrite s c _ _) (get_noteWrite s c _ _)
      (asserts_storeFields_evtCfg hn h16' hd ?_)
    rwa [get_noteWrite]

/-- The clause of PeripheralStoresByAccessCode about SYS_CLKFLT. -/
theorem periphStore_sysClkflt (c : Core) (v : Word) (s : State) (h : s.storesReg c SYS_CLKFLT.REF_LOSS.addr) :
    ∃ t, exec (.periphStore c 0x60000018 v) s = .next t ∧ s.sameRest t ∧ ∀ f ∈ fieldsAt 0x60000018,
      (v.getLsbD f.lsb = true → t.get f = 0) ∧ (v.getLsbD f.lsb = false → t.get f = s.get f % 2) := by
  refine ⟨_,
    exec_periphStore_fields (x := 0x60000018) rfl (by decide) h v fun t w here => regStore_sysClkflt t c w here,
    sameRest_storeFields_noteWrite s c _ _, fun f hf => ?_⟩
  have hget := get_storeFields_sysClkflt hf (s.noteWrite c 0x60000018) v.toNat
  rw [get_noteWrite, BitVec.testBit_toNat] at hget
  exact ⟨fun hv => hget.trans (if_pos hv), fun hv => hget.trans (if_neg (by simp [hv]))⟩

/-- The clause of PeripheralStoresByAccessCode about THM_REFILL. -/
theorem periphStore_thmRefill (c : Core) (v : Word) (s : State) (h : s.storesReg c THM_REFILL.RMIN.addr) :
    ∃ t, exec (.periphStore c (BitVec.ofNat 32 THM_REFILL.RMIN.addr) v) s = .next t ∧ s.sameRest t ∧
      if v.toNat / 65536 ≤ v.toNat % 65536 ∧ v.toNat % 65536 ≤ 50000 then
        t.get THM_REFILL.RMAX = v.toNat % 65536 ∧ t.get THM_REFILL.RMIN = v.toNat / 65536
      else t.get THM_REFILL.RMAX = s.get THM_REFILL.RMAX ∧ t.get THM_REFILL.RMIN = s.get THM_REFILL.RMIN := by
  refine ⟨_,
    exec_periphStore_fields (x := 0x60140030) rfl (by decide) h v fun t w here => regStore_thmRefill t c w here,
    sameRest_storeFields_noteWrite s c _ _, ?_⟩
  have hhi : bits v.toNat 16 16 = v.toNat / 65536 := Nat.mod_eq_of_lt (by have := v.isLt; omega)
  have hlo : bits v.toNat 0 16 = v.toNat % 65536 := by simp [bits]
  have hmax := get_storeFields_thmRefill (f := THM_REFILL.RMAX) (by rw [fieldsAt_thmRefill]; decide)
    (s.noteWrite c 0x60140030) v.toNat
  have hmin := get_storeFields_thmRefill (f := THM_REFILL.RMIN) (by rw [fieldsAt_thmRefill]; decide)
    (s.noteWrite c 0x60140030) v.toNat
  rw [hhi, hlo, get_noteWrite] at hmax hmin
  split
  case isTrue hok =>
    rw [if_pos hok] at hmax hmin
    exact ⟨hmax.trans hlo, hmin.trans hhi⟩
  case isFalse hbad =>
    rw [if_neg hbad] at hmax hmin
    exact ⟨hmax, hmin⟩

/-- Settles O34: a served store command is regStore; EVT_CFG, SYS_CLKFLT, THM_REFILL and SYS_ID have no action, so the
word reaches their fields by access code; the RWF check of SYS_CLKEN enters the handler. -/
theorem peripheralStoresByAccessCode : Obligations.PeripheralStoresByAccessCode := by
  refine ⟨fun c a v s h hr => exec_periphStore_served rfl hr h v, periphStore_evtCfg, fun c v s h => ?_,
    periphStore_thmRefill, fun c v s h => ?_, fun c v s hrun happ h10 hs => ?_⟩
  · obtain ⟨t, hexec, hrest, hget⟩ := periphStore_sysClkflt c v s h
    refine ⟨t, hexec, hrest, fun f hf => hget f ?_⟩
    rw [fieldsAt_sysClkflt]
    exact (List.mem_reverse (as := [SYS_CLKFLT.REF_LOSS, SYS_CLKFLT.CORE_UNLOCK, SYS_CLKFLT.PER_UNLOCK,
      SYS_CLKFLT.ETH_UNLOCK, SYS_CLKFLT.TDM_UNLOCK, SYS_CLKFLT.XTAL32K_LOSS])).mpr hf
  · refine ⟨_,
      exec_periphStore_fields (x := 0x60000000) rfl (by decide) h v fun t w here => regStore_sysId t c w here,
      sameRest_storeFields_noteWrite s c _ _, ?_⟩
    exact (congrArg State.regs (storeFields_sysId _ _)).trans (regs_noteWrite s c _)
  · have hbad : s.rwfBad c 0x60000014 = true := rwfBad_of_app (by decide) happ holdsRwf_sysClken
    have hexec : exec (.periphStore c 0x60000014 v) s = .next (s.faultHere c Exc.window 4 0x60000014) :=
      
      (exec_periphStore_periph rfl (by decide) c v s).trans (congrArg _ (regWrite_rwfBad hrun hs hbad _ _))
    exact ⟨_, hexec, faultHere_entered h10 _ _ _⟩

end Sys2Proof.Machine
end

section
/-! PROOF. The state after reset (R16, R82, Table GCS-10). -/

namespace Sys2Proof.Machine
open Sys2Proof Sys2Proof.Reg

/-! ### What the state after reset reads as -/

theorem core_reset (c : Core) : State.reset.core c = CoreSt.reset := by cases c <;> rfl

@[simp] theorem get_reset (f : Fld) : State.reset.get f = f.reset := rfl

@[simp] theorem cr_reset (c : Core) (n : Nat) : State.reset.cr c n = crReset n := by
  simp only [State.cr, core_reset]
  rfl

@[simp] theorem g_reset (c : Core) (r : Reg) : State.reset.g c r = 0 := by
  simp [State.g, core_reset, CoreSt.reset, mapGet]

theorem isApp_reset (c : Core) : State.reset.isApp c = false := by
  simp [State.isApp, State.statusBit, crReset, Cr.status]

/-- Every tag of a core is free after reset. -/
theorem tagFree_reset (c : Core) : State.reset.tagFree c = coreTags c := by
  have hfree : ∀ t, (State.reset.tag c t).isFree = true := by
    intro t
    simp only [State.tag, core_reset]
    rfl
  simp [State.tagFree, hfree]

theorem gateBit_reset (c : Core) : State.reset.gateBit c = false := rfl

/-- CYCLE apart, mfcr reads STATUS, TAGFREE and CORE_ID as Table GCS-10 lists them and 0 elsewhere. -/
theorem readCr_reset {n : Nat} (hst : n ≠ Cr.status) (htag : n ≠ Cr.tagfree) (hid : n ≠ Cr.coreId) (hcyc : n ≠ Cr.cycle)
    (c : Core) : (State.reset.readCr c n).1 = 0 := by
  have hzero : crReset n = 0 := if_neg hst
  unfold State.readCr
  rw [if_neg htag, if_neg hid, if_neg hcyc]
  split <;> simp [hzero, gateBit_reset, b2n]

theorem readCr_tagfree_reset (c : Core) : (State.reset.readCr c Cr.tagfree).1 = if c = .grm then 32 else 256 := by
  unfold State.readCr
  rw [if_pos rfl, tagFree_reset]
  cases c <;> rfl

/-- Settles O58: every part of the state after reset reads as its empty map or its constant says. -/
theorem resetState : Obligations.ResetState := by
  refine ⟨get_reset, rfl, rfl, rfl, rfl, rfl, fun c => ?_, rfl, fun _ => rfl, fun _ => rfl, rfl, wf_reset, rfl, rfl,
    rfl⟩
  refine ⟨isApp_reset c, cr_reset c _, readCr_tagfree_reset c,
    fun _ hst htag hid hcyc => readCr_reset hst htag hid hcyc c, cr_reset c _, ?_, g_reset c, ?_⟩
  · rw [core_reset]; rfl
  · rw [State.pc, core_reset]; rfl

end Sys2Proof.Machine
end

section
/-! SUPPORT. Register fields and cores read after an operation that leaves them: the laws the statements about the event
controller, the paddock arbiter and the clocks share. -/

namespace Sys2Proof.Machine
open Sys2Proof Sys2Proof.Reg

/-! ### Fields after updates of other parts -/

theorem get_of_regs {s t : State} (h : t.regs = s.regs) (f : Fld) : t.get f = s.get f := by
  unfold State.get
  rw [h]

@[simp] theorem get_mapPad (s : State) (g : PadSt → PadSt) (f : Fld) : (s.mapPad g).get f = s.get f := rfl
@[simp] theorem get_mapPower (s : State) (g : PowerSt → PowerSt) (f : Fld) : (s.mapPower g).get f = s.get f := rfl

@[simp] theorem get_setG (s : State) (c : Core) (r : Reg) (v : Word) (f : Fld) : (s.setG c r v).get f = s.get f :=
  get_of_regs (by simp) f

@[simp] theorem get_setRun (s : State) (c : Core) (r : CoreRun) (f : Fld) : (s.setRun c r).get f = s.get f :=
  get_of_regs (by simp) f

@[simp] theorem get_advance (s : State) (c : Core) (f : Fld) : (s.advance c).get f = s.get f :=
  get_of_regs (by simp) f

@[simp] theorem get_fetched (s : State) (f : Fetch) (q : Fld) : (s.fetched f).get q = s.get q := by
  unfold State.fetched State.when State.eccSeen
  split
  · exact get_of_regs (by simp) q
  · rfl

@[simp] theorem fetched_mem (s : State) (f : Fetch) : (s.fetched f).mem = s.mem := by
  simp [State.fetched]

/-! ### Cores after an operation that leaves them -/

theorem g_of_rest {s t : State} (h : t.rest = s.rest) (c : Core) (r : Reg) : t.g c r = s.g c r := by
  unfold State.g
  rw [State.core_of_rest h]

theorem pc_of_rest {s t : State} (h : t.rest = s.rest) (c : Core) : t.pc c = s.pc c := by
  unfold State.pc
  rw [State.core_of_rest h]

/-! ### Bits of a field -/

theorem testBit_setBit (n b k : Nat) : (setBit n b).testBit k = (n.testBit k || decide (b = k)) := by
  simp [setBit, Nat.testBit_two_pow]

theorem testBit_clrBit (n b k : Nat) : (clrBit n b).testBit k = (n.testBit k && decide (b ≠ k)) := by
  unfold clrBit
  split
  case isTrue h =>
    have hlow : n % 2 ^ b < 2 ^ b := Nat.mod_lt _ (Nat.two_pow_pos b)
    have hodd : n / 2 ^ b = 2 * (n / 2 ^ b / 2) + 1 := by
      have := Nat.testBit_eq_decide_div_mod_eq.symm.trans h
      have := of_decide_eq_true this
      omega
    have hn : n = 2 ^ b * (2 * (n / 2 ^ b / 2) + 1) + n % 2 ^ b := by
      rw [← hodd, Nat.div_add_mod]
    have hsub : n - 2 ^ b = 2 ^ b * (2 * (n / 2 ^ b / 2)) + n % 2 ^ b := by
      have : 2 ^ b * (2 * (n / 2 ^ b / 2) + 1) = 2 ^ b * (2 * (n / 2 ^ b / 2)) + 2 ^ b := Nat.mul_succ _ _
      omega
    rw [hsub]
    conv_rhs => rw [hn]
    rw [Nat.testBit_two_pow_mul_add _ hlow, Nat.testBit_two_pow_mul_add _ hlow]
    rcases Nat.lt_trichotomy k b with hk | rfl | hk
    · simp [hk, hk.ne']
    · simp
    · obtain ⟨j, rfl⟩ := Nat.exists_eq_add_of_lt hk
      simp [show b + j + 1 - b = j + 1 by omega, show ¬ b + j + 1 < b by omega, Nat.testBit_succ, Nat.mul_add_div,
        show b ≠ b + j + 1 by omega]
  case isFalse h =>
    by_cases hk : b = k
    · subst hk; simpa using h
    · simp [hk]

end Sys2Proof.Machine
end

section
/-! SUPPORT. The paddock locks (R48-R51): what taking, freeing and refusing a lock do, and which core waits for one. -/

namespace Sys2Proof.Machine
open Sys2Proof Sys2Proof.Reg

/-! ### Owners -/

theorem own_key_ne {m n : Nat} (hm : m < 32) (hn : n < 32) (h : m ≠ n) :
    (PAD_LOCKOWN.OWN m).key ≠ (PAD_LOCKOWN.OWN n).key := by
  simp only [Fld.key, PAD_LOCKOWN.OWN]
  omega

theorem ownCode_lt (c : Core) : ownCode c < 4 := by cases c <;> decide

@[simp] theorem holdsLock_iff {s : State} {c : Core} {n : Nat} :
    s.holdsLock c n = true ↔ s.get (PAD_LOCKOWN.OWN n) = coreCode c + 1 := decide_eq_true_iff

@[simp] theorem lockFree_iff {s : State} {n : Nat} : s.lockFree n = true ↔ s.get (PAD_LOCKOWN.OWN n) = 0 :=
  decide_eq_true_iff

theorem lockOrderBad_iff {s : State} {c : Core} {n : Nat} :
    s.lockOrderBad c n = true ↔ ∃ j < 32, s.get (PAD_LOCKOWN.OWN j) = coreCode c + 1 ∧ n ≤ j := by
  simp [State.lockOrderBad]

/-! ### Waiting cores -/

theorem waitsLock_eq_some {s : State} {c : Core} {n d : Nat} :
    s.waitsLock c n = some d ↔ (s.core c).run = .lockWait n d := by
  unfold State.waitsLock
  split <;> simp_all

theorem waitsLock_isSome {s : State} {c : Core} {n : Nat} :
    (s.waitsLock c n).isSome = true ↔ ∃ d, (s.core c).run = .lockWait n d := by
  simp [Option.isSome_iff_exists, waitsLock_eq_some]

theorem outranked_iff {s : State} {c : Core} {n : Nat} :
    s.outranked c n = true ↔ ∃ k d, coreCode k < coreCode c ∧ (s.core k).run = .lockWait n d := by
  have hall : ∀ k, k ∈ coresByRank := by intro k; cases k <;> decide
  simp [State.outranked, waitsLock_isSome, hall]

/-- LOCK_GRANT looks at the cores in the order of their codes. -/
theorem find?_coresByRank {p : Core → Bool} {c : Core} (hc : p c = true)
    (hfirst : ∀ k, coreCode k < coreCode c → p k = false) : coresByRank.find? p = some c := by
  cases c with
  | r0 => simp [coresByRank, hc]
  | r1 => simp [coresByRank, hc, hfirst .r0 (by decide)]
  | grm => simp [coresByRank, hc, hfirst .r0 (by decide), hfirst .r1 (by decide)]

/-! ### Operations on a lock -/

@[simp] theorem get_takeLock_same (s : State) (c : Core) (n : Nat) :
    (s.takeLock c n).get (PAD_LOCKOWN.OWN n) = coreCode c + 1 := by
  simp only [State.takeLock, get_mapPad, get_set_same]
  exact Nat.mod_eq_of_lt (ownCode_lt c)

theorem get_takeLock_ne (s : State) (c : Core) {m n : Nat} (hm : m < 32) (hn : n < 32) (h : m ≠ n) :
    (s.takeLock c n).get (PAD_LOCKOWN.OWN m) = s.get (PAD_LOCKOWN.OWN m) := by
  simp only [State.takeLock, get_mapPad, get_set_ne _ _ (own_key_ne hm hn h)]

@[simp] theorem get_freeLock_same (s : State) (n : Nat) : (s.freeLock n).get (PAD_LOCKOWN.OWN n) = 0 := by
  simp [State.freeLock]

theorem get_freeLock_ne (s : State) {m n : Nat} (hm : m < 32) (hn : n < 32) (h : m ≠ n) :
    (s.freeLock n).get (PAD_LOCKOWN.OWN m) = s.get (PAD_LOCKOWN.OWN m) := by
  simp only [State.freeLock, get_mapPad, get_set_ne _ _ (own_key_ne hm hn h)]

/-- An assertion leaves every register of the paddock arbiter. -/
theorem get_raise_pad (s : State) {n : Nat} (hn : n < 256) {f : Fld} (h : 0x60150000 ≤ f.addr) :
    (s.raise n).get f = s.get f := by
  apply get_raise_ne <;> simp only [Fld.key, EVT_PEND.BITS, EVT_OVR.BITS] <;> omega

/-- A refused lock operation stands in PAD_LOCKERR, and no owner changes. -/
theorem lockRefused_recorded (s : State) (c : Core) {n kind : Nat} (hn : n < 32) (hk : kind < 2) :
    let t := s.lockRefused c n kind
    t.get PAD_LOCKERR.CORE = coreCode c ∧ t.get PAD_LOCKERR.KIND = kind ∧ t.get PAD_LOCKERR.LOCK = n ∧
      ∀ m < 32, t.get (PAD_LOCKOWN.OWN m) = s.get (PAD_LOCKOWN.OWN m) := by
  have hcode : coreCode c < 4 := by cases c <;> decide
  refine ⟨?_, ?_, ?_, fun m hm => ?_⟩ <;> unfold State.lockRefused <;>
    rw [get_raise_pad _ (by decide) (by
      simp only [PAD_LOCKERR.CORE, PAD_LOCKERR.KIND, PAD_LOCKERR.LOCK, PAD_LOCKOWN.OWN]; omega)]
  · rw [get_set_ne _ _ (by decide), get_set_ne _ _ (by decide), get_set_same]
    exact Nat.mod_eq_of_lt hcode
  · rw [get_set_ne _ _ (by decide), get_set_same]
    exact Nat.mod_eq_of_lt hk
  · rw [get_set_same]
    exact Nat.mod_eq_of_lt hn
  · rw [get_set_ne, get_set_ne, get_set_ne] <;>
      simp only [Fld.key, PAD_LOCKERR.CORE, PAD_LOCKERR.KIND, PAD_LOCKERR.LOCK, PAD_LOCKOWN.OWN] <;> omega

end Sys2Proof.Machine
end

section
/-! PROOF. lock, LOCK_GRANT and unlock (R48, R49, R110). -/

namespace Sys2Proof.Machine
open Sys2Proof Sys2Proof.Reg

/-! ### The instructions once their fetch raises no exception -/

theorem exec_lock_fetches {s : State} {f : Fetch} (hf : s.fetches f = true) (hfirm : s.isApp f.core = false) (d : Reg)
    (n : BitVec 5) :
    exec (.lock f d n) s = .next (
      if (s.fetched f).lockOrderBad f.core n.toNat then
        (((s.fetched f).lockRefused f.core n.toNat 0).setG f.core d 1).advance f.core
      else if (s.fetched f).lockFree n.toNat && !((s.fetched f).outranked f.core n.toNat) then
        (((s.fetched f).takeLock f.core n.toNat).setG f.core d 0).advance f.core
      else (s.fetched f).setRun f.core (.lockWait n.toNat d.toNat)) := by
  simp only [exec_lock, execLock, instr_fetches hf, firstBad, hfirm]
  rfl

theorem exec_unlock_fetches {s : State} {f : Fetch} (hf : s.fetches f = true) (hfirm : s.isApp f.core = false)
    (n : BitVec 5) :
    exec (.unlock f 0 0 0 n) s = .next (
      (if (s.fetched f).holdsLock f.core n.toNat then (s.fetched f).freeLock n.toNat
        else (s.fetched f).lockRefused f.core n.toNat 1).advance f.core) := by
  simp only [exec_unlock, execUnlock, instr_fetches hf, firstBad, hfirm]
  rfl

/-- What lock leaves where it answers `v` at once, after an operation `u` on registers alone. -/
theorem lock_answers {s u : State} {f : Fetch} (hu : u.rest = (s.fetched f).rest) (d : Reg) (v : Word) :
    ((u.setG f.core d v).advance f.core).mem = s.mem ∧
      (∀ r, ((u.setG f.core d v).advance f.core).g f.core r = if r = d ∧ r ≠ 0 then v else s.g f.core r) ∧
      ((u.setG f.core d v).advance f.core).pc f.core = s.pc f.core + 4 := by
  refine ⟨?_, fun r => ?_, ?_⟩
  · rw [State.advance_mem, State.setG_mem, State.mem_of_rest hu, fetched_mem]
  · rw [g_advance, g_setG, g_of_rest hu, g_fetched]
  · rw [pc_advance, pc_setG, pc_of_rest hu, pc_fetched]

/-! ### The clauses -/

/-- LOCK_GRANT of a free lock for which `c` waits first: `c` takes it and goes on. -/
theorem exec_lockGrant_waits {s : State} {n : BitVec 5} {c : Core} {d : Reg}
    (hfree : s.get (PAD_LOCKOWN.OWN n.toNat) = 0) (hwait : (s.core c).run = .lockWait n.toNat d.toNat)
    (hfirst : ∀ k x, coreCode k < coreCode c → (s.core k).run ≠ .lockWait n.toNat x) :
    exec (.lockGrant n) s = .next ((((s.takeLock c n.toNat).setG c d 0).setRun c .run).advance c) := by
  have hfind : coresByRank.find? (fun k => (s.waitsLock k n.toNat).isSome) = some c := by
    refine find?_coresByRank (waitsLock_isSome.mpr ⟨_, hwait⟩) fun k hk => ?_
    rw [← Bool.not_eq_true, waitsLock_isSome]
    rintro ⟨x, hx⟩
    exact hfirst k x hk hx
  rw [exec_lockGrant, execLockGrant, if_pos (lockFree_iff.mpr hfree), hfind]
  simp [waitsLock_eq_some.mpr hwait]

/-- LOCK_GRANT of a lock that is held, or that no core waits for. -/
theorem exec_lockGrant_idle {s : State} {n : BitVec 5}
    (h : s.get (PAD_LOCKOWN.OWN n.toNat) ≠ 0 ∨ ∀ c x, (s.core c).run ≠ .lockWait n.toNat x) :
    exec (.lockGrant n) s = .next s := by
  rw [exec_lockGrant, execLockGrant]
  split
  case isTrue hfree =>
    have hnone : coresByRank.find? (fun k => (s.waitsLock k n.toNat).isSome) = none := by
      refine List.find?_eq_none.mpr fun k _ => ?_
      rw [waitsLock_isSome]
      rintro ⟨x, hx⟩
      exact (h.resolve_left (not_not.mpr (lockFree_iff.mp hfree))) k x hx
    rw [hnone]
  case isFalse => rfl

/-- unlock frees a lock that the core holds, and records any other. -/
theorem unlock_clause {f : Fetch} {n : BitVec 5} {s : State} (hf : s.fetches f = true) (hfirm : s.isApp f.core = false) :
    ∃ t, exec (.unlock f 0 0 0 n) s = .next t ∧ t.pc f.core = s.pc f.core + 4 ∧ t.mem = s.mem ∧
      (∀ r, t.g f.core r = s.g f.core r) ∧
      (s.get (PAD_LOCKOWN.OWN n.toNat) = coreCode f.core + 1 → t.get (PAD_LOCKOWN.OWN n.toNat) = 0 ∧
        ∀ m < 32, m ≠ n.toNat → t.get (PAD_LOCKOWN.OWN m) = s.get (PAD_LOCKOWN.OWN m)) ∧
      (s.get (PAD_LOCKOWN.OWN n.toNat) ≠ coreCode f.core + 1 →
        t.get PAD_LOCKERR.CORE = coreCode f.core ∧ t.get PAD_LOCKERR.KIND = 1 ∧ t.get PAD_LOCKERR.LOCK = n.toNat ∧
          ∀ m < 32, t.get (PAD_LOCKOWN.OWN m) = s.get (PAD_LOCKOWN.OWN m)) := by
  have hn : n.toNat < 32 := n.isLt
  rw [exec_unlock_fetches hf hfirm]
  by_cases hheld : s.get (PAD_LOCKOWN.OWN n.toNat) = coreCode f.core + 1
  · rw [if_pos (by simpa using hheld)]
    obtain ⟨hmem, hg, hpc⟩ := lock_answers (State.freeLock_rest (s.fetched f) n.toNat) 0 0
    refine ⟨_, rfl, hpc, hmem, fun r => ?_, fun _ => ⟨?_, fun m hm hmn => ?_⟩, fun h => absurd hheld h⟩
    · exact (hg r).trans (if_neg fun h => h.2 h.1)
    · rw [get_advance, get_freeLock_same]
    · rw [get_advance, get_freeLock_ne _ hm hn hmn, get_fetched]
  · rw [if_neg (by simpa using hheld)]
    obtain ⟨hmem, hg, hpc⟩ := lock_answers (State.lockRefused_rest (s.fetched f) f.core n.toNat 1) 0 0
    refine ⟨_, rfl, hpc, hmem, fun r => ?_, fun h => absurd h hheld, fun _ => ?_⟩
    · exact (hg r).trans (if_neg fun h => h.2 h.1)
    · simpa using lockRefused_recorded (s.fetched f) f.core hn (by decide : 1 < 2)

/-- Settles O25: lock goes by the order check, then by the owner and the cores that wait; each branch is one operation
on a lock. -/
theorem paddockLocks : Obligations.PaddockLocks := by
  refine ⟨fun f d n s hf hfirm => ?_, fun c n d s hfree hwait hfirst => ?_, fun n s h => exec_lockGrant_idle h,
    fun f n s hf hfirm => unlock_clause hf hfirm⟩
  · intro bad outranked answers
    have hn : n.toNat < 32 := n.isLt
    have hbad : (s.fetched f).lockOrderBad f.core n.toNat = true ↔ bad := by simp [lockOrderBad_iff, bad]
    have hfree : (s.fetched f).lockFree n.toNat = true ↔ s.get (PAD_LOCKOWN.OWN n.toNat) = 0 := by simp
    have hout : (s.fetched f).outranked f.core n.toNat = true ↔ outranked := by simp [outranked_iff, outranked]
    simp only [answers, exec_lock_fetches hf hfirm]
    refine ⟨fun hb => ?_, fun hb h0 ho => ?_, fun hb hw => ?_⟩
    · rw [if_pos (hbad.mpr hb)]
      refine ⟨_, ⟨rfl, lock_answers (State.lockRefused_rest _ _ _ _) d 1⟩, ?_⟩
      simpa using lockRefused_recorded (s.fetched f) f.core hn (by decide : 0 < 2)
    · rw [if_neg (mt hbad.mp hb), if_pos (by simp [hfree.mpr h0, Bool.eq_false_iff.mpr (mt hout.mp ho)])]
      refine ⟨_, ⟨rfl, lock_answers (State.takeLock_rest _ _ _) d 0⟩, ?_, fun m hm hmn => ?_⟩
      · rw [get_advance, get_setG, get_takeLock_same]
      · rw [get_advance, get_setG, get_takeLock_ne _ _ hm hn hmn, get_fetched]
    · have hwaits : ¬ ((s.fetched f).lockFree n.toNat && !(s.fetched f).outranked f.core n.toNat) = true := by
        rw [Bool.and_eq_true, hfree, Bool.not_eq_true', ← Bool.not_eq_true, hout]
        exact fun h => hw.elim (fun h0 => h0 h.1) (fun ho => h.2 ho)
      rw [if_neg (mt hbad.mp hb), if_neg hwaits]
      exact ⟨_, rfl, run_setRun _ _ _, by simp, fun r => by simp, by simp⟩
  · refine ⟨_, exec_lockGrant_waits hfree hwait hfirst, by simp, by simp, ?_, fun r => ?_, fun k hk => ?_⟩
    · rw [pc_advance, pc_setRun, pc_setG, pc_of_rest (State.takeLock_rest s c n.toNat)]
    · rw [g_advance, g_setRun, g_setG, g_of_rest (State.takeLock_rest s c n.toNat)]
      by_cases hr : r = 0#5
      · subst hr; simp
      · simp [hr]
    · simp only [State.advance, core_setPc_ne _ _ hk, core_setRun_ne _ _ hk, core_setG_ne _ _ _ hk,
        State.core_of_rest (State.takeLock_rest s c n.toNat)]

end Sys2Proof.Machine
end

section
/-! SUPPORT. What an operation keeps: fields of the registers, what is pending or held in the event controller (R35,
R40), and the PLL domains that are gated. -/

namespace Sys2Proof.Machine
open Sys2Proof Sys2Proof.Reg

/-- Keys of EVT_PEND. -/
abbrev evtPendKey (k : Nat) : Prop := 0x60020100 * 32 ≤ k ∧ k < 0x60020120 * 32

/-- Keys of EVT_PEND and EVT_OVR, which assertions write. -/
abbrev evtKey (k : Nat) : Prop := 0x60020100 * 32 ≤ k ∧ k < 0x60020140 * 32

/-- From `s` to `t` the fields whose keys are in `P` stand, no pending source and no held assertion is lost, and the
same PLLs gate their domains. -/
structure State.keeps (P : Nat → Prop) (s t : State) : Prop where
  get_eq : ∀ q : Fld, P q.key → t.get q = s.get q
  pending : ∀ n < 256, s.evtPending n = true → t.evtPending n = true
  held : ∀ n ∈ s.evt.held, n ∈ t.evt.held
  gated : t.power.gated = s.power.gated

namespace State.keeps
variable {P : Nat → Prop} {s t u : State}

theorem refl (P : Nat → Prop) (s : State) : s.keeps P s := ⟨fun _ _ => rfl, fun _ _ h => h, fun _ h => h, rfl⟩

theorem trans (h : s.keeps P t) (k : t.keeps P u) : s.keeps P u :=
  ⟨fun q hq => (k.get_eq q hq).trans (h.get_eq q hq), fun n hn hp => k.pending n hn (h.pending n hn hp),
    fun n hn => k.held n (h.held n hn), k.gated.trans h.gated⟩

theorem mono {Q : Nat → Prop} (h : s.keeps P t) (hPQ : ∀ k, Q k → P k) : s.keeps Q t :=
  ⟨fun q hq => h.get_eq q (hPQ _ hq), h.pending, h.held, h.gated⟩

/-- An update of parts other than the registers, the event controller and the power record. -/
theorem of_eq (h : s.keeps P t) (hr : u.regs = t.regs) (he : u.evt = t.evt) (hp : u.power.gated = t.power.gated) :
    s.keeps P u := by
  refine h.trans ⟨fun q _ => get_of_regs hr q, fun n _ hn => ?_, fun n hn => he ▸ hn, hp⟩
  rw [← hn]
  exact congrArg (bit · _) (get_of_regs hr _)

theorem set (h : s.keeps P t) {f : Fld} (v : Nat) (hP : ¬ P f.key) (he : ¬ evtPendKey f.key) : s.keeps P (t.set f v) := by
  refine h.trans ⟨fun q hq => get_set_ne t v fun e => hP (e ▸ hq), fun n hn hp => ?_, fun n hn => hn, rfl⟩
  unfold State.evtPending State.bitOf at hp ⊢
  rw [get_set_ne _ _ fun e => he (e ▸ ?_)]
  · exact hp
  · simp only [evtPendKey, Fld.key, EVT_PEND.BITS]; omega

theorem put (h : s.keeps P t) {f : Fld} (b : Bool) (hP : ¬ P f.key) (he : ¬ evtPendKey f.key) : s.keeps P (t.put f b) :=
  h.set _ hP he

theorem mapPad (h : s.keeps P t) (g : PadSt → PadSt) : s.keeps P (t.mapPad g) := h.of_eq rfl rfl rfl
theorem mapNvm (h : s.keeps P t) (g : NvmSt → NvmSt) : s.keeps P (t.mapNvm g) := h.of_eq rfl rfl rfl
theorem mapFio (h : s.keeps P t) (g : FioSt → FioSt) : s.keeps P (t.mapFio g) := h.of_eq rfl rfl rfl
theorem mapCrb (h : s.keeps P t) (g : CurbSt → CurbSt) : s.keeps P (t.mapCrb g) := h.of_eq rfl rfl rfl
theorem mapCan (h : s.keeps P t) (g : CanSt → CanSt) : s.keeps P (t.mapCan g) := h.of_eq rfl rfl rfl

theorem foldl {α : Type} (f : State → α → State) (l : List α) (h : ∀ t : State, ∀ x ∈ l, t.keeps P (f t x)) (s : State) :
    s.keeps P (l.foldl f s) := by
  induction l generalizing s with
  | nil => exact refl P s
  | cons x l ih =>
    exact (h s x List.mem_cons_self).trans (ih (fun t y hy => h t y (List.mem_cons_of_mem _ hy)) (f s x))

theorem ite {c : Prop} {_ : Decidable c} (h : c → s.keeps P t) (k : ¬ c → s.keeps P u) :
    s.keeps P (if c then t else u) := by
  split
  · exact h ‹_›
  · exact k ‹_›

/-- A further step that may be left out. -/
theorem iteStep {c : Prop} {_ : Decidable c} (h : s.keeps P t) (k : t.keeps P u) : s.keeps P (if c then u else t) :=
  .ite (fun _ => h.trans k) fun _ => h

/-- A choice between answers that carry a state. -/
theorem iteSnd {β : Type} {a b : β × State} {c : Prop} {_ : Decidable c} (h : s.keeps P a.2) (k : s.keeps P b.2) :
    s.keeps P (if c then a else b).2 := by
  split
  · exact h
  · exact k

theorem when {g : State → State} (h : s.keeps P t) (c : Bool) (k : t.keeps P (g t)) : s.keeps P (t.when c g) :=
  .iteStep h k

end State.keeps

/-! ### Assertions -/

theorem evtPend_key_ne {j k : Nat} (h : j ≠ k) : (EVT_PEND.BITS j).key ≠ (EVT_PEND.BITS k).key := by
  simp only [Fld.key, EVT_PEND.BITS]
  omega

theorem evtPend_key_ne_ovr {j k : Nat} (hj : j < 8) : (EVT_PEND.BITS j).key ≠ (EVT_OVR.BITS k).key := by
  simp only [Fld.key, EVT_PEND.BITS, EVT_OVR.BITS]
  omega

/-- Latching a source makes it pending and changes no other pending bit. -/
theorem evtPending_latchEvt_eq (s : State) {m n : Nat} (hm : m < 256) :
    (s.latchEvt n).evtPending m = (s.evtPending m || decide (m = n)) := by
  by_cases hmn : m = n
  · subst hmn
    simp [evtPending_latchEvt]
  rw [decide_eq_false hmn, Bool.or_false]
  unfold State.latchEvt State.setBitOf
  split
  · exact congrArg (bit · _) (get_set_ne s _ (evtPend_key_ne_ovr (by omega)))
  · by_cases hw : m / 32 = n / 32
    · have hb : n % 32 ≠ m % 32 := by omega
      have hlt : m % 32 < 32 := Nat.mod_lt _ (by decide)
      simp only [State.evtPending, State.bitOf, hw, get_set_same, bit, Nat.testBit_mod_two_pow, testBit_setBit, hb]
      simp [EVT_PEND.BITS, hlt]
    · exact congrArg (bit · _) (get_set_ne s _ (evtPend_key_ne hw))

/-- An assertion of another source leaves the pending bit. -/
theorem evtPending_raise_ne (s : State) {m n : Nat} (hm : m < 256) (h : m ≠ n) :
    (s.raise n).evtPending m = s.evtPending m := by
  unfold State.raise State.softEvt
  split
  · rfl
  · split
    · rfl
    · rw [evtPending_latchEvt_eq s hm, decide_eq_false h, Bool.or_false]

/-- An assertion keeps every field but those of EVT_PEND and EVT_OVR. -/
theorem keeps_raise {P : Nat → Prop} (hP : ∀ k, P k → ¬ evtKey k) (s : State) {n : Nat} (hn : n < 256) :
    s.keeps P (s.raise n) := by
  have hkey : ∀ q : Fld, P q.key → q.key ≠ (EVT_PEND.BITS (n / 32)).key ∧ q.key ≠ (EVT_OVR.BITS (n / 32)).key := by
    intro q hq
    have := hP _ hq
    simp only [evtKey] at this
    simp only [Fld.key, EVT_PEND.BITS, EVT_OVR.BITS] at this ⊢
    omega
  refine ⟨fun q hq => get_raise_ne s (hkey q hq).1 (hkey q hq).2, fun m hm hp => ?_, fun m hm => ?_, ?_⟩ <;>
    unfold State.raise State.softEvt <;> split
  · exact hp
  · split
    · exact hp
    · rw [evtPending_latchEvt_eq s hm, hp, Bool.true_or]
  · exact hm
  · split
    · exact List.mem_append_left _ hm
    · unfold State.latchEvt; split <;> exact hm
  · rfl
  · split
    · rfl
    · unfold State.latchEvt; split <;> rfl

theorem State.keeps.raise {P : Nat → Prop} {s t : State} (h : s.keeps P t) (hP : ∀ k, P k → ¬ evtKey k) {n : Nat}
    (hn : n < 256) : s.keeps P (t.raise n) := h.trans (keeps_raise hP t hn)

/-- What has asserted stays asserted. -/
theorem asserts_of_keeps {P : Nat → Prop} {s t u : State} {n : Nat} (hn : n < 256) (h : s.asserts t n)
    (k : t.keeps P u) : s.asserts u n := by
  intro hen
  have ht := h hen
  split at ht
  case isTrue hc =>
    rw [if_pos hc]
    exact k.held n ht
  case isFalse hc =>
    rw [if_neg hc]
    exact k.pending n hn ht

/-- Fields that say whether a source asserts: they are no fields of EVT_PEND or EVT_OVR. -/
def cfgKey (n k : Nat) : Prop := k = (EVT_CFG.EN n).key ∨ k = (EVT_CFG.ROUTE n).key ∨ k = TDM_CTRL.EN.key

theorem not_evtKey_of_cfgKey {n k : Nat} (h : cfgKey n k) : ¬ evtKey k := by
  unfold evtKey
  rcases h with rfl | rfl | rfl <;> simp only [Fld.key, EVT_CFG.EN, EVT_CFG.ROUTE, TDM_CTRL.EN] <;> omega

/-- Whether a source asserts may be judged where its enable, its route and the mode still stand. -/
theorem asserts_of_cfg_eq {s s' t : State} {n : Nat} (h : ∀ q : Fld, cfgKey n q.key → s'.get q = s.get q)
    (ha : s'.asserts t n) : s.asserts t n :=
  asserts_congr (h _ (.inl rfl)) (h _ (.inr (.inl rfl))) (h _ (.inr (.inr rfl))) ha

theorem asserts_of_kept_cfg {P : Nat → Prop} {s s' t : State} {n : Nat} (k : s.keeps P s') (hP : ∀ k, cfgKey n k → P k)
    (h : s'.asserts t n) : s.asserts t n := asserts_of_cfg_eq (fun q hq => k.get_eq q (hP _ hq)) h

end Sys2Proof.Machine
end

section
/-! SUPPORT. The claim of an event (R36, R37): the pending sources in order, the running priority, and the choice. -/

namespace Sys2Proof.Machine
open Sys2Proof Sys2Proof.Reg

/-! ### Pending sources -/

theorem range_256_eq : List.range 256 = (List.range 8).flatMap fun k => (List.range 32).map fun b => 32 * k + b := by
  decide +kernel

theorem pendingSources_eq (s : State) : s.pendingSources = (List.range 256).filter s.evtPending := by
  rw [range_256_eq, List.filter_flatMap]
  refine List.flatMap_congr fun k _ => ?_
  have hword : ∀ b ∈ List.range 32, s.evtPending (32 * k + b) = bit (s.get (EVT_PEND.BITS k)) b := by
    intro b hb
    have := List.mem_range.mp hb
    unfold State.evtPending State.bitOf
    rw [show (32 * k + b) / 32 = k by omega, show (32 * k + b) % 32 = b by omega]
  rw [List.filter_map]
  have hfilter : (List.range 32).filter (s.evtPending ∘ fun b => 32 * k + b) =
      (List.range 32).filter (bit (s.get (EVT_PEND.BITS k))) := List.filter_congr hword
  rw [hfilter]
  dsimp only
  split
  case isTrue h0 => simp [h0, bit]
  case isFalse => rfl

theorem mem_pendingSources {s : State} {n : Nat} : n ∈ s.pendingSources ↔ n < 256 ∧ s.evtPending n = true := by
  simp [pendingSources_eq]

theorem pendingSources_rise (s : State) : s.pendingSources.Pairwise (· < ·) := by
  rw [pendingSources_eq]
  exact List.pairwise_lt_range.filter _

/-! ### The running priority -/

theorem foldl_max_lt_iff (c : Core) (q : Nat) (l : List InService) : ∀ p : Nat,
    l.foldl (fun p x => if x.core = c then max p x.prio else p) p < q ↔
      p < q ∧ ∀ x ∈ l, x.core = c → x.prio < q := by
  induction l with
  | nil => simp
  | cons y l ih =>
    intro p
    rw [List.foldl_cons, ih, List.forall_mem_cons]
    by_cases hy : y.core = c
    · simp [hy, and_assoc]
    · simp [hy]

theorem runPrio_lt_iff {s : State} {c : Core} {q : Nat} :
    s.runPrio c < q ↔ s.get (thrOf c) < q ∧ ∀ x ∈ s.evt.inService, x.core = c → x.prio < q :=
  foldl_max_lt_iff c q _ _

theorem routeOf_eq (c : Core) : routeOf c = coreCode c + 1 := by cases c <;> rfl

/-! ### The choice -/

/-- Source `n` may be claimed by core `c`: pending, routed to it, above its running priority (R36). -/
def State.claimable (s : State) (c : Core) (n : Nat) : Prop :=
  s.get (EVT_CFG.ROUTE n) = routeOf c ∧ s.runPrio c < s.get (EVT_CFG.PRIO n)

/-- One source more, as `State.eligible` looks at it. -/
def State.pickEvt (s : State) (c : Core) (best : Option (Nat × Nat)) (n : Nat) : Option (Nat × Nat) :=
  let q := s.get (EVT_CFG.PRIO n)
  if s.get (EVT_CFG.ROUTE n) = routeOf c ∧ s.runPrio c < q then
    match best with
    | none => some (n, q)
    | some b => if b.2 < q then some (n, q) else some b
  else best

theorem eligible_eq (s : State) (c : Core) : s.eligible c = s.pendingSources.foldl (s.pickEvt c) none := rfl

theorem pickEvt_not {s : State} {c : Core} {n : Nat} (h : ¬ s.claimable c n) (best : Option (Nat × Nat)) :
    s.pickEvt c best n = best := if_neg h

theorem pickEvt_none {s : State} {c : Core} {n : Nat} (h : s.claimable c n) :
    s.pickEvt c none n = some (n, s.get (EVT_CFG.PRIO n)) := if_pos h

theorem pickEvt_some {s : State} {c : Core} {n : Nat} (h : s.claimable c n) (b : Nat × Nat) :
    s.pickEvt c (some b) n = if b.2 < s.get (EVT_CFG.PRIO n) then some (n, s.get (EVT_CFG.PRIO n)) else some b :=
  if_pos h

/-- Sources that may not be claimed, or not above the best so far, leave it. -/
theorem foldl_pickEvt_keep {s : State} {c : Core} {best : Option (Nat × Nat)} (l : List Nat)
    (h : ∀ m ∈ l, s.claimable c m → ∃ b, best = some b ∧ s.get (EVT_CFG.PRIO m) ≤ b.2) :
    l.foldl (s.pickEvt c) best = best := by
  induction l with
  | nil => rfl
  | cons m l ih =>
    have hm : s.pickEvt c best m = best := by
      by_cases hok : s.claimable c m
      · obtain ⟨b, rfl, hle⟩ := h m List.mem_cons_self hok
        unfold State.pickEvt
        simp [Nat.not_lt.mpr hle]
      · exact pickEvt_not hok best
    rw [List.foldl_cons, hm]
    exact ih fun x hx => h x (List.mem_cons_of_mem _ hx)

/-- Over sources below priority `q` the best so far stays below it. -/
theorem foldl_pickEvt_lt {s : State} {c : Core} {q : Nat} (l : List Nat)
    (h : ∀ m ∈ l, s.claimable c m → s.get (EVT_CFG.PRIO m) < q) : ∀ best : Option (Nat × Nat),
    (∀ b, best = some b → b.2 < q) → ∀ b, l.foldl (s.pickEvt c) best = some b → b.2 < q := by
  induction l with
  | nil => exact fun best hb b hr => hb b hr
  | cons m l ih =>
    intro best hb
    refine ih (fun x hx => h x (List.mem_cons_of_mem _ hx)) _ fun b hr => ?_
    by_cases hok : s.claimable c m
    · have hm := h m List.mem_cons_self hok
      cases best with
      | none =>
        rw [pickEvt_none hok] at hr
        cases hr; exact hm
      | some b' =>
        rw [pickEvt_some hok] at hr
        split at hr
        · cases hr; exact hm
        · exact hb b hr
    · exact hb b (pickEvt_not hok best ▸ hr)

theorem eligible_none {s : State} {c : Core} (h : ∀ n < 256, s.evtPending n = true → ¬ s.claimable c n) :
    s.eligible c = none := by
  rw [eligible_eq]
  refine foldl_pickEvt_keep _ fun m hm hok => ?_
  obtain ⟨hlt, hp⟩ := mem_pendingSources.mp hm
  exact absurd hok (h m hlt hp)

/-- The source of highest priority, the lowest number among equals, is the one chosen. -/
theorem eligible_some {s : State} {c : Core} {n : Nat} (hn : n < 256) (hp : s.evtPending n = true)
    (hok : s.claimable c n)
    (hbest : ∀ m < 256, s.evtPending m = true → s.claimable c m → s.get (EVT_CFG.PRIO m) < s.get (EVT_CFG.PRIO n) ∨
      s.get (EVT_CFG.PRIO m) = s.get (EVT_CFG.PRIO n) ∧ n ≤ m) :
    s.eligible c = some (n, s.get (EVT_CFG.PRIO n)) := by
  obtain ⟨pre, post, hsplit⟩ := List.append_of_mem (mem_pendingSources.mpr ⟨hn, hp⟩)
  have hmem : ∀ m, m ∈ pre ∨ m ∈ post → m < 256 ∧ s.evtPending m = true := by
    intro m hm
    refine mem_pendingSources.mp ?_
    rw [hsplit]
    exact hm.elim (List.mem_append_left _) fun h => List.mem_append_right _ (List.mem_cons_of_mem _ h)
  have hrise := pendingSources_rise s
  rw [hsplit, List.pairwise_append] at hrise
  obtain ⟨-, -, hbefore⟩ := hrise
  have hpre : ∀ b, pre.foldl (s.pickEvt c) none = some b → b.2 < s.get (EVT_CFG.PRIO n) := by
    refine foldl_pickEvt_lt pre (fun m hm hokm => ?_) none (fun b hb => by cases hb)
    obtain ⟨hlt, hpm⟩ := hmem m (.inl hm)
    have hmn : m < n := hbefore m hm n List.mem_cons_self
    rcases hbest m hlt hpm hokm with h | ⟨-, h⟩
    · exact h
    · omega
  have hhere : s.pickEvt c (pre.foldl (s.pickEvt c) none) n = some (n, s.get (EVT_CFG.PRIO n)) := by
    cases hacc : pre.foldl (s.pickEvt c) none with
    | none => exact pickEvt_none hok
    | some b => rw [pickEvt_some hok, if_pos (hpre b hacc)]
  rw [eligible_eq, hsplit, List.foldl_append, List.foldl_cons, hhere]
  refine foldl_pickEvt_keep post fun m hm hokm => ⟨_, rfl, ?_⟩
  obtain ⟨hlt, hpm⟩ := hmem m (.inr hm)
  rcases hbest m hlt hpm hokm with h | ⟨h, -⟩
  · exact h.le
  · exact h.le

/-! ### The claim -/

/-- Clearing a pending bit leaves every other. -/
theorem evtPending_clear (s : State) (n : Nat) {m : Nat} :
    (s.clrBitOf (EVT_PEND.BITS (n / 32)) (n % 32)).evtPending m = (s.evtPending m && decide (m ≠ n)) := by
  unfold State.evtPending State.bitOf State.clrBitOf
  by_cases hw : m / 32 = n / 32
  · have hlt : m % 32 < 32 := Nat.mod_lt _ (by decide)
    have hb : n % 32 = m % 32 ↔ m = n := by omega
    simp only [hw, get_set_same, bit, Nat.testBit_mod_two_pow, testBit_clrBit, ne_eq, hb]
    simp [EVT_PEND.BITS, hlt]
  · have hmn : m ≠ n := fun h => hw (congrArg (· / 32) h)
    rw [get_set_ne _ _ (evtPend_key_ne hw), decide_eq_true hmn, Bool.and_true]

theorem claimEvt_none {s : State} {c : Core} (h : s.eligible c = none) : s.claimEvt c = (0, s) := by
  unfold State.claimEvt
  rw [h]

theorem claimEvt_some {s : State} {c : Core} {n q : Nat} (h : s.eligible c = some (n, q)) :
    s.claimEvt c = (2 ^ 31 + q * 256 + n, (s.clrBitOf (EVT_PEND.BITS (n / 32)) (n % 32)).mapEvt fun x =>
      { x with inService := ⟨c, n, q⟩ :: x.inService }) := by
  unfold State.claimEvt
  rw [h]

end Sys2Proof.Machine
end

section
/-! PROOF. Assertion, EVT_SET, claim and done (R35-R37, R39, R40, R474). -/

namespace Sys2Proof.Machine
open Sys2Proof Sys2Proof.Reg

/-! ### Assertion -/

theorem raise_of_disabled {s : State} {n : Nat} (h : s.get (EVT_CFG.EN n) = 0) : s.raise n = s := if_pos h

/-- An enabled source that is pending already sets its EVT_OVR bit. -/
theorem bitOf_ovr_raise {s : State} {n : Nat} (hen : s.get (EVT_CFG.EN n) ≠ 0) (htdm : s.tandem = false)
    (hp : s.evtPending n = true) : (s.raise n).bitOf (EVT_OVR.BITS (n / 32)) (n % 32) = true := by
  have hlt : n % 32 < 32 := Nat.mod_lt _ (by decide)
  unfold State.raise State.softEvt State.latchEvt
  rw [if_neg hen, if_neg (by simp [htdm]), if_pos hp]
  simp only [State.bitOf, State.setBitOf, get_set_same, bit, Nat.testBit_mod_two_pow, testBit_setBit]
  simp [EVT_OVR.BITS, hlt]

/-! ### EVT_SET -/

/-- One bit of a word written to EVT_SETk. -/
def State.setEvtBit (k v : Nat) (s : State) (b : Nat) : State :=
  if bit v b && !(evtReserved (32 * k + b)) then s.softEvt (32 * k + b) else s

theorem setEvt_eq (s : State) (k v : Nat) : s.setEvt k v = (List.range 32).foldl (State.setEvtBit k v) s := rfl

theorem evtReserved_iff {n : Nat} :
    evtReserved n = true ↔ (74 ≤ n ∧ n ≤ 79) ∨ (116 ≤ n ∧ n ≤ 127) ∨ (141 ≤ n ∧ n ≤ 143) := decide_eq_true_iff

theorem keeps_setEvtBit (s : State) {k b : Nat} (v : Nat) (hk : k < 8) (hb : b < 32) :
    s.keeps (fun k => ¬ evtKey k) (State.setEvtBit k v s b) :=
  .ite (fun _ => keeps_raise (fun _ h => h) s (by omega)) fun _ => .refl _ s

theorem keeps_foldl_setEvtBit (s : State) {k : Nat} (v : Nat) (hk : k < 8) {l : List Nat} (hl : ∀ b ∈ l, b < 32) :
    s.keeps (fun k => ¬ evtKey k) (l.foldl (State.setEvtBit k v) s) :=
  .foldl _ l (fun t b hb => keeps_setEvtBit t v hk (hl b hb)) s

/-- A written 1 asserts its source, but one that never asserts. -/
theorem asserts_setEvt (s : State) {k b v : Nat} (hk : k < 8) (hb : b < 32) (hv : bit v b = true)
    (hr : evtReserved (32 * k + b) = false) : s.asserts (s.setEvt k v) (32 * k + b) := by
  obtain ⟨pre, post, hsplit⟩ := List.append_of_mem (List.mem_range.mpr hb)
  have hlt : ∀ x, x ∈ pre ∨ x ∈ b :: post → x < 32 := fun x hx =>
    List.mem_range.mp (hsplit ▸ List.mem_append.mpr hx)
  have hpre := keeps_foldl_setEvtBit s v hk fun x hx => hlt x (.inl hx)
  have hhere : State.setEvtBit k v (pre.foldl (State.setEvtBit k v) s) b =
      (pre.foldl (State.setEvtBit k v) s).raise (32 * k + b) := if_pos (by rw [hv, hr]; rfl)
  rw [setEvt_eq, hsplit, List.foldl_append, List.foldl_cons, hhere]
  refine asserts_of_kept_cfg hpre (fun _ => not_evtKey_of_cfgKey) ?_
  exact asserts_of_keeps (by omega) (asserts_raise _ _)
    (keeps_foldl_setEvtBit _ v hk fun x hx => hlt x (.inr (List.mem_cons_of_mem _ hx)))

/-- The other pending bits stay. -/
theorem evtPending_setEvt (s : State) {k v n : Nat} (hn : n < 256)
    (h : n / 32 ≠ k ∨ bit v (n % 32) = false ∨ evtReserved n = true) : (s.setEvt k v).evtPending n = s.evtPending n := by
  have hbit : ∀ (t : State), ∀ b ∈ List.range 32, (State.setEvtBit k v t b).evtPending n = t.evtPending n := by
    intro t b hb
    have hb := List.mem_range.mp hb
    unfold State.setEvtBit
    split
    case isTrue hgo =>
      rw [Bool.and_eq_true, Bool.not_eq_true'] at hgo
      refine evtPending_raise_ne t hn fun hnb => ?_
      subst hnb
      rw [show (32 * k + b) / 32 = k by omega, show (32 * k + b) % 32 = b by omega, hgo.1, hgo.2] at h
      simp at h
    case isFalse => rfl
  rw [setEvt_eq]
  exact List.foldlRecOn (List.range 32) (State.setEvtBit k v) (motive := fun t => t.evtPending n = s.evtPending n) rfl
    fun t ht b hb => (hbit t b hb).trans ht

theorem raise_crb (s : State) (n : Nat) : (s.raise n).crb = s.crb := by
  unfold State.raise State.softEvt State.latchEvt
  repeat' split
  all_goals rfl

theorem setEvt_crb (s : State) (k v : Nat) : (s.setEvt k v).crb = s.crb := by
  rw [setEvt_eq]
  refine List.foldlRecOn (List.range 32) (State.setEvtBit k v) (motive := fun t => t.crb = s.crb) rfl fun t ht b _ => ?_
  unfold State.setEvtBit
  split
  · exact (raise_crb t _).trans ht
  · exact ht

/-! ### Registers that act -/

/-- A Rider's store is remembered in the tandem block alone. -/
theorem noteWrite_eq (s : State) (c : Core) (a : Nat) : ∃ g, s.noteWrite c a = s.mapTdm g := by
  unfold State.noteWrite
  split
  · cases c
    · exact ⟨_, rfl⟩
    · exact ⟨_, rfl⟩
    · exact ⟨id, rfl⟩
  · exact ⟨id, rfl⟩

theorem fieldsAt_evtSet {k : Nat} (hk : k < 8) : fieldsAt (EVT_SET.BITS k).addr ≠ [] := by
  interval_cases k <;> decide

/-- A store to a register of the SYS, PWR, EVT, PAD, HRD or HVM block with an action of its own. -/
theorem regStore_of_act1 {s t : State} {c : Core} {a w : Nat} {here : Bool} (hne : fieldsAt a ≠ [])
    (hblk : a / 0x10000 ≤ 0x6004 ∨ a / 0x10000 = 0x6015) (h : s.storeAct1 c a w here = some t) :
    s.regStore c a w here = t := by
  unfold State.regStore
  simp [hne, hblk, h]

theorem storeAct1_evtSet {k : Nat} (hk : k < 8) (s : State) (c : Core) (w : Nat) (here : Bool) :
    s.storeAct1 c (EVT_SET.BITS k).addr w here = some (s.setEvt k w) := by
  have hidx : (0x60020140 + 4 * k - (0x60020140 + 4 * 0)) / 4 = k := by omega
  unfold State.storeAct1
  simp only [SYS_CLKEN.TDM_EN, SYS_RSTCMD.KEY, SYS_WDCFG.EN, SYS_WDKEY.KEY, PWR_REQ.TARGET, EVT_DONE_R0.SRC,
    EVT_DONE_R1.SRC, EVT_DONE_GRM.SRC, EVT_SET.BITS]
  simp (disch := omega) only [if_neg, if_pos, hidx]

theorem regStore_evtSet {k : Nat} (hk : k < 8) (s : State) (c : Core) (w : Nat) (here : Bool) :
    s.regStore c (EVT_SET.BITS k).addr w here = s.setEvt k w :=
  regStore_of_act1 (fieldsAt_evtSet hk) (.inl (by simp only [EVT_SET.BITS]; omega)) (storeAct1_evtSet hk s c w here)

theorem regStore_evtDone (s : State) (c k : Core) (w : Nat) (here : Bool) :
    s.regStore k (doneReg c).addr w here = s.doneEvt c (bits w 0 8) := by
  cases c <;> rfl

theorem regLoad_evtClaim (s : State) (c k : Core) : s.regLoad k (claimReg c).addr = s.claimEvt c := by
  have hblk : viewBlock (claimReg c).addr = false := by cases c <;> rfl
  have hggn : (claimReg c).addr ≠ GGN_STAT.GATED.addr := by cases c <;> decide
  have hact : s.loadAct (claimReg c).addr = some (s.claimEvt c) := by cases c <;> rfl
  unfold State.regLoad
  rw [if_neg (by simp [hblk, hggn]), hact]
  rfl

/-- A load command at a register that a running core may load. -/
theorem regRead_served {s : State} {c : Core} {a : Nat} (h : s.loadsReg c a) :
    s.regRead c a = { (s.regLoad c a).2 with rdata := BitVec.ofNat 32 (s.regLoad c a).1 } := by
  obtain ⟨hrun, hserves⟩ := h
  unfold State.regRead
  simp only [hrun, serves_iff.mp hserves]
  simp

/-- A write command at a register that a running core may store to. -/
theorem poke_served {s : State} {c : Core} {a : Nat} (h : s.storesReg c a) (w : Nat) :
    s.poke c a w = .next ((s.noteWrite c a).regStore c a w (decide (c = .grm))) := by
  rw [State.poke, regWrite_served h]

/-! ### The clauses -/

/-- The clause about EVT_SET. -/
theorem evtSet_clause (c : Core) (k : BitVec 3) (v : Word) (s : State) (h : s.storesReg c (EVT_SET.BITS k.toNat).addr) :
    ∃ t, exec (.evtSet c k v) s = .next t ∧ s.sameRest t ∧ t.crb = s.crb ∧
      (∀ b < 32, v.getLsbD b = true → evtReserved (32 * k.toNat + b) = false → s.asserts t (32 * k.toNat + b)) ∧
      ∀ n < 256, n / 32 ≠ k.toNat ∨ v.getLsbD (n % 32) = false ∨ evtReserved n = true →
        t.evtPending n = s.evtPending n := by
  have hk : k.toNat < 8 := k.isLt
  obtain ⟨g, hg⟩ := noteWrite_eq s c (EVT_SET.BITS k.toNat).addr
  have hexec : exec (.evtSet c k v) s = .next ((s.mapTdm g).setEvt k.toNat v.toNat) := by
    rw [exec_evtSet, execEvtSet, poke_served h, regStore_evtSet hk, hg]
  refine ⟨_, hexec, State.sameRest_of_rest (by simp), setEvt_crb _ _ _, fun b hb hv hr => ?_, fun n hn hn' => ?_⟩
  · have := asserts_setEvt (s.mapTdm g) (v := v.toNat) hk hb (by rw [bit, BitVec.testBit_toNat, hv]) hr
    exact this
  · exact evtPending_setEvt (s.mapTdm g) hn (by rwa [bit, BitVec.testBit_toNat])

/-- The clause about EVT_CLAIM: nothing to claim. -/
theorem exec_evtClaim_none {c : Core} {s : State} (h : s.loadsReg c (claimReg c).addr) (hnone : s.eligible c = none) :
    exec (.evtClaim c) s = .next { s with rdata := 0 } := by
  rw [exec_evtClaim, execEvtClaim, regRead_served h, regLoad_evtClaim, claimEvt_none hnone]
  rfl

/-- The clause about EVT_CLAIM: source `n` at priority `q` goes into service. -/
theorem exec_evtClaim_some {c : Core} {s : State} {n q : Nat} (h : s.loadsReg c (claimReg c).addr)
    (hsome : s.eligible c = some (n, q)) :
    ∃ t, exec (.evtClaim c) s = .next t ∧ s.sameRest t ∧ t.rdata = 0x80000000 + BitVec.ofNat 32 (256 * q + n) ∧
      t.evtPending n = false ∧ (∀ m < 256, m ≠ n → t.evtPending m = s.evtPending m) ∧
      t.evt.inService = ⟨c, n, q⟩ :: s.evt.inService := by
  have hpend : ∀ m, ((s.claimEvt c).2).evtPending m = (s.evtPending m && decide (m ≠ n)) := by
    intro m
    rw [claimEvt_some hsome]
    exact evtPending_clear s n
  rw [exec_evtClaim, execEvtClaim, regRead_served h, regLoad_evtClaim]
  refine ⟨_, rfl, State.sameRest_of_rest (State.claimEvt_rest s c), ?_, (hpend n).trans (by simp),
    fun m _ hm => (hpend m).trans (by simp [hm]), by simp [claimEvt_some hsome]⟩
  dsimp only
  rw [claimEvt_some hsome, show 2 ^ 31 + q * 256 + n = 2 ^ 31 + (256 * q + n) by omega, BitVec.ofNat_add]
  rfl

/-- The clause about EVT_DONE. -/
theorem evtDone_clause (c : Core) (n : BitVec 8) (s : State) (h : s.storesReg c (doneReg c).addr) :
    ∃ t, exec (.evtDone c n) s = .next t ∧ s.sameRest t ∧ t.regs = s.regs ∧
      ∀ x, x ∈ t.evt.inService ↔ x ∈ s.evt.inService ∧ ¬ (x.core = c ∧ x.src = n.toNat) := by
  obtain ⟨g, hg⟩ := noteWrite_eq s c (doneReg c).addr
  have hsrc : bits n.toNat 0 8 = n.toNat := by
    rw [bits, pow_zero, Nat.div_one]
    exact Nat.mod_eq_of_lt n.isLt
  have hexec : exec (.evtDone c n) s = .next ((s.mapTdm g).doneEvt c n.toNat) := by
    rw [exec_evtDone, execEvtDone, poke_served h, regStore_evtDone, hg, hsrc]
  refine ⟨_, hexec, State.sameRest_of_rest (by simp), rfl, fun x => ?_⟩
  simp only [State.doneEvt, State.mapEvt_evt, State.mapTdm_evt, List.mem_filter, Bool.not_eq_true', decide_eq_false_iff_not]

/-- Settles O32: an assertion and EVT_SET go by `State.keeps`, a claim by the choice over the pending sources in
rising order, EVT_DONE by the list of sources in service. -/
theorem eventAssertionClaimAndService : Obligations.EventAssertionClaimAndService := by
  refine ⟨fun n s hn => ⟨asserts_raise s n, raise_of_disabled, bitOf_ovr_raise,
    State.sameRest_of_rest (State.raise_rest s n)⟩, fun c k v s h => ?_, fun c s h => ?_, evtDone_clause⟩
  · intro never
    have hnever : ∀ n, evtReserved n = true ↔ never n := fun _ => evtReserved_iff
    obtain ⟨t, hexec, hrest, hcrb, hset, hkeep⟩ := evtSet_clause c k v s h
    refine ⟨t, hexec, hrest, hcrb, fun b hb hv hr => hset b hb hv ?_, fun n hn hn' => hkeep n hn ?_⟩
    · rwa [← Bool.not_eq_true, hnever]
    · rwa [hnever]
  · intro wins
    have hwins : ∀ n, wins n ↔ n < 256 ∧ s.evtPending n = true ∧ s.claimable c n := by
      intro n
      simp only [wins, State.claimable, runPrio_lt_iff, routeOf_eq]
    refine ⟨fun hnone => ?_, fun n hn hbest => ?_⟩
    · exact exec_evtClaim_none h (eligible_none fun n hn hp hok => hnone n ((hwins n).mpr ⟨hn, hp, hok⟩))
    · obtain ⟨hlt, hp, hok⟩ := (hwins n).mp hn
      exact exec_evtClaim_some h (eligible_some hlt hp hok fun m hm hpm hokm =>
        hbest m ((hwins m).mpr ⟨hm, hpm, hokm⟩))

end Sys2Proof.Machine
end

section
/-! SUPPORT. Lock limits (R50) and promotion (R46). -/

namespace Sys2Proof.Machine
open Sys2Proof Sys2Proof.Reg

/-! ### Holdings that last too long -/

/-- From `s` to `t` holdings may have raised source 4, each no more than once (R50). -/
structure State.holdings (s t : State) : Prop where
  keeps : s.keeps (fun k => ¬ evtKey k) t
  now : t.nowUs = s.nowUs
  since : t.pad.lockSince = s.pad.lockSince
  raised : ∀ n, s.pad.lockRaised.testBit n = true → t.pad.lockRaised.testBit n = true
  fresh : ∀ n, t.pad.lockRaised.testBit n = true → s.pad.lockRaised.testBit n = true ∨ s.asserts t 4

theorem State.holdings.refl (s : State) : s.holdings s :=
  ⟨.refl _ s, rfl, rfl, fun _ h => h, fun _ h => .inl h⟩

theorem State.holdings.trans {s t u : State} (h : s.holdings t) (k : t.holdings u) : s.holdings u := by
  refine ⟨h.keeps.trans k.keeps, k.now.trans h.now, k.since.trans h.since, fun n hn => k.raised n (h.raised n hn),
    fun n hn => ?_⟩
  rcases k.fresh n hn with ht | hu
  · rcases h.fresh n ht with hs | hs
    · exact .inl hs
    · exact .inr (asserts_of_keeps (by decide) hs k.keeps)
  · exact .inr (asserts_of_kept_cfg h.keeps (fun _ => not_evtKey_of_cfgKey) hu)

theorem raise_pad (s : State) (n : Nat) : (s.raise n).pad = s.pad := by
  unfold State.raise State.softEvt State.latchEvt
  repeat' split
  all_goals rfl

theorem raise_nowUs (s : State) (n : Nat) : (s.raise n).nowUs = s.nowUs := by
  unfold State.raise State.softEvt State.latchEvt
  repeat' split
  all_goals rfl

/-- A holding that cannot raise source 4: the lock is free, no limit is set, or it has raised it already. -/
theorem lockLong_of_not {s : State} {n : Nat}
    (h : s.get (PAD_LOCKOWN.OWN n) = 0 ∨ s.get PAD_LOCKLIM.LIM = 0 ∨ s.pad.lockRaised.testBit n = true) :
    s.lockLong n = s := by
  unfold State.lockLong
  rw [if_pos (by simpa [bit] using h)]

theorem lockLong_of_held {s : State} {n : Nat} (hown : s.get (PAD_LOCKOWN.OWN n) ≠ 0)
    (hlim : s.get PAD_LOCKLIM.LIM ≠ 0) (hnew : s.pad.lockRaised.testBit n = false) :
    s.lockLong n = (s.mapPad fun x => { x with lockRaised := setBit x.lockRaised n }).raise 4 := by
  unfold State.lockLong
  rw [if_neg (by simp [bit, hown, hlim, hnew])]

theorem holdings_lockLong (s : State) (n : Nat) : s.holdings (s.lockLong n) := by
  unfold State.lockLong
  split
  · exact .refl s
  · refine ⟨((State.keeps.refl _ s).mapPad _).raise (fun _ h => h) (by decide), raise_nowUs _ _, ?_, fun m hm => ?_,
      fun _ _ => .inr (asserts_raise (s.mapPad _) 4)⟩
    · rw [raise_pad]; rfl
    · rw [raise_pad, State.mapPad_pad, testBit_setBit, hm, Bool.true_or]

/-- A holding longer than the limit has raised source 4 once it has been looked at. -/
theorem lockRaised_lockLong {s : State} {n : Nat} (hown : s.get (PAD_LOCKOWN.OWN n) ≠ 0)
    (hlim : s.get PAD_LOCKLIM.LIM ≠ 0) : (s.lockLong n).pad.lockRaised.testBit n = true := by
  by_cases hr : s.pad.lockRaised.testBit n = true
  · rw [lockLong_of_not (.inr (.inr hr)), hr]
  · rw [lockLong_of_held hown hlim (Bool.eq_false_iff.mpr hr), raise_pad]
    simp [testBit_setBit]

/-- One lock more, as a write of PAD_LOCKLIM looks at it. -/
def State.limitLock (s : State) (n : Nat) : State :=
  if s.get PAD_LOCKLIM.LIM < s.nowUs - mapGet 0 s.pad.lockSince n then s.lockLong n else s

theorem lockLimit_eq (s : State) (v : Nat) :
    s.lockLimit v = (List.range 32).foldl State.limitLock (s.set PAD_LOCKLIM.LIM v) := rfl

theorem holdings_foldl_limitLock (l : List Nat) (s : State) : s.holdings (l.foldl State.limitLock s) := by
  refine List.foldlRecOn l State.limitLock (motive := fun t => s.holdings t) (.refl s) fun t ht n _ => ht.trans ?_
  unfold State.limitLock
  split
  · exact holdings_lockLong t n
  · exact .refl t

theorem lockRaised_foldl_limitLock {s : State} {n : Nat} (hn : n < 32) (hown : s.get (PAD_LOCKOWN.OWN n) ≠ 0)
    (hlim : s.get PAD_LOCKLIM.LIM ≠ 0) (hlong : s.get PAD_LOCKLIM.LIM < s.nowUs - mapGet 0 s.pad.lockSince n) :
    ((List.range 32).foldl State.limitLock s).pad.lockRaised.testBit n = true := by
  obtain ⟨pre, post, hsplit⟩ := List.append_of_mem (List.mem_range.mpr hn)
  have hpre := holdings_foldl_limitLock pre s
  have hownKey : ¬ evtKey (PAD_LOCKOWN.OWN n).key := by simp only [evtKey, Fld.key, PAD_LOCKOWN.OWN]; omega
  have hlimKey : ¬ evtKey PAD_LOCKLIM.LIM.key := by simp only [evtKey, Fld.key, PAD_LOCKLIM.LIM]; omega
  have hown' := hpre.keeps.get_eq _ hownKey
  have hlim' := hpre.keeps.get_eq _ hlimKey
  have hhere : (pre.foldl State.limitLock s).limitLock n = (pre.foldl State.limitLock s).lockLong n :=
    if_pos (by rwa [hlim', hpre.now, hpre.since])
  rw [hsplit, List.foldl_append, List.foldl_cons, hhere]
  exact (holdings_foldl_limitLock post _).raised n (lockRaised_lockLong (hown' ▸ hown) (hlim' ▸ hlim))

/-! ### Promotion -/

@[simp] theorem promoteAll_pad (s : State) (p : ArbPost → Bool) : (s.promoteAll p).pad =
    { s.pad with requests := s.pad.requests.map fun r => if p r.post then r.promote.1 else r } := rfl

@[simp] theorem promoteAll_chn (s : State) (p : ArbPost → Bool) : (s.promoteAll p).chn = s.chn := rfl
@[simp] theorem promoteAll_crb (s : State) (p : ArbPost → Bool) : (s.promoteAll p).crb = s.crb := rfl

theorem promote_of_short {r : ArbReq} (h : r.level ≠ 2 ∨ r.wait ≤ 64) : r.promote = (r, false) := by
  have hno : decide (r.level = 2 ∧ 64 < r.wait) = false := decide_eq_false (by omega)
  simp [ArbReq.promote, hno]

theorem promote_of_long {r : ArbReq} (hl : r.level = 2) (hw : 64 < r.wait) : r.promote = ({ r with level := 1 }, true) := by
  simp [ArbReq.promote, hl, hw]

end Sys2Proof.Machine
end

section
/-! SUPPORT. The paddock arbiter (R45, R46): one unit in one cycle, and what a new grant does. -/

namespace Sys2Proof.Machine
open Sys2Proof Sys2Proof.Reg

/-! ### Folds that act at one place -/

theorem foldl_noop {α : Type} {f : State → α → State} {l : List α} {s : State} (h : ∀ x ∈ l, f s x = s) :
    l.foldl f s = s :=
  List.foldlRecOn l f (motive := fun t => t = s) rfl fun t ht x hx => by rw [ht, h x hx]

theorem foldl_once {α : Type} {f : State → α → State} {l : List α} {a : α} {s t : State} (hl : l.Nodup) (ha : a ∈ l)
    (hs : ∀ x, x ≠ a → f s x = s) (hst : f s a = t) (ht : ∀ x, x ≠ a → f t x = t) : l.foldl f s = t := by
  obtain ⟨pre, post, rfl⟩ := List.append_of_mem ha
  rw [List.nodup_append] at hl
  obtain ⟨-, hpost, hdisj⟩ := hl
  rw [List.foldl_append, foldl_noop fun x hx => hs x (hdisj x hx a List.mem_cons_self), List.foldl_cons, hst]
  exact foldl_noop fun x hx => ht x fun e => (List.nodup_cons.mp hpost).1 (e ▸ hx)

/-! ### One unit -/

/-- A unit for which nobody asks is left. -/
theorem arbUnit_of_idle {s : State} {cls u : Nat} (h : ∀ r ∈ s.pad.requests, ¬ (r.post.cls = cls ∧ r.post.unit = u)) :
    s.arbUnit cls u = s := by
  have hnone : (s.pad.requests.filter fun r => decide (r.post.cls = cls ∧ r.post.unit = u)) = [] :=
    List.filter_eq_nil_iff.mpr fun r hr => by simpa using h r hr
  unfold State.arbUnit
  simp only [hnone]
  rfl

theorem mapPad_mapPad (s : State) (g h : PadSt → PadSt) : (s.mapPad g).mapPad h = s.mapPad (h ∘ g) := rfl

/-- The arbiter changes its own record alone. -/
theorem arbUnit_eq_mapPad (s : State) (cls u : Nat) : ∃ g, s.arbUnit cls u = s.mapPad g := by
  unfold State.arbUnit
  dsimp only
  split
  · exact ⟨id, rfl⟩
  · split
    · exact ⟨_, rfl⟩
    · exact ⟨_, mapPad_mapPad _ _ _⟩

/-- A unit has one holder at most. -/
def ArbGrant.sameUnit (a b : ArbGrant) : Prop := a.cls = b.cls ∧ a.unit = b.unit

/-- The grants after one unit: as before, or the unit's own replaced by one. -/
theorem arbUnit_grants (s : State) (cls u : Nat) :
    (s.arbUnit cls u).pad.grants = s.pad.grants ∨ ∃ req index, (s.arbUnit cls u).pad.grants =
      (s.pad.grants.filter fun g => !(decide (g.cls = cls ∧ g.unit = u))) ++ [⟨cls, u, req, index⟩] := by
  unfold State.arbUnit
  dsimp only
  split
  · exact .inl rfl
  · split
    · exact .inl rfl
    · exact .inr ⟨_, _, rfl⟩

theorem arbUnit_oneHolder {s : State} (h : s.pad.grants.Pairwise fun a b => ¬ a.sameUnit b) (cls u : Nat) :
    (s.arbUnit cls u).pad.grants.Pairwise fun a b => ¬ a.sameUnit b := by
  rcases arbUnit_grants s cls u with hg | ⟨req, index, hg⟩
  · rwa [hg]
  · rw [hg, List.pairwise_append]
    refine ⟨h.filter _, List.pairwise_singleton _ _, fun a ha b hb => ?_⟩
    rw [List.mem_singleton.mp hb]
    intro hsame
    simpa [hsame.1, hsame.2] using (List.mem_filter.mp ha).2

/-! ### One cycle -/

/-- The units of one class in turn. -/
def State.arbClass (s : State) (cls : Nat) : State :=
  (List.range (arbUnits cls)).foldl (fun (s : State) u => s.arbUnit cls u) s

/-- The state once the posts of a cycle wait and the ended grants are gone, before any is granted. -/
def State.arbPosted (s : State) (core : Bool) (posts ended : List ArbPost) : State :=
  let cls := arbClasses core
  let new := (posts.filter fun p => arbPostOk p && cls.contains p.cls).map fun p => ⟨p, s.arbLevel p, 0⟩
  (s.mapPad fun x => { x with
    grants := x.grants.filter fun g => !(ended.any fun e => decide (e.cls = g.cls ∧ e.unit = g.unit) && cls.contains e.cls)
    requests := x.requests ++ new }).promoteAll fun p => cls.contains p.cls

theorem arbCycle_eq (s : State) (core : Bool) (posts ended : List ArbPost) :
    s.arbCycle core posts ended = (arbClasses core).foldl State.arbClass (s.arbPosted core posts ended) := rfl

/-- What holds after the posts and survives every unit holds after the cycle. -/
theorem arbCycle_induct {P : State → Prop} {s : State} {core : Bool} {posts ended : List ArbPost}
    (h : P (s.arbPosted core posts ended)) (hunit : ∀ t cls u, P t → P (t.arbUnit cls u)) :
    P (s.arbCycle core posts ended) := by
  rw [arbCycle_eq]
  refine List.foldlRecOn _ State.arbClass h fun t ht cls _ => ?_
  exact List.foldlRecOn _ (fun (s : State) u => s.arbUnit cls u) ht fun t ht u _ => hunit t cls u ht

theorem arbCycle_chn (s : State) (core : Bool) (posts ended : List ArbPost) :
    (s.arbCycle core posts ended).chn = s.chn := by
  refine arbCycle_induct (P := fun t => t.chn = s.chn) rfl fun t cls u ht => ?_
  obtain ⟨g, hg⟩ := arbUnit_eq_mapPad t cls u
  rw [hg]
  exact ht

theorem arbCycle_oneHolder {s : State} (h : s.pad.grants.Pairwise fun a b => ¬ a.sameUnit b) (core : Bool)
    (posts ended : List ArbPost) : (s.arbCycle core posts ended).pad.grants.Pairwise fun a b => ¬ a.sameUnit b :=
  arbCycle_induct (P := fun t => t.pad.grants.Pairwise fun a b => ¬ a.sameUnit b) (h.filter _)
    fun _ cls u ht => arbUnit_oneHolder ht cls u

/-- Where every request is for one unit, before and after that unit's turn, the cycle is that turn. -/
theorem arbCycle_eq_arbUnit {s : State} {core : Bool} {posts ended : List ArbPost} {cls u : Nat}
    (hcls : cls ∈ arbClasses core) (hu : u < arbUnits cls)
    (hall : ∀ r ∈ (s.arbPosted core posts ended).pad.requests, r.post.cls = cls ∧ r.post.unit = u)
    (hafter : ∀ r ∈ ((s.arbPosted core posts ended).arbUnit cls u).pad.requests, r.post.cls = cls ∧ r.post.unit = u) :
    s.arbCycle core posts ended = (s.arbPosted core posts ended).arbUnit cls u := by
  have hnodup : (arbClasses core).Nodup := by cases core <;> decide
  have hother : ∀ t : State, (∀ r ∈ t.pad.requests, r.post.cls = cls ∧ r.post.unit = u) → ∀ k ≠ cls, t.arbClass k = t :=
    fun t ht k hk => foldl_noop fun v _ => arbUnit_of_idle fun r hr h => hk (h.1.symm.trans (ht r hr).1)
  have hidle : ∀ t : State, (∀ r ∈ t.pad.requests, r.post.cls = cls ∧ r.post.unit = u) → ∀ v ≠ u, t.arbUnit cls v = t :=
    fun t ht v hv => arbUnit_of_idle fun r hr h => hv (h.2.symm.trans (ht r hr).2)
  rw [arbCycle_eq]
  refine foldl_once hnodup hcls (hother _ hall) ?_ (hother _ hafter)
  exact foldl_once List.nodup_range (List.mem_range.mpr hu) (hidle _ hall) rfl (hidle _ hafter)

/-! ### New grants -/

/-- What one new grant does (State.granted). -/
def State.grantStep (s : State) (g : ArbGrant) : State :=
  if g.cls = 0 ∧ 2 ≤ g.req ∧ g.req ≤ 4 then
    s.chxLeave (if s.portUnit 1 = g.unit then 1 else 2) (if g.req = 2 then .r0 else if g.req = 3 then .r1 else .grm)
  else if g.cls = 3 ∧ g.req = 1 then
    s.dropTaken.bleedFlush (((s.cel.map.find? fun e => e.1 = g.unit).map fun e => layUnit e.2).getD 0)
  else s

theorem granted_eq (s : State) (new : List ArbGrant) : s.granted new = new.foldl State.grantStep s := rfl

theorem store_pad (s : State) (n a v : Nat) : (s.store n a v).pad = s.pad := by
  rw [store_eq_withMem]

theorem recordRefusal_pad (s : State) (m : Master) (k : Access) (kind a : Nat) :
    (s.recordRefusal m k kind a).pad = s.pad := rfl

theorem release_pad (s : State) (c : Core) (t word val : Nat) : (s.release c t word val).pad = s.pad := by
  unfold State.release
  dsimp only
  split
  · simp
  · split
    · simp [State.setWord, store_pad]
    · split <;> simp [recordRefusal_pad, State.draw]

theorem complete_pad (s : State) (c : Core) (t info status val : Nat) :
    (s.complete c t info status val).pad = s.pad := by
  unfold State.complete
  split
  · dsimp only
    split
    · simp
    · exact release_pad _ _ _ _ _
  · rfl

/-- A chx that has left every port leaves nothing at the arbiter to withdraw. -/
theorem chxEnd_pad (s : State) {x : ChxSt} (hdue : x.due = []) (res addr val : Nat) :
    (s.chxEnd x res addr val).pad = s.pad := by
  unfold State.chxEnd State.chxDrop
  rw [complete_pad, hdue]
  rfl

theorem chxLeave_pad (s : State) (port : Nat) (c : Core) : (s.chxLeave port c).pad = s.pad := by
  unfold State.chxLeave
  split
  · rfl
  · dsimp only
    split
    case isTrue h => exact chxEnd_pad _ h.2 _ _ _
    case isFalse => rfl

theorem chxLeave_of_none {s : State} (h : s.chn.chx = []) (port : Nat) (c : Core) : s.chxLeave port c = s := by
  unfold State.chxLeave
  rw [h]
  rfl

/-- A BLEED_SET that leaves changes neither the arbiter, nor the cells that bleed, nor a chx. -/
theorem bleedFlush_frame (s : State) (u : Nat) :
    (s.bleedFlush u).pad = s.pad ∧ (s.bleedFlush u).cel.bleed = s.cel.bleed ∧
      (s.bleedFlush u).cel.want = s.cel.want ∧ (s.bleedFlush u).chn.chx = s.chn.chx := by
  unfold State.bleedFlush State.sendBleed
  dsimp only
  split
  · exact ⟨rfl, rfl, rfl, rfl⟩
  · split <;> exact ⟨rfl, rfl, rfl, rfl⟩

theorem grantStep_pad (s : State) (g : ArbGrant) : (s.grantStep g).pad = s.pad := by
  unfold State.grantStep
  split
  · exact chxLeave_pad _ _ _
  · split
    · exact (bleedFlush_frame _ _).1
    · rfl

theorem granted_pad (s : State) (new : List ArbGrant) : (s.granted new).pad = s.pad := by
  rw [granted_eq]
  exact List.foldlRecOn new State.grantStep (motive := fun t => t.pad = s.pad) rfl fun t ht g _ =>
    (grantStep_pad t g).trans ht

/-- Where no chx is in flight, new grants leave the memory and the cores. -/
theorem granted_rest {s : State} (h : s.chn.chx = []) (new : List ArbGrant) : (s.granted new).rest = s.rest := by
  rw [granted_eq]
  refine (List.foldlRecOn new State.grantStep (motive := fun t => t.chn.chx = [] ∧ t.rest = s.rest) ⟨h, rfl⟩
    fun t ht g _ => ?_).2
  unfold State.grantStep
  split
  · rwa [chxLeave_of_none ht.1]
  · split
    · exact ⟨((bleedFlush_frame _ _).2.2.2).trans ht.1, by simpa using ht.2⟩
    · exact ht

/-- A bleed channel that the curb logic takes is off (R45). -/
theorem grantStep_bleed {s : State} {g : ArbGrant} (hcls : g.cls = 3) (hreq : g.req = 1) (hg : g ∈ s.pad.grants) :
    g.unit ∉ (s.grantStep g).cel.bleed ∧ g.unit ∉ (s.grantStep g).cel.want := by
  have hheld : s.curbHolds g.unit = true := by
    have : (s.pad.grants.any fun x => decide (x.cls = 3 ∧ x.unit = g.unit ∧ x.req = 1)) = true :=
      List.any_eq_true.mpr ⟨g, hg, by simp [hcls, hreq]⟩
    unfold State.curbHolds
    rw [this, Bool.or_true]
  unfold State.grantStep
  rw [if_neg (by omega), if_pos ⟨hcls, hreq⟩, (bleedFlush_frame _ _).2.1, (bleedFlush_frame _ _).2.2.1]
  constructor <;> intro hmem <;> have := (List.mem_filter.mp hmem).2 <;> simp [hheld] at this

end Sys2Proof.Machine
end

section
/-! PROOF. Arbitration, promotion and lock limits (R45, R46, R50). -/

namespace Sys2Proof.Machine
open Sys2Proof Sys2Proof.Reg

/-! ### Two requests for one unit -/

/-- Post `p` goes before post `q` (R46): urgent before normal, else the rank, else the index. -/
def State.postBefore (s : State) (p q : ArbPost) : Prop :=
  s.arbLevel p < s.arbLevel q ∨
    s.arbLevel p = s.arbLevel q ∧ (p.req < q.req ∨ (p.req = q.req ∧ p.index < q.index))

theorem arbLevel_eq (s : State) (p : ArbPost) : s.arbLevel p = 0 ∨ s.arbLevel p = 2 := by
  unfold State.arbLevel
  split
  · exact .inl rfl
  · exact .inr rfl

theorem arbLevel_eq_zero {s : State} {p : ArbPost} :
    s.arbLevel p = 0 ↔ p.req = 1 ∨ s.get (urgField p.req p.cls) = 1 := by
  unfold State.arbLevel
  split <;> simp [*]

theorem before_of_postBefore {s : State} {p q : ArbPost} (h : s.postBefore p q) :
    ArbReq.before ⟨p, s.arbLevel p, 0⟩ ⟨q, s.arbLevel q, 0⟩ = true ∧
      ArbReq.before ⟨q, s.arbLevel q, 0⟩ ⟨p, s.arbLevel p, 0⟩ = false := by
  unfold ArbReq.before
  rcases h with h | ⟨h, hr | ⟨hr, hi⟩⟩
  · have := h.ne
    have := h.ne'
    simp [*, h.le]
  · have := hr.ne
    have := hr.ne'
    simp [*, hr.le]
  · simp [h, hr, hi, hi.le]

section
variable {core : Bool} {p q : ArbPost} {s : State}

/-- The two posts wait, with nothing promoted. -/
theorem arbPosted_pair (hreq : s.pad.requests = []) (hgr : s.pad.grants = []) (hp : arbPostOk p = true)
    (hq : arbPostOk q = true) (hpc : p.cls ∈ arbClasses core) (hqc : q.cls ∈ arbClasses core) :
    (s.arbPosted core [p, q] []).pad.requests = [⟨p, s.arbLevel p, 0⟩, ⟨q, s.arbLevel q, 0⟩] ∧
      (s.arbPosted core [p, q] []).pad.grants = [] := by
  unfold State.arbPosted
  simp [hreq, hgr, hp, hq, hpc, hqc, promote_of_short]

/-- A unit that is free and for which two requests wait goes to the one before the other, if it may be granted. -/
theorem arbUnit_pair {cls u : Nat} {x y : ArbReq} (hreq : s.pad.requests = [x, y]) (hgr : s.pad.grants = [])
    (hx : x.post.cls = cls ∧ x.post.unit = u) (hy : y.post.cls = cls ∧ y.post.unit = u) (hmay : s.arbMay x = true)
    (hxy : x.before y = true) (hyx : y.before x = false) :
    (s.arbUnit cls u).pad.requests = [{ y with wait := y.wait + 1 }] ∧
      (s.arbUnit cls u).pad.grants = [⟨cls, u, x.post.req, x.post.index⟩] := by
  have hne : y ≠ x := by
    rintro rfl
    rw [hxy] at hyx
    cases hyx
  have hmine : (s.pad.requests.filter fun r => decide (r.post.cls = cls ∧ r.post.unit = u)) = [x, y] := by
    simp [hreq, hx, hy]
  have hwin : arbFirst ([x, y].filter s.arbMay) = some x := by
    by_cases hmay' : s.arbMay y = true <;> simp [arbFirst, hmay, hmay', hyx]
  unfold State.arbUnit
  simp only [hmine, hgr, hwin, List.isEmpty_cons, List.any_nil, Bool.not_false, if_true]
  simp [hreq, hgr, hx, hy, hne]

end

/-- Whether a request may be granted rests on the chain engine, the curb logic, the seat and the bleed channels. -/
theorem arbMay_arbPosted {s : State} {core : Bool} {p : ArbPost} {posts : List ArbPost} (hgr : s.pad.grants = [])
    (hport : p.cls = 0 → s.arbLevel p = 0 ∨ s.sweepHold p.unit = false)
    (hbleed : p.cls = 3 → p.req = 1 ∨ s.curbHolds p.unit = false) :
    (s.arbPosted core posts []).arbMay ⟨p, s.arbLevel p, 0⟩ = true := by
  have hseat : (s.arbPosted core posts []).get TDM_STAT.SEAT = s.get TDM_STAT.SEAT := get_set_ne _ _ (by decide)
  have hhold : (s.arbPosted core posts []).sweepHold p.unit = s.sweepHold p.unit := by
    unfold State.sweepHold
    rw [hseat]
    rfl
  have hcurb : (s.arbPosted core posts []).curbHolds p.unit = s.curbHolds p.unit := by
    have hnone : (s.arbPosted core posts []).pad.grants = [] := by
      show s.pad.grants.filter _ = []
      rw [hgr]
      rfl
    unfold State.curbHolds
    rw [hnone, hgr]
    rfl
  unfold State.arbMay
  dsimp only
  split
  case isTrue h0 => simpa [hhold] using hport h0
  case isFalse =>
    split
    case isTrue h3 => simpa [hcurb] using hbleed h3
    case isFalse => rfl

theorem mem_arbClasses {core : Bool} {cls : Nat} (h : cls = 5 ↔ core = true) (hlt : cls < 6) :
    cls ∈ arbClasses core := by
  cases core
  · have : cls ≠ 5 := by simpa using h
    interval_cases cls <;> simp_all [arbClasses]
  · simp [arbClasses, h]

theorem unit_lt_of_arbPostOk {p : ArbPost} (h : arbPostOk p = true) : p.unit < arbUnits p.cls := by
  simp only [arbPostOk, Bool.and_eq_true, decide_eq_true_eq] at h
  exact h.1.1

/-- ARBITRATION_CYCLE as the cycle and what its new grants do. -/
theorem exec_arbitrationCycle_granted (core : Bool) (posts ended : List ArbPost) (s : State) :
    ∃ new, exec (.arbitrationCycle core posts ended) s =
        .next ((s.quiet.arbCycle core posts ended).granted new) ∧
      (s.pad.grants = [] → new = (s.quiet.arbCycle core posts ended).pad.grants) := by
  refine ⟨_, rfl, fun h => List.filter_eq_self.mpr fun g _ => ?_⟩
  rw [h]
  rfl

theorem sameRest_arbitrationCycle {s : State} (h : s.chn.chx = []) (core : Bool) (posts ended : List ArbPost)
    (new : List ArbGrant) : s.sameRest ((s.quiet.arbCycle core posts ended).granted new) := by
  refine State.sameRest_of_rest ((granted_rest ?_ new).trans ?_)
  · rw [arbCycle_chn]
    exact h
  · rw [State.arbCycle_rest, State.quiet_rest]

/-- The clause about two requests for one unit. -/
theorem arbitrationCycle_pair {core : Bool} {p q : ArbPost} {s : State} (hreq : s.pad.requests = [])
    (hgr : s.pad.grants = []) (hcls : p.cls = q.cls) (hunit : p.unit = q.unit) (hp : arbPostOk p = true)
    (hq : arbPostOk q = true) (hcore : p.cls = 5 ↔ core = true) (hlt : p.cls < 6)
    (hport : p.cls = 0 → s.arbLevel p = 0 ∨ s.sweepHold p.unit = false)
    (hbleed : p.cls = 3 → p.req = 1 ∨ s.curbHolds p.unit = false) (hbefore : s.postBefore p q) :
    ∃ t r, exec (.arbitrationCycle core [p, q] []) s = .next t ∧ (s.chn.chx = [] → s.sameRest t) ∧
      t.pad.grants = [⟨p.cls, p.unit, p.req, p.index⟩] ∧ t.pad.requests = [r] ∧ r.post = q ∧ r.wait = 1 ∧
      (p.cls = 3 → p.req = 1 → p.unit ∉ t.cel.bleed ∧ p.unit ∉ t.cel.want) := by
  have hmem := mem_arbClasses hcore hlt
  obtain ⟨hposted, hnone⟩ := arbPosted_pair (s := s.quiet) hreq hgr hp hq hmem (hcls ▸ hmem)
  obtain ⟨hxy, hyx⟩ := before_of_postBefore (s := s.quiet) hbefore
  obtain ⟨hrest, hholder⟩ := arbUnit_pair (cls := p.cls) (u := p.unit) hposted hnone ⟨rfl, rfl⟩ ⟨hcls.symm, hunit.symm⟩
    (arbMay_arbPosted (s := s.quiet) hgr hport hbleed) hxy hyx
  have hcycle : s.quiet.arbCycle core [p, q] [] = (s.quiet.arbPosted core [p, q] []).arbUnit p.cls p.unit := by
    refine arbCycle_eq_arbUnit hmem (unit_lt_of_arbPostOk hp) ?_ ?_
    · simp [hposted, hcls, hunit]
    · intro r hr
      rw [hrest] at hr
      rw [List.mem_singleton.mp hr]
      exact ⟨hcls.symm, hunit.symm⟩
  rw [← hcycle] at hrest hholder
  obtain ⟨new, hexec, hnew⟩ := exec_arbitrationCycle_granted core [p, q] [] s
  rw [hnew hgr, hholder] at hexec
  refine ⟨_, ⟨q, s.arbLevel q, 1⟩, hexec, fun h => sameRest_arbitrationCycle h _ _ _ _, ?_, ?_, rfl, rfl, fun h3 h1 => ?_⟩
  · rw [granted_pad, hholder]
  · rw [granted_pad, hrest]
    rfl
  · exact grantStep_bleed (g := ⟨p.cls, p.unit, p.req, p.index⟩) h3 h1 (by rw [hholder]; exact List.mem_singleton_self _)

/-! ### Promotion and lock limits -/

/-- The clause about promotion. -/
theorem requestPromotion_clause {r : ArbReq} {s : State} (hreq : s.pad.requests = [r]) :
    ∃ t, exec (.requestPromotion r.post) s = .next t ∧ s.sameRest t ∧
      (r.level = 2 → 64 < r.wait → t.pad.requests = [{ r with level := 1 }] ∧
        (s.get PAD_PROMCNT.COUNT < 2 ^ 32 - 1 → t.get PAD_PROMCNT.COUNT = s.get PAD_PROMCNT.COUNT + 1)) ∧
      (r.level ≠ 2 ∨ r.wait ≤ 64 → t.pad.requests = [r]) := by
  refine ⟨_, rfl, State.sameRest_of_rest (State.promoteAll_rest _ _), fun hl hw => ⟨?_, fun hlt => ?_⟩, fun hno => ?_⟩
  · simp [hreq, promote_of_long hl hw]
  · have hcount : ((s.pad.requests.filter fun x => decide (x.post = r.post) && x.promote.2).length) = 1 := by
      simp [hreq, promote_of_long hl hw]
    unfold State.promoteAll State.bump
    rw [get_set_same, hcount, get_mapPad, satAdd]
    simp only [PAD_PROMCNT.COUNT] at hlt ⊢
    omega
  · simp [hreq, promote_of_short hno]

/-- The clause about LOCK_HOLD_LIMIT. -/
theorem lockHoldLimit_clause (n : BitVec 5) (s : State) :
    (s.get (PAD_LOCKOWN.OWN n.toNat) ≠ 0 → s.get PAD_LOCKLIM.LIM ≠ 0 → s.pad.lockRaised.testBit n.toNat = false →
      ∃ t, exec (.lockHoldLimit n) s = .next t ∧ s.sameRest t ∧ s.asserts t 4 ∧
        t.pad.lockRaised.testBit n.toNat = true) ∧
    (s.get (PAD_LOCKOWN.OWN n.toNat) = 0 ∨ s.get PAD_LOCKLIM.LIM = 0 ∨ s.pad.lockRaised.testBit n.toNat = true →
      exec (.lockHoldLimit n) s = .next s) := by
  refine ⟨fun hown hlim hnew => ?_, fun h => congrArg _ (lockLong_of_not h)⟩
  have hraised := lockRaised_lockLong hown hlim
  exact ⟨_, rfl, State.sameRest_of_rest (State.lockLong_rest _ _),
    ((holdings_lockLong s n.toNat).fresh _ hraised).resolve_left (by simp [hnew]), hraised⟩

theorem regStore_padLocklim (s : State) (c : Core) (w : Nat) (here : Bool) :
    s.regStore c PAD_LOCKLIM.LIM.addr w here = s.lockLimit (bits w 0 16) :=
  regStore_of_act1 (by decide +kernel) (.inr rfl) rfl

/-- The clause about PAD_LOCKLIM. -/
theorem padLocklimWrite_clause (c : Core) (v : BitVec 16) (s : State) (h : s.storesReg c PAD_LOCKLIM.LIM.addr) :
    ∃ t, exec (.padLocklimWrite c v) s = .next t ∧ s.sameRest t ∧ t.get PAD_LOCKLIM.LIM = v.toNat ∧
      ∀ n < 32, s.get (PAD_LOCKOWN.OWN n) ≠ 0 → v ≠ 0 → s.pad.lockRaised.testBit n = false →
        v.toNat < s.nowUs - mapGet 0 s.pad.lockSince n → s.asserts t 4 ∧ t.pad.lockRaised.testBit n = true := by
  obtain ⟨g, hg⟩ := noteWrite_eq s c PAD_LOCKLIM.LIM.addr
  have hv : bits v.toNat 0 16 = v.toNat := by
    rw [bits, pow_zero, Nat.div_one]
    exact Nat.mod_eq_of_lt v.isLt
  have hexec : exec (.padLocklimWrite c v) s =
      .next ((List.range 32).foldl State.limitLock ((s.mapTdm g).set PAD_LOCKLIM.LIM v.toNat)) := by
    rw [exec_padLocklimWrite, execPadLocklimWrite, poke_served h, regStore_padLocklim, hg, hv, lockLimit_eq]
  have hlim : ((s.mapTdm g).set PAD_LOCKLIM.LIM v.toNat).get PAD_LOCKLIM.LIM = v.toNat := by
    rw [get_set_same]
    exact Nat.mod_eq_of_lt v.isLt
  have hother : ∀ q : Fld, q.key ≠ PAD_LOCKLIM.LIM.key →
      ((s.mapTdm g).set PAD_LOCKLIM.LIM v.toNat).get q = s.get q := fun q hq => get_set_ne (s.mapTdm g) _ hq
  have hhold := holdings_foldl_limitLock (List.range 32) ((s.mapTdm g).set PAD_LOCKLIM.LIM v.toNat)
  refine ⟨_, hexec, State.sameRest_of_rest (State.lockLimit_rest (s.mapTdm g) v.toNat), ?_,
    fun n hn hown hv0 hnew hlong => ?_⟩
  · exact (hhold.keeps.get_eq _ (by decide)).trans hlim
  · have hraised := lockRaised_foldl_limitLock (s := (s.mapTdm g).set PAD_LOCKLIM.LIM v.toNat) hn
      (by rwa [hother _ (by simp only [Fld.key, PAD_LOCKOWN.OWN, PAD_LOCKLIM.LIM]; omega)])
      (by rw [hlim]; exact fun h0 => hv0 (BitVec.eq_of_toNat_eq h0)) (by rw [hlim]; exact hlong)
    refine ⟨?_, hraised⟩
    have hassert := (hhold.fresh n hraised).resolve_left (by simpa using hnew)
    exact asserts_congr (hother (EVT_CFG.EN 4) (by decide)) (hother (EVT_CFG.ROUTE 4) (by decide))
      (hother TDM_CTRL.EN (by decide)) hassert

/-- Settles O33: a cycle is the turn of the one unit asked for; every turn keeps one holder at most; a holding raises
source 4 when it is first looked at past the limit. -/
theorem paddockArbiterGrants : Obligations.PaddockArbiterGrants := by
  refine ⟨fun core p q s hreq hgr hcls hunit hp hq hcore hlt hport hbleed => ?_, fun core posts ended s h => ?_,
    fun p r s hreq hpost => hpost ▸ requestPromotion_clause hreq, lockHoldLimit_clause, padLocklimWrite_clause⟩
  · intro urgent horder
    refine arbitrationCycle_pair hreq hgr hcls hunit hp hq hcore hlt hport hbleed ?_
    have hurgent : ∀ x, urgent x ↔ s.arbLevel x = 0 := fun _ => arbLevel_eq_zero.symm
    simp only [hurgent] at horder
    unfold State.postBefore
    rcases arbLevel_eq s p with hlp | hlp <;> rcases arbLevel_eq s q with hlq | hlq <;> simp [hlp, hlq] at horder ⊢ <;>
      exact horder
  · obtain ⟨new, hexec, -⟩ := exec_arbitrationCycle_granted core posts ended s
    refine ⟨_, hexec, fun hchx => sameRest_arbitrationCycle hchx _ _ _ _, ?_⟩
    rw [granted_pad]
    exact arbCycle_oneHolder (s := s.quiet) h core posts ended

end Sys2Proof.Machine
end

section
/-! SUPPORT. What the loss of a clock sets off (R23, R59, R305) keeps: SYS_CLKSTAT and SYS_CLKFLT, what has asserted, the
gated domains, through the forced transition and through the curb logic's decision. -/

namespace Sys2Proof.Machine
open Sys2Proof Sys2Proof.Reg

/-- Keys of SYS_CLKSTAT, SYS_CLKEN and SYS_CLKFLT. -/
abbrev clkKey (k : Nat) : Prop := 0x60000010 * 32 ≤ k ∧ k < 0x6000001C * 32

/-- The clock fields, the gait, and which outputs are on. -/
abbrev clkGaitKey (k : Nat) : Prop := clkKey k ∨ k = PWR_GAIT.GAIT.key ∨ k = FIO_DOSTAT.ON.key

theorem not_evtKey_of_clkGaitKey (k : Nat) (h : clkGaitKey k) : ¬ evtKey k := by
  rcases h with h | rfl | rfl
  · unfold clkKey evtKey at *; omega
  · decide
  · decide

theorem not_evtKey_of_clkKey (k : Nat) (h : clkKey k) : ¬ evtKey k := not_evtKey_of_clkGaitKey k (.inl h)

theorem State.keeps.toClk {s t : State} (h : s.keeps clkGaitKey t) : s.keeps clkKey t := h.mono fun _ => .inl

/-! ### The forced transition -/

theorem keeps_draw {P : Nat → Prop} (s : State) (w : Nat) : s.keeps P (s.draw w).2 :=
  (State.keeps.refl P s).of_eq rfl rfl rfl

theorem keeps_refuseGait (s : State) (reason : Nat) : s.keeps clkGaitKey (s.refuseGait reason) :=
  (((State.keeps.refl _ s).set _ (by decide) (by decide)).set _ (by decide) (by decide)).raise not_evtKey_of_clkGaitKey
    (by decide)

theorem keeps_beginTrans (s : State) (num target cause : Nat) (requested : Bool) :
    s.keeps clkGaitKey (s.beginTrans num target cause requested) :=
  ((State.keeps.refl _ s).put (f := PWR_GAIT.BUSY) true (by decide) (by decide)).of_eq rfl rfl rfl

theorem keeps_removalBegun (s : State) : s.keeps clkGaitKey s.removalBegun.2 :=
  .iteSnd (.refl _ s) ((keeps_draw s 1).of_eq rfl rfl rfl)

theorem keeps_forceTrans (s : State) (num target cause : Nat) : s.keeps clkGaitKey (s.forceTrans num target cause) := by
  unfold State.forceTrans
  split
  · exact keeps_beginTrans s _ _ _ _
  · refine .ite (fun _ => .refl _ s) fun _ => ?_
    refine .ite (fun _ => .iteSnd (keeps_removalBegun s) (.refl _ s)) fun _ => .trans (.when ?_ _ ?_)
      (keeps_beginTrans _ _ _ _ _)
    · exact .iteSnd (keeps_removalBegun s) (.refl _ s)
    · exact keeps_refuseGait _ 6

theorem keeps_enterLame (s : State) : s.keeps clkGaitKey s.enterLame :=
  .ite (fun _ => keeps_forceTrans s _ _ _) fun _ => .refl _ s

theorem keeps_standbyLocal (s : State) : s.keeps clkGaitKey s.standbyLocal := by
  refine .when (.refl _ s) _ (.iteStep (.refl _ s) ?_)
  exact (((State.keeps.refl _ s).put (f := TDM_FLT.LOCAL) true (by decide) (by decide)).set _ (by decide)
    (by decide)).raise not_evtKey_of_clkGaitKey (by decide)

theorem keeps_markLame {P : Nat → Prop} (s : State) (b : Nat) (v : Bool) : s.keeps P (s.markLame b v) :=
  (State.keeps.refl P s).of_eq rfl rfl rfl

/-! ### Registers above the event controller -/

namespace State.keeps
variable {P : Nat → Prop} {s t u : State}

/-- A field of a block above the event controller's. -/
theorem setAbove (h : s.keeps clkKey t) {f : Fld} (v : Nat) (hf : 0x60030000 ≤ f.addr) : s.keeps clkKey (t.set f v) := by
  refine h.set v ?_ ?_ <;> simp only [clkKey, evtPendKey, Fld.key] <;> omega

theorem putAbove (h : s.keeps clkKey t) {f : Fld} (b : Bool) (hf : 0x60030000 ≤ f.addr) : s.keeps clkKey (t.put f b) :=
  h.setAbove _ hf

theorem bumpAbove (h : s.keeps clkKey t) {f : Fld} (k : Nat) (hf : 0x60030000 ≤ f.addr) : s.keeps clkKey (t.bump f k) :=
  h.setAbove _ hf

theorem raiseClk (h : s.keeps clkKey t) {n : Nat} (hn : n < 256) : s.keeps clkKey (t.raise n) :=
  h.raise not_evtKey_of_clkKey hn

theorem enqueue (h : s.keeps P t) (c : Commit) : s.keeps P (t.enqueue c) := h.of_eq rfl rfl rfl
theorem setLim (h : s.keeps P t) (k : Nat) (x : LimSt) : s.keeps P (t.setLim k x) := h.of_eq rfl rfl rfl

end State.keeps

/-! ### Records of the hardware -/

theorem keeps_writeSuppressed (s : State) (k : Nat) : s.keeps clkKey (s.writeSuppressed k) :=
  ((((State.keeps.refl _ s).enqueue _).setAbove _ (by simp only [LOG_LIMST.SUPP]; omega)).bumpAbove _
    (by decide)).setLim _ _

theorem keeps_passLimit (s : State) (c : Commit) : s.keeps clkKey (s.passLimit c).2 := by
  have hbound : ∀ k, 0x60030000 ≤ (LOG_LIMST.BOUND k).addr := fun k => by simp only [LOG_LIMST.BOUND]; omega
  have htokens : ∀ k, 0x60030000 ≤ (LOG_LIMST.TOKENS k).addr := fun k => by simp only [LOG_LIMST.TOKENS]; omega
  have hsupp : ∀ k, 0x60030000 ≤ (LOG_LIMST.SUPP k).addr := fun k => by simp only [LOG_LIMST.SUPP]; omega
  refine .iteSnd (.refl _ s) (.iteSnd ?_ ?_)
  · refine .iteStep (.setAbove (.iteStep (.refl _ s) ?_) _ (htokens _)) (keeps_writeSuppressed _ _)
    exact (State.keeps.refl _ s).setAbove _ (hbound _)
  · refine .setLim (.bumpAbove (.iteStep (.iteStep (.refl _ s) ?_) ?_) _ (hsupp _)) _ _
    · exact (State.keeps.refl _ s).setAbove _ (hbound _)
    · exact ((State.keeps.refl _ _).putAbove true (by decide)).raiseClk (by decide)

theorem keeps_hwRecord (s : State) (code sev : Nat) (payload : List Nat) :
    s.keeps clkKey (s.hwRecord code sev payload) := by
  unfold State.hwRecord
  exact .ite (fun _ => (keeps_passLimit s _).enqueue _) fun _ => keeps_passLimit s _

/-! ### Completions -/

theorem keeps_setCore {P : Nat → Prop} (s : State) (c : Core) (x : CoreSt) : s.keeps P (s.setCore c x) := by
  cases c <;> exact (State.keeps.refl P s).of_eq rfl rfl rfl

theorem keeps_store {P : Nat → Prop} (s : State) (n a v : Nat) : s.keeps P (s.store n a v) := by
  rw [store_eq_withMem]
  exact (State.keeps.refl P s).of_eq rfl rfl rfl

theorem keeps_recordRefusal (s : State) (m : Master) (k : Access) (kind a : Nat) :
    s.keeps clkKey (s.recordRefusal m k kind a) :=
  ((((State.keeps.refl _ s).set _ (by decide) (by decide)).set _ (by decide) (by decide)).put _ (by decide)
    (by decide)).set _ (by decide) (by decide)

theorem keeps_release (s : State) (c : Core) (t word val : Nat) : s.keeps clkKey (s.release c t word val) := by
  have htag : s.keeps clkKey (s.setTag c t (.done word val)) := keeps_setCore s c _
  unfold State.release
  refine .ite (fun _ => htag.trans (keeps_setCore _ c _)) fun _ => ?_
  have hwp : s.keeps clkKey ((s.setTag c t (.done word val)).setCr c Cr.crwp
      (BitVec.ofNat 32 (((s.cr c Cr.crwp).toNat + 1) % (2 * ringSize c)))) := htag.trans (keeps_setCore _ c _)
  refine .ite (fun _ => ?_) fun _ => ?_
  · exact ((hwp.trans (keeps_store _ 4 _ _)).trans (keeps_store _ 4 _ _)).trans (keeps_setCore _ c _)
  · dsimp only
    split
    · exact (hwp.trans (keeps_setCore _ c _)).trans (keeps_recordRefusal _ _ _ _ _)
    · exact ((hwp.trans (keeps_setCore _ c _)).trans (keeps_draw _ 4)).trans (keeps_recordRefusal _ _ _ _ _)

theorem keeps_complete (s : State) (c : Core) (t info status val : Nat) :
    s.keeps clkKey (s.complete c t info status val) := by
  unfold State.complete
  split
  · exact .ite (fun _ => keeps_setCore s c _) fun _ => keeps_release s c _ _ _
  · exact .refl _ s

/-! ### The bridle gate -/

theorem keeps_canBit {f : Nat → Nat → Fld} (hf : ∀ x n, 0x60030000 ≤ (f x n).addr) (s : State) (x n : Nat) (v : Bool) :
    s.keeps clkKey (s.canBit f x n v) :=
  .ite (fun _ => (State.keeps.refl _ s).setAbove _ (hf _ _)) fun _ => (State.keeps.refl _ s).setAbove _ (hf _ _)

theorem keeps_canPend (s : State) (x n : Nat) (v : Bool) : s.keeps clkKey (s.canPend x n v) :=
  ((State.keeps.refl _ s).putAbove v (by simp only [CNx_OSTAT.TXPEND]; omega)).trans
    (keeps_canBit (fun x n => by simp only [CNx_TXPEND.BITS]; omega) _ x n v)

theorem keeps_canStamp (s : State) (x n t : Nat) : s.keeps clkKey (s.canStamp x n t) :=
  ((State.keeps.refl _ s).setAbove _ (by simp only [CNx_OTSLO.NS]; omega)).setAbove _
    (by simp only [CNx_OTSHI.NS]; omega)

theorem keeps_canEnd (s : State) {x : Nat} (hx : x < 2) (n res t : Nat) (timeout : Bool) :
    s.keeps clkKey (s.canEnd x n res t timeout) := by
  have hbase : ∀ k < 8, canBase x + k < 256 := fun k hk => by unfold canBase; omega
  have hpend : s.keeps clkKey (s.canPend x n false) := keeps_canPend s x n false
  have hres : s.keeps clkKey ((s.canPend x n false).set (CNx_OSTAT.RES x n) res) :=
    hpend.setAbove res (by simp only [CNx_OSTAT.RES]; omega)
  have hdone := hres.trans (keeps_canBit (f := CNx_TXDONE.BITS) (fun x n => by simp only [CNx_TXDONE.BITS]; omega) _ x n
    true)
  have hraise : ∀ {t : State} (k : Nat), k < 8 → t.keeps clkKey (t.raise (canBase x + k)) :=
    fun k hk => (State.keeps.refl _ _).raiseClk (hbase k hk)
  have hshot : ∀ t : State, t.keeps clkKey ((t.put (CNx_FLT.ONESHOT x) true).raise (canBase x + 2)) := fun t =>
    ((State.keeps.refl _ t).putAbove true (by simp only [CNx_FLT.ONESHOT]; omega)).trans (hraise 2 (by decide))
  unfold State.canEnd
  dsimp only
  split
  · refine .trans ?_ (keeps_complete _ _ _ _ _ _)
    exact .when (.when (.when (hdone.mapCan _) _ (keeps_canStamp _ x n t)) _ (hraise 1 (by decide))) _ (hshot _)
  · exact .when (.when (.when (hdone.mapCan _) _ (keeps_canStamp _ x n t)) _ (hraise 1 (by decide))) _ (hshot _)

theorem keeps_canOnBus {P : Nat → Prop} (s : State) (x : Nat) : s.keeps P (s.canOnBus x).2 :=
  .iteSnd (keeps_draw s 8) (.refl P s)

theorem keeps_canAbortSome (s : State) {x : Nat} (hx : x < 2) (res : Nat) (p : State → Nat → Bool) :
    s.keeps clkKey (s.canAbortSome x res p) :=
  (keeps_canOnBus s x).trans (.foldl _ _ (fun t n _ => .ite (fun _ => keeps_canEnd t hx n res 0 false) fun _ => .refl _ t) _)

theorem keeps_canGateClose (s : State) : s.keeps clkKey s.canGateClose := by
  refine .foldl _ _ (fun t x hx => keeps_canAbortSome t ?_ 5 _) s
  simp only [List.mem_cons, List.not_mem_nil, or_false] at hx
  omega

theorem keeps_redrive (s : State) : s.keeps clkKey s.redrive := by
  have hon : 0x60030000 ≤ FIO_DOSTAT.ON.addr := by decide
  unfold State.redrive
  refine .mapCrb (.mapFio (.iteStep (.setAbove (.iteStep (.refl _ s) ?_) _ hon) ?_) _) _
  · exact (State.keeps.refl _ s).putAbove _ (by decide)
  · exact (State.keeps.refl _ _).setAbove _ (by decide)

theorem keeps_dropClaim (s : State) (reason : Nat) : s.keeps clkKey (s.dropClaim reason) := by
  have hgate : ∀ t : State, t.keeps clkKey t.gateShut := fun t =>
    .ite (fun _ => (((State.keeps.refl _ t).putAbove (f := TDM_STAT.GATE) false (by decide)).trans
      (keeps_canGateClose _)).trans (keeps_redrive _)) fun _ => .refl _ t
  have hdrop : s.keeps clkKey (((s.put TDM_STAT.CLAIM false).gateShut).set TDM_STAT.STATE Pair.alone) :=
    (((State.keeps.refl _ s).putAbove _ (by decide)).trans (hgate _)).setAbove _ (by decide)
  exact .ite (fun _ => .iteStep hdrop ((State.keeps.refl _ _).setAbove _ (by decide))) fun _ => .refl _ s

/-! ### The curb logic -/

theorem keeps_recordCause (s : State) (code : Nat) (gc first : Bool) : s.keeps clkKey (s.recordCause code gc first) :=
  .ite (fun _ => (State.keeps.refl _ s).setAbove _ (by decide)) fun _ => (State.keeps.refl _ s).setAbove _ (by decide)

theorem keeps_beginStop (s : State) : s.keeps clkKey s.beginStop :=
  ((State.keeps.refl _ s).putAbove (f := CRB_FLT.STOP) true (by decide)).of_eq rfl rfl rfl

theorem keeps_enterStop (s : State) (st : Nat) : s.keeps clkKey (s.enterStop st) :=
  (((State.keeps.refl _ s).setAbove _ (by decide)).raiseClk (by decide)).trans (keeps_hwRecord _ _ _ _)

theorem keeps_bleedOff (s : State) : s.keeps clkKey s.bleedOff := by
  have hstat : s.keeps clkKey ((s.mapCel fun x => { x with want := [], bleed := [], sent := [] }).bleedStat) :=
    (((State.keeps.refl clkKey s).of_eq (u := s.mapCel _) rfl rfl rfl).setAbove _ (by decide)).putAbove _ (by decide)
  exact .iteStep hstat ((State.keeps.refl _ _).of_eq rfl rfl rfl)

theorem keeps_crb {P : Nat → Prop} (s : State) (x : CurbSt) : s.keeps P { s with crb := x } :=
  (State.keeps.refl P s).of_eq rfl rfl rfl

theorem keeps_enterHalt (s : State) : s.keeps clkKey s.enterHalt := by
  have hstop : s.keeps clkKey ((s.enterStop Curb.halt).raise 29) := (keeps_enterStop s _).raiseClk (by decide)
  refine .trans (.iteStep ((hstop.trans (keeps_crb _ _)).trans (keeps_bleedOff _)) ?_) (keeps_redrive _)
  exact (keeps_forceTrans _ _ _ _).toClk

theorem keeps_enterSii (s : State) : s.keeps clkKey s.enterSii := by
  have hstop : s.keeps clkKey ((s.enterStop Curb.sii).mapCrb fun x => { x with dStop := 2 }) :=
    (keeps_enterStop s _).mapCrb _
  exact .ite (fun _ => (hstop.trans (keeps_crb _ _)).trans (keeps_redrive _)) fun _ => hstop.trans (keeps_enterHalt _)

theorem keeps_enterSrs (s : State) : s.keeps clkKey s.enterSrs :=
  ((((State.keeps.refl _ s).setAbove _ (by decide)).trans (keeps_crb _ _)).trans (keeps_enterStop _ _)).trans
    (keeps_redrive _)

theorem keeps_curbCause (s : State) (code : Nat) (a : Stop) (gc : Bool) : s.keeps clkKey (s.curbCause code a gc) := by
  have hfirst : s.keeps clkKey ((s.recordCause code gc true).beginStop) :=
    (keeps_recordCause s _ _ _).trans (keeps_beginStop _)
  unfold State.curbCause
  refine .ite (fun _ => .refl _ s) fun _ => .ite (fun _ => .ite (fun _ => ?_) fun _ => ?_) fun _ => ?_
  · exact ((hfirst.trans (keeps_standbyLocal _).toClk).trans (keeps_dropClaim _ _)).trans (keeps_enterHalt _)
  · refine .trans ?_ (keeps_dropClaim _ _)
    cases a
    · refine .ite (fun _ => .trans ?_ (keeps_enterSrs _)) fun _ => .trans ?_ (keeps_enterHalt _)
      · exact .iteStep hfirst (keeps_crb _ _)
      · exact .iteStep hfirst (keeps_crb _ _)
    · refine .trans ?_ (keeps_enterSii _)
      exact .iteStep hfirst (keeps_crb _ _)
  · exact .iteStep (keeps_recordCause s _ _ _) (keeps_enterSii _)

end Sys2Proof.Machine
end

section
/-! SUPPORT. The clocks on the RC (R23): what the move keeps, and the Lame it begins. -/

namespace Sys2Proof.Machine
open Sys2Proof Sys2Proof.Reg

/-! ### The RC and Lame -/

/-- The core and peripheral domains on the RC, the Lame cause marked, before the gait controller acts (R23). -/
def State.rcMarked (s : State) : State := (s.put SYS_CLKSTAT.ON_RC true).markLame LameCause.clock true

theorem gait_put_onRc (s : State) : (s.put SYS_CLKSTAT.ON_RC true).gait = s.gait := get_put_ne s true (by decide)

theorem gait_rcMarked (s : State) : s.rcMarked.gait = s.gait := gait_put_onRc s

theorem toRc_below {s : State} (h : ¬ 2 ≤ s.gait) : s.toRc = s.rcMarked := by
  unfold State.toRc
  dsimp only
  rw [gait_put_onRc, if_neg h]
  rfl

theorem gait_of_keeps {s t : State} (h : s.keeps clkGaitKey t) : t.gait = s.gait :=
  h.get_eq PWR_GAIT.GAIT (.inr (.inl rfl))

theorem mainOn_of_get {s t : State} (h : t.get FIO_DOSTAT.ON = s.get FIO_DOSTAT.ON) : t.mainOn = s.mainOn := by
  have hon : ∀ n, t.on n = s.on n := fun n => congrArg (bit · n) h
  unfold State.mainOn
  rw [hon, hon]

theorem mainOn_of_keeps {s t : State} (h : s.keeps clkGaitKey t) : t.mainOn = s.mainOn :=
  mainOn_of_get (h.get_eq FIO_DOSTAT.ON (.inr (.inr rfl)))

theorem mainOn_rcMarked (s : State) : s.rcMarked.mainOn = s.mainOn :=
  mainOn_of_get (s := s) (get_put_ne (f := SYS_CLKSTAT.ON_RC) s true (by decide))

theorem keeps_lameClock (s : State) : s.rcMarked.keeps clkGaitKey s.rcMarked.standbyLocal.enterLame :=
  (keeps_standbyLocal _).trans (keeps_enterLame _)

theorem toRc_fromWalk {s : State} (h : 2 ≤ s.gait) : s.toRc = s.rcMarked.standbyLocal.enterLame.gaitSrs := by
  have hclock : decide (LameCause.clock = LameCause.stale) = false := by decide
  have hgait : 2 ≤ s.rcMarked.standbyLocal.enterLame.gait := by
    rw [gait_of_keeps (keeps_lameClock s), gait_rcMarked]
    exact h
  have hmarked : (s.put SYS_CLKSTAT.ON_RC true).markLame LameCause.clock true = s.rcMarked := rfl
  unfold State.toRc State.forceLame
  dsimp only
  rw [gait_put_onRc, if_pos h, hmarked]
  simp only [hclock, Bool.and_false, Bool.false_eq_true, if_false, hgait, and_self, if_true]

theorem toRc_fromWalk_mainOff {s : State} (h : 2 ≤ s.gait) (hoff : s.mainOn = false) :
    s.toRc = s.rcMarked.standbyLocal.enterLame := by
  rw [toRc_fromWalk h]
  unfold State.gaitSrs
  rw [mainOn_of_keeps (keeps_lameClock s), mainOn_rcMarked, hoff]
  rfl

/-- Clock fields but ON_RC. -/
abbrev otherClkKey (k : Nat) : Prop := clkKey k ∧ k ≠ SYS_CLKSTAT.ON_RC.key

theorem keeps_rcMarked_toRc (s : State) : s.rcMarked.keeps clkKey s.toRc := by
  by_cases h : 2 ≤ s.gait
  · rw [toRc_fromWalk h]
    exact (keeps_lameClock s).toClk.trans (.ite (fun _ => keeps_curbCause _ _ _ _) fun _ => .refl _ _)
  · rw [toRc_below h]
    exact .refl _ _

theorem keeps_toRc (s : State) : s.keeps otherClkKey s.toRc := by
  have hmark : s.keeps otherClkKey s.rcMarked :=
    ((State.keeps.refl _ s).put true (by decide) (by decide)).trans (keeps_markLame _ _ _)
  exact hmark.trans ((keeps_rcMarked_toRc s).mono fun _ h => h.1)

theorem get_onRc_toRc (s : State) : s.toRc.get SYS_CLKSTAT.ON_RC = 1 := by
  rw [(keeps_rcMarked_toRc s).get_eq _ (by decide)]
  show (s.put SYS_CLKSTAT.ON_RC true).get SYS_CLKSTAT.ON_RC = 1
  exact get_set_same s _ _

/-- With no main output closed the move to the RC leaves the memory and the cores. -/
theorem toRc_rest {s : State} (hoff : s.mainOn = false) : s.toRc.rest = s.rest := by
  by_cases h : 2 ≤ s.gait
  · rw [toRc_fromWalk_mainOff h hoff]
    simp [State.rcMarked]
  · rw [toRc_below h]
    simp [State.rcMarked]

theorem raise_power (s : State) (n : Nat) : (s.raise n).power = s.power := by
  unfold State.raise State.softEvt State.latchEvt
  repeat' split
  all_goals rfl

theorem standbyLocal_power (s : State) : s.standbyLocal.power = s.power := by
  unfold State.standbyLocal State.stepLost State.when
  split
  · dsimp only
    split
    · rw [raise_power]; rfl
    · rfl
  · rfl

theorem removalBegun_lameCauses (s : State) : s.removalBegun.2.power.lameCauses = s.power.lameCauses := by
  unfold State.removalBegun
  split <;> rfl

theorem refuseGait_power (s : State) (reason : Nat) : (s.refuseGait reason).power = s.power := by
  unfold State.refuseGait
  rw [raise_power]
  rfl

theorem forceTrans_lameCauses (s : State) (num target cause : Nat) :
    (s.forceTrans num target cause).power.lameCauses = s.power.lameCauses := by
  unfold State.forceTrans
  split
  · rfl
  · next tr _ =>
    split
    · rfl
    · generalize hr : (if [2, 3, 6, 7].contains tr.num then s.removalBegun else (false, s)) = r
      have hremoval : r.2.power.lameCauses = s.power.lameCauses := by
        rw [← hr]
        split
        · exact removalBegun_lameCauses s
        · rfl
      dsimp only
      split
      · exact hremoval
      · show (r.2.when tr.requested fun s => s.refuseGait 6).power.lameCauses = _
        unfold State.when
        split
        · rw [refuseGait_power, hremoval]
        · exact hremoval

theorem enterLame_lameCauses (s : State) : s.enterLame.power.lameCauses = s.power.lameCauses := by
  unfold State.enterLame
  split
  · exact forceTrans_lameCauses s _ _ _
  · rfl

theorem get_busy_beginTrans (s : State) (num target cause : Nat) (requested : Bool) :
    (s.beginTrans num target cause requested).get PWR_GAIT.BUSY = 1 := by
  show (s.put PWR_GAIT.BUSY true).get PWR_GAIT.BUSY = 1
  exact get_set_same s _ _

/-- From Walk up, with no main output closed, the move to the RC marks Lame cause `clock`, and begins T13 from Walk to
Gallop (R23, R59). -/
theorem lameBegins_toRc {s : State} (h : 2 ≤ s.gait) (hoff : s.mainOn = false) :
    s.lameBegins s.toRc LameCause.clock := by
  rw [toRc_fromWalk_mainOff h hoff]
  refine ⟨?_, fun _ h5 hnone => ?_⟩
  · rw [enterLame_lameCauses, standbyLocal_power]
    show (setBit s.power.lameCauses LameCause.clock).testBit LameCause.clock = true
    simp [testBit_setBit]
  · have hgait : s.rcMarked.standbyLocal.gait = s.gait := by
      rw [gait_of_keeps (keeps_standbyLocal _), gait_rcMarked]
    have htrans : s.rcMarked.standbyLocal.power.trans = none := by
      rw [standbyLocal_power]
      exact hnone
    unfold State.enterLame State.forceTrans
    rw [hgait, if_pos ⟨h, h5⟩, htrans]
    dsimp only
    exact ⟨rfl, get_busy_beginTrans _ _ _ _ _⟩

theorem lameBegins_of_start {s u t : State} {b : Nat} (hgait : u.gait = s.gait) (hpower : u.power.trans = s.power.trans)
    (h : u.lameBegins t b) : s.lameBegins t b := by
  unfold State.lameBegins at h ⊢
  rwa [hgait, hpower] at h

end Sys2Proof.Machine
end

section
/-! PROOF. The loss of lock of a PLL, its relock, and the loss of the reference (R23-R25). -/

namespace Sys2Proof.Machine
open Sys2Proof Sys2Proof.Reg

/-! ### Lock and fault bits -/

theorem lock_key_clk : ∀ p : Fin 6, ∀ f ∈ pllLock p, otherClkKey f.key ∧ f.width = 1 := by decide

theorem fault_key_clk : ∀ p : Fin 6, ∀ f ∈ pllFault p, otherClkKey f.key ∧ f.width = 1 := by decide

theorem lock_key_ne_fault : ∀ p : Fin 6, ∀ f ∈ pllLock p, ∀ g ∈ pllFault p, f.key ≠ g.key := by decide

theorem get_putLock_lock (s : State) (b : Bool) {p : Fin 6} {f : Fld} (h : pllLock p = some f) :
    (s.putLock p b).get f = b2n b := by
  obtain ⟨-, hw⟩ := lock_key_clk p f h
  unfold State.putLock
  rw [h]
  refine (get_set_same s _ _).trans ?_
  rw [hw]
  cases b <;> rfl

theorem get_putLock_ne (s : State) (b : Bool) {p : Fin 6} {q : Fld} (h : ∀ f, pllLock p = some f → f.key ≠ q.key) :
    (s.putLock p b).get q = s.get q := by
  unfold State.putLock
  split
  · exact get_put_ne s b (h _ ‹_›).symm
  · rfl

theorem putLock_power (s : State) (p : Fin 6) (b : Bool) : (s.putLock p b).power = s.power := by
  unfold State.putLock
  split <;> rfl

/-- The fault of PLL `p` shows in SYS_CLKFLT where it has a bit there. -/
def State.putFault (s : State) (p : Fin 6) : State :=
  match pllFault p with
  | some f => s.put f true
  | none => s

theorem get_putFault_fault (s : State) {p : Fin 6} {f : Fld} (h : pllFault p = some f) : (s.putFault p).get f = 1 := by
  obtain ⟨-, hw⟩ := fault_key_clk p f h
  unfold State.putFault
  rw [h]
  refine (get_set_same s _ _).trans ?_
  rw [hw]
  rfl

theorem get_putFault_ne (s : State) {p : Fin 6} {q : Fld} (h : ∀ f, pllFault p = some f → f.key ≠ q.key) :
    (s.putFault p).get q = s.get q := by
  unfold State.putFault
  split
  · exact get_put_ne s true (h _ ‹_›).symm
  · rfl

theorem putFault_power (s : State) (p : Fin 6) : (s.putFault p).power = s.power := by
  unfold State.putFault
  split <;> rfl

@[simp] theorem putFault_rest (s : State) (p : Fin 6) : (s.putFault p).rest = s.rest := by
  unfold State.putFault
  split <;> rfl

/-! ### A PLL that loses lock -/

/-- PLL `p` out of lock: its lock bit, its gate and its fault bit (R24). -/
def State.pllDown (s : State) (p : Fin 6) : State :=
  ((s.putLock p false).mapPower fun x => { x with gated := setBit x.gated p.val }).putFault p

/-- The same, with source 2. -/
def State.pllLost (s : State) (p : Fin 6) : State := (s.pllDown p).raise 2

/-- The link of the tandem pair is down, with source 238. -/
def State.linkDropped (s : State) : State := ((s.put TDM_STAT.LINK false).snapFail).raise 238

/-- What the loss of lock of PLL `p` leads to. -/
def State.pllUnlocked (s : State) (p : Fin 6) : State :=
  if p = 0 ∨ p = 1 then (s.pllLost p).toRc
  else if p = 3 ∧ (s.pllLost p).flag TDM_STAT.LINK then (s.pllLost p).linkDropped
  else s.pllLost p

theorem execPllUnlock_running {s : State} {p : Fin 6} (ha : s.alive = true) (hr : s.pllRuns p = true)
    (hl : s.pllLocked p = true) : execPllUnlock p s = .next (s.pllUnlocked p) := by
  unfold execPllUnlock State.pllUnlocked
  rw [if_neg (by simp [ha, hr, hl]), apply_ite Host.Outcome.next, apply_ite Host.Outcome.next]
  rfl

theorem get_pllDown_ne (s : State) (p : Fin 6) {q : Fld} (h : ¬ clkKey q.key) : (s.pllDown p).get q = s.get q := by
  have hlock : ∀ f, pllLock p = some f → f.key ≠ q.key := fun f hf e => h (e ▸ (lock_key_clk p f hf).1.1)
  have hfault : ∀ f, pllFault p = some f → f.key ≠ q.key := fun f hf e => h (e ▸ (fault_key_clk p f hf).1.1)
  unfold State.pllDown
  rw [get_putFault_ne _ hfault, get_mapPower, get_putLock_ne _ _ hlock]

theorem get_pllLost_ne (s : State) (p : Fin 6) {q : Fld} (h : ¬ clkKey q.key) (he : ¬ evtKey q.key) :
    (s.pllLost p).get q = s.get q :=
  ((keeps_raise (P := fun k => ¬ evtKey k) (fun _ hk => hk) _ (by decide)).get_eq q he).trans (get_pllDown_ne s p h)

theorem keeps_pllDown_pllLost (s : State) (p : Fin 6) : (s.pllDown p).keeps clkKey (s.pllLost p) :=
  keeps_raise not_evtKey_of_clkKey _ (by decide)

theorem get_pllLost_lock (s : State) {p : Fin 6} {f : Fld} (h : pllLock p = some f) : (s.pllLost p).get f = 0 := by
  rw [(keeps_pllDown_pllLost s p).get_eq f (lock_key_clk p f h).1.1]
  unfold State.pllDown
  rw [get_putFault_ne _ fun g hg => (lock_key_ne_fault p f h g hg).symm, get_mapPower, get_putLock_lock s false h]
  rfl

theorem get_pllLost_fault (s : State) {p : Fin 6} {f : Fld} (h : pllFault p = some f) : (s.pllLost p).get f = 1 := by
  rw [(keeps_pllDown_pllLost s p).get_eq f (fault_key_clk p f h).1.1]
  exact get_putFault_fault _ h

theorem pllGated_pllLost (s : State) (p : Fin 6) : (s.pllLost p).pllGated p = true := by
  unfold State.pllGated
  rw [(keeps_pllDown_pllLost s p).gated]
  unfold State.pllDown
  rw [putFault_power]
  show (setBit _ p.val).testBit p.val = true
  simp [testBit_setBit]

theorem trans_pllLost (s : State) (p : Fin 6) : (s.pllLost p).power.trans = s.power.trans := by
  unfold State.pllLost State.pllDown
  rw [raise_power, putFault_power]
  show (s.putLock p false).power.trans = _
  rw [putLock_power]

theorem gait_pllLost (s : State) (p : Fin 6) : (s.pllLost p).gait = s.gait := get_pllLost_ne s p (by decide) (by decide)

theorem mainOn_pllLost (s : State) (p : Fin 6) : (s.pllLost p).mainOn = s.mainOn :=
  mainOn_of_get (get_pllLost_ne s p (by decide) (by decide))

@[simp] theorem pllLost_rest (s : State) (p : Fin 6) : (s.pllLost p).rest = s.rest := by
  simp [State.pllLost, State.pllDown]

/-- Fields that say whether a source asserts are no clock fields. -/
theorem not_clkKey_of_cfgKey {n k : Nat} (h : cfgKey n k) : ¬ clkKey k := by
  unfold clkKey
  rcases h with rfl | rfl | rfl <;> simp only [Fld.key, EVT_CFG.EN, EVT_CFG.ROUTE, TDM_CTRL.EN] <;> omega

theorem asserts_pllLost (s : State) (p : Fin 6) : s.asserts (s.pllLost p) 2 :=
  asserts_of_cfg_eq (fun _ hq => get_pllDown_ne s p (not_clkKey_of_cfgKey hq)) (asserts_raise _ 2)

/-! ### The tandem link -/

theorem keeps_snapFail {P : Nat → Prop} (hstate : ¬ P TDM_STAT.STATE.key) (hfail : ¬ P TDM_FLT.SNAPFAIL.key) (s : State) :
    s.keeps P s.snapFail :=
  .iteStep (.refl P s) ((((State.keeps.refl P s).set _ hstate (by decide)).put true hfail (by decide)).of_eq rfl rfl rfl)

theorem keeps_linkDropped (s : State) : s.keeps clkKey s.linkDropped :=
  (((State.keeps.refl _ s).putAbove (f := TDM_STAT.LINK) false (by decide)).trans
    (keeps_snapFail (by decide) (by decide) _)).raiseClk (by decide)

theorem get_link_linkDropped (s : State) : s.linkDropped.get TDM_STAT.LINK = 0 := by
  have hkeep : (s.put TDM_STAT.LINK false).keeps (· = TDM_STAT.LINK.key) s.linkDropped :=
    (keeps_snapFail (by decide) (by decide) _).raise (by rintro _ rfl; decide) (by decide)
  rw [hkeep.get_eq _ rfl]
  exact get_set_same s _ _

theorem asserts_linkDropped (s : State) : s.asserts s.linkDropped 238 := by
  have hnot : ∀ f ∈ [TDM_STAT.LINK, TDM_STAT.STATE, TDM_FLT.SNAPFAIL], ¬ cfgKey 238 f.key := by
    unfold cfgKey
    decide
  have hkeep : s.keeps (cfgKey 238) (s.put TDM_STAT.LINK false).snapFail :=
    ((State.keeps.refl _ s).put false (hnot TDM_STAT.LINK (by decide)) (by decide)).trans
      (keeps_snapFail (hnot _ (by decide)) (hnot _ (by decide)) _)
  exact asserts_of_kept_cfg hkeep (fun _ hk => hk) (asserts_raise _ 238)

/-! ### PLL_UNLOCK and PLL_LOCK -/

theorem keeps_pllUnlocked (s : State) (p : Fin 6) : (s.pllLost p).keeps otherClkKey (s.pllUnlocked p) :=
  .ite (fun _ => keeps_toRc _) fun _ => .ite (fun _ => (keeps_linkDropped _).mono fun _ hk => hk.1) fun _ => .refl _ _

theorem pllUnlocked_rest {s : State} (p : Fin 6) (hoff : s.mainOn = false) : (s.pllUnlocked p).rest = s.rest := by
  unfold State.pllUnlocked
  split
  · rw [toRc_rest ((mainOn_pllLost s p).trans hoff), pllLost_rest]
  · split
    · simp [State.linkDropped]
    · exact pllLost_rest s p

/-- PLL_UNLOCK of a PLL that runs locked. -/
theorem pllUnlock_clause {s : State} {p : Fin 6} (ha : s.alive = true) (hr : s.pllRuns p = true)
    (hl : s.pllLocked p = true) :
    ∃ t, exec (.pllUnlock p) s = .next t ∧ (s.mainOn = false → s.sameRest t) ∧ t.pllGated p = true ∧
      (∀ f, pllLock p = some f → t.get f = 0) ∧ (∀ f, pllFault p = some f → t.get f = 1) ∧ s.asserts t 2 ∧
      (p = 0 ∨ p = 1 → t.get SYS_CLKSTAT.ON_RC = 1 ∧
        (2 ≤ s.gait → s.mainOn = false → s.lameBegins t LameCause.clock)) ∧
      (p = 3 → s.flag TDM_STAT.LINK = true → t.get TDM_STAT.LINK = 0 ∧ s.asserts t 238) := by
  have hkeep := keeps_pllUnlocked s p
  refine ⟨_, execPllUnlock_running ha hr hl, fun hoff => State.sameRest_of_rest (pllUnlocked_rest p hoff), ?_,
    fun f hf => (hkeep.get_eq f (lock_key_clk p f hf).1).trans (get_pllLost_lock s hf),
    fun f hf => (hkeep.get_eq f (fault_key_clk p f hf).1).trans (get_pllLost_fault s hf),
    asserts_of_keeps (by decide) (asserts_pllLost s p) hkeep, fun h01 => ?_, fun h3 hlink => ?_⟩
  · unfold State.pllGated
    rw [hkeep.gated]
    exact pllGated_pllLost s p
  · have hrc : s.pllUnlocked p = (s.pllLost p).toRc := if_pos h01
    rw [hrc]
    refine ⟨get_onRc_toRc _, fun hgait hoff => ?_⟩
    exact lameBegins_of_start (gait_pllLost s p) (trans_pllLost s p)
      (lameBegins_toRc (by rwa [gait_pllLost]) ((mainOn_pllLost s p).trans hoff))
  · have hlink' : (s.pllLost p).flag TDM_STAT.LINK = true := by
      unfold State.flag
      rw [get_pllLost_ne s p (by decide) (by decide)]
      exact hlink
    have hdrop : s.pllUnlocked p = (s.pllLost p).linkDropped := by
      unfold State.pllUnlocked
      rw [if_neg (by subst h3; decide), if_pos ⟨h3, hlink'⟩]
    rw [hdrop]
    exact ⟨get_link_linkDropped _, asserts_of_cfg_eq
      (fun _ hq => get_pllLost_ne s p (not_clkKey_of_cfgKey hq) (not_evtKey_of_cfgKey hq)) (asserts_linkDropped _)⟩

/-- PLL_LOCK of a PLL that runs. -/
theorem pllLock_clause {s : State} {p : Fin 6} (ha : s.alive = true) (hr : s.pllRuns p = true) :
    ∃ t, exec (.pllLock p) s = .next t ∧ s.sameRest t ∧ t.pllGated p = false ∧
      (∀ q : Fin 6, q ≠ p → t.pllGated q = s.pllGated q) ∧ (∀ f, pllLock p = some f → t.get f = 1) ∧
      ∀ f : Fld, (∀ l, pllLock p = some l → l.key ≠ f.key) → t.get f = s.get f := by
  have hexec : exec (.pllLock p) s =
      .next ((s.putLock p true).mapPower fun x => { x with gated := clrBit x.gated p.val }) := by
    refine if_neg ?_
    simp [ha, hr]
  have hgated : ∀ q : Fin 6,
      ((s.putLock p true).mapPower fun x => { x with gated := clrBit x.gated p.val }).pllGated q =
        (s.pllGated q && decide (p.val ≠ q.val)) := by
    intro q
    show (clrBit (s.putLock p true).power.gated p.val).testBit q.val = _
    rw [testBit_clrBit, putLock_power]
    rfl
  refine ⟨_, hexec, State.sameRest_of_rest (by simp), ?_, fun q hq => ?_, fun f hf => get_putLock_lock s true hf,
    fun f hf => get_putLock_ne s true hf⟩
  · rw [hgated, decide_eq_false (by simp), Bool.and_false]
  · have hne : p.val ≠ q.val := fun e => hq (Fin.ext e.symm)
    rw [hgated, decide_eq_true hne, Bool.and_true]

/-! ### REF_MONITOR_WINDOW -/

/-- A bad reference window is noted, with source 1 (R23, R25). -/
def State.refBad (s : State) : State := (s.put SYS_CLKSTAT.REF_OK false).put SYS_CLKFLT.REF_LOSS true

theorem get_refBad_ne (s : State) {q : Fld} (h : ¬ clkKey q.key) : s.refBad.get q = s.get q := by
  have hok : q.key ≠ SYS_CLKSTAT.REF_OK.key := fun e => h (e ▸ by decide)
  have hloss : q.key ≠ SYS_CLKFLT.REF_LOSS.key := fun e => h (e ▸ by decide)
  unfold State.refBad
  rw [get_put_ne _ _ hloss, get_put_ne _ _ hok]

theorem get_raise_refBad_ne (s : State) {q : Fld} (h : ¬ clkKey q.key) (he : ¬ evtKey q.key) :
    (s.refBad.raise 1).get q = s.get q :=
  ((keeps_raise (P := fun k => ¬ evtKey k) (fun _ hk => hk) _ (by decide)).get_eq q he).trans (get_refBad_ne s h)

/-- A bad reference window on a module that still counts on the reference. -/
theorem refLost_clause {s : State} (ha : s.alive = true)
    (h : s.flag SYS_CLKSTAT.REF_OK = true ∨ s.flag SYS_CLKSTAT.ON_RC = false) :
    ∃ t, exec (.refMonitorWindow false) s = .next t ∧ t.get SYS_CLKSTAT.REF_OK = 0 ∧
      t.get SYS_CLKFLT.REF_LOSS = 1 ∧ t.get SYS_CLKSTAT.ON_RC = 1 ∧ s.asserts t 1 ∧
      (s.mainOn = false → s.sameRest t ∧ (2 ≤ s.gait → s.lameBegins t LameCause.clock)) := by
  have hexec : exec (.refMonitorWindow false) s = .next (s.refBad.raise 1).toRc := by
    show execRefMonitorWindow false s = _
    unfold execRefMonitorWindow
    rw [if_neg (by simp [ha]), if_neg (by decide), if_pos h]
    rfl
  have hkeep : s.refBad.keeps otherClkKey (s.refBad.raise 1).toRc :=
    (keeps_raise (fun k hk => not_evtKey_of_clkKey k hk.1) _ (by decide)).trans (keeps_toRc _)
  have hassert : s.asserts (s.refBad.raise 1) 1 :=
    asserts_of_cfg_eq (fun _ hq => get_refBad_ne s (not_clkKey_of_cfgKey hq)) (asserts_raise _ 1)
  have hgait : (s.refBad.raise 1).gait = s.gait := get_raise_refBad_ne s (by decide) (by decide)
  have hmain : (s.refBad.raise 1).mainOn = s.mainOn := mainOn_of_get (get_raise_refBad_ne s (by decide) (by decide))
  refine ⟨_, hexec, ?_, ?_, get_onRc_toRc _, asserts_of_keeps (by decide) hassert (keeps_toRc _),
    fun hoff => ⟨?_, fun h2 => ?_⟩⟩
  · rw [hkeep.get_eq _ (by decide)]
    exact (get_put_ne _ true (by decide)).trans (get_set_same s _ _)
  · rw [hkeep.get_eq _ (by decide)]
    exact get_set_same _ _ _
  · exact State.sameRest_of_rest ((toRc_rest (hmain.trans hoff)).trans (by simp [State.refBad]))
  · refine lameBegins_of_start hgait ?_ (lameBegins_toRc (by rwa [hgait]) (hmain.trans hoff))
    rw [raise_power]
    rfl

end Sys2Proof.Machine
end

section
/-! PROOF. Seconds and wakes (R57, R62, R75, R429, R470), and the clocks of the statement assembled. -/

namespace Sys2Proof.Machine
open Sys2Proof Sys2Proof.Reg

/-! ### Wakes -/

theorem wake_of_disabled {s : State} {b : Nat} (h : s.wakeEnabled b = false) : s.wake b = s := if_pos h

/-- A wake writes PWR_WAKESRC and BUSY. -/
theorem keeps_wake (s : State) (b : Nat) :
    s.keeps (fun k => k ≠ PWR_WAKESRC.SRC.key ∧ k ≠ PWR_GAIT.BUSY.key) (s.wake b) := by
  have hnoted : s.keeps (fun k => k ≠ PWR_WAKESRC.SRC.key ∧ k ≠ PWR_GAIT.BUSY.key) (s.setBitOf PWR_WAKESRC.SRC b) :=
    (State.keeps.refl _ s).set _ (fun h => h.1 rfl) (by decide)
  have hbegin : ∀ num, s.keeps (fun k => k ≠ PWR_WAKESRC.SRC.key ∧ k ≠ PWR_GAIT.BUSY.key)
      ((s.setBitOf PWR_WAKESRC.SRC b).beginTrans num Gait.walk 1 false) := fun num =>
    (hnoted.put (f := PWR_GAIT.BUSY) true (fun h => h.2 rfl) (by decide)).of_eq rfl rfl rfl
  unfold State.wake
  refine .ite (fun _ => .refl _ s) fun _ => ?_
  dsimp only
  split
  · refine .ite (fun _ => hnoted.of_eq rfl rfl rfl) fun _ => .ite (fun _ => hnoted.of_eq rfl rfl rfl) fun _ => ?_
    exact .ite (fun _ => hnoted) fun _ => .refl _ s
  · refine .ite (fun _ => hnoted) fun _ => .ite (fun _ => hbegin _) fun _ => .ite (fun _ => hbegin _) fun _ => ?_
    exact .ite (fun _ => hbegin _) fun _ => .refl _ s

theorem get_wake_ne (s : State) (b : Nat) {q : Fld} (hsrc : q.key ≠ PWR_WAKESRC.SRC.key)
    (hbusy : q.key ≠ PWR_GAIT.BUSY.key) : (s.wake b).get q = s.get q := (keeps_wake s b).get_eq q ⟨hsrc, hbusy⟩

theorem wake_sys (s : State) (b : Nat) : (s.wake b).sys = s.sys := by
  unfold State.wake State.beginTrans
  dsimp only
  repeat' split
  all_goals rfl

/-- A wake outside Stable starts no power-up. -/
theorem wakeStable_wake {s : State} (b : Nat) (h : s.gait ≠ Gait.stable) : (s.wake b).wakeStable = s.wake b := by
  have hgait : (s.wake b).gait ≠ Gait.stable := by
    unfold State.gait at h ⊢
    rwa [get_wake_ne s b (by decide) (by decide)]
  unfold State.wakeStable State.when
  refine if_neg ?_
  split
  · simp [hgait]
  · exact Bool.false_ne_true

/-- In Paddock with no transition in progress an enabled wake source is recorded and begins T4 to Walk (R62). -/
theorem wake_paddock {s : State} {b : Nat} (hb : b < 7) (hen : s.wakeEnabled b = true) (hgait : s.gait = Gait.paddock)
    (htrans : s.power.trans = none) (hboot : s.sys.booting = false) :
    (s.wake b).bitOf PWR_WAKESRC.SRC b = true ∧ (s.wake b).power.trans = some ⟨4, Gait.walk, 1, false⟩ ∧
      (s.wake b).get PWR_GAIT.BUSY = 1 := by
  have hwake : s.wake b = (s.setBitOf PWR_WAKESRC.SRC b).beginTrans 4 Gait.walk 1 false := by
    unfold State.wake
    rw [if_neg (by simp [hen]), htrans]
    dsimp only
    rw [if_neg (by simp [hboot]), if_pos hgait]
  rw [hwake]
  refine ⟨?_, rfl, get_busy_beginTrans _ _ _ _ _⟩
  show bit (((s.setBitOf PWR_WAKESRC.SRC b).put PWR_GAIT.BUSY true).get PWR_WAKESRC.SRC) b = true
  rw [get_put_ne _ _ (by decide)]
  unfold State.setBitOf bit
  rw [get_set_same, Nat.testBit_mod_two_pow, testBit_setBit]
  simp [PWR_WAKESRC.SRC, hb]

/-! ### RTC_TICK -/

/-- A second counted outside Stable. -/
def State.secondCounted (s : State) : State :=
  ((s.set PWR_RTC.SEC (s.get PWR_RTC.SEC + 1)).set NVM_OPTIME.SEC (s.get NVM_OPTIME.SEC + 1)).trialSecond

/-- The alarm of the seconds matches on a module not held in reset. -/
def State.alarmHit (s : State) : Bool :=
  decide (s.get PWR_RTCALM.ALM ≠ 0xFFFFFFFF) && decide (s.get PWR_RTC.SEC = s.get PWR_RTCALM.ALM) && !s.inReset

/-- A second of a trial counts in UPD_TRSTAT. -/
theorem trialSecond_eq_or (s : State) : s.trialSecond = s.bump UPD_TRSTAT.ELAPSED 1 ∨ s.trialSecond = s :=
  ite_eq_or_eq _ _ _

theorem get_trialSecond_ne (s : State) {q : Fld} (h : q.key ≠ UPD_TRSTAT.ELAPSED.key) : s.trialSecond.get q = s.get q := by
  obtain e | e := trialSecond_eq_or s
  · exact e ▸ get_set_ne s _ h
  · rw [e]

theorem trialSecond_power (s : State) : s.trialSecond.power = s.power := by
  obtain e | e := trialSecond_eq_or s <;> rw [e]
  rfl

theorem trialSecond_sys (s : State) : s.trialSecond.sys = s.sys := by
  obtain e | e := trialSecond_eq_or s <;> rw [e]
  rfl

theorem get_secondCounted_ne (s : State) {q : Fld} (hrtc : q.key ≠ PWR_RTC.SEC.key) (hop : q.key ≠ NVM_OPTIME.SEC.key)
    (htrial : q.key ≠ UPD_TRSTAT.ELAPSED.key) : s.secondCounted.get q = s.get q := by
  unfold State.secondCounted
  rw [get_trialSecond_ne _ htrial, get_set_ne _ _ hop, get_set_ne _ _ hrtc]

theorem get_rtc_secondCounted (s : State) : s.secondCounted.get PWR_RTC.SEC = (s.get PWR_RTC.SEC + 1) % 2 ^ 32 := by
  unfold State.secondCounted
  rw [get_trialSecond_ne _ (by decide), get_set_ne _ _ (by decide)]
  exact get_set_same s _ _

theorem get_optime_secondCounted (s : State) :
    s.secondCounted.get NVM_OPTIME.SEC = (s.get NVM_OPTIME.SEC + 1) % 2 ^ 32 := by
  unfold State.secondCounted
  rw [get_trialSecond_ne _ (by decide)]
  exact get_set_same _ _ _

theorem secondCounted_power (s : State) : s.secondCounted.power = s.power := trialSecond_power _

theorem secondCounted_sys (s : State) : s.secondCounted.sys = s.sys := trialSecond_sys _

theorem gait_secondCounted (s : State) : s.secondCounted.gait = s.gait :=
  get_secondCounted_ne s (by decide) (by decide) (by decide)

theorem execRtcTick_awake {s : State} (hon : s.sys.on = true) (h : s.gait ≠ Gait.stable) :
    execRtcTick s = .next (s.secondCounted.when s.secondCounted.alarmHit fun u => u.wake 1) := by
  have hgait : (s.set PWR_RTC.SEC (s.get PWR_RTC.SEC + 1)).gait = s.gait := get_set_ne s _ (by decide)
  have hop : (s.set PWR_RTC.SEC (s.get PWR_RTC.SEC + 1)).get NVM_OPTIME.SEC = s.get NVM_OPTIME.SEC :=
    get_set_ne s _ (by decide)
  have hwake : (s.secondCounted.wake 1).wakeStable = s.secondCounted.wake 1 :=
    wakeStable_wake 1 (by rwa [gait_secondCounted])
  unfold execRtcTick
  dsimp only
  rw [if_neg (by simp [hon]), hgait, if_neg h, hop]
  show Host.Outcome.next (s.secondCounted.when s.secondCounted.alarmHit fun u => (u.wake 1).wakeStable) = _
  unfold State.when
  dsimp only
  rw [hwake]

/-- A second outside Stable. -/
theorem rtcTick_awake_clause {s : State} (hon : s.sys.on = true) (hrun : s.inReset = false) (h : s.gait ≠ Gait.stable) :
    ∃ t, exec .rtcTick s = .next t ∧ s.sameRest t ∧ t.get PWR_RTC.SEC = (s.get PWR_RTC.SEC + 1) % 2 ^ 32 ∧
      t.get NVM_OPTIME.SEC = (s.get NVM_OPTIME.SEC + 1) % 2 ^ 32 ∧
      (s.get PWR_RTCALM.ALM ≠ 0xFFFFFFFF → s.get PWR_RTCALM.ALM = (s.get PWR_RTC.SEC + 1) % 2 ^ 32 →
        (s.flag PWR_WAKEEN.RTC = true → s.gait = Gait.paddock → s.power.trans = none → s.sys.booting = false →
          t.bitOf PWR_WAKESRC.SRC 1 = true ∧ t.power.trans = some ⟨4, Gait.walk, 1, false⟩ ∧
            t.get PWR_GAIT.BUSY = 1) ∧
        (s.flag PWR_WAKEEN.RTC = false → t.get PWR_WAKESRC.SRC = s.get PWR_WAKESRC.SRC ∧ t.power = s.power)) := by
  have hget : ∀ q : Fld, q.key ≠ PWR_WAKESRC.SRC.key → q.key ≠ PWR_GAIT.BUSY.key →
      (s.secondCounted.when s.secondCounted.alarmHit fun u => u.wake 1).get q = s.secondCounted.get q := fun q hs hb =>
    (State.keeps.when (.refl _ _) _ (keeps_wake _ 1)).get_eq q ⟨hs, hb⟩
  refine ⟨_, execRtcTick_awake hon h, State.sameRest_of_rest ?_,
    (hget _ (by decide) (by decide)).trans (get_rtc_secondCounted s),
    (hget _ (by decide) (by decide)).trans (get_optime_secondCounted s), fun hset halm => ?_⟩
  · unfold State.when State.secondCounted
    split <;> simp
  · have hen : s.secondCounted.wakeEnabled 1 = s.flag PWR_WAKEEN.RTC := by
      show s.secondCounted.flag PWR_WAKEEN.RTC = _
      unfold State.flag
      rw [get_secondCounted_ne s (by decide) (by decide) (by decide)]
    have hhit : s.secondCounted.alarmHit = true := by
      unfold State.alarmHit State.inReset
      rw [get_secondCounted_ne (q := PWR_RTCALM.ALM) s (by decide) (by decide) (by decide), get_rtc_secondCounted,
        secondCounted_sys, ← halm]
      unfold State.inReset at hrun
      simp [hset, hrun]
    have hwake : (s.secondCounted.when s.secondCounted.alarmHit fun u => u.wake 1) = s.secondCounted.wake 1 := if_pos hhit
    rw [hwake]
    refine ⟨fun hf hg htr hbt => ?_, fun hf => ?_⟩
    · refine wake_paddock (by decide) (hen.trans hf) ((gait_secondCounted s).trans hg) ?_ ?_
      · rw [secondCounted_power, htr]
      · rw [secondCounted_sys, hbt]
    · rw [wake_of_disabled (hen.trans hf)]
      exact ⟨get_secondCounted_ne s (by decide) (by decide) (by decide), secondCounted_power s⟩

/-- A second in Stable with no alarm set. -/
theorem rtcTick_stable_clause {s : State} (hon : s.sys.on = true) (h : s.gait = Gait.stable)
    (halm : s.get PWR_RTCALM.ALM = 0xFFFFFFFF) :
    ∃ t, exec .rtcTick s = .next t ∧ s.sameRest t ∧ t.get PWR_RTC.SEC = (s.get PWR_RTC.SEC + 1) % 2 ^ 32 ∧
      t.get NVM_OPTIME.SEC = s.get NVM_OPTIME.SEC := by
  have hgait : (s.set PWR_RTC.SEC (s.get PWR_RTC.SEC + 1)).gait = Gait.stable := (get_set_ne s _ (by decide)).trans h
  have halm' : (s.set PWR_RTC.SEC (s.get PWR_RTC.SEC + 1)).get PWR_RTCALM.ALM = 0xFFFFFFFF :=
    (get_set_ne s _ (by decide)).trans halm
  have hexec : exec .rtcTick s = .next (s.set PWR_RTC.SEC (s.get PWR_RTC.SEC + 1)) := by
    show execRtcTick s = _
    unfold execRtcTick
    dsimp only
    rw [if_neg (by simp [hon]), if_pos hgait, halm']
    rfl
  exact ⟨_, hexec, State.sameRest_of_rest (by simp), get_set_same s _ _, get_set_ne s _ (by decide)⟩

/-! ### WAKE_N -/

/-- The level at WAKE_N, as SYS_PWRSTAT shows it. -/
def State.wakeNSeen (s : State) (low : Bool) : State :=
  (s.mapSys fun x => { x with wakeLow := low }).put SYS_PWRSTAT.WAKEN (!low)

theorem get_wakeNSeen_ne (s : State) (low : Bool) {q : Fld} (h : q.key ≠ SYS_PWRSTAT.WAKEN.key) :
    (s.wakeNSeen low).get q = s.get q := get_put_ne _ _ h

theorem get_waken_wakeNSeen (s : State) (low : Bool) : (s.wakeNSeen low).get SYS_PWRSTAT.WAKEN = b2n (!low) := by
  refine (get_set_same _ _ _).trans ?_
  cases low <;> rfl

/-- WAKE_N low outside Stable. -/
theorem wakeNLow_clause {s : State} (hon : s.sys.on = true) (hrun : s.inReset = false) (h : s.gait ≠ Gait.stable) :
    ∃ t, exec (.wakeNLow true) s = .next t ∧ s.sameRest t ∧ t.sys.wakeLow = true ∧ t.get SYS_PWRSTAT.WAKEN = 0 ∧
      (s.flag PWR_WAKEEN.WAKEN = true → s.gait = Gait.paddock → s.power.trans = none → s.sys.booting = false →
        t.bitOf PWR_WAKESRC.SRC 0 = true ∧ t.power.trans = some ⟨4, Gait.walk, 1, false⟩ ∧ t.get PWR_GAIT.BUSY = 1) ∧
      (s.flag PWR_WAKEEN.WAKEN = false → t.get PWR_WAKESRC.SRC = s.get PWR_WAKESRC.SRC ∧ t.power = s.power) := by
  have hgait : (s.wakeNSeen true).gait = s.gait := get_wakeNSeen_ne s true (by decide)
  have hexec : exec (.wakeNLow true) s = .next ((s.wakeNSeen true).wake 0) := by
    rw [← wakeStable_wake 0 (by rwa [hgait])]
    exact if_pos ⟨rfl, hon, hrun⟩
  have hen : (s.wakeNSeen true).wakeEnabled 0 = s.flag PWR_WAKEEN.WAKEN := by
    show (s.wakeNSeen true).flag PWR_WAKEEN.WAKEN = _
    unfold State.flag
    rw [get_wakeNSeen_ne s true (by decide)]
  refine ⟨_, hexec, State.sameRest_of_rest (by simp [State.wakeNSeen]), ?_, ?_, fun hf hg htr hbt => ?_, fun hf => ?_⟩
  · rw [wake_sys]
    rfl
  · rw [get_wake_ne _ _ (by decide) (by decide)]
    exact get_waken_wakeNSeen s true
  · exact wake_paddock (by decide) (hen.trans hf) (hgait.trans hg) htr hbt
  · rw [wake_of_disabled (hen.trans hf)]
    exact ⟨get_wakeNSeen_ne s true (by decide), rfl⟩

/-- WAKE_N high. -/
theorem wakeNHigh_clause (s : State) :
    ∃ t, exec (.wakeNLow false) s = .next t ∧ s.sameRest t ∧ t.sys.wakeLow = false ∧ t.get SYS_PWRSTAT.WAKEN = 1 ∧
      t.power = s.power ∧ t.get PWR_WAKESRC.SRC = s.get PWR_WAKESRC.SRC := by
  have hexec : exec (.wakeNLow false) s = .next (s.wakeNSeen false) := by
    show execWakeNLow false s = _
    unfold execWakeNLow
    dsimp only
    rw [if_neg (by simp)]
    rfl
  exact ⟨_, hexec, State.sameRest_of_rest (by simp [State.wakeNSeen]), rfl, get_waken_wakeNSeen s false, rfl,
    get_wakeNSeen_ne s false (by decide)⟩

/-! ### The crystal, and the statement -/

/-- The loss of the 32.768 kHz crystal is shown and nothing else (Table ARC-9). -/
theorem xtal32kLoss_clause {s : State} (hon : s.sys.on = true) (hrun : s.inReset = false) :
    ∃ t, exec .xtal32kLoss s = .next t ∧ s.sameRest t ∧ t.get SYS_CLKSTAT.XTAL32K_OK = 0 ∧
      t.get SYS_CLKFLT.XTAL32K_LOSS = 1 ∧
      ∀ f : Fld, f.key ≠ SYS_CLKSTAT.XTAL32K_OK.key → f.key ≠ SYS_CLKFLT.XTAL32K_LOSS.key → t.get f = s.get f := by
  have hexec : exec .xtal32kLoss s =
      .next ((s.put SYS_CLKSTAT.XTAL32K_OK false).put SYS_CLKFLT.XTAL32K_LOSS true) := by
    refine if_neg ?_
    simp [hon, hrun]
  exact ⟨_, hexec, State.sameRest_of_rest (by simp), (get_put_ne _ true (by decide)).trans (get_set_same s _ _),
    get_set_same _ _ _, fun f hok hloss => (get_put_ne _ true hloss).trans (get_put_ne s false hok)⟩

/-- Settles O35: on a running module the reference, the PLLs and the crystal each by the clause of its instruction;
then the seconds and WAKE_N. -/
theorem clocksSecondsAndWakes : Obligations.ClocksSecondsAndWakes := by
  unfold Obligations.ClocksSecondsAndWakes
  refine ⟨fun s ha => ?_, fun s hon hrun => ⟨rtcTick_awake_clause hon hrun, rtcTick_stable_clause hon,
    wakeNLow_clause hon hrun, wakeNHigh_clause s⟩⟩
  obtain ⟨⟨hon, hrun⟩, -⟩ : (s.sys.on = true ∧ s.inReset = false) ∧ s.gait ≠ Gait.stable := by
    simpa [State.alive] using ha
  have halive : ¬ s.alive = false := by simp [ha]
  refine ⟨?_, refLost_clause ha, fun hok hrc => ?_, fun _ => pllUnlock_clause ha, fun p hp => ?_,
    fun _ => pllLock_clause ha, fun p hp => if_pos (.inr hp), xtal32kLoss_clause hon hrun⟩
  · show execRefMonitorWindow true s = _
    unfold execRefMonitorWindow
    rw [if_neg halive, if_pos rfl]
  · show execRefMonitorWindow false s = _
    unfold execRefMonitorWindow
    rw [if_neg halive, if_neg (by decide), if_neg (by simp [hok, hrc])]
  · exact if_pos (.inr hp)

end Sys2Proof.Machine
end

section
/-! SUPPORT. A write of PWR_REQ (R58, R477): the row of Table PWR-2 that it asks for, the conditions of that row in
their order, and what a request leaves as it is. -/

namespace Sys2Proof.Machine
open Sys2Proof Sys2Proof.Reg

/-! ### The rows of Table PWR-2 that a request can ask for -/

/-- Gait, target and transition of the rows that a Rider may request. -/
def riderRows : List (Nat × Nat × Nat) :=
  [(2, 0, 2), (2, 1, 3), (2, 3, 8), (2, 6, 13), (3, 4, 9), (3, 2, 12), (3, 6, 13), (4, 5, 10), (4, 3, 12), (4, 2, 12),
    (4, 6, 13), (5, 4, 11), (5, 6, 13), (6, 3, 14), (6, 2, 15)]

/-- Gait, target and transition of the rows that the Groom may request. -/
def groomRows : List (Nat × Nat × Nat) := [(1, 2, 5), (2, 1, 6), (1, 0, 7)]

/-- Table PWR-2 has a row of number `n` for core `c`, the gait and the target; in Walk the Groom requests where the
Riders are powered down, and they where not. -/
def State.hasRow (s : State) (c : Core) (target n : Nat) : Prop :=
  (s.gait, target, n) ∈ (if c = .grm then groomRows else riderRows) ∧
    (s.gait = Gait.walk → (c = .grm ↔ s.groomWalk = true))

theorem gait_of_groomWalk {s : State} (h : s.groomWalk = true) : s.gait = Gait.walk := by
  unfold State.groomWalk at h
  simp only [Bool.and_eq_true, decide_eq_true_eq] at h
  exact h.1

theorem gaitRow_groom_iff (s : State) (target n : Nat) : s.gaitRow true target = some n ↔ s.hasRow .grm target n := by
  have hwalk : s.groomWalk = true → s.gait = Gait.walk := gait_of_groomWalk
  unfold State.gaitRow State.hasRow groomRows
  simp only [Gait.walk, Gait.paddock, Gait.stable] at hwalk ⊢
  simp only [List.mem_cons, List.not_mem_nil, or_false, Prod.mk.injEq, if_true, true_iff]
  grind

/-- A Rider's row: by the gait, from Walk to Lame. -/
theorem gaitRow_rider_iff (s : State) {c : Core} (hc : c ≠ .grm) (target n : Nat) :
    s.gaitRow false target = some n ↔ s.hasRow c target n := by
  have hgait : s.gait = 2 ∨ s.gait = 3 ∨ s.gait = 4 ∨ s.gait = 5 ∨ s.gait = 6 ∨ s.gait ∉ [2, 3, 4, 5, 6] := by
    simp only [List.mem_cons, List.not_mem_nil, or_false]
    omega
  unfold State.gaitRow State.hasRow riderRows
  simp only [Gait.walk, Gait.paddock, Gait.stable, Gait.trot, Gait.canter, Gait.gallop, Gait.lame]
  rcases hgait with h | h | h | h | h | h
  case inr.inr.inr.inr.inr =>
    simp only [List.mem_cons, List.not_mem_nil, or_false, not_or] at h
    simp [h, hc]
  all_goals
    simp [h, hc]
    grind

/-! ### The conditions of a row, in their order (log entry 28) -/

/-- The conditions that refuse transition `n` to `target`, each with its reason, in the order they are judged. -/
def State.gaitFails (s : State) (n target : Nat) : List (Prop × Nat) :=
  if n = 8 then [(s.mainOn = false ∧ (s.get CEL_STAT.OPEN2 ≠ 0 ∨ s.get CEL_STAT.STALE_ANY ≠ 0), 0xC),
      (s.get CRB_STAT.SCFG_OK = 0 ∨ s.curb = Curb.boot ∨ s.get PRT_STAT.VALID = 0 ∨
        s.get CHN_STAT.RING ∉ [2, 3, 4] ∨ s.get CEL_STAT.MAP_VALID = 0 ∨ s.get NVM_STAT.LEDGER_OK = 0, 0xA),
      (s.get CRB_STAT.GUARD ≠ Guard.proven, 3), (s.get HVM_PCHSTAT.STATE ≠ Pch.pass, 4), (s.tripActive = true, 0xC),
      (s.mainsClosed = false, 0xD)]
  else if n = 9 then [(s.tripActive = true, 0xC)]
  else if n = 10 then [(s.get THM_STAT.THROT_REQ ≠ 0, 5), (s.est.method ≠ 1, 0xB)]
  else if n = 12 ∧ target = 2 then [(s.contactorOn = true ∨ s.currentZero = false, 2)]
  else if n = 14 then [(s.power.lameCauses ≠ 0, 0xC), (s.mainsClosed = false, 0xD)]
  else if n = 15 then [(s.power.lameCauses ≠ 0, 0xC), (s.contactorOn = true, 2)]
  else if n = 2 ∨ n = 3 ∨ n = 7 then [(s.contactorOn = true, 2),
    (s.get TDM_STAT.CLAIM ≠ 0 ∨ s.get TDM_STAT.PEERCLAIM ≠ 0, 8), (s.nvmBusy = true, 9)]
  else []

/-- Judged conditions as propositions. -/
def asProps (l : List (Bool × Nat)) : List (Prop × Nat) := l.map fun e => (e.1 = true, e.2)

theorem firstReason_of_first {l : List (Bool × Nat)} {pre post : List (Prop × Nat)} {e : Prop × Nat}
    (h : asProps l = pre ++ e :: post) (he : e.1) (hpre : ∀ x ∈ pre, ¬ x.1) : firstReason l = e.2 := by
  obtain ⟨l₁, l₂, rfl, rfl, hl₂⟩ := List.map_eq_append_iff.mp h
  obtain ⟨a, l₃, rfl, rfl, -⟩ := List.map_eq_cons_iff.mp hl₂
  have hfind : (l₁ ++ a :: l₃).find? (fun x => x.1) = some a := by
    rw [List.find?_append, List.find?_eq_none.mpr fun x hx => hpre _ (List.mem_map_of_mem hx)]
    simp only [Option.none_or]
    exact List.find?_cons_of_pos he
  rw [firstReason, hfind]
  rfl

theorem firstReason_of_none {l : List (Bool × Nat)} (h : ∀ x ∈ asProps l, ¬ x.1) : firstReason l = 0 := by
  have hfind : l.find? (fun x => x.1) = none :=
    List.find?_eq_none.mpr fun x hx => h _ (List.mem_map_of_mem hx)
  rw [firstReason, hfind]
  rfl

/-- The reason of a row is the first reason of its conditions. -/
theorem gaitReason_conds (s : State) {n : Nat} (target : Nat)
    (hn : n ∈ [5, 6, 11, 13] ∨ n = 12 ∨ n ∈ [2, 3, 7, 8, 9, 10, 14, 15]) :
    ∃ l, s.gaitReason n target = firstReason l ∧ s.gaitFails n target = asProps l := by
  simp only [List.mem_cons, List.not_mem_nil, or_false] at hn
  rcases hn with hfree | rfl | hcond
  · refine ⟨[], ?_, ?_⟩ <;> rcases hfree with rfl | rfl | rfl | rfl <;> rfl
  · by_cases h : target = 2
    · exact ⟨_, if_pos h, by simp [State.gaitFails, asProps, h]⟩
    · exact ⟨[], if_neg h, by simp [State.gaitFails, asProps, h]⟩
  · rcases hcond with rfl | rfl | rfl | rfl | rfl | rfl | rfl | rfl
    all_goals exact ⟨_, rfl, by simp [State.gaitFails, asProps, State.flag, or_assoc]⟩

theorem row_cases {s : State} {c : Core} {target n : Nat} (h : s.hasRow c target n) :
    n ∈ [5, 6, 11, 13] ∨ n = 12 ∨ n ∈ [2, 3, 7, 8, 9, 10, 14, 15] := by
  have hrows : ∀ r ∈ groomRows ++ riderRows,
      r.2.2 ∈ [5, 6, 11, 13] ∨ r.2.2 = 12 ∨ r.2.2 ∈ [2, 3, 7, 8, 9, 10, 14, 15] := by decide
  refine hrows (s.gait, target, n) (List.mem_append.mpr ?_)
  have hmem := h.1
  split at hmem
  · exact .inl hmem
  · exact .inr hmem

theorem gaitReason_of_first {s : State} {c : Core} {target n : Nat} (h : s.hasRow c target n)
    {pre post : List (Prop × Nat)} {e : Prop × Nat} (hl : s.gaitFails n target = pre ++ e :: post) (he : e.1)
    (hpre : ∀ x ∈ pre, ¬ x.1) : s.gaitReason n target = e.2 := by
  obtain ⟨l, hreason, hfails⟩ := gaitReason_conds s target (row_cases h)
  rw [hreason]
  exact firstReason_of_first (hfails.symm.trans hl) he hpre

theorem gaitReason_of_none {s : State} {c : Core} {target n : Nat} (h : s.hasRow c target n)
    (hnone : ∀ x ∈ s.gaitFails n target, ¬ x.1) : s.gaitReason n target = 0 := by
  obtain ⟨l, hreason, hfails⟩ := gaitReason_conds s target (row_cases h)
  rw [hreason]
  exact firstReason_of_none (hfails ▸ hnone)

/-- No reason of Table PWR-2 is 0, nor beyond its field. -/
theorem fail_code {s : State} {n target : Nat} {e : Prop × Nat} (h : e ∈ s.gaitFails n target) :
    e.2 ≠ 0 ∧ e.2 < 16 := by
  unfold State.gaitFails at h
  grind

end Sys2Proof.Machine
end

section
/-! PROOF. Writes of PWR_REQ (R58, R60, R477): a request refused, and a request that begins its transition. -/

namespace Sys2Proof.Machine
open Sys2Proof Sys2Proof.Reg

/-! ### What the request's own field leaves as it is -/

/-- The request as PWR_REQ holds it. -/
def State.asked (s : State) (target : Nat) : State := s.set PWR_REQ.TARGET target

theorem get_asked_ne (s : State) (target : Nat) {q : Fld} (h : q.key ≠ PWR_REQ.TARGET.key) :
    (s.asked target).get q = s.get q := get_set_ne s target h

theorem get_asked (s : State) {target : Nat} (h : target < 8) : (s.asked target).get PWR_REQ.TARGET = target :=
  (get_set_same s _ _).trans (Nat.mod_eq_of_lt h)

theorem gaitRow_asked (s : State) (groom : Bool) (v target : Nat) :
    (s.asked v).gaitRow groom target = s.gaitRow groom target := by
  have hgait : (s.asked v).gait = s.gait := get_asked_ne s v (by decide)
  have hwalk : (s.asked v).groomWalk = s.groomWalk := by
    unfold State.groomWalk State.flag
    rw [hgait, get_asked_ne s v (by decide)]
  unfold State.gaitRow
  rw [hgait, hwalk]

theorem flag_asked_ne (s : State) (target : Nat) {q : Fld} (h : q.key ≠ PWR_REQ.TARGET.key) :
    (s.asked target).flag q = s.flag q := flag_set_ne s target h

theorem on_asked (s : State) (target k : Nat) : (s.asked target).on k = s.on k :=
  congrArg (bit · k) (get_asked_ne s target (q := FIO_DOSTAT.ON) (by decide))

theorem mainOn_asked (s : State) (target : Nat) : (s.asked target).mainOn = s.mainOn := by
  unfold State.mainOn
  rw [on_asked, on_asked]

theorem curb_asked (s : State) (target : Nat) : (s.asked target).curb = s.curb := get_asked_ne s target (by decide)

theorem curbInputs_asked (s : State) (target : Nat) : (s.asked target).curbInputs = s.curbInputs := by
  have hhb : (s.asked target).hbChecked = s.hbChecked := by
    unfold State.hbChecked
    rw [flag_asked_ne s target (by decide)]
    rfl
  unfold State.curbInputs
  rw [get_asked_ne s target (by decide), mainOn_asked, curb_asked, hhb]
  rfl

theorem tripActive_asked (s : State) (target : Nat) : (s.asked target).tripActive = s.tripActive := by
  unfold State.tripActive
  rw [curb_asked, curbInputs_asked, flag_asked_ne s target (by decide), flag_asked_ne s target (by decide)]

theorem gaitReason_asked (s : State) (v n target : Nat) : (s.asked v).gaitReason n target = s.gaitReason n target := by
  have hzero : (s.asked v).currentZero = s.currentZero := rfl
  have hbusy : (s.asked v).nvmBusy = s.nvmBusy := rfl
  have hpower : (s.asked v).power = s.power := rfl
  have hest : (s.asked v).est = s.est := rfl
  unfold State.gaitReason State.contactorOn State.mainsClosed
  simp (disch := decide) only [get_asked_ne, flag_asked_ne, on_asked, mainOn_asked, curb_asked, tripActive_asked, hzero,
    hbusy, hpower, hest]

theorem isStandby_asked (s : State) (target : Nat) : (s.asked target).isStandby = s.isStandby := by
  unfold State.isStandby State.tandem
  rw [flag_asked_ne s target (by decide), get_asked_ne s target (by decide)]

/-! ### Refused, or begun -/

/-- A refused request: what it shows, and what it leaves (R58, R61). -/
theorem refuseGait_asked_shows (s : State) {target k : Nat} (ht : target < 8) (hk : k < 16) :
    let t := (s.asked target).refuseGait k
    s.sameRest t ∧ t.get PWR_REQ.TARGET = target ∧ t.get PWR_REQSTAT.RESULT = 3 ∧ t.get PWR_REQSTAT.REASON = k ∧
      s.asserts t 7 ∧ t.gait = s.gait ∧ t.power = s.power := by
  intro t
  have hraise : ∀ {q : Fld}, ¬ evtKey q.key →
      t.get q = (((s.asked target).set PWR_REQSTAT.RESULT 3).set PWR_REQSTAT.REASON k).get q := fun hq =>
    (keeps_raise (P := fun k => ¬ evtKey k) (fun _ h => h) _ (by decide)).get_eq _ hq
  have hcfg : ∀ q : Fld, cfgKey 7 q.key →
      (((s.asked target).set PWR_REQSTAT.RESULT 3).set PWR_REQSTAT.REASON k).get q = s.get q := by
    intro q hq
    have hne : ∀ f ∈ [PWR_REQ.TARGET, PWR_REQSTAT.RESULT, PWR_REQSTAT.REASON], q.key ≠ f.key := by
      intro f hf
      rcases hq with e | e | e <;> rw [e] <;> revert f <;> decide
    rw [get_set_ne _ _ (hne _ (by decide)), get_set_ne _ _ (hne _ (by decide)), get_asked_ne _ _ (hne _ (by decide))]
  refine ⟨State.sameRest_of_rest (by simp [t, State.asked]), ?_, ?_, ?_, asserts_of_cfg_eq hcfg (asserts_raise _ 7), ?_,
    refuseGait_power _ k⟩
  · rw [hraise (by decide), get_set_ne _ _ (by decide), get_set_ne _ _ (by decide), get_asked s ht]
  · rw [hraise (by decide), get_set_ne _ _ (by decide), get_set_same]
    rfl
  · rw [hraise (by decide), get_set_same]
    exact Nat.mod_eq_of_lt hk
  · refine (hraise (by decide)).trans ?_
    rw [get_set_ne _ _ (by decide), get_set_ne _ _ (by decide), get_asked_ne _ _ (by decide)]
    rfl

/-- Keys of the PWR block. -/
abbrev pwrKey (k : Nat) : Prop := 0x60010000 * 32 ≤ k ∧ k < 0x60020000 * 32

/-- The outputs take their drive in the FIO and CRB blocks. -/
theorem keeps_pwr_redrive (s : State) : s.keeps pwrKey s.redrive := by
  unfold State.redrive
  refine .mapCrb (.mapFio (.iteStep (.set (.iteStep (.refl _ s) ?_) _ (by decide) (by decide)) ?_) _) _
  · exact (State.keeps.refl _ s).put _ (by decide) (by decide)
  · exact (State.keeps.refl _ _).set _ (by decide) (by decide)

theorem redrive_power (s : State) : s.redrive.power = s.power := by
  unfold State.redrive
  dsimp only [State.mapCrb, State.mapFio]
  split <;> split <;> rfl

/-- Transition `n` to `target` begun on a request of PWR_REQ. -/
def State.gaitBegun (s : State) (target n cause : Nat) : State :=
  ((((s.asked target).set PWR_REQSTAT.RESULT 1).set PWR_REQSTAT.REASON 0).beginTrans n target cause true).redrive

/-- A request that begins its transition: what it shows (R58, R60). -/
theorem gaitBegun_shows (s : State) {target : Nat} (ht : target < 8) (n cause : Nat) :
    let t := s.gaitBegun target n cause
    s.sameRest t ∧ t.get PWR_REQ.TARGET = target ∧ t.get PWR_REQSTAT.RESULT = 1 ∧ t.get PWR_REQSTAT.REASON = 0 ∧
      t.get PWR_GAIT.BUSY = 1 ∧ t.gait = s.gait ∧ t.power.trans = some ⟨n, target, cause, true⟩ := by
  intro t
  have hget : ∀ {q : Fld}, pwrKey q.key →
      t.get q = ((((s.asked target).set PWR_REQSTAT.RESULT 1).set PWR_REQSTAT.REASON 0).put PWR_GAIT.BUSY true).get q :=
    fun hq => (keeps_pwr_redrive _).get_eq _ hq
  refine ⟨State.sameRest_of_rest (by simp [t, State.gaitBegun, State.asked]), ?_, ?_, ?_, ?_, ?_, ?_⟩
  · rw [hget (by decide), get_put_ne _ _ (by decide), get_set_ne _ _ (by decide), get_set_ne _ _ (by decide),
      get_asked s ht]
  · rw [hget (by decide), get_put_ne _ _ (by decide), get_set_ne _ _ (by decide), get_set_same]
    rfl
  · rw [hget (by decide), get_put_ne _ _ (by decide), get_set_same]
    rfl
  · rw [hget (by decide)]
    exact get_set_same _ _ _
  · refine (hget (by decide)).trans ?_
    rw [get_put_ne _ _ (by decide), get_set_ne _ _ (by decide), get_set_ne _ _ (by decide),
      get_asked_ne _ _ (by decide)]
    rfl
  · exact congrArg PowerSt.trans (redrive_power _)

/-! ### The request -/

section
variable {s : State} {c : Core} {target : Nat}

theorem gaitRequest_busy (hst : s.isStandby = false) (hbusy : s.get PWR_GAIT.BUSY ≠ 0) :
    s.gaitRequest c target = (s.asked target).refuseGait 1 := by
  have hst' : (s.asked target).isStandby = false := (isStandby_asked s target).trans hst
  have hflag : (s.asked target).flag PWR_GAIT.BUSY = true :=
    (flag_asked_ne s target (by decide)).trans (decide_eq_true hbusy)
  exact (if_neg (ne_true_of_eq_false hst')).trans (if_pos hflag)

/-- Outside a transition a request goes by the row that it asks for. -/
theorem gaitRequest_idle (hst : s.isStandby = false) (hbusy : s.get PWR_GAIT.BUSY = 0) {row : Option Nat}
    (hrow : s.gaitRow (decide (c = .grm)) target = row) :
    s.gaitRequest c target = row.elim ((s.asked target).refuseGait 7) fun n =>
      if s.gaitReason n target ≠ 0 then (s.asked target).refuseGait (s.gaitReason n target)
      else s.gaitBegun target n (if c = .grm then 2 else 0) := by
  have hst' : ¬ (s.set PWR_REQ.TARGET target).isStandby = true := ne_true_of_eq_false ((isStandby_asked s target).trans hst)
  have hflag : ¬ (s.set PWR_REQ.TARGET target).flag PWR_GAIT.BUSY = true := by
    rw [flag_set_ne _ _ (by decide)]
    simp [State.flag, hbusy]
  have hrow' : (s.set PWR_REQ.TARGET target).gaitRow (decide (c = .grm)) target = row :=
    (gaitRow_asked s _ _ _).trans hrow
  have hreason : ∀ n, (s.set PWR_REQ.TARGET target).gaitReason n target = s.gaitReason n target :=
    fun n => gaitReason_asked s _ _ _
  unfold State.gaitRequest
  dsimp only
  rw [if_neg hst', if_neg hflag, hrow']
  cases row with
  | none => rfl
  | some n =>
    dsimp only [Option.elim]
    rw [hreason]
    simp only [decide_eq_true_eq]
    rfl

end

/-! ### The clauses -/

/-- The commands that write PWR_REQ, each with its target (R58). -/
def requestRows : List ((Core → Instr) × Nat) :=
  [(.pwrReqStable, 0), (.pwrReqPaddock, 1), (.pwrReqWalk, 2), (.pwrReqTrot, 3), (.pwrReqCanter, 4), (.pwrReqGallop, 5),
    (.pwrReqLame, 6)]

theorem requestRows_target {row : (Core → Instr) × Nat} (h : row ∈ requestRows) : row.2 ≤ 6 := by
  simp only [requestRows, List.mem_cons, List.not_mem_nil, or_false] at h
  rcases h with rfl | rfl | rfl | rfl | rfl | rfl | rfl <;> decide

theorem exec_requestRow {row : (Core → Instr) × Nat} (h : row ∈ requestRows) (c : Core) (s : State) :
    exec (row.1 c) s = s.poke c PWR_REQ.TARGET.addr row.2 := by
  simp only [requestRows, List.mem_cons, List.not_mem_nil, or_false] at h
  rcases h with rfl | rfl | rfl | rfl | rfl | rfl | rfl <;> rfl

/-- A served write of a legal target to PWR_REQ is a request. -/
theorem poke_pwrReq {s : State} {c : Core} {target : Nat} (h : s.storesReg c PWR_REQ.TARGET.addr) (ht : target ≤ 6) :
    ∃ g, s.poke c PWR_REQ.TARGET.addr target = .next ((s.mapTdm g).gaitRequest c target) := by
  obtain ⟨g, hg⟩ := noteWrite_eq s c PWR_REQ.TARGET.addr
  have hbits : bits target 0 3 = target := by
    rw [bits, pow_zero, Nat.div_one]
    exact Nat.mod_eq_of_lt (by omega)
  have hlegal : PWR_REQ.TARGET.legal.ok target = true := decide_eq_true ⟨Nat.zero_le _, ht⟩
  refine ⟨g, ?_⟩
  rw [poke_served h, hg, regStore_of_act1 (t := (s.mapTdm g).gaitRequest c target) (by decide) (.inl (by decide))]
  unfold State.storeAct1
  rw [if_neg (by decide), if_neg (by decide), if_neg (by decide), if_neg (by decide), if_pos rfl, hbits, if_pos hlegal]

section
variable {row : (Core → Instr) × Nat} {c : Core} {s : State}

/-- A write of PWR_REQ is refused with reason `k`, and starts nothing. -/
def State.refuses (s : State) (row : (Core → Instr) × Nat) (c : Core) (k : Nat) : Prop :=
  ∃ t, exec (row.1 c) s = .next t ∧ s.sameRest t ∧ t.get PWR_REQ.TARGET = row.2 ∧ t.get PWR_REQSTAT.RESULT = 3 ∧
    t.get PWR_REQSTAT.REASON = k ∧ s.asserts t 7 ∧ t.gait = s.gait ∧ t.power = s.power

theorem refuses_of_request (hrow : row ∈ requestRows) (h : s.storesReg c PWR_REQ.TARGET.addr) {k : Nat} (hk : k < 16)
    (hreq : ∀ g, (s.mapTdm g).gaitRequest c row.2 = ((s.mapTdm g).asked row.2).refuseGait k) : s.refuses row c k := by
  have ht := requestRows_target hrow
  obtain ⟨g, hg⟩ := poke_pwrReq h ht
  obtain ⟨hrest, hshows⟩ := refuseGait_asked_shows (s.mapTdm g) (by omega : row.2 < 8) hk
  refine ⟨_, (exec_requestRow hrow c s).trans (hg.trans (congrArg _ (hreq g))), hrest, hshows⟩

/-- The write begins transition `n`. -/
theorem begins_of_request (hrow : row ∈ requestRows) (h : s.storesReg c PWR_REQ.TARGET.addr) {n cause : Nat}
    (hreq : ∀ g, (s.mapTdm g).gaitRequest c row.2 = (s.mapTdm g).gaitBegun row.2 n cause) :
    ∃ t, exec (row.1 c) s = .next t ∧ s.sameRest t ∧ t.get PWR_REQ.TARGET = row.2 ∧ t.get PWR_REQSTAT.RESULT = 1 ∧
      t.get PWR_REQSTAT.REASON = 0 ∧ t.get PWR_GAIT.BUSY = 1 ∧ t.gait = s.gait ∧
      t.power.trans = some ⟨n, row.2, cause, true⟩ := by
  have ht := requestRows_target hrow
  obtain ⟨g, hg⟩ := poke_pwrReq h ht
  obtain ⟨hrest, hshows⟩ := gaitBegun_shows (s.mapTdm g) (by omega : row.2 < 8) n cause
  exact ⟨_, (exec_requestRow hrow c s).trans (hg.trans (congrArg _ (hreq g))), hrest, hshows⟩

theorem gaitRow_iff (s : State) (c : Core) (target n : Nat) :
    s.gaitRow (decide (c = .grm)) target = some n ↔ s.hasRow c target n := by
  by_cases hc : c = .grm
  · subst hc
    exact gaitRow_groom_iff s target n
  · rw [decide_eq_false hc]
    exact gaitRow_rider_iff s hc target n

/-- A write of PWR_REQ outside a transition (R58, R477). -/
theorem request_clause (hrow : row ∈ requestRows) (h : s.storesReg c PWR_REQ.TARGET.addr) (hst : s.isStandby = false)
    (hbusy : s.get PWR_GAIT.BUSY = 0) :
    ((∀ n, ¬ s.hasRow c row.2 n) → s.refuses row c 7) ∧
      ∀ n, s.hasRow c row.2 n →
        (∀ e pre post, s.gaitFails n row.2 = pre ++ e :: post → e.1 → (∀ x ∈ pre, ¬ x.1) → s.refuses row c e.2) ∧
        ((∀ e ∈ s.gaitFails n row.2, ¬ e.1) → ∃ t, exec (row.1 c) s = .next t ∧ s.sameRest t ∧
          t.get PWR_REQ.TARGET = row.2 ∧ t.get PWR_REQSTAT.RESULT = 1 ∧ t.get PWR_REQSTAT.REASON = 0 ∧
          t.get PWR_GAIT.BUSY = 1 ∧ t.gait = s.gait ∧
          t.power.trans = some ⟨n, row.2, if c = .grm then 2 else 0, true⟩) := by
  have hidle : ∀ {r}, s.gaitRow (decide (c = .grm)) row.2 = r → ∀ g, (s.mapTdm g).gaitRequest c row.2 = _ :=
    fun hr g => gaitRequest_idle (s := s.mapTdm g) hst hbusy hr
  refine ⟨fun hnone => refuses_of_request hrow h (by decide) (hidle (r := none) ?_), fun n hn => ?_⟩
  · cases hr : s.gaitRow (decide (c = .grm)) row.2 with
    | none => rfl
    | some n => exact absurd ((gaitRow_iff s c _ n).mp hr) (hnone n)
  · have hr := (gaitRow_iff s c row.2 n).mpr hn
    refine ⟨fun e pre post hl he hpre => ?_, fun hnone => ?_⟩
    · obtain ⟨hne, hlt⟩ := fail_code (hl ▸ List.mem_append_right _ List.mem_cons_self : e ∈ s.gaitFails n row.2)
      have hreason : s.gaitReason n row.2 = e.2 := gaitReason_of_first hn hl he hpre
      refine refuses_of_request hrow h hlt fun g => (hidle hr g).trans ?_
      refine (if_pos (?_ : s.gaitReason n row.2 ≠ 0)).trans (congrArg _ hreason)
      rwa [hreason]
    · have hreason : s.gaitReason n row.2 = 0 := gaitReason_of_none hn hnone
      exact begins_of_request hrow h fun g => (hidle hr g).trans (if_neg (not_not_intro hreason))

end

end Sys2Proof.Machine
end

section
/-! PROOF. The ends of T8 to T12 (R60, R61), and the gait requests of the statement assembled. -/

namespace Sys2Proof.Machine
open Sys2Proof Sys2Proof.Reg

/-! ### What the end tells and what follows it -/

/-- The gait registers and the curb state. -/
abbrev rideKey (k : Nat) : Prop := pwrKey k ∨ k = CRB_STAT.STATE.key

theorem not_evtKey_of_rideKey (k : Nat) (h : rideKey k) : ¬ evtKey k := by
  rcases h with h | rfl
  · unfold pwrKey at h
    unfold evtKey
    omega
  · decide

theorem keeps_note {P : Nat → Prop} (s : State) (g : Bundle → Bundle) : s.keeps P (s.note g) :=
  .when (.refl P s) _ ((State.keeps.refl P s).of_eq rfl rfl rfl)

theorem keeps_herdClk {P : Nat → Prop} (hclk : ¬ P HRD_STAT.CLK.key) (hhalved : ¬ P HRD_STAT.HALVED.key) (s : State) :
    s.keeps P s.herdClk := by
  unfold State.herdClk
  exact .ite (fun _ => ((State.keeps.refl P s).set _ hclk (by decide)).put _ hhalved (by decide)) fun _ =>
    ((State.keeps.refl P s).set _ hclk (by decide)).put _ hhalved (by decide)

theorem note_power (s : State) (g : Bundle → Bundle) : (s.note g).power = s.power := by
  unfold State.note State.when
  split <;> rfl

theorem herdClk_power (s : State) : s.herdClk.power = s.power := by
  unfold State.herdClk
  split <;> rfl

/-- The end of the transition is announced, and the Herd's clock follows. -/
def State.rideTold (s : State) (n g cause : Nat) : State :=
  ((s.note fun b => { b with gait := b.gait ++ [(n, g, cause)] }).raise 3).herdClk

theorem keeps_rideTold (s : State) (n g cause : Nat) : s.keeps rideKey (s.rideTold n g cause) :=
  ((keeps_note s _).raise not_evtKey_of_rideKey (by decide)).trans (keeps_herdClk (by decide) (by decide) _)

theorem rideTold_power (s : State) (n g cause : Nat) : (s.rideTold n g cause).power = s.power := by
  unfold State.rideTold
  rw [herdClk_power, raise_power, note_power]

/-- Nothing follows the end of one of T8 to T12 in a gait from Walk to Gallop without a stop or a Lame cause. -/
theorem transNext_ride {s : State} {n : Nat} (h8 : 8 ≤ n) (h12 : n ≤ 12) (hgait : 2 ≤ s.gait ∧ s.gait ≤ 5)
    (hcurb : s.curb ≠ Curb.halt) (hlame : s.power.lameCauses = 0) (latched : Bool) :
    s.transNext n latched = s.mapPower fun x => { x with wakeLatched := 0, removing := false } := by
  obtain ⟨h2, h5⟩ := hgait
  have hne : ∀ k, k < 8 → decide (n = k) = false := fun k hk => decide_eq_false (by omega)
  unfold State.transNext
  dsimp only
  rw [hne 3 (by decide), hne 6 (by decide), hne 5 (by decide), hne 2 (by decide), hne 7 (by decide)]
  rw [if_neg (by simp), if_neg (by simp), if_neg (by simp), if_neg (fun h => hcurb h.2.2), if_neg, if_neg]
  · exact not_not_intro hlame
  · rintro ⟨hhalt, -⟩
    have : s.gait = 7 := hhalt
    omega

theorem transAct_ride (s : State) {n : Nat} (h8 : 8 ≤ n) (h12 : n ≤ 12) (old : Nat) : s.transAct n old = s.herdClk := by
  unfold State.transAct
  rw [if_neg (by omega), if_neg (by omega), if_neg (by omega), if_neg (by omega), if_neg (by omega), if_neg (by omega),
    if_neg (by omega)]

theorem wakeStable_of_noTrans {s : State} (h : s.power.trans = none) : s.wakeStable = s := by
  unfold State.wakeStable State.when
  rw [h]
  exact if_neg Bool.false_ne_true

/-! ### What the end shows -/

/-- The gait registers at the end of a transition to `g`. -/
def State.gaitShown (s : State) (g cause : Nat) : State :=
  ((((s.put PWR_GAIT.BUSY false).mapPower fun x => { x with trans := none }).set PWR_GAIT.PREV s.gait).set PWR_GAIT.GAIT
    g).set PWR_GAIT.CAUSE cause

/-- The same with the result of a request. -/
def State.resultShown (s : State) (g cause : Nat) (req : Bool) : State :=
  (s.gaitShown g cause).when req fun s => (s.set PWR_REQSTAT.RESULT 2).set PWR_REQSTAT.REASON 0

theorem get_resultShown_of_ne (s : State) (g cause : Nat) (req : Bool) {q : Fld}
    (h : ∀ f ∈ [PWR_REQSTAT.RESULT, PWR_REQSTAT.REASON], q.key ≠ f.key) :
    (s.resultShown g cause req).get q = (s.gaitShown g cause).get q := by
  unfold State.resultShown State.when
  split
  · rw [get_set_ne _ _ (h _ (by decide)), get_set_ne _ _ (h _ (by decide))]
  · rfl

theorem get_gaitShown_ne (s : State) (g cause : Nat) {q : Fld}
    (h : ∀ f ∈ [PWR_GAIT.BUSY, PWR_GAIT.PREV, PWR_GAIT.GAIT, PWR_GAIT.CAUSE], q.key ≠ f.key) :
    (s.gaitShown g cause).get q = s.get q := by
  unfold State.gaitShown
  rw [get_set_ne _ _ (h _ (by decide)), get_set_ne _ _ (h _ (by decide)), get_set_ne _ _ (h _ (by decide)),
    get_mapPower, get_put_ne _ _ (h _ (by decide))]

theorem get_resultShown_of_notPwr (s : State) (g cause : Nat) (req : Bool) {q : Fld} (h : ¬ pwrKey q.key) :
    (s.resultShown g cause req).get q = s.get q := by
  have hresult : ∀ f ∈ [PWR_REQSTAT.RESULT, PWR_REQSTAT.REASON], pwrKey f.key := by decide
  have hgait : ∀ f ∈ [PWR_GAIT.BUSY, PWR_GAIT.PREV, PWR_GAIT.GAIT, PWR_GAIT.CAUSE], pwrKey f.key := by decide
  exact (get_resultShown_of_ne s g cause req fun f hf e => h (e ▸ hresult f hf)).trans
    (get_gaitShown_ne s g cause fun f hf e => h (e ▸ hgait f hf))

theorem gait_gaitShown (s : State) {g : Nat} (hg : g < 8) (cause : Nat) : (s.gaitShown g cause).gait = g := by
  unfold State.gaitShown State.gait
  rw [get_set_ne _ _ (by decide), get_set_same]
  exact Nat.mod_eq_of_lt hg

theorem resultShown_power (s : State) (g cause : Nat) (req : Bool) :
    (s.resultShown g cause req).power = { s.power with trans := none } := by
  unfold State.resultShown State.when
  split <;> rfl

/-- The end of one of T8 to T12. -/
def State.rideEnd (s : State) (n g cause : Nat) (req : Bool) : State :=
  ((s.resultShown g cause req).rideTold n g cause).mapPower fun x => { x with wakeLatched := 0, removing := false }

theorem transEnd_ride {s : State} {n g cause : Nat} {req : Bool} (ht : s.power.trans = some ⟨n, g, cause, req⟩)
    (h8 : 8 ≤ n) (h12 : n ≤ 12) (hg : 2 ≤ g ∧ g ≤ 5) (hcurb : s.curb ≠ Curb.halt) (hlame : s.power.lameCauses = 0) :
    s.transEnd = s.rideEnd n g cause req := by
  have hold : ((s.put PWR_GAIT.BUSY false).mapPower fun x => { x with trans := none }).gait = s.gait :=
    get_put_ne (f := PWR_GAIT.BUSY) s false (by decide)
  have hkeep := keeps_rideTold (s.resultShown g cause req) n g cause
  have hgait : ((s.resultShown g cause req).rideTold n g cause).gait = g := by
    refine (hkeep.get_eq PWR_GAIT.GAIT (by decide)).trans ?_
    rw [get_resultShown_of_ne _ _ _ _ (by decide)]
    exact gait_gaitShown s (by omega) cause
  have hstate : ((s.resultShown g cause req).rideTold n g cause).curb = s.curb :=
    (hkeep.get_eq CRB_STAT.STATE (by decide)).trans (get_resultShown_of_notPwr s _ _ _ (by decide))
  have hpower : ((s.resultShown g cause req).rideTold n g cause).power = { s.power with trans := none } := by
    rw [rideTold_power, resultShown_power]
  have hnext := transNext_ride (s := (s.resultShown g cause req).rideTold n g cause) h8 h12 (by rwa [hgait])
    (by rwa [hstate]) (by rw [hpower]; exact hlame) (decide (s.power.wakeLatched ≠ 0))
  have hraise : (!(decide (n = 2 ∨ n = 7))) = true := by simp; omega
  unfold State.transEnd
  rw [ht]
  dsimp only
  rw [if_neg (by omega), if_neg (by unfold ridersUp; omega), transAct_ride _ h8 h12, hold, State.when, hraise, if_pos rfl]
  refine (congrArg State.wakeStable hnext).trans (wakeStable_of_noTrans ?_)
  exact congrArg PowerSt.trans hpower

/-- The Herd's clock is that of the gait while the throttle is not enforced (R66). -/
theorem get_clk_herdClk {s : State} (hpow : s.flag HRD_STAT.POWERED = true) (henf : s.get THM_STAT.ENFORCED = 0) :
    s.herdClk.get HRD_STAT.CLK = herdClkOf s.gait % 8 := by
  have hhalved : s.flag THM_STAT.ENFORCED = false := by simp [State.flag, henf]
  unfold State.herdClk
  rw [if_pos hpow, hhalved, get_put_ne _ _ (by decide)]
  exact get_set_same _ _ _

section
variable {s : State} {n g cause : Nat} {req : Bool}

theorem get_rideEnd_pwr {q : Fld} (hq : pwrKey q.key) :
    (s.rideEnd n g cause req).get q = (s.resultShown g cause req).get q :=
  (keeps_rideTold (s.resultShown g cause req) n g cause).get_eq q (.inl hq)

/-- What the gait registers show at the end of one of T8 to T12. -/
theorem rideEnd_shows (hg : g < 8) (hcause : cause < 16) (hold : s.gait < 8) :
    let t := s.rideEnd n g cause req
    t.gait = g ∧ t.get PWR_GAIT.PREV = s.gait ∧ t.get PWR_GAIT.CAUSE = cause ∧ t.get PWR_GAIT.BUSY = 0 := by
  intro t
  have hshown : ∀ {q : Fld}, pwrKey q.key → (∀ f ∈ [PWR_REQSTAT.RESULT, PWR_REQSTAT.REASON], q.key ≠ f.key) →
      t.get q = (s.gaitShown g cause).get q := fun hq hne =>
    (get_rideEnd_pwr hq).trans (get_resultShown_of_ne s g cause req hne)
  refine ⟨(hshown (q := PWR_GAIT.GAIT) (by decide) (by decide)).trans (gait_gaitShown s hg cause), ?_, ?_, ?_⟩
  · rw [hshown (by decide) (by decide), State.gaitShown, get_set_ne _ _ (by decide), get_set_ne _ _ (by decide),
      get_set_same]
    exact Nat.mod_eq_of_lt hold
  · rw [hshown (by decide) (by decide), State.gaitShown, get_set_same]
    exact Nat.mod_eq_of_lt hcause
  · rw [hshown (by decide) (by decide), State.gaitShown, get_set_ne _ _ (by decide), get_set_ne _ _ (by decide),
      get_set_ne _ _ (by decide), get_mapPower]
    exact get_set_same _ _ _

theorem rideEnd_result :
    (s.rideEnd n g cause true).get PWR_REQSTAT.RESULT = 2 ∧ (s.rideEnd n g cause true).get PWR_REQSTAT.REASON = 0 := by
  have hres : s.resultShown g cause true = ((s.gaitShown g cause).set PWR_REQSTAT.RESULT 2).set PWR_REQSTAT.REASON 0 :=
    rfl
  rw [get_rideEnd_pwr (by decide), get_rideEnd_pwr (by decide), hres]
  exact ⟨(get_set_ne _ _ (by decide)).trans (get_set_same _ _ _), get_set_same _ _ _⟩

/-- The end of one of T8 to T12 as it is told, before the Herd's clock follows. -/
theorem get_told_ne {q : Fld} (hpwr : ¬ pwrKey q.key) (hevt : ¬ evtKey q.key) :
    (((s.resultShown g cause req).note fun b => { b with gait := b.gait ++ [(n, g, cause)] }).raise 3).get q = s.get q :=
  (((keeps_note (P := fun k => ¬ evtKey k) _ _).raise (fun _ h => h) (by decide)).get_eq q hevt).trans
    (get_resultShown_of_notPwr s g cause req hpwr)

theorem asserts_rideEnd : s.asserts (s.rideEnd n g cause req) 3 := by
  have hnot : ∀ k, cfgKey 3 k → ¬ pwrKey k := by
    rintro k (rfl | rfl | rfl) <;> decide
  have htold : s.asserts
      (((s.resultShown g cause req).note fun b => { b with gait := b.gait ++ [(n, g, cause)] }).raise 3) 3 :=
    asserts_of_cfg_eq (fun q hq => ((keeps_note (P := fun _ => True) _ _).get_eq q trivial).trans
      (get_resultShown_of_notPwr s g cause req (hnot _ hq))) (asserts_raise _ 3)
  exact asserts_of_keeps (by decide) htold ((keeps_herdClk (P := pwrKey) (by decide) (by decide) _).of_eq rfl rfl rfl)

theorem get_clk_rideEnd (hg : 2 ≤ g ∧ g ≤ 5) (hpow : s.flag HRD_STAT.POWERED = true) (henf : s.get THM_STAT.ENFORCED = 0) :
    (s.rideEnd n g cause req).get HRD_STAT.CLK = if g = 4 then 3 else if g = 5 then 4 else 2 := by
  have hgait : (((s.resultShown g cause req).note fun b => { b with gait := b.gait ++ [(n, g, cause)] }).raise 3).gait =
      g := by
    refine (((keeps_note (P := rideKey) _ _).raise not_evtKey_of_rideKey (by decide)).get_eq PWR_GAIT.GAIT
      (by decide)).trans ?_
    rw [get_resultShown_of_ne _ _ _ _ (by decide)]
    exact gait_gaitShown s (by omega) cause
  refine (get_clk_herdClk ?_ ((get_told_ne (by decide) (by decide)).trans henf)).trans ?_
  · unfold State.flag at hpow ⊢
    rwa [get_told_ne (by decide) (by decide)]
  · rw [hgait]
    obtain ⟨h2, h5⟩ := hg
    interval_cases g <;> rfl

end

/-- The clause about the end of T8 to T12. -/
theorem transEnd_clause {s : State} {n g cause : Nat} {req : Bool} (hon : s.sys.on = true) (hrun : s.inReset = false)
    (ht : s.power.trans = some ⟨n, g, cause, req⟩) (h8 : 8 ≤ n) (h12 : n ≤ 12) (h2 : 2 ≤ g) (h5 : g ≤ 5)
    (hcause : cause < 16) (hold : s.gait < 8) (hcurb : s.curb ≠ Curb.halt) (hlame : s.power.lameCauses = 0) :
    ∃ t, exec .gaitTransitionComplete s = .next t ∧ s.sameRest t ∧ t.gait = g ∧ t.get PWR_GAIT.PREV = s.gait ∧
      t.get PWR_GAIT.CAUSE = cause ∧ t.get PWR_GAIT.BUSY = 0 ∧ t.power.trans = none ∧ s.asserts t 3 ∧
      (req = true → t.get PWR_REQSTAT.RESULT = 2 ∧ t.get PWR_REQSTAT.REASON = 0) ∧
      (s.flag HRD_STAT.POWERED = true → s.get THM_STAT.ENFORCED = 0 →
        t.get HRD_STAT.CLK = if g = 4 then 3 else if g = 5 then 4 else 2) := by
  have hexec : exec .gaitTransitionComplete s = .next (s.rideEnd n g cause req) := by
    rw [← transEnd_ride ht h8 h12 ⟨h2, h5⟩ hcurb hlame]
    exact if_neg (by simp [hon, hrun])
  obtain ⟨hgait, hprev, hcauses, hbusy⟩ := rideEnd_shows (n := n) (req := req) (by omega : g < 8) hcause hold
  refine ⟨_, hexec, State.sameRest_of_rest ?_, hgait, hprev, hcauses, hbusy, ?_, asserts_rideEnd, ?_,
    get_clk_rideEnd ⟨h2, h5⟩⟩
  · simp [State.rideEnd, State.rideTold, State.resultShown, State.gaitShown]
  · show ((s.resultShown g cause req).rideTold n g cause).power.trans = none
    rw [rideTold_power, resultShown_power]
  · rintro rfl
    exact rideEnd_result

/-- Settles O36: a served write of PWR_REQ is a request, which goes by the row of Table PWR-2 and its first failing
condition; the end of T8 to T12 shows the gait and does nothing further. -/
theorem gaitRequestsFollowTheTable : Obligations.GaitRequestsFollowTheTable := by
  refine ⟨fun row hrow c s h hst => ⟨fun hbusy => ?_, request_clause hrow h hst⟩,
    fun n g cause req s hon hrun ht h8 h12 h2 h5 hcause hold hcurb hlame =>
      transEnd_clause hon hrun ht h8 h12 h2 h5 hcause hold hcurb hlame⟩
  exact refuses_of_request hrow h (by decide) fun g => gaitRequest_busy (s := s.mapTdm g) hst hbusy

end Sys2Proof.Machine
end

section
/-! SUPPORT. What the module's own records, its stops and its boot leave as it is: the heat registers, whether the HV
section runs, the reset causes, the alive code, and that the module boots. -/

namespace Sys2Proof.Machine
open Sys2Proof Sys2Proof.Reg

/-- Keys of SYS_RSTCAUSE, of READY, LINK_OK and SUPPLY_OK of HVM_STAT, and of the THM block. -/
abbrev apartKey (k : Nat) : Prop :=
  (0x60000100 * 32 ≤ k ∧ k < 0x60000110 * 32) ∨ (0x60040008 * 32 ≤ k ∧ k < 0x60040008 * 32 + 3) ∨
    (0x60140000 * 32 ≤ k ∧ k < 0x60150000 * 32)

/-- From `s` to `t` the fields whose keys are apart stand, the alive code is supervised as before, the module boots and
is held as before, and, where `cores`, the scalar cores are the same. -/
structure State.spares (cores : Bool) (s t : State) : Prop where
  get_eq : ∀ q : Fld, apartKey q.key → t.get q = s.get q
  alive : t.crb.alive = s.crb.alive
  booting : t.sys.booting = s.sys.booting
  held : t.sys.held = s.sys.held
  same : cores = true → s.sameCores t

namespace State.spares
variable {b : Bool} {s t u : State}

theorem refl (b : Bool) (s : State) : s.spares b s := ⟨fun _ _ => rfl, rfl, rfl, rfl, fun _ => ⟨rfl, rfl, rfl⟩⟩

theorem trans (h : s.spares b t) (k : t.spares b u) : s.spares b u :=
  ⟨fun q hq => (k.get_eq q hq).trans (h.get_eq q hq), k.alive.trans h.alive, k.booting.trans h.booting,
    k.held.trans h.held, fun hb => by
      obtain ⟨h0, h1, hg⟩ := h.same hb
      obtain ⟨k0, k1, kg⟩ := k.same hb
      exact ⟨k0.trans h0, k1.trans h1, kg.trans hg⟩⟩

/-- An update of other parts than the registers, the curb logic's record, the power and reset record and the cores. -/
theorem of_eq (h : s.spares b t) (hr : u.regs = t.regs) (hc : u.crb.alive = t.crb.alive)
    (hs : (u.sys.booting, u.sys.held) = (t.sys.booting, t.sys.held)) (hcore : t.sameCores u) : s.spares b u :=
  h.trans ⟨fun q _ => get_of_regs hr q, hc, congrArg Prod.fst hs, congrArg Prod.snd hs, fun _ => hcore⟩

theorem set (h : s.spares b t) {f : Fld} (v : Nat) (hf : ¬ apartKey f.key) : s.spares b (t.set f v) :=
  h.trans ⟨fun _ hq => get_set_ne t v fun e => hf (e ▸ hq), rfl, rfl, rfl, fun _ => ⟨rfl, rfl, rfl⟩⟩

theorem put (h : s.spares b t) {f : Fld} (v : Bool) (hf : ¬ apartKey f.key) : s.spares b (t.put f v) := h.set _ hf

theorem mapNvm (h : s.spares b t) (g : NvmSt → NvmSt) : s.spares b (t.mapNvm g) := h.of_eq rfl rfl rfl ⟨rfl, rfl, rfl⟩
theorem mapUpd (h : s.spares b t) (g : UpdSt → UpdSt) : s.spares b (t.mapUpd g) := h.of_eq rfl rfl rfl ⟨rfl, rfl, rfl⟩
theorem mapPtp (h : s.spares b t) (g : PtpSt → PtpSt) : s.spares b (t.mapPtp g) := h.of_eq rfl rfl rfl ⟨rfl, rfl, rfl⟩
theorem mapCan (h : s.spares b t) (g : CanSt → CanSt) : s.spares b (t.mapCan g) := h.of_eq rfl rfl rfl ⟨rfl, rfl, rfl⟩
theorem enqueue (h : s.spares b t) (c : Commit) : s.spares b (t.enqueue c) := h.of_eq rfl rfl rfl ⟨rfl, rfl, rfl⟩
theorem setLim (h : s.spares b t) (k : Nat) (x : LimSt) : s.spares b (t.setLim k x) :=
  h.of_eq rfl rfl rfl ⟨rfl, rfl, rfl⟩

theorem mapFio (h : s.spares b t) (g : FioSt → FioSt) : s.spares b (t.mapFio g) := h.of_eq rfl rfl rfl ⟨rfl, rfl, rfl⟩

/-- The curb logic's record changed, but for the supervision of the alive code. -/
theorem mapCrb (h : s.spares b t) {g : CurbSt → CurbSt} (hg : ∀ x, (g x).alive = x.alive) : s.spares b (t.mapCrb g) :=
  h.of_eq rfl (hg _) rfl ⟨rfl, rfl, rfl⟩

/-- The power and reset record changed, but for whether the module boots or is held. -/
theorem mapSys (h : s.spares b t) {g : SysSt → SysSt} (hg : ∀ x, (g x).booting = x.booting ∧ (g x).held = x.held) :
    s.spares b (t.mapSys g) :=
  h.of_eq rfl rfl (Prod.ext (hg _).1 (hg _).2) ⟨rfl, rfl, rfl⟩

theorem ite {c : Prop} {_ : Decidable c} (h : c → s.spares b t) (k : ¬ c → s.spares b u) :
    s.spares b (if c then t else u) := by
  split
  · exact h ‹_›
  · exact k ‹_›

/-- A further step that may be left out. -/
theorem iteStep {c : Prop} {_ : Decidable c} (h : s.spares b t) (k : t.spares b u) :
    s.spares b (if c then u else t) := .ite (fun _ => h.trans k) fun _ => h

/-- The same, where the condition leaves it out. -/
theorem iteElse {c : Prop} {_ : Decidable c} (h : s.spares b t) (k : t.spares b u) :
    s.spares b (if c then t else u) := .ite (fun _ => h) fun _ => h.trans k

/-- A choice between answers that carry a state. -/
theorem iteSnd {β : Type} {x y : β × State} {c : Prop} {_ : Decidable c} (h : s.spares b x.2) (k : s.spares b y.2) :
    s.spares b (if c then x else y).2 := by
  split
  · exact h
  · exact k

theorem when {g : State → State} (h : s.spares b t) (c : Bool) (k : t.spares b (g t)) : s.spares b (t.when c g) :=
  .iteStep h k

theorem foldl {α : Type} (f : State → α → State) (l : List α) (h : ∀ t : State, ∀ x ∈ l, t.spares b (f t x))
    (s : State) : s.spares b (l.foldl f s) := by
  induction l generalizing s with
  | nil => exact refl b s
  | cons x l ih =>
    exact (h s x List.mem_cons_self).trans (ih (fun t y hy => h t y (List.mem_cons_of_mem _ hy)) (f s x))

theorem raise (h : s.spares b t) {n : Nat} (hn : n < 256) : s.spares b (t.raise n) := by
  have hevt : ∀ k, apartKey k → ¬ evtKey k := by unfold apartKey evtKey; omega
  have hother : (t.raise n).crb = t.crb ∧ (t.raise n).sys = t.sys := by
    unfold State.raise State.softEvt State.latchEvt
    repeat' split
    all_goals exact ⟨rfl, rfl⟩
  obtain ⟨hc, hs⟩ := hother
  obtain ⟨-, hcores⟩ := State.sameRest_of_rest (State.raise_rest t n)
  exact h.trans ⟨(keeps_raise hevt t hn).get_eq, congrArg (·.alive) hc, congrArg (·.booting) hs, congrArg (·.held) hs,
    fun _ => hcores⟩

end State.spares

theorem spares_crb {b : Bool} (s : State) {x : CurbSt} (hx : x.alive = s.crb.alive) :
    s.spares b { s with crb := x } := (State.spares.refl b s).of_eq rfl hx rfl ⟨rfl, rfl, rfl⟩

/-! ### Records (R431, R432) -/

theorem limSlot_lt (s : State) (c : Nat) : s.limSlot c < 64 := by
  unfold State.limSlot
  split
  case h_1 k hk => exact (List.mem_range.mp (List.mem_of_find?_eq_some hk)).trans (by decide)
  case h_2 =>
    split
    case h_1 k hk => exact (List.mem_range.mp (List.mem_of_find?_eq_some hk)).trans (by decide)
    case h_2 => decide

theorem limst_apart {k : Nat} (hk : k < 64) : ¬ apartKey (LOG_LIMST.BOUND k).key ∧
    ¬ apartKey (LOG_LIMST.TOKENS k).key ∧ ¬ apartKey (LOG_LIMST.SUPP k).key := by
  simp only [apartKey, Fld.key, LOG_LIMST.BOUND, LOG_LIMST.TOKENS, LOG_LIMST.SUPP]
  omega

theorem spares_writeSuppressed {b : Bool} (s : State) {k : Nat} (hk : k < 64) : s.spares b (s.writeSuppressed k) := by
  obtain ⟨-, -, hsupp⟩ := limst_apart hk
  exact ((((State.spares.refl b s).enqueue _).set _ hsupp).set _ (by decide)).setLim _ _

theorem spares_passLimit {b : Bool} (s : State) (c : Commit) : s.spares b (s.passLimit c).2 := by
  have hk := limSlot_lt s c.code
  obtain ⟨hbound, htokens, hsupp⟩ := limst_apart hk
  have hslot : s.spares b (if s.limSlot c.code < 63 ∧ s.get (LOG_LIM.AUTO (s.limSlot c.code)) = 1 then
      s.set (LOG_LIMST.BOUND (s.limSlot c.code)) c.code else s) :=
    .iteStep (.refl b s) ((State.spares.refl b s).set _ hbound)
  refine .iteSnd (.refl b s) (.iteSnd ?_ ?_)
  · exact .iteStep (hslot.set _ htokens) (spares_writeSuppressed _ hk)
  · refine .setLim (.set (.iteStep hslot ?_) _ hsupp) _ _
    exact ((State.spares.refl b _).put _ (by decide)).raise (by decide)

theorem spares_hwRecord {b : Bool} (s : State) (code sev : Nat) (payload : List Nat) :
    s.spares b (s.hwRecord code sev payload) := by
  unfold State.hwRecord
  exact .ite (fun _ => (spares_passLimit s _).enqueue _) fun _ => spares_passLimit s _

/-! ### Forced transitions (R59, R402) -/

theorem spares_draw {b : Bool} (s : State) (w : Nat) : s.spares b (s.draw w).2 :=
  (State.spares.refl b s).of_eq rfl rfl rfl ⟨rfl, rfl, rfl⟩

theorem spares_refuseGait {b : Bool} (s : State) (reason : Nat) : s.spares b (s.refuseGait reason) :=
  (((State.spares.refl b s).set _ (by decide)).set _ (by decide)).raise (by decide)

theorem spares_beginTrans {b : Bool} (s : State) (num target cause : Nat) (requested : Bool) :
    s.spares b (s.beginTrans num target cause requested) :=
  ((State.spares.refl b s).put (f := PWR_GAIT.BUSY) true (by decide)).of_eq rfl rfl rfl ⟨rfl, rfl, rfl⟩

theorem spares_removalBegun {b : Bool} (s : State) : s.spares b s.removalBegun.2 :=
  .iteSnd (.refl b s) ((spares_draw s 1).of_eq rfl rfl rfl ⟨rfl, rfl, rfl⟩)

theorem spares_forceTrans {b : Bool} (s : State) (num target cause : Nat) :
    s.spares b (s.forceTrans num target cause) := by
  unfold State.forceTrans
  split
  · exact spares_beginTrans s _ _ _ _
  · refine .ite (fun _ => .refl b s) fun _ => ?_
    refine .ite (fun _ => .iteSnd (spares_removalBegun s) (.refl b s)) fun _ => .trans (.when ?_ _ ?_)
      (spares_beginTrans _ _ _ _ _)
    · exact .iteSnd (spares_removalBegun s) (.refl b s)
    · exact spares_refuseGait _ 6

theorem spares_standbyLocal {b : Bool} (s : State) : s.spares b s.standbyLocal :=
  .when (.refl b s) _ (.iteStep (.refl b s)
    ((((State.spares.refl b s).put _ (by decide)).set _ (by decide)).raise (by decide)))

end Sys2Proof.Machine
end

section
/-! SUPPORT. What a decision of the curb logic leaves (R287-R291): the heat registers, whether the HV section runs, the
alive code. -/

namespace Sys2Proof.Machine
open Sys2Proof Sys2Proof.Reg

/-! ### Completions (R104) -/

theorem spares_setCore (s : State) (c : Core) (x : CoreSt) : s.spares false (s.setCore c x) := by
  cases c <;> exact ⟨fun _ _ => rfl, rfl, rfl, rfl, fun h => absurd h Bool.false_ne_true⟩

theorem spares_store {b : Bool} (s : State) (n a v : Nat) : s.spares b (s.store n a v) := by
  rw [store_eq_withMem]
  exact (State.spares.refl b s).of_eq rfl rfl rfl ⟨rfl, rfl, rfl⟩

theorem spares_recordRefusal {b : Bool} (s : State) (m : Master) (k : Access) (kind a : Nat) :
    s.spares b (s.recordRefusal m k kind a) :=
  ((((State.spares.refl b s).set _ (by decide)).set _ (by decide)).put _ (by decide)).set _ (by decide)

theorem spares_release (s : State) (c : Core) (t word val : Nat) : s.spares false (s.release c t word val) := by
  have htag : s.spares false (s.setTag c t (.done word val)) := spares_setCore s c _
  unfold State.release
  refine .ite (fun _ => htag.trans (spares_setCore _ c _)) fun _ => ?_
  have hwp : s.spares false ((s.setTag c t (.done word val)).setCr c Cr.crwp
      (BitVec.ofNat 32 (((s.cr c Cr.crwp).toNat + 1) % (2 * ringSize c)))) := htag.trans (spares_setCore _ c _)
  refine .ite (fun _ => ?_) fun _ => ?_
  · exact ((hwp.trans (spares_store _ 4 _ _)).trans (spares_store _ 4 _ _)).trans (spares_setCore _ c _)
  · dsimp only
    split
    · exact (hwp.trans (spares_setCore _ c _)).trans (spares_recordRefusal _ _ _ _ _)
    · exact ((hwp.trans (spares_setCore _ c _)).trans (spares_draw _ 4)).trans (spares_recordRefusal _ _ _ _ _)

theorem spares_complete (s : State) (c : Core) (t info status val : Nat) :
    s.spares false (s.complete c t info status val) := by
  unfold State.complete
  split
  · exact .ite (fun _ => spares_setCore s c _) fun _ => spares_release s c _ _ _
  · exact .refl false s

/-! ### The bridle gate (R357, R407) -/

/-- No register of the CAN controllers that the end of a transmission writes has such a key. -/
theorem can_apart {x n : Nat} (hx : x < 2) (hn : n < 128) :
    ∀ f ∈ [CNx_OSTAT.TXPEND x n, CNx_OSTAT.RES x n, CNx_TXPEND.BITS x (n / 32), CNx_TXDONE.BITS x (n / 32),
      CNx_OTSLO.NS x n, CNx_OTSHI.NS x n, CNx_FLT.ONESHOT x], ¬ apartKey f.key := by
  simp only [List.forall_mem_cons, List.not_mem_nil, false_imp_iff, implies_true, and_true, apartKey, Fld.key,
    CNx_OSTAT.TXPEND, CNx_OSTAT.RES, CNx_TXPEND.BITS, CNx_TXDONE.BITS, CNx_OTSLO.NS, CNx_OTSHI.NS, CNx_FLT.ONESHOT]
  omega

section
variable {x n : Nat}

theorem spares_canEnd (hx : x < 2) (hn : n < 128) (s : State) (res t : Nat) (timeout : Bool) :
    s.spares false (s.canEnd x n res t timeout) := by
  have hf := can_apart hx hn
  have hbase : ∀ k < 8, canBase x + k < 256 := fun k hk => by unfold canBase; omega
  have hraise : ∀ {u : State} (k : Nat), k < 8 → u.spares false (u.raise (canBase x + k)) :=
    fun k hk => (State.spares.refl _ _).raise (hbase k hk)
  have hpend : s.spares false (s.canPend x n false) :=
    ((State.spares.refl _ s).put false (hf _ (by simp))).set _ (hf _ (by simp))
  have hdone : s.spares false (((s.canPend x n false).set (CNx_OSTAT.RES x n) res).canBit CNx_TXDONE.BITS x n true) :=
    (hpend.set res (hf _ (by simp))).set _ (hf _ (by simp))
  have hstamp : ∀ u : State, u.spares false (u.canStamp x n t) := fun u =>
    ((State.spares.refl _ u).set _ (hf _ (by simp))).set _ (hf _ (by simp))
  have hshot : ∀ u : State, u.spares false ((u.put (CNx_FLT.ONESHOT x) true).raise (canBase x + 2)) := fun u =>
    ((State.spares.refl _ u).put true (hf _ (by simp))).trans (hraise 2 (by decide))
  unfold State.canEnd
  dsimp only
  split
  · exact .trans (.when (.when (.when (hdone.mapCan _) _ (hstamp _)) _ (hraise 1 (by decide))) _ (hshot _))
      (spares_complete _ _ _ _ _ _)
  · exact .when (.when (.when (hdone.mapCan _) _ (hstamp _)) _ (hraise 1 (by decide))) _ (hshot _)

theorem lt_of_mem_canObjs (hn : n ∈ canObjs) : n < 128 := by
  unfold canObjs at hn
  exact List.mem_range.mp hn

theorem spares_canAbortSome (hx : x < 2) (s : State) (res : Nat) (p : State → Nat → Bool) :
    s.spares false (s.canAbortSome x res p) := by
  have hbus : s.spares false (s.canOnBus x).2 := .iteSnd (spares_draw s 8) (.refl _ s)
  unfold State.canAbortSome
  refine hbus.trans (State.spares.foldl _ canObjs ?_ _)
  intro t n hn
  exact .ite (fun _ => spares_canEnd hx (lt_of_mem_canObjs hn) t res 0 false) fun _ => .refl _ t

end

theorem spares_canGateClose (s : State) : s.spares false s.canGateClose := by
  refine .foldl _ _ (fun t x hx => spares_canAbortSome ?_ t 5 _) s
  simp only [List.mem_cons, List.not_mem_nil, or_false] at hx
  omega

theorem spares_redrive {b : Bool} (s : State) : s.spares b s.redrive := by
  unfold State.redrive
  refine .mapCrb (.mapFio (.iteStep (.set (.iteStep (.refl b s) ?_) _ (by decide)) ?_) _) ?_
  case refine_3 => exact fun _ => rfl
  · exact (State.spares.refl b s).put _ (by decide)
  · exact (State.spares.refl b _).set _ (by decide)

theorem spares_dropClaim (s : State) (reason : Nat) : s.spares false (s.dropClaim reason) := by
  have hgate : ∀ t : State, t.spares false t.gateShut := fun t =>
    .ite (fun _ => (((State.spares.refl _ t).put (f := TDM_STAT.GATE) false (by decide)).trans
      (spares_canGateClose _)).trans (spares_redrive _)) fun _ => .refl _ t
  have hdrop : s.spares false (((s.put TDM_STAT.CLAIM false).gateShut).set TDM_STAT.STATE Pair.alone) :=
    (((State.spares.refl _ s).put _ (by decide)).trans (hgate _)).set _ (by decide)
  exact .ite (fun _ => .iteStep hdrop ((State.spares.refl _ _).set _ (by decide))) fun _ => .refl _ s

/-! ### Stops (R289, R291) -/

section
variable {b : Bool} (s : State)

theorem spares_recordCause (code : Nat) (gc first : Bool) : s.spares b (s.recordCause code gc first) :=
  .ite (fun _ => (State.spares.refl b s).set _ (by decide)) fun _ => (State.spares.refl b s).set _ (by decide)

theorem spares_beginStop : s.spares b s.beginStop :=
  ((State.spares.refl b s).put (f := CRB_FLT.STOP) true (by decide)).trans (spares_crb _ (by rfl))

theorem spares_enterStop (st : Nat) : s.spares b (s.enterStop st) :=
  (((State.spares.refl b s).set _ (by decide)).raise (by decide)).trans (spares_hwRecord _ _ _ _)

theorem spares_bleedOff : s.spares b s.bleedOff := by
  have hstat : s.spares b ((s.mapCel fun x => { x with want := [], bleed := [], sent := [] }).bleedStat) :=
    (((State.spares.refl b s).of_eq (u := s.mapCel _) rfl rfl rfl ⟨rfl, rfl, rfl⟩).set _ (by decide)).put _ (by decide)
  exact .iteStep hstat ((State.spares.refl b _).of_eq rfl rfl rfl ⟨rfl, rfl, rfl⟩)

theorem spares_enterHalt : s.spares b s.enterHalt := by
  have hstop : s.spares b ((s.enterStop Curb.halt).raise 29) := (spares_enterStop s _).raise (by decide)
  exact .trans (.iteStep ((hstop.trans (spares_crb _ (by rfl))).trans (spares_bleedOff _))
    (spares_forceTrans _ _ _ _)) (spares_redrive _)

theorem spares_enterSii : s.spares b s.enterSii := by
  have hstop : s.spares b ((s.enterStop Curb.sii).mapCrb fun x => { x with dStop := 2 }) :=
    (spares_enterStop s _).mapCrb (by intro _; rfl)
  exact .ite (fun _ => (hstop.trans (spares_crb _ (by rfl))).trans (spares_redrive _)) fun _ =>
    hstop.trans (spares_enterHalt _)

theorem spares_enterSrs : s.spares b s.enterSrs :=
  ((((State.spares.refl b s).set _ (by decide)).trans (spares_crb _ (by rfl))).trans (spares_enterStop _ _)).trans (spares_redrive _)

end

theorem spares_curbCause (s : State) (code : Nat) (a : Stop) (gc : Bool) : s.spares false (s.curbCause code a gc) := by
  have hfirst : s.spares false ((s.recordCause code gc true).beginStop) :=
    (spares_recordCause s _ _ _).trans (spares_beginStop _)
  have htold : ∀ (c : Bool) (x : Option (Nat × Bool)), s.spares false (if c then
      { (s.recordCause code gc true).beginStop with
        crb := { (s.recordCause code gc true).beginStop.crb with toPeer := x } } else
      (s.recordCause code gc true).beginStop) := fun c x => .ite (fun _ => hfirst.trans (spares_crb _ (by rfl))) fun _ => hfirst
  unfold State.curbCause
  refine .ite (fun _ => .refl _ s) fun _ => .ite (fun _ => .ite (fun _ => ?_) fun _ => ?_) fun _ => ?_
  · exact ((hfirst.trans (spares_standbyLocal _)).trans (spares_dropClaim _ _)).trans (spares_enterHalt _)
  · refine .trans ?_ (spares_dropClaim _ _)
    cases a
    · exact .ite (fun _ => (htold _ _).trans (spares_enterSrs _)) fun _ => (htold _ _).trans (spares_enterHalt _)
    · exact (htold _ _).trans (spares_enterSii _)
  · exact .iteStep (spares_recordCause s _ _ _) (spares_enterSii _)

end Sys2Proof.Machine
end

section
/-! SUPPORT. The boot (R427, R429, R436, R448, Table SYS-7) and the module reset: what they leave, and what they make of
the cores. -/

namespace Sys2Proof.Machine
open Sys2Proof Sys2Proof.Reg

/-! ### Bytes of memory -/

section
variable {b : Bool} (s : State)

theorem spares_setByte (a : Nat) (x : BitVec 8) : s.spares b (s.setByte a x) :=
  (State.spares.refl b s).of_eq rfl rfl rfl ⟨rfl, rfl, rfl⟩

theorem spares_setBytes (a : Nat) (bs : List Nat) : s.spares b (s.setBytes a bs) := by
  induction bs generalizing s a with
  | nil => exact .refl b s
  | cons x rest ih =>
    rw [State.setBytes]
    exact (spares_setByte s a _).trans (ih _ _)

theorem spares_loseMem (lo hi : Nat) : s.spares b (s.loseMem lo hi) :=
  (State.spares.refl b s).of_eq rfl rfl rfl ⟨rfl, rfl, rfl⟩

/-! ### The boot scan -/

theorem spares_queueCounters : s.spares b s.queueCounters :=
  ((State.spares.refl b s).enqueue (Commit.blank .counters)).of_eq rfl rfl rfl ⟨rfl, rfl, rfl⟩

theorem spares_scanCounters : s.spares b s.scanCounters := by
  unfold State.scanCounters
  refine .trans (.set (f := NVM_PWRCYC.COUNT) ?_ _ (by decide)) (spares_queueCounters _)
  split
  · exact ((State.spares.refl b s).set _ (by decide)).set _ (by decide)
  · have hzero : s.spares b ((s.set NVM_PWRCYC.COUNT 0).set NVM_OPTIME.SEC 0) :=
      ((State.spares.refl b s).set _ (by decide)).set _ (by decide)
    exact .ite (fun _ => hzero) fun _ => (hzero.put _ (by decide)).mapNvm _

theorem spares_logCount (n : Nat) : s.spares b (s.logCount n) :=
  ((State.spares.refl b s).set (f := LOG_STAT.COUNT) n (by decide)).put _ (by decide)

theorem spares_scanLog : s.spares b s.scanLog := by
  have hcount : ∀ seq n, s.spares b ((s.set LOG_NEXTSEQ.SEQ seq).logCount n) := fun seq n =>
    ((State.spares.refl b s).set (f := LOG_NEXTSEQ.SEQ) seq (by decide)).trans (spares_logCount _ n)
  unfold State.scanLog
  refine .iteElse (.set (.mapNvm (.put (.put (hcount _ _) _ ?_) _ ?_) _) _ ?_)
    (.trans (.put (.refl b _) _ ?_) (spares_hwRecord _ _ _ _))
  all_goals decide

theorem frameReg_apart (settings : Bool) : ¬ apartKey (validReg settings).key ∧ ¬ apartKey (curReg settings).key := by
  cases settings <;> decide

/-- Copy `c` of a frame becomes the current one. -/
theorem spares_useCopy (settings : Bool) (i c : Nat) :
    s.spares b (if c = 1 then (s.setBitOf (validReg settings) i).setBitOf (curReg settings) i
      else (s.setBitOf (validReg settings) i).clrBitOf (curReg settings) i) := by
  obtain ⟨hvalid, hcur⟩ := frameReg_apart settings
  have hset : s.spares b (s.setBitOf (validReg settings) i) := (State.spares.refl b s).set _ hvalid
  exact .ite (fun _ => hset.set _ hcur) fun _ => hset.set _ hcur

theorem spares_scanFrame (settings : Bool) (i : Nat) : s.spares b (s.scanFrame settings i) := by
  obtain ⟨hvalid, -⟩ := frameReg_apart settings
  have hhurt : ∀ (t : State) (f : Fld) (code sev : Nat) (l : List Nat), ¬ apartKey f.key →
      t.spares b (((t.put f true).hwRecord code sev l).mapNvm fun x => { x with damage := true }) :=
    fun t f code sev l hf => (((State.spares.refl b t).put true hf).trans (spares_hwRecord _ _ _ _)).mapNvm _
  have htorn : ¬ apartKey (if settings then NVM_FLT.SET_TORN else NVM_FLT.LED_TORN).key := by cases settings <;> decide
  have hlost : ¬ apartKey (if settings then NVM_FLT.SET_LOST else NVM_FLT.LED_LOST).key := by cases settings <;> decide
  unfold State.scanFrame
  refine .ite (fun _ => spares_useCopy s settings i _) fun _ => .ite (fun _ => ?_) fun _ => ?_
  · exact .iteStep (spares_useCopy s settings i _) (hhurt _ _ _ _ _ htorn)
  · exact .iteStep ((State.spares.refl b s).set _ hvalid) (hhurt _ _ _ _ _ hlost)

theorem spares_bootScan : s.spares b s.bootScan :=
  (((spares_scanCounters s).trans (spares_scanLog _)).trans
    (.foldl _ _ (fun t i _ => spares_scanFrame t false i) _)).trans (.foldl _ _ (fun t i _ => spares_scanFrame t true i) _)

/-- The sealed configuration is loaded (R303). -/
theorem spares_loadScfg (w : List Nat) (crc : Nat) : s.spares b (s.loadScfg w crc) := by
  have hword : ∀ i < 4, ¬ apartKey (CRB_SCFG.WORD i).key := by decide
  have hcurb : ∀ n < 132, ¬ apartKey (EVT_CFG.CURB n).key := by
    intro n hn
    simp only [apartKey, Fld.key, EVT_CFG.CURB]
    omega
  unfold State.loadScfg
  refine .trans (.trans (.put (.set ?_ _ (by decide)) _ (by decide)) (.foldl _ (List.range 15) ?_ _))
    (.foldl _ (List.range 4) ?_ _)
  · exact .foldl _ _ (fun t i hi => (State.spares.refl b t).set _ (hword i (List.mem_range.mp hi))) s
  · intro t k hk
    have := List.mem_range.mp hk
    exact (State.spares.refl b t).put _ (hcurb _ (by omega))
  · intro t k hk
    have := List.mem_range.mp hk
    exact (State.spares.refl b t).put _ (hcurb _ (by omega))

/-! ### The choice of the boot ROM -/

theorem spares_frameDone (settings : Bool) (c : Commit) (fmt : Nat) : s.spares b (s.frameDone settings c fmt).1 := by
  unfold State.frameDone
  exact (spares_setBytes s _ _).trans (spares_useCopy _ settings c.index _)

theorem spares_bootWrite (body : List Nat) : s.spares b (s.bootWrite body) := by
  unfold State.bootWrite
  split <;> exact spares_setBytes s _ _

theorem spares_mapBoot (g : BootRec → BootRec) : s.spares b (s.mapBoot g) := (State.spares.refl b s).mapUpd _

theorem slotReg_apart (k : Nat) : ¬ apartKey (slotReg k).key := by
  unfold slotReg
  split <;> decide

theorem spares_bootRead : s.spares b s.bootRead := by
  unfold State.bootRead
  split
  · exact ((spares_mapBoot s _).set _ (by decide)).set _ (by decide)
  · exact ((((spares_mapBoot s _).set _ (by decide)).set _ (by decide)).put _ (by decide)).trans (spares_hwRecord _ _ _ _)

theorem spares_snapItems : s.spares b s.snapItems := by
  unfold State.snapItems
  refine .foldl _ _ (fun t j _ => ?_) s
  dsimp only
  split
  · exact (spares_setBytes t _ _).trans (spares_setBytes _ _ _)
  · exact (spares_loseMem t _ _).trans (spares_loseMem _ _ _)

theorem spares_restoreItems : s.spares b s.restoreItems := by
  unfold State.restoreItems
  exact .foldl _ _ (fun t j _ => .ite (fun _ => spares_frameDone t _ _ _) fun _ => .refl b t) s

theorem spares_bootStart (k : Nat) (trial : Bool) : s.spares b (s.bootStart k trial) := by
  have hid : ∀ i < 8, ¬ apartKey (UPD_RUNID.WORD i).key := by decide
  have hshow : ∀ t : State, t.spares b t.recvShow := fun t =>
    ((State.spares.refl b t).set (f := UPD_RECV.HELD) _ (by decide)).set (f := UPD_RECV.FIRSTMISS) _ (by decide)
  have hran : ∀ f : Nat → Nat, s.spares b ((List.range 8).foldl (fun (s : State) i => s.set (UPD_RUNID.WORD i) (f i))
      ((s.set UPD_STAT.RUNSLOT k).put UPD_STAT.TRIAL trial)) := fun f =>
    .trans (.put (.set (.refl b s) k (by decide)) trial (by decide))
      (.foldl _ (List.range 8) (fun t i hi => (State.spares.refl b t).set _ (hid i (List.mem_range.mp hi))) _)
  unfold State.bootStart
  refine .trans (.trans (.set (.mapSys (.set (.set (hran _) _ ?_) _ ?_) ?_) _ ?_) (hshow _)) (spares_bootWrite _ _)
  case refine_3 => exact fun _ => ⟨rfl, rfl⟩
  all_goals decide

theorem spares_bootFallback : s.spares b s.bootFallback :=
  .ite (fun _ => (((spares_restoreItems s).trans (spares_mapBoot _ _)).put _ (by decide)).raise (by decide)) fun _ =>
    .refl b s

end

/-- An image that is armed or on trial is tried once more, or rejected (R448). -/
def State.bootTried (s : State) (p : Nat) : State :=
  if 3 ≤ s.upd.boot.trials then s.set (slotReg p) Slot.rejected
  else
    let s := if s.upd.boot.trials = 0 then
        let t := s.get NVM_OPTIME.SEC
        s.snapItems.mapBoot fun b => { b with trstart := t }
      else s
    let s := (s.mapBoot fun b => { b with trials := b.trials + 1 }).set (slotReg p) Slot.trial
    if s.imageOk p then s else s.set (slotReg p) Slot.rejected

/-- The slot that starts, once the pending one `p` has been judged (R448). -/
def State.bootPicked (s : State) (p : Nat) (pending : Bool) : Option Nat × State :=
  if pending && decide (s.slotSt p = Slot.trial) then (some p, (s.bootStart p true).raise 251)
  else
    let s := s.bootFallback
    let c := s.upd.boot.conf
    if c ≤ 1 ∧ s.imageOk c then (some c, s.bootStart c false)
    else
      let o := 1 - c
      if s.slotSt o = Slot.confirmed ∧ s.imageOk o then
        (some o, (s.mapBoot fun b => { b with conf := o }).bootStart o false)
      else (none, s.hwRecord 0x0080 7 [])

/-- The pending slot is armed or on trial. -/
def State.bootPending (s : State) : Bool :=
  decide (s.upd.boot.pend ≤ 1) &&
    (decide (s.slotSt s.upd.boot.pend = Slot.armed) || decide (s.slotSt s.upd.boot.pend = Slot.trial))

theorem bootChoose_eq (s : State) {r : State} (hr : (s.put UPD_STAT.FALLBACK false).bootRead = r) :
    s.bootChoose = (if r.bootPending = true then r.bootTried r.upd.boot.pend else r).bootPicked r.upd.boot.pend
      r.bootPending := by
  unfold State.bootChoose
  rw [hr]
  rfl

section
variable {b : Bool} (s : State)

theorem spares_bootTried (p : Nat) : s.spares b (s.bootTried p) := by
  have hslot : ∀ (t : State) (v : Nat), t.spares b (t.set (slotReg p) v) := fun t v =>
    (State.spares.refl b t).set v (slotReg_apart p)
  unfold State.bootTried
  refine .ite (fun _ => hslot s _) fun _ => .iteElse (.trans ?_ (hslot _ _)) (hslot _ _)
  exact .trans (.iteStep (.refl b s) ((spares_snapItems s).trans (spares_mapBoot _ _))) (spares_mapBoot _ _)

theorem spares_bootPicked (p : Nat) (pending : Bool) : s.spares b (s.bootPicked p pending).2 := by
  have hfall := spares_bootFallback (b := b) s
  unfold State.bootPicked
  dsimp only
  split
  · dsimp only
    exact (spares_bootStart s p true).raise (n := 251) (by decide)
  · split
    · dsimp only
      exact hfall.trans (spares_bootStart _ _ _)
    · split <;> dsimp only
      · exact (hfall.trans (spares_mapBoot _ _)).trans (spares_bootStart _ _ _)
      · exact hfall.trans (spares_hwRecord _ _ _ _)

theorem spares_bootChoose : s.spares b s.bootChoose.2 := by
  have hread : s.spares b (s.put UPD_STAT.FALLBACK false).bootRead :=
    ((State.spares.refl b s).put _ (by decide)).trans (spares_bootRead _)
  rw [bootChoose_eq s rfl]
  exact (hread.iteStep (spares_bootTried _ _)).trans (spares_bootPicked _ _ _)

end

/-! ### Power-up (Table SYS-7) -/

/-- The first steps of power-up: the cause, the cores at reset, the boot under way. -/
def State.bootBegun (s : State) (cause : Fld) : State :=
  let t := (((s.loadFactory).put cause true).put SYS_CLKSTAT.XTAL32K_OK true).ethLatch
  let u := ((t.setCore .r0 CoreSt.reset).setCore .r1 CoreSt.reset).setCore .grm CoreSt.reset
  (u.mapSys fun x => { x with booting := true, held := false, dieOff := false, failed := false }).mapFio
    fun _ => FioSt.start [] u.nowUs

theorem bootBegun_rebooted (s : State) (cause : Fld) : (s.bootBegun cause).rebooted := ⟨rfl, rfl, rfl, rfl, rfl⟩

theorem spares_powerUp {b : Bool} (s : State) (cause : Fld) : (s.bootBegun cause).spares b (s.powerUp cause) := by
  have hseal : ∀ t : State, t.spares b (match t.storedSeal with
      | some x => t.loadScfg x.1 x.2
      | none => t) := by
    intro t
    split
    · exact spares_loadScfg t _ _
    · exact .refl b t
  have hclear : ∀ t : State, t.spares b (if t.nvm.clearing.isSome then
      (t.put LOG_STAT.CLEARING true).enqueue { Commit.blank .clear with index := t.nvm.clearing.getD 0 } else t) := fun t =>
    .iteStep (.refl b t) (((State.spares.refl b t).put _ (by decide)).enqueue _)
  have hcal : ∀ t : State, t.spares b (if t.flag HVM_CALID.CRC_OK then t.put HVM_STAT.CAL_OK true
      else (t.put HVM_FLT.CAL_BAD true).raise 139) := fun t =>
    .ite (fun _ => (State.spares.refl b t).put _ (by decide)) fun _ =>
      ((State.spares.refl b t).put _ (by decide)).raise (by decide)
  have hboot := ((((spares_bootScan (b := b) (s.bootBegun cause)).trans (hseal _)).trans (hclear _)).trans
    (hcal _)).trans (spares_bootChoose _)
  unfold State.powerUp
  dsimp only
  split
  · exact hboot
  · exact (hboot.mapSys (by exact fun _ => ⟨rfl, rfl⟩)).trans (spares_hwRecord _ _ _ _)

/-- Power-up starts every core at its reset state and the boot. -/
theorem powerUp_rebooted (s : State) (cause : Fld) : (s.powerUp cause).rebooted := by
  obtain ⟨h0, h1, hg, hbooting, hheld⟩ := bootBegun_rebooted s cause
  have h := spares_powerUp (b := true) s cause
  obtain ⟨k0, k1, kg⟩ := h.same rfl
  exact ⟨k0.trans h0, k1.trans h1, kg.trans hg, h.booting.trans hbooting, h.held.trans hheld⟩

/-- SYS_RSTCAUSE shows the cause of the power-up. -/
theorem get_cause_powerUp (s : State) {cause : Fld} (haddr : cause.addr = 0x60000100) (hlsb : cause.lsb < 32)
    (hwidth : cause.width = 1) : (s.powerUp cause).get cause = 1 := by
  have hapart : apartKey cause.key := by
    unfold apartKey Fld.key
    omega
  have hxtal : cause.key ≠ SYS_CLKSTAT.XTAL32K_OK.key := by
    simp only [Fld.key, SYS_CLKSTAT.XTAL32K_OK, haddr]
    omega
  have hput : (s.bootBegun cause).get cause = ((s.loadFactory.put cause true).put SYS_CLKSTAT.XTAL32K_OK true).get cause :=
    get_of_regs (by simp [State.bootBegun, State.ethLatch]) cause
  rw [(spares_powerUp (b := false) s cause).get_eq cause hapart, hput, get_put_ne _ _ hxtal]
  refine (get_set_same _ _ _).trans ?_
  rw [hwidth]
  rfl

/-! ### The module reset (R422, R444, log entry 24) -/

section
variable {b : Bool} (s : State)

theorem spares_commitWrite (c : Commit) : s.spares b (s.commitWrite c).1 := by
  unfold State.commitWrite
  split
  · exact spares_frameDone s _ _ _
  · exact spares_frameDone s _ _ _
  · exact spares_frameDone s _ _ _
  · dsimp only
    exact spares_setBytes s _ _
  · dsimp only
    exact spares_setBytes s _ _
  · dsimp only
    exact .iteStep ((spares_setBytes s _ _).mapNvm _) ((State.spares.refl b _).enqueue _)
  · exact spares_bootWrite s _

theorem spares_finishRunning : s.spares b s.finishRunning := by
  unfold State.finishRunning
  split
  · exact ((State.spares.refl b s).mapNvm _).trans (spares_commitWrite _ _)
  · exact .refl b s

theorem spares_spoil (a n : Nat) : s.spares b (s.spoil a n) :=
  .foldl _ _ (fun t _ _ => (spares_draw t 8).trans (spares_setByte _ _ _)) s

theorem spares_tearProg : s.spares b s.tearProg := by
  unfold State.tearProg
  split
  · refine .mapUpd (.ite (fun _ => ?_) fun _ => spares_spoil s _ _) _
    exact .foldl _ _ (fun t _ _ => (spares_draw t 8).trans (spares_setByte _ _ _)) s
  · exact .refl b s

theorem spares_setTime (t : Nat) : s.spares b (s.setTime t) := by
  unfold State.setTime
  exact .set (.set (.refl b s) _ (by decide)) _ (by decide)

/-- Device time goes on over a module reset (R374). -/
theorem spares_ptpReset (old : State) : s.spares b (s.ptpReset old) := by
  unfold State.ptpReset
  refine .iteStep ((spares_setTime s _).mapPtp _) ?_
  exact ((State.spares.refl b _).set _ (by decide)).put _ (by decide)

end

/-- A map filtered by keys reads as before at a key that stays. -/
theorem mapGet_filter {α : Type} (d : α) (m : List (Nat × α)) (keep : Nat × α → Bool) {k : Nat}
    (h : ∀ v, keep (k, v) = true) : mapGet d (m.filter keep) k = mapGet d m k := by
  induction m with
  | nil => rfl
  | cons e rest ih =>
    by_cases hk : e.1 = k
    · have he : keep e = true := by rw [← h e.2, ← hk]
      rw [List.filter_cons_of_pos he, mapGet, mapGet, if_pos hk, if_pos hk]
    · by_cases he : keep e = true
      · rw [List.filter_cons_of_pos he, mapGet, mapGet, if_neg hk, if_neg hk, ih]
      · rw [List.filter_cons_of_neg he, ih, mapGet, if_neg hk]

/-- The entry of a register that a module reset keeps. -/
def keptEntry (e : Nat × Nat) : Bool := (fieldsAt (e.1 / 32)).any fun f => decide (f.key = e.1) && resetKeeps f

/-- The registers and the memory that a module reset takes over, all else at reset. -/
def State.resetTo (s : State) : State :=
  { State.reset with
    regs := s.regs.filter keptEntry, mem := s.loseRam.mem, units := s.units, free := s.free, nowUs := s.nowUs
    pending := s.pending, rdata := s.rdata }

/-- What a module reset makes of the parts that it neither takes over nor leaves at reset. -/
def State.resetParts (s old : State) (lame : Bool) : State :=
  (((s.mapNvm fun y => { y with
      cap := old.nvm.cap, wasFull := old.nvm.wasFull, testDue := old.nvm.testDue, clearing := old.nvm.clearing
      groomFault := none }).mapEth fun y => { y with table := old.eth.table }).mapSys fun y => { y with
        por := false, pdnAt := old.sys.pdnAt, wakeLow := old.sys.wakeLow }).markLame LameCause.aux lame

/-- Every core is powered down. -/
def State.coresDown (s : State) : State := ((s.setRun .r0 .off).setRun .r1 .off).setRun .grm .off

theorem coresDown_set_coresOff (s : State) (f : Fld) (v : Nat) : (s.coresDown.set f v).coresOff := ⟨rfl, rfl, rfl⟩

theorem moduleReset_eq (s : State) {t : State} (ht : s.finishRunning.tearProg = t) : ∃ lame seat,
    s.moduleReset = (((t.resetTo.ptpReset t).resetParts t lame).coresDown).set TDM_STAT.SEAT seat := by
  unfold State.moduleReset
  rw [ht]
  exact ⟨_, _, rfl⟩

theorem moduleReset_coresOff (s : State) : s.moduleReset.coresOff := by
  obtain ⟨lame, seat, heq⟩ := moduleReset_eq s rfl
  rw [heq]
  exact coresDown_set_coresOff _ _ _

theorem get_moduleReset (s : State) {q : Fld} (hq : apartKey q.key) (hkept : ∀ v, keptEntry (q.key, v) = true) :
    s.moduleReset.get q = s.get q := by
  obtain ⟨lame, seat, heq⟩ := moduleReset_eq s rfl
  have hseat : q.key ≠ TDM_STAT.SEAT.key := fun e => absurd (e ▸ hq) (by decide)
  have hparts : ∀ t u : State, ((t.resetParts u lame).coresDown).get q = t.get q := fun t u => by
    simp only [State.coresDown, get_setRun]
    rfl
  have hregs : ∀ t : State, t.resetTo.get q = t.get q := fun t => mapGet_filter _ t.regs keptEntry hkept
  rw [heq, get_set_ne _ _ hseat, hparts, (spares_ptpReset (b := false) _ _).get_eq q hq, hregs,
    (spares_tearProg (b := false) _).get_eq q hq, (spares_finishRunning (b := false) s).get_eq q hq]

end Sys2Proof.Machine
end

section
/-! SUPPORT. The sensor window (R64, R65): readings that lie close together make no die sensor faulty, and the registers
show them. -/

namespace Sys2Proof.Machine
open Sys2Proof Sys2Proof.Reg

/-! ### The median of a list -/

theorem sortInts_perm (l : List Int) : (sortInts l).Perm l := by
  have hstep : ∀ (acc : List Int) (x : Int),
      ((acc.filter fun y => decide (y ≤ x)) ++ x :: (acc.filter fun y => decide (x < y))).Perm (acc ++ [x]) := by
    intro acc x
    have hflip : (fun y => decide (x < y)) = fun y => !(decide (y ≤ x)) := by
      funext y
      rw [Bool.eq_iff_iff, Bool.not_eq_true', decide_eq_true_iff, decide_eq_false_iff_not, not_le]
    rw [hflip]
    exact List.perm_middle.trans
      (((List.filter_append_perm _ acc).cons x).trans (List.perm_append_singleton x acc).symm)
  have hfold : ∀ acc : List Int, (l.foldl (fun acc x =>
      (acc.filter fun y => decide (y ≤ x)) ++ x :: (acc.filter fun y => decide (x < y))) acc).Perm (acc ++ l) := by
    induction l with
    | nil => intro acc; rw [List.append_nil]; exact List.Perm.refl acc
    | cons x rest ih =>
      intro acc
      have hshift : acc ++ x :: rest = acc ++ [x] ++ rest := List.append_cons acc x rest
      rw [List.foldl_cons, hshift]
      exact (ih _).trans ((hstep acc x).append_right rest)
  exact hfold []

/-- Twice the median of a list is the sum of two of its numbers. -/
theorem median2_eq_add {l : List Int} (hne : l ≠ []) : ∃ y ∈ l, ∃ z ∈ l, median2 l = some (y + z) := by
  have hperm := sortInts_perm l
  have hlen : 0 < (sortInts l).length := by
    rw [hperm.length_eq]
    exact List.length_pos_iff.mpr hne
  have hmem : ∀ k, k < (sortInts l).length → (sortInts l).getD k 0 ∈ l := by
    intro k hk
    rw [List.getD_eq_getElem _ _ hk]
    exact hperm.mem_iff.mp (List.getElem_mem hk)
  unfold median2
  dsimp only
  rw [if_neg (by omega)]
  split
  · exact ⟨_, hmem _ (Nat.div_lt_self hlen (by decide)), _, hmem _ (Nat.div_lt_self hlen (by decide)),
      congrArg some (two_mul _)⟩
  · exact ⟨_, hmem _ (by omega), _, hmem _ (by omega), rfl⟩

/-! ### Readings close together -/

/-- Six die readings `d` in range, within 15 °C of each other. -/
structure CloseReadings (rs : List (Option Int)) (d : Nat → Int) : Prop where
  length : rs.length = 6
  reads : ∀ i < 6, rs.getD i none = some (d i)
  inRange : ∀ i < 6, -5500 ≤ d i ∧ d i ≤ 17500
  close : ∀ i < 6, ∀ j < 6, d i - d j ≤ 1500

section
variable {rs : List (Option Int)} {d : Nat → Int}

theorem CloseReadings.dieInRange (h : CloseReadings rs d) {i : Nat} (hi : i < 6) :
    dieInRange (rs.getD i none) = true := by
  rw [h.reads i hi]
  exact decide_eq_true (h.inRange i hi)

/-- No sensor deviates from the median of the others. -/
theorem CloseReadings.deviates (h : CloseReadings rs d) {i : Nat} (hi : i < 6) : dieDeviates rs i = some false := by
  have hothers : (((List.range rs.length).filter (· ≠ i)).filterMap fun j =>
      if Machine.dieInRange (rs.getD j none) then rs.getD j none else none) =
        ((List.range 6).filter (· ≠ i)).map d := by
    rw [h.length, ← List.filterMap_eq_map]
    refine List.filterMap_congr fun j hj => ?_
    have hj6 : j < 6 := List.mem_range.mp (List.mem_filter.mp hj).1
    rw [if_pos (h.dieInRange hj6), h.reads j hj6]
    rfl
  have hne : ((List.range 6).filter (· ≠ i)).map d ≠ [] := by
    interval_cases i <;> exact List.cons_ne_nil _ _
  obtain ⟨y, hy, z, hz, hmedian⟩ := median2_eq_add hne
  obtain ⟨j, hj, rfl⟩ := List.mem_map.mp hy
  obtain ⟨k, hk, rfl⟩ := List.mem_map.mp hz
  have hj6 : j < 6 := List.mem_range.mp (List.mem_filter.mp hj).1
  have hk6 : k < 6 := List.mem_range.mp (List.mem_filter.mp hk).1
  have hin := h.dieInRange hi
  have hij := h.close i hi j hj6
  have hik := h.close i hi k hk6
  have hji := h.close j hj6 i hi
  have hki := h.close k hk6 i hi
  unfold dieDeviates
  rw [h.reads i hi] at hin ⊢
  dsimp only
  rw [hin, if_neg (by decide), hothers, hmedian]
  exact congrArg some (decide_eq_false (by omega))

theorem maskOf_eq_zero {n : Nat} {p : Nat → Bool} (h : ∀ k < n, p k = false) : maskOf n p = 0 := by
  induction n with
  | zero => rfl
  | succ n ih =>
    rw [maskOf, ih fun k hk => h k (by omega), h n (by omega)]
    simp [b2n]

theorem devStep_within {x : ThermalSt} {i : Nat} (h : dieDeviates rs i = some false) (hx : x.devFault = 0) :
    (devStep x rs i).devFault = 0 ∧ (devStep x rs i).rangeFault = x.rangeFault ∧
      (devStep x rs i).unknown = x.unknown := by
  have hclr : clrBit 0 i = 0 := by simp [clrBit]
  unfold devStep
  rw [h, hx]
  refine ⟨?_, rfl, rfl⟩
  dsimp only
  split
  · exact hclr
  · rfl

/-- A window of close readings leaves no sensor faulty. -/
theorem CloseReadings.window (h : CloseReadings rs d) {x : ThermalSt} (hx : x.devFault = 0) :
    (x.window rs).devFault = 0 ∧ (x.window rs).rangeFault = 0 ∧ (x.window rs).unknown = x.unknown := by
  have hrange : maskOf 6 (fun i => !(Machine.dieInRange (rs.getD i none))) = 0 :=
    maskOf_eq_zero fun i hi => by rw [h.dieInRange hi]; rfl
  unfold ThermalSt.window
  rw [hrange]
  refine List.foldlRecOn (List.range 6) _ (motive := fun (y : ThermalSt) => y.devFault = 0 ∧ y.rangeFault = 0 ∧ y.unknown = x.unknown)
    ⟨hx, rfl, rfl⟩ fun y ⟨hdev, hrf, hu⟩ i hi => ?_
  obtain ⟨kdev, krf, ku⟩ := devStep_within (x := y) (h.deviates (List.mem_range.mp hi)) hdev
  exact ⟨kdev, krf.trans hrf, ku.trans hu⟩

theorem CloseReadings.faulty (h : CloseReadings rs d) {x : ThermalSt} (hx : x.devFault = 0) (i : Nat) :
    (x.window rs).faulty i = false := by
  obtain ⟨hdev, hrange, -⟩ := h.window hx
  simp [ThermalSt.faulty, hdev, hrange, bit]

end

/-! ### The hottest reading -/

/-- The hotter of the best reading so far and that of sensor `i`. -/
def hotStep (good : Nat → Option Int) (b : Option (Nat × Int)) (i : Nat) : Option (Nat × Int) :=
  match good i, b with
  | some t, none => some (i, t)
  | some t, some p => if p.2 < t then some (i, t) else some p
  | none, b => b

theorem hotStep_foldl {good : Nat → Option Int} {d : Nat → Int} (n : Nat) (h : ∀ i < n + 1, good i = some (d i)) :
    ∃ k < n + 1, (List.range (n + 1)).foldl (hotStep good) none = some (k, d k) ∧ ∀ i < n + 1, d i ≤ d k := by
  induction n with
  | zero =>
    refine ⟨0, by decide, ?_, fun i hi => ?_⟩
    · show hotStep good none 0 = _
      unfold hotStep
      rw [h 0 (by decide)]
    · rw [Nat.lt_one_iff.mp hi]
  | succ n ih =>
    obtain ⟨k, hk, hfold, hmax⟩ := ih fun i hi => h i (by omega)
    rw [List.range_succ, List.foldl_append, hfold]
    show ∃ k' < _, hotStep good (some (k, d k)) (n + 1) = _ ∧ _
    unfold hotStep
    rw [h (n + 1) (by omega)]
    dsimp only
    split
    case isTrue hlt =>
      refine ⟨n + 1, by omega, rfl, fun i hi => ?_⟩
      rcases Nat.lt_succ_iff_lt_or_eq.mp hi with hi' | rfl
      · exact (hmax i hi').trans hlt.le
      · exact le_refl _
    case isFalse hge =>
      refine ⟨k, by omega, rfl, fun i hi => ?_⟩
      rcases Nat.lt_succ_iff_lt_or_eq.mp hi with hi' | rfl
      · exact hmax i hi'
      · exact not_lt.mp hge

end Sys2Proof.Machine
end

section
/-! SUPPORT. What THM_DIE, THM_HV, THM_HOT, HOTIDX and SENS_FAULT show after a window (R64, R65). -/

namespace Sys2Proof.Machine
open Sys2Proof Sys2Proof.Reg

/-! ### Codes of temperatures -/

theorem enc16_eq {x : Int} (hlo : -32768 < x) (hhi : x < 32768) :
    (enc 16 x : Int) = if 0 ≤ x then x else x + 65536 := by
  unfold enc
  split <;> omega

theorem enc16_lt (x : Int) : enc 16 x < 2 ^ 16 := by
  unfold enc
  omega

theorem sgn_enc16 {x : Int} (hlo : -32768 < x) (hhi : x < 32768) : sgn 16 (enc 16 x) = x := by
  have h := enc16_eq hlo hhi
  have hlt := enc16_lt x
  have htrunc : trunc 16 (enc 16 x) = enc 16 x := Nat.mod_eq_of_lt hlt
  unfold sgn
  rw [htrunc]
  split at h <;> split <;> omega

theorem enc16_ne_na {x : Int} (hlo : -32768 < x) (hhi : x < 32768) : enc 16 x ≠ 0x8000 := by
  have h := enc16_eq hlo hhi
  split at h <;> omega

/-! ### A row of fields -/

/-- The first `n` fields of the row `f` made the values `v`. -/
def State.setRow (s : State) (n : Nat) (f : Nat → Fld) (v : Nat → Nat) : State :=
  (List.range n).foldl (fun s i => s.set (f i) (v i)) s

section
variable {f : Nat → Fld} {v : Nat → Nat} {n : Nat} {s : State}

theorem setRow_succ (s : State) (n : Nat) (f : Nat → Fld) (v : Nat → Nat) :
    s.setRow (n + 1) f v = (s.setRow n f v).set (f n) (v n) := by
  unfold State.setRow
  rw [List.range_succ, List.foldl_append]
  rfl

theorem setRow_thermal : (s.setRow n f v).thermal = s.thermal := by
  induction n with
  | zero => rfl
  | succ n ih => rw [setRow_succ]; exact ih

theorem State.keeps.setRow {P : Nat → Prop} {t : State} (h : s.keeps P t)
    (hf : ∀ i < n, ¬ P (f i).key ∧ ¬ evtPendKey (f i).key) : s.keeps P (t.setRow n f v) :=
  h.trans (.foldl _ _ (fun u i hi => (State.keeps.refl P u).set _ (hf i (List.mem_range.mp hi)).1
    (hf i (List.mem_range.mp hi)).2) t)

theorem get_setRow_same (hinj : ∀ i j, (f i).key = (f j).key → i = j) {i : Nat} (hi : i < n) :
    (s.setRow n f v).get (f i) = v i % 2 ^ (f i).width := by
  induction n with
  | zero => omega
  | succ n ih =>
    rw [setRow_succ]
    by_cases hin : i = n
    · rw [hin, get_set_same]
    · rw [get_set_ne _ _ fun e => hin (hinj i n e), ih (by omega)]

end

/-! ### The registers of a window -/

/-- The reading of sensor `i`, unless the sensor is faulty. -/
def ThermalSt.good (x : ThermalSt) (rs : List (Option Int)) (i : Nat) : Option Int :=
  if x.faulty i then none else rs.getD i none

/-- The hottest sensor that is not faulty, with its reading. -/
def ThermalSt.hottest (x : ThermalSt) (rs : List (Option Int)) : Option (Nat × Int) :=
  (List.range 6).foldl (hotStep (x.good rs)) none

/-- Keys of the registers that show the readings of a window. -/
abbrev shownKey (k : Nat) : Prop :=
  k = THM_STAT.HOTIDX.key ∨ k = THM_STAT.SENS_FAULT.key ∨ (0x6014000C * 32 ≤ k ∧ k < 0x60140030 * 32)

theorem thmShow_eq (s : State) (rs hv : List (Option Int)) :
    s.thmShow rs hv = (((((s.setRow 6 THM_DIE.TEMP fun i => tempCode (s.thermal.good rs i)).setRow 2 THM_HV.TEMP
      fun i => tempCode (hv.getD i none)).set THM_HOT.TEMP (tempCode ((s.thermal.hottest rs).map (·.2)))).set
      THM_STAT.HOTIDX (((s.thermal.hottest rs).map (·.1)).getD 0)).put THM_STAT.SENS_FAULT
      ((List.range 6).any s.thermal.faulty)) := rfl

theorem thmShow_thermal (s : State) (rs hv : List (Option Int)) : (s.thmShow rs hv).thermal = s.thermal := by
  rw [thmShow_eq]
  exact setRow_thermal.trans setRow_thermal

theorem die_key (i : Nat) : (THM_DIE.TEMP i).key = 0x60140010 * 32 + 128 * i := by
  simp only [Fld.key, THM_DIE.TEMP]
  omega

theorem hv_key (i : Nat) : (THM_HV.TEMP i).key = 0x60140028 * 32 + 128 * i := by
  simp only [Fld.key, THM_HV.TEMP]
  omega

theorem keeps_thmShow (s : State) (rs hv : List (Option Int)) : s.keeps (fun k => ¬ shownKey k) (s.thmShow rs hv) := by
  have hdie : ∀ i < 6, ¬ ¬ shownKey (THM_DIE.TEMP i).key ∧ ¬ evtPendKey (THM_DIE.TEMP i).key := by decide
  have hhv : ∀ i < 2, ¬ ¬ shownKey (THM_HV.TEMP i).key ∧ ¬ evtPendKey (THM_HV.TEMP i).key := by decide
  rw [thmShow_eq]
  exact (((((State.keeps.refl _ s).setRow hdie).setRow hhv).set _ (by decide) (by decide)).set _ (by decide)
    (by decide)).put _ (by decide) (by decide)

theorem get_die_thmShow (s : State) (rs hv : List (Option Int)) {i : Nat} (hi : i < 6) :
    (s.thmShow rs hv).get (THM_DIE.TEMP i) = tempCode (s.thermal.good rs i) % 2 ^ 16 := by
  have hfar : (THM_DIE.TEMP i).key ≠ THM_HOT.TEMP.key ∧ (THM_DIE.TEMP i).key ≠ THM_STAT.HOTIDX.key ∧
      (THM_DIE.TEMP i).key ≠ THM_STAT.SENS_FAULT.key := by
    rw [die_key]
    simp only [Fld.key, THM_HOT.TEMP, THM_STAT.HOTIDX, THM_STAT.SENS_FAULT]
    omega
  obtain ⟨hhot, hidx, hsens⟩ := hfar
  have hhv : ∀ j < 2, ¬ (THM_HV.TEMP j).key = (THM_DIE.TEMP i).key ∧ ¬ evtPendKey (THM_HV.TEMP j).key := by
    intro j hj
    rw [die_key]
    unfold evtPendKey
    rw [hv_key]
    omega
  rw [thmShow_eq, get_put_ne _ _ hsens, get_set_ne _ _ hidx, get_set_ne _ _ hhot,
    ((State.keeps.refl (fun k => k = (THM_DIE.TEMP i).key) _).setRow hhv).get_eq _ rfl,
    get_setRow_same (fun j k h => by rw [die_key, die_key] at h; omega) hi]
  rfl

theorem get_hot_thmShow (s : State) (rs hv : List (Option Int)) :
    (s.thmShow rs hv).get THM_HOT.TEMP = tempCode ((s.thermal.hottest rs).map (·.2)) % 2 ^ 16 := by
  rw [thmShow_eq, get_put_ne _ _ (by decide), get_set_ne _ _ (by decide), get_set_same]
  rfl

theorem get_sensFault_thmShow (s : State) (rs hv : List (Option Int)) :
    (s.thmShow rs hv).get THM_STAT.SENS_FAULT = b2n ((List.range 6).any s.thermal.faulty) % 2 := by
  rw [thmShow_eq]
  exact get_set_same _ _ _

end Sys2Proof.Machine
end

section
/-! PROOF. A window of close readings (R64-R67, R72): what it shows, the throttle request, the refill rate, the shutdown
at 150 °C. -/

namespace Sys2Proof.Machine
open Sys2Proof Sys2Proof.Reg

theorem State.keeps.mapThermal {P : Nat → Prop} {s t : State} (h : s.keeps P t) (g : ThermalSt → ThermalSt) :
    s.keeps P (t.mapThermal g) := h.of_eq rfl rfl rfl

theorem get_mapThermal (s : State) (g : ThermalSt → ThermalSt) (q : Fld) : (s.mapThermal g).get q = s.get q := rfl

/-! ### The steps of a window -/

/-- The readings of the window in the sensors' record and the registers. -/
def State.heatSeen (s : State) (rs hv : List (Option Int)) : State := (s.mapThermal fun x => x.window rs).thmShow rs hv

/-- The window up to the refill rate, where fewer than three sensors are faulty. -/
def State.heatActed (s : State) (rs hv : List (Option Int)) : State := (s.heatSeen rs hv).throttle.thmRate

/-- The HV sensors at 105 °C or above, as a mask. -/
def hvWarmMask (hv : List (Option Int)) : Nat := maskOf 2 fun k =>
  match hv.getD k none with
  | some t => decide (10500 ≤ t)
  | none => false

/-- Some die sensor shows 150 °C or more. -/
def State.dieAt150 (s : State) : Bool := (List.range 6).any fun i =>
  decide (s.get (THM_DIE.TEMP i) ≠ 0x8000) && decide (15000 ≤ sgn 16 (s.get (THM_DIE.TEMP i)))

/-- The state in which a window judges the shutdown. -/
def State.heatDone (s : State) (rs hv : List (Option Int)) : State :=
  (s.heatActed rs hv).mapThermal fun x => { x with hvWarm := x.hvWarm &&& hvWarmMask hv }

theorem heatSeen_thermal (s : State) (rs hv : List (Option Int)) : (s.heatSeen rs hv).thermal = s.thermal.window rs :=
  thmShow_thermal _ rs hv

theorem thmWindow_eq {s : State} {rs hv : List (Option Int)} (hgood : ∀ i, (s.thermal.window rs).faulty i = false) :
    s.thmWindow rs hv = (s.heatDone rs hv).when (s.heatDone rs hv).dieAt150 State.dieShutdown := by
  have hnone : decide (3 ≤ ((List.range 6).filter (s.heatSeen rs hv).thermal.faulty).length) = false := by
    rw [heatSeen_thermal, List.filter_eq_nil_iff.mpr fun i _ => by rw [hgood i]; exact Bool.false_ne_true]
    rfl
  have hwhen : (s.heatSeen rs hv).when (decide (3 ≤ ((List.range 6).filter
      (s.heatSeen rs hv).thermal.faulty).length)) State.dieUnknown = s.heatSeen rs hv := by rw [hnone]; rfl
  unfold State.heatDone State.heatActed
  rw [← hwhen]
  rfl

theorem heatDone_rest (s : State) (rs hv : List (Option Int)) : (s.heatDone rs hv).rest = s.rest := by
  simp [State.heatDone, State.heatActed, State.heatSeen]

/-! ### The throttle request (R66) -/

/-- The throttle request and the grace timer set. -/
def State.throttleBegun (s : State) : State :=
  ((s.put THM_STAT.THROT_REQ true).put THM_STAT.GRACE_RUN true).mapThermal fun x =>
    { x with graceAt := s.nowUs + 1000 * s.get THM_GRACE.MS }

/-- The throttle request cleared, and with it the grace timer. -/
def State.throttleEnded (s : State) : State :=
  ((s.put THM_STAT.THROT_REQ false).put THM_STAT.GRACE_RUN false).mapThermal fun x =>
    { x with restore := s.flag THM_STAT.ENFORCED }

theorem get_put_put (s : State) {f g : Fld} (v : Bool) (hne : f.key ≠ g.key) (hf : f.width = 1) (hg : g.width = 1) :
    ((s.put f v).put g v).get f = b2n v ∧ ((s.put f v).put g v).get g = b2n v := by
  have hlt : b2n v % 2 ^ 1 = b2n v := by cases v <;> rfl
  refine ⟨(get_put_ne _ _ hne).trans ((get_set_same _ _ _).trans ?_), (get_set_same _ _ _).trans ?_⟩
  · rw [hf, hlt]
  · rw [hg, hlt]

theorem get_throttleBegun (s : State) :
    s.throttleBegun.get THM_STAT.THROT_REQ = 1 ∧ s.throttleBegun.get THM_STAT.GRACE_RUN = 1 :=
  get_put_put s (f := THM_STAT.THROT_REQ) (g := THM_STAT.GRACE_RUN) true (by decide) rfl rfl

theorem get_throttleEnded (s : State) :
    s.throttleEnded.get THM_STAT.THROT_REQ = 0 ∧ s.throttleEnded.get THM_STAT.GRACE_RUN = 0 :=
  get_put_put s (f := THM_STAT.THROT_REQ) (g := THM_STAT.GRACE_RUN) false (by decide) rfl rfl

/-- Keys that the throttle request does not write. -/
abbrev calmKey (k : Nat) : Prop := k ≠ THM_STAT.THROT_REQ.key ∧ k ≠ THM_STAT.GRACE_RUN.key ∧ ¬ evtKey k

theorem keeps_throttleBegun (s : State) : s.keeps calmKey s.throttleBegun :=
  (((State.keeps.refl _ s).put _ (by decide) (by decide)).put _ (by decide) (by decide)).mapThermal _

theorem keeps_throttleEnded (s : State) : s.keeps calmKey s.throttleEnded :=
  (((State.keeps.refl _ s).put _ (by decide) (by decide)).put _ (by decide) (by decide)).mapThermal _

section
variable {s : State} {h : Int} (hknown : s.thermal.unknown = false) (hhot : s.get THM_HOT.TEMP = enc 16 h)
  (hlo : -32768 < h) (hhi : h < 32768)
include hknown hhot hlo hhi

theorem throttle_eq_set (hreq : s.get THM_STAT.THROT_REQ = 0) (hlevel : 100 * (s.get THM_THROT.LEVEL : Int) ≤ h) :
    s.throttle = s.throttleBegun.raise 9 := by
  have hna : ¬ (enc 16 h = 0x8000 ∨ s.thermal.unknown = true) := by
    rw [hknown]
    simpa using enc16_ne_na hlo hhi
  have hclear : s.flag THM_STAT.THROT_REQ = false := decide_eq_false (not_not.mpr hreq)
  unfold State.throttle
  dsimp only
  rw [hhot, if_neg hna, sgn_enc16 hlo hhi, if_pos ⟨hclear, hlevel⟩]
  rfl

theorem throttle_eq_clear (hreq : s.get THM_STAT.THROT_REQ ≠ 0)
    (hlevel : h < 100 * (s.get THM_THROT.LEVEL : Int) - 100 * s.get THM_THROT.HYST) :
    s.throttle = s.throttleEnded := by
  have hna : ¬ (enc 16 h = 0x8000 ∨ s.thermal.unknown = true) := by
    rw [hknown]
    simpa using enc16_ne_na hlo hhi
  have hset : s.flag THM_STAT.THROT_REQ = true := decide_eq_true hreq
  unfold State.throttle
  dsimp only
  rw [hhot, if_neg hna, sgn_enc16 hlo hhi, if_neg (by rw [hset]; simp), if_pos ⟨hset, hlevel⟩]
  rfl

end

theorem keeps_throttle (s : State) : s.keeps calmKey s.throttle := by
  unfold State.throttle
  exact .ite (fun _ => .refl _ s) fun _ =>
    .ite (fun _ => (keeps_throttleBegun s).raise (fun _ hk => hk.2.2) (by decide)) fun _ =>
      .ite (fun _ => keeps_throttleEnded s) fun _ => .refl _ s

/-! ### The refill rate (R72) -/

theorem keeps_showRate (s : State) : s.keeps (· ≠ THM_RATE.R.key) s.showRate :=
  (State.keeps.refl _ s).set _ (by decide) (by decide)

theorem keeps_thmRate (s : State) : s.keeps (· ≠ THM_RATE.R.key) s.thmRate :=
  ((State.keeps.refl _ s).mapThermal _).trans (keeps_showRate _)

section
variable {s : State} {h : Int} (hhot : s.get THM_HOT.TEMP = enc 16 h) (hlo : -32768 < h) (hhi : h < 32768)
  (henf : s.get THM_STAT.ENFORCED = 0)
include hhot hlo hhi henf

theorem get_rate_thmRate_hot (hfull : 0 < s.get THM_HFULL.HFULL) (hlevel : 100 * (s.get THM_THROT.LEVEL : Int) ≤ h) :
    s.thmRate.get THM_RATE.R = s.get THM_REFILL.RMIN % 2 ^ 16 := by
  have henforced : ∀ g, (s.mapThermal g).flag THM_STAT.ENFORCED = false := fun _ => decide_eq_false (not_not.mpr henf)
  unfold State.thmRate State.showRate
  dsimp only
  rw [get_set_same, henforced, if_neg Bool.false_ne_true, hhot, if_neg (enc16_ne_na hlo hhi), sgn_enc16 hlo hhi, if_neg (by omega),
    if_pos (by omega)]
  rfl

theorem get_rate_thmRate_cool (hlevel : h + 100 * s.get THM_HFULL.HFULL ≤ 100 * (s.get THM_THROT.LEVEL : Int)) :
    s.thmRate.get THM_RATE.R = s.get THM_REFILL.RMAX % 2 ^ 16 := by
  have henforced : ∀ g, (s.mapThermal g).flag THM_STAT.ENFORCED = false := fun _ => decide_eq_false (not_not.mpr henf)
  unfold State.thmRate State.showRate
  dsimp only
  rw [get_set_same, henforced, if_neg Bool.false_ne_true, hhot, if_neg (enc16_ne_na hlo hhi), sgn_enc16 hlo hhi, if_pos (by omega)]
  rfl

end

/-! ### The registers after a window -/

section
variable {s : State} {rs hv : List (Option Int)} {d : Nat → Int} {h : Int} (hc : CloseReadings rs d)
  (hdev : s.thermal.devFault = 0)
include hc hdev

theorem good_window {i : Nat} (hi : i < 6) : (s.thermal.window rs).good rs i = some (d i) := by
  unfold ThermalSt.good
  rw [hc.faulty hdev i, hc.reads i hi]
  rfl

theorem get_die_heatSeen {i : Nat} (hi : i < 6) : (s.heatSeen rs hv).get (THM_DIE.TEMP i) = enc 16 (d i) := by
  refine (get_die_thmShow _ rs hv hi).trans ?_
  rw [State.mapThermal_thermal, good_window hc hdev hi]
  exact Nat.mod_eq_of_lt (enc16_lt _)

theorem get_sensFault_heatSeen : (s.heatSeen rs hv).get THM_STAT.SENS_FAULT = 0 := by
  have hnone : (List.range 6).any (s.thermal.window rs).faulty = false :=
    List.any_eq_false.mpr fun i _ => by rw [hc.faulty hdev i]; exact Bool.false_ne_true
  refine (get_sensFault_thmShow _ rs hv).trans ?_
  rw [State.mapThermal_thermal, hnone]
  rfl

theorem get_hot_heatSeen (hmem : ∃ k < 6, d k = h) (hmax : ∀ i < 6, d i ≤ h) :
    (s.heatSeen rs hv).get THM_HOT.TEMP = enc 16 h := by
  obtain ⟨k, hk, hfold, hle⟩ := hotStep_foldl (d := d) 5 fun i hi => good_window (s := s) hc hdev hi
  obtain ⟨j, hj, rfl⟩ := hmem
  have hkj : d k = d j := le_antisymm (hmax k hk) (hle j hj)
  have hhottest : (s.thermal.window rs).hottest rs = some (k, d k) := hfold
  refine (get_hot_thmShow _ rs hv).trans ?_
  rw [State.mapThermal_thermal, hhottest, ← hkj]
  exact Nat.mod_eq_of_lt (enc16_lt _)

end

theorem keeps_heatSeen (s : State) (rs hv : List (Option Int)) :
    s.keeps (fun k => ¬ shownKey k) (s.heatSeen rs hv) :=
  ((State.keeps.refl _ s).mapThermal _).trans (keeps_thmShow _ rs hv)

/-- What the readings show stands through the throttle request and the refill rate. -/
theorem get_heatDone {q : Fld} (hcalm : calmKey q.key) (hrate : q.key ≠ THM_RATE.R.key) (s : State)
    (rs hv : List (Option Int)) : (s.heatDone rs hv).get q = (s.heatSeen rs hv).get q :=
  ((keeps_thmRate _).get_eq q hrate).trans ((keeps_throttle _).get_eq q hcalm)

section
variable {s : State} {rs hv : List (Option Int)} {d : Nat → Int} {h : Int} (hc : CloseReadings rs d)
  (hdev : s.thermal.devFault = 0) (hmem : ∃ k < 6, d k = h) (hmax : ∀ i < 6, d i ≤ h)
include hc hdev

theorem get_die_heatDone {i : Nat} (hi : i < 6) : (s.heatDone rs hv).get (THM_DIE.TEMP i) = enc 16 (d i) := by
  have hcalm : ∀ i < 6, calmKey (THM_DIE.TEMP i).key ∧ (THM_DIE.TEMP i).key ≠ THM_RATE.R.key := by decide
  obtain ⟨hk, hrate⟩ := hcalm i hi
  rw [get_heatDone hk hrate, get_die_heatSeen hc hdev hi]

include hmem hmax

/-- The shutdown is due where the hottest reading is 150 °C or more. -/
theorem dieAt150_heatDone : (s.heatDone rs hv).dieAt150 = decide (15000 ≤ h) := by
  obtain ⟨k, hk, hdk⟩ := hmem
  unfold State.dieAt150
  rw [Bool.eq_iff_iff, List.any_eq_true, decide_eq_true_iff]
  have hat : ∀ i < 6, (decide ((s.heatDone rs hv).get (THM_DIE.TEMP i) ≠ 0x8000) &&
      decide (15000 ≤ sgn 16 ((s.heatDone rs hv).get (THM_DIE.TEMP i)))) = decide (15000 ≤ d i) := by
    intro i hi
    obtain ⟨hlo, hhi⟩ := hc.inRange i hi
    rw [get_die_heatDone hc hdev hi, sgn_enc16 (by omega) (by omega),
      decide_eq_true (enc16_ne_na (x := d i) (by omega) (by omega)), Bool.true_and]
  constructor
  · rintro ⟨i, hi, hhot⟩
    have hi6 := List.mem_range.mp hi
    rw [hat i hi6] at hhot
    exact (of_decide_eq_true hhot).trans (hmax i hi6)
  · intro hle
    exact ⟨k, List.mem_range.mpr hk, by rw [hat k hk, hdk]; exact decide_eq_true hle⟩

/-- The registers show a window of close readings below 150 °C. -/
theorem heatDone_shows : (∀ i < 6, (s.heatDone rs hv).get (THM_DIE.TEMP i) = enc 16 (d i)) ∧
    (s.heatDone rs hv).get THM_HOT.TEMP = enc 16 h ∧ (s.heatDone rs hv).get THM_STAT.SENS_FAULT = 0 := by
  refine ⟨fun i hi => get_die_heatDone hc hdev hi, ?_, ?_⟩
  · rw [get_heatDone (by decide) (by decide), get_hot_heatSeen hc hdev hmem hmax]
  · rw [get_heatDone (by decide) (by decide), get_sensFault_heatSeen hc hdev]

end

end Sys2Proof.Machine
end

section
/-! PROOF. A window of close readings, judged (R66, R69, R72). -/

namespace Sys2Proof.Machine
open Sys2Proof Sys2Proof.Reg

/-! ### Below 150 °C -/

theorem CloseReadings.hottest {rs : List (Option Int)} {d : Nat → Int} {h : Int} (hc : CloseReadings rs d)
    (hmem : ∃ k < 6, d k = h) : -32768 < h ∧ h < 32768 := by
  obtain ⟨k, hk, rfl⟩ := hmem
  obtain ⟨hlo, hhi⟩ := hc.inRange k hk
  omega

/-- What follows the throttle request in a window. -/
theorem keeps_heatDone (s : State) (rs hv : List (Option Int)) :
    (s.heatSeen rs hv).throttle.keeps (· ≠ THM_RATE.R.key) (s.heatDone rs hv) := (keeps_thmRate _).mapThermal _

section
variable {s : State} {rs hv : List (Option Int)} {d : Nat → Int} {h : Int} (hc : CloseReadings rs d)
  (hdev : s.thermal.devFault = 0)
include hc hdev

theorem heatSeen_unknown : (s.heatSeen rs hv).thermal.unknown = s.thermal.unknown := by
  obtain ⟨-, -, hunknown⟩ := hc.window hdev
  rw [heatSeen_thermal, hunknown]

variable (hmem : ∃ k < 6, d k = h) (hmax : ∀ i < 6, d i ≤ h)
include hmem hmax

/-- At LEVEL the throttle request sets, with the grace timer and source 9. -/
theorem heatDone_sets (hknown : s.thermal.unknown = false) (hreq : s.get THM_STAT.THROT_REQ = 0)
    (hlevel : 100 * (s.get THM_THROT.LEVEL : Int) ≤ h) : (s.heatDone rs hv).get THM_STAT.THROT_REQ = 1 ∧
      (s.heatDone rs hv).get THM_STAT.GRACE_RUN = 1 ∧ s.asserts (s.heatDone rs hv) 9 := by
  obtain ⟨hlo, hhi⟩ := hc.hottest hmem
  have hseen := keeps_heatSeen s rs hv
  have hthrottle := throttle_eq_set ((heatSeen_unknown (hv := hv) hc hdev).trans hknown)
    (get_hot_heatSeen hc hdev hmem hmax) hlo hhi ((hseen.get_eq _ (by decide)).trans hreq)
    (by rwa [hseen.get_eq _ (by decide)])
  have hdone := keeps_heatDone s rs hv
  rw [hthrottle] at hdone
  obtain ⟨hreq1, hrun1⟩ := get_throttleBegun (s.heatSeen rs hv)
  have hcfg : s.keeps (cfgKey 9) (s.heatSeen rs hv).throttleBegun :=
    (hseen.mono (by rintro k (rfl | rfl | rfl) <;> decide)).trans
      ((keeps_throttleBegun _).mono (by rintro k (rfl | rfl | rfl) <;> decide))
  refine ⟨?_, ?_, asserts_of_keeps (by decide) (asserts_of_kept_cfg hcfg (fun _ => id) (asserts_raise _ 9)) hdone⟩
  · rw [hdone.get_eq _ (by decide), get_raise_ne _ (by decide) (by decide), hreq1]
  · rw [hdone.get_eq _ (by decide), get_raise_ne _ (by decide) (by decide), hrun1]

/-- Below LEVEL less HYST it clears, and the grace timer with it. -/
theorem heatDone_clears (hknown : s.thermal.unknown = false) (hreq : s.get THM_STAT.THROT_REQ ≠ 0)
    (hlevel : h < 100 * (s.get THM_THROT.LEVEL : Int) - 100 * s.get THM_THROT.HYST) :
    (s.heatDone rs hv).get THM_STAT.THROT_REQ = 0 ∧ (s.heatDone rs hv).get THM_STAT.GRACE_RUN = 0 := by
  obtain ⟨hlo, hhi⟩ := hc.hottest hmem
  have hseen := keeps_heatSeen s rs hv
  have hthrottle := throttle_eq_clear ((heatSeen_unknown (hv := hv) hc hdev).trans hknown)
    (get_hot_heatSeen hc hdev hmem hmax) hlo hhi (by rwa [hseen.get_eq _ (by decide)])
    (by rwa [hseen.get_eq _ (by decide), hseen.get_eq _ (by decide)])
  have hdone := keeps_heatDone s rs hv
  rw [hthrottle] at hdone
  obtain ⟨hreq0, hrun0⟩ := get_throttleEnded (s.heatSeen rs hv)
  exact ⟨(hdone.get_eq _ (by decide)).trans hreq0, (hdone.get_eq _ (by decide)).trans hrun0⟩

/-- R is RMIN without headroom and RMAX from HFULL on. -/
theorem heatDone_rate (henf : s.get THM_STAT.ENFORCED = 0) (hfull : 0 < s.get THM_HFULL.HFULL) :
    (100 * (s.get THM_THROT.LEVEL : Int) ≤ h →
      (s.heatDone rs hv).get THM_RATE.R = s.get THM_REFILL.RMIN % 2 ^ 16) ∧
    (h + 100 * s.get THM_HFULL.HFULL ≤ 100 * (s.get THM_THROT.LEVEL : Int) →
      (s.heatDone rs hv).get THM_RATE.R = s.get THM_REFILL.RMAX % 2 ^ 16) := by
  obtain ⟨hlo, hhi⟩ := hc.hottest hmem
  have hkept : ∀ {q : Fld}, ¬ shownKey q.key → calmKey q.key → (s.heatSeen rs hv).throttle.get q = s.get q :=
    fun hshown hcalm => ((keeps_throttle _).get_eq _ hcalm).trans ((keeps_heatSeen s rs hv).get_eq _ hshown)
  have hhot : (s.heatSeen rs hv).throttle.get THM_HOT.TEMP = enc 16 h :=
    ((keeps_throttle _).get_eq _ (by decide)).trans (get_hot_heatSeen hc hdev hmem hmax)
  have hlevel := hkept (q := THM_THROT.LEVEL) (by decide) (by decide)
  have hhfull := hkept (q := THM_HFULL.HFULL) (by decide) (by decide)
  have henf' := (hkept (q := THM_STAT.ENFORCED) (by decide) (by decide)).trans henf
  refine ⟨fun hle => ?_, fun hle => ?_⟩
  · rw [← hkept (q := THM_REFILL.RMIN) (by decide) (by decide)]
    exact get_rate_thmRate_hot hhot hlo hhi henf' (by rwa [hhfull]) (by rwa [hlevel])
  · rw [← hkept (q := THM_REFILL.RMAX) (by decide) (by decide)]
    exact get_rate_thmRate_cool hhot hlo hhi henf' (by rwa [hlevel, hhfull])

end

/-! ### The shutdown at 150 °C (R69) -/

/-- The module held in reset by the die, with the deviation runs of `x`. -/
def State.dieHeld (s : State) (x : ThermalSt) : State :=
  (s.mapSys fun y => { y with dieOff := true, booting := false }).mapThermal fun y =>
    { y with devOut := x.devOut, devIn := x.devIn, devFault := x.devFault }

theorem dieHeld_off {s : State} (h : s.coresOff) (x : ThermalSt) :
    (s.dieHeld x).coresOff ∧ (s.dieHeld x).sys.dieOff = true := ⟨h, rfl⟩

theorem get_dieHeld (s : State) (x : ThermalSt) (q : Fld) : (s.dieHeld x).get q = s.get q := rfl

theorem dieShutdown_eq (s : State) : ∃ (t : State) (x : ThermalSt),
    s.dieShutdown = ((t.put THM_LATCH.DIE_PAST true).moduleReset).dieHeld x := ⟨_, _, rfl⟩

theorem dieShutdown_off (s : State) :
    s.dieShutdown.coresOff ∧ s.dieShutdown.sys.dieOff = true ∧ s.dieShutdown.get THM_LATCH.DIE_PAST = 1 := by
  have hkept : keptEntry (THM_LATCH.DIE_PAST.key, 0) = true := by decide +kernel
  obtain ⟨t, x, heq⟩ := dieShutdown_eq s
  obtain ⟨hcores, hheld⟩ := dieHeld_off (moduleReset_coresOff (t.put THM_LATCH.DIE_PAST true)) x
  rw [heq]
  refine ⟨hcores, hheld, ?_⟩
  rw [get_dieHeld, get_moduleReset _ (by decide) fun _ => hkept]
  exact get_set_same _ _ _

/-! ### The sensor window -/

/-- Readings of a list of six close temperatures. -/
theorem closeReadings_map_some {l : List Int} (hlen : l.length = 6)
    (h : ∀ x ∈ l, ∀ y ∈ l, -5500 ≤ x ∧ x ≤ 17500 ∧ x - y ≤ 1500) :
    CloseReadings (l.map some) fun i => l.getD i 0 := by
  have hget : ∀ i < 6, l.getD i 0 ∈ l := fun i hi => by
    rw [List.getD_eq_getElem _ _ (by omega)]
    exact List.getElem_mem _
  refine ⟨by rw [List.length_map, hlen], fun i hi => ?_, fun i hi => ?_, fun i hi j hj => ?_⟩
  · rw [List.getD_eq_getElem _ _ (by rw [List.length_map]; omega), List.getD_eq_getElem _ _ (by omega),
      List.getElem_map]
  · obtain ⟨hlo, hhi, -⟩ := h _ (hget i hi) _ (hget i hi)
    exact ⟨hlo, hhi⟩
  · obtain ⟨-, -, hclose⟩ := h _ (hget i hi) _ (hget j hj)
    exact hclose

section
variable {s : State} {rs hv : List (Option Int)} {d : Nat → Int} {h : Int} (hc : CloseReadings rs d)
  (hdev : s.thermal.devFault = 0) (hmem : ∃ k < 6, d k = h) (hmax : ∀ i < 6, d i ≤ h)
include hc hdev hmem hmax

theorem thmWindow_eq_heatDone (hcool : h < 15000) : s.thmWindow rs hv = s.heatDone rs hv := by
  rw [thmWindow_eq (hc.faulty hdev), dieAt150_heatDone hc hdev hmem hmax, decide_eq_false (not_le.mpr hcool)]
  rfl

theorem thmWindow_eq_dieShutdown (hhot : 15000 ≤ h) : s.thmWindow rs hv = (s.heatDone rs hv).dieShutdown := by
  rw [thmWindow_eq (hc.faulty hdev), dieAt150_heatDone hc hdev hmem hmax, decide_eq_true hhot]
  rfl

end

theorem execThmSensorWindow_eq (n0 n1 n2 n3 n4 n5 : Nat) (v0 v1 : Option Int) {s : State}
    (hgait : s.gait ≠ Gait.stable) (hon : s.sys.on = true) (hrun : s.inReset = false) :
    exec (.thmSensorWindow n0 n1 n2 n3 n4 n5 v0 v1) s = .next (s.thmWindow
      [dieTemp 0 n0, dieTemp 1 n1, dieTemp 2 n2, dieTemp 3 n3, dieTemp 4 n4, dieTemp 5 n5] [v0, v1]) := by
  show execThmSensorWindow n0 n1 n2 n3 n4 n5 v0 v1 s = _
  unfold execThmSensorWindow
  rw [hon, hrun, if_neg (by simpa using hgait)]

end Sys2Proof.Machine
end

section
/-! PROOF. Grace and release, the end of a die shutdown, the HV converter, the energy tokens (R66-R71). -/

namespace Sys2Proof.Machine
open Sys2Proof Sys2Proof.Reg

/-! ### Grace and release (R66, R67) -/

theorem raise_thermal (s : State) (n : Nat) : (s.raise n).thermal = s.thermal := by
  unfold State.raise State.softEvt State.latchEvt
  repeat' split
  all_goals rfl

theorem herdClk_thermal (s : State) : s.herdClk.thermal = s.thermal := by
  unfold State.herdClk
  split <;> rfl

/-- The Herd's clock and the refill rate follow the end or the begin of enforcement. -/
theorem keeps_clk_rate {P : Nat → Prop} (hclk : ¬ P HRD_STAT.CLK.key) (hhalved : ¬ P HRD_STAT.HALVED.key)
    (hrate : ¬ P THM_RATE.R.key) (s : State) : s.keeps P s.herdClk.showRate :=
  (keeps_herdClk hclk hhalved s).set _ hrate (by decide)

/-- Keys of ENFORCED and GRACE_RUN. -/
abbrev throtKey (k : Nat) : Prop := k = THM_STAT.ENFORCED.key ∨ k = THM_STAT.GRACE_RUN.key

/-- The throttle enforced, with source 10. -/
def State.enforced (s : State) : State :=
  (((s.put THM_STAT.GRACE_RUN false).put THM_STAT.ENFORCED true).raise 10).herdClk.showRate

theorem get_enforced (s : State) :
    s.enforced.get THM_STAT.ENFORCED = 1 ∧ s.enforced.get THM_STAT.GRACE_RUN = 0 := by
  have htold := keeps_clk_rate (P := throtKey) (by decide) (by decide) (by decide)
    (((s.put THM_STAT.GRACE_RUN false).put THM_STAT.ENFORCED true).raise 10)
  refine ⟨(htold.get_eq _ (by decide)).trans ?_, (htold.get_eq _ (by decide)).trans ?_⟩
  · rw [get_raise_ne _ (by decide) (by decide)]
    exact get_set_same _ _ _
  · rw [get_raise_ne _ (by decide) (by decide), get_put_ne _ _ (by decide)]
    exact get_set_same _ _ _

theorem asserts_enforced (s : State) : s.asserts s.enforced 10 := by
  have hcfg : s.keeps (cfgKey 10) ((s.put THM_STAT.GRACE_RUN false).put THM_STAT.ENFORCED true) :=
    ((State.keeps.refl _ s).put _ (by unfold cfgKey; decide) (by decide)).put _ (by unfold cfgKey; decide) (by decide)
  exact asserts_of_keeps (by decide) (asserts_of_kept_cfg hcfg (fun _ => id) (asserts_raise _ 10))
    (keeps_clk_rate (P := throtKey) (by decide) (by decide) (by decide) _)

/-- Enforcement in Gallop forces T11. -/
def State.enforcedGait (s : State) : State :=
  if s.gait = Gait.gallop then s.standbyLocal.forceTrans 11 Gait.canter 6 else s

theorem execThmGraceExpiry_due {s : State} (hrun : s.get THM_STAT.GRACE_RUN ≠ 0) (hreq : s.get THM_STAT.THROT_REQ ≠ 0)
    (henf : s.get THM_STAT.ENFORCED = 0) (hdue : s.thermal.graceAt ≤ s.nowUs) :
    exec .thmGraceExpiry s = .next s.enforced.enforcedGait := by
  have hflag : (s.put THM_STAT.GRACE_RUN false).flag THM_STAT.ENFORCED = false := by
    rw [flag_put_ne _ _ (by decide)]
    exact decide_eq_false (not_not.mpr henf)
  have hstands : ¬ (s.flag THM_STAT.GRACE_RUN = false ∨ s.flag THM_STAT.THROT_REQ = false ∨
      s.nowUs < s.thermal.graceAt) := by
    simp only [State.flag, decide_eq_false_iff_not, not_not]
    omega
  show execThmGraceExpiry s = _
  unfold execThmGraceExpiry
  rw [if_neg hstands]
  dsimp only
  rw [hflag]
  rfl

theorem thmGraceExpiry_clause {s : State} (hrun : s.get THM_STAT.GRACE_RUN ≠ 0)
    (hreq : s.get THM_STAT.THROT_REQ ≠ 0) (henf : s.get THM_STAT.ENFORCED = 0) (hdue : s.thermal.graceAt ≤ s.nowUs) :
    ∃ t, exec .thmGraceExpiry s = .next t ∧ s.sameRest t ∧ t.get THM_STAT.ENFORCED = 1 ∧
      t.get THM_STAT.GRACE_RUN = 0 ∧ s.asserts t 10 := by
  have hspares : s.enforced.spares true s.enforced.enforcedGait :=
    .iteStep (.refl _ _) ((spares_standbyLocal _).trans (spares_forceTrans _ _ _ _))
  have hkeeps : s.enforced.keeps clkGaitKey s.enforced.enforcedGait :=
    .iteStep (.refl _ _) ((keeps_standbyLocal _).trans (keeps_forceTrans _ _ _ _))
  have hrest : s.enforced.enforcedGait.rest = s.rest := by
    unfold State.enforcedGait State.enforced
    split <;> simp
  obtain ⟨hone, hzero⟩ := get_enforced s
  exact ⟨_, execThmGraceExpiry_due hrun hreq henf hdue, State.sameRest_of_rest hrest,
    (hspares.get_eq _ (by decide)).trans hone, (hspares.get_eq _ (by decide)).trans hzero,
    asserts_of_keeps (by decide) (asserts_enforced s) hkeeps⟩

theorem execThmGraceExpiry_early {s : State} (h : s.nowUs < s.thermal.graceAt) :
    exec .thmGraceExpiry s = .next s := if_pos (.inr (.inr h))

theorem thmRelease_clause {s : State} (h : s.thermal.restore = true) :
    ∃ t, exec .thmRelease s = .next t ∧ s.sameRest t ∧ t.get THM_STAT.ENFORCED = 0 ∧ t.thermal.restore = false ∧
      s.asserts t 11 := by
  have hcfg : s.keeps (cfgKey 11) ((s.put THM_STAT.ENFORCED false).mapThermal fun x => { x with restore := false }) :=
    ((State.keeps.refl _ s).put _ (by unfold cfgKey; decide) (by decide)).mapThermal _
  have htold := keeps_clk_rate (P := throtKey) (by decide) (by decide) (by decide)
    (((s.put THM_STAT.ENFORCED false).mapThermal fun x => { x with restore := false }).raise 11)
  refine ⟨_, if_pos h, State.sameRest_of_rest (by simp), (htold.get_eq _ (by decide)).trans ?_, ?_,
    asserts_of_keeps (by decide) (asserts_of_kept_cfg hcfg (fun _ => id) (asserts_raise _ 11)) htold⟩
  · rw [get_raise_ne _ (by decide) (by decide), get_mapThermal]
    exact get_set_same s _ _
  · exact congrArg (·.restore) ((herdClk_thermal _).trans (raise_thermal _ 11))

theorem execThmRelease_none {s : State} (h : s.thermal.restore = false) : exec .thmRelease s = .next s :=
  if_neg (by rw [h]; exact Bool.false_ne_true)

/-! ### The end of a die shutdown (R65, R69) -/

/-- The readings of the sensors that are not faulty. -/
def validReadings (x : ThermalSt) (rs : List (Option Int)) : List Int :=
  ((List.range 6).filter fun i => !(x.faulty i)).filterMap fun i => rs.getD i none

theorem mem_validReadings {x : ThermalSt} {rs : List (Option Int)} {y : Int} :
    y ∈ validReadings x rs ↔ ∃ i < 6, rs.getD i none = some y ∧ x.faulty i = false := by
  simp only [validReadings, List.mem_filterMap, List.mem_filter, List.mem_range, Bool.not_eq_true']
  exact exists_congr fun i => by tauto

theorem dieCooling_restarts {s : State} {rs : List (Option Int)} (hsome : ∃ y, y ∈ validReadings (s.thermal.window rs) rs)
    (hcool : ∀ y ∈ validReadings (s.thermal.window rs) rs, y < 12500) :
    (s.dieCooling rs).rebooted ∧ (s.dieCooling rs).get SYS_RSTCAUSE.THERM = 1 := by
  obtain ⟨y, hy⟩ := hsome
  have hall : (validReadings (s.thermal.window rs) rs).all (fun t => decide (t < 12500)) = true :=
    List.all_eq_true.mpr fun y hy => decide_eq_true (hcool y hy)
  have heq : s.dieCooling rs = (s.mapThermal fun x => x.window rs).powerUp SYS_RSTCAUSE.THERM :=
    if_pos ⟨List.ne_nil_of_mem hy, hall⟩
  rw [heq]
  exact ⟨powerUp_rebooted _ _, get_cause_powerUp _ rfl (by decide) rfl⟩

theorem dieCooling_waits {s : State} {rs : List (Option Int)}
    (h : (∀ y, y ∉ validReadings (s.thermal.window rs) rs) ∨ ∃ y ∈ validReadings (s.thermal.window rs) rs, 12500 ≤ y) :
    s.dieCooling rs = s.mapThermal fun x => x.window rs := by
  refine if_neg ?_
  rintro ⟨hne, hall⟩
  rcases h with hnone | ⟨y, hy, hhot⟩
  · exact hne (List.eq_nil_iff_forall_not_mem.mpr hnone)
  · exact absurd (of_decide_eq_true (List.all_eq_true.mp hall y hy)) (not_lt.mpr hhot)

theorem execDieRestart_held (n0 n1 n2 n3 n4 n5 : Nat) {s : State} (h : s.sys.dieOff = true) :
    exec (.dieRestart n0 n1 n2 n3 n4 n5) s = .next (s.dieCooling
      [dieTemp 0 n0, dieTemp 1 n1, dieTemp 2 n2, dieTemp 3 n3, dieTemp 4 n4, dieTemp 5 n5]) := if_pos h

/-! ### The HV converter (R70) -/

/-- What the trip shows: HV_CONV of THM_LATCH, READY and SUPPLY_OK of HVM_STAT. -/
abbrev convKey (k : Nat) : Prop :=
  k = THM_LATCH.HV_CONV.key ∨ k = HVM_STAT.READY.key ∨ k = HVM_STAT.SUPPLY_OK.key

theorem not_evtKey_of_convKey (k : Nat) (h : convKey k) : ¬ evtKey k := by
  rcases h with rfl | rfl | rfl <;> decide

theorem keeps_hvLost (s : State) : s.keeps convKey s.hvLost := by
  have hiso : ∀ t : State, t.keeps convKey t.isoInvalid := fun t => by
    unfold State.isoInvalid
    exact .when (((((State.keeps.refl _ t).put _ (by decide) (by decide)).put _ (by decide) (by decide)).set _
      (by decide) (by decide)).put _ (by decide) (by decide)) _ (keeps_raise not_evtKey_of_convKey _ (by decide))
  have hinv : s.keeps convKey s.hvInvalid := by
    have hval : s.keeps convKey ((s.set HVM_IPROT.VAL na32).set HVM_IFINE.VAL na32) :=
      ((State.keeps.refl _ s).set _ (by decide) (by decide)).set _ (by decide) (by decide)
    have hvolt : ∀ t : State, t.keeps convKey (t.setVolts none none none) := fun t =>
      (((State.keeps.refl _ t).set _ (by decide) (by decide)).set _ (by decide) (by decide)).set _ (by decide)
        (by decide)
    exact (hval.trans (hvolt _)).of_eq rfl rfl rfl
  exact .when hinv _ (hiso _)

theorem keeps_pchAbort (s : State) : s.keeps convKey s.pchAbort := by
  have henter : s.keeps convKey ((s.set HVM_PCHSTAT.STATE Pch.idle).set HVM_PCHSTAT.REASON 6) :=
    ((State.keeps.refl _ s).set _ (by decide) (by decide)).set _ (by decide) (by decide)
  exact .iteStep (.refl _ s) henter

/-- The converter latched off. -/
def State.convOff (s : State) : State :=
  (((s.put THM_LATCH.HV_CONV true).raise 12).put HVM_STAT.READY false).put HVM_STAT.SUPPLY_OK false

/-- The HV values end, the precharge check with them, and the supervision of the alive code. -/
def State.sectionLost (s : State) : State :=
  (s.put HVM_STAT.LINK_OK false).hvLost.pchAbort.mapCrb fun x => { x with alive := false }

theorem get_convOff (s : State) : s.convOff.get THM_LATCH.HV_CONV = 1 ∧ s.convOff.get HVM_STAT.READY = 0 ∧
    s.convOff.get HVM_STAT.SUPPLY_OK = 0 := by
  unfold State.convOff
  refine ⟨?_, ?_, get_set_same _ _ _⟩
  · rw [get_put_ne _ _ (by decide), get_put_ne _ _ (by decide), get_raise_ne _ (by decide) (by decide)]
    exact get_set_same _ _ _
  · rw [get_put_ne _ _ (by decide)]
    exact get_set_same _ _ _

theorem asserts_convOff (s : State) : s.asserts s.convOff 12 := by
  have hcfg : s.keeps (cfgKey 12) (s.put THM_LATCH.HV_CONV true) :=
    (State.keeps.refl _ s).put _ (by unfold cfgKey; decide) (by decide)
  exact asserts_of_keeps (P := clkKey) (by decide) (asserts_of_kept_cfg hcfg (fun _ => id) (asserts_raise _ 12))
    (((State.keeps.refl _ _).put _ (by decide) (by decide)).put _ (by decide) (by decide))

theorem keeps_sectionLost (s : State) : s.keeps convKey s.sectionLost :=
  ((((State.keeps.refl _ s).put _ (by decide) (by decide)).trans (keeps_hvLost _)).trans (keeps_pchAbort _)).mapCrb _

theorem spares_aliveTrip (s : State) : s.spares false s.aliveTrip :=
  ((State.spares.refl _ s).set _ (by decide)).trans (spares_curbCause _ _ _ _)

theorem keeps_aliveTrip (s : State) : s.keeps clkKey s.aliveTrip :=
  ((State.keeps.refl _ s).set _ (by decide) (by decide)).trans (keeps_curbCause _ _ _ _)

theorem execHvConverterTrip_run {s : State} (hlatch : s.get THM_LATCH.HV_CONV = 0) (hgait : 2 ≤ s.gait) :
    exec .hvConverterTrip s = .next s.convOff.sectionLost.aliveTrip := by
  have hclear : s.flag THM_LATCH.HV_CONV = false := decide_eq_false (not_not.mpr hlatch)
  refine if_neg ?_
  rw [hclear]
  exact not_or.mpr ⟨Bool.false_ne_true, not_lt.mpr hgait⟩

theorem hvConverterTrip_clause {s : State} (hlatch : s.get THM_LATCH.HV_CONV = 0) (hgait : 2 ≤ s.gait) :
    ∃ t, exec .hvConverterTrip s = .next t ∧ t.get THM_LATCH.HV_CONV = 1 ∧ s.asserts t 12 ∧
      t.get HVM_STAT.READY = 0 ∧ t.get HVM_STAT.SUPPLY_OK = 0 ∧ t.crb.alive = false := by
  have hspares := spares_aliveTrip s.convOff.sectionLost
  have hlost := keeps_sectionLost s.convOff
  have hget : ∀ q : Fld, convKey q.key → apartKey q.key →
      s.convOff.sectionLost.aliveTrip.get q = s.convOff.get q := fun q hconv hapart =>
    (hspares.get_eq q hapart).trans (hlost.get_eq q hconv)
  obtain ⟨hconv, hready, hsupply⟩ := get_convOff s
  exact ⟨_, execHvConverterTrip_run hlatch hgait, (hget _ (by decide) (by decide)).trans hconv,
    asserts_of_keeps (by decide) (asserts_of_keeps (by decide) (asserts_convOff s) hlost) (keeps_aliveTrip _),
    (hget _ (by decide) (by decide)).trans hready, (hget _ (by decide) (by decide)).trans hsupply, hspares.alive⟩

theorem maskOf_lt (n : Nat) (p : Nat → Bool) : maskOf n p < 2 ^ n := by
  induction n with
  | zero => exact Nat.zero_lt_one
  | succ n ih =>
    have hb : b2n (p n) * 2 ^ n ≤ 2 ^ n := by cases p n <;> simp [b2n]
    rw [maskOf, pow_succ]
    omega

/-- Bit `k` of a mask says whether `p` holds there. -/
theorem testBit_maskOf (n : Nat) (p : Nat → Bool) (k : Nat) : (maskOf n p).testBit k = (decide (k < n) && p k) := by
  induction n with
  | zero => exact Nat.zero_testBit k
  | succ n ih =>
    rw [maskOf, Nat.add_comm, Nat.mul_comm, Nat.testBit_two_pow_mul_add _ (maskOf_lt n p), ih]
    split
    case isTrue hlt => rw [decide_eq_true hlt, decide_eq_true (Nat.lt_succ_of_lt hlt)]
    case isFalse hge =>
      by_cases hk : k = n
      · subst hk
        cases p k <;> simp [b2n]
      · have hbit : (b2n (p n)).testBit (k - n) = false := by
          refine Nat.testBit_lt_two_pow ((?_ : _ < 2 ^ 1).trans_le (Nat.pow_le_pow_right (by decide) (by omega)))
          cases p n <;> decide
        rw [hbit, decide_eq_false (by omega), Bool.false_and]

/-- HV sensor `k` shows 105 °C or more. -/
theorem testBit_hvHot (s : State) (k : Fin 2) : s.hvHot.testBit k = true ↔
    s.get (THM_HV.TEMP k) ≠ 0x8000 ∧ 10500 ≤ sgn 16 (s.get (THM_HV.TEMP k)) := by
  unfold State.hvHot
  rw [testBit_maskOf, decide_eq_true k.isLt, Bool.true_and, decide_eq_true_iff]

theorem hvTempWarn_rises {s : State} {k : Fin 2} (hhot : s.hvHot.testBit k = true)
    (hcold : s.thermal.hvWarm.testBit k = false) :
    ∃ t, exec .hvTempWarn s = .next t ∧ s.sameRest t ∧ t.thermal.hvWarm.testBit k = true ∧ s.asserts t 14 := by
  have hbit : (s.thermal.hvWarm ||| s.hvHot).testBit k = true := by rw [Nat.testBit_or, hhot, Bool.or_true]
  have hnew : s.thermal.hvWarm ||| s.hvHot ≠ s.thermal.hvWarm := fun e => by
    rw [e, hcold] at hbit
    exact Bool.false_ne_true hbit
  refine ⟨_, if_neg hnew, State.sameRest_of_rest (by simp), ?_, ?_⟩
  · rw [raise_thermal]
    exact hbit
  · exact asserts_of_kept_cfg (P := cfgKey 14) ((State.keeps.refl _ s).mapThermal _) (fun _ => id) (asserts_raise _ 14)

theorem hvTempWarn_none {s : State} (h : ∀ k : Fin 2, s.hvHot.testBit k = true → s.thermal.hvWarm.testBit k = true) :
    exec .hvTempWarn s = .next s := by
  refine if_pos (Nat.eq_of_testBit_eq fun k => ?_)
  rw [Nat.testBit_or]
  by_cases hk : k < 2
  · cases hhot : s.hvHot.testBit k
    · exact Bool.or_false _
    · rw [h ⟨k, hk⟩ hhot]
      rfl
  · have hnone : s.hvHot.testBit k = false := by
      unfold State.hvHot
      rw [testBit_maskOf, decide_eq_false hk, Bool.false_and]
    rw [hnone, Bool.or_false]

/-! ### Energy tokens (R71) -/

theorem schedule_of_idle {s : State} (h : s.herd.jobs = []) : s.schedule = s :=
  if_pos (.inl (List.isEmpty_iff.mpr h))

/-- The bucket and the accumulator after one refill. -/
def State.refilled (s : State) : State :=
  (s.mapThermal fun x => { x with frac := (s.thermal.frac + s.get THM_RATE.R) % 100 }).set THM_BUCKET.TOKENS
    (min 50000 (s.get THM_BUCKET.TOKENS + (s.thermal.frac + s.get THM_RATE.R) / 100))

theorem execTokenRefill_powered {s : State} (h : s.get HRD_STAT.POWERED ≠ 0) :
    exec .tokenRefill s = .next s.refilled.schedule :=
  if_neg (Bool.eq_false_iff.not.mpr (not_not.mpr (decide_eq_true h)))

theorem tokenRefill_clause {s : State} (hpow : s.get HRD_STAT.POWERED ≠ 0) (hidle : s.herd.jobs = []) :
    ∃ t, exec .tokenRefill s = .next t ∧ s.sameRest t ∧
      t.get THM_BUCKET.TOKENS = min 50000 (s.get THM_BUCKET.TOKENS + (s.thermal.frac + s.get THM_RATE.R) / 100) ∧
      t.thermal.frac = (s.thermal.frac + s.get THM_RATE.R) % 100 := by
  have hexec := execTokenRefill_powered hpow
  have hidle' : s.refilled.herd.jobs = [] := hidle
  rw [schedule_of_idle hidle'] at hexec
  refine ⟨_, hexec, State.sameRest_of_rest (by simp [State.refilled]),
    (get_set_same _ _ _).trans (Nat.mod_eq_of_lt ?_), rfl⟩
  exact (min_le_left _ _).trans_lt (by decide)

theorem execTokenRefill_unpowered {s : State} (h : s.get HRD_STAT.POWERED = 0) : exec .tokenRefill s = .next s :=
  if_pos (decide_eq_false (not_not.mpr h))

end Sys2Proof.Machine
end

section
/-! PROOF. The heat laws (R64-R72). -/

namespace Sys2Proof.Machine
open Sys2Proof Sys2Proof.Reg

/-- The clauses of a die shutdown's end. -/
theorem dieRestart_clause (n0 n1 n2 n3 n4 n5 : Nat) {s : State} (hoff : s.sys.dieOff = true) :
    let rs := [dieTemp 0 n0, dieTemp 1 n1, dieTemp 2 n2, dieTemp 3 n3, dieTemp 4 n4, dieTemp 5 n5]
    let valid (x : Int) : Prop := ∃ i < 6, rs.getD i none = some x ∧ (s.thermal.window rs).faulty i = false
    ((∃ x, valid x) → (∀ x, valid x → x < 12500) →
      ∃ t, exec (.dieRestart n0 n1 n2 n3 n4 n5) s = .next t ∧ t.rebooted ∧ t.get SYS_RSTCAUSE.THERM = 1) ∧
    ((∀ x, ¬ valid x) ∨ (∃ x, valid x ∧ 12500 ≤ x) →
      ∃ t, exec (.dieRestart n0 n1 n2 n3 n4 n5) s = .next t ∧ s.sameRest t ∧ t.sys = s.sys ∧ t.regs = s.regs) := by
  intro rs valid
  have hvalid : ∀ x, valid x ↔ x ∈ validReadings (s.thermal.window rs) rs := fun x => mem_validReadings.symm
  have hexec := execDieRestart_held n0 n1 n2 n3 n4 n5 hoff
  simp only [hvalid]
  refine ⟨fun hsome hcool => ⟨_, hexec, dieCooling_restarts hsome hcool⟩, fun hwait => ?_⟩
  rw [dieCooling_waits hwait] at hexec
  exact ⟨_, hexec, ⟨rfl, rfl, rfl, rfl⟩, rfl, rfl⟩

/-- Settles O38: close readings leave no sensor faulty, so the window is its readings, the throttle request and the
refill rate; the other events are taken one by one. -/
theorem heatActs : Obligations.HeatActs := by
  unfold Obligations.HeatActs
  refine ⟨?_, fun s => ?_⟩
  · intro n0 n1 n2 n3 n4 n5 d0 d1 d2 d3 d4 d5 h v0 v1 s hgait hon hrun hdev hknown d hreads hclose hmem hmax cmd
    have hexec : exec cmd s = .next (s.thmWindow (d.map some) [v0, v1]) :=
      hreads ▸ execThmSensorWindow_eq n0 n1 n2 n3 n4 n5 v0 v1 hgait hon hrun
    have hc : CloseReadings (d.map some) fun i => d.getD i 0 := closeReadings_map_some rfl hclose
    have hbest : ∃ k < 6, d.getD k 0 = h := by
      obtain ⟨k, hk, hget⟩ := List.mem_iff_getElem.mp hmem
      exact ⟨k, hk, (List.getD_eq_getElem _ _ hk).trans hget⟩
    have hle : ∀ i < 6, d.getD i 0 ≤ h := fun i hi => by
      rw [List.getD_eq_getElem _ _ hi]
      exact hmax _ (List.getElem_mem _)
    refine ⟨fun hcool => ?_, fun hhot => ?_⟩
    · rw [thmWindow_eq_heatDone hc hdev hbest hle hcool] at hexec
      obtain ⟨hdie, hhot, hsens⟩ := heatDone_shows (hv := [v0, v1]) hc hdev hbest hle
      exact ⟨_, hexec, State.sameRest_of_rest (heatDone_rest _ _ _), hdie, hhot, hsens,
        heatDone_sets hc hdev hbest hle hknown, heatDone_clears hc hdev hbest hle hknown,
        heatDone_rate hc hdev hbest hle⟩
    · rw [thmWindow_eq_dieShutdown hc hdev hbest hle hhot] at hexec
      exact ⟨_, hexec, dieShutdown_off _⟩
  · exact ⟨thmGraceExpiry_clause, thmRelease_clause, execThmRelease_none, execThmGraceExpiry_early,
      fun n0 n1 n2 n3 n4 n5 => dieRestart_clause n0 n1 n2 n3 n4 n5, hvConverterTrip_clause,
      ⟨fun k hhot => hvTempWarn_rises ((testBit_hvHot s k).mpr hhot),
        fun h => hvTempWarn_none fun k hk => h k ((testBit_hvHot s k).mp hk)⟩,
      tokenRefill_clause, execTokenRefill_unpowered⟩

end Sys2Proof.Machine
end

section
/-! SUPPORT. What an instruction whose fetch raises no exception leaves of the other control registers, and the answer of
an instruction: a value in its destination, the pc past it. -/

namespace Sys2Proof.Machine
open Sys2Proof Sys2Proof.Reg

/-! ### Control registers that stay -/

theorem sameCr_of_eq {s t : State} {c : Core} (h : ∀ n, t.cr c n = s.cr c n) (but : List Nat) : s.sameCr t c but :=
  fun n _ => h n

theorem sameCr_trans {s t u : State} {c : Core} {A B : List Nat} (h : s.sameCr t c A) (k : t.sameCr u c B) :
    s.sameCr u c (B ++ A) := fun n hn => by
  rw [List.mem_append, not_or] at hn
  exact (k n hn.1).trans (h n hn.2)

/-- The control registers that a fetch may change: ECCCNT, by a corrected error (R98). -/
theorem sameCr_fetched (s : State) (f : Fetch) :
    s.sameCr (s.fetched f) f.core (if f.ecc = .corrected then [Cr.ecccnt] else []) := by
  intro n hn
  by_cases h : f.ecc = .corrected
  · rw [if_pos h, List.mem_singleton] at hn
    exact cr_fetched s f hn
  · exact cr_fetched_ok s f n h

theorem sameCr_setFlags (s : State) (c : Core) (z n k v : Bool) : s.sameCr (s.setFlags c z n k v) c [Cr.status] :=
  fun _ hm => cr_setCr_ne _ _ _ (fun e => hm (List.mem_singleton.mpr e))

/-! ### The answer of an instruction -/

/-- A value in `d` and the pc past the instruction, over an intermediate state with the registers and the pc of `s`. -/
theorem answer_clauses {s u : State} {c : Core} (hs : s.sameBut u c) (hg : ∀ r, u.g c r = s.g c r)
    (hpc : u.pc c = s.pc c) (d : Reg) (v : Word) :
    (∀ r, ((u.setG c d v).advance c).g c r = if r = d ∧ r ≠ 0 then v else s.g c r) ∧
      ((u.setG c d v).advance c).pc c = s.pc c + 4 ∧ s.sameBut ((u.setG c d v).advance c) c := by
  refine ⟨fun r => ?_, ?_, ?_⟩
  · rw [g_advance, g_setG, hg]
  · rw [pc_advance, pc_setG, hpc]
  · exact sameBut_trans hs (sameBut_trans (sameBut_setG _ _ _ _) (sameBut_advance _ _))

@[simp] theorem cr_answer (u : State) (c : Core) (d : Reg) (v : Word) (n : Nat) :
    ((u.setG c d v).advance c).cr c n = u.cr c n := by rw [cr_advance, cr_setG]

/-! ### The body, an undefined encoding or a refused instruction (R79, R94) -/

/-- An instruction without an illegal-instruction condition runs its body. -/
theorem instr_body {s : State} {f : Fetch} (hf : s.fetches f = true) (w : Word) (body : State → State) :
    s.instr f w none body = .next (body (s.fetched f)) := instr_fetches hf w none body

@[simp] theorem firstBad_nil : firstBad [] = none := rfl
@[simp] theorem firstBad_false (k : Nat) (l : List (Bool × Nat)) : firstBad ((false, k) :: l) = firstBad l := rfl
@[simp] theorem firstBad_true (k : Nat) (l : List (Bool × Nat)) : firstBad ((true, k) :: l) = some k := rfl

/-- An instruction with an illegal-instruction condition enters its handler. -/
theorem instr_illegal {s : State} {f : Fetch} (hf : s.fetches f = true) (h10 : s.statusBit f.core 10 = false)
    (w : Word) (k : Nat) (body : State → State) :
    ∃ t, s.instr f w (some k) body = .next t ∧ (s.fetched f).entered t f.core 1 k (s.pc f.core) w := by
  refine ⟨_, instr_fetches hf w (some k) body, ?_⟩
  have h := faultHere_entered (s := s.fetched f) (c := f.core) (by rw [statusBit_fetched, h10]) Exc.illegal k w
  rwa [pc_fetched] at h

/-- A fault that the body of an instruction raises enters its handler. -/
theorem faultHere_fetched_entered {s : State} {f : Fetch} (h10 : s.statusBit f.core 10 = false) (cause sub : Nat)
    (eval : Word) :
    (s.fetched f).entered ((s.fetched f).faultHere f.core cause sub eval) f.core cause sub (s.pc f.core) eval := by
  have h := faultHere_entered (s := s.fetched f) (c := f.core) (by rw [statusBit_fetched, h10]) cause sub eval
  rwa [pc_fetched] at h

end Sys2Proof.Machine
end

section
/-! SUPPORT. The integer operations (R85, R86): one form for class 0x0, one for class 0x1, and the results and flags that
Tables GCS-5 and GCS-6 give. -/

namespace Sys2Proof.Machine
open Sys2Proof Sys2Proof.Reg

/-! ### Results -/

theorem slt_result (x y : Word) : (if x.toInt < y.toInt then (1 : Word) else 0) = boolWord (x.slt y) := by
  simp [boolWord, BitVec.slt]

theorem sltu_result (x y : Word) : (if x.toNat < y.toNat then (1 : Word) else 0) = boolWord (x.ult y) := by
  simp [boolWord, BitVec.ult]

theorem min_result (x y : Word) : (if x.toInt ≤ y.toInt then x else y) = if y.slt x then y else x := by
  simp only [BitVec.slt, decide_eq_true_eq]
  rw [← ite_not]
  simp only [not_le]

theorem minu_result (x y : Word) : (if x.toNat ≤ y.toNat then x else y) = if y.ult x then y else x := by
  simp only [BitVec.ult, decide_eq_true_eq]
  rw [← ite_not]
  simp only [not_le]

theorem max_result (x y : Word) : (if y.toInt ≤ x.toInt then x else y) = if x.slt y then y else x := by
  simp only [BitVec.slt, decide_eq_true_eq]
  rw [← ite_not]
  simp only [not_le]

theorem maxu_result (x y : Word) : (if y.toNat ≤ x.toNat then x else y) = if x.ult y then y else x := by
  simp only [BitVec.ult, decide_eq_true_eq]
  rw [← ite_not]
  simp only [not_le]

theorem mulh_result (x y : Word) : BitVec.ofInt 32 (x.toInt * y.toInt / 2 ^ 32) = mulHigh x y := by
  unfold mulHigh
  norm_num

theorem mulhu_result (x y : Word) : BitVec.ofNat 32 (x.toNat * y.toNat / 2 ^ 32) = mulHighU x y := by
  unfold mulHighU
  norm_num

theorem div_result (x y : Word) :
    (if y = 0 then (0xFFFFFFFF : Word) else BitVec.ofInt 32 (x.toInt.tdiv y.toInt)) = divS x y := by
  unfold divS
  congr 1
  refine BitVec.eq_of_toInt_eq ?_
  rw [BitVec.toInt_sdiv, BitVec.toInt_ofInt]

theorem rem_result (x y : Word) : (if y = 0 then x else BitVec.ofInt 32 (x.toInt.tmod y.toInt)) = remS x y := by
  unfold remS
  congr 1
  rw [← BitVec.toInt_srem, BitVec.ofInt_toInt]

theorem divu_result (x y : Word) :
    (if y = 0 then (0xFFFFFFFF : Word) else BitVec.ofNat 32 (x.toNat / y.toNat)) = divU x y := by
  unfold divU
  congr 1
  rw [← BitVec.toNat_udiv, BitVec.ofNat_toNat, BitVec.setWidth_eq]

theorem remu_result (x y : Word) :
    (if y = 0 then x else BitVec.ofNat 32 (x.toNat % y.toNat)) = remU x y := by
  unfold remU
  congr 1
  rw [← BitVec.toNat_umod, BitVec.ofNat_toNat, BitVec.setWidth_eq]

/-! ### The two forms -/

/-- `i` is the class 0x0 operation with result `g` and flags by `rule`. -/
def IsRegOp (i : Fetch → Bool → Reg → Reg → Reg → Instr) (g : Word → Word → Word) (rule : FlagRule) : Prop :=
  ∃ op, ∀ f fl d a b s, exec (i f fl d a b) s = s.aluReg f fl d a b op g rule

/-- `i` is the class 0x1 operation with result `g` on the immediate, flags by `rule`, undefined where `bad`. -/
def IsImmOp (i : Fetch → Bool → Reg → Reg → BitVec 13 → Instr) (bad : BitVec 13 → Bool) (y : BitVec 13 → Word)
    (g : Word → Word → Word) (rule : FlagRule) : Prop :=
  ∃ op, ∀ f fl d a imm s, exec (i f fl d a imm) s = s.aluImm f fl d a imm op (bad imm) (y imm) g rule

/-- An operation with the result `h` is one with any `g` that agrees with it. -/
theorem IsRegOp.congr {i : Fetch → Bool → Reg → Reg → Reg → Instr} {g h : Word → Word → Word} {rule : FlagRule}
    (k : IsRegOp i h rule) (e : ∀ x y, g x y = h x y) : IsRegOp i g rule := by
  rwa [show g = h from funext fun x => funext (e x)]

theorem isRegOp_add : IsRegOp .add (fun x y => x + y) State.addFlags := ⟨0x00, fun _ _ _ _ _ _ => rfl⟩
theorem isRegOp_sub : IsRegOp .sub (fun x y => x - y) State.subFlags := ⟨0x01, fun _ _ _ _ _ _ => rfl⟩

/-- Every row of `regOps` is a class 0x0 operation with the flags of a result. -/
theorem isRegOp_of_mem {row : (Fetch → Bool → Reg → Reg → Reg → Instr) × (Word → Word → Word)} (h : row ∈ regOps) :
    IsRegOp row.1 row.2 State.resultFlags := by
  simp only [regOps, List.mem_cons, List.not_mem_nil, or_false] at h
  rcases h with rfl | rfl | rfl | rfl | rfl | rfl | rfl | rfl | rfl | rfl | rfl | rfl | rfl | rfl | rfl | rfl | rfl |
    rfl | rfl
  · exact ⟨0x02, fun _ _ _ _ _ _ => rfl⟩
  · exact ⟨0x03, fun _ _ _ _ _ _ => rfl⟩
  · exact ⟨0x04, fun _ _ _ _ _ _ => rfl⟩
  · exact ⟨0x05, fun _ _ _ _ _ _ => rfl⟩
  · exact ⟨0x06, fun _ _ _ _ _ _ => rfl⟩
  · exact ⟨0x07, fun _ _ _ _ _ _ => rfl⟩
  · exact IsRegOp.congr (h := fun x y => boolWord (x.slt y)) ⟨0x08, fun _ _ _ _ _ _ => rfl⟩ slt_result
  · exact IsRegOp.congr (h := fun x y => boolWord (x.ult y)) ⟨0x09, fun _ _ _ _ _ _ => rfl⟩ sltu_result
  · exact IsRegOp.congr (h := fun x y => if y.slt x then y else x) ⟨0x0A, fun _ _ _ _ _ _ => rfl⟩ min_result
  · exact IsRegOp.congr (h := fun x y => if x.slt y then y else x) ⟨0x0B, fun _ _ _ _ _ _ => rfl⟩ max_result
  · exact IsRegOp.congr (h := fun x y => if y.ult x then y else x) ⟨0x0C, fun _ _ _ _ _ _ => rfl⟩ minu_result
  · exact IsRegOp.congr (h := fun x y => if x.ult y then y else x) ⟨0x0D, fun _ _ _ _ _ _ => rfl⟩ maxu_result
  · exact ⟨0x10, fun _ _ _ _ _ _ => rfl⟩
  · exact IsRegOp.congr (h := mulHigh) ⟨0x11, fun _ _ _ _ _ _ => rfl⟩ mulh_result
  · exact IsRegOp.congr (h := mulHighU) ⟨0x12, fun _ _ _ _ _ _ => rfl⟩ mulhu_result
  · exact IsRegOp.congr (h := divS) ⟨0x14, fun _ _ _ _ _ _ => rfl⟩ div_result
  · exact IsRegOp.congr (h := divU) ⟨0x15, fun _ _ _ _ _ _ => rfl⟩ divu_result
  · exact IsRegOp.congr (h := remS) ⟨0x16, fun _ _ _ _ _ _ => rfl⟩ rem_result
  · exact IsRegOp.congr (h := remU) ⟨0x17, fun _ _ _ _ _ _ => rfl⟩ remu_result

theorem isImmOp_addi : IsImmOp .addi (fun _ => false) immS (fun x y => x + y) State.addFlags :=
  ⟨0x0, fun _ _ _ _ _ _ => rfl⟩
theorem isImmOp_subi : IsImmOp .subi (fun _ => false) immS (fun x y => x - y) State.subFlags :=
  ⟨0x1, fun _ _ _ _ _ _ => rfl⟩

/-- Every row of `immOps` is a class 0x1 operation with the flags of a result. -/
theorem isImmOp_of_mem_immOps {row : (Fetch → Bool → Reg → Reg → BitVec 13 → Instr) × (Word → BitVec 13 → Word)}
    (h : row ∈ immOps) : ∃ y g, IsImmOp row.1 (fun _ => false) y g State.resultFlags ∧
      ∀ x i, row.2 x i = g x (y i) := by
  simp only [immOps, List.mem_cons, List.not_mem_nil, or_false] at h
  rcases h with rfl | rfl | rfl | rfl | rfl
  · exact ⟨immZ, fun x y => x &&& y, ⟨0x2, fun _ _ _ _ _ _ => rfl⟩, fun _ _ => rfl⟩
  · exact ⟨immZ, fun x y => x ||| y, ⟨0x3, fun _ _ _ _ _ _ => rfl⟩, fun _ _ => rfl⟩
  · exact ⟨immZ, fun x y => x ^^^ y, ⟨0x4, fun _ _ _ _ _ _ => rfl⟩, fun _ _ => rfl⟩
  · refine ⟨immS, fun x y => boolWord (x.slt y), ⟨0x8, fun _ _ _ _ _ _ => rfl⟩, fun x i => ?_⟩
    have hi : (immS i).toInt = i.toInt := BitVec.toInt_signExtend_of_le (by decide)
    exact (congrArg (fun k : Int => if x.toInt < k then (1 : Word) else 0) hi).symm.trans (slt_result x (immS i))
  · exact ⟨immS, fun x y => boolWord (x.ult y), ⟨0x9, fun _ _ _ _ _ _ => rfl⟩, fun x i => sltu_result x (immS i)⟩

theorem shiftBy_immZ {i : BitVec 13} (h : i.toNat < 32) : shiftBy (immZ i) = i.toNat := by
  have hz : (immZ i).toNat = i.toNat := by
    simp only [immZ, BitVec.toNat_setWidth]
    omega
  rw [shiftBy, hz, Nat.mod_eq_of_lt h]

/-- Every row of `shiftOps` is a class 0x1 operation, undefined for a distance of 32 or more. -/
theorem isImmOp_of_mem_shiftOps {row : (Fetch → Bool → Reg → Reg → BitVec 13 → Instr) × (Word → BitVec 13 → Word)}
    (h : row ∈ shiftOps) : ∃ g, IsImmOp row.1 (fun i => decide (32 ≤ i.toNat)) immZ g State.resultFlags ∧
      ∀ x i, i.toNat < 32 → row.2 x i = g x (immZ i) := by
  simp only [shiftOps, List.mem_cons, List.not_mem_nil, or_false] at h
  rcases h with rfl | rfl | rfl
  · exact ⟨fun x y => x <<< shiftBy y, ⟨0x5, fun _ _ _ _ _ _ => rfl⟩, fun x i hi => by simp only [shiftBy_immZ hi]⟩
  · exact ⟨fun x y => x >>> shiftBy y, ⟨0x6, fun _ _ _ _ _ _ => rfl⟩, fun x i hi => by simp only [shiftBy_immZ hi]⟩
  · exact ⟨fun x y => x.sshiftRight (shiftBy y), ⟨0x7, fun _ _ _ _ _ _ => rfl⟩,
      fun x i hi => by simp only [shiftBy_immZ hi]⟩

/-! ### What an integer operation leaves -/

/-- `s` after an integer operation of core `f.core` with the result `r` on `x` and `y`. -/
def State.aluDone (s : State) (f : Fetch) (fl : Bool) (d : Reg) (x y r : Word) (rule : FlagRule) : State :=
  (((s.fetched f).when fl fun s => rule s f.core x y r).setG f.core d r).advance f.core

/-- A flag rule writes the flags and nothing else. -/
def SetsFlags (rule : FlagRule) : Prop := ∀ s c x y r, ∃ z n k v, rule s c x y r = s.setFlags c z n k v

theorem setsFlags_add : SetsFlags State.addFlags := fun _ _ _ _ _ => ⟨_, _, _, _, rfl⟩
theorem setsFlags_sub : SetsFlags State.subFlags := fun _ _ _ _ _ => ⟨_, _, _, _, rfl⟩
theorem setsFlags_result : SetsFlags State.resultFlags := fun _ _ _ _ _ => ⟨_, _, _, _, rfl⟩

section
variable {s : State} {f : Fetch} (hf : s.fetches f = true)
include hf

theorem IsRegOp.exec_eq {i : Fetch → Bool → Reg → Reg → Reg → Instr} {g : Word → Word → Word} {rule : FlagRule}
    (h : IsRegOp i g rule) (fl : Bool) (d a b : Reg) :
    exec (i f fl d a b) s =
      .next (s.aluDone f fl d (s.g f.core a) (s.g f.core b) (g (s.g f.core a) (s.g f.core b)) rule) := by
  obtain ⟨op, h⟩ := h
  rw [h, State.aluReg, instr_fetches hf]
  simp only [g_fetched]
  rfl

theorem IsImmOp.exec_eq {i : Fetch → Bool → Reg → Reg → BitVec 13 → Instr} {bad : BitVec 13 → Bool}
    {y : BitVec 13 → Word} {g : Word → Word → Word} {rule : FlagRule} (h : IsImmOp i bad y g rule) {imm : BitVec 13}
    (hb : bad imm = false) (fl : Bool) (d a : Reg) :
    exec (i f fl d a imm) s =
      .next (s.aluDone f fl d (s.g f.core a) (y imm) (g (s.g f.core a) (y imm)) rule) := by
  obtain ⟨op, h⟩ := h
  rw [h, State.aluImm, instr_fetches hf]
  simp only [g_fetched, hb]
  rfl

theorem IsImmOp.exec_bad {i : Fetch → Bool → Reg → Reg → BitVec 13 → Instr} {bad : BitVec 13 → Bool}
    {y : BitVec 13 → Word} {g : Word → Word → Word} {rule : FlagRule} (h : IsImmOp i bad y g rule) {imm : BitVec 13}
    (hb : bad imm = true) (h10 : s.statusBit f.core 10 = false) (fl : Bool) (d a : Reg) :
    ∃ t eval, exec (i f fl d a imm) s = .next t ∧ (s.fetched f).entered t f.core 1 0 (s.pc f.core) eval := by
  obtain ⟨op, h⟩ := h
  have hbad : firstBad [(bad imm, 0)] = some 0 := by rw [hb]; rfl
  rw [h, State.aluImm, hbad]
  obtain ⟨t, ht, he⟩ := instr_illegal hf h10 _ 0 _
  exact ⟨t, _, ht, he⟩

end

/-- The frame of the integer operations: the destination, the pc, STATUS with S = 1, ECCCNT by a corrected fetch. -/
theorem aluDone_clauses {rule : FlagRule} (hr : SetsFlags rule) (s : State) (f : Fetch) (fl : Bool) (d : Reg)
    (x y r : Word) :
    (∀ q, (s.aluDone f fl d x y r rule).g f.core q = if q = d ∧ q ≠ 0 then r else s.g f.core q) ∧
      (s.aluDone f fl d x y r rule).pc f.core = s.pc f.core + 4 ∧ s.sameBut (s.aluDone f fl d x y r rule) f.core ∧
      s.sameCr (s.aluDone f fl d x y r rule) f.core
        ((if fl then [Cr.status] else []) ++ (if f.ecc = .corrected then [Cr.ecccnt] else [])) := by
  unfold State.aluDone
  obtain ⟨z, n, k, v, hz⟩ := hr (s.fetched f) f.core x y r
  cases fl with
  | false =>
    obtain ⟨hg, hpc, hs⟩ := answer_clauses (sameBut_fetched s f) (fun q => g_fetched s f f.core q) (pc_fetched s f _) d r
    exact ⟨hg, hpc, hs, sameCr_trans (sameCr_fetched s f) (sameCr_of_eq (cr_answer _ _ d r) [])⟩
  | true =>
    simp only [State.when, if_true, hz]
    obtain ⟨hg, hpc, hs⟩ := answer_clauses (s := s) (u := (s.fetched f).setFlags f.core z n k v)
      (sameBut_trans (sameBut_fetched s f) (sameBut_setFlags _ _ _ _ _ _)) (by simp) (by simp) d r
    exact ⟨hg, hpc, hs, sameCr_trans (sameCr_fetched s f)
      (sameCr_trans (sameCr_setFlags _ _ z n k v) (sameCr_of_eq (cr_answer _ _ d r) []))⟩

/-- With S = 0 STATUS stays. -/
theorem aluDone_status {rule : FlagRule} (s : State) (f : Fetch) (d : Reg) (x y r : Word) :
    (s.aluDone f false d x y r rule).cr f.core Cr.status = s.cr f.core Cr.status := by
  rw [State.aluDone, cr_answer]
  exact cr_fetched s f (by decide)

/-- With S = 1 the bits of STATUS are those that the rule leaves. -/
theorem aluDone_statusBit {rule : FlagRule} {s : State} {f : Fetch} {x y r : Word} {z n k v : Bool}
    (h : rule (s.fetched f) f.core x y r = (s.fetched f).setFlags f.core z n k v) (d : Reg) (b : Nat) :
    (s.aluDone f true d x y r rule).statusBit f.core b =
      if b = 0 then z else if b = 1 then n else if b = 2 then k else if b = 3 then v else s.statusBit f.core b := by
  rw [State.aluDone, State.statusBit, cr_answer]
  simp only [State.when, if_true, h]
  exact (statusBit_setFlags _ _ z n k v b).trans (by rw [statusBit_fetched])

theorem msb_eq_toInt_neg (r : Word) : r.msb = decide (r.toInt < 0) := BitVec.msb_eq_toInt

/-- V of an addition: the exact sum lies outside the signed range. -/
theorem overflow_add (x y : Word) :
    decide (x.msb = y.msb ∧ (x + y).msb ≠ x.msb) = decide ((x + y).toInt ≠ x.toInt + y.toInt) := by
  have hx := BitVec.toInt_lt (x := x); have hx' := BitVec.le_toInt (x := x)
  have hy := BitVec.toInt_lt (x := y); have hy' := BitVec.le_toInt (x := y)
  simp only [BitVec.msb_eq_toInt, BitVec.toInt_add, decide_eq_decide, ne_eq]
  rw [Int.bmod_def]
  split <;> omega

/-- V of a subtraction. -/
theorem overflow_sub (x y : Word) :
    decide (x.msb ≠ y.msb ∧ (x - y).msb ≠ x.msb) = decide ((x - y).toInt ≠ x.toInt - y.toInt) := by
  have hx := BitVec.toInt_lt (x := x); have hx' := BitVec.le_toInt (x := x)
  have hy := BitVec.toInt_lt (x := y); have hy' := BitVec.le_toInt (x := y)
  simp only [BitVec.msb_eq_toInt, BitVec.toInt_sub, decide_eq_decide, ne_eq]
  rw [Int.bmod_def]
  split <;> omega

end Sys2Proof.Machine
end

section
/-! PROOF. Results and flags of the integer operations (R85, R86, Tables GCS-5 and GCS-6). -/

namespace Sys2Proof.Machine
open Sys2Proof Sys2Proof.Reg

/-- Settles O2: add, sub and the rows of `regOps` are one form, whose frame aluDone_clauses gives. -/
theorem registerArithmeticResults : Obligations.RegisterArithmeticResults := by
  unfold Obligations.RegisterArithmeticResults
  intro row hrow f fl d a b s hf
  have hop : ∃ rule, SetsFlags rule ∧ IsRegOp row.1 row.2 rule := by
    rcases List.mem_cons.mp hrow with rfl | hrow
    · exact ⟨_, setsFlags_add, isRegOp_add⟩
    rcases List.mem_cons.mp hrow with rfl | hrow
    · exact ⟨_, setsFlags_sub, isRegOp_sub⟩
    · exact ⟨_, setsFlags_result, isRegOp_of_mem hrow⟩
  obtain ⟨rule, hr, hop⟩ := hop
  exact ⟨_, hop.exec_eq hf fl d a b, aluDone_clauses hr s f fl d _ _ _⟩

/-- high writes its immediate, shifted left by 13. -/
theorem exec_high_fetches {s : State} {f : Fetch} (hf : s.fetches f = true) (d : Reg) (imm : BitVec 19) :
    exec (.high f d imm) s = .next (s.aluDone f false d 0 0 (BitVec.ofNat 32 (imm.toNat * 2 ^ 13)) State.resultFlags) := by
  have hv : imm.zeroExtend 32 <<< 13 = BitVec.ofNat 32 (imm.toNat * 2 ^ 13) := by
    refine BitVec.eq_of_toNat_eq ?_
    simp only [BitVec.toNat_shiftLeft, BitVec.toNat_setWidth, BitVec.toNat_ofNat, Nat.shiftLeft_eq]
    omega
  rw [exec_high, execHigh, instr_fetches hf]
  simp only [hv]
  rfl

/-- Settles O3: the class 0x1 operations are one form too; a shift by 32 or more is its undefined encoding. -/
theorem immediateArithmeticResults : Obligations.ImmediateArithmeticResults := by
  unfold Obligations.ImmediateArithmeticResults
  intro completes
  refine ⟨fun row hrow f fl d a imm s hf => ?_, fun row hrow f fl d a imm s hf => ?_, fun f d imm s hf => ?_⟩
  · have hop : ∃ y g rule, SetsFlags rule ∧ IsImmOp row.1 (fun _ => false) y g rule ∧
        ∀ x i, row.2 x i = g x (y i) := by
      rcases List.mem_cons.mp hrow with rfl | hrow
      · exact ⟨_, _, _, setsFlags_add, isImmOp_addi, fun _ _ => rfl⟩
      rcases List.mem_cons.mp hrow with rfl | hrow
      · exact ⟨_, _, _, setsFlags_sub, isImmOp_subi, fun _ _ => rfl⟩
      · obtain ⟨y, g, hop, hg⟩ := isImmOp_of_mem_immOps hrow
        exact ⟨y, g, _, setsFlags_result, hop, hg⟩
    obtain ⟨y, g, rule, hr, hop, hg⟩ := hop
    rw [hg]
    exact ⟨_, hop.exec_eq hf rfl fl d a, aluDone_clauses hr s f fl d _ _ _⟩
  · obtain ⟨g, hop, hg⟩ := isImmOp_of_mem_shiftOps hrow
    refine ⟨fun hlt => ?_, fun hge h10 => hop.exec_bad hf (decide_eq_true hge) h10 fl d a⟩
    rw [hg _ _ hlt]
    exact ⟨_, hop.exec_eq hf (decide_eq_false (not_le.mpr hlt)) fl d a, aluDone_clauses setsFlags_result s f fl d _ _ _⟩
  · exact ⟨_, exec_high_fetches hf d imm, aluDone_clauses setsFlags_result s f false d _ _ _⟩

/-- Z, N and the bits beside the flags after an operation with S = 1 and the result `r`. -/
theorem aluDone_zn {rule : FlagRule} {s : State} {f : Fetch} {x y r : Word} {k v : Bool}
    (h : rule (s.fetched f) f.core x y r = (s.fetched f).setFlags f.core (decide (r = 0)) r.msb k v) (d : Reg) :
    let t := s.aluDone f true d x y r rule
    t.statusBit f.core 0 = decide (r = 0) ∧ t.statusBit f.core 1 = decide (r.toInt < 0) ∧
      ∀ b, 4 ≤ b → t.statusBit f.core b = s.statusBit f.core b := by
  refine ⟨aluDone_statusBit h d 0, (aluDone_statusBit h d 1).trans (msb_eq_toInt_neg r), fun b hb => ?_⟩
  rw [aluDone_statusBit h d b, if_neg (by omega), if_neg (by omega), if_neg (by omega), if_neg (by omega)]

/-- The flags of every operation but additions and subtractions. -/
theorem aluDone_plain {s : State} {f : Fetch} {i : Bool → Instr} {d : Reg} {x y r : Word}
    (h : ∀ fl, exec (i fl) s = .next (s.aluDone f fl d x y r State.resultFlags)) :
    (∃ t, exec (i true) s = .next t ∧
      (t.statusBit f.core 0 = decide (r = 0) ∧ t.statusBit f.core 1 = decide (r.toInt < 0) ∧
        ∀ b, 4 ≤ b → t.statusBit f.core b = s.statusBit f.core b) ∧
      t.statusBit f.core 2 = s.statusBit f.core 2 ∧ t.statusBit f.core 3 = false) ∧
    ∃ t, exec (i false) s = .next t ∧ t.cr f.core Cr.status = s.cr f.core Cr.status := by
  have hrule : State.resultFlags (s.fetched f) f.core x y r =
      (s.fetched f).setFlags f.core (decide (r = 0)) r.msb ((s.fetched f).statusBit f.core Flag.c) false := rfl
  refine ⟨⟨_, h true, aluDone_zn hrule d, ?_, aluDone_statusBit hrule d 3⟩, _, h false, aluDone_status _ _ _ _ _ _⟩
  exact (aluDone_statusBit hrule d 2).trans (statusBit_fetched s f 2)

/-- The flags of an addition (`plus`) or a subtraction. -/
theorem aluDone_sums (plus : Bool) {s : State} {f : Fetch} {i : Bool → Instr} {d : Reg} {x y : Word}
    (h : ∀ fl, exec (i fl) s = .next (s.aluDone f fl d x y (if plus then x + y else x - y)
      (if plus then State.addFlags else State.subFlags))) :
    let r := if plus then x + y else x - y
    let exact : Int := if plus then x.toInt + y.toInt else x.toInt - y.toInt
    (∃ t, exec (i true) s = .next t ∧
      (t.statusBit f.core 0 = decide (r = 0) ∧ t.statusBit f.core 1 = decide (r.toInt < 0) ∧
        ∀ b, 4 ≤ b → t.statusBit f.core b = s.statusBit f.core b) ∧
      t.statusBit f.core 2 = (if plus then decide (2 ^ 32 ≤ x.toNat + y.toNat) else decide (y.toNat ≤ x.toNat)) ∧
      t.statusBit f.core 3 = decide (r.toInt ≠ exact)) ∧
    ∃ t, exec (i false) s = .next t ∧ t.cr f.core Cr.status = s.cr f.core Cr.status := by
  intro r exact
  refine ⟨?_, _, h false, aluDone_status _ _ _ _ _ _⟩
  cases plus with
  | true =>
    have hrule : State.addFlags (s.fetched f) f.core x y (x + y) = (s.fetched f).setFlags f.core (decide (x + y = 0))
        (x + y).msb (decide (2 ^ 32 ≤ x.toNat + y.toNat)) (decide (x.msb = y.msb ∧ (x + y).msb ≠ x.msb)) := rfl
    exact ⟨_, h true, aluDone_zn hrule d, aluDone_statusBit hrule d 2,
      (aluDone_statusBit hrule d 3).trans (overflow_add x y)⟩
  | false =>
    have hrule : State.subFlags (s.fetched f) f.core x y (x - y) = (s.fetched f).setFlags f.core (decide (x - y = 0))
        (x - y).msb (decide (y.toNat ≤ x.toNat)) (decide (x.msb ≠ y.msb ∧ (x - y).msb ≠ x.msb)) := rfl
    exact ⟨_, h true, aluDone_zn hrule d, aluDone_statusBit hrule d 2,
      (aluDone_statusBit hrule d 3).trans (overflow_sub x y)⟩

/-- jalr with S = 0 and an aligned target links and jumps. -/
theorem exec_jalr_aligned {s : State} {f : Fetch} (hf : s.fetches f = true) {a : Reg}
    (ha : (s.g f.core a).toNat % 4 = 0) (d b : Reg) :
    exec (.jalr f false d a b) s =
      .next (((s.fetched f).setG f.core d (s.pc f.core + 4)).setPc f.core (s.g f.core a)) := by
  rw [exec_jalr, execJalr, instr_fetches hf]
  simp only [firstBad, g_fetched, pc_fetched, ha]
  rfl

/-- Settles O4: additions and subtractions by aluDone_sums, every other operation by aluDone_plain; jalr writes no
flag. -/
theorem flagsOfIntegerOperations : Obligations.FlagsOfIntegerOperations := by
  unfold Obligations.FlagsOfIntegerOperations
  intro zn sums plain
  refine ⟨fun b f d a s hf => ?_, fun b f d a s hf => ?_, fun imm f d a s hf => ?_, fun imm f d a s hf => ?_,
    fun row hrow f d a b s hf => ?_, fun row hrow f d a imm s hf => ?_, fun row hrow f d a imm s hf hlt => ?_,
    fun f d a b s hf h10 => ?_, fun f d a b s hf ha => ?_⟩
  · exact aluDone_sums true fun fl => isRegOp_add.exec_eq hf fl d a b
  · exact aluDone_sums false fun fl => isRegOp_sub.exec_eq hf fl d a b
  · exact aluDone_sums true fun fl => isImmOp_addi.exec_eq hf rfl fl d a
  · exact aluDone_sums false fun fl => isImmOp_subi.exec_eq hf rfl fl d a
  · exact aluDone_plain fun fl => (isRegOp_of_mem hrow).exec_eq hf fl d a b
  · obtain ⟨y, g, hop, hg⟩ := isImmOp_of_mem_immOps hrow
    rw [hg]
    exact aluDone_plain fun fl => hop.exec_eq hf rfl fl d a
  · obtain ⟨g, hop, hg⟩ := isImmOp_of_mem_shiftOps hrow
    rw [hg _ _ hlt]
    exact aluDone_plain fun fl => hop.exec_eq hf (decide_eq_false (not_le.mpr hlt)) fl d a
  · rw [exec_jalr, execJalr]
    exact instr_illegal hf h10 _ 0 _
  · refine ⟨_, exec_jalr_aligned hf ha d b, ?_⟩
    rw [cr_setPc, cr_setG]
    exact cr_fetched s f (by decide)

end Sys2Proof.Machine
end

section
/-! PROOF. Branches and jumps (R88, Table GCS-7). -/

namespace Sys2Proof.Machine
open Sys2Proof Sys2Proof.Reg

/-! ### A change of the pc -/

/-- What an instruction leaves that sets the pc and nothing else. -/
theorem setPc_fetched_clauses (s : State) (f : Fetch) (p : Word) :
    ((s.fetched f).setPc f.core p).pc f.core = p ∧ s.sameBut ((s.fetched f).setPc f.core p) f.core ∧
      (∀ r, ((s.fetched f).setPc f.core p).g f.core r = s.g f.core r) ∧
      s.sameCr ((s.fetched f).setPc f.core p) f.core (if f.ecc = .corrected then [Cr.ecccnt] else []) :=
  ⟨pc_setPc _ _ _, sameBut_trans (sameBut_fetched s f) (sameBut_setPc _ _ _), fun r => by simp,
    sameCr_trans (sameCr_fetched s f) (sameCr_of_eq (fun n => cr_setPc _ _ _ p n) [])⟩

/-- The same with a register written. -/
theorem setPc_setG_fetched_clauses (s : State) (f : Fetch) (d : Reg) (v p : Word) :
    let t := ((s.fetched f).setG f.core d v).setPc f.core p
    t.pc f.core = p ∧ s.sameBut t f.core ∧ (∀ r, t.g f.core r = if r = d ∧ r ≠ 0 then v else s.g f.core r) ∧
      s.sameCr t f.core (if f.ecc = .corrected then [Cr.ecccnt] else []) := by
  refine ⟨pc_setPc _ _ _, sameBut_trans (sameBut_fetched s f) (sameBut_trans (sameBut_setG _ _ d v) (sameBut_setPc _ _ _)),
    fun r => ?_, sameCr_trans (sameCr_fetched s f) (sameCr_of_eq (fun n => ?_) [])⟩
  · rw [g_setPc, g_setG, g_fetched]
  · rw [cr_setPc, cr_setG]

/-! ### Branches -/

/-- `i` is the branch on the flags where `cond` holds. -/
def IsFlagBranch (i : Fetch → Reg → BitVec 18 → Instr) (cond : Bool → Bool → Bool → Bool → Bool) : Prop :=
  ∃ k < 0x10, ∀ f a off s, exec (i f a off) s = s.branch f a off k fun s c =>
    cond (s.statusBit c 0) (s.statusBit c 1) (s.statusBit c 2) (s.statusBit c 3)

/-- `i` is the branch on gA where `cond` holds. -/
def IsRegBranch (i : Fetch → Reg → BitVec 18 → Instr) (cond : Int → Bool) : Prop :=
  ∃ (k : Nat) (taken : Reg → State → Core → Bool), 0x10 ≤ k ∧ (∀ f a off s, exec (i f a off) s = s.branch f a off k (taken a)) ∧
    ∀ (a : Reg) (s : State) (c : Core), taken a s c = cond (s.g c a).toInt

section
variable {s : State} {f : Fetch} (hf : s.fetches f = true)
include hf

/-- A branch whose encoding is defined sets the pc. -/
theorem branch_fetches {k : Nat} {a : Reg} (h : 0x10 ≤ k ∨ a = 0) (off : BitVec 18) (taken : State → Core → Bool) :
    s.branch f a off k taken = .next ((s.fetched f).setPc f.core
      (if taken (s.fetched f) f.core then s.pc f.core + 4 * off.signExtend 32 else s.pc f.core + 4)) := by
  have hbad : (decide (k < 0x10) && decide (a ≠ 0)) = false := by
    rcases h with h | h
    · rw [decide_eq_false (by omega), Bool.false_and]
    · rw [decide_eq_false (not_not.mpr h), Bool.and_false]
  rw [State.branch, hbad, firstBad_false, firstBad_nil, instr_body hf]
  simp only [State.advance, pc_fetched]
  rw [← apply_ite]
  rfl

theorem branch_undefined (h10 : s.statusBit f.core 10 = false) {k : Nat} (hk : k < 0x10) {a : Reg} (ha : a ≠ 0)
    (off : BitVec 18) (taken : State → Core → Bool) :
    ∃ t eval, s.branch f a off k taken = .next t ∧ (s.fetched f).entered t f.core 1 0 (s.pc f.core) eval := by
  have hbad : (decide (k < 0x10) && decide (a ≠ 0)) = true := by
    rw [decide_eq_true hk, decide_eq_true ha, Bool.true_and]
  rw [State.branch, hbad]
  obtain ⟨t, ht, he⟩ := instr_illegal hf h10 (wordB k a off) 0 _
  exact ⟨t, _, ht, he⟩

end

/-- The rows of Table GCS-7 on the flags. -/
theorem isFlagBranch_of_mem {row : (Fetch → Reg → BitVec 18 → Instr) × (Bool → Bool → Bool → Bool → Bool)}
    (h : row ∈ ([(.beq, fun z _ _ _ => z), (.bne, fun z _ _ _ => !z), (.bhs, fun _ _ c _ => c),
      (.blo, fun _ _ c _ => !c), (.bmi, fun _ n _ _ => n), (.bpl, fun _ n _ _ => !n), (.bvs, fun _ _ _ v => v),
      (.bvc, fun _ _ _ v => !v), (.bhi, fun z _ c _ => c && !z), (.bls, fun z _ c _ => !c || z),
      (.bge, fun _ n _ v => n == v), (.blt, fun _ n _ v => n != v), (.bgt, fun z n _ v => !z && n == v),
      (.ble, fun z n _ v => z || n != v), (.j, fun _ _ _ _ => true)] :
      List ((Fetch → Reg → BitVec 18 → Instr) × (Bool → Bool → Bool → Bool → Bool)))) :
    IsFlagBranch row.1 row.2 := by
  simp only [List.mem_cons, List.not_mem_nil, or_false] at h
  rcases h with rfl | rfl | rfl | rfl | rfl | rfl | rfl | rfl | rfl | rfl | rfl | rfl | rfl | rfl | rfl
  · exact ⟨0x00, by decide, fun _ _ _ _ => rfl⟩
  · exact ⟨0x01, by decide, fun _ _ _ _ => rfl⟩
  · exact ⟨0x02, by decide, fun _ _ _ _ => rfl⟩
  · exact ⟨0x03, by decide, fun _ _ _ _ => rfl⟩
  · exact ⟨0x04, by decide, fun _ _ _ _ => rfl⟩
  · exact ⟨0x05, by decide, fun _ _ _ _ => rfl⟩
  · exact ⟨0x06, by decide, fun _ _ _ _ => rfl⟩
  · exact ⟨0x07, by decide, fun _ _ _ _ => rfl⟩
  · exact ⟨0x08, by decide, fun _ _ _ _ => rfl⟩
  · exact ⟨0x09, by decide, fun _ _ _ _ => rfl⟩
  · exact ⟨0x0A, by decide, fun _ _ _ _ => rfl⟩
  · exact ⟨0x0B, by decide, fun _ _ _ _ => rfl⟩
  · exact ⟨0x0C, by decide, fun _ _ _ _ => rfl⟩
  · exact ⟨0x0D, by decide, fun _ _ _ _ => rfl⟩
  · exact ⟨0x0E, by decide, fun _ _ _ _ => rfl⟩

theorem eq_zero_iff_toInt (x : Word) : x = 0 ↔ x.toInt = 0 :=
  ⟨fun h => by rw [h]; rfl, fun h => BitVec.eq_of_toInt_eq h⟩

theorem not_msb_eq (x : Word) : (!x.msb) = decide (0 ≤ x.toInt) := by
  rw [BitVec.msb_eq_toInt, ← decide_not]
  exact decide_eq_decide.mpr not_lt

theorem not_zero_slt_eq (x : Word) : (!(0 : Word).slt x) = decide (x.toInt ≤ 0) := by
  rw [BitVec.slt, ← decide_not]
  exact decide_eq_decide.mpr not_lt

/-- The rows of Table GCS-7 on gA. -/
theorem isRegBranch_of_mem {row : (Fetch → Reg → BitVec 18 → Instr) × (Int → Bool)}
    (h : row ∈ ([(.bz, fun x => decide (x = 0)), (.bnz, fun x => decide (x ≠ 0)), (.bltz, fun x => decide (x < 0)),
      (.bgez, fun x => decide (0 ≤ x)), (.bgtz, fun x => decide (0 < x)), (.blez, fun x => decide (x ≤ 0))] :
      List ((Fetch → Reg → BitVec 18 → Instr) × (Int → Bool)))) :
    IsRegBranch row.1 row.2 := by
  simp only [List.mem_cons, List.not_mem_nil, or_false] at h
  rcases h with rfl | rfl | rfl | rfl | rfl | rfl
  · exact ⟨0x10, fun a s c => decide (s.g c a = 0), by decide, fun _ _ _ _ => rfl, fun a s c => decide_eq_decide.mpr (eq_zero_iff_toInt _)⟩
  · exact ⟨0x11, fun a s c => decide (s.g c a ≠ 0), by decide, fun _ _ _ _ => rfl, fun a s c => decide_eq_decide.mpr (not_congr (eq_zero_iff_toInt _))⟩
  · exact ⟨0x12, fun a s c => (s.g c a).msb, by decide, fun _ _ _ _ => rfl, fun a s c => BitVec.msb_eq_toInt⟩
  · exact ⟨0x13, fun a s c => !((s.g c a).msb), by decide, fun _ _ _ _ => rfl, fun a s c => not_msb_eq _⟩
  · exact ⟨0x14, fun a s c => (0 : Word).slt (s.g c a), by decide, fun _ _ _ _ => rfl, fun a s c => rfl⟩
  · exact ⟨0x15, fun a s c => !((0 : Word).slt (s.g c a)), by decide, fun _ _ _ _ => rfl, fun a s c => not_zero_slt_eq _⟩

/-! ### The statement -/

theorem exec_jal_fetches {s : State} {f : Fetch} (hf : s.fetches f = true) (off : BitVec 28) :
    exec (.jal f off) s = .next (((s.fetched f).setG f.core 31 (s.pc f.core + 4)).setPc f.core
      (s.pc f.core + 4 * off.signExtend 32)) := by
  rw [exec_jal, execJal, instr_fetches hf]
  simp only [pc_fetched]
  rfl

/-- Settles O9: each branch sets the pc by its condition, which the fetch leaves; jal and jalr write a link as well. -/
theorem branchesAndJumps : Obligations.BranchesAndJumps := by
  unfold Obligations.BranchesAndJumps
  intro moves
  have hstay : ∀ {i : Instr} {f : Fetch} {s : State} {p : Word},
      exec i s = .next ((s.fetched f).setPc f.core p) → moves i f p none s := by
    intro i f s p hexec
    obtain ⟨hpc, hs, hg, hcr⟩ := setPc_fetched_clauses s f p
    refine ⟨_, hexec, hpc, hs, fun r => ?_, hcr⟩
    rw [hg, if_neg (fun h => nomatch h.1)]
  have hlink : ∀ {i : Instr} {f : Fetch} {s : State} {d : Reg} {p : Word},
      exec i s = .next (((s.fetched f).setG f.core d (s.pc f.core + 4)).setPc f.core p) → moves i f p (some d) s := by
    intro i f s d p hexec
    obtain ⟨hpc, hs, hg, hcr⟩ := setPc_setG_fetched_clauses s f d (s.pc f.core + 4) p
    refine ⟨_, hexec, hpc, hs, fun r => ?_, hcr⟩
    rw [hg]
    simp only [Option.some.injEq]
  refine ⟨fun row hrow f a off s hf => ?_, fun row hrow f a off s hf => ?_, fun f off s hf => ?_,
    fun f d a b s hf => ⟨fun ha => ?_, fun ha h10 => ?_⟩⟩
  · obtain ⟨k, hk, hexec⟩ := isFlagBranch_of_mem hrow
    refine ⟨fun ha => hstay ?_, fun ha h10 => ?_⟩
    · rw [hexec, branch_fetches hf (.inr ha)]
      simp only [statusBit_fetched]
    · rw [hexec]
      exact branch_undefined hf h10 hk ha off _
  · obtain ⟨k, taken, hk, hexec, htaken⟩ := isRegBranch_of_mem hrow
    refine hstay ?_
    rw [hexec, branch_fetches hf (.inl hk), htaken, g_fetched]
  · exact hlink (exec_jal_fetches hf off)
  · exact hlink (exec_jalr_aligned hf ha d b)
  · refine ⟨_, ?_, faultHere_fetched_entered h10 Exc.window 1 (s.g f.core a)⟩
    rw [exec_jalr, execJalr, instr_fetches hf]
    simp only [firstBad, g_fetched, if_pos ha]
    rfl

end Sys2Proof.Machine
end

section
/-! SUPPORT. Data accesses that fault (R29, R83, R87): the window, the alignment, and the load and store instructions
over them. -/

namespace Sys2Proof.Machine
open Sys2Proof Sys2Proof.Reg

/-! ### Updates of one core leave the rest -/

theorem byte_of_mem {s t : State} (h : t.mem = s.mem) (a : Nat) : t.byte a = s.byte a := by
  unfold State.byte
  rw [h]

theorem mem_of_entered {s t : State} {c : Core} {cause sub : Nat} {epc eval : Word}
    (h : s.entered t c cause sub epc eval) : t.mem = s.mem := by
  obtain ⟨-, -, -, -, -, -, -, -, -, -, -, h⟩ := h
  rw [h, State.setCore_mem]

theorem regs_of_entered {s t : State} {c : Core} {cause sub : Nat} {epc eval : Word}
    (h : s.entered t c cause sub epc eval) : t.regs = s.regs := by
  obtain ⟨-, -, -, -, -, -, -, -, -, -, -, h⟩ := h
  rw [h, State.setCore_regs]

theorem mem_fetched (s : State) (f : Fetch) : (s.fetched f).mem = s.mem := by
  rw [sameBut_fetched s f, State.setCore_mem]

/-! ### The checks of a data access -/

theorem dataFault_window {s : State} {c : Core} {perm n : Nat} {a : Word} (h : s.winBad c perm n a.toNat = true)
    (k : Access) : s.dataFault c k perm n a = some (s.faultHere c Exc.window 0 a) := by
  rw [State.dataFault, if_pos h]

theorem dataFault_misaligned {s : State} {c : Core} {perm n : Nat} {a : Word} (hw : s.winBad c perm n a.toNat = false)
    (hr : region a.toNat ≠ .periph) (hn : a.toNat % n ≠ 0) (k : Access) :
    s.dataFault c k perm n a = some (s.faultHere c Exc.window 1 a) := by
  rw [State.dataFault, if_neg (by simp [hw]), if_pos ⟨hr, hn⟩]

/-- In the peripheral region the access is a word at a multiple of 4, or it is refused with kind 4 (R11, R29). -/
theorem refusal_periph_misaligned {n a : Nat} (hr : region a = .periph) (hn : a % n ≠ 0) (s : State) (m : Master)
    (app : Bool) (k : Access) : s.refusal m app k n a = some 4 := by
  have h : n ≠ 4 ∨ a % 4 ≠ 0 := by
    by_cases h4 : n = 4
    · exact .inr (h4 ▸ hn)
    · exact .inl h4
  rw [State.refusal, if_pos ⟨hr, h⟩]

theorem dataFault_periph_misaligned {s : State} {c : Core} {perm n : Nat} {a : Word}
    (hw : s.winBad c perm n a.toNat = false) (hr : region a.toNat = .periph) (hn : a.toNat % n ≠ 0) (k : Access) :
    s.dataFault c k perm n a = some ((s.recordRefusal (coreMaster c) k 4 a.toNat).faultHere c Exc.window 3 a) := by
  rw [State.dataFault, if_neg (by simp [hw]), if_neg (fun h => h.1 hr), refusal_periph_misaligned hr hn]

theorem statusBit_of_rest {s t : State} (h : t.rest = s.rest) (c : Core) (b : Nat) :
    t.statusBit c b = s.statusBit c b := by
  unfold State.statusBit State.cr
  rw [State.core_of_rest h]

theorem get_recordRefusal_addr (s : State) (m : Master) (k : Access) (kind : Nat) (a : Word) :
    (s.recordRefusal m k kind a.toNat).get SYS_ERRADDR.ADDR = a.toNat := by
  unfold State.recordRefusal
  rw [get_set_ne _ _ (by decide), get_put_ne _ _ (by decide), get_set_ne _ _ (by decide), get_set_same]
  exact Nat.mod_eq_of_lt a.isLt

theorem get_recordRefusal_kind (s : State) (m : Master) (k : Access) (a : Nat) :
    (s.recordRefusal m k 4 a).get SYS_ERRSRC.KIND = 4 := by
  unfold State.recordRefusal
  rw [get_set_same]
  rfl

/-! ### The instructions -/

/-- lb, lbu, lh, lhu and lw are the load instruction of 1, 2 and 4 bytes. -/
theorem exec_eq_loadInstr {row : (Fetch → Reg → Reg → BitVec 13 → Ecc → Instr) × Nat}
    (h : row ∈ ([(.lb, 1), (.lbu, 1), (.lh, 2), (.lhu, 2), (.lw, 4)] :
      List ((Fetch → Reg → Reg → BitVec 13 → Ecc → Instr) × Nat))) :
    ∃ op ext, ∀ f d a imm ecc s, exec (row.1 f d a imm ecc) s = s.loadInstr f d a imm ecc op row.2 ext := by
  simp only [List.mem_cons, List.not_mem_nil, or_false] at h
  rcases h with rfl | rfl | rfl | rfl | rfl
  · exact ⟨0x00, fun v => (BitVec.ofNat 8 v).signExtend 32, fun _ _ _ _ _ _ => rfl⟩
  · exact ⟨0x01, BitVec.ofNat 32, fun _ _ _ _ _ _ => rfl⟩
  · exact ⟨0x02, fun v => (BitVec.ofNat 16 v).signExtend 32, fun _ _ _ _ _ _ => rfl⟩
  · exact ⟨0x03, BitVec.ofNat 32, fun _ _ _ _ _ _ => rfl⟩
  · exact ⟨0x04, BitVec.ofNat 32, fun _ _ _ _ _ _ => rfl⟩

section
variable {s t : State} {f : Fetch} {a : Reg} {imm : BitVec 13} {n : Nat}

theorem loadInstr_faults (hf : s.fetches f = true)
    (h : (s.fetched f).dataFault f.core .load Perm.r n (s.g f.core a + imm.signExtend 32) = some t) (d : Reg)
    (ecc : Ecc) (op : Nat) (ext : Nat → Word) : s.loadInstr f d a imm ecc op n ext = .next t := by
  unfold State.loadInstr
  rw [instr_fetches hf]
  simp only [g_fetched, immS, h]

theorem storeInstr_faults (hf : s.fetches f = true)
    (h : (s.fetched f).dataFault f.core .store Perm.w n (s.g f.core a + imm.signExtend 32) = some t) (d : Reg)
    (op : Nat) : s.storeInstr f d a imm op n = .next t := by
  unfold State.storeInstr
  rw [instr_fetches hf]
  simp only [g_fetched, immS, h]

end

end Sys2Proof.Machine
end

section
/-! PROOF. Misaligned accesses (R87). -/

namespace Sys2Proof.Machine
open Sys2Proof Sys2Proof.Reg

/-- What the check of a misaligned access, inside the App windows, makes of the state. -/
theorem misaligned_clause {s : State} {f : Fetch} (h10 : s.statusBit f.core 10 = false) {perm n : Nat} {x : Word}
    (hw : (s.fetched f).winBad f.core perm n x.toNat = false) (hn : x.toNat % n ≠ 0) (k : Access) :
    ∃ t, (s.fetched f).dataFault f.core k perm n x = some t ∧ (∀ a, t.byte a = s.byte a) ∧
      (region x.toNat ≠ .periph → (s.fetched f).entered t f.core 2 1 (s.pc f.core) x) ∧
      (region x.toNat = .periph →
        ((s.fetched f).recordRefusal (coreMaster f.core) k 4 x.toNat).entered t f.core 2 3 (s.pc f.core) x ∧
        t.get SYS_ERRADDR.ADDR = x.toNat ∧ t.get SYS_ERRSRC.KIND = 4) := by
  by_cases hr : region x.toNat = .periph
  · have hrest := State.recordRefusal_rest (s.fetched f) (coreMaster f.core) k 4 x.toNat
    have hent := faultHere_entered (c := f.core)
      (s := (s.fetched f).recordRefusal (coreMaster f.core) k 4 x.toNat)
      (by rw [statusBit_of_rest hrest, statusBit_fetched, h10]) Exc.window 3 x
    rw [pc_of_rest hrest, pc_fetched] at hent
    refine ⟨_, dataFault_periph_misaligned hw hr hn k, fun a => byte_of_mem ?_ a, fun h => absurd hr h,
      fun _ => ⟨hent, ?_, ?_⟩⟩
    · rw [mem_of_entered hent, State.mem_of_rest hrest, mem_fetched]
    · rw [get_of_regs (regs_of_entered hent), get_recordRefusal_addr]
    · rw [get_of_regs (regs_of_entered hent), get_recordRefusal_kind]
  · have hent := faultHere_fetched_entered h10 Exc.window 1 x
    exact ⟨_, dataFault_misaligned hw hr hn k, fun a => byte_of_mem ((mem_of_entered hent).trans (mem_fetched s f)) a,
      fun _ => hent, fun h => absurd h hr⟩

/-- Settles O7: the check of the access raises the exception before the load or the store does anything. -/
theorem misalignedAccessesFault : Obligations.MisalignedAccessesFault := by
  unfold Obligations.MisalignedAccessesFault
  refine ⟨fun row hrow f d a imm ecc s hf h10 hw hn => ?_, fun row hrow f d a imm s hf h10 hw hn => ?_⟩
  · obtain ⟨t, ht, hclauses⟩ := misaligned_clause h10 hw hn .load
    obtain ⟨op, ext, hexec⟩ := exec_eq_loadInstr (List.mem_of_mem_drop (i := 2) hrow)
    exact ⟨t, (hexec f d a imm ecc s).trans (loadInstr_faults hf ht d ecc op ext), hclauses⟩
  · obtain ⟨t, ht, hclauses⟩ := misaligned_clause h10 hw hn .store
    obtain ⟨op, hexec⟩ := exec_eq_storeInstr (List.mem_of_mem_drop (i := 1) hrow)
    exact ⟨t, (hexec f d a imm s).trans (storeInstr_faults hf ht d op), hclauses⟩

end Sys2Proof.Machine
end

section
/-! PROOF. The App windows (R83). -/

namespace Sys2Proof.Machine
open Sys2Proof Sys2Proof.Reg

/-! ### The window check by bytes -/

/-- Some window of core `c` holds byte `a` with the permissions, as Table GCS-10 gives its fields. -/
def State.byteOpen (s : State) (c : Core) (perm a : Nat) : Prop :=
  ∃ k < 8, (s.cr c (0x20 + 2 * k)).getLsbD 3 = true ∧ (s.cr c (0x20 + 2 * k)).toNat / 256 ≤ a / 256 ∧
    a / 256 ≤ (s.cr c (0x21 + 2 * k)).toNat / 256 ∧
    ∀ b < 3, perm.testBit b = true → (s.cr c (0x20 + 2 * k)).getLsbD b = true

/-- Three permission bits are held together exactly when each asked for is held. -/
theorem perm_held_iff {perm : Nat} (h : perm < 8) (base : Nat) :
    base &&& perm = perm ↔ ∀ b < 3, perm.testBit b = true → base.testBit b = true := by
  constructor
  · intro he b _ hb
    rw [← he, Nat.testBit_and, Bool.and_eq_true] at hb
    exact hb.1
  · intro hall
    refine Nat.eq_of_testBit_eq fun i => ?_
    rw [Nat.testBit_and]
    by_cases hp : perm.testBit i = true
    · have hi : i < 3 := by
        by_contra hge
        have hlt : perm < 2 ^ i := h.trans_le (Nat.pow_le_pow_right (n := 2) (by decide) (by omega : 3 ≤ i))
        rw [Nat.testBit_lt_two_pow hlt] at hp
        exact absurd hp (by decide)
      rw [hp, hall i hi hp]
      rfl
    · rw [Bool.not_eq_true] at hp
      rw [hp, Bool.and_false]

theorem byteOpen_iff {perm : Nat} (h : perm < 8) (s : State) (c : Core) (a : Nat) :
    s.byteOpen c perm a ↔ ∃ k < 8, s.winHolds c perm (a / 256) k = true := by
  refine exists_congr fun k => and_congr_right fun _ => ?_
  unfold State.winHolds
  simp only [Bool.and_eq_true, decide_eq_true_eq, perm_held_iff h, bit, BitVec.testBit_toNat]
  tauto

/-- The blocks from the first byte to the last are those that the bytes lie in. -/
theorem winOk_iff {n : Nat} (hn : 1 ≤ n) (s : State) (c : Core) (perm a : Nat) :
    s.winOk c perm n a = true ↔ ∀ k < n, ∃ w < 8, s.winHolds c perm ((a + k) % 2 ^ 32 / 256) w = true := by
  unfold State.winOk
  simp only [List.all_eq_true, List.any_eq_true, List.mem_range]
  have hblock : ∀ k, (a + k) % 2 ^ 32 / 256 = (a + k) / 256 % 2 ^ 24 := fun k => by omega
  constructor
  · intro h k hk
    have := h ((a + k) / 256 - a / 256) (by omega)
    rwa [Nat.add_sub_cancel' (by omega), ← hblock] at this
  · intro h i hi
    have := h (if i = 0 then 0 else (a / 256 + i) * 256 - a) (by split <;> omega)
    rw [hblock] at this
    rwa [show (a + if i = 0 then 0 else (a / 256 + i) * 256 - a) / 256 = a / 256 + i by split <;> omega] at this

theorem winBad_firm {s : State} {c : Core} (h : s.isApp c = false) (perm n a : Nat) : s.winBad c perm n a = false := by
  rw [State.winBad, h, Bool.false_and]

theorem winBad_iff {s : State} {c : Core} {perm n : Nat} (happ : s.isApp c = true) (hn : 1 ≤ n) (hp : perm < 8)
    (a : Nat) : s.winBad c perm n a = true ↔ ∃ k < n, ¬ s.byteOpen c perm ((a + k) % 2 ^ 32) := by
  rw [State.winBad, happ, Bool.true_and, Bool.not_eq_true', ← Bool.not_eq_true, winOk_iff hn]
  simp only [byteOpen_iff hp, not_forall, exists_prop]

theorem winBad_fetched (s : State) (f : Fetch) (perm n a : Nat) :
    (s.fetched f).winBad f.core perm n a = s.winBad f.core perm n a := by
  have hcr : ∀ k, (s.fetched f).cr f.core (0x20 + k) = s.cr f.core (0x20 + k) :=
    fun k => cr_fetched s f (by unfold Cr.ecccnt; omega)
  have hcr' : ∀ k, (s.fetched f).cr f.core (0x21 + k) = s.cr f.core (0x21 + k) :=
    fun k => cr_fetched s f (by unfold Cr.ecccnt; omega)
  unfold State.winBad State.winOk State.winHolds
  simp only [isApp_fetched, hcr, hcr']

/-! ### Accesses outside the windows -/

section
variable {s : State} {f : Fetch} {perm n : Nat} {x : Word} {i : Instr}

/-- An instruction that raises the window violation of an access outside the windows. -/
theorem window_clause (h10 : s.statusBit f.core 10 = false)
    (h : exec i s = .next ((s.fetched f).faultHere f.core Exc.window 0 x)) :
    ∃ t, exec i s = .next t ∧ (s.fetched f).entered t f.core 2 0 (s.pc f.core) x ∧ ∀ a, t.byte a = s.byte a := by
  have hent := faultHere_fetched_entered h10 Exc.window 0 x
  exact ⟨_, h, hent, byte_of_mem ((mem_of_entered hent).trans (mem_fetched s f))⟩

theorem winBad_fetched_of_closed (happ : s.isApp f.core = true) (hn : 1 ≤ n) (hp : perm < 8)
    (h : ∃ k < n, ¬ s.byteOpen f.core perm ((x.toNat + k) % 2 ^ 32)) :
    (s.fetched f).winBad f.core perm n x.toNat = true := by
  rw [winBad_fetched]
  exact (winBad_iff happ hn hp _).mpr h

end

/-- The atomics are the atomic of their operation. -/
theorem exec_eq_atomic {i : Fetch → Reg → Reg → Reg → Ecc → Instr}
    (h : i ∈ ([.amoadd, .amoswap, .amocas, .amoand, .amoor] : List (Fetch → Reg → Reg → Reg → Ecc → Instr))) :
    ∃ op g, ∀ f d a b ecc s, exec (i f d a b ecc) s = s.atomic f d a b ecc op g := by
  simp only [List.mem_cons, List.not_mem_nil, or_false] at h
  rcases h with rfl | rfl | rfl | rfl | rfl
  · exact ⟨0x02, fun _ old b => some (old + b), fun _ _ _ _ _ _ => rfl⟩
  · exact ⟨0x03, fun _ _ b => some b, fun _ _ _ _ _ _ => rfl⟩
  · exact ⟨0x04, fun d old b => if old = d then some b else none, fun _ _ _ _ _ _ => rfl⟩
  · exact ⟨0x05, fun _ old b => some (old &&& b), fun _ _ _ _ _ _ => rfl⟩
  · exact ⟨0x06, fun _ old b => some (old ||| b), fun _ _ _ _ _ _ => rfl⟩

theorem atomic_window {s : State} {f : Fetch} {a : Reg} (hf : s.fetches f = true)
    (hw : (s.fetched f).winBad f.core Perm.rw 4 (s.g f.core a).toNat = true) (d b : Reg) (ecc : Ecc) (op : Nat)
    (g : Word → Word → Word → Option Word) :
    s.atomic f d a b ecc op g = .next ((s.fetched f).faultHere f.core Exc.window 0 (s.g f.core a)) := by
  unfold State.atomic
  rw [instr_fetches hf]
  simp only [g_fetched, hw]
  rfl

/-- A fetch outside the App windows (R83, R94). -/
theorem instr_window {s : State} {f : Fetch} (hrun : (s.core f.core).run = .run)
    (hw : s.winBad f.core Perm.x 4 (s.pc f.core).toNat = true) (w : Word) (bad : Option Nat) (body : State → State) :
    s.instr f w bad body = .next (s.faultHere f.core Exc.window 0 (s.pc f.core)) := by
  unfold State.instr
  simp only [hrun, hw]
  simp

/-- Settles O8: the window check is the bytes' check, and it comes before every other check of an access. -/
theorem appWindowsGuardAccesses : Obligations.AppWindowsGuardAccesses := by
  unfold Obligations.AppWindowsGuardAccesses
  refine ⟨fun s c perm n a h => winBad_firm h perm n a, fun s c perm n a happ hn _ hp => winBad_iff happ hn hp _,
    fun row hrow f d a imm ecc s hf h10 happ hbad => ?_, fun row hrow f d a imm s hf h10 happ hbad => ?_,
    fun i hi f d a b ecc s hf h10 happ hbad => ?_, fun f imm s hrun h10 happ hbad => ?_⟩
  · have hn : 1 ≤ row.2 := by fin_cases hrow <;> decide
    obtain ⟨op, ext, hexec⟩ := exec_eq_loadInstr hrow
    refine window_clause h10 ((hexec f d a imm ecc s).trans (loadInstr_faults hf (dataFault_window ?_ _) d ecc op ext))
    exact winBad_fetched_of_closed happ hn (by decide) hbad
  · have hn : 1 ≤ row.2 := by fin_cases hrow <;> decide
    obtain ⟨op, hexec⟩ := exec_eq_storeInstr hrow
    refine window_clause h10 ((hexec f d a imm s).trans (storeInstr_faults hf (dataFault_window ?_ _) d op))
    exact winBad_fetched_of_closed happ hn (by decide) hbad
  · obtain ⟨op, g, hexec⟩ := exec_eq_atomic hi
    refine window_clause h10 ((hexec f d a b ecc s).trans (atomic_window hf ?_ d b ecc op g))
    exact winBad_fetched_of_closed happ (by decide) (by decide) hbad
  · have hw := (winBad_iff (perm := Perm.x) happ (by decide) (by decide) (s.pc f.core).toNat).mpr hbad
    refine ⟨_, ?_, faultHere_entered h10 Exc.window 0 (s.pc f.core)⟩
    rw [exec_trap, execTrap, instr_window hrun hw]

end Sys2Proof.Machine
end

section
/-! PROOF. Loads (R87, R98, R141): a corrected error of Herd memory is counted in HRD_ECCCNT as well. -/

namespace Sys2Proof.Machine
open Sys2Proof Sys2Proof.Reg

/-- The field `q` after command `i`, 0 where `i` does not complete. -/
def fieldAfter (i : Instr) (s : State) (q : Fld) : Nat :=
  match exec i s with
  | .next t => t.get q
  | _ => 0

theorem fieldAfter_next {i : Instr} {s t : State} (h : exec i s = .next t) (q : Fld) : fieldAfter i s q = t.get q := by
  unfold fieldAfter
  rw [h]

theorem regs_of_sameBut {s t : State} {c : Core} (h : s.sameBut t c) : t.regs = s.regs := by
  rw [h, State.setCore_regs]

/-- Rider 0 at the boot ROM, with the Herd powered and g1 at its first lane memory. -/
def herdLoadState : State := (State.reset.set HRD_STAT.POWERED 1).setG .r0 1 0x30000000

/-- The fetch of an instruction of Rider 0 without an ECC error. -/
def cleanFetch : Fetch := ⟨.r0, .ok, none⟩

/-- lw g2, 0(g1) of Rider 0, its data with a corrected error. -/
def herdLoad : Instr := .lw cleanFetch 2 1 0 .corrected

theorem herdLoad_served : herdLoadState.fetches cleanFetch = true ∧
    (herdLoadState.fetched cleanFetch).serves .r0 .load Perm.r 4 0x30000000 = true ∧
    herdLoadState.g .r0 1 + (0 : BitVec 13).signExtend 32 = 0x30000000 ∧
    region 0x30000000 = .laneMem := by decide +kernel

theorem herdLoad_counts : fieldAfter herdLoad herdLoadState HRD_ECCCNT.COUNT = 1 ∧
    herdLoadState.get HRD_ECCCNT.COUNT = 0 := by decide +kernel

/-- Refutes O5: the served load of a word of lane memory with a corrected error changes HRD_ECCCNT.COUNT, a register of
the module and none of the core. -/
theorem not_loadsReadMemory : ¬ Obligations.LoadsReadMemory := by
  unfold Obligations.LoadsReadMemory
  intro h
  obtain ⟨hfetch, hserves, haddr, hregion⟩ := herdLoad_served
  have hload := h (.lw, 4, BitVec.ofNat 32) (by simp) cleanFetch 2 1 0 .corrected herdLoadState hfetch
  dsimp only [cleanFetch] at hload
  rw [haddr] at hload
  obtain ⟨hmem, -⟩ := hload hserves
  have hr : region (0x30000000 : Word).toNat = .laneMem := hregion
  rw [hr] at hmem
  obtain ⟨t, ht, -, -, hsame, -⟩ := (hmem (by decide) (by decide)).1 (by decide)
  obtain ⟨hcount, hzero⟩ := herdLoad_counts
  rw [fieldAfter_next (i := herdLoad) ht, get_of_regs (regs_of_sameBut hsame), hzero] at hcount
  exact absurd hcount (by decide)

end Sys2Proof.Machine
end

section
/-! SUPPORT. The FP32 instructions of a Rider (R89, R90): what signalled conditions do, and one form for every operation
with a result. -/

namespace Sys2Proof.Machine
open Sys2Proof Sys2Proof.Reg

/-! ### Signalled conditions -/

/-- The signalled conditions `k` that FPCTL of core `c` traps. -/
def State.fpTrapped (s : State) (c : Core) (k : Nat) : Nat := k &&& ((s.cr c Cr.fpctl).toNat / 256)

/-- `s` with the conditions `k` in the sticky flags of FPCTL. -/
def State.fpSticky (s : State) (c : Core) (k : Nat) : State :=
  s.setCr c Cr.fpctl (BitVec.ofNat 32 ((s.cr c Cr.fpctl).toNat ||| k))

theorem fpSignal_masked {s : State} {c : Core} {k : Nat} (h : s.fpTrapped c k = 0) (done : State → State) :
    s.fpSignal c k done = done (s.fpSticky c k) := by
  unfold State.fpTrapped at h
  simp only [State.fpSignal, State.fpSticky, h]
  rfl

theorem fpSignal_trapped {s : State} {c : Core} {k : Nat} (h : s.fpTrapped c k ≠ 0) (done : State → State) :
    s.fpSignal c k done = s.faultHere c Exc.fp 0 (BitVec.ofNat 32 (s.fpTrapped c k)) := by
  unfold State.fpTrapped at h ⊢
  simp only [State.fpSignal, ne_eq, h]
  rfl

@[simp] theorem fpTrapped_fetched (s : State) (f : Fetch) (k : Nat) :
    (s.fetched f).fpTrapped f.core k = s.fpTrapped f.core k := by
  unfold State.fpTrapped
  rw [cr_fetched s f (by decide)]

theorem sameBut_fpSticky (s : State) (c : Core) (k : Nat) : s.sameBut (s.fpSticky c k) c := sameBut_setCr _ _ _ _

theorem cr_fpSticky_fetched (s : State) (f : Fetch) (k : Nat) :
    ((s.fetched f).fpSticky f.core k).cr f.core Cr.fpctl =
      BitVec.ofNat 32 ((s.cr f.core Cr.fpctl).toNat ||| k) := by
  rw [State.fpSticky, cr_setCr_same, cr_fetched s f (by decide)]

theorem sameCr_fpSticky (s : State) (c : Core) (k : Nat) : s.sameCr (s.fpSticky c k) c [Cr.fpctl] :=
  fun _ hn => cr_setCr_ne _ _ _ (fun e => hn (List.mem_singleton.mpr e))

/-! ### Operations with a result -/

theorem groomLacks_rider {f : Fetch} (h : f.core ≠ .grm) : groomLacks f = false := by
  simp [groomLacks, h]

/-- `i` is the FP32 operation with the result `g` of the old gD, gA and gB. -/
def IsFpOp (i : Fetch → Bool → Reg → Reg → Reg → Instr) (g : Nat → Nat → Nat → FpRes) : Prop :=
  ∃ op, ∀ f d a b s, exec (i f false d a b) s = s.fpInstr f false d a b op false g

theorem isFpOp_fadd : IsFpOp .fadd fun _ x y => fpAdd x y := ⟨0x00, fun _ _ _ _ _ => rfl⟩
theorem isFpOp_fsub : IsFpOp .fsub fun _ x y => fpSub x y := ⟨0x01, fun _ _ _ _ _ => rfl⟩
theorem isFpOp_fmul : IsFpOp .fmul fun _ x y => fpMul x y := ⟨0x02, fun _ _ _ _ _ => rfl⟩
theorem isFpOp_fdiv : IsFpOp .fdiv fun _ x y => fpDiv x y := ⟨0x03, fun _ _ _ _ _ => rfl⟩
theorem isFpOp_fma : IsFpOp .fma fpFma := ⟨0x05, fun _ _ _ _ _ => rfl⟩
theorem isFpOp_fms : IsFpOp .fms fpFms := ⟨0x06, fun _ _ _ _ _ => rfl⟩
theorem isFpOp_fmin : IsFpOp .fmin fun _ x y => fpMin x y := ⟨0x08, fun _ _ _ _ _ => rfl⟩
theorem isFpOp_fmax : IsFpOp .fmax fun _ x y => fpMax x y := ⟨0x09, fun _ _ _ _ _ => rfl⟩
theorem isFpOp_fabs : IsFpOp .fabs fun _ x _ => fpAbs x := ⟨0x0A, fun _ _ _ _ _ => rfl⟩
theorem isFpOp_fneg : IsFpOp .fneg fun _ x _ => .exact (fpNegate x) := ⟨0x0B, fun _ _ _ _ _ => rfl⟩
theorem isFpOp_fcvtsw : IsFpOp .fcvtsw fun _ x _ => fpOfInt x := ⟨0x10, fun _ _ _ _ _ => rfl⟩
theorem isFpOp_fcvtws : IsFpOp .fcvtws fun _ x _ => fpToInt false x := ⟨0x11, fun _ _ _ _ _ => rfl⟩
theorem isFpOp_fcvtwsr : IsFpOp .fcvtwsr fun _ x _ => fpToInt true x := ⟨0x12, fun _ _ _ _ _ => rfl⟩

/-- The result `r` in gD with its conditions in the sticky flags, the pc past the instruction. -/
def State.fpDone (s : State) (f : Fetch) (d : Reg) (r : FpRes) : State :=
  (((s.fetched f).fpSticky f.core r.conds).setG f.core d (BitVec.ofNat 32 r.val)).advance f.core

section
variable {s : State} {f : Fetch}

/-- An FP32 operation with a result, its encoding defined, on a Rider. -/
theorem fpInstr_fetches (hf : s.fetches f = true) (hr : f.core ≠ .grm) (d a b : Reg) (op : Nat)
    (g : Nat → Nat → Nat → FpRes) :
    s.fpInstr f false d a b op false g =
      .next ((s.fetched f).fpSignal f.core (g (s.g f.core d).toNat (s.g f.core a).toNat (s.g f.core b).toNat).conds
        fun t => (t.setG f.core d (BitVec.ofNat 32
          (g (s.g f.core d).toNat (s.g f.core a).toNat (s.g f.core b).toNat).val)).advance f.core) := by
  unfold State.fpInstr
  dsimp only
  rw [groomLacks_rider hr, Bool.or_false, firstBad_false, firstBad_false, firstBad_nil, instr_body hf]
  simp only [g_fetched]

theorem IsFpOp.exec_masked {i : Fetch → Bool → Reg → Reg → Reg → Instr} {g : Nat → Nat → Nat → FpRes}
    (h : IsFpOp i g) (hf : s.fetches f = true) (hr : f.core ≠ .grm) {d a b : Reg} {r : FpRes}
    (hg : g (s.g f.core d).toNat (s.g f.core a).toNat (s.g f.core b).toNat = r)
    (hm : s.fpTrapped f.core r.conds = 0) : exec (i f false d a b) s = .next (s.fpDone f d r) := by
  obtain ⟨op, hexec⟩ := h
  rw [hexec, fpInstr_fetches hf hr, hg, fpSignal_masked (by rw [fpTrapped_fetched, hm])]
  rfl

theorem IsFpOp.exec_trapped {i : Fetch → Bool → Reg → Reg → Reg → Instr} {g : Nat → Nat → Nat → FpRes}
    (h : IsFpOp i g) (hf : s.fetches f = true) (hr : f.core ≠ .grm) {d a b : Reg} {r : FpRes}
    (hg : g (s.g f.core d).toNat (s.g f.core a).toNat (s.g f.core b).toNat = r)
    (ht : s.fpTrapped f.core r.conds ≠ 0) :
    exec (i f false d a b) s =
      .next ((s.fetched f).faultHere f.core Exc.fp 0 (BitVec.ofNat 32 (s.fpTrapped f.core r.conds))) := by
  obtain ⟨op, hexec⟩ := h
  rw [hexec, fpInstr_fetches hf hr, hg, fpSignal_trapped (by rwa [fpTrapped_fetched]), fpTrapped_fetched]

theorem exec_fsqrt_g0 (d a : Reg) (s : State) :
    exec (.fsqrt f false d a 0) s = s.fpInstr f false d a 0 0x04 false fun _ x _ => fpSqrt x := rfl

end

theorem fpDone_fpctl (s : State) (f : Fetch) (d : Reg) (r : FpRes) :
    (s.fpDone f d r).cr f.core Cr.fpctl = BitVec.ofNat 32 ((s.cr f.core Cr.fpctl).toNat ||| r.conds) := by
  rw [State.fpDone, cr_answer, cr_fpSticky_fetched]

/-- Registers, pc and frame of the answer. -/
theorem fpDone_clauses (s : State) (f : Fetch) (d : Reg) (r : FpRes) :
    (∀ q, (s.fpDone f d r).g f.core q = if q = d ∧ q ≠ 0 then BitVec.ofNat 32 r.val else s.g f.core q) ∧
      (s.fpDone f d r).pc f.core = s.pc f.core + 4 ∧ s.sameBut (s.fpDone f d r) f.core :=
  answer_clauses (sameBut_trans (sameBut_fetched s f) (sameBut_fpSticky _ _ _))
    (fun q => by rw [State.fpSticky, g_setCr, g_fetched]) (by rw [State.fpSticky, pc_setCr, pc_fetched]) d _

theorem fpDone_sameCr (s : State) (f : Fetch) (d : Reg) (r : FpRes) :
    s.sameCr (s.fpDone f d r) f.core ([Cr.fpctl] ++ if f.ecc = .corrected then [Cr.ecccnt] else []) := by
  intro n hn
  rw [State.fpDone, cr_answer]
  exact sameCr_trans (sameCr_fetched s f) (sameCr_fpSticky _ _ _) n hn

end Sys2Proof.Machine
end

section
/-! PROOF. FP32 results, sticky flags and the FP exception (R90). -/

namespace Sys2Proof.Machine
open Sys2Proof Sys2Proof.Reg

theorem fcmp_conds (x y : Nat) (q : Bool) :
    (if isSNaN x || isSNaN y || (decide (fpOrder x y = .unordered) && q) then 16 else 0) =
      16 * b2n (isSNaN x || isSNaN y || (decide (fpOrder x y = .unordered) && q)) := by
  rw [b2n, mul_ite]

/-- The flags of fcmp, and the pc past it. -/
def State.fcmpDone (s : State) (f : Fetch) (k : Nat) (o : FpOrder) : State :=
  (((s.fetched f).fpSticky f.core k).setFlags f.core (decide (o = .equal)) (decide (o = .less)) false
    (decide (o = .unordered))).advance f.core

theorem fcmpDone_clauses (s : State) (f : Fetch) (k : Nat) (o : FpOrder) :
    (s.fcmpDone f k o).cr f.core Cr.fpctl = BitVec.ofNat 32 ((s.cr f.core Cr.fpctl).toNat ||| k) ∧
      (s.fcmpDone f k o).pc f.core = s.pc f.core + 4 ∧ s.sameBut (s.fcmpDone f k o) f.core ∧
      (∀ q, (s.fcmpDone f k o).g f.core q = s.g f.core q) := by
  refine ⟨?_, ?_, ?_, fun q => ?_⟩
  · rw [State.fcmpDone, cr_advance, State.setFlags, cr_setCr_ne _ _ _ (by decide), cr_fpSticky_fetched]
  · rw [State.fcmpDone, pc_advance, pc_setFlags, State.fpSticky, pc_setCr, pc_fetched]
  · exact sameBut_trans (sameBut_trans (sameBut_fetched s f) (sameBut_fpSticky _ _ _))
      (sameBut_trans (sameBut_setFlags _ _ _ _ _ _) (sameBut_advance _ _))
  · rw [State.fcmpDone, g_advance, g_setFlags, State.fpSticky, g_setCr, g_fetched]

theorem statusBit_fcmpDone (s : State) (f : Fetch) (k : Nat) (o : FpOrder) (b : Nat) :
    (s.fcmpDone f k o).statusBit f.core b =
      if b = 0 then decide (o = .equal) else if b = 1 then decide (o = .less) else if b = 2 then false
      else if b = 3 then decide (o = .unordered) else s.statusBit f.core b := by
  have hkeep : ((s.fetched f).fpSticky f.core k).statusBit f.core b = s.statusBit f.core b := by
    rw [State.statusBit, State.fpSticky, cr_setCr_ne _ _ _ (by decide), ← State.statusBit, statusBit_fetched]
  rw [← hkeep, ← statusBit_setFlags, State.statusBit, State.fcmpDone, cr_advance, State.statusBit]

theorem exec_fcmp_fetches {s : State} {f : Fetch} (hf : s.fetches f = true) (hr : f.core ≠ .grm) (d a b : Reg) :
    exec (.fcmp f true d a b) s =
      .next ((s.fetched f).fpSignal f.core
        (16 * b2n (isSNaN (s.g f.core a).toNat || isSNaN (s.g f.core b).toNat ||
          (decide (fpOrder (s.g f.core a).toNat (s.g f.core b).toNat = .unordered) && Config.fpChoice 2)))
        fun t => (t.setFlags f.core (decide (fpOrder (s.g f.core a).toNat (s.g f.core b).toNat = .equal))
          (decide (fpOrder (s.g f.core a).toNat (s.g f.core b).toNat = .less)) false
          (decide (fpOrder (s.g f.core a).toNat (s.g f.core b).toNat = .unordered))).advance f.core) := by
  rw [exec_fcmp, execFcmp, groomLacks_rider hr, Bool.not_true, firstBad_false, firstBad_false, firstBad_nil,
    instr_body hf]
  simp only [g_fetched]

theorem isFpOp_of_mem {row : (Fetch → Bool → Reg → Reg → Reg → Instr) × (Nat → Nat → Nat → FpRes)}
    (h : row ∈ ([(.fadd, fun _ x y => fpAdd x y), (.fsub, fun _ x y => fpSub x y), (.fmul, fun _ x y => fpMul x y),
      (.fdiv, fun _ x y => fpDiv x y), (.fma, fpFma), (.fms, fpFms), (.fmin, fun _ x y => fpMin x y),
      (.fmax, fun _ x y => fpMax x y), (.fabs, fun _ x _ => fpAbs x), (.fneg, fun _ x _ => .exact (fpNegate x)),
      (.fcvtsw, fun _ x _ => fpOfInt x), (.fcvtws, fun _ x _ => fpToInt false x),
      (.fcvtwsr, fun _ x _ => fpToInt true x)] :
        List ((Fetch → Bool → Reg → Reg → Reg → Instr) × (Nat → Nat → Nat → FpRes)))) : IsFpOp row.1 row.2 := by
  simp only [List.mem_cons, List.not_mem_nil, or_false] at h
  rcases h with rfl | rfl | rfl | rfl | rfl | rfl | rfl | rfl | rfl | rfl | rfl | rfl | rfl
  · exact isFpOp_fadd
  · exact isFpOp_fsub
  · exact isFpOp_fmul
  · exact isFpOp_fdiv
  · exact isFpOp_fma
  · exact isFpOp_fms
  · exact isFpOp_fmin
  · exact isFpOp_fmax
  · exact isFpOp_fabs
  · exact isFpOp_fneg
  · exact isFpOp_fcvtsw
  · exact isFpOp_fcvtws
  · exact isFpOp_fcvtwsr

/-- Settles O10: the conditions decide between the FP exception and the answer. -/
theorem floatResultsFlagsAndTraps : Obligations.FloatResultsFlagsAndTraps := by
  unfold Obligations.FloatResultsFlagsAndTraps
  refine ⟨fun row hrow f d a b s hf hr => ⟨fun hm => ?_, fun ht h10 => ?_⟩,
    fun f d a s hf hr => ⟨fun hm => ?_, fun ht h10 => ?_⟩, fun f d a b s hf hr => ?_⟩
  · obtain ⟨hg, hpc, hsame⟩ := fpDone_clauses s f d
      (row.2 (s.g f.core d).toNat (s.g f.core a).toNat (s.g f.core b).toNat)
    exact ⟨_, (isFpOp_of_mem hrow).exec_masked hf hr rfl hm, fpDone_fpctl _ _ _ _, hpc, hsame, hg,
      fpDone_sameCr _ _ _ _⟩
  · exact ⟨_, (isFpOp_of_mem hrow).exec_trapped hf hr rfl ht, faultHere_fetched_entered h10 _ _ _⟩
  · obtain ⟨hg, hpc, hsame⟩ := fpDone_clauses s f d (fpSqrt (s.g f.core a).toNat)
    refine ⟨s.fpDone f d (fpSqrt (s.g f.core a).toNat), ?_, fpDone_fpctl _ _ _ _, hpc, hsame, hg,
      fpDone_sameCr _ _ _ _⟩
    rw [exec_fsqrt_g0, fpInstr_fetches hf hr, fpSignal_masked (by rw [fpTrapped_fetched]; exact hm)]
    rfl
  · refine ⟨_, ?_, faultHere_fetched_entered h10 _ _ _⟩
    rw [exec_fsqrt_g0, fpInstr_fetches hf hr, fpSignal_trapped (by rw [fpTrapped_fetched]; exact ht),
      fpTrapped_fetched]
    rfl
  · dsimp only
    rw [fcmp_conds, exec_fcmp_fetches hf hr]
    refine ⟨fun hm => ?_, fun ht h10 => ?_⟩
    · obtain ⟨hctl, hpc, hsame, hg⟩ := fcmpDone_clauses s f
        (16 * b2n (isSNaN (s.g f.core a).toNat || isSNaN (s.g f.core b).toNat ||
          (decide (fpOrder (s.g f.core a).toNat (s.g f.core b).toNat = .unordered) && Config.fpChoice 2)))
        (fpOrder (s.g f.core a).toNat (s.g f.core b).toNat)
      rw [fpSignal_masked (by rw [fpTrapped_fetched]; exact hm)]
      refine ⟨_, rfl, hctl, hpc, hsame, statusBit_fcmpDone _ _ _ _ 0, statusBit_fcmpDone _ _ _ _ 1,
        statusBit_fcmpDone _ _ _ _ 2, statusBit_fcmpDone _ _ _ _ 3, fun q hq => ?_, hg⟩
      refine (statusBit_fcmpDone _ _ _ _ q).trans ?_
      rw [if_neg (by omega), if_neg (by omega), if_neg (by omega), if_neg (by omega)]
    · rw [fpSignal_trapped (by rw [fpTrapped_fetched]; exact ht), fpTrapped_fetched]
      exact ⟨_, rfl, faultHere_fetched_entered h10 _ _ _⟩

end Sys2Proof.Machine
end

section
/-! PROOF. NaN, saturating conversions, fabs and fneg (R89). -/

namespace Sys2Proof.Machine
open Sys2Proof Sys2Proof.Reg

/-! ### Values -/

theorem isNaN_iff (x : Nat) : isNaN x = true ↔ 0x7F800000 < x % 2 ^ 31 := by
  unfold isNaN fpExp fpFrac bits
  rw [Bool.and_eq_true, decide_eq_true_eq, decide_eq_true_eq]
  omega

theorem fpAdd_nan {a b : Nat} (h : isNaN a = true ∨ isNaN b = true) : (fpAdd a b).val = fpNaN := by
  rw [fpAdd, if_pos (Bool.or_eq_true_iff.mpr h)]
  rfl

theorem fpSub_nan {a b : Nat} (h : isNaN a = true ∨ isNaN b = true) : (fpSub a b).val = fpNaN := by
  unfold fpSub
  split
  case isTrue hb => exact fpAdd_nan (.inr hb)
  case isFalse hb => exact fpAdd_nan (.inl (h.resolve_right hb))

theorem fpMul_nan {a b : Nat} (h : isNaN a = true ∨ isNaN b = true) : (fpMul a b).val = fpNaN := by
  unfold fpMul
  dsimp only
  rw [if_pos (Bool.or_eq_true_iff.mpr h)]
  rfl

theorem fpDiv_nan {a b : Nat} (h : isNaN a = true ∨ isNaN b = true) : (fpDiv a b).val = fpNaN := by
  unfold fpDiv
  dsimp only
  rw [if_pos (Bool.or_eq_true_iff.mpr h)]
  rfl

theorem fpSqrt_nan {a : Nat} (h : isNaN a = true) : (fpSqrt a).val = fpNaN := by
  rw [fpSqrt, if_pos h]
  rfl

theorem fpNeg_iff {x : Nat} (hx : x < 2 ^ 32) : fpNeg x = true ↔ 2 ^ 31 ≤ x := by
  rw [fpNeg, bit, Nat.testBit_eq_decide_div_mod_eq, decide_eq_true_eq]
  omega

/-! ### Conversion to a signed integer -/

theorem fpToInt_nan {x : Nat} (h : isNaN x = true) (nearest : Bool) :
    fpToInt nearest x = ⟨0, true, false, false, false, false⟩ := by
  rw [fpToInt, if_pos h]

/-- A number of 2^31 or more in magnitude, −2^31 itself apart, saturates to the end of its sign. -/
theorem fpToInt_saturates {x : Nat} (hx : x < 2 ^ 32) (hnan : isNaN x = false)
    (h : if fpNeg x then 0xCF000001 ≤ x else 0x4F000000 ≤ x) (nearest : Bool) :
    fpToInt nearest x = ⟨if fpNeg x then 0x80000000 else 0x7FFFFFFF, true, false, false, false, false⟩ := by
  unfold fpToInt
  rw [if_neg (by rw [hnan]; decide)]
  dsimp only
  split
  case isTrue => rfl
  case isFalse =>
    have hneg := fpNeg_iff hx
    have hexp : 158 ≤ fpExp x := by
      unfold fpExp bits
      split at h
      case isTrue => omega
      case isFalse hpos =>
        rw [hneg] at hpos
        omega
    have hscale : fpScale x = (fpExp x : Int) - 150 := if_neg (by omega)
    have hmant : fpMant x = 2 ^ 23 + fpFrac x := if_neg (by omega)
    have hpow : (2 : Nat) ^ 8 ≤ 2 ^ (fpScale x).toNat := Nat.pow_le_pow_right (by decide) (by omega)
    rw [if_pos (by omega : (0 : Int) ≤ fpScale x), if_pos]
    split
    case isTrue hminus =>
      rw [if_pos hminus] at h
      by_cases h159 : 159 ≤ fpExp x
      · have hpow9 : (2 : Nat) ^ 9 ≤ 2 ^ (fpScale x).toNat := Nat.pow_le_pow_right (by decide) (by omega)
        calc 2 ^ 31 < 2 ^ 23 * 2 ^ 9 := by decide
          _ ≤ fpMant x * 2 ^ (fpScale x).toNat := Nat.mul_le_mul (by omega) hpow9
      · have hfrac : 1 ≤ fpFrac x := by
          unfold fpExp bits at *
          unfold fpFrac bits
          omega
        calc 2 ^ 31 < (2 ^ 23 + 1) * 2 ^ 8 := by decide
          _ ≤ fpMant x * 2 ^ (fpScale x).toNat := Nat.mul_le_mul (by omega) hpow
    case isFalse =>
      calc 2 ^ 31 = 2 ^ 23 * 2 ^ 8 := by decide
        _ ≤ fpMant x * 2 ^ (fpScale x).toNat := Nat.mul_le_mul (by omega) hpow

/-! ### Sign operations -/

theorem ofNat_fpAbs (x : Word) : BitVec.ofNat 32 (fpAbs x.toNat).val = x &&& 0x7FFFFFFF := by
  refine BitVec.eq_of_toNat_eq ?_
  rw [BitVec.toNat_and, BitVec.toNat_ofNat]
  show x.toNat % 2 ^ 31 % 2 ^ 32 = x.toNat &&& 0x7FFFFFFF
  rw [show (0x7FFFFFFF : Nat) = 2 ^ 31 - 1 from rfl, Nat.and_two_pow_sub_one_eq_mod]
  omega

/-- The exclusive or with bit 31 is the sum with it, modulo 2^32. -/
theorem xor_signBit {n : Nat} (h : n < 2 ^ 32) :
    n ^^^ 2 ^ 31 = if 2 ^ 31 ≤ n then n - 2 ^ 31 else n + 2 ^ 31 := by
  have hlow : (n ^^^ 2 ^ 31) % 2 ^ 31 = n % 2 ^ 31 := by
    rw [Nat.xor_mod_two_pow, Nat.mod_self, Nat.xor_zero]
  have hhigh : (n ^^^ 2 ^ 31) / 2 ^ 31 = n / 2 ^ 31 ^^^ 1 := by
    rw [Nat.xor_div_two_pow, Nat.div_self (by decide)]
  generalize n ^^^ 2 ^ 31 = y at hlow hhigh
  split
  case isTrue hle =>
    rw [show n / 2 ^ 31 = 1 by omega, show (1 ^^^ 1 : Nat) = 0 from rfl] at hhigh
    omega
  case isFalse hlt =>
    rw [show n / 2 ^ 31 = 0 by omega, show (0 ^^^ 1 : Nat) = 1 from rfl] at hhigh
    omega

theorem ofNat_fpNegate (x : Word) : BitVec.ofNat 32 (fpNegate x.toNat) = x ^^^ 0x80000000 := by
  refine BitVec.eq_of_toNat_eq ?_
  have hlt := x.isLt
  rw [BitVec.toNat_xor, BitVec.toNat_ofNat, show (0x80000000 : Word).toNat = 2 ^ 31 from rfl, xor_signBit hlt, fpNegate]
  simp only [fpNeg_iff hlt]
  split <;> omega

/-! ### The statement -/

section
variable {s : State} {f : Fetch} {d : Reg}

theorem fpTrapped_eq_zero (h : (s.cr f.core Cr.fpctl).toNat < 256) (k : Nat) : s.fpTrapped f.core k = 0 := by
  rw [State.fpTrapped, Nat.div_eq_of_lt h, Nat.and_zero]

/-- With no trap enabled, an FP32 operation writes its result. -/
theorem IsFpOp.exec_untrapped {i : Fetch → Bool → Reg → Reg → Reg → Instr} {g : Nat → Nat → Nat → FpRes}
    (h : IsFpOp i g) (hf : s.fetches f = true) (hr : f.core ≠ .grm)
    (hctl : (s.cr f.core Cr.fpctl).toNat < 256) (d a b : Reg) :
    exec (i f false d a b) s =
      .next (s.fpDone f d (g (s.g f.core d).toNat (s.g f.core a).toNat (s.g f.core b).toNat)) :=
  h.exec_masked hf hr rfl (fpTrapped_eq_zero hctl _)

theorem g_fpDone (hd : d ≠ 0) (r : FpRes) : (s.fpDone f d r).g f.core d = BitVec.ofNat 32 r.val := by
  rw [(fpDone_clauses s f d r).1, if_pos ⟨rfl, hd⟩]

/-- A result that signals nothing leaves FPCTL. -/
theorem fpDone_fpctl_exact (d : Reg) (v : Nat) : (s.fpDone f d (.exact v)).cr f.core Cr.fpctl = s.cr f.core Cr.fpctl := by
  rw [fpDone_fpctl, show (FpRes.exact v).conds = 0 from rfl, Nat.or_zero, BitVec.ofNat_toNat, BitVec.setWidth_eq]

theorem fpDone_invalid (d : Reg) (v : Nat) :
    ((s.fpDone f d ⟨v, true, false, false, false, false⟩).cr f.core Cr.fpctl).getLsbD 4 = true := by
  rw [fpDone_fpctl, BitVec.getLsbD_ofNat, Nat.testBit_or, show
    (FpRes.mk v true false false false false).conds = 16 from rfl, show Nat.testBit 16 4 = true from rfl, Bool.or_true]
  rfl

end

theorem nan_arith_of_mem {i : Fetch → Bool → Reg → Reg → Reg → Instr}
    (h : i ∈ ([.fadd, .fsub, .fmul, .fdiv] : List (Fetch → Bool → Reg → Reg → Reg → Instr))) :
    ∃ g, IsFpOp i g ∧ ∀ d x y, isNaN x = true ∨ isNaN y = true → (g d x y).val = fpNaN := by
  simp only [List.mem_cons, List.not_mem_nil, or_false] at h
  rcases h with rfl | rfl | rfl | rfl
  · exact ⟨_, isFpOp_fadd, fun _ _ _ => fpAdd_nan⟩
  · exact ⟨_, isFpOp_fsub, fun _ _ _ => fpSub_nan⟩
  · exact ⟨_, isFpOp_fmul, fun _ _ _ => fpMul_nan⟩
  · exact ⟨_, isFpOp_fdiv, fun _ _ _ => fpDiv_nan⟩

theorem convert_of_mem {i : Fetch → Bool → Reg → Reg → Reg → Instr}
    (h : i ∈ ([.fcvtws, .fcvtwsr] : List (Fetch → Bool → Reg → Reg → Reg → Instr))) :
    ∃ nearest, IsFpOp i fun _ x _ => fpToInt nearest x := by
  simp only [List.mem_cons, List.not_mem_nil, or_false] at h
  rcases h with rfl | rfl
  · exact ⟨false, isFpOp_fcvtws⟩
  · exact ⟨true, isFpOp_fcvtwsr⟩

/-- Settles O11: with no trap enabled each operation writes its result, and the results are those of R89. -/
theorem floatSpecialValues : Obligations.FloatSpecialValues := by
  unfold Obligations.FloatSpecialValues
  refine ⟨fun i hi f d a b s ⟨hf, hr, hd, hctl⟩ hnan => ?_, fun f d a s ⟨hf, hr, hd, hctl⟩ hnan => ?_,
    fun i hi f d a b s ⟨hf, hr, hd, hctl⟩ => ?_, fun f d a b s ⟨hf, hr, hd, hctl⟩ => ⟨?_, ?_⟩⟩
  · obtain ⟨g, hop, hval⟩ := nan_arith_of_mem hi
    refine ⟨_, hop.exec_untrapped hf hr hctl d a b, ?_⟩
    rw [g_fpDone hd, hval _ _ _ (hnan.imp (isNaN_iff _).mpr (isNaN_iff _).mpr)]
    rfl
  · refine ⟨s.fpDone f d (fpSqrt (s.g f.core a).toNat), ?_, ?_⟩
    · rw [exec_fsqrt_g0, fpInstr_fetches hf hr,
        fpSignal_masked (by rw [fpTrapped_fetched]; exact fpTrapped_eq_zero hctl _)]
      rfl
    · rw [g_fpDone hd, fpSqrt_nan ((isNaN_iff _).mpr hnan)]
      rfl
  · obtain ⟨nearest, hop⟩ := convert_of_mem hi
    have hexec := hop.exec_untrapped hf hr hctl d a b
    have hlt := (s.g f.core a).isLt
    have hsign := fpNeg_iff hlt
    have hnan := isNaN_iff (s.g f.core a).toNat
    refine ⟨fun h => ?_, fun hlo hhi => ?_, fun hlo hhi => ?_⟩
    · rw [fpToInt_nan (hnan.mpr h)] at hexec
      exact ⟨_, hexec, g_fpDone hd _, fpDone_invalid d _⟩
    · have hplus : fpNeg (s.g f.core a).toNat = false := by
        rw [← Bool.not_eq_true, hsign]
        omega
      rw [fpToInt_saturates hlt (by rw [← Bool.not_eq_true, hnan]; omega) (by rw [hplus]; exact hlo), hplus] at hexec
      exact ⟨_, hexec, g_fpDone hd _, fpDone_invalid d _⟩
    · have hminus : fpNeg (s.g f.core a).toNat = true := hsign.mpr (by omega)
      rw [fpToInt_saturates hlt (by rw [← Bool.not_eq_true, hnan]; omega) (by rw [hminus]; exact hlo), hminus] at hexec
      exact ⟨_, hexec, g_fpDone hd _, fpDone_invalid d _⟩
  · refine ⟨_, isFpOp_fabs.exec_untrapped hf hr hctl d a b, ?_, fpDone_fpctl_exact _ _⟩
    rw [g_fpDone hd, ofNat_fpAbs]
  · refine ⟨_, isFpOp_fneg.exec_untrapped hf hr hctl d a b, ?_, fpDone_fpctl_exact _ _⟩
    rw [g_fpDone hd]
    exact ofNat_fpNegate _

end Sys2Proof.Machine
end

section
/-! PROOF. Instructions that App may not execute, classes that the Groom lacks and undefined encodings (R79, R84). -/

namespace Sys2Proof.Machine
open Sys2Proof Sys2Proof.Reg

/-! ### Illegal-instruction conditions -/

section
variable {s : State} {f : Fetch} {i : Instr} {w : Word}

/-- A command that is an instruction with an illegal-instruction condition enters its handler. -/
theorem illegal_of_exec (hf : s.fetches f = true) (h10 : s.statusBit f.core 10 = false) {bad : Option Nat} {k : Nat}
    {body : State → State} (hexec : exec i s = s.instr f w bad body) (hbad : bad = some k) :
    ∃ t, exec i s = .next t ∧ (s.fetched f).entered t f.core 1 k (s.pc f.core) w := by
  rw [hexec, hbad]
  exact instr_illegal hf h10 w k body

/-- The same, without the word in EVAL. -/
theorem illegal_of_exec_eval (hf : s.fetches f = true) (h10 : s.statusBit f.core 10 = false) {bad : Option Nat}
    {k : Nat} {body : State → State} (hexec : exec i s = s.instr f w bad body) (hbad : bad = some k) :
    ∃ t eval, exec i s = .next t ∧ (s.fetched f).entered t f.core 1 k (s.pc f.core) eval := by
  obtain ⟨t, ht, hent⟩ := illegal_of_exec hf h10 hexec hbad
  exact ⟨t, w, ht, hent⟩

/-- A word that is no instruction raises the exception whatever the command that carries it. -/
theorem instr_undefined {k : Nat} (hraw : f.raw = some w) (hf : s.fetches { f with raw := none } = true)
    (h10 : s.statusBit f.core 10 = false) (hk : wordFault f.core w = some k) (word : Word) (bad : Option Nat)
    (body : State → State) :
    ∃ t, s.instr f word bad body = .next t ∧ (s.fetched f).entered t f.core 1 k (s.pc f.core) w := by
  refine ⟨_, ?_, faultHere_fetched_entered h10 Exc.illegal k w⟩
  simp only [State.fetches, Bool.and_eq_true, decide_eq_true_eq, Bool.not_eq_true', Option.isNone_iff_eq_none] at hf
  obtain ⟨⟨⟨⟨hrun, hwin⟩, hrefusal⟩, hecc⟩, -⟩ := hf
  have hundef : fetchUndefined f = some (k, w) := by
    rw [fetchUndefined, hraw]
    dsimp only
    rw [hk]
    rfl
  simp only [State.instr, State.fetched, hrun, hwin, hrefusal, hecc, hundef]
  simp

end

/-! ### App privilege (R84) -/

theorem crListed_iff (n : Nat) : crListed n = true ↔
    n ≤ 6 ∨ n = 8 ∨ (0x10 ≤ n ∧ n ≤ 0x14) ∨ (0x18 ≤ n ∧ n ≤ 0x1A) ∨ (0x20 ≤ n ∧ n ≤ 0x2F) := by
  unfold crListed
  simp only [Bool.or_eq_true, decide_eq_true_eq]
  tauto

theorem crApp_iff (n : Nat) : crApp n = true ↔ n ∈ [8, 0x14, 0x18, 0x19, 0x1A] := List.contains_iff_mem

/-- Settles O13: each of these instructions has its App condition in front of its body. -/
theorem appPrivilegeTraps : Obligations.AppPrivilegeTraps := by
  unfold Obligations.AppPrivilegeTraps
  intro f s hf h10 happ
  have hpriv : firstBad [(s.isApp f.core, 1)] = some 1 := by rw [happ, firstBad_true]
  refine ⟨fun d a n hn => ⟨fun h8 => ?_, fun hread => ?_⟩, fun imm => ?_, ?_, fun d n => ?_, fun n => ?_,
    fun d a b ecc => ⟨?_, ?_, fun hr => ?_⟩⟩
  · refine illegal_of_exec hf h10 (by rw [exec_mtcr, execMtcr]) ?_
    rw [hn, happ, decide_eq_true (show n.toNat ≠ Cr.fpctl from h8)]
    rfl
  · refine illegal_of_exec hf h10 (by rw [exec_mfcr, execMfcr]) ?_
    rw [hn, happ, Bool.eq_false_iff.mpr (mt (crApp_iff n.toNat).mp hread)]
    rfl
  · exact illegal_of_exec hf h10 (by rw [exec_wfe, execWfe]) hpriv
  · exact illegal_of_exec hf h10 (by rw [exec_eret, execEret]) hpriv
  · exact illegal_of_exec hf h10 (by rw [exec_lock, execLock]) hpriv
  · refine illegal_of_exec hf h10 (by rw [exec_unlock, execUnlock]) ?_
    rw [happ]
    rfl
  · exact illegal_of_exec hf h10 (by rw [exec_chx, execChx, State.issue]; rfl) hpriv
  · exact illegal_of_exec hf h10 (by rw [exec_txf, execTxf, State.issue]; rfl) hpriv
  · refine illegal_of_exec hf h10 (by rw [exec_nvc, execNvc, State.issue]; rfl) ?_
    rw [groomLacks_rider hr, firstBad_false, hpriv]

/-! ### Encodings (R79) -/

/-- An FP32 operation with a result, for every S and srcB. -/
theorem fpInstr_of_mem {i : Fetch → Bool → Reg → Reg → Reg → Instr}
    (h : i ∈ ([.fadd, .fsub, .fmul, .fdiv, .fsqrt, .fma, .fms, .fmin, .fmax, .fabs, .fneg, .fcvtsw, .fcvtws,
      .fcvtwsr] : List (Fetch → Bool → Reg → Reg → Reg → Instr))) :
    ∃ (op : Nat) (bad : Reg → Bool) (g : Nat → Nat → Nat → FpRes), ∀ f fl d a b s,
      exec (i f fl d a b) s = s.fpInstr f fl d a b op (bad b) g := by
  simp only [List.mem_cons, List.not_mem_nil, or_false] at h
  rcases h with rfl | rfl | rfl | rfl | rfl | rfl | rfl | rfl | rfl | rfl | rfl | rfl | rfl | rfl
  · exact ⟨0x00, fun _ => false, fun _ x y => fpAdd x y, fun _ _ _ _ _ _ => rfl⟩
  · exact ⟨0x01, fun _ => false, fun _ x y => fpSub x y, fun _ _ _ _ _ _ => rfl⟩
  · exact ⟨0x02, fun _ => false, fun _ x y => fpMul x y, fun _ _ _ _ _ _ => rfl⟩
  · exact ⟨0x03, fun _ => false, fun _ x y => fpDiv x y, fun _ _ _ _ _ _ => rfl⟩
  · exact ⟨0x04, fun b => decide (b ≠ 0), fun _ x _ => fpSqrt x, fun _ _ _ _ _ _ => rfl⟩
  · exact ⟨0x05, fun _ => false, fpFma, fun _ _ _ _ _ _ => rfl⟩
  · exact ⟨0x06, fun _ => false, fpFms, fun _ _ _ _ _ _ => rfl⟩
  · exact ⟨0x08, fun _ => false, fun _ x y => fpMin x y, fun _ _ _ _ _ _ => rfl⟩
  · exact ⟨0x09, fun _ => false, fun _ x y => fpMax x y, fun _ _ _ _ _ _ => rfl⟩
  · exact ⟨0x0A, fun _ => false, fun _ x _ => fpAbs x, fun _ _ _ _ _ _ => rfl⟩
  · exact ⟨0x0B, fun _ => false, fun _ x _ => .exact (fpNegate x), fun _ _ _ _ _ _ => rfl⟩
  · exact ⟨0x10, fun _ => false, fun _ x _ => fpOfInt x, fun _ _ _ _ _ _ => rfl⟩
  · exact ⟨0x11, fun _ => false, fun _ x _ => fpToInt false x, fun _ _ _ _ _ _ => rfl⟩
  · exact ⟨0x12, fun _ => false, fun _ x _ => fpToInt true x, fun _ _ _ _ _ _ => rfl⟩

section
variable {s : State} {f : Fetch}

theorem firstBad_groom (h : f.core = .grm) (l : List (Bool × Nat)) : firstBad ((groomLacks f, 2) :: l) = some 2 := by
  rw [groomLacks, decide_eq_true h, firstBad_true]

/-- Words of a class above 0xB (Table GCS-1). -/
theorem wordFault_class {w : Word} (h : 12 ≤ w.toNat / 2 ^ 28) (c : Core) : wordFault c w = some 2 := by
  have hlt := w.isLt
  have hcls : 0xC ≤ bits w.toNat 28 4 := by
    unfold bits
    omega
  rw [wordFault, classLacks]
  simp only [hcls, decide_true, Bool.true_or, if_true]

/-- Words of class 0 with an op code beyond Table GCS-5. -/
theorem wordFault_op {w : Word} (h0 : w.toNat / 2 ^ 28 = 0) (hop : 0x20 < w.toNat % 64) (c : Core) :
    wordFault c w = some 0 := by
  have hcls : bits w.toNat 28 4 = 0 := by
    unfold bits
    omega
  have hlow : bits w.toNat 0 6 = w.toNat % 64 := by
    unfold bits
    omega
  have halu : aluOps.contains (w.toNat % 64) = false := by
    rw [← Bool.not_eq_true, List.contains_iff_mem]
    intro hmem
    have := (by decide : ∀ op ∈ aluOps, op ≤ 0x20) _ hmem
    omega
  rw [wordFault, classLacks, encodingBad]
  simp only [hcls, hlow, halu]
  simp

end

/-- Settles O14: each encoding has its condition in front of the body, a raw word in front of that. -/
theorem illegalEncodingsTrap : Obligations.IllegalEncodingsTrap := by
  unfold Obligations.IllegalEncodingsTrap
  refine ⟨fun f s hf h10 => ?_, fun f w imm s hraw hf h10 i hi => ?_⟩
  · refine fun d a b => ⟨fun i hi fl hg => ?_, fun ecc hg => ⟨?_, ?_, ?_⟩, fun i hi hr => ?_, fun hr => ?_,
      fun fl hr hb => ?_, fun n hd => ?_, fun n hd => ?_⟩
    · rcases List.mem_append.mp hi with hi | hi
      · obtain ⟨op, bad, g, hexec⟩ := fpInstr_of_mem hi
        exact illegal_of_exec_eval hf h10 (by rw [hexec, State.fpInstr]) (firstBad_groom hg _)
      · rw [List.mem_singleton.mp hi]
        exact illegal_of_exec_eval hf h10 (by rw [exec_fcmp, execFcmp]) (firstBad_groom hg _)
    · exact illegal_of_exec_eval hf h10 (by rw [exec_job, execJob, State.issue]) (firstBad_groom hg _)
    · exact illegal_of_exec_eval hf h10 (by rw [exec_nvc, execNvc, State.issue]) (firstBad_groom hg _)
    · exact illegal_of_exec_eval hf h10 (by rw [exec_dma, execDma, State.issue]) (firstBad_groom hg _)
    · obtain ⟨op, bad, g, hexec⟩ := fpInstr_of_mem hi
      refine illegal_of_exec_eval hf h10 (by rw [hexec, State.fpInstr]) ?_
      rw [groomLacks_rider hr, firstBad_false, Bool.true_or, firstBad_true]
    · refine illegal_of_exec_eval hf h10 (by rw [exec_fcmp, execFcmp]) ?_
      rw [groomLacks_rider hr, firstBad_false]
      rfl
    · refine illegal_of_exec_eval hf h10 (by rw [exec_fsqrt, execFsqrt, State.fpInstr]) ?_
      rw [groomLacks_rider hr, firstBad_false, decide_eq_true hb, Bool.or_true, firstBad_true]
    · refine illegal_of_exec_eval hf h10 (by rw [exec_mtcr, execMtcr]) ?_
      rw [decide_eq_true hd, Bool.or_true, firstBad_true]
    · refine illegal_of_exec_eval hf h10 (by rw [exec_unlock, execUnlock]) ?_
      rw [decide_eq_true hd, firstBad_true]
  · have hinstr : ∃ word bad body, exec i s = s.instr f word bad body := by
      simp only [List.mem_cons, List.not_mem_nil, or_false] at hi
      rcases hi with rfl | rfl | rfl | rfl
      · exact ⟨_, _, _, by rw [exec_trap, execTrap]⟩
      · exact ⟨_, _, _, by rw [exec_wfe, execWfe]⟩
      · exact ⟨_, _, _, by rw [exec_eret, execEret]⟩
      · exact ⟨_, _, _, by rw [exec_fenceFull, execFenceFull]⟩
    obtain ⟨word, bad, body, hexec⟩ := hinstr
    refine ⟨fun hcls => ?_, fun h0 hop => ?_⟩
    · rw [hexec]
      exact instr_undefined hraw hf h10 (wordFault_class hcls _) word bad body
    · rw [hexec]
      exact instr_undefined hraw hf h10 (wordFault_op h0 hop _) word bad body

end Sys2Proof.Machine
end

section
/-! PROOF. mfcr and mtcr (R82, R91, Tables GCS-10 to GCS-12). -/

namespace Sys2Proof.Machine
open Sys2Proof Sys2Proof.Reg

/-! ### mfcr -/

/-- A write of a register and of the pc does not touch the counter of free values. -/
theorem withFree_answer (u : State) (c : Core) (d : Reg) (v : Word) (k : Nat) :
    { (u.setG c d v).advance c with free := k } = (({ u with free := k } : State).setG c d v).advance c := by
  unfold State.setG
  split <;> cases c <;> rfl

theorem tandem_fetched (s : State) (f : Fetch) : (s.fetched f).tandem = s.tandem := by
  unfold State.tandem State.flag
  rw [get_fetched]

theorem tagFree_fetched (s : State) (f : Fetch) (c : Core) : (s.fetched f).tagFree c = s.tagFree c := by
  unfold State.tagFree State.tag
  rw [tags_fetched]

/-- The word that mfcr gives but for CYCLE. -/
theorem readCr_fst {n : Nat} (hn : n ≠ Cr.cycle) (s : State) (c : Core) :
    (s.readCr c n).1 = if n = 0x14 then BitVec.ofNat 32 (s.tagFree c) else if n = 0x18 then BitVec.ofNat 32 (coreCode c)
      else if n = 0x13 then s.cr c 0x13 ||| (if s.tandem = true ∧ c ≠ .grm then 4 else 0) else s.cr c n := by
  unfold State.readCr
  rw [if_neg hn]
  simp only [apply_ite Prod.fst]
  refine ite_congr rfl (fun _ => rfl) fun _ => ite_congr rfl (fun _ => rfl) fun _ => ?_
  by_cases h : n = Cr.crstat
  · subst h
    rw [if_pos (show Cr.crstat = 0x13 from rfl)]
    refine congrArg (s.cr c Cr.crstat ||| ·) ?_
    unfold State.gateBit
    by_cases hg : s.tandem = true ∧ c ≠ .grm
    · rw [if_pos hg, hg.1, decide_eq_true hg.2]
      rfl
    · rw [if_neg hg, show (s.tandem && decide (c ≠ .grm)) = false by
        rw [← Bool.not_eq_true, Bool.and_eq_true, decide_eq_true_eq]; exact hg]
      rfl
  · rw [if_neg h, if_neg (show ¬n = 0x13 from h)]

/-- mfcr changes no more than CYCLE and the counter of free values. -/
theorem readCr_snd (s : State) (c : Core) (n : Nat) :
    (∀ r, (s.readCr c n).2.g c r = s.g c r) ∧ (s.readCr c n).2.pc c = s.pc c ∧
      s.sameBut { (s.readCr c n).2 with free := s.free } c := by
  have hid : (∀ r, s.g c r = s.g c r) ∧ s.pc c = s.pc c ∧ s.sameBut { s with free := s.free } c :=
    ⟨fun _ => rfl, rfl, sameBut_refl s c⟩
  unfold State.readCr
  split_ifs with htag hcore hcycle hstat
  · exact hid
  · exact hid
  · refine ⟨fun r => ?_, ?_, ?_⟩
    · exact (g_setCr _ _ _ _ _ _).trans (g_of_rest (State.draw_rest s 32) c r)
    · exact (pc_setCr _ _ _ _ _).trans (pc_of_rest (State.draw_rest s 32) c)
    · cases c <;> rfl
  · exact hid
  · exact hid

section
variable {s : State} {f : Fetch} {n : BitVec 13}

theorem exec_mfcr_listed (hf : s.fetches f = true) (hn : crListed n.toNat = true)
    (hpriv : s.isApp f.core = false ∨ crApp n.toNat = true) (d : Reg) :
    exec (.mfcr f d n) s = .next ((((s.fetched f).readCr f.core n.toNat).2.setG f.core d
      ((s.fetched f).readCr f.core n.toNat).1).advance f.core) := by
  have happ : (s.isApp f.core && !crApp n.toNat) = false := by
    rcases hpriv with h | h <;> simp [h]
  rw [exec_mfcr, execMfcr, hn, happ, Bool.not_true, firstBad_false, firstBad_false, firstBad_nil, instr_body hf]

theorem exec_mtcr_listed (hf : s.fetches f = true) (hn : crListed n.toNat = true)
    (hpriv : s.isApp f.core = false ∨ n.toNat = Cr.fpctl) (a : Reg) :
    exec (.mtcr f 0 a n) s =
      .next (((s.fetched f).writeCr f.core n.toNat (s.g f.core a)).advance f.core) := by
  have happ : (s.isApp f.core && decide (n.toNat ≠ Cr.fpctl)) = false := by
    rcases hpriv with h | h <;> simp [h]
  rw [exec_mtcr, execMtcr, hn, happ, Bool.not_true, decide_eq_false (not_not.mpr rfl), Bool.or_false, firstBad_false,
    firstBad_false, firstBad_nil, instr_body hf, g_fetched]

/-- The registers that the reading leaves, its pc and its frame. -/
theorem mfcr_clauses (s : State) (f : Fetch) (d : Reg) (n : Nat) (v : Word) :
    let t := (((s.fetched f).readCr f.core n).2.setG f.core d v).advance f.core
    t.pc f.core = s.pc f.core + 4 ∧ s.sameBut { t with free := s.free } f.core ∧
      ∀ r, t.g f.core r = if r = d ∧ r ≠ 0 then v else s.g f.core r := by
  obtain ⟨hg, hpc, hsame⟩ := readCr_snd (s.fetched f) f.core n
  have hfree : (s.fetched f).free = s.free := by rw [sameBut_fetched s f, State.setCore_free]
  refine ⟨?_, ?_, fun r => ?_⟩
  · rw [pc_advance, pc_setG, hpc, pc_fetched]
  · rw [withFree_answer, ← hfree]
    exact sameBut_trans (sameBut_fetched s f)
      (sameBut_trans hsame (sameBut_trans (sameBut_setG _ _ d v) (sameBut_advance _ _)))
  · rw [g_advance, g_setG, hg, g_fetched]

end

/-! ### mtcr -/

/-- The bits that a write reaches, for a register of Table GCS-10. -/
theorem crMask_listed {n : Nat} (hn : n ≤ 0x2F) (c : Core) :
    crMask c n = if n = 0 then 0x60F else if n = 2 then 0x70F else if n = 3 then 0xFFFF
      else if n = 1 ∨ n = 4 then 0xFFFFFFFF else if n = 5 then 0xFFFFFF00
      else if n = 8 then 0x1F1F
      else if n = 0x10 then (if c = .grm then 0xFFFFFF00 else 0xFFFFF800)
      else if n = 0x12 then (if c = .grm then 0x3F else 0x1FF)
      else if 0x20 ≤ n then (if n % 2 = 0 then 0xFFFFFF0F else 0xFFFFFF00) else 0 := by
  unfold crMask
  simp only [and_iff_left hn]
  rfl

/-- Settles O12: what mfcr reads and what mtcr writes, over the state that the fetch leaves. -/
theorem controlRegisterMoves : Obligations.ControlRegisterMoves := by
  unfold Obligations.ControlRegisterMoves
  refine ⟨fun f d n s hf hpriv hn => ?_, fun f a n s hf hpriv hn => ?_, fun f d a n s hf h10 hn => ⟨?_, ?_⟩⟩
  · obtain ⟨hpc, hsame, hg⟩ := mfcr_clauses s f d n.toNat ((s.fetched f).readCr f.core n.toNat).1
    refine ⟨_, exec_mfcr_listed hf ((crListed_iff _).mpr hn) (hpriv.imp_right (crApp_iff _).mpr) d, hpc, hsame,
      fun r hr => ?_, fun hcycle hd => ?_⟩
    · rw [hg, if_neg (by tauto)]
    · rw [hg, if_pos ⟨rfl, hd⟩, readCr_fst hcycle, tagFree_fetched, tandem_fetched, cr_fetched (n := 0x13) s f (by decide)]
  · dsimp only
    rw [← crMask_listed (by omega)]
    refine ⟨_, exec_mtcr_listed hf ((crListed_iff _).mpr hn) hpriv a, ?_, ?_, fun r => ?_, fun m hm => ?_, ?_⟩
    · rw [State.writeCr, pc_advance, pc_setCr, pc_fetched]
    · exact sameBut_trans (sameBut_fetched s f) (sameBut_trans (sameBut_setCr _ _ _ _) (sameBut_advance _ _))
    · rw [State.writeCr, g_advance, g_setCr, g_fetched]
    · rw [State.writeCr, cr_advance, cr_setCr_ne _ _ _ (fun e => hm (List.mem_singleton.mpr e))]
    · rw [State.writeCr, cr_advance, cr_setCr_same]
      rfl
  · refine illegal_of_exec hf h10 (by rw [exec_mfcr, execMfcr]) ?_
    rw [Bool.eq_false_iff.mpr (mt (crListed_iff n.toNat).mp hn)]
    rfl
  · refine illegal_of_exec hf h10 (by rw [exec_mtcr, execMtcr]) ?_
    rw [Bool.eq_false_iff.mpr (mt (crListed_iff n.toNat).mp hn)]
    rfl

end Sys2Proof.Machine
end

section
/-! PROOF. trap, eret, wfe, the fences and event interrupts (R82, R92 to R94, R106, R110). -/

namespace Sys2Proof.Machine
open Sys2Proof Sys2Proof.Reg

/-! ### trap and eret -/

theorem exec_trap_fetches {s : State} {f : Fetch} (hf : s.fetches f = true) (imm : BitVec 13) :
    exec (.trap f imm) s =
      .next ((s.fetched f).takeExc f.core Exc.trap 0 (s.pc f.core + 4) (imm.zeroExtend 32)) := by
  rw [exec_trap, execTrap, instr_body hf, pc_fetched]
  rfl

theorem exec_eret_fetches {s : State} {f : Fetch} (hf : s.fetches f = true) (hfirm : s.isApp f.core = false) :
    exec (.eret f) s = .next (((s.fetched f).setCr f.core Cr.status (s.cr f.core Cr.estatus)).setPc f.core
      (s.cr f.core Cr.epc &&& 0xFFFFFFFC)) := by
  rw [exec_eret, execEret, hfirm, firstBad_false, firstBad_nil, instr_body hf, cr_fetched s f (n := Cr.estatus) (by decide),
    cr_fetched s f (n := Cr.epc) (by decide)]

/-- Settles O15: trap is the exception entry past the instruction, eret the two moves back. -/
theorem trapEntersHandler : Obligations.TrapEntersHandler := by
  unfold Obligations.TrapEntersHandler
  refine ⟨fun f imm s hf h10 => ?_, fun f s hf hfirm => ?_⟩
  · have hent := takeExc_entered (s := s.fetched f) (c := f.core) (by rw [statusBit_fetched, h10]) Exc.trap 0
      (s.pc f.core + 4) (imm.zeroExtend 32)
    exact ⟨_, exec_trap_fetches hf imm, hent, byte_of_mem ((mem_of_entered hent).trans (mem_fetched s f))⟩
  · refine ⟨_, exec_eret_fetches hf hfirm, pc_setPc _ _ _, ?_, fun n hn => ?_, fun r => ?_, ?_⟩
    · rw [cr_setPc, cr_setCr_same]
    · rw [cr_setPc, cr_setCr_ne _ _ _ (fun e => hn (List.mem_singleton.mpr e))]
    · rw [g_setPc, g_setCr, g_fetched]
    · exact sameBut_trans (sameBut_fetched s f) (sameBut_trans (sameBut_setCr _ _ _ _) (sameBut_setPc _ _ _))

/-! ### wfe and the fences -/

theorem setCore_of_sameBut {s t : State} {c : Core} (h : s.sameBut t c) : t.setCore c (s.core c) = s :=
  (sameBut_iff.mp h).1

theorem exec_wfe_fetches {s : State} {f : Fetch} (hf : s.fetches f = true) (hfirm : s.isApp f.core = false)
    (imm : BitVec 13) :
    exec (.wfe f imm) s = .next ((s.fetched f).setCore f.core
      { (s.fetched f).core f.core with run := .wfe (imm.getLsbD 0), wakeSeen := false }) := by
  rw [exec_wfe, execWfe, hfirm, firstBad_false, firstBad_nil, instr_body hf]

theorem inWfe_iff (s : State) (c : Core) : s.inWfe c = true ↔ ∃ b, (s.core c).run = .wfe b := by
  unfold State.inWfe
  cases (s.core c).run <;> simp

theorem exec_fence_fetches {i : Fetch → Instr}
    (h : i ∈ ([.fenceFull, .fenceStores, .fenceInstruction] : List (Fetch → Instr))) {s : State} {f : Fetch}
    (hf : s.fetches f = true) : exec (i f) s = .next ((s.fetched f).advance f.core) := by
  simp only [List.mem_cons, List.not_mem_nil, or_false] at h
  rcases h with rfl | rfl | rfl
  · rw [exec_fenceFull, execFenceFull, instr_body hf]
  · rw [exec_fenceStores, execFenceStores, instr_body hf]
  · rw [exec_fenceInstruction, execFenceInstruction, instr_body hf]

/-- Settles O17: the wait is the core's activity alone, its end one step on. -/
theorem waitsAndFencesComplete : Obligations.WaitsAndFencesComplete := by
  unfold Obligations.WaitsAndFencesComplete
  refine ⟨fun f imm s hf hfirm => ?_, fun c b s hrun => ⟨fun hwake => ?_, fun hnone hseen => ?_⟩, fun c s hrun => ?_,
    fun i hi f s hf => ?_⟩
  · refine ⟨_, exec_wfe_fetches hf hfirm imm, ?_, ?_, ?_, ?_⟩
    · rw [core_setCore_same]
    · rw [core_setCore_same]
    · rw [State.pc, core_setCore_same]
      exact pc_fetched s f f.core
    · rw [setCore_setCore]
      exact setCore_of_sameBut (sameBut_fetched s f)
  · have hcond : (s.inWfe c && ((s.eligible c).isSome || (s.core c).wakeSeen)) = true := by
      rw [(inWfe_iff s c).mpr ⟨b, hrun⟩, Bool.true_and, Bool.or_eq_true]
      exact hwake.imp_left Option.isSome_iff_ne_none.mpr
    refine ⟨s.leaveWfe c, ?_, ?_, ?_, fun r => ?_, ?_⟩
    · rw [exec_wfeWake, execWfeWake, if_pos hcond]
    · rw [State.leaveWfe, run_advance, run_setRun]
    · rw [State.leaveWfe, pc_advance, pc_setRun]
    · rw [State.leaveWfe, g_advance, g_setRun]
    · rw [State.leaveWfe, advance_setCore, setRun_setCore, setCore_core]
  · rw [exec_wfeWake, execWfeWake, hnone, hseen, if_neg (by simp)]
  · have hno : s.inWfe c = false := by
      rw [← Bool.not_eq_true, inWfe_iff]
      exact fun ⟨b, hb⟩ => hrun b hb
    rw [exec_wfeWake, execWfeWake, hno, if_neg (by simp)]
  · obtain ⟨hpc, hsame, hg, hcr⟩ := setPc_fetched_clauses s f ((s.fetched f).pc f.core + 4)
    exact ⟨_, exec_fence_fetches hi hf, hpc.trans (by rw [pc_fetched]), hsame, hg, hcr⟩

/-! ### Event interrupts -/

theorem interruptible_iff (s : State) (c : Core) : s.interruptible c = true ↔
    (s.core c).run = .run ∨ (∃ t d l, (s.core c).run = .waitt t d l) ∨ ∃ n d, (s.core c).run = .lockWait n d := by
  unfold State.interruptible
  cases (s.core c).run <;> simp

/-- Settles O18: the interrupt is the exception entry at the instruction that waits or comes next. -/
theorem eventInterruptIsTaken : Obligations.EventInterruptIsTaken := by
  unfold Obligations.EventInterruptIsTaken
  refine fun c s => ⟨fun hopen h9 h10 hev => ?_, fun hno => ?_⟩
  · refine ⟨s.takeExc c Exc.event 0 (s.pc c) 0, ?_, takeExc_entered h10 Exc.event 0 (s.pc c) 0⟩
    rw [exec_eventInterrupt, execEventInterrupt, (interruptible_iff s c).mpr hopen, h9, h10,
      Option.isSome_iff_ne_none.mpr hev, State.takeExc, h10]
    rfl
  · have hcond : (s.interruptible c && s.statusBit c 9 && !(s.statusBit c 10) && (s.eligible c).isSome) = false := by
      rw [← interruptible_iff] at hno
      rcases hno with h | h | h | h
      · simp [Bool.eq_false_iff.mpr h]
      · simp [h]
      · simp [h]
      · simp [h]
    rw [exec_eventInterrupt, execEventInterrupt, hcond]
    rfl

end Sys2Proof.Machine
end

section
/-! PROOF. Core faults (R95 to R97): the stop that a core fault brings about closes the bridle gate (R407), and the
gated CAN frames that it ends release completions (R357). -/

namespace Sys2Proof.Machine
open Sys2Proof Sys2Proof.Reg

/-- READY with the bridle claimed and the gate open; object 0 of CAN-A is gated and pending for the txf that `owner`
issued under tag 0. -/
def gatedTxf (owner : Core) : State :=
  let s := (State.reset.set CRB_STAT.STATE Curb.ready).set TDM_STAT.CLAIM 1
  let s := ((s.set TDM_STAT.GATE 1).set (CNx_OCFG.GATED 0 0) 1).set (CNx_OSTAT.TXPEND 0 0) 1
  let s := s.mapCan fun x => { x with txf := [(0, some (owner, 0))] }
  s.setTag owner 0 (.issued Cls.txf)

/-! ### The double fault of Rider 0 -/

/-- Rider 0 inside a handler, its own txf gated. -/
def faultState : State := (gatedTxf .r0).setCr .r0 Cr.status 0x500

theorem faultState_ready : faultState.fetches cleanFetch = true ∧ faultState.statusBit .r0 10 = true ∧
    faultState.cr .r0 Cr.crwp = 0 := by decide +kernel

/-- CRWP of core `c` after command `i`, 0 where `i` does not complete. -/
def crwpAfter (i : Instr) (s : State) (c : Core) : Word :=
  match exec i s with
  | .next t => t.cr c Cr.crwp
  | _ => 0

theorem crwpAfter_trap : crwpAfter (.trap cleanFetch 0) faultState .r0 = 1 := by decide +kernel

/-- Refutes O16: the double fault of Rider 0 ends its gated CAN frame, and the completion that the txf releases advances
CRWP, a control register of the halted core. -/
theorem not_doubleFaultHalts : ¬ Obligations.DoubleFaultHalts := by
  unfold Obligations.DoubleFaultHalts
  intro h
  obtain ⟨hfetch, h10, hzero⟩ := faultState_ready
  obtain ⟨t, ht, -, -, -, hcr, -⟩ := h cleanFetch 0 faultState hfetch h10
  have hcrwp : t.cr .r0 Cr.crwp = faultState.cr .r0 Cr.crwp := hcr Cr.crwp (by decide)
  have hafter := crwpAfter_trap
  unfold crwpAfter at hafter
  rw [ht] at hafter
  dsimp only at hafter
  rw [hcrwp, hzero] at hafter
  exact absurd hafter (by decide)

/-! ### The lockstep mismatch of Rider 0 -/

/-- The tag of core `c` after command `i`, FREE where `i` does not complete. -/
def tagAfter (i : Instr) (s : State) (c : Core) (k : Nat) : TagSt :=
  match exec i s with
  | .next t => t.tag c k
  | _ => .free

theorem tagAfter_mismatch : (tagAfter (.lockstepMismatch .r0) (gatedTxf .r1) .r1 0).isDone = true ∧
    ((gatedTxf .r1).tag .r1 0).isDone = false ∧ ((gatedTxf .r1).core .r0).run = .run := by decide +kernel

/-- Refutes O19: the lockstep mismatch of Rider 0 ends the gated CAN frame of Rider 1, and the completion of its txf makes
a tag of Rider 1 DONE. -/
theorem not_coreFaultsResetAndHalt : ¬ Obligations.CoreFaultsResetAndHalt := by
  unfold Obligations.CoreFaultsResetAndHalt
  rintro ⟨-, h⟩
  obtain ⟨hdone, hissued, hrun⟩ := tagAfter_mismatch
  have hrun' : ((gatedTxf .r1).core (riderCore .r0)).run = .run := hrun
  obtain ⟨t, ht, -, -, -, hcores, -⟩ := h .r0 (gatedTxf .r1) (by rw [hrun']; decide) (by rw [hrun']; decide)
  have hcore : t.core .r1 = (gatedTxf .r1).core .r1 := hcores .r1 (by decide)
  unfold tagAfter at hdone
  rw [ht] at hdone
  dsimp only at hdone
  rw [State.tag, hcore, ← State.tag, hissued] at hdone
  exact absurd hdone (by decide)

end Sys2Proof.Machine
end

section
/-! SUPPORT. Memory under a core's registers, completion tags, corrected errors. -/

namespace Sys2Proof.Machine
open Sys2Proof Sys2Proof.Reg

/-! ### Words -/

theorem word_lt (s : State) (a : Nat) : s.word a < 2 ^ 32 := by
  have h : ∀ (n b : Nat), s.load n b < 256 ^ n := by
    intro n
    induction n with
    | zero => intro b; exact Nat.zero_lt_one
    | succ k ih =>
      intro b
      have hb := (s.byte b).isLt
      have hk := ih (b + 1)
      rw [State.load, Nat.pow_succ]
      omega
  exact h 4 a

theorem word_of_mem {s t : State} (h : t.mem = s.mem) (a : Nat) : t.word a = s.word a :=
  load_congr 4 t s a fun i _ => byte_of_mem h (a + i)

theorem byte_setWord_outside (s : State) {a b : Nat} (v : Nat) (h : b < a ∨ a + 4 ≤ b) :
    (s.setWord a v).byte b = s.byte b := byte_store_outside 4 s a v b h

/-- A store of a word changes the memory alone. -/
theorem setWord_withMem (s : State) (a v : Nat) : s.setWord a v = { s with mem := (s.setWord a v).mem } :=
  store_eq_withMem 4 s a v

section
variable (s : State) (a v : Nat) (c : Core)

@[simp] theorem core_setWord : (s.setWord a v).core c = s.core c := by rw [setWord_withMem]; cases c <;> rfl

@[simp] theorem g_setWord (r : Reg) : (s.setWord a v).g c r = s.g c r := by
  unfold State.g
  rw [core_setWord]

@[simp] theorem cr_setWord (n : Nat) : (s.setWord a v).cr c n = s.cr c n := by
  unfold State.cr
  rw [core_setWord]

@[simp] theorem pc_setWord : (s.setWord a v).pc c = s.pc c := by
  unfold State.pc
  rw [core_setWord]

end

/-! ### Corrected errors of a data access -/

/-- `s` with a corrected error of the data counted. -/
def State.dataFixed (s : State) (c : Core) (ecc : Ecc) : State := s.when (decide (ecc = .corrected)) fun s => s.eccSeen c

theorem sameBut_dataFixed (s : State) (c : Core) (ecc : Ecc) : s.sameBut (s.dataFixed c ecc) c := by
  unfold State.dataFixed State.when
  split
  · exact sameBut_setCr _ _ _ _
  · exact sameBut_refl s c

@[simp] theorem g_dataFixed (s : State) (c : Core) (ecc : Ecc) (r : Reg) : (s.dataFixed c ecc).g c r = s.g c r := by
  unfold State.dataFixed State.when
  split
  · exact g_eccSeen _ _ _ _
  · rfl

@[simp] theorem pc_dataFixed (s : State) (c : Core) (ecc : Ecc) : (s.dataFixed c ecc).pc c = s.pc c := by
  unfold State.dataFixed State.when
  split
  · exact pc_eccSeen _ _ _
  · rfl

theorem sameCr_dataFixed (s : State) (c : Core) (ecc : Ecc) :
    s.sameCr (s.dataFixed c ecc) c (if ecc = .corrected then [Cr.ecccnt] else []) := by
  intro n hn
  unfold State.dataFixed State.when
  by_cases h : ecc = .corrected
  · rw [if_pos h, List.mem_singleton] at hn
    rw [if_pos (decide_eq_true h)]
    exact cr_setCr_ne _ _ _ hn
  · rw [if_neg (by simpa using h)]

/-- The corrected errors of the fetch and of the data count in ECCCNT and nowhere else. -/
theorem sameCr_fetched_dataFixed (s : State) (f : Fetch) (ecc : Ecc) :
    s.sameCr ((s.fetched f).dataFixed f.core ecc) f.core
      (if f.ecc = .corrected ∨ ecc = .corrected then [Cr.ecccnt] else []) := by
  intro n hn
  refine sameCr_trans (sameCr_fetched s f) (sameCr_dataFixed (s.fetched f) f.core ecc) n ?_
  rw [List.mem_append, not_or]
  constructor
  · intro h
    split_ifs at h with he
    · exact hn (by rw [if_pos (.inr he)]; exact h)
    · exact List.not_mem_nil h
  · intro h
    split_ifs at h with he
    · exact hn (by rw [if_pos (.inl he)]; exact h)
    · exact List.not_mem_nil h

theorem mem_of_sameBut {s t : State} {c : Core} (h : s.sameBut t c) : t.mem = s.mem := by
  rw [h, State.setCore_mem]

end Sys2Proof.Machine
end

section
/-! PROOF. The atomics (R111). -/

namespace Sys2Proof.Machine
open Sys2Proof Sys2Proof.Reg

/-- `s` with the word that an atomic leaves at `x`, none where it leaves the old one. -/
def State.atomicStore (s : State) (x : Nat) (w : Option Word) : State :=
  match w with
  | some w => s.setWord x w.toNat
  | none => s

theorem atomicStore_withMem (s : State) (x : Nat) (w : Option Word) :
    s.atomicStore x w = { s with mem := (s.atomicStore x w).mem } := by
  cases w
  · rfl
  · exact setWord_withMem _ _ _

theorem word_atomicStore (s : State) (x : Nat) (w : Option Word) :
    (s.atomicStore x w).word x = (w.getD (BitVec.ofNat 32 (s.word x))).toNat := by
  cases w with
  | none => rw [State.atomicStore, Option.getD_none, BitVec.toNat_ofNat, Nat.mod_eq_of_lt (word_lt s x)]
  | some w => rw [State.atomicStore, Option.getD_some, word_setWord_same, Nat.mod_eq_of_lt w.isLt]

theorem byte_atomicStore_outside (s : State) {x k : Nat} (w : Option Word) (h : k < x ∨ x + 4 ≤ k) :
    (s.atomicStore x w).byte k = s.byte k := by
  cases w
  · rfl
  · exact byte_setWord_outside s _ h

/-- The memory does not take part in a core's answer. -/
theorem withMem_answer (u : State) (m : List Host.Cell) (c : Core) (d : Reg) (v : Word) :
    ({ u with mem := m }.setG c d v).advance c = { (u.setG c d v).advance c with mem := m } := by
  unfold State.setG
  split <;> cases c <;> rfl

section
variable {s : State} {f : Fetch} {a : Reg} (hf : s.fetches f = true)
  (hw : (s.fetched f).winBad f.core Perm.rw 4 (s.g f.core a).toNat = false)
include hf hw

/-- An atomic on an aligned word of shared SRAM, without an uncorrectable error. -/
theorem atomic_fetches (hr : region (s.g f.core a).toNat = .sram) (hx : (s.g f.core a).toNat % 4 = 0) {ecc : Ecc}
    (he : ecc ≠ .uncorrectable) (d b : Reg) (op : Nat) (g : Word → Word → Word → Option Word) :
    s.atomic f d a b ecc op g =
      .next (((((s.fetched f).dataFixed f.core ecc).atomicStore (s.g f.core a).toNat
        (g (s.g f.core d) (BitVec.ofNat 32 (s.word (s.g f.core a).toNat)) (s.g f.core b))).setG f.core d
          (BitVec.ofNat 32 (s.word (s.g f.core a).toNat))).advance f.core) := by
  have hword : ((s.fetched f).dataFixed f.core ecc).word (s.g f.core a).toNat = s.word (s.g f.core a).toNat :=
    word_of_mem ((mem_of_sameBut (sameBut_dataFixed _ _ _)).trans (mem_fetched s f)) _
  have hg : ∀ r, ((s.fetched f).dataFixed f.core ecc).g f.core r = s.g f.core r := fun r => by
    rw [g_dataFixed, g_fetched]
  unfold State.atomic
  rw [instr_fetches hf]
  dsimp only
  rw [g_fetched, hw, if_neg (by decide), if_neg (by rw [hr, hx]; decide), if_neg he, ← State.dataFixed, hword, hg, hg]
  cases g (s.g f.core d) (BitVec.ofNat 32 (s.word (s.g f.core a).toNat)) (s.g f.core b) <;> rfl

theorem atomic_misplaced (hbad : region (s.g f.core a).toNat ≠ .sram ∨ (s.g f.core a).toNat % 4 ≠ 0) (d b : Reg)
    (ecc : Ecc) (op : Nat) (g : Word → Word → Word → Option Word) :
    s.atomic f d a b ecc op g = .next ((s.fetched f).faultHere f.core Exc.window 2 (s.g f.core a)) := by
  unfold State.atomic
  rw [instr_fetches hf]
  dsimp only
  rw [g_fetched, hw, if_neg (by decide), if_pos hbad]

end

/-- Each atomic with the word that it leaves. -/
theorem exec_atomic_of_mem {row : (Fetch → Reg → Reg → Reg → Ecc → Instr) × (Word → Word → Word → Word)}
    (h : row ∈ ([(.amoadd, fun _ o b => o + b), (.amoswap, fun _ _ b => b), (.amocas, fun d o b => if o = d then b else o),
      (.amoand, fun _ o b => o &&& b), (.amoor, fun _ o b => o ||| b)] :
      List ((Fetch → Reg → Reg → Reg → Ecc → Instr) × (Word → Word → Word → Word)))) :
    ∃ op g, (∀ f d a b ecc s, exec (row.1 f d a b ecc) s = s.atomic f d a b ecc op g) ∧
      ∀ d o b, (g d o b).getD o = row.2 d o b := by
  simp only [List.mem_cons, List.not_mem_nil, or_false] at h
  rcases h with rfl | rfl | rfl | rfl | rfl
  · exact ⟨0x02, fun _ old b => some (old + b), fun _ _ _ _ _ _ => rfl, fun _ _ _ => rfl⟩
  · exact ⟨0x03, fun _ _ b => some b, fun _ _ _ _ _ _ => rfl, fun _ _ _ => rfl⟩
  · exact ⟨0x04, fun d old b => if old = d then some b else none, fun _ _ _ _ _ _ => rfl,
      fun d o b => by dsimp only; split <;> rfl⟩
  · exact ⟨0x05, fun _ old b => some (old &&& b), fun _ _ _ _ _ _ => rfl, fun _ _ _ => rfl⟩
  · exact ⟨0x06, fun _ old b => some (old ||| b), fun _ _ _ _ _ _ => rfl, fun _ _ _ => rfl⟩

/-- Settles O26: the word of the operation over the corrected errors, then the old word in gD. -/
theorem atomicsActOnSharedSram : Obligations.AtomicsActOnSharedSram := by
  unfold Obligations.AtomicsActOnSharedSram
  intro row hrow f d a b ecc s hf
  obtain ⟨op, g, hexec, hword⟩ := exec_atomic_of_mem hrow
  refine fun hw => ⟨fun hr hx he => ?_, fun hbad h10 => ?_⟩
  · have hsame := sameBut_trans (sameBut_fetched s f) (sameBut_dataFixed (s.fetched f) f.core ecc)
    have hmem := mem_of_sameBut hsame
    obtain ⟨hg, hpc, hframe⟩ := answer_clauses hsame (fun r => by rw [g_dataFixed, g_fetched])
      (by rw [pc_dataFixed, pc_fetched]) d (BitVec.ofNat 32 (s.word (s.g f.core a).toNat))
    have ht := (hexec f d a b ecc s).trans (atomic_fetches hf hw hr hx he d b op g)
    rw [atomicStore_withMem, withMem_answer] at ht
    refine ⟨_, ht, ?_, fun k hk => ?_, hg, hpc, ?_, fun n hn => ?_⟩
    · refine (word_atomicStore ((s.fetched f).dataFixed f.core ecc) _ _).trans ?_
      rw [word_of_mem hmem, hword]
    · exact (byte_atomicStore_outside _ _ hk).trans (byte_of_mem hmem k)
    · rw [← mem_of_sameBut hframe]
      exact hframe
    · exact (cr_answer _ _ _ _ n).trans (sameCr_fetched_dataFixed s f ecc n hn)
  · have hent := faultHere_fetched_entered h10 Exc.window 2 (s.g f.core a)
    exact ⟨_, (hexec f d a b ecc s).trans (atomic_misplaced hf hw hbad d b ecc op g), hent,
      byte_of_mem ((mem_of_entered hent).trans (mem_fetched s f))⟩

end Sys2Proof.Machine
end

section
/-! SUPPORT. Completion tags: what an update of a tag leaves, and the words that a tag number gives (R101, R105). -/

namespace Sys2Proof.Machine
open Sys2Proof Sys2Proof.Reg

/-! ### Updates of a tag -/

theorem tag_of_tags {s t : State} {c : Core} (h : (t.core c).tags = (s.core c).tags) (k : Nat) : t.tag c k = s.tag c k := by
  unfold State.tag
  rw [h]

theorem tag_setTag_same (s : State) (c : Core) (k : Nat) (x : TagSt) : (s.setTag c k x).tag c k = x := by
  simp [State.tag, State.setTag]

theorem tag_setTag_ne (s : State) (c : Core) {k j : Nat} (x : TagSt) (h : j ≠ k) :
    (s.setTag c k x).tag c j = s.tag c j := by
  simp [State.tag, State.setTag, mapGet_mapSet_ne _ _ _ _ h]

section
variable (s : State) (c q : Core) (k : Nat) (x : TagSt)

@[simp] theorem core_setTag_ne (h : q ≠ c) : (s.setTag c k x).core q = s.core q := core_setCore_ne s _ h

@[simp] theorem setTag_setCore (y : CoreSt) : (s.setTag c k x).setCore c y = s.setCore c y := setCore_setCore s c _ y

@[simp] theorem g_setTag (r : Reg) : (s.setTag c k x).g q r = s.g q r := by
  by_cases h : q = c
  · subst h
    simp [State.g, State.setTag]
  · simp [State.g, h]

@[simp] theorem cr_setTag (n : Nat) : (s.setTag c k x).cr q n = s.cr q n := by
  by_cases h : q = c
  · subst h
    simp [State.cr, State.setTag]
  · simp [State.cr, h]

@[simp] theorem pc_setTag : (s.setTag c k x).pc q = s.pc q := by
  by_cases h : q = c
  · subst h
    simp [State.pc, State.setTag]
  · simp [State.pc, h]

@[simp] theorem run_setTag : ((s.setTag c k x).core q).run = (s.core q).run := by
  by_cases h : q = c
  · subst h
    simp [State.setTag]
  · simp [h]

@[simp] theorem tag_setG (r : Reg) (v : Word) (j : Nat) : (s.setG c r v).tag q j = s.tag q j := tag_of_tags (by simp) j
@[simp] theorem tag_setCr (n : Nat) (v : Word) (j : Nat) : (s.setCr c n v).tag q j = s.tag q j := tag_of_tags (by simp) j
@[simp] theorem tag_advance (j : Nat) : (s.advance c).tag q j = s.tag q j := tag_of_tags (by simp) j
@[simp] theorem tag_setRun (r : CoreRun) (j : Nat) : (s.setRun c r).tag q j = s.tag q j := tag_of_tags (by simp) j
@[simp] theorem tag_fetched (f : Fetch) (j : Nat) : (s.fetched f).tag q j = s.tag q j := tag_of_tags (by simp) j

end

/-! ### The word of a tag -/

theorem isFree_iff (t : TagSt) : t.isFree = true ↔ t = .free := by
  cases t <;> simp [TagSt.isFree]

theorem isPending_iff (t : TagSt) : t.isPending = true ↔ (∃ k, t = .issued k) ∨ ∃ w v, t = .held w v := by
  cases t <;> simp [TagSt.isPending, TagSt.isFree, TagSt.isDone]

theorem isDone_iff (t : TagSt) : t.isDone = true ↔ ∃ w v, t = .done w v := by
  cases t <;> simp [TagSt.isDone]

/-- What pollt and waitt give for tag number `n`: the word of a DONE tag, else STATUS 0xE or 0xF with DONE = 0. -/
def State.statusWord (s : State) (c : Core) (n : Nat) (w : Word) : Prop :=
  (coreTags c ≤ n ∨ s.tag c n = .free → w.toNat / 4096 % 16 = 0xE ∧ w.msb = false) ∧
    ((∃ k, s.tag c n = .issued k) ∨ (∃ x v, s.tag c n = .held x v) → n < coreTags c →
      w.toNat / 4096 % 16 = 0xF ∧ w.msb = false ∧ w.toNat % 256 = n) ∧
    ∀ x v, s.tag c n = .done x v → n < coreTags c → w = BitVec.ofNat 32 x

theorem msb_ofNat_small {n : Nat} (h : n < 2 ^ 31) : (BitVec.ofNat 32 n).msb = false := by
  rw [BitVec.msb_eq_decide, BitVec.toNat_ofNat, decide_eq_false]
  omega

theorem coreTags_le (c : Core) : coreTags c ≤ 256 := by cases c <;> decide

/-- STATUS 0xE of a number without an operation. -/
theorem status_none (n : Nat) : (BitVec.ofNat 32 (0xE * 4096 + n % 256)).toNat / 4096 % 16 = 0xE ∧
    (BitVec.ofNat 32 (0xE * 4096 + n % 256)).msb = false := by
  refine ⟨?_, msb_ofNat_small (by omega)⟩
  rw [BitVec.toNat_ofNat]
  omega

/-- STATUS 0xF of an operation in flight, with its class and its tag. -/
theorem status_pending (k : Nat) {n : Nat} (h : n < 256) :
    (BitVec.ofNat 32 (0xF * 4096 + k % 16 * 256 + n % 256)).toNat / 4096 % 16 = 0xF ∧
    (BitVec.ofNat 32 (0xF * 4096 + k % 16 * 256 + n % 256)).msb = false ∧
    (BitVec.ofNat 32 (0xF * 4096 + k % 16 * 256 + n % 256)).toNat % 256 = n := by
  refine ⟨?_, msb_ofNat_small (by omega), ?_⟩ <;>
  · rw [BitVec.toNat_ofNat]
    omega

theorem pollWord_status (s : State) (c : Core) (n : Nat) : s.statusWord c n (s.pollWord c n) := by
  have hle := coreTags_le c
  unfold State.statusWord State.pollWord
  by_cases hn : coreTags c ≤ n
  · rw [if_pos hn]
    exact ⟨fun _ => status_none n, fun _ h => absurd hn (by omega), fun _ _ _ h => absurd hn (by omega)⟩
  · rw [if_neg hn]
    cases s.tag c n with
    | free => exact ⟨fun _ => status_none n, fun h => by simp at h, fun _ _ h => by simp at h⟩
    | issued k => exact ⟨fun h => by simp [hn] at h, fun _ _ => status_pending k (by omega), fun _ _ h => by simp at h⟩
    | held w v =>
      exact ⟨fun h => by simp [hn] at h, fun _ _ => status_pending (w / 256) (by omega), fun _ _ h => by simp at h⟩
    | done w v =>
      refine ⟨fun h => by simp [hn] at h, fun h => by simp at h, fun x y h _ => ?_⟩
      injection h with hw
      rw [hw]

theorem pollWord_of_tag {s t : State} {c : Core} {n : Nat} (h : t.tag c n = s.tag c n) :
    t.pollWord c n = s.pollWord c n := by
  unfold State.pollWord
  rw [h]

end Sys2Proof.Machine
end

section
/-! PROOF. pollt, waitt and tagrel (R105, R106). -/

namespace Sys2Proof.Machine
open Sys2Proof Sys2Proof.Reg

/-- A completion word in `d`, the pc past the instruction, nothing else of the core but ECCCNT changed. -/
theorem pollDone_clauses {s u : State} {c : Core} (hs : s.sameBut u c) (hg : ∀ r, u.g c r = s.g c r)
    (hpc : u.pc c = s.pc c) (d : Reg) (v : Word) :
    (∀ r, ((u.setG c d v).advance c).g c r = if r = d ∧ r ≠ 0 then v else s.g c r) ∧
      ((u.setG c d v).advance c).pc c = s.pc c + 4 ∧
      (((u.setG c d v).advance c).core c).run = (s.core c).run ∧
      (((u.setG c d v).advance c).core c).tags = (s.core c).tags ∧
      ((u.setG c d v).advance c).setCore c (s.core c) = s := by
  obtain ⟨hregs, hnext, hframe⟩ := answer_clauses hs hg hpc d v
  obtain ⟨hcore, hrun, htags, -⟩ := sameBut_iff.mp hframe
  exact ⟨hregs, hnext, hrun, htags, hcore⟩

theorem run_of_fetches {s : State} {f : Fetch} (hf : s.fetches f = true) : (s.core f.core).run = .run := by
  simp only [State.fetches, Bool.and_eq_true, decide_eq_true_eq] at hf
  exact hf.1.1.1.1

section
variable {s : State} {f : Fetch} (hf : s.fetches f = true)
include hf

theorem exec_pollt_fetches (d a : Reg) :
    exec (.pollt f d a) s = .next (((s.fetched f).setG f.core d
      (s.pollWord f.core ((s.g f.core a).toNat % 256))).advance f.core) := by
  rw [exec_pollt, execPollt, instr_body hf, g_fetched, pollWord_of_tag (tag_fetched s f.core f _)]

theorem exec_waitt_fetches (hlock : s.holdsAny f.core = false) (d a b : Reg) :
    exec (.waitt f d a b) s = .next
      (if (s.tag f.core ((s.g f.core a).toNat % 256)).isPending then
        (s.fetched f).setRun f.core (.waitt ((s.g f.core a).toNat % 256) d.toNat
          (if b = 0 then none else some (s.g f.core b).toNat))
      else ((s.fetched f).setG f.core d (s.pollWord f.core ((s.g f.core a).toNat % 256))).advance f.core) := by
  rw [exec_waitt, execWaitt, hlock, firstBad_false, firstBad_nil, instr_body hf]
  dsimp only
  rw [g_fetched, g_fetched, tag_fetched, pollWord_of_tag (tag_fetched s f.core f _)]

theorem exec_tagrel_fetches (a : Reg) :
    exec (.tagrel f a) s = .next
      ((if (s.g f.core a).toNat % 256 < coreTags f.core ∧ (s.tag f.core ((s.g f.core a).toNat % 256)).isDone = true then
        (s.fetched f).setTag f.core ((s.g f.core a).toNat % 256) .free
      else (s.fetched f).setCrstat f.core Crstat.badRel).advance f.core) := by
  rw [exec_tagrel, execTagrel, instr_body hf]
  dsimp only
  rw [g_fetched, tag_fetched]
  simp only [Bool.and_eq_true, decide_eq_true_eq]

end

/-- The answer of pollt, and of waitt at once. -/
theorem polls_clause {s : State} {f : Fetch} (hf : s.fetches f = true) {i : Instr} {d : Reg} {n : Nat}
    (h : exec i s = .next (((s.fetched f).setG f.core d (s.pollWord f.core n)).advance f.core)) :
    ∃ t w, exec i s = .next t ∧ s.statusWord f.core n w ∧
      (∀ r, t.g f.core r = if r = d ∧ r ≠ 0 then w else s.g f.core r) ∧ t.pc f.core = s.pc f.core + 4 ∧
      (t.core f.core).run = .run ∧ (t.core f.core).tags = (s.core f.core).tags ∧
      t.setCore f.core (s.core f.core) = s := by
  obtain ⟨hg, hpc, hrun, htags, hcore⟩ := pollDone_clauses (sameBut_fetched s f) (fun r => g_fetched s f f.core r)
    (pc_fetched s f _) d (s.pollWord f.core n)
  exact ⟨_, _, h, pollWord_status s f.core n, hg, hpc, hrun.trans (run_of_fetches hf), htags, hcore⟩

/-- The end of a waitt. -/
theorem waittEnd_clause {s : State} {i : Instr} {c : Core} {d : Reg} {n : Nat}
    (h : exec i s = .next (s.waittEnd c n d.toNat)) :
    ∃ t w, exec i s = .next t ∧ s.statusWord c n w ∧ (∀ r, t.g c r = if r = d ∧ r ≠ 0 then w else s.g c r) ∧
      t.pc c = s.pc c + 4 ∧ (t.core c).run = .run ∧ (t.core c).tags = (s.core c).tags ∧ t.setCore c (s.core c) = s := by
  refine ⟨_, s.pollWord c n, h, pollWord_status s c n, fun r => ?_, ?_, ?_, ?_, ?_⟩ <;>
    rw [State.waittEnd, BitVec.ofNat_toNat, BitVec.setWidth_eq]
  · rw [g_advance, g_setRun, g_setG]
  · rw [pc_advance, pc_setRun, pc_setG]
  · rw [run_advance, run_setRun]
  · rw [tags_advance, tags_setRun, tags_setG]
  · rw [advance_setCore, setRun_setCore, setG_setCore, setCore_core]

/-- A waitt goes on waiting. -/
theorem waitt_clause {s : State} {f : Fetch} {i : Instr} {r : CoreRun}
    (h : exec i s = .next ((s.fetched f).setRun f.core r)) :
    ∃ t, exec i s = .next t ∧ (t.core f.core).run = r ∧ t.pc f.core = s.pc f.core ∧
      (∀ q, t.g f.core q = s.g f.core q) ∧ t.setCore f.core (s.core f.core) = s := by
  refine ⟨_, h, run_setRun _ _ _, ?_, fun q => ?_, ?_⟩
  · rw [pc_setRun, pc_fetched]
  · rw [g_setRun, g_fetched]
  · rw [setRun_setCore]
    exact setCore_of_sameBut (sameBut_fetched s f)

/-- Settles O22: each instruction reads the tag as it stands, and only tagrel changes one. -/
theorem completionInstructions : Obligations.CompletionInstructions := by
  unfold Obligations.CompletionInstructions
  refine ⟨fun f d a s hf => polls_clause hf (exec_pollt_fetches hf d a), fun f d a b s hf =>
    ⟨fun hlock hidle => ?_, fun hlock hwait => ?_, fun hlock h10 => ?_⟩,
    fun c n d l s hrun => ⟨fun hidle => ?_, fun hwait => ?_, fun hl => ?_, fun hl => ?_⟩, fun f a s hf => ?_⟩
  · refine polls_clause hf ((exec_waitt_fetches hf hlock d a b).trans ?_)
    rw [if_neg (mt (isPending_iff _).mp hidle)]
  · refine waitt_clause ((exec_waitt_fetches hf hlock d a b).trans ?_)
    rw [if_pos ((isPending_iff _).mpr hwait)]
  · refine illegal_of_exec_eval hf h10 (by rw [exec_waitt, execWaitt]) ?_
    rw [hlock, firstBad_true]
  · refine waittEnd_clause ?_
    rw [exec_waittReturn, execWaittReturn, hrun]
    dsimp only
    rw [if_neg (mt (isPending_iff _).mp hidle)]
  · rw [exec_waittReturn, execWaittReturn, hrun]
    dsimp only
    rw [if_pos ((isPending_iff _).mpr hwait)]
  · refine waittEnd_clause ?_
    rw [exec_waittLimit, execWaittLimit, hrun, hl]
    rfl
  · rw [exec_waittLimit, execWaittLimit, hrun]
    match l with
    | none => rfl
    | some 0 => exact absurd rfl hl
    | some (k + 1) => rfl
  · dsimp only
    rw [exec_tagrel_fetches hf, ← isDone_iff]
    by_cases hdone : (s.g f.core a).toNat % 256 < coreTags f.core ∧
        (s.tag f.core ((s.g f.core a).toNat % 256)).isDone = true
    · rw [if_pos hdone]
      refine ⟨_, rfl, ?_, fun r => ?_, ?_, fun k hk => ?_, fun _ => ⟨?_, ?_⟩, fun h => absurd hdone h⟩
      · rw [pc_advance, pc_setTag, pc_fetched]
      · rw [g_advance, g_setTag, g_fetched]
      · rw [advance_setCore, setTag_setCore]
        exact setCore_of_sameBut (sameBut_fetched s f)
      · rw [tag_advance, tag_setTag_ne _ _ _ hk, tag_fetched]
      · rw [tag_advance, tag_setTag_same]
      · rw [cr_advance, cr_setTag, cr_fetched s f (by decide)]
    · rw [if_neg hdone]
      refine ⟨_, rfl, ?_, fun r => ?_, ?_, fun k _ => ?_, fun h => absurd h hdone, fun _ => ⟨?_, ?_⟩⟩
      · rw [State.setCrstat, pc_advance, pc_setCr, pc_fetched]
      · rw [State.setCrstat, g_advance, g_setCr, g_fetched]
      · rw [State.setCrstat, advance_setCore, setCr_setCore]
        exact setCore_of_sameBut (sameBut_fetched s f)
      · rw [State.setCrstat, tag_advance, tag_setCr, tag_fetched]
      · rw [State.setCrstat, tag_advance, tag_setCr, tag_fetched]
      · rw [State.setCrstat, cr_advance, cr_setCr_same, cr_fetched s f (by decide)]
        rfl

end Sys2Proof.Machine
end

section
/-! PROOF. The release of a completion into its ring (R104). -/

namespace Sys2Proof.Machine
open Sys2Proof Sys2Proof.Reg

/-! ### The three ends of a release -/

/-- Both ends of the ring entry at `a` lie where the core's ring must lie. -/
def ringHome (c : Core) (a : Nat) : Prop := region a = ringRegion c ∧ region (a + 7) = ringRegion c

/-- The ring of core `c` is full. -/
def State.ringFull (s : State) (c : Core) : Prop :=
  ((s.cr c Cr.crwp).toNat + 2 * ringSize c - (s.cr c Cr.crrp).toNat) % (2 * ringSize c) = ringSize c

/-- Address of the next ring entry of core `c`. -/
def State.ringAt (s : State) (c : Core) : Nat :=
  (s.cr c Cr.crbase).toNat + 8 * ((s.cr c Cr.crwp).toNat % ringSize c)

/-- `s` with the tag DONE and CRWP advanced. -/
def State.ringNext (s : State) (c : Core) (k w v : Nat) : State :=
  (s.setTag c k (.done w v)).setCr c Cr.crwp
    (BitVec.ofNat 32 (((s.cr c Cr.crwp).toNat + 1) % (2 * ringSize c)))

/-- A core seen a ring entry written (R93). -/
def State.entrySeen (s : State) (c : Core) : State := s.setCore c { s.core c with wakeSeen := true }

section
variable {s : State} {c : Core}

theorem release_full (h : s.ringFull c) (k w v : Nat) :
    s.release c k w v = (s.setTag c k (.done w v)).setCrstat c Crstat.ringOvf := by
  unfold State.ringFull at h
  unfold State.release
  dsimp only
  rw [if_pos h]

theorem release_home (h : ¬ s.ringFull c) (hh : ringHome c (s.ringAt c)) (k w v : Nat) :
    s.release c k w v =
      (((s.ringNext c k w v).setWord (s.ringAt c) w).setWord (s.ringAt c + 4) v).entrySeen c := by
  unfold State.ringFull at h
  unfold ringHome State.ringAt at hh
  unfold State.release
  dsimp only
  rw [if_neg h, cr_setTag, if_pos hh]
  rfl

/-- Outside its region the entry is recorded as a refused store, and nothing else. -/
theorem release_away (h : ¬ s.ringFull c) (hh : ¬ ringHome c (s.ringAt c)) (k w v : Nat) :
    (s.release c k w v).rest = ((s.ringNext c k w v).setCrstat c Crstat.ringBad).rest := by
  unfold State.ringFull at h
  unfold ringHome State.ringAt at hh
  unfold State.release
  dsimp only
  rw [if_neg h, cr_setTag, if_neg hh]
  split
  · rw [State.recordRefusal_rest]
    rfl
  · rw [State.recordRefusal_rest, State.draw_rest]
    rfl

end

/-! ### What each of them leaves -/

section
variable (s : State) (c : Core)

@[simp] theorem core_entrySeen_ne {q : Core} (h : q ≠ c) : (s.entrySeen c).core q = s.core q := core_setCore_ne s _ h

@[simp] theorem g_entrySeen (r : Reg) : (s.entrySeen c).g c r = s.g c r := by simp [State.g, State.entrySeen]

@[simp] theorem cr_entrySeen (n : Nat) : (s.entrySeen c).cr c n = s.cr c n := by simp [State.cr, State.entrySeen]

@[simp] theorem pc_entrySeen : (s.entrySeen c).pc c = s.pc c := by simp [State.pc, State.entrySeen]

@[simp] theorem tag_entrySeen (k : Nat) : (s.entrySeen c).tag c k = s.tag c k := tag_of_tags (by simp [State.entrySeen]) k

theorem mem_entrySeen : (s.entrySeen c).mem = s.mem := State.setCore_mem s c _

@[simp] theorem tag_setWord (a v k : Nat) : (s.setWord a v).tag c k = s.tag c k := tag_of_tags (by simp) k

@[simp] theorem tag_setCrstat (b k : Nat) : (s.setCrstat c b).tag c k = s.tag c k := tag_setCr _ _ _ _ _ _
@[simp] theorem g_setCrstat (b : Nat) (r : Reg) : (s.setCrstat c b).g c r = s.g c r := g_setCr _ _ _ _ _ _
@[simp] theorem pc_setCrstat (b : Nat) : (s.setCrstat c b).pc c = s.pc c := pc_setCr _ _ _ _ _
@[simp] theorem core_setCrstat_ne {q : Core} (b : Nat) (h : q ≠ c) : (s.setCrstat c b).core q = s.core q :=
  core_setCr_ne _ _ _ h
@[simp] theorem crstat_setCrstat (b : Nat) :
    (s.setCrstat c b).cr c Cr.crstat = s.cr c Cr.crstat ||| BitVec.ofNat 32 (2 ^ b) := cr_setCr_same _ _ _ _
@[simp] theorem cr_setCrstat_ne (b : Nat) {n : Nat} (h : n ≠ Cr.crstat) : (s.setCrstat c b).cr c n = s.cr c n :=
  cr_setCr_ne _ _ _ h

end

/-- The update of core `c` by a completion: its tag DONE, every other tag, the registers and the pc as they were, and
every other core. -/
def State.tagDone (s t : State) (c : Core) (k w v : Nat) : Prop :=
  t.tag c k = .done w v ∧ (∀ j, j ≠ k → t.tag c j = s.tag c j) ∧ (∀ r, t.g c r = s.g c r) ∧ t.pc c = s.pc c ∧
    ∀ q, q ≠ c → t.core q = s.core q

theorem tagDone_setTag (s : State) (c : Core) (k w v : Nat) : s.tagDone (s.setTag c k (.done w v)) c k w v :=
  ⟨tag_setTag_same _ _ _ _, fun _ hj => tag_setTag_ne _ _ _ hj, fun _ => g_setTag _ _ _ _ _ _, pc_setTag _ _ _ _ _,
    fun _ hq => core_setTag_ne _ _ _ _ _ hq⟩

theorem tagDone_ringNext (s : State) (c : Core) (k w v : Nat) : s.tagDone (s.ringNext c k w v) c k w v := by
  obtain ⟨htag, hother, hg, hpc, hcores⟩ := tagDone_setTag s c k w v
  unfold State.ringNext
  refine ⟨?_, fun j hj => ?_, fun r => ?_, ?_, fun q hq => ?_⟩
  · rw [tag_setCr, htag]
  · rw [tag_setCr, hother j hj]
  · rw [g_setCr, hg]
  · rw [pc_setCr, hpc]
  · rw [core_setCr_ne _ _ _ hq, hcores q hq]

/-- A state that agrees in every core's tags, registers and pc. -/
theorem State.tagDone.of_core {s t u : State} {c : Core} {k w v : Nat} (h : s.tagDone t c k w v)
    (htag : ∀ j, u.tag c j = t.tag c j) (hg : ∀ r, u.g c r = t.g c r) (hpc : u.pc c = t.pc c)
    (hcores : ∀ q, q ≠ c → u.core q = t.core q) : s.tagDone u c k w v := by
  obtain ⟨h1, h2, h3, h4, h5⟩ := h
  exact ⟨(htag k).trans h1, fun j hj => (htag j).trans (h2 j hj), fun r => (hg r).trans (h3 r), hpc.trans h4,
    fun q hq => (hcores q hq).trans (h5 q hq)⟩

theorem tagDone_release (s : State) (c : Core) (k w v : Nat) : s.tagDone (s.release c k w v) c k w v := by
  by_cases hf : s.ringFull c
  · rw [release_full hf]
    exact (tagDone_setTag s c k w v).of_core (fun _ => tag_setCrstat _ _ _ _) (fun _ => g_setCrstat _ _ _ _)
      (pc_setCrstat _ _ _) fun _ hq => core_setCrstat_ne _ _ _ hq
  · by_cases hh : ringHome c (s.ringAt c)
    · rw [release_home hf hh]
      exact (tagDone_ringNext s c k w v).of_core (fun _ => by simp) (fun _ => by simp) (by simp) fun _ hq => by simp [hq]
    · have hrest := release_away hf hh k w v
      refine (tagDone_ringNext s c k w v).of_core (fun j => ?_) (fun r => ?_) ?_ fun q hq => ?_
      · rw [State.tag, State.core_of_rest hrest, ← State.tag, tag_setCrstat]
      · rw [g_of_rest hrest, g_setCrstat]
      · rw [pc_of_rest hrest, pc_setCrstat]
      · rw [State.core_of_rest hrest, core_setCrstat_ne _ _ _ hq]

theorem cr_of_rest {s t : State} (h : t.rest = s.rest) (c : Core) (n : Nat) : t.cr c n = s.cr c n := by
  unfold State.cr
  rw [State.core_of_rest h]

theorem crwp_ringNext (s : State) (c : Core) (k w v : Nat) : ((s.ringNext c k w v).cr c Cr.crwp).toNat =
    ((s.cr c Cr.crwp).toNat + 1) % (2 * ringSize c) := by
  have hpos : ringSize c = 256 ∨ ringSize c = 32 := by cases c <;> decide
  rw [State.ringNext, cr_setCr_same, BitVec.toNat_ofNat]
  rcases hpos with h | h <;> rw [h] <;> omega

theorem cr_ringNext_ne (s : State) (c : Core) (k w v : Nat) {n : Nat} (h : n ≠ Cr.crwp) :
    (s.ringNext c k w v).cr c n = s.cr c n := by
  rw [State.ringNext, cr_setCr_ne _ _ _ h, cr_setTag]

theorem mem_ringNext (s : State) (c : Core) (k w v : Nat) : (s.ringNext c k w v).mem = s.mem := by
  rw [State.ringNext, State.setCr_mem, State.setTag_mem]

/-- The two words of an entry, and the bytes around it. -/
theorem ringEntry_words (u : State) (c : Core) (a : Nat) {w v : Nat} (hw : w < 2 ^ 32) (hv : v < 2 ^ 32) :
    (((u.setWord a w).setWord (a + 4) v).entrySeen c).word a = w ∧
      (((u.setWord a w).setWord (a + 4) v).entrySeen c).word (a + 4) = v ∧
      ∀ b, b < a ∨ a + 8 ≤ b → (((u.setWord a w).setWord (a + 4) v).entrySeen c).byte b = u.byte b := by
  refine ⟨?_, ?_, fun b hb => ?_⟩
  · rw [word_of_mem (mem_entrySeen _ _)]
    refine (load_store_outside _ 4 4 (a + 4) a v (by omega)).trans ?_
    exact (word_setWord_same _ _ _).trans (Nat.mod_eq_of_lt hw)
  · rw [word_of_mem (mem_entrySeen _ _), word_setWord_same, Nat.mod_eq_of_lt hv]
  · rw [byte_of_mem (mem_entrySeen _ _), byte_setWord_outside _ _ (by omega), byte_setWord_outside _ _ (by omega)]

theorem ringRegion_eq (c : Core) : ringRegion c = if c = .grm then .groomMem else .sram := by cases c <;> rfl

theorem ringSize_eq (c : Core) : ringSize c = if c = .grm then 32 else 256 := by cases c <;> rfl

/-- Settles O23: the release is one of three, by the ring's space and place. -/
theorem releasedCompletionsFillTheRing : Obligations.ReleasedCompletionsFillTheRing := by
  unfold Obligations.ReleasedCompletionsFillTheRing
  intro c k w v s hw hv _ _
  dsimp only
  rw [← ringRegion_eq]
  obtain ⟨htag, hother, hg, hpc, hcores⟩ := tagDone_release s c k w v
  refine ⟨ringSize_eq c, htag, hother, hg, hpc, hcores, fun hf => ?_, fun hf => ⟨?_, fun hh => ?_, fun hh => ?_⟩⟩
  · rw [release_full hf, crstat_setCrstat, cr_setCrstat_ne _ _ _ (by decide), cr_setTag, cr_setTag]
    exact ⟨by rw [State.setCrstat_mem, State.setTag_mem], rfl, rfl⟩
  · by_cases hh : ringHome c (s.ringAt c)
    · rw [release_home hf hh, cr_entrySeen, cr_setWord, cr_setWord, crwp_ringNext]
    · rw [cr_of_rest (release_away hf hh k w v), cr_setCrstat_ne _ _ _ (by decide), crwp_ringNext]
  · rw [release_home hf hh]
    obtain ⟨hlow, hhigh, hbytes⟩ := ringEntry_words (s.ringNext c k w v) c (s.ringAt c) hw hv
    refine ⟨hlow, hhigh, ?_, fun b hb => (hbytes b hb).trans (byte_of_mem (mem_ringNext s c k w v) b)⟩
    rw [cr_entrySeen, cr_setWord, cr_setWord, cr_ringNext_ne _ _ _ _ _ (by decide)]
  · have hrest := release_away hf hh k w v
    refine ⟨?_, ?_⟩
    · rw [State.mem_of_rest hrest, State.setCrstat_mem, mem_ringNext]
    · rw [cr_of_rest hrest, crstat_setCrstat, cr_ringNext_ne _ _ _ _ _ (by decide)]
      rfl

end Sys2Proof.Machine
end

section
/-! SUPPORT. The checks of an asynchronous issue in their order (R101 to R103). -/

namespace Sys2Proof.Machine
open Sys2Proof Sys2Proof.Reg

/-! ### The tag -/

theorem freeTag_eq_some {s : State} {c : Core} {k : Nat} (hk : k < coreTags c) (hfree : s.tag c k = .free)
    (hlow : ∀ j < k, s.tag c j ≠ .free) : s.freeTag c = some k := by
  unfold State.freeTag
  rw [List.find?_range_eq_some]
  refine ⟨(isFree_iff _).mpr hfree, List.mem_range.mpr hk, fun j hj => ?_⟩
  rw [Bool.not_eq_true', ← Bool.not_eq_true, isFree_iff]
  exact hlow j hj

theorem freeTag_eq_none {s : State} {c : Core} (h : ∀ k < coreTags c, s.tag c k ≠ .free) : s.freeTag c = none := by
  unfold State.freeTag
  rw [List.find?_range_eq_none]
  intro k hk
  rw [Bool.not_eq_true', ← Bool.not_eq_true, isFree_iff]
  exact h k hk

theorem exists_freeTag {s : State} {c : Core} (h : ∃ k < coreTags c, s.tag c k = .free) : ∃ k, s.freeTag c = some k := by
  obtain ⟨k, hk, hfree⟩ := h
  cases he : s.freeTag c with
  | some j => exact ⟨j, rfl⟩
  | none =>
    rw [State.freeTag, List.find?_range_eq_none] at he
    have := he k hk
    rw [(isFree_iff _).mpr hfree] at this
    exact absurd this (by decide)

@[simp] theorem freeTag_fetched (s : State) (f : Fetch) (c : Core) : (s.fetched f).freeTag c = s.freeTag c := by
  unfold State.freeTag
  simp only [tag_fetched]

@[simp] theorem inFlight_fetched (s : State) (f : Fetch) (n : Nat) : (s.fetched f).inFlight n = s.inFlight n := by
  have h : ∀ c, ((s.fetched f).core c).tags = (s.core c).tags := fun c => tags_fetched s f c
  have h0 := h .r0
  have h1 := h .r1
  have h2 := h .grm
  simp only [State.core] at h0 h1 h2
  unfold State.inFlight
  simp only [h0, h1, h2]

theorem word_fetched (s : State) (f : Fetch) (a : Nat) : (s.fetched f).word a = s.word a :=
  word_of_mem (mem_fetched s f) a

/-! ### The descriptor -/

theorem descOk_iff (c : Core) (x : Nat) : descOk c x = true ↔ x % 16 = 0 ∧ (region x = .sram ∨ region x = .groomMem ∨
    (c = .r0 ∧ region x = .r0Dtcm) ∨ (c = .r1 ∧ region x = .r1Dtcm)) := by
  unfold descOk
  simp only [Bool.and_eq_true, Bool.or_eq_true, decide_eq_true_eq]
  tauto

/-- The descriptor at gA, with the argument in gB. -/
def State.descAt (s : State) (c : Core) (a b : Reg) : Desc :=
  ⟨s.word (s.g c a).toNat, s.word ((s.g c a).toNat + 4), s.word ((s.g c a).toNat + 8), s.word ((s.g c a).toNat + 12),
    (s.g c b).toNat, decide (b = 0)⟩

/-! ### The checks -/

/-- A refused issue: the code in gD, the pc past it. -/
def State.issueRefused (s : State) (f : Fetch) (d : Reg) (k : Nat) : State :=
  (s.setG f.core d (refuseWord k)).advance f.core

/-- An issue that has its tag. -/
def State.issueTagged (s : State) (f : Fetch) (d : Reg) (k cls : Nat) : State :=
  (((s.fetched f).setTag f.core k (.issued cls)).setG f.core d (issueWord k)).advance f.core

section
variable {s : State} {f : Fetch} {bad : List (Bool × Nat)} (hf : s.fetches f = true) (hbad : firstBad bad = none)
include hf hbad
variable (d a b : Reg) (ecc : Ecc) (op : Nat) (argDefined : Bool) (full : State → Bool) (ovf : State → State)
  (owner : State → Desc → Accept)

theorem issue_overflow (htag : s.freeTag f.core = none) :
    s.issue f d a b ecc op bad argDefined full ovf owner =
      .next ((s.fetched f).faultHere f.core Exc.tagOvf 0 (wordA 8 d a b op)) := by
  rw [State.issue, hbad, instr_body hf]
  dsimp only
  rw [freeTag_fetched, htag]

variable {k : Nat} (htag : s.freeTag f.core = some k)
include htag

theorem issue_full (hfull : full (s.fetched f) = true) :
    s.issue f d a b ecc op bad argDefined full ovf owner =
      .next ((ovf (s.fetched f)).issueRefused f d Refuse.full) := by
  rw [State.issue, hbad, instr_body hf]
  dsimp only
  rw [freeTag_fetched, htag]
  dsimp only
  rw [if_pos hfull]
  rfl

variable (hfull : full (s.fetched f) = false)
include hfull

theorem issue_misplaced (hdesc : ¬ (descOk f.core (s.g f.core a).toNat = true ∧ (argDefined = false → b = 0))) :
    s.issue f d a b ecc op bad argDefined full ovf owner = .next ((s.fetched f).issueRefused f d Refuse.field) := by
  have hcond : (!(descOk f.core (s.g f.core a).toNat) || (!argDefined && decide (b ≠ 0))) = true := by
    simp only [Bool.or_eq_true, Bool.and_eq_true, Bool.not_eq_true', decide_eq_true_eq]
    by_contra hno
    rw [not_or, not_and, Bool.not_eq_false, not_not] at hno
    exact hdesc hno
  rw [State.issue, hbad, instr_body hf]
  dsimp only
  rw [freeTag_fetched, htag]
  dsimp only
  rw [hfull, if_neg (by decide), g_fetched, if_pos hcond]
  rfl

variable (hdesc : descOk f.core (s.g f.core a).toNat = true) (harg : argDefined = false → b = 0)
include hdesc harg

theorem issue_window (hw : (s.fetched f).winBad f.core Perm.r 16 (s.g f.core a).toNat = true) :
    s.issue f d a b ecc op bad argDefined full ovf owner = .next ((s.fetched f).issueRefused f d Refuse.window) := by
  have hcond : (!(descOk f.core (s.g f.core a).toNat) || (!argDefined && decide (b ≠ 0))) = false := by
    cases argDefined <;> simp_all
  rw [State.issue, hbad, instr_body hf]
  dsimp only
  rw [freeTag_fetched, htag]
  dsimp only
  rw [hfull, if_neg (by decide), g_fetched, hcond, if_neg (by decide), if_pos hw]
  rfl

variable (hw : (s.fetched f).winBad f.core Perm.r 16 (s.g f.core a).toNat = false)
include hw

theorem issue_uncorrectable (he : ecc = .uncorrectable) :
    s.issue f d a b ecc op bad argDefined full ovf owner =
      .next ((s.fetched f).faultHere f.core Exc.ecc 3 (s.g f.core a)) := by
  have hcond : (!(descOk f.core (s.g f.core a).toNat) || (!argDefined && decide (b ≠ 0))) = false := by
    cases argDefined <;> simp_all
  rw [State.issue, hbad, instr_body hf]
  dsimp only
  rw [freeTag_fetched, htag]
  dsimp only
  rw [hfull, if_neg (by decide), g_fetched, hcond, if_neg (by decide), hw, if_neg (by decide), if_pos he]

/-- Past these checks the owner decides. -/
theorem issue_owner {act : Nat → State → State} (he : ecc ≠ .uncorrectable)
    (howner : owner (s.fetched f) (s.descAt f.core a b) = .take act) :
    s.issue f d a b ecc op bad argDefined full ovf owner = .next (act k (s.issueTagged f d k op)) := by
  have hcond : (!(descOk f.core (s.g f.core a).toNat) || (!argDefined && decide (b ≠ 0))) = false := by
    cases argDefined <;> simp_all
  unfold State.descAt at howner
  rw [State.issue, hbad, instr_body hf]
  dsimp only
  rw [freeTag_fetched, htag]
  dsimp only
  rw [hfull, if_neg (by decide), g_fetched, g_fetched, hcond, if_neg (by decide), hw, if_neg (by decide), if_neg he,
    word_fetched, word_fetched, word_fetched, word_fetched, howner]
  rfl

end

end Sys2Proof.Machine
end

section
/-! PROOF. Tag overflow and refused issues (R101 to R103). -/

namespace Sys2Proof.Machine
open Sys2Proof Sys2Proof.Reg

/-- The pool of class `n` is full (Table GCS-14). -/
def State.poolFull (s : State) (n : Nat) : Prop :=
  if n = 0 then 192 ≤ s.inFlight 0 else if n = 1 then 63 ≤ s.inFlight 1 else if n = 2 then 16 ≤ s.inFlight 2
    else 64 ≤ s.inFlight 3 + s.inFlight 4

/-- What a full pool of class `n` does besides the refusal: CHN_TAGSTAT.OVF for chx (R187). -/
def State.poolOverflow (s : State) (n : Nat) : State := if n = 0 then s.put CHN_TAGSTAT.OVF true else s

/-- Each issue with its checks; on a core and at a privilege that may execute it, no illegal-instruction condition. -/
theorem issue_of_row {row : (Fetch → Reg → Reg → Reg → Ecc → Instr) × Nat × Bool}
    (h : row ∈ ([(.chx, 0, true), (.job, 1, true), (.nvc, 2, false), (.dma, 3, false), (.txf, 4, true)] :
      List ((Fetch → Reg → Reg → Reg → Ecc → Instr) × Nat × Bool))) {f : Fetch} {s : State}
    (hcore : f.core ≠ .grm ∨ row.2.1 = 0 ∨ row.2.1 = 4) (hpriv : s.isApp f.core = false ∨ row.2.1 = 1 ∨ row.2.1 = 3) :
    ∃ bad full ovf owner, (∀ d a b ecc, exec (row.1 f d a b ecc) s =
        s.issue f d a b ecc row.2.1 bad row.2.2 full ovf owner) ∧ firstBad bad = none ∧
      (∀ t, full t = true ↔ t.poolFull row.2.1) ∧ ∀ t, ovf t = t.poolOverflow row.2.1 := by
  have hrider : ¬(row.2.1 = 0 ∨ row.2.1 = 4) → groomLacks f = false :=
    fun hn => groomLacks_rider (hcore.resolve_right hn)
  simp only [List.mem_cons, List.not_mem_nil, or_false] at h
  rcases h with rfl | rfl | rfl | rfl | rfl
  · exact ⟨_, _, _, _, fun d a b ecc => by rw [exec_chx, execChx]; rfl, by rw [hpriv.resolve_right (by decide)]; rfl,
      fun t => show decide (192 ≤ t.inFlight 0) = true ↔ 192 ≤ t.inFlight 0 from decide_eq_true_iff, fun t => rfl⟩
  · exact ⟨_, _, _, _, fun d a b ecc => by rw [exec_job, execJob]; rfl, by rw [hrider (by decide)]; rfl,
      fun t => show decide (63 ≤ t.inFlight 1) = true ↔ 63 ≤ t.inFlight 1 from decide_eq_true_iff, fun t => rfl⟩
  · exact ⟨_, _, _, _, fun d a b ecc => by rw [exec_nvc, execNvc]; rfl,
      by rw [hrider (by decide), hpriv.resolve_right (by decide)]; rfl, fun t => show decide (16 ≤ t.inFlight 2) = true ↔ 16 ≤ t.inFlight 2 from decide_eq_true_iff, fun t => rfl⟩
  · exact ⟨_, _, _, _, fun d a b ecc => by rw [exec_dma, execDma]; rfl, by rw [hrider (by decide)]; rfl,
      fun t => show decide (64 ≤ t.inFlight 3 + t.inFlight 4) = true ↔ 64 ≤ t.inFlight 3 + t.inFlight 4 from decide_eq_true_iff, fun t => rfl⟩
  · exact ⟨_, _, _, _, fun d a b ecc => by rw [exec_txf, execTxf]; rfl, by rw [hpriv.resolve_right (by decide)]; rfl,
      fun t => show decide (64 ≤ t.inFlight 3 + t.inFlight 4) = true ↔ 64 ≤ t.inFlight 3 + t.inFlight 4 from decide_eq_true_iff, fun t => rfl⟩

theorem poolFull_fetched (s : State) (f : Fetch) (n : Nat) : (s.fetched f).poolFull n ↔ s.poolFull n := by
  unfold State.poolFull
  simp only [inFlight_fetched]

theorem poolOverflow_rest (s : State) (n : Nat) : (s.poolOverflow n).rest = s.rest := by
  unfold State.poolOverflow
  split
  · exact State.put_rest _ _ _
  · rfl

theorem poolOverflow_setCore (s : State) (n : Nat) (c : Core) (x : CoreSt) :
    (s.setCore c x).poolOverflow n = (s.poolOverflow n).setCore c x := by
  unfold State.poolOverflow
  split <;> cases c <;> rfl

/-- The frame of the overflow over the fetch is that over the state before. -/
theorem sameBut_poolOverflow (s : State) (f : Fetch) (n : Nat) :
    (s.poolOverflow n).sameBut ((s.fetched f).poolOverflow n) f.core := by
  have hcore : ((s.fetched f).poolOverflow n).core f.core = (s.fetched f).core f.core :=
    State.core_of_rest (poolOverflow_rest _ _) _
  have hcore' : (s.poolOverflow n).core f.core = s.core f.core := State.core_of_rest (poolOverflow_rest _ _) _
  unfold State.sameBut
  rw [hcore, hcore', ← poolOverflow_setCore]
  exact congrArg (·.poolOverflow n) (sameBut_fetched s f)

/-- What a refused issue leaves. -/
theorem issueRefused_clauses (s : State) (f : Fetch) {u v : State} (hv : v.rest = (s.fetched f).rest)
    (huv : u.sameBut v f.core) (d : Reg) (k : Nat) :
    (∀ r, (v.issueRefused f d k).g f.core r = if r = d ∧ r ≠ 0 then BitVec.ofNat 32 (512 * k) else s.g f.core r) ∧
      (v.issueRefused f d k).pc f.core = s.pc f.core + 4 ∧ u.sameBut (v.issueRefused f d k) f.core ∧
      s.sameCr (v.issueRefused f d k) f.core (if f.ecc = .corrected then [Cr.ecccnt] else []) := by
  unfold State.issueRefused
  refine ⟨fun r => ?_, ?_, ?_, fun n hn => ?_⟩
  · rw [g_advance, g_setG, g_of_rest hv, g_fetched, refuseWord, Nat.mul_comm]
  · rw [pc_advance, pc_setG, pc_of_rest hv, pc_fetched]
  · exact sameBut_trans huv (sameBut_trans (sameBut_setG _ _ _ _) (sameBut_advance _ _))
  · rw [cr_answer, cr_of_rest hv, sameCr_fetched s f n hn]

/-- Settles O21: the checks of the issue in the order of the model. -/
theorem refusedIssuesTakeNoTag : Obligations.RefusedIssuesTakeNoTag := by
  unfold Obligations.RefusedIssuesTakeNoTag
  intro row hrow f d a b ecc s hf hcore hpriv
  obtain ⟨bad, full, ovf, owner, hexec, hbad, hfull, hovf⟩ := issue_of_row hrow hcore hpriv
  dsimp only
  refine ⟨fun hnone h10 => ?_, fun hsome => ?_⟩
  · exact ⟨_, (hexec d a b ecc).trans (issue_overflow hf hbad d a b ecc _ _ _ _ _ (freeTag_eq_none hnone)),
      faultHere_fetched_entered h10 _ _ _⟩
  · obtain ⟨k, htag⟩ := exists_freeTag hsome
    have hnot : ¬ s.poolFull row.2.1 → full (s.fetched f) = false := fun h => by
      rw [← Bool.not_eq_true, hfull, poolFull_fetched]
      exact h
    refine ⟨fun h => ?_, fun h hplace => ?_, fun h ⟨halign, hregion, harg⟩ hw => ?_,
      fun h ⟨halign, hregion, harg⟩ hw he h10 => ?_⟩
    · refine ⟨_, (hexec d a b ecc).trans (issue_full hf hbad d a b ecc _ _ _ _ _ htag
        ((hfull _).mpr ((poolFull_fetched s f _).mpr h))), ?_⟩
      rw [hovf]
      exact issueRefused_clauses s f (poolOverflow_rest _ _) (sameBut_poolOverflow s f _) d 1
    · exact ⟨_, (hexec d a b ecc).trans (issue_misplaced hf hbad d a b ecc _ _ _ _ _ htag (hnot h)
        fun ⟨hdesc, harg⟩ => hplace (and_assoc.mp ⟨(descOk_iff _ _).mp hdesc, harg⟩)),
        issueRefused_clauses s f rfl (sameBut_fetched s f) d 4⟩
    · exact ⟨_, (hexec d a b ecc).trans (issue_window hf hbad d a b ecc _ _ _ _ _ htag (hnot h)
        ((descOk_iff _ _).mpr ⟨halign, hregion⟩) harg hw),
        issueRefused_clauses s f rfl (sameBut_fetched s f) d 3⟩
    · exact ⟨_, (hexec d a b ecc).trans
        (issue_uncorrectable hf hbad d a b ecc _ _ _ _ _ htag (hnot h)
        ((descOk_iff _ _).mpr ⟨halign, hregion⟩) harg hw he),
        faultHere_fetched_entered h10 _ _ _⟩

end Sys2Proof.Machine
end

section
/-! PROOF. Accepted issues (R101, R103, R108, R130, R188, R358, R382, R421): the owner's part over the state that has
taken the tag. -/

namespace Sys2Proof.Machine
open Sys2Proof Sys2Proof.Reg

/-! ### The state that has taken the tag -/

theorem eq_setCore_of {s t : State} {c : Core} (h : t.setCore c (s.core c) = s) : t = s.setCore c (t.core c) := by
  conv_rhs => rw [← h]
  rw [setCore_setCore, setCore_core]

/-- Taking the tag is an update of the core's record. -/
theorem issueTagged_eq (s : State) (f : Fetch) (d : Reg) (k cls : Nat) :
    s.issueTagged f d k cls = s.setCore f.core ((s.issueTagged f d k cls).core f.core) := by
  refine eq_setCore_of ?_
  rw [State.issueTagged, advance_setCore, setG_setCore, setTag_setCore]
  exact setCore_of_sameBut (sameBut_fetched s f)

section
variable (s : State) (f : Fetch) (d : Reg) (k cls : Nat)

theorem issueTagged_regs : (s.issueTagged f d k cls).regs = s.regs := by rw [issueTagged_eq, State.setCore_regs]
theorem issueTagged_mem : (s.issueTagged f d k cls).mem = s.mem := by rw [issueTagged_eq, State.setCore_mem]
theorem issueTagged_dma : (s.issueTagged f d k cls).dma = s.dma := by rw [issueTagged_eq, State.setCore_dma]
theorem issueTagged_herd : (s.issueTagged f d k cls).herd = s.herd := by rw [issueTagged_eq, State.setCore_herd]
theorem issueTagged_chn : (s.issueTagged f d k cls).chn = s.chn := by rw [issueTagged_eq, State.setCore_chn]
theorem issueTagged_pad : (s.issueTagged f d k cls).pad = s.pad := by rw [issueTagged_eq, State.setCore_pad]
theorem issueTagged_nowUs : (s.issueTagged f d k cls).nowUs = s.nowUs := by rw [issueTagged_eq, State.setCore_nowUs]

theorem issueTagged_isApp : (s.issueTagged f d k cls).isApp f.core = s.isApp f.core := by
  unfold State.issueTagged State.isApp State.statusBit
  rw [cr_answer, cr_setTag, cr_fetched s f (by decide)]

theorem issueTagged_tag : (s.issueTagged f d k cls).tag f.core k = .issued cls := by
  rw [State.issueTagged, tag_advance, tag_setG, tag_setTag_same]

theorem issueTagged_pc : (s.issueTagged f d k cls).pc f.core = s.pc f.core + 4 := by
  rw [State.issueTagged, pc_advance, pc_setG, pc_setTag, pc_fetched]

end

/-! ### What reads the registers alone -/

section
variable {s t : State} (h : t.regs = s.regs)
include h

theorem flag_of_regs (q : Fld) : t.flag q = s.flag q := by
  unfold State.flag
  rw [get_of_regs h]

theorem refusal_of_regs (m : Master) (app : Bool) (k : Access) (n a : Nat) :
    t.refusal m app k n a = s.refusal m app k n a := by
  unfold State.refusal State.gait State.bitOf
  simp only [get_of_regs h, flag_of_regs h]

theorem firstRefused_of_regs (m : Master) (k : Access) (n : Nat) :
    ∀ a, t.firstRefused m k n a = s.firstRefused m k n a := by
  induction n with
  | zero => exact fun _ => rfl
  | succ j ih =>
    intro a
    rw [State.firstRefused, State.firstRefused, refusal_of_regs h, ih]

theorem isStandby_of_regs : t.isStandby = s.isStandby := by
  unfold State.isStandby State.tandem
  rw [flag_of_regs h, get_of_regs h]

theorem chxPost_of_regs (c : Core) (p : Nat) : t.chxPost c p = s.chxPost c p := by
  unfold State.chxPost State.portUnit
  rw [get_of_regs h]

theorem arbLevel_of_regs (p : ArbPost) : t.arbLevel p = s.arbLevel p := by
  unfold State.arbLevel
  rw [get_of_regs h]

end

theorem getBytes_of_mem {s t : State} (h : t.mem = s.mem) (a n : Nat) : t.getBytes a n = s.getBytes a n := by
  unfold State.getBytes
  simp only [byte_of_mem h]

theorem regs_fetched (s : State) (f : Fetch) : (s.fetched f).regs = s.regs := by
  rw [sameBut_fetched s f, State.setCore_regs]

/-! ### The owners -/

theorem Accept.check_take {l : List (Bool × Nat)} (h : firstBad l = none) (act : Nat → State → State) :
    Accept.check l act = .take act := by
  rw [Accept.check, h]

/-- An issue whose tag, descriptor and fetch pass every check of the issue itself. -/
structure IssueReady (s : State) (f : Fetch) (a : Reg) (ecc : Ecc) (k : Nat) : Prop where
  fetches : s.fetches f = true
  tag : s.freeTag f.core = some k
  desc : descOk f.core (s.g f.core a).toNat = true
  window : (s.fetched f).winBad f.core Perm.r 16 (s.g f.core a).toNat = false
  ecc : ecc ≠ .uncorrectable

section
variable {s : State} {f : Fetch} {a : Reg} {ecc : Ecc} {k : Nat}

/-- Past the checks of the issue the owner's act is done over the state that has taken the tag. -/
theorem IssueReady.issue (h : IssueReady s f a ecc k) {bad : List (Bool × Nat)} (hbad : firstBad bad = none)
    {argDefined : Bool} {b : Reg} (harg : argDefined = false → b = 0) {full : State → Bool}
    (hfull : full (s.fetched f) = false) {owner : State → Desc → Accept} {act : Nat → State → State}
    (howner : owner (s.fetched f) (s.descAt f.core a b) = .take act) (d : Reg) (op : Nat) (ovf : State → State) :
    s.issue f d a b ecc op bad argDefined full ovf owner = .next (act k (s.issueTagged f d k op)) :=
  issue_owner hf hbad d a b ecc op argDefined full ovf owner h.tag hfull h.desc harg h.window h.ecc howner
where hf := h.fetches

theorem exec_dma_accepted (h : IssueReady s f a ecc k) (hr : f.core ≠ .grm)
    (hpool : s.inFlight 3 + s.inFlight 4 < 64) {x : Desc} (hx : s.descAt f.core a 0 = x) (hbad : dmaBad x = false)
    (hw : (s.fetched f).winBad f.core Perm.w x.w2 x.w1 = false)
    (hr' : bit x.w3 8 = false → (s.fetched f).winBad f.core Perm.r x.w2 x.w0 = false)
    (hlen : (s.dmaChan (bits x.w3 0 3)).length < 8) (d : Reg) :
    exec (.dma f d a 0 ecc) s = .next ((s.issueTagged f d k 3).setDma (bits x.w3 0 3)
      (s.dmaChan (bits x.w3 0 3) ++ [⟨f.core, k, x.w0, x.w1, x.w2, bit x.w3 8, !(s.isApp f.core)⟩])) := by
  have hchan : (s.issueTagged f d k 3).dmaChan (bits x.w3 0 3) = s.dmaChan (bits x.w3 0 3) := by
    unfold State.dmaChan
    rw [issueTagged_dma]
  have hchanf : (s.fetched f).dmaChan (bits x.w3 0 3) = s.dmaChan (bits x.w3 0 3) := by
    unfold State.dmaChan
    rw [sameBut_fetched s f, State.setCore_dma]
  have hread : (!(bit x.w3 8) && (s.fetched f).winBad f.core Perm.r x.w2 x.w0) = false := by
    cases hb : bit x.w3 8 with
    | true => rfl
    | false => rw [hr' hb]; rfl
  have howner : (s.fetched f).dmaOwner f.core (s.descAt f.core a 0) = .take fun t s =>
      s.setDma (bits x.w3 0 3) (s.dmaChan (bits x.w3 0 3) ++
        [⟨f.core, t, x.w0, x.w1, x.w2, bit x.w3 8, !(s.isApp f.core)⟩]) := by
    rw [hx]
    refine Accept.check_take ?_ _
    rw [hbad, hread, hw, hchanf, decide_eq_false (by omega)]
    rfl
  rw [exec_dma, execDma, h.issue (by rw [groomLacks_rider hr]; rfl) (fun _ => rfl)
    (by rw [inFlight_fetched, inFlight_fetched]; exact decide_eq_false (by show ¬ 64 ≤ s.inFlight 3 + s.inFlight 4; omega)) howner]
  rw [← hchan, ← issueTagged_isApp s f d k 3]
  rfl

theorem freeIndex_of_herd {s t : State} (h : t.herd = s.herd) : t.freeIndex = s.freeIndex := by
  unfold State.freeIndex State.jobAt
  rw [h]

/-- The job that an accepted descriptor queues. -/
def State.jobOf (s : State) (c : Core) (x : Desc) (k : Nat) : Job :=
  { index := s.freeIndex.getD 0, owner := some (c, k), prog := x.w0, plen := bits x.w1 0 12, ecls := bits x.w1 16 4
    teams := x.w2, deadline := s.nowUs + x.w3, arg := x.arg, sweep := s.get HRD_SWEEP.SWEEP
    urgent := decide (bits x.w1 16 4 = 15) || s.teamUrgent c, candidate := false, phase := .queued, cells := []
    runs := [], pubs := [] }

theorem exec_job_accepted (h : IssueReady s f a ecc k) (hr : f.core ≠ .grm) (hpool : s.inFlight 1 < 63) {b : Reg}
    {x : Desc} (hx : s.descAt f.core a b = x) (hpow : s.flag HRD_STAT.POWERED = true)
    (hbad : (s.fetched f).jobBad x = false)
    (hw : (s.fetched f).winBad f.core Perm.r (4 * bits x.w1 0 12) x.w0 = false)
    (hteams : x.w2 &&& s.get HRD_TEAMDIS.TEAMS = 0) (hindex : s.freeIndex ≠ none) (d : Reg) :
    exec (.job f d a b ecc) s =
      .next ((s.issueTagged f d k 1).queueJob ((s.issueTagged f d k 1).jobOf f.core x k)) := by
  have hherd : (s.fetched f).herd = s.herd := by rw [sameBut_fetched s f, State.setCore_herd]
  have howner : (s.fetched f).jobOwner f.core (s.descAt f.core a b) =
      .take fun t s => s.queueJob (s.jobOf f.core x t) := by
    rw [hx]
    refine Accept.check_take ?_ _
    rw [flag_of_regs (regs_fetched s f), hpow, hbad, hw, get_of_regs (regs_fetched s f), hteams,
      freeIndex_of_herd hherd, Option.isNone_eq_false_iff.mpr (Option.isSome_iff_ne_none.mpr hindex)]
    rfl
  rw [exec_job, execJob, h.issue (by rw [groomLacks_rider hr]; rfl) (fun h => absurd h (by decide))
    (by rw [inFlight_fetched]; exact decide_eq_false (by show ¬ 63 ≤ s.inFlight 1; omega)) howner]
  rfl

/-- The commit that an accepted descriptor other than an event record queues. -/
def commitOf (c : Core) (x : Desc) (k : Nat) : Commit :=
  { Commit.blank (if bits x.w0 0 2 = 0 then .ledger else .settings) with
    index := bits x.w0 8 5, src := x.w1, len := bits x.w2 0 10, code := bits x.w3 0 16, sev := bits x.w3 16 3
    owner := some (c, k) }

theorem nvcGo_commit {x : Desc} (h1 : bits x.w0 0 2 ≠ 1) (u : State) (c : Core) (k : Nat) :
    u.nvcGo c x k = u.enqueue (commitOf c x k) := by
  unfold State.nvcGo commitOf
  dsimp only
  rw [if_neg h1, if_neg h1]

theorem exec_nvc_accepted (h : IssueReady s f a ecc k) (hr : f.core ≠ .grm) (hfirm : s.isApp f.core = false)
    (hpool : s.inFlight 2 < 16) {x : Desc} (hx : s.descAt f.core a 0 = x) (hbad : nvcBad f.core x = false)
    (h1 : bits x.w0 0 2 ≠ 1) (d : Reg) :
    exec (.nvc f d a 0 ecc) s = .next ((s.issueTagged f d k 2).enqueue (commitOf f.core x k)) := by
  have howner : nvcOwner f.core (s.descAt f.core a 0) = .take fun t s => s.nvcGo f.core x t := by
    rw [hx]
    refine Accept.check_take ?_ _
    rw [hbad]
    rfl
  rw [exec_nvc, execNvc, h.issue (by rw [groomLacks_rider hr, hfirm]; rfl) (fun _ => rfl)
    (by rw [inFlight_fetched]; exact decide_eq_false (by show ¬ 16 ≤ s.inFlight 2; omega)) howner, nvcGo_commit h1]
  rfl

/-! ### chx -/

/-- The transaction of an accepted unicast chx. -/
def State.chxOf (s : State) (c : Core) (x : Desc) (k : Nat) : ChxSt :=
  ⟨s.freeWire, c, k, bits x.w0 0 8, bits x.w0 8 6, bits x.w0 16 2, x.w3, s.getBytes x.w2 (bits x.w1 0 7),
    [bits x.w0 16 2], if x.noArg = true then s.get CHN_RTO.RTO else x.arg, false⟩

/-- A unicast chx to a named port joins those in flight, its request those at the arbiter. -/
theorem chxGo_unicast {u : State} {c : Core} {x : Desc} (k : Nat) (hstand : u.isStandby = false)
    (hport : bits x.w0 16 2 ≠ 0) (hone : bits x.w0 16 2 ≠ 3)
    (hread : u.firstRefused .chain .load ((bits x.w1 0 7 + 3) / 4) x.w2 = none) :
    u.chxGo c x k = ((u.quiet.mapChn fun y => { y with chx := y.chx ++ [u.chxOf c x k] }).mapPad fun y =>
      { y with requests := y.requests ++ [⟨u.chxPost c (bits x.w0 16 2), u.arbLevel (u.chxPost c (bits x.w0 16 2)), 0⟩] }).tagStat := by
  have hread' : u.quiet.firstRefused .chain .load ((bits x.w1 0 7 + 3) / 4) x.w2 = none :=
    (firstRefused_of_regs (s := u) (t := u.quiet) rfl _ _ _ _).trans hread
  have hstand' : u.quiet.isStandby = false := hstand
  unfold State.chxGo
  dsimp only
  rw [hread']
  dsimp only
  rw [if_pos hport, hstand', if_neg (by decide), if_neg hport, if_neg hone]
  rfl

end

/-- What chx needs of the chain engine and of the descriptor (R188). -/
structure ChxReady (s : State) (f : Fetch) (x : Desc) : Prop where
  enabled : s.flag CHN_CTRL.PORT_EN = true
  origin : s.flag CHN_STAT.ORIGIN = true
  gait : s.gait ≠ Gait.paddock
  standby : s.isStandby = false
  fields : (s.fetched f).chxBad x = false
  unicast : bits x.w0 8 6 ≠ 0x3F
  port : bits x.w0 16 2 ≠ 0
  payload : (s.fetched f).firstRefused .chain .load ((bits x.w1 0 7 + 3) / 4) x.w2 = none

/-- A unicast descriptor names port 1 or 2, or none. -/
theorem port_ne_both {u : State} {x : Desc} (h : u.chxBad x = false) (hcast : bits x.w0 8 6 ≠ 0x3F) :
    bits x.w0 16 2 ≠ 3 := by
  intro h3
  unfold State.chxBad at h
  simp only [Bool.or_eq_false_iff, h3, hcast] at h
  obtain ⟨⟨⟨⟨-, hport⟩, -⟩, -⟩, -⟩ := h
  exact absurd hport (by decide)

section
variable {s : State} {f : Fetch} {a : Reg} {ecc : Ecc} {k : Nat}

theorem exec_chx_accepted (h : IssueReady s f a ecc k) (hfirm : s.isApp f.core = false) (hpool : s.inFlight 0 < 192)
    {b : Reg} {x : Desc} (hx : s.descAt f.core a b = x) (hc : ChxReady s f x) (d : Reg) :
    exec (.chx f d a b ecc) s = .next ((s.issueTagged f d k 0).chxGo f.core x k) := by
  have howner : (s.fetched f).chxOwner f.core (s.descAt f.core a b) = .take fun t s => s.chxGo f.core x t := by
    rw [hx]
    refine Accept.check_take ?_ _
    rw [flag_of_regs (regs_fetched s f), flag_of_regs (regs_fetched s f), hc.enabled, hc.origin, hc.fields, State.gait,
      get_of_regs (regs_fetched s f), ← State.gait, decide_eq_false hc.gait]
    rfl
  rw [exec_chx, execChx, h.issue (by rw [hfirm]; rfl) (fun h => absurd h (by decide))
    (by rw [inFlight_fetched]; exact decide_eq_false (by show ¬ 192 ≤ s.inFlight 0; omega)) howner]
  rfl

theorem chxOf_issueTagged (c : Core) (x : Desc) (d : Reg) (j : Nat) :
    (s.issueTagged f d k 0).chxOf c x j = s.chxOf c x j := by
  unfold State.chxOf State.freeWire
  rw [issueTagged_chn, getBytes_of_mem (issueTagged_mem s f d k 0), get_of_regs (issueTagged_regs s f d k 0)]

/-- The chain engine, the arbiter and the core after an accepted unicast chx. -/
theorem chx_accepted_clauses {x : Desc} (hc : ChxReady s f x) (d : Reg) :
    ((s.issueTagged f d k 0).chxGo f.core x k).tag f.core k = .issued 0 ∧
      ((s.issueTagged f d k 0).chxGo f.core x k).chn.chx = s.chn.chx ++ [s.chxOf f.core x k] ∧
      ((s.issueTagged f d k 0).chxGo f.core x k).pad.requests = s.pad.requests ++
        [⟨s.chxPost f.core (bits x.w0 16 2), s.arbLevel (s.chxPost f.core (bits x.w0 16 2)), 0⟩] ∧
      (∀ r, ((s.issueTagged f d k 0).chxGo f.core x k).g f.core r = (s.issueTagged f d k 0).g f.core r) ∧
      ((s.issueTagged f d k 0).chxGo f.core x k).pc f.core = s.pc f.core + 4 := by
  have hregs := issueTagged_regs s f d k 0
  have hread : (s.issueTagged f d k 0).firstRefused .chain .load ((bits x.w1 0 7 + 3) / 4) x.w2 = none := by
    rw [firstRefused_of_regs (hregs.trans (regs_fetched s f).symm), hc.payload]
  have hgo := chxGo_unicast (c := f.core) k ((isStandby_of_regs hregs).trans hc.standby) hc.port
    (port_ne_both hc.fields hc.unicast) hread
  have hrest : ((s.issueTagged f d k 0).chxGo f.core x k).rest = (s.issueTagged f d k 0).rest := by
    rw [hgo, State.tagStat_rest]
    rfl
  refine ⟨?_, ?_, ?_, fun r => g_of_rest hrest _ r, ?_⟩
  · rw [State.tag, State.core_of_rest hrest, ← State.tag, issueTagged_tag]
  · rw [hgo, ← chxOf_issueTagged (s := s) (f := f) (k := k) f.core x d, ← issueTagged_chn s f d k 0]
    rfl
  · rw [hgo, ← chxPost_of_regs hregs, ← arbLevel_of_regs hregs, ← issueTagged_pad s f d k 0]
    rfl
  · rw [pc_of_rest hrest, issueTagged_pc]

/-! ### txf -/

theorem exec_txf_accepted (h : IssueReady s f a ecc k) (hfirm : s.isApp f.core = false)
    (hpool : s.inFlight 3 + s.inFlight 4 < 64) {b : Reg} {act : Nat → State → State}
    (howner : (s.fetched f).txfOwner f.core (s.descAt f.core a b) = .take act) (d : Reg) :
    exec (.txf f d a b ecc) s = .next (act k (s.issueTagged f d k 4)) := by
  rw [exec_txf, execTxf, h.issue (by rw [hfirm]; rfl) (fun h => absurd h (by decide))
    (by rw [inFlight_fetched, inFlight_fetched]; exact decide_eq_false (by show ¬ 64 ≤ s.inFlight 3 + s.inFlight 4; omega))
    howner]
  rfl

/-- The owner of a descriptor for CAN. -/
theorem txfOwner_can {v : State} {c : Core} {x : Desc} (htarget : bits x.w0 0 4 ≤ 1)
    (hgait : bits x.w0 0 4 = 0 ∨ v.gait ≠ Gait.paddock) (hbad : v.canTxfBad x = false) :
    v.txfOwner c x = .take fun t s => s.canTxf c x t := by
  unfold State.txfOwner
  dsimp only
  rw [if_pos htarget]
  refine Accept.check_take ?_ _
  rw [hbad, decide_eq_false (by omega)]
  rfl

theorem canTxf_request {u : State} {x : Desc} (hcopy : bit x.w0 16 = false) (hstand : u.isStandby = false) (c : Core)
    (k : Nat) : u.canTxf c x k = u.canRequest (bits x.w0 0 4) (bits x.w0 8 7) (some (c, k)) := by
  unfold State.canTxf
  dsimp only
  simp only [hcopy, hstand, Bool.false_eq_true, if_false, State.firstRefused]

theorem ethFlag_fetched (s : State) (f : Fetch) (q : Fld) : (s.fetched f).ethFlag q = s.ethFlag q := by
  unfold State.ethFlag State.ethGet
  rw [sameBut_fetched s f, State.setCore_eth]

/-- The owner of a descriptor for Ethernet. -/
theorem txfOwner_eth {v : State} {c : Core} {x : Desc} (htarget : bits x.w0 0 4 = 2 ∨ bits x.w0 0 4 = 3)
    (hen : v.ethFlag ETH_CTRL.P1EN = true) (hgait : v.gait ≠ Gait.paddock) (hbad : ethTxfBad x = false) :
    v.txfOwner c x = .take fun t s => s.ethTxf c x t := by
  unfold State.txfOwner
  dsimp only
  rw [if_neg (by omega), if_pos (by omega)]
  refine Accept.check_take ?_ _
  rw [hen, hbad, decide_eq_false hgait]
  rfl

theorem ethTxf_add {u : State} {x : Desc} (hread : u.firstRefused .dma .load ((bits x.w2 0 11 + 3) / 4) x.w1 = none)
    (hstand : u.isStandby = false) (c : Core) (k : Nat) :
    u.ethTxf c x k = u.ethQuiet.txAdd ⟨c, k, decide (bits x.w0 0 4 = 3), bit x.w0 16, x.w3, bits x.w2 16 16,
      u.getBytes x.w1 (bits x.w2 0 11)⟩ := by
  unfold State.ethTxf
  dsimp only
  rw [hread]
  dsimp only
  rw [hstand, if_neg (by decide)]

end

/-- Settles O20: past the checks of the issue each owner does its part over the state that has taken the tag. -/
theorem acceptedIssuesTakeTheTag : Obligations.AcceptedIssuesTakeTheTag := by
  unfold Obligations.AcceptedIssuesTakeTheTag
  intro lowest desc f d a b ecc s k hf ⟨hk, hfree, hlow⟩ hwin hdesc hecc
  have h : IssueReady s f a ecc k := ⟨hf, freeTag_eq_some hk hfree hlow, hdesc, hwin, hecc⟩
  have hregs := fun cls => issueTagged_regs s f d k cls
  intro x u v
  refine ⟨fun hr hb hpool hbad hw hread hlen => ?_, fun hr hpool hpow hbad hw hteams hindex => ?_,
    fun hr hfirm hb hpool hbad h1 => ?_,
    fun hfirm hpool hen horigin hgait hstand hbad hcast hport hread => ?_, fun hfirm hpool hstand =>
    ⟨fun htarget hgait hbad hcopy => ?_, fun htarget hen hgait hbad hread => ?_⟩⟩
  · subst hb
    exact exec_dma_accepted h hr hpool rfl hbad hw hread hlen d
  · refine ⟨_, _, exec_job_accepted h hr hpool rfl hpow hbad hw hteams hindex d, rfl, ?_, rfl, rfl, rfl, rfl, rfl, ?_,
      rfl, rfl⟩
    · obtain ⟨i, hi⟩ := Option.ne_none_iff_exists'.mp hindex
      rw [State.jobOf, freeIndex_of_herd (issueTagged_herd s f d k 1), hi]
      rfl
    · rw [State.jobOf, issueTagged_nowUs]
      rfl
  · subst hb
    refine ⟨_, _, exec_nvc_accepted h hr hfirm hpool rfl hbad h1 d, rfl, rfl, rfl, rfl, rfl, rfl⟩
  · have hc : ChxReady s f x := ⟨hen, horigin, hgait, hstand, hbad, hcast, hport, hread⟩
    obtain ⟨htag, hchx, hpad, hg, hpc⟩ := chx_accepted_clauses (k := k) hc d
    refine ⟨_, exec_chx_accepted h hfirm hpool rfl hc d, htag, hchx.trans ?_, hpad, hg, hpc⟩
    unfold State.chxOf
    simp only [x, desc, decide_eq_true_eq]
  · refine (exec_txf_accepted h hfirm hpool (txfOwner_can htarget ?_ hbad) d).trans ?_
    · rw [State.gait, get_of_regs (regs_fetched s f)]
      exact hgait
    · exact congrArg _ (canTxf_request hcopy ((isStandby_of_regs (hregs 4)).trans hstand) f.core k)
  · refine ⟨_, exec_txf_accepted h hfirm hpool (txfOwner_eth htarget ?_ ?_ hbad) d, ?_⟩
    · rw [ethFlag_fetched]
      exact hen
    · rw [State.gait, get_of_regs (regs_fetched s f)]
      exact hgait
    · refine (ethTxf_add ((firstRefused_of_regs ((hregs 4).trans (regs_fetched s f).symm) _ _ _ _).trans hread)
        ((isStandby_of_regs (hregs 4)).trans hstand) f.core k).trans ?_
      rw [getBytes_of_mem (issueTagged_mem s f d k 4)]
      rfl

end Sys2Proof.Machine
end

section
/-! SUPPORT. A DMA transfer word by word (R108): what it keeps of the cores, the channels and the mode; the words that it
moves between areas of shared SRAM; the end of an operation (R104, R109). -/

namespace Sys2Proof.Machine
open Sys2Proof Sys2Proof.Reg

/-! ### What the words of a transfer keep -/

/-- `t` has the cores, the DMA channels and the tandem mode of `s`. -/
structure State.steady (s t : State) : Prop where
  core : ∀ c, t.core c = s.core c
  dma : t.dma = s.dma
  tandem : t.tandem = s.tandem

theorem State.steady.refl (s : State) : s.steady s := ⟨fun _ => rfl, rfl, rfl⟩

theorem State.steady.trans {s t u : State} (h : s.steady t) (k : t.steady u) : s.steady u :=
  ⟨fun c => (k.core c).trans (h.core c), k.dma.trans h.dma, k.tandem.trans h.tandem⟩

theorem State.steady.tag {s t : State} (h : s.steady t) (c : Core) (k : Nat) : t.tag c k = s.tag c k := by
  unfold State.tag
  rw [h.core]

theorem tandem_of_regs {s t : State} (h : t.regs = s.regs) : t.tandem = s.tandem := flag_of_regs h _

theorem steady_set (s : State) {q : Fld} (v : Nat) (h : TDM_CTRL.EN.key ≠ q.key) : s.steady (s.set q v) := by
  refine ⟨fun c => State.core_of_rest (State.set_rest s q v) c, rfl, ?_⟩
  unfold State.tandem State.flag
  rw [get_set_ne s v h]

theorem steady_setWord (s : State) (a v : Nat) : s.steady (s.setWord a v) := by
  refine ⟨fun c => core_setWord s a v c, ?_, tandem_of_regs ?_⟩ <;>
  · rw [setWord_withMem]

theorem steady_recordRefusal (s : State) (m : Master) (k : Access) (kind a : Nat) :
    s.steady (s.recordRefusal m k kind a) := by
  unfold State.recordRefusal
  exact (((steady_set s _ (by decide)).trans (steady_set _ _ (by decide))).trans (steady_set _ _ (by decide))).trans
    (steady_set _ _ (by decide))

theorem raise_dma (s : State) (n : Nat) : (s.raise n).dma = s.dma := by
  unfold State.raise State.softEvt State.latchEvt
  split
  · rfl
  · split
    · rfl
    · split <;> rfl

theorem steady_raise (s : State) {n : Nat} (hn : n < 256) : s.steady (s.raise n) := by
  refine ⟨fun c => State.core_of_rest (State.raise_rest s n) c, raise_dma s n, ?_⟩
  unfold State.tandem State.flag
  rw [(keeps_raise (P := fun k => k = TDM_CTRL.EN.key) (by rintro k rfl; decide) s hn).get_eq _ rfl]

/-! ### Loads of a register -/

/-- The source that `eligible` names is pending. -/
theorem foldl_pickEvt_mem {s : State} {c : Core} (l : List Nat) : ∀ (best : Option (Nat × Nat)) (b : Nat × Nat),
    l.foldl (s.pickEvt c) best = some b → best = some b ∨ b.1 ∈ l := by
  induction l with
  | nil => exact fun _ _ h => .inl h
  | cons m l ih =>
    intro best b h
    rcases ih _ b h with h | h
    · unfold State.pickEvt at h
      dsimp only at h
      split at h
      · split at h
        · cases h
          exact .inr List.mem_cons_self
        · split at h
          · cases h
            exact .inr List.mem_cons_self
          · exact .inl h
      · exact .inl h
    · exact .inr (List.mem_cons_of_mem _ h)

theorem eligible_lt {s : State} {c : Core} {n q : Nat} (h : s.eligible c = some (n, q)) : n < 256 := by
  rw [eligible_eq] at h
  rcases foldl_pickEvt_mem _ _ _ h with h | h
  · cases h
  · exact (mem_pendingSources.mp h).1

theorem steady_claimEvt (s : State) (c : Core) : s.steady (s.claimEvt c).2 := by
  cases h : s.eligible c with
  | none =>
    rw [claimEvt_none h]
    exact .refl s
  | some b =>
    obtain ⟨n, q⟩ := b
    have hn := eligible_lt h
    rw [claimEvt_some h]
    exact (steady_set s _ (by
      simp only [Fld.key, TDM_CTRL.EN, EVT_PEND.BITS]
      omega)).trans ⟨fun _ => rfl, rfl, rfl⟩

theorem steady_loadAct {s : State} {a : Nat} {r : Nat × State} (h : s.loadAct a = some r) : s.steady r.2 := by
  unfold State.loadAct at h
  split_ifs at h
  · cases h; exact steady_claimEvt s .r0
  · cases h; exact steady_claimEvt s .r1
  · cases h; exact steady_claimEvt s .grm
  · cases h; exact ⟨fun _ => rfl, rfl, rfl⟩
  · cases h; exact ⟨fun _ => rfl, rfl, rfl⟩
  · cases h; exact ⟨fun _ => rfl, rfl, rfl⟩
  · cases h; exact ⟨fun _ => rfl, rfl, rfl⟩

theorem steady_regLoad (s : State) (c : Core) (a : Nat) : s.steady (s.regLoad c a).2 := by
  unfold State.regLoad
  split
  · exact .refl s
  · cases h : s.loadAct a with
    | none => exact .refl s
    | some r => exact steady_loadAct h

theorem steady_dmaLoad (s : State) (a : Nat) : s.steady (s.dmaLoad a).2 := by
  unfold State.dmaLoad
  split
  · exact steady_regLoad s .grm a
  · exact .refl s
  · exact .refl s

/-! ### Stores to memory -/

theorem dmaStore_memory {a : Nat} (h : region a ≠ .periph) (s : State) (j : DmaJob) (w : Nat) :
    s.dmaStore j a w = (true, s.setWord a w) := by
  unfold State.dmaStore
  split
  · contradiction
  · rfl

/-- A transfer to memory keeps the cores; it ends complete, or short of its length. -/
theorem dmaRun_memory (j : DmaJob) (n : Nat) : ∀ (s : State) (done : Nat),
    (∀ i < n, region (j.dst + done + 4 * i) ≠ .periph) →
    s.steady (s.dmaRun j n done).2.2 ∧
      (((s.dmaRun j n done).2.1 = true ∧ (s.dmaRun j n done).1 = done + 4 * n) ∨
        ((s.dmaRun j n done).2.1 = false ∧ (s.dmaRun j n done).1 < done + 4 * n)) := by
  induction n with
  | zero => exact fun s done _ => ⟨.refl s, .inl ⟨rfl, rfl⟩⟩
  | succ k ih =>
    intro s done hdst
    have hrefused : ∀ (u : State) (m : Master) (a : Access) (r x : Nat), s.steady u →
        s.steady ((u.recordRefusal m a r x).raise 6) := fun u m a r x hu =>
      (hu.trans (steady_recordRefusal u m a r x)).trans (steady_raise _ (by decide))
    rw [State.dmaRun]
    dsimp only
    split
    · exact ⟨hrefused s _ _ _ _ (.refl s), .inr ⟨rfl, by omega⟩⟩
    · split
      · exact ⟨hrefused s _ _ _ _ (.refl s), .inr ⟨rfl, by omega⟩⟩
      · have hload : s.steady (if j.fill = true then (j.src, s) else s.dmaLoad (j.src + done)).2 := by
          split
          · exact .refl s
          · exact steady_dmaLoad s _
        rw [dmaStore_memory (show region (j.dst + done) ≠ .periph from hdst 0 (by omega)), if_pos rfl]
        obtain ⟨hsteady, hend⟩ := ih ((if j.fill = true then (j.src, s) else s.dmaLoad (j.src + done)).2.setWord
          (j.dst + done) (if j.fill = true then (j.src, s) else s.dmaLoad (j.src + done)).1) (done + 4)
          fun i hi => by
            have := hdst (i + 1) (by omega)
            rwa [show j.dst + done + 4 * (i + 1) = j.dst + (done + 4) + 4 * i by omega] at this
        refine ⟨(hload.trans (steady_setWord _ _ _)).trans hsteady, ?_⟩
        rwa [show done + 4 * (k + 1) = done + 4 + 4 * k by omega]

/-! ### The end of an operation -/

theorem release_dma (s : State) (c : Core) (k w v : Nat) : (s.release c k w v).dma = s.dma := by
  have hrec : ∀ (u : State) (m : Master) (a : Access) (kind x : Nat), (u.recordRefusal m a kind x).dma = u.dma :=
    fun _ _ _ _ _ => rfl
  unfold State.release
  dsimp only
  split
  · rw [State.setCrstat_dma, State.setTag_dma]
  · split
    · rw [State.setCore_dma, setWord_withMem]
      dsimp only
      rw [setWord_withMem]
      dsimp only
      rw [State.setCr_dma, State.setTag_dma]
    · split
      · rw [hrec, State.setCrstat_dma, State.setCr_dma, State.setTag_dma]
      · rw [hrec]
        show ((((s.setTag c k (.done w v)).setCr c Cr.crwp _).setCrstat c Crstat.ringBad)).dma = s.dma
        rw [State.setCrstat_dma, State.setCr_dma, State.setTag_dma]

theorem complete_dma (s : State) (c : Core) (k info status val : Nat) :
    (s.complete c k info status val).dma = s.dma := by
  unfold State.complete
  split
  · split
    · exact State.setTag_dma _ _ _ _
    · exact release_dma _ _ _ _ _
  · rfl

/-- The tag of an operation that ends: held in tandem mode for a Rider, else DONE. -/
theorem tag_complete {s : State} {c : Core} {k cls : Nat} (h : s.tag c k = .issued cls) (info status val : Nat) :
    (s.complete c k info status val).tag c k =
      if s.tandem = true ∧ c ≠ .grm then .held (completionWord info status cls k) val
      else .done (completionWord info status cls k) val := by
  unfold State.complete
  rw [h]
  dsimp only
  split
  · exact tag_setTag_same _ _ _ _
  · obtain ⟨htag, -⟩ := tagDone_release s c k (completionWord info status cls k) val
    exact htag

/-- Bytes of the completion ring of core `c`. -/
def State.inRing (s : State) (c : Core) (a : Nat) : Prop :=
  (s.cr c Cr.crbase).toNat ≤ a ∧ a < (s.cr c Cr.crbase).toNat + 8 * ringSize c

/-- A release writes inside the ring. -/
theorem byte_release_outside {s : State} {c : Core} {a : Nat} (h : ¬ s.inRing c a) (k w v : Nat) :
    (s.release c k w v).byte a = s.byte a := by
  by_cases hf : s.ringFull c
  · rw [release_full hf]
    exact byte_of_mem (by rw [State.setCrstat_mem, State.setTag_mem]) a
  · by_cases hh : ringHome c (s.ringAt c)
    · have hpos : ringSize c = 256 ∨ ringSize c = 32 := by cases c <;> decide
      have hmod := Nat.mod_lt (s.cr c Cr.crwp).toNat (show 0 < ringSize c by omega)
      unfold State.inRing at h
      rw [release_home hf hh]
      refine (byte_of_mem (mem_entrySeen _ _) a).trans ?_
      rw [byte_setWord_outside _ _ (by unfold State.ringAt; omega), byte_setWord_outside _ _ (by unfold State.ringAt; omega)]
      exact byte_of_mem (mem_ringNext s c k w v) a
    · refine byte_of_mem ((State.mem_of_rest (release_away hf hh k w v)).trans ?_) a
      rw [State.setCrstat_mem, mem_ringNext]

theorem byte_complete_outside {s : State} {c : Core} {a : Nat} (h : ¬ s.inRing c a) (k info status val : Nat) :
    (s.complete c k info status val).byte a = s.byte a := by
  unfold State.complete
  split
  · split
    · exact byte_of_mem (State.setTag_mem _ _ _ _) a
    · exact byte_release_outside h _ _ _
  · rfl

theorem inRing_steady {s t : State} (h : s.steady t) (c : Core) (a : Nat) : t.inRing c a ↔ s.inRing c a := by
  unfold State.inRing State.cr
  rw [h.core]

end Sys2Proof.Machine
end

section
/-! PROOF. The end of a DMA transfer, and of a txf by its timeout (R108, R358, R382). -/

namespace Sys2Proof.Machine
open Sys2Proof Sys2Proof.Reg

/-! ### Words between areas of shared SRAM -/

theorem region_sram {a : Nat} (h : 0x20000000 ≤ a) (h' : a < 0x20400000) : region a = .sram := by
  unfold region
  rw [if_neg (by omega), if_neg (by omega), if_neg (by omega), if_neg (by omega), if_neg (by omega), if_neg (by omega),
    if_pos ⟨h, h'⟩]

theorem refusal_sram {a : Nat} (h : region a = .sram) (s : State) (m : Master) (app : Bool) (k : Access) (n : Nat) :
    s.refusal m app k n a = none := by
  unfold State.refusal
  simp [h, herdRegion, named]

/-- The state after `n` words of the transfer `j` from byte `done` on, where every one of them is moved. -/
structure State.moved (s t : State) (j : DmaJob) (n done : Nat) : Prop where
  steady : s.steady t
  words : ∀ k < n, t.word (j.dst + done + 4 * k) = if j.fill then j.src else s.word (j.src + done + 4 * k)
  bytes : ∀ a, a < j.dst + done ∨ j.dst + done + 4 * n ≤ a → t.byte a = s.byte a

theorem word_of_bytes {s t : State} {a : Nat} (h : ∀ i < 4, t.byte (a + i) = s.byte (a + i)) : t.word a = s.word a :=
  load_congr 4 t s a h

theorem dmaRun_sram {j : DmaJob} (hdst : 0x20000000 ≤ j.dst ∧ j.dst + j.len ≤ 0x20400000)
    (hsrc : j.fill = false → 0x20000000 ≤ j.src ∧ j.src + j.len ≤ 0x20400000)
    (happart : j.fill = false → j.src + j.len ≤ j.dst ∨ j.dst + j.len ≤ j.src) (hword : j.src < 2 ^ 32) (n : Nat) :
    ∀ (s : State) (done : Nat), done + 4 * n ≤ j.len →
      (s.dmaRun j n done).1 = done + 4 * n ∧ (s.dmaRun j n done).2.1 = true ∧
        s.moved (s.dmaRun j n done).2.2 j n done := by
  induction n with
  | zero =>
    exact fun s done _ => ⟨rfl, rfl, .refl s, fun _ h => absurd h (Nat.not_lt_zero _), fun _ _ => rfl⟩
  | succ n ih =>
    intro s done hle
    have hrdst : region (j.dst + done) = .sram := region_sram (by omega) (by omega)
    have hload : (if j.fill = true then none else s.refusal .dma false .load 4 (j.src + done)) = none := by
      cases hfill : j.fill with
      | true => rfl
      | false =>
        have := hsrc hfill
        exact refusal_sram (region_sram (by omega) (by omega)) _ _ _ _ _
    have hvalue : (if j.fill = true then (j.src, s) else s.dmaLoad (j.src + done)) =
        (if j.fill then j.src else s.word (j.src + done), s) := by
      cases hfill : j.fill with
      | true => rfl
      | false =>
        have := hsrc hfill
        simp only [Bool.false_eq_true, if_false, State.dmaLoad, region_sram (a := j.src + done) (by omega) (by omega)]
    have hstep : s.dmaRun j (n + 1) done =
        (s.setWord (j.dst + done) (if j.fill then j.src else s.word (j.src + done))).dmaRun j n (done + 4) := by
      rw [State.dmaRun]
      dsimp only
      rw [hload]
      dsimp only
      rw [refusal_sram hrdst]
      dsimp only
      rw [hvalue, dmaStore_memory (by rw [hrdst]; decide), if_pos rfl]
    have hlt : (if j.fill then j.src else s.word (j.src + done)) < 2 ^ 32 := by
      split
      · exact hword
      · exact word_lt s _
    obtain ⟨hdone, hok, hsteady, hwords, hbytes⟩ :=
      ih (s.setWord (j.dst + done) (if j.fill then j.src else s.word (j.src + done))) (done + 4) (by omega)
    rw [hstep]
    refine ⟨by omega, hok, (steady_setWord _ _ _).trans hsteady, fun k hk => ?_, fun a ha => ?_⟩
    · cases k with
      | zero =>
        refine (word_of_bytes fun i hi => hbytes _ (by omega)).trans ?_
        exact (word_setWord_same _ _ _).trans (Nat.mod_eq_of_lt hlt)
      | succ k =>
        have hk' := hwords k (by omega)
        rw [show j.dst + (done + 4) + 4 * k = j.dst + done + 4 * (k + 1) by omega] at hk'
        rw [hk', show j.src + (done + 4) + 4 * k = j.src + done + 4 * (k + 1) by omega]
        cases hfill : j.fill with
        | true => rfl
        | false =>
          have := hsrc hfill
          have := happart hfill
          exact word_of_bytes fun i hi => byte_setWord_outside _ _ (by omega)
    · exact (hbytes a (by omega)).trans (byte_setWord_outside _ _ (by omega))

/-! ### DMA_TRANSFER_DONE -/

/-- The state over which the transfer at the head of a channel runs: a corrected load of a Herd memory counted, the
transfer gone from the channel. -/
def State.dmaStart (s : State) (e : DmaEnd) (j : DmaJob) (rest : List DmaJob) : State :=
  (s.when (e.fixed && !j.fill && herdMemory (region j.src)) fun s => s.bump HRD_ECCCNT.COUNT 1).setDma e.chan.toNat rest

theorem exec_dmaTransferDone_busy {s : State} {e : DmaEnd} {j : DmaJob} {rest : List DmaJob}
    (h : s.dmaChan e.chan.toNat = j :: rest) :
    exec (.dmaTransferDone e) s = .next
      ((((s.dmaStart e j rest).dmaRun j (j.len / 4) 0).2.2).complete j.core j.tag 0
        (if ((s.dmaStart e j rest).dmaRun j (j.len / 4) 0).2.1 then 0 else 2)
        ((s.dmaStart e j rest).dmaRun j (j.len / 4) 0).1) := by
  rw [exec_dmaTransferDone, execDmaTransferDone, h]
  rfl

theorem core_setDma (s : State) (ch : Nat) (l : List DmaJob) (c : Core) : (s.setDma ch l).core c = s.core c := by
  cases c <;> rfl

section
variable (s : State) (e : DmaEnd) (j : DmaJob) (rest : List DmaJob)

theorem dmaStart_core (c : Core) : (s.dmaStart e j rest).core c = s.core c := by
  unfold State.dmaStart State.when
  rw [core_setDma]
  split
  · exact (steady_set s (q := HRD_ECCCNT.COUNT) _ (by decide)).core c
  · rfl

theorem dmaStart_tandem : (s.dmaStart e j rest).tandem = s.tandem := by
  unfold State.dmaStart State.when
  split
  · exact (steady_set s (q := HRD_ECCCNT.COUNT) _ (by decide)).tandem
  · rfl

theorem dmaStart_mem : (s.dmaStart e j rest).mem = s.mem := by
  unfold State.dmaStart State.when
  split <;> rfl

theorem dmaStart_chan : (s.dmaStart e j rest).dmaChan e.chan.toNat = rest := by
  unfold State.dmaStart State.dmaChan State.setDma
  exact mapGet_mapSet_same _ _ _ _

theorem dmaStart_fill (h : j.fill = true) : s.dmaStart e j rest = s.setDma e.chan.toNat rest := by
  unfold State.dmaStart State.when
  rw [h, Bool.not_true, Bool.and_false, Bool.false_and, if_neg (by decide)]

variable {s e j rest}

/-- The channel and the tag once the words of the transfer are done. -/
theorem dmaEnd_clauses {u : State} {cls : Nat} (hu : (s.dmaStart e j rest).steady u)
    (htag : s.tag j.core j.tag = .issued cls) (st v : Nat) :
    (u.complete j.core j.tag 0 st v).dmaChan e.chan.toNat = rest ∧
      (u.complete j.core j.tag 0 st v).tag j.core j.tag =
        (if s.tandem = true ∧ j.core ≠ .grm then .held (completionWord 0 st cls j.tag) v
        else .done (completionWord 0 st cls j.tag) v) ∧
      ∀ a, ¬ s.inRing j.core a → (u.complete j.core j.tag 0 st v).byte a = u.byte a := by
  have hcore : ∀ c, u.core c = s.core c := fun c => (hu.core c).trans (dmaStart_core s e j rest c)
  refine ⟨?_, ?_, fun a ha => byte_complete_outside ?_ _ _ _ _⟩
  · rw [State.dmaChan, complete_dma, hu.dma]
    exact dmaStart_chan s e j rest
  · rw [tag_complete (cls := cls) (by rw [State.tag, hcore]; exact htag), hu.tandem, dmaStart_tandem]
  · unfold State.inRing State.cr at ha ⊢
    rwa [hcore]

end

/-! ### TXF_TIMEOUT -/

section
variable {c : Core} {k : BitVec 8} {s : State}

theorem no_canTxf (hcan : ∀ e ∈ s.can.txf, e.2 ≠ some (c, k.toNat)) :
    (s.can.txf.find? fun e => decide (e.2 = some (c, k.toNat))) = none := by
  rw [List.find?_eq_none]
  exact fun e he => by simpa using hcan e he

theorem exec_txfTimeout_eth (hcan : ∀ e ∈ s.can.txf, e.2 ≠ some (c, k.toNat)) {e : EthTx}
    (h : s.eth.tx.find? (fun e => decide (e.core = c ∧ e.tag = k.toNat)) = some e) :
    exec (.txfTimeout c k) s = .next (s.txEnd e 4 0) := by
  simp only [exec_txfTimeout, execTxfTimeout, no_canTxf hcan, h]

theorem exec_txfTimeout_none (hcan : ∀ e ∈ s.can.txf, e.2 ≠ some (c, k.toNat))
    (h : s.eth.tx.find? (fun e => decide (e.core = c ∧ e.tag = k.toNat)) = none) :
    exec (.txfTimeout c k) s = .next s := by
  simp only [exec_txfTimeout, execTxfTimeout, no_canTxf hcan, h]

end

/-- Settles O24: the words of the transfer keep what its end reads, and the end is the completion. -/
theorem dmaTransfersMoveWords : Obligations.DmaTransfersMoveWords := by
  unfold Obligations.DmaTransfersMoveWords
  refine ⟨fun ch fx j rest cls s hch htandem htag hlen _ _ hdst hsrc hapart hword hring => ?_,
    fun ch fx j rest cls r s hch htandem htag hfill hlen href => ?_, fun ch fx j rest cls s hch htag hdst => ?_,
    fun ch fx s hch => ?_, fun c k s hcan => ⟨fun e cls hfind htandem htag => ?_, fun hno => ?_⟩⟩
  · obtain ⟨hdone, hok, hsteady, hwords, hbytes⟩ := dmaRun_sram hdst hsrc hapart hword (j.len / 4)
      (s.dmaStart ⟨ch, fx⟩ j rest) 0 (by omega)
    obtain ⟨hchan, hend, hout⟩ := dmaEnd_clauses hsteady htag 0 j.len
    have hmem := dmaStart_mem s ⟨ch, fx⟩ j rest
    have hexec := exec_dmaTransferDone_busy (e := ⟨ch, fx⟩) hch
    rw [hok, hdone, if_pos rfl, show 0 + 4 * (j.len / 4) = j.len by omega] at hexec
    refine ⟨_, hexec, hchan, fun k hk => ?_, fun a ha hna => ?_, ?_⟩
    · refine (word_of_bytes fun i hi => hout _ ?_).trans ((hwords k hk).trans ?_)
      · have := hring (4 * k + i) (by omega)
        rwa [← Nat.add_assoc] at this
      · rw [word_of_mem hmem]
        rfl
    · rw [hout a hna, hbytes a (by omega), byte_of_mem hmem]
    · rw [hend, htandem, if_neg (by simp)]
  · obtain ⟨n, hn⟩ : ∃ n, j.len / 4 = n + 1 := ⟨j.len / 4 - 1, by omega⟩
    have hrun : (s.dmaStart ⟨ch, fx⟩ j rest).dmaRun j (j.len / 4) 0 =
        (0, false, ((s.dmaStart ⟨ch, fx⟩ j rest).recordRefusal .dma .store r j.dst).raise 6) := by
      rw [hn, State.dmaRun, dmaStart_fill s ⟨ch, fx⟩ j rest hfill]
      dsimp only
      rw [hfill, if_pos rfl]
      dsimp only
      rw [refusal_of_regs (s := s) (t := s.setDma ch.toNat rest) rfl, Nat.add_zero, href]
    have hsteady := (steady_recordRefusal (s.dmaStart ⟨ch, fx⟩ j rest) .dma .store r j.dst).trans
      (steady_raise _ (show 6 < 256 by decide))
    obtain ⟨hchan, hend, hout⟩ := dmaEnd_clauses hsteady htag 2 0
    have hexec := exec_dmaTransferDone_busy (e := ⟨ch, fx⟩) hch
    rw [hrun] at hexec
    refine ⟨_, hexec, hchan, ?_, fun a hna => (hout a hna).trans (byte_of_mem ?_ a)⟩
    · refine hend.trans ?_
      rw [htandem, if_neg (by simp)]
    · rw [State.mem_of_rest (State.raise_rest _ _), State.recordRefusal_mem, dmaStart_mem]
  · obtain ⟨hsteady, hbytes⟩ := dmaRun_memory j (j.len / 4) (s.dmaStart ⟨ch, fx⟩ j rest) 0 fun i hi => by
      rw [Nat.add_zero]
      exact hdst _ (by omega)
    have hexec := exec_dmaTransferDone_busy (e := ⟨ch, fx⟩) hch
    obtain ⟨hchan, hend, -⟩ := dmaEnd_clauses hsteady htag
      (if ((s.dmaStart ⟨ch, fx⟩ j rest).dmaRun j (j.len / 4) 0).2.1 then 0 else 2)
      ((s.dmaStart ⟨ch, fx⟩ j rest).dmaRun j (j.len / 4) 0).1
    refine ⟨_, _, _, hexec, hchan, ?_, hend⟩
    rcases hbytes with ⟨hok, hv⟩ | ⟨hok, hv⟩
    · rw [hok]
      exact .inl ⟨rfl, by omega⟩
    · rw [hok]
      exact .inr ⟨rfl, by omega⟩
  · rw [exec_dmaTransferDone, execDmaTransferDone, hch]
  · have he := List.find?_some hfind
    rw [decide_eq_true_eq] at he
    obtain ⟨rfl, hk⟩ := he
    refine ⟨s.txEnd e 4 0, ?_, ?_⟩
    · exact exec_txfTimeout_eth hcan hfind
    · have htag' : (s.txDrop e.core e.tag).tag e.core e.tag = .issued cls := by
        rw [hk]
        exact htag
      rw [State.txEnd, ← hk, tag_complete htag', if_neg]
      · rfl
      · rw [show (s.txDrop e.core e.tag).tandem = s.tandem from rfl, htandem]
        simp
  · have hnone : (s.eth.tx.find? fun e => decide (e.core = c ∧ e.tag = k.toNat)) = none := by
      rw [List.find?_eq_none]
      intro e he h
      rw [decide_eq_true_eq] at h
      exact hno e he h.1 h.2
    exact exec_txfTimeout_none hcan hnone

end Sys2Proof.Machine
end


section
/-! SUPPORT. The Herd's queue: its registers, what a scheduler evaluation keeps, jobs by their index (R131, R134). -/

namespace Sys2Proof.Machine
open Sys2Proof Sys2Proof.Reg

/-! ### Registers of the queue -/

/-- Keys of the fields that a change of the queue may write. -/
def queueKeys : List Nat :=
  [HRD_QOCC0.OCC.key, HRD_QOCC1.OCC.key, HRD_TEAMBUSY.TEAMS.key, HRD_STAT.QCOUNT.key, HRD_STAT.RUNCOUNT.key,
    HRD_AUTOSTAT.BUSY.key]

theorem get_setJobs (s : State) (js : List Job) {q : Fld} (h : q.key ∉ queueKeys) : (s.setJobs js).get q = s.get q := by
  simp only [queueKeys, List.mem_cons, List.not_mem_nil, or_false, not_or] at h
  obtain ⟨h1, h2, h3, h4, h5, h6⟩ := h
  unfold State.setJobs State.herdRegs
  dsimp only
  rw [get_set_ne _ _ h6, get_set_ne _ _ h5, get_set_ne _ _ h4, get_set_ne _ _ h3, get_set_ne _ _ h2, get_set_ne _ _ h1]
  rfl

@[simp] theorem setJobs_herd (s : State) (js : List Job) : (s.setJobs js).herd = { s.herd with jobs := js } := by
  simp [State.setJobs, State.herdRegs]

@[simp] theorem setJobs_power (s : State) (js : List Job) : (s.setJobs js).power = s.power := by
  simp [State.setJobs, State.herdRegs]

theorem putJob_herd (s : State) (j : Job) :
    (s.putJob j).herd = { s.herd with jobs := s.herd.jobs.map fun k => if k.index = j.index then j else k } :=
  setJobs_herd _ _

theorem note_regs (s : State) (g : Bundle → Bundle) : (s.note g).regs = s.regs := by
  unfold State.note State.when
  split <;> rfl

@[simp] theorem note_herd (s : State) (g : Bundle → Bundle) : (s.note g).herd = s.herd := by
  unfold State.note State.when
  split <;> rfl

/-! ### What an evaluation keeps -/

/-- From `s` to `t` the memory, the scalar cores, the indices in use and every field but the queue's and the bucket
stand. -/
structure State.requeued (s t : State) : Prop where
  rest : t.rest = s.rest
  index : t.herd.jobs.map (·.index) = s.herd.jobs.map (·.index)
  get_eq : ∀ q : Fld, q.key ∉ THM_BUCKET.TOKENS.key :: queueKeys → t.get q = s.get q

namespace State.requeued

theorem refl (s : State) : s.requeued s := ⟨rfl, rfl, fun _ _ => rfl⟩

theorem trans {s t u : State} (h : s.requeued t) (k : t.requeued u) : s.requeued u :=
  ⟨k.rest.trans h.rest, k.index.trans h.index, fun q hq => (k.get_eq q hq).trans (h.get_eq q hq)⟩

theorem foldl {α : Type} {f : State → α → State} (hf : ∀ (s : State) (x : α), s.requeued (f s x)) (l : List α) :
    ∀ s : State, s.requeued (l.foldl f s) := by
  induction l with
  | nil => exact refl
  | cons x l ih => exact fun s => (hf s x).trans (ih _)

end State.requeued

theorem requeued_map (s : State) {f : Job → Job} (hf : ∀ j, (f j).index = j.index) :
    s.requeued (s.setJobs (s.herd.jobs.map f)) := by
  refine ⟨State.setJobs_rest _ _, ?_, fun q hq => get_setJobs s _ fun h => hq (List.mem_cons_of_mem _ h)⟩
  rw [setJobs_herd]
  dsimp only
  rw [List.map_map]
  exact List.map_congr_left fun j _ => hf j

theorem requeued_putJob (s : State) (j : Job) : s.requeued (s.putJob j) := by
  refine requeued_map s fun k => ?_
  split
  · exact Eq.symm ‹_›
  · rfl

theorem requeued_dispatch (s : State) (j : Job) : s.requeued (s.dispatch j) := by
  have hset : s.requeued (s.set THM_BUCKET.TOKENS (s.get THM_BUCKET.TOKENS - s.jobCost j.bucketClass j.teams)) :=
    ⟨State.set_rest _ _ _, rfl, fun q hq => get_set_ne _ _ fun e => hq (e ▸ List.mem_cons_self)⟩
  have hput := hset.trans (requeued_putJob _
    { j with phase := .loading, cells := s.cel.map.map fun e => (layLane e.2, e.1) })
  exact hput.trans ⟨State.note_rest _ _, congrArg (fun h => h.jobs.map (·.index)) (note_herd _ _),
    fun q _ => get_of_regs (note_regs _ _) q⟩

theorem requeued_evaluate (fuel : Nat) : ∀ s : State, s.requeued (s.evaluate fuel) := by
  induction fuel with
  | zero => exact State.requeued.refl
  | succ n ih =>
    intro s
    unfold State.evaluate
    dsimp only
    split
    · exact .refl s
    · split
      · exact (requeued_dispatch s _).trans (ih _)
      · refine .foldl (fun t k => ?_) _ _
        split
        · exact requeued_dispatch t k
        · exact .refl t

theorem requeued_markCandidates (s : State) : s.requeued s.markCandidates := by
  refine requeued_map s fun j => ?_
  split <;> rfl

theorem requeued_schedule (s : State) : s.requeued s.schedule := by
  unfold State.schedule
  split
  · exact .refl s
  · split
    · exact .refl s
    · dsimp only
      split
      · exact requeued_markCandidates s
      · exact (requeued_markCandidates s).trans (requeued_evaluate _ _)

/-! ### Jobs by their index -/

theorem jobAt_eq_none {s : State} {i : Nat} : s.jobAt i = none ↔ i ∉ s.herd.jobs.map (·.index) := by
  unfold State.jobAt
  rw [List.find?_eq_none, List.mem_map, not_exists]
  exact forall_congr' fun j => by rw [decide_eq_true_iff, not_and]

theorem State.requeued.jobAt_none {s t : State} (h : s.requeued t) {i : Nat} (hi : s.jobAt i = none) : t.jobAt i = none := by
  rw [jobAt_eq_none] at hi ⊢
  rwa [h.index]

theorem mem_of_jobAt {s : State} {i : Nat} {j : Job} (h : s.jobAt i = some j) : j ∈ s.herd.jobs ∧ j.index = i :=
  ⟨List.mem_of_find?_eq_some h, by simpa using List.find?_some h⟩

/-- A job that replaces the one of its index stands there. -/
theorem jobAt_putJob {s : State} {j : Job} (h : ∃ k ∈ s.herd.jobs, k.index = j.index) :
    (s.putJob j).jobAt j.index = some j := by
  unfold State.jobAt
  rw [putJob_herd]
  dsimp only
  obtain ⟨k, hk, hi⟩ := h
  generalize s.herd.jobs = l at hk
  induction l with
  | nil => exact absurd hk List.not_mem_nil
  | cons x l ih =>
    rw [List.map_cons]
    by_cases hx : x.index = j.index
    · rw [if_pos hx, List.find?_cons_of_pos (by simp)]
    · rw [if_neg hx, List.find?_cons_of_neg (by simpa using hx)]
      refine ih ((List.mem_cons.mp hk).resolve_left fun e => hx (e ▸ hi))

theorem runner_eq_some {s : State} {t : Nat} {j : Job} {r : TeamRun} : s.runner t = some (j, r) ↔
    s.herd.jobs.find? (fun j => j.phase = .running ∧ bit j.teams t = true ∧ s.pllGated Pll.core = false) = some j ∧
      j.runs.find? (fun r => r.team = t) = some r ∧ r.done = false ∧ r.wait = none := by
  unfold State.runner
  split
  · next hk =>
    rw [hk]
    simp
  · next k hk =>
    rw [hk, Option.some.injEq]
    split
    · next hr =>
      refine ⟨fun h => by simp at h, ?_⟩
      rintro ⟨rfl, h, -⟩
      rw [hr] at h
      simp at h
    · next q hq =>
      split
      · next hd =>
        refine ⟨fun h => by simp at h, ?_⟩
        rintro ⟨rfl, h, hdone, hwait⟩
        rw [hq, Option.some.injEq] at h
        subst h
        simp [hdone, hwait] at hd
      · next hd =>
        rw [not_or, not_not] at hd
        obtain ⟨hdone, hwait⟩ := hd
        refine ⟨fun h => ?_, ?_⟩
        · obtain ⟨rfl, rfl⟩ := Prod.mk.inj (Option.some.inj h)
          exact ⟨rfl, hq, Bool.eq_false_iff.mpr hdone, hwait⟩
        · rintro ⟨rfl, h, -⟩
          rw [hq, Option.some.injEq] at h
          rw [h]

/-- What a running team says of its job: it runs, holds an index, and its sequencer is the team's. -/
theorem of_runner {s : State} {t : Nat} {j : Job} {r : TeamRun} (h : s.runner t = some (j, r)) :
    j ∈ s.herd.jobs ∧ j.phase = .running ∧ r ∈ j.runs ∧ r.team = t ∧ r.done = false ∧ r.wait = none := by
  obtain ⟨hj, hr, hd, hw⟩ := runner_eq_some.mp h
  have hp := List.find?_some hj
  have ht := List.find?_some hr
  simp only [decide_eq_true_eq] at hp ht
  exact ⟨List.mem_of_find?_eq_some hj, hp.1, List.mem_of_find?_eq_some hr, ht, hd, hw⟩

theorem find?_map_replace {α : Type} {p : α → Bool} {l : List α} {x y : α} {c : α → Prop} [DecidablePred c]
    (hx : l.find? p = some x) (hc : c x) (hy : p y = true) :
    (l.map fun k => if c k then y else k).find? p = some y := by
  induction l with
  | nil => simp at hx
  | cons z l ih =>
    rw [List.map_cons]
    by_cases hz : p z = true
    · rw [List.find?_cons_of_pos hz, Option.some.injEq] at hx
      rw [hx, if_pos hc, List.find?_cons_of_pos hy]
    · rw [List.find?_cons_of_neg hz] at hx
      by_cases hcz : c z
      · rw [if_pos hcz, List.find?_cons_of_pos hy]
      · rw [if_neg hcz, List.find?_cons_of_neg hz]
        exact ih hx

/-- The sequencer of a running team takes another word. -/
theorem runner_putRun {s : State} {t : Nat} {j : Job} {r : TeamRun} (h : s.runner t = some (j, r)) (pc : Nat) :
    ∃ j', (s.putRun j { r with pc := pc }).runner t = some (j', { r with pc := pc }) := by
  obtain ⟨hj, hr, hd, hw⟩ := runner_eq_some.mp h
  have hp := List.find?_some hj
  have ht := List.find?_some hr
  have hgate : (s.putRun j { r with pc := pc }).pllGated Pll.core = s.pllGated Pll.core := by
    unfold State.pllGated State.putRun State.putJob
    rw [setJobs_power]
  refine ⟨{ j with runs := j.runs.map fun q => if q.team = r.team then { r with pc := pc } else q },
    runner_eq_some.mpr ⟨?_, ?_, hd, hw⟩⟩
  · rw [hgate]
    unfold State.putRun
    rw [putJob_herd]
    refine find?_map_replace (c := fun k => k.index = j.index) hj rfl ?_
    exact hp
  · refine find?_map_replace (c := fun q => q.team = r.team) hr rfl ?_
    exact ht

end Sys2Proof.Machine
end


section
/-! SUPPORT. The end of a core's job outside tandem mode: its index is free, its tag DONE (Table HRD-8). -/

namespace Sys2Proof.Machine
open Sys2Proof Sys2Proof.Reg

/-! ### A completion and the Herd -/

theorem release_herd (s : State) (c : Core) (k w v : Nat) : (s.release c k w v).herd = s.herd := by
  have hrec : ∀ (u : State) (m : Master) (a : Access) (kind x : Nat), (u.recordRefusal m a kind x).herd = u.herd :=
    fun _ _ _ _ _ => rfl
  unfold State.release
  dsimp only
  split
  · rw [State.setCrstat_herd, State.setTag_herd]
  · split
    · rw [State.setCore_herd, setWord_withMem]
      dsimp only
      rw [setWord_withMem]
      dsimp only
      rw [State.setCr_herd, State.setTag_herd]
    · split
      · rw [hrec, State.setCrstat_herd, State.setCr_herd, State.setTag_herd]
      · rw [hrec]
        show ((((s.setTag c k (.done w v)).setCr c Cr.crwp _).setCrstat c Crstat.ringBad)).herd = s.herd
        rw [State.setCrstat_herd, State.setCr_herd, State.setTag_herd]

theorem complete_herd (s : State) (c : Core) (k info status val : Nat) :
    (s.complete c k info status val).herd = s.herd := by
  unfold State.complete
  split
  · split
    · exact State.setTag_herd _ _ _ _
    · exact release_herd _ _ _ _ _
  · rfl

theorem raise_herd (s : State) (n : Nat) : (s.raise n).herd = s.herd := by
  unfold State.raise State.softEvt State.latchEvt
  split
  · rfl
  · split
    · rfl
    · split <;> rfl

/-- A field of a block above the event controller's stands through an assertion. -/
theorem get_raise_above (s : State) {n : Nat} (hn : n < 256) {q : Fld} (hq : 0x60030000 ≤ q.addr) :
    (s.raise n).get q = s.get q := by
  refine (keeps_raise (P := (· = q.key)) ?_ s hn).get_eq q rfl
  rintro _ rfl
  simp only [evtKey, Fld.key]
  omega

theorem get_recordRefusal_above (s : State) (m : Master) (k : Access) (kind a : Nat) {q : Fld}
    (hq : 0x60030000 ≤ q.addr) : (s.recordRefusal m k kind a).get q = s.get q := by
  have hne : ∀ f : Fld, f.addr < 0x60020000 → q.key ≠ f.key ∨ 32 ≤ f.lsb := by
    intro f hf
    simp only [Fld.key]
    omega
  have hset : ∀ (u : State) (f : Fld) (v : Nat), f.addr < 0x60020000 → f.lsb < 32 → (u.set f v).get q = u.get q :=
    fun u f v hf hl => get_set_ne u v ((hne f hf).resolve_right (by omega))
  unfold State.recordRefusal State.put
  rw [hset _ _ _ (by decide) (by decide), hset _ _ _ (by decide) (by decide), hset _ _ _ (by decide) (by decide),
    hset _ _ _ (by decide) (by decide)]

theorem get_setCore (s : State) (c : Core) (x : CoreSt) (q : Fld) : (s.setCore c x).get q = s.get q :=
  get_of_regs (State.setCore_regs s c x) q

theorem get_setWord (s : State) (a v : Nat) (q : Fld) : (s.setWord a v).get q = s.get q := by
  rw [setWord_withMem]
  rfl

theorem get_release_above (s : State) (c : Core) (k w v : Nat) {q : Fld} (hq : 0x60030000 ≤ q.addr) :
    (s.release c k w v).get q = s.get q := by
  have htag : (s.setTag c k (.done w v)).get q = s.get q := get_setCore s c _ q
  unfold State.release
  dsimp only
  split
  · exact (get_setCore _ c _ q).trans htag
  · split
    · rw [get_setCore, get_setWord, get_setWord]
      exact (get_setCore _ c _ q).trans htag
    · split
      · rw [get_recordRefusal_above _ _ _ _ _ hq]
        exact (get_setCore _ c _ q).trans ((get_setCore _ c _ q).trans htag)
      · rw [get_recordRefusal_above _ _ _ _ _ hq]
        exact (get_setCore _ c _ q).trans ((get_setCore _ c _ q).trans htag)

theorem get_complete_above (s : State) (c : Core) (k info status val : Nat) {q : Fld} (hq : 0x60030000 ≤ q.addr) :
    (s.complete c k info status val).get q = s.get q := by
  unfold State.complete
  split
  · split
    · exact get_setCore s c _ q
    · exact get_release_above s _ _ _ _ hq
  · rfl

/-! ### The end of a job -/

/-- From `s` to `t` the scalar cores, the jobs and every field of a block above the event controller's stand. -/
structure State.herdSame (s t : State) : Prop where
  core : ∀ c, t.core c = s.core c
  herd : t.herd = s.herd
  get_eq : ∀ q : Fld, 0x60030000 ≤ q.addr → t.get q = s.get q

namespace State.herdSame

theorem refl (s : State) : s.herdSame s := ⟨fun _ => rfl, rfl, fun _ _ => rfl⟩

theorem trans {s t u : State} (h : s.herdSame t) (k : t.herdSame u) : s.herdSame u :=
  ⟨fun c => (k.core c).trans (h.core c), k.herd.trans h.herd, fun q hq => (k.get_eq q hq).trans (h.get_eq q hq)⟩

end State.herdSame

theorem herdSame_raise (s : State) {n : Nat} (hn : n < 256) : s.herdSame (s.raise n) :=
  ⟨fun c => State.core_of_rest (State.raise_rest s n) c, raise_herd s n, fun _ hq => get_raise_above s hn hq⟩

theorem herdSame_setWord (s : State) (a v : Nat) : s.herdSame (s.setWord a v) :=
  ⟨core_setWord s a v, by rw [setWord_withMem], fun q _ => get_setWord s a v q⟩

theorem herdSame_writePublishes (ps : List Publish) : ∀ s : State, s.herdSame (s.writePublishes ps) := by
  unfold State.writePublishes
  induction ps with
  | nil => exact State.herdSame.refl
  | cons p ps ih => exact fun s => ((herdSame_setWord s _ _).trans (herdSame_setWord _ _ _)).trans (ih _)

theorem herdSame_draw (s : State) (w : Nat) : s.herdSame (s.draw w).2 := ⟨fun c => by cases c <;> rfl, rfl, fun _ _ => rfl⟩

theorem State.herdSame.tag {s t : State} (h : s.herdSame t) (c : Core) (k : Nat) : t.tag c k = s.tag c k := by
  unfold State.tag
  rw [h.core]

theorem State.herdSame.tandem_eq {s t : State} (h : s.herdSame t) : t.tandem = s.tandem := by
  unfold State.tandem State.flag
  rw [h.get_eq _ (by decide)]

/-- A core's job that is off the array ends by a completion, its value 0 or a free value. -/
theorem jobOutcome_eq {j : Job} {c : Core} {k : Nat} (h : j.owner = some (c, k)) (s : State) (status info : Nat) :
    ∃ (u : State) (v : Nat), s.herdSame u ∧ s.jobOutcome j status info = u.complete c k info status v := by
  unfold State.jobOutcome
  rw [h]
  dsimp only
  split
  · exact ⟨s, 0, .refl s, rfl⟩
  · exact ⟨(s.draw 32).2, (s.draw 32).1, herdSame_draw s 32, rfl⟩

/-- The job's publishes are written where it ends with STATUS 0. -/
def State.publishes (s : State) (j : Job) (status : Nat) : State := if status = 0 then s.writePublishes j.pubs else s

theorem herdSame_publishes (s : State) (j : Job) (status : Nat) : s.herdSame (s.publishes j status) := by
  unfold State.publishes
  split
  · exact herdSame_writePublishes _ s
  · exact .refl s

theorem endJob_eq {j : Job} (h : j.owner ≠ none) (s : State) (status info : Nat) :
    s.endJob j status info = ((s.publishes j status).dropJob j).jobOutcome j status info := by
  unfold State.endJob State.publishes
  dsimp only
  rw [if_neg fun hc => h hc.2]

theorem get_dropJob (s : State) (j : Job) {q : Fld} (hq : q.key ∉ queueKeys) : (s.dropJob j).get q = s.get q := by
  unfold State.dropJob
  dsimp only
  generalize (s.tandem && _) = gated
  cases gated
  · exact get_setJobs s _ hq
  · exact get_setJobs s _ hq

theorem dropJob_eq {s : State} (ht : s.tandem = false) (j : Job) :
    s.dropJob j = s.setJobs (s.herd.jobs.filter fun k => k.index ≠ j.index) := by
  unfold State.dropJob
  simp only [ht, Bool.false_and]
  rfl

/-- The end of a job that a core owns leaves every field above the event controller's but the queue's. -/
theorem get_endJob {j : Job} (h : j.owner ≠ none) (s : State) (status info : Nat) {q : Fld} (hq : 0x60030000 ≤ q.addr)
    (hk : q.key ∉ queueKeys) : (s.endJob j status info).get q = s.get q := by
  obtain ⟨⟨c, k⟩, hc⟩ := Option.ne_none_iff_exists'.mp h
  obtain ⟨u, v, hu, he⟩ := jobOutcome_eq hc ((s.publishes j status).dropJob j) status info
  rw [endJob_eq h, he, get_complete_above _ _ _ _ _ _ hq, hu.get_eq q hq, get_dropJob _ _ hk,
    (herdSame_publishes s j status).get_eq q hq]

/-- Outside tandem mode the end of a core's job frees its index and completes its tag. -/
theorem endJob_ends {s : State} {j : Job} {c : Core} {k cls : Nat} (ht : s.tandem = false) (h : j.owner = some (c, k))
    (hk : s.tag c k = .issued cls) (status info : Nat) :
    (s.endJob j status info).jobAt j.index = none ∧
      ∃ v, (s.endJob j status info).tag c k = .done (completionWord info status cls k) v := by
  have hpub := herdSame_publishes s j status
  have hdrop := dropJob_eq (hpub.tandem_eq.trans ht) j
  obtain ⟨u, v, hu, he⟩ := jobOutcome_eq h ((s.publishes j status).dropJob j) status info
  have htag : u.tag c k = .issued cls := by
    rw [hu.tag, hdrop]
    exact (tag_of_tags (congrArg (·.tags) (State.core_of_rest (State.setJobs_rest _ _) c)) k).trans
      ((hpub.tag c k).trans hk)
  have htan : u.tandem = false := by
    rw [hu.tandem_eq, ← ht, ← hpub.tandem_eq]
    unfold State.tandem State.flag
    rw [get_dropJob _ _ (by decide)]
  rw [endJob_eq (h ▸ Option.some_ne_none _), he]
  refine ⟨?_, v, ?_⟩
  · rw [jobAt_eq_none, complete_herd, hu.herd, hdrop, setJobs_herd]
    simp
  · rw [tag_complete htag, if_neg (by rw [htan]; simp)]

end Sys2Proof.Machine
end


section
/-! PROOF. Lane control words and job events (R113, R114, R125, R131, R134). -/

namespace Sys2Proof.Machine
open Sys2Proof Sys2Proof.Reg

/-! ### A lane word that reaches its effect -/

theorem laneEcc_herd (s : State) (e : Ecc) : (s.laneEcc e).herd = s.herd := by
  unfold State.laneEcc
  split <;> rfl

theorem laneEcc_power (s : State) (e : Ecc) : (s.laneEcc e).power = s.power := by
  unfold State.laneEcc
  split <;> rfl

theorem get_laneEcc (s : State) (e : Ecc) {q : Fld} (h : q.key ≠ HRD_ECCCNT.COUNT.key) : (s.laneEcc e).get q = s.get q := by
  unfold State.laneEcc
  split
  · exact get_set_ne s _ h
  · rfl

theorem runner_laneEcc (s : State) (e : Ecc) (t : Nat) : (s.laneEcc e).runner t = s.runner t := by
  unfold State.runner State.pllGated
  rw [laneEcc_herd, laneEcc_power]

theorem laneReg_of_herd {s t : State} (h : t.herd.v = s.herd.v) (l q : Nat) : t.laneReg l q = s.laneReg l q :=
  congrArg (fun v => mapGet 0 v (64 * l + q)) h

theorem laneGo_ready {s : State} {o : LaneOp} {j : Job} {r : TeamRun} (h : s.laneReady o j r) {legal : Bool}
    (hl : legal = true) (body : State → Job → TeamRun → State) : s.laneGo o legal body = body (s.laneEcc o.ecc) j r := by
  obtain ⟨hrun, hpc, hecc, hdef, hunp⟩ := h
  have hpred : (o.unp && (decide (o.pred ≠ 0) || o.neg)) = false := by
    cases hu : o.unp
    · rfl
    · obtain ⟨hp, hn⟩ := hunp hu
      simp [hp, hn]
  unfold State.laneGo
  rw [hrun]
  dsimp only
  rw [if_neg (by omega), if_neg hecc, hdef, hl, hpred]
  rfl

/-! ### BRA -/

/-- Is the branch taken? -/
def State.braTaken (s : State) (o : LaneOp) (team : Nat) : Prop :=
  o.unp = true ∨ (if o.m then ∀ l ∈ teamLanes team, (s.lanePreds l).testBit o.pred.toNat = !o.neg
    else ∃ l ∈ teamLanes team, (s.lanePreds l).testBit o.pred.toNat = !o.neg)

theorem governs_iff (s : State) (l pred : Nat) (neg : Bool) :
    s.governs l pred false neg = true ↔ (s.lanePreds l).testBit pred = !neg := by
  unfold State.governs bit
  cases (s.lanePreds l).testBit pred <;> cases neg <;> simp

theorem braTaken_iff (s : State) (o : LaneOp) (team : Nat) :
    (if o.unp then true
      else if o.m then (teamLanes team).all fun l => s.governs l o.pred.toNat false o.neg
      else (teamLanes team).any fun l => s.governs l o.pred.toNat false o.neg) = true ↔ s.braTaken o team := by
  unfold State.braTaken
  cases o.unp <;> cases o.m <;> simp [governs_iff]

/-- A branch only moves the sequencer of its team. -/
theorem laneBra_moves {s : State} {o : LaneOp} {off : BitVec 18} {j : Job} {r : TeamRun} (h : s.laneReady o j r) :
    ∃ t pc, exec (.laneBra o off) s = .next t ∧ t.mem = s.mem ∧ (∀ l q, t.laneReg l q = s.laneReg l q) ∧
      s.laneAt t o r pc ∧ (¬ s.braTaken o r.team → pc = r.pc + 1) ∧
      (s.braTaken o r.team → pc = branchTo r.pc off.toInt) := by
  have hexec := exec_laneBra o off s
  unfold execLaneBra at hexec
  rw [laneGo_ready h rfl] at hexec
  have hrun : (s.laneEcc o.ecc).runner o.team.toNat = some (j, r) := (runner_laneEcc s _ _).trans h.1
  have hgov : (s.laneEcc o.ecc).braTaken o r.team ↔ s.braTaken o r.team := by
    unfold State.braTaken State.lanePreds
    rw [laneEcc_herd]
  have hput : ∀ pc, ((s.laneEcc o.ecc).putRun j { r with pc := pc }).rest = s.rest := fun pc =>
    (State.putRun_rest _ _ _).trans (State.laneEcc_rest s _)
  have hreg : ∀ pc l q, ((s.laneEcc o.ecc).putRun j { r with pc := pc }).laneReg l q = s.laneReg l q := fun pc l q =>
    laneReg_of_herd ((congrArg (·.v) (putJob_herd _ _)).trans (congrArg (·.v) (laneEcc_herd s _))) l q
  have hat : ∀ pc, s.laneAt ((s.laneEcc o.ecc).putRun j { r with pc := pc }) o r pc := fun pc =>
    ⟨runner_putRun hrun pc, (State.sameRest_of_rest (hput pc)).2⟩
  dsimp only at hexec
  by_cases ht : s.braTaken o r.team
  · rw [if_pos ((braTaken_iff _ o r.team).mpr (hgov.mpr ht))] at hexec
    exact ⟨_, _, hexec, State.mem_of_rest (hput _), hreg _, hat _, (absurd ht ·), fun _ => rfl⟩
  · rw [if_neg fun hc => ht (hgov.mp ((braTaken_iff _ o r.team).mp hc))] at hexec
    exact ⟨_, _, hexec, State.mem_of_rest (hput _), hreg _, hat _, fun _ => rfl, (absurd · ht)⟩

/-! ### RET -/

/-- The job with its team returned. -/
def Job.returned (j : Job) (r : TeamRun) : Job :=
  { j with runs := j.runs.map fun q => if q.team = r.team then { r with done := true } else q }

theorem laneRet_judges {s : State} {o : LaneOp} {j : Job} {r : TeamRun} (h : s.laneReady o j r) (hunp : o.unp = true)
    (hm : o.m = false) :
    exec (.laneRet o 0 0 0) s = .next (((s.laneEcc o.ecc).putJob (j.returned r)).judgeTeams (j.returned r)) := by
  show execLaneRet o 0 0 0 s = _
  unfold execLaneRet
  rw [laneGo_ready h (by simp [hunp, hm])]
  rfl

theorem mem_returned {j : Job} {r q : TeamRun} : q ∈ (j.returned r).runs ↔
    ∃ p ∈ j.runs, (if p.team = r.team then { r with done := true } else p) = q := List.mem_map

/-- Every team has returned: the job ends with STATUS 0. -/
theorem judgeTeams_done {s : State} {j : Job} (h : ∀ q ∈ j.runs, q.done = true) :
    s.judgeTeams j = (s.endJob j 0 0).schedule := if_pos (List.all_eq_true.mpr h)

/-- A team still runs and none waits: nothing further happens. -/
theorem judgeTeams_running {s : State} {j : Job} (h : ∃ q ∈ j.runs, q.done = false) (hw : ∀ q ∈ j.runs, q.wait = none) :
    s.judgeTeams j = s := by
  obtain ⟨q, hq, hd⟩ := h
  have hwaits : j.runs.filterMap (·.wait) = [] := List.filterMap_eq_nil_iff.mpr hw
  unfold State.judgeTeams
  dsimp only
  rw [if_neg fun hall => absurd (List.all_eq_true.mp hall q hq) (by simp [hd]), hwaits]

theorem laneRet_last {s : State} {o : LaneOp} {j : Job} {r : TeamRun} {c : Core} {k cls : Nat} (h : s.laneReady o j r)
    (hunp : o.unp = true) (hm : o.m = false) (ht : s.tandem = false) (hown : j.owner = some (c, k))
    (hk : s.tag c k = .issued cls) (hall : ∀ q ∈ j.runs, q.team ≠ r.team → q.done = true) :
    ∃ t v, exec (.laneRet o 0 0 0) s = .next t ∧ t.jobAt j.index = none ∧
      t.tag c k = .done (completionWord 0 0 cls k) v := by
  have hrest : ((s.laneEcc o.ecc).putJob (j.returned r)).rest = s.rest :=
    (State.putJob_rest _ _).trans (State.laneEcc_rest s _)
  have htan : ((s.laneEcc o.ecc).putJob (j.returned r)).tandem = false := by
    rw [← ht]
    unfold State.tandem State.flag State.putJob
    rw [get_setJobs _ _ (by decide), get_laneEcc _ _ (by decide)]
  have htag : ((s.laneEcc o.ecc).putJob (j.returned r)).tag c k = .issued cls :=
    (tag_of_tags (congrArg (·.tags) (State.core_of_rest hrest c)) k).trans hk
  obtain ⟨hnone, v, hdone⟩ := endJob_ends (j := j.returned r) htan hown htag 0 0
  have hsched := requeued_schedule (((s.laneEcc o.ecc).putJob (j.returned r)).endJob (j.returned r) 0 0)
  refine ⟨_, v, laneRet_judges h hunp hm, ?_, ?_⟩
  all_goals rw [judgeTeams_done fun q hq => ?_]
  · exact hsched.jobAt_none hnone
  · obtain ⟨p, hp, rfl⟩ := mem_returned.mp hq
    split
    · rfl
    · exact hall p hp ‹_›
  · exact (tag_of_tags (congrArg (·.tags) (State.core_of_rest hsched.rest c)) k).trans hdone
  · obtain ⟨p, hp, rfl⟩ := mem_returned.mp hq
    split
    · rfl
    · exact hall p hp ‹_›

theorem laneRet_other {s : State} {o : LaneOp} {j : Job} {r : TeamRun} (h : s.laneReady o j r) (hunp : o.unp = true)
    (hm : o.m = false) (hrun : ∃ q ∈ j.runs, q.team ≠ r.team ∧ q.done = false)
    (hwait : ∀ q ∈ j.runs, q.team ≠ r.team → q.wait = none) :
    ∃ t j', exec (.laneRet o 0 0 0) s = .next t ∧ t.jobAt j.index = some j' ∧
      j'.runs = j.runs.map (fun q => if q.team = r.team then { r with done := true } else q) := by
  obtain ⟨hmem, -, -, -, -, hw⟩ := of_runner h.1
  refine ⟨_, j.returned r, laneRet_judges h hunp hm, ?_, rfl⟩
  rw [judgeTeams_running]
  · exact jobAt_putJob (j := j.returned r) ⟨j, by rwa [laneEcc_herd], rfl⟩
  · obtain ⟨q, hq, hne, hd⟩ := hrun
    exact ⟨q, mem_returned.mpr ⟨q, hq, if_neg hne⟩, hd⟩
  · intro q hq
    obtain ⟨p, hp, rfl⟩ := mem_returned.mp hq
    split
    · exact hw
    · exact hwait p hp ‹_›

/-! ### A word that is no lane word -/

theorem laneUndefined_of_raw {o : LaneOp} {w : Word} (h : o.raw = some w) (hbad : w.toNat / 2 ^ 30 ≠ 3 ∨
    w.toNat / 2 ^ 24 % 64 ∈ [0x1B, 0x1C, 0x1D, 0x1E, 0x1F, 0x2D, 0x2E, 0x2F, 0x35, 0x36, 0x37]) :
    laneUndefined o = true := by
  have hlt := w.isLt
  unfold laneUndefined
  rw [h, Bool.or_eq_true, decide_eq_true_iff, List.contains_iff_mem]
  refine hbad.imp (fun hc => ?_) fun hmem => hmem
  rwa [bits, Nat.mod_eq_of_lt (by omega)]

/-- A lane fault but of kind 6 of a core's job shows in HRD_FLTINFO and HRD_TEAMFLT. -/
theorem laneFault_shows {s : State} {j : Job} (hown : j.owner ≠ none) (team : BitVec 5) (pc lane : Nat) {kind : Nat}
    (hkind : kind ≠ 6) (hlt : kind < 16) : let t := s.laneFault j team.toNat pc lane kind
    t.get HRD_FLTINFO.TEAM = team.toNat ∧ t.get HRD_FLTINFO.PC = pc % 2 ^ 11 ∧ t.get HRD_FLTINFO.KIND = kind ∧
      t.bitOf HRD_TEAMFLT.TEAMS team.toNat = true := by
  have hteam := team.isLt
  intro t
  have hget : ∀ q : Fld, 0x60030000 ≤ q.addr → q.key ∉ THM_BUCKET.TOKENS.key :: queueKeys → t.get q =
      ((((((s.setBitOf HRD_TEAMFLT.TEAMS team.toNat).raise (80 + team.toNat)).set HRD_FLTINFO.PC pc).set HRD_FLTINFO.TEAM
        team.toNat).set HRD_FLTINFO.KIND kind).set HRD_FLTINFO.LANE lane).get q := by
    intro q hq hk
    unfold t State.laneFault
    dsimp only
    rw [if_neg hkind, (requeued_schedule _).get_eq q hk, get_endJob hown _ _ _ hq fun h => hk (List.mem_cons_of_mem _ h)]
  refine ⟨?_, ?_, ?_, ?_⟩
  · rw [hget _ (by decide) (by decide), get_set_ne _ _ (by decide), get_set_ne _ _ (by decide), get_set_same]
    exact Nat.mod_eq_of_lt hteam
  · rw [hget _ (by decide) (by decide), get_set_ne _ _ (by decide), get_set_ne _ _ (by decide),
      get_set_ne _ _ (by decide), get_set_same]
    rfl
  · rw [hget _ (by decide) (by decide), get_set_ne _ _ (by decide), get_set_same]
    exact Nat.mod_eq_of_lt hlt
  · unfold State.bitOf
    rw [hget _ (by decide) (by decide), get_set_ne _ _ (by decide), get_set_ne _ _ (by decide),
      get_set_ne _ _ (by decide), get_set_ne _ _ (by decide), get_raise_above _ (by omega) (by decide)]
    unfold State.setBitOf
    rw [get_set_same]
    show (setBit (s.get HRD_TEAMFLT.TEAMS) team.toNat % 2 ^ 32).testBit team.toNat = true
    rw [Nat.testBit_mod_two_pow, testBit_setBit, decide_eq_true (by omega), decide_eq_true rfl, Bool.or_true]
    rfl

theorem laneUndefined_faults {o : LaneOp} {off : BitVec 18} {j : Job} {r : TeamRun} {s : State}
    (hrun : s.runner o.team.toNat = some (j, r)) (hpc : r.pc < j.plen) (hecc : o.ecc ≠ .uncorrectable)
    (hbad : laneUndefined o = true) :
    exec (.laneBra o off) s = .next ((s.laneEcc o.ecc).laneFault j o.team.toNat r.pc 0 1) := by
  obtain ⟨-, -, -, hteam, -⟩ := of_runner hrun
  show execLaneBra o off s = _
  unfold execLaneBra State.laneGo
  rw [hrun]
  dsimp only
  rw [if_neg (by omega), if_neg hecc, hbad, hteam]
  rfl

end Sys2Proof.Machine
end


section
/-! SUPPORT. The lane state that a job starts with (R113). -/

namespace Sys2Proof.Machine
open Sys2Proof Sys2Proof.Reg

/-! ### One write to a lane -/

theorem laneReg_setLane_same (s : State) (l q v : Nat) : (s.setLane l q v).laneReg l q = v % 2 ^ 32 :=
  mapGet_mapSet_same 0 s.herd.v _ _

theorem laneReg_setLane_ne (s : State) {l q m p : Nat} (v : Nat) (h : 64 * m + p ≠ 64 * l + q) :
    (s.setLane l q v).laneReg m p = s.laneReg m p := mapGet_mapSet_ne 0 0 s.herd.v _ h

theorem lanePreds_setLane (s : State) (l q v m : Nat) : (s.setLane l q v).lanePreds m = s.lanePreds m := rfl

theorem laneReg_setPred (s : State) (l p : Nat) (v : Bool) (m q : Nat) : (s.setPred l p v).laneReg m q = s.laneReg m q := rfl

theorem lanePreds_setPred_same (s : State) (l p : Nat) (v : Bool) :
    (s.setPred l p v).lanePreds l = putBit (s.lanePreds l) p v := mapGet_mapSet_same 0 s.herd.p _ _

theorem lanePreds_setPred_ne (s : State) {l m : Nat} (p : Nat) (v : Bool) (h : m ≠ l) :
    (s.setPred l p v).lanePreds m = s.lanePreds m := mapGet_mapSet_ne 0 0 s.herd.p _ h

/-! ### A whole lane -/

/-- The cell that lane `l` of a job serves. -/
def Job.cellOf (j : Job) (l : Nat) : Option Nat := (j.cells.find? fun e => e.1 = l).map (·.2)

/-- Lane `l` takes the state of R113. -/
def State.initLane (s : State) (j : Job) (l : Nat) : State :=
  ((((s.setLane l 0 l).setLane l 1 ((j.cellOf l).getD 0xFFFFFFFF)).setLane l 2 j.arg).setLane l 3 j.sweep).when
    (j.cellOf l).isSome fun s => s.setPred l 0 true

/-- The lanes of a job's teams with every register and predicate 0. -/
def State.cleanLanes (s : State) (j : Job) : State :=
  s.mapHerd fun x => { x with
    v := x.v.filter fun e => !(bit j.teams (e.1 / 1024))
    p := x.p.filter fun e => !(bit j.teams (e.1 / 16)) }

theorem initLanes_eq (s : State) (j : Job) :
    s.initLanes j = j.lanes.foldl (fun (s : State) l => s.initLane j l) (s.cleanLanes j) := rfl

/-- What R113 gives to registers 0 to 3 of lane `l`. -/
def Job.startReg (j : Job) (l q : Nat) : Nat :=
  (match q with
    | 0 => l
    | 1 => (j.cellOf l).getD 0xFFFFFFFF
    | 2 => j.arg
    | _ => j.sweep) % 2 ^ 32

theorem laneReg_initLane (s : State) (j : Job) (l m : Nat) {q : Nat} (hq : q < 64) :
    (s.initLane j l).laneReg m q = if m = l ∧ q < 4 then j.startReg l q else s.laneReg m q := by
  have hpred : ∀ u : State, (u.when (j.cellOf l).isSome fun s => s.setPred l 0 true).laneReg m q = u.laneReg m q := by
    intro u
    unfold State.when
    split <;> rfl
  unfold State.initLane
  rw [hpred]
  split
  case isTrue h =>
    obtain ⟨rfl, hlt⟩ := h
    match q, hlt with
    | 0, _ => rw [laneReg_setLane_ne _ _ (by omega), laneReg_setLane_ne _ _ (by omega), laneReg_setLane_ne _ _ (by omega)]
              exact laneReg_setLane_same _ _ _ _
    | 1, _ => rw [laneReg_setLane_ne _ _ (by omega), laneReg_setLane_ne _ _ (by omega)]
              exact laneReg_setLane_same _ _ _ _
    | 2, _ => rw [laneReg_setLane_ne _ _ (by omega)]
              exact laneReg_setLane_same _ _ _ _
    | 3, _ => exact laneReg_setLane_same _ _ _ _
  case isFalse h =>
    rw [laneReg_setLane_ne _ _ (by omega), laneReg_setLane_ne _ _ (by omega), laneReg_setLane_ne _ _ (by omega),
      laneReg_setLane_ne _ _ (by omega)]

theorem lanePreds_initLane (s : State) (j : Job) (l m : Nat) : (s.initLane j l).lanePreds m =
    if m = l ∧ (j.cellOf l).isSome = true then setBit (s.lanePreds m) 0 else s.lanePreds m := by
  unfold State.initLane State.when
  by_cases hc : (j.cellOf l).isSome = true
  · rw [if_pos hc]
    by_cases hm : m = l
    · subst hm
      rw [if_pos ⟨rfl, hc⟩, lanePreds_setPred_same]
      simp only [lanePreds_setLane]
      rfl
    · rw [if_neg fun h => hm h.1, lanePreds_setPred_ne _ _ _ hm]
      simp only [lanePreds_setLane]
  · rw [if_neg hc, if_neg fun h => hc h.2]
    simp only [lanePreds_setLane]

/-! ### All lanes of a job -/

/-- A fold that keeps a property of the values seen so far, and sets what is seen at `x`, leaves it set. -/
theorem foldl_settles {σ α β : Type} {f : σ → α → σ} (obs : σ → β) (I : β → Prop) {v : β} (hv : I v) {x : α}
    (hset : ∀ s, I (obs s) → obs (f s x) = v) (hne : ∀ s y, y ≠ x → obs (f s y) = obs s) [DecidableEq α] :
    ∀ (l : List α) (s : σ), I (obs s) → I (obs (l.foldl f s)) ∧ ((x ∈ l ∨ obs s = v) → obs (l.foldl f s) = v) := by
  intro l
  induction l with
  | nil => exact fun s hs => ⟨hs, fun h => h.resolve_left List.not_mem_nil⟩
  | cons y l ih =>
    intro s hs
    rw [List.foldl_cons]
    by_cases hy : y = x
    · have hobs : obs (f s y) = v := hy ▸ hset s hs
      obtain ⟨hI, hend⟩ := ih (f s y) (hobs ▸ hv)
      exact ⟨hI, fun _ => hend (.inr hobs)⟩
    · obtain ⟨hI, hend⟩ := ih (f s y) (hne s y hy ▸ hs)
      refine ⟨hI, fun h => hend ?_⟩
      rw [hne s y hy]
      exact h.imp_left fun hm => (List.mem_cons.mp hm).resolve_left (Ne.symm hy)

theorem mem_lanes {j : Job} {l : Nat} (h : l ∈ j.lanes) : bit j.teams (l / 16) = true := by
  unfold Job.lanes teamLanes at h
  simp only [List.mem_flatMap, List.mem_filter, List.mem_map, List.mem_range] at h
  obtain ⟨t, ⟨-, ht⟩, i, hi, rfl⟩ := h
  rwa [show (16 * t + i) / 16 = t by omega]

theorem mapGet_of_no_key {α : Type} (d : α) {m : List (Nat × α)} {k : Nat} (h : ∀ e ∈ m, e.1 ≠ k) : mapGet d m k = d := by
  induction m with
  | nil => rfl
  | cons e m ih =>
    obtain ⟨he, hm⟩ := List.forall_mem_cons.mp h
    rw [mapGet, if_neg he, ih hm]

theorem laneReg_cleanLanes (s : State) {j : Job} {l q : Nat} (h : bit j.teams (l / 16) = true) (hq : q < 64) :
    (s.cleanLanes j).laneReg l q = 0 := by
  have hkey : (64 * l + q) / 1024 = l / 16 := by omega
  refine mapGet_of_no_key _ fun e he hk => ?_
  have := List.of_mem_filter he
  rw [hk, hkey, h] at this
  exact absurd this (by simp)

theorem lanePreds_cleanLanes (s : State) {j : Job} {l : Nat} (h : bit j.teams (l / 16) = true) :
    (s.cleanLanes j).lanePreds l = 0 := by
  refine mapGet_of_no_key _ fun e he hk => ?_
  have := List.of_mem_filter he
  rw [hk, h] at this
  exact absurd this (by simp)

theorem laneReg_initLanes_low (s : State) {j : Job} {l q : Nat} (h : l ∈ j.lanes) (hq : q < 4) :
    (s.initLanes j).laneReg l q = j.startReg l q := by
  rw [initLanes_eq]
  refine (foldl_settles (fun s : State => s.laneReg l q) (fun _ => True) trivial (x := l) (fun t _ => ?_) (fun t m hm => ?_)
    j.lanes _ trivial).2 (.inl h)
  · rw [laneReg_initLane t j l l (by omega), if_pos ⟨rfl, hq⟩]
  · rw [laneReg_initLane t j m l (by omega), if_neg fun hc => hm hc.1.symm]

theorem laneReg_initLanes_high (s : State) {j : Job} {l q : Nat} (h : l ∈ j.lanes) (hq : 4 ≤ q) (hlt : q < 64) :
    (s.initLanes j).laneReg l q = 0 := by
  rw [initLanes_eq]
  refine (foldl_settles (fun s : State => s.laneReg l q) (· = 0) rfl (x := l) (fun t ht => ?_) (fun t m hm => ?_)
    j.lanes _ (laneReg_cleanLanes s (mem_lanes h) hlt)).2 (.inl h)
  · rw [laneReg_initLane t j l l hlt, if_neg (by omega), ht]
  · rw [laneReg_initLane t j m l hlt, if_neg (by omega)]

theorem lanePreds_initLanes (s : State) {j : Job} {l : Nat} (h : l ∈ j.lanes) :
    (s.initLanes j).lanePreds l = if j.cellOf l = none then 0 else 1 := by
  have hclean := lanePreds_cleanLanes s (mem_lanes h)
  rw [initLanes_eq]
  refine (foldl_settles (fun s : State => s.lanePreds l) (fun v => v = 0 ∨ v = if j.cellOf l = none then 0 else 1)
    (.inr rfl) (x := l) (fun t ht => ?_) (fun t m hm => ?_) j.lanes _ (.inl hclean)).2 (.inl h)
  · rw [lanePreds_initLane]
    cases hc : j.cellOf l with
    | none =>
      rw [hc] at ht
      rw [if_neg (by simp)]
      exact ht.elim id id
    | some v =>
      rw [hc, if_neg (by simp)] at ht
      rw [if_pos ⟨rfl, rfl⟩, if_neg (by simp)]
      rcases ht with ht | ht <;> rw [ht] <;> rfl
  · rw [lanePreds_initLane, if_neg fun hc => hm hc.1.symm]

theorem initLanes_jobs (s : State) (j : Job) : (s.initLanes j).herd.jobs = s.herd.jobs := by
  have hone : ∀ (u : State) l, (u.initLane j l).herd.jobs = u.herd.jobs := by
    intro u l
    unfold State.initLane State.when
    split <;> rfl
  rw [initLanes_eq]
  have hfold : ∀ (ls : List Nat) (u : State), (ls.foldl (fun (s : State) l => s.initLane j l) u).herd.jobs = u.herd.jobs := by
    intro ls
    induction ls with
    | nil => exact fun _ => rfl
    | cons l ls ih => exact fun u => (ih _).trans (hone u l)
  exact hfold _ _

end Sys2Proof.Machine
end


section
/-! PROOF. Lane control words, job events and the scheduler (R113, R114, R125, R131, R134). -/

namespace Sys2Proof.Machine
open Sys2Proof Sys2Proof.Reg

/-! ### JOB_PROGRAM_LOADED -/

/-- The job with its teams at word 0. -/
def Job.started (j : Job) : Job :=
  { j with phase := .running,
           runs := ((List.range 32).filter fun t => bit j.teams t).map fun t => ⟨t, 0, none, false⟩ }

theorem exec_jobProgramLoaded_starts {i : BitVec 6} {j : Job} {ecc : Ecc} {s : State} (hj : s.jobAt i.toNat = some j)
    (hphase : j.phase = .loading) (hgate : s.pllGated Pll.core = false) (hecc : ecc ≠ .uncorrectable) :
    exec (.jobProgramLoaded i ecc) s =
      .next (((if region j.prog = .herdMem then s.laneEcc ecc else s).initLanes j).putJob j.started) := by
  rw [exec_jobProgramLoaded, execJobProgramLoaded, hj]
  dsimp only
  rw [if_neg (by simp [hphase, hgate]), if_neg hecc]
  rfl

theorem jobProgramLoaded_clause {i : BitVec 6} {j : Job} {ecc : Ecc} {s : State} (hj : s.jobAt i.toNat = some j)
    (hphase : j.phase = .loading) (hgate : s.pllGated Pll.core = false) (hecc : ecc ≠ .uncorrectable) :
    ∃ t, exec (.jobProgramLoaded i ecc) s = .next t ∧ t.jobAt i.toNat = some j.started ∧ t.mem = s.mem ∧
      ∀ l ∈ j.lanes, (∀ q < 4, t.laneReg l q = j.startReg l q) ∧ (∀ q, 4 ≤ q → q < 64 → t.laneReg l q = 0) ∧
        t.lanePreds l = if j.cellOf l = none then 0 else 1 := by
  obtain ⟨hmem, hi⟩ := mem_of_jobAt hj
  refine ⟨_, exec_jobProgramLoaded_starts hj hphase hgate hecc, ?_, ?_, fun l hl => ⟨fun q hq => ?_, fun q hq hlt => ?_, ?_⟩⟩
  · rw [← hi]
    refine jobAt_putJob (j := j.started) ⟨j, ?_, rfl⟩
    rw [initLanes_jobs]
    split
    · rwa [laneEcc_herd]
    · exact hmem
  · refine State.mem_of_rest ((State.putJob_rest _ _).trans ((State.initLanes_rest _ _).trans ?_))
    split
    · exact State.laneEcc_rest s ecc
    · rfl
  · exact (laneReg_of_herd (congrArg (·.v) (putJob_herd _ _)) l q).trans (laneReg_initLanes_low _ hl hq)
  · exact (laneReg_of_herd (congrArg (·.v) (putJob_herd _ _)) l q).trans (laneReg_initLanes_high _ hl hq hlt)
  · exact (congrArg (fun x : HerdSt => mapGet 0 x.p l) (putJob_herd _ _)).trans (lanePreds_initLanes _ hl)

/-- Every team of a started job stands at word 0. -/
theorem mem_started {j : Job} {q : TeamRun} (h : q ∈ j.started.runs) : q.pc = 0 ∧ q.wait = none ∧ q.done = false := by
  obtain ⟨t, -, rfl⟩ := List.mem_map.mp h
  exact ⟨rfl, rfl, rfl⟩

/-! ### JOB_DEADLINE_MISS -/

/-- A missed deadline counted and its sources raised. -/
def State.missed (s : State) (j : Job) : State :=
  ((s.bump HRD_MISSCNT.COUNT 1).raise 112).when
    (decide (j.phase = .queued) && decide (j.ecls < 15) && !j.candidate) fun s => s.raise 13

theorem exec_jobDeadlineMiss_ends {i : BitVec 6} {j : Job} {s : State} (hj : s.jobAt i.toNat = some j)
    (hphase : j.phase ≠ .ended) (ht : s.tandem = false) :
    exec (.jobDeadlineMiss i) s = .next ((((s.missed j).endJob j 4 0).note fun b =>
      { b with stopped := b.stopped ++ [(j.index, 4)] }).schedule) := by
  rw [exec_jobDeadlineMiss, execJobDeadlineMiss, hj]
  dsimp only
  rw [if_neg (by simp [hphase, State.isStandby, ht])]
  rfl

theorem missed_get (s : State) (j : Job) {q : Fld} (hq : 0x60030000 ≤ q.addr) :
    (s.missed j).get q = (s.bump HRD_MISSCNT.COUNT 1).get q := by
  unfold State.missed State.when
  split
  · rw [get_raise_above _ (by decide) hq, get_raise_above _ (by decide) hq]
  · rw [get_raise_above _ (by decide) hq]

theorem missed_core (s : State) (j : Job) (c : Core) : (s.missed j).core c = s.core c := by
  refine State.core_of_rest ?_ c
  unfold State.missed State.when
  split
  · rw [State.raise_rest, State.raise_rest, State.bump_rest]
  · rw [State.raise_rest, State.bump_rest]

theorem jobDeadlineMiss_clause {i : BitVec 6} {j : Job} {c : Core} {k cls : Nat} {s : State}
    (hj : s.jobAt i.toNat = some j) (hphase : j.phase ≠ .ended) (ht : s.tandem = false) (hown : j.owner = some (c, k))
    (hk : s.tag c k = .issued cls) :
    ∃ t v, exec (.jobDeadlineMiss i) s = .next t ∧ t.jobAt i.toNat = none ∧
      t.tag c k = .done (completionWord 0 4 cls k) v ∧
      t.get HRD_MISSCNT.COUNT = min (2 ^ 32 - 1) (s.get HRD_MISSCNT.COUNT + 1) := by
  obtain ⟨-, hi⟩ := mem_of_jobAt hj
  have htan : (s.missed j).tandem = false := by
    rw [← ht]
    unfold State.tandem State.flag
    rw [missed_get _ _ (by decide)]
    exact congrArg (fun n => decide (n ≠ 0)) (get_set_ne s _ (by decide))
  have htag : (s.missed j).tag c k = .issued cls := (tag_of_tags (congrArg (·.tags) (missed_core s j c)) k).trans hk
  obtain ⟨hnone, v, hdone⟩ := endJob_ends htan hown htag 4 0
  have hnote : ((s.missed j).endJob j 4 0).requeued (((s.missed j).endJob j 4 0).note fun b =>
      { b with stopped := b.stopped ++ [(j.index, 4)] }) :=
    ⟨State.note_rest _ _, congrArg (fun h => h.jobs.map (·.index)) (note_herd _ _), fun q _ => get_of_regs (note_regs _ _) q⟩
  have hend := hnote.trans (requeued_schedule _)
  refine ⟨_, v, exec_jobDeadlineMiss_ends hj hphase ht, hi ▸ hend.jobAt_none hnone, ?_, ?_⟩
  · exact (tag_of_tags (congrArg (·.tags) (State.core_of_rest hend.rest c)) k).trans hdone
  · rw [hend.get_eq _ (by decide), get_endJob (hown ▸ Option.some_ne_none _) _ _ _ (by decide) (by decide),
      missed_get _ _ (by decide), State.bump, get_set_same]
    exact Nat.mod_eq_of_lt ((min_le_left _ _).trans_lt (by decide))

/-! ### The scheduler with one queued job -/

theorem schedule_working {s : State} (hjobs : s.herd.jobs ≠ []) (hgate : s.pllGated Pll.core = false)
    (hstand : s.isStandby = false) :
    s.schedule = if s.markCandidates.flag HRD_CTRL.HOLD then s.markCandidates else s.markCandidates.evaluate 64 := by
  have hempty : s.herd.jobs.isEmpty = false := by simpa using hjobs
  unfold State.schedule
  rw [if_neg (by simp [hempty, hgate]), if_neg fun h => by simp [State.isStandby, h.1, h.2] at hstand]

/-- A lone queued job is dispatched. -/
theorem evaluate_lone {s : State} {j : Job} (hjobs : s.herd.jobs = [j]) (hphase : j.phase = .queued)
    (hcand : s.isCandidate j = true) (n : Nat) : s.evaluate (n + 1) = (s.dispatch j).evaluate n := by
  have hbusy : s.busyTeams = 0 := by
    unfold State.busyTeams Job.active
    rw [hjobs]
    simp [hphase]
  have hlist : byDeadline ([j].filter fun j => decide (j.phase = .queued) && s.isCandidate j) = [j] := by
    rw [List.filter_cons_of_pos (by simp [hphase, hcand])]
    rfl
  rw [State.evaluate]
  dsimp only
  rw [hjobs, hlist]
  dsimp only
  rw [hbusy, if_pos (Nat.zero_and _)]

/-- Without a queued job an evaluation does nothing. -/
theorem evaluate_none {s : State} (h : ∀ j ∈ s.herd.jobs, j.phase ≠ .queued) (n : Nat) : s.evaluate n = s := by
  cases n with
  | zero => rfl
  | succ n =>
    have hlist : (s.herd.jobs.filter fun j => decide (j.phase = .queued) && s.isCandidate j) = [] :=
      List.filter_eq_nil_iff.mpr fun j hj => by simp [h j hj]
    rw [State.evaluate]
    dsimp only
    rw [hlist]
    rfl

theorem isCandidate_congr {s t : State} {j k : Job} (ht : ∀ q : Fld, q.key ∉ queueKeys → t.get q = s.get q)
    (hcls : k.bucketClass = j.bucketClass) (hteams : k.teams = j.teams) : t.isCandidate k = s.isCandidate j := by
  unfold State.isCandidate State.jobCost
  rw [ht THM_BUCKET.TOKENS (by decide), ht (THM_COST.COST k.bucketClass), hcls, hteams]
  simp only [queueKeys, List.mem_cons, List.not_mem_nil, or_false, Fld.key, THM_COST.COST, HRD_QOCC0.OCC, HRD_QOCC1.OCC,
    HRD_TEAMBUSY.TEAMS, HRD_STAT.QCOUNT, HRD_STAT.RUNCOUNT, HRD_AUTOSTAT.BUSY]
  omega

/-- The job marked as a candidate. -/
def Job.marked (j : Job) : Job := { j with candidate := true }


theorem markCandidates_lone {s : State} {j : Job} (hjobs : s.herd.jobs = [j]) (hphase : j.phase = .queued)
    (hcand : s.isCandidate j = true) : s.markCandidates = s.setJobs [j.marked] := by
  unfold State.markCandidates
  rw [hjobs, List.map_singleton, if_pos ⟨hphase, hcand⟩, Job.marked]

theorem dispatch_jobs {s : State} {j : Job} (hjobs : s.herd.jobs = [j]) :
    (s.dispatch j).herd.jobs = [{ j with phase := .loading, cells := s.cel.map.map fun e => (layLane e.2, e.1) }] := by
  unfold State.dispatch
  dsimp only
  rw [note_herd, putJob_herd]
  show s.herd.jobs.map _ = _
  rw [hjobs, List.map_singleton, if_pos rfl]
  rfl

theorem dispatch_tokens (s : State) (j : Job) : (s.dispatch j).get THM_BUCKET.TOKENS =
    (s.get THM_BUCKET.TOKENS - s.jobCost j.bucketClass j.teams) % 2 ^ THM_BUCKET.TOKENS.width := by
  unfold State.dispatch State.putJob
  dsimp only
  rw [get_of_regs (note_regs _ _), get_setJobs _ _ (by decide), get_set_same]

section
variable {s : State} {j : Job} (hjobs : s.herd.jobs = [j]) (hphase : j.phase = .queued) (hstand : s.isStandby = false)
  (hgate : s.pllGated Pll.core = false) (hcand : s.isCandidate j = true)
include hjobs hphase hstand hgate hcand

/-- The one queued job is dispatched, and its cost taken. -/
theorem schedule_lone (hhold : s.flag HRD_CTRL.HOLD = false) :
    s.schedule = (s.setJobs [j.marked]).dispatch j.marked := by
  have hflag : (s.setJobs [j.marked]).flag HRD_CTRL.HOLD = false := by
    unfold State.flag at hhold ⊢
    rwa [get_setJobs _ _ (by decide)]
  have hjobs' : (s.setJobs [j.marked]).herd.jobs = [j.marked] := by
    rw [setJobs_herd]
  have hcand' : (s.setJobs [j.marked]).isCandidate j.marked = true :=
    (isCandidate_congr (fun q hq => get_setJobs s _ hq) rfl rfl).trans hcand
  rw [schedule_working (by simp [hjobs]) hgate hstand, markCandidates_lone hjobs hphase hcand, if_neg (by simp [hflag]),
    evaluate_lone hjobs' hphase hcand', evaluate_none]
  rw [dispatch_jobs hjobs']
  simp

theorem schedule_held (hhold : s.flag HRD_CTRL.HOLD = true) : s.schedule = s.setJobs [j.marked] := by
  have hflag : (s.setJobs [j.marked]).flag HRD_CTRL.HOLD = true := by
    unfold State.flag at hhold ⊢
    rwa [get_setJobs _ _ (by decide)]
  rw [schedule_working (by simp [hjobs]) hgate hstand, markCandidates_lone hjobs hphase hcand, if_pos hflag]

theorem schedule_lone_clause (hhold : s.flag HRD_CTRL.HOLD = false) : ∃ j', s.schedule.herd.jobs = [j'] ∧
    j'.phase = .loading ∧ j'.index = j.index ∧ j'.teams = j.teams ∧ s.schedule.get THM_BUCKET.TOKENS =
      (s.get THM_BUCKET.TOKENS - s.jobCost j.bucketClass j.teams) % 2 ^ THM_BUCKET.TOKENS.width := by
  rw [schedule_lone hjobs hphase hstand hgate hcand hhold]
  refine ⟨_, dispatch_jobs (by rw [setJobs_herd]), rfl, rfl, rfl, ?_⟩
  rw [dispatch_tokens, get_setJobs _ _ (by decide)]
  unfold State.jobCost
  rw [get_setJobs]
  · rfl
  · simp only [queueKeys, List.mem_cons, List.not_mem_nil, or_false, Fld.key, THM_COST.COST, HRD_QOCC0.OCC,
      HRD_QOCC1.OCC, HRD_TEAMBUSY.TEAMS, HRD_STAT.QCOUNT, HRD_STAT.RUNCOUNT, HRD_AUTOSTAT.BUSY]
    omega

end

/-- Settles O31: a branch and a return act on the sequencers alone, the end of a core's job frees its index and completes
its tag, and an evaluation keeps the indices. -/
theorem laneControlAndJobEvents : Obligations.LaneControlAndJobEvents := by
  unfold Obligations.LaneControlAndJobEvents
  refine ⟨fun o off j r s h => ?_, fun o j r c k cls s h hunp hm ht hown hk => ⟨fun hall => ?_, fun hrun hwait => ?_⟩,
    fun i j ecc s hj hphase hgate hecc => ?_, fun i j c k cls s hj hphase ht hown hk => ?_, fun s => ?_,
    fun o w off j r s hrun hpc hecc hown hraw hbad => ?_, fun j s hjobs hphase hstand _ hgate hcand =>
      ⟨fun hhold => ?_, fun hhold => ?_⟩⟩
  · intro holds taken
    obtain ⟨t, pc, hexec, hmem, hreg, hat, hnot, htaken⟩ := laneBra_moves (off := off) h
    refine ⟨t, hexec, hmem, hreg, fun hn => hnot hn ▸ hat, fun ht hpos => ?_, fun ht hneg => ?_⟩
    · have := htaken ht
      rw [branchTo, if_neg (by omega)] at this
      exact this ▸ hat
    · have := htaken ht
      rw [branchTo, if_pos hneg] at this
      exact this ▸ hat
  · exact laneRet_last h hunp hm ht hown hk hall
  · exact laneRet_other h hunp hm hrun hwait
  · obtain ⟨t, hexec, hat, hmem, hlane⟩ := jobProgramLoaded_clause hj hphase hgate hecc
    refine ⟨t, j.started, hexec, hat, rfl, fun q => mem_started, hmem, fun l hl => ?_⟩
    obtain ⟨hlow, hhigh, hpred⟩ := hlane l hl
    exact ⟨hlow 0 (by decide), hlow 1 (by decide), hlow 2 (by decide), hlow 3 (by decide), hhigh, hpred⟩
  · exact jobDeadlineMiss_clause hj hphase ht hown hk
  · have h := requeued_schedule s
    exact ⟨_, exec_schedulerEvaluation s, State.sameRest_of_rest h.rest, h.index⟩
  · exact ⟨_, laneUndefined_faults hrun hpc hecc (laneUndefined_of_raw hraw hbad),
      laneFault_shows hown o.team r.pc 0 (by decide) (by decide)⟩
  · obtain ⟨j', hj'⟩ := schedule_lone_clause hjobs hphase hstand hgate hcand hhold
    exact ⟨_, j', exec_schedulerEvaluation s, hj'⟩
  · refine ⟨_, j.marked, exec_schedulerEvaluation s, ?_, hphase⟩
    rw [schedule_held hjobs hphase hstand hgate hcand hhold, setJobs_herd]

end Sys2Proof.Machine
end


section
/-! SUPPORT. What program counters, g0 and the applied layout rest on: the spine of a state (R80, R82, Table CEL-1). -/

namespace Sys2Proof.Machine
open Sys2Proof Sys2Proof.Reg

/-! ### The spine -/

/-- The general registers that a core holds, and its program counter. -/
structure CoreSpine where
  g : List (Nat × Word)
  pc : Word

/-- The queue, the applied layout, and the three cores' registers. -/
structure Spine where
  queue : List Instr
  map : List (Nat × Nat)
  r0 : CoreSpine
  r1 : CoreSpine
  grm : CoreSpine

/-- What the program counters, g0, the applied layout and the queue of a state rest on. -/
def State.spine (s : State) : Spine := ⟨s.pending, s.cel.map, ⟨s.r0.g, s.r0.pc⟩, ⟨s.r1.g, s.r1.pc⟩, ⟨s.grm.g, s.grm.pc⟩⟩

theorem foldl_spine {α : Type} {f : State → α → State} (h : ∀ t x, (f t x).spine = t.spine) (l : List α) :
    ∀ s : State, (l.foldl f s).spine = s.spine := by
  induction l with
  | nil => exact fun _ => rfl
  | cons a l ih => exact fun s => (ih _).trans (h s a)

theorem foldr_spine {α : Type} {f : α → State → State} (h : ∀ x t, (f x t).spine = t.spine) (l : List α) (s : State) :
    (l.foldr f s).spine = s.spine := by
  induction l with
  | nil => rfl
  | cons a l ih => exact (h a _).trans ih

/-- A fold that carries another value beside the state. -/
theorem foldl_fst_spine {α β : Type} {f : State × β → α → State × β} (h : ∀ x a, (f x a).1.spine = x.1.spine) (l : List α) :
    ∀ x : State × β, (l.foldl f x).1.spine = x.1.spine := by
  induction l with
  | nil => exact fun _ => rfl
  | cons a l ih => exact fun x => (ih _).trans (h x a)

@[simp] theorem State.ite_spine {c : Prop} [Decidable c] (a b : State) :
    (if c then a else b).spine = if c then a.spine else b.spine := apply_ite _ _ _ _

@[simp] theorem State.when_spine (s : State) (c : Bool) (g : State → State) :
    (s.when c g).spine = if c then (g s).spine else s.spine := apply_ite _ _ _ _

theorem getD_ite_spine {c : Prop} [Decidable c] (a b : Option State) (d : State) :
    ((if c then a else b).getD d).spine = if c then (a.getD d).spine else (b.getD d).spine := by split <;> rfl

theorem spine_getD_ite {c : Prop} [Decidable c] {a b : Option State} {d s : State} (ha : (a.getD d).spine = s.spine)
    (hb : (b.getD d).spine = s.spine) : ((if c then a else b).getD d).spine = s.spine := by split <;> assumption

theorem spine_getD_some {t d s : State} (h : t.spine = s.spine) : ((some t).getD d).spine = s.spine := h

/-- The spine after a command that completes. -/
def spineAfter (o : Host.Outcome State Fault Refusal) : Option Spine :=
  match o with
  | .next t => some t.spine
  | _ => none

@[simp] theorem spineAfter_next (t : State) : spineAfter (.next t) = some t.spine := rfl

@[simp] theorem spineAfter_ite {c : Prop} [Decidable c] (a b : Host.Outcome State Fault Refusal) :
    spineAfter (if c then a else b) = if c then spineAfter a else spineAfter b := apply_ite _ _ _ _

/-! ### Parts of the state outside the spine -/

@[simp] theorem State.mapEvt_spine (s : State) (g : EvtSt → EvtSt) : (s.mapEvt g).spine = s.spine := (rfl)
@[simp] theorem State.mapPad_spine (s : State) (g : PadSt → PadSt) : (s.mapPad g).spine = s.spine := (rfl)
@[simp] theorem State.mapPower_spine (s : State) (g : PowerSt → PowerSt) : (s.mapPower g).spine = s.spine := (rfl)
@[simp] theorem State.mapThermal_spine (s : State) (g : ThermalSt → ThermalSt) : (s.mapThermal g).spine = s.spine := (rfl)
@[simp] theorem State.mapNvm_spine (s : State) (g : NvmSt → NvmSt) : (s.mapNvm g).spine = s.spine := (rfl)
@[simp] theorem State.mapFio_spine (s : State) (g : FioSt → FioSt) : (s.mapFio g).spine = s.spine := (rfl)
@[simp] theorem State.mapCrb_spine (s : State) (g : CurbSt → CurbSt) : (s.mapCrb g).spine = s.spine := (rfl)
@[simp] theorem State.mapPrt_spine (s : State) (g : PrtSt → PrtSt) : (s.mapPrt g).spine = s.spine := (rfl)
@[simp] theorem State.mapHerd_spine (s : State) (g : HerdSt → HerdSt) : (s.mapHerd g).spine = s.spine := (rfl)
@[simp] theorem State.mapChn_spine (s : State) (g : ChnSt → ChnSt) : (s.mapChn g).spine = s.spine := (rfl)
@[simp] theorem State.mapEst_spine (s : State) (g : EstSt → EstSt) : (s.mapEst g).spine = s.spine := (rfl)
@[simp] theorem State.mapHvm_spine (s : State) (g : HvmSt → HvmSt) : (s.mapHvm g).spine = s.spine := (rfl)
@[simp] theorem State.mapGgn_spine (s : State) (g : GgnSt → GgnSt) : (s.mapGgn g).spine = s.spine := (rfl)
@[simp] theorem State.mapCan_spine (s : State) (g : CanSt → CanSt) : (s.mapCan g).spine = s.spine := (rfl)
@[simp] theorem State.mapEth_spine (s : State) (g : EthSt → EthSt) : (s.mapEth g).spine = s.spine := (rfl)
@[simp] theorem State.mapPtp_spine (s : State) (g : PtpSt → PtpSt) : (s.mapPtp g).spine = s.spine := (rfl)
@[simp] theorem State.mapUpd_spine (s : State) (g : UpdSt → UpdSt) : (s.mapUpd g).spine = s.spine := (rfl)
@[simp] theorem State.mapSys_spine (s : State) (g : SysSt → SysSt) : (s.mapSys g).spine = s.spine := (rfl)
@[simp] theorem State.mapTdm_spine (s : State) (g : TdmSt → TdmSt) : (s.mapTdm g).spine = s.spine := (rfl)
@[simp] theorem State.set_spine (s : State) (f : Fld) (v : Nat) : (s.set f v).spine = s.spine := (rfl)
@[simp] theorem State.put_spine (s : State) (f : Fld) (b : Bool) : (s.put f b).spine = s.spine := (rfl)
@[simp] theorem State.setBitOf_spine (s : State) (f : Fld) (b : Nat) : (s.setBitOf f b).spine = s.spine := (rfl)
@[simp] theorem State.clrBitOf_spine (s : State) (f : Fld) (b : Nat) : (s.clrBitOf f b).spine = s.spine := (rfl)
@[simp] theorem State.seti_spine (s : State) (f : Fld) (i : Int) : (s.seti f i).spine = s.spine := (rfl)
@[simp] theorem State.bump_spine (s : State) (f : Fld) (k : Nat) : (s.bump f k).spine = s.spine := (rfl)
@[simp] theorem State.setByte_spine (s : State) (a : Nat) (b : BitVec 8) : (s.setByte a b).spine = s.spine := (rfl)
@[simp] theorem State.loseMem_spine (s : State) (lo hi : Nat) : (s.loseMem lo hi).spine = s.spine := (rfl)
@[simp] theorem State.resetRange_spine (s : State) (lo hi : Nat) : (s.resetRange lo hi).spine = s.spine := (rfl)
@[simp] theorem State.draw_spine (s : State) (w : Nat) : (s.draw w).2.spine = s.spine := (rfl)

/-! ### A part of the spine replaced by its like -/

@[simp] theorem State.mapCel_spine {g : CelSt → CelSt} (h : ∀ x, (g x).map = x.map) (s : State) :
    (s.mapCel g).spine = s.spine := by
  unfold State.spine State.mapCel
  dsimp only
  rw [h]

/-- Another record of the curb logic leaves the spine. -/
theorem State.withCrb_spine (s : State) (x : CurbSt) : ({ s with crb := x } : State).spine = s.spine := (rfl)

/-- Another power record leaves the spine. -/
theorem State.withPower_spine (s : State) (x : PowerSt) : ({ s with power := x } : State).spine = s.spine := (rfl)

/-- Other transfers leave the spine. -/
theorem State.withDma_spine (s : State) (x : List (Nat × List DmaJob)) : ({ s with dma := x } : State).spine = s.spine := (rfl)

/-- Another record of the field I/O leaves the spine. -/
theorem State.withFio_spine (s : State) (x : FioSt) : ({ s with fio := x } : State).spine = s.spine := (rfl)

/-- A core's record replaced, its registers and its pc as they were. -/
theorem State.setCore_spine {s : State} {c : Core} {x : CoreSt} (hg : x.g = (s.core c).g) (hpc : x.pc = (s.core c).pc) :
    (s.setCore c x).spine = s.spine := by
  cases c <;> · unfold State.spine State.setCore; dsimp only; rw [hg, hpc]; rfl

@[simp] theorem State.setCr_spine (s : State) (c : Core) (n : Nat) (v : Word) : (s.setCr c n v).spine = s.spine :=
  State.setCore_spine rfl rfl
@[simp] theorem State.setRun_spine (s : State) (c : Core) (r : CoreRun) : (s.setRun c r).spine = s.spine :=
  State.setCore_spine rfl rfl
@[simp] theorem State.setTag_spine (s : State) (c : Core) (k : Nat) (x : TagSt) : (s.setTag c k x).spine = s.spine :=
  State.setCore_spine rfl rfl

end Sys2Proof.Machine
end


section
/-! SUPPORT. The operations that keep the spine, one lemma for each, in the order of the model. -/

namespace Sys2Proof.Machine
open Sys2Proof Sys2Proof.Reg

/-! ### Ops -/

@[simp] theorem State.loadFactory_spine (s : State) : s.loadFactory.spine = s.spine := by
  simp [State.loadFactory, foldl_spine]

@[simp] theorem State.note_spine (s : State) (g : Bundle → Bundle) : (s.note g).spine = s.spine := by
  simp [State.note]

@[simp] theorem State.resetFields_spine (s : State) (fs : List Fld) : (s.resetFields fs).spine = s.spine := by
  induction fs generalizing s with
  | nil => rfl
  | cons f rest ih => exact ih _

@[simp] theorem State.latchEvt_spine (s : State) (n : Nat) : (s.latchEvt n).spine = s.spine := by
  simp [State.latchEvt]

@[simp] theorem State.softEvt_spine (s : State) (n : Nat) : (s.softEvt n).spine = s.spine := by
  unfold State.softEvt
  repeat' split
  · rfl
  · rfl
  · exact State.latchEvt_spine s n

@[simp] theorem State.raise_spine (s : State) (n : Nat) : (s.raise n).spine = s.spine := by
  simp [State.raise]

@[simp] theorem State.store_spine (s : State) (n a v : Nat) : (s.store n a v).spine = s.spine := by
  rw [store_eq_withMem]
  rfl

@[simp] theorem State.setWord_spine (s : State) (a v : Nat) : (s.setWord a v).spine = s.spine := by
  simp [State.setWord]

@[simp] theorem State.setBytes_spine (s : State) (a : Nat) (bs : List Nat) : (s.setBytes a bs).spine = s.spine := by
  induction bs generalizing s a with
  | nil => rfl
  | cons b rest ih => exact (ih _ _).trans (State.setByte_spine s a _)

@[simp] theorem State.recordRefusal_spine (s : State) (m : Master) (k : Access) (kind a : Nat) :
    (s.recordRefusal m k kind a).spine = s.spine := by
  simp [State.recordRefusal]

/-! ### Async -/

@[simp] theorem State.setCrstat_spine (s : State) (c : Core) (b : Nat) : (s.setCrstat c b).spine = s.spine := by
  simp [State.setCrstat]

@[simp] theorem State.release_spine (s : State) (c : Core) (t : Nat) (word val : Nat) :
    (s.release c t word val).spine = s.spine := by
  unfold State.release
  dsimp only
  repeat' split
  all_goals simp [State.setCore_spine]

@[simp] theorem State.complete_spine (s : State) (c : Core) (t info status val : Nat) :
    (s.complete c t info status val).spine = s.spine := by
  unfold State.complete
  split <;> simp

@[simp] theorem State.releaseHeld_spine (s : State) (c : Core) : (s.releaseHeld c).spine = s.spine := by
  refine foldl_spine (fun t k => ?_) _ s
  split <;> simp

@[simp] theorem State.resetTags_spine (s : State) (c : Core) : (s.resetTags c).spine = s.spine := by
  unfold State.resetTags
  simp [State.setCore_spine]

/-! ### NvmOps -/

@[simp] theorem State.enqueue_spine (s : State) (c : Commit) : (s.enqueue c).spine = s.spine := by
  rfl

@[simp] theorem State.setLim_spine (s : State) (k : Nat) (x : LimSt) : (s.setLim k x).spine = s.spine := by
  rfl

@[simp] theorem State.limBound_spine (s : State) (k : Nat) (was : Bool) : (s.limBound k was).spine = s.spine := by
  simp [State.limBound]

@[simp] theorem State.writeSuppressed_spine (s : State) (k : Nat) : (s.writeSuppressed k).spine = s.spine := by
  simp [State.writeSuppressed]

@[simp] theorem State.passLimit_spine (s : State) (c : Commit) : (s.passLimit c).2.spine = s.spine := by
  unfold State.passLimit
  dsimp only
  repeat' split
  all_goals simp

@[simp] theorem State.hwRecord_spine (s : State) (code sev : Nat) (payload : List Nat) :
    (s.hwRecord code sev payload).spine = s.spine := by
  simp [State.hwRecord]

@[simp] theorem State.logCount_spine (s : State) (n : Nat) : (s.logCount n).spine = s.spine := by
  simp [State.logCount]

@[simp] theorem State.place_spine (s : State) (c : Commit) : (s.place c).2.spine = s.spine := by
  unfold State.place
  dsimp only
  repeat' split
  all_goals simp
  all_goals rfl

@[simp] theorem State.queueCounters_spine (s : State) : s.queueCounters.spine = s.spine := by
  exact State.enqueue_spine s (Commit.blank .counters)

/-! ### SafetyOps -/

@[simp] theorem State.redrive_spine (s : State) : s.redrive.spine = s.spine := by
  simp [State.redrive]

@[simp] theorem State.sendFrame_spine (s : State) (port : Nat) (f : Frame) : (s.sendFrame port f).spine = s.spine := by
  simp [State.sendFrame]

@[simp] theorem State.bleedStat_spine (s : State) : s.bleedStat.spine = s.spine := by
  simp [State.bleedStat]

@[simp] theorem State.bleedOff_spine (s : State) : s.bleedOff.spine = s.spine := by
  simp [State.bleedOff]

@[simp] theorem State.refuseGait_spine (s : State) (reason : Nat) : (s.refuseGait reason).spine = s.spine := by
  simp [State.refuseGait]

@[simp] theorem State.beginTrans_spine (s : State) (num target cause : Nat) (requested : Bool) :
    (s.beginTrans num target cause requested).spine = s.spine := by
  rfl

@[simp] theorem State.removalBegun_spine (s : State) : s.removalBegun.2.spine = s.spine := by
  unfold State.removalBegun
  split <;> simp

@[simp] theorem State.forceTrans_spine (s : State) (num target cause : Nat) :
    (s.forceTrans num target cause).spine = s.spine := by
  unfold State.forceTrans
  split
  · simp
  · dsimp only
    repeat' split
    all_goals simp

@[simp] theorem State.markLame_spine (s : State) (b : Nat) (v : Bool) : (s.markLame b v).spine = s.spine := by
  rfl

@[simp] theorem State.enterLame_spine (s : State) : s.enterLame.spine = s.spine := by
  simp [State.enterLame]

@[simp] theorem State.wake_spine (s : State) (b : Nat) : (s.wake b).spine = s.spine := by
  unfold State.wake
  dsimp only
  repeat' split
  all_goals simp only [State.withPower_spine, State.setBitOf_spine, State.beginTrans_spine]

/-! ### CanOps -/

@[simp] theorem State.canBit_spine (s : State) (f : Nat → Nat → Fld) (x n : Nat) (v : Bool) :
    (s.canBit f x n v).spine = s.spine := by
  simp [State.canBit]

@[simp] theorem State.canNew_spine (s : State) (x n : Nat) (v : Bool) : (s.canNew x n v).spine = s.spine := by
  simp [State.canNew]

@[simp] theorem State.canPend_spine (s : State) (x n : Nat) (v : Bool) : (s.canPend x n v).spine = s.spine := by
  simp [State.canPend]

@[simp] theorem State.canStamp_spine (s : State) (x n t : Nat) : (s.canStamp x n t).spine = s.spine := by
  simp [State.canStamp]

@[simp] theorem State.canRearm_spine (s : State) (x n : Nat) : (s.canRearm x n).spine = s.spine := by
  simp [State.canRearm]

@[simp] theorem State.canStore_spine (s : State) (x n : Nat) (f : CanFrame) (t : Nat) :
    (s.canStore x n f t).spine = s.spine := by
  unfold State.canStore
  dsimp only
  simp [foldl_spine]

@[simp] theorem State.canLost_spine (s : State) (x : Nat) : (s.canLost x).spine = s.spine := by
  simp [State.canLost]

@[simp] theorem State.canReceive_spine (s : State) (x : Nat) (f : CanFrame) (t : Nat) :
    (s.canReceive x f t).spine = s.spine := by
  unfold State.canReceive
  repeat' split
  all_goals simp

@[simp] theorem State.canEnd_spine (s : State) (x n res t : Nat) (timeout : Bool) :
    (s.canEnd x n res t timeout).spine = s.spine := by
  unfold State.canEnd
  dsimp only
  split <;> simp

@[simp] theorem State.canRequest_spine (s : State) (x n : Nat) (own : Option (Core × Nat)) :
    (s.canRequest x n own).spine = s.spine := by
  unfold State.canRequest
  dsimp only
  repeat' split
  all_goals simp

@[simp] theorem State.canOnBus_spine (s : State) (x : Nat) : (s.canOnBus x).2.spine = s.spine := by
  unfold State.canOnBus
  split <;> simp

@[simp] theorem State.canAbort_spine (s : State) (x n : Nat) (res : Nat) (timeout : Bool) :
    (s.canAbort x n res timeout).spine = s.spine := by
  simp [State.canAbort]

@[simp] theorem State.canAbortSome_spine (s : State) (x res : Nat) (p : State → Nat → Bool) :
    (s.canAbortSome x res p).spine = s.spine := by
  simp [State.canAbortSome, foldl_spine]

@[simp] theorem State.canAbortAll_spine (s : State) (x : Nat) : (s.canAbortAll x).spine = s.spine := by
  simp [State.canAbortAll]

@[simp] theorem State.canGateClose_spine (s : State) : s.canGateClose.spine = s.spine := by
  simp [State.canGateClose]

@[simp] theorem State.canConfine_spine (s : State) (x : Nat) : (s.canConfine x).spine = s.spine := by
  simp [State.canConfine]

@[simp] theorem State.canBusOff_spine (s : State) (x : Nat) : (s.canBusOff x).spine = s.spine := by
  simp [State.canBusOff, foldl_spine]

@[simp] theorem State.canRecover_spine (s : State) (x : Nat) : (s.canRecover x).spine = s.spine := by
  simp [State.canRecover]

@[simp] theorem State.canModeWritten_spine (s : State) (x : Nat) : (s.canModeWritten x).spine = s.spine := by
  simp [State.canModeWritten]

@[simp] theorem State.canCfgWritten_spine (s : State) (x n old : Nat) : (s.canCfgWritten x n old).spine = s.spine := by
  simp [State.canCfgWritten]

@[simp] theorem State.dispatchCan_spine (s : State) : s.dispatchCan.spine = s.spine := by
  unfold State.dispatchCan
  dsimp only
  repeat' split
  all_goals simp [foldl_spine]

@[simp] theorem State.canWake_spine (s : State) : s.canWake.spine = s.spine := by
  rfl

/-! ### StopOps -/

@[simp] theorem State.gateShut_spine (s : State) : s.gateShut.spine = s.spine := by
  simp [State.gateShut]

@[simp] theorem State.dropClaim_spine (s : State) (reason : Nat) : (s.dropClaim reason).spine = s.spine := by
  simp [State.dropClaim]

@[simp] theorem State.stepLost_spine (s : State) (f : Fld) : (s.stepLost f).spine = s.spine := by
  simp [State.stepLost]

@[simp] theorem State.standbyLocal_spine (s : State) : s.standbyLocal.spine = s.spine := by
  simp [State.standbyLocal]

@[simp] theorem State.recordCause_spine (s : State) (code : Nat) (gc first : Bool) :
    (s.recordCause code gc first).spine = s.spine := by
  simp [State.recordCause]

@[simp] theorem State.enterStop_spine (s : State) (st : Nat) : (s.enterStop st).spine = s.spine := by
  simp [State.enterStop]

@[simp] theorem State.enterHalt_spine (s : State) : s.enterHalt.spine = s.spine := by
  simp only [State.enterHalt, State.redrive_spine, State.ite_spine, State.forceTrans_spine, State.bleedOff_spine,
    State.withCrb_spine, State.raise_spine, State.enterStop_spine, ite_self]

@[simp] theorem State.enterSii_spine (s : State) : s.enterSii.spine = s.spine := by
  simp only [State.enterSii, State.redrive_spine, State.ite_spine, State.enterHalt_spine, State.withCrb_spine,
    State.mapCrb_spine, State.enterStop_spine, ite_self]

@[simp] theorem State.enterSrs_spine (s : State) : s.enterSrs.spine = s.spine := by
  simp only [State.enterSrs, State.redrive_spine, State.enterStop_spine, State.withCrb_spine, State.set_spine]

@[simp] theorem State.beginStop_spine (s : State) : s.beginStop.spine = s.spine := by
  exact State.put_spine s CRB_FLT.STOP true

@[simp] theorem State.curbCause_spine (s : State) (code : Nat) (a : Stop) (gc : Bool) :
    (s.curbCause code a gc).spine = s.spine := by
  unfold State.curbCause
  dsimp only
  repeat' split
  all_goals simp only [State.dropClaim_spine, State.enterHalt_spine, State.enterSrs_spine, State.enterSii_spine,
    State.withCrb_spine, State.beginStop_spine, State.recordCause_spine, State.standbyLocal_spine]

@[simp] theorem State.gaitSrs_spine (s : State) : s.gaitSrs.spine = s.spine := by
  simp [State.gaitSrs]

@[simp] theorem State.forceLame_spine (s : State) (b : Nat) (srs : Bool) : (s.forceLame b srs).spine = s.spine := by
  simp [State.forceLame]

@[simp] theorem State.raiseD_spine (s : State) (n : Nat) : (s.raiseD n).spine = s.spine := by
  simp [State.raiseD]

@[simp] theorem State.assertEvt_spine (s : State) (n : Nat) : (s.assertEvt n).spine = s.spine := by
  simp [State.assertEvt]

@[simp] theorem State.setGuard_spine (s : State) (g : Nat) : (s.setGuard g).spine = s.spine := by
  simp [State.setGuard]

@[simp] theorem State.crbDiag_spine (s : State) (f : Fld) : (s.crbDiag f).spine = s.spine := by
  simp [State.crbDiag]

@[simp] theorem State.doorCheck_spine (s : State) : s.doorCheck.spine = s.spine := by
  simp [State.doorCheck]

@[simp] theorem State.coreFault_spine (s : State) (c : Core) : (s.coreFault c).spine = s.spine := by
  unfold State.coreFault
  split <;> simp

@[simp] theorem State.loadScfg_spine (s : State) (w : List Nat) (crc : Nat) : (s.loadScfg w crc).spine = s.spine := by
  simp [State.loadScfg, foldl_spine]

@[simp] theorem State.redriveDoor_spine (s : State) : s.redriveDoor.spine = s.spine := by
  simp [State.redriveDoor]

@[simp] theorem State.curbReady_spine (s : State) : s.curbReady.spine = s.spine := by
  simp [State.curbReady, foldl_spine]

/-! ### EstOps -/

@[simp] theorem State.putHeader_spine (s : State) (l : List (Nat × Nat)) : (s.putHeader l).spine = s.spine := by
  simp [State.putHeader, foldl_spine]

@[simp] theorem State.sweepBoundary_spine (s : State) : s.sweepBoundary.spine = s.spine := by
  simp [State.sweepBoundary]

@[simp] theorem State.paramCheck_spine (s : State) : s.paramCheck.spine = s.spine := by
  simp [State.paramCheck]

@[simp] theorem State.limit_spine (s : State) (f : Fld) (v lo hi : Int) : (s.limit f v lo hi).spine = s.spine := by
  simp [State.limit]

@[simp] theorem State.ends_spine (s : State) (l : Nat) : (s.ends l).2.2.spine = s.spine := by
  unfold State.ends
  split <;> simp

@[simp] theorem State.collectCell_spine (s : State) (sw cell l : Nat) : (s.collectCell sw cell l).spine = s.spine := by
  simp [State.collectCell]

@[simp] theorem State.learnCell_spine (s : State) (cell l : Nat) : (s.learnCell cell l).spine = s.spine := by
  simp [State.learnCell, foldl_spine]

@[simp] theorem State.learnCollect_spine (s : State) (sw : Nat) : (s.learnCollect sw).spine = s.spine := by
  unfold State.learnCollect
  dsimp only
  split <;> simp [foldl_spine]

@[simp] theorem State.estMissing_spine (s : State) : s.estMissing.spine = s.spine := by
  simp [State.estMissing]

@[simp] theorem State.estCollect_spine (s : State) (sw : Nat) : (s.estCollect sw).spine = s.spine := by
  simp [State.estCollect, foldl_spine]

@[simp] theorem State.keepPred_spine (s : State) (sw : Nat) : (s.keepPred sw).spine = s.spine := by
  simp [State.keepPred]

@[simp] theorem State.autoEnded_spine (s : State) (sw status : Nat) : (s.autoEnded sw status).spine = s.spine := by
  simp [State.autoEnded]

@[simp] theorem State.paramApply_spine (s : State) : s.paramApply.spine = s.spine := by
  simp [State.paramApply]

@[simp] theorem State.estCtrl_spine (s : State) (v : Nat) : (s.estCtrl v).spine = s.spine := by
  simp [State.estCtrl]

@[simp] theorem State.lsnapReq_spine (s : State) (v : Nat) : (s.lsnapReq v).spine = s.spine := by
  simp [State.lsnapReq]

/-! ### Prt -/

@[simp] theorem State.tagStat_spine (s : State) : s.tagStat.spine = s.spine := by
  simp [State.tagStat]

@[simp] theorem State.sendReq_spine (s : State) (port : Nat) (f : Frame) : (s.sendReq port f).spine = s.spine := by
  simp [State.sendReq]

@[simp] theorem State.reqEnd_spine (s : State) (addr cmd : Nat) : (s.reqEnd addr cmd).spine = s.spine := by
  simp [State.reqEnd]

@[simp] theorem State.castLevels_spine (s : State) : s.castLevels.spine = s.spine := by
  simp [State.castLevels]

@[simp] theorem State.commitRecord_spine (s : State) (old : Nat) : (s.commitRecord old).spine = s.spine := by
  simp [State.commitRecord]

@[simp] theorem State.prtCommit_spine (s : State) : s.prtCommit.spine = s.spine := by
  simp [State.prtCommit]

@[simp] theorem State.copyMismatch_spine (s : State) (b : Nat) : (s.copyMismatch b).spine = s.spine := by
  simp [State.copyMismatch]

@[simp] theorem State.sendReadBack_spine (s : State) (u : Nat) : (s.sendReadBack u).spine = s.spine := by
  simp [State.sendReadBack]

@[simp] theorem State.cmpTrip_spine (s : State) (was hit : List Nat) (code : Nat) (a : Stop) :
    (s.cmpTrip was hit code a).spine = s.spine := by
  simp [State.cmpTrip]

@[simp] theorem State.compareFrame_spine (s : State) (vs : List CmpVal) (ts : List (Nat × Option Int)) :
    (s.compareFrame vs ts).spine = s.spine := by
  simp [State.compareFrame]

@[simp] theorem State.prtSweep_spine (s : State) (iavg : Option Int) : (s.prtSweep iavg).spine = s.spine := by
  simp [State.prtSweep]

@[simp] theorem State.prtSync_spine (s : State) : s.prtSync.spine = s.spine := by
  simp [State.prtSync]

@[simp] theorem State.i2t_spine (s : State) (i : Int) : (s.i2t i).spine = s.spine := by
  unfold State.i2t
  dsimp only
  split <;> simp

@[simp] theorem State.stringCheck_spine (s : State) (vbat : Option Nat) : (s.stringCheck vbat).spine = s.spine := by
  unfold State.stringCheck
  split <;> simp

@[simp] theorem State.isoCompare_spine (s : State) (k : Nat) (below above : Bool) :
    (s.isoCompare k below above).spine = s.spine := by
  simp [State.isoCompare]

@[simp] theorem State.sweepFull_spine (s : State) : s.sweepFull.spine = s.spine := by
  simp [State.sweepFull]

/-! ### Units -/

@[simp] theorem State.setUnit_spine (s : State) (u : Nat) (x : UnitSt) : (s.setUnit u x).spine = s.spine := by
  rfl

@[simp] theorem State.mapUnit_spine (s : State) (u : Nat) (g : UnitSt → UnitSt) : (s.mapUnit u g).spine = s.spine := by
  simp [State.mapUnit]

@[simp] theorem State.relay_spine (s : State) (south : Bool) (y : LineSym) : (s.relay south y).spine = s.spine := by
  simp [State.relay]

@[simp] theorem State.request_spine (s : State) (h : Hop) (cmd : Nat) (p : List Nat) (g : UnitSt → UnitSt) :
    (s.request h cmd p g).spine = s.spine := by
  simp [State.request]

@[simp] theorem State.chainReq_spine (s : State) (h : Hop) (cmd : Nat) (p : List Nat) (act : UnitSt → UnitSt) :
    (s.chainReq h cmd p act).spine = s.spine := by
  simp [State.chainReq]

/-! ### CelOps -/

@[simp] theorem State.quiet_spine (s : State) : s.quiet.spine = s.spine := by
  simp [State.quiet]

@[simp] theorem State.mapFail_spine (s : State) (code cell unit : Nat) :
    (s.mapFail code cell unit).spine = s.spine := by
  simp [State.mapFail]

@[simp] theorem State.mapFail7_spine (s : State) (u : Nat) : (s.mapFail7 u).spine = s.spine := by
  simp [State.mapFail7]

@[simp] theorem State.sendCells_spine (s : State) (u : Nat) : (s.sendCells u).spine = s.spine := by
  simp [State.sendCells]

@[simp] theorem State.cellsAgain_spine (s : State) : s.cellsAgain.spine = s.spine := by
  simp [State.cellsAgain, foldl_spine]

/-- A signature's run counts leave the applied layout. -/
theorem foldl_runSignature_map (n : Nat) (l : List (Nat × Bool)) : ∀ x : CelSt, (l.foldl (runSignature n) x).map = x.map := by
  induction l with
  | nil => exact fun _ => rfl
  | cons e l ih => exact fun x => (ih _).trans (by unfold runSignature; dsimp only; repeat' split <;> rfl)

@[simp] theorem State.classify_spine (s : State) (u stack : Nat) (xs : List CellNow) :
    (s.classify u stack xs).spine = s.spine := by
  unfold State.classify
  dsimp only
  split <;> simp [foldl_runSignature_map]

@[simp] theorem State.refreshFlags_spine (s : State) (u : Nat) : (s.refreshFlags u).spine = s.spine := by
  exact foldl_spine (fun t e => State.set_spine t _ _) _ s

@[simp] theorem State.owtQueue_spine (s : State) (u : Nat) (why : OwtWhy) : (s.owtQueue u why).spine = s.spine := by
  simp [State.owtQueue]

@[simp] theorem State.takeSignature_spine (s : State) (k : Nat) : (s.takeSignature k).spine = s.spine := by
  simp [State.takeSignature]

@[simp] theorem State.clearSignature_spine (s : State) (k : Nat) : (s.clearSignature k).spine = s.spine := by
  simp [State.clearSignature]

@[simp] theorem State.suspectAny_spine (s : State) : s.suspectAny.spine = s.spine := by
  simp [State.suspectAny]

@[simp] theorem State.dropOpen_spine (s : State) : s.dropOpen.spine = s.spine := by
  simp [State.dropOpen]

@[simp] theorem State.celSync_spine (s : State) : s.celSync.spine = s.spine := by
  simp [State.celSync, foldl_spine]

@[simp] theorem State.openStat_spine (s : State) : s.openStat.spine = s.spine := by
  simp [State.openStat]

@[simp] theorem State.flagOpen_spine (s : State) (u t : Nat) : (s.flagOpen u t).spine = s.spine := by
  simp [State.flagOpen, foldl_spine]

@[simp] theorem State.findOpen_spine (s : State) (u t : Nat) : (s.findOpen u t).spine = s.spine := by
  simp [State.findOpen]

@[simp] theorem State.findClosed_spine (s : State) (u t : Nat) : (s.findClosed u t).spine = s.spine := by
  simp [State.findClosed]

@[simp] theorem State.owtResult_spine (s : State) (u mask : Nat) (dv : List Nat) :
    (s.owtResult u mask dv).spine = s.spine := by
  simp [State.owtResult, foldl_spine]

@[simp] theorem State.senseClr_spine (s : State) (u : Nat) : (s.senseClr u).spine = s.spine := by
  simp [State.senseClr]

@[simp] theorem State.owtTry_spine (s : State) : s.owtTry.spine = s.spine := by
  unfold State.owtTry
  split <;> simp

@[simp] theorem State.owtEnd_spine (s : State) : s.owtEnd.spine = s.spine := by
  unfold State.owtEnd
  split <;> simp

@[simp] theorem State.owtReroute_spine (s : State) (was : Nat → Nat) : (s.owtReroute was).spine = s.spine := by
  unfold State.owtReroute
  split <;> simp

@[simp] theorem State.sendBleed_spine (s : State) (u : Nat) : (s.sendBleed u).spine = s.spine := by
  simp [State.sendBleed]

@[simp] theorem State.bleedFlush_spine (s : State) (u : Nat) : (s.bleedFlush u).spine = s.spine := by
  simp [State.bleedFlush]

@[simp] theorem State.dropTaken_spine (s : State) : s.dropTaken.spine = s.spine := by
  simp [State.dropTaken]

@[simp] theorem State.limitUnit_spine (s : State) (u : Nat) (volt : Nat → Nat) :
    (s.limitUnit u volt).spine = s.spine := by
  simp [State.limitUnit]

@[simp] theorem State.balEvaluate_spine (s : State) : s.balEvaluate.spine = s.spine := by
  unfold State.balEvaluate
  simp [foldl_spine]

@[simp] theorem State.writeSlot_spine (s : State) (l sw w0 w1 w3 : Nat) :
    (s.writeSlot l sw w0 w1 w3).spine = s.spine := by
  simp [State.writeSlot]

@[simp] theorem State.cellTake_spine (s : State) (u k stack sw : Nat) (vs : List Nat) (x : CellNow) :
    (s.cellTake u k stack sw vs x).spine = s.spine := by
  simp [State.cellTake]

@[simp] theorem State.celFrame_spine (s : State) (u : Nat) (f : UnitFrame) : (s.celFrame u f).spine = s.spine := by
  simp [State.celFrame, foldl_spine]

@[simp] theorem State.cellSummary_spine (s : State) : s.cellSummary.spine = s.spine := by
  unfold State.cellSummary
  split <;> simp

@[simp] theorem State.stringSum_spine (s : State) : s.stringSum.spine = s.spine := by
  unfold State.stringSum
  split <;> simp

@[simp] theorem State.cellCarry_spine (s : State) (u sw : Nat) (e : Nat × Nat) :
    (s.cellCarry u sw e).spine = s.spine := by
  simp [State.cellCarry]

@[simp] theorem State.celStale_spine (s : State) (u : Nat) : (s.celStale u).spine = s.spine := by
  unfold State.celStale
  simp [foldl_spine]

@[simp] theorem State.staleAny_spine (s : State) : s.staleAny.spine = s.spine := by
  simp [State.staleAny]

@[simp] theorem State.celPost_spine (s : State) (sw : Nat) (missing : List Nat) :
    (s.celPost sw missing).spine = s.spine := by
  simp [State.celPost, foldl_spine]

/-! ### Reduce -/

@[simp] theorem State.writePublishes_spine (s : State) (ps : List Publish) : (s.writePublishes ps).spine = s.spine := by
  simp [State.writePublishes, foldl_spine]

/-! ### RefLearn -/

@[simp] theorem State.setWords_spine (s : State) (a : Nat) (ws : List Nat) : (s.setWords a ws).spine = s.spine := by
  induction ws generalizing s a with
  | nil => rfl
  | cons w rest ih => exact (ih _ _).trans (State.setWord_spine s a w)

@[simp] theorem State.setPoints_spine (s : State) (a : Nat) (z : LaneEst) : (s.setPoints a z).spine = s.spine := by
  refine (State.setWords_spine _ _ _).trans (foldl_spine (fun t n => ?_) _ s)
  split
  · exact State.setWords_spine t _ _
  · rfl

@[simp] theorem State.refLane_spine (s : State) (sw p : Nat) (par : RefPar) (l cell : Nat) :
    (s.refLane sw p par l cell).1.spine = s.spine := by
  simp [State.refLane]

@[simp] theorem State.refRun_spine (s : State) (sw p teams : Nat) (cells : List (Nat × Nat)) :
    (s.refRun sw p teams cells).spine = s.spine := by
  unfold State.refRun
  dsimp only
  split
  · rfl
  · rw [State.mapEst_spine, State.writePublishes_spine]
    exact foldl_fst_spine (fun x e => by exact State.refLane_spine x.1 sw p (s.refPar p) e.1 e.2) _ (s, [])

@[simp] theorem State.refDown_spine (s : State) : s.refDown.spine = s.spine := by
  simp [State.refDown]

/-! ### HerdOps -/

@[simp] theorem State.herdRegs_spine (s : State) : s.herdRegs.spine = s.spine := by
  simp [State.herdRegs]

@[simp] theorem State.setJobs_spine (s : State) (js : List Job) : (s.setJobs js).spine = s.spine := by
  simp [State.setJobs]

@[simp] theorem State.putJob_spine (s : State) (j : Job) : (s.putJob j).spine = s.spine := by
  simp [State.putJob]

@[simp] theorem State.dropJob_spine (s : State) (j : Job) : (s.dropJob j).spine = s.spine := by
  simp [State.dropJob]

@[simp] theorem State.reapJobs_spine (s : State) : s.reapJobs.spine = s.spine := by
  simp [State.reapJobs]

@[simp] theorem State.jobOutcome_spine (s : State) (j : Job) (status info : Nat) :
    (s.jobOutcome j status info).spine = s.spine := by
  unfold State.jobOutcome
  split <;> simp

@[simp] theorem State.endJob_spine (s : State) (j : Job) (status info : Nat) :
    (s.endJob j status info).spine = s.spine := by
  simp [State.endJob]

@[simp] theorem State.abortJobs_spine (s : State) (p : Job → Bool) : (s.abortJobs p).spine = s.spine := by
  simp [State.abortJobs, foldl_spine]

@[simp] theorem State.dispatch_spine (s : State) (j : Job) : (s.dispatch j).spine = s.spine := by
  simp [State.dispatch]

@[simp] theorem State.evaluate_spine (s : State) (fuel : Nat) : (s.evaluate fuel).spine = s.spine := by
  induction fuel generalizing s with
  | zero => rfl
  | succ n ih =>
    unfold State.evaluate
    dsimp only
    repeat' split
    · rfl
    · exact (ih _).trans (State.dispatch_spine s _)
    · refine foldl_spine (fun t k => ?_) _ s
      split
      · exact State.dispatch_spine t k
      · rfl

@[simp] theorem State.markCandidates_spine (s : State) : s.markCandidates.spine = s.spine := by
  simp [State.markCandidates]

@[simp] theorem State.schedule_spine (s : State) : s.schedule.spine = s.spine := by
  simp [State.schedule]

@[simp] theorem State.queueJob_spine (s : State) (j : Job) : (s.queueJob j).spine = s.spine := by
  simp [State.queueJob]

@[simp] theorem State.setLane_spine (s : State) (l r v : Nat) : (s.setLane l r v).spine = s.spine := by
  simp [State.setLane]

@[simp] theorem State.setPred_spine (s : State) (l p : Nat) (v : Bool) : (s.setPred l p v).spine = s.spine := by
  simp [State.setPred]

@[simp] theorem State.initLanes_spine (s : State) (j : Job) : (s.initLanes j).spine = s.spine := by
  simp [State.initLanes, foldl_spine]

@[simp] theorem State.laneFault_spine (s : State) (j : Job) (team pc lane kind : Nat) :
    (s.laneFault j team pc lane kind).spine = s.spine := by
  simp [State.laneFault]

@[simp] theorem State.putRun_spine (s : State) (j : Job) (r : TeamRun) : (s.putRun j r).spine = s.spine := by
  simp [State.putRun]

@[simp] theorem State.laneEcc_spine (s : State) (e : Ecc) : (s.laneEcc e).spine = s.spine := by
  simp [State.laneEcc]

theorem State.laneGo_spine {s : State} (o : LaneOp) (legal : Bool) {body : State → Job → TeamRun → State}
    (h : ∀ t j r, (body t j r).spine = t.spine) : (s.laneGo o legal body).spine = s.spine := by
  unfold State.laneGo
  split
  · rfl
  · dsimp only
    repeat' split
    all_goals simp [h]

@[simp] theorem State.laneNext_spine (s : State) (j : Job) (r : TeamRun) : (s.laneNext j r).spine = s.spine := by
  simp [State.laneNext]

@[simp] theorem State.laneAlu_spine (s : State) (o : LaneOp) (legal : Bool) (dst : BitVec 6) (val : State → Nat → Nat) :
    spineAfter (s.laneAlu o legal dst val) = some s.spine := by
  refine congrArg some (State.laneGo_spine o _ fun t j _ => ?_)
  rw [State.laneNext_spine]
  exact foldl_spine (fun u l => State.setLane_spine u l _ _) _ t

@[simp] theorem State.laneBin_spine (s : State) (o : LaneOp) (dst a b : BitVec 6) (f : Nat → Nat → Nat) :
    spineAfter (s.laneBin o dst a b f) = some s.spine := State.laneAlu_spine s o _ dst _

@[simp] theorem State.laneUn_spine (s : State) (o : LaneOp) (dst a b : BitVec 6) (f : Nat → Nat) :
    spineAfter (s.laneUn o dst a b f) = some s.spine := State.laneAlu_spine s o _ dst _

@[simp] theorem State.laneCmp_spine (s : State) (o : LaneOp) (legal : Bool) (dst : BitVec 6) (f : State → Nat → Bool) :
    spineAfter (s.laneCmp o legal dst f) = some s.spine := by
  refine congrArg some (State.laneGo_spine o _ fun t j r => ?_)
  rw [State.laneNext_spine]
  exact foldl_spine (fun u l => State.setPred_spine u l _ _) _ t

theorem State.laneMem_spine (s : State) (o : LaneOp) (ecc : Ecc) (off a : BitVec 6) (size kind ecck : Nat) (deny : Nat → Bool)
    {act : State → Nat → Nat → State} (h : ∀ t l x, (act t l x).spine = t.spine) :
    spineAfter (s.laneMem o ecc off a size kind ecck deny act) = some s.spine := by
  refine congrArg some (State.laneGo_spine o _ fun t j r => ?_)
  dsimp only
  split
  · exact State.laneFault_spine _ _ _ _ _ _
  · split
    · exact State.laneFault_spine _ _ _ _ _ _
    · rw [State.laneNext_spine, foldl_spine fun u l => h u l _]
      split
      · rfl
      · exact State.laneEcc_spine t ecc

@[simp] theorem State.meet_spine (s : State) (j : Job) (w : Rdv) : (s.meet j w).spine = s.spine := by
  unfold State.meet
  dsimp only
  split
  · simp
  · rw [State.putJob_spine, foldl_spine fun t r => ?_]
    split
    · rfl
    · exact foldl_spine (fun u l => State.setLane_spine u l _ _) _ t

@[simp] theorem State.judgeTeams_spine (s : State) (j : Job) : (s.judgeTeams j).spine = s.spine := by
  unfold State.judgeTeams
  dsimp only
  repeat' split
  all_goals simp

@[simp] theorem State.laneWait_spine (s : State) (o : LaneOp) (legal : Bool) (w : Rdv) :
    spineAfter (s.laneWait o legal w) = some s.spine :=
  congrArg some (State.laneGo_spine o _ fun _ _ _ => (State.judgeTeams_spine _ _).trans (State.putJob_spine _ _))

@[simp] theorem State.laneReduce_spine (s : State) (o : LaneOp) (op : Nat) (dst a b : BitVec 6) :
    spineAfter (s.laneReduce o op dst a b) = some s.spine := State.laneWait_spine s o _ _

@[simp] theorem State.autoPost_spine (s : State) (sw : Nat) (late : Bool) : (s.autoPost sw late).spine = s.spine := by
  simp [State.autoPost]

@[simp] theorem State.herdDown_spine (s : State) : s.herdDown.spine = s.spine := by
  simp [State.herdDown]

@[simp] theorem State.hrdAbort_spine (s : State) (v : Nat) : (s.hrdAbort v).spine = s.spine := by
  simp [State.hrdAbort]

@[simp] theorem State.hrdTeamdis_spine (s : State) (v : Nat) (here : Bool) : (s.hrdTeamdis v here).spine = s.spine := by
  simp [State.hrdTeamdis]

@[simp] theorem State.hrdCtrl_spine (s : State) (v : Nat) : (s.hrdCtrl v).spine = s.spine := by
  simp [State.hrdCtrl]

/-! ### ChainOps -/

theorem State.engineRx_spine (s : State) (high : Bool) (w : Wire) {g : State → State} (h : ∀ t, (g t).spine = t.spine) :
    (s.engineRx high w g).spine = s.spine := by
  simp [State.engineRx, h]

@[simp] theorem State.discard_spine (s : State) (port : Nat) (rx : Rx) : (s.discard port rx).spine = s.spine := by
  unfold State.discard
  split <;> simp

@[simp] theorem State.chxDrop_spine (s : State) (x : ChxSt) : (s.chxDrop x).spine = s.spine := by
  unfold State.chxDrop
  dsimp only
  rw [State.tagStat_spine, State.mapChn_spine]
  exact foldl_spine (fun t p => State.mapPad_spine t _) _ s

@[simp] theorem State.chxEnd_spine (s : State) (x : ChxSt) (res addr val : Nat) :
    (s.chxEnd x res addr val).spine = s.spine := by
  simp [State.chxEnd]

@[simp] theorem State.chxEndAll_spine (s : State) (res : Nat) (p : ChxSt → Bool) :
    (s.chxEndAll res p).spine = s.spine := by
  simp [State.chxEndAll, foldl_spine]

@[simp] theorem State.chxLeave_spine (s : State) (port : Nat) (c : Core) : (s.chxLeave port c).spine = s.spine := by
  unfold State.chxLeave
  split <;> simp

@[simp] theorem State.granted_spine (s : State) (new : List ArbGrant) : (s.granted new).spine = s.spine := by
  simp [State.granted, foldl_spine]

@[simp] theorem State.chainStore_spine (s : State) (a : Nat) (bs : List Nat) :
    (s.chainStore a bs).2.spine = s.spine := by
  induction bs generalizing s a with
  | nil => rfl
  | cons b rest ih =>
    unfold State.chainStore
    split
    · exact State.recordRefusal_spine _ _ _ _ _
    · exact (ih _ _).trans (State.setByte_spine s a _)

@[simp] theorem State.chxRefused_spine (s : State) (x : ChxSt) : (s.chxRefused x).spine = s.spine := by
  simp [State.chxRefused]

@[simp] theorem State.setRoutes_spine (s : State) : s.setRoutes.spine = s.spine := by
  simp [State.setRoutes, foldl_spine]

@[simp] theorem State.reachFromBroken_spine (s : State) : s.reachFromBroken.spine = s.spine := by
  simp [State.reachFromBroken]

@[simp] theorem State.ringStat_spine (s : State) : s.ringStat.spine = s.spine := by
  simp [State.ringStat]

@[simp] theorem State.sendRead_spine (s : State) (u port : Nat) (again : Bool) :
    (s.sendRead u port again).spine = s.spine := by
  simp [State.sendRead]

@[simp] theorem State.rereadSome_spine (s : State) (p : Nat → Bool) (first : Nat → Nat) :
    (s.rereadSome p first).spine = s.spine := by
  unfold State.rereadSome
  dsimp only
  repeat' split
  all_goals simp [foldl_spine, foldr_spine]

@[simp] theorem State.rereadAll_spine (s : State) (first : Nat → Nat) : (s.rereadAll first).spine = s.spine := by
  simp [State.rereadAll]

@[simp] theorem State.rerouted_spine (s : State) (was : Nat → Nat) : (s.rerouted was).spine = s.spine := by
  simp [State.rerouted]

@[simp] theorem State.breakAt_spine (s : State) (k : Nat) : (s.breakAt k).spine = s.spine := by
  simp [State.breakAt]

@[simp] theorem State.pingNext_spine (s : State) (port : Nat) : (s.pingNext port).spine = s.spine := by
  unfold State.pingNext
  repeat' split
  all_goals simp

@[simp] theorem State.pingAll_spine (s : State) (l : List (Nat × Nat)) : (s.pingAll l).spine = s.spine := by
  simp [State.pingAll]

@[simp] theorem State.pingEnd_spine (s : State) (p : Nat × Nat → Bool) : (s.pingEnd p).spine = s.spine := by
  simp [State.pingEnd]

@[simp] theorem State.healAt_spine (s : State) (k : Nat) : (s.healAt k).spine = s.spine := by
  simp [State.healAt]

@[simp] theorem State.portAlive_spine (s : State) (port : Nat) : (s.portAlive port).spine = s.spine := by
  simp [State.portAlive]

@[simp] theorem State.sendLdly_spine (s : State) (u : Nat) : (s.sendLdly u).spine = s.spine := by
  simp [State.sendLdly]

@[simp] theorem State.enumStart_spine (s : State) : s.enumStart.spine = s.spine := by
  simp [State.enumStart, foldl_spine]

@[simp] theorem State.measure_spine (s : State) : s.measure.spine = s.spine := by
  simp [State.measure]

@[simp] theorem State.classifyRing_spine (s : State) (e : EnumSt) : (s.classifyRing e).spine = s.spine := by
  simp [State.classifyRing, foldl_spine]

@[simp] theorem State.checkRing_spine (s : State) : s.checkRing.spine = s.spine := by
  unfold State.checkRing
  split <;> simp

@[simp] theorem State.writeDelays_spine (s : State) (e : EnumSt) : (s.writeDelays e).spine = s.spine := by
  unfold State.writeDelays
  dsimp only
  simp [foldl_spine]

@[simp] theorem State.measured_spine (s : State) : s.measured.spine = s.spine := by
  unfold State.measured
  split <;> simp

@[simp] theorem State.enumDone_spine (s : State) (e : EnumSt) : (s.enumDone e).spine = s.spine := by
  simp [State.enumDone]

@[simp] theorem State.writeHeader_spine (s : State) (sw missing : Nat) (late : Bool) :
    (s.writeHeader sw missing late).spine = s.spine := by
  simp [State.writeHeader]

@[simp] theorem State.postSweep_spine (s : State) (late : Bool) : (s.postSweep late).spine = s.spine := by
  unfold State.postSweep
  dsimp only
  split <;> simp

@[simp] theorem State.tryPost_spine (s : State) : s.tryPost.spine = s.spine := by
  simp [State.tryPost]

@[simp] theorem State.countMiss_spine (s : State) : s.countMiss.spine = s.spine := by
  simp [State.countMiss, foldl_spine]

@[simp] theorem State.afterRead_spine (s : State) (u : Nat) : (s.afterRead u).spine = s.spine := by
  simp [State.afterRead]

@[simp] theorem State.takeBlock_spine (s : State) (u : Nat) (f : UnitFrame) : (s.takeBlock u f).spine = s.spine := by
  simp [State.takeBlock]

@[simp] theorem State.chainDown_spine (s : State) : s.chainDown.spine = s.spine := by
  simp [State.chainDown]

/-! ### Cel -/

@[simp] theorem State.owtNow_spine (s : State) (u : Nat) : (s.owtNow u).spine = s.spine := by
  simp [State.owtNow, foldl_spine]

@[simp] theorem State.balStop_spine (s : State) : s.balStop.spine = s.spine := by
  simp [State.balStop]

@[simp] theorem State.checkStart_spine (s : State) : s.checkStart.spine = s.spine := by
  unfold State.checkStart
  dsimp only
  split <;> simp

/-! ### Chain -/

@[simp] theorem State.chnRemeasure_spine (s : State) : s.chnRemeasure.spine = s.spine := by
  simp [State.chnRemeasure]

@[simp] theorem State.chnWake_spine (s : State) : s.chnWake.spine = s.spine := by
  simp [State.chnWake]

@[simp] theorem State.chnAbort_spine (s : State) : s.chnAbort.spine = s.spine := by
  simp [State.chnAbort]

@[simp] theorem State.chnCmd_spine (s : State) (v : Nat) : (s.chnCmd v).spine = s.spine := by
  simp [State.chnCmd]

@[simp] theorem State.sweepsOff_spine (s : State) : s.sweepsOff.spine = s.spine := by
  simp [State.sweepsOff]

@[simp] theorem State.chnCtrl_spine (s : State) (v : Nat) : (s.chnCtrl v).spine = s.spine := by
  simp [State.chnCtrl]

@[simp] theorem State.takePing_spine (s : State) (port u : Nat) (f : Frame) (rtt : Nat) :
    (s.takePing port u f rtt).spine = s.spine := by
  simp [State.takePing]

/-! ### Curb -/

@[simp] theorem State.crbCmd_spine (s : State) (v : Nat) : (s.crbCmd v).spine = s.spine := by
  simp [State.crbCmd]

@[simp] theorem State.crbHb_spine (s : State) (v : Nat) : (s.crbHb v).spine = s.spine := by
  simp [State.crbHb]

@[simp] theorem State.safetyReset_spine (s : State) : s.safetyReset.spine = s.spine := by
  simp [State.safetyReset]

@[simp] theorem State.crbReset_spine (s : State) (v : Nat) : (s.crbReset v).spine = s.spine := by
  simp [State.crbReset]

@[simp] theorem State.sealRefuse_spine (s : State) (result : Nat) : (s.sealRefuse result).spine = s.spine := by
  simp [State.sealRefuse]

@[simp] theorem State.sealCheck_spine (s : State) : s.sealCheck.spine = s.spine := by
  simp [State.sealCheck]

@[simp] theorem State.crbSeal_spine (s : State) (v : Nat) : (s.crbSeal v).spine = s.spine := by
  simp [State.crbSeal]

@[simp] theorem State.crbTick_spine (s : State) : s.crbTick.spine = s.spine := by
  simp [State.crbTick]

/-! ### PtpOps -/

@[simp] theorem State.ptpEnter_spine (s : State) (st : Nat) : (s.ptpEnter st).spine = s.spine := by
  simp [State.ptpEnter]

@[simp] theorem State.setTime_spine (s : State) (t : Nat) : (s.setTime t).spine = s.spine := by
  simp [State.setTime]

@[simp] theorem State.cmpFire_spine (s : State) (k : Nat) : (s.cmpFire k).spine = s.spine := by
  simp [State.cmpFire]

@[simp] theorem State.cmpCheck_spine (s : State) : s.cmpCheck.spine = s.spine := by
  simp [State.cmpCheck, foldl_spine]

@[simp] theorem State.cmpArm_spine (s : State) (k : Nat) : (s.cmpArm k).spine = s.spine := by
  simp [State.cmpArm]

@[simp] theorem State.setRefofs_spine (s : State) (o : Int) : (s.setRefofs o).spine = s.spine := by
  simp [State.setRefofs]

@[simp] theorem State.ptpRefuse_spine (s : State) (f : Fld) : (s.ptpRefuse f).spine = s.spine := by
  simp [State.ptpRefuse]

@[simp] theorem State.ptpSample_spine (s : State) (o : Int) : (s.ptpSample o).spine = s.spine := by
  unfold State.ptpSample
  dsimp only
  repeat' split
  all_goals simp

@[simp] theorem State.timeAccept_spine (s : State) : s.timeAccept.spine = s.spine := by
  simp [State.timeAccept]

@[simp] theorem State.timeStep_spine (s : State) (d : Int) : (s.timeStep d).spine = s.spine := by
  simp [State.timeStep]

@[simp] theorem State.ptpBoundary_spine (s : State) : s.ptpBoundary.spine = s.spine := by
  unfold State.ptpBoundary
  dsimp only
  repeat' split
  all_goals simp

@[simp] theorem State.ptpTick_spine (s : State) : s.ptpTick.spine = s.spine := by
  simp [State.ptpTick]

@[simp] theorem State.ptpCtrl_spine (s : State) (old : Nat) : (s.ptpCtrl old).spine = s.spine := by
  simp [State.ptpCtrl]

@[simp] theorem State.tsqShow_spine (s : State) : s.tsqShow.spine = s.spine := by
  unfold State.tsqShow
  dsimp only
  split <;> simp

@[simp] theorem State.tsqPush_spine (s : State) (id t : Nat) : (s.tsqPush id t).spine = s.spine := by
  simp [State.tsqPush]

@[simp] theorem State.tsqPop_spine (s : State) : s.tsqPop.spine = s.spine := by
  simp [State.tsqPop]

@[simp] theorem State.tsqClr_spine (s : State) : s.tsqClr.spine = s.spine := by
  simp [State.tsqClr]

@[simp] theorem State.ptpStop_spine (s : State) : s.ptpStop.spine = s.spine := by
  simp [State.ptpStop]

@[simp] theorem State.ptpWake_spine (s : State) : s.ptpWake.spine = s.spine := by
  exact State.setTime_spine _ _

@[simp] theorem State.ptpReset_spine (s old : State) : (s.ptpReset old).spine = s.spine := by
  unfold State.ptpReset
  dsimp only
  split <;> simp

/-! ### EthOps -/

@[simp] theorem State.ethLatch_spine (s : State) : s.ethLatch.spine = s.spine := by
  simp [State.ethLatch]

@[simp] theorem State.ethQuiet_spine (s : State) : s.ethQuiet.spine = s.spine := by
  simp [State.ethQuiet]

@[simp] theorem State.ethSend_spine (s : State) (m : EthOut) : (s.ethSend m).spine = s.spine := by
  simp [State.ethSend]

@[simp] theorem State.rxDrop_spine (s : State) : s.rxDrop.spine = s.spine := by
  simp [State.rxDrop]

@[simp] theorem State.arpAsk_spine (s : State) (ip : Nat) : (s.arpAsk ip).spine = s.spine := by
  simp [State.arpAsk]

@[simp] theorem State.arpUse_spine (s : State) (ip : Nat) : (s.arpUse ip).2.spine = s.spine := by
  unfold State.arpUse
  split <;> simp

@[simp] theorem State.arpLearn_spine (s : State) (ip mac : Nat) : (s.arpLearn ip mac).spine = s.spine := by
  simp [State.arpLearn]

@[simp] theorem State.udpSend_spine (s : State) (ip dport : Nat) (payload : List Nat) :
    (s.udpSend ip dport payload).spine = s.spine := by
  simp [State.udpSend]

@[simp] theorem State.sendTelegram_spine (s : State) (type ip dport : Nat) (payload : List Nat) :
    (s.sendTelegram type ip dport payload).spine = s.spine := by
  simp [State.sendTelegram]

@[simp] theorem State.dispatchEth_spine (s : State) : s.dispatchEth.spine = s.spine := by
  simp [State.dispatchEth]

@[simp] theorem State.demand_spine (s : State) (b : List Nat) : (s.demand b).spine = s.spine := by
  simp [State.demand]

@[simp] theorem State.service_spine (s : State) (b : List Nat) : (s.service b).spine = s.spine := by
  simp [State.service]

@[simp] theorem State.txDrop_spine (s : State) (c : Core) (t : Nat) : (s.txDrop c t).spine = s.spine := by
  simp [State.txDrop]

@[simp] theorem State.txAdd_spine (s : State) (x : EthTx) : (s.txAdd x).spine = s.spine := by
  simp [State.txAdd]

@[simp] theorem State.txEnd_spine (s : State) (x : EthTx) (res t : Nat) : (s.txEnd x res t).spine = s.spine := by
  simp [State.txEnd]

@[simp] theorem State.txStop_spine (s : State) : s.txStop.spine = s.spine := by
  simp [State.txStop, foldl_spine]

@[simp] theorem State.ethWake_spine (s : State) : s.ethWake.spine = s.spine := by
  exact State.txStop_spine s

/-! ### EvtOps -/

@[simp] theorem State.claimEvt_spine (s : State) (c : Core) : (s.claimEvt c).2.spine = s.spine := by
  unfold State.claimEvt
  split <;> simp

@[simp] theorem State.doneEvt_spine (s : State) (c : Core) (n : Nat) : (s.doneEvt c n).spine = s.spine := by
  simp [State.doneEvt]

@[simp] theorem State.setEvt_spine (s : State) (k v : Nat) : (s.setEvt k v).spine = s.spine := by
  simp [State.setEvt, foldl_spine]

@[simp] theorem State.releaseEvents_spine (s : State) (c : Core) : (s.releaseEvents c).spine = s.spine := by
  simp [State.releaseEvents, foldl_spine]

@[simp] theorem State.arbUnit_spine (s : State) (cls u : Nat) : (s.arbUnit cls u).spine = s.spine := by
  unfold State.arbUnit
  dsimp only
  repeat' split
  all_goals simp

@[simp] theorem State.promoteAll_spine (s : State) (p : ArbPost → Bool) : (s.promoteAll p).spine = s.spine := by
  simp [State.promoteAll]

@[simp] theorem State.arbCycle_spine (s : State) (core : Bool) (posts : List ArbPost) (ended : List ArbPost) :
    (s.arbCycle core posts ended).spine = s.spine := by
  simp [State.arbCycle, foldl_spine]

@[simp] theorem State.takeLock_spine (s : State) (c : Core) (n : Nat) : (s.takeLock c n).spine = s.spine := by
  simp [State.takeLock]

@[simp] theorem State.freeLock_spine (s : State) (n : Nat) : (s.freeLock n).spine = s.spine := by
  simp [State.freeLock]

@[simp] theorem State.lockRefused_spine (s : State) (c : Core) (n kind : Nat) :
    (s.lockRefused c n kind).spine = s.spine := by
  simp [State.lockRefused]

@[simp] theorem State.dropLocks_spine (s : State) (c : Core) : (s.dropLocks c).spine = s.spine := by
  simp [State.dropLocks, foldl_spine]

@[simp] theorem State.lockLong_spine (s : State) (n : Nat) : (s.lockLong n).spine = s.spine := by
  simp [State.lockLong]

@[simp] theorem State.lockLimit_spine (s : State) (v : Nat) : (s.lockLimit v).spine = s.spine := by
  simp [State.lockLimit, foldl_spine]

/-! ### Fio -/

@[simp] theorem State.doDiag_spine (s : State) (f : Fld) (n : Nat) : (s.doDiag f n).spine = s.spine := by
  simp [State.doDiag]

@[simp] theorem State.writeDoset_spine (s : State) (v : Nat) : (s.writeDoset v).spine = s.spine := by
  unfold State.writeDoset
  dsimp only
  split <;> simp

@[simp] theorem State.wdRearm_spine (s : State) : s.wdRearm.spine = s.spine := by
  simp only [State.wdRearm, State.ite_spine, State.redriveDoor_spine, State.withFio_spine, State.put_spine, ite_self]

@[simp] theorem State.lsRelease_spine (s : State) (k : Nat) : (s.lsRelease k).spine = s.spine := by
  simp [State.lsRelease]

@[simp] theorem State.cntMatch_spine (s : State) (k : Nat) : (s.cntMatch k).spine = s.spine := by
  simp [State.cntMatch]

@[simp] theorem State.cntClr_spine (s : State) (k : Nat) : (s.cntClr k).spine = s.spine := by
  simp only [State.cntClr, State.withFio_spine, State.ite_spine, State.cntMatch_spine, State.set_spine, ite_self]

@[simp] theorem State.fioCmd_spine (s : State) (v : Nat) : (s.fioCmd v).spine = s.spine := by
  simp [State.fioCmd, foldl_spine]

@[simp] theorem State.fioWdKey_spine (s : State) (v : Nat) : (s.fioWdKey v).spine = s.spine := by
  unfold State.fioWdKey
  repeat' split
  all_goals rfl

@[simp] theorem State.fioTick_spine (s : State) (rb : Nat) : (s.fioTick rb).spine = s.spine := by
  have hwatch : ∀ (t : State) (n : Nat), (if t.flag (FIO_DOFLT.OFF_HIGH n) ∧ (t.on n = true ∨ bit rb n = false) then
      { (t.put (FIO_DOFLT.OFF_HIGH n) false) with fio := { t.fio with watch := clrBit t.fio.watch n } } else t : State).spine =
      t.spine := fun t n => by split <;> rfl
  simp only [State.fioTick, State.redrive_spine, State.put_spine, State.when_spine, State.mapFio_spine, State.ite_spine, ite_self]
  split
  · rw [foldl_spine fun t k => ?_]
    · exact foldl_spine hwatch _ _
    · split
      · exact State.raise_spine t _
      · rfl
  · exact foldl_spine hwatch _ _

@[simp] theorem State.tie_spine (s : State) (j m : Nat) : (s.tie j m).spine = s.spine := by
  simp [State.tie]

@[simp] theorem State.judgeWindow_spine (s : State) (m : Nat) (low high : BitVec 16) :
    (s.judgeWindow m low high).spine = s.spine := by
  simp [State.judgeWindow, foldl_spine]

@[simp] theorem State.filterTakes_spine (s : State) (n : Nat) (now : Bool) : (s.filterTakes n now).spine = s.spine := by
  simp [State.filterTakes]

/-! ### GgnOps -/

@[simp] theorem State.mapAxis_spine (s : State) (n : Nat) (g : GgnAxis → GgnAxis) :
    (s.mapAxis n g).spine = s.spine := by
  simp [State.mapAxis]

@[simp] theorem State.setMode_spine (s : State) (n m : Nat) : (s.setMode n m).spine = s.spine := by
  simp [State.setMode]

@[simp] theorem State.ggnIdle_spine (s : State) (n : Nat) : (s.ggnIdle n).spine = s.spine := by
  simp [State.ggnIdle]

@[simp] theorem State.ggnOwnStop_spine (s : State) (n : Nat) : (s.ggnOwnStop n).spine = s.spine := by
  simp [State.ggnOwnStop]

@[simp] theorem State.ggnBreak_spine (s : State) (n : Nat) : (s.ggnBreak n).spine = s.spine := by
  unfold State.ggnBreak
  dsimp only
  split <;> simp [foldl_spine]

@[simp] theorem State.ggnStop_spine (s : State) (n : Nat) : (s.ggnStop n).spine = s.spine := by
  unfold State.ggnStop
  dsimp only
  repeat' split
  all_goals simp [foldl_spine]

@[simp] theorem State.ggnIntegrate_spine (s : State) : s.ggnIntegrate.spine = s.spine := by
  have hlead : ∀ (t : State) (n : Nat), (if decide (1 ≤ t.ggnMode n ∧ t.ggnMode n ≤ 3) && !((t.axis n).follower n) then
      t.mapAxis n fun x => x.integrate n else t).spine = t.spine := fun t n => by split <;> simp
  refine (foldl_spine (fun t n => ?_) _ _).trans (foldl_spine hlead _ s)
  dsimp only
  repeat' split
  all_goals simp

@[simp] theorem State.ggnArrive_spine (s : State) : s.ggnArrive.1.spine = s.spine := by
  simp [State.ggnArrive, foldl_spine]

@[simp] theorem State.ggnLeaveSafe_spine (s : State) : s.ggnLeaveSafe.spine = s.spine := by
  simp [State.ggnLeaveSafe]

@[simp] theorem State.ggnSafe_spine (s : State) : s.ggnSafe.spine = s.spine := by
  simp [State.ggnSafe]

@[simp] theorem State.ggnBounds_spine (s : State) (lo hi : Int) : (s.ggnBounds lo hi).spine = s.spine := by
  unfold State.ggnBounds
  dsimp only
  repeat' split
  all_goals simp

@[simp] theorem State.ggnCmds_spine (s : State) (n : Nat) : (s.ggnCmds n).spine = s.spine := by
  simp [State.ggnCmds]

@[simp] theorem State.ggnLimits_spine (s : State) (n : Nat) : (s.ggnLimits n).spine = s.spine := by
  unfold State.ggnLimits
  dsimp only
  repeat' split
  all_goals simp

@[simp] theorem State.ggnTargets_spine (s : State) (n : Nat) : (s.ggnTargets n).spine = s.spine := by
  simp [State.ggnTargets, foldl_spine]

@[simp] theorem State.ggnGroup_spine (s : State) (k : Nat) : (s.ggnGroup k).spine = s.spine := by
  simp [State.ggnGroup, foldl_spine]

@[simp] theorem State.ggnClamp_spine (s : State) (n : Nat) (lo hi t : Int) :
    (s.ggnClamp n lo hi t).1.spine = s.spine := by
  unfold State.ggnClamp
  dsimp only
  repeat' split
  all_goals simp

@[simp] theorem State.ggnBegin_spine (s : State) (n : Nat) (t : Int) (segs : List GgnSeg) (link : Option GgnLink) :
    (s.ggnBegin n t segs link).spine = s.spine := by
  simp [State.ggnBegin]

@[simp] theorem State.ggnStart_spine (s : State) (n : Nat) (lo hi : Int) (m : GgnMove) :
    (s.ggnStart n lo hi m).spine = s.spine := by
  simp [State.ggnStart]

@[simp] theorem State.ggnStartLinked_spine (s : State) (lo hi : Int) (m : GgnMove) :
    (s.ggnStartLinked lo hi m).spine = s.spine := by
  unfold State.ggnStartLinked
  dsimp only
  split
  · rw [foldl_spine fun t e => by simp]
    exact foldl_fst_spine (fun x i => by simp) _ _
  · rw [foldl_spine fun t e => by simp]
    exact foldl_fst_spine (fun x i => by simp) _ _

@[simp] theorem State.ggnStarts_spine (s : State) (arrived : List Nat) (lo hi : Int) :
    (s.ggnStarts arrived lo hi).spine = s.spine := by
  unfold State.ggnStarts
  exact foldl_spine (fun t x => by split <;> simp) _ _

@[simp] theorem State.ggnShow_spine (s : State) (lo hi : Int) : (s.ggnShow lo hi).spine = s.spine := by
  simp [State.ggnShow, foldl_spine]

@[simp] theorem State.ggnTick_spine (s : State) : s.ggnTick.spine = s.spine := by
  simp [State.ggnTick, foldl_spine]

@[simp] theorem State.ggnDown_spine (s : State) : s.ggnDown.spine = s.spine := by
  simp [State.ggnDown, foldl_spine]

/-! ### Hvm -/

@[simp] theorem State.srsSample_spine (s : State) (i : Option Int) : (s.srsSample i).spine = s.spine := by
  simp [State.srsSample]

@[simp] theorem State.protSample_spine (s : State) (p : ProtSample) : (s.protSample p).spine = s.spine := by
  unfold State.protSample
  dsimp only
  split <;> simp

@[simp] theorem State.overload_spine (s : State) (on : Bool) : (s.overload on).spine = s.spine := by
  simp [State.overload]

@[simp] theorem State.aliveTrip_spine (s : State) : s.aliveTrip.spine = s.spine := by
  simp [State.aliveTrip]

@[simp] theorem State.rangeCheck_spine (s : State) (hi lo : Option Int) : (s.rangeCheck hi lo).spine = s.spine := by
  unfold State.rangeCheck
  repeat' split
  all_goals rfl

@[simp] theorem State.countCharge_spine (s : State) (i : Option Int) : (s.countCharge i).spine = s.spine := by
  simp [State.countCharge]

@[simp] theorem State.zeroSample_spine (s : State) (nv : Option Int) : (s.zeroSample nv).spine = s.spine := by
  simp [State.zeroSample]

@[simp] theorem State.zeroStart_spine (s : State) : s.zeroStart.spine = s.spine := by
  simp [State.zeroStart]

@[simp] theorem State.setVolts_spine (s : State) (b l m : Option Nat) : (s.setVolts b l m).spine = s.spine := by
  simp [State.setVolts]

@[simp] theorem State.voltCheck_spine (s : State) (b l m : Int) : (s.voltCheck b l m).spine = s.spine := by
  simp [State.voltCheck]

@[simp] theorem State.pchEnter_spine (s : State) (st reason : Nat) : (s.pchEnter st reason).spine = s.spine := by
  simp [State.pchEnter]

@[simp] theorem State.pchAbort_spine (s : State) : s.pchAbort.spine = s.spine := by
  simp [State.pchAbort]

@[simp] theorem State.pchArm_spine (s : State) : s.pchArm.spine = s.spine := by
  unfold State.pchArm
  dsimp only
  repeat' split
  all_goals simp

@[simp] theorem State.pchAsk_spine (s : State) (req : Nat) : (s.pchAsk req).spine = s.spine := by
  simp [State.pchAsk]

@[simp] theorem State.pchSample_spine (s : State) : s.pchSample.spine = s.spine := by
  unfold State.pchSample
  dsimp only
  repeat' split
  all_goals simp

@[simp] theorem State.divStop_spine (s : State) : s.divStop.spine = s.spine := by
  simp [State.divStop]

@[simp] theorem State.diversity_spine (s : State) (hall : Int) : (s.diversity hall).spine = s.spine := by
  unfold State.diversity
  dsimp only
  repeat' split
  all_goals simp

@[simp] theorem State.divWaiting_spine (s : State) : s.divWaiting.spine = s.spine := by
  simp [State.divWaiting, foldl_spine]

@[simp] theorem State.hvmCtrl_spine (s : State) (v : Nat) : (s.hvmCtrl v).spine = s.spine := by
  simp [State.hvmCtrl]

@[simp] theorem State.hvmHallgain_spine (s : State) (v : Nat) : (s.hvmHallgain v).spine = s.spine := by
  simp [State.hvmHallgain]

@[simp] theorem State.hvInvalid_spine (s : State) : s.hvInvalid.spine = s.spine := by
  simp [State.hvInvalid]

@[simp] theorem State.isoInvalid_spine (s : State) : s.isoInvalid.spine = s.spine := by
  simp [State.isoInvalid]

@[simp] theorem State.hvLost_spine (s : State) : s.hvLost.spine = s.spine := by
  simp [State.hvLost]

@[simp] theorem State.hvDown_spine (s : State) : s.hvDown.spine = s.spine := by
  simp [State.hvDown]

@[simp] theorem State.rangeReset_spine (s : State) : s.rangeReset.spine = s.spine := by
  simp [State.rangeReset]

@[simp] theorem State.qClr_spine (s : State) : s.qClr.spine = s.spine := by
  simp [State.qClr]

@[simp] theorem State.hvmCmd_spine (s : State) (v : Nat) : (s.hvmCmd v).spine = s.spine := by
  simp [State.hvmCmd]

@[simp] theorem State.qloRead_spine (s : State) : s.qloRead.2.spine = s.spine := by
  simp [State.qloRead]

@[simp] theorem State.qhiRead_spine (s : State) : s.qhiRead.2.spine = s.spine := by
  simp [State.qhiRead]

/-! ### Nvm -/

@[simp] theorem State.spoil_spine (s : State) (a n : Nat) : (s.spoil a n).spine = s.spine := by
  simp [State.spoil, foldl_spine]

@[simp] theorem State.commitResult_spine (s : State) (c : Commit) (res status val : Nat) :
    (s.commitResult c res status val).spine = s.spine := by
  unfold State.commitResult
  dsimp only
  split <;> simp

@[simp] theorem State.commitBegin_spine (s : State) (c : Commit) : (s.commitBegin c).spine = s.spine := by
  unfold State.commitBegin
  dsimp only
  repeat' split
  all_goals simp

@[simp] theorem State.frameDone_spine (s : State) (settings : Bool) (c : Commit) (fmt : Nat) :
    (s.frameDone settings c fmt).1.spine = s.spine := by
  simp [State.frameDone]

@[simp] theorem State.bootWrite_spine (s : State) (body : List Nat) : (s.bootWrite body).spine = s.spine := by
  unfold State.bootWrite
  split <;> simp

@[simp] theorem State.commitWrite_spine (s : State) (c : Commit) : (s.commitWrite c).1.spine = s.spine := by
  unfold State.commitWrite
  split
  · exact State.frameDone_spine s _ _ _
  · exact State.frameDone_spine s _ _ _
  · exact State.frameDone_spine s _ _ _
  all_goals simp only [State.ite_spine, State.enqueue_spine, State.mapNvm_spine, State.setBytes_spine, State.bootWrite_spine,
    ite_self]

@[simp] theorem State.finishRunning_spine (s : State) : s.finishRunning.spine = s.spine := by
  unfold State.finishRunning
  split <;> simp

@[simp] theorem State.loadTest_spine (s : State) : s.loadTest.spine = s.spine := by
  simp [State.loadTest]

@[simp] theorem State.nvmCmd_spine (s : State) (v : Nat) : (s.nvmCmd v).spine = s.spine := by
  simp [State.nvmCmd]

@[simp] theorem State.logCmd_spine (s : State) (v : Nat) : (s.logCmd v).spine = s.spine := by
  simp [State.logCmd]

@[simp] theorem State.scanFrame_spine (s : State) (settings : Bool) (i : Nat) :
    (s.scanFrame settings i).spine = s.spine := by
  simp [State.scanFrame]

@[simp] theorem State.scanLog_spine (s : State) : s.scanLog.spine = s.spine := by
  simp [State.scanLog]

@[simp] theorem State.scanCounters_spine (s : State) : s.scanCounters.spine = s.spine := by
  unfold State.scanCounters
  split <;> simp

@[simp] theorem State.bootScan_spine (s : State) : s.bootScan.spine = s.spine := by
  simp [State.bootScan, foldl_spine]

/-! ### UpdOps -/

@[simp] theorem State.mapBoot_spine (s : State) (g : BootRec → BootRec) : (s.mapBoot g).spine = s.spine := by
  simp [State.mapBoot]

@[simp] theorem State.commitBoot_spine (s : State) : s.commitBoot.spine = s.spine := by
  simp [State.commitBoot]

@[simp] theorem State.setMap_spine (s : State) (base i : Nat) : (s.setMap base i).spine = s.spine := by
  simp [State.setMap]

@[simp] theorem State.clearMaps_spine (s : State) : s.clearMaps.spine = s.spine := by
  simp [State.clearMaps]

@[simp] theorem State.recvShow_spine (s : State) : s.recvShow.spine = s.spine := by
  simp [State.recvShow]

@[simp] theorem State.updEnd_spine (s : State) (res : Nat) : (s.updEnd res).spine = s.spine := by
  simp [State.updEnd]

@[simp] theorem State.updRes_spine (s : State) (res : Nat) : (s.updRes res).spine = s.spine := by
  simp [State.updRes]

@[simp] theorem State.updBegin_spine (s : State) : s.updBegin.spine = s.spine := by
  simp [State.updBegin]

@[simp] theorem State.updProg_spine (s : State) : s.updProg.spine = s.spine := by
  simp [State.updProg]

@[simp] theorem State.updProgram_spine (s : State) (b : Nat) (ok : Bool) : (s.updProgram b ok).spine = s.spine := by
  simp [State.updProgram]

@[simp] theorem State.tearProg_spine (s : State) : s.tearProg.spine = s.spine := by
  unfold State.tearProg
  dsimp only
  split <;> simp [foldl_spine]

@[simp] theorem State.updVerify_spine (s : State) : s.updVerify.spine = s.spine := by
  simp [State.updVerify]

@[simp] theorem State.updVerified_spine (s : State) : s.updVerified.spine = s.spine := by
  simp [State.updVerified]

@[simp] theorem State.updArm_spine (s : State) : s.updArm.spine = s.spine := by
  simp [State.updArm]

@[simp] theorem State.updConfirm_spine (s : State) : s.updConfirm.spine = s.spine := by
  simp [State.updConfirm]

@[simp] theorem State.updAbort_spine (s : State) : s.updAbort.spine = s.spine := by
  simp [State.updAbort]

@[simp] theorem State.updCmd_spine (s : State) (v : Nat) : (s.updCmd v).spine = s.spine := by
  simp [State.updCmd]

@[simp] theorem State.trialSecond_spine (s : State) : s.trialSecond.spine = s.spine := by
  simp [State.trialSecond]

@[simp] theorem State.updReceive_spine (s : State) (b : List Nat) : (s.updReceive b).spine = s.spine := by
  unfold State.updReceive
  split <;> simp

@[simp] theorem State.snapItems_spine (s : State) : s.snapItems.spine = s.spine := by
  unfold State.snapItems
  exact foldl_spine (fun t x => by dsimp only; split <;> simp) _ _

@[simp] theorem State.restoreItems_spine (s : State) : s.restoreItems.spine = s.spine := by
  simp [State.restoreItems, foldl_spine]

@[simp] theorem State.bootRead_spine (s : State) : s.bootRead.spine = s.spine := by
  unfold State.bootRead
  split <;> simp

@[simp] theorem State.bootStart_spine (s : State) (k : Nat) (trial : Bool) : (s.bootStart k trial).spine = s.spine := by
  simp [State.bootStart, foldl_spine]

@[simp] theorem State.bootFallback_spine (s : State) : s.bootFallback.spine = s.spine := by
  simp [State.bootFallback]

@[simp] theorem State.bootChoose_spine (s : State) : s.bootChoose.2.spine = s.spine := by
  unfold State.bootChoose
  dsimp only
  repeat' split
  all_goals simp

/-! ### SysOps -/

@[simp] theorem State.herdClk_spine (s : State) : s.herdClk.spine = s.spine := by
  simp [State.herdClk]

@[simp] theorem State.herdUp_spine (s : State) : s.herdUp.spine = s.spine := by
  simp [State.herdUp]

@[simp] theorem State.orphan_spine (s : State) (c : Core) : (s.orphan c).spine = s.spine := by
  simp only [State.orphan, State.withDma_spine, State.setJobs_spine, State.mapNvm_spine, State.mapChn_spine, State.mapEth_spine,
    State.mapCan_spine]

@[simp] theorem State.coreDown_spine (s : State) (c : Core) : (s.coreDown c).spine = s.spine := by
  simp [State.coreDown]

@[simp] theorem State.coreUp_spine (s : State) (c : Core) : (s.coreUp c).spine = s.spine := by
  simp [State.coreUp]

@[simp] theorem State.resetBut_spine (s : State) (lo hi : Nat) (keep : Nat → Bool) :
    (s.resetBut lo hi keep).spine = s.spine := by
  rfl

@[simp] theorem State.ggnWake_spine (s : State) : s.ggnWake.spine = s.spine := by
  rfl

@[simp] theorem State.paddockDown_spine (s : State) : s.paddockDown.spine = s.spine := by
  simp only [State.paddockDown, State.when_spine, State.set_spine, State.put_spine, State.mapPower_spine, State.mapSys_spine,
    State.ptpStop_spine, foldl_spine fun (t : State) (j : DmaJob) => State.complete_spine t j.core j.tag 0 3 0,
    State.withDma_spine, State.txStop_spine, State.canAbortAll_spine, State.mapCrb_spine, State.ggnDown_spine,
    State.hvDown_spine, State.chainDown_spine, State.herdDown_spine, State.coreDown_spine, State.tearProg_spine, ite_self]

@[simp] theorem State.loseRam_spine (s : State) : s.loseRam.spine = s.spine := by
  simp [State.loseRam]

@[simp] theorem State.groomRecord_spine (s : State) : s.groomRecord.spine = s.spine := by
  unfold State.groomRecord
  split <;> simp

@[simp] theorem State.wakeRiders_spine (s : State) : s.wakeRiders.spine = s.spine := by
  simp [State.wakeRiders]

@[simp] theorem State.gaitRequest_spine (s : State) (c : Core) (target : Nat) :
    (s.gaitRequest c target).spine = s.spine := by
  unfold State.gaitRequest
  dsimp only
  repeat' split
  all_goals simp

@[simp] theorem State.estFreeze_spine (s : State) : s.estFreeze.spine = s.spine := by
  simp [State.estFreeze]

@[simp] theorem State.estThaw_spine (s : State) : s.estThaw.spine = s.spine := by
  unfold State.estThaw
  split <;> simp

@[simp] theorem State.estRetain_spine (s : State) : s.estRetain.spine = s.spine := by
  simp [State.estRetain]

@[simp] theorem State.transNext_spine (s : State) (n : Nat) (latched : Bool) :
    (s.transNext n latched).spine = s.spine := by
  unfold State.transNext
  dsimp only
  repeat' split
  all_goals simp

/-! ### TdmOps -/

@[simp] theorem State.setDue_spine (s : State) (c : Core) (v : Bool) : (s.setDue c v).spine = s.spine := by
  unfold State.setDue
  split <;> simp

@[simp] theorem State.countTick_spine (s : State) (c : Core) : (s.countTick c).spine = s.spine := by
  simp [State.countTick]

@[simp] theorem State.takeDigest_spine (s : State) (k : Nat) : (s.takeDigest k).spine = s.spine := by
  simp [State.takeDigest]

@[simp] theorem State.showMirror_spine (s : State) : s.showMirror.spine = s.spine := by
  simp [State.showMirror]

@[simp] theorem State.sendBundle_spine (s : State) (k : Nat) (v : List (Nat × Nat)) (planned : Bool) :
    (s.sendBundle k v planned).spine = s.spine := by
  simp [State.sendBundle]

@[simp] theorem State.boundaryDone_spine (s : State) : s.boundaryDone.spine = s.spine := by
  simp [State.boundaryDone]

@[simp] theorem State.assertClaim_spine (s : State) : s.assertClaim.spine = s.spine := by
  simp [State.assertClaim]

@[simp] theorem State.dropRemote_spine (s : State) (c : Core) : (s.dropRemote c).spine = s.spine := by
  unfold State.dropRemote
  exact foldl_spine (fun t x => by split <;> simp) _ _

@[simp] theorem State.takeOver_spine (s : State) : s.takeOver.spine = s.spine := by
  simp [State.takeOver]

@[simp] theorem State.ringFromView_spine (s : State) : s.ringFromView.spine = s.spine := by
  simp [State.ringFromView, foldl_spine]

@[simp] theorem State.originTick_spine (s : State) : s.originTick.spine = s.spine := by
  simp [State.originTick]

@[simp] theorem State.feed_spine (s : State) : s.feed.spine = s.spine := by
  simp [State.feed]

@[simp] theorem State.tdmOff_spine (s : State) : s.tdmOff.spine = s.spine := by
  simp [State.tdmOff]

@[simp] theorem State.tdmTick_spine (s : State) : s.tdmTick.spine = s.spine := by
  unfold State.tdmTick
  dsimp only
  split <;> simp

@[simp] theorem State.replayFrame_spine (s : State) (b : BundleFrame) : (s.replayFrame b).spine = s.spine := by
  simp [State.replayFrame]

@[simp] theorem State.replayPost_spine (s : State) (sw : Nat) : (s.replayPost sw).spine = s.spine := by
  simp [State.replayPost]

@[simp] theorem State.replayStop_spine (s : State) (i status : Nat) : (s.replayStop i status).spine = s.spine := by
  unfold State.replayStop
  split <;> simp

@[simp] theorem State.replayDispatch_spine (s : State) (i : Nat) : (s.replayDispatch i).spine = s.spine := by
  unfold State.replayDispatch
  split <;> simp

@[simp] theorem State.replayTag_spine (s : State) (e : Core × Nat × Nat × Nat) : (s.replayTag e).spine = s.spine := by
  unfold State.replayTag
  dsimp only
  split <;> simp

@[simp] theorem State.dropHeldEvents_spine (s : State) : s.dropHeldEvents.spine = s.spine := by
  simp [State.dropHeldEvents]

@[simp] theorem State.returnDigest_spine (s : State) (k : Nat) : (s.returnDigest k).spine = s.spine := by
  simp [State.returnDigest]

@[simp] theorem State.heard_spine (s : State) : s.heard.spine = s.spine := by
  simp [State.heard]

/-! ### Tdm -/

@[simp] theorem State.waitTick_spine (s : State) (c : Core) : (s.waitTick c).spine = s.spine := by
  unfold State.waitTick
  split <;> simp

@[simp] theorem State.tdmCtrl_spine (s : State) (v : Nat) : (s.tdmCtrl v).spine = s.spine := by
  simp [State.tdmCtrl]

@[simp] theorem State.tdmCmd_spine (s : State) (v : Nat) : (s.tdmCmd v).spine = s.spine := by
  simp [State.tdmCmd]

@[simp] theorem State.claimRef_spine (s : State) (v : Nat) : (s.claimRef v).spine = s.spine := by
  simp [State.claimRef]

@[simp] theorem State.snapFail_spine (s : State) : s.snapFail.spine = s.spine := by
  simp [State.snapFail]

/-! ### Sys -/

@[simp] theorem State.toRc_spine (s : State) : s.toRc.spine = s.spine := by
  simp [State.toRc]

@[simp] theorem State.putLock_spine (s : State) (p : Fin 6) (b : Bool) : (s.putLock p b).spine = s.spine := by
  unfold State.putLock
  split <;> simp

@[simp] theorem State.sysWdKey_spine (s : State) (v : Nat) : (s.sysWdKey v).spine = s.spine := by
  simp [State.sysWdKey]

/-! ### Bus -/

@[simp] theorem State.storeFld_spine (s : State) (bad : List Nat) (w : Nat) (f : Fld) :
    (s.storeFld bad w f).spine = s.spine := by
  unfold State.storeFld
  split <;> simp

@[simp] theorem State.storeFields_spine (s : State) (a w : Nat) : (s.storeFields a w).spine = s.spine := by
  simp [State.storeFields, foldl_spine]

theorem State.ggnStore_spine (s : State) (a w : Nat) {d : State} (hd : d.spine = s.spine) :
    ((s.ggnStore a w).getD d).spine = s.spine := by
  simp [State.ggnStore, getD_ite_spine, hd]

theorem State.storeCan_spine (s : State) (x a w : Nat) {d : State} (hd : d.spine = s.spine) :
    ((s.storeCan x a w).getD d).spine = s.spine := by
  unfold State.storeCan
  extract_lets off init base n r guarded old
  have hreq : ∀ (t : State) (b : Nat), (t.canRequest x (8 * (off - 0x40) + b) none).spine = t.spine := fun t b =>
    State.canRequest_spine t x _ none
  have hnew : ∀ (t : State) (b : Nat), (t.canNew x (8 * (off - 0x80) + b) false).spine = t.spine := fun t b =>
    State.canNew_spine t x _ false
  refine spine_getD_ite (spine_getD_some (by simp)) <| spine_getD_ite (spine_getD_some (by simp)) <| spine_getD_ite ?_ <|
    spine_getD_ite (spine_getD_some (foldl_spine hreq _ s)) <|
    spine_getD_ite (spine_getD_some (State.canAbortSome_spine s x 4 _)) <|
    spine_getD_ite (spine_getD_some (foldl_spine hnew _ s)) <| spine_getD_ite ?_ hd
  · exact spine_getD_ite hd (spine_getD_ite hd (spine_getD_some (State.put_spine s _ _)))
  · exact spine_getD_ite (spine_getD_some (State.put_spine s _ _)) <| spine_getD_ite (spine_getD_some (by simp)) <|
      spine_getD_ite (spine_getD_some (by simp)) <| spine_getD_ite (spine_getD_some rfl) hd

theorem State.storeAct3_spine (s : State) (a w : Nat) {d : State} (hd : d.spine = s.spine) :
    ((s.storeAct3 a w).getD d).spine = s.spine := by
  simp [State.storeAct3, getD_ite_spine, hd]

@[simp] theorem State.noteWrite_spine (s : State) (c : Core) (a : Nat) : (s.noteWrite c a).spine = s.spine := by
  unfold State.noteWrite
  repeat' split
  all_goals rfl

theorem State.loadAct_spine (s : State) (a v : Nat) : ((s.loadAct a).getD (v, s)).2.spine = s.spine := by
  unfold State.loadAct
  repeat' split
  all_goals simp

@[simp] theorem State.regLoad_spine (s : State) (c : Core) (a : Nat) : (s.regLoad c a).2.spine = s.spine := by
  unfold State.regLoad
  split
  · rfl
  · exact State.loadAct_spine s a _

/-! ### Flags -/

@[simp] theorem State.setFlags_spine (s : State) (k : Core) (z n c v : Bool) :
    (s.setFlags k z n c v).spine = s.spine := by
  simp [State.setFlags]

@[simp] theorem State.addFlags_spine (s : State) (k : Core) (a b r : Word) : (s.addFlags k a b r).spine = s.spine := by
  simp [State.addFlags]

@[simp] theorem State.subFlags_spine (s : State) (k : Core) (a b r : Word) : (s.subFlags k a b r).spine = s.spine := by
  simp [State.subFlags]

@[simp] theorem State.resultFlags_spine (s : State) (k : Core) (x1 x2 r : Word) :
    (s.resultFlags k x1 x2 r).spine = s.spine := by
  exact State.setFlags_spine s k _ _ _ _

/-! ### CoreOps -/

@[simp] theorem State.doubleFault_spine (s : State) (c : Core) (ecause eval : Word) :
    (s.doubleFault c ecause eval).spine = s.spine := by
  unfold State.doubleFault
  split <;> simp

@[simp] theorem State.eccSeen_spine (s : State) (c : Core) : (s.eccSeen c).spine = s.spine := by
  simp [State.eccSeen]

@[simp] theorem State.loadAt_spine (s : State) (c : Core) (n a : Nat) : (s.loadAt c n a).2.spine = s.spine := by
  unfold State.loadAt
  split <;> simp

/-! ### Can -/

@[simp] theorem State.canGood_spine (s : State) (x : Nat) (sent : Bool) : (s.canGood x sent).spine = s.spine := by
  simp [State.canGood]

@[simp] theorem State.canDelay_spine (s : State) (x : Nat) (brs : Bool) : (s.canDelay x brs).spine = s.spine := by
  simp [State.canDelay]

/-! ### IssueOps -/

@[simp] theorem State.opRefused_spine (s : State) (c : Core) (t : Nat) (m : Master) (k : Access) (r : Nat × Nat)
    (val : Nat) : (s.opRefused c t m k r val).spine = s.spine := by
  simp [State.opRefused]

@[simp] theorem State.chxGo_spine (s : State) (c : Core) (d : Desc) (t : Nat) : (s.chxGo c d t).spine = s.spine := by
  unfold State.chxGo
  dsimp only
  split <;> simp

@[simp] theorem State.jobGo_spine (s : State) (c : Core) (d : Desc) (t : Nat) : (s.jobGo c d t).spine = s.spine := by
  simp [State.jobGo]

@[simp] theorem State.nvcGo_spine (s : State) (c : Core) (d : Desc) (t : Nat) : (s.nvcGo c d t).spine = s.spine := by
  simp [State.nvcGo]

@[simp] theorem State.setDma_spine (s : State) (ch : Nat) (l : List DmaJob) : (s.setDma ch l).spine = s.spine := by
  rfl

@[simp] theorem State.dmaLoad_spine (s : State) (a : Nat) : (s.dmaLoad a).2.spine = s.spine := by
  unfold State.dmaLoad
  split <;> simp

@[simp] theorem State.canCopy_spine (s : State) (x n a len : Nat) : (s.canCopy x n a len).spine = s.spine := by
  simp [State.canCopy, foldl_spine]

@[simp] theorem State.canTxf_spine (s : State) (c : Core) (d : Desc) (t : Nat) : (s.canTxf c d t).spine = s.spine := by
  unfold State.canTxf
  dsimp only
  split <;> simp

@[simp] theorem State.ethTxf_spine (s : State) (c : Core) (d : Desc) (t : Nat) : (s.ethTxf c d t).spine = s.spine := by
  unfold State.ethTxf
  dsimp only
  split <;> simp

/-! ### CrOps -/

@[simp] theorem State.readCr_spine (s : State) (c : Core) (n : Nat) : (s.readCr c n).2.spine = s.spine := by
  unfold State.readCr
  dsimp only
  repeat' split
  all_goals simp

@[simp] theorem State.writeCr_spine (s : State) (c : Core) (n : Nat) (v : Word) :
    (s.writeCr c n v).spine = s.spine := by
  simp [State.writeCr]

/-! ### Thermal -/

@[simp] theorem State.showRate_spine (s : State) : s.showRate.spine = s.spine := by
  simp [State.showRate]

@[simp] theorem State.thmRate_spine (s : State) : s.thmRate.spine = s.spine := by
  simp [State.thmRate]

@[simp] theorem State.thmShow_spine (s : State) (rs hv : List (Option Int)) : (s.thmShow rs hv).spine = s.spine := by
  simp [State.thmShow, foldl_spine]

@[simp] theorem State.throttle_spine (s : State) : s.throttle.spine = s.spine := by
  simp [State.throttle]

@[simp] theorem State.dieUnknown_spine (s : State) : s.dieUnknown.spine = s.spine := by
  simp [State.dieUnknown]

/-! ### Step -/

@[simp] theorem State.withFetchWord_spine (s : State) (nbits w : Nat) : (s.withFetchWord nbits w).spine = s.spine := by
  unfold State.withFetchWord decodeTableWord
  rfl

/-! ### Safety -/

@[simp] theorem State.fetched_spine (s : State) (f : Fetch) : (s.fetched f).spine = s.spine := by
  simp [State.fetched]

end Sys2Proof.Machine
end


section
/-! SUPPORT. The commands that keep the spine, one lemma for each, in the order of the model. -/

namespace Sys2Proof.Machine
open Sys2Proof Sys2Proof.Reg

/-! ### EstOps -/

@[simp] theorem execParamCheck_spine (s : State) : spineAfter (execParamCheck s) = some s.spine := by
  simp [execParamCheck]

@[simp] theorem execLimitHoldExpiry_spine (s : State) : spineAfter (execLimitHoldExpiry s) = some s.spine := by
  simp [execLimitHoldExpiry]

@[simp] theorem execLedgerSnapshot_spine (s : State) : spineAfter (execLedgerSnapshot s) = some s.spine := by
  unfold execLedgerSnapshot
  dsimp only
  split <;> simp [foldl_spine]

/-! ### Prt -/

@[simp] theorem execPrtCommit_spine (s : State) : spineAfter (execPrtCommit s) = some s.spine := by
  simp [execPrtCommit]

@[simp] theorem execCrbCopyCheck_spine (agree : Bool) (s : State) :
    spineAfter (execCrbCopyCheck agree s) = some s.spine := by
  simp [execCrbCopyCheck]

@[simp] theorem execHvCopyEcho_spine (agree : Bool) (s : State) :
    spineAfter (execHvCopyEcho agree s) = some s.spine := by
  simp [execHvCopyEcho]

@[simp] theorem execUnitCopyReadback_spine (u : BitVec 6) (vth fcfg : Word) (s : State) :
    spineAfter (execUnitCopyReadback u vth fcfg s) = some s.spine := by
  unfold execUnitCopyReadback
  dsimp only
  split <;> simp

@[simp] theorem execSweepWatchdogExpiry_spine (s : State) : spineAfter (execSweepWatchdogExpiry s) = some s.spine := by
  simp [execSweepWatchdogExpiry]

/-! ### Units -/

@[simp] theorem execEnumClear_spine (h : Hop) (s : State) : spineAfter (execEnumClear h s) = some s.spine := by
  simp [execEnumClear]

@[simp] theorem execEnumAssignUp_spine (h : Hop) (count flags : BitVec 8) (s : State) :
    spineAfter (execEnumAssignUp h count flags s) = some s.spine := by
  simp [execEnumAssignUp]

@[simp] theorem execEnumAssignDown_spine (h : Hop) (count flags : BitVec 8) (s : State) :
    spineAfter (execEnumAssignDown h count flags s) = some s.spine := by
  simp [execEnumAssignDown]

@[simp] theorem execEnumVerifyDown_spine (h : Hop) (count flags : BitVec 8) (s : State) :
    spineAfter (execEnumVerifyDown h count flags s) = some s.spine := by
  simp [execEnumVerifyDown]

@[simp] theorem execPing_spine (h : Hop) (s : State) : spineAfter (execPing h s) = some s.spine := by
  simp [execPing]

@[simp] theorem execSync_spine (p : Side) (k : Head) (sweep : BitVec 8) (next : BitVec 16) (s : State) :
    spineAfter (execSync p k sweep next s) = some s.spine := by
  simp [execSync]

@[simp] theorem execUnitLatch_spine (u : BitVec 6) (f : UnitFrame) (s : State) :
    spineAfter (execUnitLatch u f s) = some s.spine := by
  simp [execUnitLatch]

@[simp] theorem execReadBlock_spine (h : Hop) (sweep : BitVec 8) (s : State) :
    spineAfter (execReadBlock h sweep s) = some s.spine := by
  simp [execReadBlock]

@[simp] theorem execReadReg_spine (h : Hop) (index count : BitVec 8) (s : State) :
    spineAfter (execReadReg h index count s) = some s.spine := by
  simp [execReadReg]

@[simp] theorem execWriteReg_spine (p : Side) (k : Head) (index : BitVec 8) (words : List Word) (s : State) :
    spineAfter (execWriteReg p k index words s) = some s.spine := by
  simp [execWriteReg]

@[simp] theorem execBleedSet_spine (p : Side) (k : Head) (mask : BitVec 16) (s : State) :
    spineAfter (execBleedSet p k mask s) = some s.spine := by
  simp [execBleedSet]

@[simp] theorem execOwt_spine (h : Hop) (s : State) : spineAfter (execOwt h s) = some s.spine := by
  simp [execOwt]

@[simp] theorem execOwtUnitResponse_spine (u : BitVec 6) (opened : Word) (dv : List (BitVec 16)) (s : State) :
    spineAfter (execOwtUnitResponse u opened dv s) = some s.spine := by
  simp [execOwtUnitResponse]

@[simp] theorem execExcite_spine (p : Side) (k : Head) (mask : BitVec 16) (start chip reps : BitVec 8) (s : State) :
    spineAfter (execExcite p k mask start chip reps s) = some s.spine := by
  simp [execExcite]

@[simp] theorem execExciteChip_spine (u : BitVec 6) (s : State) : spineAfter (execExciteChip u s) = some s.spine := by
  simp [execExciteChip]

@[simp] theorem execFaultAck_spine (p : Side) (k : Head) (s : State) :
    spineAfter (execFaultAck p k s) = some s.spine := by
  simp [execFaultAck]

@[simp] theorem execSleep_spine (h : Hop) (s : State) : spineAfter (execSleep h s) = some s.spine := by
  simp [execSleep]

@[simp] theorem execWakeTone_spine (w : Tone) (s : State) : spineAfter (execWakeTone w s) = some s.spine := by
  simp [execWakeTone]

@[simp] theorem execUnitLossOfLock_spine (u : BitVec 6) (c : LockChange) (s : State) :
    spineAfter (execUnitLossOfLock u c s) = some s.spine := by
  simp [execUnitLossOfLock]

@[simp] theorem execUnitAutoSleep_spine (u : BitVec 6) (s : State) :
    spineAfter (execUnitAutoSleep u s) = some s.spine := by
  simp [execUnitAutoSleep]

@[simp] theorem execBleedTimeout_spine (u : BitVec 6) (s : State) :
    spineAfter (execBleedTimeout u s) = some s.spine := by
  simp [execBleedTimeout]

@[simp] theorem execBleedQuietStart_spine (u : BitVec 6) (s : State) :
    spineAfter (execBleedQuietStart u s) = some s.spine := by
  simp [execBleedQuietStart]

@[simp] theorem execBleedQuietEnd_spine (u : BitVec 6) (s : State) :
    spineAfter (execBleedQuietEnd u s) = some s.spine := by
  simp [execBleedQuietEnd]

@[simp] theorem execBleedRestoreTimeout_spine (u : BitVec 6) (s : State) :
    spineAfter (execBleedRestoreTimeout u s) = some s.spine := by
  simp [execBleedRestoreTimeout]

@[simp] theorem execUnitFaultEmit_spine (u : BitVec 6) (ov uv : Bool) (s : State) :
    spineAfter (execUnitFaultEmit u ov uv s) = some s.spine := by
  simp [execUnitFaultEmit]

@[simp] theorem execUnitFaultRepeat_spine (u : BitVec 6) (s : State) :
    spineAfter (execUnitFaultRepeat u s) = some s.spine := by
  simp [execUnitFaultRepeat]

@[simp] theorem execFaultForward_spine (u : BitVec 6) (south : Bool) (s : State) :
    spineAfter (execFaultForward u south s) = some s.spine := by
  simp [execFaultForward]

/-! ### Cel -/

@[simp] theorem execCellsWriteResponse_spine (u : BitVec 6) (nak : Bool) (s : State) :
    spineAfter (execCellsWriteResponse u nak s) = some s.spine := by
  simp [execCellsWriteResponse]

@[simp] theorem execCellsWriteTimeout_spine (u : BitVec 6) (s : State) :
    spineAfter (execCellsWriteTimeout u s) = some s.spine := by
  simp [execCellsWriteTimeout]

@[simp] theorem execOwtSchedule_spine (s : State) : spineAfter (execOwtSchedule s) = some s.spine := by
  unfold execOwtSchedule
  dsimp only
  repeat' split
  all_goals simp

@[simp] theorem execOwtResponseReceived_spine (a : Arrival) (s : State) :
    spineAfter (execOwtResponseReceived a s) = some s.spine := by
  refine congrArg some (State.engineRx_spine s _ _ fun t => ?_)
  split
  · exact State.discard_spine t _ _
  · split
    · rfl
    · split
      · rfl
      · dsimp only
        repeat' split
        all_goals simp

@[simp] theorem execOwtRetry_spine (s : State) : spineAfter (execOwtRetry s) = some s.spine := by
  unfold execOwtRetry
  dsimp only
  split <;> simp

@[simp] theorem execOwtDeadline_spine (u : BitVec 6) (s : State) : spineAfter (execOwtDeadline u s) = some s.spine := by
  simp [execOwtDeadline, foldl_spine]

@[simp] theorem execBalanceEvaluation_spine (s : State) : spineAfter (execBalanceEvaluation s) = some s.spine := by
  simp [execBalanceEvaluation]

@[simp] theorem execBleedRefresh_spine (u : BitVec 6) (s : State) :
    spineAfter (execBleedRefresh u s) = some s.spine := by
  simp [execBleedRefresh]

@[simp] theorem execBleedSetAck_spine (u : BitVec 6) (mask : BitVec 16) (s : State) :
    spineAfter (execBleedSetAck u mask s) = some s.spine := by
  simp [execBleedSetAck]

@[simp] theorem execPaddockCheckDone_spine (s : State) : spineAfter (execPaddockCheckDone s) = some s.spine := by
  unfold execPaddockCheckDone
  dsimp only
  split <;> simp

/-! ### Chain -/

@[simp] theorem execFaultSymbolReceived_spine (s : State) : spineAfter (execFaultSymbolReceived s) = some s.spine := by
  simp [execFaultSymbolReceived]

@[simp] theorem execEnumPhaseTimeout_spine (acks : List (BitVec 6)) (conflict proto : Bool) (ret : Option
    (BitVec 8)) (s : State) : spineAfter (execEnumPhaseTimeout acks conflict proto ret s) = some s.spine := by
  unfold execEnumPhaseTimeout
  dsimp only
  repeat' split
  all_goals simp

@[simp] theorem execPingResponse_spine (high : Bool) (w : Wire) (rtt : Nat) (s : State) :
    spineAfter (execPingResponse high w rtt s) = some s.spine := by
  refine congrArg some (State.engineRx_spine s _ _ fun t => ?_)
  repeat' split
  all_goals simp

@[simp] theorem execEnumDone_spine (s : State) : spineAfter (execEnumDone s) = some s.spine := by
  unfold execEnumDone
  dsimp only
  repeat' split
  all_goals simp

@[simp] theorem execSyncSend_spine (s : State) : spineAfter (execSyncSend s) = some s.spine := by
  simp [execSyncSend]

@[simp] theorem execSyncInstant_spine (s : State) : spineAfter (execSyncInstant s) = some s.spine := by
  refine congrArg some (Eq.trans ?_ (State.quiet_spine s))
  dsimp only
  split
  · rfl
  · rw [State.tryPost_spine, foldl_spine fun t u => State.sendRead_spine t u (t.route u) false]
    rfl

@[simp] theorem execReadBlockResponse_spine (high : Bool) (f : Frame) (e : Tail) (s : State) :
    spineAfter (execReadBlockResponse high f e s) = some s.spine := by
  refine congrArg some (State.engineRx_spine s _ _ fun t => ?_)
  dsimp only
  split
  · exact State.discard_spine t _ _
  · split
    · exact State.portAlive_spine t _
    · repeat' split
      all_goals simp

@[simp] theorem execPostDeadline_spine (s : State) : spineAfter (execPostDeadline s) = some s.spine := by
  simp [execPostDeadline]

@[simp] theorem execLinknote_spine (high : Bool) (w : Wire) (s : State) :
    spineAfter (execLinknote high w s) = some s.spine := by
  refine congrArg some (State.engineRx_spine s _ _ fun t => ?_)
  dsimp only
  repeat' split
  all_goals simp

@[simp] theorem execPortLossOfLock_spine (high : Bool) (s : State) :
    spineAfter (execPortLossOfLock high s) = some s.spine := by
  simp [execPortLossOfLock]

@[simp] theorem execPortSilenceTimeout_spine (high : Bool) (s : State) :
    spineAfter (execPortSilenceTimeout high s) = some s.spine := by
  unfold execPortSilenceTimeout
  dsimp only
  split <;> simp

@[simp] theorem execChxResponse_spine (high : Bool) (f : Frame) (e : Tail) (s : State) :
    spineAfter (execChxResponse high f e s) = some s.spine := by
  refine congrArg some (State.engineRx_spine s _ _ fun t => ?_)
  dsimp only
  split
  · simp
  · split
    · exact State.portAlive_spine t _
    · repeat' split
      all_goals simp

@[simp] theorem execChxTimeout_spine (wire : BitVec 8) (s : State) :
    spineAfter (execChxTimeout wire s) = some s.spine := by
  unfold execChxTimeout
  split <;> simp

/-! ### Curb -/

@[simp] theorem execHeartbeatTimeout_spine (s : State) : spineAfter (execHeartbeatTimeout s) = some s.spine := by
  simp [execHeartbeatTimeout]

@[simp] theorem execCurbOscCheck_spine (count : Nat) (s : State) :
    spineAfter (execCurbOscCheck count s) = some s.spine := by
  simp [execCurbOscCheck]

@[simp] theorem execCurbSupplyFault_spine (s : State) : spineAfter (execCurbSupplyFault s) = some s.spine := by
  simp [execCurbSupplyFault]

@[simp] theorem execSrsCurrentZero_spine (s : State) : spineAfter (execSrsCurrentZero s) = some s.spine := by
  simp [execSrsCurrentZero]

@[simp] theorem execSrsRampTimeout_spine (s : State) : spineAfter (execSrsRampTimeout s) = some s.spine := by
  simp [execSrsRampTimeout]

@[simp] theorem execShuntPulseEnd_spine (s : State) : spineAfter (execShuntPulseEnd s) = some s.spine := by
  simp [execShuntPulseEnd]

@[simp] theorem execWeldDetect_spine (s : State) : spineAfter (execWeldDetect s) = some s.spine := by
  simp [execWeldDetect]

@[simp] theorem execCurbSelfTestDone_spine (passed : Bool) (s : State) :
    spineAfter (execCurbSelfTestDone passed s) = some s.spine := by
  simp [execCurbSelfTestDone]

@[simp] theorem execChannel2Check_spine (s : State) : spineAfter (execChannel2Check s) = some s.spine := by
  simp [execChannel2Check]

@[simp] theorem execDoorChannelChange_spine (second high pattern : Bool) (s : State) :
    spineAfter (execDoorChannelChange second high pattern s) = some s.spine := by
  simp [execDoorChannelChange]

@[simp] theorem execGuardDiscrepancy_spine (s : State) : spineAfter (execGuardDiscrepancy s) = some s.spine := by
  simp [execGuardDiscrepancy]

@[simp] theorem execGuardOpenConfirm_spine (s : State) : spineAfter (execGuardOpenConfirm s) = some s.spine := by
  simp [execGuardOpenConfirm]

@[simp] theorem execSealArmExpiry_spine (s : State) : spineAfter (execSealArmExpiry s) = some s.spine := by
  simp [execSealArmExpiry]

@[simp] theorem execSealCommitDone_spine (s : State) : spineAfter (execSealCommitDone s) = some s.spine := by
  unfold execSealCommitDone
  split <;> simp

/-! ### Fio -/

@[simp] theorem execPullinEnd_spine (n : BitVec 4) (s : State) : spineAfter (execPullinEnd n s) = some s.spine := by
  refine congrArg some ?_
  rw [State.ite_spine, State.withFio_spine, ite_self]

@[simp] theorem execOutputThermalShutdown_spine (n : BitVec 4) (s : State) :
    spineAfter (execOutputThermalShutdown n s) = some s.spine := by
  refine congrArg some ((State.redrive_spine _).trans ((State.doDiag_spine _ _ _).trans ?_))
  split
  · rfl
  · simp

@[simp] theorem execOutputThermalRestart_spine (n : BitVec 4) (s : State) :
    spineAfter (execOutputThermalRestart n s) = some s.spine := by
  exact congrArg some (State.redrive_spine _)

@[simp] theorem execOutputOverload_spine (n : BitVec 4) (s : State) :
    spineAfter (execOutputOverload n s) = some s.spine := by
  simp [execOutputOverload]

@[simp] theorem execOpenLoadOff_spine (n : BitVec 4) (s : State) : spineAfter (execOpenLoadOff n s) = some s.spine := by
  simp [execOpenLoadOff]

@[simp] theorem execOpenLoadOn_spine (n : BitVec 4) (s : State) : spineAfter (execOpenLoadOn n s) = some s.spine := by
  simp [execOpenLoadOn]

@[simp] theorem execOffHigh_spine (n : BitVec 4) (s : State) : spineAfter (execOffHigh n s) = some s.spine := by
  simp [execOffHigh]

@[simp] theorem execTestWindowStart_spine (n : BitVec 4) (light ts : Bool) (s : State) :
    spineAfter (execTestWindowStart n light ts s) = some s.spine := by
  refine congrArg some ?_
  simp only [State.ite_spine, State.withFio_spine, State.mapFio_spine, State.redrive_spine, State.put_spine,
    State.set_spine, ite_self]

@[simp] theorem execTestWindowEnd_spine (low high : BitVec 16) (s : State) :
    spineAfter (execTestWindowEnd low high s) = some s.spine := by
  simp [execTestWindowEnd]

@[simp] theorem execTiedWatchExpiry_spine (n : BitVec 4) (s : State) :
    spineAfter (execTiedWatchExpiry n s) = some s.spine := by
  refine congrArg some ?_
  rw [State.ite_spine, State.withFio_spine, State.put_spine, ite_self]

@[simp] theorem execFioWatchdogExpiry_spine (s : State) : spineAfter (execFioWatchdogExpiry s) = some s.spine := by
  refine congrArg some ?_
  simp only [State.ite_spine, State.redrive_spine, State.raise_spine, State.withFio_spine, State.put_spine, ite_self]

@[simp] theorem execVfLow_spine (second : Bool) (s : State) : spineAfter (execVfLow second s) = some s.spine := by
  simp [execVfLow]

@[simp] theorem execVfRecover_spine (second : Bool) (s : State) :
    spineAfter (execVfRecover second s) = some s.spine := by
  simp [execVfRecover]

@[simp] theorem execTestSourcePulse_spine (k : BitVec 2) (high : BitVec 12) (s : State) :
    spineAfter (execTestSourcePulse k high s) = some s.spine := by
  refine congrArg some ?_
  split
  · refine foldl_spine (fun t n => ?_) _ s
    simp only [State.ite_spine, State.withFio_spine, State.filterTakes_spine, State.raise_spine, State.setBitOf_spine, ite_self]
  · rfl

@[simp] theorem execTestSourceOverload_spine (k : BitVec 2) (s : State) :
    spineAfter (execTestSourceOverload k s) = some s.spine := by
  simp [execTestSourceOverload]

@[simp] theorem execTestSourceRetry_spine (k : BitVec 2) (s : State) :
    spineAfter (execTestSourceRetry k s) = some s.spine := by
  rfl

@[simp] theorem execDiSample_spine (n : BitVec 4) (level : Bool) (s : State) :
    spineAfter (execDiSample n level s) = some s.spine := by
  simp [execDiSample]

@[simp] theorem execDiFilterChange_spine (n : BitVec 4) (s : State) :
    spineAfter (execDiFilterChange n s) = some s.spine := by
  simp [execDiFilterChange]

@[simp] theorem execDiWakeChange_spine (n : BitVec 4) (s : State) :
    spineAfter (execDiWakeChange n s) = some s.spine := by
  simp [execDiWakeChange]

@[simp] theorem execCounterEdge_spine (k : BitVec 2) (rising : Bool) (dt : Nat) (s : State) :
    spineAfter (execCounterEdge k rising dt s) = some s.spine := by
  unfold execCounterEdge
  dsimp only
  repeat' split
  all_goals simp

@[simp] theorem execCounterPeriodTimeout_spine (k : BitVec 2) (s : State) :
    spineAfter (execCounterPeriodTimeout k s) = some s.spine := by
  refine congrArg some ?_
  simp only [State.ite_spine, State.withFio_spine, State.raise_spine, State.set_spine, ite_self]

/-! ### Hvm -/

@[simp] theorem execProtectionSample_spine (low high : Int) (ovl : Overloads) (bad : Nat) (s : State) :
    spineAfter (execProtectionSample low high ovl bad s) = some s.spine := by
  simp [execProtectionSample]

@[simp] theorem execHvOverload_spine (s : State) : spineAfter (execHvOverload s) = some s.spine := by
  simp [execHvOverload]

@[simp] theorem execFastOcTrip_spine (nv : Int) (s : State) : spineAfter (execFastOcTrip nv s) = some s.spine := by
  simp [execFastOcTrip]

@[simp] theorem execAliveCodeStart_spine (s : State) : spineAfter (execAliveCodeStart s) = some s.spine := by
  simp [execAliveCodeStart]

@[simp] theorem execAliveCodeLoss_spine (s : State) : spineAfter (execAliveCodeLoss s) = some s.spine := by
  simp [execAliveCodeLoss]

@[simp] theorem execAliveCodeStartupTimeout_spine (s : State) :
    spineAfter (execAliveCodeStartupTimeout s) = some s.spine := by
  simp [execAliveCodeStartupTimeout]

@[simp] theorem execRangeCompareFail_spine (s : State) : spineAfter (execRangeCompareFail s) = some s.spine := by
  simp [execRangeCompareFail]

@[simp] theorem execZeroTrimDone_spine (s : State) : spineAfter (execZeroTrimDone s) = some s.spine := by
  unfold execZeroTrimDone
  dsimp only
  repeat' split
  all_goals simp

@[simp] theorem execVoltageChannelInvalid_spine (ch : BitVec 2) (s : State) :
    spineAfter (execVoltageChannelInvalid ch s) = some s.spine := by
  simp [execVoltageChannelInvalid]

@[simp] theorem execVoltageChannelRecover_spine (ch : BitVec 2) (s : State) :
    spineAfter (execVoltageChannelRecover ch s) = some s.spine := by
  simp [execVoltageChannelRecover]

@[simp] theorem execPrechargePass_spine (s : State) : spineAfter (execPrechargePass s) = some s.spine := by
  simp [execPrechargePass]

@[simp] theorem execPrechargeLinkShort_spine (s : State) : spineAfter (execPrechargeLinkShort s) = some s.spine := by
  unfold execPrechargeLinkShort
  split <;> simp

@[simp] theorem execPrechargeTimeout_spine (s : State) : spineAfter (execPrechargeTimeout s) = some s.spine := by
  simp [execPrechargeTimeout]

@[simp] theorem execPrechargeDrop_spine (s : State) : spineAfter (execPrechargeDrop s) = some s.spine := by
  simp [execPrechargeDrop]

@[simp] theorem execHallSample_spine (x : HallRead) (next : Bool) (s : State) :
    spineAfter (execHallSample x next s) = some s.spine := by
  simp [execHallSample]

@[simp] theorem execDiversityMismatch_spine (s : State) : spineAfter (execDiversityMismatch s) = some s.spine := by
  simp [execDiversityMismatch]

@[simp] theorem execHallFault_spine (silent : Bool) (s : State) :
    spineAfter (execHallFault silent s) = some s.spine := by
  simp [execHallFault]

@[simp] theorem execFineSample_spine (bat link mid : Vector Int 16) (past : Bool) (s : State) :
    spineAfter (execFineSample bat link mid past s) = some s.spine := by
  simp [execFineSample]

@[simp] theorem execSweepHeaderHvmWrite_spine (q : Bracket) (s : State) :
    spineAfter (execSweepHeaderHvmWrite q s) = some s.spine := by
  simp [execSweepHeaderHvmWrite]

@[simp] theorem execIsolatorLinkLoss_spine (s : State) : spineAfter (execIsolatorLinkLoss s) = some s.spine := by
  simp [execIsolatorLinkLoss]

@[simp] theorem execIsolatorLinkRestored_spine (s : State) :
    spineAfter (execIsolatorLinkRestored s) = some s.spine := by
  simp [execIsolatorLinkRestored]

@[simp] theorem execHvSupplyFault_spine (s : State) : spineAfter (execHvSupplyFault s) = some s.spine := by
  simp [execHvSupplyFault]

@[simp] theorem execHvSectionReady_spine (s : State) : spineAfter (execHvSectionReady s) = some s.spine := by
  simp [execHvSectionReady]

@[simp] theorem execInsulationPeriodEnd_spine (vp vn : Int) (resid : Bool) (s : State) :
    spineAfter (execInsulationPeriodEnd vp vn resid s) = some s.spine := by
  simp [execInsulationPeriodEnd]

@[simp] theorem execInsulationTimeout_spine (s : State) : spineAfter (execInsulationTimeout s) = some s.spine := by
  simp [execInsulationTimeout]

/-! ### Nvm -/

@[simp] theorem execCommitStart_spine (s : State) : spineAfter (execCommitStart s) = some s.spine := by
  unfold execCommitStart
  dsimp only
  repeat' split
  all_goals simp

@[simp] theorem execCommitDone_spine (ok : Bool) (s : State) : spineAfter (execCommitDone ok s) = some s.spine := by
  unfold execCommitDone
  dsimp only
  repeat' split
  all_goals simp

@[simp] theorem execCommitAbandon_spine (s : State) : spineAfter (execCommitAbandon s) = some s.spine := by
  unfold execCommitAbandon
  dsimp only
  repeat' split
  all_goals simp

@[simp] theorem execLimiterSecond_spine (s : State) : spineAfter (execLimiterSecond s) = some s.spine := by
  simp [execLimiterSecond, foldl_spine]

@[simp] theorem execLimiterTokenGain_spine (k : BitVec 6) (s : State) :
    spineAfter (execLimiterTokenGain k s) = some s.spine := by
  unfold execLimiterTokenGain
  dsimp only
  split <;> simp

@[simp] theorem execReserveMeasure_spine (mv : BitVec 16) (s : State) :
    spineAfter (execReserveMeasure mv s) = some s.spine := by
  unfold execReserveMeasure
  split <;> simp

@[simp] theorem execReserveLow_spine (s : State) : spineAfter (execReserveLow s) = some s.spine := by
  unfold execReserveLow
  split <;> simp

@[simp] theorem execReserveTestDone_spine (cap esr : BitVec 16) (s : State) :
    spineAfter (execReserveTestDone cap esr s) = some s.spine := by
  unfold execReserveTestDone
  split <;> simp

@[simp] theorem execCounterCommit_spine (s : State) : spineAfter (execCounterCommit s) = some s.spine := by
  unfold execCounterCommit
  split <;> simp

@[simp] theorem execLogClearDone_spine (s : State) : spineAfter (execLogClearDone s) = some s.spine := by
  unfold execLogClearDone
  split <;> simp

/-! ### Tdm -/

@[simp] theorem execHelloComplete_spine (seat : BitVec 1) (ident : BitVec 256) (scfg prt cfg : Word)
    (dly : BitVec 16) (len : BitVec 10) (s : State) :
    spineAfter (execHelloComplete seat ident scfg prt cfg dly len s) = some s.spine := by
  unfold execHelloComplete
  dsimp only
  repeat' split
  all_goals simp

@[simp] theorem execHelloTimeout_spine (s : State) : spineAfter (execHelloTimeout s) = some s.spine := by
  unfold execHelloTimeout
  split <;> simp

@[simp] theorem execSnapshotRoundEnd_spine (pages : BitVec 16) (s : State) :
    spineAfter (execSnapshotRoundEnd pages s) = some s.spine := by
  unfold execSnapshotRoundEnd
  dsimp only
  repeat' split
  all_goals simp

@[simp] theorem execSnapshotFail_spine (s : State) : spineAfter (execSnapshotFail s) = some s.spine := by
  simp [execSnapshotFail]

@[simp] theorem execSnapshotRetry_spine (s : State) : spineAfter (execSnapshotRetry s) = some s.spine := by
  unfold execSnapshotRetry
  split <;> simp

@[simp] theorem execBundleReceived_spine (rejected : BitVec 16) (lost : Bool) (b : Bundle) (s : State) :
    spineAfter (execBundleReceived rejected lost b s) = some s.spine := by
  unfold execBundleReceived
  dsimp only
  repeat' split
  all_goals simp [foldl_spine]

@[simp] theorem execDigestReturn_spine (k : Nat) (crc : Word) (mirror : List Word) (declared : List (BitVec 8))
    (string : List (BitVec 8 × Bool)) (s : State) :
    spineAfter (execDigestReturn k crc mirror declared string s) = some s.spine := by
  unfold execDigestReturn
  dsimp only
  repeat' split
  all_goals simp [foldl_spine]

@[simp] theorem execPeerClaimChange_spine (present : Bool) (s : State) :
    spineAfter (execPeerClaimChange present s) = some s.spine := by
  unfold execPeerClaimChange
  dsimp only
  repeat' split
  all_goals simp

@[simp] theorem execBridleGateOpen_spine (s : State) : spineAfter (execBridleGateOpen s) = some s.spine := by
  unfold execBridleGateOpen
  split <;> simp

@[simp] theorem execReleaseNoticeReceived_spine (reason : BitVec 4) (s : State) :
    spineAfter (execReleaseNoticeReceived reason s) = some s.spine := by
  unfold execReleaseNoticeReceived
  dsimp only
  repeat' split
  all_goals simp

@[simp] theorem execHandback_spine (peerReady : Bool) (s : State) :
    spineAfter (execHandback peerReady s) = some s.spine := by
  unfold execHandback
  dsimp only
  repeat' split
  all_goals simp

@[simp] theorem execHeartbeatSend_spine (s : State) : spineAfter (execHeartbeatSend s) = some s.spine := by
  simp [execHeartbeatSend]

@[simp] theorem execHeartbeatReceived_spine (wakeReq : Bool) (s : State) :
    spineAfter (execHeartbeatReceived wakeReq s) = some s.spine := by
  unfold execHeartbeatReceived
  split <;> simp

@[simp] theorem execTdmLinkRestored_spine (s : State) : spineAfter (execTdmLinkRestored s) = some s.spine := by
  unfold execTdmLinkRestored
  split <;> simp

/-! ### Sys -/

@[simp] theorem execRefMonitorWindow_spine (ok : Bool) (s : State) :
    spineAfter (execRefMonitorWindow ok s) = some s.spine := by
  unfold execRefMonitorWindow
  repeat' split
  all_goals simp

@[simp] theorem execPllUnlock_spine (p : Fin 6) (s : State) : spineAfter (execPllUnlock p s) = some s.spine := by
  unfold execPllUnlock
  dsimp only
  repeat' split
  all_goals simp

@[simp] theorem execPllLock_spine (p : Fin 6) (s : State) : spineAfter (execPllLock p s) = some s.spine := by
  unfold execPllLock
  split <;> simp

@[simp] theorem execXtal32kLoss_spine (s : State) : spineAfter (execXtal32kLoss s) = some s.spine := by
  unfold execXtal32kLoss
  split <;> simp

@[simp] theorem execAuxRestored_spine (s : State) : spineAfter (execAuxRestored s) = some s.spine := by
  unfold execAuxRestored
  split <;> simp

@[simp] theorem execResetMaskClear_spine (s : State) : spineAfter (execResetMaskClear s) = some s.spine := by
  simp [execResetMaskClear]

/-! ### Can -/

@[simp] theorem execCanFrameReceived_spine (x : Fin 2) (f : CanFrame) (sof : BitVec 64) (s : State) :
    spineAfter (execCanFrameReceived x f sof s) = some s.spine := by
  unfold execCanFrameReceived
  split <;> simp

@[simp] theorem execCanRxTimeout_spine (x : Fin 2) (n : BitVec 7) (s : State) :
    spineAfter (execCanRxTimeout x n s) = some s.spine := by
  unfold execCanRxTimeout
  dsimp only
  split <;> simp

@[simp] theorem execCanFrameSent_spine (x : Fin 2) (obj : Option (BitVec 7)) (sof : BitVec 64) (s : State) :
    spineAfter (execCanFrameSent x obj sof s) = some s.spine := by
  unfold execCanFrameSent
  split <;> simp

@[simp] theorem execCanArbitrationLost_spine (x : Fin 2) (obj : Option (BitVec 7)) (s : State) :
    spineAfter (execCanArbitrationLost x obj s) = some s.spine := by
  unfold execCanArbitrationLost
  repeat' split
  all_goals simp

@[simp] theorem execCanError_spine (x : Fin 2) (lec : Fin 7) (sending : Bool) (obj : Option (BitVec 7))
    (inc : Fin 9) (s : State) : spineAfter (execCanError x lec sending obj inc s) = some s.spine := by
  unfold execCanError
  dsimp only
  repeat' split
  all_goals simp

@[simp] theorem execCanBusOffRecovery_spine (x : Fin 2) (s : State) :
    spineAfter (execCanBusOffRecovery x s) = some s.spine := by
  unfold execCanBusOffRecovery
  dsimp only
  split <;> simp

@[simp] theorem execCanModeChange_spine (x : Fin 2) (s : State) :
    spineAfter (execCanModeChange x s) = some s.spine := by
  unfold execCanModeChange
  dsimp only
  split <;> simp

/-! ### Eth -/

@[simp] theorem execSetpointPublish_spine (s : State) : spineAfter (execSetpointPublish s) = some s.spine := by
  unfold execSetpointPublish
  dsimp only
  split <;> simp

@[simp] theorem execSwitchForward_spine (f : EthFrame) (residence linkDelay : Nat) (full : BitVec 3) (s : State) :
    spineAfter (execSwitchForward f residence linkDelay full s) = some s.spine := by
  unfold execSwitchForward
  extract_lets now u
  have hu : u.spine = s.spine := (State.mapEth_spine _ _).trans (State.ethQuiet_spine s)
  rw [spineAfter_ite, spineAfter_ite, spineAfter_next, spineAfter_next, spineAfter_next, State.ethSend_spine,
    foldl_spine fun t p => ?_, hu, ite_self, ite_self]
  split
  · rw [State.bump_spine]
  · split
    · cases f.kind
      case arpReply ip => exact State.arpLearn_spine t _ _
      case other => rw [State.ite_spine, State.rxDrop_spine, ite_self]
      all_goals rfl
    · rw [State.ethSend_spine]

@[simp] theorem execArpRequest_spine (target sender : BitVec 32) (mac : BitVec 48) (s : State) :
    spineAfter (execArpRequest target sender mac s) = some s.spine := by
  unfold execArpRequest
  split <;> simp

@[simp] theorem execIcmpEchoRequest_spine (target sender : BitVec 32) (s : State) :
    spineAfter (execIcmpEchoRequest target sender s) = some s.spine := by
  unfold execIcmpEchoRequest
  split <;> simp

@[simp] theorem execArpRetry_spine (ip : BitVec 32) (s : State) : spineAfter (execArpRetry ip s) = some s.spine := by
  unfold execArpRetry
  dsimp only
  repeat' split
  all_goals simp [foldl_spine]

@[simp] theorem execDemandTimeout_spine (s : State) : spineAfter (execDemandTimeout s) = some s.spine := by
  unfold execDemandTimeout
  split <;> simp

@[simp] theorem execTelemetrySend_spine (s : State) : spineAfter (execTelemetrySend s) = some s.spine := by
  unfold execTelemetrySend
  dsimp only
  split <;> simp

@[simp] theorem execEthLinkChange_spine (p up : Bool) (s : State) :
    spineAfter (execEthLinkChange p up s) = some s.spine := by
  unfold execEthLinkChange
  dsimp only
  repeat' split
  all_goals simp

@[simp] theorem execEthFrameSent_spine (full : Bool) (ts : BitVec 64) (s : State) :
    spineAfter (execEthFrameSent full ts s) = some s.spine := by
  unfold execEthFrameSent
  dsimp only
  repeat' split
  all_goals simp

@[simp] theorem execPtpSyncSample_spine (offset : BitVec 64) (s : State) :
    spineAfter (execPtpSyncSample offset s) = some s.spine := by
  unfold execPtpSyncSample
  split <;> simp

@[simp] theorem execBmcaGmChange_spine (gm : BitVec 64) (own : Bool) (s : State) :
    spineAfter (execBmcaGmChange gm own s) = some s.spine := by
  unfold execBmcaGmChange
  dsimp only
  repeat' split
  all_goals simp

@[simp] theorem execSyncTimeout_spine (s : State) : spineAfter (execSyncTimeout s) = some s.spine := by
  unfold execSyncTimeout
  split <;> simp

@[simp] theorem execHoldoverLimit_spine (s : State) : spineAfter (execHoldoverLimit s) = some s.spine := by
  unfold execHoldoverLimit
  split <;> simp

@[simp] theorem execTimeStep_spine (s : State) : spineAfter (execTimeStep s) = some s.spine := by
  unfold execTimeStep
  split <;> simp

@[simp] theorem execPpsInEdge_spine (ts : BitVec 64) (s : State) : spineAfter (execPpsInEdge ts s) = some s.spine := by
  unfold execPpsInEdge
  dsimp only
  repeat' split
  all_goals simp

@[simp] theorem execPpsTimeout_spine (s : State) : spineAfter (execPpsTimeout s) = some s.spine := by
  unfold execPpsTimeout
  dsimp only
  repeat' split
  all_goals simp

@[simp] theorem execPpsOutPulse_spine (s : State) : spineAfter (execPpsOutPulse s) = some s.spine := by
  unfold execPpsOutPulse
  split <;> simp

@[simp] theorem execTimeCompareFire_spine (k : Fin 4) (s : State) :
    spineAfter (execTimeCompareFire k s) = some s.spine := by
  simp [execTimeCompareFire]

@[simp] theorem execMasterSyncInterval_spine (s : State) : spineAfter (execMasterSyncInterval s) = some s.spine := by
  unfold execMasterSyncInterval
  dsimp only
  split <;> simp

/-! ### Ggn -/

@[simp] theorem execStepPulse_spine (axis : Fin 3) (s : State) : spineAfter (execStepPulse axis s) = some s.spine := by
  unfold execStepPulse
  dsimp only
  split <;> simp

@[simp] theorem execStepDriverShutdown_spine (axis : Fin 3) (s : State) :
    spineAfter (execStepDriverShutdown axis s) = some s.spine := by
  simp [execStepDriverShutdown]

@[simp] theorem execStepDriverRecovery_spine (axis : Fin 3) (s : State) :
    spineAfter (execStepDriverRecovery axis s) = some s.spine := by
  simp [execStepDriverRecovery]

/-! ### Issue -/

@[simp] theorem execTxfTimeout_spine (core : Core) (tag : BitVec 8) (s : State) :
    spineAfter (execTxfTimeout core tag s) = some s.spine := by
  unfold execTxfTimeout
  dsimp only
  repeat' split
  all_goals simp

/-! ### Lanes -/

@[simp] theorem execLaneFadd_spine (o : LaneOp) (dst a b : BitVec 6) (s : State) :
    spineAfter (execLaneFadd o dst a b s) = some s.spine := by
  simp [execLaneFadd]

@[simp] theorem execLaneFsub_spine (o : LaneOp) (dst a b : BitVec 6) (s : State) :
    spineAfter (execLaneFsub o dst a b s) = some s.spine := by
  simp [execLaneFsub]

@[simp] theorem execLaneFmul_spine (o : LaneOp) (dst a b : BitVec 6) (s : State) :
    spineAfter (execLaneFmul o dst a b s) = some s.spine := by
  simp [execLaneFmul]

@[simp] theorem execLaneFma_spine (o : LaneOp) (dst a b : BitVec 6) (s : State) :
    spineAfter (execLaneFma o dst a b s) = some s.spine := by
  simp [execLaneFma]

@[simp] theorem execLaneFms_spine (o : LaneOp) (dst a b : BitVec 6) (s : State) :
    spineAfter (execLaneFms o dst a b s) = some s.spine := by
  simp [execLaneFms]

@[simp] theorem execLaneFmin_spine (o : LaneOp) (dst a b : BitVec 6) (s : State) :
    spineAfter (execLaneFmin o dst a b s) = some s.spine := by
  simp [execLaneFmin]

@[simp] theorem execLaneFmax_spine (o : LaneOp) (dst a b : BitVec 6) (s : State) :
    spineAfter (execLaneFmax o dst a b s) = some s.spine := by
  simp [execLaneFmax]

@[simp] theorem execLaneFabs_spine (o : LaneOp) (dst a b : BitVec 6) (s : State) :
    spineAfter (execLaneFabs o dst a b s) = some s.spine := by
  simp [execLaneFabs]

@[simp] theorem execLaneFneg_spine (o : LaneOp) (dst a b : BitVec 6) (s : State) :
    spineAfter (execLaneFneg o dst a b s) = some s.spine := by
  simp [execLaneFneg]

@[simp] theorem execLaneFcvtsw_spine (o : LaneOp) (dst a : BitVec 6) (s : State) :
    spineAfter (execLaneFcvtsw o dst a s) = some s.spine := by
  simp [execLaneFcvtsw]

@[simp] theorem execLaneFcvtws_spine (o : LaneOp) (dst a : BitVec 6) (s : State) :
    spineAfter (execLaneFcvtws o dst a s) = some s.spine := by
  simp [execLaneFcvtws]

@[simp] theorem execLaneMov_spine (o : LaneOp) (dst a b : BitVec 6) (s : State) :
    spineAfter (execLaneMov o dst a b s) = some s.spine := by
  simp [execLaneMov]

@[simp] theorem execLaneLidx_spine (o : LaneOp) (dst : BitVec 6) (s : State) :
    spineAfter (execLaneLidx o dst s) = some s.spine := by
  simp [execLaneLidx]

@[simp] theorem execLaneTidx_spine (o : LaneOp) (dst : BitVec 6) (s : State) :
    spineAfter (execLaneTidx o dst s) = some s.spine := by
  simp [execLaneTidx]

@[simp] theorem execLaneCmap_spine (o : LaneOp) (dst : BitVec 6) (s : State) :
    spineAfter (execLaneCmap o dst s) = some s.spine := by
  simp [execLaneCmap]

@[simp] theorem execLaneLdi_spine (o : LaneOp) (dst : BitVec 6) (imm : BitVec 12) (s : State) :
    spineAfter (execLaneLdi o dst imm s) = some s.spine := by
  simp [execLaneLdi]

@[simp] theorem execLaneIadd_spine (o : LaneOp) (dst a b : BitVec 6) (s : State) :
    spineAfter (execLaneIadd o dst a b s) = some s.spine := by
  simp [execLaneIadd]

@[simp] theorem execLaneIsub_spine (o : LaneOp) (dst a b : BitVec 6) (s : State) :
    spineAfter (execLaneIsub o dst a b s) = some s.spine := by
  simp [execLaneIsub]

@[simp] theorem execLaneAnd_spine (o : LaneOp) (dst a b : BitVec 6) (s : State) :
    spineAfter (execLaneAnd o dst a b s) = some s.spine := by
  simp [execLaneAnd]

@[simp] theorem execLaneOr_spine (o : LaneOp) (dst a b : BitVec 6) (s : State) :
    spineAfter (execLaneOr o dst a b s) = some s.spine := by
  simp [execLaneOr]

@[simp] theorem execLaneXor_spine (o : LaneOp) (dst a b : BitVec 6) (s : State) :
    spineAfter (execLaneXor o dst a b s) = some s.spine := by
  simp [execLaneXor]

@[simp] theorem execLaneShl_spine (o : LaneOp) (dst a b : BitVec 6) (s : State) :
    spineAfter (execLaneShl o dst a b s) = some s.spine := by
  simp [execLaneShl]

@[simp] theorem execLaneShr_spine (o : LaneOp) (dst a b : BitVec 6) (s : State) :
    spineAfter (execLaneShr o dst a b s) = some s.spine := by
  simp [execLaneShr]

@[simp] theorem execLaneSar_spine (o : LaneOp) (dst a b : BitVec 6) (s : State) :
    spineAfter (execLaneSar o dst a b s) = some s.spine := by
  simp [execLaneSar]

@[simp] theorem execLaneImul_spine (o : LaneOp) (dst a b : BitVec 6) (s : State) :
    spineAfter (execLaneImul o dst a b s) = some s.spine := by
  simp [execLaneImul]

@[simp] theorem execLaneImin_spine (o : LaneOp) (dst a b : BitVec 6) (s : State) :
    spineAfter (execLaneImin o dst a b s) = some s.spine := by
  simp [execLaneImin]

@[simp] theorem execLaneImax_spine (o : LaneOp) (dst a b : BitVec 6) (s : State) :
    spineAfter (execLaneImax o dst a b s) = some s.spine := by
  simp [execLaneImax]

@[simp] theorem execLaneFclt_spine (o : LaneOp) (dst a b : BitVec 6) (s : State) :
    spineAfter (execLaneFclt o dst a b s) = some s.spine := by
  simp [execLaneFclt]

@[simp] theorem execLaneFcle_spine (o : LaneOp) (dst a b : BitVec 6) (s : State) :
    spineAfter (execLaneFcle o dst a b s) = some s.spine := by
  simp [execLaneFcle]

@[simp] theorem execLaneFceq_spine (o : LaneOp) (dst a b : BitVec 6) (s : State) :
    spineAfter (execLaneFceq o dst a b s) = some s.spine := by
  simp [execLaneFceq]

@[simp] theorem execLaneIclt_spine (o : LaneOp) (dst a b : BitVec 6) (s : State) :
    spineAfter (execLaneIclt o dst a b s) = some s.spine := by
  simp [execLaneIclt]

@[simp] theorem execLaneIceq_spine (o : LaneOp) (dst a b : BitVec 6) (s : State) :
    spineAfter (execLaneIceq o dst a b s) = some s.spine := by
  simp [execLaneIceq]

@[simp] theorem execLanePand_spine (o : LaneOp) (dst a b : BitVec 6) (s : State) :
    spineAfter (execLanePand o dst a b s) = some s.spine := by
  simp [execLanePand]

@[simp] theorem execLanePor_spine (o : LaneOp) (dst a b : BitVec 6) (s : State) :
    spineAfter (execLanePor o dst a b s) = some s.spine := by
  simp [execLanePor]

@[simp] theorem execLanePnot_spine (o : LaneOp) (dst a b : BitVec 6) (s : State) :
    spineAfter (execLanePnot o dst a b s) = some s.spine := by
  simp [execLanePnot]

@[simp] theorem execLaneLld_spine (o : LaneOp) (dst a : BitVec 6) (off : BitVec 6) (ecc : Ecc) (s : State) :
    spineAfter (execLaneLld o dst a off ecc s) = some s.spine := by
  exact State.laneMem_spine s o ecc _ a _ _ _ _ fun t l x => State.setLane_spine t l _ _

@[simp] theorem execLaneLst_spine (o : LaneOp) (dst a : BitVec 6) (off : BitVec 6) (s : State) :
    spineAfter (execLaneLst o dst a off s) = some s.spine := by
  exact State.laneMem_spine s o .ok _ a _ _ _ _ fun t l x => State.setWord_spine t _ _

@[simp] theorem execLaneTld_spine (o : LaneOp) (dst a : BitVec 6) (off : BitVec 6) (ecc : Ecc) (s : State) :
    spineAfter (execLaneTld o dst a off ecc s) = some s.spine := by
  exact State.laneMem_spine s o ecc _ a _ _ _ _ fun t l x => State.setLane_spine t l _ _

@[simp] theorem execLaneTst_spine (o : LaneOp) (dst a : BitVec 6) (off : BitVec 6) (s : State) :
    spineAfter (execLaneTst o dst a off s) = some s.spine := by
  exact State.laneMem_spine s o .ok _ a _ _ _ _ fun t l x => State.setWord_spine t _ _

@[simp] theorem execLaneHld_spine (o : LaneOp) (dst a : BitVec 6) (off : BitVec 6) (ecc : Ecc) (s : State) :
    spineAfter (execLaneHld o dst a off ecc s) = some s.spine := by
  exact State.laneMem_spine s o ecc _ a _ _ _ _ fun t l x => State.setLane_spine t l _ _

@[simp] theorem execLaneFdiv_spine (o : LaneOp) (dst a b : BitVec 6) (s : State) :
    spineAfter (execLaneFdiv o dst a b s) = some s.spine := by
  simp [execLaneFdiv]

@[simp] theorem execLaneFsqrt_spine (o : LaneOp) (dst a b : BitVec 6) (s : State) :
    spineAfter (execLaneFsqrt o dst a b s) = some s.spine := by
  simp [execLaneFsqrt]

@[simp] theorem execLaneFrcp_spine (o : LaneOp) (dst a b : BitVec 6) (s : State) :
    spineAfter (execLaneFrcp o dst a b s) = some s.spine := by
  simp [execLaneFrcp]

@[simp] theorem execLaneFexp_spine (o : LaneOp) (dst a b : BitVec 6) (s : State) :
    spineAfter (execLaneFexp o dst a b s) = some s.spine := by
  simp [execLaneFexp]

@[simp] theorem execLaneFlog_spine (o : LaneOp) (dst a b : BitVec 6) (s : State) :
    spineAfter (execLaneFlog o dst a b s) = some s.spine := by
  simp [execLaneFlog]

@[simp] theorem execLaneRmin_spine (o : LaneOp) (dst a b : BitVec 6) (s : State) :
    spineAfter (execLaneRmin o dst a b s) = some s.spine := by
  simp [execLaneRmin]

@[simp] theorem execLaneRmax_spine (o : LaneOp) (dst a b : BitVec 6) (s : State) :
    spineAfter (execLaneRmax o dst a b s) = some s.spine := by
  simp [execLaneRmax]

@[simp] theorem execLaneRsum_spine (o : LaneOp) (dst a b : BitVec 6) (s : State) :
    spineAfter (execLaneRsum o dst a b s) = some s.spine := by
  simp [execLaneRsum]

@[simp] theorem execLaneRargmin_spine (o : LaneOp) (dst a b : BitVec 6) (s : State) :
    spineAfter (execLaneRargmin o dst a b s) = some s.spine := by
  simp [execLaneRargmin]

@[simp] theorem execLaneRargmax_spine (o : LaneOp) (dst a b : BitVec 6) (s : State) :
    spineAfter (execLaneRargmax o dst a b s) = some s.spine := by
  simp [execLaneRargmax]

@[simp] theorem execLaneBar_spine (o : LaneOp) (dst a b : BitVec 6) (s : State) :
    spineAfter (execLaneBar o dst a b s) = some s.spine := by
  simp [execLaneBar]

@[simp] theorem execLaneBra_spine (o : LaneOp) (off : BitVec 18) (s : State) :
    spineAfter (execLaneBra o off s) = some s.spine := by
  refine congrArg some (State.laneGo_spine o _ fun t j r => ?_)
  dsimp only
  split <;> simp

@[simp] theorem execLaneRet_spine (o : LaneOp) (dst a b : BitVec 6) (s : State) :
    spineAfter (execLaneRet o dst a b s) = some s.spine := by
  refine congrArg some (State.laneGo_spine o _ fun t j r => ?_)
  simp

@[simp] theorem execSchedulerEvaluation_spine (s : State) : spineAfter (execSchedulerEvaluation s) = some s.spine := by
  simp [execSchedulerEvaluation]

@[simp] theorem execJobProgramLoaded_spine (index : BitVec 6) (ecc : Ecc) (s : State) :
    spineAfter (execJobProgramLoaded index ecc s) = some s.spine := by
  unfold execJobProgramLoaded
  split <;> simp

@[simp] theorem execJobDeadlineMiss_spine (index : BitVec 6) (s : State) :
    spineAfter (execJobDeadlineMiss index s) = some s.spine := by
  unfold execJobDeadlineMiss
  split <;> simp

/-! ### Pad -/

@[simp] theorem execArbitrationCycle_spine (core : Bool) (posts ended : List ArbPost) (s : State) :
    spineAfter (execArbitrationCycle core posts ended s) = some s.spine := by
  simp [execArbitrationCycle]

@[simp] theorem execRequestPromotion_spine (post : ArbPost) (s : State) :
    spineAfter (execRequestPromotion post s) = some s.spine := by
  simp [execRequestPromotion]

@[simp] theorem execLockHoldLimit_spine (n : BitVec 5) (s : State) :
    spineAfter (execLockHoldLimit n s) = some s.spine := by
  simp [execLockHoldLimit]

/-! ### System -/

@[simp] theorem execLockstepMismatch_spine (rider : Rider) (s : State) :
    spineAfter (execLockstepMismatch rider s) = some s.spine := by
  unfold execLockstepMismatch
  dsimp only
  split <;> simp

/-! ### Thermal -/

@[simp] theorem execThmGraceExpiry_spine (s : State) : spineAfter (execThmGraceExpiry s) = some s.spine := by
  unfold execThmGraceExpiry
  dsimp only
  repeat' split
  all_goals simp

@[simp] theorem execThmRelease_spine (s : State) : spineAfter (execThmRelease s) = some s.spine := by
  unfold execThmRelease
  split <;> simp

@[simp] theorem execHvConverterTrip_spine (s : State) : spineAfter (execHvConverterTrip s) = some s.spine := by
  unfold execHvConverterTrip
  split <;> simp

@[simp] theorem execHvTempWarn_spine (s : State) : spineAfter (execHvTempWarn s) = some s.spine := by
  unfold execHvTempWarn
  dsimp only
  split <;> simp

@[simp] theorem execTokenRefill_spine (s : State) : spineAfter (execTokenRefill s) = some s.spine := by
  unfold execTokenRefill
  split <;> simp

/-! ### Upd -/

@[simp] theorem execProgDone_spine (ok : Bool) (s : State) : spineAfter (execProgDone ok s) = some s.spine := by
  unfold execProgDone
  repeat' split
  all_goals simp

@[simp] theorem execVerifyDone_spine (s : State) : spineAfter (execVerifyDone s) = some s.spine := by
  unfold execVerifyDone
  split <;> simp

@[simp] theorem execTrialExpiry_spine (s : State) : spineAfter (execTrialExpiry s) = some s.spine := by
  unfold execTrialExpiry
  split <;> simp

@[simp] theorem execPlantTelegramReceived_spine (src : BitVec 32) (dport : BitVec 16) (bytes : List (BitVec 8))
    (s : State) : spineAfter (execPlantTelegramReceived src dport bytes s) = some s.spine := by
  unfold execPlantTelegramReceived
  split <;> simp

end Sys2Proof.Machine
end


section
/-! SUPPORT. A state leads to another: the queue as it was, and program counters, g0 and the applied layout in form
where they were in form (R80, R82, Table CEL-1). -/

namespace Sys2Proof.Machine
open Sys2Proof Sys2Proof.Reg

/-! ### The form of a spine -/

/-- A core holds nothing for g0, and its program counter is a multiple of 4. -/
structure CoreSpine.safe (x : CoreSpine) : Prop where
  g : ∀ e ∈ x.g, e.1 ≠ 0
  pc : x.pc.toNat % 4 = 0

/-- The applied layout names cells 0 to 511 on units from 1 on, and every core is in form. -/
structure Spine.safe (p : Spine) : Prop where
  map : ∀ e ∈ p.map, e.1 < 512 ∧ 1 ≤ layUnit e.2
  r0 : p.r0.safe
  r1 : p.r1.safe
  grm : p.grm.safe

theorem spine_safe_iff {s : State} :
    s.spine.safe ↔ s.pcAligned = true ∧ s.zeroHeld = true ∧ s.mapRange = true := by
  constructor
  · rintro ⟨hmap, ⟨hg0, hp0⟩, ⟨hg1, hp1⟩, ⟨hgm, hpm⟩⟩
    refine ⟨by simpa [State.pcAligned] using ⟨hp0, hp1, hpm⟩, ?_, ?_⟩
    · simp only [State.zeroHeld, List.all_append, Bool.and_eq_true, List.all_eq_true, decide_eq_true_eq]
      exact ⟨⟨hg0, hg1⟩, hgm⟩
    · rw [State.mapRange, List.all_eq_true]
      exact fun e he => decide_eq_true (hmap e he)
  · rintro ⟨hpc, hg, hmap⟩
    simp only [State.zeroHeld, List.all_append, Bool.and_eq_true, List.all_eq_true, decide_eq_true_eq] at hg
    obtain ⟨⟨hg0, hg1⟩, hgm⟩ := hg
    simp only [State.pcAligned, decide_eq_true_eq] at hpc
    obtain ⟨hp0, hp1, hpm⟩ := hpc
    simp only [State.mapRange, List.all_eq_true, decide_eq_true_eq] at hmap
    exact ⟨hmap, ⟨hg0, hp0⟩, ⟨hg1, hp1⟩, ⟨hgm, hpm⟩⟩

/-- The registers and the program counter of a core in a state. -/
def CoreSt.spine (x : CoreSt) : CoreSpine := ⟨x.g, x.pc⟩

theorem Spine.safe.core {s : State} (h : s.spine.safe) (c : Core) : (s.core c).spine.safe := by
  cases c
  · exact h.r0
  · exact h.r1
  · exact h.grm

theorem Spine.safe.pc {s : State} (h : s.spine.safe) (c : Core) : (s.pc c).toNat % 4 = 0 := (h.core c).pc

theorem safe_coreReset : CoreSt.reset.spine.safe := ⟨by simp [CoreSt.spine, CoreSt.reset], rfl⟩

/-! ### Leading on -/

/-- The queue stays, and a spine in form leads to a spine in form. -/
structure Spine.leads (p q : Spine) : Prop where
  queue : q.queue = p.queue
  safe : p.safe → q.safe

@[simp] theorem Spine.leads_refl (p : Spine) : p.leads p := ⟨rfl, id⟩

theorem Spine.leads.trans {p q r : Spine} (h : p.leads q) (k : q.leads r) : p.leads r :=
  ⟨k.queue.trans h.queue, k.safe ∘ h.safe⟩

@[simp] theorem Spine.leads_ite {c : Prop} [Decidable c] {p a b : Spine} :
    p.leads (if c then a else b) ↔ (c → p.leads a) ∧ (¬ c → p.leads b) := by split <;> simp [*]

theorem leads_foldl {α : Type} {p : Spine} {f : State → α → State} (h : ∀ t x, p.leads t.spine → p.leads (f t x).spine)
    (l : List α) : ∀ s : State, p.leads s.spine → p.leads (l.foldl f s).spine := by
  induction l with
  | nil => exact fun _ => id
  | cons a l ih => exact fun s hs => ih _ (h s a hs)

/-- A command that completes, in a state to which `p` leads. -/
def runs (p : Spine) (o : Host.Outcome State Fault Refusal) : Prop :=
  match o with
  | .next t => p.leads t.spine
  | _ => False

@[simp] theorem runs_next {p : Spine} {t : State} : runs p (.next t) ↔ p.leads t.spine := Iff.rfl

@[simp] theorem runs_ite {p : Spine} {c : Prop} [Decidable c] {a b : Host.Outcome State Fault Refusal} :
    runs p (if c then a else b) ↔ (c → runs p a) ∧ (¬ c → runs p b) := by split <;> simp [*]

theorem runs_of_spineAfter {s : State} {o : Host.Outcome State Fault Refusal} (h : spineAfter o = some s.spine) :
    runs s.spine o := by
  cases o with
  | next t => exact Option.some.inj h ▸ Spine.leads_refl _
  | fault _ => cases h
  | refused _ => cases h

/-! ### Registers and program counters -/

variable {p : Spine} {s : State}

/-- A core's record replaced by one in form. -/
theorem leads_setCore (hs : p.leads s.spine) (c : Core) {x : CoreSt} (hx : p.safe → x.spine.safe) :
    p.leads (s.setCore c x).spine := by
  refine ⟨by cases c <;> exact hs.queue, fun h => ?_⟩
  obtain ⟨hmap, hr0, hr1, hgrm⟩ := hs.safe h
  cases c
  · exact ⟨hmap, hx h, hr1, hgrm⟩
  · exact ⟨hmap, hr0, hx h, hgrm⟩
  · exact ⟨hmap, hr0, hr1, hx h⟩

theorem mapSet_keys_ne_zero {m : List (Nat × Word)} {r : Reg} (hr : r ≠ 0) (v : Word) (h : ∀ e ∈ m, e.1 ≠ 0) :
    ∀ e ∈ mapSet 0 m r.toNat v, e.1 ≠ 0 := by
  intro e he
  obtain ⟨rfl, -⟩ | he := mapSet_mem he
  · exact fun h0 => hr (BitVec.eq_of_toNat_eq h0)
  · exact h e he

@[simp] theorem leads_setG (hs : p.leads s.spine) (c : Core) (r : Reg) (v : Word) : p.leads (s.setG c r v).spine := by
  unfold State.setG
  split
  · exact hs
  · next hr =>
    refine leads_setCore hs c fun h => ?_
    obtain ⟨hg, hpc⟩ := (hs.safe h).core c
    exact ⟨mapSet_keys_ne_zero hr v hg, hpc⟩

theorem leads_setPc (hs : p.leads s.spine) (c : Core) {a : Word} (ha : p.safe → a.toNat % 4 = 0) :
    p.leads (s.setPc c a).spine :=
  leads_setCore hs c fun h => ⟨((hs.safe h).core c).g, ha h⟩

theorem add_four_aligned {a : Word} (h : a.toNat % 4 = 0) : (a + 4).toNat % 4 = 0 := by
  have h4 : (4 : Word).toNat = 4 := rfl
  rw [BitVec.toNat_add, h4]
  omega

theorem branchTarget_aligned {w : Nat} {a : Word} (h : a.toNat % 4 = 0) (off : BitVec w) :
    (branchTarget a off).toNat % 4 = 0 := by
  have h4 : (4 : Word).toNat = 4 := rfl
  unfold branchTarget
  rw [BitVec.toNat_add, BitVec.toNat_mul, h4]
  omega

@[simp] theorem leads_advance (hs : p.leads s.spine) (c : Core) : p.leads (s.advance c).spine :=
  leads_setPc hs c fun h => add_four_aligned ((hs.safe h).pc c)

@[simp] theorem leads_leaveWfe (hs : p.leads s.spine) (c : Core) : p.leads (s.leaveWfe c).spine := by
  unfold State.leaveWfe
  simp [hs]

@[simp] theorem leads_coreStart (hs : p.leads s.spine) (c : Core) (a : Nat) : p.leads (s.coreStart c a).spine :=
  leads_setCore hs c fun _ => ⟨by simp [CoreSt.spine, CoreSt.reset], by
    simp only [CoreSt.spine, BitVec.toNat_ofNat]
    omega⟩

/-! ### Exceptions and instructions -/

theorem and_aligned (v : Word) {m : Word} (hm : m &&& 3 = 0) : (v &&& m).toNat % 4 = 0 := by
  have h3 : (v &&& m) &&& 3 = 0 := by rw [BitVec.and_assoc, hm]; exact BitVec.and_zero
  have h := congrArg BitVec.toNat h3
  rw [BitVec.toNat_and] at h
  exact (Nat.and_two_pow_sub_one_eq_mod _ 2).symm.trans h

theorem handler_aligned (v : Word) (cause : Nat) :
    ((v &&& 0xFFFFFF00) + BitVec.ofNat 32 (0x20 * cause)).toNat % 4 = 0 := by
  have hv := and_aligned v (m := 0xFFFFFF00) rfl
  rw [BitVec.toNat_add, BitVec.toNat_ofNat]
  omega

@[simp] theorem leads_enterExc (hs : p.leads s.spine) (c : Core) (cause sub : Nat) (epc eval : Word) :
    p.leads (s.enterExc c cause sub epc eval).spine := by
  unfold State.enterExc
  exact leads_setPc (by simp [hs]) c fun _ => handler_aligned _ _

@[simp] theorem leads_takeExc (hs : p.leads s.spine) (c : Core) (cause sub : Nat) (epc eval : Word) :
    p.leads (s.takeExc c cause sub epc eval).spine := by
  unfold State.takeExc
  simp [hs]

@[simp] theorem leads_faultHere (hs : p.leads s.spine) (c : Core) (cause sub : Nat) (eval : Word) :
    p.leads (s.faultHere c cause sub eval).spine := leads_takeExc hs c cause sub _ eval

/-- An instruction leads on where its body does. -/
theorem runs_instr {f : Fetch} {word : Word} {bad : Option Nat} {body : State → State}
    (h : ∀ u : State, p.leads u.spine → p.leads (body u).spine) (hs : p.leads s.spine) :
    runs p (s.instr f word bad body) := by
  unfold State.instr
  have hw : p.leads (s.when (decide (f.ecc = .corrected)) fun s => s.eccSeen f.core).spine := by simp [hs]
  simp only [runs_next, State.ite_spine, Spine.leads_ite]
  refine ⟨fun _ => hs, fun _ => ⟨fun _ => leads_faultHere hs .., fun _ => ?_⟩⟩
  split
  · simp [hs]
  · simp only [State.ite_spine, Spine.leads_ite]
    refine ⟨fun _ => leads_faultHere hs .., fun _ => ?_⟩
    split
    · exact leads_faultHere hw ..
    · split
      · exact leads_faultHere hw ..
      · exact h _ hw

/-- The exception of a data access leads on. -/
theorem leads_dataFault {c : Core} {k : Access} {perm n : Nat} {a : Word} {t : State} (hs : p.leads s.spine)
    (h : s.dataFault c k perm n a = some t) : p.leads t.spine := by
  unfold State.dataFault at h
  dsimp only at h
  split at h
  · cases h; simp [hs]
  · split at h
    · cases h; simp [hs]
    · split at h
      · cases h; simp [hs]
      · cases h

theorem runs_aluReg (hs : p.leads s.spine) {f : Fetch} {fl : Bool} {dst a b : Reg} {op : Nat} {g : Word → Word → Word}
    {rule : FlagRule} (hr : ∀ u c x y r, (rule u c x y r).spine = u.spine) :
    runs p (s.aluReg f fl dst a b op g rule) := by
  unfold State.aluReg
  exact runs_instr (fun u hu => by simp [hu, hr]) hs

theorem runs_aluImm (hs : p.leads s.spine) {f : Fetch} {fl : Bool} {dst a : Reg} {imm : BitVec 13} {op : Nat} {bad : Bool}
    {y : Word} {g : Word → Word → Word} {rule : FlagRule} (hr : ∀ u c x y r, (rule u c x y r).spine = u.spine) :
    runs p (s.aluImm f fl dst a imm op bad y g rule) := by
  unfold State.aluImm
  exact runs_instr (fun u hu => by simp [hu, hr]) hs

theorem runs_branch (hs : p.leads s.spine) {f : Fetch} {a : Reg} {off : BitVec 18} {cond : Nat} {taken : State → Core → Bool} :
    runs p (s.branch f a off cond taken) := by
  unfold State.branch
  refine runs_instr (fun u hu => ?_) hs
  simp only [State.ite_spine, Spine.leads_ite]
  exact ⟨fun _ => leads_setPc hu _ fun h => branchTarget_aligned ((hu.safe h).pc _) off, fun _ => leads_advance hu _⟩

theorem leads_fpSignal (hs : p.leads s.spine) (c : Core) (conds : Nat) {done : State → State}
    (h : ∀ u : State, p.leads u.spine → p.leads (done u).spine) : p.leads (s.fpSignal c conds done).spine := by
  unfold State.fpSignal
  simp only [State.ite_spine, Spine.leads_ite]
  exact ⟨fun _ => leads_faultHere hs .., fun _ => h _ (by simp [hs])⟩

theorem runs_fpInstr (hs : p.leads s.spine) {f : Fetch} {fl : Bool} {dst a b : Reg} {op : Nat} {bad : Bool}
    {g : Nat → Nat → Nat → FpRes} : runs p (s.fpInstr f fl dst a b op bad g) := by
  unfold State.fpInstr
  exact runs_instr (fun _ hu => leads_fpSignal hu _ _ fun v hv => by simp [hv]) hs

theorem runs_loadInstr (hs : p.leads s.spine) {f : Fetch} {dst a : Reg} {imm : BitVec 13} {ecc : Ecc} {op n : Nat}
    {ext : Nat → Word} : runs p (s.loadInstr f dst a imm ecc op n ext) := by
  unfold State.loadInstr
  refine runs_instr (fun u hu => ?_) hs
  dsimp only
  split
  · next t ht => exact leads_dataFault hu ht
  · simp [hu]

theorem runs_atomic (hs : p.leads s.spine) {f : Fetch} {dst a b : Reg} {ecc : Ecc} {op : Nat}
    {g : Word → Word → Word → Option Word} : runs p (s.atomic f dst a b ecc op g) := by
  unfold State.atomic
  refine runs_instr (fun u hu => ?_) hs
  simp only [State.ite_spine, Spine.leads_ite]
  refine ⟨fun _ => leads_faultHere hu .., fun _ => ⟨fun _ => leads_faultHere hu .., fun _ =>
    ⟨fun _ => leads_faultHere hu .., fun _ => ?_⟩⟩⟩
  split <;> simp [hu]

/-- What an owner does with an operation that it accepts keeps the spine. -/
def Accept.keepsSpine (x : Accept) : Prop :=
  match x with
  | .refuse _ => True
  | .take act => ∀ t u, (act t u).spine = u.spine

theorem Accept.check_keepsSpine {l : List (Bool × Nat)} {act : Nat → State → State} (h : ∀ t u, (act t u).spine = u.spine) :
    (Accept.check l act).keepsSpine := by
  unfold Accept.check
  split
  · exact True.intro
  · exact h

theorem runs_issue (hs : p.leads s.spine) {f : Fetch} {dst a b : Reg} {ecc : Ecc} {op : Nat} {bad : List (Bool × Nat)}
    {argDefined : Bool} {full : State → Bool} {ovf : State → State} {owner : State → Desc → Accept}
    (hovf : ∀ u, (ovf u).spine = u.spine) (how : ∀ u d, (owner u d).keepsSpine) :
    runs p (s.issue f dst a b ecc op bad argDefined full ovf owner) := by
  unfold State.issue
  refine runs_instr (fun u hu => ?_) hs
  split
  · exact leads_faultHere hu ..
  · next t _ =>
    simp only [State.ite_spine, Spine.leads_ite]
    refine ⟨fun _ => by simp [hu, hovf], fun _ => ⟨fun _ => by simp [hu], fun _ => ⟨fun _ => by simp [hu], fun _ =>
      ⟨fun _ => leads_faultHere hu .., fun _ => ?_⟩⟩⟩⟩
    split
    · simp [hu]
    · next act hact =>
      have hk := how u ⟨u.word (u.g f.core a).toNat, u.word ((u.g f.core a).toNat + 4), u.word ((u.g f.core a).toNat + 8),
        u.word ((u.g f.core a).toNat + 12), (u.g f.core b).toNat, decide (b = 0)⟩
      rw [hact] at hk
      rw [hk]
      simp [hu]

end Sys2Proof.Machine
end


section
/-! SUPPORT. The operations that start a core, reset the module, move a pc or apply a layout lead on. -/

namespace Sys2Proof.Machine
open Sys2Proof Sys2Proof.Reg

variable {p : Spine} {s : State}

/-! ### Module reset and power-up (R460-R469) -/

/-- The spine of a module just reset: nothing but its queue. -/
def Spine.blank (q : List Instr) : Spine := ⟨q, [], ⟨[], 0⟩, ⟨[], 0⟩, ⟨[], 0⟩⟩

theorem safe_blank (q : List Instr) : (Spine.blank q).safe :=
  ⟨by simp [Spine.blank], ⟨by simp [Spine.blank], rfl⟩, ⟨by simp [Spine.blank], rfl⟩, ⟨by simp [Spine.blank], rfl⟩⟩

theorem leads_blank {q : Spine} (h : p.leads q) : p.leads (Spine.blank q.queue) := ⟨h.queue, fun _ => safe_blank _⟩

/-- A state that is the reset state but for parts outside the spine, and for its queue. -/
theorem leads_of_blank {t : State} (hs : p.leads s.spine) (h : t.spine = Spine.blank s.spine.queue) : p.leads t.spine :=
  h ▸ leads_blank hs

@[simp] theorem leads_moduleReset (hs : p.leads s.spine) : p.leads s.moduleReset.spine := by
  have hq : s.finishRunning.tearProg.spine = s.spine := by simp
  refine leads_of_blank hs ?_
  rw [← hq]
  unfold State.moduleReset
  simp only [State.set_spine, State.setRun_spine, State.markLame_spine, State.mapSys_spine, State.mapEth_spine,
    State.mapNvm_spine, State.ptpReset_spine]
  rfl

@[simp] theorem leads_stableDown (hs : p.leads s.spine) : p.leads s.stableDown.spine := by
  have hq : s.tearProg.spine = s.spine := by simp
  refine leads_of_blank hs ?_
  rw [← hq]
  unfold State.stableDown
  simp only [State.set_spine, State.put_spine, State.setRun_spine, State.mapSys_spine, State.mapNvm_spine]
  rfl

@[simp] theorem leads_powerOff (hs : p.leads s.spine) : p.leads s.powerOff.spine := by
  have hq : s.finishRunning.tearProg.spine = s.spine := by simp
  refine leads_of_blank hs ?_
  rw [← hq]
  unfold State.powerOff
  simp only [State.setRun_spine, State.mapSys_spine]
  rfl

/-- A core at its reset values. -/
@[simp] theorem leads_setCore_reset (hs : p.leads s.spine) (c : Core) : p.leads (s.setCore c CoreSt.reset).spine :=
  leads_setCore hs c fun _ => safe_coreReset

@[simp] theorem leads_powerUp (hs : p.leads s.spine) (cause : Fld) : p.leads (s.powerUp cause).spine := by
  unfold State.powerUp
  extract_lets s1 s2 t s3 s4 s5 s6 s7 s8 r
  have h2 : p.leads s2.spine :=
    leads_setCore_reset (leads_setCore_reset (leads_setCore_reset (by simp [s1, hs]) .r0) .r1) .grm
  have h5 : p.leads s5.spine := by
    dsimp only [s5]
    split <;> simp [s4, s3, h2]
  have h8 : p.leads s8.spine := by simp [s8, s7, h5]
  have hr : p.leads r.2.spine := by simp [r, h8]
  split
  · exact hr
  · simp [hr]

@[simp] theorem leads_resetNow (hs : p.leads s.spine) (cause : Fld) : p.leads (s.resetNow cause).spine :=
  leads_powerUp (leads_moduleReset hs) cause

@[simp] theorem leads_stableBoot (hs : p.leads s.spine) : p.leads s.stableBoot.spine := by
  unfold State.stableBoot
  simp [hs]

@[simp] theorem leads_wakeStable (hs : p.leads s.spine) : p.leads s.wakeStable.spine := by
  unfold State.wakeStable
  simp [hs]

@[simp] theorem leads_softReset (hs : p.leads s.spine) (v : Nat) : p.leads (s.softReset v).spine := by
  unfold State.softReset
  simp [hs]

@[simp] theorem leads_ridersStart (hs : p.leads s.spine) : p.leads s.ridersStart.spine := by
  have h := leads_coreStart (leads_coreStart (leads_coreStart hs .r0 s.sys.entry0) .r1 s.sys.entry1) .grm s.sys.entryG
  unfold State.ridersStart
  simp [h]

@[simp] theorem leads_dieShutdown (hs : p.leads s.spine) : p.leads s.dieShutdown.spine := by
  unfold State.dieShutdown
  simp [hs]

@[simp] theorem leads_thmWindow (hs : p.leads s.spine) (rs hv : List (Option Int)) : p.leads (s.thmWindow rs hv).spine := by
  unfold State.thmWindow
  simp [hs]

@[simp] theorem leads_dieCooling (hs : p.leads s.spine) (rs : List (Option Int)) : p.leads (s.dieCooling rs).spine := by
  unfold State.dieCooling
  simp [hs]

/-! ### Gait transitions (R60, R61) -/

theorem State.mapCel_spine_of_map {g : CelSt → CelSt} (h : (g s.cel).map = s.cel.map) : (s.mapCel g).spine = s.spine := by
  unfold State.spine State.mapCel
  dsimp only
  rw [h]

@[simp] theorem State.wakeBlocks_spine (s : State) : s.wakeBlocks.spine = s.spine := by
  unfold State.wakeBlocks
  extract_lets s1 s2 checks c r s3 s4 ok x method pad e s5 s6 rsv s7 s8 s9 s10 s11 s12 s13 s14
  have h3 : s3.spine = s.spine := (State.mapCel_spine_of_map rfl).trans (by simp [s2, s1])
  have h9 : s9.spine = s.spine := (foldl_spine (fun _ _ => State.limBound_spine ..) _ _).trans (by simp [s8, s7, s6, s5, s4, h3])
  simp [s14, s13, s12, s11, s10, h9]

@[simp] theorem leads_transAct (hs : p.leads s.spine) (n old : Nat) : p.leads (s.transAct n old).spine := by
  unfold State.transAct
  simp [hs]

@[simp] theorem leads_transEnd (hs : p.leads s.spine) : p.leads s.transEnd.spine := by
  unfold State.transEnd
  split <;> simp [hs]

/-! ### Boundaries and replay (R109, R397-R402) -/

@[simp] theorem leads_takeBoundary (hs : p.leads s.spine) (c : Core) : p.leads (s.takeBoundary c).spine := by
  unfold State.takeBoundary
  simp [hs]

@[simp] theorem leads_riderBoundary (hs : p.leads s.spine) (c : Core) : p.leads (s.riderBoundary c).spine := by
  unfold State.riderBoundary
  simp [hs]

@[simp] theorem leads_coreTick (hs : p.leads s.spine) (c : Core) : p.leads (s.coreTick c).spine := by
  unfold State.coreTick
  simp [hs]

@[simp] theorem leads_ridersDue (hs : p.leads s.spine) : p.leads s.ridersDue.spine := by
  unfold State.ridersDue
  simp [hs]

@[simp] theorem leads_takeOverNow (hs : p.leads s.spine) : p.leads s.takeOverNow.spine := by
  unfold State.takeOverNow
  simp [hs]

@[simp] theorem State.withNow_spine (s : State) (t : Nat) : ({ s with nowUs := t } : State).spine = s.spine := (rfl)

@[simp] theorem leads_controlTick (hs : p.leads s.spine) (rb : Nat) : p.leads (s.controlTick rb).spine := by
  unfold State.controlTick
  simp [hs]

@[simp] theorem leads_replayRider (hs : p.leads s.spine) (c : Core) : p.leads (s.replayRider c).spine := by
  unfold State.replayRider
  simp [hs]

@[simp] theorem leads_replayGait (hs : p.leads s.spine) (n target cause : Nat) :
    p.leads (s.replayGait n target cause).spine := by
  unfold State.replayGait
  simp [hs]

/-- A fold whose steps keep the spine. -/
theorem leads_foldl_keeps {α : Type} {f : State → α → State} (h : ∀ t x, (f t x).spine = t.spine) (l : List α)
    (hs : p.leads s.spine) : p.leads (l.foldl f s).spine := (foldl_spine h l s).symm ▸ hs

theorem leads_replay (hs : p.leads s.spine) (b : Bundle) : p.leads (s.replay b).spine := by
  unfold State.replay
  extract_lets s1 s2 s3 v s4 s5 s6 s7 s8 s9 s10 due s11 s12 s13 s14 s15
  have h3 : p.leads s3.spine :=
    leads_foldl_keeps (fun _ _ => by simp) _ (leads_foldl_keeps (fun _ _ => by simp) _
      (leads_foldl_keeps (fun _ _ => by simp) _ hs))
  have h5 : p.leads s5.spine := by simp [s5, s4, h3]
  have h8 : p.leads s8.spine :=
    leads_foldl_keeps (fun _ _ => by simp) _ (leads_foldl_keeps (fun _ _ => by simp) _
      (leads_foldl_keeps (fun _ _ => by simp) _ h5))
  have h9 : p.leads s9.spine := leads_foldl (fun _ _ ht => leads_replayGait ht ..) _ _ h8
  have h11 : p.leads s11.spine := leads_foldl_keeps (fun _ _ => by simp) _ (by simp [s10, h9])
  have h13 : p.leads s13.spine := leads_foldl_keeps (fun _ _ => by simp) _ (by simp [s12, h11])
  simp [s15, s14, h13]

end Sys2Proof.Machine
end


section
/-! SUPPORT. The applied layout, register stores, transfers and snapshots lead on. -/

namespace Sys2Proof.Machine
open Sys2Proof Sys2Proof.Reg

variable {p : Spine} {s : State}

/-! ### The applied layout (R202) -/

/-- A state with another layout in range. -/
theorem leads_of_layout (hs : p.leads s.spine) {t : State} {m : List (Nat × Nat)} (ht : t.spine = { s.spine with map := m })
    (hm : ∀ e ∈ m, e.1 < 512 ∧ 1 ≤ layUnit e.2) : p.leads t.spine := by
  rw [ht]
  refine ⟨hs.queue, fun h => ?_⟩
  obtain ⟨-, hr0, hr1, hgrm⟩ := hs.safe h
  exact ⟨hm, hr0, hr1, hgrm⟩

theorem leads_mapTake (hs : p.leads s.spine) {m : List (Nat × Nat)} (hm : ∀ e ∈ m, e.1 < 512 ∧ 1 ≤ layUnit e.2) :
    p.leads (s.mapTake m).spine := by
  unfold State.mapTake
  extract_lets t s1 s2 s3
  have h1 : p.leads s1.spine := leads_of_layout hs rfl hm
  simp [s3, s2, h1]

theorem writtenMap_lt (s : State) : ∀ e ∈ s.writtenMap, e.1 < 512 := by
  intro e he
  obtain ⟨n, hn, hne⟩ := List.mem_filterMap.1 he
  split at hne
  · cases hne
    exact List.mem_range.1 hn
  · cases hne

/-- A table that passes check 0x2 names no unit 0. -/
theorem mapCheck_none_layUnit {m : List (Nat × Nat)} (h : s.mapCheck m = none) : ∀ e ∈ m, 1 ≤ layUnit e.2 := by
  unfold State.mapCheck at h
  dsimp only at h
  split at h
  · cases h
  · split at h
    · cases h
    · split at h
      · cases h
      · next hfind =>
        intro e he
        have := List.find?_eq_none.1 hfind e he
        simp only [decide_eq_true_eq, not_or] at this
        exact Nat.pos_of_ne_zero this.1

@[simp] theorem leads_mapValidate (hs : p.leads s.spine) : p.leads s.mapValidate.spine := by
  unfold State.mapValidate
  extract_lets m s1
  have h1 : p.leads s1.spine := by simp [s1, hs]
  split
  · simp [h1]
  · next hnone =>
    exact leads_mapTake h1 fun e he => ⟨writtenMap_lt s e he, mapCheck_none_layUnit hnone e he⟩

@[simp] theorem leads_mapApply (hs : p.leads s.spine) : p.leads s.mapApply.spine := by
  unfold State.mapApply
  simp [hs]

@[simp] theorem leads_celCmd (hs : p.leads s.spine) (v : Nat) : p.leads (s.celCmd v).spine := by
  unfold State.celCmd
  simp [hs]

/-! ### Snapshots (R411) -/

theorem snapshotOk_layout {x : Snapshot} (h : snapshotOk x = true) : ∀ e ∈ x.cel.map, e.1 < 512 ∧ 1 ≤ layUnit e.2 := by
  simp only [snapshotOk, Bool.and_eq_true, List.all_eq_true, decide_eq_true_eq] at h
  intro e he
  have := h.2 e he
  simpa [layUnit, bits] using this

theorem leads_loadSnapshot (hs : p.leads s.spine) {x : Snapshot} (hx : snapshotOk x = true) :
    p.leads (s.loadSnapshot x).spine := by
  unfold State.loadSnapshot
  extract_lets keep s1 s2 regs s3 r0 s4 r1 s5 k
  have h2 : p.leads s2.spine :=
    leads_foldl_keeps (fun _ _ => by simp) _ (hs : p.leads s1.spine)
  have h3 : p.leads s3.spine := leads_of_layout h2 rfl (snapshotOk_layout hx)
  have h4 : s4.spine = s3.spine := State.setCore_spine rfl rfl
  have h5 : (s4.setCore .r1 { r1 with tags := x.tags1 }).spine = s4.spine := State.setCore_spine rfl rfl
  simp [s5, h5, h4, h3]

/-! ### Register stores and loads (R12, R22) -/

theorem leads_storeAct1 (hs : p.leads s.spine) (c : Core) (a w : Nat) (here : Bool) {d : State} (hd : p.leads d.spine) :
    p.leads ((s.storeAct1 c a w here).getD d).spine := by
  simp [State.storeAct1, getD_ite_spine, hs, hd]

theorem leads_storeAct2 (hs : p.leads s.spine) (a w : Nat) {d : State} (hd : d.spine = s.spine) :
    p.leads ((s.storeAct2 a w).getD d).spine := by
  simp [State.storeAct2, getD_ite_spine, State.ggnStore_spine, hs, hd]

@[simp] theorem leads_regStore (hs : p.leads s.spine) (c : Core) (a w : Nat) (here : Bool) :
    p.leads (s.regStore c a w here).spine := by
  have hd : (s.storeFields a w).spine = s.spine := State.storeFields_spine ..
  unfold State.regStore
  split
  · exact hs
  · dsimp only
    simp only [getD_ite_spine, Spine.leads_ite]
    refine ⟨fun _ => leads_storeAct1 hs _ _ _ _ (hd ▸ hs), fun _ => ⟨fun _ => leads_storeAct2 hs _ _ hd, fun _ => ?_⟩⟩
    simp [State.storeCan_spine, State.storeAct3_spine, hd, hs]

@[simp] theorem leads_storeAt (hs : p.leads s.spine) (c : Core) (n a w : Nat) : p.leads (s.storeAt c n a w).spine := by
  unfold State.storeAt
  split <;> simp [hs]

theorem runs_storeInstr (hs : p.leads s.spine) {f : Fetch} {d a : Reg} {imm : BitVec 13} {op n : Nat} :
    runs p (s.storeInstr f d a imm op n) := by
  unfold State.storeInstr
  refine runs_instr (fun u hu => ?_) hs
  dsimp only
  split
  · next t ht => exact leads_dataFault hu ht
  · simp [hu]

theorem leads_regWrite (hs : p.leads s.spine) (c : Core) (a w : Nat) (here : Bool) :
    p.leads (s.regWrite c a w here).spine := by
  unfold State.regWrite
  dsimp only
  split
  · exact hs
  · split
    · next t ht => exact leads_dataFault hs ht
    · simp [hs]

theorem runs_poke (hs : p.leads s.spine) (c : Core) (a w : Nat) : runs p (s.poke c a w) := leads_regWrite hs c a w _

theorem leads_regRead (hs : p.leads s.spine) (c : Core) (a : Nat) : p.leads (s.regRead c a).spine := by
  unfold State.regRead
  dsimp only
  split
  · exact hs
  · split
    · next t ht => exact leads_dataFault hs ht
    · exact (State.regLoad_spine s c a).symm ▸ hs

/-! ### Transfers (R108) and waits (R105) -/

theorem leads_dmaStore (hs : p.leads s.spine) (j : DmaJob) (a w : Nat) : p.leads (s.dmaStore j a w).2.spine := by
  unfold State.dmaStore
  split
  · split <;> simp [hs]
  · simp [hs]

theorem leads_dmaRun (j : DmaJob) (n : Nat) : ∀ {s : State} (done : Nat), p.leads s.spine → p.leads (s.dmaRun j n done).2.2.spine := by
  induction n with
  | zero => exact fun _ hs => hs
  | succ k ih =>
    intro s done hs
    unfold State.dmaRun
    extract_lets src dst l w
    split
    · simp [hs]
    · split
      · simp [hs]
      · have hl : p.leads l.2.spine := by
          dsimp only [l]
          split <;> simp [hs]
        have hw : p.leads w.2.spine := leads_dmaStore hl ..
        split
        · exact ih _ hw
        · exact hw

@[simp] theorem leads_waittEnd (hs : p.leads s.spine) (c : Core) (t d : Nat) : p.leads (s.waittEnd c t d).spine := by
  unfold State.waittEnd
  simp [hs]

/-! ### Owners of operations -/

theorem chxOwner_keepsSpine (c : Core) (u : State) (d : Desc) : (u.chxOwner c d).keepsSpine :=
  Accept.check_keepsSpine fun _ _ => State.chxGo_spine ..

theorem jobOwner_keepsSpine (c : Core) (u : State) (d : Desc) : (u.jobOwner c d).keepsSpine :=
  Accept.check_keepsSpine fun _ _ => State.jobGo_spine ..

theorem nvcOwner_keepsSpine (c : Core) (d : Desc) : (nvcOwner c d).keepsSpine :=
  Accept.check_keepsSpine fun _ _ => State.nvcGo_spine ..

theorem dmaOwner_keepsSpine (c : Core) (u : State) (d : Desc) : (u.dmaOwner c d).keepsSpine :=
  Accept.check_keepsSpine fun _ _ => State.setDma_spine ..

theorem txfOwner_keepsSpine (c : Core) (u : State) (d : Desc) : (u.txfOwner c d).keepsSpine := by
  unfold State.txfOwner
  dsimp only
  split
  · exact Accept.check_keepsSpine fun _ _ => State.canTxf_spine ..
  · split
    · exact Accept.check_keepsSpine fun _ _ => State.ethTxf_spine ..
    · exact True.intro

end Sys2Proof.Machine
end


section
/-! SUPPORT. The commands that start a core, reset the module, move a pc, write a register or apply a layout. -/

namespace Sys2Proof.Machine
open Sys2Proof Sys2Proof.Reg

variable {p : Spine} {s : State}

/-! ### Instructions -/

theorem runs_execHigh (hs : p.leads s.spine) (f : Fetch) (dst : Reg) (imm : BitVec 19) : runs p (execHigh f dst imm s) := by
  unfold execHigh
  exact runs_instr (fun u hu => by simp [hu]) hs

theorem runs_execJal (hs : p.leads s.spine) (f : Fetch) (off : BitVec 28) : runs p (execJal f off s) := by
  unfold execJal
  exact runs_instr (fun u hu =>
    leads_setPc (leads_setG hu _ _ _) _ fun h => branchTarget_aligned ((hu.safe h).pc _) off) hs

/-- jalr goes to an aligned register alone. -/
theorem runs_execJalr (hs : p.leads s.spine) (f : Fetch) (fl : Bool) (dst a b : Reg) : runs p (execJalr f fl dst a b s) := by
  unfold execJalr
  refine runs_instr (fun u hu => ?_) hs
  dsimp only
  split
  · exact leads_faultHere hu ..
  · next ha => exact leads_setPc (leads_setG hu _ _ _) _ fun _ => not_not.1 ha

theorem runs_execFcmp (hs : p.leads s.spine) (f : Fetch) (fl : Bool) (dst a b : Reg) : runs p (execFcmp f fl dst a b s) := by
  unfold execFcmp
  exact runs_instr (fun u hu => leads_fpSignal hu _ _ fun v hv => by simp [hv]) hs

theorem runs_execWaitt (hs : p.leads s.spine) (f : Fetch) (dst a b : Reg) : runs p (execWaitt f dst a b s) := by
  unfold execWaitt
  exact runs_instr (fun u hu => by simp [hu]) hs

theorem runs_execPollt (hs : p.leads s.spine) (f : Fetch) (dst a : Reg) : runs p (execPollt f dst a s) := by
  unfold execPollt
  exact runs_instr (fun u hu => by simp [hu]) hs

theorem runs_execTagrel (hs : p.leads s.spine) (f : Fetch) (a : Reg) : runs p (execTagrel f a s) := by
  unfold execTagrel
  refine runs_instr (fun u hu => leads_advance ?_ _) hs
  simp [hu]

theorem runs_execLock (hs : p.leads s.spine) (f : Fetch) (dst : Reg) (n : BitVec 5) : runs p (execLock f dst n s) := by
  unfold execLock
  exact runs_instr (fun u hu => by simp [hu]) hs

theorem runs_execUnlock (hs : p.leads s.spine) (f : Fetch) (dst a b : Reg) (n : BitVec 5) :
    runs p (execUnlock f dst a b n s) := by
  unfold execUnlock
  refine runs_instr (fun u hu => leads_advance ?_ _) hs
  simp [hu]

theorem runs_execMfcr (hs : p.leads s.spine) (f : Fetch) (dst : Reg) (cr : BitVec 13) : runs p (execMfcr f dst cr s) := by
  unfold execMfcr
  exact runs_instr (fun u hu => by simp [hu]) hs

theorem runs_execMtcr (hs : p.leads s.spine) (f : Fetch) (dst a : Reg) (cr : BitVec 13) : runs p (execMtcr f dst a cr s) := by
  unfold execMtcr
  exact runs_instr (fun u hu => by simp [hu]) hs

theorem runs_execWfe (hs : p.leads s.spine) (f : Fetch) (imm : BitVec 13) : runs p (execWfe f imm s) := by
  unfold execWfe
  exact runs_instr (fun u hu => leads_setCore hu _ fun h => (hu.safe h).core _) hs

/-- A fence only advances the pc. -/
theorem runs_fence (hs : p.leads s.spine) {f : Fetch} {word : Word} :
    runs p (s.instr f word none fun s => s.advance f.core) :=
  runs_instr (fun _ hu => leads_advance hu _) hs

theorem runs_execTrap (hs : p.leads s.spine) (f : Fetch) (imm : BitVec 13) : runs p (execTrap f imm s) := by
  unfold execTrap
  exact runs_instr (fun _ hu => leads_takeExc hu ..) hs

/-- eret clears the low bits of EPC. -/
theorem runs_execEret (hs : p.leads s.spine) (f : Fetch) : runs p (execEret f s) := by
  unfold execEret
  exact runs_instr (fun u hu => leads_setPc (by simp [hu]) _ fun _ => and_aligned _ rfl) hs

theorem runs_execWaittReturn (hs : p.leads s.spine) (c : Core) : runs p (execWaittReturn c s) := by
  unfold execWaittReturn
  rw [runs_next]
  split <;> simp [hs]

theorem runs_execWaittLimit (hs : p.leads s.spine) (c : Core) : runs p (execWaittLimit c s) := by
  unfold execWaittLimit
  rw [runs_next]
  split <;> simp [hs]

theorem runs_execLockGrant (hs : p.leads s.spine) (n : BitVec 5) : runs p (execLockGrant n s) := by
  unfold execLockGrant
  split
  · split <;> simp [hs]
  · simp [hs]

theorem runs_execWfeWake (hs : p.leads s.spine) (c : Core) : runs p (execWfeWake c s) := by
  simp [execWfeWake, hs]

theorem runs_execEventInterrupt (hs : p.leads s.spine) (c : Core) : runs p (execEventInterrupt c s) := by
  simp [execEventInterrupt, hs]

theorem runs_execDmaTransferDone (hs : p.leads s.spine) (e : DmaEnd) : runs p (execDmaTransferDone e s) := by
  unfold execDmaTransferDone
  dsimp only
  rw [runs_next]
  split
  · exact hs
  · rw [State.complete_spine]
    exact leads_dmaRun _ _ _ (by simp [hs])

/-! ### Register accesses -/

theorem runs_execPeriphStore (hs : p.leads s.spine) (c : Core) (a v : Word) : runs p (execPeriphStore c a v s) := by
  unfold execPeriphStore
  split
  · exact runs_poke hs ..
  · exact hs

theorem runs_execPrtSetWrite (hs : p.leads s.spine) (c : Core) (a v : Word) : runs p (execPrtSetWrite c a v s) := by
  unfold execPrtSetWrite
  split
  · exact runs_poke hs ..
  · exact hs

/-! ### Layout, ticks and boundaries -/

theorem runs_execMapValidate (hs : p.leads s.spine) : runs p (execMapValidate s) := by
  simp [execMapValidate, hs]

theorem runs_execControlTick (hs : p.leads s.spine) (rb : BitVec 16) : runs p (execControlTick rb s) := by
  simp [execControlTick, hs]

theorem runs_execTickSymbol (hs : p.leads s.spine) (rb : BitVec 16) : runs p (execTickSymbol rb s) := by
  simp [execTickSymbol, hs]

theorem runs_execTickWait (hs : p.leads s.spine) (r : Rider) : runs p (execTickWait r s) := by
  simp [execTickWait, hs]

theorem runs_execSnapshotFinal (hs : p.leads s.spine) {x : Snapshot} (hx : snapshotOk x = true) :
    runs p (execSnapshotFinal x s) := by
  have h := leads_loadSnapshot hs hx
  simp [execSnapshotFinal, hs, h]

theorem runs_execReplayBoundary (hs : p.leads s.spine) : runs p (execReplayBoundary s) := by
  unfold execReplayBoundary
  split
  · split
    · exact leads_replay (by simp [hs]) _
    · exact hs
  · exact hs

theorem runs_execPeerSilence (hs : p.leads s.spine) (lost : Bool) : runs p (execPeerSilence lost s) := by
  simp [execPeerSilence, hs]

/-! ### Gaits, supply and reset -/

theorem runs_execGaitTransitionComplete (hs : p.leads s.spine) : runs p (execGaitTransitionComplete s) := by
  simp [execGaitTransitionComplete, hs]

theorem runs_execWakeNLow (hs : p.leads s.spine) (low : Bool) : runs p (execWakeNLow low s) := by
  unfold execWakeNLow
  dsimp only
  split <;> simp [hs]

theorem runs_execRtcTick (hs : p.leads s.spine) : runs p (execRtcTick s) := by
  simp [execRtcTick, hs]

theorem runs_execAuxPowerOn (hs : p.leads s.spine) (seat wakeN resetN : Bool) :
    runs p (execAuxPowerOn seat wakeN resetN s) := by
  simp [execAuxPowerOn, hs]

theorem runs_execAuxFail (hs : p.leads s.spine) : runs p (execAuxFail s) := by
  unfold execAuxFail
  extract_lets s1 t s2 s3 s4 s5
  have h3 : p.leads s3.spine := by simp [s3, s2, s1, hs]
  have h5 : p.leads s5.spine := by simp [s5, s4, h3]
  simp only [runs_ite, runs_next, State.enterLame_spine, State.forceLame_spine, State.markLame_spine]
  exact ⟨fun _ => hs, fun _ => ⟨fun _ => leads_powerOff hs, fun _ => ⟨fun _ => h3, fun _ => ⟨fun _ => h5, fun _ => h3⟩⟩⟩⟩

theorem runs_execPowerDownEnd (hs : p.leads s.spine) (low : Bool) : runs p (execPowerDownEnd low s) := by
  simp [execPowerDownEnd, hs]

theorem runs_execResetNAssert (hs : p.leads s.spine) : runs p (execResetNAssert s) := by
  simp [execResetNAssert, hs]

theorem runs_execResetNRelease (hs : p.leads s.spine) : runs p (execResetNRelease s) := by
  simp [execResetNRelease, hs]

theorem runs_execResetNStuck (hs : p.leads s.spine) : runs p (execResetNStuck s) := by
  simp [execResetNStuck, hs]

theorem runs_execSystemWatchdogExpiry (hs : p.leads s.spine) : runs p (execSystemWatchdogExpiry s) := by
  simp [execSystemWatchdogExpiry, hs]

theorem runs_execSupplyMonitorReset (hs : p.leads s.spine) : runs p (execSupplyMonitorReset s) := by
  simp [execSupplyMonitorReset, hs]

theorem runs_execRidersStart (hs : p.leads s.spine) (selfTest : Bool) : runs p (execRidersStart selfTest s) := by
  simp [execRidersStart, hs]

theorem runs_execBootAgain (hs : p.leads s.spine) : runs p (execBootAgain s) := by
  simp [execBootAgain, hs]

theorem runs_execGroomFaultReset (hs : p.leads s.spine) : runs p (execGroomFaultReset s) := by
  simp [execGroomFaultReset, hs]

theorem runs_execThmSensorWindow (hs : p.leads s.spine) (n0 n1 n2 n3 n4 n5 : Nat) (hv0 hv1 : Option Int) :
    runs p (execThmSensorWindow n0 n1 n2 n3 n4 n5 hv0 hv1 s) := by
  simp [execThmSensorWindow, hs]

theorem runs_execDieRestart (hs : p.leads s.spine) (n0 n1 n2 n3 n4 n5 : Nat) :
    runs p (execDieRestart n0 n1 n2 n3 n4 n5 s) := by
  simp [execDieRestart, hs]

end Sys2Proof.Machine
end


section
/-! PROOF. O60: every command keeps the program counters aligned, g0 without a value and the applied layout in range. -/

namespace Sys2Proof.Machine
open Sys2Proof Sys2Proof.Reg

/-- Every well-formed command completes, and leads on: most of them keep the spine as it is. -/
theorem runs_exec (c : Instr) (s : State) (hc : c.wellFormed = true) : runs s.spine (exec c s) := by
  have hs : s.spine.leads s.spine := Spine.leads_refl _
  cases c <;> unfold exec
  case add | sub | and | or | xor | shl | shr | sar | slt | sltu | min | max | minu | maxu | mul | mulh | mulhu | div
      | divu | rem | remu =>
    exact runs_aluReg hs fun _ _ _ _ _ => by simp
  case addi | subi | andi | ori | xori | shli | shri | sari | slti | sltiu =>
    exact runs_aluImm hs fun _ _ _ _ _ => by simp
  case lb | lbu | lh | lhu | lw => exact runs_loadInstr hs
  case sb | sh | sw => exact runs_storeInstr hs
  case beq | bne | bhs | blo | bmi | bpl | bvs | bvc | bhi | bls | bge | blt | bgt | ble | j | bz | bnz | bltz | bgez
      | bgtz | blez =>
    exact runs_branch hs
  case fadd | fsub | fmul | fdiv | fsqrt | fma | fms | fmin | fmax | fabs | fneg | fcvtsw | fcvtws | fcvtwsr =>
    exact runs_fpInstr hs
  case amoadd | amoswap | amocas | amoand | amoor => exact runs_atomic hs
  case chx => exact runs_issue hs (fun _ => by simp) (chxOwner_keepsSpine _)
  case job => exact runs_issue hs (fun _ => by simp) (jobOwner_keepsSpine _)
  case nvc => exact runs_issue hs (fun _ => by simp) (fun _ => nvcOwner_keepsSpine _)
  case dma => exact runs_issue hs (fun _ => by simp) (dmaOwner_keepsSpine _)
  case txf => exact runs_issue hs (fun _ => by simp) (txfOwner_keepsSpine _)
  case fenceFull | fenceStores | fenceInstruction => exact runs_fence hs
  case evtDone | evtSet | padLocklimWrite | pwrReqStable | pwrReqPaddock | pwrReqWalk | pwrReqTrot | pwrReqCanter |
      pwrReqGallop | pwrReqLame | softwareReset | sysWdkey | hrdAbort | hrdCtrlWrite | pchArm | pchAbort | rangeReset
      | qclr | zero | hvmCtrlWrite | hvmHallgainWrite | chnEnum | chnRemeasure | chnWake | chnAbort | chnCtrlWrite |
      mapApply | senseClr | owtNow | balStop | check | paramApply | estCtrlWrite | lsnapReq | crbHb | crbCmdSrs |
      crbCmdSii | crbReset | crbSealFirstKey | crbSealSecondKey | ggnTargetWrite | ggnGo | ggnStop | ggnFlush |
      ggnSetpos | ggnAxisCtrlWrite | fioDosetWrite | lsRelease | wdRearm | cntclr | fioWdkey | canTxreq | canTxabort |
      canRecover | canAbortall | canTimingWrite | canObjectConfigWrite | timeAccept | tsqPop | tsqClr | ptpCmpWrite |
      tdmCtrlWrite | tdmResync | tdmRelease | tdmClaimref | rsvTest | ledgerDone | logClear | updBegin | updProg |
      updVerify | updArm | healthConfirm | updAbort =>
    exact runs_poke hs ..
  case hrdTeamdisWrite => exact leads_regWrite hs ..
  case evtClaim | hvmQloRead | ptpTimeloRead => exact leads_regRead hs ..
  case high => exact runs_execHigh hs ..
  case jal => exact runs_execJal hs ..
  case jalr => exact runs_execJalr hs ..
  case fcmp => exact runs_execFcmp hs ..
  case waitt => exact runs_execWaitt hs ..
  case pollt => exact runs_execPollt hs ..
  case tagrel => exact runs_execTagrel hs ..
  case lock => exact runs_execLock hs ..
  case unlock => exact runs_execUnlock hs ..
  case mfcr => exact runs_execMfcr hs ..
  case mtcr => exact runs_execMtcr hs ..
  case wfe => exact runs_execWfe hs ..
  case trap => exact runs_execTrap hs ..
  case eret => exact runs_execEret hs ..
  case periphStore => exact runs_execPeriphStore hs ..
  case prtSetWrite => exact runs_execPrtSetWrite hs ..
  case mapValidate => exact runs_execMapValidate hs
  case controlTick => exact runs_execControlTick hs ..
  case tickSymbol => exact runs_execTickSymbol hs ..
  case tickWait => exact runs_execTickWait hs ..
  case snapshotFinal x => exact runs_execSnapshotFinal hs hc
  case replayBoundary => exact runs_execReplayBoundary hs
  case peerSilence => exact runs_execPeerSilence hs ..
  case gaitTransitionComplete => exact runs_execGaitTransitionComplete hs
  case wakeNLow => exact runs_execWakeNLow hs ..
  case rtcTick => exact runs_execRtcTick hs
  case auxPowerOn => exact runs_execAuxPowerOn hs ..
  case auxFail => exact runs_execAuxFail hs
  case powerDownEnd => exact runs_execPowerDownEnd hs ..
  case resetNAssert => exact runs_execResetNAssert hs
  case resetNRelease => exact runs_execResetNRelease hs
  case resetNStuck => exact runs_execResetNStuck hs
  case systemWatchdogExpiry => exact runs_execSystemWatchdogExpiry hs
  case supplyMonitorReset => exact runs_execSupplyMonitorReset hs
  case ridersStart => exact runs_execRidersStart hs ..
  case bootAgain => exact runs_execBootAgain hs
  case dmaTransferDone => exact runs_execDmaTransferDone hs ..
  case waittReturn => exact runs_execWaittReturn hs ..
  case waittLimit => exact runs_execWaittLimit hs ..
  case lockGrant => exact runs_execLockGrant hs ..
  case wfeWake => exact runs_execWfeWake hs ..
  case eventInterrupt => exact runs_execEventInterrupt hs ..
  case groomFaultReset => exact runs_execGroomFaultReset hs
  case thmSensorWindow => exact runs_execThmSensorWindow hs ..
  case dieRestart => exact runs_execDieRestart hs ..
  all_goals exact runs_of_spineAfter (by simp)

/-- What a state is after a well-formed command. -/
theorem exec_keeps_form {c : Instr} {s : State} (hpc : s.pcAligned = true) (hg : s.zeroHeld = true)
    (hmap : s.mapRange = true) (hc : c.wellFormed = true) :
    ∃ t, exec c s = .next t ∧ t.pcAligned = true ∧ t.zeroHeld = true ∧ t.mapRange = true ∧ t.pending = s.pending := by
  have h := runs_exec c s hc
  cases ht : exec c s with
  | next t =>
    rw [ht, runs_next] at h
    obtain ⟨hpc', hg', hmap'⟩ := spine_safe_iff.1 (h.safe (spine_safe_iff.2 ⟨hpc, hg, hmap⟩))
    exact ⟨t, rfl, hpc', hg', hmap', h.queue⟩
  | fault _ => rw [ht] at h; exact h.elim
  | refused _ => rw [ht] at h; exact h.elim

/-- Settles O60: the queue, the applied layout and the cores' registers of a state are its spine; every command
either keeps it or leads to one whose program counters, g0 and layout are in form. -/
theorem programCountersStayAligned : Obligations.ProgramCountersStayAligned := by
  refine ⟨fun c s hpc hg hmap hc => exec_keeps_form hpc hg hmap hc, fun s t hpc hg hmap hwf hstep => ?_⟩
  unfold step at hstep
  split at hstep
  · next hq =>
    cases hstep
    exact ⟨hpc, hg, hmap, by rw [hq]; rfl⟩
  · next c rest hq =>
    obtain ⟨u, hu, hpc', hg', hmap', hpend⟩ :=
      exec_keeps_form (s := s.withPending rest) hpc hg hmap (hwf c rest hq)
    rw [hu] at hstep
    cases hstep
    exact ⟨hpc', hg', hmap', by rw [hpend, hq]; rfl⟩

end Sys2Proof.Machine
end


section
/-! SUPPORT. The lane words (R121, R122): the lanes that execute, the writes to them, and the sequencer after a word. -/

namespace Sys2Proof.Machine
open Sys2Proof Sys2Proof.Reg

/-! ### Executing lanes -/

theorem mem_teamLanes {l t : Nat} : l ∈ teamLanes t ↔ l / 16 = t := by
  simp only [teamLanes, List.mem_map, List.mem_range]
  constructor
  · rintro ⟨i, hi, rfl⟩
    omega
  · exact fun h => ⟨l % 16, by omega, by omega⟩

theorem governs_eq_true {s : State} {o : LaneOp} {l : Nat} : s.governs l o.pred.toNat o.unp o.neg = true ↔
    (o.unp = true ∨ (s.lanePreds l).testBit o.pred.toNat = !o.neg) := by
  cases hu : o.unp
  · simpa using governs_iff s l o.pred.toNat o.neg
  · simp [State.governs]

theorem mem_executing {s : State} {o : LaneOp} {l : Nat} : l ∈ s.executing o ↔ s.laneRuns o l := by
  rw [State.executing, List.mem_filter, mem_teamLanes, governs_eq_true, State.laneRuns]

/-! ### Writes to lanes -/

/-- From `s` to `t` nothing but lane registers and predicates changes. -/
def State.lanesOnly (s t : State) : Prop := ∃ v p, t = s.mapHerd fun x => { x with v := v, p := p }

namespace State.lanesOnly

theorem refl (s : State) : s.lanesOnly s := ⟨s.herd.v, s.herd.p, rfl⟩

theorem trans {s t u : State} (h : s.lanesOnly t) (k : t.lanesOnly u) : s.lanesOnly u := by
  obtain ⟨_, _, rfl⟩ := h
  obtain ⟨v, p, rfl⟩ := k
  exact ⟨v, p, rfl⟩

theorem foldl {α : Type} {f : State → α → State} (hf : ∀ (s : State) (x : α), s.lanesOnly (f s x)) (l : List α) :
    ∀ s : State, s.lanesOnly (l.foldl f s) := by
  induction l with
  | nil => exact refl
  | cons x l ih => exact fun s => (hf s x).trans (ih _)

theorem rest {s t : State} (h : s.lanesOnly t) : t.rest = s.rest := by
  obtain ⟨_, _, rfl⟩ := h
  rfl

theorem runner {s t : State} (h : s.lanesOnly t) (k : Nat) : t.runner k = s.runner k := by
  obtain ⟨_, _, rfl⟩ := h
  rfl

theorem jobs {s t : State} (h : s.lanesOnly t) : t.herd.jobs = s.herd.jobs := by
  obtain ⟨_, _, rfl⟩ := h
  rfl

end State.lanesOnly

theorem lanesOnly_setLane (s : State) (l q v : Nat) : s.lanesOnly (s.setLane l q v) := ⟨_, s.herd.p, rfl⟩

theorem lanesOnly_setPred (s : State) (l p : Nat) (v : Bool) : s.lanesOnly (s.setPred l p v) := ⟨s.herd.v, _, rfl⟩

/-- Every lane of a list takes a value in one register. -/
theorem laneReg_foldl_setLane (ls : List Nat) {d q : Nat} (hd : d < 64) (hq : q < 64) (v : Nat → Nat) (m : Nat) :
    ∀ s : State, (ls.foldl (fun (t : State) l => t.setLane l d (v l)) s).laneReg m q =
      if m ∈ ls ∧ q = d then v m % 2 ^ 32 else s.laneReg m q := by
  induction ls with
  | nil => exact fun s => (if_neg fun h => List.not_mem_nil h.1).symm
  | cons l ls ih =>
    intro s
    rw [List.foldl_cons, ih]
    by_cases hin : m ∈ ls ∧ q = d
    · rw [if_pos hin, if_pos ⟨List.mem_cons_of_mem _ hin.1, hin.2⟩]
    · rw [if_neg hin]
      by_cases hm : m = l ∧ q = d
      · obtain ⟨rfl, rfl⟩ := hm
        rw [if_pos ⟨List.mem_cons_self, rfl⟩, laneReg_setLane_same]
      · have hkey : 64 * m + q ≠ 64 * l + d := by omega
        rw [laneReg_setLane_ne _ _ hkey,
          if_neg fun h => (List.mem_cons.mp h.1).elim (fun e => hm ⟨e, h.2⟩) fun e => hin ⟨e, h.2⟩]

theorem lanePreds_foldl_setLane (ls : List Nat) (d : Nat) (v : Nat → Nat) (m : Nat) (s : State) :
    (ls.foldl (fun (t : State) l => t.setLane l d (v l)) s).lanePreds m = s.lanePreds m :=
  List.foldlRecOn ls _ (motive := fun t : State => t.lanePreds m = s.lanePreds m) rfl fun _ h _ _ => h

theorem testBit_putBit (n b k : Nat) (v : Bool) : (putBit n b v).testBit k = if k = b then v else n.testBit k := by
  by_cases h : k = b
  · subst h
    cases v <;> simp [putBit, testBit_setBit, testBit_clrBit]
  · cases v <;> simp [putBit, testBit_setBit, testBit_clrBit, h, Ne.symm h]

/-- Every lane of a list takes a value in one predicate. -/
theorem testBit_foldl_setPred (ls : List Nat) (d : Nat) (v : Nat → Bool) (m p : Nat) : ∀ s : State,
    ((ls.foldl (fun (t : State) l => t.setPred l d (v l)) s).lanePreds m).testBit p =
      if m ∈ ls ∧ p = d then v m else (s.lanePreds m).testBit p := by
  induction ls with
  | nil => exact fun s => (if_neg fun h => List.not_mem_nil h.1).symm
  | cons l ls ih =>
    intro s
    rw [List.foldl_cons, ih]
    by_cases hin : m ∈ ls ∧ p = d
    · rw [if_pos hin, if_pos ⟨List.mem_cons_of_mem _ hin.1, hin.2⟩]
    · rw [if_neg hin]
      by_cases hm : m = l
      · subst hm
        rw [lanePreds_setPred_same, testBit_putBit]
        by_cases hp : p = d
        · rw [if_pos hp, if_pos ⟨List.mem_cons_self, hp⟩]
        · rw [if_neg hp, if_neg fun h => hp h.2]
      · rw [lanePreds_setPred_ne _ _ _ hm, if_neg fun h => (List.mem_cons.mp h.1).elim hm fun e => hin ⟨e, h.2⟩]

theorem lanePreds_foldl_setPred_of_notMem {ls : List Nat} {m : Nat} (hm : m ∉ ls) (d : Nat) (v : Nat → Bool) (s : State) :
    (ls.foldl (fun (t : State) l => t.setPred l d (v l)) s).lanePreds m = s.lanePreds m :=
  List.foldlRecOn ls _ (motive := fun t : State => t.lanePreds m = s.lanePreds m) rfl fun _ h _ hl =>
    (lanePreds_setPred_ne _ _ _ fun e : m = _ => hm (e ▸ hl)).trans h

theorem laneReg_foldl_setPred (ls : List Nat) (d : Nat) (v : Nat → Bool) (m q : Nat) (s : State) :
    (ls.foldl (fun (t : State) l => t.setPred l d (v l)) s).laneReg m q = s.laneReg m q :=
  List.foldlRecOn ls _ (motive := fun t : State => t.laneReg m q = s.laneReg m q) rfl fun _ h _ _ => h

/-! ### The sequencer after a word -/

theorem laneReg_putJob (s : State) (j : Job) (l q : Nat) : (s.putJob j).laneReg l q = s.laneReg l q :=
  laneReg_of_herd (congrArg (·.v) (putJob_herd s j)) l q

theorem lanePreds_of_herd {s t : State} (h : t.herd.p = s.herd.p) (l : Nat) : t.lanePreds l = s.lanePreds l :=
  congrArg (fun p => mapGet 0 p l) h

theorem lanePreds_putJob (s : State) (j : Job) (l : Nat) : (s.putJob j).lanePreds l = s.lanePreds l :=
  lanePreds_of_herd (congrArg (·.p) (putJob_herd s j)) l

/-- From `s` to `t` the Herd, the clocks, the memory and the cores stand. -/
structure State.herdStands (s t : State) : Prop where
  herd : t.herd = s.herd
  power : t.power = s.power
  rest : t.rest = s.rest

theorem State.herdStands.trans {s t u : State} (h : s.herdStands t) (k : t.herdStands u) : s.herdStands u :=
  ⟨k.herd.trans h.herd, k.power.trans h.power, k.rest.trans h.rest⟩

theorem herdStands_laneEcc (s : State) (e : Ecc) : s.herdStands (s.laneEcc e) :=
  ⟨laneEcc_herd s e, laneEcc_power s e, State.laneEcc_rest s e⟩

theorem State.herdStands.runner {s t : State} (h : s.herdStands t) (k : Nat) : t.runner k = s.runner k := by
  unfold State.runner State.pllGated
  rw [h.herd, h.power]

theorem State.herdStands.executing {s t : State} (h : s.herdStands t) (o : LaneOp) : t.executing o = s.executing o := by
  unfold State.executing State.governs State.lanePreds
  rw [h.herd]

theorem State.herdStands.laneReg {s t : State} (h : s.herdStands t) (l q : Nat) : t.laneReg l q = s.laneReg l q :=
  laneReg_of_herd (congrArg (·.v) h.herd) l q

theorem State.herdStands.lanePreds {s t : State} (h : s.herdStands t) (l : Nat) : t.lanePreds l = s.lanePreds l :=
  lanePreds_of_herd (congrArg (·.p) h.herd) l

theorem laneAt_laneNext {s u : State} {o : LaneOp} {j : Job} {r : TeamRun} (hrun : u.runner o.team.toNat = some (j, r))
    (hcores : s.sameCores u) : s.laneAt (u.laneNext j r) o r (r.pc + 1) := by
  obtain ⟨h0, h1, h2⟩ := hcores
  obtain ⟨-, g0, g1, g2⟩ := State.sameRest_of_rest (State.laneNext_rest u j r)
  exact ⟨runner_putRun hrun (r.pc + 1), g0.trans h0, g1.trans h1, g2.trans h2⟩

/-- A word that writes lanes alone leaves memory and cores, and its team goes on. -/
theorem laneAt_of_lanesOnly {s u w : State} {o : LaneOp} {j : Job} {r : TeamRun}
    (hrun : s.runner o.team.toNat = some (j, r)) (hu : s.herdStands u) (h : u.lanesOnly w) :
    (w.laneNext j r).mem = s.mem ∧ s.laneAt (w.laneNext j r) o r (r.pc + 1) := by
  have hrest : w.rest = s.rest := h.rest.trans hu.rest
  exact ⟨State.mem_of_rest ((State.laneNext_rest w j r).trans hrest),
    laneAt_laneNext ((h.runner _).trans ((hu.runner _).trans hrun)) (State.sameRest_of_rest hrest).2⟩

end Sys2Proof.Machine
end


section
/-! PROOF. Arithmetic, compare and predicate words of the lanes (R121, R122, Table HRD-6). -/

namespace Sys2Proof.Machine
open Sys2Proof Sys2Proof.Reg

/-! ### Register results -/

/-- Every executing lane takes `v` in `dst`, nothing else of the lanes, the memory and the cores changes, and the team
goes on. -/
def State.lanesTake (s t : State) (o : LaneOp) (r : TeamRun) (dst : BitVec 6) (v : Nat → Nat) : Prop :=
  (∀ (l : Nat) (q : BitVec 6), s.laneRuns o l → t.laneReg l q.toNat =
      if q = dst then v l % 2 ^ 32 else s.laneReg l q.toNat) ∧
    (∀ (l : Nat) (q : BitVec 6), ¬ s.laneRuns o l → t.laneReg l q.toNat = s.laneReg l q.toNat) ∧
    (∀ l, t.lanePreds l = s.lanePreds l) ∧ t.mem = s.mem ∧ s.laneAt t o r (r.pc + 1)

theorem lanesTake_foldl {s u : State} {o : LaneOp} {j : Job} {r : TeamRun} (hrun : s.runner o.team.toNat = some (j, r))
    (hu : s.herdStands u) (dst : BitVec 6) (v : Nat → Nat) :
    s.lanesTake (((s.executing o).foldl (fun (t : State) l => t.setLane l dst.toNat (v l)) u).laneNext j r) o r dst v := by
  have hreg : ∀ (u : State) l q, (u.laneNext j r).laneReg l q = u.laneReg l q := fun u => laneReg_putJob u _
  refine ⟨fun l q hl => ?_, fun l q hl => ?_, fun l => ?_, laneAt_of_lanesOnly hrun hu
    (.foldl (fun s l => lanesOnly_setLane s l _ _) _ _)⟩
  · rw [hreg, laneReg_foldl_setLane _ dst.isLt q.isLt, hu.laneReg]
    simp only [mem_executing.mpr hl, true_and, BitVec.toNat_inj]
  · rw [hreg, laneReg_foldl_setLane _ dst.isLt q.isLt, hu.laneReg, if_neg fun h => hl (mem_executing.mp h.1)]
  · exact (lanePreds_putJob _ _ l).trans ((lanePreds_foldl_setLane _ _ _ _ _).trans (hu.lanePreds l))

/-- What a word of `execLane…` comes to where its team runs it. -/
def LaneTakes (i : Instr) (o : LaneOp) (dst : BitVec 6) (v : Nat → Nat) (s : State) : Prop :=
  ∀ (j : Job) (r : TeamRun), s.laneReady o j r → o.m = false → ∃ t, exec i s = .next t ∧ s.lanesTake t o r dst v

theorem laneTakes_of_alu {i : Instr} {o : LaneOp} {dst : BitVec 6} {val : State → Nat → Nat} {v : Nat → Nat} {s : State}
    (hi : exec i s = s.laneAlu o true dst val)
    (hv : ∀ j r, s.runner o.team.toNat = some (j, r) → ∀ l, val (s.laneEcc o.ecc) l = v l) : LaneTakes i o dst v s := by
  intro j r h hm
  refine ⟨_, hi, ?_⟩
  rw [laneGo_ready h (by rw [hm]; rfl), ← funext (hv j r h.1), (herdStands_laneEcc s o.ecc).executing]
  exact lanesTake_foldl h.1 (herdStands_laneEcc s o.ecc) dst _

theorem laneTakes_bin {i : Instr} {o : LaneOp} {dst a b : BitVec 6} {f : Nat → Nat → Nat} {s : State}
    (hi : exec i s = s.laneBin o dst a b f) :
    LaneTakes i o dst (fun l => f (s.laneReg l a.toNat) (s.laneReg l b.toNat)) s :=
  laneTakes_of_alu hi fun _ _ _ l => by simp only [(herdStands_laneEcc s o.ecc).laneReg]

theorem laneTakes_un {i : Instr} {o : LaneOp} {dst a : BitVec 6} {f : Nat → Nat} {s : State}
    (hi : exec i s = s.laneUn o dst a 0 f) : LaneTakes i o dst (fun l => f (s.laneReg l a.toNat)) s :=
  laneTakes_of_alu hi fun _ _ _ l => by rw [(herdStands_laneEcc s o.ecc).laneReg]

theorem laneTakes_fused {i : Instr} {o : LaneOp} {dst a b : BitVec 6} {f : Nat → Nat → Nat → Nat} {s : State}
    (hi : exec i s = s.laneAlu o true dst fun s l => f (s.laneReg l dst.toNat) (s.laneReg l a.toNat) (s.laneReg l b.toNat)) :
    LaneTakes i o dst (fun l => f (s.laneReg l dst.toNat) (s.laneReg l a.toNat) (s.laneReg l b.toNat)) s :=
  laneTakes_of_alu hi fun _ _ _ l => by simp only [(herdStands_laneEcc s o.ecc).laneReg]

theorem laneTakes_imax (o : LaneOp) (dst a b : BitVec 6) (s : State) : LaneTakes (.laneImax o dst a b) o dst
    (fun l => if sgn 32 (s.laneReg l b.toNat) ≤ sgn 32 (s.laneReg l a.toNat) then s.laneReg l a.toNat
      else s.laneReg l b.toNat) s := by
  refine laneTakes_of_alu (exec_laneImax o dst a b s) fun _ _ _ l => ?_
  simp only [(herdStands_laneEcc s o.ecc).laneReg]
  by_cases hle : sgn 32 (s.laneReg l b.toNat) ≤ sgn 32 (s.laneReg l a.toNat)
  · exact (if_neg (not_lt.mpr hle)).trans (if_pos hle).symm
  · exact (if_pos (not_le.mp hle)).trans (if_neg hle).symm

theorem laneTakes_cmap {o : LaneOp} {dst : BitVec 6} {j : Job} {r : TeamRun} {s : State} (h : s.laneReady o j r) :
    LaneTakes (.laneCmap o dst) o dst (fun l => ((j.cells.find? fun e => e.1 = l).map (·.2)).getD 0xFFFFFFFF) s := by
  refine laneTakes_of_alu (exec_laneCmap o dst s) fun _ _ _ l => ?_
  simp only [runner_laneEcc, h.1]

/-- Settles O27: every word writes the executing lanes through the one shape of `laneAlu`, its values read before. -/
theorem laneArithmeticResults : Obligations.LaneArithmeticResults := by
  unfold Obligations.LaneArithmeticResults
  refine ⟨fun row hrow o dst a b s => ?_, fun row hrow o dst a b s => ?_, fun row hrow o dst a s => ?_,
    fun o dst a s => ⟨laneTakes_of_alu (exec_laneFcvtsw o dst a s) fun _ _ _ l => by
      rw [(herdStands_laneEcc s o.ecc).laneReg],
      laneTakes_of_alu (exec_laneFcvtws o dst a s) fun _ _ _ l => by rw [(herdStands_laneEcc s o.ecc).laneReg]⟩,
    fun o dst s => ⟨laneTakes_of_alu (exec_laneLidx o dst s) fun _ _ _ _ => rfl,
      laneTakes_of_alu (exec_laneTidx o dst s) fun _ _ _ _ => rfl,
      fun imm => laneTakes_of_alu (exec_laneLdi o dst imm s) fun _ _ _ _ => (BitVec.toNat_ofInt ..).symm,
      fun j r h => laneTakes_cmap h⟩⟩
  · simp only [List.mem_cons, List.not_mem_nil, or_false] at hrow
    rcases hrow with rfl | rfl | rfl | rfl | rfl | rfl | rfl | rfl | rfl | rfl | rfl | rfl | rfl | rfl | rfl | rfl | rfl
    on_goal 17 => exact laneTakes_imax o dst a b s
    all_goals exact laneTakes_bin rfl
  · simp only [List.mem_cons, List.not_mem_nil, or_false] at hrow
    rcases hrow with rfl | rfl
    · exact laneTakes_fused rfl
    · exact laneTakes_fused rfl
  · simp only [List.mem_cons, List.not_mem_nil, or_false] at hrow
    rcases hrow with rfl | rfl | rfl | rfl | rfl | rfl | rfl
    all_goals exact laneTakes_un rfl

/-! ### Predicate results -/

/-- Every executing lane takes `v` in predicate `dst`, nothing else of the lanes, the memory and the cores changes, and
the team goes on. -/
def State.predsTake (s t : State) (o : LaneOp) (r : TeamRun) (dst : BitVec 6) (v : Nat → Bool) : Prop :=
  (∀ l, s.laneRuns o l → ∀ p, (t.lanePreds l).testBit p =
      if p = dst.toNat then v l else (s.lanePreds l).testBit p) ∧
    (∀ l, ¬ s.laneRuns o l → t.lanePreds l = s.lanePreds l) ∧
    (∀ (l : Nat) (q : BitVec 6), t.laneReg l q.toNat = s.laneReg l q.toNat) ∧ t.mem = s.mem ∧
    s.laneAt t o r (r.pc + 1)

theorem predsTake_foldl {s u : State} {o : LaneOp} {j : Job} {r : TeamRun} (hrun : s.runner o.team.toNat = some (j, r))
    (hu : s.herdStands u) (dst : BitVec 6) (v : Nat → Bool) :
    s.predsTake (((s.executing o).foldl (fun (t : State) l => t.setPred l dst.toNat (v l)) u).laneNext j r) o r dst v := by
  have hpred : ∀ (u : State) l, (u.laneNext j r).lanePreds l = u.lanePreds l := fun u => lanePreds_putJob u _
  refine ⟨fun l hl p => ?_, fun l hl => ?_, fun l q => ?_, laneAt_of_lanesOnly hrun hu
    (.foldl (fun s l => lanesOnly_setPred s l _ _) _ _)⟩
  · rw [hpred, testBit_foldl_setPred, hu.lanePreds]
    simp only [mem_executing.mpr hl, true_and]
  · rw [hpred, lanePreds_foldl_setPred_of_notMem fun h => hl (mem_executing.mp h), hu.lanePreds]
  · exact (laneReg_putJob _ _ l _).trans ((laneReg_foldl_setPred _ _ _ _ _ _).trans (hu.laneReg l _))

theorem predsTake_of_cmp {i : Instr} {o : LaneOp} {legal : Bool} {dst : BitVec 6} {val : State → Nat → Bool}
    {v : Nat → Bool} {s : State} (hi : exec i s = s.laneCmp o legal dst val) (hl : legal = true)
    (hv : ∀ l, val (s.laneEcc o.ecc) l = v l) {j : Job} {r : TeamRun} (h : s.laneReady o j r) (hm : o.m = false)
    (hd : dst.toNat < 8) : ∃ t, exec i s = .next t ∧ s.predsTake t o r dst v := by
  refine ⟨_, hi, ?_⟩
  rw [laneGo_ready h (by rw [hl, hm, decide_eq_true hd]; rfl), Nat.mod_eq_of_lt hd, ← funext hv,
    (herdStands_laneEcc s o.ecc).executing]
  exact predsTake_foldl h.1 (herdStands_laneEcc s o.ecc) dst _

/-- Settles O28: every word writes one predicate of the executing lanes, from values read before. -/
theorem lanePredicateResults : Obligations.LanePredicateResults := by
  unfold Obligations.LanePredicateResults
  refine ⟨fun row hrow o dst a b s j r h hm hd => ?_, fun o dst a b s ha hb => ?_⟩
  · have hregs : ∀ l, row.2 ((s.laneEcc o.ecc).laneReg l a.toNat) ((s.laneEcc o.ecc).laneReg l b.toNat) =
        row.2 (s.laneReg l a.toNat) (s.laneReg l b.toNat) := fun l => by simp only [(herdStands_laneEcc s o.ecc).laneReg]
    simp only [List.mem_cons, List.not_mem_nil, or_false] at hrow
    rcases hrow with rfl | rfl | rfl | rfl | rfl
    all_goals exact predsTake_of_cmp rfl rfl hregs h hm hd
  · have hfields : (decide (a.toNat < 8) && decide (b.toNat < 8)) = true := by simp [ha, hb]
    refine ⟨fun j r h hm hd => ?_, fun j r h hm hd => ?_, fun j r h hm hd => ?_⟩
    · exact predsTake_of_cmp (exec_lanePand o dst a b s) hfields
        (fun l => by simp only [(herdStands_laneEcc s o.ecc).lanePreds]; rfl) h hm hd
    · exact predsTake_of_cmp (exec_lanePor o dst a b s) hfields
        (fun l => by simp only [(herdStands_laneEcc s o.ecc).lanePreds]; rfl) h hm hd
    · exact predsTake_of_cmp (exec_lanePnot o dst a 0 s) (by simp [ha])
        (fun l => by simp only [(herdStands_laneEcc s o.ecc).lanePreds]; rfl) h hm hd

end Sys2Proof.Machine
end


section
/-! SUPPORT. Memory words of the lanes (R123, R124): several words written, and the lane that faults (R140). -/

namespace Sys2Proof.Machine
open Sys2Proof Sys2Proof.Reg

/-! ### Several words written -/

/-- The words `v` written at the addresses `f` of a list, in its order. -/
def State.laneWords (s : State) (ls : List Nat) (f v : Nat → Nat) : State :=
  ls.foldl (fun (t : State) l => t.setWord (f l) (v l)) s

theorem laneWords_withMem (ls : List Nat) (f v : Nat → Nat) : ∀ s : State,
    s.laneWords ls f v = { s with mem := (s.laneWords ls f v).mem } := by
  unfold State.laneWords
  induction ls with
  | nil => exact fun _ => rfl
  | cons l ls ih =>
    intro s
    rw [List.foldl_cons, ih, setWord_withMem]

theorem byte_laneWords_outside {ls : List Nat} {f : Nat → Nat} {b : Nat} (h : ∀ l ∈ ls, b < f l ∨ f l + 4 ≤ b)
    (v : Nat → Nat) (s : State) : (s.laneWords ls f v).byte b = s.byte b :=
  List.foldlRecOn ls _ (motive := fun t : State => t.byte b = s.byte b) rfl fun t ht l hl =>
    (byte_setWord_outside t (v l) (h l hl)).trans ht

/-- Where aligned words meet, the last of the list stands. -/
theorem word_laneWords {f : Nat → Nat} (v : Nat → Nat) {l : Nat} : ∀ {ls : List Nat} (s : State),
    ls.Pairwise (· < ·) → (∀ k ∈ ls, f k % 4 = 0) → l ∈ ls → (∀ k ∈ ls, l < k → f k ≠ f l) →
      (s.laneWords ls f v).word (f l) = v l % 2 ^ 32 := by
  intro ls
  induction ls with
  | nil => exact fun _ _ _ h => absurd h List.not_mem_nil
  | cons m ls ih =>
    intro s hsorted hf hl hlast
    obtain ⟨hm, hsorted⟩ := List.pairwise_cons.mp hsorted
    rcases List.mem_cons.mp hl with rfl | hl
    · have hkept : ((s.setWord (f l) (v l)).laneWords ls f v).word (f l) = (s.setWord (f l) (v l)).word (f l) := by
        refine load_congr 4 _ _ _ fun i hi => byte_laneWords_outside (fun k hk => ?_) v _
        have := hlast k (List.mem_cons_of_mem _ hk) (hm k hk)
        have := hf k (List.mem_cons_of_mem _ hk)
        have := hf l List.mem_cons_self
        omega
      exact hkept.trans (word_setWord_same s (f l) (v l))
    · exact ih (s.setWord (f m) (v m)) hsorted (fun k hk => hf k (List.mem_cons_of_mem _ hk)) hl
        fun k hk => hlast k (List.mem_cons_of_mem _ hk)

/-! ### The lanes in their order -/

theorem executing_sorted (s : State) (o : LaneOp) : (s.executing o).Pairwise (· < ·) := by
  refine List.Pairwise.filter _ (List.pairwise_map.mpr (List.pairwise_lt_range.imp fun h => ?_))
  omega

theorem find?_of_first {p : Nat → Bool} {x : Nat} : ∀ {l : List Nat}, l.Pairwise (· < ·) → x ∈ l → p x = true →
    (∀ y ∈ l, y < x → p y = false) → l.find? p = some x := by
  intro l
  induction l with
  | nil => exact fun _ h => absurd h List.not_mem_nil
  | cons y l ih =>
    intro hsorted hx hp hfirst
    obtain ⟨hy, hsorted⟩ := List.pairwise_cons.mp hsorted
    rcases List.mem_cons.mp hx with rfl | hx
    · exact List.find?_cons_of_pos hp
    · rw [List.find?_cons_of_neg (by rw [hfirst y List.mem_cons_self (hy x hx)]; simp)]
      exact ih hsorted hx hp fun z hz => hfirst z (List.mem_cons_of_mem _ hz)

theorem laneFault_lane {j : Job} (hown : j.owner ≠ none) (s : State) (team pc lane : Nat) {kind : Nat} (hkind : kind ≠ 6) :
    (s.laneFault j team pc lane kind).get HRD_FLTINFO.LANE = lane % 2 ^ HRD_FLTINFO.LANE.width := by
  unfold State.laneFault
  dsimp only
  rw [if_neg hkind, (requeued_schedule _).get_eq _ (by decide), get_endJob hown _ _ _ (by decide) (by decide),
    get_set_same]

end Sys2Proof.Machine
end


section
/-! PROOF. Lane loads and stores, and their faults (R121, R123, R124, R140; log entry 121). -/

namespace Sys2Proof.Machine
open Sys2Proof Sys2Proof.Reg

/-- The address of lane `l`, srcA + 4 × the offset without wrapping (log entry 121). -/
def State.laneAddrOf (s : State) (a off : BitVec 6) (l : Nat) : Nat := s.laneReg l a.toNat + 4 * off.toNat

/-- The address is aligned and lies from `low` to `size - 1`. -/
def addrOk (low size x : Nat) : Prop := x % 4 = 0 ∧ low ≤ x ∧ x < size

theorem addr_bad_iff {deny : Nat → Bool} {low : Nat} (hdeny : ∀ x, deny x = decide (x < low)) (size x : Nat) :
    (x % 4 ≠ 0 ∨ size ≤ x ∨ deny x = true) ↔ ¬ addrOk low size x := by
  rw [hdeny, decide_eq_true_iff, addrOk]
  omega

section
variable {s : State} {o : LaneOp} {j : Job} {r : TeamRun} {ecc : Ecc} {a off : BitVec 6} {size kind ecck low : Nat}
  {deny : Nat → Bool} {act : State → Nat → Nat → State} (h : s.laneReady o j r) (hm : o.m = false)
  (hdeny : ∀ x, deny x = decide (x < low))
include h hm hdeny

/-- A memory word whose every address is aligned and inside acts on each executing lane. -/
theorem laneMem_acts (hecc : ecc ≠ .uncorrectable) (hok : ∀ l, s.laneRuns o l → addrOk low size (s.laneAddrOf a off l)) :
    ∃ u, s.herdStands u ∧ s.laneMem o ecc off a size kind ecck deny act =
      .next (((s.executing o).foldl (fun (t : State) l => act t l (s.laneAddrOf a off l)) u).laneNext j r) := by
  have hs := herdStands_laneEcc s o.ecc
  have hnone : (s.executing o).find? (fun l => decide (s.laneAddrOf a off l % 4 ≠ 0 ∨ size ≤ s.laneAddrOf a off l ∨
      deny (s.laneAddrOf a off l) = true)) = none := by
    refine List.find?_eq_none.mpr fun l hl => ?_
    rw [decide_eq_true_iff, addr_bad_iff hdeny, not_not]
    exact hok l (mem_executing.mp hl)
  refine ⟨if s.executing o = [] then s.laneEcc o.ecc else (s.laneEcc o.ecc).laneEcc ecc, ?_, ?_⟩
  · split
    · exact hs
    · exact hs.trans (herdStands_laneEcc _ ecc)
  · unfold State.laneMem
    rw [laneGo_ready h (by rw [hm]; rfl)]
    unfold State.laneAddrOf at hnone ⊢
    simp only [hs.executing, hs.laneReg, hnone]
    rw [if_neg fun hc => hecc hc.1]

/-- The lowest lane whose address is not aligned or not inside faults. -/
theorem laneMem_faults {l : Nat} (hl : s.laneRuns o l) (hbad : ¬ addrOk low size (s.laneAddrOf a off l))
    (hfirst : ∀ k < l, s.laneRuns o k → addrOk low size (s.laneAddrOf a off k)) :
    s.laneMem o ecc off a size kind ecck deny act =
      .next ((s.laneEcc o.ecc).laneFault j o.team.toNat r.pc (l % 16) kind) := by
  have hs := herdStands_laneEcc s o.ecc
  have hsome : (s.executing o).find? (fun l => decide (s.laneAddrOf a off l % 4 ≠ 0 ∨ size ≤ s.laneAddrOf a off l ∨
      deny (s.laneAddrOf a off l) = true)) = some l := by
    refine find?_of_first (executing_sorted _ o) (mem_executing.mpr hl) ?_ fun k hk hlt => ?_
    · rwa [decide_eq_true_iff, addr_bad_iff hdeny]
    · rw [decide_eq_false_iff_not, addr_bad_iff hdeny, not_not]
      exact hfirst k hlt (mem_executing.mp hk)
  obtain ⟨-, -, -, hteam, -⟩ := of_runner h.1
  unfold State.laneMem
  rw [laneGo_ready h (by rw [hm]; rfl)]
  unfold State.laneAddrOf at hsome
  simp only [hs.executing, hs.laneReg, hsome, hteam]

end

/-- A load gives each executing lane the word at its address. -/
theorem laneMem_loads {s : State} {o : LaneOp} {j : Job} {r : TeamRun} {ecc : Ecc} {dst a off : BitVec 6}
    {size kind ecck : Nat} {base : Nat → Nat} (h : s.laneReady o j r) (hm : o.m = false) (hecc : ecc ≠ .uncorrectable)
    (hok : ∀ l, s.laneRuns o l → s.laneAddrOf a off l % 4 = 0 ∧ s.laneAddrOf a off l < size) :
    ∃ t, s.laneMem o ecc off a size kind ecck (fun _ => false)
        (fun t l x => t.setLane l dst.toNat (s.word (base l + x))) = .next t ∧
      t.mem = s.mem ∧
      (∀ (l : Nat) (q : BitVec 6), s.laneRuns o l → t.laneReg l q.toNat =
        if q = dst then s.word (base l + s.laneAddrOf a off l) else s.laneReg l q.toNat) ∧
      (∀ (l : Nat) (q : BitVec 6), ¬ s.laneRuns o l → t.laneReg l q.toNat = s.laneReg l q.toNat) ∧
      (∀ l, t.lanePreds l = s.lanePreds l) ∧ s.laneAt t o r (r.pc + 1) := by
  obtain ⟨u, hu, hexec⟩ := laneMem_acts (ecck := ecck) (kind := kind) (low := 0) (deny := fun _ => false) h hm
    (fun x => by simp) hecc
    (act := fun t l x => t.setLane l dst.toNat (s.word (base l + x)))
    fun l hl => ⟨(hok l hl).1, Nat.zero_le _, (hok l hl).2⟩
  obtain ⟨hregs, hother, hpreds, hmem, hat⟩ := lanesTake_foldl h.1 hu dst fun l => s.word (base l + s.laneAddrOf a off l)
  refine ⟨_, hexec, hmem, fun l q hl => ?_, hother, hpreds, hat⟩
  rw [hregs l q hl, Nat.mod_eq_of_lt (word_lt s _)]

/-- A store writes each executing lane's register at its address, the highest lane last. -/
theorem laneMem_stores {s : State} {o : LaneOp} {j : Job} {r : TeamRun} {dst a off : BitVec 6}
    {low size kind ecck : Nat} {base : Nat → Nat} {deny : Nat → Bool} (h : s.laneReady o j r) (hm : o.m = false)
    (hdeny : ∀ x, deny x = decide (x < low)) (hbase : ∀ l, base l % 4 = 0)
    (hok : ∀ l, s.laneRuns o l → addrOk low size (s.laneAddrOf a off l)) :
    ∃ t, s.laneMem o .ok off a size kind ecck deny
        (fun t l x => t.setWord (base l + x) (s.laneReg l dst.toNat)) = .next t ∧
      (∀ l, s.laneRuns o l → (∀ k, s.laneRuns o k → l < k → base k + s.laneAddrOf a off k ≠ base l + s.laneAddrOf a off l) →
        t.word (base l + s.laneAddrOf a off l) = s.laneReg l dst.toNat % 2 ^ 32) ∧
      (∀ b, (∀ l, s.laneRuns o l → b < base l + s.laneAddrOf a off l ∨ base l + s.laneAddrOf a off l + 4 ≤ b) →
        t.byte b = s.byte b) ∧
      (∀ (l : Nat) (q : BitVec 6), t.laneReg l q.toNat = s.laneReg l q.toNat) ∧
      (∀ l, t.lanePreds l = s.lanePreds l) ∧ s.laneAt t o r (r.pc + 1) := by
  obtain ⟨u, hu, hexec⟩ := laneMem_acts (ecck := ecck) (kind := kind) h hm hdeny (ecc := .ok) (by decide)
    (act := fun t l x => t.setWord (base l + x) (s.laneReg l dst.toNat)) hok
  let w := u.laneWords (s.executing o) (fun l => base l + s.laneAddrOf a off l) fun l => s.laneReg l dst.toNat
  have hw : w = { u with mem := w.mem } := laneWords_withMem _ _ _ u
  have hmem : (w.laneNext j r).mem = w.mem := State.mem_of_rest (State.laneNext_rest w j r)
  have hmem0 : u.mem = s.mem := State.mem_of_rest hu.rest
  refine ⟨w.laneNext j r, hexec, fun l hl hlast => ?_, fun b hb => ?_, fun l q => ?_, fun l => ?_, laneAt_laneNext ?_ ?_⟩
  · rw [word_of_mem hmem]
    refine word_laneWords (f := fun l => base l + s.laneAddrOf a off l) _ u (executing_sorted s o) (fun k hk => ?_)
      (mem_executing.mpr hl) fun k hk => hlast k (mem_executing.mp hk)
    have := hbase k
    obtain ⟨h4, -, -⟩ := hok k (mem_executing.mp hk)
    omega
  · rw [byte_of_mem hmem]
    refine (byte_laneWords_outside (fun l hl => hb l (mem_executing.mp hl)) _ u).trans (byte_of_mem hmem0 b)
  · refine (laneReg_putJob w _ l _).trans ?_
    rw [hw]
    exact hu.laneReg l _
  · refine (lanePreds_putJob w _ l).trans ?_
    rw [hw]
    exact hu.lanePreds l
  · rw [hw]
    exact (hu.runner _).trans h.1
  · rw [hw]
    exact (State.sameRest_of_rest hu.rest).2

/-- A fault of an executing lane of a core's job shows in HRD_FLTINFO and HRD_TEAMFLT. -/
theorem laneMem_fault_shows {i : Instr} {s : State} {o : LaneOp} {j : Job} {r : TeamRun} {ecc : Ecc} {a off : BitVec 6}
    {size kind ecck low : Nat} {deny : Nat → Bool} {act : State → Nat → Nat → State}
    (hi : exec i s = s.laneMem o ecc off a size kind ecck deny act) (h : s.laneReady o j r) (hm : o.m = false)
    (hdeny : ∀ x, deny x = decide (x < low)) (hkind : kind = 3 ∨ kind = 4 ∨ kind = 5) :
    ∀ (j : Job) (r : TeamRun), s.runner o.team.toNat = some (j, r) → j.owner ≠ none → ∀ l, s.laneRuns o l →
      (s.laneAddrOf a off l % 4 ≠ 0 ∨ s.laneAddrOf a off l < low ∨ size ≤ s.laneAddrOf a off l) →
      (∀ k < l, s.laneRuns o k → addrOk low size (s.laneAddrOf a off k)) →
      ∃ t, exec i s = .next t ∧ t.get HRD_FLTINFO.TEAM = o.team.toNat ∧ t.get HRD_FLTINFO.PC = r.pc % 2 ^ 11 ∧
        t.get HRD_FLTINFO.LANE = l % 16 ∧ t.get HRD_FLTINFO.KIND = kind ∧
        t.bitOf HRD_TEAMFLT.TEAMS o.team.toNat = true := by
  intro j' r' hrun hown l hl hbad hfirst
  obtain ⟨rfl, rfl⟩ := Prod.mk.inj (Option.some.inj (h.1.symm.trans hrun))
  have hnot : ¬ addrOk low size (s.laneAddrOf a off l) := by
    unfold addrOk
    omega
  obtain ⟨hteam, hpc, hk, hbit⟩ := laneFault_shows (s := s.laneEcc o.ecc) hown o.team r.pc (l % 16) (kind := kind)
    (by omega) (by omega)
  refine ⟨_, hi.trans (laneMem_faults h hm hdeny hl hnot hfirst), hteam, hpc, ?_, hk, hbit⟩
  rw [laneFault_lane hown _ _ _ _ (by omega)]
  exact Nat.mod_eq_of_lt (Nat.mod_lt l (by decide))

/-- Settles O29: the loads and the stores act on the executing lanes one by one, in rising order; the first address of
that order that is not in order faults. -/
theorem laneMemoryWords : Obligations.LaneMemoryWords := by
  unfold Obligations.LaneMemoryWords
  intro at_ loads stores faults own o dst a off ecc j r s h hm team
  have hzero : ∀ x, false = decide (x < 0) := fun x => by simp
  have hinput : ∀ x, decide (x < 0x20) = decide (x < 0x20) := fun _ => rfl
  refine ⟨fun hecc => ⟨laneMem_loads h hm hecc, laneMem_loads h hm hecc, laneMem_loads h hm hecc⟩,
    laneMem_stores h hm hinput fun l => by omega, laneMem_stores h hm hzero fun l => by omega,
    laneMem_fault_shows (exec_laneLld o dst a off ecc s) h hm hzero (.inl rfl),
    laneMem_fault_shows (exec_laneLst o dst a off s) h hm hinput (.inl rfl),
    laneMem_fault_shows (exec_laneTld o dst a off ecc s) h hm hzero (.inr (.inl rfl)),
    laneMem_fault_shows (exec_laneTst o dst a off s) h hm hzero (.inr (.inl rfl)),
    laneMem_fault_shows (exec_laneHld o dst a off ecc s) h hm hzero (.inr (.inr rfl))⟩

end Sys2Proof.Machine
end


section
/-! PROOF. Reductions and the barrier (R126 to R129; log entry 65). -/

namespace Sys2Proof.Machine
open Sys2Proof Sys2Proof.Reg

/-! ### A team that waits -/

/-- The job with the team of `r` waiting at `w`. -/
def Job.waiting (j : Job) (r : TeamRun) (w : Rdv) : Job :=
  { j with runs := j.runs.map fun q => if q.team = r.team then { r with wait := some w } else q }

/-- The job with every team at the word after its rendezvous. -/
def Job.gone (j : Job) : List TeamRun := j.runs.map fun q => { q with wait := none, pc := q.pc + 1 }

theorem mem_waiting {j : Job} {r q : TeamRun} {w : Rdv} : q ∈ (j.waiting r w).runs ↔
    ∃ p ∈ j.runs, (if p.team = r.team then { r with wait := some w } else p) = q := List.mem_map

theorem laneWait_judges {s : State} {o : LaneOp} {j : Job} {r : TeamRun} (h : s.laneReady o j r) {legal : Bool}
    (hl : legal = true) (w : Rdv) :
    s.laneWait o legal w = .next (((s.laneEcc o.ecc).putJob (j.waiting r w)).judgeTeams (j.waiting r w)) := by
  unfold State.laneWait
  rw [laneGo_ready h hl]
  rfl

/-- While a team of the job runs on, waiting teams stay where they are. -/
theorem judgeTeams_partial {s : State} {j : Job} (hrun : ∀ q ∈ j.runs, q.done = false)
    (hfree : ∃ q ∈ j.runs, q.wait = none) : s.judgeTeams j = s := by
  obtain ⟨p, hp, hnone⟩ := hfree
  have hdone : j.runs.any (·.done) = false := List.any_eq_false.mpr fun q hq => by simp [hrun q hq]
  have hall : ¬ j.runs.all (·.done) = true := fun hall => absurd (List.all_eq_true.mp hall p hp) (by simp [hrun p hp])
  have hlen : (j.runs.filterMap (·.wait)).length ≠ j.runs.length := by
    rw [List.length_filterMap_eq_countP]
    exact fun e => absurd (List.countP_eq_length.mp e p hp) (by simp [hnone])
  unfold State.judgeTeams
  dsimp only
  rw [if_neg hall]
  split
  · rfl
  · rw [hdone, decide_eq_false hlen, if_neg (by simp), if_neg hlen]

/-- Where every team waits at the same operation, they meet. -/
theorem judgeTeams_meets {s : State} {j : Job} (hne : j.runs ≠ []) (hrun : ∀ q ∈ j.runs, q.done = false) {w : Rdv}
    (hwait : ∀ q ∈ j.runs, ∃ x, q.wait = some x ∧ x.op = w.op ∧ x.slot = w.slot ∧ x.m = w.m) :
    ∃ x : Rdv, x.op = w.op ∧ x.slot = w.slot ∧ x.m = w.m ∧ s.judgeTeams j = s.meet j x := by
  have hdone : j.runs.any (·.done) = false := List.any_eq_false.mpr fun q hq => by simp [hrun q hq]
  have hlen : (j.runs.filterMap (·.wait)).length = j.runs.length := by
    rw [List.length_filterMap_eq_countP, List.countP_eq_length]
    intro q hq
    obtain ⟨x, hx, -⟩ := hwait q hq
    simp [hx]
  have hsame : ∀ x ∈ j.runs.filterMap (·.wait), x.op = w.op ∧ x.slot = w.slot ∧ x.m = w.m := by
    intro x hx
    obtain ⟨q, hq, he⟩ := List.mem_filterMap.mp hx
    obtain ⟨y, hy, heq⟩ := hwait q hq
    rw [he, Option.some.injEq] at hy
    exact hy ▸ heq
  obtain ⟨p, hp⟩ := List.exists_mem_of_ne_nil _ hne
  have hall : ¬ j.runs.all (·.done) = true := fun hall => absurd (List.all_eq_true.mp hall p hp) (by simp [hrun p hp])
  unfold State.judgeTeams
  dsimp only
  rw [if_neg hall]
  split
  next hnil =>
    rw [hnil] at hlen
    exact absurd (List.length_eq_zero_iff.mp hlen.symm) hne
  next x xs hcons =>
    obtain ⟨hop, hslot, hm⟩ := hsame x (hcons ▸ List.mem_cons_self)
    have hagree : (j.runs.filterMap (·.wait)).all (x.agrees ·) = true := List.all_eq_true.mpr fun y hy => by
      obtain ⟨hop', hslot', hm'⟩ := hsame y hy
      simp [Rdv.agrees, hop, hop', hslot, hslot', hm, hm']
    rw [hdone, hagree, if_neg (by simp), if_pos hlen]
    exact ⟨x, hop, hslot, hm, rfl⟩

/-! ### The teams meet -/

/-- The result in the register that a waiting team names, in each of its lanes. -/
def State.spreadTo (s : State) (r : TeamRun) (v : Nat) : State :=
  match r.wait with
  | none => s
  | some x => (teamLanes r.team).foldl (fun (s : State) l => s.setLane l x.dst v) s

/-- The result in every lane of every waiting team. -/
def State.spread (s : State) (runs : List TeamRun) (v : Nat) : State :=
  runs.foldl (fun (s : State) r => s.spreadTo r v) s

theorem lanesOnly_spread (runs : List TeamRun) (v : Nat) (s : State) : s.lanesOnly (s.spread runs v) := by
  refine .foldl (fun s r => ?_) runs s
  unfold State.spreadTo
  split
  · exact .refl s
  · exact .foldl (fun s l => lanesOnly_setLane s l _ _) _ s

theorem laneReg_spreadTo (s : State) {r : TeamRun} (v l : Nat) {q : Nat} (hq : q < 64)
    (hlt : ∀ x, r.wait = some x → x.dst < 64) : (s.spreadTo r v).laneReg l q =
      if r.team = l / 16 ∧ r.wait.map (·.dst) = some q then v % 2 ^ 32 else s.laneReg l q := by
  unfold State.spreadTo
  cases hw : r.wait with
  | none => exact (if_neg (by simp)).symm
  | some x =>
    dsimp only
    rw [laneReg_foldl_setLane _ (hlt x hw) hq]
    simp only [mem_teamLanes, Option.map_some, Option.some.injEq, @eq_comm Nat q, @eq_comm Nat (l / 16)]

/-- Every lane of a waiting team takes the result in the register that its team names. -/
theorem laneReg_spread {l : Nat} {w : Rdv} (hd : w.dst < 64) (v : Nat) : ∀ {runs : List TeamRun} {s : State},
    (∀ q ∈ runs, ∀ x, q.wait = some x → x.dst < 64) → (∀ q ∈ runs, q.team = l / 16 → q.wait = some w) →
    (∃ q ∈ runs, q.team = l / 16) ∨ s.laneReg l w.dst = v % 2 ^ 32 →
    (s.spread runs v).laneReg l w.dst = v % 2 ^ 32 := by
  intro runs
  induction runs with
  | nil => exact fun _ _ h => h.resolve_left fun ⟨_, hq, _⟩ => List.not_mem_nil hq
  | cons q runs ih =>
    intro s hlt hown hset
    obtain ⟨hlt0, hlt⟩ := List.forall_mem_cons.mp hlt
    obtain ⟨hown0, hown⟩ := List.forall_mem_cons.mp hown
    refine ih hlt hown ?_
    rw [laneReg_spreadTo _ _ _ hd hlt0]
    split
    · exact .inr rfl
    next hnot =>
      have hteam : q.team ≠ l / 16 := fun e => hnot ⟨e, by rw [hown0 e]; rfl⟩
      exact hset.imp_left fun ⟨p, hp, hpt⟩ => ⟨p, (List.mem_cons.mp hp).resolve_left fun e => hteam (e ▸ hpt), hpt⟩

theorem contributors_of_herd {s t : State} (h : t.herd.v = s.herd.v) (hp : t.herd.p = s.herd.p) (j : Job) :
    t.contributors j = s.contributors j := by
  unfold State.contributors State.governs State.laneReg State.lanePreds
  rw [h, hp]

/-- The barrier lets every team go on. -/
theorem meet_bar {w : Rdv} (hop : w.op = Rop.bar) (s : State) (j : Job) :
    s.meet j w = s.putJob { j with runs := j.gone } := if_pos hop

/-- A reduction spreads its result, holds its publish and lets every team go on. -/
theorem meet_reduction {w : Rdv} (hop : w.op ≠ Rop.bar) (s : State) (j : Job) : ∃ pubs : List Publish,
    (w.m = false → pubs = j.pubs) ∧ (w.m = true → pubs.length = j.pubs.length + 1) ∧
      s.meet j w = (s.spread j.runs (reduce w.op (s.contributors j)).1).putJob { j with runs := j.gone, pubs := pubs } := by
  refine ⟨_, fun hm => ?_, fun hm => ?_, if_neg hop⟩
  · rw [if_neg (by simp [hm])]
  · rw [if_pos hm, List.length_append]
    rfl

/-! ### The clauses -/

/-- What the statement says of a word by which the team of `o` reaches rendezvous `w`. -/
theorem laneWait_meets {i : Instr} {o : LaneOp} {legal : Bool} {w : Rdv} {s : State} (hi : exec i s = s.laneWait o legal w)
    (hl : legal = true) (hd : w.dst < 64) {j : Job} {r : TeamRun} (h : s.laneReady o j r)
    (hruns : ∀ q ∈ j.runs, q.done = false ∧ ∀ x, q.wait = some x → x.dst < 64) :
    ((∃ q ∈ j.runs, q.team ≠ r.team ∧ q.wait = none) →
      ∃ t, exec i s = .next t ∧ t.jobAt j.index = some (j.waiting r w) ∧ t.mem = s.mem ∧ s.sameCores t ∧
        ∀ l q, t.laneReg l q = s.laneReg l q) ∧
    ((∀ q ∈ j.runs, q.team ≠ r.team → ∃ x, q.wait = some x ∧ x.op = w.op ∧ x.slot = w.slot ∧ x.m = w.m) →
      ∃ t, exec i s = .next t ∧ t.mem = s.mem ∧ s.sameCores t ∧
        (∃ k, t.jobAt j.index = some k ∧ k.runs = (j.waiting r w).gone ∧
          (w.m = false → k.pubs = j.pubs) ∧ (w.m = true → w.op ≠ Rop.bar → k.pubs.length = j.pubs.length + 1)) ∧
        (w.op = Rop.bar → ∀ l q, t.laneReg l q = s.laneReg l q) ∧
        (w.op ≠ Rop.bar → ∀ l ∈ teamLanes r.team, t.laneReg l w.dst =
          (reduce w.op (s.contributors (j.waiting r w))).1 % 2 ^ 32)) := by
  obtain ⟨hjob, -, hr, -, hrdone, -⟩ := of_runner h.1
  have hs := herdStands_laneEcc s o.ecc
  let u := (s.laneEcc o.ecc).putJob (j.waiting r w)
  have hexec : exec i s = .next (u.judgeTeams (j.waiting r w)) := hi.trans (laneWait_judges h hl w)
  have hrest : u.rest = s.rest := (State.putJob_rest _ _).trans hs.rest
  have hreg : ∀ l q, u.laneReg l q = s.laneReg l q := fun l q => (laneReg_putJob _ _ l q).trans (hs.laneReg l q)
  have hat : ∃ k ∈ (s.laneEcc o.ecc).herd.jobs, k.index = (j.waiting r w).index := ⟨j, hs.herd ▸ hjob, rfl⟩
  have hat' : ∃ k ∈ u.herd.jobs, k.index = (j.waiting r w).index := by
    obtain ⟨hmem, hi⟩ := mem_of_jobAt (jobAt_putJob (j := j.waiting r w) hat)
    exact ⟨_, hmem, hi⟩
  have hdone : ∀ q ∈ (j.waiting r w).runs, q.done = false := fun q hq => by
    obtain ⟨p, hp, rfl⟩ := mem_waiting.mp hq
    split
    · exact hrdone
    · exact (hruns p hp).1
  refine ⟨fun ⟨q, hq, hne, hnone⟩ => ⟨u, ?_, jobAt_putJob (j := j.waiting r w) hat, State.mem_of_rest hrest,
    (State.sameRest_of_rest hrest).2, hreg⟩, fun hall => ?_⟩
  · rw [hexec, judgeTeams_partial hdone ⟨q, mem_waiting.mpr ⟨q, hq, if_neg hne⟩, hnone⟩]
  · have hwait : ∀ q ∈ (j.waiting r w).runs, ∃ x, q.wait = some x ∧ x.op = w.op ∧ x.slot = w.slot ∧ x.m = w.m := by
      intro q hq
      obtain ⟨p, hp, rfl⟩ := mem_waiting.mp hq
      split
      · exact ⟨w, rfl, rfl, rfl, rfl⟩
      · exact hall p hp ‹_›
    have hself : { r with wait := some w } ∈ (j.waiting r w).runs := mem_waiting.mpr ⟨r, hr, if_pos rfl⟩
    obtain ⟨x, hop, hslot, hm, hmeet⟩ := judgeTeams_meets (s := u) (List.ne_nil_of_mem hself) hdone hwait
    rw [hexec, hmeet]
    by_cases hbar : w.op = Rop.bar
    · rw [meet_bar (hop.trans hbar)]
      refine ⟨_, rfl, ?_, ?_, ⟨_, jobAt_putJob (j := { j.waiting r w with runs := (j.waiting r w).gone }) hat', rfl,
        fun _ => rfl, fun _ h => absurd hbar h⟩, fun _ l q => ?_, fun h => absurd hbar h⟩
      · exact State.mem_of_rest ((State.putJob_rest _ _).trans hrest)
      · exact (State.sameRest_of_rest ((State.putJob_rest _ _).trans hrest)).2
      · exact (laneReg_putJob _ _ l q).trans (hreg l q)
    · obtain ⟨pubs, hkept, hheld, heq⟩ := meet_reduction (fun e => hbar (hop ▸ e)) u (j.waiting r w)
      have hspread := lanesOnly_spread (j.waiting r w).runs (reduce x.op (u.contributors (j.waiting r w))).1 u
      have hsame : u.herd.v = s.herd.v ∧ u.herd.p = s.herd.p :=
        ⟨(congrArg (·.v) (putJob_herd _ _)).trans (congrArg (·.v) hs.herd),
          (congrArg (·.p) (putJob_herd _ _)).trans (congrArg (·.p) hs.herd)⟩
      rw [heq]
      refine ⟨_, rfl, ?_, ?_, ⟨_, jobAt_putJob (j := { j.waiting r w with runs := (j.waiting r w).gone, pubs := pubs })
          (hspread.jobs ▸ hat'), rfl, fun h => hkept (hm.trans h), fun h _ => hheld (hm.trans h)⟩,
        fun h => absurd h hbar, fun _ l hl => ?_⟩
      · exact State.mem_of_rest ((State.putJob_rest _ _).trans (hspread.rest.trans hrest))
      · exact (State.sameRest_of_rest ((State.putJob_rest _ _).trans (hspread.rest.trans hrest))).2
      · refine (laneReg_putJob _ _ l _).trans ?_
        rw [contributors_of_herd hsame.1 hsame.2, hop]
        have hl : l / 16 = r.team := mem_teamLanes.mp hl
        refine laneReg_spread hd _ (fun q hq y hy => ?_) (fun q hq hteam => ?_) (.inl ⟨_, hself, hl.symm⟩)
        · obtain ⟨p, hp, rfl⟩ := mem_waiting.mp hq
          split at hy
          · exact Option.some.inj hy ▸ hd
          · exact (hruns p hp).2 y hy
        · obtain ⟨p, hp, rfl⟩ := mem_waiting.mp hq
          split
          · rfl
          · next hne => exact absurd (by rwa [if_neg hne, hl] at hteam) hne

/-- Settles O30: a team that reaches a rendezvous waits while another runs on; the last to arrive lets them all go on. -/
theorem laneRendezvousWords : Obligations.LaneRendezvousWords := by
  unfold Obligations.LaneRendezvousWords
  refine ⟨fun row hrow o dst a b s hb j r h _ hruns => ?_, fun o s hunp hm j r h _ hruns => ?_⟩
  · have hlegal : (!o.m || decide (b.toNat < 16)) = true := by
      cases hm : o.m
      · rfl
      · simpa using hb hm
    simp only [List.mem_cons, List.not_mem_nil, or_false] at hrow
    rcases hrow with rfl | rfl | rfl | rfl | rfl
    all_goals exact laneWait_meets rfl hlegal dst.isLt h hruns
  · exact laneWait_meets (exec_laneBar o 0 0 0 s) (by simp [hunp, hm]) (by decide) h hruns

end Sys2Proof.Machine
end


section
/-! PROOF. HRD_ABORT, HRD_TEAMDIS and HRD_CTRL (R134, R137, R142, R405). -/

namespace Sys2Proof.Machine
open Sys2Proof Sys2Proof.Reg

/-! ### The commands as stores -/

theorem regStore_hrdAbort (s : State) (c : Core) (w : Nat) (here : Bool) :
    s.regStore c HRD_ABORT.ALL.addr w here = s.hrdAbort w :=
  regStore_of_act1 (by decide +kernel) (.inl (by decide)) rfl

theorem regStore_hrdTeamdis (s : State) (c : Core) (w : Nat) (here : Bool) :
    s.regStore c HRD_TEAMDIS.TEAMS.addr w here = s.hrdTeamdis w here :=
  regStore_of_act1 (by decide +kernel) (.inl (by decide)) rfl

theorem regStore_hrdCtrl (s : State) (c : Core) (w : Nat) (here : Bool) :
    s.regStore c HRD_CTRL.HOLD.addr w here = s.hrdCtrl w :=
  regStore_of_act1 (by decide +kernel) (.inl (by decide)) rfl

theorem exec_hrdAbort_served {s : State} {c : Core} (h : s.storesReg c HRD_ABORT.ALL.addr) (v : Word) :
    exec (.hrdAbort c v) s = .next ((s.noteWrite c HRD_ABORT.ALL.addr).hrdAbort v.toNat) := by
  rw [exec_hrdAbort, execHrdAbort, poke_served h, regStore_hrdAbort]

theorem exec_hrdTeamdisWrite_served {s : State} {c : Core} (h : s.storesReg c HRD_TEAMDIS.TEAMS.addr) (v : Word)
    (here : Bool) : exec (.hrdTeamdisWrite c v here) s =
      .next ((s.noteWrite c HRD_TEAMDIS.TEAMS.addr).hrdTeamdis v.toNat here) := by
  rw [exec_hrdTeamdisWrite, execHrdTeamdisWrite, regWrite_served h, regStore_hrdTeamdis]

theorem exec_hrdCtrlWrite_served {s : State} {c : Core} (h : s.storesReg c HRD_CTRL.HOLD.addr) (v : Word) :
    exec (.hrdCtrlWrite c v) s = .next ((s.noteWrite c HRD_CTRL.HOLD.addr).hrdCtrl v.toNat) := by
  rw [exec_hrdCtrlWrite, execHrdCtrlWrite, poke_served h, regStore_hrdCtrl]

theorem noteWrite_of_not_tandem {s : State} (h : s.tandem = false) (c : Core) (a : Nat) : s.noteWrite c a = s :=
  if_neg (by simp [h])

/-! ### Jobs that stop, jobs that stay -/

theorem stepLost_herd (s : State) (f : Fld) : (s.stepLost f).herd = s.herd := by
  unfold State.stepLost
  split
  · exact raise_herd _ _
  · rfl

theorem when_stepLost_herd (s : State) (c : Bool) (f : Fld) : (s.when c fun s => s.stepLost f).herd = s.herd := by
  cases c
  · rfl
  · exact stepLost_herd s f

theorem when_stepLost_rest (s : State) (c : Bool) (f : Fld) : (s.when c fun s => s.stepLost f).rest = s.rest := by
  cases c
  · rfl
  · exact State.stepLost_rest s f

theorem schedule_of_empty {s : State} (h : s.herd.jobs = []) : s.schedule = s := by
  unfold State.schedule
  rw [if_pos (.inl (by rw [h]; rfl))]

/-- Jobs for which `p` does not hold, or that have ended, are left. -/
theorem abortJobs_none {s : State} {p : Job → Bool} (h : ∀ j ∈ s.herd.jobs, p j = false) : s.abortJobs p = s := by
  unfold State.abortJobs
  rw [List.filter_eq_nil_iff.mpr fun j hj => by simp [h j hj]]
  rfl

/-- Outside tandem mode the only job is taken off the array, its tag completed with STATUS 0x3. -/
theorem abortJobs_lone {s : State} {j : Job} {p : Job → Bool} {c : Core} {k cls : Nat} (ht : s.tandem = false)
    (hjobs : s.herd.jobs = [j]) (hp : p j = true) (hphase : j.phase ≠ .ended) (hown : j.owner = some (c, k))
    (hk : s.tag c k = .issued cls) :
    (s.abortJobs p).herd.jobs = [] ∧ ∃ v, (s.abortJobs p).tag c k = .done (completionWord 0 3 cls k) v := by
  obtain ⟨-, v, hdone⟩ := endJob_ends ht hown hk 3 0
  have heq : s.abortJobs p = (s.endJob j 3 0).note fun b => { b with stopped := b.stopped ++ [(j.index, 3)] } := by
    unfold State.abortJobs
    rw [hjobs, List.filter_cons_of_pos (by simp [hp, hphase])]
    rfl
  rw [heq]
  refine ⟨?_, v, (tag_of_tags (congrArg (·.tags) (State.core_of_rest (State.note_rest _ _) c)) k).trans hdone⟩
  obtain ⟨u, x, hu, he⟩ := jobOutcome_eq hown ((s.publishes j 3).dropJob j) 3 0
  rw [note_herd, endJob_eq (hown ▸ Option.some_ne_none _), he, complete_herd, hu.herd, State.publishes, if_neg (by decide),
    dropJob_eq ht, setJobs_herd]
  dsimp only
  rw [hjobs, List.filter_cons_of_neg (by simp)]
  rfl

/-- With HOLD an evaluation leaves the only queued job queued. -/
theorem schedule_holds {s : State} {j : Job} (hjobs : s.herd.jobs = [j]) (hphase : j.phase = .queued)
    (hhold : s.flag HRD_CTRL.HOLD = true) :
    ∃ x, s.schedule.herd.jobs = [x] ∧ x.phase = .queued ∧ x.index = j.index := by
  have hmark : s.markCandidates.flag HRD_CTRL.HOLD = true := by
    rw [← hhold]
    unfold State.flag
    rw [(requeued_markCandidates s).get_eq _ (by decide)]
  unfold State.schedule
  split
  · exact ⟨j, hjobs, hphase, rfl⟩
  · split
    · exact ⟨j, hjobs, hphase, rfl⟩
    · dsimp only
      rw [if_pos hmark]
      unfold State.markCandidates
      rw [setJobs_herd]
      dsimp only
      rw [hjobs, List.map_singleton]
      refine ⟨_, rfl, ?_⟩
      split
      · exact ⟨hphase, rfl⟩
      · exact ⟨hphase, rfl⟩

/-- The mask of disabled teams taken, and step ended where it is this module's alone (R405). -/
def State.teamsOff (s : State) (v : Nat) (here : Bool) : State :=
  (s.set HRD_TEAMDIS.TEAMS v).when (here && decide (andNot 32 v (s.get HRD_TEAMDIS.TEAMS) ≠ 0))
    fun s => s.stepLost TDM_FLT.LOCAL

theorem teamsOff_herd (s : State) (v : Nat) (here : Bool) : (s.teamsOff v here).herd = s.herd := when_stepLost_herd _ _ _

theorem teamsOff_rest (s : State) (v : Nat) (here : Bool) : (s.teamsOff v here).rest = s.rest := when_stepLost_rest _ _ _

theorem teamsOff_get (s : State) (v : Nat) (here : Bool) {q : Fld} (hq : 0x60030000 ≤ q.addr)
    (hne : q.key ∉ [HRD_TEAMDIS.TEAMS.key, TDM_FLT.LOCAL.key, TDM_STAT.STATE.key]) :
    (s.teamsOff v here).get q = s.get q := by
  simp only [List.mem_cons, List.not_mem_nil, or_false, not_or] at hne
  obtain ⟨hmask, hlocal, hstate⟩ := hne
  unfold State.teamsOff State.when State.stepLost
  split
  · dsimp only
    split
    · rw [get_raise_above _ (by decide) hq, get_set_ne _ _ hstate, State.put, get_set_ne _ _ hlocal, get_set_ne _ _ hmask]
    · rw [get_set_ne _ _ hmask]
  · rw [get_set_ne _ _ hmask]

/-- A mask that newly disables no team of a job stops none. -/
theorem hrdTeamdis_of_none {s : State} {v : Nat}
    (h : ∀ j ∈ s.herd.jobs, j.teams &&& andNot 32 v (s.get HRD_TEAMDIS.TEAMS) = 0)
    (here : Bool) : s.hrdTeamdis v here = (s.teamsOff v here).schedule := by
  unfold State.hrdTeamdis
  dsimp only
  rw [abortJobs_none fun j hj => by simp [h j hj]]
  rfl

/-! ### The clauses -/

section
variable {s : State} {j : Job} {k : Core} {n : Nat} (ht : s.tandem = false) (hjobs : s.herd.jobs = [j])
include ht hjobs

/-- A write of HRD_ABORT that names the job stops it. -/
theorem hrdAbort_ends {v : Nat} (hown : j.owner = some (k, n)) (hphase : j.phase ≠ .ended) (hk : s.tag k n = .issued 1)
    (hv : bit v 31 = true ∨ j.index = bits v 0 6) :
    (s.hrdAbort v).herd.jobs = [] ∧ ∃ x, (s.hrdAbort v).tag k n = .done (completionWord 0 3 1 n) x := by
  have h := abortJobs_lone (p := fun j => bit v 31 || decide (j.index = bits v 0 6)) ht hjobs (by simpa using hv) hphase
    hown hk
  unfold State.hrdAbort
  rwa [schedule_of_empty h.1]

omit ht in
theorem hrdAbort_stays {v : Nat} (hv : ¬ (bit v 31 = true ∨ j.index = bits v 0 6)) (hhold : s.flag HRD_CTRL.HOLD = true)
    (hphase : j.phase = .queued) : ∃ x, (s.hrdAbort v).herd.jobs = [x] ∧ x.phase = .queued ∧ x.index = j.index ∧
      s.sameRest (s.hrdAbort v) := by
  unfold State.hrdAbort
  rw [abortJobs_none fun k hk => by rw [hjobs, List.mem_singleton] at hk; simpa [hk] using hv]
  obtain ⟨x, hx, hq, hi⟩ := schedule_holds hjobs hphase hhold
  exact ⟨x, hx, hq, hi, State.sameRest_of_rest (requeued_schedule s).rest⟩

/-- A write of HRD_TEAMDIS that newly disables a team of the job stops it. -/
theorem hrdTeamdis_ends {v : Nat} (hown : j.owner = some (k, n)) (hphase : j.phase ≠ .ended) (hk : s.tag k n = .issued 1)
    (hv : j.teams &&& andNot 32 v (s.get HRD_TEAMDIS.TEAMS) ≠ 0) (here : Bool) :
    (s.hrdTeamdis v here).herd.jobs = [] ∧ ∃ x, (s.hrdTeamdis v here).tag k n = .done (completionWord 0 3 1 n) x := by
  have htan : (s.set HRD_TEAMDIS.TEAMS v).tandem = false := by
    rw [← ht]
    unfold State.tandem State.flag
    rw [get_set_ne _ _ (by decide)]
  obtain ⟨hnone, x, hdone⟩ := abortJobs_lone (s := s.set HRD_TEAMDIS.TEAMS v)
    (p := fun j => decide (j.teams &&& andNot 32 v (s.get HRD_TEAMDIS.TEAMS) ≠ 0)) htan hjobs (decide_eq_true hv) hphase
    hown ((tag_of_tags (congrArg (·.tags) (State.core_of_rest (State.set_rest _ _ _) k)) n).trans hk)
  unfold State.hrdTeamdis
  dsimp only
  rw [schedule_of_empty (by rw [when_stepLost_herd, hnone]), when_stepLost_herd]
  exact ⟨hnone, x, (tag_of_tags (congrArg (·.tags) (State.core_of_rest (when_stepLost_rest _ _ _) k)) n).trans hdone⟩

omit ht in
theorem hrdTeamdis_stays {v : Nat} (hv : j.teams &&& andNot 32 v (s.get HRD_TEAMDIS.TEAMS) = 0) (here : Bool)
    (hhold : s.flag HRD_CTRL.HOLD = true) (hphase : j.phase = .queued) :
    ∃ x, (s.hrdTeamdis v here).herd.jobs = [x] ∧ x.phase = .queued ∧ x.index = j.index ∧
      s.sameRest (s.hrdTeamdis v here) := by
  rw [hrdTeamdis_of_none (fun k hk => by rw [hjobs, List.mem_singleton] at hk; rwa [hk]) here]
  have hhold' : (s.teamsOff v here).flag HRD_CTRL.HOLD = true := by
    unfold State.flag at hhold ⊢
    rwa [teamsOff_get s v here (by decide) (by decide)]
  obtain ⟨x, hx, hq, hi⟩ := schedule_holds ((congrArg (·.jobs) (teamsOff_herd s v here)).trans hjobs) hphase hhold'
  exact ⟨x, hx, hq, hi, State.sameRest_of_rest ((requeued_schedule _).rest.trans (teamsOff_rest s v here))⟩

end

/-- The mask taken, and the pair out of step where this module alone newly disables a team (R405). -/
theorem teamsOff_shows {s : State} (v : Word) (here : Bool) :
    (s.teamsOff v.toNat here).get HRD_TEAMDIS.TEAMS = v.toNat ∧
      (here = true → s.inStep = true → andNot 32 v.toNat (s.get HRD_TEAMDIS.TEAMS) ≠ 0 →
        (s.teamsOff v.toNat here).get TDM_FLT.LOCAL = 1 ∧ (s.teamsOff v.toNat here).get TDM_STAT.STATE = Pair.alone ∧
          s.asserts (s.teamsOff v.toNat here) 233) ∧
      (here = false → (s.teamsOff v.toNat here).get TDM_STAT.STATE = s.get TDM_STAT.STATE) := by
  refine ⟨?_, fun hhere hstep hnew => ?_, fun hhere => ?_⟩
  · unfold State.teamsOff State.when State.stepLost
    have hset : (s.set HRD_TEAMDIS.TEAMS v.toNat).get HRD_TEAMDIS.TEAMS = v.toNat := by
      rw [get_set_same]
      exact Nat.mod_eq_of_lt v.isLt
    split
    · dsimp only
      split
      · rw [get_raise_above _ (by decide) (by decide), get_set_ne _ _ (by decide), State.put, get_set_ne _ _ (by decide),
          hset]
      · exact hset
    · exact hset
  · have hlost : s.teamsOff v.toNat here =
        (((s.set HRD_TEAMDIS.TEAMS v.toNat).put TDM_FLT.LOCAL true).set TDM_STAT.STATE Pair.alone).raise 233 := by
      have hstep' : (s.set HRD_TEAMDIS.TEAMS v.toNat).inStep = true := by
        rw [← hstep]
        unfold State.inStep State.tandem State.flag
        rw [get_set_ne _ _ (by decide), get_set_ne _ _ (by decide)]
      unfold State.teamsOff State.when
      rw [hhere, if_pos (by simpa using hnew)]
      exact if_pos hstep'
    rw [hlost]
    refine ⟨?_, ?_, asserts_of_cfg_eq (fun q hq => ?_) (asserts_raise _ _)⟩
    · rw [get_raise_above _ (by decide) (by decide), get_set_ne _ _ (by decide), State.put, get_set_same]
      rfl
    · rw [get_raise_above _ (by decide) (by decide), get_set_same]
      rfl
    · rcases hq with h | h | h <;>
        rw [get_set_ne _ _ (by rw [h]; decide), State.put, get_set_ne _ _ (by rw [h]; decide),
          get_set_ne _ _ (by rw [h]; decide)]
  · unfold State.teamsOff State.when
    rw [hhere, if_neg (by simp), get_set_ne _ _ (by decide)]

/-- HRD_CTRL takes HOLD, and AUTO_EN where a program length is set. -/
theorem hrdCtrl_shows (s : State) (v : Nat) : s.sameRest (s.hrdCtrl v) ∧
    (s.hrdCtrl v).get HRD_CTRL.HOLD = b2n (bit v 1) ∧
    (s.hrdCtrl v).get HRD_CTRL.AUTO_EN = b2n (bit v 0 && decide (s.get HRD_AUTOCFG.PLEN ≠ 0)) := by
  have hbit : ∀ b, b2n b % 2 ^ 1 = b2n b := by decide
  have hplen : (s.put HRD_CTRL.HOLD (bit v 1)).get HRD_AUTOCFG.PLEN = s.get HRD_AUTOCFG.PLEN := get_set_ne s _ (by decide)
  unfold State.hrdCtrl
  dsimp only
  have hreq := requeued_schedule ((s.put HRD_CTRL.HOLD (bit v 1)).put HRD_CTRL.AUTO_EN
    (bit v 0 && decide ((s.put HRD_CTRL.HOLD (bit v 1)).get HRD_AUTOCFG.PLEN ≠ 0)))
  refine ⟨State.sameRest_of_rest hreq.rest, ?_, ?_⟩
  · rw [hreq.get_eq _ (by decide), State.put, get_set_ne _ _ (by decide), State.put, get_set_same]
    exact hbit _
  · rw [hreq.get_eq _ (by decide), State.put, get_set_same, hplen]
    exact hbit _

/-- Settles O39: each register's action outside and inside tandem mode. -/
theorem herdRegisterWrites : Obligations.HerdRegisterWrites := by
  unfold Obligations.HerdRegisterWrites
  refine ⟨?_, ?_, ?_⟩
  · intro c v here j k n s ht hjobs hown hphase hk ends stays newly
    refine ⟨fun h => ?_, fun h => ?_⟩
    · have hexec := exec_hrdAbort_served h v
      rw [noteWrite_of_not_tandem ht] at hexec
      have hidx : bits v.toNat 0 6 = v.toNat % 64 := congrArg (· % 64) (Nat.div_one _)
      refine ⟨fun hv => ?_, fun hv hne hhold hq => ?_⟩
      · obtain ⟨hnone, x, hdone⟩ := hrdAbort_ends ht hjobs (v := v.toNat) hown hphase hk (hidx ▸ hv.imp_right Eq.symm)
        exact ⟨_, x, hexec, hnone, hdone⟩
      · have hnot : ¬ (bit v.toNat 31 = true ∨ j.index = bits v.toNat 0 6) := by
          rw [hidx, not_or]
          exact ⟨Bool.not_eq_true _ ▸ hv, Ne.symm hne⟩
        obtain ⟨x, hx⟩ := hrdAbort_stays hjobs hnot hhold hq
        exact ⟨_, x, hexec, hx⟩
    · have hexec := exec_hrdTeamdisWrite_served h v here
      rw [noteWrite_of_not_tandem ht] at hexec
      refine ⟨fun hv => ?_, fun hv hhold hq => ?_⟩
      · obtain ⟨hnone, x, hdone⟩ := hrdTeamdis_ends ht hjobs hown hphase hk hv here
        exact ⟨_, x, hexec, hnone, hdone⟩
      · obtain ⟨x, hx⟩ := hrdTeamdis_stays hjobs hv here hhold hq
        exact ⟨_, x, hexec, hx⟩
  · intro c v here s h hjobs
    obtain ⟨g, hg⟩ := noteWrite_eq s c HRD_TEAMDIS.TEAMS.addr
    have hexec := exec_hrdTeamdisWrite_served h v here
    rw [hg, hrdTeamdis_of_none (s := s.mapTdm g) (fun j hj => absurd (hjobs ▸ hj : j ∈ []) List.not_mem_nil) here,
      schedule_of_empty (s := (s.mapTdm g).teamsOff v.toNat here)
        ((congrArg (·.jobs) (teamsOff_herd (s.mapTdm g) _ _)).trans hjobs)] at hexec
    exact ⟨_, hexec, State.sameRest_of_rest (teamsOff_rest (s.mapTdm g) _ _), teamsOff_shows (s := s.mapTdm g) v here⟩
  · intro c v s h
    obtain ⟨g, hg⟩ := noteWrite_eq s c HRD_CTRL.HOLD.addr
    have hexec := exec_hrdCtrlWrite_served h v
    rw [hg] at hexec
    exact ⟨_, hexec, hrdCtrl_shows (s.mapTdm g) v.toNat⟩

end Sys2Proof.Machine
end


section
/-! SUPPORT. The ring as other blocks leave it: the state of the present sweep, the open links and the registers of the
chain engine, HRD_SWEEP with them and CRB_CAUSE where asked (R136, R191, R192, R308). -/

namespace Sys2Proof.Machine
open Sys2Proof Sys2Proof.Reg

/-! ### The view -/

/-- Keys of the chain engine's registers but CHN_TAGSTAT, the locks, the flag of a comparator trip and that of a
re-read; of HRD_SWEEP and, with `full`, of CRB_CAUSE. -/
def ringKey (full : Bool) (k : Nat) : Bool :=
  decide ((0x60050000 ≤ k / 32 ∧ k / 32 < 0x60060000 ∧ ¬ (k / 32 = 0x60050020 ∨ k = CHN_STAT.LOLOCK.key ∨
    k = CHN_STAT.HILOCK.key ∨ k = CHN_STAT.REREAD.key ∨ k = CHN_FLT.CMP_TRIP.key)) ∨ k = HRD_SWEEP.SWEEP.key ∨
    (full = true ∧ k = CRB_CAUSE.WORD.key))

/-- The present sweep and the links, as the chain engine holds them. -/
structure RingPart where
  inSync : Bool
  open_ : Bool
  hdr : Bool
  got : List Nat
  broken : List Nat
  fsymAt : Option Nat

def ChnSt.ringPart (x : ChnSt) : RingPart := ⟨x.inSync, x.open_, x.hdr, x.got, x.broken, x.fsymAt⟩

theorem ChnSt.ringPart_eq (x : ChnSt) : x.ringPart = ⟨x.inSync, x.open_, x.hdr, x.got, x.broken, x.fsymAt⟩ := (rfl)

/-- What the view shows: the sweep and the links, and the fields by reset value and key. -/
structure RingView where
  part : RingPart
  regs : Nat → Nat → Nat

def State.ring (s : State) (full : Bool) : RingView :=
  ⟨s.chn.ringPart, fun d k => if ringKey full k then mapGet d s.regs k else 0⟩

theorem get_of_ring {s t : State} {full : Bool} (h : t.ring full = s.ring full) {q : Fld}
    (hq : ringKey full q.key = true) : t.get q = s.get q := by
  have := congrFun (congrFun (congrArg RingView.regs h) q.reset) q.key
  simp only [State.ring, hq, if_true] at this
  exact this

theorem part_of_ring {s t : State} {full : Bool} (h : t.ring full = s.ring full) :
    t.chn.ringPart = s.chn.ringPart := congrArg RingView.part h

theorem ringKey_of_true {k : Nat} (h : ringKey true k = false) (full : Bool) : ringKey full k = false :=
  decide_eq_false fun hk => of_decide_eq_false h (hk.imp_right (Or.imp_right fun hc => ⟨rfl, hc.2⟩))

theorem ringKey_above {f : Fld} (h : 0x600A0000 ≤ f.addr) : ringKey true f.key = false :=
  decide_eq_false (by
    unfold CHN_STAT.LOLOCK CHN_STAT.HILOCK CHN_STAT.REREAD CHN_FLT.CMP_TRIP Fld.key HRD_SWEEP.SWEEP CRB_CAUSE.WORD
    dsimp only
    omega)

theorem ringKey_cel {f : Fld} (h : 0x60060000 ≤ f.addr) : ringKey false f.key = false :=
  decide_eq_false (by unfold Fld.key HRD_SWEEP.SWEEP; simp only [Bool.false_eq_true, false_and, or_false]; omega)

section
variable {a i j l w r : Nat} {c : Acc} {g : Legal}
@[simp] theorem ringKey_above_mk (h : 0x600A0000 ≤ a) : ringKey true (⟨a + i, l, w, c, r, g⟩ : Fld).key = false :=
  ringKey_above (h.trans (Nat.le_add_right a i))
@[simp] theorem ringKey_above_mk₂ (h : 0x600A0000 ≤ a) : ringKey true (⟨a + i + j, l, w, c, r, g⟩ : Fld).key = false :=
  ringKey_above ((h.trans (Nat.le_add_right a i)).trans (Nat.le_add_right _ j))
@[simp] theorem ringKey_cel_mk₂ (h : 0x60060000 ≤ a) : ringKey false (⟨a + i + j, l, w, c, r, g⟩ : Fld).key = false :=
  ringKey_cel ((h.trans (Nat.le_add_right a i)).trans (Nat.le_add_right _ j))
@[simp] theorem ringKey_cel_mk (h : 0x60060000 ≤ a) : ringKey false (⟨a + i, l, w, c, r, g⟩ : Fld).key = false :=
  ringKey_cel (h.trans (Nat.le_add_right a i))
end

/-! ### Updates of one part -/

theorem ring_congr {s t : State} (hc : t.chn.ringPart = s.chn.ringPart) (hr : t.regs = s.regs) (full : Bool) :
    t.ring full = s.ring full := by
  unfold State.ring
  rw [hc, hr]

section
variable (full : Bool) (s : State)

theorem ring_set_of_key {f : Fld} (h : ringKey full f.key = false) (v : Nat) :
    (s.set f v).ring full = s.ring full := by
  unfold State.ring State.set
  dsimp only
  congr 1
  funext d k
  split
  · next hk =>
    have hne : k ≠ f.key := fun e => by rw [e, h] at hk; exact Bool.noConfusion hk
    split
    · exact mapGet_mapPut_ne d s.regs _ hne
    · exact mapGet_mapSet_ne d f.reset s.regs _ hne
  · rfl

variable {f : Fld} (h : ringKey true f.key = false)
include h
@[simp] theorem State.set_ring (v : Nat) : (s.set f v).ring full = s.ring full :=
  ring_set_of_key full s (ringKey_of_true h full) v
@[simp] theorem State.put_ring (b : Bool) : (s.put f b).ring full = s.ring full := State.set_ring full s h _
@[simp] theorem State.bump_ring (n : Nat) : (s.bump f n).ring full = s.ring full := State.set_ring full s h _
@[simp] theorem State.setBitOf_ring (b : Nat) : (s.setBitOf f b).ring full = s.ring full := State.set_ring full s h _
@[simp] theorem State.clrBitOf_ring (b : Nat) : (s.clrBitOf f b).ring full = s.ring full := State.set_ring full s h _
end

section
variable (s : State) {f : Fld} (h : ringKey false f.key = false)
include h
@[simp] theorem State.set_ring_cel (v : Nat) : (s.set f v).ring false = s.ring false := ring_set_of_key false s h v
@[simp] theorem State.put_ring_cel (b : Bool) : (s.put f b).ring false = s.ring false := State.set_ring_cel s h _
@[simp] theorem State.bump_ring_cel (n : Nat) : (s.bump f n).ring false = s.ring false := State.set_ring_cel s h _
@[simp] theorem State.seti_ring_cel (i : Int) : (s.seti f i).ring false = s.ring false := State.set_ring_cel s h _
@[simp] theorem State.clrBitOf_ring_cel (b : Nat) : (s.clrBitOf f b).ring false = s.ring false :=
  State.set_ring_cel s h _
@[simp] theorem State.setBitOf_ring_cel (b : Nat) : (s.setBitOf f b).ring false = s.ring false :=
  State.set_ring_cel s h _
end

section
variable (full : Bool) (s : State)
@[simp] theorem State.mapPad_ring (g : PadSt → PadSt) : (s.mapPad g).ring full = s.ring full := (rfl)
@[simp] theorem State.mapPower_ring (g : PowerSt → PowerSt) : (s.mapPower g).ring full = s.ring full := (rfl)
@[simp] theorem State.mapFio_ring (g : FioSt → FioSt) : (s.mapFio g).ring full = s.ring full := (rfl)
@[simp] theorem State.mapCrb_ring (g : CurbSt → CurbSt) : (s.mapCrb g).ring full = s.ring full := (rfl)
@[simp] theorem State.mapPrt_ring (g : PrtSt → PrtSt) : (s.mapPrt g).ring full = s.ring full := (rfl)
@[simp] theorem State.mapHerd_ring (g : HerdSt → HerdSt) : (s.mapHerd g).ring full = s.ring full := (rfl)
@[simp] theorem State.mapCel_ring (g : CelSt → CelSt) : (s.mapCel g).ring full = s.ring full := (rfl)
@[simp] theorem State.mapEst_ring (g : EstSt → EstSt) : (s.mapEst g).ring full = s.ring full := (rfl)
@[simp] theorem State.mapHvm_ring (g : HvmSt → HvmSt) : (s.mapHvm g).ring full = s.ring full := (rfl)
@[simp] theorem State.mapCan_ring (g : CanSt → CanSt) : (s.mapCan g).ring full = s.ring full := (rfl)
@[simp] theorem State.mapTdm_ring (g : TdmSt → TdmSt) : (s.mapTdm g).ring full = s.ring full := (rfl)
@[simp] theorem State.draw_ring (w : Nat) : (s.draw w).2.ring full = s.ring full := (rfl)
@[simp] theorem State.withCrb_ring (x : CurbSt) : ({ s with crb := x } : State).ring full = s.ring full := (rfl)
@[simp] theorem State.withPower_ring (x : PowerSt) : ({ s with power := x } : State).ring full = s.ring full := (rfl)

/-- The chain engine's record changed outside the sweep and the links. -/
@[simp] theorem State.mapChn_ring {g : ChnSt → ChnSt} (h : ∀ x, (g x).ringPart = x.ringPart) :
    (s.mapChn g).ring full = s.ring full := ring_congr (s := s) (t := s.mapChn g) (h _) rfl full

@[simp] theorem State.setCore_ring (c : Core) (x : CoreSt) : (s.setCore c x).ring full = s.ring full := by
  cases c <;> rfl

@[simp] theorem State.setWord_ring (a v : Nat) : (s.setWord a v).ring full = s.ring full := by
  rw [setWord_withMem]
  rfl

@[simp] theorem State.ite_ring {p : Prop} [Decidable p] (a b : State) :
    (if p then a else b).ring full = if p then a.ring full else b.ring full :=
  apply_ite (fun t : State => t.ring full) _ _ _

@[simp] theorem State.when_ring (p : Bool) (g : State → State) :
    (s.when p g).ring full = if p then (g s).ring full else s.ring full :=
  apply_ite (fun t : State => t.ring full) _ _ _
end

theorem foldl_ring {α : Type} {f : State → α → State} {full : Bool} (h : ∀ t x, (f t x).ring full = t.ring full)
    (l : List α) : ∀ s : State, (l.foldl f s).ring full = s.ring full := by
  induction l with
  | nil => exact fun _ => rfl
  | cons a l ih => exact fun s => (ih _).trans (h s a)

theorem foldr_ring {α : Type} {f : α → State → State} {full : Bool} (h : ∀ x t, (f x t).ring full = t.ring full)
    (l : List α) (s : State) : (l.foldr f s).ring full = s.ring full := by
  induction l with
  | nil => rfl
  | cons a l ih => exact (h a _).trans ih

end Sys2Proof.Machine
end


section
/-! SUPPORT. Operations below the decisions of the curb leave the ring and CRB_CAUSE. -/

namespace Sys2Proof.Machine
open Sys2Proof Sys2Proof.Reg

section
variable (full : Bool) (s : State)

@[simp] theorem State.note_ring (g : Bundle → Bundle) : (s.note g).ring full = s.ring full := by
  simp +decide [State.note]

/-! ### Event sources -/

section
variable {n : Nat} (h : n < 256)
include h

theorem ringKey_evtPend : ringKey true (EVT_PEND.BITS (n / 32)).key = false :=
  decide_eq_false (by unfold Fld.key EVT_PEND.BITS HRD_SWEEP.SWEEP CRB_CAUSE.WORD; dsimp only; omega)

theorem ringKey_evtOvr : ringKey true (EVT_OVR.BITS (n / 32)).key = false :=
  decide_eq_false (by unfold Fld.key EVT_OVR.BITS HRD_SWEEP.SWEEP CRB_CAUSE.WORD; dsimp only; omega)

@[simp] theorem State.latchEvt_ring : (s.latchEvt n).ring full = s.ring full := by
  unfold State.latchEvt
  split
  · exact State.setBitOf_ring full s (ringKey_evtOvr h) _
  · exact State.setBitOf_ring full s (ringKey_evtPend h) _

@[simp] theorem State.softEvt_ring : (s.softEvt n).ring full = s.ring full := by
  unfold State.softEvt
  repeat' split
  · rfl
  · rfl
  · exact State.latchEvt_ring full s h

@[simp] theorem State.raise_ring : (s.raise n).ring full = s.ring full := State.softEvt_ring full s h
end

@[simp] theorem State.setByte_ring (a : Nat) (b : BitVec 8) : (s.setByte a b).ring full = s.ring full := (rfl)

@[simp] theorem State.store_ring (n a v : Nat) : (s.store n a v).ring full = s.ring full := by
  rw [store_eq_withMem]
  rfl

@[simp] theorem State.recordRefusal_ring (m : Master) (k : Access) (kind a : Nat) :
    (s.recordRefusal m k kind a).ring full = s.ring full := by
  simp +decide [State.recordRefusal]

@[simp] theorem State.setCr_ring (c : Core) (n : Nat) (v : Word) : (s.setCr c n v).ring full = s.ring full :=
  State.setCore_ring full s c _

@[simp] theorem State.setTag_ring (c : Core) (k : Nat) (x : TagSt) : (s.setTag c k x).ring full = s.ring full :=
  State.setCore_ring full s c _

@[simp] theorem State.setCrstat_ring (c : Core) (b : Nat) : (s.setCrstat c b).ring full = s.ring full := by
  simp +decide [State.setCrstat]

@[simp] theorem State.release_ring (c : Core) (t : Nat) (word val : Nat) :
    (s.release c t word val).ring full = s.ring full := by
  unfold State.release
  dsimp only
  repeat' split
  all_goals simp +decide

@[simp] theorem State.complete_ring (c : Core) (t info status val : Nat) :
    (s.complete c t info status val).ring full = s.ring full := by
  unfold State.complete
  split <;> simp +decide

@[simp] theorem State.enqueue_ring (c : Commit) : (s.enqueue c).ring full = s.ring full := by
  rfl

@[simp] theorem State.setLim_ring (k : Nat) (x : LimSt) : (s.setLim k x).ring full = s.ring full := by
  rfl

@[simp] theorem State.writeSuppressed_ring (k : Nat) : (s.writeSuppressed k).ring full = s.ring full := by
  simp +decide [State.writeSuppressed, LOG_LIM.AUTO, LOG_LIM.CODE, LOG_LIMST.BOUND, LOG_LIMST.SUPP]

@[simp] theorem State.passLimit_ring (c : Commit) : (s.passLimit c).2.ring full = s.ring full := by
  unfold State.passLimit
  dsimp only
  repeat' split
  all_goals simp +decide [LOG_LIMST.BOUND, LOG_LIMST.SUPP, LOG_LIMST.TOKENS]

@[simp] theorem State.hwRecord_ring (code sev : Nat) (payload : List Nat) :
    (s.hwRecord code sev payload).ring full = s.ring full := by
  simp +decide [State.hwRecord]

@[simp] theorem State.redrive_ring : s.redrive.ring full = s.ring full := by
  simp +decide [State.redrive]

@[simp] theorem State.sendFrame_ring (port : Nat) (f : Frame) : (s.sendFrame port f).ring full = s.ring full := by
  simp +decide [State.sendFrame, ChnSt.ringPart_eq]

@[simp] theorem State.bleedStat_ring : s.bleedStat.ring full = s.ring full := by
  simp +decide [State.bleedStat]

@[simp] theorem State.bleedOff_ring : s.bleedOff.ring full = s.ring full := by
  simp +decide [State.bleedOff]

@[simp] theorem State.refuseGait_ring (reason : Nat) : (s.refuseGait reason).ring full = s.ring full := by
  simp +decide [State.refuseGait]

@[simp] theorem State.beginTrans_ring (num target cause : Nat) (requested : Bool) :
    (s.beginTrans num target cause requested).ring full = s.ring full :=
  State.put_ring full s (f := PWR_GAIT.BUSY) (by decide) true

@[simp] theorem State.removalBegun_ring : s.removalBegun.2.ring full = s.ring full := by
  unfold State.removalBegun
  split <;> simp +decide

@[simp] theorem State.forceTrans_ring (num target cause : Nat) :
    (s.forceTrans num target cause).ring full = s.ring full := by
  unfold State.forceTrans
  split
  · simp +decide
  · dsimp only
    repeat' split
    all_goals simp +decide

@[simp] theorem State.markLame_ring (b : Nat) (v : Bool) : (s.markLame b v).ring full = s.ring full := by
  rfl

@[simp] theorem State.enterLame_ring : s.enterLame.ring full = s.ring full := by
  simp +decide [State.enterLame]

@[simp] theorem State.wake_ring (b : Nat) : (s.wake b).ring full = s.ring full := by
  have hnoted : (s.setBitOf PWR_WAKESRC.SRC b).ring full = s.ring full := State.setBitOf_ring full s (by decide) b
  unfold State.wake
  dsimp only
  repeat' split
  all_goals simp only [State.withPower_ring, State.beginTrans_ring, hnoted]

@[simp] theorem State.canBit_ring {f : Nat → Nat → Fld} {x : Nat} (n : Nat) (v : Bool)
    (h : ringKey true (f x (n / 32)).key = false) : (s.canBit f x n v).ring full = s.ring full := by
  simp [State.canBit, h]

@[simp] theorem State.canPend_ring (x n : Nat) (v : Bool) : (s.canPend x n v).ring full = s.ring full := by
  simp [State.canPend, CNx_OSTAT.TXPEND, CNx_TXPEND.BITS]

@[simp] theorem State.canStamp_ring (x n t : Nat) : (s.canStamp x n t).ring full = s.ring full := by
  simp +decide [State.canStamp, CNx_OTSHI.NS, CNx_OTSLO.NS]

@[simp] theorem State.canEnd_ring {x : Nat} (h : x < 2) (n res t : Nat) (timeout : Bool) :
    (s.canEnd x n res t timeout).ring full = s.ring full := by
  have h1 : canBase x + 1 < 256 := by unfold canBase; omega
  have h2 : canBase x + 2 < 256 := by unfold canBase; omega
  unfold State.canEnd
  dsimp only
  split <;> simp [h1, h2, CNx_FLT.ONESHOT, CNx_OSTAT.RES, CNx_TXDONE.BITS]

@[simp] theorem State.canOnBus_ring (x : Nat) : (s.canOnBus x).2.ring full = s.ring full := by
  unfold State.canOnBus
  split <;> simp +decide

@[simp] theorem State.canAbortSome_ring {x : Nat} (h : x < 2) (res : Nat)
    (p : State → Nat → Bool) : (s.canAbortSome x res p).ring full = s.ring full := by
  simp [State.canAbortSome, foldl_ring, h]

@[simp] theorem State.canGateClose_ring : s.canGateClose.ring full = s.ring full := by
  simp [State.canGateClose]

@[simp] theorem State.gateShut_ring : s.gateShut.ring full = s.ring full := by
  simp +decide [State.gateShut]

@[simp] theorem State.dropClaim_ring (reason : Nat) : (s.dropClaim reason).ring full = s.ring full := by
  simp +decide [State.dropClaim]

@[simp] theorem State.stepLost_ring {f : Fld} (h : ringKey true f.key = false) :
    (s.stepLost f).ring full = s.ring full := by
  simp +decide [State.stepLost, h]

@[simp] theorem State.standbyLocal_ring : s.standbyLocal.ring full = s.ring full := by
  simp +decide [State.standbyLocal]

@[simp] theorem State.enterStop_ring (st : Nat) : (s.enterStop st).ring full = s.ring full := by
  simp +decide [State.enterStop]

@[simp] theorem State.enterHalt_ring : s.enterHalt.ring full = s.ring full := by
  have h29 : ((s.enterStop Curb.halt).raise 29).ring full = s.ring full := by simp
  simp only [State.enterHalt, State.redrive_ring, State.ite_ring, State.forceTrans_ring, State.bleedOff_ring,
    State.withCrb_ring, h29, ite_self]

@[simp] theorem State.enterSii_ring : s.enterSii.ring full = s.ring full := by
  simp only [State.enterSii, State.redrive_ring, State.ite_ring, State.enterHalt_ring, State.withCrb_ring,
    State.mapCrb_ring, State.enterStop_ring, ite_self]

@[simp] theorem State.enterSrs_ring : s.enterSrs.ring full = s.ring full := by
  simp only [State.enterSrs, State.redrive_ring, State.enterStop_ring, State.withCrb_ring]
  exact State.set_ring full s (by decide) _

@[simp] theorem State.beginStop_ring : s.beginStop.ring full = s.ring full :=
  State.put_ring full s (f := CRB_FLT.STOP) (by decide) true

end

end Sys2Proof.Machine
end


section
/-! SUPPORT. Operations of the curb, the lanes' scheduler, protection, cells and estimator leave the ring (R191). -/

namespace Sys2Proof.Machine
open Sys2Proof Sys2Proof.Reg

section
variable (s : State)

@[simp] theorem State.recordCause_ring (code : Nat) (gc first : Bool) :
    (s.recordCause code gc first).ring false = s.ring false := by
  simp +decide [State.recordCause]

@[simp] theorem State.curbCause_ring (code : Nat) (a : Stop) (gc : Bool) :
    (s.curbCause code a gc).ring false = s.ring false := by
  unfold State.curbCause
  dsimp only
  repeat' split
  all_goals simp only [State.dropClaim_ring, State.enterHalt_ring, State.enterSrs_ring, State.enterSii_ring,
    State.withCrb_ring, State.beginStop_ring, State.recordCause_ring, State.standbyLocal_ring]

@[simp] theorem State.gaitSrs_ring : s.gaitSrs.ring false = s.ring false := by
  simp +decide [State.gaitSrs]

@[simp] theorem State.forceLame_ring (b : Nat) (srs : Bool) : (s.forceLame b srs).ring false = s.ring false := by
  simp +decide [State.forceLame]

@[simp] theorem State.raiseD_ring {n : Nat} (h : n < 256) : (s.raiseD n).ring false = s.ring false := by
  simp [State.raiseD, h]

@[simp] theorem State.assertEvt_ring {n : Nat} (h : n < 256) : (s.assertEvt n).ring false = s.ring false := by
  simp [State.assertEvt, h]

@[simp] theorem State.putHeader_ring (l : List (Nat × Nat)) : (s.putHeader l).ring false = s.ring false := by
  simp +decide [State.putHeader, foldl_ring]

@[simp] theorem State.sweepBoundary_ring : s.sweepBoundary.ring false = s.ring false := by
  simp +decide [State.sweepBoundary, ChnSt.ringPart_eq]

@[simp] theorem State.ends_ring (l : Nat) : (s.ends l).2.2.ring false = s.ring false := by
  unfold State.ends
  split <;> simp +decide

@[simp] theorem State.collectCell_ring (sw cell l : Nat) : (s.collectCell sw cell l).ring false = s.ring false := by
  simp +decide [State.collectCell, EST_CST.FLAGS, EST_CST.PLAT, EST_CST.SIG, EST_END.E0, EST_END.E100,
    EST_SOC.SOC, EST_SOC.USOC]

@[simp] theorem State.learnCell_ring (cell l : Nat) : (s.learnCell cell l).ring false = s.ring false := by
  have hled (s : State) : ((List.range 8).foldl (fun (s : State) i =>
      s.set (EST_LED.WORD (8 * cell + i)) (s.word (laneAddr l (0x60 + 4 * i)))) s).ring false = s.ring false :=
    foldl_ring (fun t i => by simp [EST_LED.WORD]) _ s
  simp +decide [State.learnCell, hled, EST_SUSP.BITS, EST_ZR.RHF, EST_ZR.RLF]

@[simp] theorem State.learnCollect_ring (sw : Nat) : (s.learnCollect sw).ring false = s.ring false := by
  unfold State.learnCollect
  dsimp only
  split <;> simp +decide [foldl_ring, EST_SUSP.BITS]

@[simp] theorem State.estMissing_ring : s.estMissing.ring false = s.ring false := by
  simp +decide [State.estMissing]

@[simp] theorem State.estCollect_ring (sw : Nat) : (s.estCollect sw).ring false = s.ring false := by
  simp +decide [State.estCollect, foldl_ring]

@[simp] theorem State.keepPred_ring (sw : Nat) : (s.keepPred sw).ring false = s.ring false := by
  simp +decide [State.keepPred]

@[simp] theorem State.autoEnded_ring (sw status : Nat) : (s.autoEnded sw status).ring false = s.ring false := by
  simp +decide [State.autoEnded]

@[simp] theorem State.tagStat_ring : s.tagStat.ring false = s.ring false := by
  simp +decide [State.tagStat]

@[simp] theorem State.sendReq_ring (port : Nat) (f : Frame) : (s.sendReq port f).ring false = s.ring false := by
  simp +decide [State.sendReq, ChnSt.ringPart_eq]

@[simp] theorem State.reqEnd_ring (addr cmd : Nat) : (s.reqEnd addr cmd).ring false = s.ring false := by
  simp +decide [State.reqEnd, ChnSt.ringPart_eq]

@[simp] theorem State.sendReadBack_ring (u : Nat) : (s.sendReadBack u).ring false = s.ring false := by
  simp +decide [State.sendReadBack]

@[simp] theorem State.cmpTrip_ring (was hit : List Nat) (code : Nat) (a : Stop) :
    (s.cmpTrip was hit code a).ring false = s.ring false := by
  simp +decide [State.cmpTrip]

@[simp] theorem State.compareFrame_ring (vs : List CmpVal) (ts : List (Nat × Option Int)) :
    (s.compareFrame vs ts).ring false = s.ring false := by
  simp +decide [State.compareFrame]

@[simp] theorem State.prtSweep_ring (iavg : Option Int) : (s.prtSweep iavg).ring false = s.ring false := by
  simp +decide [State.prtSweep]

@[simp] theorem State.prtSync_ring : s.prtSync.ring false = s.ring false := by
  simp +decide [State.prtSync]

@[simp] theorem State.sweepFull_ring : s.sweepFull.ring false = s.ring false := by
  simp +decide [State.sweepFull]

@[simp] theorem State.sendCells_ring (u : Nat) : (s.sendCells u).ring false = s.ring false := by
  simp +decide [State.sendCells]

@[simp] theorem State.classify_ring (u stack : Nat) (xs : List CellNow) :
    (s.classify u stack xs).ring false = s.ring false := by
  unfold State.classify
  dsimp only
  split <;> simp

@[simp] theorem State.refreshFlags_ring (u : Nat) : (s.refreshFlags u).ring false = s.ring false :=
  foldl_ring (fun t e => by simp [CEL_CFLG.FLAGS]) _ s

@[simp] theorem State.owtQueue_ring (u : Nat) (why : OwtWhy) : (s.owtQueue u why).ring false = s.ring false := by
  simp +decide [State.owtQueue]

@[simp] theorem State.takeSignature_ring (k : Nat) : (s.takeSignature k).ring false = s.ring false := by
  simp +decide [State.takeSignature, CEL_USUSP.TAPS]

@[simp] theorem State.clearSignature_ring (k : Nat) : (s.clearSignature k).ring false = s.ring false := by
  simp +decide [State.clearSignature, CEL_USUSP.TAPS]

@[simp] theorem State.suspectAny_ring : s.suspectAny.ring false = s.ring false := by
  simp +decide [State.suspectAny]

@[simp] theorem State.dropOpen_ring : s.dropOpen.ring false = s.ring false := by
  simp +decide [State.dropOpen, CEL_CFLG.FLAGS]

@[simp] theorem State.celSync_ring : s.celSync.ring false = s.ring false := by
  simp +decide [State.celSync, foldl_ring]

@[simp] theorem State.owtTry_ring : s.owtTry.ring false = s.ring false := by
  unfold State.owtTry
  split <;> simp +decide

@[simp] theorem State.owtEnd_ring : s.owtEnd.ring false = s.ring false := by
  unfold State.owtEnd
  split <;> simp +decide

@[simp] theorem State.owtReroute_ring (was : Nat → Nat) : (s.owtReroute was).ring false = s.ring false := by
  unfold State.owtReroute
  split <;> simp +decide

@[simp] theorem State.sendBleed_ring (u : Nat) : (s.sendBleed u).ring false = s.ring false := by
  simp +decide [State.sendBleed]

@[simp] theorem State.bleedFlush_ring (u : Nat) : (s.bleedFlush u).ring false = s.ring false := by
  simp +decide [State.bleedFlush]

@[simp] theorem State.dropTaken_ring : s.dropTaken.ring false = s.ring false := by
  simp +decide [State.dropTaken]

@[simp] theorem State.writeSlot_ring (l sw w0 w1 w3 : Nat) : (s.writeSlot l sw w0 w1 w3).ring false = s.ring false := by
  simp +decide [State.writeSlot]

@[simp] theorem State.cellTake_ring (u k stack sw : Nat) (vs : List Nat) (x : CellNow) :
    (s.cellTake u k stack sw vs x).ring false = s.ring false := by
  simp +decide [State.cellTake, CEL_CELL.AGE, CEL_CELL.FRESH, CEL_CELL.SUBST, CEL_CELL.VCELL,
    CEL_CFLG.FLAGS, CEL_CFLG.TCELL]

@[simp] theorem State.celFrame_ring (u : Nat) (f : UnitFrame) : (s.celFrame u f).ring false = s.ring false := by
  simp +decide [State.celFrame, foldl_ring, CEL_USTACK.MV, CEL_UTEMP.T0, CEL_UTEMP.T1]

@[simp] theorem State.cellSummary_ring : s.cellSummary.ring false = s.ring false := by
  unfold State.cellSummary
  split <;> simp +decide

@[simp] theorem State.stringSum_ring : s.stringSum.ring false = s.ring false := by
  unfold State.stringSum
  dsimp only
  repeat' split
  all_goals simp +decide

@[simp] theorem State.cellCarry_ring (u sw : Nat) (e : Nat × Nat) : (s.cellCarry u sw e).ring false = s.ring false := by
  simp +decide [State.cellCarry, CEL_CELL.AGE, CEL_CELL.FRESH, CEL_CFLG.FLAGS, CHN_USTAT.STALE]

@[simp] theorem State.celStale_ring (u : Nat) : (s.celStale u).ring false = s.ring false := by
  have hflags : ((s.unitCells u).foldl (fun (s : State) e => s.setBitOf (CEL_CFLG.FLAGS e.1) 0) s).ring false
      = s.ring false := foldl_ring (fun t e => by simp [CEL_CFLG.FLAGS]) _ s
  unfold State.celStale
  dsimp only
  repeat' split
  all_goals simp +decide [hflags]

@[simp] theorem State.staleAny_ring : s.staleAny.ring false = s.ring false := by
  simp +decide [State.staleAny, CHN_USTAT.STALE]

@[simp] theorem State.celPost_ring (sw : Nat) (missing : List Nat) :
    (s.celPost sw missing).ring false = s.ring false := by
  simp +decide [State.celPost, foldl_ring]

@[simp] theorem State.herdRegs_ring : s.herdRegs.ring false = s.ring false := by
  simp +decide [State.herdRegs]

@[simp] theorem State.setJobs_ring (js : List Job) : (s.setJobs js).ring false = s.ring false := by
  simp +decide [State.setJobs]

@[simp] theorem State.putJob_ring (j : Job) : (s.putJob j).ring false = s.ring false := by
  simp +decide [State.putJob]

@[simp] theorem State.dispatch_ring (j : Job) : (s.dispatch j).ring false = s.ring false := by
  simp +decide [State.dispatch]

@[simp] theorem State.evaluate_ring (fuel : Nat) : (s.evaluate fuel).ring false = s.ring false := by
  induction fuel generalizing s with
  | zero => rfl
  | succ n ih =>
    unfold State.evaluate
    dsimp only
    repeat' split
    · rfl
    · exact (ih _).trans (State.dispatch_ring s _)
    · refine foldl_ring (fun t k => ?_) _ s
      split
      · exact State.dispatch_ring t k
      · rfl

@[simp] theorem State.markCandidates_ring : s.markCandidates.ring false = s.ring false := by
  simp +decide [State.markCandidates]

@[simp] theorem State.schedule_ring : s.schedule.ring false = s.ring false := by
  simp +decide [State.schedule]

@[simp] theorem State.queueJob_ring (j : Job) : (s.queueJob j).ring false = s.ring false := by
  simp +decide [State.queueJob]

@[simp] theorem State.autoPost_ring (sw : Nat) (late : Bool) : (s.autoPost sw late).ring false = s.ring false := by
  simp +decide [State.autoPost]

@[simp] theorem State.chxDrop_ring (x : ChxSt) : (s.chxDrop x).ring false = s.ring false := by
  unfold State.chxDrop
  dsimp only
  rw [State.tagStat_ring, State.mapChn_ring]
  · exact foldl_ring (fun t p => State.mapPad_ring false t _) _ s
  · exact fun _ => rfl

@[simp] theorem State.chxEnd_ring (x : ChxSt) (res addr val : Nat) :
    (s.chxEnd x res addr val).ring false = s.ring false := by
  simp +decide [State.chxEnd]

@[simp] theorem State.chxEndAll_ring (res : Nat) (p : ChxSt → Bool) :
    (s.chxEndAll res p).ring false = s.ring false := by
  simp +decide [State.chxEndAll, foldl_ring]

@[simp] theorem State.sendRead_ring (u port : Nat) (again : Bool) :
    (s.sendRead u port again).ring false = s.ring false := by
  simp +decide [State.sendRead, ChnSt.ringPart_eq]

@[simp] theorem State.rereadSome_ring (p : Nat → Bool) (first : Nat → Nat) :
    (s.rereadSome p first).ring false = s.ring false := by
  unfold State.rereadSome
  dsimp only
  repeat' split
  all_goals simp +decide [foldl_ring, foldr_ring, ChnSt.ringPart_eq]

@[simp] theorem State.rereadAll_ring (first : Nat → Nat) : (s.rereadAll first).ring false = s.ring false := by
  simp +decide [State.rereadAll]

@[simp] theorem State.pingNext_ring (port : Nat) : (s.pingNext port).ring false = s.ring false := by
  unfold State.pingNext
  repeat' split
  all_goals simp +decide [ChnSt.ringPart_eq]

@[simp] theorem State.pingAll_ring (l : List (Nat × Nat)) : (s.pingAll l).ring false = s.ring false := by
  simp +decide [State.pingAll, ChnSt.ringPart_eq]

@[simp] theorem State.writeHeader_ring (sw missing : Nat) (late : Bool) :
    (s.writeHeader sw missing late).ring false = s.ring false := by
  simp +decide [State.writeHeader]

@[simp] theorem State.afterRead_ring (u : Nat) : (s.afterRead u).ring false = s.ring false := by
  simp +decide [State.afterRead]

end

end Sys2Proof.Machine
end


section
/-! PROOF. SYNC, the reads of a sweep, its header and its post (R136, R156, R184, R191, R198). -/

namespace Sys2Proof.Machine
open Sys2Proof Sys2Proof.Reg

/-! ### What the view says -/

@[simp] theorem State.quiet_ring (full : Bool) (s : State) : s.quiet.ring full = s.ring full := (rfl)

/-- A field of a unit that the view shows. -/
theorem ringKey_ustat {f : Nat → Fld} {u : Nat} (hu : u ≤ 32) (h : (f u).addr = (CHN_USTAT.ROUTE u).addr)
    (hlsb : (f u).lsb < 32) : ringKey false (f u).key = true := by
  refine decide_eq_true (.inl ?_)
  simp only [Fld.key, h, CHN_USTAT.ROUTE, CHN_STAT.LOLOCK, CHN_STAT.HILOCK, CHN_STAT.REREAD, CHN_FLT.CMP_TRIP]
  omega

section
variable {u : Nat} (h : u ≤ 32)
include h
theorem ringKey_miss : ringKey false (CHN_USTAT.MISS u).key = true :=
  ringKey_ustat (f := CHN_USTAT.MISS) h rfl (by simp [CHN_USTAT.MISS])
theorem ringKey_stale : ringKey false (CHN_USTAT.STALE u).key = true :=
  ringKey_ustat (f := CHN_USTAT.STALE) h rfl (by simp [CHN_USTAT.STALE])
theorem ringKey_status : ringKey false (CHN_USTAT.USTAT u).key = true :=
  ringKey_ustat (f := CHN_USTAT.USTAT) h rfl (by simp [CHN_USTAT.USTAT])
theorem ringKey_route : ringKey false (CHN_USTAT.ROUTE u).key = true :=
  ringKey_ustat (f := CHN_USTAT.ROUTE) h rfl (by simp [CHN_USTAT.ROUTE])
end

theorem le_key_ustat (u : Nat) : 0x60050100 * 32 ≤ (CHN_USTAT.ROUTE u).key := by
  simp only [Fld.key, CHN_USTAT.ROUTE]
  omega

theorem key_miss (u : Nat) : (CHN_USTAT.MISS u).key = (CHN_USTAT.ROUTE u).key + 16 := rfl
theorem key_status (u : Nat) : (CHN_USTAT.USTAT u).key = (CHN_USTAT.ROUTE u).key + 8 := rfl
theorem key_stale (u : Nat) : (CHN_USTAT.STALE u).key = (CHN_USTAT.ROUTE u).key + 4 := rfl

/-- Fields of the unit registers are no field below them. -/
theorem ustat_key_ne {k : Nat} (h : k < 0x60050100 * 32) (u : Nat) :
    k ≠ (CHN_USTAT.ROUTE u).key ∧ k ≠ (CHN_USTAT.MISS u).key ∧
      k ≠ (CHN_USTAT.STALE u).key ∧ k ≠ (CHN_USTAT.USTAT u).key := by
  have := le_key_ustat u
  rw [key_miss, key_stale, key_status]
  omega

theorem route_of_ring {s t : State} (h : t.ring false = s.ring false) : t.route = s.route := by
  funext u
  unfold State.route
  split
  · next hu => exact get_of_ring h (ringKey_route hu.2)
  · rfl

theorem sweep_of_ring {s t : State} (h : t.ring false = s.ring false) : t.get CHN_SWEEP.SWEEP = s.get CHN_SWEEP.SWEEP :=
  get_of_ring h (by decide)

/-! ### SYNC_SEND (R184) -/

theorem leBytes_two (n : Nat) : ∃ x y, leBytes 2 n = [x, y] := ⟨_, _, rfl⟩

/-- The SYNC that was asked to be the last ends the sweeps; the open sweep and the frame stand. -/
theorem syncLast_keeps (s : State) : ((if s.chn.stopping then s.sweepsOff else s).chn.ringPart = s.chn.ringPart) ∧
    (if s.chn.stopping then s.sweepsOff else s).chn.out = s.chn.out := by
  split <;> exact ⟨rfl, rfl⟩

/-- The state before SYNC leaves: the sweep is open and has no frame. -/
theorem execSyncSend_runs {s : State} (hen : s.get CHN_CTRL.SWEEP_EN ≠ 0) (hup : s.chainUp = true)
    (henum : s.chn.enum = none) :
    ∃ (g : ChnSt → ChnSt) (h : CelSt → CelSt), (∀ x, (g x).ringPart = ⟨true, true, false, [], x.broken, x.fsymAt⟩) ∧
      execSyncSend s = .next
        (let y := ((((s.quiet.sweepBoundary.mapChn g).mapCel h).put CHN_STAT.REREAD false).prtSync.celSync).tagStat
         let z := y.sendFrame 3 ⟨0, 0x3F, 3, (y.get CHN_SWEEP.SWEEP + 1) % 256 :: leBytes 2 s.quiet.nextSync⟩
         if z.chn.stopping then z.sweepsOff else z) := by
  refine ⟨_, _, ?_, congrArg _ (if_neg ?_)⟩
  · exact fun _ => rfl
  · have hruns : s.quiet.flag CHN_CTRL.SWEEP_EN = true := decide_eq_true hen
    have hup' : s.quiet.chainUp = true := hup
    have henum' : s.quiet.chn.enum = none := henum
    simp [hruns, hup', henum']

theorem syncSend_sends {s : State} (hen : s.get CHN_CTRL.SWEEP_EN ≠ 0) (hup : s.chainUp = true)
    (henum : s.chn.enum = none) :
    ∃ t x y, exec .syncSend s = .next t ∧ t.chn.inSync = true ∧ t.chn.open_ = true ∧ t.chn.got = [] ∧
      (3, (⟨0, 0x3F, 3, [(s.get CHN_SWEEP.SWEEP + 1) % 256, x, y]⟩ : Frame)) ∈ t.chn.out := by
  obtain ⟨x, y, hbytes⟩ := leBytes_two s.quiet.nextSync
  obtain ⟨g, h, hg, hexec⟩ := execSyncSend_runs hen hup henum
  rw [hbytes] at hexec
  generalize hu : ((((s.quiet.sweepBoundary.mapChn g).mapCel h).put CHN_STAT.REREAD false).prtSync.celSync).tagStat = u
    at hexec
  have hring : u.ring false = (s.quiet.sweepBoundary.mapChn g).ring false := by
    rw [← hu]
    simp +decide
  have hpart : u.chn.ringPart =
      ⟨true, true, false, [], s.quiet.sweepBoundary.chn.broken, s.quiet.sweepBoundary.chn.fsymAt⟩ :=
    (part_of_ring hring).trans (hg _)
  have hsweep : u.get CHN_SWEEP.SWEEP = s.get CHN_SWEEP.SWEEP :=
    (sweep_of_ring hring).trans (sweep_of_ring (s := s) (t := s.quiet.sweepBoundary) (by simp))
  dsimp only at hexec
  rw [hsweep] at hexec
  obtain ⟨hkept, hout⟩ := syncLast_keeps (u.sendFrame 3 ⟨0, 0x3F, 3, [(s.get CHN_SWEEP.SWEEP + 1) % 256, x, y]⟩)
  have hlast := hkept.trans hpart
  refine ⟨_, x, y, hexec, congrArg (·.inSync) hlast, congrArg (·.open_) hlast, congrArg (·.got) hlast, ?_⟩
  rw [hout]
  exact List.mem_append_right _ (List.mem_singleton_self _)

/-! ### The SYNC instant and the reads (R184, R191) -/

theorem sendRead_reads (s : State) (u port : Nat) (again : Bool) :
    (s.sendRead u port again).chn.reads = s.chn.reads ++ [⟨u, port, again⟩] := rfl

/-- Every unit of the list is read by its route; the view and the HV module stand. -/
theorem foldl_sendRead (l : List Nat) : ∀ s : State,
    let t := l.foldl (fun (s : State) u => s.sendRead u (s.route u) false) s
    t.chn.reads = s.chn.reads ++ l.map (fun u => ⟨u, s.route u, false⟩) ∧ t.hvm = s.hvm ∧ t.ring false = s.ring false ∧
      t.rest = s.rest := by
  induction l with
  | nil => exact fun s => ⟨(List.append_nil _).symm, rfl, rfl, rfl⟩
  | cons a l ih =>
    intro s
    obtain ⟨hreads, hhvm, hring, hrest⟩ := ih (s.sendRead a (s.route a) false)
    have hroute : (s.sendRead a (s.route a) false).route = s.route := route_of_ring (State.sendRead_ring s _ _ _)
    refine ⟨?_, hhvm, hring.trans (State.sendRead_ring s _ _ _), hrest.trans (State.sendRead_rest s _ _ _)⟩
    rw [List.foldl_cons, hreads, sendRead_reads, hroute, List.map_cons, List.append_assoc]
    rfl

theorem tryPost_waits {s : State} (h : s.chn.hdr = false) : s.tryPost = s := if_neg (by simp [h])

theorem syncInstant_of_not_inSync {s : State} (h : s.chn.inSync = false) : exec .syncInstant s = .next s.quiet :=
  congrArg _ (if_pos h)

/-- The READ_BLOCKs of a sweep leave: those of the low end, then those of the high end, nearest unit first (R191). -/
def State.readsSent (s : State) : State :=
  ((s.namedUnits.filter fun u => s.route u = 1) ++ (s.namedUnits.filter fun u => s.route u = 2).reverse).foldl
    (fun (s : State) u => s.sendRead u (s.route u) false) s

/-- The SYNC instant (R184): CHN_SWEEP counts, SYNC is over, and its time is known. -/
def State.syncPassed (s : State) : State :=
  let s := s.set CHN_SWEEP.SWEEP (s.get CHN_SWEEP.SWEEP + 1)
  let t := s.devTime + s.get CHN_SYNCDLY.NS
  (s.mapChn fun x => { x with inSync := false }).mapHvm fun x => { x with tsync := t }

theorem get_syncPassed_ne (s : State) {f : Fld} (h : f.key ≠ CHN_SWEEP.SWEEP.key) : s.syncPassed.get f = s.get f :=
  get_set_ne s _ h

theorem get_sweep_syncPassed (s : State) :
    s.syncPassed.get CHN_SWEEP.SWEEP = (s.get CHN_SWEEP.SWEEP + 1) % 2 ^ 32 := get_set_same s _ _

theorem tsync_syncPassed (s : State) : s.syncPassed.hvm.tsync = s.devTime + s.get CHN_SYNCDLY.NS := by
  have hhi := get_syncPassed_ne s (f := PTP_TIMEHI.NS) (by decide)
  have hlo := get_syncPassed_ne s (f := PTP_TIMELO.NS) (by decide)
  have hns := get_syncPassed_ne s (f := CHN_SYNCDLY.NS) (by decide)
  unfold State.devTime
  rw [← hhi, ← hlo, ← hns]
  rfl

theorem syncPassed_rest (s : State) : s.syncPassed.rest = s.rest := by simp [State.syncPassed]

theorem route_syncPassed (s : State) : s.syncPassed.route = s.route := by
  funext u
  unfold State.route
  split
  · refine get_syncPassed_ne s fun e => ?_
    simp only [Fld.key, CHN_USTAT.ROUTE, CHN_SWEEP.SWEEP] at e
    omega
  · rfl

theorem syncInstant_eq {s : State} (h : s.chn.inSync = true) :
    exec .syncInstant s = .next s.quiet.syncPassed.readsSent.tryPost :=
  congrArg _ (if_neg (by rw [show s.quiet.chn.inSync = true from h]; exact Bool.noConfusion))

theorem syncInstant_reads {s : State} (hin : s.chn.inSync = true) (hhdr : s.chn.hdr = false) :
    ∃ t, exec .syncInstant s = .next t ∧ s.sameRest t ∧ t.chn.inSync = false ∧
      t.get CHN_SWEEP.SWEEP = (s.get CHN_SWEEP.SWEEP + 1) % 2 ^ 32 ∧ t.hvm.tsync = s.devTime + s.get CHN_SYNCDLY.NS ∧
      ∀ u ∈ s.namedUnits, s.route u = 1 ∨ s.route u = 2 → ⟨u, s.route u, false⟩ ∈ t.chn.reads := by
  have hroute : s.quiet.syncPassed.route = s.route := route_syncPassed s.quiet
  obtain ⟨hreads, hhvm, hring, hrest⟩ := foldl_sendRead ((s.quiet.syncPassed.namedUnits.filter fun u =>
    s.quiet.syncPassed.route u = 1) ++ (s.quiet.syncPassed.namedUnits.filter fun u =>
      s.quiet.syncPassed.route u = 2).reverse) s.quiet.syncPassed
  have hpart := part_of_ring hring
  refine ⟨_, (syncInstant_eq hin).trans (congrArg _ (tryPost_waits ((congrArg (·.hdr) hpart).trans hhdr))),
    State.sameRest_of_rest (hrest.trans (syncPassed_rest s.quiet)), congrArg (·.inSync) hpart,
    (sweep_of_ring hring).trans (get_sweep_syncPassed s.quiet),
    (congrArg (·.tsync) hhvm).trans (tsync_syncPassed s.quiet), fun u hu hends => ?_⟩
  unfold State.readsSent
  rw [hreads, hroute]
  refine List.mem_append_right _ (List.mem_map_of_mem (f := fun u => (⟨u, s.route u, false⟩ : ReadSt)) ?_)
  rcases hends with h | h
  · exact List.mem_append_left _ (List.mem_filter.mpr ⟨hu, decide_eq_true h⟩)
  · exact List.mem_append_right _ (List.mem_reverse.mpr (List.mem_filter.mpr ⟨hu, decide_eq_true h⟩))

/-! ### A damaged frame and the repeater (R170, R174) -/

/-! ### The post (R136, R198) -/

end Sys2Proof.Machine
end


section
/-! PROOF. A damaged frame, the repeater, and the post of a sweep (R136, R156, R170, R174, R198). -/

namespace Sys2Proof.Machine
open Sys2Proof Sys2Proof.Reg

/-! ### A damaged frame and the repeater (R170, R174) -/

theorem get_mapChn (s : State) (g : ChnSt → ChnSt) (f : Fld) : (s.mapChn g).get f = s.get f := rfl


theorem origin_of_chainUp {s : State} (h : s.chainUp = true) : s.flag CHN_STAT.ORIGIN = true := by
  obtain ⟨⟨-, horigin⟩, -⟩ : ((s.flag CHN_CTRL.PORT_EN || s.cel.check.isSome) = true ∧ s.flag CHN_STAT.ORIGIN = true) ∧
      decide (2 ≤ s.gait) = true := by
    simpa [State.chainUp] using h
  exact horigin

theorem repeats_of_chainUp {s : State} (h : s.chainUp = true) : s.repeats = false := by
  simp [State.repeats, origin_of_chainUp h]

theorem engineRx_of_chainUp {s : State} (h : s.chainUp = true) (high : Bool) (w : Wire) (g : State → State) :
    s.engineRx high w g = g s.quiet := by
  unfold State.engineRx
  rw [repeats_of_chainUp h, if_neg Bool.noConfusion, if_pos h]

theorem engineRx_of_repeats {s : State} (h : s.repeats = true) (high : Bool) (w : Wire) (g : State → State) :
    s.engineRx high w g = { s with chn := { s.chn with rep := [(!(high != s.flag TDM_STAT.SEAT), .frame w.f)] } } :=
  (if_pos h).trans (if_pos h)

theorem get_bump_same (s : State) (f : Fld) (n : Nat) :
    (s.bump f n).get f = min (2 ^ f.width - 1) (s.get f + n) := by
  have hpos : 0 < 2 ^ f.width := Nat.two_pow_pos _
  rw [State.bump, get_set_same, satAdd, Nat.mod_eq_of_lt (by omega)]

theorem discard_crc (s : State) :
    s.sameRest (s.discard 1 .crc) ∧ (s.discard 1 .crc).get CHN_ERRLO.CRC = min 65535 (s.get CHN_ERRLO.CRC + 1) ∧
      (s.discard 1 .crc).get CHN_FLT.CRC = 1 ∧ (s.chn.crcSeen = false → s.asserts (s.discard 1 .crc) 69) := by
  have hstep : s.discard 1 .crc = ((((s.bump CHN_ERRLO.CRC 1).put CHN_FLT.CRC true).mapChn fun x =>
      { x with crcSeen := true }).when (!s.chn.crcSeen) fun s => s.raise 69) := rfl
  rw [hstep]
  generalize hu : (((s.bump CHN_ERRLO.CRC 1).put CHN_FLT.CRC true).mapChn fun x => { x with crcSeen := true }) = u
  have hring : (u.when (!s.chn.crcSeen) fun s => s.raise 69).ring false = u.ring false := by simp
  have hget {q : Fld} (h : q.key ≠ CHN_FLT.CRC.key) : u.get q = (s.bump CHN_ERRLO.CRC 1).get q := by
    rw [← hu, get_mapChn, get_put_ne _ _ h]
  have hflt : u.get CHN_FLT.CRC = 1 := by
    rw [← hu, get_mapChn]
    exact get_set_same _ _ _
  refine ⟨State.sameRest_of_rest (by simp [← hu]), ?_, (get_of_ring hring (by decide)).trans hflt, fun hseen => ?_⟩
  · exact (get_of_ring hring (by decide)).trans ((hget (by decide)).trans (get_bump_same s CHN_ERRLO.CRC 1))
  · rw [hseen]
    refine asserts_of_cfg_eq (s' := u) (fun q hq => (hget ?_).trans (get_set_ne s _ ?_)) (asserts_raise u 69)
    all_goals
      rcases hq with h | h | h <;> rw [h] <;> decide

theorem readBlockResponse_crc {w : Wire} {s : State} (hup : s.chainUp = true) (hw : wireRx w = .crc) :
    ∃ t, exec (.readBlockResponse false w.f w.tail) s = .next t ∧ s.sameRest t ∧
      t.get CHN_ERRLO.CRC = min 65535 (s.get CHN_ERRLO.CRC + 1) ∧ t.get CHN_FLT.CRC = 1 ∧
      (s.chn.crcSeen = false → s.asserts t 69) := by
  refine ⟨_, congrArg Host.Outcome.next ((engineRx_of_chainUp hup _ _ _).trans (if_pos ?_)), ?_⟩
  · rw [show wireRx (Wire.of w.f w.tail) = .crc from hw]; exact Rx.noConfusion
  · rw [show wireRx (Wire.of w.f w.tail) = .crc from hw]
    exact discard_crc s.quiet

/-! ### The post (R136, R198) -/

/-- What a post does to the view: the sweep is closed, HRD_SWEEP takes CHN_SWEEP, the rest stands. -/
theorem postSweep_posts {s : State} (h : s.flag CHN_STAT.ORIGIN = true) (late : Bool) :
    ∃ p : State, (s.postSweep late).ring false = (p.mapChn fun x => { x with open_ := false }).ring false ∧
      p.chn.ringPart = s.chn.ringPart ∧ p.get HRD_SWEEP.SWEEP = s.get CHN_SWEEP.SWEEP % 2 ^ 32 ∧
      ∀ q : Fld, ringKey false q.key = true → q.key ≠ HRD_SWEEP.SWEEP.key → p.get q = s.get q := by
  generalize hw : (s.when (!s.chn.hdr) fun s => s.mapHvm fun x => { x with hdr := HvmSt.reset.hdr }).writeHeader
      (s.get CHN_SWEEP.SWEEP) s.missingUnits.length late = w
  generalize hp : (w.set HRD_SWEEP.SWEEP (s.get CHN_SWEEP.SWEEP)).note
      (fun b => { b with posts := b.posts ++ [(s.get CHN_SWEEP.SWEEP, late)] }) = p
  have hring : w.ring false = s.ring false := by simp [← hw]
  have hnote : p.ring false = (w.set HRD_SWEEP.SWEEP (s.get CHN_SWEEP.SWEEP)).ring false := hp ▸ State.note_ring _ _ _
  have hsweep := (get_of_ring hnote (q := HRD_SWEEP.SWEEP) (by decide)).trans (get_set_same _ _ _)
  refine ⟨p, ?_, (part_of_ring hnote).trans (part_of_ring (t := w) hring), hsweep, fun q hq hne =>
    (get_of_ring hnote hq).trans ((get_set_ne w _ hne).trans (get_of_ring hring hq))⟩
  unfold State.postSweep
  dsimp only
  rw [if_neg (by simp [h]), hw, hp]
  simp

section
variable {s : State} (late : Bool)

theorem postSweep_of_not_origin (h : s.flag CHN_STAT.ORIGIN = false) : s.postSweep late = s := if_pos h

theorem postSweep_part (h : s.flag CHN_STAT.ORIGIN = true) :
    (s.postSweep late).chn.ringPart = { s.chn.ringPart with open_ := false } := by
  obtain ⟨p, hring, hpart, -, -⟩ := postSweep_posts h late
  exact (part_of_ring hring).trans (congrArg (fun x : RingPart => { x with open_ := false }) hpart)

theorem get_sweep_postSweep (h : s.flag CHN_STAT.ORIGIN = true) :
    (s.postSweep late).get HRD_SWEEP.SWEEP = s.get CHN_SWEEP.SWEEP % 2 ^ 32 := by
  obtain ⟨p, hring, -, hsweep, -⟩ := postSweep_posts h late
  exact (get_of_ring hring (by decide)).trans hsweep

theorem get_postSweep {q : Fld} (hq : ringKey false q.key = true) (hne : q.key ≠ HRD_SWEEP.SWEEP.key) :
    (s.postSweep late).get q = s.get q := by
  by_cases h : s.flag CHN_STAT.ORIGIN = true
  · obtain ⟨p, hring, -, -, hget⟩ := postSweep_posts h late
    exact (get_of_ring hring hq).trans (hget q hq hne)
  · rw [postSweep_of_not_origin late (Bool.not_eq_true _ ▸ h)]
end

theorem tryPost_part (s : State) : ∃ o, s.tryPost.chn.ringPart = { s.chn.ringPart with open_ := o } := by
  unfold State.tryPost
  split
  · by_cases h : s.flag CHN_STAT.ORIGIN = true
    · exact ⟨false, postSweep_part false h⟩
    · exact ⟨s.chn.open_, congrArg (·.chn.ringPart) (postSweep_of_not_origin false (Bool.not_eq_true _ ▸ h))⟩
  · exact ⟨s.chn.open_, rfl⟩

theorem get_tryPost (s : State) {q : Fld} (hq : ringKey false q.key = true) (hne : q.key ≠ HRD_SWEEP.SWEEP.key) :
    s.tryPost.get q = s.get q := by
  unfold State.tryPost
  split
  · exact get_postSweep false hq hne
  · rfl

/-! ### The header (R156) -/

theorem foldl_setWord_withMem (l : List (Nat × Nat)) : ∀ s : State,
    l.foldl (fun (s : State) e => s.setWord e.1 e.2) s =
      { s with mem := (l.foldl (fun (s : State) e => s.setWord e.1 e.2) s).mem } := by
  induction l with
  | nil => exact fun _ => rfl
  | cons e l ih =>
    intro s
    rw [List.foldl_cons, ih, setWord_withMem]

/-- A header write changes the memory and what the bundle notes. -/
theorem putHeader_withMem (s : State) (l : List (Nat × Nat)) :
    s.putHeader l = { s with mem := (s.putHeader l).mem, tdm := (s.putHeader l).tdm } := by
  unfold State.putHeader State.note State.when
  rw [foldl_setWord_withMem]
  split <;> rfl

/-- A word of a header, where the words after it lie elsewhere. -/
theorem word_putHeader (s : State) {pre post : List (Nat × Nat)} {a v : Nat}
    (h : ∀ e ∈ post, a + 4 ≤ e.1 ∨ e.1 + 4 ≤ a) : (s.putHeader (pre ++ (a, v) :: post)).word a = v % 2 ^ 32 := by
  unfold State.putHeader
  rw [word_of_mem (State.note_mem _ _), List.foldl_append, List.foldl_cons]
  generalize pre.foldl (fun (s : State) e => s.setWord e.1 e.2) s = u
  refine List.foldlRecOn post _ (motive := fun t : State => t.word a = v % 2 ^ 32) (word_setWord_same u a v)
    fun t ht e he => (word_of_bytes fun i hi => byte_setWord_outside t e.2 ?_).trans ht
  rcases h e he with h | h <;> omega

theorem clampI_eq {lo hi : Int} (h : lo ≤ hi) (i : Int) : clampI lo hi i = max lo (min hi i) := by
  unfold clampI
  split <;> [skip; split] <;> omega

theorem code32_mod (i : Int) : code32 (some i) % 2 ^ 32 = enc 32 (max (1 - 2 ^ 31) (min (2 ^ 31 - 1) i)) := by
  have hlt : code32 (some i) < 2 ^ 32 := by
    unfold code32 enc
    dsimp only
    omega
  rw [Nat.mod_eq_of_lt hlt, code32, clampI_eq (by decide)]
  rfl

theorem missingUnits_congr {s t : State} (hmap : t.cel.map = s.cel.map) (hgot : t.chn.got = s.chn.got) :
    t.missingUnits = s.missingUnits := by
  unfold State.missingUnits State.namedUnits
  rw [hmap, hgot]

theorem tryPost_of_missing {s : State} (h : s.missingUnits ≠ []) : s.tryPost = s := by
  refine if_neg ?_
  rw [List.isEmpty_eq_false_iff.mpr h, Bool.and_false]
  exact Bool.noConfusion

/-- The header of the sweep as the samples of a bracket give it. -/
def State.headerOf (s : State) (q : Bracket) : HvmHdr :=
  let ihall := if s.flag HVM_STAT.HALL_OK then interp q.hnum q.den q.h0 q.h1 else none
  let vb := s.interpVolt 0 q.num q.den q.b0 q.b1
  let vl := s.interpVolt 1 q.num q.den q.l0 q.l1
  let vm := s.interpVolt 2 q.num q.den q.m0 q.m1
  let isync := if s.hvValid then interp q.num q.den q.i0 q.i1 else none
  { tsync := s.hvm.tsync, isync := isync, ihall := ihall, iavg := s.iavg, vbat := vb, vlink := vl, vmid := vm
    flags := b2n isync.isSome + 2 * b2n ihall.isSome + 4 * b2n (vb.isSome && vl.isSome && vm.isSome) }

/-- The words of a header from address `a` on (Table HRD-4). -/
def headerWords (a : Nat) (h : HvmHdr) : List (Nat × Nat) :=
  [(a + 4, h.tsync % 2 ^ 32), (a + 8, h.tsync / 2 ^ 32 % 2 ^ 32), (a + 0xC, code32 h.isync), (a + 0x10, code32 h.ihall),
    (a + 0x14, code32 h.iavg), (a + 0x18, volt32 h.vbat), (a + 0x1C, volt32 h.vlink), (a + 0x20, volt32 h.vmid)]

/-- The state with its header taken, and written where the herd is powered. -/
def State.headerTaken (s : State) (h : HvmHdr) : State :=
  let s := s.mapHvm fun x => { x with hdr := h, since := x.past, past := 0 }
  if s.flag HRD_STAT.POWERED then s.putHeader (headerWords (hdrAddr (s.get CHN_SWEEP.SWEEP)) h) else s

theorem headerTaken_keeps (s : State) (h : HvmHdr) : (s.headerTaken h).hvm.hdr = h ∧
    (s.headerTaken h).cel.map = s.cel.map ∧ (s.headerTaken h).chn = s.chn := by
  unfold State.headerTaken
  dsimp only
  split
  · rw [putHeader_withMem]
    exact ⟨rfl, rfl, rfl⟩
  · exact ⟨rfl, rfl, rfl⟩

theorem word_headerTaken {s : State} {h : HvmHdr} (hp : s.get HRD_STAT.POWERED ≠ 0) :
    (s.headerTaken h).word (0x3030000C + 64 * (s.get CHN_SWEEP.SWEEP % 2)) = code32 h.isync % 2 ^ 32 := by
  have haddr : 0x3030000C + 64 * (s.get CHN_SWEEP.SWEEP % 2) = hdrAddr (s.get CHN_SWEEP.SWEEP) + 0xC := by
    unfold hdrAddr
    omega
  rw [haddr]
  unfold State.headerTaken
  dsimp only
  split
  · refine word_putHeader _ (pre := (headerWords _ h).take 2) (post := (headerWords _ h).drop 3) fun e he => ?_
    simp only [headerWords, List.drop, List.mem_cons, List.not_mem_nil, or_false] at he
    rcases he with rfl | rfl | rfl | rfl | rfl <;> dsimp only <;> omega
  · next hoff => exact absurd (decide_eq_true hp) hoff

theorem sweepHeader_eq {q : Bracket} {s : State} (hopen : s.chn.open_ = true) (hin : s.chn.inSync = false)
    (horigin : s.get CHN_STAT.ORIGIN ≠ 0) : exec (.sweepHeaderHvmWrite q) s =
      .next ((s.quiet.headerTaken (s.quiet.headerOf q)).mapChn fun x => { x with hdr := true }).tryPost := by
  refine congrArg Host.Outcome.next (if_neg ?_)
  have hflag : s.quiet.flag CHN_STAT.ORIGIN = true := decide_eq_true horigin
  simp [hflag, show s.quiet.chn.open_ = true from hopen, show s.quiet.chn.inSync = false from hin]

theorem sweepHeader_taken {q : Bracket} {s : State} (hopen : s.chn.open_ = true) (hin : s.chn.inSync = false)
    (horigin : s.get CHN_STAT.ORIGIN ≠ 0) (hv : s.hvValid = true) :
    ∃ t, exec (.sweepHeaderHvmWrite q) s = .next t ∧ t.chn.hdr = true ∧
      (s.missingUnits ≠ [] → t.hvm.hdr.isync = interp q.num q.den q.i0 q.i1 ∧ t.hvm.hdr.tsync = s.hvm.tsync ∧
        (s.get HRD_STAT.POWERED ≠ 0 → ∀ i, interp q.num q.den q.i0 q.i1 = some i →
          t.word (0x3030000C + 64 * (s.get CHN_SWEEP.SWEEP % 2)) = enc 32 (max (1 - 2 ^ 31) (min (2 ^ 31 - 1) i)))) := by
  obtain ⟨hhdr, hmap, hchn⟩ := headerTaken_keeps s.quiet (s.quiet.headerOf q)
  have hisync : (s.quiet.headerOf q).isync = interp q.num q.den q.i0 q.i1 := if_pos hv
  obtain ⟨o, hpart⟩ := tryPost_part ((s.quiet.headerTaken (s.quiet.headerOf q)).mapChn fun x => { x with hdr := true })
  refine ⟨_, sweepHeader_eq hopen hin horigin, congrArg (·.hdr) hpart, fun hmiss => ?_⟩
  rw [tryPost_of_missing]
  · refine ⟨(congrArg (·.isync) hhdr).trans hisync, congrArg (·.tsync) hhdr, fun hp i hi => ?_⟩
    refine (word_headerTaken (s := s.quiet) hp).trans ?_
    rw [hisync, hi, code32_mod]
  · exact ne_of_eq_of_ne (missingUnits_congr (s := s) hmap (congrArg (·.got) hchn)) hmiss

/-! ### The deadline (R136, R198) -/

/-- A unit without a frame counts MISS, and becomes stale at the limit. -/
def State.missCounted (lim : Nat) (s : State) (u : Nat) : State :=
  let m := satAdd 255 (s.get (CHN_USTAT.MISS u)) 1
  let s := s.set (CHN_USTAT.MISS u) m
  if lim ≤ m ∧ s.flag (CHN_USTAT.STALE u) = false then
    ((s.put (CHN_USTAT.STALE u) true).assertEvt (32 + u - 1)).celStale u
  else s

theorem countMiss_eq (s : State) :
    s.countMiss = s.missingUnits.foldl (State.missCounted (s.swGet CHN_SWCFG.STALE)) s := rfl

/-- A count changes MISS and STALE of its unit, and nothing else that the view shows. -/
theorem missCounted_counts (lim : Nat) (s : State) {u : Nat} (h1 : 1 ≤ u) (h32 : u ≤ 32) :
    (s.missCounted lim u).chn.ringPart = s.chn.ringPart ∧
      (s.missCounted lim u).get (CHN_USTAT.MISS u) = min 255 (s.get (CHN_USTAT.MISS u) + 1) ∧
      (lim ≤ min 255 (s.get (CHN_USTAT.MISS u) + 1) → (s.missCounted lim u).get (CHN_USTAT.STALE u) ≠ 0) ∧
      ∀ q : Fld, ringKey false q.key = true → q.key ≠ (CHN_USTAT.MISS u).key → q.key ≠ (CHN_USTAT.STALE u).key →
        (s.missCounted lim u).get q = s.get q := by
  have hmod : min 255 (s.get (CHN_USTAT.MISS u) + 1) % 2 ^ 8 = min 255 (s.get (CHN_USTAT.MISS u) + 1) :=
    Nat.mod_eq_of_lt (by omega)
  have hkne : (CHN_USTAT.MISS u).key ≠ (CHN_USTAT.STALE u).key := by simp [Fld.key, CHN_USTAT.MISS, CHN_USTAT.STALE]
  unfold State.missCounted satAdd
  dsimp only
  generalize hm : s.set (CHN_USTAT.MISS u) (min 255 (s.get (CHN_USTAT.MISS u) + 1)) = m
  have hmiss : m.get (CHN_USTAT.MISS u) = min 255 (s.get (CHN_USTAT.MISS u) + 1) :=
    hm ▸ (get_set_same _ _ _).trans hmod
  have hpart : m.chn.ringPart = s.chn.ringPart := hm ▸ rfl
  have hother {q : Fld} (hq : q.key ≠ (CHN_USTAT.MISS u).key) : m.get q = s.get q := hm ▸ get_set_ne s _ hq
  split
  · have hring : (((m.put (CHN_USTAT.STALE u) true).assertEvt (32 + u - 1)).celStale u).ring false =
        (m.put (CHN_USTAT.STALE u) true).ring false := by
      rw [State.celStale_ring, State.assertEvt_ring _ (by omega)]
    refine ⟨(part_of_ring hring).trans hpart, ?_, fun _ => ?_, fun q hq hne hne' => ?_⟩
    · exact (get_of_ring hring (ringKey_miss h32)).trans ((get_put_ne _ _ hkne).trans hmiss)
    · rw [get_of_ring hring (ringKey_stale h32), State.put, get_set_same]
      exact Nat.one_ne_zero
    · exact (get_of_ring hring hq).trans ((get_put_ne _ _ hne').trans (hother hne))
  · next hno =>
    refine ⟨hpart, hmiss, fun hlim hzero => hno ⟨hlim, ?_⟩, fun q _ hne _ => hother hne⟩
    simp [State.flag, hzero]

/-- Each unit of the list is counted once; the fields of the others and the rest of the view stand. -/
theorem foldl_missCounted (lim : Nat) {l : List Nat} : ∀ s : State, l.Nodup → (∀ u ∈ l, 1 ≤ u ∧ u ≤ 32) →
    let t := l.foldl (State.missCounted lim) s
    t.chn.ringPart = s.chn.ringPart ∧
      (∀ q : Fld, ringKey false q.key = true → (∀ u ∈ l, q.key ≠ (CHN_USTAT.MISS u).key ∧ q.key ≠ (CHN_USTAT.STALE u).key) →
        t.get q = s.get q) ∧
      ∀ u ∈ l, t.get (CHN_USTAT.MISS u) = min 255 (s.get (CHN_USTAT.MISS u) + 1) ∧
        (lim ≤ min 255 (s.get (CHN_USTAT.MISS u) + 1) → t.get (CHN_USTAT.STALE u) ≠ 0) := by
  induction l with
  | nil => exact fun s _ _ => ⟨rfl, fun _ _ _ => rfl, fun _ h => absurd h List.not_mem_nil⟩
  | cons a l ih =>
    intro s hnd hl
    obtain ⟨hal, hnd⟩ := List.nodup_cons.mp hnd
    obtain ⟨ha1, ha32⟩ := hl a List.mem_cons_self
    have hl' : ∀ u ∈ l, 1 ≤ u ∧ u ≤ 32 := fun u hu => hl u (List.mem_cons_of_mem _ hu)
    obtain ⟨hpart, hmiss, hstale, hget⟩ := missCounted_counts lim s ha1 ha32
    obtain ⟨ipart, iget, icount⟩ := ih (s.missCounted lim a) hnd hl'
    have hne {u v : Nat} (hu : 1 ≤ u) (hv : 1 ≤ v) (h : u ≠ v) :
        (CHN_USTAT.MISS u).key ≠ (CHN_USTAT.MISS v).key ∧ (CHN_USTAT.MISS u).key ≠ (CHN_USTAT.STALE v).key ∧
          (CHN_USTAT.STALE u).key ≠ (CHN_USTAT.MISS v).key ∧ (CHN_USTAT.STALE u).key ≠ (CHN_USTAT.STALE v).key := by
      simp only [Fld.key, CHN_USTAT.MISS, CHN_USTAT.STALE]
      omega
    refine ⟨ipart.trans hpart, fun q hq hqne => ?_, fun u hu => ?_⟩
    · obtain ⟨hqa, hqa'⟩ := hqne a List.mem_cons_self
      exact (iget q hq fun u hu => hqne u (List.mem_cons_of_mem _ hu)).trans (hget q hq hqa hqa')
    · rcases List.mem_cons.mp hu with rfl | hu
      · have hrest : ∀ v ∈ l, u ≠ v := fun v hv e => hal (e ▸ hv)
        have imiss := iget _ (ringKey_miss ha32) fun v hv =>
          ⟨(hne ha1 (hl' v hv).1 (hrest v hv)).1, (hne ha1 (hl' v hv).1 (hrest v hv)).2.1⟩
        have istale := iget _ (ringKey_stale ha32) fun v hv =>
          ⟨(hne ha1 (hl' v hv).1 (hrest v hv)).2.2.1, (hne ha1 (hl' v hv).1 (hrest v hv)).2.2.2⟩
        exact ⟨imiss.trans hmiss, fun h => istale ▸ hstale h⟩
      · have hua : u ≠ a := fun e => hal (e ▸ hu)
        obtain ⟨k1, k2, -, -⟩ := hne (hl' u hu).1 ha1 hua
        obtain ⟨jmiss, jstale⟩ := icount u hu
        rw [hget _ (ringKey_miss (hl' u hu).2) k1 k2] at jmiss jstale
        exact ⟨jmiss, jstale⟩

theorem postDeadline_of_not_due {s : State} (h : s.postDue = false) : exec .postDeadline s = .next s.quiet :=
  congrArg _ (if_neg (by rw [show s.quiet.postDue = false from h, Bool.and_false]; exact Bool.noConfusion))

theorem missingUnits_nodup (s : State) : s.missingUnits.Nodup := (List.nodup_range.filter _).filter _

theorem le_of_mem_missingUnits {s : State} {u : Nat} (h : u ∈ s.missingUnits) : u ≤ 32 := by
  have := List.mem_range.mp (List.mem_of_mem_filter (List.mem_of_mem_filter h))
  omega

theorem postDeadline_posts {s : State} (hdue : s.postDue = true) (hopen : s.chn.open_ = true)
    (hin : s.chn.inSync = false) (horigin : s.get CHN_STAT.ORIGIN ≠ 0) (hzero : 0 ∉ s.missingUnits) :
    ∃ t, exec .postDeadline s = .next t ∧ t.chn.open_ = false ∧
      t.get HRD_SWEEP.SWEEP = s.get CHN_SWEEP.SWEEP % 2 ^ 32 ∧
      ∀ u ∈ s.missingUnits, t.get (CHN_USTAT.MISS u) = min 255 (s.get (CHN_USTAT.MISS u) + 1) ∧
        (s.swGet CHN_SWCFG.STALE ≤ min 255 (s.get (CHN_USTAT.MISS u) + 1) → t.get (CHN_USTAT.STALE u) ≠ 0) := by
  have hexec : exec .postDeadline s = .next (s.quiet.countMiss.postSweep true) := by
    refine congrArg Host.Outcome.next (if_pos ?_)
    rw [show s.quiet.postDue = true from hdue, show s.quiet.chn.open_ = true from hopen,
      show s.quiet.chn.inSync = false from hin]
    rfl
  have hunits : ∀ u ∈ s.quiet.missingUnits, 1 ≤ u ∧ u ≤ 32 := fun u hu =>
    ⟨Nat.one_le_iff_ne_zero.mpr fun e => hzero (e ▸ hu), le_of_mem_missingUnits hu⟩
  obtain ⟨hpart, hget, hcount⟩ := foldl_missCounted (s.quiet.swGet CHN_SWCFG.STALE) s.quiet
    (missingUnits_nodup s.quiet) hunits
  rw [← countMiss_eq] at hpart hget hcount
  have hclosed {f : Fld} (hf : ringKey false f.key = true) (h : f.key < 0x60050100 * 32) :
      s.quiet.countMiss.get f = s.get f := hget f hf fun u _ => ⟨(ustat_key_ne h u).2.1, (ustat_key_ne h u).2.2.1⟩
  have hflag : s.quiet.countMiss.flag CHN_STAT.ORIGIN = true := by
    unfold State.flag
    rw [hclosed (by decide) (by decide)]
    exact decide_eq_true horigin
  refine ⟨_, hexec, congrArg (·.open_) (postSweep_part true hflag), ?_, fun u hu => ?_⟩
  · rw [get_sweep_postSweep true hflag, hclosed (by decide) (by decide)]
  · obtain ⟨hu1, hu32⟩ := hunits u hu
    obtain ⟨hmiss, hstale⟩ := hcount u hu
    obtain ⟨-, hne, hne', -⟩ := ustat_key_ne (k := HRD_SWEEP.SWEEP.key) (by decide) u
    rw [get_postSweep true (ringKey_miss hu32) hne.symm, get_postSweep true (ringKey_stale hu32) hne'.symm]
    exact ⟨hmiss, hstale⟩

end Sys2Proof.Machine
end


section
/-! PROOF. A good READ_BLOCK response (R174, R191, R198). -/

namespace Sys2Proof.Machine
open Sys2Proof Sys2Proof.Reg

/-! ### A port that is alive -/

theorem healAt_of_whole {s : State} {k : Nat} (h : k ∉ s.chn.broken) : s.healAt k = s :=
  if_pos (by simpa using h)

/-- Where the links are whole, a good frame sets the lock of its port, and no more. -/
theorem portAlive_of_whole {s : State} (h : s.chn.broken = []) (port : Nat) :
    s.portAlive port = s.put (lockField port) true :=
  healAt_of_whole (s := s.put (lockField port) true) (h ▸ List.not_mem_nil)

theorem ringKey_lockField (port : Nat) : ringKey true (lockField port).key = false := by
  unfold lockField
  split <;> decide

/-! ### The block -/

theorem mem_listPut (l : List Nat) (u : Nat) : u ∈ listPut l u true := by simp [listPut]

/-- A block in an open sweep enters its unit: delivered, MISS 0, not stale. -/
theorem takeBlock_takes {s : State} {u : Nat} (h32 : u ≤ 32) (hopen : s.chn.open_ = true) (f : UnitFrame) :
    u ∈ (s.takeBlock u f).chn.got ∧ (s.takeBlock u f).get (CHN_USTAT.USTAT u) = f.ustat % 256 ∧
      (s.takeBlock u f).get (CHN_USTAT.MISS u) = 0 ∧ (s.takeBlock u f).get (CHN_USTAT.STALE u) = 0 := by
  have hstatus := key_status u
  have hmiss := key_miss u
  have hstale := key_stale u
  generalize hv : ((s.set (CHN_USTAT.USTAT u) f.ustat).set (CHN_USTAT.MISS u) 0).put (CHN_USTAT.STALE u) false = v
  have vstatus : v.get (CHN_USTAT.USTAT u) = f.ustat % 256 :=
    hv ▸ (get_put_ne _ _ (by omega)).trans ((get_set_ne _ _ (by omega)).trans (get_set_same _ _ _))
  have vmiss : v.get (CHN_USTAT.MISS u) = 0 := hv ▸ (get_put_ne _ _ (by omega)).trans (get_set_same _ _ _)
  have vstale : v.get (CHN_USTAT.STALE u) = 0 := hv ▸ get_set_same _ _ _
  have vopen : v.chn.open_ = true := hv ▸ hopen
  generalize hw : (v.staleAny.compareFrame (v.staleAny.cmpVals u f.stack (s.cellsNow u f))
    ((s.cellsNow u f).map fun x => (x.cell, x.t))).dropTaken = w
  have hring : w.ring false = v.ring false := by simp [← hw]
  have wopen : w.chn.open_ = true := (congrArg (·.open_) (part_of_ring hring)).trans vopen
  generalize hx : (w.mapChn fun x => { x with got := listPut x.got u true }) = x
  have heq : s.takeBlock u f = (x.celFrame u f).tryPost := by
    unfold State.takeBlock
    dsimp only
    rw [hv, hw, if_pos wopen, hx]
  have xgot : u ∈ x.chn.got := hx ▸ mem_listPut w.chn.got u
  have hframe := State.celFrame_ring x u f
  obtain ⟨o, hpost⟩ := tryPost_part (x.celFrame u f)
  have hgot : (x.celFrame u f).tryPost.chn.got = x.chn.got :=
    (congrArg (·.got) hpost).trans (congrArg (·.got) (part_of_ring hframe))
  obtain ⟨-, nmiss, nstale, nstatus⟩ := ustat_key_ne (k := HRD_SWEEP.SWEEP.key) (by decide) u
  have hget {q : Fld} (hq : ringKey false q.key = true) (hne : q.key ≠ HRD_SWEEP.SWEEP.key) :
      (s.takeBlock u f).get q = v.get q := by
    rw [heq, get_tryPost _ hq hne, get_of_ring hframe hq, ← hx, get_mapChn, get_of_ring hring hq]
  exact ⟨by rw [heq, hgot]; exact xgot, (hget (ringKey_status h32) nstatus.symm).trans vstatus,
    (hget (ringKey_miss h32) nmiss.symm).trans vmiss, (hget (ringKey_stale h32) nstale.symm).trans vstale⟩

theorem find?_eq_some_of_unique {α : Type} {p : α → Bool} {l : List α} {a : α} (ha : a ∈ l) (hp : p a = true)
    (h : ∀ b ∈ l, p b = true → b = a) : l.find? p = some a := by
  cases hf : l.find? p with
  | none => exact absurd hp (List.find?_eq_none.mp hf a ha)
  | some b => rw [h b (List.mem_of_find?_eq_some hf) (List.find?_some hf)]

/-- The read `r` has ended, and its sample is noted for the bundle. -/
def State.readTaken (s : State) (high : Bool) (r : ReadSt) (d : UnitFrame) : State :=
  let s := (s.mapChn fun x => { x with reads := x.reads.filter fun q => q ≠ r }).tagStat
  s.note fun x => { x with frames := x.frames ++ [⟨r.unit, high, s.get CHN_SWEEP.SWEEP % 256, d⟩] }

@[simp] theorem State.readTaken_ring (s : State) (high : Bool) (r : ReadSt) (d : UnitFrame) :
    (s.readTaken high r d).ring false = s.ring false := by
  simp [State.readTaken, ChnSt.ringPart_eq]

/-- A sample that comes for the read `r` enters its unit; what follows the read is sent. -/
theorem readBlockResponse_eq {high : Bool} {w : Wire} {r : ReadSt} {p : List Nat} {tag : Nat} {s : State}
    (hup : s.chainUp = true) (hgood : wireRx w = .good) (hw : w.f = ⟨tag, r.unit + 128, 4, p⟩)
    (hbroken : s.chn.broken = []) (hr : r ∈ s.chn.reads) (huniq : ∀ q ∈ s.chn.reads, q.unit = r.unit → q = r)
    (htag : tag = (if r.again = true then 32 else 0) + r.unit - 1)
    (hlen : p.length = 9 + 2 * (s.unitCells r.unit).length) :
    exec (.readBlockResponse high w.f w.tail) s =
      .next ((((s.quiet.put (lockField (if high then 2 else 1)) true).readTaken high r (unitFrameOf p)).takeBlock r.unit
        (unitFrameOf p)).afterRead r.unit) := by
  have hport := portAlive_of_whole (s := s.quiet) hbroken (if high then 2 else 1)
  have hunit : w.f.addr - 0x80 = r.unit := by rw [hw]; exact Nat.add_sub_cancel _ _
  have hfind : (s.quiet.put (lockField (if high then 2 else 1)) true).chn.reads.find? (fun q => decide (q.unit = r.unit ∧
      w.f.addr = r.unit + 0x80 ∧ w.f.cmd % 128 = 4 ∧ w.f.tag = (if q.again then 0x20 else 0) + r.unit - 1)) = some r :=
    find?_eq_some_of_unique hr (by simp [hw, htag]) fun q hq hp => huniq q hq (of_decide_eq_true hp).1
  refine congrArg Host.Outcome.next ((engineRx_of_chainUp hup _ _ _).trans ((if_neg ?good).trans ?body))
  case good =>
    rw [show wireRx (Wire.of w.f w.tail) = .good from hgood]
    exact fun h => h rfl
  case body =>
    dsimp only
    rw [hport, hunit, hfind]
    dsimp only
    rw [if_neg (by simp [hw]), if_neg (by rw [hw]; exact fun h => h hlen),
      show unitFrameOf w.f.payload = unitFrameOf p by rw [hw]]
    rfl

theorem readBlockResponse_delivers {high : Bool} {w : Wire} {r : ReadSt} {p : List Nat} {tag : Nat} {s : State}
    (hup : s.chainUp = true) (hgood : wireRx w = .good) (hw : w.f = ⟨tag, r.unit + 128, 4, p⟩)
    (hbroken : s.chn.broken = []) (hr : r ∈ s.chn.reads) (huniq : ∀ q ∈ s.chn.reads, q.unit = r.unit → q = r)
    (h32 : r.unit ≤ 32) (htag : tag = (if r.again = true then 32 else 0) + r.unit - 1) (hopen : s.chn.open_ = true)
    (hlen : p.length = 9 + 2 * (s.unitCells r.unit).length) :
    ∃ t, exec (.readBlockResponse high w.f w.tail) s = .next t ∧ r.unit ∈ t.chn.got ∧
      t.get (CHN_USTAT.USTAT r.unit) = p.headD 0 % 256 ∧ t.get (CHN_USTAT.MISS r.unit) = 0 ∧
      t.get (CHN_USTAT.STALE r.unit) = 0 := by
  have hexec := readBlockResponse_eq (high := high) hup hgood hw hbroken hr huniq htag hlen
  generalize ht : (s.quiet.put (lockField (if high then 2 else 1)) true).readTaken high r (unitFrameOf p) = t at hexec
  have hring : t.ring false = s.ring false := by simp [← ht, ringKey_lockField]
  obtain ⟨hgot, hstatus, hmiss, hstale⟩ :=
    takeBlock_takes h32 ((congrArg (·.open_) (part_of_ring hring)).trans hopen) (unitFrameOf p)
  have hafter := State.afterRead_ring (t.takeBlock r.unit (unitFrameOf p)) r.unit
  refine ⟨_, hexec, ?_, (get_of_ring hafter (ringKey_status h32)).trans hstatus,
    (get_of_ring hafter (ringKey_miss h32)).trans hmiss, (get_of_ring hafter (ringKey_stale h32)).trans hstale⟩
  have hkept : ((t.takeBlock r.unit (unitFrameOf p)).afterRead r.unit).chn.got =
      (t.takeBlock r.unit (unitFrameOf p)).chn.got := congrArg (·.got) (part_of_ring hafter)
  exact hkept ▸ hgot

end Sys2Proof.Machine
end


section
/-! SUPPORT. What the chain engine's steps keep of the event controller: an assertion stands (R35, R40). -/

namespace Sys2Proof.Machine
open Sys2Proof Sys2Proof.Reg

/-- Keys of the chain engine's registers. -/
abbrev chainKey (k : Nat) : Prop := 0x60050000 * 32 ≤ k ∧ k < 0x60060000 * 32

/-- No field at all: what has asserted is kept, and nothing is said of registers. -/
abbrev noKey (_ : Nat) : Prop := False

theorem not_chainKey_of_cfgKey {n : Nat} (hn : n < 256) (k : Nat) (h : cfgKey n k) : ¬ chainKey k := by
  rcases h with rfl | rfl | rfl <;> simp only [chainKey, Fld.key, EVT_CFG.EN, EVT_CFG.ROUTE, TDM_CTRL.EN] <;> omega

theorem chainKey_route {u : Nat} (h : u ≤ 32) : chainKey (CHN_USTAT.ROUTE u).key := by
  simp only [chainKey, Fld.key, CHN_USTAT.ROUTE]
  omega

/-! ### Steps that write the chain engine's registers alone -/

section
variable {P : Nat → Prop} (s : State)

theorem keeps_mapChn (g : ChnSt → ChnSt) : s.keeps P (s.mapChn g) := (State.keeps.refl P s).of_eq rfl rfl rfl

variable (hP : ∀ k, P k → ¬ chainKey k)
include hP

theorem State.keeps.setChain {t : State} (h : s.keeps P t) {f : Fld} (v : Nat) (hf : chainKey f.key) :
    s.keeps P (t.set f v) :=
  h.set v (fun hk => hP _ hk hf) (by unfold evtPendKey; omega)

theorem keeps_tagStat : s.keeps P s.tagStat :=
  .setChain _ hP (.setChain _ hP (.refl P s) _ (by decide)) _ (by decide)

theorem keeps_sendRead (u port : Nat) (again : Bool) : s.keeps P (s.sendRead u port again) :=
  .trans ((keeps_mapChn s _).trans (keeps_mapChn _ _)) (keeps_tagStat _ hP)

theorem keeps_sendReq (port : Nat) (f : Frame) : s.keeps P (s.sendReq port f) :=
  .trans ((keeps_mapChn s _).trans (keeps_mapChn _ _)) (keeps_tagStat _ hP)

theorem keeps_reqEnd (addr cmd : Nat) : s.keeps P (s.reqEnd addr cmd) :=
  (keeps_mapChn s _).trans (keeps_tagStat _ hP)

theorem keeps_pingNext (port : Nat) : s.keeps P (s.pingNext port) := by
  refine .ite (fun _ => .refl P s) fun _ => ?_
  split
  · exact .refl P s
  · exact .trans ((keeps_mapChn s _).trans (keeps_mapChn _ _)) (keeps_tagStat _ hP)

theorem keeps_pingAll (l : List (Nat × Nat)) : s.keeps P (s.pingAll l) :=
  ((keeps_mapChn s _).trans (keeps_pingNext _ hP 1)).trans (keeps_pingNext _ hP 2)

theorem keeps_pingEnd (p : Nat × Nat → Bool) : s.keeps P (s.pingEnd p) :=
  (((keeps_mapChn s _).trans (keeps_tagStat _ hP)).trans (keeps_pingNext _ hP 1)).trans (keeps_pingNext _ hP 2)

theorem keeps_setRoutes : s.keeps P s.setRoutes :=
  .foldl _ _ (fun t u hu => by
    have hu : u ≤ 32 := Nat.le_of_lt_succ (List.mem_range.mp hu)
    exact .ite (fun _ => .refl P t) fun _ => .ite (fun _ => .setChain _ hP (.refl P t) _ (chainKey_route hu)) fun _ =>
      .setChain _ hP (.refl P t) _ (chainKey_route hu)) s

theorem keeps_ringStat : s.keeps P s.ringStat := by
  have hends := State.keeps.setChain s hP (.setChain s hP (.refl P s) (f := CHN_STAT.BREAKLO) s.chn.loReach (by decide))
    (f := CHN_STAT.BREAKHI) (if s.chn.hiReach ≤ s.chn.units then s.chn.hiReach else 0) (by decide)
  exact .ite (fun _ => .ite (fun _ => .setChain s hP hends _ (by decide)) fun _ => .ite
    (fun _ => .setChain s hP hends _ (by decide)) fun _ => .setChain s hP hends _ (by decide)) fun _ => hends

end

/-! ### Steps that end requests and start others -/

section
variable (s : State)

theorem keeps_chxDrop {P : Nat → Prop} (hP : ∀ k, P k → ¬ chainKey k) (x : ChxSt) : s.keeps P (s.chxDrop x) :=
  .trans (.trans (.foldl _ _ (fun t _ _ => (State.keeps.refl P t).mapPad _) s) (keeps_mapChn _ _)) (keeps_tagStat _ hP)

theorem keeps_chxEnd (x : ChxSt) (res addr val : Nat) : s.keeps noKey (s.chxEnd x res addr val) :=
  (keeps_chxDrop s (fun _ h => h.elim) x).trans ((keeps_complete _ _ _ _ _ _).mono fun _ h => h.elim)

theorem keeps_chxEndAll (res : Nat) (p : ChxSt → Bool) : s.keeps noKey (s.chxEndAll res p) :=
  .foldl _ _ (fun t x _ => keeps_chxEnd t x res 0 0) s

theorem keeps_mapCel {P : Nat → Prop} (g : CelSt → CelSt) : s.keeps P (s.mapCel g) :=
  (State.keeps.refl P s).of_eq rfl rfl rfl

theorem keeps_owtEnd : s.keeps noKey s.owtEnd := by
  unfold State.owtEnd
  split
  · exact .refl noKey s
  · exact ((keeps_mapCel s _).put _ id (by decide)).trans (keeps_reqEnd _ (fun _ h => h.elim) _ _)

theorem keeps_owtTry : s.keeps noKey s.owtTry := by
  unfold State.owtTry
  split
  · exact .iteStep (.refl noKey s) (((keeps_mapCel s _).put _ id (by decide)).trans
      (keeps_sendReq _ (fun _ h => h.elim) _ _))
  · exact .refl noKey s

theorem keeps_owtReroute (was : Nat → Nat) : s.keeps noKey (s.owtReroute was) := by
  unfold State.owtReroute
  split
  · exact .refl noKey s
  · exact .ite (fun _ => .refl noKey s) fun _ => ((keeps_owtEnd s).trans (keeps_mapCel _ _)).trans (keeps_owtTry _)

theorem keeps_rereadAll (first : Nat → Nat) : s.keeps noKey (s.rereadAll first) := by
  refine .ite (fun _ => .refl noKey s) fun _ => .ite (fun _ => .refl noKey s) fun _ => ?_
  refine .when ((keeps_mapChn s _).trans (.foldl _ _ (fun t u _ => keeps_sendRead t (fun _ h => h.elim) u _ true) _)) _ ?_
  exact ((State.keeps.refl noKey _).put _ id (by decide)).raise (fun _ h => h.elim) (by decide)

/-- The links changed: what has asserted stands. -/
theorem keeps_rerouted (was : Nat → Nat) : s.keeps noKey (s.rerouted was) :=
  .trans (.trans (.trans ((keeps_mapChn s _).trans (keeps_tagStat _ fun _ h => h.elim)) (keeps_chxEndAll _ _ _))
    (keeps_owtReroute _ _)) (keeps_rereadAll _ _)

end

end Sys2Proof.Machine
end


section
/-! PROOF. Links that are lost and restored (R191-R194). -/

namespace Sys2Proof.Machine
open Sys2Proof Sys2Proof.Reg

/-! ### Routes -/

/-- The route that the reach of the ends gives a unit. -/
def State.routeOf (s : State) (u : Nat) : Nat :=
  if s.chn.units < u then 0 else if s.reaches 1 u then 1 else if s.reaches 2 u then 2 else 0

theorem routeOf_lt (s : State) (u : Nat) : s.routeOf u < 2 ^ 2 := by
  unfold State.routeOf
  split <;> [skip; split <;> [skip; split]] <;> decide

theorem routeOf_congr {s t : State} (h : t.chn = s.chn) : t.routeOf = s.routeOf := by
  funext u
  unfold State.routeOf State.reaches
  rw [h]

theorem key_route_ne {u v : Nat} (hu : 1 ≤ u) (hv : 1 ≤ v) (h : u ≠ v) :
    (CHN_USTAT.ROUTE u).key ≠ (CHN_USTAT.ROUTE v).key := by
  simp only [Fld.key, CHN_USTAT.ROUTE]
  omega

/-- The units of a list take their routes, as `State.setRoutes` does for all. -/
def State.routed (s : State) (l : List Nat) : State :=
  l.foldl (fun (t : State) u => if u = 0 then t else if t.chn.units < u then t.set (CHN_USTAT.ROUTE u) 0
    else t.set (CHN_USTAT.ROUTE u) (if t.reaches 1 u then 1 else if t.reaches 2 u then 2 else 0)) s

theorem routed_cons (s : State) (u : Nat) (l : List Nat) :
    s.routed (u :: l) = (if u = 0 then s else s.set (CHN_USTAT.ROUTE u) (s.routeOf u)).routed l := by
  unfold State.routed State.routeOf
  rw [List.foldl_cons]
  congr 1
  split
  · rfl
  · split <;> rfl

/-- Each unit of the list takes its route; the chain engine's record and the fields of no route stand. -/
theorem routed_takes {l : List Nat} : ∀ s : State, l.Nodup → (s.routed l).chn = s.chn ∧
    (∀ u ∈ l, 1 ≤ u → (s.routed l).get (CHN_USTAT.ROUTE u) = s.routeOf u) ∧
    ∀ q : Fld, (∀ u ∈ l, 1 ≤ u → q.key ≠ (CHN_USTAT.ROUTE u).key) → (s.routed l).get q = s.get q := by
  induction l with
  | nil => exact fun s _ => ⟨rfl, fun _ h => absurd h List.not_mem_nil, fun _ _ => rfl⟩
  | cons a l ih =>
    intro s hnd
    obtain ⟨hal, hnd⟩ := List.nodup_cons.mp hnd
    rw [routed_cons]
    by_cases ha : a = 0
    · rw [if_pos ha]
      obtain ⟨ichn, iroute, iget⟩ := ih s hnd
      refine ⟨ichn, fun u hu h1 => ?_, fun q hq => iget q fun u hu => hq u (List.mem_cons_of_mem _ hu)⟩
      rcases List.mem_cons.mp hu with rfl | hu
      · omega
      · exact iroute u hu h1
    · rw [if_neg ha]
      obtain ⟨ichn, iroute, iget⟩ := ih (s.set (CHN_USTAT.ROUTE a) (s.routeOf a)) hnd
      have ha1 : 1 ≤ a := Nat.one_le_iff_ne_zero.mpr ha
      refine ⟨ichn, fun u hu h1 => ?_, fun q hq => ?_⟩
      · rcases List.mem_cons.mp hu with rfl | hu
        · rw [iget _ fun v hv hv1 => key_route_ne h1 hv1 fun e => hal (e ▸ hv), get_set_same]
          exact Nat.mod_eq_of_lt (routeOf_lt s u)
        · exact (iroute u hu h1).trans (congrFun (routeOf_congr rfl) u)
      · exact (iget q fun u hu => hq u (List.mem_cons_of_mem _ hu)).trans
          (get_set_ne s _ (hq a List.mem_cons_self ha1))

theorem setRoutes_chn (s : State) : s.setRoutes.chn = s.chn := (routed_takes s List.nodup_range).1

theorem get_route_setRoutes (s : State) {u : Nat} (h1 : 1 ≤ u) (h32 : u ≤ 32) :
    s.setRoutes.get (CHN_USTAT.ROUTE u) = s.routeOf u :=
  (routed_takes s List.nodup_range).2.1 u (List.mem_range.mpr (by omega)) h1

theorem get_setRoutes (s : State) {q : Fld} (h : q.key < 0x60050100 * 32) : s.setRoutes.get q = s.get q :=
  (routed_takes s List.nodup_range).2.2 q fun u _ _ => (ustat_key_ne h u).1

/-! ### CHN_STAT after a change of the links -/

theorem ringStat_eq {s : State} (hring : s.get CHN_STAT.RING = 2 ∨ s.get CHN_STAT.RING = 3) (hlost : s.unitLost = false) :
    s.ringStat = ((s.set CHN_STAT.BREAKLO s.chn.loReach).set CHN_STAT.BREAKHI
      (if s.chn.hiReach ≤ s.chn.units then s.chn.hiReach else 0)).set CHN_STAT.RING
        (if s.chn.broken.isEmpty then Ring.intact else Ring.broken1) := by
  have hown : s.get CHN_STAT.RING = Ring.intact ∨ s.get CHN_STAT.RING = Ring.broken1 ∨ s.get CHN_STAT.RING = Ring.multi :=
    hring.imp_right .inl
  have hlost' : ((s.set CHN_STAT.BREAKLO s.chn.loReach).set CHN_STAT.BREAKHI
      (if s.chn.hiReach ≤ s.chn.units then s.chn.hiReach else 0)).unitLost = false := hlost
  unfold State.ringStat
  dsimp only
  rw [if_pos hown]
  by_cases hb : s.chn.broken.isEmpty = true
  · exact (if_pos hb).trans (congrArg (State.set _ _) (if_pos hb).symm)
  · exact (if_neg hb).trans ((if_neg (by rw [hlost']; exact Bool.noConfusion)).trans
      (congrArg (State.set _ _) (if_neg hb).symm))

theorem raise_chn (s : State) (n : Nat) : (s.raise n).chn = s.chn := by
  unfold State.raise State.softEvt State.latchEvt
  repeat' split
  all_goals rfl

theorem unitLost_congr {s t : State} (h : t.chn = s.chn) : t.unitLost = s.unitLost := by
  unfold State.unitLost State.reaches
  rw [h]

/-- `t` shows the links and the routes as `a` holds them, with the flag `f` set and source `m` asserted. -/
structure State.relinksTo (a t : State) (f : Fld) (m : Nat) : Prop where
  broken : t.chn.broken = a.chn.broken
  flag : t.get f = 1
  asserts : a.asserts t m
  ring : t.get CHN_STAT.RING = if a.chn.broken.isEmpty then 2 else 3
  lo : t.get CHN_STAT.BREAKLO = a.chn.loReach
  hi : t.get CHN_STAT.BREAKHI = if a.chn.hiReach ≤ a.chn.units then a.chn.hiReach else 0
  route : ∀ u, 1 ≤ u → u ≤ 32 → t.get (CHN_USTAT.ROUTE u) = a.routeOf u

/-- What keeps the view and the assertions still shows the links. -/
theorem State.relinksTo.kept {a t v : State} {f : Fld} {m : Nat} (h : a.relinksTo t f m) (hf : ringKey false f.key = true)
    (hm : m < 256) (hring : v.ring false = t.ring false) (hkeeps : t.keeps noKey v) : a.relinksTo v f m where
  broken := (congrArg (·.broken) (part_of_ring hring)).trans h.broken
  flag := (get_of_ring hring hf).trans h.flag
  asserts := asserts_of_keeps hm h.asserts hkeeps
  ring := (get_of_ring hring (by decide)).trans h.ring
  lo := (get_of_ring hring (by decide)).trans h.lo
  hi := (get_of_ring hring (by decide)).trans h.hi
  route u h1 h32 := (get_of_ring hring (ringKey_route h32)).trans (h.route u h1 h32)

/-- The links changed: the routes, CHN_STAT, a flag and its source (R192, R194). -/
def State.relinked (s : State) (f : Fld) (m : Nat) : State := ((s.setRoutes.ringStat).put f true).raise m

theorem ringStat_chn (s : State) : s.ringStat.chn = s.chn := by
  unfold State.ringStat
  dsimp only
  repeat' split
  all_goals rfl

theorem relinked_chn {s : State} (f : Fld) (m : Nat) : (s.relinked f m).chn = s.chn := by
  rw [State.relinked, raise_chn, State.put_chn, ringStat_chn, setRoutes_chn]

theorem relinked_shows {s : State} {f : Fld} {m : Nat} (hf : f = CHN_FLT.BREAK ∨ f = CHN_FLT.HEAL) (hm : m < 256)
    (hring : s.get CHN_STAT.RING = 2 ∨ s.get CHN_STAT.RING = 3) (hlost : s.unitLost = false)
    (hlo : s.chn.loReach ≤ 32) (hunits : s.chn.units ≤ 32) : s.relinksTo (s.relinked f m) f m := by
  have hchn := setRoutes_chn s
  have hring' : s.setRoutes.get CHN_STAT.RING = 2 ∨ s.setRoutes.get CHN_STAT.RING = 3 := by
    rwa [get_setRoutes s (by decide)]
  have hstat := ringStat_eq hring' ((unitLost_congr hchn).trans hlost)
  rw [hchn] at hstat
  generalize hu : s.setRoutes.ringStat.put f true = u
  have huring : (s.relinked f m).ring false = u.ring false := by
    unfold State.relinked
    rw [hu]
    exact State.raise_ring false u hm
  have hfne : f.key ≠ CHN_STAT.RING.key ∧ f.key ≠ CHN_STAT.BREAKLO.key ∧ f.key ≠ CHN_STAT.BREAKHI.key ∧
      ringKey false f.key = true ∧ f.width = 1 ∧ f.key < 0x60050100 * 32 ∧ chainKey f.key := by
    rcases hf with rfl | rfl <;> decide
  obtain ⟨hfring, hflo, hfhi, hfkey, hfwidth, hflt, hfchain⟩ := hfne
  have hroute {u : Nat} : ∀ k < 0x60050100 * 32, (CHN_USTAT.ROUTE u).key ≠ k := fun k hk => (ustat_key_ne hk u).1.symm
  refine ⟨congrArg (·.broken) (relinked_chn f m), ?_, ?_, ?_, ?_, ?_, fun v h1 h32 => ?_⟩
  · rw [get_of_ring huring hfkey, ← hu, State.put, get_set_same, hfwidth]
    rfl
  · unfold State.relinked
    have hP := not_chainKey_of_cfgKey hm
    have hk : s.keeps (cfgKey m) u :=
      hu ▸ .setChain _ hP ((keeps_setRoutes s hP).trans (keeps_ringStat _ hP)) _ hfchain
    rw [hu]
    exact asserts_of_kept_cfg hk (fun _ h => h) (asserts_raise u m)
  · rw [get_of_ring huring (by decide), ← hu, get_put_ne _ _ hfring.symm, hstat, get_set_same]
    split <;> rfl
  · rw [get_of_ring huring (by decide), ← hu, get_put_ne _ _ hflo.symm, hstat, get_set_ne _ _ (by decide),
      get_set_ne _ _ (by decide), get_set_same]
    exact Nat.mod_eq_of_lt (by simp only [CHN_STAT.BREAKLO]; omega)
  · rw [get_of_ring huring (by decide), ← hu, get_put_ne _ _ hfhi.symm, hstat, get_set_ne _ _ (by decide), get_set_same]
    refine Nat.mod_eq_of_lt ?_
    simp only [CHN_STAT.BREAKHI]
    split <;> omega
  · rw [get_of_ring huring (ringKey_route h32), ← hu, get_put_ne _ _ (hroute _ hflt), hstat,
      get_set_ne _ _ (hroute _ (by decide)), get_set_ne _ _ (hroute _ (by decide)), get_set_ne _ _ (hroute _ (by decide)),
      get_route_setRoutes s h1 h32]

/-! ### A link opens (R192) -/

/-- In `t` the link `k` of an intact ring of `n` units is open: BROKEN1, source 65, and the units beyond it are reached by
the other end. -/
def State.linkLost (s t : State) (k n : Nat) : Prop :=
  t.chn.broken = [k] ∧ t.get CHN_FLT.BREAK = 1 ∧ s.asserts t 65 ∧ t.get CHN_STAT.RING = 3 ∧
    t.get CHN_STAT.BREAKLO = k ∧ t.get CHN_STAT.BREAKHI = (if k < n then k + 1 else 0) ∧
    ∀ u, 1 ≤ u → u ≤ n → t.get (CHN_USTAT.ROUTE u) = if u ≤ k then 1 else 2

/-- In `t` the ring is whole again: INTACT, source 73, and every unit is reached by the low end. -/
def State.linkHealed (s t : State) (n : Nat) : Prop :=
  t.chn.broken = [] ∧ t.get CHN_FLT.HEAL = 1 ∧ s.asserts t 73 ∧ t.get CHN_STAT.RING = 2 ∧
    ∀ u, 1 ≤ u → u ≤ n → t.get (CHN_USTAT.ROUTE u) = 1

theorem State.linkLost.of_keeps {s v t : State} {k n : Nat} (hk : s.keeps (cfgKey 65) v) (h : v.linkLost t k n) :
    s.linkLost t k n := by
  obtain ⟨hbroken, hflag, hasserts, hrest⟩ := h
  exact ⟨hbroken, hflag, asserts_of_kept_cfg hk (fun _ h => h) hasserts, hrest⟩

theorem State.linkHealed.of_keeps {s v t : State} {n : Nat} (hk : s.keeps (cfgKey 73) v) (h : v.linkHealed t n) :
    s.linkHealed t n := by
  obtain ⟨hbroken, hflag, hasserts, hrest⟩ := h
  exact ⟨hbroken, hflag, asserts_of_kept_cfg hk (fun _ h => h) hasserts, hrest⟩

/-- An intact ring of `n` units. -/
structure State.ringWhole (s : State) (n : Nat) : Prop where
  units : s.chn.units = n
  broken : s.chn.broken = []
  lo : s.chn.loReach = n
  hi : s.chn.hiReach = 1
  shown : s.get CHN_STAT.RING = 2

/-- The link `k` of an intact ring opens. -/
theorem breakAt_breaks {s : State} {k n : Nat} (h : s.ringWhole n) (hk : k ≤ n) (h1 : 1 ≤ n) (h32 : n ≤ 32) :
    s.linkLost (s.breakAt k) k n := by
  obtain ⟨hn, hbroken, hlo, hhi, hring⟩ := h
  generalize ha : (s.mapChn fun x => { x with
    broken := listPut x.broken k true, loReach := min x.loReach k, hiReach := max x.hiReach (k + 1) }) = a
  have abroken : a.chn.broken = [k] := by
    rw [← ha]
    exact (congrArg (listPut · k true) hbroken).trans (by simp [listPut])
  have alo : a.chn.loReach = k := by
    rw [← ha]
    exact (congrArg (min · k) hlo).trans (Nat.min_eq_right hk)
  have ahi : a.chn.hiReach = k + 1 := by
    rw [← ha]
    exact (congrArg (max · (k + 1)) hhi).trans (by omega)
  have aunits : a.chn.units = n := ha ▸ hn
  have alost : a.unitLost = false := by
    unfold State.unitLost State.reaches
    rw [alo, ahi, aunits]
    simp
  have heq : s.breakAt k = (a.relinked CHN_FLT.BREAK 65).rerouted s.route := by
    have hlost : (a.relinked CHN_FLT.BREAK 65).unitLost = false := (unitLost_congr (relinked_chn _ _)).trans alost
    unfold State.breakAt
    rw [if_neg (by simp [hbroken, hn]; omega)]
    dsimp only
    rw [ha, show (a.setRoutes.ringStat.put CHN_FLT.BREAK true).raise 65 = a.relinked CHN_FLT.BREAK 65 from rfl, hlost,
      Bool.false_and, State.when, if_neg Bool.false_ne_true]
  have hshow := relinked_shows (s := a) (f := CHN_FLT.BREAK) (m := 65) (.inl rfl) (by decide)
    (.inl (ha ▸ hring)) alost (by omega) (by omega)
  rw [heq]
  obtain ⟨tbroken, tflag, tasserts, tring, tlo, thi, troute⟩ := hshow.kept
    (v := (a.relinked CHN_FLT.BREAK 65).rerouted s.route) (by decide) (by decide)
    (by simp [State.rerouted, ChnSt.ringPart_eq]) (keeps_rerouted _ _)
  refine ⟨tbroken.trans abroken, tflag, ?_, tring.trans (by rw [abroken]; rfl), tlo.trans alo, thi.trans ?_,
    fun u hu hun => (troute u hu (by omega)).trans ?_⟩
  · exact asserts_of_cfg_eq (s' := a) (fun q _ => ha ▸ rfl) tasserts
  · rw [ahi, aunits]
    rfl
  · unfold State.routeOf State.reaches
    rw [aunits, alo, ahi, if_neg (by omega)]
    by_cases huk : u ≤ k
    · simp [huk]
    · simp [huk]

/-! ### A link is restored (R194) -/

/-- The only open link `k` of a ring is restored. -/
theorem healAt_heals {s : State} {k n : Nat} (hn : s.chn.units = n) (h32 : n ≤ 32) (hbroken : s.chn.broken = [k])
    (hring : s.get CHN_STAT.RING = 3) :
    s.linkHealed (s.healAt k) n := by
  generalize ha : (s.mapChn fun x => { x with broken := listPut x.broken k false }).reachFromBroken = a
  have hput : listPut s.chn.broken k false = [] := by rw [hbroken]; simp [listPut]
  have abroken : a.chn.broken = [] := by
    rw [← ha]
    exact hput
  have alo : a.chn.loReach = n := by
    rw [← ha, ← hn]
    exact congrArg (List.foldl min s.chn.units) hput
  have ahi : a.chn.hiReach = 1 := by
    rw [← ha]
    exact congrArg (List.foldl (fun m k => max m (k + 1)) 1) hput
  have aunits : a.chn.units = n := ha ▸ hn
  have alost : a.unitLost = false := by
    unfold State.unitLost State.reaches
    rw [alo, ahi, aunits]
    simp
  have hshow := relinked_shows (s := a) (f := CHN_FLT.HEAL) (m := 73) (.inr rfl) (by decide)
    (.inr (ha ▸ hring)) alost (by omega) (by omega)
  obtain ⟨hkept, hkeeps⟩ : (s.healAt k).ring false = (a.relinked CHN_FLT.HEAL 73).ring false ∧
      (a.relinked CHN_FLT.HEAL 73).keeps noKey (s.healAt k) := by
    unfold State.healAt
    rw [if_neg (by simp [hbroken])]
    dsimp only
    rw [ha, show (a.setRoutes.ringStat.put CHN_FLT.HEAL true).raise 73 = a.relinked CHN_FLT.HEAL 73 from rfl]
    generalize a.relinked CHN_FLT.HEAL 73 = r
    constructor
    · rw [State.owtReroute_ring]
      split <;> simp [ChnSt.ringPart_eq]
    · exact .trans (.iteStep (keeps_mapChn r _) (keeps_pingAll _ (fun _ h => h.elim) _)) (keeps_owtReroute _ _)
  obtain ⟨tbroken, tflag, tasserts, tring, -, -, troute⟩ := hshow.kept (by decide) (by decide) hkept hkeeps
  refine ⟨tbroken.trans abroken, tflag, asserts_of_cfg_eq (s' := a) (fun q _ => ha ▸ rfl) tasserts,
    tring.trans (by rw [abroken]; rfl), fun u hu hun => (troute u hu (by omega)).trans ?_⟩
  unfold State.routeOf State.reaches
  rw [aunits, alo, if_neg (by omega)]
  simp [hun]

/-! ### LINKNOTE, loss of lock and silence (R192, R194) -/

/-- LINKNOTE of the link `k`: the unit on either side says which of its sides, and whether it is lost. -/
def linkNoted (k n : Nat) (restored : Bool) (u : Nat) (w : Wire) (tag : Nat) : Prop :=
  u ≤ n ∧ wireRx w = .good ∧ ((u = k ∧ 1 ≤ u ∧ w.f = ⟨tag, u + 128, 13, [if restored = true then 1 else 3]⟩) ∨
    (u = k + 1 ∧ w.f = ⟨tag, u + 128, 13, [if restored = true then 0 else 2]⟩))

theorem linknote_eq {s : State} {k n u tag : Nat} {w : Wire} {restored : Bool} (hup : s.chainUp = true)
    (hn : s.chn.units = n) (h : linkNoted k n restored u w tag) (high : Bool) :
    exec (.linknote high w) s = .next (if restored = true then (s.quiet.portAlive (if high then 2 else 1)).healAt k
      else (s.quiet.portAlive (if high then 2 else 1)).breakAt k) := by
  obtain ⟨hun, hgood, hside⟩ := h
  refine congrArg Host.Outcome.next ((engineRx_of_chainUp hup _ _ _).trans ((if_neg ?good).trans
    ((if_neg ?taken).trans ?side)))
  case good =>
    rw [hgood]
    exact fun h => h rfl
  case taken =>
    have hunits : s.quiet.chn.units = n := hn
    rcases hside with ⟨-, h1, hf⟩ | ⟨hu, hf⟩ <;> rw [hf, hunits] <;> simp <;> omega
  case side =>
    rcases hside with ⟨rfl, h1, hf⟩ | ⟨rfl, hf⟩ <;> rw [hf] <;> cases restored <;> simp +decide [bit]

/-- `t` has the reads in flight, the units and the reach of `s`. -/
def State.sameLinks (s t : State) : Prop := t.chn.reads = s.chn.reads ∧ t.chn.units = s.chn.units ∧
  t.chn.loReach = s.chn.loReach ∧ t.chn.hiReach = s.chn.hiReach

theorem sameLinks_pingNext (s : State) (port : Nat) : s.sameLinks (s.pingNext port) := by
  unfold State.pingNext
  repeat' split
  all_goals exact ⟨rfl, rfl, rfl, rfl⟩

theorem sameLinks_pingEnd (s : State) (p : Nat × Nat → Bool) : s.sameLinks (s.pingEnd p) := by
  obtain ⟨r1, u1, l1, h1⟩ := sameLinks_pingNext ((s.mapChn fun x =>
    { x with pingOn := x.pingOn.filter fun e => !(p e) }).tagStat) 1
  obtain ⟨r2, u2, l2, h2⟩ := sameLinks_pingNext (((s.mapChn fun x =>
    { x with pingOn := x.pingOn.filter fun e => !(p e) }).tagStat).pingNext 1) 2
  exact ⟨r2.trans r1, u2.trans u1, l2.trans l1, h2.trans h1⟩

@[simp] theorem State.pingEnd_ring (s : State) (p : Nat × Nat → Bool) : (s.pingEnd p).ring false = s.ring false := by
  simp [State.pingEnd, ChnSt.ringPart_eq]

section
variable {s : State} {k n : Nat} (hup : s.chainUp = true) (h1 : 1 ≤ n) (h32 : n ≤ 32)

theorem chainKey_lockField (port : Nat) : chainKey (lockField port).key := by
  unfold lockField
  split <;> decide

/-- The lock of a port leaves the ring as it is, and every assertion. -/
theorem ringWhole_putLock (h : s.ringWhole n) (port : Nat) (b : Bool) : (s.quiet.put (lockField port) b).ringWhole n :=
  ⟨h.units, h.broken, h.lo, h.hi, (get_of_ring (State.put_ring false s.quiet (ringKey_lockField port) b)
    (by decide)).trans h.shown⟩

theorem keeps_putLock {m : Nat} (hm : m < 256) (s : State) (port : Nat) (b : Bool) :
    s.keeps (cfgKey m) (s.quiet.put (lockField port) b) :=
  .setChain s (not_chainKey_of_cfgKey hm) (keeps_mapChn s _) _ (chainKey_lockField port)

include h1 h32

theorem breakAt_putLock_breaks (h : s.ringWhole n) (hk : k ≤ n) (port : Nat) (b : Bool) :
    s.linkLost ((s.quiet.put (lockField port) b).breakAt k) k n :=
  .of_keeps (keeps_putLock (by decide) s port b) (breakAt_breaks (ringWhole_putLock h port b) hk h1 h32)

include hup

theorem linknote_breaks {u tag : Nat} {w : Wire} (h : s.ringWhole n) (hk : k ≤ n) (hnote : linkNoted k n false u w tag)
    (high : Bool) : ∃ t, exec (.linknote high w) s = .next t ∧ s.linkLost t k n := by
  refine ⟨_, linknote_eq hup h.units hnote high, ?_⟩
  rw [portAlive_of_whole (s := s.quiet) h.broken]
  exact breakAt_putLock_breaks h1 h32 h hk _ true

theorem portLossOfLock_breaks (h : s.ringWhole n) (high : Bool) :
    ∃ t, exec (.portLossOfLock high) s = .next t ∧ s.linkLost t (if high then n else 0) n := by
  have horigin : (s.quiet.put (lockField (if high then 2 else 1)) false).flag CHN_STAT.ORIGIN = true := by
    unfold State.flag
    rw [get_of_ring (State.put_ring false s.quiet (ringKey_lockField _) false) (by decide)]
    exact origin_of_chainUp hup
  refine ⟨_, congrArg Host.Outcome.next (if_pos horigin), ?_⟩
  have hunits : (s.quiet.put (lockField (if high then 2 else 1)) false).chn.units = n := h.units
  rw [hunits]
  exact breakAt_putLock_breaks h1 h32 h (by split <;> omega) _ false

omit hup in
theorem portSilenceTimeout_breaks (h : s.ringWhole n) (hk : k < n) (hreads : s.chn.reads = [⟨k + 1, 1, false⟩])
    (hgot : s.chn.got = []) : ∃ t, exec (.portSilenceTimeout false) s = .next t ∧ s.linkLost t k n := by
  generalize hu : (if s.quiet.chn.enum.isSome = true then s.quiet else s.quiet.pingEnd fun e => decide (e.1 = 1)) = u
  have hP := not_chainKey_of_cfgKey (n := 65) (by decide)
  obtain ⟨hring, hlinks, hkeeps⟩ : u.ring false = s.ring false ∧ s.sameLinks u ∧ s.keeps (cfgKey 65) u := by
    rw [← hu]
    split
    · exact ⟨rfl, ⟨rfl, rfl, rfl, rfl⟩, keeps_mapChn s _⟩
    · exact ⟨State.pingEnd_ring _ _, sameLinks_pingEnd _ _, (keeps_mapChn s _).trans (keeps_pingEnd _ hP _)⟩
  obtain ⟨ureads, uunits, ulo, uhi⟩ := hlinks
  generalize hv : (u.mapChn fun x => { x with reads := x.reads.filter fun r => r.port ≠ 1 }).tagStat = v
  have hvring : v.ring false = s.ring false := by
    rw [← hv, ← hring]
    simp [ChnSt.ringPart_eq]
  have hvkeeps : s.keeps (cfgKey 65) v := hv ▸ (hkeeps.trans (keeps_mapChn u _)).trans (keeps_tagStat _ hP)
  have hvwhole : v.ringWhole n :=
    ⟨hv ▸ uunits.trans h.units, (congrArg (·.broken) (part_of_ring hvring)).trans h.broken, hv ▸ ulo.trans h.lo,
      hv ▸ uhi.trans h.hi, (get_of_ring hvring (by decide)).trans h.shown⟩
  have hexec : exec (.portSilenceTimeout false) s = .next (v.breakAt k) := by
    have hus : (u.chn.reads.filter fun r => decide (r.port = 1)).map (·.unit) = [k + 1] := by rw [ureads, hreads]; rfl
    have hnone : u.chn.got = [] := (congrArg (·.got) (part_of_ring hring)).trans hgot
    rw [exec_portSilenceTimeout]
    unfold execPortSilenceTimeout
    dsimp only
    simp only [Bool.false_eq_true, if_false]
    rw [hu, hus]
    refine congrArg Host.Outcome.next ((if_neg ?_).trans ?_)
    · rw [hnone]
      exact Bool.false_ne_true
    · rw [hv]
      rfl
  exact ⟨_, hexec, .of_keeps hvkeeps (breakAt_breaks hvwhole (Nat.le_of_lt hk) h1 h32)⟩

omit h1 in
theorem linknote_heals {u tag : Nat} {w : Wire} (hn : s.chn.units = n) (hbroken : s.chn.broken = [k])
    (hring : s.get CHN_STAT.RING = 3) (hnote : linkNoted k n true u w tag) (high : Bool) :
    ∃ t, exec (.linknote high w) s = .next t ∧ s.linkHealed t n := by
  refine ⟨_, linknote_eq hup hn hnote high, ?_⟩
  rw [if_pos rfl]
  generalize (if high = true then 2 else 1) = port
  have hkeeps := keeps_putLock (m := 73) (by decide) s port true
  have hbroken' : (s.quiet.put (lockField port) true).chn.broken = [k] := hbroken
  have hring' : (s.quiet.put (lockField port) true).get CHN_STAT.RING = 3 :=
    (get_of_ring (State.put_ring false s.quiet (ringKey_lockField port) true) (by decide)).trans hring
  have hheals := healAt_heals (s := s.quiet.put (lockField port) true) hn h32 hbroken' hring'
  unfold State.portAlive
  dsimp only
  generalize (if port = 1 then 0 else (s.quiet : State).chn.units) = own
  by_cases hown : own = k
  · rw [hown, healAt_of_whole (by rw [hheals.1]; exact List.not_mem_nil)]
    exact hheals.of_keeps hkeeps
  · rw [healAt_of_whole (k := own) (by rw [hbroken']; simpa using hown)]
    exact hheals.of_keeps hkeeps

end

end Sys2Proof.Machine
end


section
/-! PROOF. The fault symbol on the ring, and the end of a chx (R186, R189, R197). -/

namespace Sys2Proof.Machine
open Sys2Proof Sys2Proof.Reg

/-! ### The cause that the curb logic records (R289, R308) -/

theorem latest_recordCause (s : State) {code : Nat} (h : code < 256) (gc first : Bool) :
    (s.recordCause code gc first).get CRB_CAUSE.WORD / 256 % 256 = code := by
  unfold State.recordCause
  dsimp only
  generalize s.get CRB_CAUSE.WORD = w
  have hgc : b2n gc < 2 := by cases gc <;> decide
  have hold : bits w 24 1 < 2 := Nat.mod_lt _ (by decide)
  have hbits : bits w 0 8 < 256 := Nat.mod_lt _ (by decide)
  have hcount : satAdd 255 (bits w 16 8) 1 ≤ 255 := Nat.min_le_left _ _
  have hsrc : (if code = Cause.reqSrs then b2n gc else if first = true then 0 else bits w 24 1) < 2 := by
    split <;> [exact hgc; split <;> [decide; exact hold]]
  generalize (if code = Cause.reqSrs then b2n gc else if first = true then 0 else bits w 24 1) = src at hsrc ⊢
  have hwidth : CRB_CAUSE.WORD.width = 32 := rfl
  split
  · rw [get_set_same, hwidth, Nat.mod_eq_of_lt (b := 2 ^ 32) (by omega), show code + code * 256 + 65536 + src * 2 ^ 24 =
      code + 256 * (code + 256 + src * 65536) by omega, Nat.add_mul_div_left _ _ (by decide), Nat.div_eq_of_lt h]
    omega
  · rw [get_set_same, hwidth, Nat.mod_eq_of_lt (b := 2 ^ 32) (by omega)]
    omega

/-- Outside BOOT a cause is recorded as the latest. -/
theorem latest_curbCause {s : State} (hboot : s.curb ≠ Curb.boot) {code : Nat} (h : code < 256) (a : Stop) (gc : Bool) :
    (s.curbCause code a gc).get CRB_CAUSE.WORD / 256 % 256 = code := by
  have hlatest {t : State} (first : Bool) (hring : t.ring true = (s.recordCause code gc first).ring true) :
      t.get CRB_CAUSE.WORD / 256 % 256 = code := by
    rw [get_of_ring hring (by decide)]
    exact latest_recordCause s h gc first
  unfold State.curbCause
  dsimp only
  rw [if_neg hboot]
  split
  · refine hlatest true ?_
    split
    · simp only [State.enterHalt_ring, State.dropClaim_ring, State.standbyLocal_ring, State.beginStop_ring]
    · rw [State.dropClaim_ring]
      cases a <;> dsimp only <;> repeat' split
      all_goals simp only [State.enterHalt_ring, State.enterSrs_ring, State.enterSii_ring, State.withCrb_ring,
        State.beginStop_ring]
  · refine hlatest false ?_
    split
    · exact State.enterSii_ring true _
    · rfl

/-! ### FAULT_SYMBOL_RECEIVED (R186, R197) -/

/-- The onset of a fault symbol: CHN_FLT.FSYM, the count, source 64. -/
def State.fsymOnset (s : State) : State := ((s.put CHN_FLT.FSYM true).bump CHN_FSYMCNT.COUNT 1).raise 64

/-- The fault symbol as the chain engine notes it. -/
def State.fsymNoted (s : State) (onset : Bool) : State :=
  let s := (s.mapChn fun x => { x with fsymAt := some s.nowUs }).when onset State.fsymOnset
  s.when s.chn.inSync fun s => s.put CHN_FLT.SYNC_HIT true

theorem faultSymbol_eq {s : State} (hgait : s.gait ≠ Gait.stable) : ∃ onset : Bool,
    (s.chn.fsymAt = none → onset = true) ∧
      exec .faultSymbolReceived s = .next (((s.fsymNoted onset).curbCause Cause.fsym .sii false).wake 3) := by
  refine ⟨_, ?_, congrArg Host.Outcome.next (if_neg hgait)⟩
  intro h
  rw [h]

section
variable {P : Nat → Prop} (s : State) (onset : Bool)

theorem keeps_fsymOnset (hP : ∀ k, P k → ¬ chainKey k) (he : ∀ k, P k → ¬ evtKey k) : s.keeps P s.fsymOnset :=
  (State.keeps.setChain _ hP (.setChain _ hP (.refl P s) (f := CHN_FLT.FSYM) 1 (by decide)) (f := CHN_FSYMCNT.COUNT)
    _ (by decide)).raise he (by decide)

theorem keeps_fsymNoted (hP : ∀ k, P k → ¬ chainKey k) (he : ∀ k, P k → ¬ evtKey k) : s.keeps P (s.fsymNoted onset) :=
  State.keeps.when (g := fun s => s.put CHN_FLT.SYNC_HIT true)
    (.when (keeps_mapChn s _) onset (keeps_fsymOnset _ hP he)) _
    (.setChain _ hP (.refl P _) (f := CHN_FLT.SYNC_HIT) 1 (by decide))

theorem fsymOnset_chn : s.fsymOnset.chn = s.chn := raise_chn _ 64

theorem noted_chn : ((s.mapChn fun x => { x with fsymAt := some s.nowUs }).when onset State.fsymOnset).chn =
    { s.chn with fsymAt := some s.nowUs } := by
  cases onset
  · rfl
  · exact fsymOnset_chn _

theorem fsymNoted_chn : (s.fsymNoted onset).chn = { s.chn with fsymAt := some s.nowUs } := by
  unfold State.fsymNoted
  dsimp only
  rw [← noted_chn s onset]
  generalize (s.mapChn fun x => { x with fsymAt := some s.nowUs }).when onset State.fsymOnset = u
  unfold State.when
  split <;> rfl

theorem get_syncHit_fsymNoted (h : s.chn.inSync = true) : (s.fsymNoted onset).get CHN_FLT.SYNC_HIT = 1 := by
  have hin : ((s.mapChn fun x => { x with fsymAt := some s.nowUs }).when onset State.fsymOnset).chn.inSync = true :=
    (congrArg (·.inSync) (noted_chn s onset)).trans h
  unfold State.fsymNoted State.when at *
  dsimp only
  rw [if_pos hin]
  exact get_set_same _ _ _

theorem get_fsym_onset : s.fsymOnset.get CHN_FLT.FSYM = 1 := by
  have hring := State.raise_ring false ((s.put CHN_FLT.FSYM true).bump CHN_FSYMCNT.COUNT 1) (n := 64) (by decide)
  exact (get_of_ring hring (by decide)).trans ((get_set_ne _ _ (by decide)).trans (get_set_same _ _ _))

theorem asserts_fsymOnset : s.asserts s.fsymOnset 64 :=
  asserts_of_kept_cfg (P := cfgKey 64) (.setChain _ (not_chainKey_of_cfgKey (by decide))
    (.setChain _ (not_chainKey_of_cfgKey (by decide)) (.refl _ s) (f := CHN_FLT.FSYM) 1 (by decide))
      (f := CHN_FSYMCNT.COUNT) _ (by decide)) (fun _ h => h) (asserts_raise _ 64)

/-- The onset's flag and source stand beside SYNC_HIT. -/
theorem fsymNoted_onset : (s.fsymNoted true).get CHN_FLT.FSYM = 1 ∧ s.asserts (s.fsymNoted true) 64 := by
  have honset : s.asserts (s.mapChn fun x => { x with fsymAt := some s.nowUs }).fsymOnset 64 :=
    asserts_of_cfg_eq (fun _ _ => rfl) (asserts_fsymOnset (s.mapChn fun x => { x with fsymAt := some s.nowUs }))
  have hflag := get_fsym_onset (s.mapChn fun x => { x with fsymAt := some s.nowUs })
  unfold State.fsymNoted State.when
  dsimp only
  rw [if_pos rfl]
  split
  · refine ⟨(get_put_ne _ _ (by decide)).trans hflag, asserts_of_keeps (P := noKey) (by decide) honset ?_⟩
    exact (State.keeps.refl noKey _).put _ id (by decide)
  · exact ⟨hflag, honset⟩

end

theorem faultSymbol_stops {s : State} (hgait : s.gait ≠ Gait.stable) :
    ∃ t, exec .faultSymbolReceived s = .next t ∧ t.chn.fsymAt = some s.nowUs ∧
      (s.chn.fsymAt = none → t.get CHN_FLT.FSYM = 1 ∧ s.asserts t 64) ∧
      (s.chn.inSync = true → t.get CHN_FLT.SYNC_HIT = 1) ∧
      (s.curb ≠ Curb.boot → t.get CRB_CAUSE.WORD / 256 % 256 = Cause.fsym) := by
  obtain ⟨onset, honset, hexec⟩ := faultSymbol_eq hgait
  generalize hnoted : s.fsymNoted onset = v at hexec
  have hwake := State.wake_ring true (v.curbCause Cause.fsym .sii false) 3
  have hring : ((v.curbCause Cause.fsym .sii false).wake 3).ring false = v.ring false := by simp
  have hchn : v.chn = { s.chn with fsymAt := some s.nowUs } := hnoted ▸ fsymNoted_chn s onset
  refine ⟨_, hexec, (congrArg (·.fsymAt) (part_of_ring hring)).trans (congrArg (·.fsymAt) hchn), fun hnone => ?_,
    fun hin => ?_, fun hboot => ?_⟩
  · obtain rfl := honset hnone
    obtain ⟨hflag, hasserts⟩ := fsymNoted_onset s
    rw [hnoted] at hflag hasserts
    have hkept : v.keeps noKey ((v.curbCause Cause.fsym .sii false).wake 3) :=
      ((keeps_curbCause v _ _ _).mono fun _ h => h.elim).trans ((keeps_wake _ 3).mono fun _ h => h.elim)
    exact ⟨(get_of_ring hring (by decide)).trans hflag, asserts_of_keeps (by decide) hasserts hkept⟩
  · rw [get_of_ring hring (by decide), ← hnoted]
    exact get_syncHit_fsymNoted s onset hin
  · have hcurb : v.curb ≠ Curb.boot := by
      rwa [← hnoted, State.curb, (keeps_fsymNoted (P := (· = CRB_STAT.STATE.key)) s onset (fun k hk => hk ▸ by decide)
        fun k hk => hk ▸ by decide).get_eq _ rfl]
    rw [get_of_ring hwake (by decide)]
    exact latest_curbCause hcurb (by decide) _ _

/-! ### The end of a chx (R189) -/

theorem chxDrop_chn (s : State) (x : ChxSt) :
    (s.chxDrop x).chn = { s.chn with chx := s.chn.chx.filter fun y => y.wire ≠ x.wire } := by
  have hfold : (x.due.foldl (fun (s : State) p =>
      s.mapPad fun y => { y with requests := y.requests.eraseP fun r => decide (r.post = s.chxPost x.core p) }) s).chn =
        s.chn := List.foldlRecOn x.due _ (motive := fun t : State => t.chn = s.chn) rfl fun _ ht _ _ => ht
  rw [← hfold]
  rfl

theorem setWord_chn (s : State) (a v : Nat) : (s.setWord a v).chn = s.chn := by rw [setWord_withMem]

theorem recordRefusal_chn (s : State) (m : Master) (k : Access) (kind a : Nat) :
    (s.recordRefusal m k kind a).chn = s.chn := rfl

theorem release_chn (s : State) (c : Core) (k w v : Nat) : (s.release c k w v).chn = s.chn := by
  have hdraw (u : State) (n : Nat) : (u.draw n).2.chn = u.chn := rfl
  unfold State.release
  dsimp only
  repeat' split
  all_goals simp only [recordRefusal_chn, setWord_chn, hdraw, State.setCore_chn, State.setCrstat_chn, State.setCr_chn,
    State.setTag_chn]

theorem complete_chn (s : State) (c : Core) (t info status val : Nat) : (s.complete c t info status val).chn = s.chn := by
  unfold State.complete
  split
  · split
    · exact State.setTag_chn _ _ _ _
    · exact release_chn _ _ _ _ _
  · rfl

/-- The chx that is in flight alone ends: none is left, and its tag has the completion. -/
theorem chxEnd_ends {s : State} {x : ChxSt} (hchx : s.chn.chx = [x]) (htandem : s.tandem = false)
    (htag : s.tag x.core x.tag = .issued 0) (res addr val : Nat) :
    (s.chxEnd x res addr val).chn.chx = [] ∧ (s.chxEnd x res addr val).tag x.core x.tag =
      .done (completionWord (res + addr * 16) (chxStatus res) 0 x.tag) val := by
  have hdrop : (s.chxDrop x).tandem = false := by
    unfold State.tandem State.flag at *
    rwa [(keeps_chxDrop (P := (· = TDM_CTRL.EN.key)) s (fun k hk => hk ▸ by decide) x).get_eq _ rfl]
  have htag' : (s.chxDrop x).tag x.core x.tag = .issued 0 :=
    (tag_of_tags (congrArg (·.tags) (State.core_of_rest (State.chxDrop_rest s x) _)) _).trans htag
  constructor
  · rw [State.chxEnd, complete_chn, chxDrop_chn, hchx]
    simp
  · rw [State.chxEnd, tag_complete htag', if_neg (by simp [hdrop])]

/-- The instruction ends the chx `x`, with this completion. -/
def State.chxEndedBy (s : State) (x : ChxSt) (i : Instr) (info status val : Nat) : Prop :=
  ∃ t, exec i s = .next t ∧ t.chn.chx = [] ∧ t.tag x.core x.tag = .done (completionWord info status 0 x.tag) val

section
variable {s : State} {x : ChxSt} (hchx : s.chn.chx = [x]) (htandem : s.tandem = false)
  (htag : s.tag x.core x.tag = .issued 0)
include hchx htandem htag

theorem chxTimeout_ends (hwire : x.wire < 256) : s.chxEndedBy x (.chxTimeout (BitVec.ofNat 8 x.wire))
    (if x.bad = true then 3 else 2) (if x.bad = true then 1 else 5) 0 := by
  have hfind : s.chn.chx.find? (fun y => decide (y.wire = (BitVec.ofNat 8 x.wire).toNat)) = some x := by
    rw [hchx, BitVec.toNat_ofNat, Nat.mod_eq_of_lt hwire]
    exact List.find?_cons_of_pos (decide_eq_true rfl)
  have hexec : exec (.chxTimeout (BitVec.ofNat 8 x.wire)) s = .next (s.chxEnd x (if x.bad then 3 else 2) 0 0) := by
    rw [exec_chxTimeout]
    unfold execChxTimeout
    rw [hfind]
  obtain ⟨hnone, hdone⟩ := chxEnd_ends hchx htandem htag (if x.bad then 3 else 2) 0 0
  refine ⟨_, hexec, hnone, hdone.trans ?_⟩
  cases x.bad <;> rfl

/-- The state in which the response of a chx without RXADDR ends it. -/
def State.chxAnswered (s : State) (port : Nat) : State :=
  (s.quiet.put (lockField port) true).note fun b => { b with mem := b.mem ++ [] }

omit hchx htandem htag in
theorem chxAnswered_keeps (s : State) (port : Nat) : (s.chxAnswered port).chn.chx = s.chn.chx ∧
    (s.chxAnswered port).tandem = s.tandem ∧ (s.chxAnswered port).rest = s.rest := by
  have hregs : (s.chxAnswered port).regs = (s.quiet.put (lockField port) true).regs ∧
      (s.chxAnswered port).chn = (s.quiet.put (lockField port) true).chn := by
    unfold State.chxAnswered State.note State.when
    split <;> exact ⟨rfl, rfl⟩
  have hlock : TDM_CTRL.EN.key ≠ (lockField port).key := by
    unfold lockField
    split <;> decide
  refine ⟨congrArg (·.chx) hregs.2, ?_, by simp [State.chxAnswered]⟩
  exact (tandem_of_regs hregs.1).trans (flag_put_ne s.quiet true hlock)

omit htandem htag in
theorem chxResponse_eq (hup : s.chainUp = true) (hbroken : s.chn.broken = []) (hrx : x.rxaddr = 0) {high : Bool}
    {w : Wire} {cmd : Nat} {p : List Nat} (hgood : wireRx w = .good) (hcmd : cmd % 128 = x.cmd)
    (hw : w.f = ⟨x.wire, x.addr + 128, cmd, p⟩) : exec (.chxResponse high w.f w.tail) s =
      .next ((s.chxAnswered (if high then 2 else 1)).chxEnd x (if 0x80 ≤ cmd then 1 else 0) x.addr
        (p.length + cmd * 256 + (if high then 2 else 1) * 65536)) := by
  have hport := portAlive_of_whole (s := s.quiet) hbroken (if high then 2 else 1)
  have hfind : (s.quiet.put (lockField (if high then 2 else 1)) true).chn.chx.find? (fun y => decide (y.wire = w.f.tag ∧
      w.f.addr = y.addr + 0x80 ∧ w.f.cmd % 128 = y.cmd)) = some x := by
    rw [show (s.quiet.put (lockField (if high then 2 else 1)) true).chn.chx = [x] from hchx, hw]
    exact List.find?_cons_of_pos (decide_eq_true ⟨rfl, rfl, hcmd⟩)
  refine congrArg Host.Outcome.next ((engineRx_of_chainUp hup _ _ _).trans ((if_neg ?good).trans ?body))
  case good =>
    rw [show wireRx (Wire.of w.f w.tail) = .good from hgood]
    exact fun h => h rfl
  case body =>
    dsimp only
    rw [hport, hfind]
    dsimp only
    simp only [hrx, if_true, hw]
    rfl

theorem chxResponse_ends (hup : s.chainUp = true) (hbroken : s.chn.broken = []) (hrx : x.rxaddr = 0) {high : Bool}
    {w : Wire} {cmd : Nat} {p : List Nat} (hgood : wireRx w = .good) (hcmd : cmd % 128 = x.cmd)
    (hw : w.f = ⟨x.wire, x.addr + 128, cmd, p⟩) :
    s.chxEndedBy x (.chxResponse high w.f w.tail) ((if 128 ≤ cmd then 1 else 0) + 16 * x.addr)
      (if 128 ≤ cmd then 1 else 0) (p.length + 256 * cmd + 65536 * (if high = true then 2 else 1)) := by
  obtain ⟨kchx, ktandem, krest⟩ := chxAnswered_keeps s (if high then 2 else 1)
  have ktag := (tag_of_tags (congrArg (·.tags) (State.core_of_rest krest x.core)) x.tag).trans htag
  obtain ⟨hnone, hdone⟩ := chxEnd_ends (kchx.trans hchx) (ktandem.trans htandem) ktag (if 0x80 ≤ cmd then 1 else 0) x.addr
    (p.length + cmd * 256 + (if high then 2 else 1) * 65536)
  refine ⟨_, chxResponse_eq hchx hup hbroken hrx hgood hcmd hw, hnone, hdone.trans ?_⟩
  rw [Nat.mul_comm cmd, Nat.mul_comm _ 65536, Nat.mul_comm x.addr]
  split <;> rfl

end

end Sys2Proof.Machine
end


section
/-! PROOF. O46: sweeps, breaks, the fault symbol and chx on the ring. -/

namespace Sys2Proof.Machine
open Sys2Proof Sys2Proof.Reg

/-- The links of a ring that is intact, or whose only open link is `k`, as notes, locks and silence change them. -/
theorem links_change {k n : Nat} {s : State} (hup : s.chainUp = true) (hn : s.chn.units = n) (hk : k ≤ n) (h1 : 1 ≤ n)
    (h32 : n ≤ 32) :
    let links (restored : Bool) (u : Nat) (i : Instr) : Prop := ∃ high w tag, u ≤ n ∧ wireRx w = .good ∧
      i = .linknote high w ∧ ((u = k ∧ 1 ≤ u ∧ w.f = ⟨tag, u + 128, 13, [if restored = true then 1 else 3]⟩) ∨
        (u = k + 1 ∧ w.f = ⟨tag, u + 128, 13, [if restored = true then 0 else 2]⟩))
    (s.chn.broken = [] → s.chn.loReach = n → s.chn.hiReach = 1 → s.get CHN_STAT.RING = 2 →
      let breaks (i : Instr) : Prop := ∃ t, exec i s = .next t ∧ s.linkLost t k n
      (∀ u i, links false u i → breaks i) ∧ (k = 0 → breaks (.portLossOfLock false)) ∧
      (k = n → breaks (.portLossOfLock true)) ∧
      (k < n → s.chn.reads = [⟨k + 1, 1, false⟩] → s.chn.got = [] → breaks (.portSilenceTimeout false))) ∧
    (s.chn.broken = [k] → s.get CHN_STAT.RING = 3 → ∀ u i, links true u i →
      ∃ t, exec i s = .next t ∧ s.linkHealed t n) := by
  intro links
  refine ⟨fun hbroken hlo hhi hring => ?_, fun hbroken hring u i hlink => ?_⟩
  · have hwhole : s.ringWhole n := ⟨hn, hbroken, hlo, hhi, hring⟩
    refine ⟨fun u i hlink => ?_, fun hk0 => ?_, fun hkn => ?_, fun hlt hreads hgot => ?_⟩
    · obtain ⟨high, w, tag, hun, hgood, rfl, hside⟩ := hlink
      exact linknote_breaks hup h1 h32 hwhole hk ⟨hun, hgood, hside⟩ high
    · exact hk0 ▸ portLossOfLock_breaks hup h1 h32 hwhole false
    · exact hkn ▸ portLossOfLock_breaks hup h1 h32 hwhole true
    · exact portSilenceTimeout_breaks h1 h32 hwhole hlt hreads hgot
  · obtain ⟨high, w, tag, hun, hgood, rfl, hside⟩ := hlink
    exact linknote_heals hup h32 hn hbroken hring ⟨hun, hgood, hside⟩ high

/-- Settles O46: SYNC, the reads, the header and the post by the view of the ring that other blocks leave; breaks and
heals by the links that change, and the routes that follow. -/
theorem sweepsReadTheRing : Obligations.SweepsReadTheRing := by
  unfold Obligations.SweepsReadTheRing
  refine ⟨fun s hen hup henum => syncSend_sends hen hup henum,
    fun s => ⟨syncInstant_of_not_inSync, syncInstant_reads⟩,
    fun q s hopen hin horigin hv => sweepHeader_taken hopen hin horigin hv,
    fun high w r p tag s hup hgood hw hbroken hr huniq _ h32 htag hopen hlen =>
      readBlockResponse_delivers hup hgood hw hbroken hr huniq h32 htag hopen hlen,
    fun w s hup hw => readBlockResponse_crc hup hw,
    fun high w s h => congrArg Host.Outcome.next (engineRx_of_repeats h high (Wire.of w.f w.tail) _),
    fun s => postDeadline_of_not_due,
    fun s hdue hopen hin horigin hzero => postDeadline_posts hdue hopen hin horigin hzero,
    fun k n s hup hn hk h1 h32 => links_change hup hn hk h1 h32,
    fun s hgait => faultSymbol_stops hgait,
    fun x s hchx htandem htag hbroken => ⟨chxTimeout_ends hchx htandem htag,
      fun hup hrx hcmd high w p hgood => ⟨fun hw => ?_, fun hw => ?_⟩⟩⟩
  · have h := chxResponse_ends hchx htandem htag hup hbroken hrx (high := high) hgood (Nat.mod_eq_of_lt hcmd) hw
    rw [if_neg (show ¬ 128 ≤ x.cmd by omega), Nat.zero_add] at h
    exact h
  · have h := chxResponse_ends hchx htandem htag hup hbroken hrx (high := high) hgood (by omega) hw
    rw [if_pos (show 128 ≤ x.cmd + 128 by omega)] at h
    exact h

end Sys2Proof.Machine
end
